-- ==== Sys2Proof/Word.lean ====
section
/-! DEFINITION. The word of the host port: 32 bits (00_scope 0.4, "A word is 32 bits"), and bytes. -/

namespace Sys2Proof

/-- A word is 32 bits (0.4). -/
abbrev Word := BitVec 32

/-- A byte. -/
abbrev Byte := BitVec 8

end Sys2Proof
end

