-- ==== Sys2Proof/Types/Core.lean ====
section
/-! DEFINITION. The names and records shared by the commands and the state: ports, modes, opcodes, packets, events, power, time (chapters 02, 03, 04, 17). A field's default is its reset value: 'spec' where a rule or table gives it, 'log entry 1' where log entry 1 (DESIGN CHOICE) does. -/

namespace Sys2Proof

/-- The two command ports (R61): the host port and the maintenance port on CAN5. -/
inductive Port where | host | maint
  deriving DecidableEq, Repr

/-- What the SECDED check will find in a queue word on its exit (2.4). The fault itself comes from outside, so it is an operand. -/
inductive Ecc where | ok | corrected | uncorrectable
  deriving DecidableEq, Repr

/-- Table 3-1: the six major modes. -/
inductive Mode where | dormant | kindling | commission | standby | control | safeHold
  deriving DecidableEq, Repr

/-- Table 3-7: the state of a switched power domain. -/
inductive DomState where | on | gated | retention | off
  deriving DecidableEq, Repr

/-- R86 and Table 17-2 (EV5): the kinds of wake trigger. -/
inductive WakeKind where | header | alarm | can | digitalInput | partnerLine
  deriving DecidableEq, Repr

/-- Table 3-6: the reset causes, in RST_CAUSE order. -/
inductive RstCause where | powerOn | rstN | watchdog | kiln | sysReset
  deriving DecidableEq, Repr

/-- The opcodes of kind S or L of Table 18-2, under their mnemonics. -/
inductive Op where
  | sysGetId
  | sysSetMode
  | sysSetWake
  | sysAbort
  | sysReset
  | timeGet
  | timeSetRtc
  | timeSetAlarm
  | timeGetAlarm
  | gnssConfig
  | gnssRtcmConfig
  | gnssHdgConfig
  | gnssStream
  | gnssRestart
  | fusRefConfig
  | fusRefEnable
  | fusRefCapture
  | fusVoteConfig
  | fusObserverConfig
  | fusRefStatus
  | fusSensorStream
  | fusStateStream
  | solvStructDefine
  | solvStructDelete
  | solvUpdate
  | solvStructQuery
  | solvSubmit
  | solvResultRead
  | solvPlacement
  | dpcSetFunction
  | dpcSetDatum
  | dpcSetRotationPoint
  | dpcControllerConfig
  | dpcMpcConfig
  | dpcMoveConfig
  | dpcSetTarget
  | dpcJoystick
  | dpcJoystickConfig
  | dpcTrackControl
  | dpcPowerConfig
  | dpcStatus
  | dpcStateStream
  | allocThrusterConfig
  | allocConfig
  | allocThrusterEnable
  | allocThrusterStatus
  | allocStatus
  | allocEnvelopeRead
  | allocConseqConfig
  | allocStateStream
  | loopConfig
  | loopThrusterBind
  | loopSetCoeff
  | loopClose
  | loopOpen
  | loopSetManual
  | loopSetSetpoint
  | loopGroup
  | loopStatus
  | follyStart
  | follyStop
  | profConfig
  | profMove
  | profHome
  | profStatus
  | busCanConfig
  | busCanFilter
  | busCanSend
  | busCanReceive
  | busCanSleep
  | busCanRecover
  | busCanRelease
  | busCanStatus
  | busUartConfig
  | busUartSend
  | busUartStatus
  | busStream
  | kilnConfig
  | kilnConfirm
  | kilnReadConfig
  | kilnStatus
  | kilnBrake
  | kilnAck
  | dpxConfig
  | dpxTransfer
  | dpxStatus
  | dpxHostDataWrite
  | dpxHostDataRead
  | calSet
  | calRead
  | cfgFirChannel
  | cfgFirQuery
  | cfgModule
  | cfgCommit
  | cfgLoad
  | cfgStatus
  | busMaintConfig
  | logConfig
  | logRate
  | logRead
  | logStatus
  | logWrite
  | evtRoute
  | evtQuery
  | bulkOpen
  | bulkWrite
  | bulkRead
  | bulkClose
  deriving DecidableEq, Repr

/-- A command-queue or reply-queue word with its SECDED mark (2.4). -/
structure QWord where
  w : Word
  ecc : Ecc
  /-- R43: on a header word, the packet was cut after this many payload words. -/
  cut : Option Nat := none
  deriving DecidableEq, Repr

/-- A command packet whose header passed the header checks (Table 2-7, R45) and that waits for its interpretation (R50). -/
structure Cmd where
  op : Op
  expert : Bool
  tag : Nat
  words : List Word
  /-- Indices of the payload words with an uncorrectable error, in order (R40). -/
  ecc : List Nat := []
  deriving DecidableEq, Repr

/-- A packet in the reply store (2.3). -/
structure Pkt where
  words : List Word
  /-- R49: it is the final reply of an outstanding command, whose tag frees when it enters the reply queue. -/
  frees : Bool := false
  deriving DecidableEq, Repr

/-- A command of Table 18-19 placed in the mirror HEADER by the owner (R333): the packet with the port of the original. -/
structure FwdCmd where
  port : Port
  cmd : Cmd
  deriving DecidableEq, Repr

/-- A command outstanding from header acceptance to its final reply (R49). -/
structure Outst where
  tag : Nat
  op : Op
  /-- Reply-store words reserved for it (R36). -/
  resv : Nat
  /-- Commit point reached (R53, Table 18-3). -/
  committed : Bool := false
  /-- Its final reply is in the reply store (R49: the tag is not free before it enters the reply queue). -/
  done : Bool := false
  /-- The unit it works on (channel, handle, ticket, target), where one is needed. -/
  unit : Nat := 0
  deriving DecidableEq, Repr

/-- Everything a command port holds (R61): queue, packet being written, reply store and queue, tags, sequence number. -/
structure PortState where
  /-- R33, R34, Table 2-13: the command queue, 1,024 words. Reset: empty (R38). -/
  cmdq : List QWord := []
  /-- R43, Table 2-12 CQ_HDR: payload words of the packet being written that are still expected. Reset: 0 (CQ_HDR reads 1). -/
  wrLeft : Nat := 0
  /-- R43: payload words of that packet taken so far. Reset: 0 (R38: the queue is empty). -/
  wrHave : Nat := 0
  /-- R43: MT of the last word taken. Reset: 0 (log entry 1). -/
  lastWord : Nat := 0
  /-- R33: the write whose ACK_N is withheld. Reset: none. -/
  held : Option QWord := none
  /-- R50: the packet taken by COMMAND_INTAKE and not yet interpreted. Reset: none (R38). -/
  accepted : Option Cmd := none
  /-- R49: the outstanding commands. Reset: none (R38). -/
  outstanding : List Outst := []
  /-- R36: packets in the reply store, oldest first, of 73,728 words. Reset: empty (log entry 1: R38 names the reply queue). -/
  store : List Pkt := []
  /-- Table 2-13: the reply queue, 1,024 words (for the maintenance port: the words on their way to the tool). Reset: empty (R38). -/
  rspq : List Word := []
  /-- Table 2-14 PKT_LEFT: words still to read in the packet at the head. Reset: 0 (spec). -/
  rspLeft : Nat := 0
  /-- R44: the unsolicited sequence number. Reset: 0 (R44). -/
  unsolSeq : Nat := 0
  /-- R408: packets discarded under R37 since the last UNSOL_LOST. Reset: 0 (log entry 1). -/
  lost : Nat := 0
  deriving DecidableEq, Repr

/-- Table 2-15: the four error counters of HP_ECC. -/
structure EccCounts where
  cqUe : Nat := 0
  rqUe : Nat := 0
  cqCe : Nat := 0
  rqCe : Nat := 0
  deriving DecidableEq, Repr

/-- The direct registers of the host port that are not derived from other state (Tables 2-11 to 2-17). -/
structure HpState where
  /-- Table 2-12 RST_SEEN, W1C. Reset: 1 (spec). -/
  rstSeen : Bool := true
  /-- Table 2-12 RST_CAUSE. Reset: per cause; 0 at a main power-on (spec). -/
  rstCause : RstCause := .powerOn
  /-- Table 2-12 WAKE_REJ, W1C. Reset: 0 (spec). -/
  wakeRej : Bool := false
  /-- Table 2-12 BUS_ERR, W1C (R35). Reset: 0 (spec). -/
  busErr : Bool := false
  /-- Table 2-12 RQ_UE, W1C (R42). Reset: 0 (spec). -/
  rqUe : Bool := false
  /-- Table 2-12 RQ_UNDER, W1C. Reset: 0 (spec). -/
  rqUnder : Bool := false
  /-- Table 2-12 CQ_FLUSH, W1C (R41). Reset: 0 (spec). -/
  cqFlush : Bool := false
  /-- Table 2-12 READY. Reset: 0 (spec). -/
  ready : Bool := false
  /-- Table 2-12 MAINT_EN (14.6). Reset: 0 (spec). -/
  maintEn : Bool := false
  /-- Table 2-15 HP_ECC. Reset: all 0 (spec). -/
  ecc : EccCounts := {}
  /-- Table 2-16 HP_WAKE.BUDGET_US. Reset: 10,000 (spec). -/
  wakeBudget : Nat := 10000
  /-- R65: the command queue was full and FREE has not risen to 512 since (EV1). Reset: false (log entry 1). -/
  wasFull : Bool := false
  /-- R34: data returned by the last completed read. Reset: 0 (log entry 1). -/
  dOut : Word := 0
  /-- R33, R34, R35: ACK_N was asserted for the last access. Reset: false (log entry 1; ACK_N inactive, R31). -/
  acked : Bool := false
  deriving DecidableEq, Repr

/-- One event source EVn (R64, R406, R410). -/
structure EvSrc where
  pend : Bool := false
  mask : Bool := false
  /-- Table 17-3 LINE: 0 none, 1 IRQ0_N, 2 IRQ1_N. -/
  line : Nat := 2
  record : Bool := true
  noticeHost : Bool := false
  noticeMaint : Bool := false
  severity : Nat := 1
  count : Nat := 0
  lastMt : Nat := 0
  lastDetail : Nat := 0
  deriving DecidableEq, Repr

/-- Table 17-3: the sources whose default LINE is 1. -/
def line1Sources : List Nat := [2, 4, 6, 48, 54, 56, 58, 62, 96, 98, 103, 105, 112, 113, 119, 121]

/-- Table 17-3: the route of a source after a reset (R405). -/
def EvSrc.initial (n : Nat) : EvSrc :=
  { line := if n ∈ line1Sources then 1 else 2
    severity := if n ∈ line1Sources then 2 else 1
    record := !(n == 0 || n == 1) }

/-- The event logic (17). -/
structure EvState where
  /-- R64, R404 to R410: the 128 sources. Reset: Table 17-3 routes, pending and mask 0 (R405). -/
  src : Vector EvSrc 128 := Vector.ofFn fun i => EvSrc.initial i.val
  /-- R403: notices of occurrences that arose while PD2 was not on, placed at its exit: source, detail, MT. Reset: none (log entry 1). -/
  heldNotices : List (Nat × Nat × Nat) := []
  deriving DecidableEq, Repr

/-- A mode change waiting for its frame boundary (R69, R71). -/
structure ModeReq where
  target : Mode
  /-- Table 16-2 MODE_CHANGE cause kind (0 command, 1 start role, 2 start fault, 3 self-diagnosis, 4 duplex, 5 reset) and detail. -/
  kind : Nat
  detail : Nat
  /-- The SYS_SET_MODE that asked for it. -/
  cmd : Option (Port × Nat) := none
  /-- R420: MT by which the wake latency and the entry work have ended. -/
  due : Nat := 0
  deriving DecidableEq, Repr

/-- A firmware image in NF0 (R74, R435). -/
structure FwImage where
  valid : Bool := false
  gen : Nat := 0
  crc : Word := 0
  /-- The header holds a readable generation (R435). -/
  hdrOk : Bool := false
  deriving DecidableEq, Repr

/-- A firmware image being programmed (R435). -/
structure FwProg where
  target : Fin 2
  gen : Nat
  crc : Word
  oldCrc : Word
  port : Port
  tag : Nat
  deriving DecidableEq, Repr

/-- Modes, resets, supplies, power domains, self-diagnosis (03, 13.4, 19.1). Domains in order PD2, PD3, PD4, PD5 to PD8, PD9, PD10, PD11, PD12, PD13. -/
structure SysState where
  /-- Table 3-1, HP_STAT.MODE. Reset: KINDLING (Table 2-12). -/
  mode : Mode := .kindling
  /-- HP_STAT.OWN and OWN_OUT (R69, R323). Reset: 0 (Table 2-12). -/
  own : Bool := false
  /-- GIVEUP_OUT (R323). Reset: low (log entry 1). -/
  giveupOut : Bool := false
  /-- R67: the release state. Reset: true (KINDLING is in it, Table 3-1). -/
  release : Bool := true
  /-- Table 19-1: VMAIN above 9.8 V. Reset: true (a reset presupposes it). -/
  vmain : Bool := true
  /-- R394: PFAIL_N low or VMAIN below 10.0 V: the power-fail flush has run. Reset: false. -/
  pfail : Bool := false
  /-- R81: RST_N is low. Reset: false. -/
  rstLow : Bool := false
  /-- R80, R81: a warm reset waits for the frame boundary at which step 4 begins. Reset: false. -/
  warmPending : Bool := false
  /-- R81: MT at which step 4 of the pending warm reset begins, once RST_N is high. Reset: 0. -/
  step4At : Nat := 0
  /-- R80: the running start is a main power-on whose step 7 has not run. Reset: true (the state is that of a power-on at step 1). -/
  coldBeforeStep7 : Bool := true
  /-- R81: the running start is a warm reset whose step 7 has not run. Reset: false. -/
  warmBeforeStep7 : Bool := false
  /-- R81, Table 16-2 RESET byte 1: further causes within the same reset, bit n for cause n. Reset: 0. -/
  furtherCauses : Nat := 0
  /-- R335: a watchdog reset is delayed until OWN_IN rises or 20 ms pass; the MT at which the delay ends. Reset: none. -/
  wdDelay : Option Nat := none
  /-- Table 16-2 RESET: MT at the start of the reset. Reset: 0 (log entry 1). -/
  resetMt : Nat := 0
  /-- R71, R69: the mode change in progress. Reset: none. -/
  modeReq : Option ModeReq := none
  /-- R77: step number of the start fault. Reset: none. -/
  startFault : Option Nat := none
  /-- R78, Table 3-3 detail 3: the Kiln failed step 8. Reset: false. -/
  kilnStartFail : Bool := false
  /-- R455: end of the listening window. Reset: none. -/
  listenEnd : Option Nat := none
  /-- R455: MT of the first valid heartbeat with OWN set within the window. Reset: none. -/
  listenOwn : Option Nat := none
  /-- R334: the first outstanding self-diagnosis code; 0 none. Reset: 0. -/
  diagFirst : Nat := 0
  /-- R334: every self-diagnosis code that has occurred since the reset. Reset: none. -/
  diagSeen : List Nat := []
  /-- R19: number of the frame whose boundary was processed last. Reset: 0 (MT starts at 0). -/
  frame : Nat := 0
  /-- R22: consecutive missed frames. Reset: 0. -/
  missedFrames : Nat := 0
  /-- R22: deadlines missed in this frame (bit d for D(d+1)). Reset: 0. -/
  missedNow : Nat := 0
  /-- R18: MT runs from the RC oscillator. Reset: false (R18: returns to the TCXO at a main power-on). -/
  tcxoFailed : Bool := false
  /-- R84, R85: domain states. Reset: off (log entry 1; step 4 releases them). -/
  dom : Vector DomState 12 := Vector.replicate 12 .off
  /-- R86: the domain is on its way to on. Reset: false. -/
  exiting : Vector Bool 12 := Vector.replicate 12 false
  /-- R83: MT at which the exit of a domain ends. Reset: 0 (no exit runs). -/
  exitAt : Vector Nat 12 := Vector.replicate 12 0
  /-- R86: MT of the last trigger, final reply or read of the last reply word, whichever is latest. Reset: 0. -/
  lastActive : Nat := 0
  /-- R215: host structures were discarded by PD2 going off and not yet reported. Reset: false. -/
  hostStructLost : Bool := false
  /-- R324: the PREF strap as read at step 1. Reset: false (log entry 1). -/
  pref : Bool := false
  /-- R13, R434: the Kiln link works. Reset: true (log entry 1). -/
  kilnLink : Bool := true
  /-- R13: corrected link errors. Reset: 0 (log entry 1). -/
  linkCe : Nat := 0
  /-- R74: images A and B. Reset: A valid with generation 1, B not (log entry 2: what the shipped flash holds is not in the spec). -/
  images : Vector FwImage 2 := #v[{ valid := true, gen := 1, hdrOk := true }, {}]
  /-- R74: the running image. Reset: none. -/
  running : Option (Fin 2) := none
  /-- R74: consecutive early watchdog resets. Reset: 0 (R74). -/
  earlyWd : Nat := 0
  /-- R74: the image chosen in place of one that was reset twice, until the next main power-on or image write. Reset: none (R74). -/
  choice : Option (Fin 2) := none
  /-- R74: the next start writes FW_FALLBACK. Reset: false. -/
  fbPending : Bool := false
  /-- R74: MT at which READY rose. Reset: 0. -/
  readyMt : Nat := 0
  /-- R435: the image being programmed. Reset: none. -/
  fwProg : Option FwProg := none
  /-- R373: the factory block failed its check. Reset: false. -/
  factoryBad : Bool := false
  /-- R392: NF0 and NF1 usable. Reset: true (log entry 1). -/
  nf0Ok : Bool := true
  nf1Ok : Bool := true
  /-- R61, R62: HOLD of outputs while giving up, transferring or handing over (R336). Reset: false. -/
  outputsHeld : Bool := false
  deriving DecidableEq, Repr

/-- A captured clock load (R95, R98). -/
structure RtcLoad where
  /-- The captured time in 1/32,768 s since 2000-01-01. -/
  val : Nat
  /-- 0x80 register commit or host port, 0x81 maintenance port (R457). -/
  source : Nat
  /-- The model's clock at the capture; the load comes at the first Ember tick at least 31 us later (R95). -/
  at_ : Nat
  /-- The TIME_SET_RTC that captured it. -/
  cmd : Option (Port × Nat) := none
  deriving DecidableEq, Repr

/-- A TIME_SET_RTC with APPLY 1 or 2 that waits for a PPS_OUT edge (R100). -/
structure PpsWait where
  port : Port
  tag : Nat
  /-- APPLY 1: the time at that edge; APPLY 2: none, GNSS UTC. -/
  val : Option Nat
  /-- MT of the class 1 reply. -/
  since : Nat
  deriving DecidableEq, Repr

/-- One calendar alarm (R101 to R104, R423). KIND 0 off, 1 one-shot, 2 daily. -/
structure Alarm where
  kind : Nat := 0
  armed : Bool := false
  /-- Word 1 and word 2 as set (Table 18-6). -/
  date : Word := 0
  time : Word := 0
  /-- RTC_CTL.ALMn and ALMn_SKIP. -/
  fired : Bool := false
  skip : Bool := false
  /-- It fired while VMAIN was absent, and the record of it waits for the next main power-on (R104). -/
  whileOff : Bool := false
  /-- The event of such a firing waits for step 9 (R104). -/
  offDue : Bool := false
  /-- First instant of the live counters whose entry the alarm has still to notice (R101, R103). -/
  from_ : Nat := 0
  deriving DecidableEq, Repr

/-- R108: the time source. -/
inductive TimeSource where | none | gnss | holdover | fault
  deriving DecidableEq, Repr

/-- Module time, Ember, GNSS time and the time pulse (04). -/
structure TimeState where
  /-- R88: MT, 64-bit count of 10 ns ticks. Reset: 0 (spec, main power-on). -/
  mt : Nat := 0
  /-- Table 3-4 step 3: MT runs. Reset: true (log entry 1: the state is placed where MT has started at 0). -/
  mtRun : Bool := true
  /-- The model's own clock in 10 ns ticks, which also runs without VMAIN (Kiln and Ember timers). Reset: 0 (log entry 1). -/
  now : Nat := 0
  /-- R90: the live RTC in 1/32,768 s since 2000-01-01 00:00:00. Reset: 0 (R92: an Ember without contents). -/
  rtc : Nat := 0
  /-- Fraction of an Ember tick elapsed, in 1/390,625 of a tick (32.768 kHz against 100 MHz). Reset: 0 (log entry 1). -/
  phase : Nat := 0
  /-- R106: operating time in 1/32,768 s. Reset: 0 (R92). -/
  opTicks : Nat := 0
  /-- R106: power-cycle count. Reset: 0 (R92). -/
  pwrCyc : Nat := 0
  /-- R92: Ember lost its contents and the next main power-on has not come. Reset: false. -/
  emberLost : Bool := false
  /-- R93: the shadows, as a time. Reset: 0. -/
  shadow : Nat := 0
  /-- R93: FROZEN and the MT at which the freeze started. Reset: none (FROZEN 0, Table 2-18). -/
  frozen : Option Nat := none
  /-- R93: RTC_CTL.STALE. Reset: 0 (Table 2-18). -/
  stale : Bool := false
  /-- R95, R96: the staging registers SUBSEC, SEC, MIN, HOUR, DAY, MONTH, YEAR. Reset: 2000-01-01 00:00:00 (R92). -/
  stg : Vector Nat 7 := #v[0, 0, 0, 0, 1, 1, 2000]
  /-- R95: a capture not yet loaded. Reset: none. -/
  load : Option RtcLoad := none
  /-- R100: commands waiting for a PPS_OUT edge. Reset: none. -/
  ppsWait : List PpsWait := []
  /-- R101: the two alarms. Reset: off (R92). -/
  alarm : Vector Alarm 2 := Vector.replicate 2 {}
  /-- Table 2-18 EMB_MEM0 to EMB_MEM15. Reset: 0 (R92). -/
  emb : Vector Word 16 := Vector.replicate 16 0
  /-- R108: the time source. Reset: NONE (R108). -/
  source : TimeSource := .none
  /-- Table 4-6: remaining phase error of a slew, ns. Reset: 0. -/
  slew : Int := 0
  /-- R112: a step waits for the next GNSS second: e in 10^-12 s and the error figure of the solution. Reset: none. -/
  step : Option (Int × Nat) := none
  /-- R112: a suppressed boundary lies before the next pulse: seconds it adds. Reset: 0. -/
  skip : Nat := 0
  /-- R109, R112: 10^-12 s by which the next pulse moves. Reset: 0. -/
  offset : Int := 0
  /-- R109: the GPS second of the last pulse, or the one that the first solution named, in 10^-4 tick of MT; the edge itself lies on the 10 ns grid. Reset: 0 (log entry 1). -/
  ppsAt : Int := 0
  /-- Table 4-7 SATS, WEEK, TOW_PPS, LEAP, F_ERR: last values. Reset: 0 (Table 4-7). -/
  sats : Nat := 0
  week : Nat := 0
  tow : Nat := 0
  leap : Int := 0
  fErr : Int := 0
  /-- Table 4-7 MT_PPS: last PPS_OUT rising edge. Reset: 0 (Table 4-7: none). -/
  mtPps : Nat := 0
  /-- Table 4-7 ERR_NS: error estimate at the entry of holdover or now. Reset: 0. -/
  errNs : Nat := 0
  /-- R111: MT of the entry into holdover. Reset: none. -/
  holdSince : Option Nat := none
  /-- R111: HOLDOVER_LIMIT raised in this holdover. Reset: false. -/
  holdRaised : Bool := false
  /-- R109: PPS_OUT is high until this MT. Reset: none (low). -/
  ppsHigh : Option Nat := none
  deriving DecidableEq, Repr

end Sys2Proof
end

