-- ==== Sys2Proof/Types/Bus.lean ====
section
/-! DEFINITION. Records of the CAN controllers, UARTs and maintenance port (chapter 14). -/

namespace Sys2Proof

/-- A CAN frame on the bus or in a queue (14.3, Table 14-5). -/
structure CanFrame where
  ide : Bool := false
  id : Nat := 0
  fdf : Bool := false
  brs : Bool := false
  esi : Bool := false
  rtr : Bool := false
  data : List Byte := []
  deriving DecidableEq, Repr

/-- Who queued a frame: the host, a thruster command (number), the maintenance port. -/
inductive CanOwner where | host | thruster (t : Fin 16) | maint
  deriving DecidableEq, Repr

/-- An entry of the transmit queue (R354): the frames keep their entry order as their order in the list. -/
structure TxEntry where
  f : CanFrame
  who : CanOwner
  oneShot : Bool := false
  /-- Entry order (R354). -/
  ord : Nat := 0
  deriving DecidableEq, Repr

/-- A frame in the receive FIFO (R362, R363): stamp (low 48 bits), accepting host filter. -/
structure RxEntry where
  f : CanFrame
  stamp : Nat
  filter : Nat
  deriving DecidableEq, Repr

/-- A host acceptance filter (R361). -/
structure CanFilter where
  enable : Bool := false
  ide : Bool := false
  fdOnly : Bool := false
  id : Nat := 0
  mask : Nat := 0
  deriving DecidableEq, Repr

/-- An identifier with its format. -/
abbrev CanId := Bool × Nat

/-- One CAN controller (14.2 to 14.5, Table 14-9). -/
structure CanState where
  /-- R353, R365: integrating again. Reset: false (log entry 1). -/
  integrating : Bool := false
  /-- TEC and REC. Reset: 0. -/
  tec : Nat := 0
  recv : Nat := 0
  busOff : Bool := false
  /-- R358: the recovery sequence runs. Reset: false. -/
  recovering : Bool := false
  /-- R359: CAN_ALONE stands, and consecutive attempts without acknowledgement. -/
  alone : Bool := false
  noAck : Nat := 0
  /-- R354: pending frames in entry order (module functions 0 to 31 entries, host 32). -/
  txq : List TxEntry := []
  /-- Entry order of the next frame. -/
  nextOrd : Nat := 0
  /-- The frame whose transmission has started (R355). -/
  inFlight : Option TxEntry := none
  fifo : List RxEntry := []
  filters : Vector CanFilter 32 := Vector.replicate 32 {}
  /-- R362: drops since the previous packet or reply. -/
  dropped : Nat := 0
  /-- R364: sleep commanded and awaiting the end of the frame in progress; asleep by command. -/
  sleepReq : Bool := false
  sleepCmd : Bool := false
  /-- R364: words 0 to 4 of the last BUS_CAN_SLEEP (WAKE_MODE 0 if none). -/
  wake : List Word := [0, 0, 0, 0, 0]
  /-- R360: collisions within the last second (identifier and MT), blocked identifiers. -/
  coll : List (CanId × Nat) := []
  blocked : List CanId := []
  /-- Last raise of EV83, EV85 (R362, R372). -/
  ovrAt : Option Nat := none
  failAt : Vector (Option Nat) 3 := Vector.replicate 3 none
  nTx : Nat := 0
  nRx : Nat := 0
  nRxDrop : Nat := 0
  nTxDiscard : Nat := 0
  nBusOff : Nat := 0
  nErr : Nat := 0
  nPex : Nat := 0
  deriving DecidableEq, Repr

/-- One UART (14.7, Table 18-16). -/
structure UartState where
  nUsed : Nat := 0
  nUnused : Nat := 0
  nDisc : Vector Nat 5 := Vector.replicate 5 0
  errAt : Vector (Option Nat) 5 := Vector.replicate 5 none
  nRx : Nat := 0
  nTx : Nat := 0
  /-- R371: queued characters. -/
  txq : List Byte := []
  /-- R370: bytes held for the next UART_RX chunk, with the stamp of the first. -/
  chunk : List Byte := []
  chunkMt : Nat := 0
  deriving DecidableEq, Repr

/-- Maintenance framing (14.6). -/
structure MaintState where
  /-- R366: SEQ expected from the tool; none before the first frame. -/
  rxSeq : Option Nat := none
  txSeq : Nat := 0
  /-- R366: discarding until a FIRST frame. -/
  skip : Bool := false
  /-- R367: FREE in the last frame sent and the MT of the last empty frame. -/
  lastFree : Nat := 1024
  freeAt : Option Nat := none
  /-- Words of the packet now being sent to the tool that are still to go (0: next word is a header). -/
  txLeft : Nat := 0
  deriving DecidableEq, Repr

/-- What the bus does with a transmission attempt (R355, R358 to R360). The error counters are those of ISO 11898-1. -/
inductive TxResult where
  /-- Arbitration entered, the chosen frame is on the bus. -/
  | started
  | sent
  | lostArbitration
  /-- An acknowledgement error; the flag tells a dominant bit seen during a passive error flag. -/
  | noAck (dominant : Bool)
  /-- A bit error after the arbitration field. -/
  | bitError
  /-- Any other error. -/
  | error
  deriving DecidableEq, Repr

/-- A wake condition seen by the wake monitor (Table 14-6). -/
inductive CanWakeCause where
  | dominant
  | frame (f : CanFrame)
  /-- The monitor's frame error counter is above 31. -/
  | frameErrors
  deriving DecidableEq, Repr

/-- What a CAN controller receives: a whole frame with the MT of its start-of-frame bit, an error frame, a recessive res bit (Table 14-1). -/
inductive CanIn where
  | frame (f : CanFrame) (sof : Nat)
  | error
  | res
  deriving DecidableEq, Repr

/-- What a UART receives: a sentence before its CR LF with its first character and any framing error, a partial sentence cut by a new `$`, or binary bytes. -/
inductive UartIn where
  | sentence (mt : Nat) (chars : List Byte) (framing : Bool)
  | partialCut (chars : Nat)
  | binary (mt : Nat) (bytes : List Byte)
  /-- Queued characters that left the port (R371). -/
  | sent (n : Nat)
  deriving DecidableEq, Repr

/-- A frame from the maintenance tool (14.6): FIRST, SEQ and its words with their ECC marks. -/
structure MaintFrame where
  first : Bool
  seq : Nat
  words : List QWord
  deriving DecidableEq, Repr

/-- A boundary-scan instruction (R450). -/
inductive TapIn where
  | trst (high : Bool)
  | bypass | sample | preload (v : List Bool) | extest | idcode
  deriving DecidableEq, Repr

/-- The TAP (R450). -/
structure TapState where
  /-- TRST_N is high. Reset: false (R450: held low by its pull-down). -/
  trst : Bool := false
  /-- Current instruction: 0 IDCODE, 1 BYPASS, 2 SAMPLE/PRELOAD, 3 EXTEST. Reset: 0 (IEEE 1149.1: IDCODE after reset, log entry 1). -/
  ir : Nat := 0
  /-- Preloaded boundary values. Reset: none. -/
  bsr : List Bool := []
  /-- EXTEST drives the lands of the chain. Reset: false. -/
  extest : Bool := false
  /-- Word last shifted out: IDCODEs of the chain. Reset: none. -/
  out : List Word := []
  deriving DecidableEq, Repr

end Sys2Proof
end

