-- ==== Sys2Proof/Types/Nav.lean ====
section
/-! DEFINITION. Records of the GNSS basebands, the FIR engine and Belvedere (chapters 05, 06, 07). -/

namespace Sys2Proof

/-- A channel's measurement at an epoch (Table 5-6): C/N0, state, flags USABLE, DD, SLIP, pseudorange, phase, Doppler, lock time. -/
structure ChanMeas where
  cn0 : Nat
  st : Fin 6
  usable : Bool
  dd : Bool
  slip : Bool
  pr : Nat
  phase : Int
  dop : Int
  lock : Nat
  deriving DecidableEq, Repr

/-- One receiver channel (R118, R119, R120). -/
structure Channel where
  /-- Assigned PRN, 0 none. -/
  prn : Nat := 0
  /-- Table 5-4 code. -/
  st : Fin 6 := 0
  /-- MT at which the lock time restarted. -/
  lockSince : Nat := 0
  /-- Cycle slip since the last epoch (R119). -/
  slip : Bool := false
  /-- DLL mode in force: DOUBLE_DELTA (R133, taken over at the channel's next epoch). -/
  dd : Bool := true
  /-- D29* and D30* of the previous word (R120). -/
  d29 : Bool := false
  d30 : Bool := false
  /-- Words that failed parity (R120). -/
  parityErr : Nat := 0
  /-- Data bits of the words of the current subframe, by word index; none where missing. -/
  sub : Vector (Option Nat) 10 := Vector.replicate 10 none
  /-- MT at which tracking began (Table 5-3). -/
  trackSince : Nat := 0
  /-- Latest parity-clean subframes 1, 2, 3 (words 3 to 10, 24 bits each) since the last set. -/
  sf : Vector (List Nat) 3 := Vector.replicate 3 []
  /-- The measurement of the current epoch (Table 5-6), none when not tracking then. -/
  meas : Option ChanMeas := none
  /-- R119: the last Doppler, mHz: the search centre of a channel that returned to ACQ. -/
  centre : Int := 0
  deriving DecidableEq, Repr

/-- The navigation data of one PRN in the shared PD1 store (R121, R122). -/
structure NavSat where
  /-- The accepted set: the words of subframes 1, 2, 3; empty when none. -/
  set : List Nat := []
  /-- R122: excluded after a conflict, with the decodings since, of which no two have agreed. -/
  excluded : Bool := false
  seen : List (List Nat) := []
  deriving DecidableEq, Repr

/-- One GNSS baseband (05). -/
structure Baseband where
  /-- R134: out of service until the next reset. -/
  out : Bool := false
  /-- Table 5-2 class of the antenna input: 0 OK, 1 OPEN, 2 SHORT, 3 OVERLOAD, 4 OFF. -/
  ant : Nat := 0
  chans : Vector Channel 32 := Vector.replicate 32 {}
  /-- R126 fix kind: 0 NONE, 1 SPS, 2 DGPS. -/
  fix : Nat := 0
  /-- R124: solutions dropped. -/
  dropped : Nat := 0
  /-- R134: in-band noise above the threshold. -/
  interf : Bool := false
  /-- A solution of the current epoch is still awaited. -/
  awaiting : Bool := false
  /-- R108: it keeps a time solution. Reset: false. -/
  timeOk : Bool := false
  /-- R127: corrections applied in the last position solution, mm, by PRN. Reset: none. -/
  applied : List (Nat × Int) := []
  /-- R117: MT of the switch-off of a shorted input. -/
  shortAt : Nat := 0
  deriving DecidableEq, Repr

/-- A reference station's correction for a satellite (R127): PRN, IODE of the set it was computed with, MT of the 1004 epoch, prc in mm and rrc in um/s. -/
structure Corr where
  prn : Nat
  iode : Nat
  mt : Nat
  prc : Int
  rrc : Int := 0
  deriving DecidableEq, Repr

/-- GNSS die and its PD1 store (05). -/
structure GnssState where
  bb : Vector Baseband 2 := Vector.replicate 2 {}
  /-- R122: shared store, PRN 1 to 32. Reset: empty (log entry 1; kept in PD1, R83). -/
  nav : Vector NavSat 32 := Vector.replicate 32 {}
  /-- Table 5-1: the pages of subframes 4 and 5 that are used (page 18 of subframe 4, almanac, health), by subframe * 64 + SV ID, words 3 to 10. Reset: none (log entry 1; kept in PD1, R83). -/
  pages : List (Nat × List Nat) := []
  /-- R83: the last position, latitude and longitude in 2^-32 turn, height in mm. Reset: none (log entry 1; kept in PD1). -/
  pos : Option (Int × Int × Int) := none
  /-- R110: the 10-bit week of the last subframe 1 decoded and the time of week at that subframe's end. Reset: none (log entry 1; kept in PD1). -/
  week10 : Option (Nat × Nat) := none
  /-- R123: MT of the latest epoch E. Reset: 0 (MT starts at 0). -/
  epoch : Nat := 0
  /-- Table 5-10: 0 OFF, 1 SEARCH, 2 FIXED. Reset: 0 (heading is off by default). -/
  hdg : Nat := 0
  /-- R130: consecutive wins of one integer set, and that set. Reset: 0, none. -/
  wins : Nat := 0
  winSet : List (Nat × Int) := []
  /-- R132: consecutive epochs with the length out of tolerance. Reset: 0. -/
  lenTrips : Nat := 0
  /-- R131: PRNs with their fixed double-difference integers, those left out until the next search, those that slipped since the last heading solution. Reset: none. -/
  hdgFixed : List (Nat × Int) := []
  hdgOut : List Nat := []
  hdgSlip : List Nat := []
  /-- R124: heading solutions dropped. Reset: 0. -/
  hdgDropped : Nat := 0
  /-- A heading solution of the current epoch is still awaited. Reset: false. -/
  hdgAwaiting : Bool := false
  /-- R128: station of the last 1004. Reset: none. -/
  rtcmStation : Option Nat := none
  /-- R127: antenna reference points received, in 0.1 mm of the earth-fixed frame, by station. Reset: none. -/
  arps : List (Nat × Int × Int × Int) := []
  /-- R127: the corrections in force. Reset: none. -/
  corr : List Corr := []
  /-- MT of the 1004 epoch. Reset: 0. -/
  corrMt : Nat := 0
  /-- R128: corrections are usable. Reset: false. -/
  rtcmOk : Bool := false
  /-- 5.7: frames with a wrong CRC, messages ignored. Reset: 0. -/
  rtcmCrcErr : Nat := 0
  rtcmIgnored : Nat := 0
  deriving DecidableEq, Repr

/-- A sample as it stands in a delay line: value and the flags RANGE and MISSING (Table 6-4). -/
structure Smp where
  v : Int := 0
  range : Bool := false
  missing : Bool := false
  deriving DecidableEq, Repr

/-- An output of a stage with the flags RANGE, SAT, MISSING, SETTLING (Table 6-4). -/
structure FirOut where
  v : Int := 0
  range : Bool := false
  sat : Bool := false
  missing : Bool := false
  settling : Bool := true
  /-- Time of validity (R146). -/
  tv : Int := 0
  deriving DecidableEq, Repr

/-- One slot of the FIR engine (6.3 to 6.7). -/
structure FirSlot where
  /-- Delay lines of stage 1 and stage 2, newest first, at most 511 (6.4). Reset: empty (R149: zero or stale). -/
  d1 : List Smp := []
  d2 : List Smp := []
  /-- The calibrated 8 kHz sample handed to the loop cluster (R143). -/
  raw : Smp := {}
  out1 : FirOut := {}
  /-- The stage-1 output before it, for the interpolation of R158. -/
  prev1 : FirOut := {}
  out2 : FirOut := {}
  /-- Samples that have entered stage 1 since the reset or domain exit, and settled stage-1 outputs that have entered stage 2 since then or since its input changed, each up to 511 (R148, R149). Reset: 0. -/
  fresh1 : Nat := 0
  fresh2 : Nat := 0
  /-- MT of the last sample instant. Reset: none. -/
  at_ : Option Nat := none
  /-- R137: consecutive missing samples and parity errors. -/
  missRun : Nat := 0
  parRun : Nat := 0
  nRange : Nat := 0
  nSat : Nat := 0
  nMissing : Nat := 0
  /-- R144: MT of the last RANGE and SAT occurrence. -/
  lastRange : Option Nat := none
  lastSat : Option Nat := none
  /-- Outputs of the running frame for SENSOR_OUT (6.7), oldest first: grid instant, value, flags. -/
  outs : List (Nat × Int × Nat) := []
  deriving DecidableEq, Repr

/-- FIR engine and inertial sensor (06). -/
structure FirState where
  slots : Vector FirSlot 22 := Vector.replicate 22 {}
  /-- R137: an IMU fault has been raised (reason). Reset: none. -/
  imuFault : Nat := 0
  /-- The last temperature read, 0.01 degrees (Table 6-1). Reset: 0 (log entry 1). -/
  temp : Int := 0
  /-- R149: the inertial slots deliver nothing until this MT. -/
  imuReady : Nat := 0
  deriving DecidableEq, Repr

/-- A measurement in an intake queue (R153): arrival stamp (delivery MT for an internal one), sensor time of day in ticks (for an internal one its epoch), values in the slot's units as received, reported standard deviation (HDOP in hundredths for GGA). -/
structure Meas where
  ta : Nat
  ts : Option Nat := none
  vals : List Int := []
  rep : Option Nat := none
  /-- R160: it arrived while the estimate mode was FUSED. -/
  fused : Bool := false
  deriving DecidableEq, Repr

/-- One reference slot of Belvedere (07). Every counter's reset is 0 (7.9). -/
structure RefSlot where
  /-- Table 7-8 code. Reset: 0 UNCONFIGURED (R76). -/
  st : Nat := 0
  /-- R153: at most 8, oldest first. Reset: empty. -/
  queue : List Meas := []
  nOverrun : Nat := 0
  lastOverrun : Option Nat := none
  /-- R157: t_v of the latest used measurement, and whether there is one. Reset: none. -/
  lastTv : Int := 0
  used : Bool := false
  /-- R160: origin captured (north, east), and measurements since the capture. Reset: none. -/
  origin : Option (Int × Int) := none
  sinceOrigin : Nat := 0
  /-- R178: FUS_REF_CAPTURE awaits its boundary. Reset: false. -/
  capReq : Bool := false
  /-- R155: the time-base model: t_map - t_s at the last unwrapped sensor time tbTs, in 2^-20 tick; b in 10^-15; the last t_a - latency - t_s; the samples it has seen (up to 20), and sum and number of t_a - t_map. Reset: none. -/
  tbA : Int := 0
  tbB : Int := 0
  tbD : Int := 0
  tbN : Nat := 0
  tbTs : Option Int := none
  tbSum : Int := 0
  tbCnt : Nat := 0
  /-- R156: fallback, consecutive inconsistent and consistent samples. Reset: false, 0. -/
  slipped : Bool := false
  incons : Nat := 0
  cons : Nat := 0
  /-- Latest innovation (components; heave third), its standard deviation and prediction variances, the boundary of its update. Reset: none. -/
  in1 : Int := 0
  in2 : Int := 0
  in3 : Int := 0
  sigma : Nat := 1
  pvar : Nat := 0
  pvar3 : Nat := 0
  inMt : Option Nat := none
  /-- Table 7-12 NIS and LOO_NIS, hundredths. Reset: 0. -/
  nis : Nat := 0
  looNis : Nat := 0
  /-- R165, R161: consecutive frames and epochs above the gate; standard deviation of the tight filter at the latest epoch. Reset: 0. -/
  looTrips : Nat := 0
  tightTrips : Nat := 0
  tight : Nat := 0
  /-- 7.4.1: the tight filter's 17 states and their covariance as numbers, and its antenna position at the latest epoch (latitude, longitude, height). Reset: none. -/
  filter : List Int := []
  tightPos : Int × Int × Int := (0, 0, 0)
  /-- R169: consecutive votes towards a return. Reset: 0. -/
  back : Nat := 0
  nUsed : Nat := 0
  nDisc : Vector Nat 3 := Vector.replicate 3 0
  lastDisc : Vector (Option Nat) 3 := Vector.replicate 3 none
  nVotedOut : Nat := 0
  deriving DecidableEq, Repr

/-- Words 7 to 33 of FUS_STATE (Table 7-9) as integers in their encodings: N, E, heading, surge, sway, yaw rate, WF N, E, heading, roll, pitch, heave, environment X, Y, N, wind X, Y, N, thrust X, Y, N, sigma N, E, heading, u, v, r. -/
abbrev EstVec := Vector Int 27

/-- An observer (7.5): its 15 states, namely north, east, heading, surge, sway, yaw rate, three bias forces, and position and rate of the oscillators of north, east and heading, in 2^-20 of the units of Table 7-9; and its covariance by rows, in squares of those. -/
structure Obs where
  x : List Int := []
  p : List Int := []
  deriving DecidableEq, Repr

/-- The observer bank at a boundary (R164, R165): its MT, the main observer, the leave-one-out observers by slot. -/
structure ObsBank where
  at_ : Nat := 0
  main : Obs := {}
  loo : List (Nat × Obs) := []
  deriving DecidableEq, Repr

/-- A 1 kHz mechanised state (R158): time of validity; roll, pitch, heading in 2^-32 turn, velocity and position north, east, down in 2^-20 mm; the angular rate and specific force in body axes that gave it, in the encodings of Table 6-3; the thrust estimate (R162). -/
structure Mech where
  tv : Int := 0
  x : List Int := []
  rate : List Int := []
  force : List Int := []
  thr : Vector Int 3 := Vector.replicate 3 0
  deriving DecidableEq, Repr

/-- A projected measurement of the position or heading group (R159): slot, t_v, group, components in 2^-20 units, standard deviation; whether it updates the observers, and whether it came late (R171). -/
structure ObsMeas where
  slot : Nat
  tv : Int
  hdg : Bool
  z : Int × Int
  sigma : Nat
  use : Bool := false
  late : Bool := false
  deriving DecidableEq, Repr

/-- A frame of the history store (7.7): its number k, the bank at B_k, the parameters and the wind force of its update, the measurements used, the late ones whose covariance reduction it applied (R172), the slots that were ACTIVE. -/
structure HistFrame where
  k : Nat := 0
  bank : ObsBank := {}
  par : List Word := []
  wind : Vector Int 3 := Vector.replicate 3 0
  meas : List ObsMeas := []
  cuts : List ObsMeas := []
  active : Nat := 0
  deriving DecidableEq, Repr

/-- Belvedere (07). -/
structure FusState where
  slot : Vector RefSlot 24 := Vector.replicate 24 {}
  /-- Table 7-6: 0 INITIALISING, 1 FUSED, 2 DEAD_RECKONING, 3 INVALID. Reset: 0 (R167: from start). -/
  mode : Nat := 0
  /-- R167: consecutive frames with a position and a heading slot ACTIVE. -/
  initRun : Nat := 0
  /-- R167, R179: INVALID until the next reset. -/
  fault : Bool := false
  /-- R174: the estimate x̂, the published output y, remaining offset r in 2^-32 units and n. Reset: r 0, n 1 (R174). -/
  xhat : EstVec := Vector.replicate 27 0
  pub : EstVec := Vector.replicate 27 0
  r : EstVec := Vector.replicate 27 0
  n : Nat := 1
  /-- R158: the state latched at the boundary. -/
  latched : EstVec := Vector.replicate 27 0
  /-- R176: time of validity of the published estimate. -/
  tv : Nat := 0
  /-- R177: contribution mask and AGE (us). -/
  contrib : Nat := 0
  age : Nat := 0
  rolled : Bool := false
  swapped : Bool := false
  d1Miss : Bool := false
  hdgDr : Bool := false
  odoFault : Nat := 0
  /-- R168: REF_CONFLICT standing per group: position, heading, motion, wind. -/
  conflict : Vector Bool 4 := Vector.replicate 4 false
  /-- R168: state and return count of the internal attitude, a fixed member of the motion group. Reset: ACTIVE (log entry 1). -/
  attSt : Nat := 3
  attBack : Nat := 0
  /-- R170: boundary of the last frame with a slot ACTIVE, and POS_DRIFT raised, for position and heading. Reset: none. -/
  lastAct : Vector (Option Nat) 2 := Vector.replicate 2 none
  drift : Vector Bool 2 := Vector.replicate 2 false
  /-- R174: offset of an update completed after D1, which enters the blend of the next frame. Reset: none. -/
  late : Option EstVec := none
  /-- 7.7: the frames stored, newest first, at most 256. Reset: none. -/
  hist : List HistFrame := []
  /-- 7.5: the observer bank; none until its first update after start, reset or an off exit. -/
  bank : Option ObsBank := none
  /-- R158: the 1 kHz mechanised states of the window, newest first. Reset: none. -/
  mechs : List Mech := []
  /-- R159: voted MRU roll and pitch by t_v, newest first. Reset: none. -/
  mru : List (Int × Int × Int) := []
  /-- R163: the voted wind, a vector in the earth frame towards its source, 2^-20 mm/s, and its force (X, Y, N). Reset: none, 0. -/
  wind : Option (Int × Int) := none
  windF : Vector Int 3 := Vector.replicate 3 0
  /-- R178: FUS_STATE_STREAM awaits its boundary: port and DECIM. Reset: none. -/
  streamReq : Option (Port × Nat) := none
  /-- R179: corrected history errors. -/
  histCe : Nat := 0
  /-- The frame whose update is outstanding (step 2). -/
  updating : Bool := false
  deriving DecidableEq, Repr

end Sys2Proof
end

