-- ==== Sys2Proof/Types/Ctl.lean ====
section
/-! DEFINITION. Records of the solver fabric, positioning control, allocation, loops, Folly and profile channels (chapters 08 to 11). -/

namespace Sys2Proof

/-- An operation of a lane program (R180, R184 to R186, R199), over numbered lane registers: take a stored value or a constant; fused multiply-add a b + c, divide, square root, choose x where a < b else y; store at a KKT index; reduce stored terms (quantity, row) into a row; treat a pivot against the diagonals of its matrix, with the sign that the KKT system requires (1 positive, 2 negative; 0 its own). -/
inductive LaneOp where
  | load (d qty row col : Nat)
  | const (d : Nat) (v : BitVec 64)
  | fma (d a b c : Nat)
  | div (d a b : Nat)
  | sqrt (d a : Nat)
  | less (d a b x y : Nat)
  | store (qty row a kkt : Nat)
  | reduce (qty row kkt : Nat) (terms : List (Nat × Nat))
  | pivot (d a kkt : Nat) (sign : Fin 3) (diag : List Nat)
  deriving DecidableEq, Repr

/-- The order of every lane operation of a problem, fixed by its structure, generation and kind (R181): what runs once, what one iteration runs, the registers that must come within the tolerance, and those whose nonzero value certifies primal or dual infeasibility (R201). -/
structure LaneProg where
  once : List LaneOp := []
  body : List LaneOp := []
  gap : List Nat := []
  primal : Nat := 0xFFFF
  dual : Nat := 0xFFFF
  deriving DecidableEq, Repr, Inhabited

/-- A lane program as it runs: registers (number, word), stored values, the KKT index of the first infinity or NaN (R200), the saturations (quantity, row) and regularised pivots in order, newest first. -/
structure LaneSt where
  regs : List (Nat × BitVec 64) := []
  vals : List (Nat × Nat × Nat × Int) := []
  fail : Option Nat := none
  sats : List (Nat × Nat) := []
  pivots : List Nat := []
  deriving DecidableEq, Repr

/-- What one copy of a problem gives at its end (R197 to R205): the stored output words and records that the compare unit compares. -/
structure CopyOut where
  /-- Table 8-7 outcome of the copy: 0x0000, 0x4016, 0x4017 or 0x4018. -/
  status : Nat := 0
  detail : Nat := 0
  iter : Nat := 1
  regCount : Nat := 0
  regIndex : Nat := 0xFFFF
  /-- Saturations per quantity of Table 8-2; quantity and row of the first. -/
  sats : List Nat := []
  satQty : Nat := 0xF
  satRow : Nat := 0
  /-- X, LAMBDA and S as Q-format integers (R183). -/
  x : List Int := []
  lambda : List Int := []
  s : List Int := []
  deriving DecidableEq, Repr

/-- Table 8-12: what a ticket works on. -/
inductive Work where
  | host | alloc | mpc | bank (entry : Fin 21) | observer | gnss (b : Fin 2) | heading | capability
  deriving DecidableEq, Repr

/-- One copy of a ticket's problem: where it runs, suspended or not, its outcome (R204, R212). -/
structure Copy where
  region : Nat
  cluster : Nat
  suspended : Bool := false
  /-- Abandoned under R182, or stopped. -/
  dead : Bool := false
  out : Option CopyOut := none
  deriving DecidableEq, Repr

/-- A value of a quantity entry (R195). -/
structure SVal where
  qty : Nat
  row : Nat
  col : Nat
  v : Int
  deriving DecidableEq, Repr

/-- The latest result of a structure (R198). -/
structure SolvResult where
  order : Nat
  gen : Nat
  tag : Nat
  out : CopyOut
  deriving DecidableEq, Repr

/-- A structure (8.3). -/
structure Struct where
  sid : Nat
  kind : Nat := 0
  n : Nat := 0
  m : Nat := 0
  neq : Nat := 0
  gen : Nat := 0
  size : Nat := 0
  /-- Pattern of H, then of A, as (row, col). -/
  patH : List (Nat × Nat) := []
  patA : List (Nat × Nat) := []
  /-- Format entries: qty, first, last, F. -/
  fmts : List (Nat × Nat × Nat × Int) := []
  /-- R181: what the analysis of the structure has fixed. -/
  prog : LaneProg := {}
  vals : List SVal := []
  version : Nat := 0
  result : Option SolvResult := none
  sat : Vector Nat 10 := Vector.replicate 10 0
  nReg : Nat := 0
  nSubmit : Nat := 0
  /-- R217: MT of the last SOLVER_SATURATION and PIVOT_REG. -/
  lastSat : Option Nat := none
  lastReg : Option Nat := none
  deriving DecidableEq, Repr

/-- A ticket (8.4): 0 to 191 DP, 192 to 255 host. -/
structure Ticket where
  id : Nat
  work : Work
  port : Port := .host
  tag : Nat := 0
  sid : Nat := 0
  gen : Nat := 0
  dup : Bool := true
  /-- R195: the value version it uses. -/
  version : Nat := 0
  /-- R198: submission order. -/
  order : Nat := 0
  /-- R201: deadline in ms and the MT at which it passes. -/
  deadlineMs : Nat := 0
  deadline : Option Nat := none
  warmDisc : Bool := false
  warmReason : Nat := 0
  outQty : Nat := 6
  outFirst : Nat := 0
  outCount : Nat := 0
  /-- R195, R203: the values and the warm-start vector captured at the submission. -/
  vals : List SVal := []
  warmVec : List Int := []
  /-- The structure it runs on, as it stood at the submission (R193). -/
  on : Struct := { sid := 0 }
  /-- Table 8-5: TAU_EXP, TOL_EXP, MAX_ITER; R258: the result stands whatever its residual. -/
  tauExp : Nat := 40
  tolExp : Nat := 30
  maxIter : Nat := 50
  anyway : Bool := false
  copies : List Copy := []
  retried : Bool := false
  /-- Aborted; a third copy runs on for diagnosis only (Table 8-11). -/
  aborted : Bool := false
  deriving DecidableEq, Repr

/-- Table 8-15: the state of a region. -/
inductive RegState where | healthy | hot | cooling | failed | off
  deriving DecidableEq, Repr

/-- One Pergola region (8.1, 8.9). -/
structure Region where
  /-- HEALTHY at reset until BIST and readings say otherwise (R207, R214). -/
  st : RegState := .healthy
  temp : Int := 0
  load : Nat := 0
  /-- Lane ticks of its clusters in this frame. -/
  busy : Nat := 0
  mismatch : Nat := 0
  eccCe : Nat := 0
  sat : Nat := 0
  reg : Nat := 0
  deriving DecidableEq, Repr

/-- A staged structure definition whose installation runs (R190, R192). -/
structure Install where
  sid : Nat
  port : Port
  tag : Nat
  s : Struct
  deriving DecidableEq, Repr

/-- Pergola and Gazebo (08). -/
structure SolvState where
  region : Vector Region 4 := Vector.replicate 4 {}
  /-- R8: regions of Gazebo's active and hot copies. Reset: PR0 and PR2 (R8). -/
  active : Fin 4 := 0
  hot : Option (Fin 4) := some 2
  /-- R8: the frame in which the hot copy began to be loaded. Reset: loaded. -/
  hotFrom : Option Nat := none
  /-- R8: the placement checkpoint in PD1, written at every boundary: rotation and the tickets placed. Reset: none placed. -/
  ckRot : Nat := 0
  ckTickets : List Nat := []
  /-- R213: rotation of the region pairs, one step per frame. -/
  rot : Nat := 0
  /-- R27: what is left of the host reserve in this frame, in ticks of one cluster, and the MT up to which lane time is charged. Reset: whole. -/
  reserve : Nat := 1000000
  chargedAt : Nat := 0
  structs : List Struct := []
  /-- R192: generations survive a deletion of the structure? No rule says so; kept per ID. -/
  gens : Vector Nat 64 := Vector.replicate 64 0
  /-- R190: staged definitions, by ID, as object words. -/
  staged : List (Nat × List Word) := []
  /-- Installations that run, oldest first (R192). -/
  installs : List Install := []
  tickets : List Ticket := []
  order : Nat := 0
  /-- Table 8-8: warm-start stores 0 to 7, as object words; none never written or cleared. -/
  warm : Vector (Option (List Word)) 8 := Vector.replicate 8 none
  deriving DecidableEq, Repr

/-- A thrust and azimuth setpoint (R254): N and 2^-32 turn. -/
structure SetPt where
  u : Int := 0
  az : Word := 0
  deriving DecidableEq, Repr

/-- Position, velocity and acceleration of an axis. -/
structure Axis where
  x : Int := 0
  v : Int := 0
  a : Int := 0
  deriving DecidableEq, Repr

/-- A plan of motion: duration in ticks and jerk of each piece. -/
abbrev Plan := List (Nat × Int)

/-- A pending DPC_SET_TARGET (R235), its words in expert layout, and the frame that interpreted it. -/
structure TargetReq where
  port : Port
  tag : Nat
  words : List Word
  frame : Nat
  deriving DecidableEq, Repr

/-- Positioning control (09). Positions mm, angles 2^-32 turn, rates per second; the reference in 2^-32 of those units. -/
structure DpcState where
  /-- Table 9-1. Reset: NONE (R222). -/
  fn : Nat := 0
  /-- R223: functions waiting for the next boundary, in interpretation order, with their commands. Reset: none. -/
  fnReq : List (Nat × Port × Nat) := []
  /-- R235: targets waiting for their step 3. Reset: none. -/
  targets : List TargetReq := []
  /-- Target north, east, heading. Reset: 0 (log entry 1). -/
  tgt : Vector Int 3 := Vector.replicate 3 0
  /-- 9.6: origin of the line axis (north, east) and its direction as a unit vector in 2^-60. Reset: 0, north (log entry 1). -/
  base : Vector Int 2 := Vector.replicate 2 0
  dir : Vector Int 2 := #v[2 ^ 60, 0]
  /-- 9.6: the line, cross and yaw axes and what is left of their plans. Reset: at rest at 0 (log entry 1). -/
  ax : Vector Axis 3 := Vector.replicate 3 {}
  plan : Vector Plan 3 := Vector.replicate 3 []
  /-- Table 9-8 MOVING and PASSED; the move's target has been reached (R239): frames within the limits, and EV10 raised. Reset: at rest (log entry 1). -/
  moving : Bool := false
  passed : Bool := false
  reached : Nat := 0
  reachDone : Bool := true
  /-- Table 9-2: SPEED_PCT of the move in progress. Reset: 100 (Table 9-2, its default). -/
  pct : Nat := 100
  /-- R228: error e in 2^-32 units, integrators z in 2^-40 m or rad times 0.01 s, axes held. Reset: 0 (log entry 1). -/
  err : Vector Int 3 := Vector.replicate 3 0
  z : Vector Int 3 := Vector.replicate 3 0
  aw : Vector Bool 3 := Vector.replicate 3 false
  /-- R224, R229: preload of each axis at the next step 3: 0 none, 1 so that τ is that of the previous frame, 2 so that τ is feedforward alone. Reset: none. -/
  preload : Vector Nat 3 := Vector.replicate 3 0
  /-- R229: the controller parameters before the change that took effect at this boundary. Reset: none. -/
  oldPar : Option (List Word) := none
  /-- τ of this frame and of the previous one, and its feedforward part, in N, N, N·m. Reset: 0 (log entry 1). -/
  tau : Vector Int 3 := Vector.replicate 3 0
  tauPrev : Vector Int 3 := Vector.replicate 3 0
  ff : Vector Int 3 := Vector.replicate 3 0
  /-- R22: the controller missed D2 in this frame. Reset: false. -/
  d2Miss : Bool := false
  /-- Number of the frame in which step 3 ran last. Reset: none. -/
  ran : Option Nat := none
  /-- R225, R226: joystick demand in force (int16 fractions), the demand received and its frame, MT of the last host demand, lost. Reset: 0 (log entry 1). -/
  joy : Vector Int 3 := Vector.replicate 3 0
  joyNext : Option (Vector Int 3 × Nat) := none
  joyMt : Option Nat := none
  joyLost : Bool := false
  /-- R231: milliseconds of wind fade in force, 0 none. Reset: 0. -/
  windFade : Nat := 0
  /-- R233, R234: MPC in use, sequence with the boundary of its submission, result awaiting its commit, commits in a row, boundary of the problem under way, a fallback stands. Reset: not in use. -/
  mpcOn : Bool := false
  mpcSeq : List Int := []
  mpcFrom : Nat := 0
  mpcReady : Option (List Int) := none
  /-- τ of the frame of submission, and the frame of the latest commit. Reset: 0 (log entry 1). -/
  mpcTau : Vector Int 3 := Vector.replicate 3 0
  mpcAt : Nat := 0
  mpcRun : Nat := 0
  mpcSub : Option Nat := none
  mpcFell : Bool := false
  /-- R220: datum in force (latitude, longitude in 2^-32 turn, height in mm), its source of Table 18-12, FAR. Reset: 0, not set (log entry 1). -/
  datum : Vector Int 3 := Vector.replicate 3 0
  datumSrc : Nat := 0
  far : Bool := false
  /-- R221: rotation point in force. Reset: (0, 0) (R221). -/
  rp : Vector Int 2 := Vector.replicate 2 0
  /-- R241: the track held, as object words. Reset: none (9.7). -/
  track : List Word := []
  /-- R242 to R244: active leg, waypoint START, phase (0 none, 1 approach, 2 turn, 3 leg, 4 at the last waypoint), paused, action with its waypoint and frame. Reset: none. -/
  leg : Nat := 0xFF
  start : Nat := 0
  phase : Nat := 0
  paused : Bool := false
  action : Option (Nat × Nat × Nat) := none
  /-- R240: consecutive frames above and below the limit, raised, per position and heading. Reset: 0. -/
  excRun : Vector Nat 2 := Vector.replicate 2 0
  excLow : Vector Nat 2 := Vector.replicate 2 0
  excOn : Vector Bool 2 := Vector.replicate 2 false
  /-- R245: available power received per section in kW, limits in force in W; none no limit. Reset: none (R248). -/
  avail : Vector (Option Nat) 4 := Vector.replicate 4 none
  limit : Vector (Option Nat) 4 := Vector.replicate 4 none
  /-- R248: MT of the last PMS frame, lost. Reset: none. -/
  pmsMt : Option Nat := none
  pmsLost : Bool := false
  /-- R247: the section's limit binds, and the section is lost. Reset: false. -/
  binding : Vector Bool 4 := Vector.replicate 4 false
  secLost : Vector Bool 4 := Vector.replicate 4 false
  deriving DecidableEq, Repr

/-- A bank entry (R263). -/
structure BankEntry where
  frame : Nat
  mask : Nat
  gen : Nat
  sp : Vector SetPt 16
  /-- R258, R266: its primal-dual point and its τ_pred. -/
  point : List Int := []
  pred : Vector Int 3 := Vector.replicate 3 0
  deriving DecidableEq, Repr

/-- One thruster in allocation (10.4). -/
structure Thr where
  /-- Table 10-7 causes, bit c for cause c. -/
  causes : Nat := 0
  /-- Causes whose detection instant is freshMt (R24: detected exactly at a boundary, they take effect a frame later). -/
  fresh : Nat := 0
  freshMt : Nat := 0
  /-- Some cause has taken it out of availability. -/
  out : Bool := false
  /-- R264: since when the clearable causes have been absent. -/
  absent : Option Nat := none
  /-- R268: MT of the entry into A of a returning thruster. -/
  ret : Option Nat := none
  /-- Azimuth and shaft feedback as last received, and the MT of the last valid feedback. -/
  azFb : Word := 0
  fbMt : Option Nat := none
  fbCounter : Option Nat := none
  notReady : Bool := false
  notReadySince : Option Nat := none
  deriving DecidableEq, Repr

/-- A running or completed capability cycle (R270 to R274): starting boundary, θ_0, ρ in mm, |D_XY|, period in ms, mask of the applicable configurations, A, U per configuration in 0.1 %, and λ as 21 × 72 values in code order, 0xFFFFFFFF without result. -/
structure CaResult where
  start : Nat := 0
  theta0 : Word := 0
  rho : Int := 0
  dxy : Nat := 0
  period : Nat := 0
  mask : Nat := 0
  avail : Nat := 0
  /-- Generation of structure 1 and the section limits it holds, in W. -/
  gen : Nat := 0
  limit : Vector (Option Nat) 4 := Vector.replicate 4 none
  dir0 : Bool := false
  /-- R271: the problems of the cycle already solved, in its order, and those that ended without result. -/
  next : Nat := 0
  lost : List Nat := []
  u : List Nat := []
  lam : List Nat := []
  deriving DecidableEq, Repr

/-- Thrust allocation (10). -/
structure AllocState where
  thr : Vector Thr 16 := Vector.replicate 16 {}
  /-- A_k as a mask, and the thrusters lost at this boundary, F of R265. Reset: none (log entry 1). -/
  avail : Nat := 0
  prevAvail : Nat := 0
  lost : Nat := 0
  /-- The committed solution (R253, R254), the setpoints of the last step 6, and the point of linearisation of this frame's problem. Reset: 0 (log entry 1). -/
  sol : Vector SetPt 16 := Vector.replicate 16 {}
  issued : Vector SetPt 16 := Vector.replicate 16 {}
  lin : Vector SetPt 16 := Vector.replicate 16 {}
  /-- A solution of this frame is committed; the frame's step 4 has run, its step 6 has run. Reset: none. -/
  committed : Bool := false
  checked : Option Nat := none
  issuedAt : Option Nat := none
  /-- R256: τ_pred of the bank, and the bank. Reset: none. -/
  tauPred : Vector Int 3 := Vector.replicate 3 0
  /-- R256, R263: the section limits of 2.0 ms, while the bank of the frame awaits the committed solution about which it is linear. Reset: none. -/
  bankDue : Option (Vector (Option Nat) 4) := none
  bank : Vector (Option BankEntry) 21 := Vector.replicate 21 none
  /-- Table 10-15: entry code (0xFE no failure frame, 0xFF degenerate), AGED, REFINED, HIT, SQUASH, D3_MISS, NO_RESULT, CLAMP of the frame. Reset: none. -/
  entry : Nat := 0xFE
  aged : Bool := false
  refined : Bool := false
  hit : Bool := false
  squash : Nat := 0
  d3Miss : Bool := false
  noResult : Bool := false
  clamp : Bool := false
  /-- R262: this is the first frame of a function; R257 reason 2: an ALLOC_CONFIG took effect at its boundary. -/
  firstFrame : Bool := true
  cfgChanged : Bool := false
  /-- R276: consecutive frames with D3 missed. Table 10-13 counters. Reset: 0 (10.6). -/
  d3Run : Nat := 0
  nHit : Nat := 0
  nSquash : Nat := 0
  nD3 : Nat := 0
  nSwitch : Nat := 0
  squashBy : Vector Nat 5 := Vector.replicate 5 0
  /-- R261: reported slack, frames above and below the alarm figure per axis, the axes raised. Reset: 0. -/
  slack : Vector Int 3 := Vector.replicate 3 0
  slackRun : Vector Nat 3 := Vector.replicate 3 0
  slackClear : Nat := 0
  slackOn : Nat := 0
  /-- Section power of the issued setpoints, W. -/
  secPower : Vector Nat 4 := Vector.replicate 4 0
  /-- R271: running cycle, latest completed one, starting boundary of the latest start. Reset: none. -/
  ca : Option CaResult := none
  caDone : Option CaResult := none
  caStart : Option Nat := none
  /-- R272: EV62 standing and its code; worst code and largest U of the latest evaluation; cycles below CONS_CLEAR; NOM_OVER. R273: EV63 standing. Reset: none. -/
  conseq : Bool := false
  conseqCode : Nat := 0
  worst : Nat := 0
  worstU : Nat := 0
  conseqClear : Nat := 0
  nomOver : Bool := false
  caSlow : Bool := false
  deriving DecidableEq, Repr

/-- Table 11-2: engine states. -/
inductive LeState where | unconfigured | open | closed | tracking | released | shadow
  deriving DecidableEq, Repr

/-- One loop engine (11.1 to 11.4). Integrator and filter with 32 fraction bits (R279). -/
structure Engine where
  /-- Table 11-2. Reset: UNCONFIGURED (log entry 1). -/
  st : LeState := .unconfigured
  /-- In SHADOW: the state of this engine in the owner, mirrored (R332). -/
  own : LeState := .unconfigured
  manual : Int := 0
  /-- The setpoint of the last tick and the one that applies from the next (R283). -/
  sp : Int := 0
  spReq : Int := 0
  fb : Int := 0
  err : Int := 0
  /-- Last valid source value (R278). -/
  fbRaw : Int := 0
  fbStale : Bool := false
  /-- v before the clamp and u, the value of the last tick and the rate-limit state. -/
  v : Int := 0
  u : Int := 0
  i : Int := 0
  fbf : Int := 0
  fbfPrev : Int := 0
  sat : Bool := false
  /-- LOOP_CLOSE or LOOP_OPEN interpreted, acting at the next tick (R282, R283). -/
  closeReq : Bool := false
  openReq : Bool := false
  /-- MT of the last tick. -/
  tickMt : Option Nat := none
  /-- R286: MT at which the following-error timer started; the episode has been raised. -/
  feSince : Option Nat := none
  feRaised : Bool := false
  nFe : Nat := 0
  deriving DecidableEq, Repr

/-- A competing group (R284, R285): the winner and the group output. -/
structure Group where
  winner : Option Nat := none
  out : Int := 0
  deriving DecidableEq, Repr

/-- A running Folly test (R292 to R294). -/
structure Folly where
  port : Port
  tag : Nat
  le : Nat
  output : Bool
  signal : Nat
  amp : Int
  f0 : Nat
  f1 : Nat
  settle : Nat
  decim : Nat
  chans : List Nat
  stopOnFe : Bool
  /-- Ticks injected, samples taken, MT of sample 0, injection of the last tick. -/
  tick : Nat := 0
  taken : Nat := 0
  mt0 : Nat := 0
  inj : Int := 0
  /-- Table 11-8 cause that ends it at the next tick. -/
  stopReq : Option Nat := none
  /-- Samples so far, newest first, one list per used channel. -/
  samples : List (List Int) := []
  deriving DecidableEq, Repr

/-- A Folly capture (object kind 0x0030): header figures, channel descriptors and samples, oldest first, one list per channel. -/
structure Capture where
  decim : Nat
  taken : Nat
  mt0 : Nat
  period : Nat
  desc : List Nat
  samples : List (List Int)
  deriving DecidableEq, Repr

/-- A homing run (R300). -/
structure Homing where
  port : Port
  tag : Nat
  /-- Words 0 to 7 of PROF_HOME in expert layout. -/
  words : List Word
  /-- Position at the start, 2^-32 counts. -/
  from0 : Int := 0
  stallSince : Option Nat := none
  /-- The stall has come: the back-off runs. -/
  stalled : Bool := false
  /-- HOME_TRAVEL was reached, or the command was aborted: the channel stops. -/
  failing : Bool := false
  aborted : Bool := false
  deriving DecidableEq, Repr

/-- A move request that waits for the tick at which it is planned (R296). -/
structure MoveReq where
  vel : Bool
  relative : Bool := false
  target : Int
  pct : Nat := 100
  cmd : Option (Port × Nat) := none
  deriving DecidableEq, Repr

/-- One profile channel (11.8): position, velocity and acceleration in 2^-32 counts, per s and per s². -/
structure Prof where
  pos : Int := 0
  vel : Int := 0
  acc : Int := 0
  /-- Target in counts or counts/s, and which. -/
  target : Int := 0
  velMode : Bool := false
  moving : Bool := false
  homed : Bool := false
  req : Option MoveReq := none
  /-- What is left of the plan: duration in ticks of 10 ns and jerk of each piece. -/
  plan : List (Nat × Int) := []
  /-- The command of the running move. -/
  cmd : Option (Port × Nat) := none
  /-- R297: steps emitted (the position counter of a STEPDIR channel), rising edges of the last tick in 10 ns from its start, direction line. -/
  steps : Int := 0
  edges : List Nat := []
  dirNeg : Bool := false
  /-- MT of the last tick. -/
  tickMt : Option Nat := none
  /-- R299: REDUCE_DO asserted, MT since which the channel is at rest, MT at which the release delay ends. -/
  reduce : Bool := false
  restSince : Option Nat := none
  holdUntil : Option Nat := none
  /-- R298. -/
  peSince : Option Nat := none
  peRaised : Bool := false
  nPfe : Nat := 0
  home : Option Homing := none
  deriving DecidableEq, Repr

/-- Loop cluster and profile generators, with the field outputs (11). -/
structure LoopState where
  le : Vector Engine 64 := Vector.replicate 64 {}
  group : Vector Group 16 := Vector.replicate 16 {}
  pc : Vector Prof 16 := Vector.replicate 16 {}
  folly : Option Folly := none
  capture : Option Capture := none
  /-- Land values: AO0 to AO7 in uV before the DAC rounds them, DO0 to DO15 (R67). Reset: 0 V and off (R67). -/
  ao : Vector Int 8 := Vector.replicate 8 0
  dout : Vector Bool 16 := Vector.replicate 16 false
  /-- CAN command COUNTER per thruster (Table 11-5) and the last command values. -/
  canCounter : Vector Nat 16 := Vector.replicate 16 0
  canThrust : Vector Int 16 := Vector.replicate 16 0
  canAz : Vector Nat 16 := Vector.replicate 16 0
  /-- Last valid CAN feedback SPEED, PITCH, AZ per thruster. -/
  canFb : Vector (Int × Int × Nat) 16 := Vector.replicate 16 (0, 0, 0)
  canFbStale : Vector Bool 16 := Vector.replicate 16 true
  /-- A function other than NONE drove the bound engines at the last step 6 (R291). -/
  driving : Bool := false
  deriving DecidableEq, Repr

end Sys2Proof
end

