-- ==== Sys2Proof/Types/Dpx.lean ====
section
/-! DEFINITION. Records of duplex operation: heartbeats, mirror frames, partner view (chapter 13). -/

namespace Sys2Proof

/-- Table 13-2: a heartbeat. -/
structure Heartbeat where
  mode : Mode := .kindling
  own : Bool := false
  healthy : Bool := false
  pref : Bool := false
  reclaimReq : Bool := false
  sync : Bool := false
  giveup : Bool := false
  transferReq : Bool := false
  mirrorVer : Byte := 0
  fn : Nat := 0
  seq : Nat := 0
  mtTx : Nat := 0
  cfgCrc : Word := 0
  serial : Nat := 0
  diag : Nat := 0
  /-- The CRC of word 7 passes. -/
  crcOk : Bool := true
  /-- Lane it arrived on. -/
  lane : Fin 2 := 0
  deriving DecidableEq, Repr

/-- Table 13-3 OUTPUTS: the last issued values. -/
structure OutMirror where
  ao : Vector Int 8 := Vector.replicate 8 0
  dout : Vector Bool 16 := Vector.replicate 16 false
  canThrust : Vector Int 16 := Vector.replicate 16 0
  canAz : Vector Nat 16 := Vector.replicate 16 0
  canCounter : Vector Nat 16 := Vector.replicate 16 0
  deriving DecidableEq, Repr

/-- Table 13-3 ALLOCATION. -/
structure AllocMirror where
  sol : Vector SetPt 16 := Vector.replicate 16 {}
  causes : Vector Nat 16 := Vector.replicate 16 0
  ret : Vector (Option Nat) 16 := Vector.replicate 16 none
  tau : Vector Int 3 := Vector.replicate 3 0
  tauPrev : Vector Int 3 := Vector.replicate 3 0
  avail : Nat := 0
  deriving DecidableEq, Repr

/-- Table 13-3 ESTIMATE: the published estimate, the main observer with its covariance, the blending state. -/
structure EstMirror where
  est : EstVec := Vector.replicate 27 0
  obs : Option Obs := none
  r : EstVec := Vector.replicate 27 0
  n : Nat := 1
  deriving DecidableEq, Repr

/-- A mirror frame (Table 13-3) by its items; an item left out by MIRROR_MASK is none. -/
structure MirrorFrame where
  frame : Nat := 0
  mt : Nat := 0
  transfer : Bool := false
  handover : Bool := false
  fwd : List FwdCmd := []
  est : Option EstMirror := none
  ctl : Option DpcState := none
  track : Option (List Word × Nat × Bool) := none
  alloc : Option AllocMirror := none
  loops : Option (Vector Engine 64) := none
  profs : Option (Vector Prof 16) := none
  outs : OutMirror := {}
  recorder : Nat := 0
  conseq : Option CaResult := none
  host : Option (List Word) := none
  deriving DecidableEq, Repr

/-- One received mirror segment (R331): the frame it belongs to, its number, whether it is the last, its CRC result, and with the last segment the frame's content. -/
structure MirrorSeg where
  frame : Nat
  seg : Nat
  last : Bool
  crcOk : Bool
  content : MirrorFrame
  deriving DecidableEq, Repr

/-- Duplex operation (13). -/
structure DpxState where
  /-- R325: lanes up, and link delay per lane in ticks (R327). Reset: down, 0 (log entry 1). -/
  lane : Vector Bool 2 := Vector.replicate 2 false
  delay : Vector Nat 2 := Vector.replicate 2 0
  /-- OWN_IN and GIVEUP_IN levels. Reset: low (R323: an absent partner reads so). -/
  ownIn : Bool := false
  giveupIn : Bool := false
  /-- MT at which OWN_IN rose (R342). Reset: 0 (log entry 1). -/
  ownInAt : Nat := 0
  /-- R338: the boundary processed last is the one at which this module takes ownership; EV113 cause, 0 none. Reset: 0. -/
  taking : Nat := 0
  /-- GIVEUP_IN has risen and the takeover boundary has not come (R338). -/
  giveupSeen : Bool := false
  /-- R338: the partner was lost by heartbeats with OWN_IN low. -/
  lost : Bool := false
  /-- MT of the loss or give-up, for LAST_GAP_US. -/
  gapFrom : Nat := 0
  /-- HB_SEQ of the next heartbeat; MT of the last heartbeat sent. -/
  hbSeq : Nat := 0
  hbSent : Option Nat := none
  lastHb : Heartbeat := {}
  /-- R327, R328: latest valid heartbeat and its reception MT. -/
  partner : Option Heartbeat := none
  partnerMt : Nat := 0
  /-- R327: the last 64 offset samples, newest first. -/
  samples : List Int := []
  /-- R328: healthy and reason. Reset: not healthy, reason 5 (duplex disabled by default). -/
  healthy : Bool := false
  reason : Nat := 5
  /-- R328: frames for which the CFG_CRCs have differed. -/
  crcDiff : Nat := 0
  strapConflict : Bool := false
  /-- R329: consecutive good frames and SYNC. -/
  syncRun : Nat := 0
  sync : Bool := false
  /-- R331: owner frame sent in this frame and acknowledged; a mirror was sent. -/
  sent : Option Nat := none
  acked : Bool := false
  /-- R331, R344: the mirror frame sent last. Reset: none. -/
  txMirror : Option MirrorFrame := none
  /-- Table 13-9 MIRROR_FRAME. -/
  mirrorFrame : Nat := 0
  /-- R331: segment failures of the incoming frame. -/
  segFail : Option (Nat × Nat) := none
  /-- R332: newest complete unapplied frame; frame applied last (kept for a takeover). -/
  newest : Option MirrorFrame := none
  applied : Option MirrorFrame := none
  /-- R331: last frame acknowledged by this standby and its CRC result. -/
  ackOut : Option (Nat × Bool) := none
  /-- R333: forwarded commands for the next mirror frame. -/
  fwd : List FwdCmd := []
  /-- R334, R336: giving up; the code; MT at which GIVEUP_OUT was asserted. -/
  givingUp : Bool := false
  giveupCode : Nat := 0
  giveupAt : Nat := 0
  /-- R343: transfer requested: by a command, a SYS_SET_MODE to DORMANT, reclaim or the partner. -/
  transfer : Bool := false
  transferDormant : Bool := false
  transferCmd : Option (Port × Nat) := none
  transferCause : Nat := 3
  /-- R343: the transfer mirror has been sent at this MT. -/
  transferAt : Option Nat := none
  /-- R343: TRANSFER_REQ of a standby with its command and the MT of the first heartbeat with it. -/
  transferReq : Option (Port × Nat) := none
  transferReqAt : Option Nat := none
  /-- R344: hand-over begun at this MT; retry not before this MT. -/
  handoverAt : Option Nat := none
  retryAt : Option Nat := none
  /-- R345: MT at which the count started; RECLAIM_REQ, and the MT at which it was set. -/
  reclaimFrom : Option Nat := none
  reclaimReq : Bool := false
  reclaimAt : Nat := 0
  /-- R341: the releasing module enters DORMANT at its next own boundary. -/
  dormantNext : Bool := false
  /-- R342: dual ownership already reported. -/
  dual : Bool := false
  /-- R351: own host block, and block of the frame applied. -/
  host : List Word := []
  nMiss : Nat := 0
  nCrc : Nat := 0
  nTaken : Nat := 0
  lastGap : Nat := 0
  deriving DecidableEq, Repr

end Sys2Proof
end

