-- ==== Sys2Proof/Types/Kiln.lean ====
section
/-! DEFINITION. Records of the Kiln safety die (chapter 12). -/

namespace Sys2Proof

/-- Table 12-2: Kiln states, in code order. -/
inductive KilnSt where | off | startTest | run | config | recovery | fault
  deriving DecidableEq, Repr

/-- Table 12-5: states of an SBC channel, in code order. -/
inductive ChSt where | disabled | applied | released | test | fault
  deriving DecidableEq, Repr

/-- One SBC channel (12.4, 12.5, 12.9). -/
structure KChan where
  /-- Table 12-5 code. Reset: DISABLED (12.8: a new module holds every channel DISABLED). -/
  st : ChSt := .disabled
  /-- CH_FAULT, a channel cause of Table 12-7; 0 none. Reset: 0. -/
  fault : Nat := 0
  /-- R308.5: a reset under R307 has occurred since every other condition became true. Reset: false (log entry 1). -/
  resetOk : Bool := false
  /-- SBC_WAIT_RESET (EV107) stands: manual restart pending. Reset: false (log entry 1). -/
  waiting : Bool := false
  /-- SBCn_A, SBCn_B: the lands. Reset: low (Table 12-2 OFF). -/
  outA : Bool := false
  outB : Bool := false
  /-- R310: the output in its test pulse, true for B. Reset: none. -/
  pulse : Option Bool := none
  /-- R310: the 100 us after a pulse in which the glitch filters stay forced end at this instant. Reset: none. -/
  forcedTill : Option Nat := none
  /-- R310: the instant since which the channel has been RELEASED. Reset: none. -/
  relSince : Option Nat := none
  /-- R312: the instant the Kiln last switched an output. Reset: 0 (log entry 1). -/
  switched : Nat := 0
  /-- Mirror contacts closed (FBA, FBB) and readback levels (RBA, RBB). Reset: low (log entry 1: an open land reads low, Table 19-4). -/
  fba : Bool := false
  fbb : Bool := false
  rba : Bool := false
  rbb : Bool := false
  /-- N_INCOMPLETE and N_PASSED, saturating at 255. Reset: 0 (12.10: restart only at VKILN power-on). -/
  nInc : Nat := 0
  nPass : Nat := 0
  deriving DecidableEq, Repr

/-- One pair of safe inputs (12.3). -/
structure KPair where
  /-- The pair is in demand (dual pair), or input 2j, input 2j+1 (MODE 0). Reset: in demand (an input low is a demand, 12.3). -/
  dem0 : Bool := true
  dem1 : Bool := true
  /-- R305: PAIR_FAULT. Reset: false (log entry 1). -/
  fault : Bool := false
  /-- R305: the inputs of a faulted pair have stood at the same time in the demand state. Reset: false (log entry 1). -/
  bothSeen : Bool := false
  /-- R305: the instant at which a discrepancy began. Reset: none. -/
  discSince : Option Nat := none
  deriving DecidableEq, Repr

/-- The 37 words that a new module holds (12.8): every channel DISABLED, SD_ENABLE 0. DESIGN CHOICE, log entry 2: RESET_SI 0xFF, every pair MODE 0, and the defaults of words 18 to 36 of Table 12-10. -/
def newKilnWords : List Word :=
  [0x00FF0000] ++ List.replicate 17 0 ++ [0x27100064, 0xFFFFFFFF, 300] ++ List.replicate 8 0x00010064 ++ List.replicate 8 0x00640000

/-- One copy of the Kiln configuration (12.8): generation, the 37 words of Table 12-10, CRC valid. -/
structure KCopy where
  gen : Nat := 0
  words : List Word := newKilnWords
  valid : Bool := true
  deriving DecidableEq, Repr

/-- The first valid copy of a safe-data telegram whose 5 ms window is open (Table 12-9). -/
structure SdOpen where
  seq : Nat
  bytes : List Byte
  bus4 : Bool
  since : Nat
  deriving DecidableEq, Repr

/-- Safe data (12.7). -/
structure SdState where
  /-- SD_STATE: 0 off, 1 FULL, 2 DEGRADED, 3 SD_REACTION. Reset: 0 (12.8: SD_ENABLE 0). -/
  st : Nat := 0
  /-- R316: last accepted SEQ; none accepts the first valid SEQ. Reset: none. -/
  lastSeq : Option Nat := none
  /-- Table 12-9: the SEQs whose window is open, oldest first. Reset: none. -/
  wins : List SdOpen := []
  /-- R317: the permit bits in force. Reset: 0 (log entry 1: no telegram accepted). -/
  permit : BitVec 16 := 0
  /-- R318: instants of the last acceptance and of the last FULL acceptance. Reset: 0 (log entry 1). -/
  accAt : Nat := 0
  fullAt : Nat := 0
  /-- R318: consecutive FULL acceptances in SD_REACTION, and the reason of the reaction. Reset: 0. -/
  run : Nat := 0
  why : Nat := 0
  /-- Table 12-13 EV102: the bus reported missing. Reset: 3 (log entry 1). -/
  missing : Nat := 3
  /-- EV104 at most once per second. Reset: none. -/
  mismatchAt : Option Nat := none
  nMismatch : Nat := 0
  nDiscard : Nat := 0
  nDegraded : Nat := 0
  deriving DecidableEq, Repr

/-- A KILN_CONFIRM whose write is in progress (R320): the target copy, the generation and the command; none after a control-die reset (R321). -/
structure KWrite where
  target : Fin 2
  gen : Nat
  words : List Word
  cmd : Option (Port × Nat) := none
  deriving DecidableEq, Repr

/-- A Kiln event on its way to the control die (R322). -/
structure KEvent where
  src : Nat
  detail : Nat
  deriving DecidableEq, Repr

/-- The Kiln (12). -/
structure KilnState where
  /-- Table 12-2. Reset: OFF (Table 12-2: VKILN has not risen). -/
  st : KilnSt := .off
  /-- Kiln fault cause of Table 12-7; 0 none. Reset: 0. -/
  fault : Nat := 0
  /-- VKILN above 2.9 V. Reset: false (log entry 1). -/
  vkiln : Bool := false
  /-- 12.8: the two copies. Reset: generation 0, every channel DISABLED, SD_ENABLE 0 (12.8, a new module). -/
  copies : Vector KCopy 2 := Vector.replicate 2 {}
  inUse : Fin 2 := 0
  /-- R319: the staged image and the instant of its KILN_CONFIG. Reset: none. -/
  staged : Option (List Word × Nat) := none
  write : Option KWrite := none
  /-- R321: a write was interrupted and the next start reports it. Reset: false. -/
  interrupted : Bool := false
  /-- Land levels and filtered levels of SI0 to SI15. Reset: low (Table 19-4: an open land reads low). -/
  si : Vector Bool 16 := Vector.replicate 16 false
  filt : Vector Bool 16 := Vector.replicate 16 false
  pair : Vector KPair 8 := Vector.replicate 8 {}
  ch : Vector KChan 8 := Vector.replicate 8 {}
  sd : SdState := {}
  /-- R315: latest well-formed word of each path with the instant of its arrival. Reset: none. -/
  path : Vector (Option (Byte × Nat)) 2 := Vector.replicate 2 none
  /-- R315: paths disagreeing or ill-formed since. Reset: none. -/
  cdBadSince : Option Nat := none
  /-- R315: the Kiln treats every CD_GATE channel as having no request. Reset: false. -/
  cdBad : Bool := false
  /-- CD_SET: the mask set by KILN_BRAKE. Reset: 0 (12.6: returns to 0 at every reset). -/
  cdSet : Byte := 0
  /-- R315: reset requests asserted. Reset: 0. -/
  resetReq : Bool := false
  /-- R322: events not yet arrived in the control die. Reset: none. -/
  evq : List KEvent := []
  deriving DecidableEq, Repr

end Sys2Proof
end

