-- ==== Sys2Proof/Types/Store.lean ====
section
/-! DEFINITION. Records of the working configuration, the banks, the Woodshed, the bulk handles and the subscriptions (chapters 02, 15, 16, 18). -/

namespace Sys2Proof

/-- One instance of one function of the working configuration (R379, R386): its opcode, instance and words in expert layout. A bulk object stands under BULK_CLOSE with the instance of Table 18-19. -/
structure CfgEntry where
  op : Op
  inst : Nat
  words : List Word
  deriving DecidableEq, Repr

/-- A configuration bank (R381). -/
structure Bank where
  begun : Bool := false
  valid : Bool := false
  gen : Nat := 0
  format : Nat := 0
  crcOk : Bool := true
  writes : Nat := 0
  image : List CfgEntry := []
  deriving DecidableEq, Repr

/-- A CFG_COMMIT in progress (Table 15-5). -/
structure Commit where
  port : Port
  tag : Nat
  fwd : Bool := false
  target : Fin 2
  gen : Nat
  image : List CfgEntry
  deriving DecidableEq, Repr

/-- A CFG_LOAD waiting for its boundary (R385). -/
structure LoadReq where
  port : Port
  tag : Nat
  fwd : Bool := false
  bank : Nat
  deriving DecidableEq, Repr

/-- Calibration and configuration storage (15). -/
structure CfgState where
  /-- R379: the working configuration, sorted; parameters at their Lennov default are not listed (R380). Reset: empty (R76, the Lennov defaults). -/
  work : List CfgEntry := []
  /-- The part of it that has taken effect. Reset: empty. -/
  force : List CfgEntry := []
  /-- Functions and instances whose accepted command has not taken effect yet. Reset: none. -/
  pend : List (Op × Nat) := []
  /-- R381: banks A and B. Reset: neither written (log entry 2: what a shipped NF0 holds is not in the spec). -/
  bank : Vector Bank 2 := Vector.replicate 2 {}
  /-- IN_USE. Reset: none. -/
  inUse : Option (Fin 2) := none
  commit : Option Commit := none
  /-- R385: CFG_LOADs waiting for the next frame boundary, in order. Reset: none. -/
  loads : List LoadReq := []
  /-- R377: the control point in force. Reset: 0 (R76, the Lennov defaults hold no vessel model). -/
  cp : Vector Word 3 := Vector.replicate 3 0
  /-- R377: a vessel model whose control point awaits its commit. Reset: false. -/
  cpPending : Bool := false
  /-- R377: the commit that stores it has completed. Reset: false. -/
  cpStored : Bool := false
  /-- R386: EV125 detail to raise at step 9. -/
  startDetail : Option Nat := none
  deriving DecidableEq, Repr

/-- A Woodshed record (Table 16-1); the CRC and valid mark are computed where it is read raw. -/
structure Rec where
  code : Nat
  source : Nat
  sev : Nat
  fwd : Bool := false
  opSec : Nat
  opMs : Nat
  pwrCyc : Nat
  seq : Nat
  payload : List Byte
  deriving DecidableEq, Repr

/-- A ring slot that is not unwritten (R387). -/
inductive Slot where
  | full (r : Rec)
  | torn
  deriving DecidableEq, Repr

/-- A token bucket (R399) in 1/60,000,000 token (tokens per minute against milliseconds): tokens and the MT they hold at. -/
structure Bucket where
  code : Nat
  tokens : Nat
  at_ : Nat
  deriving DecidableEq, Repr

/-- Suppressed occurrences of a code in the running interval (R400). -/
structure Supp where
  code : Nat
  n : Nat
  first : Nat
  deriving DecidableEq, Repr

/-- The Woodshed (16). -/
structure LogState where
  /-- R390: at most 512 records, oldest first. Reset: empty (log entry 1). -/
  queue : List Rec := []
  /-- R389: the slots that are not unwritten, by index 0 to 2,097,151, oldest first. Reset: empty (R395: shipped erased). -/
  ring : List (Nat × Slot) := []
  /-- R389: the slot programmed next. Reset: 0 (R396: empty ring). -/
  head : Nat := 0
  /-- R389: the sector whose erase is in progress. Reset: none. -/
  erasing : Option Nat := none
  /-- R388: next SEQ. Reset: 0 (R396, empty ring). -/
  seq : Nat := 0
  /-- R394: the sector whose erase a power-fail flush or a loss of VMAIN abandoned; it is erased again at the next start. Reset: none. -/
  again : Option Nat := none
  /-- R391: records dropped since the last BUFFER_OVERFLOW: first SEQ and number. Reset: none. -/
  dropped : Option (Nat × Nat) := none
  /-- R394: after a power-fail flush records are discarded. Reset: false. -/
  discard : Bool := false
  /-- R399: buckets used since the reset; an unlisted code has a full bucket. Reset: none (R399: full). -/
  bucket : List Bucket := []
  /-- R400: suppressed counts of the running interval. Reset: none. -/
  supp : List Supp := []
  /-- R400: operating second at which the running interval ends. Reset: 60 (Table 16-6 default grid). -/
  interval : Nat := 60
  /-- R396: operating ticks at the latest record. Reset: 0 (log entry 1). -/
  lastOp : Nat := 0
  /-- R393: the 64-entry buffer in PD1 of occurrences routed to a record while PD2 is off; SEQ is given at the exit. Reset: empty (log entry 1). -/
  held : List Rec := []
  /-- R393: occurrences beyond the 64. Reset: 0 (log entry 1). -/
  heldLost : Nat := 0
  /-- Table 16-7 counters. Reset: 0 (16.7). -/
  nLost : Nat := 0
  nSupp : Nat := 0
  nTorn : Nat := 0
  /-- Table 16-2 LOSS_MARK byte 9: write mode in force at the record programmed last, true BUFFERED. Reset: DIRECT (16.7, the Lennov default). -/
  ringMode : Bool := false
  deriving DecidableEq, Repr

/-- An open bulk handle (2.9). -/
structure Handle where
  port : Port
  kind : Nat
  inst : Nat
  /-- true: direction 1, from module. -/
  fromMod : Bool
  len : Nat
  crc : Word
  /-- Direction 0: words received, newest first. Direction 1: the copy, in order. -/
  data : List Word
  next : Nat
  /-- R59: MT of the last bulk command that named it. -/
  last : Nat
  deriving DecidableEq, Repr

/-- A subscription (R416): stream opcode, instance, port, rate or decimation, further argument (mask). -/
structure Sub where
  stream : Nat
  inst : Nat
  port : Port
  decim : Nat
  arg : Nat := 0
  deriving DecidableEq, Repr

end Sys2Proof
end

