-- ==== Sys2Proof/Types/Inputs.lean ====
section
/-! DEFINITION. What the outside world, or an algorithm the spec does not give, supplies to a step: the operands of the event rows. -/

namespace Sys2Proof

/-- What a start-up finds (Table 3-4, R74 to R78, R373): strap, image verification, BIST, IMU settling, factory block, Kiln status link. -/
structure StartIn where
  pref : Bool := false
  imageOk : Vector Bool 2 := Vector.replicate 2 true
  factoryOk : Bool := true
  bistOk : Vector Bool 4 := Vector.replicate 4 true
  belvOk : Bool := true
  loopOk : Bool := true
  imuOk : Bool := true
  /-- The stimulus self-test of the inertial readout passes (R137). -/
  imuTest : Bool := true
  /-- The Kiln's state arrives by the limit of step 8 (R78). -/
  kilnRx : Bool := true
  /-- Result of a Kiln start-up test in progress that ends by that limit; none: it does not end by then. -/
  kilnTest : Option Bool := none
  /-- A further reset of this cause arrives just before this step (5 to 9); 0 none (R80, R81). -/
  cutAt : Nat := 0
  cutBy : RstCause := .rstN
  deriving DecidableEq, Repr

/-- R456: what a slot holds whose programming VMAIN loss cut. -/
inductive SlotFate where | unwritten | complete | torn
  deriving DecidableEq, Repr

/-- R13: the unit that owns a failed link. -/
inductive LinkUnit where
  | region (r : Fin 4) | baseband (b : Fin 2) | belvedere | inertial | flash (nf1 : Bool) | kiln | other
  deriving DecidableEq, Repr

/-- A time solution (R108 to R112): its baseband, the MT of a GPS second boundary in 10^-4 tick and that second's time of week, TCXO frequency error in 10^-12, error figure in ns, satellites. -/
structure TimeSol where
  bb : Fin 2 := 0
  sec : Nat := 0
  tow : Nat := 0
  fErr : Int := 0
  errNs : Nat := 0
  sats : Nat := 0
  deriving DecidableEq, Repr

/-- What a channel measures at an epoch (Table 5-6): C/N0 in 0.25 dB-Hz, pseudorange, phase, Doppler. -/
structure ChanIn where
  cn0 : Nat := 0
  pr : Nat := 0
  phase : Int := 0
  dop : Int := 0
  deriving DecidableEq, Repr

/-- What an epoch finds (R123): the measurements by channel of A and B, and the PRNs above the elevation mask of each. -/
structure EpochIn where
  chans : Vector (Vector ChanIn 32) 2 := Vector.replicate 2 (Vector.replicate 32 {})
  above : Vector (List Nat) 2 := Vector.replicate 2 []
  deriving DecidableEq, Repr

/-- A position solution as Pergola computes it (R126): PRNs above the elevation mask, position and standard deviations, HDOP in hundredths, the test statistic in thousandths with all rows and without the excluded one, the normalised residual in thousandths by PRN, the time solution if there is one. -/
structure PvtIn where
  above : List Nat := []
  lat : Int := 0
  lon : Int := 0
  height : Int := 0
  sigN : Nat := 0
  sigE : Nat := 0
  sigD : Nat := 0
  hdop : Nat := 0
  stat : Nat := 0
  stat2 : Nat := 0
  resid : List (Nat × Nat) := []
  time : Option TimeSol := none
  deriving DecidableEq, Repr

/-- A heading solution as Pergola computes it (R130 to R132): PRNs above the elevation mask, the ratio in tenths and the integer set of the smallest residual by PRN, the double difference less what the fixed baseline predicts, in thousandths of a cycle, by PRN, the solved length in mm, azimuth and elevation in 2^-32 turn. -/
structure HdgIn where
  above : List Nat := []
  ratio : Nat := 0
  ints : List (Nat × Int) := []
  dd : List (Nat × Int) := []
  len : Nat := 0
  az : Nat := 0
  el : Int := 0
  deriving DecidableEq, Repr

/-- What a slot's converter or readout delivers at a sample instant: the uncorrected readings (the three axes of the sensor, or the one input) or nothing, a temperature where one is read, and whether the word's parity failed (R137, R138). -/
structure SampleIn where
  raw : List Int := []
  temp : Option Int := none
  missing : Bool := false
  parity : Bool := false
  deriving DecidableEq, Repr

end Sys2Proof
end

