-- ==== Sys2Proof/Syntax.lean ====
section
/-! DEFINITION. The commands of the block: one constructor per row of spec/opcode_table.json. An opcode row names the port whose accepted packet it interprets; an event row carries what the outside world supplies. -/

namespace Sys2Proof

/-- The rows of the opcode table (18, 95). -/
inductive Instr where
  /-- CMDQ_WRITE_RESUME (R33). -/
  | cmdqWriteResume
  /-- ACCESS_ABANDONED (R34). -/
  | accessAbandoned
  /-- CONFLICTING_STROBE (R35). -/
  | conflictingStrobe
  /-- HP_RSPQ_READ (R34). -/
  | hpRspqRead (e : Ecc)
  /-- HP_ECC_READ (R7). -/
  | hpEccRead (late : EccCounts)
  /-- HP_WAKE_WRITE (R63). -/
  | hpWakeWrite (v : Word)
  /-- HP_STAT_CLEAR (R7). -/
  | hpStatClear (v setDuring : Word)
  /-- HP_IRQ_CLEAR (R64). -/
  | hpIrqClear (n : Fin 4) (v setDuring : Word)
  /-- HP_IMSK_WRITE (R404). -/
  | hpImskWrite (n : Fin 4) (v : Word)
  /-- RTC_SHADOW_READ (R93). -/
  | rtcShadowRead (r : Fin 6)
  /-- RTC_YEAR_READ (R93). -/
  | rtcYearRead
  /-- RTC_COMMIT (R95). -/
  | rtcCommit
  /-- RTC_CTL_CLEAR (R6). -/
  | rtcCtlClear (v setDuring : Word)
  /-- REGISTER_WRITE (R32). -/
  | registerWrite (a : BitVec 8) (v : Word)
  /-- COMMAND_INTAKE (R36). -/
  | commandIntake (p : Port)
  /-- PACKET_TIMEOUT (R43). -/
  | packetTimeout (p : Port)
  /-- REPLY_TRANSFER (R36). -/
  | replyTransfer (p : Port)
  /-- UNSOL_LOST (R408). -/
  | unsolLost (p : Port)
  /-- BULK_HANDLE_TIMEOUT (R59). -/
  | bulkHandleTimeout (h : Fin 4)
  /-- SYS_GET_ID (R419). -/
  | sysGetId (p : Port)
  /-- SYS_SET_MODE (R71). -/
  | sysSetMode (p : Port)
  /-- SYS_SET_WAKE (R421). -/
  | sysSetWake (p : Port)
  /-- SYS_ABORT (R53). -/
  | sysAbort (p : Port)
  /-- SYS_RESET (R422). -/
  | sysReset (p : Port)
  /-- TIME_GET (R89). -/
  | timeGet (p : Port)
  /-- TIME_SET_RTC (R100). -/
  | timeSetRtc (p : Port)
  /-- TIME_SET_ALARM (R102). -/
  | timeSetAlarm (p : Port)
  /-- TIME_GET_ALARM (R423). -/
  | timeGetAlarm (p : Port)
  /-- GNSS_CONFIG (R133). -/
  | gnssConfig (p : Port)
  /-- GNSS_RTCM_CONFIG (R133). -/
  | gnssRtcmConfig (p : Port)
  /-- GNSS_HDG_CONFIG (R129). -/
  | gnssHdgConfig (p : Port)
  /-- GNSS_STREAM (R424). -/
  | gnssStream (p : Port)
  /-- GNSS_RESTART (R425). -/
  | gnssRestart (p : Port)
  /-- FUS_REF_CONFIG (R150). -/
  | fusRefConfig (p : Port)
  /-- FUS_REF_ENABLE (R178). -/
  | fusRefEnable (p : Port)
  /-- FUS_REF_CAPTURE (R160). -/
  | fusRefCapture (p : Port)
  /-- FUS_VOTE_CONFIG (R178). -/
  | fusVoteConfig (p : Port)
  /-- FUS_OBSERVER_CONFIG (R178). -/
  | fusObserverConfig (p : Port)
  /-- FUS_REF_STATUS (R178). -/
  | fusRefStatus (p : Port)
  /-- FUS_SENSOR_STREAM (R427). -/
  | fusSensorStream (p : Port)
  /-- FUS_STATE_STREAM (R416). -/
  | fusStateStream (p : Port)
  /-- SOLV_STRUCT_DEFINE (R191). -/
  | solvStructDefine (p : Port)
  /-- SOLV_STRUCT_DELETE (R193). -/
  | solvStructDelete (p : Port)
  /-- SOLV_UPDATE (R195). -/
  | solvUpdate (p : Port)
  /-- SOLV_STRUCT_QUERY (R188). -/
  | solvStructQuery (p : Port)
  /-- SOLV_SUBMIT (R196). -/
  | solvSubmit (p : Port)
  /-- SOLV_RESULT_READ (R198). -/
  | solvResultRead (p : Port)
  /-- SOLV_PLACEMENT (R210). -/
  | solvPlacement (p : Port)
  /-- DPC_SET_FUNCTION (R223). -/
  | dpcSetFunction (p : Port)
  /-- DPC_SET_DATUM (R220). -/
  | dpcSetDatum (p : Port)
  /-- DPC_SET_ROTATION_POINT (R221). -/
  | dpcSetRotationPoint (p : Port)
  /-- DPC_CONTROLLER_CONFIG (R229). -/
  | dpcControllerConfig (p : Port)
  /-- DPC_MPC_CONFIG (R232). -/
  | dpcMpcConfig (p : Port)
  /-- DPC_MOVE_CONFIG (R249). -/
  | dpcMoveConfig (p : Port)
  /-- DPC_SET_TARGET (R235). -/
  | dpcSetTarget (p : Port)
  /-- DPC_JOYSTICK (R225). -/
  | dpcJoystick (p : Port)
  /-- DPC_JOYSTICK_CONFIG (R249). -/
  | dpcJoystickConfig (p : Port)
  /-- DPC_TRACK_CONTROL (R244). -/
  | dpcTrackControl (p : Port)
  /-- DPC_POWER_CONFIG (R245). -/
  | dpcPowerConfig (p : Port)
  /-- DPC_STATUS (R429). -/
  | dpcStatus (p : Port)
  /-- DPC_STATE_STREAM (R416). -/
  | dpcStateStream (p : Port)
  /-- ALLOC_THRUSTER_CONFIG (R250). -/
  | allocThrusterConfig (p : Port)
  /-- ALLOC_CONFIG (R275). -/
  | allocConfig (p : Port)
  /-- ALLOC_THRUSTER_ENABLE (R268). -/
  | allocThrusterEnable (p : Port)
  /-- ALLOC_THRUSTER_STATUS (R430). -/
  | allocThrusterStatus (p : Port)
  /-- ALLOC_STATUS (R275). -/
  | allocStatus (p : Port)
  /-- ALLOC_ENVELOPE_READ (R272). -/
  | allocEnvelopeRead (p : Port)
  /-- ALLOC_CONSEQ_CONFIG (R275). -/
  | allocConseqConfig (p : Port)
  /-- ALLOC_STATE_STREAM (R416). -/
  | allocStateStream (p : Port)
  /-- LOOP_CONFIG (R281). -/
  | loopConfig (p : Port)
  /-- LOOP_THRUSTER_BIND (R289). -/
  | loopThrusterBind (p : Port)
  /-- LOOP_SET_COEFF (R281). -/
  | loopSetCoeff (p : Port)
  /-- LOOP_CLOSE (R282). -/
  | loopClose (p : Port)
  /-- LOOP_OPEN (R283). -/
  | loopOpen (p : Port)
  /-- LOOP_SET_MANUAL (R283). -/
  | loopSetManual (p : Port)
  /-- LOOP_SET_SETPOINT (R283). -/
  | loopSetSetpoint (p : Port)
  /-- LOOP_GROUP (R284). -/
  | loopGroup (p : Port)
  /-- LOOP_STATUS (R278). -/
  | loopStatus (p : Port)
  /-- FOLLY_START (R292). -/
  | follyStart (p : Port)
  /-- FOLLY_STOP (R294). -/
  | follyStop (p : Port)
  /-- PROF_CONFIG (R295). -/
  | profConfig (p : Port)
  /-- PROF_MOVE (R296). -/
  | profMove (p : Port)
  /-- PROF_HOME (R300). -/
  | profHome (p : Port)
  /-- PROF_STATUS (R432). -/
  | profStatus (p : Port)
  /-- BUS_CAN_CONFIG (R353). -/
  | busCanConfig (p : Port)
  /-- BUS_CAN_FILTER (R361). -/
  | busCanFilter (p : Port)
  /-- BUS_CAN_SEND (R356). -/
  | busCanSend (p : Port)
  /-- BUS_CAN_RECEIVE (R363). -/
  | busCanReceive (p : Port)
  /-- BUS_CAN_SLEEP (R364). -/
  | busCanSleep (p : Port)
  /-- BUS_CAN_RECOVER (R358). -/
  | busCanRecover (p : Port)
  /-- BUS_CAN_RELEASE (R360). -/
  | busCanRelease (p : Port)
  /-- BUS_CAN_STATUS (R372). -/
  | busCanStatus (p : Port)
  /-- BUS_UART_CONFIG (R368). -/
  | busUartConfig (p : Port)
  /-- BUS_UART_SEND (R371). -/
  | busUartSend (p : Port)
  /-- BUS_UART_STATUS (R433). -/
  | busUartStatus (p : Port)
  /-- BUS_STREAM (R416). -/
  | busStream (p : Port)
  /-- KILN_CONFIG (R319). -/
  | kilnConfig (p : Port)
  /-- KILN_CONFIRM (R320). -/
  | kilnConfirm (p : Port)
  /-- KILN_READ_CONFIG (R319). -/
  | kilnReadConfig (p : Port)
  /-- KILN_STATUS (R322). -/
  | kilnStatus (p : Port)
  /-- KILN_BRAKE (R315). -/
  | kilnBrake (p : Port)
  /-- KILN_ACK (R307). -/
  | kilnAck (p : Port)
  /-- DPX_CONFIG (R350). -/
  | dpxConfig (p : Port)
  /-- DPX_TRANSFER (R343). -/
  | dpxTransfer (p : Port)
  /-- DPX_STATUS (R328). -/
  | dpxStatus (p : Port)
  /-- DPX_HOST_DATA_WRITE (R351). -/
  | dpxHostDataWrite (p : Port)
  /-- DPX_HOST_DATA_READ (R351). -/
  | dpxHostDataRead (p : Port)
  /-- CAL_SET (R375). -/
  | calSet (p : Port)
  /-- CAL_READ (R375). -/
  | calRead (p : Port)
  /-- CFG_FIR_CHANNEL (R147). -/
  | cfgFirChannel (p : Port)
  /-- CFG_FIR_QUERY (R146). -/
  | cfgFirQuery (p : Port)
  /-- CFG_MODULE (R379). -/
  | cfgModule (p : Port)
  /-- CFG_COMMIT (R382). -/
  | cfgCommit (p : Port)
  /-- CFG_LOAD (R385). -/
  | cfgLoad (p : Port)
  /-- CFG_STATUS (R381). -/
  | cfgStatus (p : Port)
  /-- BUS_MAINT_CONFIG (R61). -/
  | busMaintConfig (p : Port)
  /-- LOG_CONFIG (R401). -/
  | logConfig (p : Port)
  /-- LOG_RATE (R401). -/
  | logRate (p : Port)
  /-- LOG_READ (R402). -/
  | logRead (p : Port)
  /-- LOG_STATUS (R402). -/
  | logStatus (p : Port)
  /-- LOG_WRITE (R401). -/
  | logWrite (p : Port)
  /-- EVT_ROUTE (R406). -/
  | evtRoute (p : Port)
  /-- EVT_QUERY (R410). -/
  | evtQuery (p : Port)
  /-- BULK_OPEN (R56). -/
  | bulkOpen (p : Port)
  /-- BULK_WRITE (R57). -/
  | bulkWrite (p : Port)
  /-- BULK_READ (R454). -/
  | bulkRead (p : Port)
  /-- BULK_CLOSE (R58). -/
  | bulkClose (p : Port)
  /-- MAIN_POWER_ON (R38). -/
  | mainPowerOn (k : StartIn)
  /-- VMAIN_LOSS (R92). -/
  | vmainLoss (fate : SlotFate)
  /-- EMBER_CONTENT_LOSS (R92). -/
  | emberContentLoss
  /-- RST_N_ASSERT (R81). -/
  | rstNAssert (widthNs : Nat)
  /-- RST_N_RELEASE (R81). -/
  | rstNRelease
  /-- WARM_RESET_START (R80). -/
  | warmResetStart (k : StartIn)
  /-- FW_RUN_CONFIRM (R74). -/
  | fwRunConfirm
  /-- WATCHDOG_EXPIRY (R335). -/
  | watchdogExpiry
  /-- WATCHDOG_RESET_DELAY_END (R335). -/
  | watchdogResetDelayEnd
  /-- TCXO_FAILURE (R18). -/
  | tcxoFailure
  /-- START_ROLE_RESOLUTION (R455). -/
  | startRoleResolution
  /-- POWER_FAIL_FLUSH (R394). -/
  | powerFailFlush
  /-- PFAIL_RECOVERY (R394). -/
  | pfailRecovery
  /-- WAKE_TRIGGER (R86). -/
  | wakeTrigger (w : WakeKind)
  /-- DOMAIN_EXIT_COMPLETE (R83). -/
  | domainExitComplete (d : Fin 12)
  /-- WAKE_IDLE_RETURN (R86). -/
  | wakeIdleReturn
  /-- FRAME_BOUNDARY (R19). -/
  | frameBoundary (temps : Vector Int 4)
  /-- OBSERVER_UPDATE_COMPLETE (R173). -/
  | observerUpdateComplete (ce : Nat)
  /-- DR_LIMIT_EXPIRY (R170). -/
  | drLimitExpiry (heading : Bool)
  /-- POSITION_CONTROL_STEP (R228). -/
  | positionControlStep
  /-- SPECULATION_CHECK (R257). -/
  | speculationCheck
  /-- SETPOINT_ISSUE (R21). -/
  | setpointIssue
  /-- MIRROR_SEND (R331). -/
  | mirrorSend
  /-- HYPOTHESIS_BANK_DEADLINE (R23). -/
  | hypothesisBankDeadline
  /-- DEADLINE_MISS (R22). -/
  | deadlineMiss (d : Fin 5)
  /-- ALARM_FIRE (R101). -/
  | alarmFire (a : Fin 2)
  /-- RTC_FREEZE_TIMEOUT (R93). -/
  | rtcFreezeTimeout
  /-- RTC_LOAD (R95). -/
  | rtcLoad
  /-- PPS_EDGE (R109). -/
  | ppsEdge
  /-- PPS_MISSED_TIMEOUT (R100). -/
  | ppsMissedTimeout
  /-- TIME_SOLUTION_LOSS (R111). -/
  | timeSolutionLoss
  /-- TIME_SOLUTION_RETURN (R112). -/
  | timeSolutionReturn (t : TimeSol)
  /-- HOLDOVER_LIMIT (R111). -/
  | holdoverLimit
  /-- GNSS_EPOCH (R123). -/
  | gnssEpoch (m : EpochIn)
  /-- GNSS_SOLUTION_COMPLETE (R126). -/
  | gnssSolutionComplete (b : Fin 2) (q : PvtIn)
  /-- GNSS_HEADING_COMPLETE (R130). -/
  | gnssHeadingComplete (h : HdgIn)
  /-- GNSS_SOLUTION_TIMEOUT (R124). -/
  | gnssSolutionTimeout (w : Fin 3)
  /-- ANTENNA_STATE_CHANGE (R117). -/
  | antennaStateChange (a : Fin 2) (cls : Fin 4)
  /-- ANTENNA_SHORT_RETRY (R117). -/
  | antennaShortRetry (a : Fin 2) (stillShort : Bool)
  /-- CHANNEL_ACQUISITION (R118). -/
  | channelAcquisition (b : Fin 2) (ch : Fin 32) (prn : Nat) (st : Fin 6)
  /-- CHANNEL_LOSS_OF_LOCK (R119). -/
  | channelLossOfLock (b : Fin 2) (ch : Fin 32)
  /-- CYCLE_SLIP (R119). -/
  | cycleSlip (b : Fin 2) (ch : Fin 32)
  /-- NAV_WORD_DECODED (R120). -/
  | navWordDecoded (b : Fin 2) (ch : Fin 32) (idx : Fin 10) (raw : BitVec 30)
  /-- RTCM_FRAME (R127). -/
  | rtcmFrame (data : List Byte)
  /-- GNSS_INTERFERENCE (R134). -/
  | gnssInterference (b : Fin 2) (noise avg : Int)
  /-- GNSS_FAULT (R134). -/
  | gnssFault (b : Fin 2)
  /-- SAMPLE_INSTANT (R140). -/
  | sampleInstant (slot : Fin 22) (x : SampleIn)
  /-- IMU_FAULT (R137). -/
  | imuFault (reason : Nat)
  /-- BELV_FAULT (R179). -/
  | belvFault (detail : Nat)
  /-- COPY_COMPLETE (R205). -/
  | copyComplete (ticket : Nat) (copy : Fin 3) (ce : Nat) (err : Option CopyOut)
  /-- STORE_UNCORRECTABLE_ERROR (R182). -/
  | storeUncorrectableError (r : Fin 4) (ticket : Nat)
  /-- LINK_TRANSFER_FAILURE (R13). -/
  | linkTransferFailure (u : LinkUnit) (corrected : Nat) (fails : Fin 3)
  /-- HOST_PROBLEM_DEADLINE (R201). -/
  | hostProblemDeadline (ticket : Nat)
  /-- COPY_RESUME (R212). -/
  | copyResume (ticket : Nat) (copy : Fin 3)
  /-- STRUCT_INSTALL_COMPLETE (R192). -/
  | structInstallComplete
  /-- CA_DIRECTION0_COMPLETE (R272). -/
  | caDirection0Complete
  /-- CA_CYCLE_COMPLETE (R273). -/
  | caCycleComplete
  /-- MPC_RESULT_COMMIT (R233). -/
  | mpcResultCommit
  /-- MPC_LATE (R234). -/
  | mpcLate
  /-- JOYSTICK_TIMEOUT (R226). -/
  | joystickTimeout
  /-- PMS_FRAME (R246). -/
  | pmsFrame (data : List Byte)
  /-- PMS_TIMEOUT (R248). -/
  | pmsTimeout
  /-- TARGET_REACHED (R239). -/
  | targetReached
  /-- DPC_EXCURSION (R240). -/
  | dpcExcursion (heading raised : Bool)
  /-- ALLOC_SLACK_ALARM (R261). -/
  | allocSlackAlarm
  /-- NOTREADY_DETECT (R264). -/
  | notreadyDetect (t : Fin 16)
  /-- FEEDBACK_TIMEOUT (R264). -/
  | feedbackTimeout (t : Fin 16)
  /-- THRUSTER_RETURN_TIMER (R264). -/
  | thrusterReturnTimer (t : Fin 16)
  /-- LOOP_TICK (R277). -/
  | loopTick (le : Fin 64)
  /-- FOLLOWING_ERROR (R286). -/
  | followingError (le : Fin 64)
  /-- FOLLY_COMPLETE (R293). -/
  | follyComplete
  /-- PROFILE_TICK (R297). -/
  | profileTick (pc : Fin 16)
  /-- PROFILE_FOLLOWING_ERROR (R298). -/
  | profileFollowingError (pc : Fin 16)
  /-- STANDSTILL_TIMER (R299). -/
  | standstillTimer (pc : Fin 16)
  /-- RELEASE_DELAY_END (R299). -/
  | releaseDelayEnd (pc : Fin 16)
  /-- HOME_STALL (R300). -/
  | homeStall (pc : Fin 16)
  /-- VKILN_RISE (R304). -/
  | vkilnRise
  /-- VKILN_LOSS (R304). -/
  | vkilnLoss
  /-- KILN_START_TEST_COMPLETE (R304). -/
  | kilnStartTestComplete (pass : Bool)
  /-- SAFE_INPUT_CHANGE (R305). -/
  | safeInputChange (i : Fin 16) (level : Bool)
  /-- PAIR_DISCREPANCY_TIMEOUT (R305). -/
  | pairDiscrepancyTimeout (j : Fin 8)
  /-- KILN_RESET_INPUT (R307). -/
  | kilnResetInput (highMs : Nat)
  /-- KILN_CHANNEL_COMPARE_FAULT (R301). -/
  | kilnChannelCompareFault
  /-- KILN_RING_CROSS_CHECK (R301). -/
  | kilnRingCrossCheck (k1 k2 : Nat)
  /-- KILN_CONFIG_CRC_CHECK (R301). -/
  | kilnConfigCrcCheck (ok : Bool)
  /-- KILN_RECOVERY_END (R320). -/
  | kilnRecoveryEnd (pass : Bool)
  /-- OUTPUT_TEST_SLOT (R310). -/
  | outputTestSlot (slot : Fin 16)
  /-- TEST_PULSE_END (R310). -/
  | testPulseEnd (slot : Fin 16) (readbackOk mirrorOpen : Bool)
  /-- READBACK_FAULT (R312). -/
  | readbackFault (n : Fin 8) (outB level : Bool)
  /-- FEEDBACK_CHECK_TIMEOUT (R309). -/
  | feedbackCheckTimeout (n : Fin 8) (fba fbb : Bool)
  /-- KILN_REQUEST_WORD (R315). -/
  | kilnRequestWord (path : Fin 2) (mask comp : Byte)
  /-- KILN_REQUEST_STALE (R315). -/
  | kilnRequestStale (path : Fin 2)
  /-- CD_INCONSISTENT (R315). -/
  | cdInconsistent
  /-- SD_TELEGRAM_COPY (R316). -/
  | sdTelegramCopy (bus4 : Bool) (bytes : List Byte)
  /-- SD_WINDOW_END (R316). -/
  | sdWindowEnd
  /-- SD_TIMEOUT (R318). -/
  | sdTimeout
  /-- SD_DEGRADED_TIMEOUT (R318). -/
  | sdDegradedTimeout
  /-- KILN_STAGE_EXPIRY (R319). -/
  | kilnStageExpiry
  /-- KILN_WRITE_COMPLETE (R320). -/
  | kilnWriteComplete (ok : Bool)
  /-- KILN_STATE_ARRIVAL (R322). -/
  | kilnStateArrival
  /-- HEARTBEAT_SEND (R326). -/
  | heartbeatSend
  /-- HEARTBEAT_RECEIVE (R327). -/
  | heartbeatReceive (h : Heartbeat)
  /-- HEARTBEAT_TIMEOUT (R338). -/
  | heartbeatTimeout (ownIn : Bool)
  /-- LANE_UP (R325). -/
  | laneUp (l : Fin 2) (roundTrip : Nat)
  /-- LANE_DOWN (R325). -/
  | laneDown (l : Fin 2)
  /-- MIRROR_SEGMENT_RECEIVE (R331). -/
  | mirrorSegmentReceive (g : MirrorSeg)
  /-- MIRROR_ACK_RECEIVE (R329). -/
  | mirrorAckReceive (frame : Nat) (crcOk : Bool)
  /-- GIVEUP_IN_RISE (R338). -/
  | giveupInRise
  /-- TAKEOVER (R339). -/
  | takeover
  /-- OWN_IN_RISE (R341). -/
  | ownInRise
  /-- DUAL_OWNERSHIP (R342). -/
  | dualOwnership
  /-- SUPERVISOR_HEARTBEAT_LOSS (R335). -/
  | supervisorHeartbeatLoss
  /-- GIVEUP_TIMEOUT (R337). -/
  | giveupTimeout
  /-- TRANSFER_TIMEOUT (R343). -/
  | transferTimeout
  /-- TRANSFER_REQ_TIMEOUT (R343). -/
  | transferReqTimeout
  /-- SAFE_HOLD_HANDOVER (R344). -/
  | safeHoldHandover
  /-- HANDOVER_RETRY (R344). -/
  | handoverRetry
  /-- RECLAIM_HOLDOFF_EXPIRY (R345). -/
  | reclaimHoldoffExpiry
  /-- CAN_FRAME_RECEIVE (R361). -/
  | canFrameReceive (c : Fin 6) (x : CanIn)
  /-- CAN_TRANSMIT_ATTEMPT (R355). -/
  | canTransmitAttempt (c : Fin 6) (r : TxResult)
  /-- CAN_BUS_OFF (R358). -/
  | canBusOff (c : Fin 6)
  /-- CAN_BUS_OFF_RECOVERY (R358). -/
  | canBusOffRecovery (c : Fin 6)
  /-- CAN_SLEEP_EFFECT (R364). -/
  | canSleepEffect (c : Fin 6)
  /-- CAN_WAKE (R365). -/
  | canWake (c : Fin 6) (w : CanWakeCause)
  /-- BUS_STREAM_POINT (R363). -/
  | busStreamPoint
  /-- UART_SENTENCE (R369). -/
  | uartSentence (u : Fin 10) (x : UartIn)
  /-- MAINT_FRAME_RECEIVE (R366). -/
  | maintFrameReceive (m : MaintFrame)
  /-- MAINT_FREE_REPORT (R367). -/
  | maintFreeReport
  /-- LOG_FLUSH (R390). -/
  | logFlush (bad : List Bool)
  /-- COUNTER_CHECKPOINT (R396). -/
  | counterCheckpoint
  /-- SUMMARY_INTERVAL_END (R400). -/
  | summaryIntervalEnd
  /-- FLASH_LOSS (R392). -/
  | flashLoss (nf0 nf1 : Bool)
  /-- FLASH_RETURN (R392). -/
  | flashReturn (nf0 nf1 : Bool)
  /-- CFG_COMMIT_COMPLETE (R383). -/
  | cfgCommitComplete (readbackOk : Bool)
  /-- FW_PROGRAM_COMPLETE (R435). -/
  | fwProgramComplete (readbackOk : Bool)
  /-- HP_CMDQ_WRITE (R33). -/
  | hpCmdqWrite (w : Word) (e : Ecc)
  /-- INTERNAL_RAIL_FAULT (R439). -/
  | internalRailFault
  /-- STATE_MEMORY_ECC_ERROR (R334). -/
  | stateMemoryEccError
  /-- HANDOVER_TIMEOUT (R344). -/
  | handoverTimeout
  /-- SECTOR_ERASE_COMPLETE (R389). -/
  | sectorEraseComplete
  /-- CAN_INTEGRATION (R353). -/
  | canIntegration (c : Fin 6)
  /-- BOUNDARY_SCAN_ACCESS (R450). -/
  | boundaryScanAccess (a : TapIn)
  deriving DecidableEq, Repr

end Sys2Proof
end

