-- ==== Sys2Proof/Machine/Bits.lean ====
section
/-! DEFINITION. Bit fields, signed values, byte order, vectors, CRC-32 (R60) and CRC-16 (R387). -/

namespace Sys2Proof.Machine

/-- Field [hi:lo] of a word, as a number (0.4). -/
def fld (w : Word) (hi lo : Nat) : Nat := w.toNat / 2 ^ lo % 2 ^ (hi - lo + 1)

/-- Bit i of a word. -/
def bit (w : Word) (i : Nat) : Bool := w.getLsbD i

/-- A number as a word (its low 32 bits). -/
def ofN (n : Nat) : Word := BitVec.ofNat 32 n

/-- An int32 as a word, two's complement. -/
def ofI (i : Int) : Word := BitVec.ofInt 32 i

/-- 1 for true. -/
def b2n (b : Bool) : Nat := if b then 1 else 0

/-- A word from (value, lowest bit) pairs; a value wider than its place is the caller's fault. -/
def pk (fs : List (Nat × Nat)) : Word := ofN ((fs.map fun f => f.1 * 2 ^ f.2).sum)

/-- A 64-bit field as two words, least significant first (R5). -/
def w64 (n : Nat) : List Word := [ofN n, ofN (n / 2 ^ 32)]

/-- A signed 64-bit field as two words (R5). -/
def i64 (i : Int) : List Word := w64 (BitVec.ofInt 64 i).toNat

/-- Payload word i; 0 beyond the end. -/
def wd (ws : List Word) (i : Nat) : Word := ws.getD i 0

/-- Saturation of a counter. -/
def satN (m n : Nat) : Nat := min n m

/-- A counter that saturates at 0xFFFFFFFF. -/
def inc32 (n : Nat) : Nat := satN 0xFFFFFFFF (n + 1)

/-- Saturation of an integer to [lo, hi]. -/
def clampI (lo hi x : Int) : Int := max lo (min hi x)

/-- Saturation at the int32 limits. -/
def sat32 (x : Int) : Int := clampI (-2147483648) 2147483647 x

/-- Rounding of a / b to nearest even, for b > 0. -/
def rne (a : Int) (b : Nat) : Int :=
  let q := a / b
  let r := a % b
  if 2 * r < b then q else if 2 * r > b then q + 1 else if q % 2 = 0 then q else q + 1

/-- Ceiling of a / b. -/
def cdiv (a b : Nat) : Nat := (a + b - 1) / b

/-- The n low bytes of a number, least significant first. -/
def leBytes : Nat → Nat → List Byte
  | 0, _ => []
  | n + 1, v => BitVec.ofNat 8 v :: leBytes n (v / 256)

/-- A number from its bytes, least significant first. -/
def ofLe : List Byte → Nat
  | [] => 0
  | b :: bs => b.toNat + 256 * ofLe bs

/-- Words as bytes, each least significant first (R60). -/
def wBytes (ws : List Word) : List Byte := ws.flatMap fun w => leBytes 4 w.toNat

/-- Bytes as words, byte 0 in [7:0], the last word filled with zeros. -/
def bWords (bs : List Byte) : List Word :=
  (List.range (cdiv bs.length 4)).map fun i => ofN (ofLe ((bs.drop (4 * i)).take 4))

/-- One reflected CRC-32 step over a bit. -/
def crcBit (c : Word) : Word := if c.getLsbD 0 then (c >>> 1) ^^^ 0xEDB88320 else c >>> 1

/-- One byte of the reflected CRC-32. -/
def crcByte (c : Word) (b : Byte) : Word :=
  crcBit (crcBit (crcBit (crcBit (crcBit (crcBit (crcBit (crcBit (c ^^^ b.zeroExtend 32))))))))

/-- CRC-32 of bytes with a given initial value (R60, Table 12-8). -/
def crc32Init (init : Word) (bs : List Byte) : Word := (bs.foldl crcByte init) ^^^ 0xFFFFFFFF

/-- CRC-32 of words (R60). -/
def crc32 (ws : List Word) : Word := crc32Init 0xFFFFFFFF (wBytes ws)

/-- One CRC-16 step over a bit, polynomial 0x1021, not reflected. -/
def crc16Bit (c : BitVec 16) : BitVec 16 := if c.getLsbD 15 then (c <<< 1) ^^^ 0x1021 else c <<< 1

/-- CRC-16 of bytes (R387). -/
def crc16 (bs : List Byte) : BitVec 16 :=
  bs.foldl (fun c b => let c := c ^^^ ((b.zeroExtend 16 : BitVec 16) <<< (8 : Nat))
    crc16Bit (crc16Bit (crc16Bit (crc16Bit (crc16Bit (crc16Bit (crc16Bit (crc16Bit c)))))))) 0xFFFF

/-- Changes one element of a vector. -/
def upd {α : Type} {n : Nat} (v : Vector α n) (i : Fin n) (f : α → α) : Vector α n := v.set i.val (f v[i]) i.isLt

/-- A function on every element, with its index. -/
def vmapI {α β : Type} {n : Nat} (v : Vector α n) (f : Fin n → α → β) : Vector β n := Vector.ofFn fun i => f i v[i]

/-- A function on every element. -/
def vmap {α β : Type} {n : Nat} (v : Vector α n) (f : α → β) : Vector β n := Vector.ofFn fun i => f v[i]

/-- A number as an index, when it is one. -/
def fin? (n i : Nat) : Option (Fin n) := if h : i < n then some ⟨i, h⟩ else none

/-- All indices. -/
def fins (n : Nat) : List (Fin n) := List.finRange n

/-- Bits of a vector as a number, element 0 in bit 0. -/
def maskOf {n : Nat} (v : Vector Bool n) : Nat := ((fins n).map fun i => if v[i] then 2 ^ i.val else 0).sum

/-- Bit i of a number. -/
def tb (m i : Nat) : Bool := Nat.testBit m i

end Sys2Proof.Machine
end

