-- ==== Sys2Proof/Machine/Scurve.lean ====
section
/-! DEFINITION. Jerk-limited motion of one axis (R237, R296), with the values in 2^-32 units and the pieces of a plan in ticks of 10 ns, and the sine of R293. -/

namespace Sys2Proof.Machine

/-- Limits of an axis: speed, acceleration, jerk, in 2^-32 units. -/
structure Limits where
  v : Nat
  a : Nat
  j : Nat
  deriving DecidableEq, Repr

/-- Integer square root, bit by bit. -/
def isqrt (n : Nat) : Nat :=
  ((List.range (Nat.log2 n / 2 + 1)).reverse).foldl (fun r k => if (r + 2 ^ k) * (r + 2 ^ k) ≤ n then r + 2 ^ k else r) 0

/-- Motion over t ticks at constant jerk, each quantity rounded to its unit. -/
def move1 (p : Axis) (t : Nat) (j : Int) : Axis :=
  { x := p.x + rne (p.v * t * 60000000000000000 + p.a * t * t * 300000000 + j * t * t * t) 6000000000000000000000000
    v := p.v + rne (p.a * t * 200000000 + j * t * t) 20000000000000000
    a := p.a + rne (j * t) 100000000 }

/-- The motion a whole plan gives. -/
def runAll (p : Axis) (l : Plan) : Axis := l.foldl (fun p g => move1 p g.1 g.2) p

/-- The motion of the first t ticks of a plan, and what is left of it. -/
def runFor : Nat → Plan → Axis → Axis × Plan
  | _, [], p => (p, [])
  | t, (d, j) :: l, p => if d ≤ t then runFor (t - d) l (move1 p d j) else (move1 p t j, (d - t, j) :: l)

/-- Change of velocity to v1 with zero acceleration at its end, in the least time the acceleration and jerk limits allow. -/
def ramp (m : Limits) (p : Axis) (v1 : Int) : Plan :=
  let vz := p.v + rne (p.a * p.a.natAbs) (2 * m.j)
  let d : Int := if vz ≤ v1 then 1 else -1
  let w := d * (v1 - p.v)
  let al := d * p.a
  let ap := isqrt (m.j * w + al * al / 2).toNat
  let ticks := fun (n : Int) (q : Nat) => (rne (n * 100000000) q).toNat
  if ap ≤ m.a then [(ticks (ap - al) m.j, d * m.j), (ticks ap m.j, -d * m.j)]
  else
    let high := (m.a : Int) < al
    [(ticks (((m.a : Int) - al).natAbs) m.j, if high then -d * m.j else d * m.j),
     (ticks (w - rne (2 * (m.a : Int) * m.a - al * al) (2 * m.j)) m.a, 0),
     (ticks m.a m.j, -d * m.j)]

/-- The point of rest when the axis stops now. -/
def restPoint (m : Limits) (p : Axis) : Int := (runAll p (ramp m p 0)).x

/-- Direct S-curve to a target that lies at or beyond the point of rest: the highest peak speed whose path fits, then a cruise at the speed limit where there is one. -/
def direct (m : Limits) (p : Axis) (target : Int) : Plan :=
  let d : Int := if p.x ≤ target then 1 else -1
  let path := fun (vp : Nat) =>
    let up := ramp m p (d * vp)
    let q := runAll p up
    (up, q, ramp m { q with v := d * vp, a := 0 } 0)
  let fits := fun (vp : Nat) => let (_, q, dn) := path vp; decide (d * (runAll { q with v := d * vp, a := 0 } dn).x ≤ d * target)
  if fits m.v then
    let (up, q, dn) := path m.v
    let left := d * (target - (runAll { q with v := d * m.v, a := 0 } dn).x)
    up ++ (((rne (left * 100000000) m.v).toNat, (0 : Int)) :: dn)
  else
    let vp := ((List.range (Nat.log2 m.v + 1)).reverse).foldl (fun v k => if v + 2 ^ k ≤ m.v && fits (v + 2 ^ k) then v + 2 ^ k else v) 0
    let (up, _, dn) := path vp
    up ++ dn

/-- R237: is the axis planned rest-first, its velocity pointing away from the target or its stopping distance exceeding the distance? -/
def restFirst (m : Limits) (p : Axis) (target : Int) : Bool :=
  decide (p.v * (target - p.x) < 0) || decide ((target - p.x).natAbs < (restPoint m p - p.x).natAbs)

/-- R237: the plan of an axis to rest on a target. -/
def planTo (m : Limits) (p : Axis) (target : Int) : Plan :=
  if restFirst m p target then
    let stop := ramp m p 0
    stop ++ direct m { x := (runAll p stop).x } target
  else direct m p target

/-- A plan from the present state to a target ahead, passing it at speed ve (R243): up to the highest speed whose path fits, a cruise at the limit, and the change to ve. -/
def passTo (m : Limits) (p : Axis) (target : Int) (ve : Nat) : Plan :=
  let path := fun (vp : Nat) =>
    let up := ramp m p vp
    let q := runAll p up
    let dn := ramp m { q with v := vp, a := 0 } ve
    (up, dn, (runAll { q with v := vp, a := 0 } dn).x)
  let fits := fun (vp : Nat) => decide ((path vp).2.2 ≤ target)
  let vp := if fits m.v then m.v
    else ((List.range (Nat.log2 m.v + 1)).reverse).foldl (fun v k => if v + 2 ^ k ≤ m.v && fits (v + 2 ^ k) then v + 2 ^ k else v) 0
  let (up, dn, x) := path vp
  let cruise := if vp = 0 then 0 else (rne ((target - x) * 100000000) vp).toNat
  up ++ ((cruise, (0 : Int)) :: dn)

/-- Path needed to change speed from v to ve. -/
def changePath (m : Limits) (v ve : Nat) : Int := (runAll { v := v } (ramp m { v := v } ve)).x

/-- Ticks a plan takes. -/
def planTicks (l : Plan) : Nat := (l.map fun g => g.1).sum

/-! Sine. -/

/-- sin(x) for 0 ≤ x ≤ π/2 with x and the result in 2^-60, by its series. -/
def sinQ (x : Int) : Int :=
  let x2 := x * x / 2 ^ 60
  ((List.range 14).foldl (fun (acc : Int × Int) k =>
    let term := acc.2
    (acc.1 + term, -(term * x2 / 2 ^ 60) / ((2 * k + 2) * (2 * k + 3)))) (0, x)).1

/-- sin of num/den turns, in 2^-60. -/
def sinTurn (num : Int) (den : Nat) : Int :=
  let f := (num * 4 * 2 ^ 60 / den) % (4 * 2 ^ 60)
  let q := f / 2 ^ 60
  let r := f % 2 ^ 60
  let arg := fun (r : Int) => r * 1811004864519280711 / 2 ^ 60
  if q = 0 then sinQ (arg r) else if q = 1 then sinQ (arg (2 ^ 60 - r))
  else if q = 2 then -sinQ (arg r) else -sinQ (arg (2 ^ 60 - r))

end Sys2Proof.Machine
end

