-- ==== Sys2Proof/Machine/Lane.lean ====
section
/-! DEFINITION. Numbers of the solver fabric (8.1, 8.2): binary64 in the lanes, Q-format outside them, and the conversions between. -/

namespace Sys2Proof.Machine

/-- A binary64 word. -/
abbrev F64 := BitVec 64

/-- What a binary64 word stands for: not a number, an infinity by its sign, or (-1)^neg m 2^e. -/
inductive Lane where
  | nan | inf (neg : Bool) | fin (neg : Bool) (m : Nat) (e : Int)
  deriving DecidableEq, Repr

def qNaN : F64 := 0x7FF8000000000000#64
def infOf (neg : Bool) : F64 := if neg then 0xFFF0000000000000#64 else 0x7FF0000000000000#64
def zeroOf (neg : Bool) : F64 := if neg then 0x8000000000000000#64 else 0#64

/-- The number a word encodes; subnormals are kept (R180). -/
def laneOf (x : F64) : Lane :=
  let f : Nat := x.toNat % 2 ^ 52
  let e : Nat := x.toNat / 2 ^ 52 % 2 ^ 11
  let neg := x.msb
  if e = 2047 then (if f = 0 then .inf neg else .nan)
  else if e = 0 then .fin neg f (-1074)
  else .fin neg (2 ^ 52 + f) ((e : Int) - 1075)

/-- (-1)^neg (m + a fraction below 1 where sticky) 2^e rounded to binary64, ties to even (R180). With sticky, m has at least 55 bits. -/
def roundF (neg : Bool) (m : Nat) (e : Int) (sticky : Bool := false) : F64 :=
  if m = 0 then zeroOf neg
  else
    let q : Int := max (Nat.log2 m + e - 52) (-1074)
    let k : Nat :=
      if q ≤ e then m * 2 ^ (e - q).toNat
      else
        let d := 2 ^ (q - e).toNat
        let r := 2 * (m % d)
        if r < d ∨ (r = d ∧ !sticky ∧ m / d % 2 = 0) then m / d else m / d + 1
    let (k, q) := if k = 2 ^ 53 then (2 ^ 52, q + 1) else (k, q)
    if k < 2 ^ 52 then BitVec.ofNat 64 (k + if neg then 2 ^ 63 else 0)
    else if 972 ≤ q then infOf neg
    else BitVec.ofNat 64 (k - 2 ^ 52 + (q + 1075).toNat * 2 ^ 52 + if neg then 2 ^ 63 else 0)

/-- A signed multiple of 2^e as binary64; z is the sign of a zero. -/
def roundI (z : Bool) (n e : Int) : F64 := if n = 0 then zeroOf z else roundF (decide (n < 0)) n.natAbs e

/-- Fused multiply-add a b + c, rounded once (R180). -/
def fmaF (a b c : F64) : F64 :=
  match laneOf a, laneOf b, laneOf c with
  | .nan, _, _ | _, .nan, _ | _, _, .nan => qNaN
  | .inf s, .inf t, .inf u => if (s != t) = u then infOf u else qNaN
  | .inf s, .inf t, _ => infOf (s != t)
  | .inf s, .fin t m _, .inf u | .fin t m _, .inf s, .inf u => if m = 0 ∨ (s != t) != u then qNaN else infOf u
  | .inf s, .fin t m _, _ | .fin t m _, .inf s, _ => if m = 0 then qNaN else infOf (s != t)
  | .fin _ _ _, .fin _ _ _, .inf u => infOf u
  | .fin s m e, .fin t n f, .fin u k g =>
    let p : Int := if s != t then -(m * n : Nat) else (m * n : Nat)
    let c : Int := if u then -(k : Int) else k
    let q := min (e + f) g
    roundI ((s != t) && u) (p * 2 ^ (e + f - q).toNat + c * 2 ^ (g - q).toNat) q

/-- Quotient a / b (R180). -/
def divF (a b : F64) : F64 :=
  match laneOf a, laneOf b with
  | .nan, _ | _, .nan | .inf _, .inf _ => qNaN
  | .inf s, .fin t _ _ => infOf (s != t)
  | .fin s _ _, .inf t => zeroOf (s != t)
  | .fin s m e, .fin t n f =>
    if n = 0 then (if m = 0 then qNaN else infOf (s != t))
    else
      let k := m * 2 ^ 120
      roundF (s != t) (k / n) (e - f - 120) (k % n != 0)

/-- Square root (R180). -/
def sqrtF (a : F64) : F64 :=
  match laneOf a with
  | .nan => qNaN
  | .inf s => if s then qNaN else infOf false
  | .fin s m e =>
    if m = 0 then a
    else if s then qNaN
    else
      let (m, e) := if e % 2 = 0 then (m, e) else (2 * m, e - 1)
      let k := m * 2 ^ 120
      let r := isqrt k
      roundF false r (e / 2 - 60) (r * r != k)

/-- The magnitude of a word. -/
def absF (x : F64) : F64 := x &&& 0x7FFFFFFFFFFFFFFF#64

/-- |a| < |b|, for numbers. -/
def ltAbs (a b : F64) : Bool := laneOf a != .nan && laneOf b != .nan && decide ((absF a).toNat < (absF b).toNat)

/-- a < b, for numbers. -/
def ltF (a b : F64) : Bool :=
  laneOf a != .nan && laneOf b != .nan && !(absF a == 0 && absF b == 0) &&
    (if a.msb then (!b.msb || decide (b.toNat < a.toNat)) else !b.msb && decide (a.toNat < b.toNat))

/-- 2^-k (R199, R201). -/
def pow2F (k : Nat) : F64 := roundF false 1 (-(k : Int))

/-! Q-format (R183 to R186). -/

/-- Ends of the signed 64-bit range. -/
def qMin : Int := -(2 ^ 63)
def qMax : Int := 2 ^ 63 - 1

/-- A rational n / 2^k rounded to the nearest integer, ties to even, for any integer k. -/
def scale2 (n k : Int) : Int := if k ≤ 0 then n * 2 ^ (-k).toNat else rne n (2 ^ k.toNat)

/-- A stored value, and whether it saturated (R184). -/
def toRange (n : Int) : Int × Bool := if n < qMin then (qMin, true) else if qMax < n then (qMax, true) else (n, false)

/-- A lane value stored in a format (R184): none for an infinity or NaN. A zero of either sign stores as 0. -/
def storeQ (f : Int) (x : F64) : Option (Int × Bool) :=
  match laneOf x with
  | .fin neg m e => some (toRange (scale2 (if neg then -(m : Int) else m) (-(e + f))))
  | _ => none

/-- A Q-format value taken into a lane (R185). -/
def loadQ (f n : Int) : F64 := roundI false n (-f)

/-- Reduction of Q-format terms (value and fraction count) into a format (R186): an exact sum aligned to the finest fraction count, in a 128-bit accumulator, converted once. -/
def reduceQ (f : Int) (terms : List (Int × Int)) : Int × Bool :=
  let fine := terms.foldl (fun (m : Int) t => max m t.2) (-32)
  let sum := (terms.map fun t => t.1 * 2 ^ (fine - t.2).toNat).sum
  toRange (scale2 (BitVec.ofInt 128 sum).toInt (fine - f))

end Sys2Proof.Machine
end

