-- ==== Sys2Proof/Machine/Geo.lean ====
section
/-! DEFINITION. Angles, roots and the plane tangent to the WGS 84 ellipsoid (R159, R218), in integers: sines and unit vectors in 2^-60, angles in 2^-32 turn. -/

namespace Sys2Proof.Machine

/-- Sine and cosine of an angle in 2^-32 turn, in 2^-60. -/
def sinA (a : Int) : Int := sinTurn a (2 ^ 32)
def cosA (a : Int) : Int := sinTurn (a + 2 ^ 30) (2 ^ 32)

/-- A product with a 2^-60 factor. -/
def by60 (x f : Int) : Int := rne (x * f) (2 ^ 60)

/-- R(a) on (x, y): body to earth for a heading a (R221). -/
def rot (a x y : Int) : Int × Int := (by60 x (cosA a) - by60 y (sinA a), by60 x (sinA a) + by60 y (cosA a))

/-- An angle difference wrapped to -0.5 to +0.5 turn (R227, R174). -/
def wrapA (a : Int) : Int := (BitVec.ofInt 32 a).toInt

/-- A difference of estimates, the heading wrapped (R174). -/
def estDiff (a b : EstVec) : EstVec := Vector.ofFn fun i => if i.val = 2 then wrapA (a[i] - b[i]) else a[i] - b[i]

/-- An angle as 0 to 1 turn. -/
def angA (a : Int) : Int := a % 2 ^ 32

/-- An angle in [0, 1/4] turn of the direction (x, y) with x, y ≥ 0, in 2^-34 turn: bit by bit. -/
def angleQ (x y : Int) : Int :=
  ((List.range 33).reverse).foldl (fun a k =>
    let b := a + 2 ^ k
    if b ≤ 2 ^ 32 && decide (sinTurn b (2 ^ 34) * x ≤ sinTurn (b + 2 ^ 32) (2 ^ 34) * y) then b else a) (0 : Int)

/-- Direction of (x, y) in 2^-32 turn from the x axis towards y; 0 for the zero vector. -/
def angleOf (x y : Int) : Int :=
  if x = 0 ∧ y = 0 then 0
  else
    let r := if 0 < x ∧ 0 ≤ y then angleQ x y
      else if x ≤ 0 ∧ 0 < y then 2 ^ 32 + angleQ y (-x)
      else if x < 0 ∧ y ≤ 0 then 2 * 2 ^ 32 + angleQ (-x) (-y)
      else 3 * 2 ^ 32 + angleQ (-y) x
    angA (rne r 4)

/-- Length of a vector. -/
def hyp (x y : Int) : Nat := isqrt (x * x + y * y).toNat

/-- Integer cube root, bit by bit. -/
def icbrt (n : Nat) : Nat :=
  ((List.range (Nat.log2 n / 3 + 1)).reverse).foldl (fun r k => if (r + 2 ^ k) ^ 3 ≤ n then r + 2 ^ k else r) 0

/-- (p / q)^(2/3) in 2^-60, at most 1 (R260, R269). -/
def pow23 (p q : Nat) : Int := if q ≤ p then 2 ^ 60 else (icbrt (p * p * 2 ^ 180 / (q * q)) : Nat)

/-! The tangent plane. -/

/-- A point or vector of the earth-fixed frame, in 2^-20 mm. -/
abbrev Ecef := Int × Int × Int

/-- First eccentricity squared of WGS 84, in 2^-60. -/
def ecc2 : Int := 7718094650643697

def dot3 (a b : Ecef) : Int := by60 a.1 b.1 + by60 a.2.1 b.2.1 + by60 a.2.2 b.2.2
def sub3 (a b : Ecef) : Ecef := (a.1 - b.1, a.2.1 - b.2.1, a.2.2 - b.2.2)

/-- Earth-fixed position of a latitude, longitude (2^-32 turn) and height (mm). -/
def ecefOf (lat lon h : Int) : Ecef :=
  let s := sinA lat
  let c := cosA lat
  let w : Nat := (2 ^ 60 - by60 (by60 s s) ecc2).toNat
  let n : Int := 6378137000 * 2 ^ 80 / (isqrt (w * 2 ^ 60) : Nat)
  let r := by60 (n + h * 2 ^ 20) c
  (by60 r (cosA lon), by60 r (sinA lon), by60 (n - by60 n ecc2 + h * 2 ^ 20) s)

/-- The unit vectors north and east at a datum. -/
def northOf (lat lon : Int) : Ecef := (-(by60 (sinA lat) (cosA lon)), -(by60 (sinA lat) (sinA lon)), cosA lat)
def eastOf (lon : Int) : Ecef := (-(sinA lon), cosA lon, 0)

/-- A datum: latitude, longitude, height. -/
abbrev Datum := Vector Int 3

/-- Earth-fixed position of a point of a datum's plane, given in 2^-20 mm. -/
def planeToEcef (d : Datum) (n e : Int) : Ecef :=
  let o := ecefOf d[0] d[1] d[2]
  let a := northOf d[0] d[1]
  let b := eastOf d[1]
  (o.1 + by60 n a.1 + by60 e b.1, o.2.1 + by60 n a.2.1 + by60 e b.2.1, o.2.2 + by60 n a.2.2 + by60 e b.2.2)

/-- North and east of an earth-fixed position in a datum's plane, in 2^-20 mm. -/
def ecefToPlane (d : Datum) (p : Ecef) : Int × Int :=
  let v := sub3 p (ecefOf d[0] d[1] d[2])
  (dot3 v (northOf d[0] d[1]), dot3 v (eastOf d[1]))

/-- A position in mm of one plane, in mm of another (R220). -/
def rePlane (d d' : Datum) (n e : Int) : Int × Int :=
  let q := ecefToPlane d' (planeToEcef d (n * 2 ^ 20) (e * 2 ^ 20))
  (rne q.1 (2 ^ 20), rne q.2 (2 ^ 20))

/-- Heading in the plane of d' of the direction that is north in the plane of d, in 2^-32 turn. -/
def convergence (d d' : Datum) : Int :=
  let n := northOf d[0] d[1]
  angleOf (dot3 n (northOf d'[0] d'[1])) (dot3 n (eastOf d'[1]))

/-- Distance in mm between two earth-fixed positions. -/
def dist3 (a b : Ecef) : Nat :=
  let v := sub3 a b
  isqrt ((v.1 * v.1 + v.2.1 * v.2.1 + v.2.2 * v.2.2).toNat) / 2 ^ 20

end Sys2Proof.Machine
end

