-- ==== Sys2Proof/Config.lean ====
section
/-! DEFINITION. What one module fixes and what the spec leaves open: constants and functions without a body, so that nothing can be proved of their values. -/

namespace Sys2Proof.Config

/-- Table 2-11 ISSUE: the module issue letter in ASCII (per issue). -/
opaque issue : Byte
/-- Table 18-4 SERIAL (R324, R451). -/
opaque serial : BitVec 64
/-- Table 18-4 word 4: version of the firmware in image A or B. -/
opaque fwVersion : Fin 2 → Word
/-- Table 13-2 MIRROR_VER of the running image. -/
opaque mirrorVer : Byte
/-- Table 15-6 FORMAT of the running firmware. -/
opaque cfgFormat : Byte
/-- Table 18-4 BASE_WEEK (R110) of the firmware in image A or B. -/
opaque baseWeek : Fin 2 → BitVec 16
/-- The factory block (R373, Table 15-1): F of an item and element, which each module has measured. -/
opaque factory : Nat → Nat → Int
/-- The temperature polynomial of a bias item and element (Table 15-1), at a readout temperature in 0.01 degrees. -/
opaque tempPoly : Nat → Nat → Int → Int
/-- CRC-32 of a configuration image (R380): the spec gives no image layout, so the value is free. -/
opaque imageCrc : List CfgEntry → Word
/-- R127: range in mm from a satellite's position at transmission, earth rotation applied, to a reference point (0.1 mm), plus the satellite's clock correction, from its accepted set and the time of week in ms: the orbit and clock equations are those of IS-GPS-200, which the spec names and does not restate. -/
opaque satGeometry : List Nat → Nat → Int × Int × Int → Int
/-- A fresh free integer, indexed by State.free (log entry 3). -/
opaque freeInt : Nat → Int
/-- A fresh free truth value, indexed by State.free (log entry 3). -/
opaque freeBool : Nat → Bool
/-- R415: Gazebo's estimate of a problem's time in ms, of kind, n, m, neq (no formula in the spec). -/
opaque solveMs : Nat → Nat → Nat → Nat → Nat
/-- R191 reason 5: working set in bytes found by the symbolic factorisation of a structure definition (the spec gives no method). -/
opaque workingSet : List Word → Nat
/-- R181: the lane program of a structure, from its ID, kind, n, m, NEQ, patterns, formats and generation: the spec fixes what it depends on, not the order itself. -/
opaque laneProgram : List Nat → List (Nat × Nat) → List (Nat × Nat) → List (Nat × Nat × Nat × Int) → Nat → LaneProg
/-- Dimensions n, m, NEQ and formats of the DP structures of the observer bank (3), the GNSS solutions (4, 5): the spec gives none. -/
opaque dpShape : Nat → (Nat × Nat × Nat) × List (Nat × Nat × Nat × Int)
/-- R232: formats and values of the MPC problem, from the parameters and the vessel model, τ, the estimate and the reference, the nominal capability and the power limits (-1 none): the spec describes its cost in words. -/
opaque mpcFormats : Nat → List (Nat × Nat × Nat × Int)
opaque mpcValues : List Word → List Int → List (Nat × Nat × Nat × Int)
/-- R164, R126, R130: the values that a problem of the observer bank (3) or of a baseband (4, 5) works on, at an instant. -/
opaque dpValues : Nat → Nat → List (Nat × Nat × Nat × Int)
/-- R158, Table 13-5: an estimate, with the extrapolated mechanised state where the step has one, propagated over a number of MT ticks, by its index in Table 7-9 (the observer's model is not in the spec). -/
opaque propagate : List Int → Nat → Nat → Int
/-- R158: the mechanised state (Mech.x) after a number of ticks from the state before, the angular rate and the specific force; from no state, the alignment. The equations are not in the spec. -/
opaque mechanise : List Int → List Int → List Int → Nat → List Int
/-- 7.4.2: the mechanised state after a correction of roll and pitch by the innovation of a motion slot and its standard deviation (no gains in the spec). -/
opaque mechCorrect : List Int → Int × Int → Nat → List Int
/-- 7.5: states and covariance (15 + 225 numbers) of an observer as it starts. -/
opaque obsStart : List Int
/-- 7.5, R164: states and covariance of an observer after a number of ticks, from those before, the vessel model and observer parameters in force, the inertial states of the interval, and thrust and wind force: the spec names the model's inputs, not its equations or noise. -/
opaque obsModel : List Int → List Word → List Int → Nat → List Int
/-- R164, R172: the 15 gains in 2^-30 of each component of a position (false) or heading (true) measurement, from the covariance and the standard deviation. -/
opaque obsGain : List Int → Bool → Nat → List Int
/-- R164: the covariance after such a measurement. -/
opaque obsReduce : List Int → Bool → Nat → List Int
/-- R172: the covariance after the reduction by a late measurement, of this age in ticks, through the stored cross-covariance. -/
opaque lateReduce : List Int → Bool → Nat → Nat → List Int
/-- 7.6: the prediction that the motion (false) and wind (true) groups vote against, from the main observer's state and covariance, the mechanised state and the voted wind before: components 0 to 2, prediction variances 3 and, for heave, 4 (the observer has no state for them). -/
opaque otherPred : Bool → List Int → List Int → List Int → Nat → Int
/-- 7.6: standard deviation and gate (tenths) of the internal attitude as a member of the motion group. -/
opaque attMember : Nat × Nat
/-- R159, R163: the voted value of several ACTIVE members, from their values and standard deviations (the spec does not say how they combine). -/
opaque votedValue : List (Int × Int × Nat) → Int × Int
/-- R161: a tight filter (17 states and covariance) after an epoch, from the filter before, the rows used (PRN, pseudorange in mm, Doppler, correction), the mechanised state and the ticks since its last epoch. -/
opaque tightUpdate : List Int → List (List Int) → List Int → Nat → List Int
/-- R161: antenna position of a tight filter (latitude, longitude in 2^-32 turn, height in mm) and its horizontal standard deviation in mm. -/
opaque tightFix : List Int → Int × Int × Int × Nat
/-- Table 6-5: coefficient i of Lennov set 0, 1 or 2 (the spec gives its figures, not its coefficients). -/
opaque firRom : Nat → Nat → Int
/-- R293: bit n of the PRBS of an order (its feedback taps are not in the spec). -/
opaque prbs : Nat → Nat → Bool
/-- Table 3-6: whether an RST_N pulse of 200 ns to 1 us resets the module, by its width and the free counter. -/
opaque shortRst : Nat → Nat → Bool

/-- R435: the check of a firmware image's header: 0 in order, 1 a wrong part, 2 a wrong header CRC (the header's layout is not in the spec). -/
opaque fwHeader : List Word → Nat

end Sys2Proof.Config
end

