-- ==== Sys2Proof/Machine/Operands.lean ====
section
/-! DEFINITION. The opcode table (Table 18-2) and the operand forms: payload fields with their ranges and Lennov defaults (R2, R54, R412). -/

namespace Sys2Proof.Machine

/-- A row of Table 18-2: opcode, kind, payload lengths of the basic and the expert form, modes as a mask over the codes of Table 3-1, and the words of its longest final reply after the status word (R36). -/
structure OpInfo where
  code : Nat
  long : Bool
  bLo : Nat
  bHi : Nat
  xLo : Nat
  xHi : Nat
  modes : Nat
  extra : Nat

/-- Table 18-2 (R417). -/
def opInfo : Op → OpInfo
  | .sysGetId => ⟨0x001, false, 0, 0, 0, 0, 63, 7⟩
  | .sysSetMode => ⟨0x010, true, 1, 1, 1, 1, 61, 0⟩
  | .sysSetWake => ⟨0x018, false, 1, 1, 1, 1, 63, 0⟩
  | .sysAbort => ⟨0x020, false, 1, 1, 1, 1, 63, 0⟩
  | .sysReset => ⟨0x028, false, 0, 0, 0, 0, 63, 0⟩
  | .timeGet => ⟨0x100, false, 0, 0, 0, 0, 63, 14⟩
  | .timeSetRtc => ⟨0x110, true, 3, 3, 4, 4, 61, 0⟩
  | .timeSetAlarm => ⟨0x118, false, 3, 3, 3, 3, 61, 0⟩
  | .timeGetAlarm => ⟨0x11C, false, 1, 1, 1, 1, 61, 3⟩
  | .gnssConfig => ⟨0x210, false, 1, 1, 3, 3, 5, 0⟩
  | .gnssRtcmConfig => ⟨0x218, false, 1, 1, 2, 2, 61, 0⟩
  | .gnssHdgConfig => ⟨0x220, false, 1, 1, 2, 2, 5, 0⟩
  | .gnssStream => ⟨0x228, false, 1, 1, 1, 1, 61, 0⟩
  | .gnssRestart => ⟨0x230, true, 1, 1, 1, 1, 13, 0⟩
  | .fusRefConfig => ⟨0x310, false, 7, 7, 14, 14, 5, 0⟩
  | .fusRefEnable => ⟨0x318, false, 1, 1, 1, 1, 61, 0⟩
  | .fusRefCapture => ⟨0x31C, false, 1, 1, 1, 1, 28, 0⟩
  | .fusVoteConfig => ⟨0x320, false, 1, 1, 2, 2, 5, 0⟩
  | .fusObserverConfig => ⟨0x328, false, 1, 1, 2, 2, 61, 0⟩
  | .fusRefStatus => ⟨0x330, false, 1, 1, 1, 1, 63, 15⟩
  | .fusSensorStream => ⟨0x338, false, 1, 1, 1, 1, 61, 0⟩
  | .fusStateStream => ⟨0x340, false, 1, 1, 1, 1, 61, 0⟩
  | .solvStructDefine => ⟨0x410, true, 1, 1, 1, 1, 29, 0⟩
  | .solvStructDelete => ⟨0x414, false, 1, 1, 1, 1, 29, 0⟩
  | .solvUpdate => ⟨0x418, false, 4, 253, 4, 253, 29, 0⟩
  | .solvStructQuery => ⟨0x41C, false, 1, 1, 1, 1, 61, 16⟩
  | .solvSubmit => ⟨0x420, true, 1, 1, 4, 4, 29, 253⟩
  | .solvResultRead => ⟨0x428, false, 2, 2, 2, 2, 61, 247⟩
  | .solvPlacement => ⟨0x430, false, 0, 0, 0, 0, 61, 31⟩
  | .dpcSetFunction => ⟨0x510, true, 1, 1, 1, 1, 16, 0⟩
  | .dpcSetDatum => ⟨0x518, false, 3, 3, 3, 3, 21, 0⟩
  | .dpcSetRotationPoint => ⟨0x51C, false, 2, 2, 2, 2, 21, 0⟩
  | .dpcControllerConfig => ⟨0x520, false, 4, 4, 8, 8, 21, 0⟩
  | .dpcMpcConfig => ⟨0x524, false, 1, 1, 2, 2, 21, 0⟩
  | .dpcMoveConfig => ⟨0x528, false, 2, 2, 9, 9, 21, 0⟩
  | .dpcSetTarget => ⟨0x530, true, 4, 4, 5, 5, 16, 0⟩
  | .dpcJoystick => ⟨0x534, false, 2, 2, 2, 2, 16, 0⟩
  | .dpcJoystickConfig => ⟨0x53C, false, 4, 4, 6, 6, 21, 0⟩
  | .dpcTrackControl => ⟨0x540, false, 1, 1, 1, 1, 16, 0⟩
  | .dpcPowerConfig => ⟨0x550, false, 3, 3, 6, 6, 5, 0⟩
  | .dpcStatus => ⟨0x560, false, 0, 0, 0, 0, 61, 9⟩
  | .dpcStateStream => ⟨0x568, false, 1, 1, 1, 1, 61, 0⟩
  | .allocThrusterConfig => ⟨0x610, false, 6, 6, 15, 15, 5, 0⟩
  | .allocConfig => ⟨0x618, false, 1, 1, 4, 4, 21, 0⟩
  | .allocThrusterEnable => ⟨0x620, false, 1, 1, 1, 1, 21, 0⟩
  | .allocThrusterStatus => ⟨0x624, false, 1, 1, 1, 1, 61, 16⟩
  | .allocStatus => ⟨0x628, false, 0, 0, 0, 0, 61, 20⟩
  | .allocEnvelopeRead => ⟨0x630, false, 1, 1, 1, 1, 61, 79⟩
  | .allocConseqConfig => ⟨0x638, false, 1, 1, 3, 3, 21, 0⟩
  | .allocStateStream => ⟨0x640, false, 1, 1, 1, 1, 61, 0⟩
  | .loopConfig => ⟨0x710, false, 5, 5, 8, 8, 21, 0⟩
  | .loopThrusterBind => ⟨0x718, false, 5, 5, 5, 5, 5, 0⟩
  | .loopSetCoeff => ⟨0x720, false, 5, 5, 7, 7, 21, 0⟩
  | .loopClose => ⟨0x728, false, 1, 1, 1, 1, 20, 0⟩
  | .loopOpen => ⟨0x72C, false, 1, 1, 1, 1, 20, 0⟩
  | .loopSetManual => ⟨0x730, false, 2, 2, 2, 2, 20, 0⟩
  | .loopSetSetpoint => ⟨0x734, false, 2, 2, 2, 2, 20, 0⟩
  | .loopGroup => ⟨0x738, false, 2, 2, 2, 2, 21, 0⟩
  | .loopStatus => ⟨0x740, false, 1, 1, 1, 1, 61, 7⟩
  | .follyStart => ⟨0x750, true, 6, 6, 7, 7, 4, 0⟩
  | .follyStop => ⟨0x758, false, 0, 0, 0, 0, 4, 0⟩
  | .profConfig => ⟨0x760, false, 6, 6, 11, 11, 5, 0⟩
  | .profMove => ⟨0x768, true, 2, 2, 3, 3, 20, 0⟩
  | .profHome => ⟨0x770, true, 4, 4, 8, 8, 20, 0⟩
  | .profStatus => ⟨0x778, false, 1, 1, 1, 1, 61, 5⟩
  | .busCanConfig => ⟨0x810, false, 1, 1, 5, 5, 5, 0⟩
  | .busCanFilter => ⟨0x814, false, 3, 3, 3, 3, 61, 0⟩
  | .busCanSend => ⟨0x818, false, 3, 19, 3, 19, 61, 0⟩
  | .busCanReceive => ⟨0x81C, false, 1, 1, 1, 1, 61, 248⟩
  | .busCanSleep => ⟨0x820, false, 1, 1, 5, 5, 61, 0⟩
  | .busCanRecover => ⟨0x824, false, 1, 1, 1, 1, 61, 0⟩
  | .busCanRelease => ⟨0x828, false, 2, 2, 2, 2, 61, 0⟩
  | .busCanStatus => ⟨0x82C, false, 1, 1, 1, 1, 61, 17⟩
  | .busUartConfig => ⟨0x830, false, 1, 1, 2, 2, 5, 0⟩
  | .busUartSend => ⟨0x838, false, 2, 22, 2, 22, 61, 0⟩
  | .busUartStatus => ⟨0x83C, false, 1, 1, 1, 1, 61, 11⟩
  | .busStream => ⟨0x840, false, 1, 1, 1, 1, 61, 0⟩
  | .kilnConfig => ⟨0x910, false, 18, 18, 37, 37, 4, 38⟩
  | .kilnConfirm => ⟨0x914, true, 1, 1, 1, 1, 4, 0⟩
  | .kilnReadConfig => ⟨0x918, false, 0, 0, 0, 0, 61, 39⟩
  | .kilnStatus => ⟨0x920, false, 0, 0, 0, 0, 63, 14⟩
  | .kilnBrake => ⟨0x928, false, 1, 1, 1, 1, 61, 0⟩
  | .kilnAck => ⟨0x930, false, 0, 0, 0, 0, 61, 0⟩
  | .dpxConfig => ⟨0xA10, false, 1, 1, 2, 2, 5, 0⟩
  | .dpxTransfer => ⟨0xA18, true, 0, 0, 0, 0, 24, 0⟩
  | .dpxStatus => ⟨0xA20, false, 0, 0, 0, 0, 63, 9⟩
  | .dpxHostDataWrite => ⟨0xA28, false, 2, 255, 2, 255, 21, 0⟩
  | .dpxHostDataRead => ⟨0xA2C, false, 1, 1, 1, 1, 61, 253⟩
  | .calSet => ⟨0xB10, false, 2, 2, 2, 2, 5, 0⟩
  | .calRead => ⟨0xB14, false, 1, 1, 1, 1, 61, 4⟩
  | .cfgFirChannel => ⟨0xB28, false, 1, 1, 2, 2, 5, 0⟩
  | .cfgFirQuery => ⟨0xB2C, false, 1, 1, 1, 1, 61, 7⟩
  | .cfgModule => ⟨0xB30, false, 1, 1, 2, 2, 5, 0⟩
  | .cfgCommit => ⟨0xB40, true, 0, 0, 0, 0, 61, 0⟩
  | .cfgLoad => ⟨0xB44, true, 1, 1, 1, 1, 5, 0⟩
  | .cfgStatus => ⟨0xB48, false, 0, 0, 0, 0, 63, 6⟩
  | .busMaintConfig => ⟨0xB50, false, 3, 3, 3, 3, 5, 0⟩
  | .logConfig => ⟨0xC10, false, 1, 1, 3, 3, 5, 0⟩
  | .logRate => ⟨0xC14, false, 2, 2, 2, 2, 21, 0⟩
  | .logRead => ⟨0xC20, false, 2, 2, 2, 2, 61, 250⟩
  | .logStatus => ⟨0xC28, false, 0, 0, 0, 0, 63, 7⟩
  | .logWrite => ⟨0xC30, false, 4, 4, 4, 4, 61, 0⟩
  | .evtRoute => ⟨0xD10, false, 1, 1, 2, 2, 61, 0⟩
  | .evtQuery => ⟨0xD14, false, 1, 1, 1, 1, 63, 4⟩
  | .bulkOpen => ⟨0xE10, false, 4, 4, 4, 4, 63, 3⟩
  | .bulkWrite => ⟨0xE18, false, 2, 255, 2, 255, 63, 0⟩
  | .bulkRead => ⟨0xE20, false, 1, 1, 1, 1, 63, 254⟩
  | .bulkClose => ⟨0xE28, true, 1, 1, 1, 1, 63, 0⟩

/-- Every opcode of kind S or L (R411). -/
def allOps : List Op :=
  ([.sysGetId, .sysSetMode, .sysSetWake, .sysAbort, .sysReset, .timeGet, .timeSetRtc, .timeSetAlarm, .timeGetAlarm] : List Op) ++
  ([.gnssConfig, .gnssRtcmConfig, .gnssHdgConfig, .gnssStream, .gnssRestart, .fusRefConfig, .fusRefEnable, .fusRefCapture, .fusVoteConfig] : List Op) ++
  ([.fusObserverConfig, .fusRefStatus, .fusSensorStream, .fusStateStream, .solvStructDefine, .solvStructDelete, .solvUpdate, .solvStructQuery, .solvSubmit] : List Op) ++
  ([.solvResultRead, .solvPlacement, .dpcSetFunction, .dpcSetDatum, .dpcSetRotationPoint, .dpcControllerConfig, .dpcMpcConfig, .dpcMoveConfig, .dpcSetTarget] : List Op) ++
  ([.dpcJoystick, .dpcJoystickConfig, .dpcTrackControl, .dpcPowerConfig, .dpcStatus, .dpcStateStream, .allocThrusterConfig, .allocConfig, .allocThrusterEnable] : List Op) ++
  ([.allocThrusterStatus, .allocStatus, .allocEnvelopeRead, .allocConseqConfig, .allocStateStream, .loopConfig, .loopThrusterBind, .loopSetCoeff, .loopClose] : List Op) ++
  ([.loopOpen, .loopSetManual, .loopSetSetpoint, .loopGroup, .loopStatus, .follyStart, .follyStop, .profConfig, .profMove] : List Op) ++
  ([.profHome, .profStatus, .busCanConfig, .busCanFilter, .busCanSend, .busCanReceive, .busCanSleep, .busCanRecover, .busCanRelease] : List Op) ++
  ([.busCanStatus, .busUartConfig, .busUartSend, .busUartStatus, .busStream, .kilnConfig, .kilnConfirm, .kilnReadConfig, .kilnStatus] : List Op) ++
  ([.kilnBrake, .kilnAck, .dpxConfig, .dpxTransfer, .dpxStatus, .dpxHostDataWrite, .dpxHostDataRead, .calSet, .calRead] : List Op) ++
  ([.cfgFirChannel, .cfgFirQuery, .cfgModule, .cfgCommit, .cfgLoad, .cfgStatus, .busMaintConfig, .logConfig, .logRate] : List Op) ++
  ([.logRead, .logStatus, .logWrite, .evtRoute, .evtQuery, .bulkOpen, .bulkWrite, .bulkRead, .bulkClose] : List Op)

/-- The opcode a header names; none where it is not assigned or of kind U (R411). -/
def opOfCode (n : Nat) : Option Op := allOps.find? fun o => (opInfo o).code == n

/-- The commands of Table 18-19 (R453), bulk objects apart. -/
def recordedOps : List Op :=
  ([.gnssConfig, .gnssRtcmConfig, .gnssHdgConfig, .fusRefConfig, .fusRefEnable, .fusVoteConfig, .fusObserverConfig, .dpcSetDatum, .dpcSetRotationPoint] : List Op) ++
  ([.dpcControllerConfig, .dpcMpcConfig, .dpcMoveConfig, .dpcJoystickConfig, .dpcPowerConfig, .allocThrusterConfig, .allocConfig, .allocConseqConfig, .loopConfig] : List Op) ++
  ([.loopThrusterBind, .loopSetCoeff, .loopGroup, .profConfig, .busCanConfig, .busUartConfig, .kilnConfirm, .dpxConfig, .calSet] : List Op) ++
  ([.cfgFirChannel, .cfgModule, .cfgCommit, .cfgLoad, .busMaintConfig, .logConfig, .logRate] : List Op)

/-- A payload field: word, bits, least and greatest value, a further single value allowed, signed or not, Lennov default (for expert-only words, R54). -/
structure Fd where
  w : Nat
  hi : Nat
  lo : Nat
  min : Nat
  max : Nat
  alt : Option Nat
  dflt : Nat

/-- A field of any value in its range. -/
def uf (w hi lo min max : Nat) (d : Nat := 0) : Fd := ⟨w, hi, lo, min, max, none, d⟩

/-- A field with a range and one further value. -/
def ux (w hi lo min max alt : Nat) (d : Nat := 0) : Fd := ⟨w, hi, lo, min, max, some alt, d⟩

/-- A field in which every value is assigned. -/
def ua (w hi lo : Nat) (d : Nat := 0) : Fd := ⟨w, hi, lo, 0, 2 ^ (hi - lo + 1) - 1, none, d⟩

/-- A whole word in which every value is assigned. -/
def uw (w : Nat) (d : Nat := 0) : Fd := ⟨w, 31, 0, 0, 0xFFFFFFFF, none, d⟩

/-- A single bit. -/
def ub (w i : Nat) (d : Nat := 0) : Fd := ⟨w, i, i, 0, 1, none, d⟩

/-- A CAN identifier word: IDE in [31], the identifier in [28:0]. DESIGN CHOICE, log entry 61: with IDE 0 an identifier above 0x7FF is accepted here (only DPC_POWER_CONFIG states its refusal). -/
def uid (w : Nat) : List Fd := [ub w 31, ua w 28 0]

/-! The fields of each opcode. -/

def fdSysSetMode : List Fd := [ub 0 8, uf 0 2 0 0 5]
def fdSysSetWake : List Fd := [uf 0 23 0 1 10000000]
def fdSysAbort : List Fd := [ua 0 7 0]
def fdTimeSetRtc : List Fd := [ua 0 31 16, ua 0 15 8, ua 0 7 0, ua 1 20 16, ua 1 13 8, ua 1 5 0, ua 2 14 0, uf 3 1 0 0 2]
def fdTimeSetAlarm : List Fd := [uf 0 9 8 0 2, ub 0 0, uw 1, uw 2]
def fdTimeGetAlarm : List Fd := [ub 0 0]
def fdGnssConfig : List Fd := [uf 0 15 8 0 30 10, ub 0 3 1, ub 0 2 1, ub 0 1 1, ub 0 0 1,
      uf 1 27 24 3 6 5, uf 1 23 16 3 20 6, ub 1 8 1, uf 1 7 0 20 45 30, uf 2 31 16 10 200 50, uf 2 15 0 50 250 150]
def fdGnssRtcmConfig : List Fd := [uf 0 15 8 1 120 30, ux 0 3 0 0 9 15 15, ub 1 16 1, ub 1 12 1, ua 1 11 0]
def fdGnssHdgConfig : List Fd := [ub 0 0, uf 1 23 16 5 100 15, uf 1 15 8 1 100 10, uf 1 7 0 15 100 30]
def fdGnssStream : List Fd := [uf 0 23 16 0 100, ua 0 9 8, ua 0 1 0]
def fdGnssRestart : List Fd := [uf 0 9 8 0 2, ua 0 1 0]
def fdFusRefConfig : List Fd := [uf 0 11 8 0 7, ub 0 7, uf 0 4 0 0 23, ua 1 31 16, uf 1 15 8 0 3, uf 1 7 0 0 9, uf 2 31 0 0 2560000,
      uw 3, uw 4, uw 5, uw 6, uw 7, uw 8, uw 9, uf 10 23 16 20 200 50, uf 10 7 4 0 2, uf 10 3 2 0 2 2, ub 10 1,
      uw 11 1000, uf 12 31 0 100 10000, uf 13 15 0 100 1000 300]
def fdFusRefEnable : List Fd := [uf 0 4 0 0 23, ub 0 8]
def fdFusRefCapture : List Fd := [uf 0 4 0 0 23]
def fdFusVoteConfig : List Fd := [uf 0 31 16 1 600 30, uf 0 7 0 20 100 40, ub 1 16 1, uf 1 15 8 1 100 10, uf 1 7 0 1 100 10]
def fdFusObserverConfig : List Fd := [uf 0 15 8 30 250 80, ub 0 0 1, uf 1 31 16 10 1000 100, uf 1 7 0 1 100 10]
def fdFusSensorStream : List Fd := [ua 0 21 0]
def fdFusStateStream : List Fd := [uf 0 7 0 0 100]
def fdSolvStructDefine : List Fd := [ua 0 5 0]
def fdSolvUpdate : List Fd := [uf 0 15 8 1 84, ua 0 5 0]
def fdSolvSubmit : List Fd := [ua 0 14 12, uf 0 9 8 0 2, ua 0 5 0, ub 1 24 1, uf 1 23 16 20 52 40, uf 1 15 8 10 50 30, uf 1 7 0 1 200 50,
      uf 2 31 0 0 60000, uf 3 31 28 6 8 6, ua 3 15 8, uf 3 7 0 0 123]
def fdSolvResultRead : List Fd := [uf 0 31 28 6 8, ua 0 15 8, uf 0 7 0 1 123, ua 1 5 0]
def fdDpcSetFunction : List Fd := [uf 0 2 0 0 4]
def fdDpcSetDatum : List Fd := [uw 0, uw 1, uw 2]
def fdDpcSetRotationPoint : List Fd := [uw 0, uw 1]
def fdDpcControllerConfig : List Fd := [uf 0 31 16 20 300 100, uf 0 15 0 20 300 100, uf 1 15 0 20 300 80, uf 2 31 0 500 50000 5000,
      uf 3 31 0 11930465 357913941 59652324, uf 4 31 16 50 3000 300, uf 4 7 0 30 150 90, uf 5 31 0 1000 50000 10000,
      uf 6 31 0 11930465 536870912 119304647, uf 7 31 16 5 300 30, uf 7 15 8 0 100 100, uf 7 7 0 0 100 100]
def fdDpcMpcConfig : List Fd := [ub 0 0, uf 1 31 16 100 1000 250, uf 1 7 0 10 40 40]
def fdDpcMoveConfig : List Fd := [uf 0 31 0 10 5000 500, uf 1 31 0 198841 23860929 3976822, uf 2 31 0 1 1000 50, uf 3 31 0 1 1000 20,
      uf 4 31 0 59652 59652324 596523, uf 5 31 0 59652 59652324 238609, uf 6 31 0 1000 10000000 500000,
      uf 7 31 0 50 10000 500, uf 8 31 0 1193046 119304647 11930465]
def fdDpcSetTarget : List Fd := [ub 0 2, ub 0 1, ub 0 0, uw 1, uw 2, uw 3, uf 4 15 8 1 100 100, ub 4 2 1, uf 4 1 0 0 2]
def fdDpcJoystick : List Fd := [ua 0 31 16, ua 0 15 0, ua 1 15 0]
def fdDpcJoystickConfig : List Fd := [ub 0 0, uf 1 31 0 0 0x7FFFFFFF, uf 2 31 0 0 0x7FFFFFFF, uf 3 31 0 0 0x7FFFFFFF,
      uf 4 31 16 100 5000 500, ub 4 0 1, uf 5 31 24 0 20 2, ua 5 19 16 2, ua 5 11 8 1, ua 5 3 0]
def fdDpcTrackControl : List Fd := [ua 0 15 8, ua 0 1 0]
def fdDpcPowerConfig : List Fd := [ub 0 8, ux 0 2 0 0 5 7 7, ua 1 28 0, ux 2 31 24 0 62 255 255, ux 2 23 16 0 62 255 255,
      ux 2 15 8 0 62 255 255, ux 2 7 0 0 62 255 255, uf 3 31 16 50 5000 500, uf 3 15 8 1 100 10, uf 3 7 0 0 50 5,
      ua 4 31 16, ub 4 0, ua 5 15 0 50]
def fdAllocThrusterConfig : List Fd := [ua 0 15 12, ua 0 9 8, ua 0 3 0, uw 1, uw 2, uw 3, uw 4, uw 5, uw 6, uw 7 143165577, uw 8,
      ua 9 31 16 100, ua 9 15 0 50, ub 10 7, ub 10 5, ua 10 4 0, uw 11, uw 12, uw 13, uw 14]
def fdAllocConfig : List Fd := [uf 0 15 8 1 50 5, uf 0 7 0 1 20 2, uf 1 31 0 100 1000000 10000, ub 2 16, uf 2 15 0 0 1000 10,
      uf 3 31 16 1 120 10, uf 3 15 0 1 600 5]
def fdAllocThrusterEnable : List Fd := [ua 0 3 0, ub 0 8]
def fdAllocThrusterStatus : List Fd := [ua 0 3 0]
def fdAllocEnvelopeRead : List Fd := [uf 0 4 0 0 20]
def fdAllocConseqConfig : List Fd := [uf 0 31 16 50 150 100, ub 0 0 1, uf 1 23 16 1 100 10, uf 1 15 0 40 149 90, uf 2 31 0 1000 60000 5000]
def fdLoopConfig : List Fd := [ua 0 31 24, ua 0 23 16, ub 0 11, uf 0 10 8 0 4, ua 0 5 0, uw 1, uw 2, uw 3, uw 4, uw 5, uw 6,
      ub 7 16, uf 7 15 0 1 65535 1000]
def fdLoopThrusterBind : List Fd := [ux 0 31 24 0 0x4F 0xFF, ux 0 23 16 0 63 0xFF, ub 0 8, ua 0 3 0, ux 1 31 24 0 0x10 0xFF,
      ux 1 23 16 0 0x10 0xFF, ux 1 15 8 0 0x10 0xFF, ux 1 2 0 0 5 7] ++ uid 2 ++ uid 3 ++ [uw 4]
def fdLoopSetCoeff : List Fd := [ua 0 5 0, uw 1, uw 2, uw 3, uw 4, uf 5 31 0 0 10000000, uf 6 31 0 100 10000000 100000]
def fdLoopClose : List Fd := [ua 0 5 0]
def fdLoopSetManual : List Fd := [ua 0 5 0, uw 1]
def fdLoopGroup : List Fd := [ub 0 8, ua 0 3 0, uw 1]
def fdFollyStart : List Fd := [uf 0 31 24 1 255, uf 0 10 9 0 2, ub 0 8, ua 0 5 0, uf 1 31 0 1 0x7FFFFFFF, uw 2, uw 3,
      uf 4 31 0 0 1000000, uw 5, ub 6 0 1]
def fdProfConfig : List Fd := [ua 0 31 24, ub 0 16, ua 0 15 10, uf 0 9 8 0 2, ua 0 3 0, uf 1 31 0 1 0x7FFFFFFF, uf 2 31 0 1 0x7FFFFFFF,
      uf 3 31 0 1 0x7FFFFFFF, uw 4, uw 5, ux 6 23 16 0 15 255 255, uf 6 15 0 500 50000 2000, uf 7 15 0 10 10000 500,
      uf 8 31 0 0 100000 2000, uf 9 31 0 0 0x7FFFFFFF, uf 10 15 0 1 10000 100]
def fdProfMove : List Fd := [ub 0 9, ub 0 8, ua 0 3 0, uw 1, uf 2 7 0 1 100 100]
def fdProfHome : List Fd := [uf 0 10 9 0 2, ub 0 8, ua 0 3 0, uf 1 31 0 1 0x7FFFFFFF, uw 2, uw 3, uw 4 100, uf 5 31 16 1 5000 100,
      ux 5 7 0 0 15 255 255, uw 6, uf 7 31 0 1 0x7FFFFFFF 0x7FFFFFFF]
def fdProfStatus : List Fd := [ua 0 3 0]
def fdBusCanConfig : List Fd := [uf 0 19 16 0 4, uf 0 15 12 0 3, uf 0 9 8 0 2, ub 0 7, ub 0 6, ub 0 5, ub 0 4, uf 0 2 0 0 5, uw 1, uw 2] ++
      uid 3 ++ [ua 4 28 0]
def fdBusCanFilter : List Fd := [uf 0 2 0 0 5, ua 0 12 8, ub 0 16, ub 0 17, ub 0 18, ua 1 28 0, ua 2 28 0]
def fdBusCanSend : List Fd := [uf 0 2 0 0 5, ub 0 8, ub 1 31, ub 1 30, ub 1 29, ua 1 28 0, ub 2 7, uf 2 6 0 0 64]
def fdBusCanReceive : List Fd := [uf 0 2 0 0 5, uf 0 15 8 1 13]
def fdBusCanSleep : List Fd := [uf 0 15 12 0 8, uf 0 10 9 0 2, ub 0 8, uf 0 2 0 0 5] ++ uid 1 ++ [ua 2 28 0, uw 3, uw 4]
def fdBusCanRecover : List Fd := [uf 0 2 0 0 5]
def fdBusCanRelease : List Fd := [uf 0 2 0 0 5] ++ uid 1
def fdBusUartConfig : List Fd := [uf 0 3 0 0 9, uf 0 9 8 0 3, uf 0 18 16 0 5, ub 1 0, ub 1 1 1, uf 1 3 2 0 2, ub 1 4]
def fdBusUartSend : List Fd := [uf 0 3 0 0 9, uf 0 15 8 1 82, ub 0 16]
def fdBusUartStatus : List Fd := [uf 0 3 0 0 9]
def fdBusStream : List Fd := [ua 0 3 0, uf 0 7 4 0 1, ub 0 8]
def fdKilnConfig : List Fd := [ua 0 23 16, ub 0 0] ++ uid 1 ++ ((List.range 8).flatMap fun n => [ua (2 + n) 31 8]) ++
      ((List.range 8).flatMap fun j => [ua (10 + j) 1 0]) ++ [ua 18 31 16 10000, ua 18 15 0 100, uw 19 0xFFFFFFFF, ua 20 15 0 300] ++
      ((List.range 8).flatMap fun n => [ub (21 + n) 16 1, ua (21 + n) 15 0 100]) ++
      ((List.range 8).flatMap fun j => [ua (29 + j) 31 16 100, ua (29 + j) 15 0])
def fdKilnConfirm : List Fd := [uw 0]
def fdKilnBrake : List Fd := [ua 0 7 0]
def fdDpxConfig : List Fd := [uf 0 31 16 5 3600 60, ub 0 1 1, ub 0 0, uf 1 31 16 0 12288, ua 1 10 0 0x27E]
def fdDpxHostDataWrite : List Fd := [ua 0 15 0]
def fdDpxHostDataRead : List Fd := [ua 0 15 0, uf 0 23 16 1 253]
def fdCalSet : List Fd := [ua 0 15 8, ua 0 7 0, uw 1]
def fdCalRead : List Fd := [ua 0 15 8, ua 0 7 0]
def fdCfgFirChannel : List Fd := [ux 0 15 12 0 9 15 15, uf 0 11 8 0 9, uf 0 4 0 0 21, ub 1 1 1, ub 1 0 1]
def fdCfgFirQuery : List Fd := [uf 0 4 0 0 21]
def fdCfgModule : List Fd := [uf 0 1 0 0 2, uf 1 31 0 1 1000000 10]
def fdCfgLoad : List Fd := [uf 0 1 0 0 2]
def fdBusMaintConfig : List Fd := [ub 0 0] ++ uid 1 ++ uid 2
def fdLogConfig : List Fd := [ub 0 0, uf 1 31 16 1 3600 60, uf 1 8 0 1 512 256, uf 2 15 0 10 3600 60]
def fdLogRate : List Fd := [ua 0 15 0, uf 1 31 16 1 1000, ux 1 15 0 0 60000 0xFFFF]
def fdLogRead : List Fd := [uf 0 1 0 0 2, uf 0 15 8 1 31, uw 1]
def fdLogWrite : List Fd := [uf 0 15 0 0x8000 0x8FFF, uw 1, uw 2, ua 3 15 0]
def fdEvtRoute : List Fd := [ub 0 11, ub 0 10, uf 0 9 8 0 2, ua 0 6 0, uf 1 2 0 0 4]
def fdEvtQuery : List Fd := [ua 0 6 0]
def fdBulkOpen : List Fd := [uw 0, ub 1 0, uw 2, uw 3]
def fdBulkWrite : List Fd := [uw 0]
def fdBulkClose : List Fd := [ua 0 7 0]

/-- The payload fields of every opcode, words of the expert form included (Tables 2-9, 4-3, 5-11, 6-7, 7-3, 7-10, 7-11, 8-4, 8-5, 8-13, 9-2, 9-6, 9-7, 10-1, 10-11, 10-12, 11-4, 11-7, 11-9, 12-10, 13-7, 13-8, 14-2, 15-5, 16-5, 16-6, 17-3, 18-6, 18-7, 18-9, 18-11, 18-13 to 18-16 and the sections they name). Angles in degrees stand rounded to 2^-32 turn. A range that depends on another field is checked in its own place (extraBad). -/
def fields : Op → List Fd
  | .sysGetId | .sysReset | .timeGet | .solvPlacement | .dpcStatus | .allocStatus | .follyStop | .kilnReadConfig
  | .kilnStatus | .kilnAck | .dpxTransfer | .dpxStatus | .cfgCommit | .cfgStatus | .logStatus => []
  | .sysSetMode => fdSysSetMode
  | .sysSetWake => fdSysSetWake
  | .sysAbort => fdSysAbort
  | .timeSetRtc => fdTimeSetRtc
  | .timeSetAlarm => fdTimeSetAlarm
  | .timeGetAlarm => fdTimeGetAlarm
  | .gnssConfig => fdGnssConfig
  | .gnssRtcmConfig => fdGnssRtcmConfig
  | .gnssHdgConfig => fdGnssHdgConfig
  | .gnssStream => fdGnssStream
  | .gnssRestart => fdGnssRestart
  | .fusRefConfig => fdFusRefConfig
  | .fusRefEnable => fdFusRefEnable
  | .fusRefCapture | .fusRefStatus => fdFusRefCapture
  | .fusVoteConfig => fdFusVoteConfig
  | .fusObserverConfig => fdFusObserverConfig
  | .fusSensorStream => fdFusSensorStream
  | .fusStateStream | .dpcStateStream | .allocStateStream => fdFusStateStream
  | .solvStructDefine | .solvStructDelete | .solvStructQuery => fdSolvStructDefine
  | .solvUpdate => fdSolvUpdate
  | .solvSubmit => fdSolvSubmit
  | .solvResultRead => fdSolvResultRead
  | .dpcSetFunction => fdDpcSetFunction
  | .dpcSetDatum => fdDpcSetDatum
  | .dpcSetRotationPoint => fdDpcSetRotationPoint
  | .dpcControllerConfig => fdDpcControllerConfig
  | .dpcMpcConfig => fdDpcMpcConfig
  | .dpcMoveConfig => fdDpcMoveConfig
  | .dpcSetTarget => fdDpcSetTarget
  | .dpcJoystick => fdDpcJoystick
  | .dpcJoystickConfig => fdDpcJoystickConfig
  | .dpcTrackControl => fdDpcTrackControl
  | .dpcPowerConfig => fdDpcPowerConfig
  | .allocThrusterConfig => fdAllocThrusterConfig
  | .allocConfig => fdAllocConfig
  | .allocThrusterEnable => fdAllocThrusterEnable
  | .allocThrusterStatus => fdAllocThrusterStatus
  | .allocEnvelopeRead => fdAllocEnvelopeRead
  | .allocConseqConfig => fdAllocConseqConfig
  | .loopConfig => fdLoopConfig
  | .loopThrusterBind => fdLoopThrusterBind
  | .loopSetCoeff => fdLoopSetCoeff
  | .loopClose | .loopOpen | .loopStatus => fdLoopClose
  | .loopSetManual | .loopSetSetpoint => fdLoopSetManual
  | .loopGroup => fdLoopGroup
  | .follyStart => fdFollyStart
  | .profConfig => fdProfConfig
  | .profMove => fdProfMove
  | .profHome => fdProfHome
  | .profStatus => fdProfStatus
  | .busCanConfig => fdBusCanConfig
  | .busCanFilter => fdBusCanFilter
  | .busCanSend => fdBusCanSend
  | .busCanReceive => fdBusCanReceive
  | .busCanSleep => fdBusCanSleep
  | .busCanRecover | .busCanStatus => fdBusCanRecover
  | .busCanRelease => fdBusCanRelease
  | .busUartConfig => fdBusUartConfig
  | .busUartSend => fdBusUartSend
  | .busUartStatus => fdBusUartStatus
  | .busStream => fdBusStream
  | .kilnConfig => fdKilnConfig
  | .kilnConfirm => fdKilnConfirm
  | .kilnBrake => fdKilnBrake
  | .dpxConfig => fdDpxConfig
  | .dpxHostDataWrite => fdDpxHostDataWrite
  | .dpxHostDataRead => fdDpxHostDataRead
  | .calSet => fdCalSet
  | .calRead => fdCalRead
  | .cfgFirChannel => fdCfgFirChannel
  | .cfgFirQuery => fdCfgFirQuery
  | .cfgModule => fdCfgModule
  | .cfgLoad => fdCfgLoad
  | .busMaintConfig => fdBusMaintConfig
  | .logConfig => fdLogConfig
  | .logRate => fdLogRate
  | .logRead => fdLogRead
  | .logWrite => fdLogWrite
  | .evtRoute => fdEvtRoute
  | .evtQuery => fdEvtQuery
  | .bulkOpen => fdBulkOpen
  | .bulkWrite | .bulkRead => fdBulkWrite
  | .bulkClose => fdBulkClose

/-- First payload word that carries free data, not fields. DESIGN CHOICE, log entry 61: the bytes of the last data word of BUS_CAN_SEND and BUS_UART_SEND beyond LEN count as free data, not as reserved bits of R413. -/
def rawFrom : Op → Nat
  | .solvUpdate => 1
  | .busCanSend => 3
  | .busUartSend => 1
  | .dpxHostDataWrite => 1
  | .bulkWrite => 1
  | _ => 256

/-- The bits of word w that fields assign. -/
def assigned (fs : List Fd) (w : Nat) : Word :=
  fs.foldl (fun m f => if f.w = w then m ||| ofN ((2 ^ (f.hi - f.lo + 1) - 1) * 2 ^ f.lo) else m) 0

/-- A field of payload word x holds an assigned value in its range. -/
def Fd.ok (f : Fd) (x : Word) : Bool :=
  let v := fld x f.hi f.lo
  (f.min ≤ v && v ≤ f.max) || f.alt == some v

/-- Payload word i is in order: reserved bits 0, every field in its range (R2, R413). -/
def wordOk (fs : List Fd) (i : Nat) (x : Word) : Bool :=
  (x &&& ~~~(assigned fs i)) == 0 && (fs.filter fun f => f.w == i).all fun f => f.ok x

/-- First payload word with a reserved bit set or a field out of its range (BAD_VALUE detail, Table 2-7), the words of skip left out. -/
def firstBad (op : Op) (ws : List Word) (skip : List Nat := []) : Option Nat :=
  (List.range (min ws.length (rawFrom op))).find? fun i => !skip.contains i && !wordOk (fields op) i (wd ws i)

/-- Lennov default of payload word i (R54). -/
def dfltWord (op : Op) (i : Nat) : Word :=
  pk (((fields op).filter fun f => f.w == i).map fun f => (f.dflt, f.lo))

/-- Table 7-4: default STALE_MS by KIND. -/
def staleDflt (kind : Nat) : Nat := [1000, 1000, 2000, 2000, 2000, 500, 200, 3000].getD kind 1000

/-- The expert words that a basic form sets to their Lennov defaults, for the words it carries (R54): those of the field table, and the defaults that depend on a basic field (Tables 7-3, 7-4, 10-1, R430). -/
def expertDflt (op : Op) (ws : List Word) (i : Nat) : Word :=
  match op, i with
  | .fusRefConfig, 10 => pk [(50, 16), (if fld (wd ws 0) 11 8 = 1 then 1 else 0, 4), (2, 2)]
  | .fusRefConfig, 12 => ofN (staleDflt (fld (wd ws 0) 11 8))
  | .allocThrusterConfig, 6 => if fld (wd ws 0) 9 8 = 1 then wd ws 3 else 0
  | .allocConseqConfig, 1 => pk [(10, 16), (min 90 (fld (wd ws 0) 31 16 - 10), 0)]
  | _, _ => dfltWord op i

/-- The words of a command in the layout of its expert form: a basic form completed with the defaults (R54). -/
def expertWords (op : Op) (expert : Bool) (ws : List Word) : List Word :=
  if expert then ws
  else ws ++ (List.range ((opInfo op).xLo - ws.length)).map fun k => expertDflt op ws (ws.length + k)

/-- Functions whose Lennov default is the field defaults of every word (Tables 5-11, 7-11, 9-7, 10-12, 13-8, 16-6, R379, R221). -/
def hasDflt : List Op :=
  ([.gnssConfig, .gnssRtcmConfig, .gnssHdgConfig, .fusVoteConfig, .fusObserverConfig, .dpcSetRotationPoint,
   .dpcControllerConfig, .dpcMpcConfig, .dpcMoveConfig, .dpcJoystickConfig, .dpcPowerConfig, .allocConfig] : List Op) ++
  ([.allocConseqConfig, .dpxConfig, .cfgModule, .logConfig, .busMaintConfig] : List Op)

/-- The default words of a function and instance (R148, Table 16-4); none where absence is the default. -/
def lennov (op : Op) (inst : Nat) : Option (List Word) :=
  if op = .cfgFirChannel then some [pk [(15, 12), (if inst < 6 then 1 else 0, 8), (inst, 0)], 3]
  else if op = .logRate then some [ofN inst, if inst < 0x80 then pk [(20, 16), (60, 0)] else pk [(50, 16), (600, 0)]]
  else if op ∈ hasDflt then some ((List.range (opInfo op).xLo).map (dfltWord op))
  else none

/-- The count field of the ranged opcodes that have one (R412): the length it implies and the payload word that holds it. -/
def implied (op : Op) (ws : List Word) : Option (Nat × Nat × Nat) :=
  match op with
  | .solvUpdate => some (0, fld (wd ws 0) 15 8, 1 + 3 * fld (wd ws 0) 15 8)
  | .busCanSend => some (2, fld (wd ws 2) 6 0, 3 + cdiv (fld (wd ws 2) 6 0) 4)
  | .busUartSend => some (0, fld (wd ws 0) 15 8, 1 + cdiv (fld (wd ws 0) 15 8) 4)
  | _ => none

/-- The count field holds a value in its own range (R412). -/
def countOk : Op → Nat → Bool
  | .solvUpdate, n => 1 ≤ n && n ≤ 84
  | .busCanSend, n => n ≤ 64
  | .busUartSend, n => 1 ≤ n && n ≤ 82
  | _, _ => true

/-- R412: the detail of BAD_LENGTH for a COUNT with the payload words ws (those that arrived), or none when the length is in order. -/
def badLength (op : Op) (expert : Bool) (count : Nat) (ws : List Word) : Option Nat :=
  let i := opInfo op
  let lo := if expert then i.xLo else i.bLo
  let hi := if expert then i.xHi else i.bHi
  let near := if count < lo then lo else hi
  if lo = hi then (if count = lo then none else some lo)
  else
    match implied op ws with
    | some (idx, n, len) =>
      if idx < count && idx < ws.length then
        if !countOk op n then (if lo ≤ count && count ≤ hi then none else some near)
        else if count = len then none else some len
      else if lo ≤ count && count ≤ hi then none else some near
    | none => if lo ≤ count && count ≤ hi then none else some near

end Sys2Proof.Machine
end

