-- ==== Sys2Proof/Machine/State.lean ====
section
/-! DEFINITION. The whole state of the block as plain data, the faults and refusals, and the state after reset. Every field's default is its reset value. -/

namespace Sys2Proof.Machine

/-- The block: every register, store, queue, counter, mode and line the spec gives it, and the queue of waiting commands. -/
structure State where
  /-- The command port on the Host Port Bus (R61). -/
  host : PortState := {}
  /-- The maintenance port on CAN5 (R61). -/
  maint : PortState := {}
  /-- The direct registers of the host port (2.11). -/
  hp : HpState := {}
  /-- The event sources (17). -/
  ev : EvState := {}
  /-- Modes, resets, supplies, power domains, firmware images (03). -/
  sys : SysState := {}
  /-- Module time, Ember, GNSS time, time pulse (04). -/
  time : TimeState := {}
  /-- The GNSS basebands (05). -/
  gnss : GnssState := {}
  /-- Inertial sensor and FIR engine (06). -/
  fir : FirState := {}
  /-- Belvedere (07). -/
  fus : FusState := {}
  /-- Pergola and Gazebo (08). -/
  solv : SolvState := {}
  /-- Positioning control (09). -/
  dpc : DpcState := {}
  /-- Thrust allocation (10). -/
  alloc : AllocState := {}
  /-- Loop engines, Folly, profile channels, field outputs (11). -/
  loop : LoopState := {}
  /-- The Kiln (12). -/
  kiln : KilnState := {}
  /-- Duplex operation (13). -/
  dpx : DpxState := {}
  /-- The CAN controllers (14.2 to 14.5). -/
  can : Vector CanState 6 := Vector.replicate 6 {}
  /-- The UARTs (14.7). -/
  uart : Vector UartState 10 := Vector.replicate 10 {}
  /-- The framing of the maintenance port (14.6). -/
  mnt : MaintState := {}
  /-- The boundary-scan TAP (R450). -/
  tap : TapState := {}
  /-- Calibration and configuration storage (15). -/
  cfg : CfgState := {}
  /-- The Woodshed (16). -/
  log : LogState := {}
  /-- The bulk handles 1 to 4 (R56). Reset: none open (R59). -/
  bulk : Vector (Option Handle) 4 := Vector.replicate 4 none
  /-- Stream subscriptions (R416). Reset: none (R416). -/
  subs : List Sub := []
  /-- The model's own counter of free values drawn so far (Config.freeInt). Reset: 0 (DESIGN CHOICE, log entry 3; no statement rests on it). -/
  free : Nat := 0
  /-- The commands that wait, first in first out. Reset: empty. -/
  pending : List Instr := []
  deriving DecidableEq, Repr

/-- Why a step stops with a fault. -/
inductive Fault where
  /-- Raised by no meaning of this model: the spec answers every access and every event (R32, R33, R45). Safe: it only stops. -/
  | noSuchInput
  deriving DecidableEq, Repr

/-- Why a command has no meaning here. -/
inductive Refusal where
  /-- Raised by an arm of exec whose row has no meaning yet. Safe: it only stops. -/
  | notModelled (mnemonic : String)
  deriving DecidableEq, Repr

/-- The state right after PD1 has left reset at a main power-on: Kindling at step 1, nothing read from the flash yet (Tables 2-12 to 2-18, 3-4; log entries 1 and 2 for what the spec gives no reset value). -/
def State.reset : State := {}

/-- Changes host alone. -/
def State.onHost (s : State) (f : PortState → PortState) : State := { s with host := f s.host }

/-- Changes maint alone. -/
def State.onMaint (s : State) (f : PortState → PortState) : State := { s with maint := f s.maint }

/-- Changes hp alone. -/
def State.onHp (s : State) (f : HpState → HpState) : State := { s with hp := f s.hp }

/-- Changes ev alone. -/
def State.onEv (s : State) (f : EvState → EvState) : State := { s with ev := f s.ev }

/-- Changes sys alone. -/
def State.onSys (s : State) (f : SysState → SysState) : State := { s with sys := f s.sys }

/-- Changes time alone. -/
def State.onTime (s : State) (f : TimeState → TimeState) : State := { s with time := f s.time }

/-- Changes gnss alone. -/
def State.onGnss (s : State) (f : GnssState → GnssState) : State := { s with gnss := f s.gnss }

/-- Changes fir alone. -/
def State.onFir (s : State) (f : FirState → FirState) : State := { s with fir := f s.fir }

/-- Changes fus alone. -/
def State.onFus (s : State) (f : FusState → FusState) : State := { s with fus := f s.fus }

/-- Changes solv alone. -/
def State.onSolv (s : State) (f : SolvState → SolvState) : State := { s with solv := f s.solv }

/-- Changes dpc alone. -/
def State.onDpc (s : State) (f : DpcState → DpcState) : State := { s with dpc := f s.dpc }

/-- Changes alloc alone. -/
def State.onAlloc (s : State) (f : AllocState → AllocState) : State := { s with alloc := f s.alloc }

/-- Changes loop alone. -/
def State.onLoop (s : State) (f : LoopState → LoopState) : State := { s with loop := f s.loop }

/-- Changes kiln alone. -/
def State.onKiln (s : State) (f : KilnState → KilnState) : State := { s with kiln := f s.kiln }

/-- Changes dpx alone. -/
def State.onDpx (s : State) (f : DpxState → DpxState) : State := { s with dpx := f s.dpx }

/-- Changes can alone. -/
def State.onCan (s : State) (f : Vector CanState 6 → Vector CanState 6) : State := { s with can := f s.can }

/-- Changes uart alone. -/
def State.onUart (s : State) (f : Vector UartState 10 → Vector UartState 10) : State := { s with uart := f s.uart }

/-- Changes mnt alone. -/
def State.onMnt (s : State) (f : MaintState → MaintState) : State := { s with mnt := f s.mnt }

/-- Changes tap alone. -/
def State.onTap (s : State) (f : TapState → TapState) : State := { s with tap := f s.tap }

/-- Changes cfg alone. -/
def State.onCfg (s : State) (f : CfgState → CfgState) : State := { s with cfg := f s.cfg }

/-- Changes log alone. -/
def State.onLog (s : State) (f : LogState → LogState) : State := { s with log := f s.log }

/-- Changes bulk alone. -/
def State.onBulk (s : State) (f : Vector (Option Handle) 4 → Vector (Option Handle) 4) : State := { s with bulk := f s.bulk }

/-- Changes subs alone. -/
def State.onSubs (s : State) (f : List Sub → List Sub) : State := { s with subs := f s.subs }

/-- Changes free alone. -/
def State.onFree (s : State) (f : Nat → Nat) : State := { s with free := f s.free }

/-- The command port p. -/
def State.port (s : State) : Port → PortState
  | .host => s.host
  | .maint => s.maint

/-- Changes the command port p alone. -/
def State.onPort (s : State) (p : Port) (f : PortState → PortState) : State :=
  match p with
  | .host => s.onHost f
  | .maint => s.onMaint f

end Sys2Proof.Machine
end

