-- ==== Sys2Proof/Machine/Ops.lean ====
section
/-! DEFINITION. The operations that the meanings share: time, reply packets, events, records, the working configuration, self-diagnosis, wake. -/

namespace Sys2Proof.Machine

/-! Time (R19, R88, R90, R106). -/

/-- Ticks of one control frame (R19). -/
def frameTicks : Nat := 1000000

/-- Ticks of one millisecond and of one second of MT. -/
def msTicks : Nat := 100000
def secTicks : Nat := 100000000

/-- Ember ticks of the calendar range 2000 to 2199, 73,049 days, after which the RTC rolls over (R90). -/
def rtcSpan : Nat := 73049 * 86400 * 32768

/-- n ticks of 10 ns pass. The Ember crystal gives 128 / 390,625 of a tick per MT tick (32.768 kHz against 100 MHz). Operating time counts only while VMAIN is present (R106). -/
def advance (n : Nat) (s : State) : State :=
  let ph := s.time.phase + 128 * n
  let k := ph / 390625
  s.onTime fun t => { t with
    mt := if t.mtRun then (t.mt + n) % 2 ^ 64 else t.mt
    now := t.now + n
    phase := ph % 390625
    rtc := (t.rtc + k) % rtcSpan
    opTicks := if s.sys.vmain then t.opTicks + k else t.opTicks }

/-- MT reaches m; no time passes where it has passed it. -/
def advanceTo (m : Nat) (s : State) : State := advance (m - s.time.mt) s

/-- The model's own clock reaches m (timers of the Kiln and of Ember, which run without MT). -/
def advanceNow (m : Nat) (s : State) : State := advance (m - s.time.now) s

/-- Number of the frame that holds an instant (R19). -/
def frameOf (mt : Nat) : Nat := mt / frameTicks

/-- First frame boundary after an instant. -/
def nextBoundary (mt : Nat) : Nat := (mt / frameTicks + 1) * frameTicks

/-- First frame boundary at or after an instant. -/
def boundaryFrom (mt : Nat) : Nat := cdiv mt frameTicks * frameTicks

/-! Packets (2.5) and the reply store (2.3). -/

/-- Words of the reply store (R36). -/
def storeWords : Nat := 73728

/-- Words of the command queue and of the reply queue (2.3). -/
def queueWords : Nat := 1024

/-- A reply header (Table 2-5). -/
def header (code cls tag count : Nat) : Word := pk [(code, 20), (cls, 16), (tag % 256, 8), (count, 0)]

/-- A status word (Table 2-6). -/
def status (code detail : Nat) : Word := pk [(code, 16), (detail % 65536, 0)]

/-- A reply packet: header, status word, further payload. -/
def packet (code cls tag st detail : Nat) (ws : List Word) : List Word :=
  header code cls tag (ws.length + 1) :: status st detail :: ws

/-- Words in the reply store of a port. -/
def storeUsed (q : PortState) : Nat := (q.store.map fun k => k.words.length).sum

/-- Words reserved in it for outstanding commands (R36). -/
def storeResv (q : PortState) : Nat := (q.outstanding.map fun o => o.resv).sum

/-- Words neither used nor reserved (R37). -/
def storeRoom (q : PortState) : Nat := storeWords - storeUsed q - storeResv q

/-- The outstanding command with a tag (R49). -/
def findTag (q : PortState) (tag : Nat) : Option Outst := q.outstanding.find? fun o => o.tag == tag

/-- Changes the outstanding command with a tag. -/
def onTag (q : PortState) (tag : Nat) (f : Outst → Outst) : PortState :=
  { q with outstanding := q.outstanding.map fun o => if o.tag = tag then f o else o }

/-- Places a packet in the reply store. -/
def place (p : Port) (k : Pkt) (s : State) : State := s.onPort p fun q => { q with store := q.store ++ [k] }

/-- A reply that frees no tag: rejections of headers that were not accepted (R45, R49). -/
def headReject (p : Port) (code tag st detail : Nat) (s : State) : State :=
  (place p { words := packet code 3 tag st detail [] } s).onSys fun y => { y with lastActive := s.time.mt }

/-- The final reply of the outstanding command with this tag (R48, R49); nothing when it is no longer outstanding (R38). -/
def finish (p : Port) (tag cls st detail : Nat) (ws : List Word) (s : State) : State :=
  match findTag (s.port p) tag with
  | none => s
  | some o =>
    if o.done then s
    else
      let s := s.onPort p fun q => onTag q tag fun o => { o with resv := 0, done := true }
      let s := place p { words := packet (opInfo o.op).code cls tag st detail ws, frees := true } s
      s.onSys fun y => { y with lastActive := s.time.mt }

/-- Class 3 final reply of a command. -/
def reject (p : Port) (c : Cmd) (st detail : Nat) (s : State) : State := finish p c.tag 3 st detail [] s

/-- Class 0 OK. -/
def ok (p : Port) (c : Cmd) (detail : Nat) (ws : List Word) (s : State) : State := finish p c.tag 0 0 detail ws s

/-- Class 3 BAD_VALUE with the index of the word (Table 2-7). -/
def badValue (p : Port) (c : Cmd) (i : Nat) (s : State) : State := reject p c 0xF016 i s

/-- The class 1 reply of a long command (R48, R415). -/
def pending (p : Port) (c : Cmd) (ms : Nat) (s : State) : State :=
  let s := s.onPort p fun q => onTag q c.tag fun o => { o with resv := o.resv - 2 }
  place p { words := packet (opInfo c.op).code 1 c.tag 1 (satN 65535 ms) [] } s

/-- The commit point of a long command is reached (R53). -/
def commit (p : Port) (tag : Nat) (s : State) : State := s.onPort p fun q => onTag q tag fun o => { o with committed := true }

/-- Notes the unit an outstanding command works on. -/
def setUnit (p : Port) (tag u : Nat) (s : State) : State := s.onPort p fun q => onTag q tag fun o => { o with unit := u }

/-- An unsolicited packet: placed when the room outside the reservations holds it, else discarded and counted (R37, R44, R408). -/
def unsol (p : Port) (code : Nat) (ws : List Word) (s : State) : State :=
  s.onPort p fun q =>
    let k := packet code 2 0 0 (q.unsolSeq % 65536) ws
    let q' := { q with unsolSeq := q.unsolSeq + 1 }
    if k.length ≤ storeRoom q then { q' with store := q.store ++ [{ words := k }] } else { q' with lost := q.lost + 1 }

/-- The lesser of two word indices. -/
def least : Option Nat → Option Nat → Option Nat
  | some a, some b => some (min a b)
  | some a, none => some a
  | none, b => b

/-- The interpretation of an accepted packet by its opcode row: BAD_VALUE with the first bad word among those that were read, then QUEUE_ECC with the first that was not, then the body (Table 2-7, R40, R46). early names the first word whose value the command's own section refuses beyond the ranges of its fields. Without such a packet nothing happens. -/
def runOpV (op : Op) (p : Port) (early : Cmd → State → Option Nat) (body : Cmd → State → State) (s : State) : State :=
  match (s.port p).accepted with
  | none => s
  | some c =>
    if c.op = op then
      let s := s.onPort p fun q => { q with accepted := none }
      match least (firstBad op c.words c.ecc) ((early c s).filter fun i => !c.ecc.contains i), c.ecc with
      | some i, _ => badValue p c i s
      | none, i :: _ => reject p c 0xF017 i s
      | none, [] => body c s
    else s

/-- The same for a command whose words have no checks but those of their fields. -/
def runOp (op : Op) (p : Port) (body : Cmd → State → State) (s : State) : State := runOpV op p (fun _ _ => none) body s

/-! The Woodshed (16): creation of records. -/

/-- Words of LOG_CONFIG in force. -/
def cfgFind (l : List CfgEntry) (op : Op) (inst : Nat) : Option (List Word) :=
  (l.find? fun e => e.op == op && e.inst == inst).map fun e => e.words

/-- The words of a function and instance: as set, else its Lennov default, else none. -/
def cfgGet (l : List CfgEntry) (op : Op) (inst : Nat) : List Word :=
  (cfgFind l op inst).getD ((lennov op inst).getD [])

/-- The words in force. -/
def State.inForce (s : State) (op : Op) (inst : Nat := 0) : List Word := cfgGet s.cfg.force op inst

/-- R399: codes that have a token bucket. -/
def limited (code : Nat) : Bool := code < 0x80 || (0x8000 ≤ code && code ≤ 0x8FFF)

/-- RATE and BURST of a code; RATE none for unlimited (Tables 16-4, 16-5). -/
def rateOf (s : State) (code : Nat) : Option Nat × Nat :=
  match cfgFind s.cfg.force .logRate code with
  | some ws => (if fld (wd ws 1) 15 0 = 0xFFFF then none else some (fld (wd ws 1) 15 0), fld (wd ws 1) 31 16)
  | none => if code < 0x80 then (some 60, 20) else (some 600, 50)

/-- A token in the unit of Bucket.tokens: one minute of MT ticks. -/
def tokenUnit : Nat := 6000000000

/-- Takes a token of a code; none when there is none (R399). -/
def takeToken (code : Nat) (s : State) : Option State :=
  match rateOf s code with
  | (none, _) => some s
  | (some rate, burst) =>
    let full := burst * tokenUnit
    let t := match s.log.bucket.find? fun b => b.code == code with
      | some b => min full (b.tokens + rate * (s.time.mt - b.at_))
      | none => full
    if tokenUnit ≤ t then
      some (s.onLog fun l => { l with bucket := { code := code, tokens := t - tokenUnit, at_ := s.time.mt } :: l.bucket.filter fun b => b.code != code })
    else none

/-- How a record's creation ended (R401). -/
inductive RecRes where | created (seq : Nat) | suppressed | dropped (seq : Nat) | none
  deriving DecidableEq, Repr

/-- The record created now, before its SEQ is known (R387, R388). -/
def mkRec (s : State) (code source sev : Nat) (fwd : Bool) (payload : List Byte) : Rec :=
  { code := code, source := source, sev := sev, fwd := fwd
    opSec := s.time.opTicks / 32768, opMs := s.time.opTicks % 32768 * 1000 / 32768
    pwrCyc := s.time.pwrCyc, seq := 0, payload := payload }

/-- Gives a record its SEQ and queues it, or drops it when the queue is full (R388, R391). -/
def enqueueRec (r : Rec) (s : State) : State × RecRes :=
  let n := s.log.seq
  let next := (n + 1) % 2 ^ 32
  if s.log.queue.length < 512 then
    (s.onLog fun l => { l with queue := l.queue ++ [{ r with seq := n }], seq := next, lastOp := s.time.opTicks }, .created n)
  else
    (s.onLog fun l => { l with
      seq := next, nLost := inc32 l.nLost
      dropped := some (match l.dropped with | some (f, k) => (f, k + 1) | none => (n, 1)) }, .dropped n)

/-- A suppressed occurrence is counted for its code (R399, R400). -/
def suppress (code : Nat) (s : State) : State :=
  s.onLog fun l => { l with
    nSupp := inc32 l.nSupp
    supp := if l.supp.any fun x => x.code == code
      then l.supp.map fun x => if x.code = code then { x with n := inc32 x.n } else x
      else l.supp ++ [{ code := code, n := 1, first := s.time.opTicks / 32768 }] }

/-- A record with its rate limit (R399) and the queue (R391). -/
def limitRec (r : Rec) (s : State) : State × RecRes :=
  if limited r.code then
    match takeToken r.code s with
    | some s' => enqueueRec r s'
    | none => (suppress r.code s, .suppressed)
  else enqueueRec r s

/-- The control cores' domain is off (R393). -/
def pd2Off (s : State) : Bool := s.sys.dom[0] == .off && s.hp.ready

/-- A record is created (R390 to R394): discarded after a power-fail flush, held in PD1 while PD2 is off, else limited and queued. -/
def newRec (code source sev : Nat) (fwd : Bool) (payload : List Byte) (s : State) : State × RecRes :=
  let r := mkRec s code source sev fwd payload
  if s.log.discard then (s, .none)
  else if pd2Off s then
    (s.onLog fun l => if l.held.length < 64 then { l with held := l.held ++ [r] } else { l with heldLost := l.heldLost + 1 }, .none)
  else limitRec r s

/-! Events (17). -/

/-- A notice of an occurrence to each port whose NOTICE is set (R406, R408). -/
def notices (n : Fin 128) (detail mt : Nat) (s : State) : State :=
  let ws := [pk [(detail % 65536, 16), (n.val, 0)]] ++ w64 mt
  let s := if (s.ev.src[n]).noticeHost then unsol .host 0xDA0 ws s else s
  if (s.ev.src[n]).noticeMaint then unsol .maint 0xDA0 ws s else s

/-- An occurrence at a source: pending bit, counter, record, notices (R64, R403, R406, R409, R410). While PD2 is not on its notices wait for PD2's exit (R403). -/
def occur (n : Fin 128) (detail mt : Nat) (s : State) : State :=
  let src := s.ev.src[n]
  let s := s.onEv fun e => { e with src := upd e.src n fun x =>
    { x with pend := true, count := satN 0xFFFF (x.count + 1), lastMt := mt, lastDetail := detail % 65536 } }
  let s := if src.record then
      (newRec n.val n.val (if n.val = 112 || n.val = 119 then 4 else src.severity) false (leBytes 2 detail ++ leBytes 8 mt) s).1
    else s
  if src.noticeHost || src.noticeMaint then
    if s.sys.dom[0] == .on then notices n detail mt s
    else s.onEv fun e => { e with heldNotices := e.heldNotices ++ [(n.val, detail, mt)] }
  else s

/-- LOG_OVERFLOW (EV120) at the first record dropped (R391). -/
def overflow (before after : State) : State :=
  match before.log.dropped, after.log.dropped with
  | none, some (_, k) => occur 120 (satN 65535 k) after.time.mt after
  | _, _ => after

/-- An event reaches the event logic, which lies in the control die: none while it is in reset (R405). -/
def raiseAt (n : Fin 128) (detail mt : Nat) (s : State) : State :=
  if s.hp.ready then overflow s (occur n detail mt s) else s

/-- An event stamped now. -/
def raise (n : Fin 128) (detail : Nat) (s : State) : State := raiseAt n detail s.time.mt s

/-- A record of any other code. -/
def record (code source sev : Nat) (payload : List Byte) (s : State) : State :=
  overflow s (newRec code source sev false payload s).1

/-! The working configuration (15.4) and change records (R55, R386). -/

/-- The key that orders entries. -/
def cfgKey (e : CfgEntry) : Nat := (opInfo e.op).code * 65536 + e.inst

/-- Inserts an entry in key order. -/
def cfgInsert (e : CfgEntry) : List CfgEntry → List CfgEntry
  | [] => [e]
  | x :: xs => if cfgKey e < cfgKey x then e :: x :: xs else x :: cfgInsert e xs

/-- Removes a function and instance. -/
def cfgRemove (op : Op) (inst : Nat) (l : List CfgEntry) : List CfgEntry :=
  l.filter fun x => !(x.op == op && x.inst == inst)

/-- Words that unconfigure an instance: KIND 0 of a slot, KIND NONE of a thruster, DISSOLVE of a group (R151, Table 10-1, Table 18-14). -/
def unconfigures (op : Op) (ws : List Word) : Bool :=
  (op == .fusRefConfig && fld (wd ws 0) 11 8 == 0) || (op == .allocThrusterConfig && fld (wd ws 0) 9 8 == 0) ||
  (op == .loopGroup && bit (wd ws 0) 8)

/-- Sets a function and instance; words equal to the Lennov default, and those that unconfigure, leave it unlisted (R380). -/
def cfgSet (op : Op) (inst : Nat) (ws : List Word) (l : List CfgEntry) : List CfgEntry :=
  let l' := cfgRemove op inst l
  if lennov op inst == some ws || unconfigures op ws then l' else cfgInsert ⟨op, inst, ws⟩ l'

/-- Module-local entries: CAL_SET trims (R380). -/
def cfgLocal (e : CfgEntry) : Bool := e.op == .calSet

/-- CFG_CRC of a configuration (R380): the image layout is not in the spec, so its CRC is free. -/
def cfgCrc (l : List CfgEntry) : Word := Config.imageCrc (l.filter fun e => !cfgLocal e)

/-- CFG_CRC of the working configuration. -/
def State.cfgCrc (s : State) : Word := Sys2Proof.Machine.cfgCrc s.cfg.work

/-- The hash of R386 over the parameters of a function and instance, a trim never set being 0; free where they have never had a value. -/
def cfgHash (l : List CfgEntry) (op : Op) (inst : Nat) : Word :=
  match cfgFind l op inst, lennov op inst with
  | some ws, _ => crc32 ws
  | none, some ws => crc32 ws
  | none, none => if op = .calSet then crc32 [ofN inst, 0] else Config.imageCrc [⟨op, inst, []⟩]

/-- Port number in records and details (R55, Table 17-2). -/
def portNum : Port → Nat | .host => 0 | .maint => 1

/-- A change record and CHANGE_RECORDED (R55, R453, Tables 16-2, 17-2). -/
def changeRecord (p : Port) (tag : Nat) (op : Op) (inst : Nat) (before after : Word) (fwd : Bool) (s : State) : State :=
  let code := (opInfo op).code
  let s := overflow s (newRec (0xC000 + code) (0x80 + portNum p) 1 fwd
    ([BitVec.ofNat 8 tag, BitVec.ofNat 8 inst] ++ leBytes 4 before.toNat ++ leBytes 4 after.toNat) s).1
  raise 123 (portNum p * 4096 + code) s

/-- The instance of a configuration command: the key of its entry (Table 18-19; for LOG_RATE the full CODE, for CAL_SET item and element). -/
def instOf (op : Op) (ws : List Word) : Nat :=
  match op with
  | .fusRefConfig | .fusRefEnable | .cfgFirChannel => fld (wd ws 0) 4 0
  | .allocThrusterConfig | .loopThrusterBind | .loopGroup | .profConfig | .busUartConfig => fld (wd ws 0) 3 0
  | .loopConfig | .loopSetCoeff => fld (wd ws 0) 5 0
  | .busCanConfig => fld (wd ws 0) 2 0
  | .calSet => fld (wd ws 0) 15 0
  | .logRate => fld (wd ws 0) 15 0
  | _ => 0

/-- Byte 1 of the change record (Table 18-19). -/
def instByte (op : Op) (inst : Nat) : Nat :=
  match op with
  | .calSet => inst / 256 % 16 * 16 + inst % 16
  | .logRate => inst % 256
  | _ => inst

/-- When a configuration command takes effect. -/
inductive Timing where | now | boundary | epoch | mpc | cycle | move | never
  deriving DecidableEq, Repr

/-- The timing each command's chapter states (R133, R353, 14.7, Tables 9-6, 10-11, 13-7, 16-5, R375, R148, R281, R178). -/
def timing : Op → Timing
  | .gnssConfig | .gnssRtcmConfig | .gnssHdgConfig => .epoch
  | .fusRefConfig | .fusRefEnable | .fusVoteConfig | .fusObserverConfig | .dpcSetDatum | .dpcSetRotationPoint
  | .dpcControllerConfig | .dpcJoystickConfig | .loopThrusterBind | .allocThrusterConfig | .allocConfig | .busCanConfig | .busUartConfig
  | .dpxConfig | .calSet | .cfgFirChannel | .logConfig | .bulkClose | .dpcPowerConfig => .boundary
  | .dpcMpcConfig => .mpc
  | .allocConseqConfig => .cycle
  | .dpcMoveConfig => .move
  | _ => .now

/-- Entries of one timing take effect: they are taken over from the working configuration, in key order. -/
def promote (t : Timing) (s : State) : State :=
  s.onCfg fun c => { c with
    force := (c.work.filter fun e => timing e.op == t).foldl (fun l e => cfgInsert e l) (c.force.filter fun e => timing e.op != t)
    pend := c.pend.filter fun k => timing k.1 != t }

/-- A command of this function and instance is about to take effect. -/
def State.awaits (s : State) (op : Op) (inst : Nat := 0) : Bool := s.cfg.pend.contains (op, inst)

/-- Is the duplex pair enabled, as in force (R330)? -/
def State.duplex (s : State) : Bool := bit (wd (s.inForce .dpxConfig) 0) 0

/-- A parameter set of the working configuration changes, with its change record (R55, R379, R386). The ENABLE of FUS_REF_CONFIG replaces that of an earlier FUS_REF_ENABLE. -/
def setConfig (p : Port) (tag : Nat) (op : Op) (inst : Nat) (ws : List Word) (fwd : Bool) (s : State) : State :=
  let before := cfgHash s.cfg.work op inst
  let s := s.onCfg fun c => { c with
    work := cfgSet op inst ws (if op = .fusRefConfig then cfgRemove .fusRefEnable inst c.work else c.work)
    pend := if timing op == .now || c.pend.contains (op, inst) then c.pend else c.pend ++ [(op, inst)] }
  let s := if timing op == .now then promote .now s else s
  changeRecord p tag op (instByte op inst) before (cfgHash s.cfg.work op inst) fwd s

/-- The owner forwards an accepted command of Table 18-19 in the HEADER of its next mirror frame (R333). -/
def forward (p : Port) (c : Cmd) (s : State) : State :=
  if s.duplex && s.sys.mode == .control then s.onDpx fun d => { d with fwd := d.fwd ++ [{ port := p, cmd := c }] } else s

/-- The word that a check refuses with BAD_VALUE. -/
def badOf : Option (Nat × Nat) → Option Nat
  | some (0xF016, i) => some i
  | _ => none

/-- A short configuration command: refused as the check says, else set, forwarded, recorded and answered OK (R54, R453). -/
def configRow (op : Op) (p : Port) (check : Cmd → List Word → State → Option (Nat × Nat)) (s : State) : State :=
  runOpV op p (fun c s => badOf (check c (expertWords op c.expert c.words) s)) (fun c s =>
    let ws := expertWords op c.expert c.words
    match check c ws s with
    | some (st, detail) => reject p c st detail s
    | none => ok p c 0 [] (forward p c (setConfig p c.tag op (instOf op ws) ws false s))) s

/-! Streams (R416). -/

/-- A subscription replaces the previous one of the stream and instance; decimation 0 stops it (R416, R62). -/
def subscribe (stream inst : Nat) (p : Port) (decim arg : Nat) (s : State) : State :=
  s.onSubs fun l =>
    let l' := l.filter fun x => !(x.stream == stream && x.inst == inst)
    if decim = 0 then l' else l' ++ [{ stream := stream, inst := inst, port := p, decim := decim, arg := arg }]

/-- The subscription of a stream and instance. -/
def State.sub (s : State) (stream inst : Nat) : Option Sub := s.subs.find? fun x => x.stream == stream && x.inst == inst

/-- A stream packet to its subscriber. -/
def stream (code inst : Nat) (ws : List Word) (s : State) : State :=
  match s.sub code inst with
  | some b => unsol b.port code ws s
  | none => s

/-! Power domains (3.5, 3.6). -/

/-- Table 3-7: off exit latencies in us, in the order of SysState.dom. -/
def offExit : List Nat := [80000, 1000, 3000, 1500, 1500, 1500, 1500, 5000, 2000000, 2000000, 350000, 300]

/-- Exit latency of a domain's state (Table 3-7). -/
def exitUs (d : Fin 12) : DomState → Nat
  | .on => 0
  | .gated => 2
  | .retention => 40
  | .off => offExit.getD d.val 0

/-- The deepest state whose exit latency does not exceed the budget (R85). -/
def budgetState (d : Fin 12) (us : Nat) : DomState :=
  if exitUs d .off ≤ us then .off else if 40 ≤ us then .retention else if 2 ≤ us then .gated else .on

/-- Pergola region of a domain. -/
def regionOf (d : Fin 12) : Option (Fin 4) := if 3 ≤ d.val then fin? 4 (d.val - 3) else none

/-- The domain of a region that is marked failed stays off (R84, R207). -/
def deadDomain (s : State) (d : Fin 12) : Bool :=
  match regionOf d with
  | some r => (s.solv.region[r]).st == .failed
  | none => false

/-- The domain of a region in COOLING is clock-gated, whatever the budget (R214). -/
def coolDomain (s : State) (d : Fin 12) : Bool :=
  match regionOf d with
  | some r => (s.solv.region[r]).st == .cooling
  | none => false

/-- The wake budget acts on the domain: only in DORMANT, and not on a region that is marked failed or cools (R84). -/
def budgeted (s : State) (d : Fin 12) : Bool := s.sys.mode == .dormant && !deadDomain s d && !coolDomain s d

/-- A flash program or erase is in progress (R87). -/
def flashBusy (s : State) : Bool := s.cfg.commit.isSome || s.sys.fwProg.isSome || s.log.erasing.isSome

/-- The named domains start their exits (R83). -/
def startExits (need : Fin 12 → Bool) (s : State) : State :=
  s.onSys fun y => { y with
    exiting := vmapI y.exiting fun d e => e || need d
    exitAt := vmapI y.exitAt fun d m => if need d then s.time.mt + exitUs d y.dom[d] * 100 else m }

/-- A wake trigger (R86): it restarts the idle count, starts the exit of every domain that is not on, and a wake raises EV5. -/
def wakeTrigger (kind : Nat) (s : State) : State :=
  let need := fun d : Fin 12 => budgeted s d && s.sys.dom[d] != .on && !s.sys.exiting[d]
  let s' := startExits need (s.onSys fun y => { y with lastActive := s.time.mt })
  if (fins 12).any need then raise 5 kind s' else s'

/-- The budget changes (R63, R84, R87): in DORMANT a domain whose exit latency exceeds it starts its exit at once. -/
def setBudget (us : Nat) (s : State) : State :=
  let s := s.onHp fun h => { h with wakeBudget := us }
  startExits (fun d => budgeted s d && decide (us < exitUs d s.sys.dom[d]) && !s.sys.exiting[d]) s

/-- Every condition of R86 for the return of the domains, the second apart. -/
def idleNow (s : State) : Bool :=
  s.sys.mode == .dormant &&
  (s.host.outstanding.all fun o => o.done) && s.host.store.isEmpty && s.host.rspq.isEmpty && s.host.accepted.isNone &&
  (s.maint.outstanding.all fun o => o.done) && s.maint.store.isEmpty && s.maint.rspq.isEmpty && s.maint.accepted.isNone

/-! Self-diagnosis (13.4). -/

/-- The module's partner is HEALTHY with SYNC in both views (R343). -/
def partnerReady (s : State) : Bool :=
  s.dpx.healthy && s.dpx.sync && (match s.dpx.partner with | some h => h.sync | none => false)

/-- Every self-diagnosis failure is absent. -/
def State.sound (s : State) : Bool := s.sys.diagFirst == 0

/-- A SYS_SET_MODE that has not reached its commit point ends with TRANSITION_FAILED detail 2 (R72), and its mode change with it. -/
def cancelModeCmd (detail : Nat) (s : State) : State :=
  let s := match s.sys.modeReq with
    | some r => match r.cmd with
      | some (p, tag) => (finish p tag 0 0x0111 detail [] s).onSys fun y => { y with modeReq := none }
      | none => s
    | none => s
  match s.dpx.transferCmd with
  | some (p, tag) =>
    if s.dpx.transferDormant && s.dpx.transferAt.isNone then
      (finish p tag 0 0x0111 detail [] s).onDpx fun d => { d with transfer := false, transferDormant := false, transferCmd := none }
    else s
  | none => s

/-- The mirror frame taken in last is a transfer mirror: the commit point of a transfer has passed (R343, Table 18-3). -/
def transferSeen (s : State) : Bool :=
  (match s.dpx.newest with | some f => f.transfer | none => false) || (match s.dpx.applied with | some f => f.transfer | none => false)

/-- A standby's own DPX_TRANSFER short of its commit point is ended by a transition of the module's own (R343). -/
def cancelTransferReq (s : State) : State :=
  match s.dpx.transferReq with
  | some (p, tag) =>
    if transferSeen s then s
    else (finish p tag 0 0xA012 2 [] s).onDpx fun d => { d with transferReq := none, transferReqAt := none }
  | none => s

/-- A transfer that has not reached its commit point is ended by a transition of the module's own (R343). -/
def cancelTransfer (s : State) : State :=
  let s := cancelTransferReq s
  if s.dpx.transfer && s.dpx.transferAt.isNone then
    let s := match s.dpx.transferCmd with
      | some (p, tag) => finish p tag 0 0xA012 2 [] s
      | none => s
    s.onDpx fun d => { d with transfer := false, transferDormant := false, transferCmd := none }
  else s

/-- A transition of the module's own, at its next frame boundary (R72). -/
def ownTransition (m : Mode) (kind detail : Nat) (s : State) : State :=
  let s := cancelTransfer (cancelModeCmd 2 s)
  s.onSys fun y => { y with modeReq := some { target := m, kind := kind, detail := detail } }

/-- The module gives up: GIVEUP_OUT rises and its outputs hold (R336). -/
def giveUp (code : Nat) (s : State) : State :=
  let s := cancelTransfer (cancelModeCmd 2 s)
  let s := s.onDpx fun d => { d with givingUp := true, giveupCode := code, giveupAt := s.time.mt }
  s.onSys fun y => { y with giveupOut := true, outputsHeld := true }

/-- A self-diagnosis failure (R334): EV112 once per code, HEALTHY cleared, and for the first failure the reaction of the mode. -/
def selfDiag (code : Nat) (s : State) : State :=
  if s.sys.diagSeen.contains code then s
  else
    let first := s.sys.diagFirst == 0
    let s := s.onSys fun y => { y with diagSeen := y.diagSeen ++ [code], diagFirst := if first then code else y.diagFirst }
    let s := raise 112 code s
    if first then
      match s.sys.mode with
      | .control => if s.duplex && partnerReady s then giveUp code s else ownTransition .safeHold 3 code s
      | .standby => ownTransition .dormant 3 code s
      | _ => s
    else s

/-- A deadline of this frame is missed (R22): bit d for D(d+1). The first miss makes the frame a missed frame; the third missed frame in a row is self-diagnosis failure 4. -/
def missDeadline (d : Nat) (s : State) : State :=
  let n := if s.sys.missedNow = 0 then s.sys.missedFrames + 1 else s.sys.missedFrames
  let s := s.onSys fun y => { y with missedNow := y.missedNow ||| 2 ^ d, missedFrames := n }
  if 3 ≤ n then selfDiag 4 s else s

/-- Table 3-1: mode codes, as in HP_STAT.MODE. -/
def modeCode : Mode → Nat
  | .dormant => 0 | .kindling => 1 | .commission => 2 | .standby => 3 | .control => 4 | .safeHold => 5

/-- The mode of a code. -/
def modeOf : Nat → Option Mode
  | 0 => some .dormant | 1 => some .kindling | 2 => some .commission | 3 => some .standby | 4 => some .control
  | 5 => some .safeHold | _ => none

/-! Small readers used by several families. -/

/-- 5.5 ms of MT (R328). -/
def hbTicks : Nat := 550000

/-- The partner's last heartbeat, unless 5.5 ms have passed since (R328): what the module knows of its partner's state. -/
def partnerNow (s : State) : Option Heartbeat :=
  if s.duplex && decide (s.time.mt ≤ s.dpx.partnerMt + hbTicks) then s.dpx.partner else none

/-- The partner asserts OWN: its line, or its last heartbeat (R326, Table 3-2). -/
def partnerOwns (s : State) : Bool :=
  s.duplex && (s.dpx.ownIn || (match partnerNow s with | some h => h.own | none => false))

/-- A free value is drawn: the counter advances. -/
def drawn (s : State) : State := s.onFree (· + 1)

end Sys2Proof.Machine
end

