-- ==== Sys2Proof/Machine/Params.lean ====
section
/-! DEFINITION. The parameters in force under their names: thruster configuration and bindings, ports used by module functions. -/

namespace Sys2Proof.Machine

/-- Words of ALLOC_THRUSTER_CONFIG in force for thruster t; empty when unconfigured (Table 10-1). -/
def thrWords (s : State) (t : Nat) : List Word := s.inForce .allocThrusterConfig t

/-- Thruster t is configured: an entry whose KIND of R250 is not NONE. -/
def thrConfigured (s : State) (t : Nat) : Bool := !(thrWords s t).isEmpty

/-- Words of the binding of thruster t in force (Table 11-4). -/
def bindWords (s : State) (t : Nat) : List Word := s.inForce .loopThrusterBind t

/-- Thruster t has a binding. -/
def bound (s : State) (t : Nat) : Bool := !(bindWords s t).isEmpty

def azTarget (s : State) (t : Nat) : Nat := fld (wd (bindWords s t) 0) 31 24
def thrustLe (s : State) (t : Nat) : Nat := fld (wd (bindWords s t) 0) 23 16
def bindCan (s : State) (t : Nat) : Nat := if bound s t then fld (wd (bindWords s t) 1) 2 0 else 7
def cmdId (s : State) (t : Nat) : CanId := (bit (wd (bindWords s t) 2) 31, fld (wd (bindWords s t) 2) 28 0)
def fbId (s : State) (t : Nat) : CanId := (bit (wd (bindWords s t) 3) 31, fld (wd (bindWords s t) 3) 28 0)

/-- The three FB sources of a binding: speed, pitch, azimuth. -/
def fbSrcs (s : State) (t : Nat) : List Nat :=
  if bound s t then [fld (wd (bindWords s t) 1) 31 24, fld (wd (bindWords s t) 1) 23 16, fld (wd (bindWords s t) 1) 15 8] else []

/-- The thruster whose binding names engine le as thrust or azimuth unit. -/
def leThruster (s : State) (le : Nat) : Option Nat :=
  (List.range 16).find? fun t => bound s t && (thrustLe s t == le || azTarget s t == le)

/-- The thruster whose binding names channel pc. -/
def pcThruster (s : State) (pc : Nat) : Option Nat :=
  (List.range 16).find? fun t => bound s t && azTarget s t == 0x40 + pc

/-- CAN port of the PMS frame in force, and its identifier (Table 18-11). -/
def pmsPort (s : State) : Nat := fld (wd (s.inForce .dpcPowerConfig) 0) 2 0
def pmsId (s : State) : CanId := (bit (wd (s.inForce .dpcPowerConfig) 0) 8, fld (wd (s.inForce .dpcPowerConfig) 1) 28 0)

/-- Words of BUS_MAINT_CONFIG. -/
def maintOn (s : State) : Bool := bit (wd (s.inForce .busMaintConfig) 0) 0
def maintRxId (s : State) : CanId := (bit (wd (s.inForce .busMaintConfig) 1) 31, fld (wd (s.inForce .busMaintConfig) 1) 28 0)
def maintTxId (s : State) : CanId := (bit (wd (s.inForce .busMaintConfig) 2) 31, fld (wd (s.inForce .busMaintConfig) 2) 28 0)

/-- The module function that uses controller c, as set: 0 none, 1 thruster, 2 PMS, 3 safe data, 4 maintenance (R353). -/
def canUse (s : State) (c : Nat) : Nat :=
  let w := fun op inst => cfgGet s.cfg.work op inst
  if (List.range 16).any fun t => !(w .loopThrusterBind t).isEmpty && fld (wd (w .loopThrusterBind t) 1) 2 0 == c then 1
  else if fld (wd (w .dpcPowerConfig 0) 0) 2 0 == c then 2
  else if (c = 3 || c = 4) && bit (wd (s.kiln.copies[s.kiln.inUse]).words 0) 0 then 3
  else if c = 5 && bit (wd (w .busMaintConfig 0) 0) 0 then 4
  else 0

/-- KIND, port and interface of reference slot i as set (Table 7-3). -/
def refKindSet (s : State) (i : Nat) : Nat := fld (wd (cfgGet s.cfg.work .fusRefConfig i) 0) 11 8
def refIfSet (s : State) (i : Nat) : Nat := fld (wd (cfgGet s.cfg.work .fusRefConfig i) 1) 15 8
def refPortSet (s : State) (i : Nat) : Nat := fld (wd (cfgGet s.cfg.work .fusRefConfig i) 1) 7 0

/-- UART of the RTCM input as set; 15 none (Table 18-7). -/
def rtcmPortSet (s : State) : Nat := fld (wd (cfgGet s.cfg.work .gnssRtcmConfig 0) 0) 3 0

/-- A configured reference slot uses UART u. -/
def slotUsesUart (s : State) (u : Nat) : Bool :=
  (List.range 24).any fun i => refKindSet s i != 0 && refIfSet s i == 2 && refPortSet s i == u

/-- Bytes as signed 16-bit and unsigned 16-bit fields, least significant byte first. -/
def u16 (bs : List Byte) (i : Nat) : Nat := ofLe ((bs.drop i).take 2)
def s16 (bs : List Byte) (i : Nat) : Int := (BitVec.ofNat 16 (u16 bs i)).toInt

/-- This module is module A: the strapped one, or with equal straps the one of lower serial number (R324). -/
def isModuleA (s : State) : Bool :=
  match s.dpx.partner with
  | some h => if h.pref == s.sys.pref then decide (Config.serial.toNat < h.serial) else s.sys.pref
  | none => s.sys.pref

/-! Filter slots (Table 6-7). -/

/-- Words of CFG_FIR_CHANNEL of a slot in force. -/
def firW (s : State) (k i : Nat) : Word := wd (s.inForce .cfgFirChannel k) i
def firSet1 (s : State) (k : Nat) : Nat := fld (firW s k 0) 11 8
def firSet2 (s : State) (k : Nat) : Nat := fld (firW s k 0) 15 12

/-- Stage 2 of a slot is in use. -/
def stage2On (s : State) (k : Nat) : Bool := firSet2 s k != 0xF

/-! Steps of the control frame (Tables 1-5, 1-7). -/

/-- A second has passed since an instant, if there was one (R362, R372). -/
def secondPassed (t : Option Nat) (now : Nat) : Bool :=
  match t with
  | some t => decide (t + secTicks ≤ now)
  | none => true

/-- The frame's step at us microseconds after its boundary comes, if it has not passed. -/
def stepAt (us : Nat) (s : State) : State := advanceTo (s.sys.frame * frameTicks + us * 100) s

/-- Frame steps 3 to 8 run in this mode. -/
def frameWork (s : State) : Bool := s.sys.mode == .control || s.sys.mode == .standby

/-- A stream of every DECIM-th frame is due in this frame. -/
def streamDue (s : State) (code : Nat) : Bool :=
  match s.sub code 0 with
  | some b => s.sys.frame % (max 1 b.decim) == 0
  | none => false

end Sys2Proof.Machine
end

