-- ==== Sys2Proof/Machine/Thrusters.lean ====
section
/-! DEFINITION. Thrusters (10.1, 10.2, R269): their data in force, power, force, sections and the regions of consequence analysis. -/

namespace Sys2Proof.Machine

/-- Configured thrusters and sections in force. -/
def thrusters (s : State) : List Nat := (List.range 16).filter fun t => thrConfigured s t
def thrSection (s : State) (t : Nat) : Nat := fld (wd (thrWords s t) 0) 15 12
def sections (s : State) : List Nat := (List.range 4).filter fun k => (thrusters s).any fun t => thrSection s t == k

/-! Thruster data in force (Table 10-1). -/

def thrW (s : State) (t i : Nat) : Word := wd (thrWords s t) i
def thrKind (s : State) (t : Nat) : Nat := fld (thrW s t 0) 9 8
def thrX (s : State) (t : Nat) : Int := (thrW s t 1).toInt
def thrY (s : State) (t : Nat) : Int := (thrW s t 2).toInt
def tFwd (s : State) (t : Nat) : Nat := (thrW s t 3).toNat
def pRated (s : State) (t : Nat) : Nat := (thrW s t 4).toNat
def azFixed (s : State) (t : Nat) : Word := thrW s t 5
def tRev (s : State) (t : Nat) : Nat := (thrW s t 6).toNat
def fbTimeoutMs (s : State) (t : Nat) : Nat := fld (thrW s t 9) 15 0
def tMax (s : State) (t : Nat) : Nat := max (tFwd s t) (tRev s t)

/-- The thrust limit on the side of u (R252). -/
def tSide (s : State) (t : Nat) (u : Int) : Nat := if 0 ≤ u then tFwd s t else tRev s t

/-- Largest |r_i| over the configured thrusters, mm (10.2). -/
def armMax (s : State) : Nat := (thrusters s).foldl (fun m t => max m (hyp (thrX s t) (thrY s t))) 0

/-- P_i(u) in 2^-20 W (R252). -/
def thrPower (s : State) (t : Nat) (u : Int) : Nat :=
  let tt := tSide s t u
  if tt = 0 then 0 else isqrt (pRated s t * pRated s t * u.natAbs ^ 3 * 2 ^ 40 / tt ^ 3)

/-- Rated power of a section, W (R252). -/
def secRated (s : State) (k : Nat) : Nat := (((thrusters s).filter fun t => thrSection s t == k).map fun t => pRated s t).sum

/-- P_lim of a section, W (R253). -/
def pLim (s : State) (k : Fin 4) : Nat := s.dpc.limit[k].getD (secRated s k.val)

/-- A setpoint of thruster t. -/
def spOf (v : Vector SetPt 16) (t : Nat) : SetPt := v.toList.getD t {}

/-- Power of a section at setpoints, 2^-20 W. -/
def secPow (s : State) (v : Vector SetPt 16) (k : Nat) : Nat :=
  (((thrusters s).filter fun t => thrSection s t == k).map fun t => thrPower s t (spOf v t).u).sum

/-- Direction in which thruster t pushes at a setpoint (R254). -/
def pushAz (s : State) (t : Nat) (p : SetPt) : Int := ((if thrKind s t = 1 then azFixed s t else p.az).toNat : Nat)

/-- The generalised force of setpoints, with the exact directions (R261): N, N, N·m. -/
def forceOf (s : State) (v : Vector SetPt 16) : Vector Int 3 :=
  let f := fun (g : Nat → Int → Int → Int) (q : Nat) =>
    rne ((thrusters s).map fun t => let a := pushAz s t (spOf v t); g t ((spOf v t).u * cosA a) ((spOf v t).u * sinA a)).sum (q * 2 ^ 60)
  #v[f (fun _ x _ => x) 1, f (fun _ _ y => y) 1, f (fun t x y => thrX s t * y - thrY s t * x) 1000]

/-! Allocation parameters in force (Tables 10-12, 18-13). -/

def acfg (s : State) (i : Nat) : Word := wd (s.inForce .allocConfig) i
def slackAlarmPct (s : State) : Nat := fld (acfg s 0) 15 8
def specTolPct (s : State) : Nat := fld (acfg s 0) 7 0
def autoReturn (s : State) : Bool := bit (acfg s 2) 16
def returnRamp (s : State) : Nat := fld (acfg s 3) 31 16
def returnS (s : State) : Nat := fld (acfg s 3) 15 0
def ccfg (s : State) (i : Nat) : Word := wd (s.inForce .allocConseqConfig) i

/-- Is thruster t in a mask? -/
def inMask (m t : Nat) : Bool := tb m t

/-- Codes of Table 10-6 that apply to an availability set. -/
def codesOf (s : State) (avail : Nat) : Nat :=
  ((List.range 21).filter fun c =>
    if c = 0 then true
    else if c ≤ 16 then inMask avail (c - 1)
    else (thrusters s).any fun t => inMask avail t && thrSection s t == c - 17).foldl (fun m c => m + 2 ^ c) 0

/-! Regions of consequence analysis (R269). -/

/-- κ_S of a thruster's section under limits (R269), in 2^-60; 1 where no limit applies. -/
def kappa (s : State) (limit : Vector (Option Nat) 4) (t : Nat) : Int :=
  match fin? 4 (thrSection s t) with
  | some k => (match limit[k] with | some p => pow23 p (secRated s k.val) | none => 2 ^ 60)
  | none => 2 ^ 60

/-- Cuts a convex polygon by the half-plane m · p ≤ b. -/
def clipPoly (m : Int × Int) (b : Int) (ps : List (Int × Int)) : List (Int × Int) :=
  let h := fun (p : Int × Int) => m.1 * p.1 + m.2 * p.2
  (List.range ps.length).flatMap fun i =>
    let p := ps.getD i (0, 0)
    let q := ps.getD ((i + 1) % ps.length) (0, 0)
    let cut := (p.1 + (q.1 - p.1) * (b - h p) / (h q - h p), p.2 + (q.2 - p.2) * (b - h p) / (h q - h p))
    (if h p ≤ b then [p] else []) ++ (if decide (h p ≤ b) != decide (h q ≤ b) then [cut] else [])

/-- Q_i of an AZIMUTH thruster at scale κ: the octagon of radius T_FWD cut by the chords of its forbidden sectors (R269), vertices in 2^-20 N. -/
def azRegion (s : State) (t : Nat) (k : Int) : List (Int × Int) :=
  let r := by60 (tFwd s t * 2 ^ 20) k
  let e := fun (a : Int) => (cosA a, sinA a)
  let oct := (List.range 8).map fun j => let v := e (j * 2 ^ 29); (by60 r v.1, by60 r v.2)
  ([11, 13] : List Nat).foldl (fun ps i =>
    let a : Int := (thrW s t i).toNat
    let len := angA ((thrW s t (i + 1)).toNat - a)
    if len = 0 then ps
    else
      let m := e (a + len / 2)
      let p := e a
      clipPoly m (m.1 * by60 r p.1 + m.2 * by60 r p.2) ps) oct

end Sys2Proof.Machine
end

