-- ==== Sys2Proof/Machine/SolverOps.lean ====
section
/-! DEFINITION. Regions, Gazebo's placement, structures and tickets (chapter 08): the operations that solver rows and the pipeline share. -/

namespace Sys2Proof.Machine

/-! Regions (8.7, 8.9). -/

/-- The domain of a region. -/
def regDom (r : Fin 4) : Fin 12 := Fin.ofNat 12 (3 + r.val)

/-- The region serves: neither failed nor cooling, and powered (R214). -/
def inService (s : State) (r : Fin 4) : Bool :=
  let st := (s.solv.region[r]).st
  (st == .healthy || st == .hot) && s.sys.dom[regDom r] == .on

/-- Regions neither marked failed nor cooling. -/
def healthyCount (s : State) : Nat := ((fins 4).filter fun r => (s.solv.region[r]).st == .healthy || (s.solv.region[r]).st == .hot).length

/-! Classes (R211, Table 8-12). -/

/-- The class of a ticket's work, as SOLV_PLACEMENT codes it: 1 to 4 DP-0 to DP-3, 5 HOST. -/
def classCode : Work → Nat
  | .observer => 1
  | .alloc | .mpc => 2
  | .bank _ | .gnss _ | .heading => 3
  | .capability => 4
  | .host => 5

/-- Classes in the order of their priority: HOST goes before DP-3. -/
def classes : List Nat := [1, 2, 3, 5, 4]

/-- Work that gives up a cluster to a higher class, and that a HOT region does not take (R212, R214). -/
def yields (w : Work) : Bool := decide (4 ≤ classCode w)

/-- A copy runs. -/
def running (c : Copy) : Bool := !c.dead && !c.suspended && c.out.isNone

/-- Running copies on a cluster of a region, with their work. -/
def runningOn (s : State) (r cl : Nat) : List Work :=
  s.solv.tickets.flatMap fun t => (t.copies.filter fun c => running c && c.region == r && c.cluster == cl).map fun _ => t.work

/-- Running copies in a region. -/
def regionLoad (s : State) (r : Nat) : Nat := ((List.range 4).map fun cl => (runningOn s r cl).length).sum

/-- Clusters of a region that can take a copy now: those that run nothing and, for DP-0 to DP-2, those that run only work which yields (R212). -/
def freeClusters (s : State) (w : Work) (r : Nat) : List Nat :=
  let idle := (List.range 4).filter fun cl => (runningOn s r cl).isEmpty
  if yields w || !idle.isEmpty then idle else (List.range 4).filter fun cl => (runningOn s r cl).all yields

/-- Regions in which a copy of a class may be placed: HOT takes no new HOST or DP-3 copy (R214). -/
def placeable (s : State) (w : Work) : List (Fin 4) :=
  (fins 4).filter fun r => inService s r && !(yields w && (s.solv.region[r]).st == .hot)

/-- Those with a cluster for it; a host copy also needs something left of the reserve (R27). -/
def roomy (s : State) (w : Work) : List (Fin 4) :=
  if w == .host && s.solv.reserve == 0 then [] else (placeable s w).filter fun r => !(freeClusters s w r.val).isEmpty

/-- An element of a list picked by a free value, for Gazebo's choice is its own (R210). -/
def pick {α : Type} (l : List α) (n : Int) : Option α := l[(n % (max 1 l.length : Nat)).toNat]?

/-- Gazebo's free choices for the copy number k placed now. -/
def freeAt (s : State) (k : Nat) : Int := Config.freeInt (s.free + k)

/-- A copy in a region, on a cluster of Gazebo's choice among those that can take it. -/
def mkCopy (s : State) (k : Nat) (w : Work) (r : Fin 4) : Copy :=
  let l := freeClusters s w r.val
  { region := r.val, cluster := (pick (if l.isEmpty then [0, 1, 2, 3] else l) (freeAt s (k + 8))).getD 0 }

/-- Pairs of different regions (R10, R213): six of four, three of three. -/
def regPairs (l : List (Fin 4)) : List (Fin 4 × Fin 4) := l.flatMap fun a => (l.filter fun b => decide (a.val < b.val)).map fun b => (a, b)

/-- Copies of a class that stand in the ticket table. -/
def placedOf (s : State) (w : Work) : Nat := (s.solv.tickets.filter fun t => classCode t.work == classCode w && !t.copies.isEmpty).length

/-- The copies of a new problem: two in different regions, or one (R204); none while no cluster can take them. The pairs rotate within a class and frame by frame (R213). -/
def startCopies (s : State) (w : Work) (dup : Bool) : List Copy :=
  let l := roomy s w
  let k := s.solv.rot + placedOf s w
  if dup then
    match pick (regPairs l) k with
    | some (a, b) => [mkCopy s 0 w a, mkCopy s 1 w b]
    | none => []
  else (match pick l k with | some a => [mkCopy s 0 w a] | none => [])

/-- A new copy outside the regions that already hold one (R206, R216), in the least loaded (Table 8-10; DEDUCED from its step 3). -/
def extraCopy (s : State) (w : Work) (used : List Nat) : Option Copy :=
  let l := (placeable s w).filter fun r => !used.contains r.val
  let best := l.foldl (fun (b : Option (Fin 4)) r => match b with
    | some q => if regionLoad s r.val < regionLoad s q.val then some r else b
    | none => some r) none
  best.map (mkCopy s 0 w)

/-- Changes the ticket of a number. -/
def onTicket (id : Nat) (f : Ticket → Ticket) (s : State) : State :=
  s.onSolv fun v => { v with tickets := v.tickets.map fun t => if t.id = id then f t else t }

/-- The ticket of a number. -/
def ticketOf (s : State) (id : Nat) : Option Ticket := s.solv.tickets.find? fun t => t.id == id

/-- Removes a ticket. -/
def dropTicket (id : Nat) (s : State) : State := s.onSolv fun v => { v with tickets := v.tickets.filter fun t => t.id != id }

/-- Is it a host problem? -/
def isHost (t : Ticket) : Bool := t.work == .host

/-- Lane time since the last charge: every running copy takes its cluster, a host copy the reserve of the frame as well (R27, Table 8-15). -/
def charge (s : State) : State :=
  let d := s.time.mt - s.solv.chargedAt
  let host := ((s.solv.tickets.filter isHost).map fun t => (t.copies.filter running).length).sum
  let left := s.solv.reserve - host * d
  s.onSolv fun v => { v with
    chargedAt := s.time.mt
    reserve := left
    region := vmapI v.region fun r x => { x with busy := x.busy + regionLoad s r.val * d }
    tickets := if left = 0 then v.tickets.map fun t => if isHost t then { t with copies := t.copies.map fun c => if running c then { c with suspended := true } else c } else t
      else v.tickets }

/-- Copies that yield are suspended on the clusters that new copies of a higher class take (R212). -/
def claim (l : List Copy) (s : State) : State :=
  let hit := fun (c : Copy) => running c && l.any fun n => n.region == c.region && n.cluster == c.cluster
  let give := fun (t : Ticket) => if yields t.work then { t with copies := t.copies.map fun c => if hit c then { c with suspended := true } else c } else t
  s.onSolv fun v => { v with tickets := v.tickets.map give }

/-- A waiting problem starts its copies where clusters can take them. -/
def startTicket (t : Ticket) (s : State) : State :=
  let l := startCopies s t.work t.dup
  if l.isEmpty then s
  else
    let s' := if yields t.work then s else claim l s
    drawn (onTicket t.id (fun t => { t with copies := l }) s')

/-- The problem goes before another of its class: the earlier deadline, else the earlier submission (R211). -/
def before (a b : Ticket) : Bool :=
  match a.deadline, b.deadline with
  | some x, some y => decide (x < y) || (x == y && decide (a.order ≤ b.order))
  | some _, none => true
  | none, some _ => false
  | none, none => decide (a.order ≤ b.order)

/-- A ticket into a list in the order of its class. -/
def inOrder (t : Ticket) : List Ticket → List Ticket
  | [] => [t]
  | u :: l => if before u t then u :: inOrder t l else t :: u :: l

/-- Tickets in the order in which Gazebo serves them (R211). -/
def byClass (l : List Ticket) : List Ticket :=
  classes.flatMap fun k => (l.filter fun t => classCode t.work == k).foldl (fun a t => inOrder t a) []

/-- Gazebo serves the waiting problems (R211). -/
def serve (s : State) : State :=
  (byClass (s.solv.tickets.filter fun t => t.copies.isEmpty && !t.aborted)).foldl (fun s t => startTicket t s) s

/-- The copies that ran in a lost region restart elsewhere in class order, their partners going on (R216). -/
def moveCopies (r : Fin 4) (s : State) : State :=
  (byClass s.solv.tickets).foldl (fun s t =>
    (List.range t.copies.length).foldl (fun s k =>
      let now := (ticketOf s t.id).getD t
      let c := now.copies.getD k { region := 9, cluster := 0 }
      if c.region = r.val && c.out.isNone && !c.dead then
        let used := r.val :: (now.copies.filter fun x => !x.dead).map fun x => x.region
        let s' := onTicket t.id (fun t => { t with
          copies := match extraCopy s t.work used with
            | some n => t.copies.set k n
            | none => t.copies.set k { c with dead := true } }) s
        drawn s'
      else s) s) (charge s)

/-- Regions that can hold a copy of Gazebo, but one (R8). -/
def gazeboRegions (s : State) (r : Option (Fin 4)) : List (Fin 4) :=
  (fins 4).filter fun q => some q != r && ((s.solv.region[q]).st == .healthy || (s.solv.region[q]).st == .hot)

/-- A new hot copy is built in the lowest healthy region that holds neither, and loaded within the frame (R8). -/
def buildHot (ok : List (Fin 4)) (s : State) : State :=
  s.onSolv fun v => { v with hot := (ok.filter fun q => q != v.active).head?, hotFrom := some s.sys.frame }

/-- R8: both copies are lost within one frame: the checkpoint gives the placement back. A ticket entered since then has its copies placed anew. -/
def fromCheckpoint (s : State) : State :=
  s.onSolv fun v => { v with
    rot := v.ckRot
    tickets := v.tickets.map fun t => if v.ckTickets.contains t.id || (t.copies.any fun c => c.out.isSome) then t else { t with copies := [] } }

/-- R8: Gazebo leaves a region: a loaded hot copy becomes active, and a new hot copy is built; without one the checkpoint restarts it in the lowest healthy region. DESIGN CHOICE, log entry 83: with no healthy region left the active copy stays where it is. -/
def moveGazebo (r : Fin 4) (s : State) : State :=
  let ok := gazeboRegions s (some r)
  if s.solv.active = r then
    let hot := match s.solv.hot with
      | some h => if ok.contains h && !(s.solv.hotFrom == some s.sys.frame) then some h else none
      | none => none
    match hot, ok with
    | some h, _ => raise 53 h.val (buildHot ok (s.onSolv fun v => { v with active := h }))
    | none, q :: _ => raise 53 q.val (buildHot ok ((fromCheckpoint s).onSolv fun v => { v with active := q }))
    | none, [] => s.onSolv fun v => { v with hot := none }
  else if s.solv.hot = some r then buildHot ok s
  else s

/-- A region is marked failed and power-gated (R207); cause as there. Fewer than two healthy regions left are a self-diagnosis failure of the given code. -/
def markFailed (r : Fin 4) (cause code : Nat) (s : State) : State :=
  if (s.solv.region[r]).st = .failed then s
  else
    let s := s.onSolv fun v => { v with region := upd v.region r fun x => { x with st := .failed } }
    let s := raise 48 (r.val * 256 + cause) s
    let s := moveGazebo r s
    let s := s.onSys fun y => { y with dom := y.dom.set (regDom r) .off, exiting := y.exiting.set (regDom r) false }
    let s := moveCopies r s
    if healthyCount s < 2 then selfDiag code s else s

/-- A region's junction temperature is read at a frame boundary (R214). -/
def regTemp (r : Fin 4) (temp : Int) (s : State) : State :=
  let old := (s.solv.region[r]).st
  let s := s.onSolv fun v => { v with region := upd v.region r fun x => { x with temp := temp } }
  if old = .failed then s
  else
    let others := ((fins 4).filter fun q => q != r && ((s.solv.region[q]).st == .healthy || (s.solv.region[q]).st == .hot)).length
    let new : RegState :=
      if old = .cooling then (if temp < 110 then .healthy else .cooling)
      else if 125 ≤ temp then (if others < 2 then .hot else .cooling)
      else if 115 ≤ temp then .hot else .healthy
    if new = old then s
    else
      let s := if new = .cooling then moveGazebo r s else s
      let s := s.onSolv fun v => { v with region := upd v.region r fun x => { x with st := new } }
      let s := s.onSys fun y => if new = .cooling then { y with dom := y.dom.set (regDom r) .gated }
        else if old = .cooling then { y with dom := y.dom.set (regDom r) .on } else y
      let s := if new = .cooling then moveCopies r s else s
      raise 52 (r.val * 256 + (match new with | .healthy => 0 | .hot => 1 | .cooling => 2 | .failed => 3 | .off => 4)) s

/-! Structures (8.3). -/

/-- The structure of an ID. -/
def structOf (s : State) (sid : Nat) : Option Struct := s.solv.structs.find? fun x => x.sid == sid

/-- Changes a structure. -/
def onStruct (sid : Nat) (f : Struct → Struct) (s : State) : State :=
  s.onSolv fun v => { v with structs := v.structs.map fun x => if x.sid = sid then f x else x }

/-- Tickets on a structure. -/
def inFlight (s : State) (sid : Nat) : List Ticket := s.solv.tickets.filter fun t => t.sid == sid && !t.aborted

/-- F of a row of a quantity (R183); 0 where no entry covers it. -/
def fmtAt (x : Struct) (qty row : Nat) : Int :=
  match x.fmts.find? fun f => f.1 == qty && f.2.1 ≤ row && row ≤ f.2.2.1 with
  | some f => f.2.2.2
  | none => 0

/-- The resident size in bytes (8.3). -/
def residentSize (n m nnzH nnzA nfmt : Nat) : Nat := cdiv (8 * (32 + 6 * n + 4 * m + nnzH + nnzA + nfmt)) 256 * 256

/-- Installs a structure: generation up, values zero, no result, counters restarted (R192); its lane program follows from it (R181). The second of R217 goes on. -/
def installStruct (x : Struct) (s : State) : State :=
  let g := (s.solv.gens.toList.getD x.sid 0 + 1) % 65536
  let old := structOf s x.sid
  s.onSolv fun v => { v with
    gens := v.gens.set! x.sid g
    structs := v.structs.filter (fun y => y.sid != x.sid) ++ [{ x with
      gen := g, vals := [], version := 0, result := none
      prog := Config.laneProgram [x.sid, x.kind, x.n, x.m, x.neq] x.patH x.patA x.fmts g
      lastSat := old.bind fun y => y.lastSat, lastReg := old.bind fun y => y.lastReg }] }

/-! A problem in the lanes (8.1, 8.2, 8.5). -/

/-- A lane register; one never set holds 0. -/
def laneReg (l : LaneSt) (n : Nat) : F64 := ((l.regs.find? fun r => r.1 == n).map fun r => r.2).getD 0

/-- Sets a lane register. -/
def setReg (n : Nat) (v : F64) (l : LaneSt) : LaneSt := { l with regs := (n, v) :: l.regs.filter fun r => r.1 != n }

/-- A stored value; one never stored is 0 (R192). -/
def laneVal (l : LaneSt) (qty row col : Nat) : Int :=
  ((l.vals.find? fun v => v.1 == qty && v.2.1 == row && v.2.2.1 == col).map fun v => v.2.2.2).getD 0

/-- Stores a converted value and counts its saturation (R184, R188). -/
def setLaneVal (qty row : Nat) (n : Int × Bool) (l : LaneSt) : LaneSt :=
  { l with
    vals := (qty, row, 0, n.1) :: l.vals.filter fun v => !(v.1 == qty && v.2.1 == row && v.2.2.1 == 0)
    sats := if n.2 then (qty, row) :: l.sats else l.sats }

/-- A value of a quantity as a lane takes it: a bound at its end is none (R189), everything else is converted (R185). -/
def laneLoad (x : Struct) (qty row : Nat) (n : Int) : F64 :=
  if qty = 4 ∧ n = qMin then infOf true
  else if qty = 5 ∧ n = qMax then infOf false
  else loadQ (fmtAt x qty row) n

/-- A pivot of magnitude below τ max|diag|, or zero, is replaced by that with the sign the KKT system requires, else its own; positive for a zero (R199). -/
def treatPivot (tau : F64) (sign : Fin 3) (diag : List F64) (p : F64) : F64 × Bool :=
  let top := diag.foldl (fun m d => if ltAbs m d then absF d else m) 0
  let lim := fmaF tau top 0
  if ltAbs p lim || absF p == 0 then
    (if sign.val = 2 || (sign.val == 0 && absF p != 0 && p.msb) then lim ^^^ 0x8000000000000000#64 else lim, true)
  else (p, false)

/-- One operation of a lane program. A store that meets an infinity or NaN fails the problem at its KKT index (R184, R200), and nothing follows. -/
def laneStep (x : Struct) (tau : F64) (o : LaneOp) (l : LaneSt) : LaneSt :=
  if l.fail.isSome then l
  else match o with
  | .load d q r c => setReg d (laneLoad x q r (laneVal l q r c)) l
  | .const d v => setReg d v l
  | .fma d a b c => setReg d (fmaF (laneReg l a) (laneReg l b) (laneReg l c)) l
  | .div d a b => setReg d (divF (laneReg l a) (laneReg l b)) l
  | .sqrt d a => setReg d (sqrtF (laneReg l a)) l
  | .less d a b p q => setReg d (if ltF (laneReg l a) (laneReg l b) then laneReg l p else laneReg l q) l
  | .store q r a kkt =>
    (match storeQ (fmtAt x q r) (laneReg l a) with
    | some n => setLaneVal q r n l
    | none => { l with fail := some kkt })
  | .reduce q r _ terms => setLaneVal q r (reduceQ (fmtAt x q r) (terms.map fun e => (laneVal l e.1 e.2 0, fmtAt x e.1 e.2))) l
  | .pivot d a kkt sign diag =>
    let p := treatPivot tau sign (diag.map (laneReg l)) (laneReg l a)
    let l := setReg d p.1 l
    if p.2 then { l with pivots := kkt :: l.pivots } else l

/-- A run of lane operations, in order (R181). -/
def laneRun (x : Struct) (tau : F64) (ops : List LaneOp) (l : LaneSt) : LaneSt := ops.foldl (fun l o => laneStep x tau o l) l

/-- Interior-point iterations: status, detail and iterations done (R201). -/
def laneLoop (x : Struct) (tau tol : F64) : Nat → Nat → LaneSt → LaneSt × Nat × Nat × Nat
  | 0, k, l => (l, 0x4017, k, k)
  | n + 1, k, l =>
    let l := laneRun x tau x.prog.body l
    if l.fail.isSome then (l, 0, 0, k + 1)
    else if absF (laneReg l x.prog.primal) != 0 then (l, 0x4018, 1, k + 1)
    else if absF (laneReg l x.prog.dual) != 0 then (l, 0x4018, 2, k + 1)
    else if x.prog.gap.all fun g => laneOf (laneReg l g) != .nan && !ltAbs tol (laneReg l g) then (l, 0, 0, k + 1)
    else laneLoop x tau tol n (k + 1) l

/-- The rows of a stored quantity. -/
def laneRows (l : LaneSt) (qty n : Nat) : List Int := (List.range n).map fun r => laneVal l qty r 0

/-- The warm-start vector as stored values: X, LAMBDA, S (R203). -/
def warmVals (x : Struct) (v : List Int) : List (Nat × Nat × Nat × Int) :=
  (List.range v.length).map fun i =>
    if i < x.n then (6, i, 0, v.getD i 0) else if i < x.n + x.m then (7, i - x.n, 0, v.getD i 0) else (8, i - x.n - x.m, 0, v.getD i 0)

/-- What a copy of a ticket's problem gives, wherever it runs (R9, R181): it depends on the structure and the values captured alone. Lane register 0 starts at 1 for a warm start. -/
def runCopy (t : Ticket) : CopyOut :=
  let x := t.on
  let tau := pow2F t.tauExp
  let l0 : LaneSt := { vals := (t.vals.map fun v => (v.qty, v.row, v.col, v.v)) ++ warmVals x t.warmVec
                       regs := if t.warmVec.isEmpty then [] else [(0, pow2F 0)] }
  let l1 := laneRun x tau x.prog.once l0
  let (l, st, d, it) := if x.kind ≤ 1 then (laneRun x tau x.prog.body l1, 0, 0, 1)
    else if l1.fail.isSome then (l1, 0, 0, 0) else laneLoop x tau (pow2F t.tolExp) t.maxIter 0 l1
  let st := if st = 0x4017 && t.anyway then (0, 0) else (st, d)
  let st := match l.fail with | some k => (0x4016, k) | none => st
  let first := l.sats.getLastD (0xF, 0)
  { status := st.1, detail := st.2, iter := it
    regCount := l.pivots.length, regIndex := l.pivots.getLastD 0xFFFF
    sats := (List.range 10).map fun q => (l.sats.filter fun e => e.1 == q).length
    satQty := first.1, satRow := first.2
    x := laneRows l 6 x.n
    lambda := if 2 ≤ x.kind then laneRows l 7 x.m else []
    s := if 1 ≤ x.kind then laneRows l 8 x.m else [] }

/-! Tickets (8.4). -/

/-- Lowest free ticket of a range. -/
def freeTicket (s : State) (lo hi : Nat) : Option Nat :=
  ((List.range (hi + 1 - lo)).map fun k => lo + k).find? fun id => !(s.solv.tickets.any fun t => t.id == id)

/-- Enters a problem on a ticket; the submission order counts on (R198), and its copies start when clusters can take them (R204, R211). -/
def openTicket (t : Ticket) (s : State) : State :=
  let s := charge s
  serve (s.onSolv fun v => { v with tickets := v.tickets ++ [{ t with order := s.solv.order }], order := v.order + 1 })

/-- The structure of a pipeline problem (log entry 43). -/
def workSid : Work → Nat
  | .capability => 1
  | .mpc => 2
  | .observer => 3
  | .gnss _ => 4
  | .heading => 5
  | _ => 0

/-- A structure as a ticket keeps it. -/
def asSubmitted (x : Struct) : Struct := { x with vals := [], result := none }

/-- A problem of the pipeline on its structure (R199, R204): values, warm start with the reason for none, deadline. -/
def dpTicket (w : Work) (vals : List SVal) (warm : List Int × Nat) (deadline : Option Nat) (s : State) : Ticket :=
  let x := (structOf s (workSid w)).getD { sid := workSid w }
  { id := 0, work := w, sid := x.sid, gen := x.gen, on := asSubmitted x, vals := vals, warmVec := warm.1, warmDisc := warm.2 != 0, warmReason := warm.2, deadline := deadline }

/-- It takes a ticket of the pipeline (R196). -/
def submitDp (t : Ticket) (s : State) : State :=
  match freeTicket s 0 191 with
  | some id => openTicket { t with id := id } s
  | none => s

/-- Values that an open function of Config gives. -/
def openVals (l : List (Nat × Nat × Nat × Int)) : List SVal := l.map fun v => ⟨v.1, v.2.1, v.2.2.1, v.2.2.2⟩

/-- A problem on a structure whose contents the spec leaves open (log entry 43). -/
def submitOpen (w : Work) (deadline : Nat) (s : State) : State :=
  submitDp (dpTicket w (openVals (Config.dpValues (workSid w) s.time.mt)) ([], 0) (some deadline) s) s

/-- Ends the pipeline's problems that satisfy a condition, without result. -/
def cancelDp (p : Work → Bool) (s : State) : State :=
  let s := charge s
  serve (s.onSolv fun v => { v with tickets := v.tickets.filter fun t => t.work == .host || !p t.work })

/-- Adds a list of counts to the counters of Table 8-14. -/
def addCounts (v : Vector Nat 10) (l : List Nat) : Vector Nat 10 := vmapI v fun i n => satN 0xFFFFFFFF (n + l.getD i.val 0)

/-- A committed problem in its structure's counters, its latest result and the events of R217 (R188, R198); nothing of a generation that is no more. -/
def creditStruct (t : Ticket) (o : CopyOut) (s : State) : State :=
  match structOf s t.sid with
  | none => s
  | some x =>
    let good := o.status == 0
    if x.gen != t.gen then s
    else
      let newer := match x.result with | some r => decide (r.order ≤ t.order) | none => true
      let satNow := decide (0 < o.sats.sum)
      let regNow := decide (0 < o.regCount)
      let ev50 := satNow && secondPassed x.lastSat s.time.mt
      let ev51 := regNow && secondPassed x.lastReg s.time.mt
      let s := onStruct t.sid (fun x => { x with
        sat := addCounts x.sat o.sats
        nReg := satN 0xFFFFFFFF (x.nReg + o.regCount)
        nSubmit := inc32 x.nSubmit
        lastSat := if ev50 then some s.time.mt else x.lastSat
        lastReg := if ev51 then some s.time.mt else x.lastReg
        result := if good && newer then some { order := t.order, gen := t.gen, tag := t.tag, out := o } else x.result }) s
      let s := if ev50 then raise 50 t.sid s else s
      if ev51 then raise 51 t.sid s else s


/-- A problem of the pipeline ends with an outcome: a numeric fault raises EV54 (Table 8-7). -/
def creditDp (t : Ticket) (o : CopyOut) (s : State) : State :=
  let s := creditStruct t o s
  if o.status = 0x4016 then raise 54 t.sid s else s

/-- What the pipeline's problems that satisfy a condition give where no compare has ended them: they are solved, credited and gone (R188, R198). -/
def finishDp (p : Work → Bool) (s : State) : State :=
  let l := s.solv.tickets.filter fun t => t.work != .host && p t.work
  cancelDp p (l.foldl (fun s t => creditDp t (runCopy t) s) s)

/-! Final replies of host problems (Tables 8-6, 8-7). -/

/-- Words 1 to 7 of Table 8-6. -/
def replyHead (now : Nat) (t : Ticket) (o : CopyOut) : List Word :=
  let c := fun k => t.copies[k]?
  let rg := fun k => ((c k).map fun x => x.region).getD 0xF
  let cl := fun k => ((c k).map fun x => x.cluster).getD 0xF
  let sat := o.sats.sum
  [pk [(b2n (decide (0 < o.regCount)), 31), (b2n (decide (0 < sat)), 30), (b2n t.warmDisc, 29), (b2n t.retried, 28), (b2n (!t.dup), 27), (t.warmReason, 24), (o.iter % 256, 16), (t.sid, 0)],
   pk [(t.gen, 16), (t.id, 0)], pk [(satN 65535 o.regCount, 16), (o.regIndex % 65536, 0)], pk [(satN 65535 sat, 16), (o.satQty % 16, 12), (o.satRow % 256, 0)]] ++
  w64 now ++ [pk [(rg 0, 20), (cl 0, 16), (rg 1, 12), (cl 1, 8), (rg 2, 4), (cl 2, 0)]]

/-- Rows of a result quantity as words, two per row. -/
def resultRows (o : CopyOut) (qty first count : Nat) : List Word :=
  let l := if qty = 6 then o.x else if qty = 7 then o.lambda else o.s
  ((l.drop first).take count).flatMap fun v => i64 v

/-- The status and detail of an outcome with a result, or of a failure of the problem (Table 8-7). -/
def outcome (t : Ticket) (o : CopyOut) : Nat × Nat :=
  if o.status != 0 then (o.status, o.detail)
  else if 0 < o.sats.sum then (0x4021, satN 65535 o.sats.sum)
  else if 0 < o.regCount then (0x4020, o.regIndex)
  else if t.warmDisc then (0x4022, t.warmReason)
  else (0, 0)

/-- What the ended copies of a problem without a common result report (R202): the records of the first of them. -/
def endedOut (t : Ticket) : CopyOut :=
  match (t.copies.filterMap fun c => c.out).head? with
  | some o => o
  | none => { iter := 0 }

/-- A host problem ends without a result (SOLVER_WITHDRAWN, COMPARE_FAULT, DEADLINE_MISSED): words 1 to 7 alone. -/
def endHost (t : Ticket) (st detail : Nat) (s : State) : State :=
  let s := commit t.port t.tag (charge s)
  serve (dropTicket t.id (finish t.port t.tag 0 st detail (replyHead s.time.mt t (endedOut t)) s))

/-- Words 1 to 7 of a command that ends while it holds a ticket (Table 8-6: always present). -/
def ticketWords (p : Port) (tag : Nat) (s : State) : List Word :=
  match s.solv.tickets.find? fun t => isHost t && t.port == p && t.tag == tag && !t.aborted with
  | some t => replyHead s.time.mt t (endedOut t)
  | none => []

/-- R215: at the entry into SAFE-HOLD every host ticket ends with SOLVER_WITHDRAWN. -/
def withdrawHost (s : State) : State :=
  s.solv.tickets.foldl (fun s t => if isHost t then (if t.aborted then dropTicket t.id s else endHost t 0x401B 5 s) else s) s

/-- R215: a budget that places PD2 off discards everything of the host. -/
def dropHostStructs (s : State) : State :=
  (s.onSolv fun v => { v with
    structs := v.structs.filter fun x => x.sid < 8
    warm := Vector.replicate 8 none
    staged := []
    tickets := v.tickets.filter fun t => !isHost t }).onSys fun y => { y with hostStructLost := true }

end Sys2Proof.Machine
end

