-- ==== Sys2Proof/Machine/Problems.lean ====
section
/-! DEFINITION. The pipeline's problems (R187, R194, R232, R253 to R255, R269): formats, structures and values of allocation, capability and MPC. -/

namespace Sys2Proof.Machine

/-! Declared ranges (Table 10-3), as positive fractions. -/

/-- A positive rational: numerator and denominator. -/
abbrev Range := Nat × Nat

/-- ceil(log2 R) of a positive range. -/
def clog2 (r : Range) : Int :=
  let k : Int := (Nat.log2 r.1 : Int) - (Nat.log2 r.2 : Int) - 1
  let fits := fun (k : Int) => if 0 ≤ k then decide (r.1 ≤ r.2 * 2 ^ k.toNat) else decide (r.1 * 2 ^ (-k).toNat ≤ r.2)
  if fits k then k else if fits (k + 1) then k + 1 else k + 2

/-- The fraction count of a declared range (R187); a range of 0 takes the finest. -/
def fracOf (r : Range) : Int := if r.1 = 0 then 96 else clampI (-32) 96 (62 - clog2 r)

/-- The larger of two ranges. -/
def rangeMax (a b : Range) : Range := if a.1 * b.2 ≤ b.1 * a.2 then b else a

/-- W_i (R253). -/
def wOf (s : State) (t : Nat) : Range := (fld (thrW s t 9) 31 16 * pRated s t, 100 * max 1 (tFwd s t) * max 1 (tFwd s t))

/-- q = SLACK_W x max W_i (R253). -/
def qOf (s : State) : Range :=
  let w := (thrusters s).foldl (fun m t => rangeMax m (wOf s t)) (0, 1)
  ((acfg s 1).toNat * w.1, w.2)

/-- The ranges of Table 10-3: sum of T_FWD, that times L, A, 2q, LAMBDA. -/
def sumT (s : State) : Nat := ((thrusters s).map fun t => tFwd s t).sum
def rangeT (s : State) : Range := (sumT s, 1)
def rangeN (s : State) : Range := (sumT s * armMax s, 1000)
def rangeA (s : State) : Range := (armMax s * (thrusters s).foldl (fun m t => max m (tMax s t)) 0, 1000)
def rangeH (s : State) : Range := (2 * (qOf s).1, (qOf s).2)
def rangeL (s : State) : Range := ((rangeH s).1 * (rangeN s).1, (rangeH s).2 * (rangeN s).2)

/-- 64 times the largest range above (Table 10-3). -/
def rangeW (s : State) : Range :=
  let m := ((thrusters s).map fun t => (tMax s t, 1)).foldl rangeMax (4, 1)
  let m := ((sections s).map fun k => (secRated s k, 1)).foldl rangeMax m
  let m := [rangeT s, rangeN s, rangeA s, rangeH s, rangeL s].foldl rangeMax m
  (64 * m.1, m.2)

/-- A format entry. -/
abbrev Fmt := Nat × Nat × Nat × Int

/-- Formats that the two structures share: H and G, A, LAMBDA, W. -/
def commonFmts (s : State) (n m : Nat) : List Fmt :=
  [(0, 0, n - 1, fracOf (rangeH s)), (2, 0, n - 1, fracOf (rangeH s)), (1, 0, m - 1, fracOf (rangeA s)), (7, 0, m - 1, fracOf (rangeL s)), (9, 0, 0, fracOf (rangeW s))]

/-- Formats of structure 0 (R255): X, LB and UB by variable, B and S by row. DESIGN CHOICE, log entry 81: LB and UB of a slack, and S of a row that Table 10-3 does not name, take the range of the variable or of B. -/
def fmts0 (s : State) : List Fmt :=
  let ts := thrusters s
  let n := ts.length
  let m := 3 + 8 * n + (sections s).length
  let ix := List.range n
  let f := fun (k : Nat) => fracOf (tMax s (ts.getD k 0), 1)
  ([6, 4, 5] : List Nat).flatMap (fun q => ix.flatMap (fun k => [(q, 2 * k, 2 * k, f k), (q, 2 * k + 1, 2 * k + 1, (60 : Int))]) ++
    [(q, 2 * n, 2 * n + 1, fracOf (rangeT s)), (q, 2 * n + 2, 2 * n + 2, fracOf (rangeN s))]) ++
  ([3, 8] : List Nat).flatMap (fun q => [(q, 0, 1, fracOf (rangeT s)), (q, 2, 2, fracOf (rangeN s))] ++
    ix.map (fun k => (q, 3 + 8 * k, 10 + 8 * k, f k)) ++
    (List.range (sections s).length).map fun j => (q, 3 + 8 * n + j, 3 + 8 * n + j, fracOf (secRated s ((sections s).getD j 0), 1))) ++
  commonFmts s (2 * n + 3) m

/-- Formats of structure 1 (R255): forces and λ; τ rows and the rows of the regions. -/
def fmts1 (s : State) : List Fmt :=
  let ts := thrusters s
  let n := ts.length
  let f := fun (k : Nat) => fracOf (tMax s (ts.getD k 0), 1)
  ([6, 4, 5] : List Nat).flatMap (fun q => (List.range n).map (fun k => (q, 2 * k, 2 * k + 1, f k)) ++ [(q, 2 * n, 2 * n, fracOf (rangeT s))]) ++
  ([3, 8] : List Nat).flatMap (fun q => [(q, 0, 1, fracOf (rangeT s)), (q, 2, 2, fracOf (rangeN s))] ++ (List.range n).map fun k => (q, 3 + 10 * k, 12 + 10 * k, f k)) ++
  commonFmts s (2 * n + 1) (3 + 10 * n)

/-- The definitions of the DP structures (R194, R253, R255, R232). DESIGN CHOICE, log entry 43: the MPC is structure 2, the observer bank 3, the GNSS position solutions 4, the heading solution 5; structure 1 has ten rows per thruster. -/
def dpStruct (s : State) (sid : Nat) : Struct :=
  let n := (thrusters s).length
  let m := (sections s).length
  let mk := fun (kind n m neq : Nat) (h a : List (Nat × Nat)) (f : List Fmt) =>
    ({ sid := sid, kind := kind, n := n, m := m, neq := neq, patH := h, patA := a, fmts := f
       size := residentSize n m h.length a.length f.length } : Struct)
  let two := fun (rows : Nat) => (List.range n).flatMap fun k => (List.range rows).flatMap fun j => [(3 + rows * k + j, 2 * k), (3 + rows * k + j, 2 * k + 1)]
  let tau := (List.range 3).flatMap fun r => (List.range (2 * n)).map fun c => (r, c)
  match sid with
  | 0 => mk 2 (2 * n + 3) (3 + 8 * n + m) 3 ((List.range (2 * n + 3)).map fun i => (i, i))
      (tau ++ (List.range 3).map (fun r => (r, 2 * n + r)) ++ two 8 ++
        (List.range m).flatMap fun j => (List.range n).filterMap fun k =>
          if thrSection s ((thrusters s).getD k 0) = (sections s).getD j 0 then some (3 + 8 * n + j, 2 * k) else none) (fmts0 s)
  | 1 => mk 3 (2 * n + 1) (3 + 10 * n) 3 [] (tau ++ (List.range 3).map (fun r => (r, 2 * n)) ++ two 10) (fmts1 s)
  | 2 =>
    let h := 3 * fld (wd (s.inForce .dpcMpcConfig) 1) 7 0
    mk 2 h h 0 ((List.range h).flatMap fun i => (List.range h).filterMap fun j => if i ≤ j then some (i, j) else none)
      ((List.range h).flatMap fun i => if 3 ≤ i then [(i, i), (i, i - 3)] else [(i, i)]) (Config.mpcFormats h)
  | _ =>
    let d := Config.dpShape sid
    mk 1 d.1.1 d.1.2.1 d.1.2.2 [] [] d.2

/-- The DP structures that the module defines. -/
def dpIds : List Nat := [0, 1, 2, 3, 4, 5]

/-- R194: the module redefines the structures that a change of configuration affects; those of `always` in any case. The structures 3 to 5 depend on no parameter, and the MPC's on its number of steps. -/
def redefineDp (always : List Nat) (s : State) : State :=
  dpIds.foldl (fun s sid =>
    let x := dpStruct s sid
    let same := match structOf s sid with
      | some y => decide (3 ≤ sid) || (y.n == x.n && (sid == 2 || (y.m == x.m && y.patA == x.patA && y.fmts == x.fmts)))
      | none => false
    if same && !always.contains sid then s else installStruct x s) s

/-! Values. -/

/-- A value of the problem: quantity, row, column, numerator, denominator. -/
abbrev RVal := Nat × Nat × Nat × Int × Nat

/-- A rational in a format (R184). -/
def atF (f num : Int) (den : Nat) : Int := (toRange (if 0 ≤ f then rne (num * 2 ^ f.toNat) den else rne num (den * 2 ^ (-f).toNat))).1

/-- Values in the formats of a structure; zeros are not listed (R192). -/
def qVals (x : Struct) (l : List RVal) : List SVal :=
  l.filterMap fun v =>
    let (q, r, c, num, den) := v
    let n := atF (fmtAt x q r) num den
    if n = 0 then none else some { qty := q, row := r, col := c, v := n }

/-- No bound below and above (R189). -/
def noBound (row : Nat) : List SVal := [{ qty := 4, row := row, col := 0, v := qMin }, { qty := 5, row := row, col := 0, v := qMax }]

/-- Bounds of Δα of an AZIMUTH thruster in 2^-32 turn (Table 10-2), and whether it stands inside a forbidden sector. -/
def azBounds (s : State) (t : Nat) (az : Int) : Int × Int × Bool :=
  let rate : Int := ((thrW s t 7).toNat / 100 : Nat)
  ([11, 13] : List Nat).foldl (fun (a : Int × Int × Bool) i =>
    let st : Int := (thrW s t i).toNat
    let en : Int := (thrW s t (i + 1)).toNat
    let len := angA (en - st)
    let d := angA (az - st)
    if len = 0 then a
    else if 0 < d ∧ d < len then
      (if d ≤ len - d then (-(min rate d), 0, true) else (0, min rate (len - d), true))
    else if a.2.2 then a
    else (max a.1 (-(angA (az - en))), min a.2.1 (angA (st - az)), false)) (-rate, rate, false)

/-- 2π in 2^-60. -/
def twoPi : Int := 7244019458077122842

/-- The values of an allocation problem on structure 0 (R253, Table 10-2): availability, lost set, τ and the point about which it is linear. DESIGN CHOICE, log entry 81: each is formed exactly from sines in 2^-60 and powers in 2^-20 W and rounded once into its format. -/
def allocVals (s : State) (avail lost : Nat) (tau : Vector Int 3) (lin : Vector SetPt 16) : List SVal :=
  let x := dpStruct s 0
  let ts := thrusters s
  let n := ts.length
  let q := qOf s
  let arm := max 1 (armMax s)
  let ix := List.range n
  let row := fun (k : Nat) =>
    let t := ts.getD k 0
    let p := spOf lin t
    let a := pushAz s t p
    let (c, d) := (cosA a, sinA a)
    let out : Bool := !inMask avail t || inMask lost t
    let (lo, hi, inside) := azBounds s t a
    let az := thrKind s t = 2
    let w := wOf s t
    let u := p.u
    let e : Range := match ((s.alloc.thr.toList.getD t {}).ret) with
      | some b => (min (s.time.mt - b) (returnRamp s * secTicks), max 1 (returnRamp s * secTicks))
      | none => (1, 1)
    let thr : Int := (thrW s t 8).toNat
    let low : Int := if thr = 0 then -(tRev s t : Int) * 100 else max (-(tRev s t : Int) * 100) (u * 100 - thr)
    let high : Int := if thr = 0 then (tFwd s t : Int) * 100 else min ((tFwd s t : Int) * 100) (u * 100 + thr)
    let stop : Bool := out || (az && inside)
    let tt := max 1 (tSide s t u)
    let dp : Int := (if u < 0 then -1 else 1) * (isqrt (9 * pRated s t * pRated s t * u.natAbs * 2 ^ 40 / (4 * tt ^ 3)) : Nat)
    let sec := (List.range (sections s).length).find? fun j => (sections s).getD j 0 == thrSection s t
    (([(0, 2 * k, 2 * k, 2 * w.1, w.2), (0, 2 * k + 1, 2 * k + 1, 2 * fld (acfg s 2) 15 0 * pRated s t, 100),
      (1, 0, 2 * k, c, 2 ^ 60), (1, 1, 2 * k, d, 2 ^ 60), (1, 2, 2 * k, thrX s t * d - thrY s t * c, 1000 * 2 ^ 60),
      (1, 0, 2 * k + 1, -(u * d), 2 ^ 60), (1, 1, 2 * k + 1, u * c, 2 ^ 60), (1, 2, 2 * k + 1, thrX s t * u * c + thrY s t * u * d, 1000 * 2 ^ 60),
      (4, 2 * k, 0, if stop then 0 else low * e.1, 100 * e.2), (5, 2 * k, 0, if stop then 0 else high * e.1, 100 * e.2),
      (4, 2 * k + 1, 0, if out || !az then 0 else lo * twoPi, 2 ^ 92), (5, 2 * k + 1, 0, if out || !az then 0 else hi * twoPi, 2 ^ 92)] : List RVal) ++
    (List.range 8).flatMap (fun (j : Nat) =>
      let b : Int := 2 ^ 28 + (j : Int) * 2 ^ 29 - a
      ([(1, 3 + 8 * k + j, 2 * k, if az then cosA b else 0, 2 ^ 60), (1, 3 + 8 * k + j, 2 * k + 1, if az then u * sinA b else 0, 2 ^ 60),
       (3, 3 + 8 * k + j, 0, 92388 * (tMax s t : Int), 100000)] : List RVal)) ++
    (match sec with | some j => ([(1, 3 + 8 * n + j, 2 * k, dp, 2 ^ 20)] : List RVal) | none => []))
  let secRow := fun (j : Nat) =>
    let k := (sections s).getD j 0
    let ps := (ts.filter fun t => thrSection s t == k).map fun t =>
      let u := (spOf lin t).u
      let tt := max 1 (tSide s t u)
      (thrPower s t u : Int) - (isqrt (9 * pRated s t * pRated s t * u.natAbs * 2 ^ 40 / (4 * tt ^ 3)) : Nat) * (u.natAbs : Int)
    let lim : Int := match fin? 4 k with | some i => (pLim s i : Nat) | none => 0
    ([(3, 3 + 8 * n + j, 0, lim * 2 ^ 20 - ps.sum, 2 ^ 20)] : List RVal)
  let slack : List RVal := [(0, 2 * n, 2 * n, 2 * q.1, q.2), (0, 2 * n + 1, 2 * n + 1, 2 * q.1, q.2), (0, 2 * n + 2, 2 * n + 2, 2 * q.1 * 1000000, q.2 * arm * arm),
    (1, 0, 2 * n, 1, 1), (1, 1, 2 * n + 1, 1, 1), (1, 2, 2 * n + 2, 1, 1), (3, 0, 0, tau[0], 1), (3, 1, 0, tau[1], 1), (3, 2, 0, tau[2], 1)]
  qVals x (ix.flatMap row ++ slack ++ (List.range (sections s).length).flatMap secRow) ++ (noBound (2 * n) ++ noBound (2 * n + 1) ++ noBound (2 * n + 2))

/-- The thrusters of a lost set (Table 10-6). -/
def lostSet (s : State) (code : Nat) : Nat :=
  if code = 0 then 0
  else if code ≤ 16 then 2 ^ (code - 1)
  else maskOf (Vector.ofFn fun t : Fin 16 => thrConfigured s t.val && thrSection s t.val == code - 17)

/-- The values of a capability problem on structure 1 (R269): configuration, section limits, direction, ρ in mm. -/
def capVals (s : State) (conf : Nat) (limit : Vector (Option Nat) 4) (theta rho : Int) : List SVal :=
  let x := dpStruct s 1
  let ts := thrusters s
  let n := ts.length
  let row := fun (k : Nat) =>
    let t := ts.getD k 0
    let kap := kappa s limit t
    let edge := fun (j : Nat) (m : Int × Int) (b : Int) =>
      ([(1, 3 + 10 * k + j, 2 * k, m.1, 2 ^ 60), (1, 3 + 10 * k + j, 2 * k + 1, m.2, 2 ^ 60), (3, 3 + 10 * k + j, 0, b, 2 ^ 60)] : List RVal)
    let e := fun (a : Int) => (cosA a, sinA a)
    let az := azFixed s t
    let v := e (az.toNat : Int)
    ([(1, 0, 2 * k, 1, 1), (1, 1, 2 * k + 1, 1, 1), (1, 2, 2 * k, -thrY s t, 1000), (1, 2, 2 * k + 1, thrX s t, 1000)] : List RVal) ++
    (if thrKind s t = 2 then
      (List.range 8).flatMap (fun j => edge j (e (2 ^ 28 + j * 2 ^ 29)) (rne (92388 * (tFwd s t : Int) * kap) 100000)) ++
      (List.range 2).flatMap fun h =>
        let a : Int := (thrW s t (11 + 2 * h)).toNat
        let len := angA ((thrW s t (12 + 2 * h)).toNat - a)
        if len = 0 then [] else edge (8 + h) (e (a + len / 2)) (by60 (tFwd s t * kap) (cosA (len / 2)))
    else edge 0 v (tFwd s t * kap) ++ edge 1 (-v.1, -v.2) (tRev s t * kap) ++ edge 2 (-v.2, v.1) 0 ++ edge 3 (v.2, -v.1) 0)
  let lam : List RVal := [(2, 2 * n, 0, -1, 1), (1, 0, 2 * n, -(cosA theta), 2 ^ 60), (1, 1, 2 * n, -(sinA theta), 2 ^ 60), (1, 2, 2 * n, -rho, 1000)]
  let free := (List.range n).flatMap fun k => if inMask conf (ts.getD k 0) then noBound (2 * k) ++ noBound (2 * k + 1) else []
  qVals x ((List.range n).flatMap row ++ lam) ++ free ++ noBound (2 * n)

end Sys2Proof.Machine
end

