-- ==== Sys2Proof/Machine/Buses.lean ====
section
/-! DEFINITION. The CAN controllers, UART commands and bus streams (chapter 14). -/

namespace Sys2Proof.Machine

/-! Configuration in force (Table 14-2). -/

def canWord (s : State) (c : Fin 6) (i : Nat) : Word := wd (s.inForce .busCanConfig c.val) i
def canMode (s : State) (c : Fin 6) : Nat := fld (canWord s c 0) 9 8
def canDataRate (s : State) (c : Fin 6) : Nat := fld (canWord s c 0) 19 16
def canOrder (s : State) (c : Fin 6) : Bool := bit (canWord s c 0) 7
def canAloneOneshot (s : State) (c : Fin 6) : Bool := bit (canWord s c 0) 6
def canBoffManual (s : State) (c : Fin 6) : Bool := bit (canWord s c 0) 5
def canPex (s : State) (c : Fin 6) : Bool := bit (canWord s c 0) 4

/-- PD4 is on. -/
def pd4On (s : State) : Bool := s.sys.dom[2] == .on

/-- The controller is asleep (R364); CANn_STB is high. -/
def canAsleep (s : State) (c : Fin 6) : Bool := s.can[c].sleepCmd || !pd4On s

/-- STATE of Table 14-9. -/
def canSt (s : State) (c : Fin 6) : Nat :=
  let k := s.can[c]
  if canMode s c = 0 then 0
  else if canAsleep s c then 4
  else if canMode s c = 2 then 5
  else if k.busOff then 3
  else if 127 < k.tec || 127 < k.recv then 2
  else 1

/-- CAN_STATE (EV80) for every controller whose STATE differs from the one before (R372). -/
def canStates (before s : State) : State :=
  (fins 6).foldl (fun s c => if canSt before c = canSt s c then s else raise 80 (c.val * 256 + canSt s c) s) s

/-- Changes one controller, with its CAN_STATE event. -/
def onCtl (c : Fin 6) (f : CanState → CanState) (s : State) : State := canStates s (s.onCan fun v => upd v c f)

/-- The controller takes part in the bus. -/
def canActive (s : State) (c : Fin 6) : Bool :=
  canMode s c != 0 && !canAsleep s c && !s.can[c].integrating && !s.can[c].busOff

/-! Transmission (14.3). -/

/-- Arbitration field of a frame as a number; the lower one wins (ISO 11898-1). -/
def arbKey (f : CanFrame) : Nat :=
  let r := b2n f.rtr
  if f.ide then f.id / 2 ^ 18 * 2 ^ 21 + 2 ^ 20 + 2 ^ 19 + f.id % 2 ^ 18 * 2 + r
  else f.id % 2 ^ 11 * 2 ^ 21 + r * 2 ^ 20

/-- Identifier with its format. -/
def frameId (f : CanFrame) : CanId := (f.ide, f.id)

/-- Puts an entry at its place in entry order. -/
def txInsert (e : TxEntry) : List TxEntry → List TxEntry
  | [] => [e]
  | x :: xs => if e.ord < x.ord then e :: x :: xs else x :: txInsert e xs

/-- The pending entry that is sent next: the one that wins arbitration, or the oldest (R355). -/
def txChoose (order : Bool) : List TxEntry → Option TxEntry
  | [] => none
  | e :: es => some (if order then e else es.foldl (fun b x => if arbKey x.f < arbKey b.f then x else b) e)

/-- Frames with a predicate leave the queue, counted (R353, R357, R360). -/
def txDiscard (p : TxEntry → Bool) (k : CanState) : CanState :=
  let fl := match k.inFlight with | some e => p e | none => false
  { k with
    txq := k.txq.filter fun e => !p e
    inFlight := if fl then none else k.inFlight
    nTxDiscard := satN 0xFFFFFFFF (k.nTxDiscard + (k.txq.filter p).length + b2n fl) }

/-- CAN_TX_FAIL (EV85), at most once per second per controller and kind (R372). -/
def txFail (c : Fin 6) (kind : Fin 3) (s : State) : State :=
  if secondPassed s.can[c].failAt[kind] s.time.mt then
    raise 85 (c.val * 256 + kind.val) (s.onCan fun v => upd v c fun k => { k with failAt := k.failAt.set kind (some s.time.mt) })
  else s

/-- A module function queues a frame: it replaces an unsent frame of the same function and identifier, taking its entry order and COUNTER byte (R354); a blocked identifier drops it (R360). -/
def queueFn (c : Fin 6) (who : CanOwner) (f : CanFrame) (s : State) : State :=
  let k := s.can[c]
  if k.blocked.contains (frameId f) then
    txFail c 2 (s.onCan fun v => upd v c fun k => { k with nTxDiscard := inc32 k.nTxDiscard })
  else match k.txq.find? fun e => e.who == who && frameId e.f == frameId f with
    | some old =>
      let d := if who = .maint then f.data else f.data.set 5 (old.f.data.getD 5 0)
      s.onCan fun v => upd v c fun k => { k with txq := k.txq.map fun e => if e.ord = old.ord then { e with f := { f with data := d } } else e }
    | none => s.onCan fun v => upd v c fun k => { k with txq := k.txq ++ [{ f := f, who := who, ord := k.nextOrd }], nextOrd := k.nextOrd + 1 }

/-- Is a frame of this function and identifier still queued? Its COUNTER is then kept (R354). -/
def fnQueued (c : Fin 6) (who : CanOwner) (id : CanId) (s : State) : Bool := s.can[c].txq.any fun e => e.who == who && frameId e.f == id

/-- Owner identifiers of a controller (R357). -/
def ownerId (s : State) (c : Fin 6) (id : CanId) : Bool :=
  ((List.range 16).any fun t => bindCan s t == c.val && cmdId s t == id) ||
  (let m := fld (canWord s c 4) 28 0
   m != 0 && bit (canWord s c 3) 31 == id.1 && (ofN id.2 &&& ofN m) == (ofN (fld (canWord s c 3) 28 0) &&& ofN m))

/-- The frame in hand returns to the queue for its retry; a newer frame of its function takes its place (R354, R355). -/
def txBack (e : TxEntry) (k : CanState) : CanState :=
  let newer := if e.who = .host then none else k.txq.find? fun x => x.who == e.who && frameId x.f == frameId e.f
  match newer with
  | some x => { k with inFlight := none, txq := txInsert { x with ord := e.ord, f := { x.f with data := x.f.data.set 5 (e.f.data.getD 5 0) } } (k.txq.filter fun y => y.ord != x.ord) }
  | none => { k with inFlight := none, txq := txInsert e k.txq }

/-- An error on a transmission raises the transmit error counter by 8 (ISO 11898-1). -/
def txErr (k : CanState) : CanState := { k with tec := satN 511 (k.tec + 8), nErr := inc32 k.nErr }

/-- The frame e in hand ends as r says (R355, R358 to R360). -/
def txEnd (c : Fin 6) (e : TxEntry) (r : TxResult) (s : State) : State :=
  let drop := fun k : CanState => { k with inFlight := none }
  match r with
  | .started => s.onCan fun v => upd v c fun k => { k with inFlight := some e }
  | .sent =>
    let was := s.can[c].alone
    let s := onCtl c (fun k => { drop k with nTx := inc32 k.nTx, tec := k.tec - 1, noAck := 0, alone := false }) s
    if was then raise 81 (c.val * 256) s else s
  | .lostArbitration => s.onCan fun v => upd v c fun k => if e.oneShot then drop k else txBack e k
  | .error => onCtl c (fun k => txErr (if e.oneShot then drop k else txBack e k)) s
  | .noAck dominant =>
    let passive := 127 < s.can[c].tec
    let was := s.can[c].alone
    let s := onCtl c (fun k =>
      let k := { k with noAck := k.noAck + 1, nErr := inc32 k.nErr, tec := if passive && !dominant then k.tec else satN 511 (k.tec + 8) }
      if e.oneShot then drop k
      else if canAloneOneshot s c && (was || 32 ≤ k.noAck) then { drop k with nTxDiscard := inc32 k.nTxDiscard }
      else txBack e k) s
    let s := if e.oneShot || (was && canAloneOneshot s c) then txFail c 1 s else s
    if !was && 32 ≤ s.can[c].noAck then raise 81 (c.val * 256 + 1) (s.onCan fun v => upd v c fun k => { k with alone := true }) else s
  | .bitError =>
    let id := frameId e.f
    let s := onCtl c (fun k => txErr { (if e.oneShot then drop k else txBack e k) with
      coll := (k.coll.filter fun x => s.time.mt < x.2 + secTicks) ++ [(id, s.time.mt)] }) s
    if 2 ≤ (s.can[c].coll.filter fun x => x.1 == id).length then
      raise 82 (c.val * 8192 + id.2 % 8192) (s.onCan fun v => upd v c fun k =>
        { txDiscard (fun x => frameId x.f == id) k with
          blocked := if k.blocked.contains id then k.blocked else k.blocked ++ [id], coll := k.coll.filter fun x => x.1 != id })
    else s

/-- CAN_TRANSMIT_ATTEMPT (R355): the frame in hand, or else the chosen pending frame, meets the result r. -/
def execCanTransmitAttempt (c : Fin 6) (r : TxResult) (s : State) : Host.Outcome State Fault Refusal :=
  .next (
    if !canActive s c || canMode s c != 1 then s
    else match s.can[c].inFlight with
      | some e => if r = .started then s else txEnd c e r s
      | none => match txChoose (canOrder s c) s.can[c].txq with
        | none => s
        | some e => txEnd c e r (s.onCan fun v => upd v c fun k => { k with txq := k.txq.filter fun x => x.ord != e.ord }))

/-- CAN_BUS_OFF (R358): the transmit error counter exceeds 255; every frame is kept. -/
def execCanBusOff (c : Fin 6) (s : State) : Host.Outcome State Fault Refusal :=
  .next (
    if canActive s c && canMode s c == 1 then
      onCtl c (fun k =>
        let k := match k.inFlight with | some e => txBack e k | none => k
        { k with busOff := true, recovering := false, tec := max 256 k.tec, nBusOff := inc32 k.nBusOff }) s
    else s)

/-- CAN_BUS_OFF_RECOVERY (R358): after 128 occurrences of 11 recessive bits; with BOFF_MANUAL only after BUS_CAN_RECOVER. -/
def execCanBusOffRecovery (c : Fin 6) (s : State) : Host.Outcome State Fault Refusal :=
  .next (
    if s.can[c].busOff && (!canBoffManual s c || s.can[c].recovering) && !canAsleep s c then
      onCtl c (fun k => { k with busOff := false, recovering := false, tec := 0, recv := 0 }) s
    else s)

/-- CAN_INTEGRATION (R353, R365): 11 recessive bits have passed. -/
def execCanIntegration (c : Fin 6) (s : State) : Host.Outcome State Fault Refusal :=
  .next (if canAsleep s c then s else s.onCan fun v => upd v c fun k => { k with integrating := false })

/-- A BUS_CAN_CONFIG takes effect (R353): the controller leaves the bus, discards host frames and FIFO, ends every block, and integrates again as at a start. -/
def canTakes (c : Fin 6) (s : State) : State :=
  s.onCan fun v => upd v c fun k =>
    let k := match k.inFlight with | some e => txBack e k | none => k
    let k := txDiscard (fun e => e.who == .host) k
    { k with nTxDiscard := satN 0xFFFFFFFF (k.nTxDiscard + k.fifo.length), fifo := [], blocked := [], coll := []
             integrating := true, busOff := false, recovering := false, tec := 0, recv := 0 }

/-- A change of ownership ends the blocks of owner identifiers (R360). -/
def canOwnerChange (s : State) : State :=
  s.onCan fun v => vmapI v fun c k => { k with blocked := k.blocked.filter fun id => !ownerId s c id }

/-- A release discards every pending owner frame but the one in transmission (R341, R357). -/
def canRelease (s : State) : State :=
  s.onCan fun v => vmapI v fun c k =>
    let own := fun e : TxEntry => ownerId s c (frameId e.f)
    { k with txq := k.txq.filter fun e => !own e
             nTxDiscard := satN 0xFFFFFFFF (k.nTxDiscard + (k.txq.filter own).length) }

/-! Reception (14.4). -/

/-- A frame matches a host filter (R361). -/
def filterHit (f : CanFrame) (x : CanFilter) : Bool :=
  x.enable && x.ide == f.ide && (!x.fdOnly || f.fdf) && (ofN f.id &&& ofN x.mask) == (ofN x.id &&& ofN x.mask)

/-- Feedback source code src of a binding is valid: the CAN frame is fresh, or the analogue slot's raw sample is (R290). -/
def fbValid (s : State) (fresh : Bool) (src : Nat) : Bool :=
  if src = 0x10 then fresh
  else match fin? 22 (6 + src) with
    | some i => src = 0xFF || !((s.fir.slots[i]).raw.range || (s.fir.slots[i]).raw.missing)
    | none => true

/-- A thruster feedback frame (Table 11-5, R290): an unchanged COUNTER makes it stale; FAULT or NOT_READY sets the not-ready condition. -/
def thrFeedback (t : Fin 16) (bs : List Byte) (s : State) : State :=
  let cnt := (bs.getD 7 0).toNat
  if s.alloc.thr[t].fbCounter = some cnt then s.onLoop fun l => { l with canFbStale := l.canFbStale.set t true }
  else
    let flags := (bs.getD 6 0)
    let ok := (fbSrcs s t.val).all (fbValid s true)
    let s := s.onLoop fun l => { l with
      canFb := l.canFb.set t (s16 bs 0, s16 bs 2, u16 bs 4), canFbStale := l.canFbStale.set t false }
    s.onAlloc fun a => { a with thr := upd a.thr t fun x => { x with
      fbCounter := some cnt
      fbMt := if ok then some s.time.mt else x.fbMt
      azFb := if ok && (fbSrcs s t.val).getD 2 0xFF = 0x10 then ofN (u16 bs 4 * 65536) else x.azFb
      notReady := flags.getLsbD 0 || flags.getLsbD 1
      absent := if ok && x.causes &&& 12 != 0 && !(flags.getLsbD 0 || flags.getLsbD 1) then some (x.absent.getD s.time.mt) else x.absent } }

/-- The function table delivers a frame to every thruster whose feedback it is (R361). -/
def fnDeliver (c : Fin 6) (f : CanFrame) (s : State) : State :=
  (fins 16).foldl (fun s t =>
    if bindCan s t.val = c.val && fbId s t.val == frameId f && !f.fdf && !f.rtr && f.data.length == 8 then thrFeedback t f.data s else s) s

/-- An MT stamp as a local replica reads it: the replica stays within one tick of MT (R14), so no edge that has passed carries more than MT + 1. -/
def replicaStamp (s : State) (t : Nat) : Nat := min t (s.time.mt + 1)

/-- A frame goes to the lowest matching host filter and the FIFO, or is dropped and counted when the FIFO holds 64 (R361, R362). -/
def fifoTake (c : Fin 6) (f : CanFrame) (sof : Nat) (s : State) : State :=
  match (fins 32).find? fun i => filterHit f s.can[c].filters[i] with
  | none => s
  | some i =>
    if s.can[c].fifo.length < 64 then
      s.onCan fun v => upd v c fun k => { k with fifo := k.fifo ++ [{ f := f, stamp := replicaStamp s sof % 2 ^ 48, filter := i.val }], nRx := inc32 k.nRx }
    else
      let due : Bool := secondPassed s.can[c].ovrAt s.time.mt
      let s := s.onCan fun v => upd v c fun k => { k with dropped := satN 0xFFFF (k.dropped + 1), nRxDrop := inc32 k.nRxDrop, ovrAt := if due then some s.time.mt else k.ovrAt }
      if due then raise 83 c.val s else s

/-- CAN_FRAME_RECEIVE (R361 to R363): a whole frame goes to its functions and filters; an error frame and a recessive res bit are counted (Tables 14-1, 14-9). -/
def execCanFrameReceive (c : Fin 6) (x : CanIn) (s : State) : Host.Outcome State Fault Refusal :=
  .next (
    if !canActive s c then s
    else match x with
      | .frame f sof =>
        let s := onCtl c (fun k => { k with recv := if 127 < k.recv then 127 else k.recv - 1 }) s
        fifoTake c f sof (fnDeliver c f s)
      | .error => onCtl c (fun k => { k with recv := satN 255 (k.recv + 1), nErr := inc32 k.nErr }) s
      | .res =>
        if canPex s c then s.onCan fun v => upd v c fun k => { k with nPex := inc32 k.nPex }
        else onCtl c (fun k => { k with recv := satN 255 (k.recv + 1), nErr := inc32 k.nErr }) s)

/-- Words of one record of CAN_RX (Table 14-5). -/
def rxRecord (e : RxEntry) : List Word :=
  [ofN e.stamp, pk [(e.filter, 27), (b2n e.f.fdf, 26), (b2n e.f.brs, 25), (b2n e.f.esi, 24), (b2n e.f.rtr, 23), (e.f.data.length, 16), (e.stamp / 2 ^ 32 % 2 ^ 16, 0)],
   pk [(b2n e.f.ide, 31), (e.f.id, 0)]] ++ bWords e.f.data

/-- Takes up to n frames from the FIFO as the words of a packet, with the drops since the last (R363). -/
def rxPacket (c : Fin 6) (n : Nat) (s : State) : List Word × State :=
  let k := s.can[c]
  let es := k.fifo.take n
  ([pk [(k.dropped, 16), (es.length, 8), (c.val, 0)]] ++ es.flatMap rxRecord,
   s.onCan fun v => upd v c fun k => { k with fifo := k.fifo.drop n, dropped := 0 })

/-- Packets of CAN_RX until the FIFO of controller c is empty; n bounds their number. -/
def rxStream (c : Fin 6) : Nat → State → State
  | 0, s => s
  | n + 1, s =>
    if s.can[c].fifo.isEmpty then s
    else
      let (ws, s') := rxPacket c 13 s
      rxStream c n (stream 0x8A0 c.val ws s')

/-- A UART_RX packet of port u (R370). -/
def uartPacket (u kind mt : Nat) (bs : List Byte) (s : State) : State :=
  stream 0x8A4 u (w64 mt ++ [pk [(kind, 16), (bs.length, 8), (u, 0)]] ++ bWords bs) s

/-- BUS_STREAM_POINT (R363, R370): the next 1 ms point; CAN_RX packets, and a chunk of up to 200 bytes per subscribed binary port. -/
def execBusStreamPoint (s : State) : Host.Outcome State Fault Refusal :=
  .next (
    let s := advanceTo ((s.time.mt / msTicks + 1) * msTicks) s
    let s := (fins 6).foldl (fun s c => if (s.sub 0x8A0 c.val).isSome then rxStream c 5 s else s) s
    (fins 10).foldl (fun s u =>
      let k := s.uart[u]
      if (s.sub 0x8A4 u.val).isSome && !k.chunk.isEmpty then
        uartPacket u.val 1 k.chunkMt (k.chunk.take 200) (s.onUart fun v => upd v u fun k => { k with chunk := k.chunk.drop 200 })
      else s) s)

/-! Sleep and wake (14.5). -/

/-- CAN_SLEEP_EFFECT (R364): a sleep command takes effect when the frame in progress ends. -/
def execCanSleepEffect (c : Fin 6) (s : State) : Host.Outcome State Fault Refusal :=
  .next (if s.can[c].sleepReq && s.can[c].inFlight.isNone then
      onCtl c (fun k => { k with sleepReq := false, sleepCmd := true }) s
    else s)

/-- A wake-up frame matches (R433); FD frames are passed over. -/
def wakeHit (ws : List Word) (f : CanFrame) : Bool :=
  let m := fld (wd ws 2) 28 0
  let mask := leBytes 4 (wd ws 3).toNat ++ leBytes 4 (wd ws 4).toNat
  !f.fdf && !f.rtr && f.ide == bit (wd ws 1) 31 && (ofN f.id &&& ofN m) == (ofN (fld (wd ws 1) 28 0) &&& ofN m) &&
  f.data.length == fld (wd ws 0) 15 12 &&
  ((wd ws 3 == 0 && wd ws 4 == 0) || (List.range 8).any fun i => (f.data.getD i 0 &&& mask.getD i 0) != 0)

/-- The wake monitor's condition of Table 14-6 is met. -/
def wakeMet (ws : List Word) (w : CanWakeCause) : Bool :=
  match fld (wd ws 0) 10 9, w with
  | 0, .dominant => true
  | 1, .frame f => wakeHit ws f
  | 1, .frameErrors => true
  | _, _ => false

/-- CAN_WAKE (R365, R86). -/
def execCanWake (c : Fin 6) (w : CanWakeCause) (s : State) : Host.Outcome State Fault Refusal :=
  .next (
    if canMode s c != 0 && canAsleep s c && wakeMet s.can[c].wake w then
      wakeTrigger 3 (raise 84 (c.val * 256 + fld (wd s.can[c].wake 0) 10 9) s)
    else s)

/-- PD4 has gone off: pending frames are discarded and counted (R364). -/
def canPd4Off (s : State) : State :=
  s.onCan fun v => vmap v fun k => { txDiscard (fun _ => true) k with sleepReq := false }

/-- PD4 goes from on to a sleeping state: a frame in hand is kept with the pending ones (R364). -/
def canPd4Sleep (s : State) : State :=
  s.onCan fun v => vmap v fun k => match k.inFlight with | some e => txBack e k | none => k

/-- PD4 is on again: every controller not asleep by command integrates (R365). -/
def canPd4On (s : State) : State :=
  s.onCan fun v => vmap v fun k => if k.sleepCmd then k else { k with integrating := true }

/-! CAN commands. -/

/-- The controller a command names. -/
def ctlOf (c : Cmd) : Fin 6 := Fin.ofNat 6 (fld (wd c.words 0) 2 0)

/-- Nominal bit time in 12.5 ns periods: BRP times quanta (Table 14-3 or the timing word). -/
def nomTime (ws : List Word) : Nat :=
  let t := wd ws 1
  if t = 0 then 80 * [8, 4, 2, 1].getD (fld (wd ws 0) 15 12) 1 else fld t 31 24 * (1 + fld t 23 16 + fld t 15 8)

/-- Data bit time in 12.5 ns periods. -/
def dataTime (ws : List Word) : Nat :=
  let t := wd ws 2
  if t = 0 then [80, 80, 40, 20, 16].getD (fld (wd ws 0) 19 16) 80 else fld t 31 24 * (1 + fld t 23 16 + fld t 15 8)

/-- A timing word lies in its ranges (Table 14-2), with SJW no larger than TSEG2. -/
def timingOk (t : Word) (brp s1lo s1hi s2 sjw : Nat) : Bool :=
  t == 0 || (1 ≤ fld t 31 24 && fld t 31 24 ≤ brp && s1lo ≤ fld t 23 16 && fld t 23 16 ≤ s1hi && 1 ≤ fld t 15 8 && fld t 15 8 ≤ s2 &&
    1 ≤ fld t 7 0 && fld t 7 0 ≤ sjw && fld t 7 0 ≤ fld t 15 8)

/-- R353: the refusal of a BUS_CAN_CONFIG, words in expert layout. -/
def canConfigCheck (s : State) (ws : List Word) : Option (Nat × Nat) :=
  let use := canUse s (fld (wd ws 0) 2 0)
  if !timingOk (wd ws 1) 32 2 255 128 128 || nomTime ws < 80 then some (0xF016, 1)
  else if !timingOk (wd ws 2) 32 1 32 16 16 then some (0xF016, 2)
  else if fld (wd ws 0) 19 16 != 0 && (dataTime ws < 16 || nomTime ws < dataTime ws) then some (0xF016, if wd ws 2 = 0 then 0 else 2)
  else if fld (wd ws 0) 9 8 != 1 && use != 0 then some (0x8015, use)
  else none

/-- BUS_CAN_CONFIG (R353). -/
def execBusCanConfig (p : Port) (s : State) : Host.Outcome State Fault Refusal :=
  .next (configRow .busCanConfig p (fun _ ws s => canConfigCheck s ws) s)

/-- BUS_CAN_FILTER (R361): at once. -/
def execBusCanFilter (p : Port) (s : State) : Host.Outcome State Fault Refusal :=
  .next (runOp .busCanFilter p (fun c s =>
    let w := wd c.words 0
    let x : CanFilter := { enable := bit w 16, ide := bit w 17, fdOnly := bit w 18, id := fld (wd c.words 1) 28 0, mask := fld (wd c.words 2) 28 0 }
    ok p c 0 [] (s.onCan fun v => upd v (ctlOf c) fun k => { k with filters := k.filters.set (Fin.ofNat 32 (fld w 12 8)) x })) s)

/-- LEN is a valid length (R356). -/
def lenOk (fdf : Bool) (n : Nat) : Bool := n ≤ 8 || (fdf && [12, 16, 20, 24, 32, 48, 64].contains n)

/-- Host frames pending on a controller. -/
def hostPending (k : CanState) : Nat :=
  (k.txq.filter fun e => e.who == .host).length + b2n (match k.inFlight with | some e => e.who == .host | none => false)

/-- BUS_CAN_SEND (R356). -/
def execBusCanSend (p : Port) (s : State) : Host.Outcome State Fault Refusal :=
  .next (runOp .busCanSend p (fun c s =>
    let w1 := wd c.words 1
    let n := fld (wd c.words 2) 6 0
    let rtr := bit (wd c.words 2) 7
    let f : CanFrame := { ide := bit w1 31, id := fld w1 28 0, fdf := bit w1 30, brs := bit w1 29, rtr := rtr, data := (wBytes (c.words.drop 3)).take n }
    let k := ctlOf c
    if !lenOk f.fdf n then reject p c 0x8013 1 s
    else if f.fdf && canDataRate s k = 0 then reject p c 0x8013 2 s
    else if rtr && f.fdf then reject p c 0x8013 3 s
    else if f.brs && !f.fdf then reject p c 0x8013 4 s
    else if canMode s k != 1 then reject p c 0x8019 k.val s
    else if s.can[k].sleepCmd then reject p c 0x8014 k.val s
    else if 32 ≤ hostPending s.can[k] then reject p c 0x8010 k.val s
    else if ownerId s k (frameId f) && !s.sys.own then reject p c 0x8011 k.val s
    else if s.can[k].blocked.contains (frameId f) then reject p c 0x8012 k.val s
    else ok p c 0 [] (s.onCan fun v => upd v k fun x => { x with
      txq := x.txq ++ [{ f := f, who := .host, oneShot := bit (wd c.words 0) 8, ord := x.nextOrd }], nextOrd := x.nextOrd + 1 })) s)

/-- BUS_CAN_RECEIVE (R363). -/
def execBusCanReceive (p : Port) (s : State) : Host.Outcome State Fault Refusal :=
  .next (runOp .busCanReceive p (fun c s =>
    let (ws, s') := rxPacket (ctlOf c) (fld (wd c.words 0) 15 8) s
    ok p c 0 ws s') s)

/-- BUS_CAN_SLEEP (R364, R365, R433). -/
def execBusCanSleep (p : Port) (s : State) : Host.Outcome State Fault Refusal :=
  .next (runOpV .busCanSleep p (fun c _ => if !c.expert && fld (wd c.words 0) 15 12 != 0 then some 0 else none) (fun c s =>
    let k := ctlOf c
    let use := canUse s k.val
    let sleep := bit (wd c.words 0) 8
    if sleep && use != 0 && (s.sys.mode == .standby || s.sys.mode == .control) then reject p c 0x8015 use s
    else
      let s := onCtl k (fun x =>
        let x := { x with wake := expertWords .busCanSleep c.expert c.words }
        if sleep then (if x.inFlight.isSome then { x with sleepReq := true } else { x with sleepCmd := true })
        else if x.sleepCmd then { x with sleepCmd := false, sleepReq := false, integrating := true }
        else { x with sleepReq := false }) s
      ok p c 0 [] s) s)

/-- BUS_CAN_RECOVER (R358). -/
def execBusCanRecover (p : Port) (s : State) : Host.Outcome State Fault Refusal :=
  .next (runOp .busCanRecover p (fun c s =>
    let k := ctlOf c
    if s.can[k].busOff then ok p c 0 [] (s.onCan fun v => upd v k fun x => { x with recovering := true })
    else reject p c 0x8019 k.val s) s)

/-- BUS_CAN_RELEASE (R360): detail 1 for an identifier that is not blocked. -/
def execBusCanRelease (p : Port) (s : State) : Host.Outcome State Fault Refusal :=
  .next (runOp .busCanRelease p (fun c s =>
    let k := ctlOf c
    let id : CanId := (bit (wd c.words 1) 31, fld (wd c.words 1) 28 0)
    if s.can[k].blocked.contains id then
      ok p c 0 [] (s.onCan fun v => upd v k fun x => { x with blocked := x.blocked.filter fun y => y != id })
    else ok p c 1 [] s) s)

/-- BUS_CAN_STATUS (Table 14-9). -/
def execBusCanStatus (p : Port) (s : State) : Host.Outcome State Fault Refusal :=
  .next (runOp .busCanStatus p (fun c s =>
    let i := ctlOf c
    let k := s.can[i]
    let idWord := fun j => match k.blocked[j]? with | some id => pk [(b2n id.1, 31), (id.2, 0)] | none => 0
    ok p c 0 ([pk [(canSt s i, 28), (b2n k.alone, 27), (satN 511 k.tec, 16), (satN 255 k.recv, 8), (k.txq.length + b2n k.inFlight.isSome, 0)],
      ofN k.nTx, ofN k.nRx, ofN k.nRxDrop, ofN k.nTxDiscard, ofN k.nBusOff, ofN k.nErr, ofN k.nPex, ofN k.blocked.length] ++
      (List.range 8).map idWord) s) s)

/-! UART commands (14.7). -/

/-- The port a UART command names. -/
def uartOf (c : Cmd) : Fin 10 := Fin.ofNat 10 (fld (wd c.words 0) 3 0)

def uartProto (s : State) (u : Fin 10) : Nat := fld (wd (s.inForce .busUartConfig u.val) 0) 9 8
def uartBaud (s : State) (u : Fin 10) : Nat := fld (wd (s.inForce .busUartConfig u.val) 0) 18 16
def uartCksOpt (s : State) (u : Fin 10) : Bool := bit (wd (s.inForce .busUartConfig u.val) 1) 0
def uartTxEn (s : State) (u : Fin 10) : Bool := bit (wd (s.inForce .busUartConfig u.val) 1) 1

/-- BUS_UART_CONFIG (R368). -/
def execBusUartConfig (p : Port) (s : State) : Host.Outcome State Fault Refusal :=
  .next (configRow .busUartConfig p (fun _ ws s =>
    let u := fld (wd ws 0) 3 0
    let proto := fld (wd ws 0) 9 8
    let baud := fld (wd ws 0) 18 16
    let old := fld (wd (cfgGet s.cfg.work .busUartConfig u) 0) 9 8
    if (proto == 1 && baud != 0) || (proto == 2 && baud != 3) then some (0xF016, 0)
    else if (proto == 1 || proto == 2) && (fld (wd ws 1) 3 2 != 0 || bit (wd ws 1) 4) then some (0xF016, 1)
    else if proto != old && (slotUsesUart s u || rtcmPortSet s == u) then some (0x8017, u)
    else none) s)

/-- A hexadecimal digit as a character. -/
def hexDigit (n : Nat) : Byte := BitVec.ofNat 8 (if n < 10 then 48 + n else 55 + n)

/-- The IEC 61162 checksum of characters (R369). -/
def xorSum (bs : List Byte) : Byte := bs.foldl (fun a b => a ^^^ b) 0

/-- Characters that BUS_UART_SEND appends: `*`, the checksum after `$`, CR LF (R371). -/
def appendix (bs : List Byte) : List Byte :=
  let x := (xorSum (if bs.headD 0 = 36 then bs.drop 1 else bs)).toNat
  [42, hexDigit (x / 16), hexDigit (x % 16), 13, 10]

/-- BUS_UART_SEND (R371). -/
def execBusUartSend (p : Port) (s : State) : Host.Outcome State Fault Refusal :=
  let app := fun (c : Cmd) (s : State) => bit (wd c.words 0) 16 && (uartProto s (uartOf c) == 1 || uartProto s (uartOf c) == 2)
  .next (runOpV .busUartSend p (fun c s => if app c s && 77 < fld (wd c.words 0) 15 8 then some 0 else none) (fun c s =>
    let u := uartOf c
    let bs := (wBytes (c.words.drop 1)).take (fld (wd c.words 0) 15 8)
    let all := if app c s then bs ++ appendix bs else bs
    if uartProto s u = 0 then reject p c 0x8016 3 s
    else if !uartTxEn s u then reject p c 0x8016 2 s
    else if 1024 < s.uart[u].txq.length + all.length then reject p c 0x8016 1 s
    else ok p c 0 [] (s.onUart fun v => upd v u fun k => { k with txq := k.txq ++ all })) s)

/-- BUS_UART_STATUS (Table 18-16). -/
def execBusUartStatus (p : Port) (s : State) : Host.Outcome State Fault Refusal :=
  .next (runOp .busUartStatus p (fun c s =>
    let u := uartOf c
    let k := s.uart[u]
    ok p c 0 ([pk [(uartBaud s u, 16), (uartProto s u, 8), (u.val, 0)], ofN k.nUsed, ofN k.nUnused] ++
      k.nDisc.toList.map ofN ++ [ofN k.nRx, ofN k.nTx, ofN k.txq.length]) s) s)

/-- BUS_STREAM (14.8, R416): an index beyond the stream's instances is reserved. -/
def execBusStream (p : Port) (s : State) : Host.Outcome State Fault Refusal :=
  .next (runOp .busStream p (fun c s =>
    let w := wd c.words 0
    let i := fld w 3 0
    let uart := fld w 7 4 == 1
    if (if uart then 9 else 5) < i then badValue p c 0 s
    else ok p c 0 [] (subscribe (if uart then 0x8A4 else 0x8A0) i p (b2n (bit w 8)) 0 s)) s)

end Sys2Proof.Machine
end

