-- ==== Sys2Proof/Machine/Loops.lean ====
section
/-! DEFINITION. Loop engines, competing groups, Folly and their commands (chapter 11). -/

namespace Sys2Proof.Machine

/-! Parameters in force (Tables 11-1, 18-14). -/

/-- Period of a RATE in MT ticks (Table 11-1). -/
def ratePeriod (r : Nat) : Nat := ([100000, 50000, 25000, 12500, 10000] : List Nat).getD r 100000

/-- Words of LOOP_CONFIG and LOOP_SET_COEFF of an engine. -/
def leCfg (s : State) (le : Nat) : List Word := s.inForce .loopConfig le
def leCoef (s : State) (le : Nat) : List Word := s.inForce .loopSetCoeff le
def leSet (s : State) (le : Nat) : Bool := !(leCfg s le).isEmpty
def leRate (s : State) (le : Nat) : Nat := fld (wd (leCfg s le) 0) 10 8
def leDest (s : State) (le : Nat) : Nat := fld (wd (leCfg s le) 0) 31 24
def leSrc (s : State) (le : Nat) : Nat := fld (wd (leCfg s le) 0) 23 16
def lePeriod (s : State) (le : Nat) : Nat := ratePeriod (leRate s le)
def outMin (s : State) (le : Nat) : Int := (wd (leCfg s le) 3).toInt
def outMax (s : State) (le : Nat) : Int := (wd (leCfg s le) 4).toInt

/-- Mantissa and exponent of a gain word (R279). -/
def gainM (w : Word) : Int := (w.extractLsb' 8 24).toInt
def gainE (w : Word) : Int := (w.extractLsb' 0 8).toInt

/-- v × 2^e, rounded to nearest even. -/
def scl (v e : Int) : Int := if 0 ≤ e then v * 2 ^ e.toNat else rne v (2 ^ (-e).toNat)

/-- A gain times an integer, with f fraction bits in the result. -/
def gmul (w : Word) (x : Int) (f : Nat := 0) : Int := scl (gainM w * x) (gainE w + f)

/-- Members of group g as set in a configuration, leader first (Table 18-14). -/
def groupIn (l : List CfgEntry) (g : Nat) : List Nat :=
  match cfgFind l .loopGroup g with
  | some ws => ([fld (wd ws 1) 7 0, fld (wd ws 1) 15 8, fld (wd ws 1) 23 16, fld (wd ws 1) 31 24] : List Nat).filter fun m => m != 0xFF
  | none => []

/-- Members of group g in force. -/
def groupOf (s : State) (g : Nat) : List Nat := groupIn s.cfg.force g

/-- The group an engine belongs to. -/
def leGroup (s : State) (le : Nat) : Option (Fin 16) := (fins 16).find? fun g => (groupOf s g.val).contains le

/-- An engine by number. -/
def eng (s : State) (le : Nat) : Engine := s.loop.le.toList.getD le {}

/-- Changes engine number le. -/
def onEng (le : Nat) (f : Engine → Engine) (s : State) : State :=
  match fin? 64 le with
  | some i => s.onLoop fun l => { l with le := upd l.le i f }
  | none => s

/-- A profile channel by number. -/
def prof (s : State) (pc : Nat) : Prof := s.loop.pc.toList.getD pc {}

/-- Changes profile channel number pc. -/
def onProf (pc : Nat) (f : Prof → Prof) (s : State) : State :=
  match fin? 16 pc with
  | some i => s.onLoop fun l => { l with pc := upd l.pc i f }
  | none => s

/-- Position of a channel in whole counts: the steps emitted for STEPDIR (R297), else the rounded reference. -/
def profPos (s : State) (pc : Nat) : Int :=
  if fld (wd (s.inForce .profConfig pc) 0) 9 8 = 2 then (prof s pc).steps else rne (prof s pc).pos (2 ^ 32)

/-- The state an engine computes in: in SHADOW that of the owner's engine (Table 11-2). -/
def engMode (e : Engine) : LeState := if e.st = .shadow then e.own else e.st

/-- It is closed or tracking. -/
def engClosed (e : Engine) : Bool := engMode e == .closed || engMode e == .tracking

/-- Changes the state an engine computes in. -/
def engTo (e : Engine) (m : LeState) : Engine := if e.st = .shadow then { e with own := m } else { e with st := m }

/-! Folly (11.7). -/

/-- The injection at tick n of a test, on an engine of period P (R293). -/
def follyInj (f : Folly) (n per : Nat) : Int :=
  if f.signal = 0 then rne (f.amp * sinTurn ((f.f0 * n * per : Nat) : Int) 100000000000) (2 ^ 60)
  else if f.signal = 1 then
    let m := n - f.settle
    let c := 4095 * f.decim
    rne (f.amp * sinTurn ((((f.f0 * n * (2 * c) : Nat) : Int) + ((f.f1 : Int) - f.f0) * (m * m)) * per) (2 * c * 100000000000)) (2 ^ 60)
  else
    let order := f.f0 % 16
    if Config.prbs order (n / (f.f0 / 256 % 256) % (2 ^ order - 1)) || n / (f.f0 / 256 % 256) % (2 ^ order - 1) == 0 then f.amp else -f.amp

/-- A channel's signal as the engine applied it (Table 11-7). -/
def follySignal (s : State) (f : Folly) (c : Nat) : Int :=
  let e := eng s (c % 64)
  match c / 64 with
  | 0 => e.sp
  | 1 => e.fb
  | 2 => e.u
  | _ => if c % 64 = f.le then f.inj else 0

/-- The capture of a test. -/
def captureOf (s : State) (f : Folly) : Capture :=
  { decim := f.decim
    taken := f.taken
    mt0 := f.mt0
    period := lePeriod s f.le
    desc := f.chans
    samples := f.samples.map fun l => l.reverse }

/-- A test ends: reply, EV68, and its capture unless discarded (R293, R294). -/
def follyEnd (cause : Nat) (s : State) : State :=
  match s.loop.folly with
  | none => s
  | some f =>
    let s := s.onLoop fun l => { l with folly := none, capture := if cause = 2 then none else some (captureOf s f) }
    raise 68 cause (if cause = 0 then finish f.port f.tag 0 0 0 [] s else finish f.port f.tag 0 0x7016 cause [] s)

/-- A test on engine le is to end at its next tick. -/
def follyStop (le : Option Nat) (cause : Nat) (s : State) : State :=
  s.onLoop fun l => { l with folly := l.folly.map fun f =>
    if (le == none || le == some f.le) && f.stopReq.isNone then { f with stopReq := some cause } else f }

/-- Folly at a tick of its engine, before the law: the stop, or the next injection; the first injected tick is the commit point, at which the capture before goes (R53, R292). -/
def follyTick (le : Nat) (s : State) : State :=
  match s.loop.folly with
  | none => s
  | some f =>
    if f.le != le then s
    else match f.stopReq with
      | some c => follyEnd c s
      | none =>
        let s := if f.tick = 0 then commit f.port f.tag (s.onLoop fun l => { l with capture := none }) else s
        s.onLoop fun l => { l with folly := some { f with
          tick := f.tick + 1
          inj := if 4096 ≤ f.taken then 0 else follyInj f f.tick (lePeriod s le) } }

/-- Folly after the law: the capture of a sample (R293). -/
def follySample (le : Nat) (s : State) : State :=
  match s.loop.folly with
  | none => s
  | some f =>
    let n := f.tick - 1
    if f.le = le && f.taken < 4096 && f.settle ≤ n && (n - f.settle) % f.decim = 0 then
      let used := f.chans.filter fun c => c != 0xFF
      s.onLoop fun l => { l with folly := some { f with
        taken := f.taken + 1
        mt0 := if f.taken = 0 then s.time.mt else f.mt0
        samples := (List.range used.length).map fun k => follySignal s f (used.getD k 0) :: f.samples.getD k [] } }
    else s

/-- Injection into an engine: at its setpoint, at its output. -/
def injOf (s : State) (le : Nat) : Int × Int :=
  match s.loop.folly with
  | some f => if f.le = le then (if f.output then (0, f.inj) else (f.inj, 0)) else (0, 0)
  | none => (0, 0)

/-! The control law (11.2). -/

/-- R278: the newest valid value of an engine's source; none when it is invalid. -/
def leSample (s : State) (le : Nat) : Option Int :=
  let src := leSrc s le
  if src ≤ 0x15 then
    match fin? 22 src with
    | some i => let x := s.fir.slots[i].raw; if x.range || x.missing then none else some x.v
    | none => none
  else if src ≤ 0x35 then
    match fin? 22 (src - 0x20) with
    | some i => let x := s.fir.slots[i].out1; if x.range || x.missing || x.settling then none else some x.v
    | none => none
  else if src ≤ 0x42 then
    match (leThruster s le).bind (fin? 16) with
    | some t =>
      let (sp, pi, az) := s.loop.canFb[t]
      if s.loop.canFbStale[t] then none else some (if src = 0x40 then sp else if src = 0x41 then pi else az)
    | none => none
  else if src ≤ 0x5F then some (profPos s (src - 0x50))
  else some 0

/-- A value of an n-bit format; a sum that falls outside it is free, for the spec states no result (log entry 3). -/
def fitI (n : Nat) (s : State) (x : Int) : Int :=
  if -(2 ^ (n - 1)) ≤ x ∧ x < 2 ^ (n - 1) then x else clampI (-(2 ^ (n - 1))) (2 ^ (n - 1) - 1) (Config.freeInt s.free)

/-- The first half of a tick: request, feedback, error, filter, law, clamp and rate limit (R278, R279, R282, R283). -/
def lawTick (s : State) (le : Nat) (e : Engine) : Engine :=
  let cfg := leCfg s le
  let co := leCoef s le
  let per := lePeriod s le
  let x := leSample s le
  let stale := x.isNone || (leDest s le == 0x10 && (leThruster s le).isNone)
  let raw := x.getD e.fbRaw
  let fb := fitI 32 s (gmul (wd cfg 1) raw + (wd cfg 2).toInt)
  let (injSp, injOut) := injOf s le
  let spv := e.spReq + injSp
  let err := if bit (wd cfg 0) 11 then (ofI (spv - fb)).toInt else fitI 32 s (spv - fb)
  let tdf := (wd co 5).toNat
  let fbf := e.fbf + rne ((fb * 2 ^ 32 - e.fbf) * per) (per + 100 * tdf)
  let kp := gainM (wd co 1) * 2 ^ (gainE (wd co 1) + 160).toNat
  let kff := gainM (wd co 4) * 2 ^ (gainE (wd co 4) + 160).toNat
  let kd := gainM (wd co 3) * 2 ^ (gainE (wd co 3) + 128).toNat
  let e := { e with sp := spv, fb := fb, fbRaw := raw, fbStale := stale, err := err, fbfPrev := e.fbf, fbf := fbf }
  let e := if e.openReq then { (engTo e .open) with manual := e.u, openReq := false } else e
  let e :=
    if e.closeReq then
      let present := match leGroup s le with
        | some g => (s.loop.group[g]).out
        | none => if engClosed e then e.u else e.manual
      { (engTo e .closed) with
        closeReq := false
        fbfPrev := fbf
        u := present
        sat := false
        i := fitI 64 s (present * 2 ^ 32 - rne (kp * err + kff * spv) (2 ^ 128)) }
    else e
  if engClosed e then
    let inj := if (leGroup s le).isSome then 0 else injOut
    let v := sat32 (rne ((kp * err + e.i * 2 ^ 128 + kff * spv + inj * 2 ^ 160) * per - kd * (fbf - e.fbfPrev) * 100000000) (per * 2 ^ 160))
    let c := clampI (outMin s le) (outMax s le) v
    let step := rne ((wd cfg 5).toNat * per : Nat) 100000000
    let u := if (wd cfg 5) = 0 then c else clampI (e.u - step) (e.u + step) c
    { e with v := v, u := u, sat := u == outMin s le || u == outMax s le || u != c }
  else if engMode e = .open then { e with v := e.manual, u := e.manual, sat := false }
  else { e with v := 0, u := 0, sat := false }

/-- The second half: back-calculation towards u_act, and the following-error timer of an engine in CLOSED, one that wins or is ungrouped (R285 to R287). -/
def backTick (s : State) (le : Nat) (uact : Int) (e : Engine) : Engine :=
  let co := leCoef s le
  let per := lePeriod s le
  let tt := if (wd co 6).toNat = 0 then 100000 else (wd co 6).toNat
  let ki := gainM (wd co 2) * 2 ^ (gainE (wd co 2) + 128).toNat
  let e := if engClosed e then
      { e with i := fitI 64 s (e.i + rne (ki * per * e.err * tt + (uact - e.v) * per * 1000000 * 2 ^ 128) (100000000 * tt * 2 ^ 96)) }
    else e
  let lim := (wd (leCfg s le) 6).toNat
  if e.st = .closed && decide (0 < lim) && decide (lim < e.err.natAbs) then
    { e with feSince := some (e.feSince.getD s.time.mt) }
  else { e with feSince := none, feRaised := false }

/-- A field output is driven by an engine: not in SHADOW, not in RELEASED (Table 11-6). -/
def driveOut (s0 : State) (le : Nat) (u : Int) (s : State) : State :=
  let e := eng s le
  if e.st = .shadow || e.st = .released || e.st = .unconfigured then s
  else
    let d := leDest s0 le
    if d ≤ 7 then s.onLoop fun l => { l with ao := l.ao.set! d u }
    else if d = 0x10 then
      match leThruster s le with
      | some t => s.onLoop fun l => { l with canThrust := l.canThrust.set! t (clampI (-32768) 32767 u) }
      | none => s
    else if 0x40 ≤ d && d ≤ 0x4F then
      onProf (d - 0x40) (fun p =>
        let vmax : Int := (wd (s.inForce .profConfig (d - 0x40)) 1).toNat
        { p with req := some { vel := true, target := clampI (-vmax) vmax u } }) s
    else s

/-- The DAC code of a land value: 312.5 uV per step, rounded to nearest (R280, Table 19-4). -/
def dacCode (uv : Int) : Int := clampI (-32768) 32767 (rne (uv * 2) 625)

/-- A tick of an ungrouped engine. -/
def soloTick (le : Nat) (s : State) : State :=
  let s := follyTick le s
  let s1 := onEng le (lawTick s le) s
  let s2 := onEng le (backTick s1 le (eng s1 le).u) s1
  driveOut s le (eng s2 le).u (follySample le s2)

/-- A tick of a group, at the tick of its leader (R284, R285). -/
def groupTick (g : Fin 16) (s : State) : State :=
  let ms := groupOf s g.val
  let s := ms.foldl (fun s m => follyTick m s) s
  let s := ms.foldl (fun s m => onEng m (fun e => { lawTick s m e with tickMt := some s.time.mt }) s) s
  let live := ms.filter fun m => engClosed (eng s m)
  let win := live.foldl (fun (w : Option Nat) m =>
    match w with
    | none => some m
    | some k => if (eng s m).u < (eng s k).u || ((eng s m).u == (eng s k).u && decide (m < k)) then some m else some k) none
  let inj := (ms.map fun m => (injOf s m).2).sum
  let out := (match win with | some w => (eng s w).u | none => (eng s (ms.headD 0)).manual) + inj
  let s := live.foldl (fun s m => onEng m (fun e => engTo e (if win = some m then .closed else .tracking)) s) s
  let s := if win.isSome && win != (s.loop.group[g]).winner then raise 67 (g.val * 256 + win.getD 0) s else s
  let s := s.onLoop fun l => { l with group := l.group.set g { winner := win, out := out } }
  let s := ms.foldl (fun s m => onEng m (backTick s m out) s) s
  driveOut s (ms.headD 0) out (ms.foldl (fun s m => follySample m s) s)

/-- First tick of an engine at or after now that it has not had (R277). -/
def nextTick (per : Nat) (last : Option Nat) (mt : Nat) : Nat :=
  let t := cdiv (mt - 6000) per * per + 6000
  if last = some t then t + per else t

/-- LOOP_TICK (R277). The tick of a group runs at the tick of its leader. -/
def execLoopTick (le : Fin 64) (s : State) : Host.Outcome State Fault Refusal :=
  .next (
    if !leSet s le.val || s.sys.dom[1] != .on then s
    else
      let s := advanceTo (nextTick (lePeriod s le.val) (eng s le.val).tickMt s.time.mt) s
      match leGroup s le.val with
      | some g => if (groupOf s g.val).head? = some le.val then groupTick g s else s
      | none => soloTick le.val (onEng le.val (fun e => { e with tickMt := some s.time.mt }) s))

/-- FOLLY_COMPLETE (R293). -/
def execFollyComplete (s : State) : Host.Outcome State Fault Refusal :=
  .next (match s.loop.folly with
    | some f => if f.taken = 4096 then follyEnd 0 s else s
    | none => s)

/-! Availability causes detected here (Table 10-7). -/

/-- Cause c of thruster t is detected; a new cause of a configured thruster raises THRUSTER_FAILED (R24, R264). -/
def detectCause (t c : Nat) (s : State) : State :=
  match fin? 16 t with
  | some i =>
    let had := tb (s.alloc.thr[i]).causes c
    let isNew := !had && thrConfigured s t
    let s := s.onAlloc fun a => { a with thr := upd a.thr i fun x =>
      if had then { x with absent := none }
      else { x with
        causes := x.causes ||| 2 ^ c
        fresh := (if x.freshMt = s.time.mt then x.fresh else 0) ||| 2 ^ c
        freshMt := s.time.mt
        absent := none } }
    if isNew then raise 56 (t * 256 + c) s else s
  | none => s

/-- FOLLOWING_ERROR (R286): FE_TIME after the timer started. -/
def execFollowingError (le : Fin 64) (s : State) : Host.Outcome State Fault Refusal :=
  .next (match (s.loop.le[le]).feSince with
    | none => s
    | some t0 =>
      if (s.loop.le[le]).feRaised then s
      else
        let w7 := wd (leCfg s le.val) 7
        let s := advanceTo (t0 + fld w7 15 0 * msTicks) s
        let s := raise 64 le.val s
        let s := onEng le.val (fun e => { e with feRaised := true, nFe := inc32 e.nFe }) s
        let s := match leThruster s le.val with
          | some t => detectCause t 1 s
          | none => s
        let s := match s.loop.folly with
          | some f => if f.stopOnFe then follyStop (some le.val) 4 s else s
          | none => s
        if bit w7 16 then follyStop (some le.val) 3 (onEng le.val (fun e => { (engTo e .open) with manual := e.u, feSince := none }) s)
        else s)

/-! Commands. -/

/-- The engine a command names. -/
def leOf (c : Cmd) : Nat := fld (wd c.words 0) 5 0

/-- R291: refused in CONTROL on a bound engine. -/
def loopBound (s : State) (le : Nat) : Bool := s.sys.mode == .control && (leThruster s le).isSome

/-- Refusals common to LOOP_CONFIG, LOOP_SET_COEFF and LOOP_SET_MANUAL (R281, R283, R291). -/
def leRefuse (s : State) (le : Nat) : Option (Nat × Nat) :=
  if loopBound s le then some (0x7013, 0) else if engClosed (eng s le) then some (0x7010, 0) else none

/-- Engines follow the configuration: unconfigured without one; a newly configured one takes the state of the mode (Table 11-6). -/
def refreshEngines (s : State) : State :=
  s.onLoop fun l => { l with
    le := vmapI l.le fun i e =>
      if leSet s i.val then
        (if e.st = .unconfigured then { e with st := if s.sys.mode = .standby then .shadow else if s.sys.release then .released else .open } else e)
      else { e with st := .unconfigured } }

/-- FB_SRC and OUT_DEST are assigned codes (Table 18-14). -/
def loopCodes (w0 : Word) : Bool :=
  let d := fld w0 31 24
  let f := fld w0 23 16
  (d ≤ 7 || d == 0x10 || (0x40 ≤ d && d ≤ 0x4F) || d == 0xFF) &&
  (f ≤ 0x15 || (0x20 ≤ f && f ≤ 0x35) || (0x40 ≤ f && f ≤ 0x42) || (0x50 ≤ f && f ≤ 0x5F) || f == 0xFF)

/-- The refusals of LOOP_CONFIG (R281, R291, R431). -/
def loopConfigCheck (s : State) (ws : List Word) : Option (Nat × Nat) :=
  let w0 := wd ws 0
  let le := fld w0 5 0
  let src := fld w0 23 16
  let d := fld w0 31 24
  let clash := (d ≤ 7 || (0x40 ≤ d && d ≤ 0x4F)) && (List.range 64).any fun k => k != le && leSet s k && leDest s k == d
  let noRaw := src ≤ 0x15 && !bit (wd (cfgGet s.cfg.work .cfgFirChannel src) 1) 1
  if !loopCodes w0 || clash || noRaw then some (0xF016, 0)
  else if (wd ws 4).toInt < (wd ws 3).toInt then some (0xF016, 3)
  else leRefuse s le

/-- LOOP_CONFIG (R281). -/
def execLoopConfig (p : Port) (s : State) : Host.Outcome State Fault Refusal :=
  .next (refreshEngines (configRow .loopConfig p (fun _ ws s => loopConfigCheck s ws) s))

/-- LOOP_SET_COEFF (R281). -/
def execLoopSetCoeff (p : Port) (s : State) : Host.Outcome State Fault Refusal :=
  .next (configRow .loopSetCoeff p (fun _ ws s => leRefuse s (fld (wd ws 0) 5 0)) s)

/-- The refusals of LOOP_THRUSTER_BIND (R289, R376). -/
def bindCheck (s : State) (ws : List Word) : Option (Nat × Nat) :=
  let t := fld (wd ws 0) 3 0
  let az := fld (wd ws 0) 31 24
  let le := fld (wd ws 0) 23 16
  let others := (List.range 16).filterMap fun k => if k = t then none else cfgFind s.cfg.work .loopThrusterBind k
  let used := others.flatMap fun w => ([fld (wd w 0) 31 24, fld (wd w 0) 23 16] : List Nat)
  let taken := fun x => x != 0xFF && used.contains x
  let noChar := (cfgFind s.cfg.work .bulkClose (96 + t)).isNone
  let canFb := ([fld (wd ws 1) 31 24, fld (wd ws 1) 23 16, fld (wd ws 1) 15 8] : List Nat).contains 0x10
  if noChar || taken az || taken le || (az == le && az != 0xFF) then some (0xF016, 0)
  else if canFb && fld (wd ws 1) 2 0 == 7 then some (0xF016, 1)
  else if 0x40 ≤ az && az ≤ 0x4F && ((wd ws 4) == 0 || 0x7FFFFFFF < (wd ws 4).toNat) then some (0xF016, 4)
  else none

/-- LOOP_THRUSTER_BIND (R289). -/
def execLoopThrusterBind (p : Port) (s : State) : Host.Outcome State Fault Refusal :=
  .next (configRow .loopThrusterBind p (fun _ ws s => bindCheck s ws) s)

/-- LOOP_CLOSE (R282, R431). -/
def execLoopClose (p : Port) (s : State) : Host.Outcome State Fault Refusal :=
  .next (runOp .loopClose p (fun c s =>
    let le := leOf c
    if loopBound s le then reject p c 0x7013 0 s
    else if (eng s le).st = .unconfigured then reject p c 0x7011 0 s
    else ok p c 0 [] (if engClosed (eng s le) then s else onEng le (fun e => { e with closeReq := true, openReq := false }) s)) s)

/-- LOOP_OPEN (R283): the engine of a Folly test ends it (Table 11-8). -/
def execLoopOpen (p : Port) (s : State) : Host.Outcome State Fault Refusal :=
  .next (runOp .loopOpen p (fun c s =>
    let le := leOf c
    if loopBound s le then reject p c 0x7013 0 s
    else ok p c 0 [] (follyStop (some le) 3 (onEng le (fun e => { e with openReq := engClosed e, closeReq := false }) s))) s)

/-- LOOP_SET_MANUAL (R283). -/
def execLoopSetManual (p : Port) (s : State) : Host.Outcome State Fault Refusal :=
  .next (runOp .loopSetManual p (fun c s =>
    let le := leOf c
    match leRefuse s le with
    | some (st, d) => reject p c st d s
    | none => ok p c 0 [] (onEng le (fun e => { e with manual := clampI (outMin s le) (outMax s le) (wd c.words 1).toInt }) s)) s)

/-- LOOP_SET_SETPOINT (R283). -/
def execLoopSetSetpoint (p : Port) (s : State) : Host.Outcome State Fault Refusal :=
  .next (runOp .loopSetSetpoint p (fun c s =>
    if loopBound s (leOf c) then reject p c 0x7013 0 s
    else ok p c 0 [] (onEng (leOf c) (fun e => { e with spReq := (wd c.words 1).toInt }) s)) s)

/-- An engine that may join or leave a group: OPEN, or RELEASED as R431 counts it. -/
def leOpen (s : State) (le : Nat) : Bool := engMode (eng s le) == .open || (eng s le).st == .released

/-- The refusals of LOOP_GROUP (R284, R431): BAD_VALUE for a member that is no engine, then LOOP_BOUND, then LOOP_GROUP_INVALID. -/
def groupCheck (s : State) (ws : List Word) : Option (Nat × Nat) :=
  let g := fld (wd ws 0) 3 0
  let slots : List Nat := [fld (wd ws 1) 7 0, fld (wd ws 1) 15 8, fld (wd ws 1) 23 16, fld (wd ws 1) 31 24]
  let dissolve := bit (wd ws 0) 8
  let ms := if dissolve then groupIn s.cfg.work g else slots.filter fun m => m != 0xFF
  let lead := ms.headD 0
  let bad := fun i =>
    let m := ms.getD i 0
    if dissolve then !leOpen s m
    else !leOpen s m || (ms.take i).contains m || leRate s m != leRate s lead || (i != 0 && leDest s m != 0xFF) ||
      (List.range 16).any fun k => k != g && (groupIn s.cfg.work k).contains m
  if !dissolve && slots.any fun m => 64 ≤ m && m != 0xFF then some (0xF016, 1)
  else if s.sys.mode == .control && ms.any (fun m => loopBound s m) then some (0x7013, 0)
  else if !dissolve && slots.headD 0 == 0xFF then some (0x7012, 0)
  else if !dissolve && ms.length < 2 then some (0x7012, ms.length)
  else ((List.range ms.length).find? bad).map fun i => (0x7012, i)

/-- LOOP_GROUP (R284). -/
def execLoopGroup (p : Port) (s : State) : Host.Outcome State Fault Refusal :=
  .next (
    let s' := configRow .loopGroup p (fun _ ws s => groupCheck s ws) s
    s'.onLoop fun l => { l with group := vmapI l.group fun g x => if groupOf s' g.val = groupOf s g.val then x else {} })

/-- Table 11-2 code. -/
def leCode : LeState → Nat
  | .unconfigured => 0 | .open => 1 | .closed => 2 | .tracking => 3 | .released => 4 | .shadow => 5

/-- LOOP_STATUS (Table 11-10). -/
def execLoopStatus (p : Port) (s : State) : Host.Outcome State Fault Refusal :=
  .next (runOp .loopStatus p (fun c s =>
    let le := leOf c
    let e := eng s le
    ok p c 0 ([pk [(leCode e.st, 28), (((leGroup s le).map fun g => g.val).getD 0xF, 24), (b2n e.fbStale, 23), (b2n e.feSince.isSome, 22), (b2n e.sat, 21),
      ((leThruster s le).getD 0xFF, 0)], ofI e.sp, ofI e.fb, ofI e.u] ++ i64 e.i ++ [ofN e.nFe]) s) s)

/-- FOLLY_START values out of order (R292): the word index. -/
def follyBad (s : State) (ws : List Word) : Option Nat :=
  let w := wd ws
  let quarter := 25000000000 / lePeriod s (fld (w 0) 5 0)
  if fld (w 0) 10 9 = 2 then
    (if (w 2 &&& 0xFFFF00F0) != 0 || fld (w 2) 3 0 < 7 || fld (w 2) 15 8 = 0 then some 2 else if w 5 = 0xFFFFFFFF then some 5 else none)
  else if quarter < (w 2).toNat then some 2
  else if fld (w 0) 10 9 = 1 && quarter < (w 3).toNat then some 3
  else if w 5 = 0xFFFFFFFF then some 5 else none

/-- FOLLY_START (R292). -/
def execFollyStart (p : Port) (s : State) : Host.Outcome State Fault Refusal :=
  .next (runOpV .follyStart p (fun c s => follyBad s (expertWords .follyStart c.expert c.words)) (fun c s =>
      let ws := expertWords .follyStart c.expert c.words
      let w := wd ws
      let le := fld (w 0) 5 0
      let decim := fld (w 0) 31 24
      let ticks := (w 4).toNat + 4096 * decim
      let s := pending p c (cdiv (ticks * lePeriod s le) msTicks + 1) s
      if s.loop.folly.isSome then reject p c 0x7014 0 s
      else if !bit (w 0) 8 && !engClosed (eng s le) then reject p c 0x7015 0 s
      else s.onLoop fun l => { l with
        folly := some { port := p, tag := c.tag, le := le, output := bit (w 0) 8, signal := fld (w 0) 10 9, amp := (w 1).toInt,
                        f0 := (w 2).toNat, f1 := (w 3).toNat, settle := (w 4).toNat, decim := decim
                        chans := [fld (w 5) 7 0, fld (w 5) 15 8, fld (w 5) 23 16, fld (w 5) 31 24], stopOnFe := bit (w 6) 0 } }) s)

/-- FOLLY_STOP (R294). -/
def execFollyStop (p : Port) (s : State) : Host.Outcome State Fault Refusal :=
  .next (runOp .follyStop p (fun c s => ok p c 0 [] (follyStop none 1 s)) s)

/-- Object kind 0x0030 (11.7): eight header words and the channels in order, 4,096 words each. -/
def captureWords (x : Capture) : List Word :=
  [pk [(x.samples.length, 24), (x.decim, 16), (x.taken, 0)]] ++ w64 x.mt0 ++ [ofN x.period] ++ x.desc.map ofN ++
    x.samples.flatMap fun l => (l.map ofI) ++ List.replicate (4096 - l.length) 0

end Sys2Proof.Machine
end

