-- ==== Sys2Proof/Machine/Profiles.lean ====
section
/-! DEFINITION. Profile channels and their commands (11.8). -/

namespace Sys2Proof.Machine

/-! Parameters in force (Table 18-15). -/

def pcW (s : State) (pc i : Nat) : Word := wd (s.inForce .profConfig pc) i
def pcSet (s : State) (pc : Nat) : Bool := !(s.inForce .profConfig pc).isEmpty
def pcKind (s : State) (pc : Nat) : Nat := fld (pcW s pc 0) 9 8
def pcIndex (s : State) (pc : Nat) : Nat := fld (pcW s pc 0) 15 10
def pcFb (s : State) (pc : Nat) : Nat := fld (pcW s pc 0) 31 24
def pcReduce (s : State) (pc : Nat) : Nat := fld (pcW s pc 6) 23 16

/-- Limits of a channel scaled by a percentage (R296). -/
def pcLimits (s : State) (pc pct : Nat) : Limits :=
  { v := max 1 ((pcW s pc 1).toNat * 2 ^ 32 * pct / 100)
    a := max 1 ((pcW s pc 2).toNat * 2 ^ 32 * pct / 100)
    j := max 1 ((pcW s pc 3).toNat * 2 ^ 32 * pct / 100) }

/-- The axis of a channel. -/
def axisOf (p : Prof) : Axis := { x := p.pos, v := p.vel, a := p.acc }

/-- The plan of a request (R296): SPEED_PCT scales the limits of a position move. -/
def planReq (s : State) (pc : Nat) (p : Prof) (r : MoveReq) : Plan :=
  let m := pcLimits s pc (if r.vel then 100 else r.pct)
  if r.vel then ramp m (axisOf p) (clampI (-m.v) m.v (r.target * 2 ^ 32))
  else planTo m (axisOf p) ((if r.relative then rne p.pos (2 ^ 32) + r.target else r.target) * 2 ^ 32)

/-- Feedback of a channel: an analogue input scaled by FB_GAIN, or an engine's feedback (Table 18-15). -/
def pcFeedback (s : State) (pc : Nat) : Option Int :=
  let src := pcFb s pc
  if src ≤ 0x0F then (fin? 22 (6 + src)).map fun i => gmul (pcW s pc 5) (s.fir.slots[i]).raw.v
  else if 0x40 ≤ src && src ≤ 0x7F then some (eng s (src - 0x40)).fb else none

/-- Ends the running move of a channel (R296). -/
def endMove (pc : Nat) (st : Nat) (s : State) : State :=
  let s := match (prof s pc).cmd with
    | some (p, tag) => finish p tag 0 st 0 [] s
    | none => s
  raise 70 pc (onProf pc (fun x => { x with cmd := none }) s)

/-- A PROF_MOVE that waits for its tick ends as replaced (R296). -/
def dropReq (pc : Nat) (s : State) : State :=
  match (prof s pc).req.bind fun r => r.cmd with
  | some (q, tag) => raise 70 pc (finish q tag 0 0x7019 0 [] s)
  | none => s

/-- A homing that another command replaces ends (R296, R300): without its stall HOME_FAILED, after it PROF_SUPERSEDED (DEDUCED, log entry 23). -/
def dropHome (pc : Nat) (s : State) : State :=
  match (prof s pc).home with
  | some h =>
    let s := onProf pc (fun x => { x with home := none }) s
    if h.aborted then s else if h.stalled then finish h.port h.tag 0 0x7019 0 [] s else finish h.port h.tag 0 0x701A 1 [] s
  | none => s

/-- A PROF_MOVE whose tick has come replaces a homing. -/
def homeReplaced (pc : Nat) (s : State) : State := if ((prof s pc).req.bind fun r => r.cmd).isSome then dropHome pc s else s

/-- A move is planned at a tick (R296, R299): the command it replaces ends, REDUCE_DO is released and delays the motion. -/
def planMove (pc : Nat) (s : State) : State :=
  let p := prof s pc
  match p.req with
  | none => s
  | some r =>
    let s := if p.cmd.isSome then endMove pc 0x7019 s else s
    let s := match r.cmd with | some (q, tag) => commit q tag s | none => s
    let s := onProf pc (fun x => { x with
      req := none
      cmd := r.cmd
      velMode := r.vel
      target := if r.relative && !r.vel then rne x.pos (2 ^ 32) + r.target else r.target
      plan := planReq s pc x r
      moving := true
      restSince := none }) s
    if p.reduce then
      let d := pcReduce s pc
      let s := if d < 16 then s.onLoop fun l => { l with dout := l.dout.set! d false } else s
      raise 74 pc (onProf pc (fun x => { x with reduce := false, holdUntil := some (s.time.mt + (pcW s pc 8).toNat * 100) }) s)
    else s

/-- R297: the steps of one tick that fit, evenly spaced, after a change of direction from the 1 us point on. -/
def stepsThat (pulseNs : Nat) (turned : Bool) (n : Nat) : Nat := min n ((if turned then 99000 else 100000) / (2 * max 1 pulseNs))

/-- R297: the rising edges of n steps in ticks from the start of their 100 us, evenly spaced on the 10 ns grid over it, after a change of direction over the rest from the 1 us point. -/
def stepEdges (turned : Bool) (n : Nat) : List Nat := (List.range n).map fun k => if turned then 100 + k * 9900 / n else k * 10000 / n

/-- The outputs of a channel are driven: not in the release state, not in SHADOW, and of a bound channel in CONTROL only while a function acts (R67, Table 11-6). -/
def profLive (s : State) (pc : Nat) : Bool :=
  !s.sys.release && s.sys.mode != .standby && !(s.sys.mode == .control && !s.loop.driving && (pcThruster s pc).isSome)

/-- The outputs of a channel after its tick (11.8). -/
def profOut (pc : Nat) (s : State) : State :=
  let p := prof s pc
  let live := profLive s pc
  match pcKind s pc with
  | 0 => if live && pcIndex s pc < 8 then
      s.onLoop fun l => { l with ao := l.ao.set! (pcIndex s pc) (sat32 (scl (gainM (pcW s pc 4) * (if bit (pcW s pc 0) 16 then p.vel else p.pos)) (gainE (pcW s pc 4) - 32))) }
    else s
  | 1 => onEng (pcIndex s pc) (fun e => { e with spReq := sat32 (rne p.pos (2 ^ 32)) }) s
  | _ =>
    if live then
      let need := rne p.pos (2 ^ 32) - p.steps
      let neg := need < 0
      let turned : Bool := need != 0 && neg != p.dirNeg
      let n := stepsThat (fld (pcW s pc 6) 15 0) turned need.natAbs
      onProf pc (fun x => { x with
        steps := if neg then x.steps - n else x.steps + n
        edges := stepEdges turned n
        dirNeg := if need = 0 then x.dirNeg else neg }) s
    else onProf pc (fun x => { x with edges := [] }) s

/-- R298: the error timer of a channel with feedback. -/
def profError (pc : Nat) (s : State) : State :=
  match pcFeedback s pc with
  | none => s
  | some fb =>
    let lim := (pcW s pc 9).toNat
    let high := decide (0 < lim) && decide (lim < (profPos s pc - fb).natAbs)
    onProf pc (fun x => if high then { x with peSince := some (x.peSince.getD s.time.mt) } else { x with peSince := none, peRaised := false }) s

/-- R300: the stall condition at a tick, and the end of the travel. -/
def homeTick (pc : Nat) (s : State) : State :=
  match (prof s pc).home with
  | none => s
  | some h =>
    if h.stalled || h.failing then s
    else
      let w := wd h.words
      let det := fld (w 0) 10 9
      let byFe := det != 1 && (match pcFeedback s pc with | some fb => decide ((w 4).toNat < (profPos s pc - fb).natAbs) | none => false)
      let ai := fld (w 5) 7 0
      let byAi := det != 0 && decide (ai < 16) && (match fin? 22 (6 + ai) with | some i => decide ((w 6).toInt * 100 < (s.fir.slots[i]).raw.v) | none => false)
      let far := decide ((w 7).toNat * 2 ^ 32 ≤ ((prof s pc).pos - h.from0).natAbs)
      onProf pc (fun x => { x with
        home := some { h with
          stallSince := if byFe || byAi then some (h.stallSince.getD s.time.mt) else none
          failing := far }
        req := if far then some { vel := true, target := 0 } else x.req }) s

/-- Homing after its channel has come to rest: the back-off ends it, or the stop of a failed run (R300). -/
def homeRest (pc : Nat) (s : State) : State :=
  match (prof s pc).home with
  | none => s
  | some h =>
    let clear := onProf pc (fun x => { x with home := none })
    if h.stalled then finish h.port h.tag 0 0 0 [] (raise 72 pc (onProf pc (fun x => { x with home := none, homed := true }) s))
    else if h.aborted then clear s
    else if h.failing then finish h.port h.tag 0 0x701A 1 [] (raise 73 pc (clear s))
    else s

/-- PROFILE_TICK (R277 at RATE 4, R296, R297, R299, R300). -/
def execProfileTick (pc : Fin 16) (s : State) : Host.Outcome State Fault Refusal :=
  .next (
    let n := pc.val
    if !pcSet s n || s.sys.dom[1] != .on then s
    else
      let s := advanceTo (nextTick 10000 (prof s n).tickMt s.time.mt) s
      let s := planMove n (homeTick n (homeReplaced n (onProf n (fun x => { x with tickMt := some s.time.mt }) s)))
      let p := prof s n
      let s := if p.holdUntil.isSome then s
        else if p.moving then
          let (q, rest) := runFor 10000 p.plan (axisOf p)
          if rest.isEmpty then
            let endVel : Int := if p.velMode then (let m := pcLimits s n 100; clampI (-m.v) m.v (p.target * 2 ^ 32)) else 0
            let s := onProf n (fun x => { x with
              pos := if p.velMode then q.x else p.target * 2 ^ 32
              vel := endVel
              acc := 0
              plan := []
              moving := false
              restSince := if endVel = 0 then some s.time.mt else none }) s
            homeRest n (if p.cmd.isSome || !p.velMode then endMove n 0 s else s)
          else onProf n (fun x => { x with pos := q.x, vel := q.v, acc := q.a, plan := rest }) s
        else onProf n (fun x => { x with pos := x.pos + rne x.vel 10000 }) s
      profError n (profOut n s))

/-- PROFILE_FOLLOWING_ERROR (R298): PFE_TIME_MS after the error rose above its limit, once per episode. -/
def execProfileFollowingError (pc : Fin 16) (s : State) : Host.Outcome State Fault Refusal :=
  .next (match (s.loop.pc[pc]).peSince with
    | some t0 =>
      if (s.loop.pc[pc]).peRaised then s
      else
        let s := advanceTo (t0 + fld (pcW s pc.val 10) 15 0 * msTicks) s
        raise 71 pc.val (onProf pc.val (fun x => { x with peRaised := true, nPfe := inc32 x.nPfe }) s)
    | none => s)

/-- STANDSTILL_TIMER (R299): STANDSTILL_MS after motion ended. -/
def execStandstillTimer (pc : Fin 16) (s : State) : Host.Outcome State Fault Refusal :=
  .next (match (s.loop.pc[pc]).restSince with
    | some t0 =>
      let d := pcReduce s pc.val
      if (s.loop.pc[pc]).reduce || 16 ≤ d then s
      else
        let s := advanceTo (t0 + fld (pcW s pc.val 7) 15 0 * msTicks) s
        let s := if s.sys.release || s.sys.mode = .standby then s else s.onLoop fun l => { l with dout := l.dout.set! d true }
        raise 74 (256 + pc.val) (onProf pc.val (fun x => { x with reduce := true }) s)
    | none => s)

/-- RELEASE_DELAY_END (R299): motion begins. -/
def execReleaseDelayEnd (pc : Fin 16) (s : State) : Host.Outcome State Fault Refusal :=
  .next (match (s.loop.pc[pc]).holdUntil with
    | some t => onProf pc.val (fun x => { x with holdUntil := none }) (advanceTo t s)
    | none => s)

/-- HOME_STALL (R300): HOME_TIME_MS of stall: velocity 0 at once, the position of the stop, the back-off to HOME_REF; the commit point. -/
def execHomeStall (pc : Fin 16) (s : State) : Host.Outcome State Fault Refusal :=
  .next (match (s.loop.pc[pc]).home with
    | some h =>
      match h.stallSince with
      | some t0 =>
        if h.stalled || h.failing then s
        else
          let w := wd h.words
          let s := commit h.port h.tag (advanceTo (t0 + fld (w 5) 31 16 * msTicks) s)
          let at_ := (w 2).toInt + (w 3).toInt
          onProf pc.val (fun x => { x with
            pos := at_ * 2 ^ 32
            steps := at_
            vel := 0
            acc := 0
            plan := []
            req := if (x.req.bind fun r => r.cmd).isSome then x.req else some { vel := false, target := (w 2).toInt }
            home := some { h with stalled := true, stallSince := none } }) s
      | none => s
    | none => s)

/-! Commands. -/

/-- The channel a command names. -/
def pcOf (c : Cmd) : Nat := fld (wd c.words 0) 3 0

/-- The refusals of PROF_CONFIG (R295). -/
def profConfigCheck (ws : List Word) : Option (Nat × Nat) :=
  let w := wd ws
  let kind := fld (w 0) 9 8
  let fb := fld (w 0) 31 24
  let badIdx := kind == 0 && decide (7 < fld (w 0) 15 10)
  let badFb := !(fb ≤ 0x0F || (0x40 ≤ fb && fb ≤ 0x7F) || fb == 0xFF)
  if badIdx || badFb then some (0xF016, 0)
  else if kind == 2 && (decide (1000000 < (w 1).toNat) || decide (1000000000 < 2 * fld (w 6) 15 0 * (w 1).toNat)) then some (0xF016, 1)
  else if kind == 2 && decide (8 ≤ fld (w 0) 3 0) then some (0x7017, 0)
  else none

/-- PROF_CONFIG (R295). -/
def execProfConfig (p : Port) (s : State) : Host.Outcome State Fault Refusal :=
  .next (configRow .profConfig p (fun _ ws _ => profConfigCheck ws) s)

/-- R291: refused in CONTROL on a bound channel. -/
def profBound (s : State) (pc : Nat) : Bool := s.sys.mode == .control && (pcThruster s pc).isSome

/-- PROF_MOVE (R296). A channel without a configuration has no limits to move by: BAD_VALUE. -/
def execProfMove (p : Port) (s : State) : Host.Outcome State Fault Refusal :=
  .next (runOpV .profMove p (fun c s => if pcSet s (pcOf c) then none else some 0) (fun c s =>
    let ws := expertWords .profMove c.expert c.words
    let pc := pcOf c
    let r : MoveReq := { vel := bit (wd ws 0) 8, relative := bit (wd ws 0) 9, target := (wd ws 1).toInt, pct := fld (wd ws 2) 7 0, cmd := some (p, c.tag) }
      let s := pending p c (cdiv (planTicks (planReq s pc (prof s pc) r)) msTicks + 1) s
      if profBound s pc then reject p c 0x7013 0 s
      else setUnit p c.tag pc (onProf pc (fun x => { x with req := some r }) (dropReq pc s))) s)

/-- PROF_HOME (R300). -/
def execProfHome (p : Port) (s : State) : Host.Outcome State Fault Refusal :=
  .next (runOpV .profHome p (fun c s => if !pcSet s (pcOf c) then some 0 else if (pcW s (pcOf c) 1).toNat < (wd c.words 1).toNat then some 1 else none) (fun c s =>
    let ws := expertWords .profHome c.expert c.words
    let w := wd ws
    let pc := pcOf c
    let det := fld (w 0) 10 9
      let back := planTicks (planTo (pcLimits s pc 100) {} ((w 3).toInt * 2 ^ 32))
      let s := pending p c (cdiv ((w 7).toNat * 1000) (w 1).toNat + cdiv back msTicks + 1) s
      if profBound s pc then reject p c 0x7013 0 s
      else if (det == 0 && pcFb s pc == 0xFF) || (det == 1 && fld (w 5) 7 0 == 0xFF) then reject p c 0x7018 0 s
      else
        setUnit p c.tag pc (onProf pc (fun x => { x with
          req := some { vel := true, target := if bit (w 0) 8 then -((w 1).toNat : Int) else (w 1).toNat }
          home := some { port := p, tag := c.tag, words := ws, from0 := x.pos } }) (dropHome pc (dropReq pc s)))) s)

/-- PROF_STATUS (Table 18-15). -/
def execProfStatus (p : Port) (s : State) : Host.Outcome State Fault Refusal :=
  .next (runOp .profStatus p (fun c s =>
    let x := prof s (pcOf c)
    ok p c 0 [pk [(b2n x.homed, 31), (b2n x.velMode, 30), (b2n x.reduce, 29), (b2n x.moving, 28), ((pcThruster s (pcOf c)).getD 0xFF, 0)],
      ofI (profPos s (pcOf c)), ofI (rne x.vel (2 ^ 32)), ofI x.target, ofN x.nPfe] s) s)

/-! The release state and mode entries of engines, channels and field outputs (R67, Table 11-6). -/

/-- A channel stops with no pulse left; a command still on it ends. -/
def stopProf (st detail : Nat) (pc : Nat) (s : State) : State :=
  let p := prof s pc
  let fin := fun (c : Option (Port × Nat)) (s : State) => match c with | some (q, tag) => finish q tag 0 st detail [] s | none => s
  let s := fin p.cmd (fin (p.req.bind fun r => r.cmd) (fin ((p.home.filter fun h => !h.aborted).map fun h => (h.port, h.tag)) s))
  let s := if p.cmd.isSome then raise 70 pc s else s
  onProf pc (fun x => { x with
    vel := 0, acc := 0, plan := [], edges := [], moving := false, req := none, cmd := none, home := none, holdUntil := none, reduce := false
    restSince := some s.time.mt }) s

/-- Every channel stops; the status of the commands they carried. -/
def stopProfs (st detail : Nat) (s : State) : State :=
  (List.range 16).foldl (fun s pc => if (prof s pc).moving || (prof s pc).req.isSome || (prof s pc).home.isSome || (prof s pc).vel != 0 then stopProf st detail pc s else s) s

/-- R67: the release state: 0 V, outputs off, no pulses, every engine open with its output at zero. -/
def releaseOutputs (s : State) : State :=
  let s := stopProfs 0x7019 0 s
  let s := s.onLoop fun l => { l with
    ao := Vector.replicate 8 0
    dout := Vector.replicate 16 false
    driving := false
    le := vmap l.le fun e => if e.st = .unconfigured then e else { e with st := .released, manual := 0, u := 0, v := 0, i := 0, closeReq := false, openReq := false, feSince := none, feRaised := false } }
  s.onSys fun y => { y with release := true }

/-- The field outputs alone return to 0 V and off. -/
def zeroLands (s : State) : State := s.onLoop fun l => { l with ao := Vector.replicate 8 0, dout := Vector.replicate 16 false }

/-- Engines leave the release state for host control, open at zero (Table 11-6). -/
def openEngines (s : State) : State :=
  let s := s.onLoop fun l => { l with le := vmap l.le fun e => if e.st = .released || e.st = .shadow then { e with st := .open, manual := 0, u := 0 } else e }
  s.onSys fun y => { y with release := false }

/-- Engines and channels become SHADOW (Table 11-6). -/
def shadowEngines (s : State) : State :=
  s.onLoop fun l => { l with le := vmap l.le fun e => if e.st = .unconfigured then e else { e with st := .shadow, own := .released, u := 0, manual := 0, i := 0 } }

/-- R67, Table 11-6: bound channels come to rest with their outputs in the release state. -/
def restBound (s : State) : State :=
  (List.range 16).foldl (fun s pc =>
    if (pcThruster s pc).isSome then
      let s := stopProf 0x7019 0 pc s
      if pcSet s pc && pcKind s pc == 0 && decide (pcIndex s pc < 8) then s.onLoop fun l => { l with ao := l.ao.set! (pcIndex s pc) 0 } else s
    else s) s

/-- R291: at the first step 6 of a function the bound engines close under R282 from an output of zero; at the first of NONE they open at zero, and the bound channels rest. -/
def driveBound (on : Bool) (s : State) : State :=
  if s.loop.driving = on then s
  else
    let s := if on then s else restBound s
    s.onLoop fun l => { l with
      driving := on
      le := vmapI l.le fun i e =>
        if (leThruster s i.val).isSome && e.st != .unconfigured then { e with st := .open, manual := 0, u := 0, closeReq := on } else e }

end Sys2Proof.Machine
end

