-- ==== Sys2Proof/Machine/Alloc.lean ====
section
/-! DEFINITION. Thrust allocation (chapter 10): thruster data, section power, availability, speculation and bank, committed solutions, setpoint issue, consequence analysis. -/

namespace Sys2Proof.Machine

/-! Nominal capabilities (R274). -/

/-- λ of a configuration at direction j. -/
def caLam (c : CaResult) (code j : Nat) : Nat := c.lam.getD (code * 72 + j) 0xFFFFFFFF

/-- λ of configuration 0 at an angle, interpolated between neighbouring directions; none where one has no result. -/
def lamAt (c : CaResult) (theta : Int) : Option Int :=
  let d := angA (theta - c.theta0.toNat) * 72
  let j := (d / 2 ^ 32).toNat
  let f := d % 2 ^ 32
  let a := caLam c 0 j
  let b := caLam c 0 ((j + 1) % 72)
  if a = 0xFFFFFFFF ∨ b = 0xFFFFFFFF then none else some (rne ((a : Int) * (2 ^ 32 - f) + (b : Int) * f) (2 ^ 32))

/-- Largest positive and negative yaw moment of thruster t alone within its scaled Q_i, N·m in 2^-20. -/
def yawMoments (s : State) (limit : Vector (Option Nat) 4) (t : Nat) : Int × Int :=
  let k := kappa s limit t
  let mom := fun (p : Int × Int) => rne (thrX s t * p.2 - thrY s t * p.1) 1000
  let pts : List (Int × Int) :=
    if thrKind s t = 1 then
      let a : Int := (azFixed s t).toNat
      let u1 := by60 (tFwd s t * 2 ^ 20) k
      let u2 := -by60 (tRev s t * 2 ^ 20) k
      [(by60 u1 (cosA a), by60 u1 (sinA a)), (by60 u2 (cosA a), by60 u2 (sinA a))]
    else azRegion s t k
  pts.foldl (fun (m : Int × Int) p => (max m.1 (mom p), min m.2 (mom p))) (0, 0)

/-- CAP_N over a set of thrusters (R274). -/
def capYaw (s : State) (avail : Nat) (limit : Vector (Option Nat) 4) : Int :=
  let m := ((thrusters s).filter (inMask avail)).map (yawMoments s limit)
  rne (min (m.map fun p => p.1).sum (-(m.map fun p => p.2).sum)) (2 ^ 20)

/-- Nominal capabilities CAP_X, CAP_Y, CAP_N (R274); free where the cycle has a direction without result. -/
def nomCap (s : State) : Vector Int 3 :=
  match s.alloc.caDone with
  | some c =>
    let f := fun (a b : Int) => match lamAt c a, lamAt c b with
      | some x, some y => min x y
      | _, _ => Config.freeInt s.free
    #v[f 0 (2 ^ 31), f (2 ^ 30) (3 * 2 ^ 30), capYaw s c.avail c.limit]
  | none =>
    let sum : Int := ((((thrusters s).filter (inMask s.alloc.avail)).map fun t => tFwd s t).sum : Nat)
    #v[sum, sum, capYaw s s.alloc.avail s.dpc.limit]

/-! Results of structure 0 (R253 to R255). -/

/-- The setpoints that a solution gives about a point of linearisation (R254), from the formats of the structure it was solved on. X holds u_i and Δα_i for each configured thruster in order. -/
def decodeSol (s : State) (x : Struct) (lin : Vector SetPt 16) (v : List Int) : Vector SetPt 16 :=
  vmapI lin fun i p =>
    match (thrusters s).findIdx? fun t => t == i.val with
    | none => p
    | some k =>
      { u := scale2 (v.getD (2 * k) 0) (fmtAt x 6 (2 * k))
        az := if thrKind s i.val = 1 then azFixed s i.val
          else ofI ((p.az.toNat : Int) + rne (v.getD (2 * k + 1) 0 * 2 ^ 92) (twoPi.toNat * 2 ^ (fmtAt x 6 (2 * k + 1)).toNat)) }

/-- A primal-dual point (8.6). -/
def pointOf (o : CopyOut) : List Int := o.x ++ o.lambda ++ o.s

/-- Generation of a structure. -/
def genOf (s : State) (sid : Nat) : Nat := ((structOf s sid).map fun x => x.gen).getD 0

/-! Availability (R24, R264 to R268). -/

/-- Causes of a thruster in effect at a boundary: those detected exactly at it wait (R24). -/
def inEffect (b : Nat) (x : Thr) : Nat := if x.freshMt = b then x.causes &&& (0xFFFF ^^^ x.fresh) else x.causes

/-- The boundary fixes A for the frame; a thruster whose causes have cleared enters it as returning (R268). -/
def fixAvail (s : State) : State :=
  let b := s.time.mt
  let av := maskOf (Vector.ofFn fun i : Fin 16 => thrConfigured s i.val && inEffect b s.alloc.thr[i] == 0)
  let back := (fins 16).filter fun i => thrConfigured s i.val && inEffect b s.alloc.thr[i] == 0 && (s.alloc.thr[i]).out
  let s := s.onAlloc fun a => { a with
    prevAvail := a.avail
    avail := av
    lost := (fins 16).foldl (fun m i => if tb a.avail i.val && !tb av i.val then m + 2 ^ i.val else m) 0
    thr := vmapI a.thr fun i x => { x with
      out := thrConfigured s i.val && inEffect b x != 0
      ret := if inEffect b x != 0 then none
        else if x.out then some b
        else match x.ret with
          | some t => if t + returnRamp s * secTicks ≤ b then none else x.ret
          | none => none } }
  back.foldl (fun s i => raise 57 i.val s) s

/-- The frame's flags start anew (Table 10-15). -/
def allocReset (s : State) : State :=
  s.onAlloc fun a => { a with
    committed := false, entry := 0xFE, aged := false, refined := false, hit := false, squash := 0
    d3Miss := false, noResult := false, clamp := false }

/-! Consequence analysis (10.5). -/

/-- The problems of a cycle in their order: configuration and direction (R271). -/
def caOrder (c : CaResult) : List (Nat × Nat) :=
  let codes := (List.range 21).filter fun k => tb c.mask k
  codes.map (fun k => (k, 0)) ++ codes.flatMap fun k => (List.range 71).map fun j => (k, j + 1)

/-- Number of the cycle's direction-0 problems. -/
def caFirst (c : CaResult) : Nat := ((List.range 21).filter fun k => tb c.mask k).length

/-- A problem of a cycle on structure 1 (R269, R270). -/
def caTicket (s : State) (c : CaResult) (q : Nat × Nat) : Ticket :=
  let lost := lostSet s q.1
  let conf := c.avail &&& (0xFFFF ^^^ lost)
  dpTicket .capability (capVals s conf c.limit ((c.theta0.toNat : Int) + rne (q.2 * 2 ^ 32) 72) c.rho) ([], 0) none s

/-- λ in N that an outcome of structure 1 gives; 0xFFFFFFFF without result (Table 10-14). -/
def caValue (t : Ticket) (o : CopyOut) : Nat :=
  if o.status != 0 then 0xFFFFFFFF else (scale2 (o.x.getD (t.on.n - 1) 0) (fmtAt t.on 6 (t.on.n - 1))).toNat

/-- The problem that comes next takes a ticket, one at a time. -/
def caNext (s : State) : State :=
  let s := cancelDp (fun w => w == .capability) s
  match s.alloc.ca with
  | some c => match (caOrder c)[c.next]? with
    | some q => submitDp (caTicket s c q) s
    | none => s
  | none => s

/-- A problem of the cycle has ended, with or without a result. -/
def caEnded (good : Bool) (s : State) : State :=
  caNext (s.onAlloc fun a => { a with ca := a.ca.map fun c => { c with next := c.next + 1, lost := if good then c.lost else c.next :: c.lost } })

/-- The problems of the cycle before number n that no compare has ended are solved and credited to structure 1 (R188, R198). -/
def caSolve (n : Nat) (s : State) : State :=
  match s.alloc.ca with
  | some c =>
    let l := (List.range n).drop c.next
    let s := l.foldl (fun s k => let t := caTicket s c ((caOrder c).getD k (0, 0)); creditDp t (runCopy t) s) (charge s)
    caNext (s.onAlloc fun a => { a with ca := some { c with next := max n c.next } })
  | none => s

/-- λ of a configuration and direction, as the cycle's problem gives it. -/
def caLamOf (s : State) (c : CaResult) (q : Nat × Nat) : Nat :=
  match (caOrder c).findIdx? fun e => e == q with
  | some k => if c.lost.contains k then 0xFFFFFFFF else let t := caTicket s c q; caValue t (runCopy t)
  | none => 0xFFFFFFFF

/-- A cycle starts at the boundary with what it holds (R270, R271). -/
def caBegin (s : State) : State :=
  let f := fun (i : Nat) => s.fus.pub.toList.getD i 0
  let d := fun (k : Nat) => -(f (15 + k) + f (12 + k))
  let dxy := hyp (d 0) (d 1)
  let l : Int := (armMax s : Nat)
  caNext (s.onAlloc fun a => { a with
    caStart := some s.time.mt
    ca := some { start := s.time.mt, dxy := dxy, avail := a.avail, mask := codesOf s a.avail, gen := genOf s 1, limit := s.dpc.limit
                 theta0 := if dxy < 1000 then 0 else ofI (angleOf (d 0) (d 1))
                 rho := if dxy < 1000 then 0 else clampI (-l) l (rne (d 2 * 1000) dxy) } })

/-- CA_CYCLE_START (R271): at a boundary at least 100 frames after the last start with no cycle running, and at a change of A or a redefinition of structure 1. -/
def caBoundary (s : State) : State :=
  if !frameWork s then (match s.alloc.ca with | some _ => caNext (s.onAlloc fun a => { a with ca := none }) | none => s)
  else
    match s.alloc.ca with
    | some c => if c.avail != s.alloc.avail || c.gen != genOf s 1 then caBegin s else s
    | none =>
      match s.alloc.caStart with
      | some t => if t + 100 * frameTicks ≤ s.time.mt then caBegin s else s
      | none => caBegin s

/-- Utilisation in 0.1 %, saturating (R272). -/
def util (dxy lam : Nat) : Nat :=
  if lam = 0 ∨ lam = 0xFFFFFFFF then 65535 else satN 65535 (rne (dxy * 1000) lam).toNat

/-- CA_DIRECTION0_COMPLETE (R272): the direction-0 problems are complete, and the utilisations follow. -/
def execCaDirection0Complete (s : State) : Host.Outcome State Fault Refusal :=
  .next (match s.alloc.ca with
    | none => s
    | some c =>
      if c.dir0 then s
      else
        let u := (List.range 21).map fun k => util c.dxy (caLamOf s c (k, 0))
        let s := caSolve (caFirst c) s
        let c := s.alloc.ca.getD c
        let best := ((List.range 20).map (· + 1)).foldl (fun (b : Nat × Nat) k => if tb c.mask k && decide (b.2 < u.getD k 0) then (k, u.getD k 0) else b) (0, 0)
        let lim := fld (ccfg s 0) 31 16 * 10
        let clr := fld (ccfg s 1) 15 0 * 10
        let clear := if best.2 < clr then s.alloc.conseqClear + 1 else 0
        let enable := bit (ccfg s 0) 0
        let s := s.onAlloc fun a => { a with
          ca := some { c with dir0 := true, u := u }
          worst := best.1, worstU := best.2, conseqClear := clear, nomOver := lim < u.getD 0 0 }
        if s.alloc.conseq then
          if fld (ccfg s 1) 23 16 ≤ clear then raise 62 best.1 (s.onAlloc fun a => { a with conseq := false, conseqClear := 0 })
          else if enable && best.1 != 0 && best.1 != s.alloc.conseqCode then raise 62 (256 + best.1) (s.onAlloc fun a => { a with conseqCode := best.1 })
          else s
        else if enable && decide (lim < best.2) then raise 62 (256 + best.1) (s.onAlloc fun a => { a with conseq := true, conseqCode := best.1, conseqClear := 0 })
        else s)

/-- CA_CYCLE_COMPLETE (R273): the last problem of the cycle is complete. -/
def execCaCycleComplete (s : State) : Host.Outcome State Fault Refusal :=
  .next (match s.alloc.ca with
    | none => s
    | some c =>
      if !c.dir0 then s
      else
        let lam := (List.range 21).flatMap fun k => (List.range 72).map fun j => caLamOf s c (k, j)
        let s := caSolve (caOrder c).length s
        let per := (s.time.mt - c.start) / msTicks
        let slow := decide ((ccfg s 2).toNat * msTicks < s.time.mt - c.start)
        let was := s.alloc.caSlow
        let s := s.onAlloc fun a => { a with ca := none, caDone := some { c with lam := lam, period := per }, caSlow := slow }
        if slow && !was then raise 63 256 s else if !slow && was then raise 63 0 s else s)

/-! The frame of allocation (Table 10-4). -/

/-- The entry selected in a failure frame (Table 10-8): its code, 0xFF where degenerate, AGED, and the solution. -/
def selectEntry (s : State) : Nat × Bool × Vector SetPt 16 :=
  let f := (List.range 16).filter fun t => inMask s.alloc.lost t
  let sec := thrSection s (f.headD 0)
  let code := if f.length = 1 then 1 + f.headD 0
    else if decide (sec < 4) && (f.all fun t => thrSection s t == sec) then 17 + sec else 0xFF
  let degenerate := (0xFF, false, vmapI s.alloc.sol fun i p => if inMask s.alloc.lost i.val then { p with u := 0 } else p)
  match s.alloc.bank.toList.getD code none with
  | some e => if e.mask = s.alloc.prevAvail ∧ e.gen = genOf s 0 then (code, decide (e.frame + 1 < s.sys.frame), e.sp) else degenerate
  | none => degenerate

/-- Is τ within SPEC_TOL_PCT of a prediction on every axis (reason 3 of Table 10-5)? -/
def tauNear (s : State) (pred : Vector Int 3) : Bool :=
  let cap := nomCap s
  (fins 3).all fun i => decide (100 * ((s.dpc.tau[i] - pred[i]).natAbs : Nat) ≤ specTolPct s * cap[i])

/-- The squash reason of Table 10-5; 0 where the speculation stands. -/
def squashReason (s : State) : Nat :=
  match s.alloc.bank[0] with
  | none => 1
  | some e =>
    if s.alloc.firstFrame || e.frame + 1 != s.sys.frame then 1
    else if e.mask != s.alloc.avail || e.gen != genOf s 0 || s.alloc.cfgChanged then 2
    else if !tauNear s s.alloc.tauPred then 3
    else if (fins 4).any fun k => decide (pLim s k * 101 * 2 ^ 20 < secPow s e.sp k.val * 100) then 4
    else 0

/-- τ_pred of the next frame (R256); its bank awaits the committed solution of this one. -/
def predict (s : State) : State :=
  let cap := nomCap s
  s.onAlloc fun a => { a with
    tauPred := vmapI s.dpc.tau fun i x => clampI (-cap[i]) cap[i] (2 * x - s.dpc.tauPrev[i])
    bankDue := some s.dpc.limit }

/-- The warm start of a problem of structure 0 from a bank entry, or the reason for none (R203): 2 after a redefinition, 3 with no solution. -/
def warmFrom (s : State) (e : Option BankEntry) : List Int × Nat :=
  match e with
  | some e => if e.gen = genOf s 0 then (e.point, 0) else ([], 2)
  | none => ([], 3)

/-- The bank of the next frame is solved about the committed solution of this one, under the section limits of 2.0 ms (R256, R263). -/
def submitBank (s : State) : State :=
  match s.alloc.bankDue with
  | none => s
  | some lim =>
    let held := s.onDpc fun d => { d with limit := lim }
    let s := s.onAlloc fun a => { a with bankDue := none }
    (fins 21).foldl (fun s c =>
      if tb (codesOf s s.alloc.avail) c.val then
        submitDp (dpTicket (.bank c) (allocVals held s.alloc.avail (lostSet s c.val) s.alloc.tauPred s.alloc.sol)
          (warmFrom s s.alloc.bank[c]) (some (s.sys.frame * frameTicks + 950000)) s) s
      else s) (cancelDp (fun w => match w with | .bank _ => true | _ => false) s)

/-- The point about which the frame's problem is linear. -/
def linearize (b : Nat) (s : State) : State :=
  s.onAlloc fun a => { a with
    checked := some s.sys.frame
    lin := vmapI a.sol fun i p =>
      if a.firstFrame then { u := 0, az := (a.thr[i]).azFb }
      else if (a.thr[i]).ret = some b then { p with az := (a.thr[i]).azFb } else p }

/-- A failure frame commits its entry of the bank (R265, R266). -/
def commitEntry (s : State) : State :=
  let r := selectEntry s
  s.onAlloc fun a => { a with sol := r.2.2, committed := true, entry := r.1, aged := r.2.1, nSwitch := inc32 a.nSwitch }

/-- The speculation stands, or its squash is counted (R257, Table 10-5). -/
def checkEntry (s : State) : State :=
  let r := squashReason s
  if r = 0 then s.onAlloc fun a => { a with hit := true }
  else s.onAlloc fun a => { a with
    squash := r, nSquash := inc32 a.nSquash
    squashBy := vmapI a.squashBy fun i n => if i.val + 1 = r then inc32 n else n }

/-- The DP-1 problem of the frame (R258, R266), after step 3: one corrective iteration from the speculation or the entry whose prediction holds, else a re-solve with 25 iterations, warm from it where only the prediction or a section limit failed. fail: the entry's code in a failure frame. -/
def submitDp1 (fail : Option Nat) (s : State) : State :=
  let e := s.alloc.bank.toList.getD (fail.getD 0) none
  let hit := match fail with
    | none => s.alloc.hit
    | some _ => (match e with | some e => tauNear s e.pred | none => false)
  let warm := match fail with
    | none => if s.alloc.hit || 3 ≤ s.alloc.squash then warmFrom s e else if s.alloc.squash = 2 && (warmFrom s e).2 == 2 then ([], 2) else ([], 0)
    | some _ => if e.isSome then warmFrom s e else ([], 0)
  let t := dpTicket .alloc (allocVals s s.alloc.avail 0 s.dpc.tau s.alloc.lin) warm (some (s.sys.frame * frameTicks + 600000)) s
  submitDp (if hit then { t with maxIter := 1, anyway := true } else { t with maxIter := 25 }) s

/-- SPECULATION_CHECK (R257, R258, R262, R265, R266). -/
def execSpeculationCheck (s : State) : Host.Outcome State Fault Refusal :=
  .next (
    let s := stepAt 2000 s
    if !frameWork s || s.dpc.fn == 0 || s.alloc.checked == some s.sys.frame then s
    else
      let s := linearize (s.sys.frame * frameTicks) s
      let fail := s.alloc.lost != 0 && !s.alloc.firstFrame
      let s := if fail then commitEntry s else checkEntry s
      let s := submitDp1 (if fail then some s.alloc.entry else none) (cancelDp (fun w => w == .alloc) s)
      (predict s).onAlloc fun a => { a with firstFrame := false, cfgChanged := false })

/-- D3 is missed: step 6 issues the committed solution of the previous frame (R22, R276). -/
def missD3 (s : State) : State :=
  if s.alloc.d3Miss || s.alloc.committed then s
  else
    let s := s.onAlloc fun a => { a with d3Miss := true, d3Run := a.d3Run + 1, nD3 := inc32 a.nD3 }
    let s := missDeadline 2 s
    raise 58 (satN 255 s.alloc.d3Run) s

/-- A DP-1 problem of the frame commits a solution (R258, R266); the bank follows. -/
def allocResult (t : Ticket) (x : List Int) (s : State) : State :=
  submitBank (s.onAlloc fun a => { a with
    sol := decodeSol s t.on a.lin x
    committed := true
    refined := a.entry != 0xFE
    nHit := if a.hit then inc32 a.nHit else a.nHit })

/-- A DP-1 problem of the frame ends without a result (R259); a failure frame keeps its selected entry (R266). -/
def allocNoResult (code : Nat) (s : State) : State :=
  submitBank (missD3 (raise 61 code (s.onAlloc fun a => { a with noResult := true })))

/-- A bank entry is complete (R263). -/
def bankResult (e : Fin 21) (t : Ticket) (o : CopyOut) (s : State) : State :=
  s.onAlloc fun a => { a with bank := a.bank.set e (some {
    frame := s.sys.frame, mask := a.avail, gen := t.gen, sp := decodeSol s t.on a.sol o.x, point := pointOf o, pred := a.tauPred }) }

/-- HYPOTHESIS_BANK_DEADLINE (R23): entries not complete by 9.5 ms keep their previous solution. -/
def execHypothesisBankDeadline (s : State) : Host.Outcome State Fault Refusal :=
  .next (
    let s := stepAt 9500 s
    if frameWork s then cancelDp (fun w => match w with | .bank _ => true | _ => false) s else s)

/-! Step 6 (R21, R260, R261, R288 to R291). -/

/-- The committed setpoints with unavailable thrusters at 0 and their last azimuth (R267). -/
def available (s : State) : Vector SetPt 16 :=
  vmapI s.alloc.sol fun i p => if inMask s.alloc.avail i.val then p else { u := 0, az := (s.alloc.issued[i]).az }

/-- Section power check and clamp (R260): the setpoints, and the sections clamped. -/
def clampPower (s : State) (v : Vector SetPt 16) : Vector SetPt 16 × Vector Bool 4 :=
  let high := Vector.ofFn fun k : Fin 4 => decide (pLim s k * 2 ^ 20 < secPow s v k.val)
  (vmapI v fun i p =>
    match fin? 4 (thrSection s i.val) with
    | some k => if high[k] && thrConfigured s i.val then { p with u := by60 p.u (pow23 (pLim s k * 2 ^ 20) (secPow s v k.val)) } else p
    | none => p, high)

/-- LOAD_REDUCTION (R247): a section limit starts or stops binding. -/
def setBinding (v : Vector Bool 4) (s : State) : State :=
  let old := s.dpc.binding
  (fins 4).foldl (fun s k => if v[k] != old[k] then raise 12 (b2n v[k] * 256 + k.val) s else s) (s.onDpc fun d => { d with binding := v })

/-- The frames above and below the slack alarm figure (R261). -/
def slackCount (s : State) : State :=
  let cap := nomCap s
  let high := fun (i : Fin 3) => decide (slackAlarmPct s * cap[i] < 100 * ((s.alloc.slack[i]).natAbs : Nat))
  s.onAlloc fun a => { a with
    slackRun := vmapI a.slackRun fun i n => if high i then n + 1 else 0
    slackClear := if (fins 3).any high then 0 else a.slackClear + 1 }

/-- ALLOC_SLACK_ALARM (R261): raised at 10 consecutive frames above, cleared at 100 below. -/
def execAllocSlackAlarm (s : State) : Host.Outcome State Fault Refusal :=
  .next (
    let m := maskOf (vmap s.alloc.slackRun fun n => decide (10 ≤ n))
    if s.alloc.slackOn = 0 then (if m = 0 then s else raise 60 (256 + m) (s.onAlloc fun a => { a with slackOn := m }))
    else if 100 ≤ s.alloc.slackClear then raise 60 s.alloc.slackOn (s.onAlloc fun a => { a with slackOn := 0 })
    else s)

/-- The points of a thruster's characteristic: setpoint and thrust, 0.01 % (Table 15-4). -/
def charPts (s : State) (t : Nat) : List (Int × Int) :=
  let ws := s.inForce .bulkClose (96 + t)
  (List.range (fld (wd ws 0) 7 0)).map fun i => (((wd ws (1 + i)).extractLsb' 16 16).toInt, ((wd ws (1 + i)).extractLsb' 0 16).toInt)

/-- Shaft-speed or pitch setpoint of a thrust through the thruster's characteristic, 0.01 % of rated (R288). -/
def thrustToSp (s : State) (t : Nat) (u : Int) : Int :=
  let pts := charPts s t
  let q : Int := max 1 (tSide s t u : Nat)
  -- thrust in 0.01 % is u * 10,000 / q
  let y := u * 10000
  let seg := (List.range (pts.length - 1)).find? fun i => decide (y ≤ (pts.getD (i + 1) (0, 0)).2 * q)
  match seg with
  | none => (pts.getLastD (0, 0)).1
  | some i =>
    let a := pts.getD i (0, 0)
    let b := pts.getD (i + 1) (0, 0)
    if y ≤ a.2 * q then a.1 else rne (a.1 * ((b.2 - a.2) * q) + (b.1 - a.1) * (y - a.2 * q)) ((b.2 - a.2) * q).toNat

/-- Target of a profile channel for an azimuth (R288). -/
def azTargetCounts (pos counts : Int) (az : Word) : Int :=
  let now := angA (rne (pos * 2 ^ 32) counts.toNat)
  pos + rne (wrapA ((az.toNat : Int) - now) * counts) (2 ^ 32)

/-- The setpoints of a bound thruster reach its engine and channel; they act at the next tick (R288). -/
def driveThr (t : Fin 16) (s : State) : State :=
  let p := s.alloc.issued[t]
  let s := if thrustLe s t.val ≤ 63 then onEng (thrustLe s t.val) (fun e => { e with spReq := thrustToSp s t.val p.u }) s else s
  let a := azTarget s t.val
  if a ≤ 63 then onEng a (fun e => { e with spReq := p.az.toInt }) s
  else if 0x40 ≤ a && a ≤ 0x4F then
    let counts : Int := (max 1 (wd (bindWords s t.val) 4).toNat : Nat)
    onProf (a - 0x40) (fun x => { x with req := some { vel := false, target := azTargetCounts (profPos s (a - 0x40)) counts p.az } }) s
  else s

/-- Azimuth of a bound target in 2^-16 turn, for command frames outside CONTROL (Table 11-6). -/
def boundAz (s : State) (t : Fin 16) : Nat :=
  let a := azTarget s t.val
  if a ≤ 63 then (ofI (eng s a).u).toNat / 65536
  else if 0x40 ≤ a && a ≤ 0x4F then (angA (rne (profPos s (a - 0x40) * 2 ^ 32) (max 1 (wd (bindWords s t.val) 4).toNat))).toNat / 65536
  else s.loop.canAz[t]

/-- A thruster command frame (Table 11-5, R290). -/
def sendThr (t : Fin 16) (thrust : Int) (az : Nat) (enable : Bool) (s : State) : State :=
  match fin? 6 (bindCan s t.val) with
  | none => s
  | some c =>
    let n := (s.loop.canCounter[t] + 1) % 256
    let s := s.onLoop fun l => { l with
      canCounter := l.canCounter.set t n, canThrust := l.canThrust.set t (clampI (-32768) 32767 thrust), canAz := l.canAz.set t az }
    let id := cmdId s t.val
    let flags := b2n enable + 2 * b2n (!isModuleA s)
    let bytes : List Byte := leBytes 2 (ofI (clampI (-32768) 32767 thrust)).toNat ++ leBytes 2 az ++ leBytes 2 (flags + 256 * n) ++ leBytes 2 0
    queueFn c (.thruster t) { ide := id.1, id := id.2, data := bytes } s

/-- THRUST_CMD of a bound thruster: its engine's output, or the converted setpoint without one. -/
def thrustCmd (s : State) (t : Fin 16) : Int :=
  if thrustLe s t.val ≤ 63 then
    (match leGroup s (thrustLe s t.val) with | some g => (s.loop.group[g]).out | none => (eng s (thrustLe s t.val)).u)
  else thrustToSp s t.val (s.alloc.issued[t]).u

/-- Bound thrusters. -/
def boundThrs (s : State) : List (Fin 16) := (fins 16).filter fun t => bound s t.val

/-- The issue of step 6 in the mode (Tables 1-7, 11-6). -/
def issue (s : State) : State :=
  if !s.sys.own || s.sys.release || s.sys.outputsHeld then s
  else
    match s.sys.mode with
    | .control =>
      if s.dpc.fn = 0 then driveBound false s
      else
        let s := driveBound true s
        let s := (boundThrs s).foldl (fun s t => driveThr t s) s
        (boundThrs s).foldl (fun s t => sendThr t (thrustCmd s t) ((s.alloc.issued[t]).az.toNat / 65536) true s) s
    | .commission =>
      (boundThrs s).foldl (fun s t =>
        let le := decide (thrustLe s t.val ≤ 63)
        sendThr t (if le then thrustCmd s t else 0) (boundAz s t) le s) s
    | .safeHold => (boundThrs s).foldl (fun s t => sendThr t s.loop.canThrust[t] s.loop.canAz[t] true s) s
    | _ => s

/-- ALLOC_STATE (Table 10-15). -/
def allocState (s : State) : List Word :=
  let a := s.alloc
  let kw := fun (k : Fin 4) => satN 0xFFFF (a.secPower[k] / 1000)
  let ret := maskOf (vmap a.thr fun x => x.ret.isSome || (x.out && x.causes == 0))
  let worst := if a.worst = 0 then (0, 0) else (a.worstU, a.worst)
  w64 (s.sys.frame * frameTicks) ++ [ofN s.sys.frame,
    pk [(a.entry, 24), (b2n a.hit, 15), (a.squash, 12), (b2n a.d3Miss, 11), (b2n a.noResult, 10), (b2n a.clamp, 9), (b2n a.aged, 8),
      (b2n a.refined, 7), (b2n a.conseq, 6), (b2n a.nomOver, 5)],
    pk [(ret, 16), (a.avail, 0)]] ++
  (s.dpc.tau.toList.map ofI) ++ (a.slack.toList.map ofI) ++ (a.issued.toList.flatMap fun p => [ofI p.u, p.az]) ++
  [pk [(kw 1, 16), (kw 0, 0)], pk [(kw 3, 16), (kw 2, 0)], pk [(worst.1, 16), (worst.2, 0)], ofN ((a.caDone.map fun c => c.period).getD 0)]

/-- SETPOINT_ISSUE (R21, R22: never later than 9.5 ms): power check and clamp, reported slack, setpoints, HYP_SWITCH, the stream. -/
def execSetpointIssue (s : State) : Host.Outcome State Fault Refusal :=
  .next (
    let s := stepAt 6500 s
    if s.alloc.issuedAt = some s.sys.frame || decide (s.sys.frame * frameTicks + 950000 < s.time.mt) then s
    else
      let s := s.onAlloc fun a => { a with issuedAt := some s.sys.frame }
      let s :=
        if frameWork s && s.dpc.fn != 0 then
          let s := submitBank (cancelDp (fun w => w == .alloc) s)
          let raw := available s
          let (v, high) := clampPower s raw
          let s := s.onAlloc fun a => { a with
            issued := v
            clamp := high.toList.any id
            d3Run := if a.d3Miss then a.d3Run else 0
            secPower := Vector.ofFn fun k => (rne (secPow s v k.val : Nat) (2 ^ 20)).toNat
            slack := vmapI (forceOf s v) fun i f => s.dpc.tau[i] - f }
          let s := setBinding (Vector.ofFn fun k => high[k] || (s.dpc.limit[k].isSome && decide (pLim s k * 2 ^ 20 ≤ secPow s raw k.val))) s
          let s := slackCount s
          if s.alloc.entry != 0xFE then raise 59 (s.alloc.entry * 256 + b2n s.alloc.aged + 2 * b2n s.alloc.refined) s else s
        else s
      let s := issue s
      if frameWork s && streamDue s 0x6A0 then stream 0x6A0 0 (allocState s) s else s)

/-! Failure detection (Table 10-7). -/

/-- NOTREADY_DETECT: the not-ready input at its active level for 20 ms, or the not-ready bit of the feedback (R264). -/
def execNotreadyDetect (t : Fin 16) (s : State) : Host.Outcome State Fault Refusal :=
  .next (if thrConfigured s t.val && (bit (thrW s t.val 10) 5 || (s.alloc.thr[t]).notReady) then detectCause t.val 2 s else s)

/-- The feedback of a thruster is valid now from sources other than its frame. -/
def fbNow (s : State) (t : Nat) : Bool :=
  let l := fbSrcs s t
  !l.contains 0x10 && (l.any fun c => c != 0xFF) && l.all (fbValid s true)

/-- FEEDBACK_TIMEOUT: no valid feedback for FB_TIMEOUT_MS (R264, R290). -/
def execFeedbackTimeout (t : Fin 16) (s : State) : Host.Outcome State Fault Refusal :=
  .next (
    if !thrConfigured s t.val || !bound s t.val || !((fbSrcs s t.val).any fun c => c != 0xFF) || fbNow s t.val then s
    else
      let s := match (s.alloc.thr[t]).fbMt with
        | some m => advanceTo (m + fbTimeoutMs s t.val * msTicks) s
        | none => s
      detectCause t.val 3 s)

/-- A cause that absence clears still stands, as far as the module can see: the not-ready bit, feedback, the section (Table 10-7). -/
def standing (s : State) (t : Fin 16) (c : Nat) : Bool :=
  let x := s.alloc.thr[t]
  match c with
  | 2 => x.notReady
  | 3 => !fbNow s t.val && (match x.fbMt with | some m => decide (m + fbTimeoutMs s t.val * msTicks ≤ s.time.mt) | none => true)
  | 4 => (match fin? 4 (thrSection s t.val) with | some k => s.dpc.secLost[k] | none => false)
  | _ => false

/-- THRUSTER_RETURN_TIMER: causes 2 to 4 absent for RETURN_S clear with AUTO_RETURN 1 (R264). -/
def execThrusterReturnTimer (t : Fin 16) (s : State) : Host.Outcome State Fault Refusal :=
  .next (
    let s := match (s.alloc.thr[t]).absent with
      | some m => advanceTo (m + returnS s * secTicks) s
      | none => s
    if !autoReturn s then s
    else
      let gone := (([2, 3, 4] : List Nat).filter fun c => tb (s.alloc.thr[t]).causes c && !standing s t c).foldl (fun m c => m + 2 ^ c) 0
      s.onAlloc fun a => { a with thr := upd a.thr t fun x => { x with causes := x.causes &&& (0xFFFF ^^^ gone), absent := none } })

/-! Commands. -/

/-- Sector k of an ALLOC_THRUSTER_CONFIG: start and length. -/
def sector (ws : List Word) (i : Nat) : Int × Int := ((wd ws i).toNat, angA ((wd ws (i + 1)).toNat - (wd ws i).toNat))

/-- The first offending word of an ALLOC_THRUSTER_CONFIG (R251). -/
def thrBad (ws : List Word) : Option Nat :=
  let w := fun i => (wd ws i).toNat
  let kind := fld (wd ws 0) 9 8
  let sec := fld (wd ws 0) 15 12
  let rng := fun i lo hi => decide (w i < lo) || decide (hi < w i)
  let s0 := sector ws 11
  let s1 := sector ws 13
  let overlap := decide (s0.2 != 0) && decide (s1.2 != 0) && (decide (angA (s1.1 - s0.1) < s0.2) || decide (angA (s0.1 - s1.1) < s1.2))
  if kind = 3 || (4 ≤ sec && sec != 15) then some 0
  else if rng 3 1000 2000000 then some 3
  else if rng 4 1000 20000000 then some 4
  else if rng 6 0 2000000 then some 6
  else if rng 7 11930465 715827883 then some 7
  else if decide (fld (wd ws 9) 31 16 < 10) || decide (1000 < fld (wd ws 9) 31 16) || decide (fld (wd ws 9) 15 0 < 10) || decide (1000 < fld (wd ws 9) 15 0) then some 9
  else if decide (s0.2 != 0) && (kind == 1 || decide (2 ^ 31 ≤ s0.2)) then some 11
  else if decide (s1.2 != 0) && (kind == 1 || decide (2 ^ 31 ≤ s1.2)) then some 13
  else if overlap then some 13
  else none

/-- ALLOC_THRUSTER_CONFIG (R250, R251). -/
def execAllocThrusterConfig (p : Port) (s : State) : Host.Outcome State Fault Refusal :=
  .next (configRow .allocThrusterConfig p (fun _ ws _ => (thrBad ws).map fun i => (0x6010, i)) s)

/-- ALLOC_CONFIG (Table 10-12). -/
def execAllocConfig (p : Port) (s : State) : Host.Outcome State Fault Refusal := .next (configRow .allocConfig p (fun _ _ _ => none) s)

/-- ALLOC_CONSEQ_CONFIG (R275). -/
def execAllocConseqConfig (p : Port) (s : State) : Host.Outcome State Fault Refusal :=
  .next (configRow .allocConseqConfig p (fun _ ws _ => if fld (wd ws 0) 31 16 ≤ fld (wd ws 1) 15 0 then some (0xF016, 1) else none) s)

/-- Thruster named by a command. -/
def thrOf (c : Cmd) : Fin 16 := Fin.ofNat 16 (fld (wd c.words 0) 3 0)

/-- Thruster t is configured, as set. -/
def thrSet (s : State) (t : Nat) : Bool := !(cfgGet s.cfg.work .allocThrusterConfig t).isEmpty

/-- Cause k bars ALLOC_THRUSTER_ENABLE 1 (R268): it still stands; cause 4 until the power has stood above BUS_LOSS_KW for RETURN_S (Table 10-7). -/
def bars (s : State) (t : Fin 16) (k : Nat) : Bool :=
  tb (s.alloc.thr[t]).causes k && (standing s t k ||
    (k == 4 && match (s.alloc.thr[t]).absent with | some m => decide (s.time.mt < m + returnS s * secTicks) | none => false))

/-- ALLOC_THRUSTER_ENABLE (R268, R275). -/
def execAllocThrusterEnable (p : Port) (s : State) : Host.Outcome State Fault Refusal :=
  .next (runOp .allocThrusterEnable p (fun c s =>
    let t := thrOf c
    if !thrSet s t.val then reject p c 0x6011 t.val s
    else if bit (wd c.words 0) 8 then
      if ([2, 3, 4] : List Nat).any (bars s t) then reject p c 0x6012 ((s.alloc.thr[t]).causes % 64) s
      else ok p c 0 [] (s.onAlloc fun a => { a with thr := upd a.thr t fun x => { x with causes := 0, absent := none } })
    else ok p c 0 [] (detectCause t.val 5 s)) s)

/-- Word 1 + i of Table 10-13. -/
def thrStatusWord (s : State) (t : Fin 16) : Word :=
  let x := s.alloc.thr[t]
  let st := if !thrConfigured s t.val then 0 else if x.causes != 0 then 2 else if x.out || x.ret.isSome then 3 else 1
  pk [(x.causes / 2 % 32, 17), (st, 6), (if thrConfigured s t.val then thrSection s t.val else 15, 0)]

/-- ALLOC_THRUSTER_STATUS (Table 18-13). -/
def execAllocThrusterStatus (p : Port) (s : State) : Host.Outcome State Fault Refusal :=
  .next (runOp .allocThrusterStatus p (fun c s =>
    let t := thrOf c
    if !thrConfigured s t.val then reject p c 0x6011 t.val s
    else ok p c 0 (thrWords s t.val ++ [thrStatusWord s t]) s) s)

/-- ALLOC_STATUS (Table 10-13). -/
def execAllocStatus (p : Port) (s : State) : Host.Outcome State Fault Refusal :=
  .next (runOp .allocStatus p (fun c s =>
    ok p c 0 ((fins 16).map (thrStatusWord s) ++ [ofN s.alloc.nHit, ofN s.alloc.nSquash, ofN s.alloc.nD3, ofN s.alloc.nSwitch]) s) s)

/-- ALLOC_ENVELOPE_READ (Table 10-14); the U of a configuration that does not apply is free. -/
def execAllocEnvelopeRead (p : Port) (s : State) : Host.Outcome State Fault Refusal :=
  .next (runOp .allocEnvelopeRead p (fun c s =>
    let k := fld (wd c.words 0) 4 0
    match s.alloc.caDone with
    | none => finish p c.tag 0 0x6013 k [] s
    | some r =>
      let l := (List.range 72).map fun j => caLam r k j
      let na := !tb r.mask k
      let st := if na then 1 else if l.contains 0xFFFFFFFF then 2 else 0
      let u := if na then (Config.freeInt s.free % 65536).toNat else r.u.getD k 0
      let ws := [pk [(u, 16), (st, 8), (k, 0)]] ++ w64 r.start ++ [r.theta0, ofI r.rho, ofN r.dxy, ofN r.period] ++
        l.map fun x => if na then 0xFFFFFFFF else ofN x
      ok p c 0 ws (if na then drawn s else s)) s)

/-- ALLOC_STATE_STREAM (Table 10-11). -/
def execAllocStateStream (p : Port) (s : State) : Host.Outcome State Fault Refusal :=
  .next (runOp .allocStateStream p (fun c s => ok p c 0 [] (subscribe 0x6A0 0 p (fld (wd c.words 0) 7 0) 0 s)) s)

end Sys2Proof.Machine
end

