-- ==== Sys2Proof/Machine/Flags.lean ====
section
/-! DEFINITION. The status bits, levels and interrupt lines that the direct registers of the host port show (2.11, R64, R404), the output drivers of R31, and what every access shares. The read of the whole window, which needs the calendar, is regRead in Time.lean. -/

namespace Sys2Proof.Machine

/-- RST_CAUSE code (Table 3-6). -/
def causeCode : RstCause → Nat
  | .powerOn => 0 | .rstN => 1 | .watchdog => 2 | .kiln => 3 | .sysReset => 4

/-- HP_STAT (Table 2-12). -/
def hpStat (s : State) : Word :=
  pk [(b2n s.hp.ready, 31), (modeCode s.sys.mode, 28), (b2n s.sys.own, 27), (b2n s.hp.maintEn, 26), (b2n s.hp.rstSeen, 19),
    (causeCode s.hp.rstCause, 16), (b2n s.hp.wakeRej, 9), (b2n s.hp.busErr, 8), (b2n s.hp.rqUe, 7), (b2n s.hp.rqUnder, 6),
    (b2n s.hp.cqFlush, 5), (b2n (s.host.wrLeft == 0), 4), (b2n (s.host.rspLeft == 0 && !s.host.rspq.isEmpty), 3),
    (b2n s.host.rspq.isEmpty, 2), (b2n (queueWords ≤ s.host.cmdq.length), 1), (b2n s.host.cmdq.isEmpty, 0)]

/-- HP_CQ_LVL (Table 2-14). -/
def hpCqLvl (s : State) : Word := pk [(queueWords - s.host.cmdq.length, 16), (s.host.cmdq.length, 0)]

/-- HP_RQ_LVL (Table 2-14). -/
def hpRqLvl (s : State) : Word := pk [(s.host.rspLeft, 16), (s.host.rspq.length, 0)]

/-- HP_ECC (Table 2-15). -/
def hpEcc (c : EccCounts) : Word := pk [(c.cqUe, 24), (c.rqUe, 16), (c.cqCe, 8), (c.rqCe, 0)]

/-- HP_IRQn (Table 2-17). -/
def hpIrq (s : State) (n : Fin 4) : Word :=
  ofN (((List.finRange 32).map fun b => if (s.ev.src.toList.getD (32 * n.val + b.val) {}).pend then 2 ^ b.val else 0).sum)

/-- HP_IMSKn (Table 2-17). -/
def hpImsk (s : State) (n : Fin 4) : Word :=
  ofN (((List.finRange 32).map fun b => if (s.ev.src.toList.getD (32 * n.val + b.val) {}).mask then 2 ^ b.val else 0).sum)

/-- IRQ0_N (line 1) or IRQ1_N (line 2) is low: some source routed to it is pending and enabled (R64, R404). -/
def irqLow (line : Nat) (s : State) : Bool := s.ev.src.toList.any fun x => x.pend && x.mask && x.line == line

/-- The host port answers: it lies in PD1, which is powered whenever VMAIN is present (R31). DESIGN CHOICE, log entry 62: it also answers while RST_N is low or a warm reset waits for step 4. -/
def portUp (s : State) : Bool := s.sys.vmain

/-- The access is acknowledged (R33). -/
def ack (s : State) : State := s.onHp fun h => { h with acked := true }

/-- A W1C bit after a clearing write: v is the word written, d the bits that the module sets during the access; such a bit remains set, so that no occurrence is lost (R7). -/
def w1c (old : Bool) (v d : Word) (i : Nat) : Bool := (old && !bit v i) || bit d i

/-- Index of a word address within a run of n registers from base. -/
def regIdx (n base a : Nat) : Option (Fin n) := if base ≤ a then fin? n (a - base) else none

/-- How a push-pull line is driven. -/
inductive Drive where | highZ | low | high
  deriving DecidableEq, Repr

/-- An active-low output of the host port: high-impedance until PD1 has left reset (R31). -/
def hpLine (active : Bool) (s : State) : Drive := if portUp s then (if active then .low else .high) else .highZ

/-- ACK_N as the last access left it, and IRQ0_N (line 1) or IRQ1_N (line 2) (R31, R33, R64). -/
def ackLine (s : State) : Drive := hpLine s.hp.acked s
def irqLine (line : Nat) (s : State) : Drive := hpLine (irqLow line s) s

/-- HP_ID (Table 2-11). -/
def hpId : Word := pk [(0x7604, 16), (Config.issue.toNat, 8), (1, 0)]

end Sys2Proof.Machine
end

