-- ==== Sys2Proof/Machine/Kiln.lean ====
section
/-! DEFINITION. The Kiln safety die: inputs, channels, output tests, safe data, configuration, commands (chapter 12). -/

namespace Sys2Proof.Machine

/-- Ticks of one microsecond. -/
def usTicks : Nat := 100

/-- The copy in use. -/
def kCopy (k : KilnState) : KCopy := k.copies[k.inUse]

/-- Word i of the configuration in use (Table 12-10). -/
def kw (k : KilnState) (i : Nat) : Word := wd (kCopy k).words i

def kSdEnable (k : KilnState) : Bool := bit (kw k 0) 0
def kResetSi (k : KilnState) : Nat := fld (kw k 0) 23 16
def kInMask (k : KilnState) (n : Fin 8) : Nat := fld (kw k (2 + n.val)) 31 16
def kSdUse (k : KilnState) (n : Fin 8) : Bool := bit (kw k (2 + n.val)) 15
def kSdBit (k : KilnState) (n : Fin 8) : Nat := fld (kw k (2 + n.val)) 14 11
def kCdGate (k : KilnState) (n : Fin 8) : Bool := bit (kw k (2 + n.val)) 10
def kManual (k : KilnState) (n : Fin 8) : Bool := bit (kw k (2 + n.val)) 9
def kEnable (k : KilnState) (n : Fin 8) : Bool := bit (kw k (2 + n.val)) 8
def kPairMode (k : KilnState) (j : Fin 8) : Nat := fld (kw k (10 + j.val)) 1 0
def kSdDegMs (k : KilnState) : Nat := fld (kw k 18) 31 16
def kSdMs (k : KilnState) : Nat := fld (kw k 18) 15 0
def kTpUs (k : KilnState) : Nat := fld (kw k 20) 15 0
def kFbEnable (k : KilnState) (n : Fin 8) : Bool := bit (kw k (21 + n.val)) 16
def kFbMs (k : KilnState) (n : Fin 8) : Nat := fld (kw k (21 + n.val)) 15 0
def kDiscMs (k : KilnState) (j : Fin 8) : Nat := fld (kw k (29 + j.val)) 31 16

/-- A Kiln event starts towards the control die (R322). -/
def kEv (src detail : Nat) (k : KilnState) : KilnState := { k with evq := k.evq ++ [{ src := src, detail := detail }] }

/-- Table 12-2 and 12-5 codes. -/
def kilnCode : KilnSt → Nat
  | .off => 0 | .startTest => 1 | .run => 2 | .config => 3 | .recovery => 4 | .fault => 5
def chCode : ChSt → Nat
  | .disabled => 0 | .applied => 1 | .released => 2 | .test => 3 | .fault => 4

/-- The filtered levels of pair j. -/
def kA (k : KilnState) (j : Fin 8) : Bool := k.filt.toList.getD (2 * j.val) false
def kB (k : KilnState) (j : Fin 8) : Bool := k.filt.toList.getD (2 * j.val + 1) false

/-- Table 12-4: demands of the first and second input; a dual pair has one. -/
def pairDemand (mode : Nat) (a b : Bool) : Bool × Bool :=
  match mode with
  | 1 => (!a || !b, !a || !b)
  | 2 => (!a || b, !a || b)
  | _ => (!a, !b)

/-- Table 12-4: discrepancy. -/
def pairDisc (mode : Nat) (a b : Bool) : Bool :=
  match mode with
  | 1 => a != b
  | 2 => a == b
  | _ => false

/-- Both inputs in the demand state (R305). -/
def pairBoth (mode : Nat) (a b : Bool) : Bool :=
  match mode with
  | 1 => !a && !b
  | 2 => !a && b
  | _ => false

/-- Pair j follows its inputs (R305); each change of demand raises SI_DEMAND (EV99). -/
def evalPair (now : Nat) (k : KilnState) (j : Fin 8) : KilnState :=
  let m := kPairMode k j
  let p := k.pair[j]
  let (d0, d1) := pairDemand m (kA k j) (kB k j)
  let d0 := d0 || p.fault
  let d1 := d1 || p.fault
  let k' := { k with pair := k.pair.set j { p with
    dem0 := d0, dem1 := d1
    bothSeen := p.fault && (p.bothSeen || pairBoth m (kA k j) (kB k j))
    discSince := if pairDisc m (kA k j) (kB k j) then some (p.discSince.getD now) else none } }
  let k' := if p.dem0 != d0 then kEv 99 (j.val * 256 + b2n d0) k' else k'
  if m = 0 && p.dem1 != d1 then kEv 99 (j.val * 256 + b2n d1) k' else k'

/-- R308.1: a mapped input or pair is in demand or in PAIR_FAULT. -/
def chDemand (k : KilnState) (n : Fin 8) : Bool :=
  (fins 16).any fun i => tb (kInMask k n) i.val &&
    (match fin? 8 (i.val / 2) with
      | some j => k.pair[j].fault || (if i.val % 2 = 0 then k.pair[j].dem0 else k.pair[j].dem1) ||
          (kPairMode k j != 0 && (k.pair[j].dem0 || k.pair[j].dem1))
      | none => false)

/-- R315: the control-die request for channel n is present and consistent. -/
def cdRequest (now : Nat) (k : KilnState) (n : Nat) : Bool :=
  !k.cdBad && (fins 2).all fun p => match k.path[p] with
    | some (m, t) => m.getLsbD n && now - t ≤ 300 * usTicks
    | none => false

/-- R308 conditions 1 to 3. -/
def chCond (now : Nat) (k : KilnState) (n : Fin 8) : Bool :=
  !chDemand k n && (!kSdUse k n || k.sd.permit.getLsbD (kSdBit k n)) && (!kCdGate k n || cdRequest now k n.val)

/-- A change of a channel's state (EV97). -/
def setCh (n : Fin 8) (st : ChSt) (f : KChan → KChan) (k : KilnState) : KilnState :=
  kEv 97 (n.val * 256 + chCode st) { k with ch := upd k.ch n fun c => { f c with st := st } }

/-- Channel n follows its conditions (R308, R309, R311). -/
def evalCh (now : Nat) (k : KilnState) (n : Fin 8) : KilnState :=
  let c := k.ch[n]
  let low := fun c : KChan => { c with outA := false, outB := false, pulse := none, relSince := none, switched := now }
  if !kEnable k n then
    if c.st = .disabled then k else setCh n .disabled low k
  else if c.st = .fault then k
  else
    let cond := k.st == .run && chCond now k n
    let okR := c.resetOk && cond
    let wait := k.st == .run && kManual k n && cond && !okR
    let k := { k with ch := upd k.ch n fun c => { c with resetOk := okR, waiting := wait } }
    let k := if wait && !c.waiting then kEv 107 (n.val * 256 + 1) k else k
    let release := cond && (!kManual k n || okR)
    match c.st with
    | .released => if release then k else setCh n .applied low k
    | .test =>
      if release then k
      else
        let k := setCh n .applied (fun c => { low c with nInc := satN 255 (c.nInc + 1) }) k
        kEv 101 (n.val * 256 + b2n (c.pulse.getD false)) k
    | .applied =>
      if release then setCh n .released (fun c => { c with outA := true, outB := true, relSince := some now, switched := now }) k else k
    | _ => setCh n .applied low k

/-- Pairs, then channels, follow their causes. -/
def evalKiln (now : Nat) (k : KilnState) : KilnState :=
  let k := (fins 8).foldl (evalPair now) k
  (fins 8).foldl (evalCh now) k

/-- The Kiln changes state (EV96); outside RUN every output is low. -/
def setKiln (now : Nat) (st : KilnSt) (cause : Nat) (k : KilnState) : KilnState :=
  evalKiln now (kEv 96 (kilnCode st * 256 + cause) { k with st := st, fault := cause })

/-- A Kiln fault (Table 12-7): every output low; the first cause stands. -/
def kilnFault (now cause : Nat) (k : KilnState) : KilnState :=
  if k.st = .off || k.st = .fault then k else setKiln now .fault cause k

/-- A channel fault (Table 12-7): both outputs low, latched (EV97, EV98). -/
def chFault (now : Nat) (n : Fin 8) (cause : Nat) (k : KilnState) : KilnState :=
  if k.ch[n].st = .fault || k.ch[n].st = .disabled then k
  else
    kEv 98 (n.val * 256 + cause) (setCh n .fault (fun c =>
      { c with fault := cause, outA := false, outB := false, pulse := none, relSince := none, switched := now, resetOk := false }) k)

/-- A reset under R307: it acts on pairs and channels whose causes are gone. A manual restart needs a reset after its other conditions have become true (R308), so the one that ends a fault does not count as it. -/
def kilnReset (now : Nat) (k : KilnState) : KilnState :=
  let old := k
  let k := (fins 8).foldl (fun k j =>
    if k.pair[j].fault && k.pair[j].bothSeen && !pairDisc (kPairMode k j) (kA k j) (kB k j) then
      kEv 100 (j.val * 256) { k with pair := upd k.pair j fun p => { p with fault := false, bothSeen := false } }
    else k) k
  let k := (fins 8).foldl (evalPair now) k
  let k := (fins 8).foldl (fun k n =>
    let c := k.ch[n]
    let gone := if c.fault = 3 || c.fault = 4 then !c.rba && !c.rbb else c.fba && c.fbb
    if c.st = .fault && gone then setCh n .applied (fun c => { c with fault := 0 }) k else k) k
  let k := (fins 8).foldl (fun k n =>
    let c := k.ch[n]
    if kEnable k n && (old.ch[n]).st != .fault && chCond now old n && kManual k n then
      let k := { k with ch := upd k.ch n fun c => { c with resetOk := true, waiting := false } }
      if c.waiting then kEv 107 (n.val * 256) k else k
    else k) k
  (fins 8).foldl (evalCh now) k

/-- RUN begins: every enabled channel starts APPLIED, one in FAULT included, and safe data starts anew (R316, R320, Table 12-2). -/
def enterRun (now : Nat) (k : KilnState) : KilnState :=
  let k := { k with
    sd := { k.sd with st := if kSdEnable k then 1 else 0, lastSeq := none, wins := [], permit := 0, accAt := now, fullAt := now, run := 0, why := 0 }
    ch := vmap k.ch fun c => { c with resetOk := false, waiting := false, fault := 0, outA := false, outB := false } }
  let k := (fins 8).foldl (fun k n =>
    let st := if kEnable k n then ChSt.applied else ChSt.disabled
    if k.ch[n].st = st then k else setCh n st id k) k
  setKiln now .run 0 k

/-- A Kiln step: its events reach the control die only while that is not in reset (R322). -/
def kilnStep (f : Nat → KilnState → KilnState) (s : State) : State :=
  s.onKiln fun k => let k' := f s.time.now k; if s.hp.ready then k' else { k' with evq := k.evq }

/-- The valid copy of the higher generation, copy 0 when equal (12.8). -/
def kBest (k : KilnState) : Fin 2 :=
  if k.copies[(1 : Fin 2)].valid && (!k.copies[(0 : Fin 2)].valid || k.copies[(0 : Fin 2)].gen < k.copies[(1 : Fin 2)].gen) then 1 else 0

/-- VKILN_RISE (R304): START_TEST; the counters restart (12.10). -/
def execVkilnRise (s : State) : Host.Outcome State Fault Refusal :=
  .next (kilnStep (fun now k =>
    if k.vkiln then k
    else
      let k := { k with vkiln := true, inUse := kBest k
                        ch := vmap k.ch fun c => { c with nInc := 0, nPass := 0, st := .disabled, fault := 0 }
                        pair := Vector.replicate 8 {}
                        sd := {} }
      setKiln now .startTest 0 k) s)

/-- VKILN_LOSS (R304, R319, R321): OFF, every output low; a write in progress leaves its copy invalid. -/
def execVkilnLoss (s : State) : Host.Outcome State Fault Refusal :=
  let cmd := match s.kiln.write with | some w => w.cmd | none => none
  let s := kilnStep (fun now k =>
    let k := match k.write with
      | some w => { k with copies := upd k.copies w.target fun c => { c with valid := false }, interrupted := true, write := none }
      | none => k
    let k := { k with vkiln := false, staged := none, path := Vector.replicate 2 none, cdBadSince := none, cdBad := false, sd := {} }
    let k := { k with ch := vmap k.ch fun c => if c.st = .fault then { c with st := .applied, fault := 0 } else c }
    setKiln now .off 0 k) s
  .next (match cmd with
    | some (p, tag) => finish p tag 0 0x9013 2 [] s
    | none => s)

/-- The start-up test ends (R304, Table 12-3): RUN, or FAULT of cause 4 (3 when no copy is valid). -/
def startTestEnd (pass : Bool) (now : Nat) (k : KilnState) : KilnState :=
  if k.st != .startTest then k
  else if !(kCopy k).valid then kilnFault now 3 k
  else if pass then enterRun now k else kilnFault now 4 k

/-- KILN_START_TEST_COMPLETE (R304, Table 12-3): RUN, or FAULT of cause 4 (3 when no copy is valid). -/
def execKilnStartTestComplete (pass : Bool) (s : State) : Host.Outcome State Fault Refusal :=
  .next (kilnStep (startTestEnd pass) s)

/-- SAFE_INPUT_CHANGE (R305, R306, R308, R311): the level has passed the filter in force; in OFF there is the land alone. -/
def execSafeInputChange (i : Fin 16) (level : Bool) (s : State) : Host.Outcome State Fault Refusal :=
  .next (kilnStep (fun now k =>
    let k := { k with si := k.si.set i level, filt := k.filt.set i level }
    if k.st = .off then k else evalKiln now k) s)

/-- PAIR_DISCREPANCY_TIMEOUT (R305). -/
def execPairDiscrepancyTimeout (j : Fin 8) (s : State) : Host.Outcome State Fault Refusal :=
  .next (match s.kiln.pair[j].discSince with
    | none => s
    | some t =>
      kilnStep (fun now k =>
        if k.pair[j].fault || k.st == .off then k
        else evalKiln now (kEv 100 (j.val * 256 + 1) { k with pair := upd k.pair j fun p => { p with fault := true } }))
        (advanceNow (t + kDiscMs s.kiln j * msTicks) s))

/-- KILN_RESET_INPUT (R307): the fall of RESET_SI after 100 ms to 5 s high. -/
def execKilnResetInput (highMs : Nat) (s : State) : Host.Outcome State Fault Refusal :=
  .next (if kResetSi s.kiln < 16 && 100 ≤ highMs && highMs ≤ 5000 && s.kiln.st == .run then kilnStep kilnReset s else s)

/-- KILN_CHANNEL_COMPARE_FAULT (R301, Table 12-7 cause 1). -/
def execKilnChannelCompareFault (s : State) : Host.Outcome State Fault Refusal := .next (kilnStep (fun now => kilnFault now 1) s)

/-- A count of a 50 MHz ring over 1 ms lies within 10 % (Table 12-3 row 2). -/
def ringOk (n : Nat) : Bool := 45000 ≤ n && n ≤ 55000

/-- KILN_RING_CROSS_CHECK (R301, cause 2). -/
def execKilnRingCrossCheck (k1 k2 : Nat) (s : State) : Host.Outcome State Fault Refusal :=
  .next (if ringOk k1 && ringOk k2 then s else kilnStep (fun now => kilnFault now 2) s)

/-- KILN_CONFIG_CRC_CHECK (R301, Table 12-3 row 3, cause 3): the copy in use is no longer valid. -/
def execKilnConfigCrcCheck (ok : Bool) (s : State) : Host.Outcome State Fault Refusal :=
  .next (if ok || s.kiln.st == .off then s
    else kilnStep (fun now k => kilnFault now 3 { k with copies := upd k.copies k.inUse fun c => { c with valid := false } }) s)

/-- KILN_RECOVERY_END (R320, Table 12-2). -/
def execKilnRecoveryEnd (pass : Bool) (s : State) : Host.Outcome State Fault Refusal :=
  .next (kilnStep (fun now k => if k.st != .recovery then k else if pass then enterRun now k else kilnFault now 4 k) s)

/-- OUTPUT_TEST_SLOT (R310): output A of channel n has slot 2n, output B slot 2n + 1. -/
def execOutputTestSlot (slot : Fin 16) (s : State) : Host.Outcome State Fault Refusal :=
  .next (match fin? 8 (slot.val / 2) with
    | none => s
    | some n =>
      let b := slot.val % 2 == 1
      kilnStep (fun now k =>
        let c := k.ch[n]
        let due := match c.relSince with | some t => t + secTicks ≤ now | none => false
        if k.st == .run && c.st == .released && due then
          setCh n .test (fun c => { c with outA := c.outA && b, outB := c.outB && !b, pulse := some b, switched := now, forcedTill := some (now + (kTpUs k + 100) * usTicks) }) k
        else k) s)

/-- TEST_PULSE_END (R310, R312, Table 12-7 causes 4 and 5). -/
def execTestPulseEnd (slot : Fin 16) (readbackOk mirrorOpen : Bool) (s : State) : Host.Outcome State Fault Refusal :=
  .next (match fin? 8 (slot.val / 2) with
    | none => s
    | some n =>
      let b := slot.val % 2 == 1
      if s.kiln.ch[n].st != .test || s.kiln.ch[n].pulse != some b then s
      else
        let s := advanceNow (s.kiln.ch[n].forcedTill.getD 0 - 100 * usTicks) s
        kilnStep (fun now k =>
          if !mirrorOpen then chFault now n 5 k
          else if !readbackOk then chFault now n 4 k
          else setCh n .released (fun c => { c with outA := true, outB := true, pulse := none, switched := now, nPass := satN 255 (c.nPass + 1) }) k) s)

/-- READBACK_FAULT (R312, cause 3): a readback has contradicted its output for 10 us outside its pulse and 100 us after the last switching. -/
def execReadbackFault (n : Fin 8) (outB level : Bool) (s : State) : Host.Outcome State Fault Refusal :=
  .next (kilnStep (fun now k =>
    let k := { k with ch := upd k.ch n fun c => if outB then { c with rbb := level } else { c with rba := level } }
    let c := k.ch[n]
    let out := if outB then c.outB else c.outA
    let settled := c.switched + 100 * usTicks ≤ now
    if out != level && settled && c.pulse != some outB && k.st == .run then chFault now n 3 k else k) s)

/-- FEEDBACK_CHECK_TIMEOUT (R309, causes 1 and 2): the mirror contacts FB_TIME_MS after a change, or their disagreement for FB_TIME_MS. A closed contact belongs to an applied channel. -/
def execFeedbackCheckTimeout (n : Fin 8) (fba fbb : Bool) (s : State) : Host.Outcome State Fault Refusal :=
  let due := s.kiln.ch[n].switched + kFbMs s.kiln n * msTicks
  let late := due ≤ s.time.now
  .next (kilnStep (fun now k =>
    let k := { k with ch := upd k.ch n fun c => { c with fba := fba, fbb := fbb } }
    let c := k.ch[n]
    let want := c.st != .released && c.st != .test
    if k.st == .run && kEnable k n && kFbEnable k n && c.st != .fault && (fba != want || fbb != want) then
      chFault now n (if late && fba != fbb then 2 else 1) k
    else k) (advanceNow due s))

/-- R315: the words of the two paths are compared. -/
def cdCompare (now : Nat) (bad : Bool) (k : KilnState) : KilnState :=
  let differ := match k.path[(0 : Fin 2)], k.path[(1 : Fin 2)] with
    | some (a, _), some (b, _) => a != b
    | _, _ => false
  if bad || differ then { k with cdBadSince := some (k.cdBadSince.getD now) }
  else { k with cdBadSince := none, cdBad := false }

/-- KILN_REQUEST_WORD (R308, R315): a word of one path, its mask and complement; a Kiln in OFF takes none. -/
def execKilnRequestWord (path : Fin 2) (mask comp : Byte) (s : State) : Host.Outcome State Fault Refusal :=
  let good := comp == ~~~mask
  .next (kilnStep (fun now k =>
    if k.st = .off then k
    else
      let k := if good then { k with path := k.path.set path (some (mask, now)) } else k
      evalKiln now (cdCompare now (!good) k)) s)

/-- KILN_REQUEST_STALE (R315): 300 us without a well-formed word. -/
def execKilnRequestStale (path : Fin 2) (s : State) : Host.Outcome State Fault Refusal :=
  .next (match s.kiln.path[path] with
    | none => s
    | some (_, t) => kilnStep (fun now k => evalKiln now { k with path := k.path.set path none }) (advanceNow (t + 300 * usTicks + 1) s))

/-! Safe data (12.7). -/

/-- R316: a copy is well-formed. -/
def sdValid (k : KilnState) (bs : List Byte) : Bool :=
  bs.length == 16 && bs.getD 2 0 == 1 && bs.getD 3 0 == 0 &&
  bs.getD 6 0 == ~~~(bs.getD 4 0) && bs.getD 7 0 == ~~~(bs.getD 5 0) &&
  ((bs.drop 8).take 4).all (· == 0) && ofLe (bs.drop 12) == (crc32Init (kw k 19) (bs.take 12)).toNat

/-- R316: SEQ is 1 to 8 ahead of the last accepted one. -/
def sdAhead (k : KilnState) (seq : Nat) : Bool :=
  match k.sd.lastSeq with
  | none => true
  | some l => let d := (seq + 65536 - l) % 65536; 1 ≤ d && d ≤ 8

/-- SD_REACTION is entered (R318): why 1 timeout, 2 degraded timeout. -/
def sdReact (now why : Nat) (k : KilnState) : KilnState :=
  if k.sd.st = 3 || k.sd.st = 0 then k
  else
    let k := if k.sd.st = 2 then kEv 102 (k.sd.missing * 256) k else k
    evalKiln now (kEv 103 (why * 256 + 1) { k with sd := { k.sd with st := 3, permit := 0, run := 0, why := why, lastSeq := none, wins := [] } })

/-- A SEQ is accepted (Table 12-9, R317, R318): an open window that it overtakes closes, since its SEQ is no longer ahead (R316). -/
def sdAccept (now : Nat) (o : SdOpen) (full : Bool) (k : KilnState) : KilnState :=
  let permit := BitVec.ofNat 16 (ofLe ((o.bytes.drop 4).take 2))
  let k := { k with sd := { k.sd with
    lastSeq := some o.seq, accAt := now, fullAt := if full then now else k.sd.fullAt
    nDegraded := if full then k.sd.nDegraded else satN 0xFFFF (k.sd.nDegraded + 1) } }
  let k := { k with sd := { k.sd with wins := k.sd.wins.filter fun w => sdAhead k w.seq } }
  if k.sd.st = 3 then
    let run := if full then k.sd.run + 1 else 0
    if 3 ≤ run then
      evalKiln now (kEv 103 (k.sd.why * 256) { k with sd := { k.sd with st := 1, run := 0, permit := permit } })
    else { k with sd := { k.sd with run := run } }
  else if full then
    let k' := { k with sd := { k.sd with st := 1, permit := permit } }
    evalKiln now (if k.sd.st = 2 then kEv 102 (k.sd.missing * 256) k' else k')
  else if kSdDegMs k = 0 then sdReact now 2 k
  else
    let miss := if o.bus4 then 3 else 4
    let k' := { k with sd := { k.sd with st := 2, permit := permit, missing := miss } }
    evalKiln now (if k.sd.st = 1 then kEv 102 (miss * 256 + 1) k' else k')

/-- SD_TELEGRAM_COPY (R316, R317, Table 12-9). -/
def sdCopy (bus4 : Bool) (bs : List Byte) (now : Nat) (k : KilnState) : KilnState :=
  if !kSdEnable k || k.st != .run then k
  else
    let seq := ofLe (bs.take 2)
    let discard := { k with sd := { k.sd with nDiscard := satN 0xFFFF (k.sd.nDiscard + 1) } }
    if !sdValid k bs then discard
    else match k.sd.wins.find? fun w => w.seq == seq with
      | some w =>
        if w.bytes = bs then sdAccept now w true k
        else
          let k' := { k with sd := { k.sd with wins := k.sd.wins.filter (fun w => w.seq != seq), nMismatch := satN 0xFFFF (k.sd.nMismatch + 1) } }
          let again := match k.sd.mismatchAt with | some t => decide (t + secTicks ≤ now) | none => true
          if again then kEv 104 seq { k' with sd := { k'.sd with mismatchAt := some now } } else k'
      | none =>
        if !sdAhead k seq then discard
        else
          let permit := BitVec.ofNat 16 (ofLe ((bs.drop 4).take 2))
          evalKiln now { k with sd := { k.sd with
            wins := k.sd.wins ++ [{ seq := seq, bytes := bs, bus4 := bus4, since := now }]
            permit := k.sd.permit &&& permit } }

def execSdTelegramCopy (bus4 : Bool) (bytes : List Byte) (s : State) : Host.Outcome State Fault Refusal :=
  .next (kilnStep (sdCopy bus4 bytes) s)

/-- SD_WINDOW_END (R316, R317): the oldest open window reaches 5 ms without a second copy. -/
def execSdWindowEnd (s : State) : Host.Outcome State Fault Refusal :=
  .next (match s.kiln.sd.wins with
    | [] => s
    | w :: _ => kilnStep (fun now k => sdAccept now w false k) (advanceNow (w.since + 5 * msTicks) s))

/-- SD_TIMEOUT (R318). -/
def execSdTimeout (s : State) : Host.Outcome State Fault Refusal :=
  .next (if kSdEnable s.kiln && s.kiln.st == .run && s.kiln.sd.st != 3 then
      kilnStep (fun now => sdReact now 1) (advanceNow (s.kiln.sd.accAt + kSdMs s.kiln * msTicks) s)
    else s)

/-- SD_DEGRADED_TIMEOUT (R318). -/
def execSdDegradedTimeout (s : State) : Host.Outcome State Fault Refusal :=
  .next (if kSdEnable s.kiln && s.kiln.st == .run && s.kiln.sd.st == 2 && kSdDegMs s.kiln != 0 then
      kilnStep (fun now => sdReact now 2) (advanceNow (s.kiln.sd.fullAt + kSdDegMs s.kiln * msTicks) s)
    else s)

/-- KILN_STAGE_EXPIRY (R319): 60 s after the command. -/
def execKilnStageExpiry (s : State) : Host.Outcome State Fault Refusal :=
  .next (match s.kiln.staged with
    | some (_, t) => (advanceNow (t + 60 * secTicks) s).onKiln fun k => { k with staged := none }
    | none => s)

/-- A mode change discards the staged image (R319). -/
def kilnUnstage (s : State) : State := s.onKiln fun k => { k with staged := none }

/-- KILN_WRITE_COMPLETE (R320, R321, R386): the copy is in use, or the previous one stands and the Kiln is in FAULT of cause 3. A Kiln that has gone to FAULT meanwhile stays there; over a link that is down no result arrives. -/
def execKilnWriteComplete (readbackOk : Bool) (s : State) : Host.Outcome State Fault Refusal :=
  .next (match s.kiln.write with
    | none => s
    | some w =>
      let before := crc32 (kCopy s.kiln).words
      let s := kilnStep (fun now k =>
        let k := { k with write := none, copies := k.copies.set w.target { gen := w.gen, words := w.words, valid := readbackOk } }
        if readbackOk then
          let k := kEv 106 (w.gen % 65536) { k with inUse := w.target }
          if k.st = .config then setKiln now .recovery 0 k else k
        else kilnFault now 3 k) s
      let s := match w.cmd, readbackOk && s.sys.kilnLink with
        | some (p, tag), true => changeRecord p tag .kilnConfirm 0 before (crc32 w.words) false s
        | _, _ => s
      match w.cmd with
      | some (p, tag) => if !s.sys.kilnLink then finish p tag 0 0x9013 2 [] s else if readbackOk then finish p tag 0 0 (w.gen % 65536) [] s else finish p tag 0 0x9013 1 [] s
      | none => s)

/-- KILN_STATE_ARRIVAL (R322, R403): the oldest Kiln event reaches the event logic. -/
def execKilnStateArrival (s : State) : Host.Outcome State Fault Refusal :=
  .next (match s.kiln.evq with
    | [] => s
    | e :: rest =>
      let s := s.onKiln fun k => { k with evq := rest }
      match fin? 128 e.src with
      | some n => raise n e.detail s
      | none => s)

/-! Commands (12.8, 12.10). -/

/-- The Kiln can be reached: its link works and it is not off (R11, R13, 12.10). -/
def kilnUp (s : State) : Bool := s.sys.kilnLink && s.kiln.st != .off

/-- A command that needs the Kiln while its link is down, or the Kiln off, ends with the link-down status (R11, 12.10). -/
def needKiln (p : Port) (c : Cmd) (body : State → State) (s : State) : State :=
  if kilnUp s then body s else finish p c.tag 0 0x9015 0 [] s

/-- R319: the first word of an image that is not acceptable. -/
def kilnBad (ws : List Word) : Option Nat :=
  let sdOn := bit (wd ws 0) 0
  let rs := fld (wd ws 0) 23 16
  let dual := fun j => fld (wd ws (10 + j)) 1 0 != 0
  (List.range 37).find? fun i =>
    let x := wd ws i
    if i = 0 then 16 ≤ rs && rs != 0xFF || (rs < 16 && (dual (rs / 2) || (List.range 8).any fun n => tb (fld (wd ws (2 + n)) 31 16) rs))
    else if 2 ≤ i && i ≤ 9 then
      (bit x 15 && !sdOn) || (bit x 8 && fld x 31 16 == 0 && !bit x 15 && !bit x 10)
    else if 10 ≤ i && i ≤ 17 then fld x 1 0 == 3
    else if i = 18 then fld x 15 0 < 20 || 10000 < fld x 15 0
    else if i = 20 then fld x 15 0 < 150 || 400 < fld x 15 0
    else if 21 ≤ i && i ≤ 28 then fld x 15 0 < 10 || 1000 < fld x 15 0
    else if 29 ≤ i then fld x 31 16 < 10 || 2000 < fld x 31 16 || 20000 < fld x 15 0
    else false

/-- KILN_CONFIG (R319): stages an image, and replies with it and its CRC. -/
def execKilnConfig (p : Port) (s : State) : Host.Outcome State Fault Refusal :=
  .next (runOp .kilnConfig p (fun c => needKiln p c fun s =>
    let ws := expertWords .kilnConfig c.expert c.words
    if s.kiln.st != .run && !(s.kiln.st == .fault && s.kiln.fault == 3) then reject p c 0x9016 (kilnCode s.kiln.st) s
    else match kilnBad ws with
      | some i => reject p c 0x9010 i s
      | none => ok p c 0 (ws ++ [crc32 ws]) (s.onKiln fun k => { k with staged := some (ws, s.time.now) })) s)

/-- KILN_CONFIRM (R320). -/
def execKilnConfirm (p : Port) (s : State) : Host.Outcome State Fault Refusal :=
  .next (runOp .kilnConfirm p (fun c s =>
    let s := pending p c 300 s
    if !kilnUp s then finish p c.tag 0 0x9013 2 [] s
    else if s.kiln.st == .fault && s.kiln.fault != 3 then reject p c 0x9016 (kilnCode s.kiln.st) s
    else match s.kiln.staged with
      | none => reject p c 0x9011 0 s
      | some (ws, _) =>
        if crc32 ws != wd c.words 0 then reject p c 0x9012 (fld (crc32 ws) 15 0) s
        else
          kilnStep (fun now k =>
            let target : Fin 2 := if k.inUse = 0 then 1 else 0
            setKiln now .config 0 { k with staged := none, write := some { target := target, gen := (kCopy k).gen + 1, words := ws, cmd := some (p, c.tag) } }) s) s)

/-- KILN_READ_CONFIG (Table 12-11). -/
def execKilnReadConfig (p : Port) (s : State) : Host.Outcome State Fault Refusal :=
  .next (runOp .kilnReadConfig p (fun c => needKiln p c fun s =>
    let k := kCopy s.kiln
    ok p c 0 (k.words ++ [crc32 k.words, ofN k.gen]) s) s)

/-- The words of KILN_STATUS (Table 12-12). -/
def kilnStatusWords (now : Nat) (k : KilnState) : List Word :=
  let chWord := fun n : Fin 8 =>
    let c := k.ch[n]
    pk [(chCode c.st, 29), (c.fault, 24), (b2n (chDemand k n), 23), (b2n (kSdUse k n && !k.sd.permit.getLsbD (kSdBit k n)), 22),
      (b2n (kCdGate k n && !cdRequest now k n.val), 21), (b2n c.waiting, 20), (b2n c.fba, 19), (b2n c.fbb, 18), (b2n c.rba, 17),
      (b2n c.rbb, 16), (c.nInc, 8), (c.nPass, 0)]
  let pairs := fun f : KPair → Bool => ((fins 8).map fun j => if f k.pair[j] then 2 ^ j.val else 0).sum
  [pk [(kilnCode k.st, 28), (k.fault, 20), (k.sd.st, 16)]] ++ (fins 8).map chWord ++
  [pk [(maskOf k.si, 16), (pairs (fun p => p.dem0 || p.dem1), 8), (pairs (fun p => p.fault), 0)],
   crc32 (kCopy k).words, pk [((kCopy k).gen % 65536, 16), (k.sd.nMismatch, 0)], pk [(k.sd.nDiscard, 16), (k.sd.nDegraded, 0)],
   pk [(((fins 8).map fun n => if cdRequest now k n.val then 2 ^ n.val else 0).sum, 8), (k.cdSet.toNat, 0)]]

/-- KILN_STATUS (Table 12-12). -/
def execKilnStatus (p : Port) (s : State) : Host.Outcome State Fault Refusal :=
  .next (runOp .kilnStatus p (fun c => needKiln p c fun s => ok p c 0 (kilnStatusWords s.time.now s.kiln) s) s)

/-- KILN_BRAKE (R315, R17): the release mask; a withdrawn bit reaches the Kiln at once. -/
def execKilnBrake (p : Port) (s : State) : Host.Outcome State Fault Refusal :=
  .next (runOp .kilnBrake p (fun c => needKiln p c fun s =>
    let m := BitVec.ofNat 8 (fld (wd c.words 0) 7 0)
    ok p c 0 [] (kilnStep (fun now k => evalKiln now { k with
      cdSet := m, path := vmap k.path fun x => x.map fun y => (y.1 &&& m, y.2) }) s)) s)

/-- Channels in FAULT, one bit each. -/
def faultMask (k : KilnState) : Nat := ((fins 8).map fun n => if k.ch[n].st = .fault then 2 ^ n.val else 0).sum

/-- KILN_ACK (R307, Table 12-11): the reset when RESET_SI is 0xFF; the detail is the mask of channels still in FAULT. -/
def execKilnAck (p : Port) (s : State) : Host.Outcome State Fault Refusal :=
  .next (runOp .kilnAck p (fun c => needKiln p c fun s =>
    let s := if kResetSi s.kiln = 0xFF && s.kiln.st == .run then kilnStep kilnReset s else s
    ok p c (faultMask s.kiln) [] s) s)

end Sys2Proof.Machine
end

