-- ==== Sys2Proof/Machine/Position.lean ====
section
/-! DEFINITION. Positioning control (chapter 09): reference, targets and tracks, control law, feedforward, joystick, MPC, load reduction, and the commands. Lengths of the reference stand in 2^-32 mm, its angles in 2^-64 turn. -/

namespace Sys2Proof.Machine

/-! Parameters in force (Table 9-7, 18-11). -/

def ctlW (s : State) (i : Nat) : Word := wd (s.inForce .dpcControllerConfig) i
def movW (s : State) (i : Nat) : Word := wd (s.inForce .dpcMoveConfig) i
def joyW (s : State) (i : Nat) : Word := wd (s.inForce .dpcJoystickConfig) i
def mpcW (s : State) (i : Nat) : Word := wd (s.inForce .dpcMpcConfig) i
def powW (s : State) (i : Nat) : Word := wd (s.inForce .dpcPowerConfig) i
def vesW (s : State) (i : Nat) : Word := wd (s.inForce .bulkClose 64) i

/-- Word i of the estimate that the controller uses, the published one: where D1 was missed that is the state latched at step 1 (R22). -/
def estI (s : State) (i : Nat) : Int := s.fus.pub.toList.getD i 0

/-- Automatic axes of a function: surge, sway, yaw (Table 9-1). -/
def autoAxis (fn : Nat) (i : Fin 3) : Bool := 3 ≤ fn || (fn == 2 && i == 2)

/-- An axis under the joystick. -/
def joyAxis (fn : Nat) (i : Fin 3) : Bool := fn != 0 && !autoAxis fn i

/-- Limits of the position axes and of yaw, scaled by a percentage (9.6, R235). -/
def posLimits (s : State) (pct : Nat) : Limits :=
  { v := (movW s 0).toNat * 2 ^ 32 * pct / 100, a := (movW s 2).toNat * 2 ^ 32, j := (movW s 3).toNat * 2 ^ 32 }
def yawLimits (s : State) (pct : Nat) : Limits :=
  { v := (movW s 1).toNat * 2 ^ 32 * pct / 100, a := (movW s 4).toNat * 2 ^ 32, j := (movW s 5).toNat * 2 ^ 32 }

/-! The reference (9.6). -/

/-- A quantity of the line and cross axes in north and east. -/
def toNE (d : DpcState) (f : Axis → Int) : Int × Int :=
  (by60 (f d.ax[0]) d.dir[0] - by60 (f d.ax[1]) d.dir[1], by60 (f d.ax[0]) d.dir[1] + by60 (f d.ax[1]) d.dir[0])

/-- Reference position, velocity and acceleration, north and east. -/
def refPos (d : DpcState) : Int × Int := let q := toNE d (fun a => a.x); (d.base[0] + q.1, d.base[1] + q.2)
def refVel (d : DpcState) : Int × Int := toNE d (fun a => a.v)
def refAcc (d : DpcState) : Int × Int := toNE d (fun a => a.a)

/-- Estimated rotation point, north and east in 2^-32 mm, and its velocity in 2^-32 mm/s (9.3). -/
def estRp (s : State) : (Int × Int) × (Int × Int) :=
  let psi := estI s 2
  let r := rot psi (s.dpc.rp[0] * 2 ^ 32) (s.dpc.rp[1] * 2 ^ 32)
  let w := fun (x : Int) => by60 (estI s 5 * x) 7244019458077122842
  let u := estI s 3 * 2 ^ 32 - w s.dpc.rp[1]
  let v := estI s 4 * 2 ^ 32 + w s.dpc.rp[0]
  ((estI s 0 * 2 ^ 32 + r.1, estI s 1 * 2 ^ 32 + r.2), rot psi u v)

/-- A unit vector in 2^-60 along (x, y); north for the zero vector. -/
def unitOf (x y : Int) : Int × Int :=
  let l := hyp x y
  if l = 0 then (2 ^ 60, 0) else (rne (x * 2 ^ 60) l, rne (y * 2 ^ 60) l)

/-- Sets the line axis at a point with a direction, keeping the motion (velocity and acceleration in north and east). -/
def setLine (d : DpcState) (p v a dir : Int × Int) : DpcState :=
  let du := fun (q : Int × Int) => by60 q.1 dir.1 + by60 q.2 dir.2
  let dw := fun (q : Int × Int) => by60 q.2 dir.1 - by60 q.1 dir.2
  { d with
    base := #v[p.1, p.2], dir := #v[dir.1, dir.2]
    ax := (d.ax.set 0 { x := 0, v := du v, a := du a }).set 1 { x := 0, v := dw v, a := dw a } }

/-- A point of the plane as a target in mm. -/
def mmOf (p : Int × Int) : Int × Int := (rne p.1 (2 ^ 32), rne p.2 (2 ^ 32))

/-- The position reference starts from the estimate at the rotation point and comes to rest; the target is the point of rest (R224). -/
def startPos (s : State) : State :=
  let (p, v) := estRp s
  let m := posLimits s 100
  s.onDpc fun d =>
    let d := setLine d p v (0, 0) (unitOf v.1 v.2)
    let l := ramp m d.ax[0] 0
    let q := mmOf (refPos { d with ax := d.ax.set 0 (runAll d.ax[0] l) })
    { d with plan := (d.plan.set 0 l).set 1 [], tgt := (d.tgt.set 0 q.1).set 1 q.2 }

/-- The same of the heading reference (R224). -/
def startYaw (s : State) : State :=
  let m := yawLimits s 100
  let a : Axis := { x := angA (estI s 2) * 2 ^ 32, v := estI s 5 * 2 ^ 32 }
  let l := ramp m a 0
  s.onDpc fun d => { d with ax := d.ax.set 2 a, plan := d.plan.set 2 l, tgt := d.tgt.set 2 (angA (rne (runAll a l).x (2 ^ 32))) }

/-- The reference comes to rest under its limits. -/
def restAll (s : State) : State :=
  s.onDpc fun d => { d with plan := vmapI d.plan fun i _ => ramp (if i = 2 then yawLimits s 100 else posLimits s 100) d.ax[i] 0 }

/-- An angle difference in 2^-64 turn by the turn direction (Table 9-2): 0 shortest, half a turn clockwise, 1 clockwise, 2 anticlockwise. -/
def turnBy (dir : Nat) (d : Int) : Int :=
  let c := d % 2 ^ 64
  if dir = 1 then c else if dir = 2 then (if c = 0 then 0 else c - 2 ^ 64) else if c ≤ 2 ^ 63 then c else c - 2 ^ 64

/-- A planned move: the state, duration in ticks, and the TARGET_PASSED details of its rest-first axes. -/
structure Planned where
  d : DpcState
  ticks : Nat
  passed : List Nat
  deriving Repr

/-- Plans a move (R237, R238): position to (n, e) mm, heading to h, where asked. -/
def planAxes (s : State) (pos : Option (Int × Int)) (hdg : Option Int) (pct dir : Nat) (sync : Bool) : Planned :=
  let d := s.dpc
  let p := refPos d
  let d : DpcState := match pos with
    | none => d
    | some q =>
      let dn := q.1 * 2 ^ 32 - p.1
      let de := q.2 * 2 ^ 32 - p.2
      let d := setLine d p (refVel d) (refAcc d) (unitOf dn de)
      { d with tgt := (d.tgt.set 0 q.1).set 1 q.2 }
  let goalU : Int := match pos with | none => 0 | some q => (hyp (q.1 * 2 ^ 32 - p.1) (q.2 * 2 ^ 32 - p.2) : Nat)
  let x2 := (d.ax[2]).x % 2 ^ 64
  let d : DpcState := match hdg with
    | none => d
    | some h => { d with ax := d.ax.set 2 { d.ax[2] with x := x2 }, tgt := d.tgt.set 2 (angA h) }
  let goalY : Int := match hdg with | none => 0 | some h => x2 + turnBy dir (angA h * 2 ^ 32 - x2)
  let mp := posLimits s pct
  let my := yawLimits s pct
  let cross : Bool := (d.ax[1]).v != 0 || (d.ax[1]).a != 0
  let rfU := pos.isSome && restFirst mp d.ax[0] goalU
  let rfW := pos.isSome && cross
  let rfY := hdg.isSome && restFirst my d.ax[2] goalY
  let mk := fun (m1 m2 m3 : Limits) =>
    (if pos.isSome then planTo m1 d.ax[0] goalU else [], if rfW then planTo m2 d.ax[1] 0 else [], if hdg.isSome then planTo m3 d.ax[2] goalY else [])
  let (a, b, c) := mk mp mp my
  let t := max (planTicks a) (max (planTicks b) (planTicks c))
  let scale := fun (m : Limits) (l : Plan) =>
    let k := planTicks l
    if k = 0 ∨ t = 0 then m else { v := max 1 (m.v * k / t), a := max 1 (m.a * k * k / (t * t)), j := max 1 (m.j * k * k * k / (t * t * t)) : Limits }
  let (a, b, c) := if sync && !rfU && !rfW && !rfY then mk (scale mp a) (scale mp b) (scale my c) else (a, b, c)
  let cm := satN 32767 (cdiv (restPoint mp d.ax[0]).natAbs (10 * 2 ^ 32))
  let cdeg := satN 32767 (cdiv ((restPoint my d.ax[2] - (d.ax[2]).x).natAbs * 36000) (2 ^ 64))
  { d := { d with
      plan := if pos.isSome then (if hdg.isSome then #v[a, b, c] else #v[a, b, d.plan[2]]) else if hdg.isSome then d.plan.set 2 c else d.plan
      passed := rfU || rfY, moving := true }
    ticks := t
    passed := (if rfU then [cm] else []) ++ (if rfY then [0x8000 + cdeg] else []) }

/-- A plan enters: parameters of the next move, TARGET_PASSED of its rest-first axes (R237, Table 9-6). -/
def enterMove (pos : Option (Int × Int)) (hdg : Option Int) (pct dir : Nat) (sync : Bool) (s : State) : State × Planned :=
  let s := promote .move s
  let m := planAxes s pos hdg pct dir sync
  (m.passed.foldl (fun s x => raise 9 x s) (s.onDpc fun _ => m.d), m)

/-! Track (9.7). -/

def trkN (d : DpcState) : Nat := fld (wd d.track 0) 7 0
def trkP (d : DpcState) (i : Nat) : Int × Int := ((wd d.track (1 + 4 * i)).toInt, (wd d.track (2 + 4 * i)).toInt)
def trkSpeed (d : DpcState) (i : Nat) : Nat := fld (wd d.track (4 + 4 * i)) 31 16

/-- Course of the leg leaving waypoint i. -/
def legCourse (d : DpcState) (i : Nat) : Int :=
  let a := trkP d i
  let b := trkP d (i + 1)
  angleOf (b.1 - a.1) (b.2 - a.2)

/-- Heading of that leg (Table 9-5). -/
def legHdg (d : DpcState) (i : Nat) : Int :=
  let h : Int := (wd d.track (3 + 4 * i)).toNat
  if bit (wd d.track (4 + 4 * i)) 0 then h else angA (legCourse d i + h)

/-- Length of that leg in 2^-32 mm. -/
def legLen (d : DpcState) (i : Nat) : Int :=
  let a := trkP d i
  let b := trkP d (i + 1)
  (hyp ((b.1 - a.1) * 2 ^ 32) ((b.2 - a.2) * 2 ^ 32) : Nat)

/-- 2 degrees in 2^-32 turn. -/
def twoDeg : Nat := 23860929

/-- Waypoint i is a pass-through point (R243). -/
def passThrough (d : DpcState) (i : Nat) : Bool :=
  decide (i + 1 < trkN d) && decide (0 < i) && decide ((wrapA (legCourse d i - legCourse d (i - 1))).natAbs ≤ twoDeg) &&
  decide ((wrapA (legHdg d i - legHdg d (i - 1))).natAbs ≤ twoDeg)

/-- Limits on leg i. -/
def legLimits (s : State) (i : Nat) : Limits :=
  let m := posLimits s 100
  { m with v := min m.v (trkSpeed s.dpc i * 2 ^ 32) }

/-- Speed at waypoint i, in 2^-32 mm/s: 0 at a stop point, else the lower of the two leg speeds, as far as the legs after it let the reference slow down (R243). -/
def passSpeed (s : State) : Nat → Nat → Nat
  | 0, _ => 0
  | fuel + 1, i =>
    if !passThrough s.dpc i then 0
    else
      let m := legLimits s i
      let cap := min m.v (legLimits s (i - 1)).v
      let out := passSpeed s fuel (i + 1)
      let fits := fun (v : Nat) => v ≤ out || decide (changePath m v out ≤ legLen s.dpc i)
      if fits cap then cap
      else ((List.range (Nat.log2 cap + 1)).reverse).foldl (fun v k => if v + 2 ^ k ≤ cap && fits (v + 2 ^ k) then v + 2 ^ k else v) 0

/-- Distance from the origin of the line axis to the waypoint that a leg ends at, in 2^-32 mm. -/
def legGoal (d : DpcState) : Int := (hyp (d.tgt[0] * 2 ^ 32 - d.base[0]) (d.tgt[1] * 2 ^ 32 - d.base[1]) : Nat)

/-- The reference goes along leg i from its present place on it. -/
def runLeg (i : Nat) (s : State) : State :=
  s.onDpc fun d => { d with
    leg := i, phase := 3
    plan := (d.plan.set 0 (passTo (legLimits s i) d.ax[0] (legGoal d) (passSpeed s 64 (i + 1)))).set 1 [] }

/-- Leg i starts with a speed along it where the reference stands: at its waypoint, or beside it after a change of the rotation point (log entry 32). -/
def enterLeg (i : Nat) (v : Int) (s : State) : State :=
  let s := promote .move s
  let s := s.onDpc fun d =>
    let b := trkP d (i + 1)
    let p := refPos d
    let u := unitOf (b.1 * 2 ^ 32 - p.1) (b.2 * 2 ^ 32 - p.2)
    { d with
      base := #v[p.1, p.2], dir := #v[u.1, u.2]
      ax := (d.ax.set 0 { x := 0, v := v }).set 1 {}
      tgt := (d.tgt.set 0 b.1).set 1 b.2 }
  runLeg i s

/-- The heading turns to that of leg i. -/
def turnTo (h : Int) (s : State) : State := (enterMove none (some h) 100 0 true s).1

/-- The reference approaches waypoint i (R242). -/
def approach (i : Nat) (s : State) : State :=
  let s := (enterMove (some (trkP s.dpc i)) none 100 0 true s).1
  s.onDpc fun d => { d with start := i, leg := 0xFF, phase := 1, paused := false, reachDone := true }

/-- The reference has come to waypoint i and rests: the last one, or a turn to the next leg (R243). -/
def atStop (i : Nat) (s : State) : State :=
  if trkN s.dpc ≤ i + 1 then raise 10 1 (s.onDpc fun d => { d with phase := 4, leg := 0xFF })
  else (turnTo (legHdg s.dpc i) s).onDpc fun d => { d with phase := 2, start := i, leg := 0xFF }

/-- The reference moves on by one frame: t ticks, over pass-through points where it meets them. -/
def moveRef : Nat → Nat → State → State
  | 0, _, s => s
  | fuel + 1, t, s =>
    let d := s.dpc
    let k := planTicks d.plan[0]
    let cross := d.fn == 4 && d.phase == 3 && !d.paused && decide (k ≤ t) && passThrough d (d.leg + 1) && !(d.plan[0]).isEmpty
    let n := if cross then k else t
    let s := s.onDpc fun d =>
      let r := fun (i : Fin 3) => runFor n d.plan[i] d.ax[i]
      { d with ax := Vector.ofFn fun i => (r i).1, plan := Vector.ofFn fun i => (r i).2 }
    if cross then
      let v := (s.dpc.ax[0]).v
      moveRef fuel (t - n) (turnTo (legHdg s.dpc (d.leg + 1)) (enterLeg (d.leg + 1) v s))
    else s

/-- A track whose present phase has ended goes on (R242, R243). -/
def trackOn (s : State) : State :=
  let d := s.dpc
  let still := (d.plan[0]).isEmpty && (d.plan[1]).isEmpty && (d.plan[2]).isEmpty
  if d.fn != 4 || d.paused || !still then s
  else if d.phase = 1 then atStop d.start s
  else if d.phase = 2 then enterLeg d.start 0 s
  else if d.phase = 3 then atStop (d.leg + 1) s
  else s

/-- A DPC_TRACK_CONTROL takes effect (R244): 0 PAUSE, 1 RESUME, 2 RESTART. -/
def trackAct (act wp : Nat) (s : State) : State :=
  if act = 0 then (restAll s).onDpc fun d => { d with paused := true }
  else if act = 1 then
    if !s.dpc.paused then s
    else
      let s := s.onDpc fun d => { d with paused := false }
      if s.dpc.phase = 1 then approach s.dpc.start s
      else if s.dpc.phase = 2 then turnTo (legHdg s.dpc s.dpc.start) s
      else if s.dpc.phase = 3 then runLeg s.dpc.leg s
      else s
  else approach wp s

/-! Targets (R235, R236). -/

/-- The refusal of a DPC_SET_TARGET, if any. -/
def targetRefusal (s : State) (ws : List Word) : Option (Nat × Nat) :=
  let d := s.dpc
  let w0 := wd ws 0
  let bad := (if bit w0 0 && !autoAxis d.fn 0 then 1 else 0) + (if bit w0 1 && !autoAxis d.fn 2 then 2 else 0)
  let q : Int × Int := if bit w0 2 then (d.tgt[0] + (wd ws 1).toInt, d.tgt[1] + (wd ws 2).toInt) else ((wd ws 1).toInt, (wd ws 2).toInt)
  let p := refPos d
  let dist := hyp (q.1 * 2 ^ 32 - p.1) (q.2 * 2 ^ 32 - p.2)
  if bad != 0 then some (0x5013, bad)
  else if d.fn = 4 then some (0x5011, 4)
  else if bit w0 0 && decide ((movW s 6).toNat * 2 ^ 32 < dist) then some (0x5012, satN 65535 (dist / (1000 * 2 ^ 32)))
  else none

/-- Plans the last of the targets interpreted before this frame; the earlier ones are superseded (R235). -/
def takeTargets (s : State) : State :=
  let due := s.dpc.targets.filter fun r => r.frame < s.sys.frame
  match due.getLast? with
  | none => s
  | some r =>
    let s := s.onDpc fun d => { d with targets := d.targets.filter fun r => !(decide (r.frame < s.sys.frame)) }
    let s := due.dropLast.foldl (fun s x => finish x.port x.tag 0 0x5015 r.tag [] (commit x.port x.tag s)) s
    let s := commit r.port r.tag s
    match targetRefusal s r.words with
    | some (st, detail) => finish r.port r.tag 0 st detail [] s
    | none =>
      let w0 := wd r.words 0
      let w4 := wd r.words 4
      let rel := bit w0 2
      let d := s.dpc
      let pos : Option (Int × Int) := if bit w0 0 then some (if rel then (d.tgt[0] + (wd r.words 1).toInt, d.tgt[1] + (wd r.words 2).toInt) else ((wd r.words 1).toInt, (wd r.words 2).toInt)) else none
      let hdg : Option Int := if bit w0 1 then some (if rel then d.tgt[2] + (wd r.words 3).toInt else (wd r.words 3).toNat) else none
      let (s, m) := enterMove pos hdg (fld w4 15 8) (fld w4 1 0) (bit w4 2) s
      let s := s.onDpc fun d => { d with reached := 0, reachDone := false, pct := fld w4 15 8 }
      finish r.port r.tag 0 0 0 [ofN (rne m.ticks msTicks).toNat, pk [(b2n (!m.passed.isEmpty), 16), (m.passed.headD 0, 0)]] s

/-! Joystick (R225, R226). -/

/-- Analogue demand of axis i, int16 fraction, or none where its input carries RANGE or MISSING. -/
def joyAnalog (s : State) (i : Fin 3) : Option Int :=
  let ai := fld (joyW s 5) (8 * i.val + 3) (8 * i.val)
  match fin? 22 (6 + ai) with
  | some k =>
    let o := if stage2On s k.val then (s.fir.slots[k]).out2 else (s.fir.slots[k]).out1
    if o.range || o.missing then none
    else
      let j := clampI (-32767) 32767 (rne (o.v * 32767) 1000000000)
      some (if (j.natAbs : Nat) * 100 ≤ fld (joyW s 5) 31 24 * 32767 then 0 else j)
  | none => none

/-- The demand in force at this step 3; a lost input sets it to zero and raises DPC_INPUT_LOST, a valid one after it clears the event. -/
def joyStep (s : State) : State :=
  let host := !bit (joyW s 0) 0
  let usesJoy := (fins 3).any (joyAxis s.dpc.fn)
  if host then
    match s.dpc.joyNext with
    | some (j, f) =>
      if f < s.sys.frame then
        let was := s.dpc.joyLost
        let s := s.onDpc fun d => { d with joy := j, joyNext := none, joyLost := false }
        if was then raise 13 1 s else s
      else s
    | none => s
  else if !usesJoy then s
  else
    let v := (fins 3).map fun i => if joyAxis s.dpc.fn i then joyAnalog s i else some 0
    let lost := v.any fun x => x.isNone
    let was := s.dpc.joyLost
    let s := s.onDpc fun d => { d with
      joy := Vector.ofFn fun i => if lost && joyAxis d.fn i then 0 else ((v.getD i.val none).getD 0)
      joyLost := lost }
    if lost && !was then raise 13 257 s else if !lost && was then raise 13 1 s else s

/-- τ_joy of axis i. -/
def joyForce (s : State) (i : Fin 3) : Int :=
  let m := (joyW s (1 + i.val)).toNat
  let cap : Int := if m = 0 then (nomCap s)[i] else m
  rne (s.dpc.joy[i] * cap) 32767

/-- JOYSTICK_TIMEOUT (R226). -/
def execJoystickTimeout (s : State) : Host.Outcome State Fault Refusal :=
  .next (
    if bit (joyW s 0) 0 || s.dpc.joyLost || !((fins 3).any (joyAxis s.dpc.fn)) then s
    else
      let s := match s.dpc.joyMt with
        | some m => advanceTo (m + fld (joyW s 4) 31 16 * msTicks) s
        | none => s
      raise 13 257 (s.onDpc fun d => { d with joy := Vector.replicate 3 0, joyNext := none, joyLost := true }))

/-! Feedforward (9.4). -/

/-- A wind slot is ACTIVE. -/
def windActive (s : State) : Bool :=
  (fins 24).any fun i => fld (wd (s.inForce .fusRefConfig i.val) 0) 11 8 == 7 && (s.fus.slot[i]).st == 3

/-- WIND_FADE in ms. -/
def fadeMs (s : State) : Nat := fld (ctlW s 7) 31 16 * 1000

/-- The fade of R231 moves by one frame. -/
def fadeStep (s : State) : State :=
  s.onDpc fun d => { d with windFade := if windActive s then d.windFade - 10 else min (fadeMs s) (d.windFade + 10) }

/-- The feedforward of axis i (R230, R231), zero on an axis without it. -/
def feedForward (s : State) (i : Fin 3) : Int :=
  let joyComp := bit (joyW s 4) 0 && (s.fus.mode == 1 || s.fus.mode == 2)
  if autoAxis s.dpc.fn i || (joyAxis s.dpc.fn i && joyComp) then
    let t := max 1 (fadeMs s)
    let wf : Int := fld (ctlW s 7) 7 0
    let ef : Int := fld (ctlW s 7) 15 8
    let left : Int := ((t - min t s.dpc.windFade : Nat) : Int)
    rne (-(wf * left * estI s (15 + i.val) + ef * t * estI s (12 + i.val))) (100 * t)
  else 0

/-! The control law (9.3). -/

/-- Metres or radians in 2^-40 of a value in 2^-32 mm, or 2^-64 turn for yaw. -/
def si40 (i : Fin 3) (v : Int) : Int := if i = 2 then rne (v * 7244019458077122842) (2 ^ 84) else rne (v * 256) 1000

/-- Kp in 2^-20 N/m (N·m/rad), for controller words cw: M ω² with ω = 2π/T. -/
def lawKp (s : State) (cw : List Word) (i : Fin 3) : Int :=
  let t := if i = 0 then fld (wd cw 0) 15 0 else if i = 1 then fld (wd cw 0) 31 16 else fld (wd cw 1) 15 0
  rne ((vesW s (4 + i.val)).toNat * 1000 * 45515516623913208649) (max 1 (t * t) * 2 ^ 40)

/-- Kd in 2^-20: max(0, 2 ζ M ω - D). -/
def lawKd (s : State) (cw : List Word) (i : Fin 3) : Int :=
  let t := if i = 0 then fld (wd cw 0) 15 0 else if i = 1 then fld (wd cw 0) 31 16 else fld (wd cw 1) 15 0
  max 0 (rne (2 * fld (wd cw 4) 7 0 * (vesW s (4 + i.val)).toNat * 1000 * 7244019458077122842) (100 * max 1 t * 2 ^ 40) - (vesW s (7 + i.val)).toNat * 2 ^ 20)

/-- ERR_LIM of an axis in 2^-32 units. -/
def errLim (cw : List Word) (i : Fin 3) : Int := ((if i = 2 then (wd cw 6).toNat else (wd cw 5).toNat : Nat) : Int) * 2 ^ 32

/-- What the law is computed from: error, error rate and reference acceleration of each axis in 2^-32 units. -/
structure LawIn where
  e : Vector Int 3
  ed : Vector Int 3
  a : Vector Int 3

/-- Errors in the body frame (9.3). -/
def lawIn (s : State) : LawIn :=
  let d := s.dpc
  let psi := estI s 2
  let (p, _) := estRp s
  let q := refPos d
  let e := rot (-psi) (q.1 - p.1) (q.2 - p.2)
  let v := rot (-psi) (refVel d).1 (refVel d).2
  let a := rot (-psi) (refAcc d).1 (refAcc d).2
  let w := fun (x : Int) => by60 (estI s 5 * x) 7244019458077122842
  { e := #v[e.1, e.2, (BitVec.ofInt 64 ((d.ax[2]).x - psi * 2 ^ 32)).toInt]
    ed := #v[v.1 - (estI s 3 * 2 ^ 32 - w d.rp[1]), v.2 - (estI s 4 * 2 ^ 32 + w d.rp[0]), (d.ax[2]).v - estI s 5 * 2 ^ 32]
    a := #v[a.1, a.2, (d.ax[2]).a] }

/-- τ_rp of an automatic axis without its integrator, in 2^-60 N. -/
def lawRest (s : State) (cw : List Word) (x : LawIn) (i : Fin 3) : Int :=
  (vesW s (4 + i.val)).toNat * 1000 * 2 ^ 20 * si40 i x.a[i] + lawKp s cw i * si40 i (clampI (-(errLim cw i)) (errLim cw i) x.e[i]) + lawKd s cw i * si40 i x.ed[i]

/-- T_I in seconds. -/
def lawTi (cw : List Word) : Nat := max 1 (fld (wd cw 4) 31 16)

/-- τ_rp of an automatic axis, in N. -/
def lawTau (s : State) (cw : List Word) (x : LawIn) (z : Int) (i : Fin 3) : Int :=
  rne (lawRest s cw x i * (lawTi cw * 100) + lawKp s cw i * z) (2 ^ 60 * lawTi cw * 100)

/-- The integrator that gives a τ_rp (R224, R229, R233). -/
def lawPreload (s : State) (cw : List Word) (x : LawIn) (t : Int) (i : Fin 3) : Int :=
  let kp := lawKp s cw i
  if kp ≤ 0 then 0 else rne ((t * 2 ^ 60 - lawRest s cw x i) * (lawTi cw * 100)) kp.toNat

/-- Yaw moment that a force at the rotation point adds at the control point, N·m (9.3). -/
def rpMoment (s : State) (x y : Int) : Int := rne (s.dpc.rp[0] * y - s.dpc.rp[1] * x) 1000

/-- The MPC sequence at this frame's boundary (R233): the τ of the frame of submission, then N_H steps, interpolated linearly. -/
def mpcTau (s : State) (i : Fin 3) : Int :=
  let h := max 1 (fld (mpcW s 1) 31 16 * msTicks)
  let t := s.sys.frame * frameTicks - s.dpc.mpcFrom
  let n := s.dpc.mpcSeq.length / 3
  let knot := fun (j : Nat) => if j = 0 then s.dpc.mpcTau[i] else s.dpc.mpcSeq.getD (3 * (min j n - 1) + i.val) 0
  let j := t / h
  rne (knot j * (h - t % h : Nat) + knot (j + 1) * (t % h : Nat)) h

/-- Is τ taken from the MPC in this frame (R233)? -/
def mpcActs (s : State) : Bool := s.dpc.mpcOn && 3 ≤ s.dpc.fn && decide (s.dpc.mpcAt < s.sys.frame)

/-- An axis's integrator is held in this frame (R228): error beyond its limit, slack of the previous allocation, a binding section limit. -/
def awHeld (s : State) (cw : List Word) (x : LawIn) (i : Fin 3) : Bool :=
  let sl := (s.alloc.slack[i]).natAbs
  decide (errLim cw i < (x.e[i].natAbs : Nat)) || (decide ((s.dpc.tauPrev[i]).natAbs < sl * 100) && decide (1000 < sl)) || s.dpc.binding.toList.any id

/-- The controller computes τ (9.3, 9.4, 9.5): preloads, law or MPC, integrator step. -/
def computeTau (s : State) : State :=
  let d := s.dpc
  if d.fn = 0 then s.onDpc fun d => { d with tau := Vector.replicate 3 0, ff := Vector.replicate 3 0, aw := Vector.replicate 3 false, preload := Vector.replicate 3 0, oldPar := none }
  else if 2 ≤ d.fn && s.fus.mode == 3 then s
  else
    let cw := s.inForce .dpcControllerConfig
    let x := lawIn s
    let ff := Vector.ofFn fun i => feedForward s i
    let mpc := mpcActs s
    -- surge and sway first, since they enter the yaw moment
    let want := fun (i : Fin 3) (prev : Int) =>
      if mpc then some prev
      else match d.oldPar with
        | some ow => some (lawTau s ow x d.z[i] i)
        | none => if d.preload[i] = 1 then some prev else if d.preload[i] = 2 then some 0 else none
    let zOf := fun (i : Fin 3) (prev : Int) => match want i prev with
      | some t => lawPreload s cw x t i
      | none => d.z[i]
    let mp := fun (i : Fin 3) => if mpc then mpcTau s i else d.tauPrev[i]
    let z0 := zOf 0 (mp 0 - ff[0])
    let z1 := zOf 1 (mp 1 - ff[1])
    let t0 := if autoAxis d.fn 0 then (if mpc then mpcTau s 0 - ff[0] else lawTau s cw x z0 0) else joyForce s 0
    let t1 := if autoAxis d.fn 1 then (if mpc then mpcTau s 1 - ff[1] else lawTau s cw x z1 1) else joyForce s 1
    let z2 := zOf 2 (mp 2 - ff[2] - rpMoment s t0 t1)
    let t2 := if autoAxis d.fn 2 then (if mpc then mpcTau s 2 - ff[2] - rpMoment s t0 t1 else lawTau s cw x z2 2) else joyForce s 2
    let zs : Vector Int 3 := #v[z0, z1, z2]
    let held : Vector Bool 3 := Vector.ofFn fun i => autoAxis d.fn i && awHeld s cw x i
    s.onDpc fun d => { d with
      err := vmapI x.e fun i e => if autoAxis d.fn i then e else 0
      z := vmapI zs fun i z => if !autoAxis d.fn i then 0 else if held[i] then z else z + si40 i x.e[i]
      aw := held
      ff := if mpc then Vector.replicate 3 0 else ff
      tau := #v[t0 + ff[0], t1 + ff[1], t2 + rpMoment s t0 t1 + ff[2]]
      preload := Vector.replicate 3 0
      oldPar := none }

/-! Supervision (R239, R240). -/

/-- Position error (2^-32 mm) and heading error (2^-64 turn). -/
def errOf (d : DpcState) (heading : Bool) : Nat := if heading then (d.err[2]).natAbs else hyp d.err[0] d.err[1]

/-- The counters of TARGET_REACHED and DPC_EXCURSION move by one frame. -/
def supervise (s : State) : State :=
  let cw := s.inForce .dpcControllerConfig
  let lim := fun (h : Fin 2) => (wd cw (2 + h.val)).toNat * 2 ^ 32
  let on := fun (h : Fin 2) => autoAxis s.dpc.fn (if h = 0 then 0 else 2)
  let e := fun (h : Fin 2) => errOf s.dpc (h == 1)
  let still := (s.dpc.plan.toList.all fun l => l.isEmpty)
  let near := decide (errOf s.dpc false ≤ (movW s 7).toNat * 2 ^ 32) && decide (errOf s.dpc true ≤ (movW s 8).toNat * 2 ^ 32)
  s.onDpc fun d => { d with
    moving := !still
    passed := d.passed && !still
    reached := if still && near then d.reached + 1 else 0
    excRun := vmapI d.excRun fun h n => if on h && decide (lim h < e h) then n + 1 else 0
    excLow := vmapI d.excLow fun h n => if !(on h) || decide (e h * 10 < lim h * 8) then n + 1 else 0 }

/-- TARGET_REACHED (R239). -/
def execTargetReached (s : State) : Host.Outcome State Fault Refusal :=
  .next (if !s.dpc.reachDone && decide (100 ≤ s.dpc.reached) then raise 10 0 (s.onDpc fun d => { d with reachDone := true }) else s)

/-- DPC_EXCURSION (R240): raised after 10 frames above the limit, cleared after 100 below 80 % of it. -/
def execDpcExcursion (heading raised : Bool) (s : State) : Host.Outcome State Fault Refusal :=
  .next (
    let h : Fin 2 := if heading then 1 else 0
    if raised then
      (if !s.dpc.excOn[h] && decide (10 ≤ s.dpc.excRun[h]) then raise 11 (256 + h.val) (s.onDpc fun d => { d with excOn := d.excOn.set h true }) else s)
    else if s.dpc.excOn[h] && decide (100 ≤ s.dpc.excLow[h]) then raise 11 h.val (s.onDpc fun d => { d with excOn := d.excOn.set h false })
    else s)

/-! MPC (9.5). -/

/-- The PID takes over (R234): detail 1 no result, 2 late. -/
def mpcFall (detail : Nat) (s : State) : State :=
  let was := s.dpc.mpcOn
  let s := s.onDpc fun d => { d with mpcOn := false, mpcRun := 0, mpcSub := none, mpcReady := none, mpcFell := d.mpcFell || was }
  if was then raise 14 detail s else s

/-- The problem of a frame with k mod 10 = 0 is submitted (R232); one that still runs is late. -/
def mpcSubmit (s : State) : State :=
  if s.sys.frame % 10 = 0 && bit (mpcW s 0) 0 && 3 ≤ s.dpc.fn then
    let b := s.sys.frame * frameTicks
    let s := if s.dpc.mpcSub.isSome then mpcFall 2 s else s
    let vals := openVals (Config.mpcValues (s.inForce .dpcMpcConfig ++ s.inForce .bulkClose 64)
      (s.dpc.tau.toList ++ s.fus.pub.toList ++ s.dpc.tgt.toList ++ (s.dpc.ax.toList.flatMap fun a => [a.x, a.v, a.a]) ++ (nomCap s).toList ++
        s.dpc.limit.toList.map fun x => match x with | some w => (w : Int) | none => -1))
    (submitDp (dpTicket .mpc vals ([], 0) (some (b + 10 * frameTicks)) s) (cancelDp (fun w => w == .mpc) s)).onDpc fun d => { d with mpcSub := some b, mpcTau := d.tau, mpcReady := none }
  else s

/-- The forces of an MPC result, N and N·m, from the formats of its structure. -/
def mpcForces (t : Ticket) (x : List Int) : List Int := (List.range x.length).map fun i => scale2 (x.getD i 0) (fmtAt t.on 6 i)

/-- MPC_RESULT_COMMIT (R233, R234). -/
def execMpcResultCommit (s : State) : Host.Outcome State Fault Refusal :=
  .next (match s.dpc.mpcReady, s.dpc.mpcSub with
    | some x, some b =>
      if b + 10 * frameTicks < s.time.mt then s
      else
        let back := s.dpc.mpcFell && decide (3 ≤ s.dpc.mpcRun + 1)
        let s := s.onDpc fun d => { d with
          mpcSeq := x, mpcFrom := b, mpcReady := none, mpcSub := none, mpcRun := d.mpcRun + 1, mpcAt := s.sys.frame
          mpcOn := !d.mpcFell || back, mpcFell := d.mpcFell && !back }
        if back then raise 14 0 s else s
    | _, _ => s)

/-- MPC_LATE (R234). -/
def execMpcLate (s : State) : Host.Outcome State Fault Refusal :=
  .next (match s.dpc.mpcSub with
    | some b => mpcFall 2 (cancelDp (fun w => w == .mpc) (advanceTo (b + 10 * frameTicks) s))
    | none => s)

/-! Step 3. -/

/-- DPC_STATE (Table 9-8). -/
def dpcState (s : State) : List Word :=
  let d := s.dpc
  let lim := fun (k : Fin 4) => match d.limit[k] with | some w => satN 0xFFFE (w / 1000) | none => 0xFFFF
  let p := mmOf (refPos d)
  let v := mmOf (refVel d)
  let e := mmOf (d.err[0], d.err[1])
  w64 (s.sys.frame * frameTicks) ++ [ofN s.sys.frame,
    pk [(d.fn, 28), (s.fus.mode, 24), (d.leg, 16), (b2n d.moving, 15), (b2n d.passed, 14), (b2n (mpcActs s), 13), (b2n d.joyLost, 12), (b2n d.pmsLost, 11),
      (b2n (d.binding.toList.any id), 10), (b2n d.far, 9), (b2n d.d2Miss, 8), (b2n (decide (0 < d.windFade)), 7), (maskOf d.aw, 4)],
    ofI d.tgt[0], ofI d.tgt[1], ofI d.tgt[2], ofI p.1, ofI p.2, ofI (rne (d.ax[2]).x (2 ^ 32)), ofI v.1, ofI v.2, ofI (rne (d.ax[2]).v (2 ^ 32)),
    ofI e.1, ofI e.2, ofI (rne d.err[2] (2 ^ 32))] ++
  d.tau.toList.map ofI ++ d.ff.toList.map ofI ++ [pk [(lim 1, 16), (lim 0, 0)], pk [(lim 3, 16), (lim 2, 0)]]

/-- The position estimate lies more than 10 km from the datum (R220). -/
def farNow (s : State) : Bool := decide (10000000 < hyp (estI s 0) (estI s 1))

/-- POSITION_CONTROL_STEP (R228, R235 to R244): joystick, reference, track, targets, τ, MPC, supervision, the stream. -/
def execPositionControlStep (s : State) : Host.Outcome State Fault Refusal :=
  .next (
    let s := stepAt 1500 s
    if !frameWork s || s.dpc.ran == some s.sys.frame then s
    else
      let s := s.onDpc fun d => { d with ran := some s.sys.frame, tauPrev := d.tau, d2Miss := false }
      let s := joyStep s
      let s := if 2 ≤ s.dpc.fn then moveRef 64 frameTicks s else s
      let s := match s.dpc.action with
        | some (a, w, f) => if f < s.sys.frame then trackAct a w (s.onDpc fun d => { d with action := none }) else s
        | none => s
      let s := trackOn (takeTargets s)
      let s := supervise (computeTau (fadeStep s))
      let s := mpcSubmit s
      let s := s.onDpc fun d => { d with far := farNow s }
      if streamDue s 0x5A0 then stream 0x5A0 0 (dpcState s) s else s)

/-! What takes effect at a boundary (R220, R221, R224, R229, R245). -/

/-- A limit that rises does so by RAMP_PCT of the section's rated power per second (R245). -/
def rampLimits (s : State) : State :=
  s.onDpc fun d => { d with limit := vmapI d.limit fun k x =>
    match x, d.avail[k] with
    | some l, some a =>
      let goal := a * (100 - fld (powW s 3) 7 0) * 10
      if l < goal then some (min goal (l + secRated s k.val * fld (powW s 3) 15 8 / 10000)) else some l
    | _, _ => x }

/-- Where the position reference comes to rest by its plans, in mm. -/
def restPos (d : DpcState) : Int × Int := mmOf (refPos { d with ax := (d.ax.set 0 (runAll d.ax[0] d.plan[0])).set 1 (runAll d.ax[1] d.plan[1]) })

/-- The rotation point changes: target and reference of the control point stay, and the integrators make τ continuous. In AUTO-POSITION a reference that would no longer end at the target, because the heading is turning, is planned again from its re-expressed state, as is an approach of TRACK (R221). -/
def rpTakes (s : State) : State :=
  let w := s.inForce .dpcSetRotationPoint
  let n : Int × Int := ((wd w 0).toInt, (wd w 1).toInt)
  let dx := n.1 - s.dpc.rp[0]
  let dy := n.2 - s.dpc.rp[1]
  let s := s.onDpc fun d =>
    let t := rot d.tgt[2] dx dy
    let r := rot (rne (d.ax[2]).x (2 ^ 32)) (dx * 2 ^ 32) (dy * 2 ^ 32)
    { d with
      rp := #v[n.1, n.2]
      tgt := (d.tgt.set 0 (d.tgt[0] + t.1)).set 1 (d.tgt[1] + t.2)
      base := #v[d.base[0] + r.1, d.base[1] + r.2]
      preload := vmapI d.preload fun i x => if autoAxis d.fn i && x == 0 then 1 else x }
  let d := s.dpc
  if (d.fn == 3 || (d.fn == 4 && d.phase == 1 && !d.paused)) && !(d.plan[0].isEmpty && d.plan[1].isEmpty && d.plan[2].isEmpty) && restPos d != (d.tgt[0], d.tgt[1]) then
    (planAxes s (some (d.tgt[0], d.tgt[1])) none (if d.fn = 3 then d.pct else 100) 0 false |> fun m => s.onDpc fun _ => m.d)
  else s

/-- A covariance of the observer's states with its earth-frame pairs turned by c: north and east, and position and rate of their oscillators (R220). -/
def rotCov (c : Int) (p : List Int) : List Int :=
  if p.isEmpty then []
  else
    let pairOf : Nat → Option (Nat × Nat × Bool) := fun i => match i with
      | 0 => some (0, 1, false) | 1 => some (0, 1, true) | 9 => some (9, 11, false) | 11 => some (9, 11, true)
      | 10 => some (10, 12, false) | 12 => some (10, 12, true) | _ => none
    -- row i of the rotation as a combination of rows
    let comb := fun (i : Nat) (f : Nat → Int) => match pairOf i with
      | some (a, b, second) => if second then by60 (f a) (sinA c) + by60 (f b) (cosA c) else by60 (f a) (cosA c) - by60 (f b) (sinA c)
      | none => f i
    (List.range 225).map fun k => comb (k / 15) fun i => comb (k % 15) fun j => p.getD (15 * i + j) 0

/-- Every earth-frame quantity is re-expressed in the plane of a new datum (R220). -/
def datumTakes (n : Datum) (src : Nat) (s : State) : State :=
  let o := s.dpc.datum
  let first := s.dpc.datumSrc == 0
  let s := s.onDpc fun d => { d with datum := n, datumSrc := src }
  if first then s
  else
    let c := convergence o n
    let pt := fun (x y : Int) => rePlane o n x y
    let turn := fun (v : EstVec) (i j : Fin 27) => let q := rot c v[i] v[j]; (v.set i q.1).set j q.2
    let est := fun (v : EstVec) => let q := pt v[0] v[1]; turn (((v.set 0 q.1).set 1 q.2).set 2 (angA (v[2] + c))) 6 7
    let off := fun (v : EstVec) => turn v 0 1
    let fine := fun (x y : Int) => let q := ecefToPlane n (planeToEcef o x y); (q.1, q.2)
    let obs := fun (b : Obs) =>
      let x := fun i => b.x.getD i 0
      let p := fine (x 0) (x 1)
      let w := rot c (x 9) (x 11)
      let r := rot c (x 10) (x 12)
      let y := [p.1, p.2, x 2 + c * 2 ^ 20, x 3, x 4, x 5, x 6, x 7, x 8, w.1, r.1, w.2, r.2, x 13, x 14]
      ({ x := if b.x.isEmpty then [] else y, p := rotCov c b.p } : Obs)
    let bank := fun (b : ObsBank) => { b with main := obs b.main, loo := b.loo.map fun e => (e.1, obs e.2) }
    let meas := fun (m : ObsMeas) => if m.hdg then { m with z := (m.z.1 + c * 2 ^ 20, m.z.2) } else { m with z := fine m.z.1 m.z.2 }
    let mech := fun (m : Mech) =>
      let x := fun i => m.x.getD i 0
      let v := rot c (x 3) (x 4)
      let p := fine (x 6) (x 7)
      if m.x.isEmpty then m else { m with x := [x 0, x 1, x 2 + c, v.1, v.2, x 5, p.1, p.2, x 8] }
    let s := s.onFus fun f => { f with
      xhat := est f.xhat, pub := est f.pub, latched := est f.latched, r := off f.r, late := f.late.map off
      bank := f.bank.map bank, mechs := f.mechs.map mech, wind := f.wind.map fun w => rot c w.1 w.2
      hist := f.hist.map fun h => { h with bank := bank h.bank, meas := h.meas.map meas, cuts := h.cuts.map meas }
      slot := vmap f.slot fun r => { r with origin := r.origin.map fun q => fine q.1 q.2 } }
    s.onDpc fun d =>
      let b := ecefToPlane n (planeToEcef o (rne d.base[0] (2 ^ 12)) (rne d.base[1] (2 ^ 12)))
      let t := pt d.tgt[0] d.tgt[1]
      let u := rot c d.dir[0] d.dir[1]
      { d with
        base := #v[b.1 * 2 ^ 12, b.2 * 2 ^ 12], dir := #v[u.1, u.2]
        tgt := #v[t.1, t.2, angA (d.tgt[2] + c)]
        ax := d.ax.set 2 { d.ax[2] with x := (d.ax[2]).x + c * 2 ^ 32 }
        track := (List.range d.track.length).map fun i =>
          let w := wd d.track i
          if i = 0 then w
          else
            let k := (i - 1) / 4
            let q := pt (wd d.track (1 + 4 * k)).toInt (wd d.track (2 + 4 * k)).toInt
            match (i - 1) % 4 with
            | 0 => ofI q.1
            | 1 => ofI q.2
            | 2 => if bit (wd d.track (4 + 4 * k)) 0 then ofI ((w.toNat : Int) + c) else w
            | _ => w }

/-- The estimate meets a function's requirement (Table 9-1). -/
def fnEstimate (s : State) (fn : Nat) : Bool :=
  if fn = 2 then s.fus.mode == 1 || s.fus.mode == 2 else if 3 ≤ fn then s.fus.mode == 1 else true

/-- A function takes effect at its boundary (R223, R224, R262). -/
def setFunction (fn : Nat) (s : State) : State :=
  let old := s.dpc.fn
  let fresh := fun (i : Fin 3) => autoAxis fn i && (!autoAxis old i || old == fn)
  let s := if fresh 0 then startPos s else if old == 4 && fn == 3 then
      (restAll s).onDpc fun d =>
        let q := restPos d
        { d with tgt := #v[q.1, q.2, angA (rne (runAll d.ax[2] d.plan[2]).x (2 ^ 32))], pct := 100 }
    else s
  let s := if fresh 2 then startYaw s else s
  let s := cancelDp (fun w => w == .mpc) s
  let s := s.onDpc fun d => { d with
    fn := fn
    preload := vmapI d.preload fun i x => if fresh i then (if old = 0 then 2 else 1) else x
    z := vmapI d.z fun i z => if autoAxis fn i then z else 0
    plan := vmapI d.plan fun i l => if autoAxis fn i then l else []
    moving := false, passed := false, reached := 0, reachDone := true
    mpcOn := false, mpcFell := false, mpcRun := 0, mpcSub := none, mpcReady := none
    tau := if old = 0 then Vector.replicate 3 0 else d.tau
    leg := 0xFF, phase := 0, paused := false, start := 0
    action := if fn = 4 then some (2, 0, s.sys.frame - 1) else none }
  if old = fn then s
  else raise 8 (old * 256 + fn) (s.onAlloc fun a => { a with firstFrame := true })

/-- The functions waiting for this boundary take effect in order (R223). -/
def fnTakes (s : State) : State :=
  s.dpc.fnReq.foldl (fun s r =>
    let (fn, p, tag) := r
    let done := fun (st detail : Nat) (s : State) => finish p tag 0 st detail [] (commit p tag s)
    if s.sys.mode != .control then finish p tag 3 0xF015 (modeCode s.sys.mode) [] s
    else if !fnEstimate s fn then done 0x5010 s.fus.mode s
    else if fn = 4 && s.dpc.track.isEmpty then finish p tag 3 0x5014 0 [] s
    else done 0 0 (setFunction fn s)) (s.onDpc fun d => { d with fnReq := [] })

/-! Load reduction (9.8). -/

/-- Available power of a section in a PMS frame, kW; none where it has no offset (R245). -/
def pmsField (s : State) (data : List Byte) (k : Fin 4) : Option Nat :=
  let o := fld (powW s 2) (8 * k.val + 7) (8 * k.val)
  if o = 0xFF || data.length < o + 2 then none else some (u16 data o)

/-- A section's limit under a new available power (R245): a decrease at once. -/
def newLimit (s : State) (old : Option Nat) (kw : Nat) : Option Nat :=
  let goal := kw * (100 - fld (powW s 3) 7 0) * 10
  match old with
  | some l => some (min l goal)
  | none => some goal

/-- New available powers take effect: limits, lost sections (R245, R247). -/
def setAvail (v : Vector (Option Nat) 4) (s : State) : State :=
  (fins 4).foldl (fun s k =>
    match v[k] with
    | none => s
    | some kw =>
      let lost := decide (kw < fld (powW s 5) 15 0)
      let was := s.dpc.secLost[k]
      let s := s.onDpc fun d => { d with
        avail := d.avail.set k (some kw), limit := d.limit.set k (newLimit s d.limit[k] kw), secLost := d.secLost.set k lost }
      let ts := (thrusters s).filter fun t => thrSection s t == k.val
      if lost && !was then ts.foldl (fun s t => detectCause t 4 s) s
      else if !lost && was then s.onAlloc fun a => { a with thr := vmapI a.thr fun i x => if ts.contains i.val && tb x.causes 4 then { x with absent := some s.time.mt } else x }
      else s) s

/-- PMS_FRAME (R245 to R248): with no PMS configured, or over a controller that is off its bus, there is none. -/
def execPmsFrame (data : List Byte) (s : State) : Host.Outcome State Fault Refusal :=
  .next (
    if !(fins 6).any (fun c => pmsPort s == c.val && canActive s c) then s
    else
      let was := s.dpc.pmsLost
      let s := s.onDpc fun d => { d with pmsMt := some s.time.mt, pmsLost := false }
      let s := setAvail (Vector.ofFn fun k => pmsField s data k) s
      if was then raise 13 2 s else s)

/-- PMS_TIMEOUT (R248). -/
def execPmsTimeout (s : State) : Host.Outcome State Fault Refusal :=
  .next (
    if pmsPort s = 7 || s.dpc.pmsLost then s
    else
      let s := match s.dpc.pmsMt with
        | some m => advanceTo (m + fld (powW s 3) 31 16 * msTicks) s
        | none => s
      let s := raise 13 258 (s.onDpc fun d => { d with pmsLost := true })
      if bit (powW s 4) 0 then
        setAvail (Vector.ofFn fun k : Fin 4 => if fld (powW s 2) (8 * k.val + 7) (8 * k.val) = 0xFF then none else some (fld (powW s 4) 31 16)) s
      else s)

/-! Commands. -/

/-- DPC_SET_FUNCTION (R223). -/
def execDpcSetFunction (p : Port) (s : State) : Host.Outcome State Fault Refusal :=
  .next (runOp .dpcSetFunction p (fun c s =>
    let fn := fld (wd c.words 0) 2 0
    let s := pending p c 10 s
    if !fnEstimate s fn then reject p c 0x5010 s.fus.mode s
    else if fn = 4 && s.dpc.track.isEmpty then reject p c 0x5014 0 s
    else s.onDpc fun d => { d with fnReq := d.fnReq ++ [(fn, p, c.tag)] }) s)

/-- The present position estimate, earth-fixed. -/
def estEcef (s : State) : Ecef := planeToEcef s.dpc.datum (estI s 0 * 2 ^ 20) (estI s 1 * 2 ^ 20)

/-- Datum words as a datum. -/
def datumOf (ws : List Word) : Datum := #v[(wd ws 0).toInt, (wd ws 1).toNat, (wd ws 2).toInt]

/-- DPC_SET_DATUM (R220). -/
def execDpcSetDatum (p : Port) (s : State) : Host.Outcome State Fault Refusal :=
  .next (configRow .dpcSetDatum p (fun _ ws s =>
    let n := datumOf ws
    if s.sys.mode == .control && 3 ≤ s.dpc.fn then some (0x5011, s.dpc.fn)
    else if s.dpc.datumSrc != 0 && decide (2000000000 < dist3 (ecefOf n[0] n[1] n[2]) (estEcef s)) then some (0xF016, 0)
    else none) s)

/-- DPC_SET_ROTATION_POINT (R221). -/
def execDpcSetRotationPoint (p : Port) (s : State) : Host.Outcome State Fault Refusal :=
  .next (configRow .dpcSetRotationPoint p (fun _ ws _ =>
    if 100000 < (wd ws 0).toInt.natAbs then some (0xF016, 0) else if 100000 < (wd ws 1).toInt.natAbs then some (0xF016, 1) else none) s)

/-- DPC_CONTROLLER_CONFIG (Table 18-11); every period in its range. -/
def execDpcControllerConfig (p : Port) (s : State) : Host.Outcome State Fault Refusal := .next (configRow .dpcControllerConfig p (fun _ _ _ => none) s)

/-- DPC_MPC_CONFIG (Table 9-7: H_STEP in 50 ms). -/
def execDpcMpcConfig (p : Port) (s : State) : Host.Outcome State Fault Refusal :=
  .next (configRow .dpcMpcConfig p (fun _ ws _ => if fld (wd ws 1) 31 16 % 50 != 0 then some (0xF016, 1) else none) s)

/-- DPC_MOVE_CONFIG (Table 18-11). -/
def execDpcMoveConfig (p : Port) (s : State) : Host.Outcome State Fault Refusal := .next (configRow .dpcMoveConfig p (fun _ _ _ => none) s)

/-- DPC_JOYSTICK_CONFIG (Table 18-11). -/
def execDpcJoystickConfig (p : Port) (s : State) : Host.Outcome State Fault Refusal := .next (configRow .dpcJoystickConfig p (fun _ _ _ => none) s)

/-- DPC_POWER_CONFIG (Table 18-11); an 11-bit identifier keeps its upper bits 0. -/
def execDpcPowerConfig (p : Port) (s : State) : Host.Outcome State Fault Refusal :=
  .next (configRow .dpcPowerConfig p (fun _ ws _ => if !bit (wd ws 0) 8 && decide (0x7FF < fld (wd ws 1) 28 0) then some (0xF016, 1) else none) s)

/-- DPC_SET_TARGET (R235, R236). -/
def execDpcSetTarget (p : Port) (s : State) : Host.Outcome State Fault Refusal :=
  .next (runOp .dpcSetTarget p (fun c s =>
    let ws := expertWords .dpcSetTarget c.expert c.words
    let s := pending p c 10 s
    match targetRefusal s ws with
    | some (st, detail) => reject p c st detail s
    | none => s.onDpc fun d => { d with targets := d.targets ++ [{ port := p, tag := c.tag, words := ws, frame := s.sys.frame }] }) s)

/-- An int16 fraction of DPC_JOYSTICK, -32,767 to 32,767 meaning -1 to +1. DESIGN CHOICE, log entry 29: -32,768 counts as -32,767. -/
def joyVal (n : Nat) : Int := max (-32767) (BitVec.ofNat 16 n).toInt

/-- DPC_JOYSTICK (R225, R226). -/
def execDpcJoystick (p : Port) (s : State) : Host.Outcome State Fault Refusal :=
  .next (runOp .dpcJoystick p (fun c s =>
    let v : Vector Int 3 := #v[joyVal (fld (wd c.words 0) 15 0), joyVal (fld (wd c.words 0) 31 16), joyVal (fld (wd c.words 1) 15 0)]
    ok p c 0 [] (s.onDpc fun d => { d with joyNext := some (v, s.sys.frame), joyMt := some s.time.mt })) s)

/-- DPC_TRACK_CONTROL (R244). -/
def execDpcTrackControl (p : Port) (s : State) : Host.Outcome State Fault Refusal :=
  .next (runOp .dpcTrackControl p (fun c s =>
    let a := fld (wd c.words 0) 1 0
    let w := fld (wd c.words 0) 15 8
    if a = 3 then badValue p c 0 s
    else if s.sys.mode != .control || s.dpc.fn != 4 then reject p c 0x5011 (if s.sys.mode == .control then s.dpc.fn else 0) s
    else if a = 2 && decide (trkN s.dpc ≤ w) then badValue p c 0 s
    else ok p c 0 [] (s.onDpc fun d => { d with action := some (a, w, s.sys.frame) })) s)

/-- DPC_STATUS (Table 18-12). -/
def execDpcStatus (p : Port) (s : State) : Host.Outcome State Fault Refusal :=
  .next (runOp .dpcStatus p (fun c s =>
    let d := s.dpc
    ok p c 0 ([pk [(d.fn, 28), (s.fus.mode, 24), (d.leg, 16), (trkN d, 8), (d.datumSrc, 0)], ofI d.datum[0], ofI d.datum[1], ofI d.datum[2], ofI d.rp[0], ofI d.rp[1]] ++
      (nomCap s).toList.map ofI) s) s)

/-- DPC_STATE_STREAM (Table 9-6). -/
def execDpcStateStream (p : Port) (s : State) : Host.Outcome State Fault Refusal :=
  .next (runOp .dpcStateStream p (fun c s => ok p c 0 [] (subscribe 0x5A0 0 p (fld (wd c.words 0) 7 0) 0 s)) s)

end Sys2Proof.Machine
end

