-- ==== Sys2Proof/Machine/Solver.lean ====
section
/-! DEFINITION. The solver commands and events (chapter 08): structures, tickets, the compare of copies, placement. -/

namespace Sys2Proof.Machine

/-! Completion of problems (R197, R198, R205, R206). -/

/-- Most entries that a final reply returns (Table 8-5). -/
def outRows (t : Ticket) : Nat := if t.outCount = 0 then 123 else t.outCount

/-- A problem's completion is entered in the ticket table with the common result (R197, R202). -/
def completeTicket (t : Ticket) (o : CopyOut) (s : State) : State :=
  match t.work with
  | .host =>
    let s := creditStruct t o s
    let (st, detail) := outcome t o
    let rows := if o.status = 0 then resultRows o t.outQty t.outFirst (outRows t) else []
    dropTicket t.id (finish t.port t.tag 0 st detail (replyHead s.time.mt t o ++ rows) (commit t.port t.tag s))
  | w =>
    let s := dropTicket t.id (creditDp t o s)
    match w with
    | .alloc => if o.status = 0 then allocResult t o.x s else allocNoResult o.status s
    | .mpc => if o.status = 0 then s.onDpc fun d => { d with mpcReady := some (mpcForces t o.x) } else mpcFall 1 s
    | .bank e => if o.status = 0 then bankResult e t o s else s
    | .capability => caEnded (o.status == 0) s
    | _ => s

/-- A problem ends with COMPARE_FAULT, which is a self-diagnosis failure (Table 8-9). -/
def compareFault (t : Ticket) (s : State) : State :=
  let rg := fun k => ((t.copies[k]?).map fun c => c.region).getD 0xF
  let gone := dropTicket t.id s
  let s := match t.work with
    | .host => if t.aborted then gone else endHost t 0x401A (rg 0 * 256 + rg 1) s
    | .alloc => allocNoResult 0x401A gone
    | .mpc => mpcFall 1 gone
    | .capability => caEnded false gone
    | _ => gone
  selfDiag 1 s

/-- Third copies that no region outside the pair can run any more end their problem (Table 8-9, row 3). -/
def endStuck (s : State) : State :=
  (s.solv.tickets.filter fun t => t.copies.length == 3 && (t.copies.any fun c => c.dead && c.out.isNone)).foldl (fun s t =>
    match t.copies[2]? with
    | some c => if c.dead && c.out.isNone && (extraCopy s t.work ((t.copies.take 2).map fun c => c.region)).isNone then compareFault t s else s
    | none => s) s

/-- A region is marked failed, with what follows for the problems (R206, R207). -/
def loseRegion (r : Fin 4) (cause code : Nat) (s : State) : State := serve (endStuck (markFailed r cause code s))

/-- A problem that was aborted leaves only its region verdict (R208). -/
def endTicket (t : Ticket) (o : CopyOut) (s : State) : State := if t.aborted then dropTicket t.id s else completeTicket t o s

/-- Changes the region of a number. -/
def onRegion (r : Nat) (f : Region → Region) (s : State) : State :=
  match fin? 4 r with
  | some i => s.onSolv fun v => { v with region := upd v.region i f }
  | none => s

/-- The region of copy k is marked failed by a majority (Table 8-9). -/
def failCopy (t : Ticket) (k : Nat) (s : State) : State :=
  match (t.copies[k]?).bind fun c => fin? 4 c.region with
  | some r => loseRegion r 1 1 s
  | none => s

/-- The compare unit on a ticket whose copies have all ended (R205, R206, Table 8-9). -/
def compareTicket (t : Ticket) (s : State) : State :=
  let out := fun k => (t.copies[k]?).bind fun c => c.out
  match out 0, out 1, out 2 with
  | some a, some b, none =>
    if t.copies.length = 3 then s
    else if a = b then endTicket t a s
    else
      let rg := fun k => ((t.copies[k]?).map fun c => c.region).getD 0
      let s := raise 49 (rg 0 * 256 + rg 1) s
      let bump := fun (x : Region) => { x with mismatch := satN 0xFFFF (x.mismatch + 1) }
      let s := onRegion (rg 0) bump (onRegion (rg 1) bump s)
      match extraCopy s t.work [rg 0, rg 1] with
      | some c =>
        let s' := if yields t.work then s else claim [c] s
        drawn (onTicket t.id (fun t => { t with copies := t.copies ++ [c], retried := true }) s')
      | none => compareFault t s
  | some a, some b, some c =>
    if c = a then failCopy t 1 (endTicket t a s)
    else if c = b then failCopy t 0 (endTicket t b s)
    else compareFault t s
  | _, _, _ => s

/-- A copy's saturations and regularised pivots in its region; those of a copy whose partner has ended with the same records are counted once (R188). -/
def creditRegion (t : Ticket) (k : Nat) (o : CopyOut) (s : State) : State :=
  let others := ((List.range t.copies.length).filter fun j => j != k).filterMap fun j => (t.copies[j]?).bind fun c => c.out
  let same := others.any fun p => p.sats == o.sats && p.satQty == o.satQty && p.satRow == o.satRow && p.regCount == o.regCount && p.regIndex == o.regIndex
  match t.copies[k]? with
  | some c => if same then s else onRegion c.region (fun x => { x with sat := satN 0xFFFF (x.sat + o.sats.sum), reg := satN 0xFFFF (x.reg + o.regCount) }) s
  | none => s

/-- What a copy has stored: the result of its problem, which is the same wherever it runs (R9), or the words of a faulty region, each of 64 bits. -/
def storedOut (t : Ticket) (err : Option CopyOut) : CopyOut :=
  let w := fun (n : Int) => (BitVec.ofInt 64 n).toInt
  match err with
  | none => runCopy t
  | some o => { o with x := o.x.map w, lambda := o.lambda.map w, s := o.s.map w }

/-- COPY_COMPLETE (R180 to R188, R199 to R206): a running copy ends with its stored words, having met ce corrected store errors (R182); the later copy of a pair is compared. err: what the copy stored where a fault of its region has spoilt the result. -/
def execCopyComplete (ticket : Nat) (copy : Fin 3) (ce : Nat) (err : Option CopyOut) (s : State) : Host.Outcome State Fault Refusal :=
  .next (match ticketOf s ticket with
    | none => s
    | some t =>
      match t.copies[copy.val]? with
      | none => s
      | some c =>
        if !running c then s
        else
          let o := storedOut t err
          let s := onRegion c.region (fun x => { x with eccCe := satN 0xFFFF (x.eccCe + ce) }) (charge s)
          let s := creditRegion t copy.val o s
          let t' := (ticketOf s ticket).getD t
          let t' := { t' with copies := t'.copies.set copy.val { c with out := some o } }
          let s := onTicket ticket (fun _ => t') s
          serve (if t.dup then compareTicket t' s else endTicket t' o s))

/-- STORE_UNCORRECTABLE_ERROR (R182, R206, R207): the copy is abandoned, its region marked failed, and its partner paired with a new copy. -/
def execStoreUncorrectableError (r : Fin 4) (ticket : Nat) (s : State) : Host.Outcome State Fault Refusal :=
  .next (match ticketOf s ticket with
    | some t => if t.copies.any fun c => c.region == r.val && running c then loseRegion r 2 2 s else s
    | none => s)

/-- HOST_PROBLEM_DEADLINE (R201). -/
def execHostProblemDeadline (ticket : Nat) (s : State) : Host.Outcome State Fault Refusal :=
  .next (match ticketOf s ticket with
    | some t => match t.deadline with
      | some d => if isHost t && !t.aborted then endHost t 0x4019 (satN 65535 t.deadlineMs) (advanceTo d s) else s
      | none => s
    | none => s)

/-- COPY_RESUME (R212): a suspended copy runs again on an idle cluster of the same region; one of the host only within the reserve (R27). -/
def execCopyResume (ticket : Nat) (copy : Fin 3) (s : State) : Host.Outcome State Fault Refusal :=
  .next (match ticketOf s ticket with
    | some t => match t.copies[copy.val]? with
      | some c =>
        let s := charge s
        match pick ((List.range 4).filter fun cl => (runningOn s c.region cl).isEmpty) (freeAt s 8) with
        | some cl =>
          if c.suspended && !c.dead && !(isHost t && s.solv.reserve == 0) then
            drawn (onTicket ticket (fun t => { t with copies := t.copies.set copy.val { c with suspended := false, cluster := cl } }) s)
          else s
        | none => s
      | none => s
    | none => s)

/-- Copies lost for want of a region start again where one has come back, in different regions (R10, R216). -/
def replaceDead (s : State) : State :=
  (byClass s.solv.tickets).foldl (fun s t =>
    (List.range t.copies.length).foldl (fun s k =>
      let now := (ticketOf s t.id).getD t
      match now.copies[k]? with
      | some c =>
        if c.dead && c.out.isNone then
          match extraCopy s t.work ((now.copies.filter fun c => !c.dead).map fun c => c.region) with
          | some n => drawn (onTicket t.id (fun t => { t with copies := t.copies.set k n }) s)
          | none => s
        else s
      | none => s) s) s

/-- Gazebo at a frame boundary: lane time is charged and the host reserve whole again (R27), the load of each region is known, the pairs rotate (R213), a hot copy is built where there is none (R8), lost copies are placed, waiting problems served, and the checkpoint written (R8). -/
def gazeboBoundary (s : State) : State :=
  let s := charge s
  let s := s.onSolv fun v => { v with
    reserve := 1000000
    rot := v.rot + 1
    hotFrom := if v.hotFrom == some s.sys.frame then v.hotFrom else none
    region := vmap v.region fun x => { x with load := min 100 (x.busy * 100 / (4 * frameTicks)), busy := 0 } }
  let s := if s.solv.hot.isNone then (if (gazeboRegions s (some s.solv.active)).isEmpty then s else buildHot (gazeboRegions s none) s) else s
  let s := serve (endStuck (replaceDead s))
  s.onSolv fun v => { v with ckRot := v.rot, ckTickets := (v.tickets.filter fun t => !t.copies.isEmpty).map fun t => t.id }

/-! Structure definitions (R190 to R194). -/

/-- Kinds a quantity serves (Table 8-2). -/
def qtyUsed (kind qty : Nat) : Bool :=
  match qty with
  | 0 => kind == 0 || kind == 2
  | 1 => kind == 1 || kind == 2 || kind == 3
  | 2 => kind == 0 || kind == 2 || kind == 3
  | 3 => kind == 1 || kind == 2 || kind == 3
  | 4 | 5 | 7 => kind == 2 || kind == 3
  | 6 | 9 => true
  | 8 => kind == 1 || kind == 2 || kind == 3
  | _ => false

/-- Rows of a quantity (Table 8-2); W counts as one. -/
def qtyRows (n m qty : Nat) : Nat :=
  if qty = 9 then 1 else if qty = 1 || qty = 3 || qty = 7 || qty = 8 then m else n

/-- The structure that an object of Table 8-3 declares. -/
def parseStruct (sid : Nat) (ws : List Word) : Struct :=
  let n := fld (wd ws 1) 7 0
  let m := fld (wd ws 1) 24 16
  let nnzA := fld (wd ws 2) 31 16
  let nnzH := fld (wd ws 2) 15 0
  let nf := fld (wd ws 3) 8 0
  let entry := fun (w : Word) => (fld w 15 8, fld w 7 0)
  { sid := sid, kind := fld (wd ws 0) 9 8, n := n, m := m, neq := fld (wd ws 3) 24 16
    size := residentSize n m nnzH nnzA nf
    patH := ((ws.drop 4).take nnzH).map entry
    patA := ((ws.drop (4 + nnzH)).take nnzA).map entry
    fmts := ((ws.drop (4 + nnzH + nnzA)).take nf).map fun w => (fld w 31 28, fld w 23 16, fld w 15 8, (w.extractLsb' 0 8).toInt) }

/-- Format entries that cover a row of a quantity. -/
def covers (x : Struct) (qty row : Nat) : Nat :=
  (x.fmts.filter fun f => f.1 == qty && f.2.1 ≤ row && row ≤ f.2.2.1).length

/-- The reason of STRUCT_INVALID (R191), in the order of its list. -/
def structFault (x : Struct) (ws : List Word) : Option Nat :=
  let nf := fld (wd ws 3) 8 0
  let nnzH := fld (wd ws 2) 15 0
  let header := fld (wd ws 0) 31 24 == 1 && 1 ≤ x.n && x.n ≤ 128 && x.m ≤ 256 && x.neq ≤ x.m && 1 ≤ nf && nf ≤ 256 &&
    ws.length == 4 + nnzH + fld (wd ws 2) 31 16 + nf && x.fmts.all fun f => decide (-32 ≤ f.2.2.2 ∧ f.2.2.2 ≤ 96)
  let pattern := (x.patH.all fun e => e.1 ≤ e.2 && e.2 < x.n) && (x.patA.all fun e => e.1 < x.m && e.2 < x.n) &&
    decide x.patH.Nodup && decide x.patA.Nodup
  let formats := ((List.range 9).all fun q => !qtyUsed x.kind q || (List.range (qtyRows x.n x.m q)).all fun r => covers x q r == 1) &&
    (x.fmts.filter fun f => f.1 == 9).length == 1
  let suits := !(x.kind == 3 && nnzH != 0) && !(x.kind == 0 && x.m != 0) && !(x.kind == 1 && nnzH != 0) &&
    !(x.kind == 2 && (List.range x.m).any fun r => !(x.patA.any fun e => e.1 == r))
  if !header then some 1
  else if !pattern then some 2
  else if !formats then some 3
  else if !suits then some 4
  else if 224 * 1024 < Config.workingSet ws then some 5
  else none

/-- Resident bytes of every structure but one, with what pending installations will hold (R191). -/
def residentBut (s : State) (sid : Nat) : Nat :=
  let next := (s.solv.installs.map fun i => i.s).filter fun x => x.sid != sid
  ((s.solv.structs.filter fun x => x.sid != sid && !(next.any fun y => y.sid == x.sid)).map fun x => x.size).sum + (next.map fun x => x.size).sum

/-- Total resident store (R191), and the bound of the structure ID of the host (8.3). -/
def residentMax : Nat := 1536 * 1024

/-- SOLV_STRUCT_DEFINE (R190 to R193): checks the staged definition, consumes it, and starts the installation. -/
def execSolvStructDefine (p : Port) (s : State) : Host.Outcome State Fault Refusal :=
  .next (runOp .solvStructDefine p (fun c s =>
    let sid := fld (wd c.words 0) 5 0
    let s := pending p c 5 s
    let staged := s.solv.staged.find? fun e => e.1 == sid
    let used := fun (s : State) => s.onSolv fun v => { v with staged := v.staged.filter fun e => e.1 != sid }
    if sid < 8 then reject p c 0x4012 0 s
    else if !(inFlight s sid).isEmpty then reject p c 0x4013 0 (used s)
    else match staged with
      | none => reject p c 0x4015 6 s
      | some (_, ws) =>
        let x := parseStruct sid ws
        match structFault x ws with
        | some r => reject p c 0x4015 r (used s)
        | none =>
          if residentMax < residentBut s sid + x.size then reject p c 0x4014 0 (used s)
          else (used s).onSolv fun v => { v with installs := v.installs ++ [{ sid := sid, port := p, tag := c.tag, s := x }] }) s)

/-- STRUCT_INSTALL_COMPLETE (R192): every healthy region holds the new copy and the table switches. -/
def execStructInstallComplete (s : State) : Host.Outcome State Fault Refusal :=
  .next (match s.solv.installs with
    | [] => s
    | i :: rest =>
      let s := installStruct i.s (s.onSolv fun v => { v with installs := rest })
      finish i.port i.tag 0 0 0 [] (commit i.port i.tag s))

/-- SOLV_STRUCT_DELETE (R193). -/
def execSolvStructDelete (p : Port) (s : State) : Host.Outcome State Fault Refusal :=
  .next (runOp .solvStructDelete p (fun c s =>
    let sid := fld (wd c.words 0) 5 0
    if sid < 8 then reject p c 0x4012 0 s
    else if (structOf s sid).isNone then reject p c 0x4011 sid s
    else if !(inFlight s sid).isEmpty then reject p c 0x4013 0 s
    else ok p c 0 [] (s.onSolv fun v => { v with structs := v.structs.filter fun x => x.sid != sid })) s)

/-! Values (R195). -/

/-- Value versions of a structure that tickets reference. -/
def versionsOf (s : State) (sid : Nat) : List Nat := ((inFlight s sid).map fun t => t.version).eraseDups

/-- The entries of a SOLV_UPDATE payload (Table 8-4). -/
def updateEntries (ws : List Word) : List SVal :=
  (List.range (fld (wd ws 0) 15 8)).map fun i =>
    let w := wd ws (1 + 3 * i)
    { qty := fld w 31 28, row := fld w 23 16, col := fld w 15 8
      v := (BitVec.ofNat 64 ((wd ws (2 + 3 * i)).toNat + (wd ws (3 + 3 * i)).toNat * 2 ^ 32)).toInt }

/-- The entry lies within the structure (R195); reserved bits of its first word are 0. -/
def entryOk (x : Struct) (w : Word) (e : SVal) : Bool :=
  fld w 27 24 == 0 && fld w 7 0 == 0 && e.qty ≤ 5 && qtyUsed x.kind e.qty &&
  (if e.qty = 0 then x.patH.contains (e.row, e.col) else if e.qty = 1 then x.patA.contains (e.row, e.col)
   else decide (e.row < qtyRows x.n x.m e.qty) && e.col == 0)

/-- A value is set; an unlisted value is 0 (R192). -/
def setVal (l : List SVal) (e : SVal) : List SVal :=
  let l' := l.filter fun y => !(y.qty == e.qty && y.row == e.row && y.col == e.col)
  if e.v = 0 then l' else l' ++ [e]

/-- The first word of a SOLV_UPDATE that R195 refuses: a structure of the pipeline, or an entry. -/
def updateBad (c : Cmd) (s : State) : Option Nat :=
  let es := updateEntries c.words
  if fld (wd c.words 0) 5 0 < 8 then some 0
  else match structOf s (fld (wd c.words 0) 5 0) with
    | none => none
    | some x => ((List.range es.length).find? fun i => !(entryOk x (wd c.words (1 + 3 * i)) (es.getD i ⟨9, 0, 0, 0⟩))).map fun i => 1 + 3 * i

/-- SOLV_UPDATE (R195): all entries or none; a version that tickets reference is kept for them. -/
def execSolvUpdate (p : Port) (s : State) : Host.Outcome State Fault Refusal :=
  .next (runOpV .solvUpdate p updateBad (fun c s =>
    let sid := fld (wd c.words 0) 5 0
    let es := updateEntries c.words
    match structOf s sid with
      | none => reject p c 0x4011 sid s
      | some x =>
          let held := versionsOf s sid
          let fresh := held.contains x.version
          if fresh && decide (4 ≤ held.length) then reject p c 0x4013 0 s
          else ok p c 0 [] (onStruct sid (fun x => { x with
            vals := es.foldl setVal x.vals, version := if fresh then x.version + 1 else x.version }) s)) s)

/-- SOLV_STRUCT_QUERY (Table 8-14). -/
def execSolvStructQuery (p : Port) (s : State) : Host.Outcome State Fault Refusal :=
  .next (runOp .solvStructQuery p (fun c s =>
    let sid := fld (wd c.words 0) 5 0
    match structOf s sid with
    | none => reject p c 0x4011 sid s
    | some x => ok p c 0 ([pk [(x.gen, 16), (x.kind, 8), (x.n, 0)], pk [(x.m, 16), (x.neq, 0)], ofN x.size,
        pk [((inFlight s sid).length, 8), (b2n x.result.isSome, 4), ((versionsOf s sid).length, 0)]] ++
        (x.sat.toList.map ofN) ++ [ofN x.nReg, ofN x.nSubmit]) s) s)

/-! Submission (R196, R203). -/

/-- Why the warm start asked for is not used (R203); 0 when it is used or none is asked for. -/
def warmReason (s : State) (x : Struct) (w0 : Word) : Nat :=
  match fld w0 9 8 with
  | 1 => match x.result with | some r => if r.gen = x.gen then 0 else 2 | none => 3
  | 2 => match s.solv.warm.toList.getD (fld w0 14 12) none with
    | none => 4
    | some ws => if fld (wd ws 0) 5 0 != x.sid then 1 else if fld (wd ws 0) 31 16 != x.gen then 2 else 0
  | _ => 0

/-- int64 values of an object, two words each. -/
def int64s (ws : List Word) : List Int :=
  (List.range (ws.length / 2)).map fun i => (BitVec.ofNat 64 ((wd ws (2 * i)).toNat + (wd ws (2 * i + 1)).toNat * 2 ^ 32)).toInt

/-- The warm-start vector captured (R203): X, LAMBDA and S of the latest result or of the store. -/
def warmVector (s : State) (x : Struct) (w0 : Word) : List Int :=
  if warmReason s x w0 != 0 then []
  else match fld w0 9 8 with
    | 1 => match x.result with | some r => pointOf r.out | none => []
    | 2 => int64s (((s.solv.warm.toList.getD (fld w0 14 12) none).getD []).drop 2)
    | _ => []

/-- SOLV_SUBMIT (R196, R201, R203, R204). A command without a free ticket or without its structure ends with words 1 to 7 of what it asked for. -/
def execSolvSubmit (p : Port) (s : State) : Host.Outcome State Fault Refusal :=
  .next (runOpV .solvSubmit p (fun c s =>
      let w0 := wd c.words 0
      let cold := match structOf s (fld w0 5 0) with | some x => x.kind == 0 || x.kind == 1 | none => false
      if fld w0 5 0 < 8 || (cold && fld w0 9 8 != 0) then some 0 else none) (fun c s =>
    let ws := expertWords .solvSubmit c.expert c.words
    let w0 := wd ws 0
    let w1 := wd ws 1
    let sid := fld w0 5 0
    let x? := structOf s sid
      let ms := match x? with | some x => Config.solveMs x.kind x.n x.m x.neq | none => 0
      let s := pending p c ms s
      let d := (wd ws 2).toNat
      let t : Ticket := {
        id := 0, work := .host, port := p, tag := c.tag, sid := sid
        dup := bit w1 24, tauExp := fld w1 23 16, tolExp := fld w1 15 8, maxIter := fld w1 7 0
        deadlineMs := d, deadline := if d = 0 then none else some (s.time.mt + d * msTicks)
        outQty := fld (wd ws 3) 31 28, outFirst := fld (wd ws 3) 15 8, outCount := fld (wd ws 3) 7 0 }
      match freeTicket s 192 255, x? with
      | none, _ => finish p c.tag 3 0x4010 64 (replyHead s.time.mt t { iter := 0 }) s
      | some _, none => finish p c.tag 3 0x4011 sid (replyHead s.time.mt t { iter := 0 }) s
      | some id, some x =>
        let r := warmReason s x w0
        openTicket { t with
          id := id, gen := x.gen, version := x.version, on := asSubmitted x
          warmDisc := r != 0, warmReason := r, vals := x.vals, warmVec := warmVector s x w0 } (setUnit p c.tag id s)) s)

/-- SOLV_RESULT_READ (R198, Table 18-10). -/
def execSolvResultRead (p : Port) (s : State) : Host.Outcome State Fault Refusal :=
  .next (runOp .solvResultRead p (fun c s =>
    let w := wd c.words 0
    let sid := fld (wd c.words 1) 5 0
    match structOf s sid with
    | none => reject p c 0x4011 sid s
    | some x => match x.result with
      | none => finish p c.tag 0 0x401C 0 [] s
      | some r =>
        let rows := resultRows r.out (fld w 31 28) (fld w 15 8) (fld w 7 0)
        ok p c 0 (pk [(r.gen, 16), (r.tag % 256, 8), (rows.length / 2, 0)] :: rows) s) s)

/-- Table 8-15 STATE of a region: OFF under the wake budget while its domain is not on. -/
def regionCode (s : State) (r : Fin 4) : Nat :=
  match (s.solv.region[r]).st with
  | .failed => 3
  | .cooling => 2
  | .hot => if s.sys.dom[regDom r] == .on then 1 else 4
  | _ => if s.sys.dom[regDom r] == .on then 0 else 4

/-- What cluster 4r + i runs (Table 8-15): a running copy first, then a suspended one. -/
def clusterWord (s : State) (cl : Nat) : Word :=
  let here := fun (c : Copy) => 4 * c.region + c.cluster == cl && c.out.isNone && !c.dead
  match s.solv.tickets.find? fun t => t.copies.any fun c => here c && !c.suspended with
  | some t => pk [(classCode t.work, 24), (t.id, 16), (t.sid, 0)]
  | none => match s.solv.tickets.find? fun t => t.copies.any fun c => here c with
    | some t => pk [(6, 24), (t.id, 16), (t.sid, 0)]
    | none => pk [(0xFF, 16), (0xFF, 0)]

/-- SOLV_PLACEMENT (R210, Table 8-15). -/
def execSolvPlacement (p : Port) (s : State) : Host.Outcome State Fault Refusal :=
  .next (runOp .solvPlacement p (fun c s =>
    let regs := (fins 4).flatMap fun r =>
      let x := s.solv.region[r]
      [pk [(regionCode s r, 28), (b2n (s.solv.active == r), 24), ((BitVec.ofInt 8 x.temp).toNat, 16), (satN 255 x.load, 8)],
       pk [(x.mismatch, 16), (x.eccCe, 0)], pk [(x.sat, 16), (x.reg, 0)]]
    let kib := fun (host : Bool) => cdiv (((s.solv.structs.filter fun x => decide (8 ≤ x.sid) == host).map fun x => x.size).sum) 1024
    let tk := fun (host : Bool) => (s.solv.tickets.filter fun t => isHost t == host).length
    let period := match s.alloc.caDone with | some x => x.period | none => 0
    ok p c 0 (regs ++ ((List.range 16).map (clusterWord s)) ++
      [pk [(tk false, 16), (tk true, 0)], pk [(kib false, 16), (kib true, 0)], ofN period]) s) s)

end Sys2Proof.Machine
end

