-- ==== Sys2Proof/Machine/Woodshed.lean ====
section
/-! DEFINITION. The Woodshed: ring, flush, power fail, counters, rate limits, commands (chapter 16). -/

namespace Sys2Proof.Machine

/-- Slots of the ring, and of a sector (R389). -/
def ringSlots : Nat := 2097152
def sectorSlots : Nat := 2048

/-- Words 0 to 2 of LOG_CONFIG in force (Table 16-6). -/
def logBuffered (s : State) : Bool := bit (wd (s.inForce .logConfig) 0) 0
def flushAge (s : State) : Nat := fld (wd (s.inForce .logConfig) 1) 31 16
def flushAt (s : State) : Nat := fld (wd (s.inForce .logConfig) 1) 8 0
def summaryS (s : State) : Nat := fld (wd (s.inForce .logConfig) 2) 15 0

/-- Exactly n bytes: cut or filled with zeros. -/
def padTo (n : Nat) (bs : List Byte) : List Byte := (bs ++ List.replicate n 0).take n

/-- The 32 bytes of a record (Table 16-1, R387). -/
def recBytes (r : Rec) : List Byte :=
  let b := leBytes 2 r.code ++ leBytes 1 r.source ++ leBytes 1 (r.sev * 16 + b2n r.fwd) ++ leBytes 4 r.opSec ++ leBytes 2 r.opMs ++
    leBytes 4 r.pwrCyc ++ leBytes 4 r.seq ++ padTo 10 r.payload
  b ++ leBytes 2 (crc16 b).toNat ++ leBytes 2 0xA55A

/-- Programs the slot at the head; when the head enters a sector, the erase of the sector two ahead begins and its records are discarded (R389). -/
def programSlot (x : Slot) (l : LogState) : LogState :=
  let ring := l.ring ++ [(l.head, x)]
  let head := (l.head + 1) % ringSlots
  let torn := match x with | .torn => satN 0xFFFFFFFF (l.nTorn + 1) | .full _ => l.nTorn
  if head % sectorSlots = 0 then
    let sec := (head / sectorSlots + 2) % 1024
    { l with ring := ring.filter (fun e => e.1 / sectorSlots != sec), head := head, erasing := some sec, nTorn := torn }
  else { l with ring := ring, head := head, nTorn := torn }

/-- Programs records in order; a true of bad is a program or read-back that fails: the slot is left torn and the record goes to the next (R392). -/
def programAll (bad : List Bool) : List Rec → LogState → LogState
  | [], l => l
  | r :: rs, l =>
    let fails := bad.takeWhile id
    let l := fails.foldl (fun l _ => programSlot .torn l) l
    programAll (bad.drop (fails.length + 1)) rs (programSlot (.full r) l)

/-- Flash PD13 and NF1 can be programmed (R392). -/
def logFlashOk (s : State) : Bool := s.sys.nf1Ok && s.sys.dom[11] == .on

/-- A flush: every queued record in SEQ order, then BUFFER_OVERFLOW for the records dropped since the last (R390, R391). -/
def flush (bad : List Bool) (s : State) : State :=
  if logFlashOk s then
    let mode := logBuffered s
    let s := s.onLog fun l => programAll bad l.queue { l with queue := [], ringMode := if l.queue.isEmpty then l.ringMode else mode }
    match s.log.dropped with
    | none => s
    | some (first, k) =>
      let s := (newRec 0x010D 0x83 3 false (leBytes 4 first ++ leBytes 4 k) (s.onLog fun l => { l with dropped := none })).1
      s.onLog fun l => programAll [] l.queue { l with queue := [] }
  else s

/-- A start condition of R390 holds now: DIRECT, FLUSH_AT, or a record of severity ALARM or FAULT. -/
def flushDue (s : State) : Bool :=
  !s.log.queue.isEmpty && (!logBuffered s || flushAt s ≤ s.log.queue.length || s.log.queue.any fun r => 3 ≤ r.sev)

/-- MT ticks until the oldest queued record reaches FLUSH_AGE_S. -/
def flushWait (s : State) : Nat :=
  match s.log.queue with
  | [] => 0
  | r :: _ => (r.opSec * 1000 + r.opMs + flushAge s * 1000 - s.time.opTicks * 1000 / 32768) * msTicks

/-- LOG_FLUSH (R390, R391): at a start condition, at the latest when the oldest record reaches FLUSH_AGE_S. -/
def execLogFlush (bad : List Bool) (s : State) : Host.Outcome State Fault Refusal :=
  .next (
    if s.log.queue.isEmpty || s.log.discard then s
    else if flushDue s then flush bad s
    else flush bad (advance (flushWait s) s))

/-- PD13 enters its budget state once no flash operation is in progress, while the module sleeps (R87). -/
def pd13Budget (s : State) : State :=
  if s.sys.mode == .dormant && s.sys.dom[0] != .on && !s.sys.exiting[0] && !flashBusy s then
    s.onSys fun y => { y with dom := y.dom.set 11 (budgetState 11 s.hp.wakeBudget) }
  else s

/-- SECTOR_ERASE_COMPLETE (R389): the sector is erased; PD13 may enter its budget state (R87). -/
def execSectorEraseComplete (s : State) : Host.Outcome State Fault Refusal :=
  .next (if s.log.erasing.isSome then pd13Budget (s.onLog fun l => { l with erasing := none }) else s)

/-- The SUMMARY records of the running interval (R400). -/
def summaries (s : State) : State :=
  let all := s.log.supp
  all.foldl (fun s x => record 0x0102 0x83 0 (leBytes 2 x.code ++ leBytes 4 x.n ++ leBytes 4 x.first) s)
    (s.onLog fun l => { l with supp := [] })

/-- MT ticks until the operating time reaches t Ember ticks. -/
def opWait (t : Nat) (s : State) : Nat := cdiv ((t - s.time.opTicks) * 390625 - s.time.phase) 128

/-- SUMMARY_INTERVAL_END (R400). -/
def execSummaryIntervalEnd (s : State) : Host.Outcome State Fault Refusal :=
  .next (if s.sys.vmain && s.hp.ready then
      let s := advance (opWait (s.log.interval * 32768) s) s
      (summaries s).onLog fun l => { l with interval := l.interval + summaryS s }
    else s)

/-- COUNTER_CHECKPOINT (R396): 3,600 s of operating time after the latest record. -/
def execCounterCheckpoint (s : State) : Host.Outcome State Fault Refusal :=
  .next (if s.sys.vmain && s.hp.ready then
      let s := advance (opWait (s.log.lastOp + 3600 * 32768) s) s
      record 0x0103 0x83 0 (leBytes 8 s.time.mt ++ [0, 0]) s
    else s)

/-- A LOG_CONFIG takes effect (R390, R400): DIRECT flushes the queue; a changed SUMMARY_S ends the interval at the next point of the new grid. -/
def logConfigTakes (old : State) (s : State) : State :=
  let s := if summaryS old != summaryS s then
      s.onLog fun l => { l with interval := (s.time.opTicks / 32768 / summaryS s + 1) * summaryS s }
    else s
  if logBuffered old && !logBuffered s then flush [] s else s

/-- An erase in progress is abandoned (R394). -/
def eraseAbandoned (l : LogState) : LogState := { l with erasing := none, again := l.erasing <|> l.again }

/-- The erase of an abandoned sector begins again at a start (R394). -/
def eraseAgain (l : LogState) : LogState := { l with erasing := l.erasing <|> l.again, again := none }

/-- The power-fail flush (R394, R400): the running SUMMARY records, then POWER_FAIL as the last record, all programmed; later records are discarded. While PD2 is off or the die is in reset nothing is written (R393). -/
def powerFailFlush (s : State) : State :=
  let s := s.onSys fun y => { y with pfail := true }
  if !s.hp.ready || pd2Off s || s.log.discard then s
  else
    let mt := s.time.mt
    let s := summaries (s.onLog eraseAbandoned)
    let n := s.log.queue.length + b2n s.log.dropped.isSome + 1
    let s := flush [] s
    let s := (newRec 0x010E 0x83 2 false (leBytes 2 n ++ leBytes 8 mt) s).1
    (flush [] s).onLog fun l => { l with discard := true }

/-- POWER_FAIL_FLUSH (R394). -/
def execPowerFailFlush (s : State) : Host.Outcome State Fault Refusal :=
  .next (if s.sys.pfail || !s.sys.vmain then s else powerFailFlush s)

/-- PFAIL_RECOVERY (R394): recording continues in the configured mode. -/
def execPfailRecovery (s : State) : Host.Outcome State Fault Refusal :=
  .next (if s.sys.pfail && s.sys.vmain then
      (s.onSys fun y => { y with pfail := false }).onLog fun l => { l with discard := false }
    else s)

/-! Commands (16.7). -/

/-- LOG_CONFIG (Table 16-6): at the next boundary. -/
def execLogConfig (p : Port) (s : State) : Host.Outcome State Fault Refusal :=
  .next (configRow .logConfig p (fun _ _ _ => none) s)

/-- LOG_RATE (R401): in effect at once, with the bucket refilled. -/
def execLogRate (p : Port) (s : State) : Host.Outcome State Fault Refusal :=
  .next (runOpV .logRate p (fun c _ => if limited (fld (wd c.words 0) 15 0) then none else some 0) (fun c s =>
    let code := fld (wd c.words 0) 15 0
    let s := setConfig p c.tag .logRate code c.words false s
    let s := s.onLog fun l => { l with bucket := l.bucket.filter fun b => b.code != code }
    ok p c 0 [] (forward p c s)) s)

/-- The records held in the ring or the queue, oldest first (R402). -/
def heldRecs (s : State) : List Rec :=
  s.log.ring.filterMap (fun e => match e.2 with | .full r => some r | .torn => none) ++ s.log.queue

/-- Sequence number a comes before b (R388). -/
def seqBefore (a b : Nat) : Bool := (BitVec.ofNat 32 a - BitVec.ofNat 32 b).msb

/-- LOG_READ (R402). -/
def execLogRead (p : Port) (s : State) : Host.Outcome State Fault Refusal :=
  .next (runOp .logRead p (fun c s =>
    let w := wd c.words 0
    let first := (wd c.words 1).toNat
    let n := fld w 15 8
    let rs := heldRecs s
    let pick := (match fld w 1 0 with
      | 0 => rs.filter fun (r : Rec) => !seqBefore r.seq first
      | 1 => rs
      | _ => rs.drop (rs.length - n)).take n
    let gone := fld w 1 0 == 0 && seqBefore first s.log.seq && !(rs.any fun (r : Rec) => r.seq == first)
    let next := match pick.getLast? with
      | some r => ofN (r.seq + 1)
      | none => if fld w 1 0 = 0 then wd c.words 1 else ofN s.log.seq
    ok p c 0 ([next, pk [(b2n gone, 8), (pick.length, 0)]] ++ pick.flatMap (fun (r : Rec) => bWords (recBytes r))) s) s)

/-- LOG_STATUS (Table 16-7). DESIGN CHOICE, log entry 88: a flush is one step, so no command sees it running and FLUSHING reads 0. OLDEST_SEQ with no record held is free (log entry 3). -/
def execLogStatus (p : Port) (s : State) : Host.Outcome State Fault Refusal :=
  .next (runOp .logStatus p (fun c s =>
    let oldest := match heldRecs s with | r :: _ => ofN r.seq | [] => ofI (Config.freeInt s.free)
    ok p c 0 [pk [(s.log.queue.length, 16), (b2n s.sys.nf1Ok, 1), (b2n (logBuffered s), 0)], oldest, ofN s.log.seq,
      ofN (s.log.head / sectorSlots), ofN s.log.nLost, ofN s.log.nSupp, ofN s.log.nTorn] (drawn s)) s)

/-- LOG_WRITE (R401). After a power-fail flush the record is discarded without a SEQ (R394), which the reply gives as LOG_DROPPED with a free detail. -/
def execLogWrite (p : Port) (s : State) : Host.Outcome State Fault Refusal :=
  .next (runOp .logWrite p (fun c s =>
    let pay := ((wBytes (c.words.drop 1)).take 10)
    let x := newRec (fld (wd c.words 0) 15 0) (0x80 + portNum p) 1 false pay s
    let s' := overflow s x.1
    match x.2 with
    | .created n => ok p c (n % 65536) [] s'
    | .suppressed => finish p c.tag 0 0xC010 0 [] s'
    | .dropped n => finish p c.tag 0 0xC011 (n % 65536) [] s'
    | .none => finish p c.tag 0 0xC011 (Config.freeInt s'.free).toNat [] (drawn s')) s)

/-- The raw words of a sector (R402): a record's words, all ones where unwritten, free words where torn or partly erased (log entry 3). -/
def sectorWords (s : State) (sec : Nat) : List Word :=
  (List.range sectorSlots).flatMap fun i =>
    let idx := sec * sectorSlots + i
    let raw := (List.range 8).map fun j => ofI (Config.freeInt (s.free + 8 * i + j))
    if s.log.erasing = some sec || s.log.again = some sec then raw
    else match s.log.ring.find? fun e => e.1 == idx with
      | some (_, .full r) => bWords (recBytes r)
      | some (_, .torn) => raw
      | none => List.replicate 8 0xFFFFFFFF

end Sys2Proof.Machine
end

