-- ==== Sys2Proof/Machine/Storage.lean ====
section
/-! DEFINITION. Calibration, configuration banks, commit and load (chapter 15). -/

namespace Sys2Proof.Machine

/-! Calibration items (Table 15-1). -/

/-- How an item combines F and T (15.1). -/
inductive CalKind where | add | gain | set | fixed
  deriving DecidableEq, Repr

/-- Elements, kind and trim range of an item; none for an unknown code. -/
def calItem : Nat → Option (Nat × CalKind × Int × Int)
  | 0x01 => some (3, .add, -165700, 165700)
  | 0x02 => some (3, .gain, -10000000, 10000000)
  | 0x03 => some (6, .add, -10000000, 10000000)
  | 0x04 => some (3, .add, -490000, 490000)
  | 0x05 => some (3, .gain, -10000000, 10000000)
  | 0x06 => some (6, .add, -10000000, 10000000)
  | 0x07 => some (3, .set, -2147483648, 2147483647)
  | 0x08 => some (16, .add, -5000000, 5000000)
  | 0x09 => some (16, .gain, -10000000, 10000000)
  | 0x0A => some (8, .add, -50000, 50000)
  | 0x0B => some (8, .gain, -10000000, 10000000)
  | 0x0C => some (2, .add, 0, 2000000)
  | 0x0D => some (4, .fixed, 0, 0)
  | _ => none

/-- F of an element: nominal after a bad factory block (R373); a temperature polynomial at the present readout temperature, and every other F, are the module's own. -/
def calF (s : State) (item elem : Nat) : Int :=
  match calItem item with
  | some (_, .set, _, _) => 0
  | _ => if s.sys.factoryBad then 0 else if item = 1 || item = 4 then sat32 (Config.tempPoly item elem s.fir.temp) else sat32 (Config.factory item elem)

/-- T of an element in a configuration. -/
def calT (l : List CfgEntry) (item elem : Nat) : Int :=
  match cfgFind l .calSet (item * 256 + elem) with
  | some ws => (wd ws 1).toInt
  | none => 0

/-- E of an element from F and T (15.1). -/
def calE (kind : CalKind) (f t : Int) : Int :=
  match kind with
  | .add => sat32 (f + t)
  | .gain => sat32 (rne ((1000000000 + f) * (1000000000 + t)) 1000000000 - 1000000000)
  | .set => t
  | .fixed => f

/-- The effective value in force of an element. -/
def calEff (s : State) (item elem : Nat) : Int :=
  match calItem item with
  | some (_, kind, _, _) => calE kind (calF s item elem) (calT s.cfg.force item elem)
  | none => 0

/-- R375: the refusal of a CAL_SET. -/
def calCheck (ws : List Word) : Option (Nat × Nat) :=
  match calItem (fld (wd ws 0) 15 8) with
  | none => some (0xF016, 0)
  | some (n, kind, lo, hi) =>
    let t := (wd ws 1).toInt
    if n ≤ fld (wd ws 0) 7 0 then some (0xF016, 0)
    else if kind = .fixed then some (0xB013, 0)
    else if t < lo || hi < t then some (0xF016, 1)
    else none

/-- CAL_SET (R375). -/
def execCalSet (p : Port) (s : State) : Host.Outcome State Fault Refusal :=
  .next (configRow .calSet p (fun _ ws _ => calCheck ws) s)

/-- CAL_READ (Table 15-2). -/
def execCalRead (p : Port) (s : State) : Host.Outcome State Fault Refusal :=
  .next (runOp .calRead p (fun c s =>
    let item := fld (wd c.words 0) 15 8
    let elem := fld (wd c.words 0) 7 0
    match calItem item with
    | none => badValue p c 0 s
    | some (n, kind, _, _) =>
      if n ≤ elem then badValue p c 0 s
      else
        let inst := item * 256 + elem
        let f := calF s item elem
        let t := if kind = .fixed then 0 else calT s.cfg.force item elem
        ok p c 0 [pk [(b2n (s.awaits .calSet inst), 17), (b2n (cfgFind s.cfg.work .calSet inst).isSome, 16), (item, 8), (elem, 0)],
          ofI f, ofI t, ofI (calE kind f t)] s) s)

/-! The working configuration and the banks (15.4). -/

/-- CFG_MODULE (R379). -/
def execCfgModule (p : Port) (s : State) : Host.Outcome State Fault Refusal :=
  .next (configRow .cfgModule p (fun _ _ _ => none) s)

/-- START_ROLE in force: 0 DORMANT, 1 STANDBY, 2 CONTROL. -/
def startRole (s : State) : Nat := fld (wd (s.inForce .cfgModule) 0) 1 0

/-- HOLDOVER_LIMIT in force, microseconds. -/
def holdoverLimit (s : State) : Nat := (wd (s.inForce .cfgModule) 1).toNat

/-- A bank is valid (R381): its mark, its CRC, its format. -/
def bankValid (b : Bank) : Bool := b.valid && b.crcOk && b.format ≤ Config.cfgFormat.toNat

/-- The larger valid generation; 0 when neither bank is valid. -/
def maxGen (s : State) : Nat := max (if bankValid s.cfg.bank[0] then s.cfg.bank[0].gen else 0) (if bankValid s.cfg.bank[1] then s.cfg.bank[1].gen else 0)

/-- The bank that the next commit writes (15.4, R385). -/
def commitTarget (s : State) : Fin 2 :=
  match s.cfg.inUse with
  | some b => if b = 0 then 1 else 0
  | none =>
    let a := s.cfg.bank[0]
    let b := s.cfg.bank[1]
    if !bankValid a && !bankValid b then 0
    else if !bankValid a then 0
    else if !bankValid b then 1
    else if b.gen < a.gen then 1 else 0

/-- Entries that count for CFG_CRC and DIRTY: a trim of 0 is the same as none (R380). -/
def cfgNorm (l : List CfgEntry) : List CfgEntry := l.filter fun e => !(e.op == .calSet && wd e.words 1 == 0)

/-- The configuration of the bank in use; empty for the defaults. -/
def bankImage (s : State) : List CfgEntry :=
  match s.cfg.inUse with
  | some b => s.cfg.bank[b].image
  | none => []

/-- CFG_EVENT (EV124, R386). -/
def cfgEvent (bank result : Nat) (s : State) : State := raise 124 (bank * 256 + result) s

/-- A commit starts (Table 15-5 steps 1 and 2): the image is captured, the target bank loses its mark and gets BEGIN and its generation. -/
def startCommit (p : Port) (tag : Nat) (fwd : Bool) (s : State) : State :=
  let t := commitTarget s
  let g := (maxGen s + 1) % 2 ^ 32
  s.onCfg fun c => { c with
    commit := some { port := p, tag := tag, fwd := fwd, target := t, gen := g, image := c.work }
    bank := upd c.bank t fun b => { b with valid := false, begun := true, gen := g } }

/-- A commit ends without its result (R383): BEGIN is cleared, EV124, and the reply st with its detail, unless it was forwarded. -/
def failCommit (result cls st detail : Nat) (s : State) : State :=
  match s.cfg.commit with
  | none => s
  | some k =>
    let s := s.onCfg fun c => { c with commit := none, bank := upd c.bank k.target fun b => { b with begun := false } }
    let s := cfgEvent k.target.val result s
    pd13Budget (if k.fwd then s else finish k.port k.tag cls st detail [] s)

/-- CFG_COMMIT (R382 to R384). -/
def execCfgCommit (p : Port) (s : State) : Host.Outcome State Fault Refusal :=
  .next (runOp .cfgCommit p (fun c s =>
    let s := pending p c 4200 s
    if s.cfg.commit.isSome then reject p c 0xB010 0 s
    else
      let s := forward p c (startCommit p c.tag false s)
      if s.sys.nf0Ok then s else failCommit 1 0 0xB011 2 s) s)

/-- Control point words of a configuration; zeros without a vessel model (Table 15-3). -/
def cpOf (l : List CfgEntry) : Vector Word 3 :=
  match cfgFind l .bulkClose 64 with
  | some ws => #v[wd ws 1, wd ws 2, wd ws 3]
  | none => Vector.replicate 3 0

/-- CFG_COMMIT_COMPLETE (Table 15-5 step 6, R383, R386): the valid mark and its change record, or a failed read-back; PD13 may then sleep (R87). -/
def execCfgCommitComplete (readbackOk : Bool) (s : State) : Host.Outcome State Fault Refusal :=
  .next (match s.cfg.commit with
    | none => s
    | some k =>
      if !readbackOk then failCommit 1 0 0xB011 1 s
      else
        let before := match s.cfg.inUse with | some _ => cfgCrc (cfgNorm (bankImage s)) | none => 0
        let s := s.onCfg fun c => { c with
          commit := none, inUse := some k.target
          cpStored := c.cpStored || (c.cpPending && cpOf k.image == cpOf c.work)
          bank := upd c.bank k.target fun b => { begun := true, valid := true, gen := k.gen, format := Config.cfgFormat.toNat, crcOk := true, writes := b.writes + 1, image := k.image } }
        let s := changeRecord k.port k.tag .cfgCommit k.target.val before (cfgCrc (cfgNorm k.image)) k.fwd s
        let s := cfgEvent k.target.val 0 s
        pd13Budget (if k.fwd then s else finish k.port k.tag 0 0 (k.gen % 65536) [] s))

/-- CFG_LOAD (R385): it waits for the next frame boundary. -/
def execCfgLoad (p : Port) (s : State) : Host.Outcome State Fault Refusal :=
  .next (runOp .cfgLoad p (fun c s =>
    let s := pending p c (cdiv (nextBoundary s.time.mt - s.time.mt) msTicks) s
    let b := fld (wd c.words 0) 1 0
    let bad := match fin? 2 b with | some i => !bankValid s.cfg.bank[i] | none => false
    if bad then reject p c 0xB012 b s
    else forward p c (s.onCfg fun k => { k with loads := k.loads ++ [{ port := p, tag := c.tag, bank := b }] })) s)

/-- CFG_STATUS (Table 15-6). -/
def execCfgStatus (p : Port) (s : State) : Host.Outcome State Fault Refusal :=
  .next (runOp .cfgStatus p (fun c s =>
    let a := s.cfg.bank[0]
    let b := s.cfg.bank[1]
    let inUse := match s.cfg.inUse with | some i => i.val | none => 2
    let gen := fun x : Bank => if bankValid x then ofN x.gen else 0
    ok p c 0 [pk [(b2n s.cfg.commit.isSome, 31), (b2n (cfgNorm s.cfg.work != cfgNorm (bankImage s)), 30), (b2n s.sys.factoryBad, 29), (b2n s.cfg.cpPending, 28),
        (inUse, 26), (b2n (bankValid b), 25), (b2n (bankValid a), 24), (Config.cfgFormat.toNat, 16)],
      gen a, gen b, cfgCrc (cfgNorm s.cfg.work), ofN a.writes, ofN b.writes] s) s)

/-- FLASH_LOSS (R383, R392): records accumulate; a commit ends with detail 2; EV122 for NF1. -/
def execFlashLoss (nf0 nf1 : Bool) (s : State) : Host.Outcome State Fault Refusal :=
  .next (
    let lost1 := nf1 && s.sys.nf1Ok
    let s := s.onSys fun y => { y with nf0Ok := y.nf0Ok && !nf0, nf1Ok := y.nf1Ok && !nf1 }
    let s := if lost1 then raise 122 0 s else s
    if nf0 then failCommit 1 0 0xB011 2 s else s)

/-- FLASH_RETURN (R392): EV122 with detail 1, and a flush. -/
def execFlashReturn (nf0 nf1 : Bool) (s : State) : Host.Outcome State Fault Refusal :=
  .next (
    let back1 := nf1 && !s.sys.nf1Ok
    let s := s.onSys fun y => { y with nf0Ok := y.nf0Ok || nf0, nf1Ok := y.nf1Ok || nf1 }
    if back1 then flush [] (raise 122 1 s) else s)

end Sys2Proof.Machine
end

