-- ==== Sys2Proof/Machine/Modes.lean ====
section
/-! DEFINITION. Mode changes (3.1, 3.2): the transition itself, SYS_SET_MODE, and the ending of work whose command is withdrawn. -/

namespace Sys2Proof.Machine

/-- The 16-bit code of the DAC of AO n (11.2, R374, Table 19-4): the value in uV with the effective gain and offset of items 0x0B and 0x0A, in steps of 312.5 uV to the nearest; none, high impedance, while VMAIN is absent. DEDUCED, log entry 87: gain before offset, as for the analogue inputs; a half step to even; the ends of the code saturate. -/
def aoCode (s : State) (n : Fin 8) : Option Int :=
  if s.sys.vmain then
    some (clampI (-32768) 32767 (rne (2 * (s.loop.ao[n] * (1000000000 + calEff s 11 n.val) + calEff s 10 n.val * 1000000000)) (625 * 1000000000)))
  else none

/-- Modes in which the module holds ownership (Table 3-1). -/
def ownsIn (m : Mode) : Bool := m == .commission || m == .control || m == .safeHold

/-- Cause codes of EV113 (Table 13-10). -/
def causeGiveup : Nat := 1
def causeLost : Nat := 2
def causeTransfer : Nat := 3
def causeReclaim : Nat := 4
def causeHandover : Nat := 5
def causeDual : Nat := 6
def causeNoSync : Nat := 7

/-- SOURCE of a MODE_CHANGE record (R457); the port of the command for kind 0. -/
def modeSource (kind : Nat) (p : Port) : Nat :=
  match kind with
  | 0 => 0x80 + portNum p
  | 3 => 0x70
  | 4 => 0x85
  | _ => 0x82

/-- What leaving a mode ends: Folly and a staged Kiln image with COMMISSION (R73, R319). -/
def leaveMode (s : State) : State :=
  if s.sys.mode = .commission then kilnUnstage (follyEnd 2 s) else s

/-- The positioning function ends without a command (R222). -/
def noFunction (s : State) : State :=
  (cancelDp (fun w => w == .mpc) s).onDpc fun d => { d with
    fn := 0, moving := false, passed := false, mpcOn := false, mpcFell := false, mpcSub := none, mpcReady := none
    tau := Vector.replicate 3 0, leg := 0xFF, phase := 0, paused := false, start := 0, action := none
    plan := Vector.replicate 3 [] }

/-- The outputs and units in the new mode (Table 3-1, Table 11-6, R67, R79, R215). A takeover, from STANDBY to CONTROL, sets the outputs itself. -/
def enterMode (old m : Mode) (s : State) : State :=
  match m with
  | .dormant | .kindling => noFunction (releaseOutputs s)
  | .commission => openEngines s
  | .standby => shadowEngines (noFunction (releaseOutputs s))
  | .control => if old = .standby then s else (openEngines (noFunction s)).onAlloc fun a => { a with firstFrame := true }
  | .safeHold => withdrawHost s

/-- The mode changes now (R69): HP_STAT.MODE and OWN, outputs, the MODE_CHANGE record and EV3. -/
def setMode (m : Mode) (kind detail : Nat) (p : Port) (s : State) : State :=
  let old := s.sys.mode
  if old = m then s
  else
    let s := leaveMode s
    let had := s.sys.own
    let s := s.onSys fun y => { y with
      mode := m, own := ownsIn m, modeReq := none, outputsHeld := false
      lastActive := if m = .dormant then s.time.mt else y.lastActive }
    let s := enterMode old m s
    let s := if had != ownsIn m then canOwnerChange s else s
    let s := if had && !ownsIn m then canRelease s else s
    let s := record 0x0105 (modeSource kind p) (if m = .safeHold then 4 else 1)
      ([BitVec.ofNat 8 (modeCode old), BitVec.ofNat 8 (modeCode m), BitVec.ofNat 8 detail, BitVec.ofNat 8 kind] ++ leBytes 4 (frameOf s.time.mt) ++ [0, 0]) s
    raise 3 (modeCode old * 256 + modeCode m) s

/-! SYS_SET_MODE (R70 to R73, R420). -/

/-- Every switched domain is on, failed and cooling regions apart (R84, R214). -/
def allOn (s : State) : Bool :=
  (fins 12).all fun d => s.sys.dom[d] == .on || deadDomain s d ||
    (match regionOf d with | some r => (s.solv.region[r]).st == .cooling | none => false)

/-- Wake latency left, us (R420): the longest exit of a domain that is not on. -/
def wakeLeft (s : State) : Nat :=
  (fins 12).foldl (fun n d => if deadDomain s d then n else max n (exitUs d s.sys.dom[d])) 0

/-- Entry work of Table 18-5, us. -/
def entryUs (old target : Mode) : Nat :=
  if old = .dormant then (if target = .commission then 10000 else 20000) else 0

/-- Transitions that SYS_SET_MODE can ask for (Table 3-2). -/
def modeAllowed (old target : Mode) : Bool :=
  match old, target with
  | .dormant, .commission | .dormant, .standby | .dormant, .control => true
  | .commission, .dormant | .standby, .dormant | .control, .dormant | .safeHold, .dormant => true
  | _, _ => false

/-- A mode transition is in progress (Table 3-3 detail 7). -/
def inTransition (s : State) : Bool :=
  s.sys.modeReq.isSome || s.dpx.transfer || s.dpx.givingUp || s.dpx.handoverAt.isSome || s.dpx.dormantNext || s.sys.wdDelay.isSome ||
  s.dpx.giveupSeen || s.dpx.lost || s.dpx.taking != 0

/-- The partner is in COMMISSION, as its last heartbeat shows. -/
def partnerCommission (s : State) : Bool :=
  match partnerNow s with | some h => h.mode == .commission | none => false

/-- R71: the first reason of Table 3-3, in the order 1, 7, 2, 8, 3, 4, 5, 6; 0 when none applies. -/
def modeRefusal (s : State) (target : Mode) (force : Bool) : Nat :=
  let run := target == .standby || target == .control
  let old := s.sys.mode
  if !modeAllowed old target then 1
  else if inTransition s then 7
  else if run && (s.cfg.inUse.isNone || !(s.cfg.work.any fun e => e.op == .allocThrusterConfig)) then 2
  else if run && s.sys.factoryBad then 8
  else if run && s.sys.kilnStartFail then 3
  else if run && (decide (healthyCount s < 2) || !s.sound) then 4
  else if old == .dormant && target != .standby && (partnerOwns s || partnerCommission s) then 5
  else if !force && (old == .safeHold || (old == .control && !(s.duplex && partnerReady s))) then 6
  else 0

/-- SYS_SET_MODE (R71, R420): refused, a transfer to the partner (R343), or a change at a frame boundary. -/
def execSysSetMode (p : Port) (s : State) : Host.Outcome State Fault Refusal :=
  .next (runOp .sysSetMode p (fun c s =>
    let w := wd c.words 0
    match modeOf (fld w 2 0) with
    | none => badValue p c 0 s
    | some target =>
      let via := s.sys.mode == .control && s.duplex && partnerReady s
      let us := (if s.sys.mode = .dormant then wakeLeft s else 0) + entryUs s.sys.mode target
      let r := modeRefusal s target (bit w 8)
      let s := pending p c (if via then 40 else cdiv (us + 10000) 1000) s
      if r != 0 then reject p c 0x0110 r s
      else if via then s.onDpx fun d => { d with transfer := true, transferDormant := true, transferCmd := some (p, c.tag), transferCause := causeTransfer }
      else s.onSys fun y => { y with modeReq := some { target := target, kind := 0, detail := 0, cmd := some (p, c.tag), due := s.time.mt + us * 100 } }) s)

/-- The mode change in progress, at a frame boundary (R69, R72, R73): the module's own at once; a commanded one when its domains are on and its entry work is done, which ends within Table 18-5. -/
def modeTakes (s : State) : State :=
  match s.sys.modeReq with
  | none => s
  | some r =>
    match r.cmd with
    | none => setMode r.target r.kind r.detail .host s
    | some (p, tag) =>
      if !allOn s then
        if r.due ≤ s.time.mt then finish p tag 0 0x0111 1 [] (s.onSys fun y => { y with modeReq := none }) else s
      else if s.time.mt < r.due && !Config.freeBool s.free then drawn s
      else finish p tag 0 0 (modeCode r.target) [] (setMode r.target r.kind r.detail p (commit p tag (drawn s)))

/-- SYS_SET_WAKE (R63, R421): the budget takes effect at interpretation. -/
def execSysSetWake (p : Port) (s : State) : Host.Outcome State Fault Refusal :=
  .next (runOp .sysSetWake p (fun c s => ok p c 0 [] (setBudget (fld (wd c.words 0) 23 0) s)) s)

/-! Work withdrawn before its commit point (Table 18-3, Table 8-11, R346). -/

/-- The command of a port and tag is this one. -/
def isCmd (p : Port) (tag : Nat) (c : Option (Port × Nat)) : Bool := c == some (p, tag)

/-- A host problem leaves its ticket; a third copy that runs goes on for diagnosis (Table 8-11). -/
def abortTicket (t : Ticket) (s : State) : State :=
  if t.retried && decide (2 < t.copies.length) then onTicket t.id (fun t => { t with aborted := true, deadline := none }) s else dropTicket t.id s

/-- A homing run before its stall is stopped (R300). -/
def abortHoming (p : Port) (tag : Nat) (s : State) : State :=
  s.onLoop fun l => { l with pc := vmap l.pc fun x =>
    match x.home with
    | some h =>
      if h.port = p ∧ h.tag = tag ∧ !h.stalled then
        { x with home := some { h with aborted := true, failing := true }, req := if (x.req.bind fun r => r.cmd).isSome then x.req else some { vel := true, target := 0 } }
      else x
    | none => x }

/-- Whatever works for the command is withdrawn, without a reply of its own. -/
def dropWork (p : Port) (tag : Nat) (s : State) : State :=
  let s := s.onTime fun t => { t with
    load := t.load.filter fun l => !isCmd p tag l.cmd
    ppsWait := t.ppsWait.filter fun w => !(w.port == p && w.tag == tag) }
  let s := (s.solv.tickets.filter fun t => isHost t && t.port == p && t.tag == tag && !t.aborted).foldl (fun s t => abortTicket t s) s
  let s := s.onSolv fun v => { v with installs := v.installs.filter fun i => !(i.port == p && i.tag == tag) }
  let s := s.onDpc fun d => { d with
    targets := d.targets.filter fun r => !(r.port == p && r.tag == tag)
    fnReq := d.fnReq.filter fun r => !(r.2.1 == p && r.2.2 == tag) }
  let s := match s.loop.folly with
    | some f => if f.port = p ∧ f.tag = tag then s.onLoop fun l => { l with folly := none } else s
    | none => s
  let s := s.onLoop fun l => { l with pc := vmap l.pc fun x =>
    match x.req with
    | some r => if isCmd p tag r.cmd then { x with req := none } else x
    | none => x }
  let s := abortHoming p tag s
  let s := s.onCfg fun c => { c with loads := c.loads.filter fun l => !(l.port == p && l.tag == tag && !l.fwd) }
  let s := s.onSys fun y => { y with
    modeReq := y.modeReq.filter fun r => !isCmd p tag r.cmd
    images := match y.fwProg with
      | some f => if f.port = p ∧ f.tag = tag then upd y.images f.target fun i => { i with valid := false } else y.images
      | none => y.images
    fwProg := y.fwProg.filter fun f => !(f.port == p && f.tag == tag) }
  let s := s.onDpx fun d =>
    let d := if isCmd p tag d.transferCmd && d.transferAt.isNone then { d with transfer := false, transferDormant := false, transferCmd := none } else d
    if isCmd p tag d.transferReq then { d with transferReq := none, transferReqAt := none } else d
  serve (pd13Budget s)

/-- The command's commit is the running one. -/
def isCommit (p : Port) (tag : Nat) (s : State) : Bool :=
  match s.cfg.commit with
  | some k => k.port == p && k.tag == tag && !k.fwd
  | none => false

/-- R346: at a release, every long command short of its commit point ends with DPX_OWNERSHIP_LOST; its detail is the frame of the last mirror. -/
def loseCommands (s : State) : State :=
  let d := s.dpx.mirrorFrame % 65536
  ([.host, .maint] : List Port).foldl (fun s p =>
    ((s.port p).outstanding.filter fun o => (opInfo o.op).long && !o.committed && !o.done && !isCmd p o.tag s.dpx.transferCmd).foldl (fun s o =>
      if isCommit p o.tag s then failCommit 2 0 0xA014 d s
      else finish p o.tag 0 0xA014 d (ticketWords p o.tag s) (dropWork p o.tag s)) s) s

end Sys2Proof.Machine
end

