-- ==== Sys2Proof/Machine/Duplex.lean ====
section
/-! DEFINITION. Duplex operation (chapter 13): heartbeats, partner view, mirror, give-up, takeover, release, transfer, hand-over, reclaim. -/

namespace Sys2Proof.Machine

/-! Parameters of DPX_CONFIG in force (Table 13-8). -/

def dpxW (s : State) (i : Nat) : Word := wd (s.inForce .dpxConfig) i
def reclaimS (s : State) : Nat := fld (dpxW s 0) 31 16
def reclaimOn (s : State) : Bool := bit (dpxW s 0) 1
def hostWords (s : State) : Nat := fld (dpxW s 1) 31 16
def mirrors (s : State) (item : Nat) : Bool := bit (dpxW s 1) item

/-- 20 ms of MT (R337). -/
def giveTicks : Nat := 2000000

/-- MT_OFFSET: the mean of the samples held (R327). -/
def mtOffset (s : State) : Int :=
  match s.dpx.samples with
  | [] => 0
  | l => rne l.sum l.length

/-- A partner's MT in this module's (R327). -/
def toOwn (s : State) (t : Nat) : Nat := ((t : Int) + mtOffset s).toNat

/-- OWN_OUT and GIVEUP_OUT: push-pull once PD1 has left reset, high-impedance before that and while VMAIN is absent (R323). -/
def dpxLine (level : Bool) (s : State) : Drive := if portUp s then (if level then .high else .low) else .highZ
def ownOutLine (s : State) : Drive := dpxLine s.sys.own s
def giveupOutLine (s : State) : Drive := dpxLine s.sys.giveupOut s

/-! Heartbeats and partner view (13.2). -/

/-- HEALTHY of this module's heartbeat (Table 13-2). -/
def selfHealthy (s : State) : Bool :=
  s.sound && (s.sys.mode == .standby || s.sys.mode == .control) && (s.fus.mode == 1 || s.fus.mode == 2)

/-- The heartbeat that leaves now (Table 13-2). -/
def heartbeatNow (s : State) : Heartbeat :=
  { mode := s.sys.mode, own := s.sys.own, healthy := selfHealthy s, pref := s.sys.pref, reclaimReq := s.dpx.reclaimReq
    sync := s.dpx.sync, giveup := s.sys.giveupOut, transferReq := s.dpx.transferReq.isSome, mirrorVer := Config.mirrorVer
    fn := s.dpc.fn, seq := s.dpx.hbSeq, mtTx := s.time.mt, cfgCrc := cfgCrc (cfgNorm s.cfg.work), serial := Config.serial.toNat
    diag := s.sys.diagFirst }

/-- Heartbeats are sent from step 9 on (R326). -/
def pastStep9 (s : State) : Bool := s.hp.ready && (s.sys.mode != .kindling || s.sys.listenEnd.isSome)

/-- Some lane is up (Table 13-9 LINK_UP). -/
def linkUp (s : State) : Bool := s.dpx.lane[(0 : Fin 2)] || s.dpx.lane[(1 : Fin 2)]

/-- HEARTBEAT_SEND (R326): at the next of the four points after the own boundary, on every lane that is up. -/
def execHeartbeatSend (s : State) : Host.Outcome State Fault Refusal :=
  .next (
    if !s.duplex || !pastStep9 s then s
    else
      let s := advanceTo (match s.dpx.hbSent with | some t => (t / 250000 + 1) * 250000 | none => cdiv s.time.mt 250000 * 250000) s
      if linkUp s then s.onDpx fun d => { d with
        lastHb := heartbeatNow s, hbSent := some s.time.mt, hbSeq := (d.hbSeq + 1) % 16
        transferReqAt := if d.transferReq.isSome && d.transferReqAt.isNone then some s.time.mt else d.transferReqAt }
      else s)

/-- The reason of R328; 0 healthy. -/
def partnerReason (s : State) : Nat :=
  if !s.duplex then 5
  else match s.dpx.partner with
    | none => 1
    | some h =>
      if s.dpx.partnerMt + hbTicks < s.time.mt then 1
      else if !h.healthy then 2
      else if h.mirrorVer != Config.mirrorVer then 3
      else if 3 < s.dpx.crcDiff then 4
      else 0

/-- The hold-off counts (R345). -/
def reclaimRuns (s : State) : Bool :=
  s.duplex && s.sys.pref && !s.dpx.strapConflict && s.sys.mode == .standby && reclaimOn s && partnerReady s &&
  (match s.dpx.partner with | some h => h.mode == .control | none => false)

/-- The hold-off starts anew from zero, or stops (R345). -/
def reclaimStop (s : State) : State :=
  if s.dpx.reclaimFrom.isSome || s.dpx.reclaimReq then raise 117 0 (s.onDpx fun d => { d with reclaimFrom := none, reclaimReq := false }) else s

/-- The transfer that RECLAIM_REQ asks for has failed: 20 ms after it was set the last mirror frame is no transfer mirror. DEDUCED, log entry 95: the standby sees a failure of the owner's transfer in this alone. -/
def reclaimFailed (s : State) : Bool := s.dpx.reclaimReq && !transferSeen s && decide (s.dpx.reclaimAt + giveTicks < s.time.mt)

/-- The conditions of the hold-off are looked at; a transfer that failed starts the count anew (R345). -/
def reclaimLook (s : State) : State :=
  if reclaimRuns s then
    let s := if reclaimFailed s then reclaimStop s else s
    (if s.dpx.reclaimFrom.isNone && !s.dpx.reclaimReq then raise 117 1 (s.onDpx fun d => { d with reclaimFrom := some s.time.mt }) else s)
  else reclaimStop s

/-- The view of the partner, PARTNER (EV114) when it changes (R328). -/
def partnerLook (s : State) : State :=
  let r := partnerReason s
  let was := s.dpx.healthy
  let s := s.onDpx fun d => { d with healthy := r == 0, reason := r }
  let s := if was != (r == 0) then raise 114 (b2n (r == 0) * 256 + r) s else s
  reclaimLook s

/-- A transfer starts on the owner (R343 step 1). -/
def beginTransfer (cause : Nat) (s : State) : State :=
  if s.sys.mode = .control && !inTransition s && partnerReady s then s.onDpx fun d => { d with transfer := true, transferDormant := false, transferCause := cause }
  else s

/-- HEARTBEAT_RECEIVE (R324, R327, R328, R343, R345). The partner's lines are not above what its heartbeat says. -/
def execHeartbeatReceive (h : Heartbeat) (s : State) : Host.Outcome State Fault Refusal :=
  .next (
    if !s.duplex || !s.hp.ready || !s.dpx.lane[h.lane] then s
    else if !h.crcOk then s.onDpx fun d => { d with nCrc := inc32 d.nCrc }
    else
      let asked := match s.dpx.partner with | some o => o.transferReq | none => false
      let reclaimed := match s.dpx.partner with | some o => o.reclaimReq | none => false
      let clash := h.pref == s.sys.pref
      let was := s.dpx.strapConflict
      let s := s.onDpx fun d => { d with
        partner := some h, partnerMt := s.time.mt, strapConflict := clash
        samples := (((s.time.mt : Int) - h.mtTx - d.delay[h.lane]) :: d.samples).take 64
        ownIn := d.ownIn && h.own, giveupIn := d.giveupIn && h.giveup, dual := d.dual && h.own }
      let s := if clash && !was then raise 118 (b2n h.pref) s else s
      let s := s.onSys fun y => { y with listenOwn := match y.listenEnd, y.listenOwn with
        | some t, none => if h.own && decide (s.time.mt ≤ t) then some s.time.mt else none
        | _, m => m }
      let s := partnerLook s
      let s := if h.transferReq && !asked then beginTransfer causeTransfer s else s
      if h.reclaimReq && !reclaimed then beginTransfer causeReclaim s else s)

/-- HEARTBEAT_TIMEOUT (R338): 5.5 ms without a valid heartbeat; with OWN_IN low the partner is lost. -/
def execHeartbeatTimeout (ownIn : Bool) (s : State) : Host.Outcome State Fault Refusal :=
  .next (
    if !s.duplex || !s.hp.ready then s
    else
      let s := advanceTo (s.dpx.partnerMt + hbTicks + 1) s
      let s := s.onDpx fun d => { d with ownIn := ownIn, dual := d.dual && ownIn, giveupIn := d.giveupIn && ownIn }
      let s := partnerLook s
      if !ownIn && s.sys.mode == .standby && s.sound then
        (cancelModeCmd 2 s).onDpx fun d => { d with lost := true, gapFrom := d.partnerMt }
      else s)

/-- Mask of lanes up (EV115). -/
def laneMask (s : State) : Nat := maskOf s.dpx.lane

/-- A lane changes; PAV_LINK while the pair is enabled (R325, R330). -/
def laneTo (l : Fin 2) (up : Bool) (s : State) : State :=
  if s.dpx.lane[l] = up then s
  else
    let s := s.onDpx fun d => { d with lane := d.lane.set l up }
    if s.duplex then raise 115 (laneMask s) s else s

/-- LANE_UP (R325, R327): the link delay is half the round trip measured at training. -/
def execLaneUp (l : Fin 2) (roundTrip : Nat) (s : State) : Host.Outcome State Fault Refusal :=
  .next (if s.hp.ready then laneTo l true (s.onDpx fun d => { d with delay := d.delay.set l (roundTrip / 2) }) else s)

/-- LANE_DOWN (R325). -/
def execLaneDown (l : Fin 2) (s : State) : Host.Outcome State Fault Refusal := .next (laneTo l false s)

/-! The mirror (13.3). -/

/-- The mirror frame of this boundary (Table 13-3); a hand-over mirror holds the estimate and the controller whatever MIRROR_MASK leaves out (R344). -/
def mirrorNow (transfer handover : Bool) (s : State) : MirrorFrame :=
  let opt := fun {α : Type} (i : Nat) (x : α) => if mirrors s i || (handover && decide (i ≤ 2)) then some x else none
  { frame := s.sys.frame, mt := s.sys.frame * frameTicks, transfer := transfer, handover := handover, fwd := s.dpx.fwd
    est := opt 1 { est := s.fus.xhat, obs := s.fus.bank.map fun b => b.main, r := s.fus.r, n := s.fus.n }
    ctl := opt 2 { s.dpc with fnReq := [], targets := [], track := [] }
    track := opt 3 (s.dpc.track, s.dpc.leg, s.dpc.paused)
    alloc := opt 4 { sol := s.alloc.sol, causes := vmap s.alloc.thr fun x => x.causes, ret := vmap s.alloc.thr fun x => x.ret
                     tau := s.dpc.tau, tauPrev := s.dpc.tauPrev, avail := s.alloc.avail }
    loops := opt 5 s.loop.le
    profs := opt 6 s.loop.pc
    outs := { ao := s.loop.ao, dout := s.loop.dout, canThrust := s.loop.canThrust, canAz := s.loop.canAz, canCounter := s.loop.canCounter }
    recorder := s.log.seq
    conseq := if mirrors s 9 then s.alloc.caDone else none
    host := opt 10 ((List.range (hostWords s)).map fun i => s.dpx.host.getD i 0) }

/-- MIRROR_SEND (R331, R343 step 2, R22: skipped after 9.0 ms): step 7 of the owner's frame; with TRANSFER set it is the commit point, and the outputs hold from then on. -/
def execMirrorSend (s : State) : Host.Outcome State Fault Refusal :=
  .next (
    let s := stepAt 7000 s
    if s.sys.mode != .control || !s.duplex || s.dpx.givingUp || s.dpx.transferAt.isSome || s.dpx.sent.isSome || decide (s.sys.frame * frameTicks + 900000 < s.time.mt) then s
    else
      let t := s.dpx.transfer
      let f := mirrorNow t false s
      let s := s.onDpx fun d => { d with
        sent := some f.frame, acked := false, mirrorFrame := f.frame, txMirror := some f, fwd := []
        transferAt := if t then some s.time.mt else none }
      if t then
        let s := match s.dpx.transferCmd with | some (p, tag) => commit p tag s | none => s
        s.onSys fun y => { y with outputsHeld := true }
      else s)

/-- MIRROR_SEGMENT_RECEIVE (R331): a segment that fails twice fails the frame; the last one makes the standby acknowledge. A transfer mirror is the commit point of the standby's own DPX_TRANSFER (Table 18-3). -/
def execMirrorSegmentReceive (g : MirrorSeg) (s : State) : Host.Outcome State Fault Refusal :=
  .next (
    if !s.duplex || s.sys.mode != .standby || !linkUp s then s
    else if s.dpx.ackOut = some (g.frame, false) then s
    else if !g.crcOk then
      s.onDpx fun d => { d with
        nCrc := inc32 d.nCrc
        ackOut := if d.segFail = some (g.frame, g.seg) then some (g.frame, false) else d.ackOut
        segFail := some (g.frame, g.seg) }
    else if g.last then
      let s := match s.dpx.transferReq with
        | some (p, tag) => if g.content.transfer then commit p tag s else s
        | none => s
      s.onDpx fun d => { d with
        nMiss := if d.newest.isSome then inc32 d.nMiss else d.nMiss
        newest := some g.content, ackOut := some (g.frame, true), segFail := none }
    else s)

/-- MIRROR_ACK_RECEIVE (R329). -/
def execMirrorAckReceive (frame : Nat) (crcOk : Bool) (s : State) : Host.Outcome State Fault Refusal :=
  .next (if s.duplex && crcOk && s.dpx.sent == some frame then s.onDpx fun d => { d with acked := true } else s)

/-- A forwarded command is executed (R333); its record names the port and tag of the original. -/
def execFwd (f : FwdCmd) (s : State) : State :=
  let c := f.cmd
  let ws := expertWords c.op c.expert c.words
  if c.op = .cfgCommit then
    (if s.cfg.commit.isSome then s
     else
      let s := startCommit f.port c.tag true s
      if s.sys.nf0Ok then s else failCommit 1 0 0xB011 2 s)
  else
    let s := setConfig f.port c.tag c.op (instOf c.op ws) ws true s
    if c.op = .logRate then s.onLog fun l => { l with bucket := l.bucket.filter fun b => b.code != instOf c.op ws } else s

/-- A frame number of the owner stands for the standby's present frame. -/
def ctlIn (s : State) (d : DpcState) : DpcState :=
  { d with
    mpcAt := s.sys.frame, mpcFrom := toOwn s d.mpcFrom, mpcSub := none, mpcReady := none
    joyNext := d.joyNext.map fun x => (x.1, s.sys.frame), joyMt := d.joyMt.map (toOwn s)
    action := d.action.map fun a => (a.1, a.2.1, s.sys.frame - 1), pmsMt := d.pmsMt.map (toOwn s) }

/-- The standby applies a mirror frame at its boundary (R332). -/
def applyMirror (f : MirrorFrame) (s : State) : State :=
  let s := s.onDpx fun d => { d with applied := some f, newest := none, mirrorFrame := f.frame }
  let s := match f.loops with
    | some v => s.onLoop fun l => { l with le := vmapI l.le fun i e =>
        if e.st = LeState.unconfigured then e else { v[i] with st := .shadow, own := engMode v[i], tickMt := e.tickMt } }
    | none => s
  let s := match f.profs with
    | some v => s.onLoop fun l => { l with pc := vmapI l.pc fun i x => { v[i] with tickMt := x.tickMt, cmd := none, home := none } }
    | none => s
  let s := match f.ctl with
    | some d => s.onDpc fun own => { ctlIn s d with track := own.track, fnReq := own.fnReq, targets := own.targets }
    | none => s.onDpc fun d => { d with fn := 0 }
  let s := match f.track with
    | some (ws, leg, paused) => s.onDpc fun d => { d with track := ws, leg := leg, paused := paused }
    | none => s.onDpc fun d => { d with track := [], fn := if d.fn = 4 then 3 else d.fn }
  let s := match f.alloc with
    | some a => s.onAlloc fun x => { x with sol := a.sol }
    | none => s
  f.fwd.foldl (fun s c => execFwd c s) s

/-- The mirror's part of a frame boundary: apply or miss, SYNC (R329, R332). -/
def mirrorBoundary (s : State) : State :=
  let owner := s.duplex && s.sys.mode == .control
  let standby := s.duplex && s.sys.mode == .standby
  let good := if owner then s.dpx.sent.isSome && s.dpx.acked else standby && s.dpx.newest.isSome
  let s := match standby, s.dpx.newest with
    | true, some f => applyMirror f s
    | _, _ => s
  let run := if good then min 10 (s.dpx.syncRun + 1) else 0
  let sync := run == 10
  let was := s.dpx.sync
  let s := s.onDpx fun d => { d with
    syncRun := run, sync := sync, sent := none, acked := false
    nMiss := if (owner || standby) && !good then inc32 d.nMiss else d.nMiss }
  if was != sync then raise 116 (b2n sync) s else s

/-! Release (R341, R346). -/

/-- OWNERSHIP (EV113). -/
def ownership (taken : Bool) (cause : Nat) (s : State) : State := raise 113 (b2n taken * 256 + cause) s

/-- The module releases ownership now and enters STANDBY, or DORMANT. -/
def releaseOwnership (target : Mode) (cause : Nat) (s : State) : State :=
  let cmd := s.dpx.transferCmd
  let s := loseCommands s
  let s := s.onSys fun y => { y with own := false, giveupOut := false }
  let s := s.onDpx fun d => { d with
    givingUp := false, transfer := false, transferDormant := false, transferCmd := none, transferAt := none
    handoverAt := none, retryAt := none, syncRun := 0
    dormantNext := target == .standby && s.sys.diagFirst != 0 }
  let s := canRelease (canOwnerChange s)
  let s := ownership false cause (setMode target 4 cause .host s)
  match cmd with
  | some (p, tag) => finish p tag 0 0 (if target = .dormant then modeCode .dormant else 0) [] s
  | none => s

/-- OWN_IN_RISE (R341, R86): an owner in a handover it started releases; in DORMANT the line is a wake trigger. -/
def execOwnInRise (s : State) : Host.Outcome State Fault Refusal :=
  .next (
    let s := s.onDpx fun d => { d with ownIn := true, ownInAt := s.time.mt }
    if !s.duplex || !s.hp.ready then s
    else
      let s := wakeTrigger 5 s
      if !s.sys.own then s
      else if s.dpx.handoverAt.isSome then releaseOwnership .dormant causeHandover s
      else if s.dpx.transferAt.isSome then releaseOwnership (if s.dpx.transferDormant then .dormant else .standby) s.dpx.transferCause s
      else if s.sys.giveupOut then releaseOwnership .standby causeGiveup s
      else s)

/-- DUAL_OWNERSHIP (R342): OWN_IN high for more than 100 us outside a handover this module started. DESIGN CHOICE, log entry 64: R342 sends module B to STANDBY also from COMMISSION and SAFE-HOLD, for which Table 3-2 has no such transition; the model follows R342. -/
def execDualOwnership (s : State) : Host.Outcome State Fault Refusal :=
  .next (
    if !s.duplex || !s.hp.ready || !s.sys.own || !s.dpx.ownIn || s.dpx.dual || s.sys.giveupOut || s.dpx.transferAt.isSome then s
    else
      let s := advanceTo (s.dpx.ownInAt + 10001) s
      let s := s.onDpx fun d => { d with dual := true }
      if isModuleA s then ownership true causeDual s else releaseOwnership .standby causeDual s)

/-! Giving up (R335 to R337). -/

/-- The partner was HEALTHY with SYNC in both views at its last heartbeat (R335). -/
def partnerWasReady (s : State) : Bool :=
  s.duplex && s.dpx.healthy && s.dpx.sync && (match s.dpx.partner with | some h => h.sync && h.healthy | none => false)

/-- SUPERVISOR_HEARTBEAT_LOSS (R335): code 6. -/
def execSupervisorHeartbeatLoss (s : State) : Host.Outcome State Fault Refusal :=
  .next (match s.dpx.hbSent with
    | some t => if s.duplex && s.sys.mode == .control && partnerWasReady s then selfDiag 6 (advanceTo (t + hbTicks) s) else s
    | none => s)

/-- GIVEUP_TIMEOUT (R337): not for the watchdog, which the supervisor handles alone (R335). -/
def execGiveupTimeout (s : State) : Host.Outcome State Fault Refusal :=
  .next (
    if !s.dpx.givingUp || s.sys.wdDelay.isSome then s
    else
      let s := advanceTo (s.dpx.giveupAt + giveTicks) s
      let code := s.dpx.giveupCode
      let s := s.onDpx fun d => { d with givingUp := false }
      let s := s.onSys fun y => { y with giveupOut := false }
      ownTransition .safeHold 3 code (raise 119 code s))

/-- GIVEUP_IN_RISE (R338, R86). -/
def execGiveupInRise (s : State) : Host.Outcome State Fault Refusal :=
  .next (
    let s := s.onDpx fun d => { d with giveupIn := true }
    if !s.duplex || !s.hp.ready then s
    else
      let s := wakeTrigger 5 s
      if s.sys.mode == .standby && s.sound then (cancelModeCmd 2 s).onDpx fun d => { d with giveupSeen := true, gapFrom := s.time.mt } else s)

/-! Taking ownership (R338 to R340, Table 13-5). -/

/-- EV113 cause with which this standby takes ownership at the boundary processed now; 0 when it does not (R338, R340, R343, R344). -/
def takeCause (s : State) : Nat :=
  let f := s.dpx.applied.getD {}
  let handed := s.dpx.giveupSeen && f.handover
  let moved := f.transfer && s.dpx.ownIn
  if !s.duplex || s.sys.mode != .standby || !s.sound then 0
  else if !s.dpx.giveupSeen && !s.dpx.lost && !moved then 0
  else if handed then causeHandover
  else if !s.dpx.sync then causeNoSync
  else if s.dpx.giveupSeen then causeGiveup
  else if s.dpx.lost then causeLost
  else if s.dpx.reclaimReq then causeReclaim
  else causeTransfer

/-- R348: the next SEQ of the new owner, and the gap marker. DEDUCED, log entry 86: a taker that has applied no mirror frame has no RECORDER value; its SEQ stands, and the marker's mirror fields are 0. -/
def gapMarker (s : State) : State :=
  match s.dpx.applied with
  | none => record 0x0101 0x85 1 (leBytes 4 0 ++ leBytes 4 s.log.seq ++ leBytes 2 0) s
  | some f =>
    let own := s.log.seq
    let up := (f.recorder + 65536) % 2 ^ 32
    let s := s.onLog fun l => { l with seq := if seqBefore own up then up else own }
    record 0x0101 0x85 1 (leBytes 4 f.recorder ++ leBytes 4 own ++ leBytes 2 f.frame) s

/-- u_present of a bound engine: its OUTPUTS value (Table 13-5). -/
def presentOf (s : State) (f : MirrorFrame) (le : Nat) (e : Engine) : Int :=
  let d := leDest s le
  if d ≤ 7 then f.outs.ao.toList.getD d 0
  else if d = 0x10 then (match leThruster s le with | some t => f.outs.canThrust.toList.getD t 0 | none => e.u)
  else e.u

/-- AO n is the output of a bound engine. -/
def boundAo (s : State) (n : Nat) : Bool := (List.range 64).any fun le => leSet s le && leDest s le == n && (leThruster s le).isSome

/-- Outputs and engines at the taker's boundary (Table 13-5); with function NONE the thruster outputs stay in the release state (R340). -/
def takeOutputs (f : MirrorFrame) (s : State) : State :=
  let act := s.dpc.fn != 0
  let s := s.onSys fun y => { y with release := false }
  s.onLoop fun l =>
    let le : Vector Engine 64 := vmapI l.le fun i e =>
      if e.st = LeState.unconfigured then e
      else
        let m : LeState := engMode e
        if (leThruster s i.val).isSome then
          if !act then { e with st := .open, manual := 0, u := 0, closeReq := false, openReq := false }
          else if f.loops.isSome && (m == .closed || m == .tracking) then { e with st := m, u := presentOf s f i.val e }
          else { e with st := .open, manual := presentOf s f i.val e, closeReq := true, openReq := false }
        else { e with st := if m = .released || m = .unconfigured then .open else m }
    { l with
      le := le, driving := act
      ao := vmapI f.outs.ao fun i v => if !act && boundAo s i.val then l.ao[i] else v
      dout := f.outs.dout
      canThrust := f.outs.canThrust, canAz := f.outs.canAz, canCounter := f.outs.canCounter }

/-- The estimate, the allocation and the capability cycle at the taker's boundary (Table 13-5, Table 13-3). -/
def takeState (f : MirrorFrame) (s : State) : State :=
  let age := s.time.mt - toOwn s f.mt
  let s := match f.est with
    | some v => s.onFus fun x => { x with
        r := estDiff x.xhat (Vector.ofFn fun i => Config.propagate v.est.toList age i.val)
        n := max 1 (fld (wd (s.inForce .fusVoteConfig) 1) 15 8), swapped := true }
    | none => s
  let s := s.onAlloc fun a => { a with
    cfgChanged := true, firstFrame := false
    sol := match f.alloc with
      | some m => m.sol
      | none => vmap a.thr fun x => { u := 0, az := x.azFb }
    tauPred := Vector.replicate 3 0
    caDone := f.conseq
    thr := match f.alloc with
      | some m => vmapI a.thr fun i x => { x with causes := x.causes ||| m.causes[i], ret := (m.ret[i]).map (toOwn s) }
      | none => a.thr }
  s.onDpc fun d => match f.alloc with
    | some m => { d with tau := m.tau, tauPrev := m.tauPrev }
    | none => d

/-- TRACK ran on the owner and the mirror left it out: AUTO-POSITION is selected in its place (Table 13-3). -/
def trackLost (f : MirrorFrame) : Bool := f.track.isNone && (match f.ctl with | some d => d.fn == 4 | none => false)

/-- TAKEOVER (R339): at the boundary at which the taker found its condition it does everything of Table 13-5 in one step. -/
def execTakeover (s : State) : Host.Outcome State Fault Refusal :=
  .next (
    let cause := s.dpx.taking
    if cause = 0 || s.sys.mode != .standby then s
    else
      let f := s.dpx.applied.getD {}
      let s := gapMarker s
      let s := if cause = causeNoSync then noFunction s else s
      let s := takeState f s
      let s := setMode .control 4 cause .host s
      let s := takeOutputs f s
      let s := if cause = causeHandover || (s.dpc.fn == 3 && trackLost f) then setFunction s.dpc.fn s else s
      let s := ownership true cause s
      let ended := s.dpx.transferReq
      let s := s.onDpx fun d => { d with
        taking := 0, giveupSeen := false, lost := false, syncRun := 0, transferReq := none, transferReqAt := none
        newest := none, applied := d.applied.map fun f => { f with transfer := false, handover := false }
        host := match f.host with | some h => h | none => []
        nTaken := inc32 d.nTaken
        lastGap := (s.time.mt - (if cause = causeTransfer || cause = causeReclaim then toOwn s f.mt else d.gapFrom)) / 100
        dual := false, ownInAt := s.time.mt }
      let s := reclaimStop s
      match ended with
      | some (p, tag) => finish p tag 0 0 0 [] (commit p tag s)
      | none => s)

/-- The pair's part of a frame boundary: CFG_CRC difference, view of the partner, takeover condition, DORMANT after a release (R328, R338, R341). -/
def duplexBoundary (s : State) : State :=
  let s := mirrorBoundary s
  let differs := match s.dpx.partner with | some h => h.cfgCrc != cfgCrc (cfgNorm s.cfg.work) | none => false
  let s := s.onDpx fun d => { d with crcDiff := if differs then d.crcDiff + 1 else 0 }
  let s := partnerLook s
  let s := if s.dpx.dormantNext then
      setMode .dormant 3 s.sys.diagFirst .host (s.onDpx fun d => { d with dormantNext := false })
    else s
  let cause := takeCause s
  (if cause = 0 then s else cancelModeCmd 2 s).onDpx fun d => { d with taking := cause }

/-! Transfer, hand-over and reclaim (13.6). -/

/-- DPX_TRANSFER (R343, R350). -/
def execDpxTransfer (p : Port) (s : State) : Host.Outcome State Fault Refusal :=
  .next (runOp .dpxTransfer p (fun c s =>
    let s := pending p c 40 s
    if !s.duplex then reject p c 0xA011 0 s
    else if inTransition s || s.dpx.transferReq.isSome then finish p c.tag 0 0xA012 2 [] s
    else if !partnerReady s then reject p c 0xA010 (if s.dpx.healthy then 6 else s.dpx.reason) s
    else if s.sys.mode = .control then
      s.onDpx fun d => { d with transfer := true, transferDormant := false, transferCmd := some (p, c.tag), transferCause := causeTransfer }
    else s.onDpx fun d => { d with transferReq := some (p, c.tag), transferReqAt := none }) s)

/-- A transfer after its commit point ends unanswered (R343). -/
def failTransfer (s : State) : State :=
  let cmd := s.dpx.transferCmd
  let s := s.onDpx fun d => { d with transfer := false, transferDormant := false, transferCmd := none, transferAt := none }
  let s := s.onSys fun y => { y with outputsHeld := false }
  match cmd with
  | some (p, tag) => finish p tag 0 0xA012 1 [] s
  | none => s

/-- TRANSFER_TIMEOUT (R343): the owner resumes. -/
def execTransferTimeout (s : State) : Host.Outcome State Fault Refusal :=
  .next (match s.dpx.transferAt with
    | none => s
    | some t => failTransfer (advanceTo (t + giveTicks) s))

/-- TRANSFER_REQ_TIMEOUT (R343): 20 ms without a transfer mirror. -/
def execTransferReqTimeout (s : State) : Host.Outcome State Fault Refusal :=
  .next (match s.dpx.transferReq, s.dpx.transferReqAt with
    | some (p, tag), some t =>
      if transferSeen s && s.sys.mode == .standby && s.sound then s
      else finish p tag 0 0xA012 1 [] ((advanceTo (t + giveTicks) s).onDpx fun d => { d with transferReq := none, transferReqAt := none })
    | _, _ => s)

/-- A SAFE-HOLD module hands over at its frame boundary: the hand-over mirror, then GIVEUP_OUT (R344). -/
def handOver (s : State) : State :=
  let s := advanceTo (boundaryFrom s.time.mt) s
  let f := mirrorNow false true s
  let s := s.onDpx fun d => { d with
    txMirror := some f, mirrorFrame := f.frame, handoverAt := some s.time.mt, retryAt := none }
  s.onSys fun y => { y with giveupOut := true }

/-- SAFE_HOLD_HANDOVER (R344). -/
def execSafeHoldHandover (s : State) : Host.Outcome State Fault Refusal :=
  .next (if s.duplex && s.sys.mode == .safeHold && s.dpx.healthy && s.dpx.handoverAt.isNone && s.dpx.retryAt.isNone then handOver s else s)

/-- HANDOVER_TIMEOUT (R344): the partner has not taken ownership within 20 ms. -/
def execHandoverTimeout (s : State) : Host.Outcome State Fault Refusal :=
  .next (match s.dpx.handoverAt with
    | none => s
    | some t =>
      let s := advanceTo (t + giveTicks) s
      let s := s.onDpx fun d => { d with handoverAt := none, retryAt := some (s.time.mt + secTicks) }
      s.onSys fun y => { y with giveupOut := false })

/-- HANDOVER_RETRY (R344): 1 s later, while the partner stays HEALTHY. -/
def execHandoverRetry (s : State) : Host.Outcome State Fault Refusal :=
  .next (match s.dpx.retryAt with
    | none => s
    | some t =>
      let s := (advanceTo t s).onDpx fun d => { d with retryAt := none }
      if s.duplex && s.sys.mode == .safeHold && s.dpx.healthy then handOver s else s)

/-- RECLAIM_HOLDOFF_EXPIRY (R345). -/
def execReclaimHoldoffExpiry (s : State) : Host.Outcome State Fault Refusal :=
  .next (match s.dpx.reclaimFrom with
    | none => s
    | some t =>
      let s := advanceTo (t + reclaimS s * secTicks) s
      raise 117 2 (s.onDpx fun d => { d with reclaimFrom := none, reclaimReq := true, reclaimAt := s.time.mt }))

/-! Commands (13.8). -/

/-- DPX_CONFIG (R350): at the next boundary. -/
def execDpxConfig (p : Port) (s : State) : Host.Outcome State Fault Refusal :=
  .next (configRow .dpxConfig p (fun _ _ _ => none) s)

/-- The hold-off left, s (Table 13-9). -/
def holdoffLeft (s : State) : Nat :=
  match s.dpx.reclaimFrom with
  | some t => cdiv (t + reclaimS s * secTicks - s.time.mt) secTicks
  | none => 0xFFFFFFFF

/-- DPX_STATUS (Table 13-9). -/
def execDpxStatus (p : Port) (s : State) : Host.Outcome State Fault Refusal :=
  .next (runOp .dpxStatus p (fun c s =>
    let d := s.dpx
    let near := s.duplex && decide (s.time.mt ≤ d.partnerMt + hbTicks)
    let mode := match d.partner with | some h => if near then modeCode h.mode else 0xF | none => 0xF
    ok p c 0 ([pk [(mode, 28), (b2n (s.duplex && d.ownIn), 27), (b2n d.healthy, 26), (b2n d.sync, 25), (b2n (linkUp s), 24), (laneMask s, 22),
        (b2n (isModuleA s), 21), (b2n s.sys.pref, 20), (b2n d.strapConflict, 19), (b2n d.reclaimReq, 18), (b2n s.sys.giveupOut, 17),
        (b2n d.giveupIn, 16), (s.sys.diagFirst, 8), (d.reason, 0)]] ++ i64 (mtOffset s) ++
      [ofN d.mirrorFrame, ofN (holdoffLeft s), ofN d.nMiss, ofN d.nCrc, ofN d.nTaken, ofN d.lastGap]) s) s)

/-- DPX_HOST_DATA_WRITE (R351). -/
def execDpxHostDataWrite (p : Port) (s : State) : Host.Outcome State Fault Refusal :=
  .next (runOp .dpxHostDataWrite p (fun c s =>
    let at_ := fld (wd c.words 0) 15 0
    let ws := c.words.drop 1
    if hostWords s < at_ + ws.length then reject p c 0xA013 (hostWords s) s
    else ok p c 0 [] (s.onDpx fun d => { d with
      host := (List.range (hostWords s)).map fun i => if at_ ≤ i ∧ i < at_ + ws.length then wd ws (i - at_) else d.host.getD i 0 })) s)

/-- DPX_HOST_DATA_READ (R351): on a standby the block of the last applied mirror frame. -/
def execDpxHostDataRead (p : Port) (s : State) : Host.Outcome State Fault Refusal :=
  .next (runOp .dpxHostDataRead p (fun c s =>
    let w := wd c.words 0
    let at_ := fld w 15 0
    let n := fld w 23 16
    let block := if s.sys.mode = .standby then (match s.dpx.applied with | some f => f.host.getD [] | none => []) else s.dpx.host
    if hostWords s < at_ + n then reject p c 0xA013 (hostWords s) s
    else ok p c 0 ((List.range n).map fun i => block.getD (at_ + i) 0) s) s)

end Sys2Proof.Machine
end

