-- ==== Sys2Proof/Machine/Events.lean ====
section
/-! DEFINITION. The commands of the event logic (chapter 17). -/

namespace Sys2Proof.Machine

/-- EVT_ROUTE (Table 17-3, R406, R407): LINE, RECORD and SEVERITY for both ports, NOTICE for the issuing one; a basic form resets SEVERITY. -/
def execEvtRoute (p : Port) (s : State) : Host.Outcome State Fault Refusal :=
  .next (runOpV .evtRoute p (fun c _ => if fld (wd c.words 0) 6 0 ≤ 1 && (bit (wd c.words 0) 11 || bit (wd c.words 0) 10) then some 0 else none) (fun c s =>
      let w := wd c.words 0
      let n := fld w 6 0
      let sev := if c.expert then fld (wd c.words 1) 2 0 else (EvSrc.initial n).severity
      let s := match fin? 128 n with
        | some i => s.onEv fun e => { e with src := upd e.src i fun x => { x with
            record := bit w 11, line := fld w 9 8, severity := sev
            noticeHost := if p = .host then bit w 10 else x.noticeHost
            noticeMaint := if p = .maint then bit w 10 else x.noticeMaint } }
        | none => s
      ok p c 0 [] s) s)

/-- EVT_QUERY (Table 17-5). -/
def execEvtQuery (p : Port) (s : State) : Host.Outcome State Fault Refusal :=
  .next (runOp .evtQuery p (fun c s =>
    let n := fld (wd c.words 0) 6 0
    match fin? 128 n with
    | some i =>
      let x := s.ev.src[i]
      ok p c 0 ([pk [(x.count, 16), (b2n x.noticeMaint, 15), (b2n x.noticeHost, 14), (x.severity, 11), (b2n x.record, 10), (x.line, 8), (b2n x.pend, 7), (n, 0)]] ++
        w64 x.lastMt ++ [ofN x.lastDetail]) s
    | none => s) s)

end Sys2Proof.Machine
end

