-- ==== Sys2Proof/Machine/Fir.lean ====
section
/-! DEFINITION. Inertial sensor and FIR engine (chapter 6). -/

namespace Sys2Proof.Machine

def rangeEvent (s : State) (k : Nat) : Bool := bit (firW s k 1) 0
def rawToLoops (s : State) (k : Nat) : Bool := bit (firW s k 1) 1

/-- The coefficients of a set, h[0] first (Tables 6-5, 6-6); Lennov sets are symmetric (R146). -/
def firTaps (s : State) (set : Nat) : List Int :=
  if set < 3 then
    let n := ([255, 63, 101] : List Nat).getD set 1
    (List.range n).map fun i => Config.firRom set (min i (n - 1 - i))
  else ((s.inForce .bulkClose (32 + set)).drop 1).map fun w => w.toInt

/-- Number of taps of a set. -/
def tapCount (s : State) (set : Nat) : Nat :=
  if set < 3 then ([255, 63, 101] : List Nat).getD set 1 else (s.inForce .bulkClose (32 + set)).length - 1

/-- D in ticks (R146): stage 1 alone, and the whole slot. -/
def delay1 (s : State) (k : Nat) : Nat := 6250 * (tapCount s (firSet1 s k) - 1)
def firDelay (s : State) (k : Nat) : Nat := delay1 s k + (if stage2On s k then 50000 * (tapCount s (firSet2 s k) - 1) else 0)

/-- R136, R139: the range limit of a slot: 300 deg/s in 2^-31 turn/s, 8 g in um/s^2, 10.24 V in 10 nV. -/
def rangeLimit (k : Nat) : Int := if k < 3 then 1789569706 else if k < 6 then 78453200 else 1024000000

/-- 10^9, the unit of gains and misalignments (15.1). -/
def ppb : Int := 1000000000

/-- One calibrated axis of a sensor (R135, R374): axis i of three readings, with the items bias, scale factor and misalignment from item b on. Misalignment is in the element order xy, xz, yx, yz, zx, zy. DEDUCED, log entry 72: the gains and the small rotation act on the readings, and the bias is added last, so that a trim of -b moves the output by -b (15.3). -/
def calAxis (s : State) (b i : Nat) (raw : List Int) : Int :=
  let p := fun j => raw.getD j 0 * (ppb + calEff s (b + 1) j)
  let m := fun j => if j < i then calEff s (b + 2) (2 * i + j) else calEff s (b + 2) (2 * i + j - 1)
  rne (((List.range 3).map fun j => if j = i then p j * ppb else p j * m j).sum) (10 ^ 18) + calEff s b i

/-- The calibrated sample of a slot (R135, R139): the same for an analogue input with its gain and offset. -/
def calSample (s : State) (k : Nat) (raw : List Int) : Int :=
  if k < 3 then calAxis s 1 k raw
  else if k < 6 then calAxis s 4 (k - 3) raw
  else rne (raw.headD 0 * (ppb + calEff s 9 (k - 6))) (10 ^ 9) + calEff s 8 (k - 6)

/-- Flags of Table 6-4 in the order RANGE, SAT, MISSING, SETTLING. -/
def firFlags (o : FirOut) : Nat := b2n o.range + 2 * b2n o.sat + 4 * b2n o.missing + 8 * b2n o.settling

/-- One stage's output (R142, Table 6-4): x newest first. -/
def firSum (h : List Int) (x : List Smp) (settling : Bool) (tv : Int) : FirOut :=
  let span := x.take h.length
  let y := rne (((h.zip span).map fun p => p.1 * p.2.v).sum) (2 ^ 30)
  { v := sat32 y, sat := sat32 y != y, range := span.any fun p => p.range, missing := span.any fun p => p.missing
    settling := settling, tv := tv }

/-- INPUT_RANGE (R144): kind 1 RANGE, 2 SAT; again only after 1 s without an occurrence. -/
def firOccur (k : Fin 22) (kind : Nat) (s : State) : State :=
  let x := s.fir.slots[k]
  let last := if kind = 1 then x.lastRange else x.lastSat
  let due := match last with | some t => decide (t + secTicks ≤ s.time.mt) | none => true
  let s := s.onFir fun f => { f with
    slots := upd f.slots k fun x =>
      if kind = 1 then { x with nRange := inc32 x.nRange, lastRange := some s.time.mt }
      else { x with nSat := inc32 x.nSat, lastSat := some s.time.mt } }
  if due && rangeEvent s k.val then raise 7 (k.val * 256 + kind) s else s

/-- The first IMU failure raises EV6 and is a self-diagnosis failure (R137). -/
def imuFail (reason : Nat) (s : State) : State :=
  if s.fir.imuFault != 0 then s
  else selfDiag 8 (raise 6 reason (s.onFir fun f => { f with imuFault := reason }))

/-- IMU_FAULT (R137). -/
def execImuFault (reason : Nat) (s : State) : Host.Outcome State Fault Refusal := .next (imuFail reason s)

/-- The next sample instant of a slot, n times 12,500 + 250 s (R140), after its last one. -/
def sampleAt (k : Nat) (last : Option Nat) (mt : Nat) : Nat :=
  let t := cdiv (mt - 250 * k) 12500 * 12500 + 250 * k
  if last = some t then t + 12500 else t

/-- Stage 2 takes a stage-1 output and, at every tenth, gives its own (R142). -/
def stage2 (k : Fin 22) (m : Nat) (o : FirOut) (s : State) : State :=
  let h := firTaps s (firSet2 s k.val)
  let s := s.onFir fun f => { f with slots := upd f.slots k fun x => { x with
    d2 := ({ v := o.v, range := o.range, missing := o.missing } :: x.d2).take 511
    fresh2 := if o.settling then 0 else min 511 (x.fresh2 + 1) } }
  if !stage2On s k.val || m % 10 != 0 then s
  else
    let x := s.fir.slots[k]
    let y := firSum h x.d2 (decide (x.fresh2 < h.length)) ((m * 100000 + 250 * k.val : Nat) - (firDelay s k.val : Nat))
    let s := s.onFir fun f => { f with slots := upd f.slots k fun x => { x with out2 := y, outs := x.outs ++ [(m * 100000, y.v, firFlags y)] } }
    if y.sat then firOccur k 2 s else s

/-- Stage-1 output m (R142, R143). -/
def stage1 (k : Fin 22) (m : Nat) (s : State) : State :=
  let h := firTaps s (firSet1 s k.val)
  let x := s.fir.slots[k]
  let o := firSum h x.d1 (decide (x.fresh1 < h.length)) ((m * 100000 + 250 * k.val : Nat) - (delay1 s k.val : Nat))
  let s := s.onFir fun f => { f with slots := upd f.slots k fun x => { x with
    prev1 := x.out1, out1 := o, outs := if stage2On s k.val then x.outs else x.outs ++ [(m * 100000, o.v, firFlags o)] } }
  let s := if o.sat then firOccur k 2 s else s
  if 6 ≤ k.val then stage2 k m o s else s

/-- The domain a slot's samples come from is on (Table 3-7): PD12 inertial, PD4 analogue. -/
def sourceOn (s : State) (k : Nat) : Bool := if k < 6 then s.sys.dom[10] == .on else s.sys.dom[2] == .on

/-- The delay lines of slots are stale (R149). -/
def firStale (p : Fin 22 → Bool) (s : State) : State :=
  s.onFir fun f => { f with
    slots := vmapI f.slots fun i x =>
      if p i then { x with fresh1 := 0, fresh2 := 0, out1 := { x.out1 with settling := true }, out2 := { x.out2 with settling := true } } else x }

/-- New filters take effect at a boundary (R148): a changed stage 1 unsettles stage 2. -/
def firTakes (old s : State) : State :=
  s.onFir fun f => { f with
    slots := vmapI f.slots fun i x =>
      let a := firSet1 old i.val
      let b := firSet1 s i.val
      if a != b || (3 ≤ b && old.inForce .bulkClose (32 + b) != s.inForce .bulkClose (32 + b)) then { x with fresh2 := 0 } else x }

/-- SENSOR_OUT for the frame that has just ended (6.7), and the outputs of the new frame kept. -/
def sensorOut (s : State) : State :=
  let b := s.time.mt
  let mine := fun (x : FirSlot) => x.outs.filter fun (o : Nat × Int × Nat) => decide (o.1 < b)
  let s := match s.sub 0x3B0 0 with
    | none => s
    | some u =>
      let blocks := (fins 22).flatMap fun (k : Fin 22) =>
        if tb u.arg k.val then
          let os := mine s.fir.slots[k]
          let fl := os.foldl (fun a (o : Nat × Int × Nat) => a ||| o.2.2) 0
          pk [(os.length, 16), (fl, 8), (k.val, 0)] :: os.map fun (o : Nat × Int × Nat) => ofI o.2.1
        else []
      stream 0x3B0 0 (w64 (b - frameTicks) ++ [ofN u.arg] ++ blocks) s
  s.onFir fun f => { f with slots := vmap f.slots fun x => { x with outs := x.outs.filter fun (o : Nat × Int × Nat) => decide (b ≤ o.1) } }

/-! Commands (6.6, 6.7). -/

/-- R147: SET1 and SET2; user sets must have been written. -/
def firCheck (s : State) (ws : List Word) : Option (Nat × Nat) :=
  let w := wd ws 0
  let k := fld w 4 0
  let s1 := fld w 11 8
  let s2 := fld w 15 12
  let user := fun n => decide (n < 3) || (cfgFind s.cfg.work .bulkClose (32 + n)).isSome
  if s2 != 0xF && decide (k < 6) then some (0xF016, 0)
  else if s1 = 2 || s2 = 0 || s2 = 1 then some (0xF016, 0)
  else if !user s1 || (s2 != 0xF && !user s2) then some (0xF016, 0)
  else none

/-- CFG_FIR_CHANNEL (Table 6-7): at the next boundary. -/
def execCfgFirChannel (p : Port) (s : State) : Host.Outcome State Fault Refusal :=
  .next (configRow .cfgFirChannel p (fun _ ws s => firCheck s ws) s)

/-- CFG_FIR_QUERY (Table 6-8). -/
def execCfgFirQuery (p : Port) (s : State) : Host.Outcome State Fault Refusal :=
  .next (runOp .cfgFirQuery p (fun c s =>
    match fin? 22 (fld (wd c.words 0) 4 0) with
    | none => badValue p c 0 s
    | some k =>
      let x := s.fir.slots[k]
      let dc := fun set => ofI (sat32 (firTaps s set).sum)
      ok p c 0 [pk [(firSet2 s k.val, 12), (firSet1 s k.val, 8), (k.val, 0)], ofN (firDelay s k.val), dc (firSet1 s k.val),
        (if stage2On s k.val then dc (firSet2 s k.val) else 0), ofN x.nRange, ofN x.nSat, ofN x.nMissing] s) s)

/-- FUS_SENSOR_STREAM (Table 18-9, R427): mask 0 stops SENSOR_OUT. -/
def execFusSensorStream (p : Port) (s : State) : Host.Outcome State Fault Refusal :=
  .next (runOp .fusSensorStream p (fun c s =>
    let m := fld (wd c.words 0) 21 0
    ok p c 0 [] (subscribe 0x3B0 0 p (if m = 0 then 0 else 1) m s)) s)

end Sys2Proof.Machine
end

