-- ==== Sys2Proof/Machine/Observer.lean ====
section
/-! DEFINITION. The arithmetic of Belvedere (7.3 to 7.7): attitudes, mechanisation, projection, the thrust and wind force, the observer bank, its runs and its replays. Vectors stand in 2^-60, 2^-20 or plain units as each says; the roundings are the model's (log entry 16). -/

namespace Sys2Proof.Machine

/-! Parameters of a slot in force (Table 7-3). -/

def refW (s : State) (i k : Nat) : Word := wd (s.inForce .fusRefConfig i) k
def refKind (s : State) (i : Nat) : Nat := fld (refW s i 0) 11 8
def refIf (s : State) (i : Nat) : Nat := fld (refW s i 1) 15 8
def refPort (s : State) (i : Nat) : Nat := fld (refW s i 1) 7 0
def refTalker (s : State) (i : Nat) : Nat := fld (refW s i 1) 31 16
def refLever (s : State) (i : Nat) : Ecef := ((refW s i 3).toInt, (refW s i 4).toInt, (refW s i 5).toInt)

/-- ENABLE of a slot: the later of FUS_REF_CONFIG and FUS_REF_ENABLE. -/
def enabledIn (l : List CfgEntry) (i : Nat) : Bool :=
  match cfgFind l .fusRefEnable i with
  | some ws => bit (wd ws 0) 8
  | none => bit (wd (cfgGet l .fusRefConfig i) 0) 7

/-- A configured and enabled slot. -/
def refOn (s : State) (i : Nat) : Bool := refKind s i != 0 && enabledIn s.cfg.force i

/-- A TAUT_WIRE or LASER slot (R160). -/
def refRelative (s : State) (i : Nat) : Bool := refKind s i == 3 || refKind s i == 4

/-- Table 7-1: group of a slot: 0 position, 1 heading, 2 motion, 3 wind. -/
def refGroup (s : State) (i : Nat) : Option (Fin 4) :=
  match refKind s i with
  | 1 => if refIf s i = 3 then some 1 else some 0
  | 2 | 3 | 4 => some 0
  | 5 => some 1
  | 6 => some 2
  | 7 => some 3
  | _ => none

/-! Rotations. -/

/-- A rotation as a quaternion w, x, y, z in 2^-60. -/
abbrev Quat := Int × Int × Int × Int

/-- Rotation from body to earth (or sensor to body) of roll, pitch, heading in 2^-32 turn, applied heading, then pitch, then roll (Table 7-3). -/
def quatOf (roll pitch yaw : Int) : Quat :=
  let h := fun (a : Int) => (sinTurn (a + 2 ^ 31) (2 ^ 33), sinTurn a (2 ^ 33))
  let (cr, sr) := h roll
  let (cp, sp) := h pitch
  let (cy, sy) := h yaw
  let m := fun (a b c : Int) => by60 (by60 a b) c
  (m cr cp cy + m sr sp sy, m sr cp cy - m cr sp sy, m cr sp cy + m sr cp sy, m cr cp sy - m sr sp cy)

/-- A vector rotated. -/
def qrot (q : Quat) (v : Ecef) : Ecef :=
  let (w, x, y, z) := q
  let p := fun (a b : Int) => by60 a b
  let one : Int := 2 ^ 60
  (by60 v.1 (one - 2 * (p y y + p z z)) + by60 v.2.1 (2 * (p x y - p w z)) + by60 v.2.2 (2 * (p x z + p w y)),
   by60 v.1 (2 * (p x y + p w z)) + by60 v.2.1 (one - 2 * (p x x + p z z)) + by60 v.2.2 (2 * (p y z - p w x)),
   by60 v.1 (2 * (p x z - p w y)) + by60 v.2.1 (2 * (p y z + p w x)) + by60 v.2.2 (one - 2 * (p x x + p y y)))

/-- Roll, pitch and heading of a rotation. -/
def eulerOf (q : Quat) : Int × Int × Int :=
  let one : Int := 2 ^ 60
  let ax := qrot q (one, 0, 0)
  let ay := qrot q (0, one, 0)
  let az := qrot q (0, 0, one)
  (wrapA (angleOf az.2.2 ay.2.2), wrapA (angleOf (hyp ay.2.2 az.2.2 : Nat) (-ax.2.2)), angleOf ax.1 ax.2.1)

/-- Spherical interpolation from a (num 0) to b (num den) (R159). -/
def slerp (a b : Quat) (num den : Int) : Quat :=
  let dot := by60 a.1 b.1 + by60 a.2.1 b.2.1 + by60 a.2.2.1 b.2.2.1 + by60 a.2.2.2 b.2.2.2
  let sg : Int := if dot < 0 then -1 else 1
  let d := min (2 ^ 60) (sg * dot)
  let th := angleQ d (isqrt (2 ^ 120 - d * d).toNat : Nat)
  let n := sinTurn th (2 ^ 34)
  if n ≤ 0 ∨ den ≤ 0 then a
  else
    let f := rne (th * num) den.toNat
    let u := sinTurn (th - f) (2 ^ 34)
    let v := sg * sinTurn f (2 ^ 34)
    let mix := fun (x y : Int) => rne (x * u + y * v) n.toNat
    (mix a.1 b.1, mix a.2.1 b.2.1, mix a.2.2.1 b.2.2.1, mix a.2.2.2 b.2.2.2)

/-! Mechanisation (R158). -/

/-- Component i of a mechanised state. -/
def mx (m : Mech) (i : Nat) : Int := m.x.getD i 0

/-- The two entries of a list, newest first, that bracket t: the later one and the earlier one; the newest twice where t is not before it. -/
def bracket {α : Type} (tv : α → Int) (t : Int) : List α → Option (α × α)
  | [] => none
  | [x] => some (x, x)
  | x :: y :: l => if tv x ≤ t then some (x, x) else if tv y ≤ t then some (x, y) else bracket tv t (y :: l)

/-- The mechanised state at t: past the newest one, extrapolated with its rate and force held (R158). -/
def mechAt (s : State) (t : Int) : Mech :=
  match bracket (·.tv) t s.fus.mechs with
  | none => {}
  | some (x, _) => if x.tv < t then { x with tv := t, x := Config.mechanise x.x x.rate x.force (t - x.tv).toNat } else x

/-- The internal attitude at t (R159). -/
def mechAtt (s : State) (t : Int) : Quat :=
  let q := fun (m : Mech) => quatOf (mx m 0) (mx m 1) (mx m 2)
  match bracket (·.tv) t s.fus.mechs with
  | none => quatOf 0 0 0
  | some (x, y) => if t < x.tv then slerp (q y) (q x) (t - y.tv) (x.tv - y.tv) else q (mechAt s t)

/-- A slot of a group is ACTIVE. -/
def groupActive (g : Fin 4) (s : State) : Bool := (fins 24).any fun i => (s.fus.slot[i]).st == 3 && refGroup s i.val == some g

/-- The attitude that projection uses at t: the internal one, or with it voted out the voted MRU roll and pitch with the mechanised heading (R159). -/
def attAt (s : State) (t : Int) : Quat :=
  let own := mechAtt s t
  if s.fus.attSt = 3 || !groupActive 2 s then own
  else
    match bracket (fun (m : Int × Int × Int) => m.1) t s.fus.mru with
    | none => own
    | some (x, y) =>
      let q := fun (m : Int × Int × Int) => quatOf m.2.1 m.2.2 0
      let e := eulerOf (if t < x.1 then slerp (q y) (q x) (t - y.1) (x.1 - y.1) else q x)
      quatOf e.1 e.2.1 (eulerOf own).2.2

/-! Thrust (R162). -/

/-- Thrust in N of a shaft-speed or pitch feedback in 0.01 % of rated, through the characteristic (R376). -/
def spToThrust (s : State) (t : Nat) (sp : Int) : Int :=
  let pts := charPts s t
  let q := match (List.range (pts.length - 1)).find? fun i => decide (sp ≤ (pts.getD (i + 1) (0, 0)).1) with
    | none => ((pts.getLastD (0, 0)).2, 1)
    | some i =>
      let a := pts.getD i (0, 0)
      let b := pts.getD (i + 1) (0, 0)
      if sp ≤ a.1 then (a.2, 1) else (a.2 * (b.1 - a.1) + (b.2 - a.2) * (sp - a.1), (b.1 - a.1).toNat)
  rne (q.1 * (tSide s t q.1 : Nat)) (10000 * max 1 q.2)

/-- The feedback that gives a thruster's thrust, 0.01 % of rated: its engine's, or the field of its CAN frame that DRIVE names; none where neither delivers one. -/
def thrFb (s : State) (t : Fin 16) : Option Int :=
  let pitch := bit (wd (bindWords s t.val) 0) 8
  if thrustLe s t.val ≤ 63 then some (eng s (thrustLe s t.val)).fb
  else if (fbSrcs s t.val).getD (b2n pitch) 0xFF = 0x10 then some (if pitch then (s.loop.canFb[t]).2.1 else (s.loop.canFb[t]).1)
  else none

/-- No valid feedback for 10 ms (R162). -/
def odoStale (s : State) (t : Fin 16) : Bool :=
  thrConfigured s t.val && ((thrFb s t).isNone || (!fbNow s t.val &&
    (match (s.alloc.thr[t]).fbMt with | some m => decide (m + 1000000 < s.time.mt) | none => true)))

/-- The odometry fault mask (R162). -/
def odoMask (s : State) : Nat := maskOf (Vector.ofFn fun t : Fin 16 => odoStale s t)

/-- The azimuth feedback of a thruster, or its setpoint without one. -/
def azFbOf (s : State) (t : Fin 16) : Word :=
  let a := azTarget s t.val
  if (fbSrcs s t.val).getD 2 0xFF = 0x10 then (s.alloc.thr[t]).azFb
  else if !bound s t.val then (s.alloc.issued[t]).az
  else if a ≤ 63 then ofI (eng s a).fb
  else if 0x40 ≤ a && a ≤ 0x4F then ofI (rne (profPos s (a - 0x40) * 2 ^ 32) (max 1 (wd (bindWords s t.val) 4).toNat))
  else (s.alloc.issued[t]).az

/-- What a thruster is taken to give: nothing when marked failed, its setpoint without valid feedback. -/
def thrNow (s : State) (t : Fin 16) : SetPt :=
  if (s.alloc.thr[t]).out then { u := 0 }
  else if odoStale s t then s.alloc.issued[t]
  else { u := spToThrust s t.val ((thrFb s t).getD 0), az := azFbOf s t }

/-- The thrust estimate X, Y, N (R162). -/
def thrustEst (s : State) : Vector Int 3 := forceOf s (Vector.ofFn fun t => thrNow s t)

/-! Wind (R163, 15.2). -/

/-- A wind coefficient (column c: X, Y, N) at an angle of 0 to half a turn, times 2^32. -/
def windCoef (s : State) (c : Nat) (ang : Nat) : Int :=
  let j := ang * 36 / 2 ^ 32
  let f : Int := (ang * 36 % 2 ^ 32 : Nat)
  let k := fun (j : Nat) => (vesW s (13 + 3 * min j 18 + c)).toInt
  k j * (2 ^ 32 - f) + k (j + 1) * f

/-- Wind force of a relative wind from an angle (2^-32 turn, clockwise from ahead) at a speed in mm/s: N, N, N·m. Winds from port use the starboard table with CY and CN negated. -/
def windForce (s : State) (ang speed : Int) : Vector Int 3 :=
  let g := angA ang
  let port : Bool := decide (2 ^ 31 < g)
  let a := (if port then 2 ^ 32 - g else g).toNat
  let sg : Int := if port then -1 else 1
  let v2 := speed * speed * 6125
  let af : Int := (vesW s 10).toNat
  let as : Int := (vesW s 11).toNat
  let loa : Int := (vesW s 12).toNat
  #v[rne (v2 * af * windCoef s 0 a) (10 ^ 16 * 2 ^ 32), rne (sg * v2 * as * windCoef s 1 a) (10 ^ 16 * 2 ^ 32),
    rne (sg * v2 * as * loa * windCoef s 2 a) (10 ^ 19 * 2 ^ 32)]

/-! Projection (R159). -/

/-- A projected measurement: components in 2^-20 units, heave third. A relative one without origin counts from an origin at zero. DEDUCED, log entry 78: what the mounting rotation and the lever arm do to a heading, a motion and a wind measurement. -/
def project (s : State) (i : Fin 24) (m : Meas) (tv : Int) : Int × Int × Int :=
  let k := i.val
  let q := attAt s tv
  let e := eulerOf q
  let mount := quatOf (refW s k 7).toInt (refW s k 8).toInt (refW s k 9).toInt
  let up := fun (v : Ecef) => ((v.1 * 2 ^ 20, v.2.1 * 2 ^ 20, v.2.2 * 2 ^ 20) : Ecef)
  let arm := qrot q (up (refLever s k))
  let v := fun (j : Nat) => m.vals.getD j 0
  let level := quatOf e.1 e.2.1 0
  match refKind s k with
  | 1 | 2 =>
    if refKind s k = 1 && refIf s k = 3 then
      let slotAt := fun (b : Nat) => ((List.range 24).find? fun j => refKind s j == 1 && refIf s j == b).getD 0
      let d := qrot level (up (sub3 (refLever s (slotAt 1)) (refLever s (slotAt 0))))
      (angA (v 0 - angleOf d.1 d.2.1) * 2 ^ 20, 0, 0)
    else
      let p := ecefToPlane s.dpc.datum (ecefOf (v 0) (v 1) (v 2))
      (p.1 - arm.1, p.2 - arm.2.1, 0)
  | 3 | 4 =>
    let w := qrot q (qrot mount (v 0 * 2 ^ 20, v 1 * 2 ^ 20, 0))
    let o := (s.fus.slot[i]).origin.getD (0, 0)
    (o.1 - arm.1 - w.1, o.2 - arm.2.1 - w.2.1, 0)
  | 5 =>
    let d := qrot level (qrot mount (2 ^ 60, 0, 0))
    (angA (v 0 - angleOf d.1 d.2.1) * 2 ^ 20, 0, 0)
  | 6 =>
    let g := qrot mount (-(sinA (v 1)), by60 (sinA (v 0)) (cosA (v 1)), by60 (cosA (v 0)) (cosA (v 1)))
    let roll := wrapA (angleOf g.2.2 g.2.1)
    let pitch := wrapA (angleOf (hyp g.2.1 g.2.2 : Nat) (-g.1))
    let l := refLever s k
    (roll * 2 ^ 20, pitch * 2 ^ 20, (v 2 - rne (dot3 g (l.1 * 2 ^ 20, l.2.1 * 2 ^ 20, l.2.2 * 2 ^ 20)) (2 ^ 20) + l.2.2) * 2 ^ 20)
  | 7 =>
    let w := qrot q (qrot mount (v 1 * cosA (v 0), v 1 * sinA (v 0), 0))
    (rne w.1 (2 ^ 40), rne w.2.1 (2 ^ 40), 0)
  | _ => (0, 0, 0)

/-! One observer (7.5). -/

/-- An observer from its numbers. -/
def obsOf (l : List Int) : Obs := { x := l.take 15, p := l.drop 15 }

/-- The parameters of the observers' model in force: FUS_OBSERVER_CONFIG and the vessel model. -/
def obsPar (s : State) : List Word := s.inForce .fusObserverConfig 0 ++ s.inForce .bulkClose 64

/-- An observer carried from t0 to t1 with the inertial states between and the wind force (7.5). -/
def obsAdvance (mechs : List Mech) (par : List Word) (wind : Vector Int 3) (t0 t1 : Int) (o : Obs) : Obs :=
  if t1 ≤ t0 then o
  else
    let ms := mechs.filter fun m => decide (t0 < m.tv) && decide (m.tv ≤ t1)
    obsOf (Config.obsModel (o.x ++ o.p) par (wind.toList ++ ms.flatMap fun m => m.tv :: (m.x ++ m.thr.toList)) (t1 - t0).toNat)

/-- Prediction of position or heading: low and wave frequency together (7.5). -/
def obsPred (o : Obs) (hdg : Bool) : Int × Int :=
  let x := fun i => o.x.getD i 0
  if hdg then (x 2 + x 13, 0) else (x 0 + x 9, x 1 + x 11)

/-- Innovation of a measurement in 2^-20 units. -/
def obsNu (o : Obs) (m : ObsMeas) : Int × Int :=
  let p := obsPred o m.hdg
  if m.hdg then ((m.z.1 - p.1 + 2 ^ 51) % 2 ^ 52 - 2 ^ 51, 0) else (m.z.1 - p.1, m.z.2 - p.2)

/-- Variance of the prediction, the larger component, in squared units (7.6). -/
def obsVar (o : Obs) (hdg : Bool) : Nat :=
  let p := fun i j => o.p.getD (15 * i + j) 0
  let v := fun i j => (rne (p i i + p j j + 2 * p i j) (2 ^ 40)).toNat
  if hdg then v 2 13 else max (v 0 9) (v 1 11)

/-- A measurement corrects an observer; a late one leaves the covariance to its frame's end (R172). -/
def obsCorrect (m : ObsMeas) (o : Obs) : Obs :=
  let g := Config.obsGain o.p m.hdg m.sigma
  let nu := obsNu o m
  { x := (List.range 15).map fun i => o.x.getD i 0 + rne (g.getD i 0 * nu.1 + g.getD (15 + i) 0 * nu.2) (2 ^ 30)
    p := if m.late then o.p else Config.obsReduce o.p m.hdg m.sigma }

/-- A measurement as an observer saw it: innovation and variance of the prediction. -/
structure Seen where
  m : ObsMeas
  nu : Int × Int
  var : Nat
  deriving DecidableEq, Repr

/-- What a run of the bank goes by: inertial states, parameters, wind force, end, measurements in the order of t_v, the late ones whose reduction it applies. -/
structure Leg where
  mechs : List Mech
  par : List Word
  wind : Vector Int 3
  t1 : Nat
  meas : List ObsMeas
  cuts : List ObsMeas := []

/-- One observer over a leg from t0: measurements of one slot may be left out (R165). -/
def obsRun (g : Leg) (t0 : Nat) (skip : Option Nat) (o : Obs) : Obs × List Seen :=
  let step := fun (a : Int × Obs × List Seen) (m : ObsMeas) =>
    let o := obsAdvance g.mechs g.par g.wind a.1 m.tv a.2.1
    let seen : Seen := { m := m, nu := obsNu o m, var := obsVar o m.hdg }
    (max a.1 m.tv, if m.use && some m.slot != skip then obsCorrect m o else o, a.2.2 ++ [seen])
  let (t, o, seen) := g.meas.foldl step ((t0 : Int), o, [])
  let o := obsAdvance g.mechs g.par g.wind t g.t1 o
  let cut := fun (o : Obs) (m : ObsMeas) =>
    if some m.slot = skip then o else { o with p := Config.lateReduce o.p m.hdg m.sigma ((g.t1 : Int) - m.tv).toNat }
  (g.cuts.foldl cut o, seen)

/-- The bank over a leg; what the main observer saw, and what each leave-one-out observer saw of its own slot. -/
def bankRun (g : Leg) (b : ObsBank) : ObsBank × List Seen × List Seen :=
  let (main, seen) := obsRun g b.at_ none b.main
  let loo := b.loo.map fun e => (e.1, obsRun g b.at_ (some e.1) e.2)
  ({ at_ := g.t1, main := main, loo := loo.map fun e => (e.1, e.2.1) }, seen,
    loo.flatMap fun e => e.2.2.filter fun x => x.m.slot == e.1)

/-- Inserts a measurement in the order of t_v. -/
def measInsert (m : ObsMeas) : List ObsMeas → List ObsMeas
  | [] => [m]
  | x :: xs => if m.tv < x.tv then m :: x :: xs else x :: measInsert m xs

/-- Rollback and replay (R172): every observer returns to the boundary before the earliest late measurement and is replayed through the stored frames with the late ones inserted. Answers the bank at the previous boundary, the history after it, and what was seen. -/
def replay (s : State) (lates : List ObsMeas) (base : ObsBank) : ObsBank × List HistFrame × List Seen × List Seen :=
  let first := lates.foldl (fun (t : Int) (m : ObsMeas) => min t m.tv) (base.at_ : Int)
  let j := (first / (frameTicks : Int)).toNat
  let newer := (s.fus.hist.takeWhile fun f => decide (j < f.k)).reverse
  let older := s.fus.hist.dropWhile fun f => decide (j < f.k)
  match older.head? with
  | none => (base, s.fus.hist, [], [])
  | some f0 =>
    let step := fun (a : ObsBank × List HistFrame × List Seen × List Seen) (f : HistFrame) =>
      let t1 := f.k * frameTicks
      let mine := lates.filter fun m => decide ((a.1.at_ : Int) ≤ m.tv) && decide (m.tv < (t1 : Int))
      let ms := mine.foldl (fun l m => measInsert m l) f.meas
      let (b, sn, lo) := bankRun { mechs := s.fus.mechs, par := f.par, wind := f.wind, t1 := t1, meas := ms, cuts := f.cuts } a.1
      (b, { f with bank := b, meas := ms } :: a.2.1, a.2.2.1 ++ sn.filter (fun x => lates.contains x.m), a.2.2.2 ++ lo.filter fun x => lates.contains x.m)
    let (b, hist, sn, lo) := newer.foldl step (f0.bank, older, [], [])
    ({ b with loo := base.loo.map fun e => (e.1, ((b.loo.find? fun x => x.1 == e.1).map fun x => x.2).getD e.2) }, hist, sn, lo)

/-- Whether a slot was ACTIVE in the frame whose update a late measurement would have entered (R172). -/
def lateActive (s : State) (slot : Nat) (tv : Int) : Bool :=
  match s.fus.hist.find? fun f => f.k == (tv / (frameTicks : Int)).toNat + 1 with
  | some f => tb f.active slot
  | none => false

/-- The bank of the update: one that starts when there is none (7.5). -/
def bankNow (prev : Nat) (s : State) : ObsBank := s.fus.bank.getD { at_ := prev, main := obsOf Config.obsStart }

/-- The estimate of an observer at b (Table 7-9). -/
def estOf (s : State) (b : Nat) (o : Obs) : EstVec :=
  let q := fun i => rne (o.x.getD i 0) (2 ^ 20)
  let sd := fun i => ((isqrt (4 * (o.p.getD (16 * i) 0).toNat) / 2 ^ 20 + 1) / 2 : Nat)
  let e := eulerOf (attAt s b)
  let heave := rne (mx (mechAt s b) 8) (2 ^ 20)
  let t := thrustEst s
  let w := s.fus.windF
  #v[q 0, q 1, angA (q 2), q 3, q 4, q 5, q 9, q 11, wrapA (q 13), e.1, e.2.1, heave, q 6, q 7, q 8, w[0], w[1], w[2], t[0], t[1], t[2],
    sd 0, sd 1, sd 2, sd 3, sd 4, sd 5]

end Sys2Proof.Machine
end

