-- ==== Sys2Proof/Machine/Fusion.lean ====
section
/-! DEFINITION. Belvedere (chapter 7): slots, intake and stamping, voting, modes, blending, the published estimate, the commands, and the sentences that feed it (14.7). -/

namespace Sys2Proof.Machine

/-! Parameters in force (Tables 7-3, 7-11). -/

def latTicks (s : State) (i : Nat) : Nat := (refW s i 2).toNat * 100
def refGate (s : State) (i : Nat) : Nat := fld (refW s i 10) 23 16
def refCoupling (s : State) (i : Nat) : Nat := fld (refW s i 10) 3 2
def refOwnTime (s : State) (i : Nat) : Bool := bit (refW s i 10) 1 && refKind s i != 1
def staleTicks (s : State) (i : Nat) : Nat := (refW s i 12).toNat * msTicks
def voteK (s : State) : Nat := fld (wd (s.inForce .fusVoteConfig) 0) 7 0
def drLimit (s : State) : Nat := fld (wd (s.inForce .fusVoteConfig) 0) 31 16
def looOn (s : State) : Bool := bit (wd (s.inForce .fusVoteConfig) 1) 16
def blendFrames (s : State) : Nat := max 1 (fld (wd (s.inForce .fusVoteConfig) 1) 15 8)
def returnCount (s : State) : Nat := fld (wd (s.inForce .fusVoteConfig) 1) 7 0

/-- FAULT of Table 7-8: a baseband out of service or an antenna fault at a GNSS_INT slot. -/
def slotFault (s : State) (i : Nat) : Bool :=
  let bad := fun (b : Fin 2) => (s.gnss.bb[b]).out || decide (1 ≤ (s.gnss.bb[b]).ant ∧ (s.gnss.bb[b]).ant ≤ 3)
  refKind s i == 1 && (match refIf s i with | 0 => bad 0 | 1 => bad 1 | _ => bad 0 || bad 1)

/-- Changes a slot. -/
def onSlot (i : Fin 24) (f : RefSlot → RefSlot) (s : State) : State := s.onFus fun u => { u with slot := upd u.slot i f }

/-- A slot's state, with REF_STATE (EV32) on a change (R169). -/
def setSlot (i : Fin 24) (st : Nat) (s : State) : State :=
  if (s.fus.slot[i]).st = st then s
  else
    let out := st == 6 || st == 7
    raise 32 (i.val * 256 + st) (onSlot i (fun x => { x with st := st, nVotedOut := if out then inc32 x.nVotedOut else x.nVotedOut }) s)

/-- The estimate mode, with ESTIMATE_MODE (EV39) on a change (R167). -/
def setEstMode (m : Nat) (s : State) : State :=
  if s.fus.mode = m then s else raise 39 m (s.onFus fun u => { u with mode := m, initRun := 0 })

/-! Intake (7.2). -/

/-- A measurement arrives (R153): at a full queue the oldest is dropped, with INTAKE_OVERRUN at most once per second. -/
def intakeMeas (i : Fin 24) (m : Meas) (s : State) : State :=
  if !refOn s i.val then s
  else
    let x := s.fus.slot[i]
    let m := { m with fused := s.fus.mode == 1 }
    if x.queue.length < 8 then onSlot i (fun x => { x with queue := x.queue ++ [m] }) s
    else
      let due := secondPassed x.lastOverrun s.time.mt
      let s := onSlot i (fun x => { x with
        queue := x.queue.drop 1 ++ [m], nOverrun := inc32 x.nOverrun
        lastOverrun := if due then some s.time.mt else x.lastOverrun }) s
      if due then raise 36 i.val s else s

/-- A discard (R157): counted, and MEAS_DISCARD at most once per second per slot and reason. -/
def discard (i : Fin 24) (reason : Fin 3) (s : State) : State :=
  let now := s.time.mt
  let due := secondPassed (s.fus.slot[i]).lastDisc[reason] now
  let s := onSlot i (fun x => { x with
    nDisc := upd x.nDisc reason inc32
    lastDisc := if due then upd x.lastDisc reason (fun _ => some now) else x.lastDisc }) s
  if due then raise 37 (i.val * 256 + reason.val + 1) s else s

/-- The time-base model starts again (R155, R156). -/
def tbInit (x : RefSlot) : RefSlot := { x with tbA := 0, tbB := 0, tbD := 0, tbN := 0, tbTs := none, tbSum := 0, tbCnt := 0, incons := 0, cons := 0 }

/-- t_map of a sensor time (R155). -/
def tMap (x : RefSlot) (ts : Int) : Int := ts + rne (x.tbA + rne (x.tbB * (ts - x.tbTs.getD ts) * 2 ^ 20) 1000000000000000) (2 ^ 20)

/-- The time-base model takes a pair of sensor time and arrival less latency (R155). DESIGN CHOICE, log entry 76: the offset and the rate each go through the first-order filter, x + (new - x) / 100, and over the first 20 samples through the mean instead. -/
def tbTake (ts arr : Int) (x : RefSlot) : RefSlot :=
  let n : Nat := if x.tbN < 20 then x.tbN + 1 else 100
  let d := arr - ts
  let dt := ts - x.tbTs.getD ts
  let rate := if dt = 0 then x.tbB else (d - x.tbD) * 1000000000000000 / dt
  let b := if x.tbN = 0 then 0 else if x.tbN = 1 then rate else x.tbB + rne (rate - x.tbB) (min n 100)
  let a := if x.tbN = 0 then d * 2 ^ 20 else x.tbA + rne (x.tbB * dt * 2 ^ 20) 1000000000000000
  { x with tbA := a + rne (d * 2 ^ 20 - a) n, tbB := b, tbD := d, tbN := min 20 (x.tbN + 1), tbTs := some ts }

/-- t_v of a measurement, and the time-base model after it (R152, R154 to R156). -/
def stampMeas (i : Fin 24) (m : Meas) (s : State) : Int × State :=
  let k := i.val
  if refKind s k = 1 then ((m.ts.getD m.ta : Nat), s)
  else
    let arr : Int := (m.ta : Int) - (latTicks s k : Int)
    match (if refOwnTime s k then m.ts else none) with
    | none => (arr, s)
    | some raw =>
      let x := s.fus.slot[i]
      let day : Int := 86400 * 100000000
      let ts := match x.tbTs with | some t => (raw : Int) + rne (t - raw) day.toNat * day | none => (raw : Int)
      let tmap := tMap x ts
      let ready := decide (20 ≤ x.tbN)
      let bad := ready && (decide (1000000 < (tmap - arr).natAbs) || decide ((m.ta : Int) < tmap))
      let fitted := tbTake ts arr { x with
        tbSum := if ready then x.tbSum + (m.ta - tmap) else x.tbSum
        tbCnt := if ready then x.tbCnt + 1 else x.tbCnt }
      if x.slipped then
        let c := if !ready then 0 else if bad then 0 else x.cons + 1
        if c = 100 then (arr, raise 35 (k * 256) (onSlot i (fun _ => { fitted with slipped := false, cons := 0, incons := 0 }) s))
        else (arr, onSlot i (fun _ => { fitted with cons := c }) s)
      else if !ready then (arr, onSlot i (fun _ => fitted) s)
      else if bad then
        if x.incons + 1 = 5 then (arr, raise 35 (k * 256 + 1) (onSlot i (fun _ => { tbInit fitted with slipped := true }) s))
        else (arr, onSlot i (fun _ => { fitted with incons := x.incons + 1 }) s)
      else (tmap, onSlot i (fun _ => { fitted with incons := 0 }) s)

/-- Standard deviation of a measurement (Table 7-3, R156, R161), at least 1 unit. -/
def measSigma (s : State) (i : Fin 24) (m : Meas) (tv : Int) (b : Nat) : Nat :=
  let k := i.val
  let nominal := (refW s k 6).toNat
  let par := (refW s k 11).toNat
  let base := match fld (refW s k 10) 7 4 with
    | 1 => match m.rep with
      | some r => if refKind s k = 2 then par * r / 100 else r
      | none => nominal
    | 2 => nominal + (rne (par * max 0 ((b : Int) - tv)) secTicks).toNat
    | _ => nominal
  max 1 (if (s.fus.slot[i]).slipped then base * fld (refW s k 13) 15 0 / 100 else base)

/-- A measurement taken from a queue, with its t_v and standard deviation. -/
structure Stamped where
  slot : Fin 24
  m : Meas
  tv : Int
  sigma : Nat

/-- Inserts a stamped measurement in the order of t_v (R157). -/
def tvInsert (e : Stamped) : List Stamped → List Stamped
  | [] => [e]
  | x :: xs => if e.tv < x.tv then e :: x :: xs else x :: tvInsert e xs

/-- Takes a slot's queue for the update at boundary b of frame k (R20, R157, R164, R171): the measurements used, in the order of t_v. -/
def takeQueue (b : Nat) (i : Fin 24) (s : State) : State × List Stamped :=
  let mine := (s.fus.slot[i]).queue.filter fun m => m.ta < b
  let s := onSlot i (fun x => { x with queue := x.queue.filter fun m => b ≤ m.ta }) s
  let (s, l) := mine.foldl (fun (a : State × List Stamped) m =>
    let (tv, s) := stampMeas i m a.1
    (s, tvInsert { slot := i, m := m, tv := tv, sigma := measSigma s i m tv b } a.2)) (s, [])
  let prev : Int := (b : Int) - 1000000
  let oldest : Int := (b : Int) - 1000000 * (s.fus.hist.length : Int)
  l.foldl (fun (a : State × List Stamped) e =>
    let (s, u) := a
    let x := s.fus.slot[i]
    if x.used && e.tv ≤ x.lastTv then (discard i 1 s, u)
    else if e.tv < prev && e.tv < oldest then (discard i 0 s, u)
    else (onSlot i (fun x => { x with lastTv := e.tv, used := true, nUsed := inc32 x.nUsed, sigma := e.sigma }) s, u ++ [e])) (s, [])

/-! Voting (7.6). -/

/-- A member of a vote: its slot (none: the internal attitude), innovation, standard deviation, prediction variance, gate, state and return count. -/
structure Member where
  slot : Option (Fin 24)
  v1 : Int
  v2 : Int
  sig : Nat
  pv : Nat
  gate : Nat
  st : Nat
  back : Nat
  deriving DecidableEq, Repr

/-- |ν| ≤ G sqrt(σ² + P). -/
def consistent (m : Member) : Bool :=
  decide (100 * (m.v1 * m.v1 + m.v2 * m.v2) ≤ (m.gate * m.gate * (m.sig * m.sig + m.pv) : Nat))

/-- Inserts a value with its weight in increasing order. -/
def wInsert (e : Int × Nat) : List (Int × Nat) → List (Int × Nat)
  | [] => [e]
  | x :: xs => if e.1 ≤ x.1 then e :: x :: xs else x :: wInsert e xs

/-- Weighted median (R168): the value at which the cumulated weight passes half. Where it meets half exactly, any value up to the next one (the spec does not say which): a free one. -/
def wMedian (free : Int) (l : List (Int × Nat)) : Int :=
  let sorted := l.foldl (fun a e => wInsert e a) []
  let total := (l.map fun e => e.2).sum
  let rec go : Nat → List (Int × Nat) → Int
    | _, [] => 0
    | _, [x] => x.1
    | c, x :: y :: rest =>
      let c := c + x.2
      if total < 2 * c then x.1
      else if 2 * c = total then x.1 + free % (y.1 - x.1 + 1)
      else go c (y :: rest)
  go 0 sorted

/-- Weights 1/σ² over a common denominator. -/
def weights (ms : List Member) : List Nat :=
  (List.range ms.length).map fun i =>
    ((List.range ms.length).map fun j => if i = j then 1 else match ms[j]? with | some m => m.sig * m.sig | none => 1).foldl (· * ·) 1

/-- Table 7-7 and R169: new state and return count of each member, and REF_CONFLICT. k is the vote factor in tenths, ret RETURN_COUNT. -/
def vote (k ret : Nat) (free : Int × Int) (standing : Bool) (ms : List Member) : List (Nat × Nat) × Bool :=
  let held := fun (rs : List (Nat × Nat)) => (rs, standing && !rs.isEmpty && !rs.any fun r => r.1 == 3)
  match ms with
  | [] => ([], false)
  | [m] => held [(if consistent m then 3 else 5, 0)]
  | [a, b] =>
    let d1 := a.v1 - b.v1
    let d2 := a.v2 - b.v2
    let ca := consistent a
    let cb := consistent b
    if 100 * (d1 * d1 + d2 * d2) ≤ (k * k * (a.sig * a.sig + b.sig * b.sig) : Nat) then
      let one := fun (m : Member) =>
        if m.st = 6 || m.st = 7 then
          let n := if ca || cb then m.back + 1 else 0
          if ret ≤ n then (3, 0) else (m.st, n)
        else (3, 0)
      held [one a, one b]
    else if ca && !cb then held [(3, 0), (7, 0)]
    else if cb && !ca then held [(7, 0), (3, 0)]
    else ([(7, 0), (7, 0)], true)
  | _ =>
    let w := weights ms
    let m1 := wMedian free.1 ((ms.map fun m => m.v1).zip w)
    let m2 := wMedian free.2 ((ms.map fun m => m.v2).zip w)
    let far := fun (m : Member) =>
      decide ((k * k * (m.sig * m.sig) : Nat) < 100 * ((m.v1 - m1) * (m.v1 - m1) + (m.v2 - m2) * (m.v2 - m2)))
    if ms.all far then (ms.map fun _ => (7, 0), true)
    else held (ms.map fun m =>
      if far m then (6, 0)
      else if m.st = 6 then (if ret ≤ m.back + 1 then (3, 0) else (6, m.back + 1))
      else (3, 0))

/-- A slot has a measurement fresh enough to be judged: enabled, not in FAULT, its latest innovation not older than STALE_MS, and for a relative one at least ten measurements since the capture (R160). -/
def judged (b : Nat) (s : State) (g : Fin 4) (i : Fin 24) : Bool :=
  let x := s.fus.slot[i]
  refOn s i.val && refGroup s i.val == some g && decide (2 ≤ x.st ∧ x.st ≤ 7) &&
  (match x.inMt with | some t => decide (b ≤ t + staleTicks s i.val) | none => false) &&
  (!refRelative s i.val || (x.origin.isSome && decide (10 ≤ x.sinceOrigin)))

/-- The members of a vote: slots in state ACTIVE, VOTED_OUT or GATED (7.6), and SUSPENDED ones, which return through it (R169). -/
def memberOf (b : Nat) (s : State) (g : Fin 4) (i : Fin 24) : Bool :=
  let st := (s.fus.slot[i]).st
  judged b s g i && (st == 3 || st == 5 || st == 6 || st == 7)

/-- An ACQUIRING or STALE slot with a fresh innovation. DESIGN CHOICE, log entry 75: each is judged as if it joined the members, whose own decisions it leaves alone. -/
def candidate (b : Nat) (s : State) (g : Fin 4) (i : Fin 24) : Bool :=
  let st := (s.fus.slot[i]).st
  judged b s g i && (st == 2 || st == 4)

/-- A slot as a member: its horizontal components, heading or (roll, pitch), or its heave. -/
def memberSlot (s : State) (heave : Bool) (i : Fin 24) : Member :=
  let x := s.fus.slot[i]
  if heave then { slot := some i, v1 := x.in3, v2 := 0, sig := x.sigma, pv := x.pvar3, gate := refGate s i.val, st := x.st, back := x.back }
  else { slot := some i, v1 := x.in1, v2 := x.in2, sig := x.sigma, pv := x.pvar, gate := refGate s i.val, st := x.st, back := x.back }

/-- The numbers that the prediction of the motion and wind groups goes by (7.6). -/
def otherPred (s : State) (wind : Bool) (t : Int) (i : Nat) : Int :=
  let o := (bankNow 0 s).main
  let w := s.fus.wind.getD (0, 0)
  Config.otherPred wind (o.x ++ o.p) (mechAt s t).x [w.1, w.2] i

/-- The internal attitude as a member of the motion group: roll and pitch at b less the prediction. -/
def attitude (b : Nat) (s : State) : Member :=
  let e := eulerOf (mechAtt s b)
  { slot := none, v1 := wrapA (e.1 - otherPred s false b 0), v2 := wrapA (e.2.1 - otherPred s false b 1), sig := max 1 Config.attMember.1
    pv := (otherPred s false b 3).toNat, gate := Config.attMember.2, st := s.fus.attSt, back := s.fus.attBack }

/-- Outcome of roll and pitch with that of heave (7.6): ACTIVE where both are, else the state that keeps it out. -/
def joinVotes (r h : Nat × Nat) : Nat × Nat :=
  if r.1 = 3 ∧ h.1 = 3 then r else if r.1 = 3 then h else (r.1, if h.1 = 3 then r.2 else min r.2 h.2)

/-- The votes on a list of slots of a group: new states and return counts, the internal attitude's last in the motion group, and REF_CONFLICT. -/
def votesOf (b : Nat) (g : Fin 4) (s : State) (ids : List (Fin 24)) : List (Nat × Nat) × Bool :=
  let was := s.fus.conflict[g]
  let free := fun k => Config.freeInt (s.free + k)
  let (rs, con) := vote (voteK s) (returnCount s) (free 0, free 1) was (ids.map (memberSlot s false) ++ (if g = 2 then [attitude b s] else []))
  if g = 2 then
    let (hs, hcon) := vote (voteK s) (returnCount s) (free 2, 0) was (ids.map (memberSlot s true))
    ((List.range rs.length).map fun n => match hs[n]? with | some h => joinVotes (rs.getD n (3, 0)) h | none => rs.getD n (3, 0), con || hcon)
  else (rs, con)

/-- The vote of one group in the frame that began at b (R168, R169). -/
def voteGroup (b : Nat) (g : Fin 4) (s : State) : State :=
  let ids := (fins 24).filter fun i => memberOf b s g i
  let (rs, con) := votesOf b g s ids
  let news := ((fins 24).filter fun i => candidate b s g i).filterMap fun i =>
    ((votesOf b g s (i :: ids)).1.head?).map fun r => (i, r)
  let was := s.fus.conflict[g]
  let s := s.onFree (· + 3)
  let s := (ids.zip rs).foldl (fun s e => setSlot e.1 e.2.1 (onSlot e.1 (fun x => { x with back := e.2.2 }) s)) s
  let s := news.foldl (fun s e =>
    if e.2.1 = 3 || (s.fus.slot[e.1]).st = 4 then setSlot e.1 e.2.1 (onSlot e.1 (fun x => { x with back := e.2.2 }) s) else s) s
  let s := if g = 2 then
      match rs.getLast? with
      | some r => s.onFus fun u => { u with attSt := r.1, attBack := r.2 }
      | none => s
    else s
  if con = was then s
  else raise 33 (b2n con * 256 + g.val) (s.onFus fun u => { u with conflict := u.conflict.set g con })

/-- A heading slot of the basebands without GNSS heading enabled (R152). -/
def noHeading (s : State) (i : Fin 24) : Bool := refKind s i.val == 1 && refIf s i.val == 3 && s.gnss.hdg == 0

/-- Slots whose latest innovation is too old become STALE (Table 7-8). -/
def staleSlots (b : Nat) (s : State) : State :=
  (fins 24).foldl (fun s i =>
    let x := s.fus.slot[i]
    let old := match x.inMt with | some t => decide (t + staleTicks s i.val < b) | none => true
    if (x.st = 3 || x.st = 5 || x.st = 6 || x.st = 7) && old then setSlot i 4 s else s) s

/-! The update of a frame (R164 to R177). -/

/-- Step 2 runs in this mode (Table 1-7): in COMMISSION only with references configured. -/
def belvRuns (s : State) : Bool :=
  match s.sys.mode with
  | .commission => (List.range 24).any fun i => refKind s i != 0
  | .standby | .control | .safeHold => true
  | _ => false

/-- A normalised innovation in hundredths. DEDUCED, log entry 79: |ν| over the root of σ² + P. -/
def nisOf (nu : Int × Int) (sigma var : Nat) : Nat :=
  satN 0xFFFFFFFF (isqrt (10000 * (nu.1 * nu.1 + nu.2 * nu.2).toNat / max 1 (sigma * sigma + var)))

/-- A pair in 2^-20 units, in units. -/
def plain (p : Int × Int) : Int × Int := (rne p.1 (2 ^ 20), rne p.2 (2 ^ 20))

/-- The innovation of a position or heading measurement, as the main observer saw it. A relative slot takes its origin from the first measurement that arrived in FUSED, so that it meets the estimate at its t_v, and counts those that follow (R160); `from_` is the origin that the projection used. -/
def takeInnov (b : Nat) (i : Fin 24) (fused : Bool) (from_ : Int × Int) (sn : Seen) (s : State) : State :=
  let x := s.fus.slot[i]
  let keep := fun (nu : Int × Int) (s : State) => onSlot i (fun x => { x with
    in1 := nu.1, in2 := nu.2, in3 := 0, pvar := sn.var, pvar3 := 0, inMt := some b, nis := nisOf nu sn.m.sigma sn.var }) s
  if !refRelative s i.val then keep (plain sn.nu) s
  else
    match x.origin with
    | none => if fused then onSlot i (fun x => { x with origin := some (from_.1 - sn.nu.1, from_.2 - sn.nu.2), sinceOrigin := 0 }) s else s
    | some o => keep (plain (sn.nu.1 + o.1 - from_.1, sn.nu.2 + o.2 - from_.2)) (onSlot i (fun x => { x with sinceOrigin := x.sinceOrigin + 1 }) s)

/-- The innovation of a motion or wind measurement (7.6). -/
def takeOther (b : Nat) (e : Stamped) (s : State) : State :=
  let wind := refKind s e.slot.val == 7
  let z := project s e.slot e.m e.tv
  let p := fun i => otherPred s wind e.tv i
  let ang := fun (x : Int) => if wind then x else wrapA x
  let nu : Int × Int := (ang (rne z.1 (2 ^ 20) - p 0), ang (rne z.2.1 (2 ^ 20) - p 1))
  let var := (p 3).toNat
  onSlot e.slot (fun x => { x with
    in1 := nu.1, in2 := nu.2, in3 := if wind then 0 else rne z.2.2 (2 ^ 20) - p 2, pvar := var, pvar3 := (p 4).toNat, inMt := some b
    nis := nisOf nu e.sigma var }) s

/-- What each leave-one-out observer says of its slot (R165): LOO_NIS, and REF_SUSPECT at 10 consecutive frames above the gate. -/
def looSlots (b : Nat) (loo : List Seen) (s : State) : State :=
  (fins 24).foldl (fun s i =>
    let has := match s.fus.bank with | some k => k.loo.any fun e => e.1 == i.val | none => false
    let x := s.fus.slot[i]
    if !has then onSlot i (fun x => { x with looNis := 0, looTrips := 0 }) s
    else
      let nis := match (loo.filter fun e => e.m.slot == i.val).getLast? with
        | some e => nisOf (plain e.nu) e.m.sigma e.var
        | none => x.looNis
      let fresh := match x.inMt with | some t => decide (b ≤ t + staleTicks s i.val) | none => false
      let trips := if fresh && decide (refGate s i.val * 10 < nis) then x.looTrips + 1 else 0
      let s := onSlot i (fun x => { x with looNis := nis, looTrips := trips }) s
      if trips = 10 then raise 38 (i.val * 256 + 1) s else s) s

/-- The components that blending covers: position, heading, velocities, bias forces (R174). -/
def blended (i : Nat) : Bool := i ≤ 5 || (12 ≤ i && i ≤ 14)

/-- r (n - 1) / N of a component, in 2^-32 units. -/
def blendPart (u : FusState) (n : Nat) (i : Nat) : Int := rne (u.r.toList.getD i 0 * ((u.n - 1 : Nat) : Int)) n

/-- The output of a frame from its estimate x: blending and the inflated standard deviations (R174, R175). -/
def published (n : Nat) (u : FusState) (x : EstVec) : EstVec :=
  Vector.ofFn fun i =>
    let x := x[i]
    let off := blendPart u n i.val
    if i.val = 2 then angA (x - rne off (2 ^ 32))
    else if blended i.val then x - rne off (2 ^ 32)
    else if 21 ≤ i.val then
      let q := blendPart u n (i.val - 21)
      if u.n ≤ 1 then x else ((isqrt (4 * (x * x * 2 ^ 64 + q * q)).toNat / 2 ^ 32 + 1) / 2 : Nat)
    else x

/-- A frame's output is formed from its estimate, and the blend goes a step on (R174); an offset to enter starts the blend anew. -/
def blendStep (n : Nat) (add : Option EstVec) (x : EstVec) (u : FusState) : FusState :=
  let u := match add with
    | some d => { u with r := Vector.ofFn fun i => if blended i.val then blendPart u n i.val + d[i] * 2 ^ 32 else 0, n := n }
    | none => u
  { u with pub := published n u x, n := if 1 < u.n then u.n - 1 else u.n }

/-- FUS_STATE (Table 7-9). -/
def fusStateWords (b : Nat) (s : State) : List Word :=
  let u := s.fus
  w64 b ++ [ofN s.sys.frame,
    pk [(u.mode, 24), (satN 255 (u.n - 1), 16), (b2n u.rolled, 15), (b2n u.swapped, 14), (b2n u.d1Miss, 13), (b2n (u.conflict.toList.any id), 12),
      (b2n (u.drift.toList.any id), 11), (b2n u.hdgDr, 10), (b2n ((fins 24).any fun i => tb u.contrib i.val && (u.slot[i]).slipped), 9)],
    ofN (satN 0xFFFFFFFF u.age), ofN u.contrib] ++ u.pub.toList.map ofI ++ [ofN u.odoFault]

/-- The estimate of the frame goes to its stream. -/
def sendEstimate (b : Nat) (s : State) : State :=
  if streamDue s 0x3A0 then stream 0x3A0 0 (fusStateWords b s) s else s

/-- Dead-reckoning of a group (0 position, 1 heading): the boundary of its last ACTIVE frame; POS_DRIFT cleared when it contributes again (R170). -/
def drStep (b : Nat) (g : Fin 2) (act : Bool) (s : State) : State :=
  if act then
    let was := s.fus.drift[g]
    let s := s.onFus fun u => { u with lastAct := u.lastAct.set g (some b), drift := u.drift.set g false }
    if was then raise 34 (257 + g.val) s else s
  else s

/-- Estimate mode after a vote (R167). -/
def estModeStep (pos hdg : Bool) (s : State) : State :=
  match s.fus.mode with
  | 0 =>
    let n := if pos && hdg then s.fus.initRun + 1 else 0
    if 100 ≤ n then setEstMode 1 s else s.onFus fun u => { u with initRun := n }
  | 1 => if pos then s else setEstMode 2 s
  | 2 => if pos then setEstMode 1 s else s
  | _ => s

/-- The measurements of every slot are taken. -/
def takeAll (b : Nat) (s : State) : State × List Stamped :=
  (fins 24).foldl (fun (a : State × List Stamped) i =>
    let (s, u) := takeQueue b i a.1
    (s, a.2 ++ u)) (s, [])

/-- A position or heading measurement as the observers take it (R159, R171); a late one updates them where its slot was ACTIVE in its own frame (R172). -/
def obsMeas (prev : Nat) (s : State) (e : Stamped) : Option ObsMeas :=
  match refGroup s e.slot.val with
  | some g =>
    if 2 ≤ g.val then none
    else
      let z := project s e.slot e.m e.tv
      let late := decide (e.tv < (prev : Int))
      some { slot := e.slot.val, tv := e.tv, hdg := g == 1, z := (z.1, z.2.1), sigma := e.sigma, use := late && lateActive s e.slot.val e.tv, late := late }
  | none => none

/-- The votes of a frame (R168 to R170), with staleness first. -/
def voteAll (b : Nat) (s : State) : State := (fins 4).foldl (fun s g => voteGroup b g s) (staleSlots b s)

/-- A group has an active slot; none in SAFE-HOLD. -/
def activeIn (g : Fin 4) (s : State) : Bool := s.sys.mode != .safeHold && groupActive g s

/-- Slots of position and heading that the votes took out of ACTIVE, and whose leave-one-out observer the main one takes (R166): not those suspended together with another. -/
def swapSlots (before : Vector RefSlot 24) (s : State) : List (Fin 24) :=
  let gone := (fins 24).filter fun i => (before[i]).st == 3 && ((s.fus.slot[i]).st == 6 || (s.fus.slot[i]).st == 7) &&
    (refGroup s i.val == some 0 || refGroup s i.val == some 1)
  let susp := gone.filter fun i => (s.fus.slot[i]).st == 7
  if 2 ≤ susp.length then gone.filter fun i => (s.fus.slot[i]).st == 6 else gone

/-- Age of the oldest contribution, us; free where nothing has ever contributed. -/
def obsAge (b contrib : Nat) (s : State) : State × Nat :=
  let first := ((fins 24).filter fun i => tb contrib i.val).foldl (fun (m : Option Int) i =>
    let t := (s.fus.slot[i]).lastTv
    some (match m with | some y => min y t | none => t)) none
  match first, s.fus.lastAct[0] with
  | some t, _ => (s, (((b : Int) - t) / 100).toNat)
  | none, some t => (s, (b - t) / 100)
  | none, none => (drawn s, (Config.freeInt s.free).toNat)

/-- ACTIVE members of a group with their latest measurement of this update: values in 2^-20 units and standard deviation. -/
def activeVals (g : Fin 4) (used : List Stamped) (s : State) : List (Int × Int × Nat) :=
  ((fins 24).filter fun i => (s.fus.slot[i]).st == 3 && refGroup s i.val == some g).filterMap fun i =>
    ((used.filter fun e => e.slot == i).getLast?).map fun e => let z := project s i e.m e.tv; (z.1, z.2.1, e.sigma)

/-- One value for several members: a single one as it is, several as Config says. -/
def votedOf (l : List (Int × Int × Nat)) : Option (Int × Int) :=
  match l with
  | [] => none
  | [x] => some (x.1, x.2.1)
  | _ => some (Config.votedValue l)

/-- After the votes: ACTIVE motion slots correct the mechanisation's roll and pitch (7.4.2) and give the voted MRU attitude; ACTIVE wind slots give the wind and its force (R163), which stand while none is ACTIVE (DEDUCED from R231, log entry 77). -/
def motionWind (used : List Stamped) (s : State) : State :=
  let tv := (used.filter fun e => refKind s e.slot.val == 6).foldl (fun (t : Int) e => max t e.tv) 0
  let s := match votedOf (activeVals 2 used s) with
    | none => s
    | some v =>
      let v := plain v
      let who := (fins 24).filter fun i => (s.fus.slot[i]).st == 3 && refGroup s i.val == some 2
      let fix := fun (x : List Int) => who.foldl (fun x i => Config.mechCorrect x ((s.fus.slot[i]).in1, (s.fus.slot[i]).in2) (s.fus.slot[i]).sigma) x
      s.onFus fun u => { u with
        mru := ((tv, v.1, v.2) :: u.mru).take 256
        mechs := (u.mechs.take 1).map (fun m => { m with x := fix m.x }) ++ u.mechs.drop 1 }
  match votedOf (activeVals 3 used s) with
  | none => s
  | some v =>
    let hdg := s.fus.xhat[2]
    let r := rot (-hdg) v.1 v.2
    s.onFus fun u => { u with wind := some v, windF := windForce s (angleOf r.1 r.2) (rne (hyp r.1 r.2 : Nat) (2 ^ 20)) }

/-- The update of the frame that began at b, up to the estimate x-hat (R164 to R172). In SAFE-HOLD the model and the inertial data alone carry it (Table 1-7). Answers R174's difference. -/
def observe (b ce : Nat) (s : State) : State × EstVec :=
  let prev := b - frameTicks
  let (s, used) := takeAll b s
  let hold := s.sys.mode == .safeHold
  let base := bankNow prev s
  let evs := if hold then [] else (used.filterMap (obsMeas base.at_ s)).foldl (fun l m => measInsert m l) []
  let lates := evs.filter fun m => m.late
  let now := evs.filter fun m => !m.late
  let (bank, hist, seen, loo) := if lates.isEmpty then (base, s.fus.hist, [], []) else replay s lates base
  let leg := fun (w : Vector Int 3) (ms : List ObsMeas) => ({ mechs := s.fus.mechs, par := obsPar s, wind := w, t1 := b, meas := ms } : Leg)
  let (_, seenNow, looNow) := bankRun (leg s.fus.windF now) bank
  let origins := s.fus.slot.map fun x => x.origin.getD (0, 0)
  let before := s.fus.slot
  let s := (seen ++ seenNow).foldl (fun s sn => match fin? 24 sn.m.slot with
    | some i =>
      let fused := (used.filter fun e => e.slot == i && e.tv == sn.m.tv).any fun e => e.m.fused
      takeInnov b i fused origins[i] sn s
    | none => s) s
  let s := if hold then s else (used.filter fun e => match refGroup s e.slot.val with | some g => decide (2 ≤ g.val) | none => false).foldl (fun s e => takeOther b e s) s
  let s := if hold then s else motionWind used (voteAll b (looSlots b (loo ++ looNow) s))
  -- the observers are updated
  let act := now.map fun m => { m with use := match fin? 24 m.slot with | some i => (s.fus.slot[i]).st == 3 | none => false }
  let cuts := lates.filter fun m => m.use
  let g := leg s.fus.windF act
  let (bank, _, _) := bankRun { g with cuts := cuts } bank
  let swaps := if hold then [] else (swapSlots before s).filter fun i => bank.loo.any fun e => e.1 == i.val
  let main := swaps.foldl (fun o i => match bank.loo.find? fun e => e.1 == i.val with | some e => e.2 | none => o) bank.main
  let s := swaps.foldl (fun s i => raise 40 i.val s) s
  let bank := { bank with main := main }
  let x := estOf s b main
  let without := estOf s b (obsRun g base.at_ none base.main).1
  let active := maskOf (Vector.ofFn fun i : Fin 24 => !hold && (s.fus.slot[i]).st == 3 && refOn s i.val)
  let contrib := maskOf (Vector.ofFn fun i : Fin 24 => tb active i.val || cuts.any fun m => m.slot == i.val)
  let act0 := activeIn 0 s
  let act1 := activeIn 1 s
  let s := estModeStep act0 act1 (drStep b 1 act1 (drStep b 0 act0 s))
  let (s, age) := obsAge b contrib s
  let odo := odoMask s
  let rec_ : HistFrame := { k := b / frameTicks, bank := bank, par := obsPar s, wind := s.fus.windF, meas := act, cuts := cuts, active := active }
  (s.onFus fun u => { u with
    xhat := x, contrib := contrib, age := age, rolled := !lates.isEmpty, swapped := !swaps.isEmpty, hdgDr := !act1, odoFault := odo
    bank := some bank, hist := (rec_ :: hist).take 256, histCe := satN 0xFFFFFFFF (u.histCe + ce) }, estDiff x without)

/-- OBSERVER_UPDATE_COMPLETE (R164 to R177): the update ends, 0.40 ms after the boundary (more after a rollback), with the history errors corrected in it, and the estimate is published. One that missed D1 enters the blend of the next frame (R22, R174). -/
def execObserverUpdateComplete (ce : Nat) (s : State) : Host.Outcome State Fault Refusal :=
  .next (
    if !s.fus.updating || !belvRuns s then s
    else
      let b := s.sys.frame * frameTicks
      let s := finishDp (fun w => w == .observer) ((stepAt 400 s).onFus fun u => { u with updating := false })
      let (s, delta) := observe b ce s
      if s.fus.d1Miss then s.onFus fun u => { u with late := some (estDiff u.xhat u.latched) }
      else
        let n := blendFrames s
        let s := s.onFus fun u =>
          let now := u.rolled || u.swapped
          let add : Option EstVec := match u.late with
            | some l => some (Vector.ofFn fun i => l[i] + if now then delta[i] else 0)
            | none => if now then some delta else none
          let u := blendStep n add u.xhat u
          { u with late := none, tv := b }
        sendEstimate b s)

/-- D1 is missed (R22): the state latched at step 1 is the frame's estimate. No vote and no replay has completed in it, so nothing contributes (R177). -/
def missD1 (s : State) : State :=
  let b := s.sys.frame * frameTicks
  let (s, age) := obsAge b 0 s
  let n := blendFrames s
  sendEstimate b (s.onFus fun u =>
    let u := blendStep n none u.latched u
    { u with d1Miss := true, tv := b, contrib := 0, age := age, rolled := false, swapped := false })

/-- DR_LIMIT_EXPIRY (R170). -/
def execDrLimitExpiry (heading : Bool) (s : State) : Host.Outcome State Fault Refusal :=
  let g : Fin 2 := if heading then 1 else 0
  .next (match s.fus.lastAct[g] with
    | none => s
    | some t =>
      if s.fus.drift[g] || activeIn (if heading then 1 else 0) s || !belvRuns s then s
      else
        let s := advanceTo (t + drLimit s * secTicks + 1) s
        raise 34 (1 + g.val) (s.onFus fun u => { u with drift := u.drift.set g true }))

/-- A Belvedere fault (R179). -/
def belvFail (detail : Nat) (s : State) : State :=
  selfDiag 9 (raise 41 detail (s.onFus fun u => { u with fault := true }))

/-- BELV_FAULT (R179). -/
def execBelvFault (detail : Nat) (s : State) : Host.Outcome State Fault Refusal := .next (belvFail detail s)

/-! At a frame boundary. -/

/-- A slot is cleared and its state follows its configuration (Table 7-8): by R151, by enabling it (R155, R160, R178), by a new capture (R178). -/
def slotTakes (old : State) (i : Fin 24) (s : State) : State :=
  let k := i.val
  let fresh := old.awaits .fusRefConfig k
  let on := refOn s k && !refOn old k
  let recap := (s.fus.slot[i]).capReq
  let s := if fresh then (onSlot i (fun x => { st := x.st }) s).onFus fun u => { u with hist := [] }
    else if on then onSlot i (fun x => { tbInit x with slipped := false, origin := none, sinceOrigin := 0, capReq := false, inMt := none }) s
    else if recap then onSlot i (fun x => { x with capReq := false, origin := none, sinceOrigin := 0 }) s
    else s
  let st := (s.fus.slot[i]).st
  if refKind s k = 0 then setSlot i 0 s
  else if !refOn s k then setSlot i 1 s
  else if slotFault s k then setSlot i 8 s
  else if noHeading s i then setSlot i 4 s
  else if fresh || on || recap || st ≤ 1 || st = 8 then setSlot i 2 s
  else s

/-- The leave-one-out observers that R165 gives the bank. DESIGN CHOICE, log entry 74: one that is new or rebuilt (R151) starts from the main observer. -/
def looTakes (old s : State) : State :=
  s.onFus fun u => { u with bank := u.bank.map fun b =>
    let ids := (fins 24).filter fun i => looOn s && refOn s i.val && (refGroup s i.val == some 0 || refGroup s i.val == some 1)
    { b with loo := ids.map fun i => (i.val, match b.loo.find? fun e => e.1 == i.val with
        | some e => if old.awaits .fusRefConfig i.val then b.main else e.2
        | none => b.main) } }

/-- Belvedere at a frame boundary: slots, the bank, a standing fault, the stream, and step 1's latched state: the mechanised state extrapolated to the boundary (R158, R167, R178). -/
def fusBoundary (old s : State) : State :=
  let s := looTakes old ((fins 24).foldl (fun s i => slotTakes old i s) s)
  let s := if s.fus.fault || s.fir.imuFault != 0 then setEstMode 3 s else s
  let s := match s.fus.streamReq with
    | some (p, d) => subscribe 0x3A0 0 p d 0 (s.onFus fun u => { u with streamReq := none })
    | none => s
  let b := s.time.mt
  let s := s.onFus fun u => { u with mechs := u.mechs.filter fun m => decide ((b : Int) - 256 * frameTicks ≤ m.tv) }
  let s := cancelDp (fun w => w == .observer) s
  if belvRuns s then
    let s := submitOpen .observer (b + 150000) s
    let e := eulerOf (attAt s b)
    let m := mechAt s b
    let base := s.fus.xhat.toList ++ m.x
    s.onFus fun u => { u with
      latched := Vector.ofFn fun i =>
        if i.val = 9 then e.1 else if i.val = 10 then e.2.1 else if i.val = 11 then rne (mx m 8) (2 ^ 20) else Config.propagate base frameTicks i.val
      updating := true, d1Miss := false }
  else s.onFus fun u => { u with updating := false, d1Miss := false }

/-- PD9 leaves a sleeping state: the estimate starts again; after off the history, the observers and the slots' measurements are gone (R83, R167, R171). -/
def belvWake (off : Bool) (s : State) : State :=
  let s := if s.fus.mode = 3 then s else (setEstMode 0 s).onFus fun u => { u with initRun := 0 }
  if off then
    let s := s.onFus fun u => { u with
      hist := [], bank := none, mechs := [], mru := [], r := Vector.replicate 27 0, n := 1, late := none, lastAct := Vector.replicate 2 none }
    (fins 24).foldl (fun s i =>
      let s := onSlot i (fun x => { tbInit x with slipped := false, queue := [], inMt := none, origin := none, sinceOrigin := 0, filter := [] }) s
      if 2 ≤ (s.fus.slot[i]).st ∧ (s.fus.slot[i]).st ≤ 7 then setSlot i 2 s else s) s
  else s

/-! Commands (7.9). -/

/-- R150. -/
def refCheck (s : State) (ws : List Word) : Option (Nat × Nat) :=
  let w0 := wd ws 0
  let k := fld w0 4 0
  let kind := fld w0 11 8
  let itf := fld (wd ws 1) 15 8
  let port := fld (wd ws 1) 7 0
  let talk := fld (wd ws 1) 31 16
  let others := (List.range 24).filter fun j => j != k && refKindSet s j != 0
  let same := others.any fun j => refIfSet s j == 2 && refPortSet s j == port && refKindSet s j == kind &&
    fld (wd (cfgGet s.cfg.work .fusRefConfig j) 1) 31 16 == talk
  if itf != 2 && port != 0 then some (0xF016, 1)
  else if kind = 0 then none
  else if fld (wd ws 10) 7 4 = 1 && (kind = 5 || kind = 6 || kind = 7) then some (0xF016, 10)
  else if kind = 1 && (itf = 2 || others.any fun j => refKindSet s j == 1 && refIfSet s j == itf) then some (0x3010, 0)
  else if kind != 1 && itf != 2 then some (0x3010, 0)
  else if itf = 2 && (rtcmPortSet s = port || same) then some (0x3011, 0)
  else if bit (wd ws 10) 1 && (kind = 5 || kind = 7) then some (0x3012, 0)
  else none

/-- FUS_REF_CONFIG (R150, R151): at the next boundary. -/
def execFusRefConfig (p : Port) (s : State) : Host.Outcome State Fault Refusal :=
  .next (configRow .fusRefConfig p (fun _ ws s => refCheck s ws) s)

/-- The slot a command names. -/
def slotOf (c : Cmd) : Nat := fld (wd c.words 0) 4 0

/-- FUS_REF_ENABLE (R178): at the next boundary. -/
def execFusRefEnable (p : Port) (s : State) : Host.Outcome State Fault Refusal :=
  .next (configRow .fusRefEnable p (fun c _ s => if refKindSet s (slotOf c) = 0 then some (0x3013, 0) else none) s)

/-- FUS_REF_CAPTURE (R160, R178): the origin is cleared at the next boundary. -/
def execFusRefCapture (p : Port) (s : State) : Host.Outcome State Fault Refusal :=
  .next (runOp .fusRefCapture p (fun c s =>
    let k := refKindSet s (slotOf c)
    if k != 3 && k != 4 then reject p c 0x3014 0 s
    else match fin? 24 (slotOf c) with
      | some i => ok p c 0 [] (onSlot i (fun x => { x with capReq := true }) s)
      | none => badValue p c 0 s) s)

/-- FUS_VOTE_CONFIG (Table 7-11): at the next boundary. -/
def execFusVoteConfig (p : Port) (s : State) : Host.Outcome State Fault Refusal :=
  .next (configRow .fusVoteConfig p (fun _ _ _ => none) s)

/-- FUS_OBSERVER_CONFIG (Table 7-11): at the next boundary. -/
def execFusObserverConfig (p : Port) (s : State) : Host.Outcome State Fault Refusal :=
  .next (configRow .fusObserverConfig p (fun _ _ _ => none) s)

/-- FUS_REF_STATUS (Table 7-12). -/
def execFusRefStatus (p : Port) (s : State) : Host.Outcome State Fault Refusal :=
  .next (runOp .fusRefStatus p (fun c s =>
    match fin? 24 (slotOf c) with
    | none => badValue p c 0 s
    | some i =>
      if refKindSet s i.val = 0 then reject p c 0x3013 0 s
      else
        let x := s.fus.slot[i]
        let own := refOwnTime s i.val && !x.slipped && decide (20 ≤ x.tbN)
        let delay := if refOwnTime s i.val && x.tbCnt != 0 then rne x.tbSum (100 * x.tbCnt) else 0
        ok p c 0 ([pk [(b2n x.origin.isSome, 22), (b2n x.slipped, 21), (b2n own, 20), (x.st, 16), (refKindSet s i.val, 8), (i.val, 0)]] ++
          w64 (if x.used then x.lastTv.toNat else 0) ++ [ofI x.in1, ofI x.in2, ofN x.nis, ofN x.looNis, ofN x.nUsed, ofN x.nOverrun] ++
          x.nDisc.toList.map ofN ++ [ofN x.nVotedOut, ofI (sat32 delay), ofI (sat32 x.tbB)]) s) s)

/-- FUS_STATE_STREAM (Table 7-10, R178): at the next boundary. -/
def execFusStateStream (p : Port) (s : State) : Host.Outcome State Fault Refusal :=
  .next (runOp .fusStateStream p (fun c s =>
    ok p c 0 [] (s.onFus fun u => { u with streamReq := some (p, fld (wd c.words 0) 7 0) })) s)

/-! Mechanisation (R158). -/

/-- The value of an inertial slot at the time of validity of slot 0, on the line through its last two outputs (R158). -/
def interpolated (x : FirSlot) (t : Int) : Int :=
  let d := x.out1.tv - x.prev1.tv
  if d ≤ 0 then x.out1.v else x.prev1.v + rne ((x.out1.v - x.prev1.v) * (t - x.prev1.tv)) d.toNat

/-- The six outputs of one 1 kHz index, turned into body axes by IMU_MOUNT (R374), are mechanised (R158), with the thrust of that instant (R162). -/
def mechanised (s : State) : State :=
  let slot := fun (k : Nat) => (s.fir.slots.toList.getD k {})
  let t := (slot 0).out1.tv
  let at_ := fun (k : Nat) => if k = 0 then (slot 0).out1.v else interpolated (slot k) t
  let q := quatOf (calEff s 7 0) (calEff s 7 1) (calEff s 7 2)
  let turn := fun (v : Ecef) => let w := qrot q v; [w.1, w.2.1, w.2.2]
  let rate := turn (at_ 0, at_ 1, at_ 2)
  let force := turn (at_ 3, at_ 4, at_ 5)
  let thr := thrustEst s
  s.onFus fun u =>
    let last := u.mechs.headD {}
    { u with mechs := { tv := t, x := Config.mechanise last.x rate force (t - last.tv).toNat, rate := rate, force := force, thr := thr } :: u.mechs }

/-- SAMPLE_INSTANT (R135 to R149): one 8 kHz sample of a slot, with the temperature where it is read; one outside -45 to +110 degrees is IMU_FAULT 5. Nothing while its domains are not on; inertial samples are not delivered while the sensor settles (R149). -/
def execSampleInstant (slot : Fin 22) (x : SampleIn) (s : State) : Host.Outcome State Fault Refusal :=
  .next (
    if s.sys.dom[1] != .on || !sourceOn s slot.val || !s.sys.vmain then s
    else
      let t := sampleAt slot.val (s.fir.slots[slot]).at_ s.time.mt
      let s := advanceTo t s
      let s := s.onFir fun f => { f with temp := x.temp.getD f.temp, slots := upd f.slots slot fun y => { y with at_ := some t } }
      let s := if s.fir.temp < -4500 || 11000 < s.fir.temp then imuFail 5 s else s
      if slot.val < 6 && decide (t < s.fir.imuReady) then s
      else
        let old := s.fir.slots[slot]
        let lim := rangeLimit slot.val
        let bad := x.missing || x.parity
        let c := calSample s slot.val x.raw
        let smp : Smp := if bad then { v := (old.d1.headD {}).v, range := (old.d1.headD {}).range, missing := true }
          else { v := clampI (-lim) lim c, range := decide (c < -lim) || decide (lim < c) }
        let s := s.onFir fun f => { f with slots := upd f.slots slot fun y => { y with
          d1 := (smp :: y.d1).take 511
          fresh1 := min 511 (y.fresh1 + 1)
          raw := if rawToLoops s slot.val then smp else y.raw
          missRun := if x.missing then y.missRun + 1 else 0
          parRun := if x.parity then y.parRun + 1 else 0
          nMissing := if bad then inc32 y.nMissing else y.nMissing } }
        let s := if smp.range then firOccur slot 1 s else s
        let s := if slot.val < 6 && 3 ≤ (s.fir.slots[slot]).parRun then imuFail 3 s
          else if slot.val < 6 && 3 ≤ (s.fir.slots[slot]).missRun then imuFail 4 s else s
        let n := (t - 250 * slot.val) / 12500
        if n % 8 = 0 then (if slot = 5 then mechanised (stage1 slot (n / 8) s) else stage1 slot (n / 8) s) else s)

end Sys2Proof.Machine
end

