-- ==== Sys2Proof/Machine/Sentences.lean ====
section
/-! DEFINITION. The received characters of the UARTs (14.7): sentence checks, hand-over to the reference slots and the stream, and the fields of the sentences (7.1). -/

namespace Sys2Proof.Machine

/-! Characters (IEC 61162, Table 7-2). -/

/-- The characters of an ASCII text. -/
def ascii (t : List Nat) : List Byte := t.map fun n => BitVec.ofNat 8 n

/-- A decimal digit. -/
def digit? (b : Byte) : Option Nat := if 48 ≤ b.toNat ∧ b.toNat ≤ 57 then some (b.toNat - 48) else none

/-- A hexadecimal digit in either case (R369). -/
def hex? (b : Byte) : Option Nat :=
  let n := b.toNat
  if 48 ≤ n ∧ n ≤ 57 then some (n - 48) else if 65 ≤ n ∧ n ≤ 70 then some (n - 55) else if 97 ≤ n ∧ n ≤ 102 then some (n - 87) else none

/-- An unsigned decimal number: its digits without the point, and how many stand after it. -/
def decimal? (bs : List Byte) : Option (Nat × Nat) :=
  let rec go : List Byte → Option Nat → Nat → Bool → Option (Nat × Nat)
    | [], k, v, some_ => if some_ then some (v, k.getD 0) else none
    | b :: bs, k, v, some_ =>
      if b = 46 then (match k with | none => go bs (some 0) v some_ | some _ => none)
      else match digit? b with
        | some d => go bs (k.map (· + 1)) (10 * v + d) true
        | none => none
  go bs none 0 false

/-- A signed decimal number. -/
def signed? (bs : List Byte) : Option (Int × Nat) :=
  match bs with
  | b :: r => if b = 45 then (decimal? r).map fun x => (-(x.1 : Int), x.2) else (decimal? bs).map fun x => ((x.1 : Int), x.2)
  | [] => none

/-- A number times num / den, rounded. -/
def scaled (num den : Nat) (x : Int × Nat) : Int := rne (x.1 * num) (den * 10 ^ x.2)

/-- |x| is at most m. -/
def within (m : Nat) (x : Int × Nat) : Bool := decide (x.1.natAbs ≤ m * 10 ^ x.2)

/-- Fields between commas. -/
def fieldsOf : List Byte → List (List Byte)
  | [] => [[]]
  | b :: bs =>
    if b = 44 then [] :: fieldsOf bs
    else match fieldsOf bs with
      | f :: fs => (b :: f) :: fs
      | [] => [[b]]

/-- hhmmss.ss as ticks of the day; none for a malformed one, and no time for an empty one. -/
def timeField (f : List Byte) : Option (Option Nat) :=
  if f.isEmpty then some none
  else match decimal? f with
    | some (v, k) =>
      let t := v / 10 ^ k
      let h := t / 10000
      let m := t / 100 % 100
      let sec := t % 100
      if (f.takeWhile fun b => b != 46).length = 6 ∧ h ≤ 23 ∧ m ≤ 59 ∧ sec ≤ 60 then
        some (some (((h * 60 + m) * 60 + sec) * secTicks + v % 10 ^ k * secTicks / 10 ^ k))
      else none
    | none => none

/-- Degrees and minutes (dddmm.mm) in minutes, with a hemisphere letter of which the second is negative. -/
def angleField (maxDeg pos neg : Nat) (f hemi : List Byte) : Option (Int × Nat) :=
  match decimal? f with
  | some (v, k) =>
    let p := 10 ^ k
    let minutes := v / (100 * p) * 60 * p + v % (100 * p)
    if 60 * p ≤ v % (100 * p) ∨ maxDeg * 60 * p < minutes then none
    else if hemi = ascii [pos] then some ((minutes : Int), k)
    else if hemi = ascii [neg] then some (-(minutes : Int), k)
    else none
  | none => none

/-! Sentences. -/

/-- The sentences of Table 14-7. -/
inductive Formatter where | gga | hdt | ths | mwv | vtg | rot | plnvr | plnvm
  deriving DecidableEq, Repr

/-- Formatter and talker identifier of an address field; none outside Table 14-7. A proprietary address has no talker. -/
def formatterOf (a : List Byte) : Option (Formatter × Nat) :=
  let known : List (List Nat × Formatter) := [([71, 71, 65], .gga), ([72, 68, 84], .hdt), ([84, 72, 83], .ths), ([77, 87, 86], .mwv), ([86, 84, 71], .vtg), ([82, 79, 84], .rot)]
  if a.headD 0 = 80 then
    if a = ascii [80, 76, 78, 86, 82] then some (.plnvr, 0) else if a = ascii [80, 76, 78, 86, 77] then some (.plnvm, 0) else none
  else if a.length = 5 then
    (known.find? fun x => ascii x.1 == a.drop 2).map fun x => (x.2, (a.getD 0 0).toNat * 256 + (a.getD 1 0).toNat)
  else none

/-- A slot kind accepts a formatter (Table 7-1). -/
def accepts (kind : Nat) : Formatter → Bool
  | .gga => kind == 2
  | .hdt | .ths => kind == 5
  | .mwv => kind == 7
  | .plnvr => kind == 3 || kind == 4
  | .plnvm => kind == 6
  | .vtg | .rot => false

/-- The measurement of a sentence, from its fields after the address; none when its content is rejected (7.1). -/
def measOf (ta : Nat) (f : Formatter) (fs : List (List Byte)) : Option Meas :=
  let g := fun i => fs.getD i []
  match f with
  | .gga =>
    match timeField (g 0), angleField 90 78 83 (g 1) (g 2), angleField 180 69 87 (g 3) (g 4), decimal? (g 5), decimal? (g 7), signed? (g 8), signed? (g 10) with
    | some t, some lat, some lon, some q, some hdop, some alt, some geo =>
      if q = (0, 0) || q = (6, 0) || 8 < q.1 then none
      else some { ta := ta, ts := t, vals := [scaled (2 ^ 32) 21600 lat, scaled (2 ^ 32) 21600 lon, scaled 1000 1 alt + scaled 1000 1 geo], rep := some (scaled 100 1 (hdop.1, hdop.2)).toNat }
    | _, _, _, _, _, _, _ => none
  | .hdt | .ths =>
    match decimal? (g 0) with
    | some (v, k) =>
      if !within 360 (v, k) || (f == .ths && g 1 != ascii [65]) || (f == .hdt && g 1 != ascii [84]) then none
      else some { ta := ta, vals := [scaled (2 ^ 32) 360 (v, k)] }
    | none => none
  | .mwv =>
    match decimal? (g 0), decimal? (g 2) with
    | some (v, k), some (w, j) =>
      let unit : Option (Nat × Nat) := if g 3 = ascii [75] then some (2500, 9) else if g 3 = ascii [77] then some (1000, 1) else if g 3 = ascii [78] then some (4630, 9) else none
      match unit with
      | some (a, b) =>
        if !within 360 (v, k) || g 1 != ascii [82] || g 4 != ascii [65] then none
        else some { ta := ta, vals := [scaled (2 ^ 32) 360 (v, k), scaled a b (w, j)] }
      | none => none
    | _, _ => none
  | .plnvr =>
    match timeField (g 0), signed? (g 1), signed? (g 2), decimal? (g 3) with
    | some t, some x, some y, some sd => some { ta := ta, ts := t, vals := [scaled 1000 1 x, scaled 1000 1 y], rep := some (scaled 1000 1 (sd.1, sd.2)).toNat }
    | _, _, _, _ => none
  | .plnvm =>
    match timeField (g 0), signed? (g 1), signed? (g 2), signed? (g 3), decimal? (g 4) with
    | some t, some r, some p, some h, some sd =>
      if within 180 r && within 90 p then
        some { ta := ta, ts := t, vals := [scaled (2 ^ 32) 360 r, scaled (2 ^ 32) 360 p, scaled 1000 1 h], rep := some (scaled (2 ^ 32) 360 (sd.1, sd.2)).toNat }
      else none
    | _, _, _, _, _ => none
  | .vtg | .rot => none

/-- The first reason of Table 14-8 that discards a sentence; the order among several is a choice. -/
def sentenceFault (cksOpt framing : Bool) (chars : List Byte) : Option (Fin 5) :=
  let body := (chars.drop 1).takeWhile fun b => b != 42
  let tail := (chars.drop 1).drop body.length
  let sum := (xorSum body).toNat
  let good := match tail with
    | [_, a, b] => hex? a == some (sum / 16) && hex? b == some (sum % 16)
    | _ => false
  if framing then some 0
  else if 82 < chars.length + 2 || chars.any fun b => decide (b.toNat < 0x20) || decide (0x7E < b.toNat) then some 3
  else if tail.isEmpty then (if !cksOpt then some 2 else if (formatterOf ((fieldsOf body).headD [])).isNone || chars.headD 0 != 36 then some 4 else none)
  else if !good then some 1
  else if (formatterOf ((fieldsOf body).headD [])).isNone || chars.headD 0 != 36 then some 4
  else none

/-- A discarded sentence is counted, with UART_ERROR at most once per second per port and reason (R369, R372). -/
def uartDiscard (u : Fin 10) (r : Fin 5) (s : State) : State :=
  let due : Bool := secondPassed (s.uart[u]).errAt[r] s.time.mt
  let now := s.time.mt
  let s := s.onUart fun v => upd v u fun k => { k with nDisc := upd k.nDisc r inc32, errAt := if due then upd k.errAt r (fun _ => some now) else k.errAt }
  if due then raise 86 (u.val * 256 + r.val + 1) s else s

/-- The slots a sentence goes to (R370). -/
def recipients (s : State) (u : Fin 10) (f : Formatter) (talker : Nat) : List (Fin 24) :=
  (fins 24).filter fun i =>
    let k := i.val
    refOn s k && refIf s k == 2 && refPort s k == u.val && accepts (refKind s k) f && (refTalker s k == 0 || refTalker s k == talker)

/-- A sentence that passes is handed on (R370). -/
def handOn (u : Fin 10) (mt : Nat) (chars : List Byte) (s : State) : State :=
  let fs := fieldsOf ((chars.drop 1).takeWhile fun b => b != 42)
  match formatterOf (fs.headD []) with
  | none => s
  | some (f, talker) =>
    let tos := recipients s u f talker
    let used := !tos.isEmpty || (s.sub 0x8A4 u.val).isSome
    let s := s.onUart fun v => upd v u fun k => if used then { k with nUsed := inc32 k.nUsed } else { k with nUnused := inc32 k.nUnused }
    let s := uartPacket u.val 0 mt (chars ++ ([13, 10] : List Byte)) s
    tos.foldl (fun s i => match measOf mt f (fs.drop 1) with
      | some m => intakeMeas i m s
      | none => discard i 2 s) s

/-- The UART that is the RTCM input in force; 15 none. -/
def rtcmPort (s : State) : Nat := fld (wd (s.inForce .gnssRtcmConfig) 0) 3 0

/-- Characters received are counted. -/
def countRx (u : Fin 10) (n : Nat) (s : State) : State := s.onUart fun v => upd v u fun k => { k with nRx := satN 0xFFFFFFFF (k.nRx + n) }

/-- UART_SENTENCE (R369 to R371): a sentence is checked and handed to its slots and stream; a partial one is discarded by a new `$`; binary bytes are held for the stream; queued characters leave. -/
def execUartSentence (u : Fin 10) (x : UartIn) (s : State) : Host.Outcome State Fault Refusal :=
  let line := uartProto s u == 1 || uartProto s u == 2
  .next (
    if !pd4On s then s
    else match x with
      | .sentence mt chars framing =>
        if !line then s
        else
          let s := countRx u (chars.length + 2) s
          if chars.headD 0 != 36 && chars.headD 0 != 33 then s
          else match sentenceFault (uartCksOpt s u) framing chars with
            | some r => uartDiscard u r s
            | none => handOn u (replicaStamp s mt) chars s
      | .partialCut n => if line then countRx u n s else s
      | .binary mt bytes =>
        if uartProto s u != 3 then s
        else
          let s := countRx u bytes.length s
          if rtcmPort s = u.val || (s.sub 0x8A4 u.val).isNone then s
          else s.onUart fun v => upd v u fun k => { k with chunk := k.chunk ++ bytes, chunkMt := if k.chunk.isEmpty then replicaStamp s mt else k.chunkMt }
      | .sent n => s.onUart fun v => upd v u fun k => { k with txq := k.txq.drop n, nTx := satN 0xFFFFFFFF (k.nTx + min n k.txq.length) })

end Sys2Proof.Machine
end

