-- ==== Sys2Proof/Machine/Time.lean ====
section
/-! DEFINITION. The rows of chapter 04: calendar clock, commits, alarms, module time readout, time pulse. -/

namespace Sys2Proof.Machine

/-! The calendar (R90). -/

/-- Gregorian leap year (R90). -/
def leapYear (y : Nat) : Bool := y % 4 == 0 && (y % 100 != 0 || y % 400 == 0)

/-- Days of a month. -/
def monthDays (y m : Nat) : Nat :=
  if m = 2 then (if leapYear y then 29 else 28) else ([31, 28, 31, 30, 31, 30, 31, 31, 30, 31, 30, 31] : List Nat).getD (m - 1) 0

/-- Days from 2000-01-01 to the first day of a year of the range. -/
def yearStart (y : Nat) : Nat := (y - 2000) * 365 + (y - 2000 + 3) / 4 - (if 2100 < y then 1 else 0)

/-- Days from 2000-01-01 to a date. -/
def dayNum (y m d : Nat) : Nat := yearStart y + ((List.range (m - 1)).map fun k => monthDays y (k + 1)).sum + (d - 1)

/-- Year, month and day of a day number. -/
def dateOf (n : Nat) : Nat × Nat × Nat :=
  let y := 2000 + ((List.range 200).find? fun k => n < yearStart (2000 + k + 1)).getD 199
  let r := n - yearStart y
  let before := fun m => ((List.range (m - 1)).map fun k => monthDays y (k + 1)).sum
  let m := 1 + ((List.range 12).find? fun k => r < before (k + 2)).getD 11
  (y, m, r - before m + 1)

/-- The seven counters SUBSEC to YEAR of a time in Ember ticks (Table 2-18). -/
def rtcFields (t : Nat) : List Nat :=
  let sec := t / 32768
  let (y, m, d) := dateOf (sec / 86400)
  [t % 32768, sec % 60, sec / 60 % 60, sec / 3600 % 24, d, m, y]

/-- The calendar check of R97. -/
def validDate (y m d : Nat) : Bool :=
  decide (2000 ≤ y) && decide (y ≤ 2199) && decide (1 ≤ m) && decide (m ≤ 12) && decide (1 ≤ d) && decide (d ≤ monthDays y m)

def validTime (h m s : Nat) : Bool := decide (h ≤ 23) && decide (m ≤ 59) && decide (s ≤ 59)

/-- A time in Ember ticks from its counters. -/
def rtcTicks (y mo d h m s sub : Nat) : Nat := (((dayNum y mo d * 24 + h) * 60 + m) * 60 + s) * 32768 + sub

/-- The staged time, when it passes the check of R97. -/
def stagedTime (t : TimeState) : Option Nat :=
  let g := fun i => t.stg.toList.getD i 0
  if validDate (g 6) (g 5) (g 4) && validTime (g 3) (g 2) (g 1) then some (rtcTicks (g 6) (g 5) (g 4) (g 3) (g 2) (g 1) (g 0)) else none

/-! Alarms (4.5). -/

/-- Time of day of a TIME word in ticks. -/
def todTicks (w : Word) : Nat := ((fld w 20 16 * 60 + fld w 13 8) * 60 + fld w 5 0) * 32768

/-- The instant of a DATE and TIME word. -/
def alarmInstant (d t : Word) : Nat := dayNum (fld d 31 16) (fld d 15 8) (fld d 7 0) * 86400 * 32768 + todTicks t

/-- The first occurrence of an armed alarm at or after an instant; a one-shot that lies before it has none. -/
def alarmNext (a : Alarm) (t : Nat) : Option Nat :=
  let day := 86400 * 32768
  if a.kind = 1 then (if t ≤ alarmInstant a.date a.time then some (alarmInstant a.date a.time) else none)
  else
    let c := t / day * day + todTicks a.time
    some (if t ≤ c then c else c + day)

/-- An alarm fires (R101, R104): bit, event, wake; a one-shot disarms. While VMAIN is absent only Ember acts. The detail of EV16 and EV17, as of EV18, EV19, EV22 and EV23, is 0 (DESIGN CHOICE, log entry 8: chapter 4 states none). -/
def fireAlarm (i : Fin 2) (skip : Bool) (s : State) : State :=
  let s := s.onTime fun t => { t with alarm := upd t.alarm i fun a => { a with
    fired := true
    skip := a.skip || skip
    armed := a.kind == 2
    whileOff := a.whileOff || !s.sys.vmain } }
  if s.sys.vmain then wakeTrigger 2 (raise (if i.val = 0 then 16 else 17) 0 s) else s

/-- The alarm has noticed every instant before t. -/
def alarmFrom (i : Fin 2) (t : Nat) (s : State) : State := s.onTime fun x => { x with alarm := upd x.alarm i fun a => { a with from_ := t } }

/-- ALARM_FIRE (R101): the live counters enter the instant, the first that the alarm has not noticed; one that an earlier command let pass fires now. Counters that have rolled over (R90) start anew. -/
def execAlarmFire (a : Fin 2) (s : State) : Host.Outcome State Fault Refusal :=
  .next (
    let x := s.time.alarm[a]
    let first := if s.time.rtc + 1 < x.from_ then 0 else x.from_
    if x.armed then
      match alarmNext x first with
      | some t => fireAlarm a false (alarmFrom a ((t + 1) % rtcSpan) (advance (cdiv ((t - s.time.rtc) * 390625 - s.time.phase) 128) s))
      | none => s
    else s)

/-- Table 4-4: does a load from told to tnew fire the alarm? -/
def loadFires (a : Alarm) (told tnew : Nat) : Bool :=
  a.armed &&
  (if told < tnew then (match alarmNext a (told + 1) with | some x => decide (x ≤ tnew) | none => false)
   else if tnew < told then alarmNext a tnew == some tnew
   else false)

/-! Commits (4.4). -/

/-- A time-anchor record (R107, Table 4-5). -/
def anchor (start : Bool) (source told tnew : Nat) (s : State) : State :=
  record 0x0104 source 1 (leBytes 4 (told / 32768) ++ leBytes 4 (tnew / 32768) ++ leBytes 2 (b2n start * 32768 + tnew % 32768)) s

/-- A capture replaces an earlier one that has not loaded; the command of that one ends with TIME_SUPERSEDED (R98, R100). -/
def captureTime (l : RtcLoad) (s : State) : State :=
  let s := match s.time.load with
    | some old => (match old.cmd with | some (p, tag) => finish p tag 0 0x1014 0 [] s | none => s)
    | none => s
  s.onTime fun t => { t with load := some l }

/-- The captured time loads (R95, R98, R103): anchor, event, alarms, reply. An alarm then waits for its next occurrence after the new time. -/
def loadTime (s : State) : State :=
  match s.time.load with
  | none => s
  | some l =>
    let told := s.time.rtc
    let f := fun i : Fin 2 => loadFires s.time.alarm[i] told l.val
    let s := match l.cmd with | some (p, tag) => commit p tag s | none => s
    let s := s.onTime fun t => { t with rtc := l.val, load := none, alarm := vmap t.alarm fun a => { a with from_ := l.val + 1 } }
    let s := raise 18 0 (anchor false l.source told l.val s)
    let s := if f 0 then fireAlarm 0 true s else s
    let s := if f 1 then fireAlarm 1 true s else s
    match l.cmd with
    | some (p, tag) => finish p tag 0 0 0 [] s
    | none => s

/-- RTC_LOAD (R95): the first Ember tick that begins at least 31 us after the capture. -/
def execRtcLoad (s : State) : Host.Outcome State Fault Refusal :=
  .next (match s.time.load with
    | some l =>
      let s := advanceNow (l.at_ + 3100) s
      loadTime (if s.time.phase < 128 then s else advance (cdiv (390625 - s.time.phase) 128) s)
    | none => s)

/-- A write of 1 to RTC_CTL.COMMIT (R95, R97). -/
def commitStaged (s : State) : State :=
  match stagedTime s.time with
  | some v => captureTime { val := v, source := 0x80, at_ := s.time.now } s
  | none => raise 19 0 s

/-- RTC_COMMIT (R95). -/
def execRtcCommit (s : State) : Host.Outcome State Fault Refusal := .next (if portUp s then commitStaged (ack s) else s)

/-- A write to RTC_CTL (R6, R7, Table 2-18): the W1C bits; a 1 in COMMIT of the same word commits. -/
def rtcCtlWrite (v d : Word) (s : State) : State :=
  let s := (ack s).onTime fun t => { t with
    stale := w1c t.stale v d 1
    alarm := vmapI t.alarm fun i a => { a with fired := w1c a.fired v d (3 + i.val), skip := w1c a.skip v d (5 + i.val) } }
  if bit v 0 then commitStaged s else s

def execRtcCtlClear (v setDuring : Word) (s : State) : Host.Outcome State Fault Refusal :=
  .next (if portUp s then rtcCtlWrite v setDuring s else s)

/-! Reading (4.3). -/

/-- A read of a time register freezes the shadows if they are not (R93). -/
def freezeRtc (s : State) : State :=
  if s.time.frozen.isSome then s else s.onTime fun t => { t with shadow := t.rtc, frozen := some t.mt }

/-- RTC_SHADOW_READ (R93): registers SUBSEC to MONTH. -/
def execRtcShadowRead (r : Fin 6) (s : State) : Host.Outcome State Fault Refusal :=
  .next (if portUp s then
      let s := freezeRtc s
      s.onHp fun h => { h with acked := true, dOut := ofN ((rtcFields s.time.shadow).getD r.val 0) }
    else s)

/-- RTC_YEAR_READ (R93). -/
def execRtcYearRead (s : State) : Host.Outcome State Fault Refusal :=
  .next (if portUp s then
      let s := freezeRtc s
      let s := s.onHp fun h => { h with acked := true, dOut := ofN ((rtcFields s.time.shadow).getD 6 0) }
      s.onTime fun t => { t with frozen := none }
    else s)

/-- RTC_FREEZE_TIMEOUT (R93). -/
def execRtcFreezeTimeout (s : State) : Host.Outcome State Fault Refusal :=
  .next (match s.time.frozen with
    | some t0 => raise 23 0 ((advanceTo (t0 + 2 * secTicks) s).onTime fun t => { t with frozen := none, stale := true })
    | none => s)

/-- The live RTC_CTL register (Table 2-18). -/
def rtcCtl (t : TimeState) : Word :=
  pk [(b2n t.alarm[1].skip, 6), (b2n t.alarm[0].skip, 5), (b2n t.alarm[1].fired, 4), (b2n t.alarm[0].fired, 3), (b2n t.frozen.isSome, 2), (b2n t.stale, 1)]

/-- The word that a read of a word address of the window returns (R6, R32, Table 2-10): a write-only register and an unassigned address read zero; what such a read changes is the effect of its own row. -/
def regRead (a : Nat) (s : State) : Word :=
  let clock := rtcFields (if s.time.frozen.isSome then s.time.shadow else s.time.rtc)
  match a with
  | 0 => hpId
  | 1 => hpStat s
  | 3 => s.host.rspq.headD 0
  | 4 => hpCqLvl s
  | 5 => hpRqLvl s
  | 6 => hpEcc s.hp.ecc
  | 7 => ofN s.hp.wakeBudget
  | 23 => rtcCtl s.time
  | _ => match regIdx 4 8 a, regIdx 4 12 a, regIdx 7 16 a, regIdx 7 24 a, regIdx 16 32 a with
    | some n, _, _, _, _ => hpIrq s n
    | _, some n, _, _, _ => hpImsk s n
    | _, _, some i, _, _ => ofN (clock.getD i.val 0)
    | _, _, _, some i, _ => ofN s.time.stg[i]
    | _, _, _, _, some i => s.time.emb[i]
    | _, _, _, _, _ => 0

/-! Commands (4.4, 4.5, 4.9). -/

/-- TIME_SOURCE codes (Table 4-7). -/
def sourceCode : TimeSource → Nat | .none => 0 | .gnss => 1 | .holdover => 2 | .fault => 3

/-- The error estimate now (R111, Table 4-6): growing by 10 ns per second since the entry into holdover, else the figure held plus what a slew has left. DESIGN CHOICE, log entry 69: between a return with |e| > 2 us and its step the holdover estimate goes on growing; the step takes the GNSS figure. -/
def timeErr (t : TimeState) : Nat :=
  match t.holdSince with
  | some m => t.errNs + (t.mt - m) * 10 / secTicks
  | none => t.errNs + t.slew.natAbs

/-- TIME_GET (Table 4-7). -/
def execTimeGet (p : Port) (s : State) : Host.Outcome State Fault Refusal :=
  .next (runOp .timeGet p (fun c s =>
    let t := s.time
    let w8 := if t.source = .none then 0 else pk [(t.week, 16), (t.sats, 8), (b2n (t.slew != 0), 2), (sourceCode t.source, 0)]
    let tail := if t.source = .none then List.replicate 6 (0 : Word)
      else w64 t.mtPps ++ [ofN t.tow, ofN (satN 0xFFFFFFFF (timeErr t)), ofN (BitVec.ofInt 8 t.leap).toNat, ofI t.fErr]
    ok p c 0 (w64 t.mt ++ [ofN (t.rtc / 32768), ofN (t.rtc % 32768), ofN (t.opTicks / 32768), ofN (t.opTicks % 32768 * 1000 / 32768), ofN t.pwrCyc, w8] ++ tail) s) s)

/-- APPLY of a TIME_SET_RTC: 0 now in the basic form. -/
def rtcApply (c : Cmd) : Nat := if c.expert then fld (wd c.words 3) 1 0 else 0

/-- The first word of a TIME_SET_RTC that is no date or time, or is not 0 with APPLY 2 (Table 4-3). -/
def rtcBad (c : Cmd) : Option Nat :=
  let w := wd c.words
  if rtcApply c = 2 then (List.range 3).find? fun i => w i != 0
  else if !validDate (fld (w 0) 31 16) (fld (w 0) 15 8) (fld (w 0) 7 0) then some 0
  else if !validTime (fld (w 1) 20 16) (fld (w 1) 13 8) (fld (w 1) 5 0) then some 1 else none

/-- TIME_SET_RTC (R100, Table 4-3). -/
def execTimeSetRtc (p : Port) (s : State) : Host.Outcome State Fault Refusal :=
  .next (runOpV .timeSetRtc p (fun c _ => rtcBad c) (fun c s =>
    let w := wd c.words
    let apply := rtcApply c
    let v := rtcTicks (fld (w 0) 31 16) (fld (w 0) 15 8) (fld (w 0) 7 0) (fld (w 1) 20 16) (fld (w 1) 13 8) (fld (w 1) 5 0) (fld (w 2) 14 0)
    let s := pending p c (if apply = 0 then 1 else 2001) s
    if apply = 0 then captureTime { val := v, source := 0x80 + portNum p, at_ := s.time.now, cmd := some (p, c.tag) } s
    else if apply = 2 && s.time.source != .gnss then reject p c 0x1011 0 s
    else s.onTime fun t => { t with ppsWait := t.ppsWait ++ [{ port := p, tag := c.tag, val := if apply = 1 then some v else none, since := t.mt }] }) s)

/-- TIME_SET_ALARM (R102, R423). -/
def execTimeSetAlarm (p : Port) (s : State) : Host.Outcome State Fault Refusal :=
  .next (runOpV .timeSetAlarm p (fun c _ =>
      let w := wd c.words
      let kind := fld (w 0) 9 8
      if kind == 1 && !validDate (fld (w 1) 31 16) (fld (w 1) 15 8) (fld (w 1) 7 0) then some 1
      else if kind != 0 && ((w 2 &&& 0xFFE0C0C0) != 0 || !validTime (fld (w 2) 20 16) (fld (w 2) 13 8) (fld (w 2) 5 0)) then some 2 else none) (fun c s =>
    let w := wd c.words
    let kind := fld (w 0) 9 8
    let i : Fin 2 := if bit (w 0) 0 then 1 else 0
    if kind == 1 && decide (alarmInstant (w 1) (w 2) ≤ s.time.rtc) then reject p c 0x1012 0 s
    else
      ok p c 0 [] (s.onTime fun t => { t with alarm := upd t.alarm i fun a => { a with
        kind := kind
        armed := kind != 0
        date := if kind = 1 then w 1 else 0
        time := if kind = 0 then 0 else w 2
        from_ := t.rtc + 1 } })) s)

/-- TIME_GET_ALARM (R423, Table 18-6). -/
def execTimeGetAlarm (p : Port) (s : State) : Host.Outcome State Fault Refusal :=
  .next (runOp .timeGetAlarm p (fun c s =>
    let i : Fin 2 := if bit (wd c.words 0) 0 then 1 else 0
    let a := s.time.alarm[i]
    ok p c 0 [pk [(b2n a.armed, 16), (a.kind, 8), (i.val, 0)], a.date, a.time] s) s)

/-! GNSS time and the pulse (4.8). -/

/-- The source changes (R108). -/
def setSource (x : TimeSource) (s : State) : State :=
  if s.time.source = x then s else raise 21 (sourceCode x) (s.onTime fun t => { t with source := x })

/-- R110: the 10-bit week in the window of 1,024 weeks from the base week of the running image. -/
def resolveWeek (im : Fin 2) (w10 : Nat) : Nat :=
  let base := (Config.baseWeek im).toNat
  base + (w10 + 1024 * 64 - base) % 1024

/-- The GPS week of a time of week: that of the last subframe 1 decoded, or the one after where the time of week has begun again since; the last figure before any was decoded. -/
def weekNow (tow : Nat) (s : State) : Nat :=
  match s.gnss.week10, s.sys.running with
  | some (w, z), some im => resolveWeek im (if tow + 6 < z then w + 1 else w)
  | _, _ => s.time.week

/-- GPS - UTC as received in page 18 of subframe 4 (R110): the first byte of its word 9 (IS-GPS-200, PRESUMED, log entry 17); the last figure before any was received. -/
def leapNow (s : State) : Int :=
  match s.gnss.pages.find? fun p => p.1 == 4 * 64 + 56 with
  | some p => (BitVec.ofNat 8 (p.2.getD 6 0 / 65536)).toInt
  | none => s.time.leap

/-- What a solution gives while it stands. -/
def timeFigures (x : TimeSol) (s : State) : State :=
  let leap := leapNow s
  (s.onTime fun t => { t with leap := leap, fErr := x.fErr, sats := x.sats }).onGnss fun g => { g with bb := upd g.bb x.bb fun b => { b with timeOk := true } }

/-- A second of the measured TCXO rate, in 10^-4 tick (R109, R111). -/
def ppsSecond (fErr : Int) : Int := secTicks * 10000 + fErr

/-- The phase error e of R112, the GNSS second minus the module's own, in 10^-12 s: within half a second of zero, the positive end included. -/
def phaseError (x : TimeSol) (t : TimeState) : Int :=
  let sec := ppsSecond x.fErr
  let r := ((x.sec : Int) - t.ppsAt) % sec
  if 2 * r ≤ sec then r else r - sec

/-- A time solution stands (R108, R109, R112): the first since power-on names the second of the first pulse; one while the source is GNSS keeps the pulse on the GPS second; one after holdover plans a slew or a step. DEDUCED, log entry 20: the first needs no phase error, and a slew in progress goes on with the error measured anew. -/
def timeSolution (x : TimeSol) (s : State) : State :=
  let e := phaseError x s.time
  match s.time.source with
  | .fault => s
  | .gnss => (timeFigures x s).onTime fun t =>
      if t.step.isSome then t
      else if t.slew != 0 then { t with errNs := x.errNs, slew := rne e 1000 }
      else { t with errNs := x.errNs, offset := if t.skip = 0 then e else t.offset }
  | .none =>
    let week := weekNow x.tow s
    setSource .gnss ((timeFigures x s).onTime fun t => { t with errNs := x.errNs, tow := x.tow, week := week, ppsAt := x.sec })
  | .holdover =>
    let s := timeFigures x s
    setSource .gnss (s.onTime fun t =>
      if e.natAbs ≤ 2000000 then { t with errNs := x.errNs, slew := rne e 1000, holdSince := none, holdRaised := false }
      else { t with step := some (e, x.errNs) })

/-- The solution is lost (R111, R113): holdover begins, or goes on when its step had not come. -/
def timeLoss (s : State) : State :=
  if s.time.source = .gnss then
    setSource .holdover (s.onTime fun t => { t with
      sats := 0
      errNs := if t.step.isSome then t.errNs else timeErr t
      holdSince := if t.step.isSome then t.holdSince else some t.mt
      slew := 0
      step := none })
  else s

/-- TIME_SOLUTION_LOSS (R108, R111): no baseband keeps a solution. -/
def execTimeSolutionLoss (s : State) : Host.Outcome State Fault Refusal :=
  .next (if s.gnss.bb.toList.any fun b => b.timeOk then s else timeLoss s)

/-- HOLDOVER_LIMIT (R111): the estimate crosses the limit, once per holdover. -/
def execHoldoverLimit (s : State) : Host.Outcome State Fault Refusal :=
  .next (match s.time.holdSince with
    | some m =>
      let lim := (wd (s.inForce .cfgModule) 1).toNat * 1000
      if s.time.holdRaised || s.time.source != .holdover then s
      else raise 22 0 ((advanceTo (m + cdiv ((lim - s.time.errNs) * secTicks) 10) s).onTime fun t => { t with holdRaised := true })
    | none => s)

/-- GNSS UTC of the last pulse in Ember ticks since 2000-01-01, which lies 7,300 days after the GPS epoch. -/
def gnssUtc (t : TimeState) : Nat := (((t.week : Int) * 604800 + t.tow - t.leap - 7300 * 86400).toNat * 32768) % rtcSpan

/-- Seconds from ppsAt to the next pulse: one, and those of a suppressed boundary; before the first pulse, to the first boundary not yet past. -/
def ppsCount (t : TimeState) : Nat :=
  if t.mtPps = 0 then cdiv (((t.mt : Int) * 10000 - t.ppsAt).toNat) (ppsSecond t.fErr).toNat else 1 + t.skip

/-- The GPS second of the next pulse in 10^-4 tick: seconds at the measured TCXO rate, moved by a slew or a step (R109, R111, R112). -/
def ppsExact (t : TimeState) : Int :=
  t.ppsAt + ppsCount t * ppsSecond t.fErr + clampI (-50) 50 t.slew * 1000 + t.offset

/-- MT of its edge, on the 10 ns grid (R109). -/
def ppsDue (t : TimeState) : Nat := (rne (ppsExact t) 10000).toNat

/-- A pulse rises (R109), n seconds after the one before and on the second exact: TOW counts on, a slew moves by at most 50 ns, and the commands that wait for it load (R100). DESIGN CHOICE, log entry 20: several that wait for one pulse are captured in order, each superseding the one before, and the last loads. -/
def ppsPulse (n : Nat) (exact : Int) (s : State) : State :=
  let s := s.onTime fun t => { t with
    mtPps := t.mt
    ppsAt := exact
    ppsHigh := some (t.mt + 10000000)
    week := if 604800 ≤ t.tow + n then t.week + 1 else t.week
    tow := (t.tow + n) % 604800
    skip := 0
    offset := 0
    slew := t.slew - clampI (-50) 50 t.slew }
  let ws := s.time.ppsWait
  let s := ws.foldl (fun s w => captureTime { val := w.val.getD (gnssUtc s.time), source := 0x80 + portNum w.port, at_ := s.time.now, cmd := some (w.port, w.tag) } s)
    (s.onTime fun t => { t with ppsWait := [] })
  if ws.isEmpty then s else loadTime s

/-- The boundary at which time steps: its pulse is suppressed (R112). DESIGN CHOICE, log entry 68: where the solution returned after that boundary, time steps at once and pulses resume one second after the boundary. -/
def timeStep (e : Int) (errNs : Nat) (s : State) : State :=
  let s := if 0 < s.time.mtPps then advanceTo (rne (s.time.ppsAt + (if 0 < e then 0 else 1) * ppsSecond s.time.fErr + e) 10000).toNat s else s
  let s := s.onTime fun t => { t with
    step := none
    holdSince := none
    holdRaised := false
    errNs := errNs
    skip := if 0 < e then 0 else 1
    offset := e }
  raise 20 (BitVec.ofInt 16 (clampI (-32767) 32767 (rne e 1000000))).toNat s

/-- PPS_EDGE (R109, R112). -/
def execPpsEdge (s : State) : Host.Outcome State Fault Refusal :=
  .next (
    if s.time.source = .none || s.time.source = .fault then s
    else match s.time.step with
      | some (e, n) => timeStep e n s
      | none => ppsPulse (ppsCount s.time) (ppsExact s.time) (advanceTo (ppsDue s.time) s))

/-- PPS_MISSED_TIMEOUT (R100): 2 s after the class 1 reply. -/
def execPpsMissedTimeout (s : State) : Host.Outcome State Fault Refusal :=
  .next (match s.time.ppsWait with
    | w :: ws => finish w.port w.tag 0 0x1013 0 [] ((advanceTo (w.since + 2 * secTicks) s).onTime fun t => { t with ppsWait := ws })
    | [] => s)

end Sys2Proof.Machine
end

