-- ==== Sys2Proof/Machine/Gnss.lean ====
section
/-! DEFINITION. The GNSS basebands (chapter 05): antennas, channels, navigation data, epochs, position and heading solutions, RTCM corrections, commands. -/

namespace Sys2Proof.Machine

/-! Parameters in force (Table 18-7). -/

def gnssW (s : State) (i : Nat) : Word := wd (s.inForce .gnssConfig) i
def bbEnabled (s : State) (b : Fin 2) : Bool := bit (gnssW s 0) b.val
def biasOn (s : State) (b : Fin 2) : Bool := bit (gnssW s 0) (2 + b.val)
def cn0Mask (s : State) : Nat := fld (gnssW s 1) 7 0
def dllDouble (s : State) : Bool := bit (gnssW s 1) 8
def rtcmW (s : State) (i : Nat) : Word := wd (s.inForce .gnssRtcmConfig) i
def maxAge (s : State) : Nat := fld (rtcmW s 0) 15 8
def stationPass (s : State) (st : Nat) : Bool := bit (rtcmW s 1) 12 || fld (rtcmW s 1) 11 0 == st
def hdgW (s : State) (i : Nat) : Word := wd (s.inForce .gnssHdgConfig) i

/-- Ticks between epochs (R123). -/
def epochTicks : Nat := 10000000

/-- State of the domain of a baseband (PD10, PD11). -/
def gnssDom (s : State) (b : Fin 2) : DomState := s.sys.dom.toList.getD (8 + b.val) .off

/-- A baseband works: firmware runs, its domain is on, it is enabled and in service. -/
def bbOn (s : State) (b : Fin 2) : Bool := s.hp.ready && gnssDom s b == .on && bbEnabled s b && !(s.gnss.bb[b]).out

/-- Changes a baseband. -/
def onBb (b : Fin 2) (f : Baseband → Baseband) (s : State) : State := s.onGnss fun g => { g with bb := upd g.bb b f }

/-- Changes a channel. -/
def onChan (b : Fin 2) (c : Fin 32) (f : Channel → Channel) (s : State) : State := onBb b (fun x => { x with chans := upd x.chans c f }) s

/-- The fix kind, with GNSS_FIX (EV26) on a change (R126). -/
def setFix (b : Fin 2) (k : Nat) (s : State) : State :=
  if (s.gnss.bb[b]).fix = k then s else raise 26 (b.val * 256 + k) (onBb b (fun x => { x with fix := k }) s)

/-- The class of an antenna input, with ANT_A or ANT_B on a change (R117). -/
def setAnt (a : Fin 2) (cls : Nat) (s : State) : State :=
  if (s.gnss.bb[a]).ant = cls then s
  else
    let s := onBb a (fun x => { x with ant := cls, shortAt := if cls = 2 then s.time.mt else x.shortAt }) s
    if a.val = 0 then raise 24 cls s else raise 25 cls s

/-- The heading state, with HDG_STATE (EV27) (R132); every integer is discarded outside FIXED. -/
def setHdg (st reason : Nat) (s : State) : State :=
  if s.gnss.hdg = st then s
  else
    let s := s.onGnss fun g => { g with
      hdg := st, lenTrips := 0, wins := 0, winSet := []
      hdgFixed := if st = 2 then g.hdgFixed else [], hdgOut := [] }
    raise 27 (st * 256 + reason) s

/-! Antenna inputs (5.2). -/

/-- The bias of an antenna input (R116, Table 5-2): on while its domain is on, clock-gated or in retention, unless the configuration disables it or a short has switched it off. -/
def antBias (s : State) (a : Fin 2) : Bool := s.sys.vmain && gnssDom s a != .off && biasOn s a && (s.gnss.bb[a]).ant != 2

/-- ANTENNA_STATE_CHANGE (R116, R117): a class is seen while the bias is on and the domain is not off. -/
def execAntennaStateChange (a : Fin 2) (cls : Fin 4) (s : State) : Host.Outcome State Fault Refusal :=
  .next (if s.hp.ready && antBias s a then setAnt a cls.val s else s)

/-- ANTENNA_SHORT_RETRY (R117): after 10 s the bias returns; a short that lasts takes it away again. -/
def execAntennaShortRetry (a : Fin 2) (stillShort : Bool) (s : State) : Host.Outcome State Fault Refusal :=
  .next (
    if (s.gnss.bb[a]).ant != 2 || !s.hp.ready || gnssDom s a == .off || !biasOn s a then s
    else
      let s := advanceTo ((s.gnss.bb[a]).shortAt + 10 * secTicks) s
      if stillShort then onBb a (fun x => { x with shortAt := s.time.mt }) s else setAnt a 0 s)

/-! Channels (5.3). -/

/-- CHANNEL_ACQUISITION (R118): the next state of Table 5-4; IDLE to ACQ assigns the PRN. -/
def execChannelAcquisition (b : Fin 2) (ch : Fin 32) (prn : Nat) (st : Fin 6) (s : State) : Host.Outcome State Fault Refusal :=
  .next (
    let c := (s.gnss.bb[b]).chans[ch]
    if !bbOn s b || st.val != c.st.val + 1 then s
    else
      let now := s.time.mt
      onChan b ch (fun c => { c with
        st := st
        prn := if st.val = 1 && c.prn = 0 then prn else c.prn
        dd := if st.val = 1 then dllDouble s else c.dd
        trackSince := if st.val = 3 then now else c.trackSince
        lockSince := if st.val = 3 then now else c.lockSince }) s)

/-- CHANNEL_LOSS_OF_LOCK (R118, R119): back to ACQ, where the search starts at the last Doppler; the slip flag is set and the lock time restarts. -/
def execChannelLossOfLock (b : Fin 2) (ch : Fin 32) (s : State) : Host.Outcome State Fault Refusal :=
  .next (
    if !bbOn s b || ((s.gnss.bb[b]).chans[ch]).st.val ≤ 1 then s
    else
      let now := s.time.mt
      onChan b ch (fun c => { c with st := 1, slip := true, lockSince := now, sub := Vector.replicate 10 none }) s)

/-- CYCLE_SLIP (R118, R119). -/
def execCycleSlip (b : Fin 2) (ch : Fin 32) (s : State) : Host.Outcome State Fault Refusal :=
  .next (
    if !bbOn s b || ((s.gnss.bb[b]).chans[ch]).st.val < 3 then s
    else
      let now := s.time.mt
      onChan b ch (fun c => { c with slip := true, lockSince := now }) s)

/-! Navigation data (5.4). The parity equations and field positions are those of IS-GPS-200 (PRESUMED, log entry 17). -/

/-- Even or odd number of ones. -/
def oddOnes (w : BitVec 24) : Bool := ((List.range 24).filter fun i => w.getLsbD i).length % 2 == 1

/-- Data bits of a raw word after inversion: D1 to D24 xor D30*. -/
def navData (raw : BitVec 30) (d30 : Bool) : BitVec 24 :=
  let d : BitVec 24 := BitVec.ofNat 24 (raw.toNat / 64)
  if d30 then ~~~d else d

/-- The parity check of a word (R120). -/
def navParity (raw : BitVec 30) (d29 d30 : Bool) : Bool :=
  let d := navData raw d30
  let p := fun (m : BitVec 24) (star : Bool) => oddOnes (d &&& m) != star
  raw.getLsbD 5 == p 0xEC7CD2 d29 && raw.getLsbD 4 == p 0x763E69 d30 && raw.getLsbD 3 == p 0xBB1F34 d29 &&
  raw.getLsbD 2 == p 0x5D8F9A d30 && raw.getLsbD 1 == p 0xAEC7CD d30 && raw.getLsbD 0 == p 0x2DEA27 d29

/-- IODE of an accepted set: subframe 2, word 3, bits 1 to 8. -/
def iodeOf (set : List Nat) : Nat := set.getD 8 0 / 65536

/-- GPS seconds of an instant within 1,024 weeks, where GNSS time is known. -/
def gpsAt (mt : Nat) (s : State) : Option Int :=
  if s.time.source = .none then none
  else some (((s.time.week : Int) * 604800 + s.time.tow + ((mt : Int) * 10000 - s.time.ppsAt) / ppsSecond s.time.fErr) % (1024 * 604800))

/-- The reference time of a set: t_oe of word 10 of subframe 2, and the week of subframe 1 (IS-GPS-200, PRESUMED, log entry 17). -/
def toeOf (set : List Nat) : Int := (set.getD 0 0 / 16384 * 604800 + set.getD 15 0 / 256 * 16 : Nat)

/-- Half the curve-fit interval of a set in s: 4 h by default, 6 h with the fit flag (R121; the flag's place and figure PRESUMED from IS-GPS-200, log entry 17). -/
def halfFit (set : List Nat) : Nat := if set.getD 15 0 / 128 % 2 = 1 then 10800 else 7200

/-- A set lies within its curve-fit interval (R121), its reference time in the week of its subframe 1 or a week beside it. DESIGN CHOICE, log entry 17: before GNSS time is known every set decoded counts as within. -/
def fitOk (s : State) (set : List Nat) : Bool :=
  match gpsAt s.gnss.epoch s with
  | none => true
  | some t => ([-1, 0, 1] : List Int).any fun k =>
      let r := (toeOf set + k * 604800 - t) % (1024 * 604800)
      decide (r ≤ halfFit set) || decide (1024 * 604800 - (halfFit set : Int) ≤ r)

/-- The set of three subframes passes R121: IODC and IODE agree, health zero, URA below 15. -/
def setGood (s1 s2 s3 : List Nat) : Bool :=
  let iodc := s1.getD 5 0 / 65536
  iodc == s2.getD 0 0 / 65536 && iodc == s3.getD 7 0 / 65536 && s1.getD 0 0 / 4 % 64 == 0 && decide (s1.getD 0 0 / 256 % 16 < 15)

/-- A decoded set enters the shared store (R122): an excluded satellite returns when two decodings since its exclusion agree. -/
def storeSet (i : Fin 32) (set : List Nat) (s : State) : State :=
  let n := s.gnss.nav[i]
  let put := fun (x : NavSat) => s.onGnss fun g => { g with nav := g.nav.set i x }
  if n.excluded then
    (if n.seen.contains set then put { set := set } else put { n with seen := set :: n.seen })
  else if !n.set.isEmpty && iodeOf n.set == iodeOf set && n.set != set then
    raise 29 (i.val + 1) (put { n with excluded := true, seen := [set] })
  else put { set := set }

/-- A page of subframe 4 or 5 that Table 5-1 uses: almanac of PRN 1 to 32, page 25 of either, page 18 of subframe 4. Page 18 gives GPS - UTC (leapNow); almanac and page 25 serve acquisition, which the spec leaves to the receiver and whose outcome CHANNEL_ACQUISITION names. -/
def pageUsed (sf sv : Nat) : Bool := (1 ≤ sv && sv ≤ 32) || (sf == 4 && (sv == 56 || sv == 63)) || (sf == 5 && sv == 51)

/-- A whole subframe whose ten words passed parity (R121). -/
def subframeDone (b : Fin 2) (ch : Fin 32) (s : State) : State :=
  let c := (s.gnss.bb[b]).chans[ch]
  let ws := c.sub.toList
  if ws.any fun w => w.isNone then s
  else
    let data := (ws.map fun w => w.getD 0).drop 2
    let id := (ws.getD 1 none).getD 0 / 4 % 8
    match (if id = 0 then none else fin? 3 (id - 1)), (if c.prn = 0 then none else fin? 32 (c.prn - 1)) with
    | some k, some i =>
      let sf := c.sf.set k data
      let s := if id = 1 then s.onGnss fun g => { g with week10 := some (data.getD 0 0 / 16384, (ws.getD 1 none).getD 0 / 128 * 6) } else s
      if sf.toList.all (fun l => !l.isEmpty) && setGood sf[0] sf[1] sf[2] then
        storeSet i (sf[0] ++ sf[1] ++ sf[2]) (onChan b ch (fun c => { c with sf := Vector.replicate 3 [] }) s)
      else onChan b ch (fun c => { c with sf := sf }) s
    | none, some _ =>
      let sv := data.getD 0 0 / 65536 % 64
      if (id = 4 || id = 5) && pageUsed id sv then
        s.onGnss fun g => { g with pages := (id * 64 + sv, data) :: g.pages.filter fun p => p.1 != id * 64 + sv }
      else s
    | _, _ => s

/-- NAV_WORD_DECODED (R120 to R122): word idx of a subframe on a channel in FRAME_SYNC. -/
def execNavWordDecoded (b : Fin 2) (ch : Fin 32) (idx : Fin 10) (raw : BitVec 30) (s : State) : Host.Outcome State Fault Refusal :=
  .next (
    let c := (s.gnss.bb[b]).chans[ch]
    if !bbOn s b || c.st.val != 5 then s
    else
      let good := navParity raw c.d29 c.d30
      let d := (navData raw c.d30).toNat
      let s := onChan b ch (fun c => { c with
        d29 := raw.getLsbD 1, d30 := raw.getLsbD 0
        parityErr := if good then c.parityErr else inc32 c.parityErr
        sub := (if idx.val = 0 then Vector.replicate 10 none else c.sub).set idx (if good then some d else none) }) s
      let s := stream 0x2A4 b.val (w64 s.time.mt ++ [pk [(b2n !good, 30), (c.prn - 1, 25), (b.val, 24), (d, 0)]]) s
      if idx.val = 9 then subframeDone b ch s else s)

/-! Corrections (5.7). The bit positions of the messages are those of RTCM 10403.3 (PRESUMED, log entry 70). -/

/-- One bit of CRC-24Q. -/
def crc24Bit (c : BitVec 24) : BitVec 24 := if c.getLsbD 23 then (c <<< 1) ^^^ 0x864CFB else c <<< 1

/-- CRC-24Q of bytes. -/
def crc24 (bs : List Byte) : BitVec 24 :=
  bs.foldl (fun c b => let c := c ^^^ ((b.zeroExtend 24 : BitVec 24) <<< (16 : Nat))
    crc24Bit (crc24Bit (crc24Bit (crc24Bit (crc24Bit (crc24Bit (crc24Bit (crc24Bit c)))))))) 0

/-- A number from bytes, most significant first. -/
def ofBe (bs : List Byte) : Nat := bs.foldl (fun n b => 256 * n + b.toNat) 0

/-- The message of a transport frame: preamble 0xD3, 6 reserved bits, 10-bit length, message, CRC-24Q over all before it; none where the frame fails. -/
def rtcmMessage (data : List Byte) : Option (List Byte) :=
  let n := ofBe ((data.drop 1).take 2) % 1024
  if data.headD 0 = 0xD3 ∧ data.length = n + 6 ∧ (crc24 (data.take (n + 3))).toNat = ofBe (data.drop (n + 3)) then some ((data.drop 3).take n) else none

/-- A field of a message: len bits from bit off, bit 0 the most significant of the first byte. -/
def rtcmFld (m : List Byte) (off len : Nat) : Nat := ofBe m / 2 ^ (8 * m.length - off - len) % 2 ^ len

/-- The same, two's complement. -/
def rtcmInt (m : List Byte) (off len : Nat) : Int := (BitVec.ofNat len (rtcmFld m off len)).toInt

/-- MT of a time of week in ms, at the measured rate; where GNSS time is unknown, the present (DESIGN CHOICE, log entry 70). -/
def mtOfTow (ms : Nat) (s : State) : Nat :=
  if s.time.source = .none then s.time.mt
  else
    let w := 604800000
    let r := ((ms : Int) - s.time.tow * 1000) % w
    ((s.time.ppsAt + (if 2 * r ≤ w then r else r - w) * ppsSecond s.time.fErr / 1000) / 10000).toNat

/-- The ARP of a station, where a 1005 has been received (R127, R128). -/
def arpOf (s : State) (st : Nat) : Option (Int × Int × Int) := (s.gnss.arps.find? fun a => a.1 == st).map fun a => a.2

/-- The ARP lies within 1,000 km of the antenna (R128), whose place is that of the last position. DESIGN CHOICE, log entry 70: with no position yet it does not. -/
def arpNear (s : State) (arp : Int × Int × Int) : Bool :=
  match s.gnss.pos with
  | some p =>
    let f := fun x : Int => x * 2 ^ 20 / 10
    decide (dist3 (f arp.1, f arp.2.1, f arp.2.2) (ecefOf p.1 p.2.1 p.2.2) ≤ 1000000000)
  | none => false

/-- The ARP of the station of the corrections, where it passes the filter (R128). -/
def stationArp (s : State) : Option (Int × Int × Int) :=
  match s.gnss.rtcmStation with
  | some st => if stationPass s st then arpOf s st else none
  | none => none

/-- Usability of the corrections at an instant, with RTCM_STALE (EV28) on each change into the unusable state (R128). -/
def rtcmCheck (at_ : Nat) (s : State) : State :=
  let fresh := decide (at_ ≤ s.gnss.corrMt + maxAge s * secTicks)
  let bad := match stationArp s with
    | none => 2
    | some arp => if !fresh then 1 else if !arpNear s arp then 3 else 0
  let was := s.gnss.rtcmOk
  let s := s.onGnss fun g => { g with rtcmOk := bad == 0 }
  if was && bad != 0 then raise 28 bad s else s

/-- The correction of one satellite of a 1004 (R127), from its fields: ID, L1 code indicator, pseudorange in 0.02 m, modulus ambiguity. An invalid one (marker 0x80000) and one without an accepted set give none. -/
def formCorr (s : State) (mt ms : Nat) (arp : Int × Int × Int) (m : List Byte) (k : Nat) : Option Corr :=
  let off := 64 + 125 * k
  let prn := rtcmFld m off 6
  let pr := rtcmFld m (off + 7) 24
  match (if prn = 0 then none else fin? 32 (prn - 1)) with
  | none => none
  | some i =>
    let set := (s.gnss.nav[i]).set
    if rtcmFld m (off + 6) 1 = 1 || pr = 0x80000 || set.isEmpty then none
    else
      let ref : Int := rtcmFld m (off + 58) 8 * 299792458 + pr * 20
      let prc := Config.satGeometry set ms arp - ref
      let rrc := match s.gnss.corr.find? fun c => c.prn == prn with
        | some c => if c.mt < mt ∧ mt ≤ c.mt + 10 * secTicks then (prc - c.prc) * 1000 * secTicks / ((mt : Int) - c.mt) else 0
        | none => 0
      some { prn := prn, iode := iodeOf set, mt := mt, prc := prc, rrc := rrc }

/-- A 1004 (R127, R128): a change of station discards every correction; the satellites it carries with a valid pseudorange take new ones, and the others keep theirs (DEDUCED, log entry 70). -/
def take1004 (m : List Byte) (s : State) : State :=
  let st := rtcmFld m 12 12
  let ms := rtcmFld m 24 30
  let mt := mtOfTow ms s
  let s := s.onGnss fun g => { g with corr := if g.rtcmStation = some st then g.corr else [], rtcmStation := some st, corrMt := mt }
  let new := match arpOf s st with
    | some arp => (List.range (rtcmFld m 55 5)).filterMap (formCorr s mt ms arp m)
    | none => []
  rtcmCheck s.time.mt (s.onGnss fun g => { g with corr := new ++ g.corr.filter fun c => !new.any fun x => x.prn == c.prn })

/-- A 1005 (R127): the station's ARP. -/
def take1005 (m : List Byte) (s : State) : State :=
  let st := rtcmFld m 12 12
  rtcmCheck s.time.mt (s.onGnss fun g => { g with
    arps := (st, rtcmInt m 34 38, rtcmInt m 74 38, rtcmInt m 114 38) :: g.arps.filter fun a => a.1 != st })

/-- RTCM_FRAME (R115, R127, R128): a transport frame on the assigned UART; a frame that fails is counted, and so is every message but a 1004 and a 1005 of a GPS station. -/
def execRtcmFrame (data : List Byte) (s : State) : Host.Outcome State Fault Refusal :=
  .next (
    let on := match fin? 10 (rtcmPort s) with | some u => uartProto s u == 3 | none => false
    if !pd4On s || !on then s
    else match rtcmMessage data with
      | none => s.onGnss fun g => { g with rtcmCrcErr := inc32 g.rtcmCrcErr }
      | some m =>
        let num := rtcmFld m 0 12
        if num = 1005 ∧ 19 ≤ m.length ∧ rtcmFld m 30 1 = 1 then take1005 m s
        else if num = 1004 ∧ 64 + 125 * rtcmFld m 55 5 ≤ 8 * m.length then take1004 m s
        else s.onGnss fun g => { g with rtcmIgnored := inc32 g.rtcmIgnored })

/-- The usable correction of a PRN: formed with the set in use, and not too old (R127, R128). -/
def corrOf (s : State) (prn : Nat) : Option Corr :=
  if s.gnss.rtcmOk then s.gnss.corr.find? fun c => c.prn == prn && decide (s.gnss.epoch ≤ c.mt + maxAge s * secTicks) &&
    (match fin? 32 (prn - 1) with | some i => c.iode == iodeOf (s.gnss.nav[i]).set | none => false)
  else none

/-- A PRN has a usable correction. -/
def corrected (s : State) (prn : Nat) : Bool := (corrOf s prn).isSome

/-- What is added to a pseudorange at the epoch, mm (R127): prc and, with USE_RATE, rrc times the age. -/
def corrValue (s : State) (c : Corr) : Int :=
  c.prc + (if bit (rtcmW s 1) 16 then rne (c.rrc * ((s.gnss.epoch : Int) - c.mt)) (1000 * secTicks) else 0)

/-! Streams (5.5, 5.6, 5.8). -/

/-- A stream of every DECIM-th epoch is due. -/
def epochDue (s : State) (code inst : Nat) : Bool :=
  match s.sub code inst with
  | some x => s.gnss.epoch / epochTicks % (max 1 x.decim) == 0
  | none => false

/-- GNSS_MEAS (Table 5-6), with the PRNs used in the position solution. -/
def measStream (b : Fin 2) (used : List Nat) (s : State) : State :=
  if !epochDue s 0x2A0 b.val then s
  else
    let l := (s.gnss.bb[b]).chans.toList.filterMap fun c => c.meas.map fun m => (c.prn, m)
    let row := fun (e : Nat × ChanMeas) =>
      let (prn, m) := e
      let inPvt := used.contains prn
      [pk [(prn, 24), (satN 255 m.cn0, 16), (m.st.val, 13), (b2n m.usable, 7), (b2n inPvt, 6), (b2n (inPvt && corrected s prn), 5), (b2n m.dd, 4), (b2n m.slip, 3), (b2n (m.st.val == 5), 2)]] ++
      w64 m.pr ++ i64 m.phase ++ [ofI m.dop, ofN (satN 0xFFFFFFFF m.lock)]
    stream 0x2A0 b.val (w64 s.gnss.epoch ++ [pk [(l.length, 8), (b.val, 0)]] ++ l.flatMap row) s

/-! Epochs (R123). -/

/-- Slots of a baseband or of the heading. -/
def intSlots (s : State) (itf : Nat) : List (Fin 24) := (fins 24).filter fun i => refOn s i.val && refKind s i.val == 1 && refIf s i.val == itf

/-- No comparison with the tight position at this epoch: three in a row are consecutive epochs (R161). -/
def tightReset (b : Fin 2) (s : State) : State := (intSlots s b.val).foldl (fun s i => onSlot i (fun x => { x with tightTrips := 0 }) s) s

/-- A solution that is not complete by E + 8 ms is dropped (R124). -/
def dropSolution (b : Fin 2) (s : State) : State :=
  if !(s.gnss.bb[b]).awaiting then s
  else
    let s := cancelDp (fun w => w == .gnss b) (advanceTo (s.gnss.epoch + 8 * msTicks) s)
    let s := onBb b (fun x => { x with awaiting := false, dropped := inc32 x.dropped, timeOk := false }) s
    measStream b [] (tightReset b (setFix b 0 s))

/-- A heading solution is dropped (R124): no row of consecutive epochs goes past it (R130, R132). -/
def dropHeading (s : State) : State :=
  if !s.gnss.hdgAwaiting then s
  else (cancelDp (fun w => w == .heading) (advanceTo (s.gnss.epoch + 8 * msTicks) s)).onGnss fun g => { g with hdgAwaiting := false, hdgDropped := inc32 g.hdgDropped, wins := 0, winSet := [], lenTrips := 0 }

/-- Squared length in mm of the baseline between two slots' lever arms (R129). -/
def baseline2 (l : List CfgEntry) (a b : Nat) : Nat :=
  let arm := fun i k => (wd (cfgGet l .fusRefConfig i) k).toInt
  ((List.range 3).map fun k => ((arm b (3 + k) - arm a (3 + k)) * (arm b (3 + k) - arm a (3 + k))).natAbs).sum

/-- Squared length of the baseline of R129 when both slots are configured and it lies between 0.5 m and 10.0 m. -/
def baselineOf (l : List CfgEntry) : Option Nat :=
  let slot := fun itf => (List.range 24).find? fun i => fld (wd (cfgGet l .fusRefConfig i) 0) 11 8 == 1 && fld (wd (cfgGet l .fusRefConfig i) 1) 15 8 == itf
  match slot 0, slot 1 with
  | some a, some b => let n := baseline2 l a b; if 250000 ≤ n ∧ n ≤ 100000000 then some n else none
  | _, _ => none

/-- A baseband goes out of use: its channels idle, its fix is gone (R133, R134). -/
def bbIdle (b : Fin 2) (s : State) : State :=
  setFix b 0 (onBb b (fun x => { x with chans := Vector.replicate 32 {}, awaiting := false, timeOk := false }) s)

/-- New parameters take effect at the epoch (R133). -/
def gnssTakes (old s : State) : State :=
  let s := (fins 2).foldl (fun s b =>
    let s := if bbEnabled old b && !bbEnabled s b then bbIdle b s else s
    if !biasOn s b then setAnt b 4 s else s) s
  let s := s.onGnss fun g => { g with bb := vmap g.bb fun x => { x with chans := vmap x.chans fun c => { c with dd := dllDouble s } } }
  let s := if rtcmPort old != rtcmPort s then s.onGnss fun g => { g with corr := [], rtcmStation := none } else s
  let on := bit (hdgW s 0) 0 && bbEnabled s 0 && bbEnabled s 1
  if !on then setHdg 0 0 s
  else if s.gnss.hdg = 0 && (baselineOf s.cfg.force).isSome then setHdg 1 0 s
  else s

/-- The measurement of a channel at the epoch (R121, R123, Table 5-6). -/
def measure (s : State) (x : ChanIn) (c : Channel) : Channel :=
  if c.st.val < 3 then { c with meas := none }
  else
    let usable := match (if c.prn = 0 then none else fin? 32 (c.prn - 1)) with
      | some i => !(s.gnss.nav[i]).set.isEmpty && !(s.gnss.nav[i]).excluded && fitOk s (s.gnss.nav[i]).set
      | none => false
    { c with
      slip := false
      centre := x.dop
      meas := some { cn0 := satN 255 x.cn0, st := c.st, usable := usable, dd := c.dd && decide (c.trackSince + 2 * secTicks ≤ s.gnss.epoch)
                     slip := c.slip, pr := x.pr, phase := x.phase, dop := x.dop, lock := (s.gnss.epoch - c.lockSince) / msTicks } }

/-- The measured rows of a baseband. -/
def rowsOf (s : State) (b : Fin 2) : List (Nat × ChanMeas) := (s.gnss.bb[b]).chans.toList.filterMap fun c => c.meas.map fun m => (c.prn, m)

/-- The first internal position sets the datum until one has been set (R219). -/
def firstDatum (lat lon height : Int) (s : State) : State := if s.dpc.datumSrc = 0 then datumTakes #v[lat, lon, height] 1 s else s

/-- The rows that a tight filter takes (7.4.1): usable, above both masks; PRN, pseudorange, Doppler, correction in mm. -/
def tightRows (s : State) (b : Fin 2) (above : List Nat) : List (List Int) :=
  ((rowsOf s b).filter fun r => r.2.usable && above.contains r.1 && decide (4 * cn0Mask s ≤ r.2.cn0)).map fun r =>
    [(r.1 : Int), (r.2.pr : Int), r.2.dop, match corrOf s r.1 with | some c => corrValue s c | none => 0]

/-- A tight filter updates with the rows of the epoch, and its antenna position goes to its slot while its standard deviation is 5,000 mm or less (R161). -/
def tightSlot (m : EpochIn) (b : Fin 2) (s : State) : State :=
  let rows := tightRows s b m.above[b]
  (intSlots s b.val).foldl (fun s i =>
    if refCoupling s i.val = 0 || rows.isEmpty then onSlot i (fun x => { x with tight := 0 }) s
    else
      let f := Config.tightUpdate (s.fus.slot[i]).filter rows (mechAt s s.gnss.epoch).x epochTicks
      let (lat, lon, h, sd) := Config.tightFix f
      let sigma := max 1 sd
      let s := onSlot i (fun x => { x with filter := f, tightPos := (lat, lon, h), tight := if sigma ≤ 5000 then sigma else 0 }) s
      if sigma ≤ 5000 then firstDatum lat lon h (intakeMeas i { ta := s.time.mt, ts := some s.gnss.epoch, vals := [lat, lon, h], rep := some sigma } s) else s) s

/-- GNSS_EPOCH (R123, R128, R133): the next epoch E. -/
def execGnssEpoch (m : EpochIn) (s : State) : Host.Outcome State Fault Refusal :=
  .next (
    if !s.hp.ready then s
    else
      let s := dropHeading (dropSolution 1 (dropSolution 0 s))
      let e := max (s.gnss.epoch / epochTicks + 1) (cdiv s.time.mt epochTicks) * epochTicks
      let s := (advanceTo e s).onGnss fun g => { g with epoch := e }
      let s := rtcmCheck e (gnssTakes s (promote .epoch s))
      let s := (fins 2).foldl (fun s b =>
        if bbOn s b then onBb b (fun x => { x with awaiting := true, chans := vmapI x.chans fun c k => measure s (m.chans[b])[c] k }) s
        else onBb b (fun x => { x with awaiting := false, timeOk := false, chans := vmap x.chans fun c => { c with meas := none } }) s) s
      let slips := fun b : Fin 2 => ((rowsOf s b).filter fun r => r.2.slip).map fun r => r.1
      let s := s.onGnss fun g => { g with hdgAwaiting := g.hdg != 0, hdgSlip := g.hdgSlip ++ slips 0 ++ slips 1 }
      let late := e + 8 * msTicks
      let s := (fins 2).foldl (fun s b => if (s.gnss.bb[b]).awaiting then submitOpen (.gnss b) late s else s) s
      let s := if s.gnss.hdgAwaiting then submitOpen .heading late s else s
      tightSlot m 1 (tightSlot m 0 s))

/-! Position solutions (5.6). -/

/-- Chi-square values in thousandths for RAIM_PFA 10^-3 to 10^-6 and 1 to 28 degrees of freedom. -/
def chiTable : List (List Nat) :=
  [[10828, 13816, 16266, 18467, 20515, 22458, 24322, 26124, 27877, 29588, 31264, 32909, 34528, 36123, 37697, 39252, 40790, 42312, 43820, 45315, 46797, 48268, 49728, 51179, 52620, 54052, 55476, 56892],
    [15137, 18421, 21108, 23513, 25745, 27856, 29878, 31828, 33720, 35564, 37367, 39134, 40871, 42579, 44263, 45925, 47566, 49189, 50795, 52386, 53962, 55525, 57075, 58613, 60140, 61657, 63164, 64662],
    [19511, 23026, 25902, 28473, 30856, 33107, 35259, 37332, 39341, 41296, 43206, 45076, 46912, 48716, 50493, 52245, 53974, 55683, 57373, 59045, 60700, 62341, 63968, 65581, 67182, 68771, 70349, 71917],
    [23928, 27631, 30665, 33377, 35888, 38258, 40522, 42701, 44811, 46863, 48866, 50825, 52747, 54635, 56493, 58324, 60131, 61914, 63677, 65421, 67147, 68856, 70550, 72229, 73895, 75547, 77188, 78817]]

/-- The threshold of the residual test (R126): the chi-square value for RAIM_PFA, with rows less four degrees of freedom. -/
def raimLimit (s : State) (rows : Nat) : Nat := (chiTable.getD (fld (gnssW s 1) 27 24 - 3) []).getD (rows - 5) 0

/-- The row with the largest normalised residual. -/
def worstRow (rows : List Nat) (resid : List (Nat × Nat)) : Nat :=
  (resid.foldl (fun (a : Nat × Nat) r => if rows.contains r.1 && decide (a.2 < r.2) then r else a) (rows.headD 0, 0)).1

/-- Table 5-7: the rows used, INTEGRITY and the excluded PRN; none when not delivered. -/
def residualTest (s : State) (rows : List Nat) (q : PvtIn) : Option (List Nat × Nat × Nat) :=
  let n := rows.length
  let out := worstRow rows q.resid
  if n < 4 then none
  else if n = 4 then some (rows, 0, 0)
  else if q.stat ≤ raimLimit s n then some (rows, 1, 0)
  else if 6 ≤ n ∧ q.stat2 ≤ raimLimit s (n - 1) then some (rows.filter fun p => p != out, 2, out)
  else none

/-- Horizontal distance in mm between two antenna positions. -/
def flatDist (a b : Int × Int × Int) : Nat :=
  let p := ecefToPlane #v[a.1, a.2.1, a.2.2] (ecefOf b.1 b.2.1 b.2.2)
  hyp p.1 p.2 / 2 ^ 20

/-- The position solution goes to the slots of its baseband: as the measurement with COUPLING 0, against the tight position with COUPLING 2 (R161). -/
def solutionSlot (b : Fin 2) (q : PvtIn) (s : State) : State :=
  let sigma := max q.sigN q.sigE
  (intSlots s b.val).foldl (fun s i =>
    match refCoupling s i.val with
    | 0 => firstDatum q.lat q.lon q.height (intakeMeas i { ta := s.time.mt, ts := some s.gnss.epoch, vals := [q.lat, q.lon, q.height], rep := some sigma } s)
    | 2 =>
      let t := (s.fus.slot[i]).tight
      let g := refGate s i.val
      let d := flatDist (q.lat, q.lon, q.height) (s.fus.slot[i]).tightPos
      let trips := if t != 0 && decide (g * g * (t * t + sigma * sigma) < 100 * d * d) then (s.fus.slot[i]).tightTrips + 1 else 0
      let s := onSlot i (fun x => { x with tightTrips := trips }) s
      if trips = 3 then raise 38 (i.val * 256 + 2) s else s
    | _ => s) s

/-- R108: a time solution needs a position solution, or a tracked satellite and an estimate with a horizontal standard deviation of 10 m or less. -/
def timeAllowed (s : State) (b : Fin 2) (fixed : Bool) : Bool :=
  fixed || (!(rowsOf s b).isEmpty && s.fus.mode != 3 &&
    decide (s.fus.pub[21] * s.fus.pub[21] + s.fus.pub[22] * s.fus.pub[22] ≤ 100000000))

/-- A solution that passed the residual test: the fix, the position, its stream and its use in a positioning slot (R124, R126, R161). -/
def publishFix (b : Fin 2) (q : PvtIn) (used : List Nat) (integ excl : Nat) (s : State) : State :=
  let dgps := used.any (corrected s)
  let fix := if dgps then 2 else 1
  let applied := used.filterMap fun p => (corrOf s p).map fun c => (p, corrValue s c)
  let s := (onBb b (fun x => { x with applied := applied }) (setFix b fix s)).onGnss fun g => { g with pos := some (q.lat, q.lon, q.height) }
  let age := if dgps then satN 0xFFFE ((s.gnss.epoch - s.gnss.corrMt) / 10000000) else 0xFFFF
  let ws := w64 s.gnss.epoch ++ [pk [(excl, 24), (used.length, 16), (integ, 8), (fix, 4), (b.val, 0)],
    ofI q.lat, ofI q.lon, ofI q.height, ofN q.sigN, ofN q.sigE, ofN q.sigD, pk [(age, 16), (satN 0xFFFF q.hdop, 0)]]
  solutionSlot b q (if epochDue s 0x2A8 b.val then stream 0x2A8 b.val ws s else s)

/-- Rows that a solution may use: usable, above the mask, strong enough. -/
def solutionRows (b : Fin 2) (q : PvtIn) (s : State) : List Nat :=
  ((rowsOf s b).filter fun r => r.2.usable && q.above.contains r.1 && decide (4 * cn0Mask s ≤ r.2.cn0)).map fun r => r.1

/-- A solution's second as it passed the antenna: the front end sees it later by the effective GNSS_DELAY, in ps, which is 10^-4 tick (R374). -/
def atAntenna (s : State) (x : TimeSol) : TimeSol := { x with sec := ((x.sec : Int) - calEff s 12 x.bb.val).toNat }

/-- The time of a solution, where it may set the time; without one the baseband keeps no time solution (R108). -/
def solutionTime (b : Fin 2) (q : PvtIn) (fixed : Bool) (s : State) : State :=
  match q.time with
  | some t => if timeAllowed s b fixed then timeSolution (atAntenna s { t with bb := b }) s else onBb b (fun x => { x with timeOk := false }) s
  | none => onBb b (fun x => { x with timeOk := false }) s

/-- TIME_SOLUTION_RETURN (R108, R112): a time solution of a baseband outside its position solution. -/
def execTimeSolutionReturn (t : TimeSol) (s : State) : Host.Outcome State Fault Refusal :=
  .next (if timeAllowed s t.bb ((s.gnss.bb[t.bb]).fix != 0) then timeSolution (atAntenna s t) s else s)

/-- Is the instant past E + 8.0 ms (R124)? -/
def epochLate (s : State) : Bool := decide (s.gnss.epoch + 8 * msTicks < s.time.mt)

/-- GNSS_SOLUTION_COMPLETE (R108, R124, R126). -/
def execGnssSolutionComplete (b : Fin 2) (q : PvtIn) (s : State) : Host.Outcome State Fault Refusal :=
  .next (
    if !(s.gnss.bb[b]).awaiting then s
    else if epochLate s then dropSolution b s
    else
      let s := onBb b (fun x => { x with awaiting := false }) (finishDp (fun w => w == .gnss b) (advanceTo (s.gnss.epoch + 4 * msTicks) s))
      match residualTest s (solutionRows b q s) q with
      | some (used, integ, excl) => measStream b used (solutionTime b q true (publishFix b q used integ excl s))
      | none => measStream b [] (solutionTime b q false (tightReset b (setFix b 0 s))))

/-! Heading (5.8). -/

/-- PRNs tracked by both basebands in FRAME_SYNC and usable (R125), with the C/N0 floor of the search and slips in either. -/
def common (s : State) : List (Nat × Bool × Bool) :=
  (rowsOf s 0).filterMap fun a =>
    match (rowsOf s 1).find? fun b => b.1 == a.1 with
    | some b => if a.2.st.val = 5 ∧ b.2.st.val = 5 ∧ a.2.usable ∧ b.2.usable then
        some (a.1, decide (140 ≤ a.2.cn0 ∧ 140 ≤ b.2.cn0), s.gnss.hdgSlip.contains a.1) else none
    | none => none

/-- One epoch of SEARCH (R130): the integers of the winning set become those of the satellites that formed it. -/
def hdgSearch (h : HdgIn) (s : State) : State :=
  let sats := ((common s).filter fun x => x.2.1 && h.above.contains x.1).map fun x => x.1
  if sats.length < 5 || h.ratio < fld (hdgW s 1) 7 0 then s.onGnss fun g => { g with wins := 0, winSet := [] }
  else
    let n := if s.gnss.winSet = h.ints ∧ 0 < s.gnss.wins then s.gnss.wins + 1 else 1
    if fld (hdgW s 1) 15 8 ≤ n then setHdg 2 1 (s.onGnss fun g => { g with hdgFixed := h.ints.filter fun x => sats.contains x.1 })
    else s.onGnss fun g => { g with wins := n, winSet := h.ints }

/-- The double difference of a PRN rounded to an integer, and the residual, in thousandths of a cycle (R131). -/
def rounded (h : HdgIn) (prn : Nat) : Option (Int × Nat) :=
  (h.dd.find? fun r => r.1 == prn).map fun r => (rne r.2 1000, (r.2 - rne r.2 1000 * 1000).natAbs)

/-- One epoch of FIXED (R131, R132): satellites that slipped or joined are re-fixed by rounding, and the wrong-fix monitor looks at the solved length and the residuals. -/
def hdgFixedStep (h : HdgIn) (s : State) : State :=
  let cs := common s
  let keep := s.gnss.hdgFixed.filter fun f => cs.any fun x => x.1 == f.1 && !x.2.2
  let tries := (cs.filter fun x => !(keep.any fun f => f.1 == x.1) && !s.gnss.hdgOut.contains x.1).map fun x => x.1
  let good := tries.filterMap fun p => match rounded h p with | some (n, r) => if r < 150 then some (p, n) else none | none => none
  let fixed := keep ++ good
  let bad := fixed.filter fun f => h.dd.any fun r => r.1 == f.1 && decide (250 < (r.2 - f.2 * 1000).natAbs)
  let len := match baselineOf s.cfg.force with | some n => isqrt n | none => 0
  let off := (h.len - len) + (len - h.len)
  let s := s.onGnss fun g => { g with
    hdgFixed := fixed, hdgOut := g.hdgOut ++ tries.filter (fun p => !good.any fun f => f.1 == p)
    lenTrips := if fld (hdgW s 1) 23 16 < off then g.lenTrips + 1 else 0 }
  if fixed.length < 4 then setHdg 1 2 s
  else if 2 ≤ bad.length then setHdg 1 4 s
  else if 3 ≤ s.gnss.lenTrips then setHdg 1 3 s
  else s

/-- Heading standard deviation: 0.15 degrees divided by the baseline length in metres, in 2^-32 turn (R132). -/
def hdgSigma (s : State) : Nat :=
  match baselineOf s.cfg.force with
  | some n => (isqrt (4 * (150 * 2 ^ 32) ^ 2 / (360 * 360 * n)) + 1) / 2
  | none => 0

/-- GNSS_HEADING_COMPLETE (R124, R130 to R132, R426). -/
def execGnssHeadingComplete (h : HdgIn) (s : State) : Host.Outcome State Fault Refusal :=
  .next (
    if !s.gnss.hdgAwaiting then s
    else if epochLate s then dropHeading s
    else
      let s := (finishDp (fun w => w == .heading) (advanceTo (s.gnss.epoch + 5 * msTicks) s)).onGnss fun g => { g with hdgAwaiting := false }
      let s := if s.gnss.hdg = 1 then hdgSearch h s else if s.gnss.hdg = 2 then hdgFixedStep h s else s
      let s := s.onGnss fun g => { g with hdgSlip := [] }
      let on := s.gnss.hdg == 2
      let s := if on then (intSlots s 3).foldl (fun s i => intakeMeas i { ta := s.time.mt, ts := some s.gnss.epoch, vals := [(h.az : Int)], rep := some (hdgSigma s) } s) s else s
      if epochDue s 0x2AC 0 then
        stream 0x2AC 0 (w64 s.gnss.epoch ++ [pk [(s.gnss.hdg, 8), (satN 255 s.gnss.hdgFixed.length, 0)]] ++
          (if on then [ofN h.az, ofI h.el, ofN (hdgSigma s)] else [0, 0, 0])) s
      else s)

/-- GNSS_SOLUTION_TIMEOUT (R124): solution A, B or heading is not complete by E + 8 ms. -/
def execGnssSolutionTimeout (w : Fin 3) (s : State) : Host.Outcome State Fault Refusal :=
  .next (match fin? 2 w.val with
    | some b => dropSolution b s
    | none => dropHeading s)

/-! Interference and faults (R134). -/

/-- GNSS_INTERFERENCE: the in-band noise power of a baseband and its 60 s average, both in 0.1 dB; EV30 when the noise crosses the average plus INTERF_DB. -/
def execGnssInterference (b : Fin 2) (noise avg : Int) (s : State) : Host.Outcome State Fault Refusal :=
  let rise := decide (avg + 10 * fld (gnssW s 1) 23 16 ≤ noise)
  .next (if bbOn s b && (s.gnss.bb[b]).interf != rise then raise 30 (b.val * 256 + b2n rise) (onBb b (fun x => { x with interf := rise }) s) else s)

/-- A baseband is out of service until the next reset. -/
def bbFail (b : Fin 2) (s : State) : State :=
  if (s.gnss.bb[b]).out then s else bbIdle b (raise 31 b.val (onBb b (fun x => { x with out := true }) s))

/-- GNSS_FAULT. -/
def execGnssFault (b : Fin 2) (s : State) : Host.Outcome State Fault Refusal := .next (bbFail b s)

/-- The domain of a baseband has left off (R83): front end and bias run, and the channels track the satellites acquired from the PD1 store. DESIGN CHOICE, log entry 71: those are the satellites that the channels had and whose set is stored; a channel with another searches. -/
def gnssWake (b : Fin 2) (s : State) : State :=
  let now := s.time.mt
  let stored := fun (prn : Nat) => match fin? 32 (prn - 1) with | some i => !(s.gnss.nav[i]).set.isEmpty | none => false
  let s := onBb b (fun x => { x with awaiting := false, timeOk := false, chans := vmap x.chans fun c =>
    if c.prn = 0 then ({} : Channel)
    else if (stored c.prn) then { prn := c.prn, st := 3, dd := c.dd, trackSince := now, lockSince := now, centre := c.centre }
    else { prn := c.prn, st := 1, dd := c.dd, centre := c.centre } }) s
  setFix b 0 s

/-! Commands (5.9, 18.4). -/

/-- GNSS_CONFIG (Table 18-7): at the next epoch. -/
def execGnssConfig (p : Port) (s : State) : Host.Outcome State Fault Refusal :=
  .next (configRow .gnssConfig p (fun _ _ _ => none) s)

/-- GNSS_RTCM_CONFIG (R133, R368): a port in use for another function, or without PROTOCOL 3, is refused. -/
def execGnssRtcmConfig (p : Port) (s : State) : Host.Outcome State Fault Refusal :=
  .next (configRow .gnssRtcmConfig p (fun _ ws s =>
    let u := fld (wd ws 0) 3 0
    if u != 15 && (slotUsesUart s u || fld (wd (cfgGet s.cfg.work .busUartConfig u) 0) 9 8 != 3) then some (0x2010, 0) else none) s)

/-- GNSS_HDG_CONFIG (R129). -/
def execGnssHdgConfig (p : Port) (s : State) : Host.Outcome State Fault Refusal :=
  .next (configRow .gnssHdgConfig p (fun _ ws s =>
    if bit (wd ws 0) 0 && (baselineOf s.cfg.work).isNone then some (0x2011, 0) else none) s)

/-- GNSS_STREAM (Table 18-7). -/
def execGnssStream (p : Port) (s : State) : Host.Outcome State Fault Refusal :=
  .next (runOp .gnssStream p (fun c s =>
    let w := wd c.words 0
    let d := fld w 23 16
    let k := fld w 1 0
    let code := 0x2A0 + 4 * k
    let s := if k = 3 then subscribe code 0 p d 0 s
      else (fins 2).foldl (fun s b => if bit w (8 + b.val) then subscribe code b.val p d 0 s else s) s
    ok p c 0 [] s) s)

/-- A baseband restarts (R425): hot searches again for the satellites it had; warm and cold discard the channel states. -/
def bbRestart (start : Nat) (b : Fin 2) (s : State) : State :=
  if start = 0 then
    setFix b 0 (onBb b (fun x => { x with awaiting := false, chans := vmap x.chans fun c => if c.prn = 0 then c else { prn := c.prn, st := 1, dd := c.dd, parityErr := c.parityErr, centre := c.centre }, timeOk := false }) s)
  else bbIdle b s

/-- GNSS_RESTART (R133, R425): a cold start clears the shared store. -/
def execGnssRestart (p : Port) (s : State) : Host.Outcome State Fault Refusal :=
  .next (runOp .gnssRestart p (fun c s =>
    let start := fld (wd c.words 0) 9 8
    let s := commit p c.tag (pending p c 20 s)
    let s := (fins 2).foldl (fun s b => if bit (wd c.words 0) b.val then bbRestart start b s else s) s
    let s := if start = 2 then s.onGnss fun g => { g with nav := Vector.replicate 32 {}, pages := [], pos := none, week10 := none } else s
    ok p c 0 [] s) s)

end Sys2Proof.Machine
end

