-- ==== Sys2Proof/Machine/HostPort.lean ====
section
/-! DEFINITION. The rows of the host port: accesses, queues, command intake and header checks, reply transfer (chapter 02). -/

namespace Sys2Proof.Machine

/-- A word enters the command queue at its ACK_N (R33, R34, R43): a header fixes how many payload words follow; its arrival is a wake trigger (R39, R86). -/
def takeWord (q : QWord) (s : State) : State :=
  let isHeader := s.host.wrLeft == 0
  let s := s.onHost fun h => { h with
    cmdq := h.cmdq ++ [q], lastWord := s.time.mt, held := none
    wrLeft := if h.wrLeft = 0 then fld q.w 7 0 else h.wrLeft - 1
    wrHave := if h.wrLeft = 0 then 0 else h.wrHave + 1 }
  let s := s.onHp fun h => { h with acked := true, wasFull := h.wasFull || queueWords ≤ s.host.cmdq.length }
  if isHeader then wakeTrigger 1 s else s

/-- CMDQ_SPACE (EV1): FREE rises to 512 after the queue was full (R65). -/
def cmdqSpace (s : State) : State :=
  if s.hp.wasFull && 512 ≤ queueWords - s.host.cmdq.length then
    raise 1 0 (s.onHp fun h => { h with wasFull := false })
  else s

/-- Saturating 8-bit error counter (Table 2-15). -/
def inc8 (n : Nat) : Nat := satN 0xFF (n + 1)

/-- HP_CMDQ_WRITE (R31, R33, R34): taken, or its ACK_N is withheld while the queue is full; without VMAIN the port is dead. -/
def cmdqWrite (w : Word) (e : Ecc) (s : State) : State :=
  if !portUp s || s.host.held.isSome then s
  else if s.host.cmdq.length < queueWords then takeWord { w := w, ecc := e } s
  else (s.onHost fun h => { h with held := some { w := w, ecc := e } }).onHp fun h => { h with acked := false }

def execHpCmdqWrite (w : Word) (e : Ecc) (s : State) : Host.Outcome State Fault Refusal := .next (cmdqWrite w e s)

/-- CMDQ_WRITE_RESUME (R33). -/
def execCmdqWriteResume (s : State) : Host.Outcome State Fault Refusal :=
  .next (if !portUp s then s else match s.host.held with
    | some q => if s.host.cmdq.length < queueWords then takeWord q s else s
    | none => s)

/-- ACCESS_ABANDONED (R34): no word enters or leaves a queue and no acknowledge follows. -/
def execAccessAbandoned (s : State) : Host.Outcome State Fault Refusal :=
  .next ((s.onHost fun h => { h with held := none }).onHp fun h => { h with acked := false })

/-- CONFLICTING_STROBE (R35, R65). -/
def execConflictingStrobe (s : State) : Host.Outcome State Fault Refusal :=
  .next (if portUp s then raise 2 3 (ack (s.onHp fun h => { h with busErr := true })) else s)

/-- HP_RSPQ_READ (R34, R42, Tables 2-13, 2-14): e is what the SECDED check finds in the word read. -/
def rspqRead (e : Ecc) (s : State) : State :=
  let s := ack s
  match s.host.rspq with
  | [] => s.onHp fun h => { h with rqUnder := true, dOut := 0 }
  | w :: rest =>
    let s := s.onHost fun h => { h with rspq := rest, rspLeft := if h.rspLeft = 0 then fld w 7 0 else h.rspLeft - 1 }
    let s := s.onHp fun h => { h with dOut := w }
    let s := match e with
      | .ok => s
      | .corrected => s.onHp fun h => { h with ecc := { h.ecc with rqCe := inc8 h.ecc.rqCe } }
      | .uncorrectable => raise 2 1 (s.onHp fun h => { h with rqUe := true, ecc := { h.ecc with rqUe := inc8 h.ecc.rqUe } })
    if rest.isEmpty then
      (s.onEv fun v => { v with src := upd v.src 0 fun x => { x with pend := false } }).onSys fun y => { y with lastActive := s.time.mt }
    else s

def execHpRspqRead (e : Ecc) (s : State) : Host.Outcome State Fault Refusal := .next (if portUp s then rspqRead e s else s)

/-- HP_ECC_READ (R7): the counters are returned; the clear removes the returned value and the increments made since (late) survive. -/
def execHpEccRead (late : EccCounts) (s : State) : Host.Outcome State Fault Refusal :=
  .next (if portUp s then ack (s.onHp fun h => { h with dOut := hpEcc h.ecc, ecc :=
    { cqUe := satN 0xFF late.cqUe, rqUe := satN 0xFF late.rqUe, cqCe := satN 0xFF late.cqCe, rqCe := satN 0xFF late.rqCe } }) else s)

/-- A write to HP_WAKE (R63, R87). -/
def wakeWrite (v : Word) (s : State) : State :=
  let us := fld v 23 0
  ack (if us = 0 || 10000000 < us then s.onHp fun h => { h with wakeRej := true } else setBudget us s)

def execHpWakeWrite (v : Word) (s : State) : Host.Outcome State Fault Refusal := .next (if portUp s then wakeWrite v s else s)

/-- A write of v to the W1C bits of HP_STAT; d names those that the module sets during the access (R6, R7, Table 2-12). -/
def statClear (v d : Word) (s : State) : State :=
  ack (s.onHp fun h => { h with
    rstSeen := w1c h.rstSeen v d 19, wakeRej := w1c h.wakeRej v d 9, busErr := w1c h.busErr v d 8
    rqUe := w1c h.rqUe v d 7, rqUnder := w1c h.rqUnder v d 6, cqFlush := w1c h.cqFlush v d 5 })

def execHpStatClear (v setDuring : Word) (s : State) : Host.Outcome State Fault Refusal := .next (if portUp s then statClear v setDuring s else s)

/-- A write of v to HP_IRQn (R7, R64, R65): EV0 pends again at once while reply words remain. -/
def irqClear (n : Fin 4) (v d : Word) (s : State) : State :=
  ack (s.onEv fun e => { e with src := vmapI e.src fun i x =>
    if i.val / 32 = n.val then
      { x with pend := w1c x.pend v d (i.val % 32) || (i.val == 0 && !s.host.rspq.isEmpty) }
    else x })

def execHpIrqClear (n : Fin 4) (v setDuring : Word) (s : State) : Host.Outcome State Fault Refusal :=
  .next (if portUp s then irqClear n v setDuring s else s)

/-- A write to HP_IMSKn (R64, R404). -/
def imskWrite (n : Fin 4) (v : Word) (s : State) : State :=
  ack (s.onEv fun e => { e with src := vmapI e.src fun i x =>
    if i.val / 32 = n.val then { x with mask := bit v (i.val % 32) } else x })

def execHpImskWrite (n : Fin 4) (v : Word) (s : State) : Host.Outcome State Fault Refusal := .next (if portUp s then imskWrite n v s else s)

/-- Widths of the staging registers SUBSEC to YEAR (Table 2-18). -/
def stgWidth : List Nat := [15, 6, 6, 5, 5, 4, 16]

/-- A write to the register of a word address of Table 2-10 (R1, R6, R32, R105): each register takes it as its own row does; the staging registers and the backup memory hold what is written; an unassigned or read-only address takes nothing. -/
def regWrite (a : Nat) (v : Word) (s : State) : State :=
  if a = 1 then statClear v 0 s
  else if a = 2 then cmdqWrite v .ok s
  else if a = 7 then wakeWrite v s
  else if a = 23 then rtcCtlWrite v 0 s
  else match regIdx 4 8 a, regIdx 4 12 a, regIdx 7 24 a, regIdx 16 32 a with
    | some n, _, _, _ => irqClear n v 0 s
    | none, some n, _, _ => imskWrite n v s
    | none, none, some i, _ => ack (s.onTime fun t => { t with stg := t.stg.set i (v.toNat % 2 ^ stgWidth.getD i.val 0) })
    | none, none, none, some i => ack (s.onTime fun t => { t with emb := t.emb.set i v })
    | none, none, none, none => ack s

/-- REGISTER_WRITE: a write to any address of the window. -/
def execRegisterWrite (a : BitVec 8) (v : Word) (s : State) : Host.Outcome State Fault Refusal := .next (if portUp s then regWrite a.toNat v s else s)

/-! Command intake (R36 to R49). -/

/-- The counters of HP_ECC for words leaving the host's command queue (2.4). -/
def countEcc (p : Port) (qs : List QWord) (s : State) : State :=
  if p = .host then
    s.onHp fun h => { h with ecc := { h.ecc with
      cqCe := satN 0xFF (h.ecc.cqCe + (qs.filter fun q => q.ecc == .corrected).length)
      cqUe := satN 0xFF (h.ecc.cqUe + (qs.filter fun q => q.ecc == .uncorrectable).length) } }
  else s

/-- An uncorrectable error in a header word flushes the queue (R41). -/
def flushQueue (p : Port) (s : State) : State :=
  let n := (s.port p).cmdq.length
  let s := s.onPort p fun q => { q with cmdq := [], wrLeft := 0, wrHave := 0 }
  let s := if p = .host then raise 2 2 (s.onHp fun h => { h with cqFlush := true }) else s
  cmdqSpace (unsol p 0x0A0 [ofN n] s)

/-- R75: with no valid image only these opcodes are accepted; the bulk commands for the kind checks its object. -/
def allowedNoImage (op : Op) : Bool :=
  op == .sysGetId || op == .sysReset || op == .bulkOpen || op == .bulkWrite || op == .bulkRead || op == .bulkClose

/-- Is it a bulk command, which orders its own mode check (R434)? -/
def isBulk (op : Op) : Bool := op == .bulkOpen || op == .bulkWrite || op == .bulkRead || op == .bulkClose

/-- No image runs (R75). -/
def noImage (s : State) : Bool := s.hp.ready && s.sys.running.isNone

/-- The mode check of a header (R414, R75); the bulk commands make theirs later. -/
def modeOk (op : Op) (s : State) : Bool :=
  if noImage s && !allowedNoImage op then false
  else isBulk op || tb (opInfo op).modes (modeCode s.sys.mode)

/-- The header checks of Table 2-7 in order, down to MODE_REJECT (R45): the status and detail of the first that fails. -/
def headCheck (p : Port) (hd : Word) (ws : List Word) (s : State) : Option (Nat × Nat) :=
  let tag := fld hd 15 8
  let form := fld hd 19 16
  if tag = 0 then some (0xF010, 0)
  else match opOfCode (fld hd 31 20) with
    | none => some (0xF011, 0)
    | some op =>
      if 1 < form then some (0xF012, form)
      else if (findTag (s.port p) tag).isSome then some (0xF013, 0)
      else match badLength op (form == 1) (fld hd 7 0) ws with
        | some n => some (0xF014, n)
        | none => if modeOk op s then none else some (0xF015, modeCode s.sys.mode)

/-- R333: in STANDBY of a pair the commands of Table 18-19 belong to the owner; a bulk object is checked by its own row. -/
def standbyRefuses (op : Op) (s : State) : Bool := s.duplex && s.sys.mode == .standby && recordedOps.contains op

/-- Reply-store words to reserve for a header (R36). -/
def reservation (hd : Word) : Nat :=
  match opOfCode (fld hd 31 20) with
  | some op => (if (opInfo op).long then 2 else 0) + 2 + (opInfo op).extra
  | none => 2

/-- The packet becomes an outstanding command (R49). -/
def accept (p : Port) (op : Op) (c : Cmd) (s : State) : State :=
  s.onPort p fun q => { q with outstanding := q.outstanding ++ [{ tag := c.tag, op := op, resv := (if (opInfo op).long then 2 else 0) + 2 + (opInfo op).extra }] }

/-- Indices of the payload words with an uncorrectable error (R40). -/
def badWords (pay : List QWord) : List Nat :=
  (List.range pay.length).filter fun i => (pay[i]?).any fun q => q.ecc == .uncorrectable

/-- The open handle of a number 1 to 4. -/
def handleOf (s : State) (h : Nat) : Option Handle := if h = 0 then none else (s.bulk.toList.getD (h - 1) none)

/-- Changes the open handle of a number. -/
def onHandle (h : Nat) (f : Option Handle → Option Handle) (s : State) : State :=
  match fin? 4 (h - 1) with
  | some i => if h = 0 then s else s.onBulk fun b => upd b i f
  | none => s

/-- The handle number that a bulk command names; BULK_OPEN names none. -/
def namedHandle (op : Op) (ws : List Word) : Nat :=
  if op = .bulkClose then fld (wd ws 0) 7 0 else if op = .bulkWrite || op = .bulkRead then fld (wd ws 0) 31 24 else 0

/-- A bulk command that names a handle restarts its 10 s. -/
def restartHandle (h : Nat) (s : State) : State := onHandle h (fun x => x.map fun h => { h with last := s.time.mt }) s

/-- Every bulk command that names an open handle restarts its 10 s, whether accepted or refused (R59); one whose word 0 did not arrive or failed its check names none. -/
def touchNamed (op : Option Op) (pay : List QWord) (s : State) : State :=
  match op, pay with
  | some op, q :: _ => if q.ecc = .uncorrectable then s else restartHandle (namedHandle op [q.w]) s
  | _, _ => s

/-- The same at the interpretation of an accepted one. -/
def touchHandle (op : Op) (p : Port) (s : State) : State :=
  match (s.port p).accepted with
  | some c => if c.op = op ∧ ¬c.ecc.contains 0 then restartHandle (namedHandle c.op c.words) s else s
  | none => s

/-- What becomes of a whole packet, or of one cut under R43. -/
def judge (p : Port) (hd : QWord) (pay : List QWord) (s : State) : State :=
  let ws := pay.map fun q => q.w
  let tag := fld hd.w 15 8
  let code := fld hd.w 31 20
  let s := touchNamed (opOfCode code) pay s
  match headCheck p hd.w ws s, opOfCode code with
  | some (st, d), _ => headReject p code tag st d s
  | none, none => s
  | none, some op =>
    let c : Cmd := { op := op, expert := fld hd.w 19 16 == 1, tag := tag, words := ws, ecc := badWords pay }
    let s := accept p op c s
    if standbyRefuses op s then
      reject p c 0xA015 0 (if (opInfo op).long then pending p c 0 s else s)
    else match hd.cut with
      | some n => reject p c 0xF018 n s
      | none => s.onPort p fun q => { q with accepted := some c }

/-- COMMAND_INTAKE (R36, R39, R40, R41, R45, R50): the packet at the head of the queue, once it is whole, its reservation fits, and the firmware runs. -/
def intake (p : Port) (s : State) : State :=
  if !s.hp.ready || s.sys.dom[0] != .on || (s.port p).accepted.isSome then s
  else match (s.port p).cmdq with
    | [] => s
    | hd :: rest =>
      if hd.ecc = .uncorrectable then flushQueue p (countEcc p [hd] s)
      else
        let n := hd.cut.getD (fld hd.w 7 0)
        if rest.length < n then s
        else if storeRoom (s.port p) < reservation hd.w then s
        else
          let s := countEcc p (hd :: rest.take n) s
          let s := s.onPort p fun q => { q with cmdq := rest.drop n }
          judge p hd (rest.take n) (if p = .host then cmdqSpace s else s)

def execCommandIntake (p : Port) (s : State) : Host.Outcome State Fault Refusal := .next (intake p s)

/-- Cuts the packet being written: its header is marked with the payload words received, and the next word written is a header (R43). DESIGN CHOICE, log entry 63: where earlier packets wait, or intake is paused, its words stay in the queue, counted in HP_CQ_LVL, until its turn. -/
def cutPacket (q : PortState) : PortState :=
  let pos := q.cmdq.length - 1 - q.wrHave
  { q with wrLeft := 0, wrHave := 0
           cmdq := q.cmdq.take pos ++ ((q.cmdq.drop pos).take 1).map (fun h => { h with cut := some q.wrHave }) ++ q.cmdq.drop (pos + 1) }

/-- PACKET_TIMEOUT (R43): 100 ms after the last word taken; the time does not run while a write is withheld. -/
def execPacketTimeout (p : Port) (s : State) : Host.Outcome State Fault Refusal :=
  .next (
    if (s.port p).wrLeft = 0 || (s.port p).held.isSome then s
    else
      let s := advanceTo ((s.port p).lastWord + 100 * msTicks) s
      intake p (s.onPort p cutPacket))

/-- Moves the packet at the head of the reply store into the host's reply queue when it fits whole (R36, R49, R51, R65). -/
def transferHost (s : State) : State :=
  match s.host.store with
  | [] => s
  | k :: rest =>
    if s.host.rspq.length + k.words.length ≤ queueWords then
      let wasEmpty := s.host.rspq.isEmpty
      let tag := fld (k.words.headD 0) 15 8
      let s := s.onHost fun q => { q with
        store := rest, rspq := q.rspq ++ k.words
        outstanding := if k.frees then q.outstanding.filter fun o => o.tag != tag else q.outstanding }
      if wasEmpty then raise 0 0 s else s
    else s

/-- UNSOL_LOST (R408): EV15 once its notice fits. -/
def execUnsolLost (p : Port) (s : State) : Host.Outcome State Fault Refusal :=
  .next (
    let q := s.port p
    if q.lost = 0 || storeRoom q < 5 then s
    else raise 15 (portNum p * 256 + satN 255 q.lost) (s.onPort p fun q => { q with lost := 0 }))

/-- BULK_HANDLE_TIMEOUT (R59): 10 s without a bulk command. -/
def execBulkHandleTimeout (h : Fin 4) (s : State) : Host.Outcome State Fault Refusal :=
  .next (match s.bulk[h] with
    | some x => (advanceTo (x.last + 10 * secTicks) s).onBulk fun b => b.set h none
    | none => s)

end Sys2Proof.Machine
end

