-- ==== Sys2Proof/Machine/Maint.lean ====
section
/-! DEFINITION. The maintenance port on CAN5 and the transfer of replies to both ports (14.6, 2.3). -/

namespace Sys2Proof.Machine

/-- Free words of the maintenance command queue. -/
def maintFree (s : State) : Nat := queueWords - s.maint.cmdq.length

/-- Data length of an FD frame for n bytes: the smallest valid one (14.6). -/
def fdLen (n : Nat) : Nat := (([4, 5, 6, 7, 8, 12, 16, 20, 24, 32, 48, 64] : List Nat).find? fun m => n ≤ m).getD 64

/-- A frame to the tool: FIRST, SEQ, FREE, WORDS and the words, padded with zeros; queued on CAN5 as a module function. -/
def maintSend (first : Bool) (ws : List Word) (s : State) : State :=
  let n := 4 + 4 * ws.length
  let bs := [BitVec.ofNat 8 (b2n first * 128 + s.mnt.txSeq % 128)] ++ leBytes 2 (maintFree s) ++ [BitVec.ofNat 8 ws.length] ++ wBytes ws
  let id := maintTxId s
  let f : CanFrame := { ide := id.1, id := id.2, fdf := true, brs := canDataRate s 5 != 0, data := (bs ++ List.replicate 64 0).take (fdLen n) }
  (queueFn 5 .maint f s).onMnt fun m => { m with txSeq := (m.txSeq + 1) % 128, lastFree := maintFree s }

/-- The packet at the head of the maintenance reply store enters the words on their way when none is under way; its tag frees (R36, R49). -/
def maintLoad (s : State) : State :=
  match s.maint.store with
  | [] => s
  | k :: rest =>
    if s.maint.rspq.isEmpty then
      let tag := fld (k.words.headD 0) 15 8
      (s.onMaint fun q => { q with
        store := rest, rspq := k.words
        outstanding := if k.frees then q.outstanding.filter fun o => o.tag != tag else q.outstanding }).onMnt fun m => { m with txLeft := 0 }
    else s

/-- Sends the next words of the packet under way: at most 15 per frame, FIRST with the header (14.6). A frame still queued is sent first. -/
def maintNext (s : State) : State :=
  if s.maint.rspq.isEmpty || fnQueued 5 .maint (maintTxId s) s then s
  else
    let ws := s.maint.rspq.take 15
    let first := s.mnt.txLeft == 0
    let s := maintSend first ws s
    let s := (s.onMaint fun q => { q with rspq := q.rspq.drop 15 }).onMnt fun m => { m with txLeft := m.txLeft + ws.length }
    if s.maint.rspq.isEmpty then s.onSys fun y => { y with lastActive := s.time.mt } else s

/-- REPLY_TRANSFER (R36, R49, R65, 14.6): the packet at the head of a port's reply store moves whole; for the maintenance port its frames follow one by one. -/
def execReplyTransfer (p : Port) (s : State) : Host.Outcome State Fault Refusal :=
  .next (match p with
    | .host => transferHost s
    | .maint => if maintOn s then maintNext (maintLoad s) else maintLoad s)

/-- The unfinished command packet ends and is rejected with PACKET_TIMEOUT (R366). -/
def maintCut (s : State) : State :=
  if s.maint.wrLeft = 0 then s else intake .maint (s.onMaint cutPacket)

/-- The words of a frame enter the maintenance command queue, up to the end of their packet (R366). -/
def maintTake : List QWord → State → State
  | [], s => s
  | q :: qs, s =>
    let header := s.maint.wrLeft == 0
    let n := fld q.w 7 0
    let s := s.onMaint fun m => { m with
      cmdq := m.cmdq ++ [q], lastWord := s.time.mt
      wrLeft := if header then n else m.wrLeft - 1
      wrHave := if header then 0 else m.wrHave + 1 }
    let s := if header then wakeTrigger 1 s else s
    if s.maint.wrLeft = 0 then s else maintTake qs s

/-- MAINT_FRAME_RECEIVE (R366): SEQ, FIRST and room are checked; the words enter the queue. -/
def execMaintFrameReceive (m : MaintFrame) (s : State) : Host.Outcome State Fault Refusal :=
  .next (
    if !s.hp.maintEn || !canActive s 5 then s
    else
      let broken := match s.mnt.rxSeq with | some e => e != m.seq % 128 | none => false
      let s := s.onMnt fun x => { x with rxSeq := some ((m.seq + 1) % 128) }
      let s := if broken || m.first then maintCut s else s
      let s := s.onMnt fun x => { x with skip := (x.skip || broken) && !m.first }
      if s.mnt.skip || (!m.first && s.maint.wrLeft == 0) || m.words.isEmpty then s
      else if maintFree s < m.words.length then (maintCut s).onMnt fun x => { x with skip := true }
      else maintTake m.words s)

/-- MAINT_FREE_REPORT (R367): a frame without words when FREE has risen by 256 or more, at most once per millisecond. -/
def execMaintFreeReport (s : State) : Host.Outcome State Fault Refusal :=
  .next (
    if s.hp.maintEn && s.mnt.lastFree + 256 ≤ maintFree s && !fnQueued 5 .maint (maintTxId s) s then
      let s := match s.mnt.freeAt with | some t => advanceTo (t + msTicks) s | none => s
      (maintSend false [] s).onMnt fun x => { x with freeAt := some s.time.mt }
    else s)

/-- BUS_MAINT_CONFIG (14.6): from the host port only; CAN5 must be normal with an FD data rate. -/
def execBusMaintConfig (p : Port) (s : State) : Host.Outcome State Fault Refusal :=
  .next (
    let w5 := wd (cfgGet s.cfg.work .busCanConfig 5) 0
    let s' := configRow .busMaintConfig p (fun _ _ _ =>
        if p = .maint then some (0x8018, 0)
        else if fld w5 9 8 != 1 || fld w5 19 16 = 0 then some (0xF016, 0)
        else none) s
    s'.onHp fun h => { h with maintEn := maintOn s' })

end Sys2Proof.Machine
end

