-- ==== Sys2Proof/Machine/Power.lean ====
section
/-! DEFINITION. Supplies, resets, start-up, start role, power domains, links and boundary scan (chapters 03, 19; R13, R18, R395 to R397). -/

namespace Sys2Proof.Machine

/-! Resets (3.4). -/

/-- What a warm reset leaves of module time: the counters, the calendar, GNSS time and the pulse (R80, R108); no command stands behind a capture any more (R38). -/
def keptTime (t : TimeState) : TimeState :=
  { t with frozen := none, ppsWait := [], load := t.load.map fun l => { l with cmd := none } }

/-- The Kiln runs on (R303); the request mask returns to 0, and what it would say to a die in reset is lost (R315, R321, R322). -/
def keptKiln (k : KilnState) : KilnState :=
  { k with cdSet := 0, evq := [], resetReq := false, write := k.write.map fun w => { w with cmd := none } }

/-- The recorder's retained part (R80, R400): queue, ring, suppressed counts and the PD1 buffer; buckets start full and the counters at 0. -/
def keptLog (l : LogState) : LogState := { l with bucket := [], nLost := 0, nSupp := 0, nTorn := 0 }

/-- Kindling, images and pins across a warm reset. -/
def keptSys (y : SysState) : SysState :=
  { vmain := y.vmain, pfail := y.pfail, rstLow := y.rstLow, pref := y.pref, images := y.images, earlyWd := y.earlyWd
    choice := y.choice, fbPending := y.fbPending, nf0Ok := y.nf0Ok, nf1Ok := y.nf1Ok, frame := y.frame, tcxoFailed := y.tcxoFailed
    coldBeforeStep7 := y.coldBeforeStep7, warmBeforeStep7 := y.warmBeforeStep7, furtherCauses := y.furtherCauses, resetMt := y.resetMt }

/-- Every die but Ember and the Kiln is reset (R80, R38, R405). PD1 keeps the navigation store (R83) and the flash its content. DESIGN CHOICE, log entry 65: a write to HP_CMDQ whose ACK_N is withheld goes with the queue and is never acknowledged. -/
def resetDies (s : State) : State :=
  { time := keptTime s.time, kiln := keptKiln s.kiln, log := keptLog s.log, sys := keptSys s.sys
    gnss := { nav := s.gnss.nav, pages := s.gnss.pages, pos := s.gnss.pos, week10 := s.gnss.week10 }
    dpx := { ownIn := s.dpx.ownIn, giveupIn := s.dpx.giveupIn, ownInAt := s.dpx.ownInAt }
    cfg := { bank := s.cfg.bank }
    tap := s.tap, free := s.free, pending := s.pending }

/-- The other firmware image. -/
def otherImage (i : Fin 2) : Fin 2 := if i = 0 then 1 else 0

/-- The count of early watchdog resets and the choice of the other image than the one started (R74). -/
def countEarly (cause : RstCause) (s : State) : State :=
  match cause, s.sys.running with
  | .watchdog, some i =>
    if s.hp.ready && decide (s.time.mt < s.sys.readyMt + 10 * secTicks) then
      let n := s.sys.earlyWd + 1
      if n = 2 && s.sys.choice.isNone then s.onSys fun y => { y with earlyWd := n, choice := some (otherImage i), fbPending := true }
      else s.onSys fun y => { y with earlyWd := n }
    else s.onSys fun y => { y with earlyWd := 0 }
  | _, _ => s.onSys fun y => { y with earlyWd := 0 }

/-- The resets that a start not yet past its step 7 is part of (R80, R81). -/
def withinReset (s : State) : Bool := s.sys.warmPending || s.sys.coldBeforeStep7 || s.sys.warmBeforeStep7

/-- A warm reset starts (R38, R80, R81). A further cause within one reset resets the dies again but is only noted; one within a main power-on leaves it a main power-on. -/
def beginReset (cause : RstCause) (s : State) : State :=
  let now := s.time.mt
  let at_ := nextBoundary now
  if !s.sys.vmain then s
  else if withinReset s then
    let first := s.hp.rstCause
    ((resetDies (countEarly cause s)).onHp fun h => { h with rstCause := first }).onSys fun y =>
      { y with furtherCauses := y.furtherCauses ||| 2 ^ causeCode cause, warmPending := true, step4At := at_ }
  else
    let old := s.sys.mode
    let s := if old = .kindling then s
      else record 0x0105 0x82 1 ([BitVec.ofNat 8 (modeCode old), BitVec.ofNat 8 (modeCode .kindling), BitVec.ofNat 8 (causeCode cause), 5] ++
        leBytes 4 (frameOf now) ++ [0, 0]) s
    let s := resetDies (countEarly cause s)
    (s.onHp fun h => { h with rstCause := cause }).onSys fun y =>
      { y with warmPending := true, warmBeforeStep7 := true, step4At := at_, resetMt := now, furtherCauses := 0 }

/-- SYS_RESET's part of Table 3-6; no reply follows (R38). -/
def execSysReset (p : Port) (s : State) : Host.Outcome State Fault Refusal :=
  .next (runOp .sysReset p (fun _ s => beginReset .sysReset s) s)

/-- RST_N_ASSERT (Table 3-6): below 200 ns nothing, from 200 ns a pulse that may reset, from 1 us held low. -/
def execRstNAssert (widthNs : Nat) (s : State) : Host.Outcome State Fault Refusal :=
  .next (
    if widthNs < 200 || s.sys.rstLow then s
    else if widthNs < 1000 then
      let hit := Config.shortRst widthNs s.free
      let s := drawn s
      if hit then beginReset .rstN s else s
    else beginReset .rstN (s.onSys fun y => { y with rstLow := true }))

/-- RST_N_RELEASE (R81, R450): step 4 begins at the first boundary after the rise. -/
def execRstNRelease (s : State) : Host.Outcome State Fault Refusal :=
  .next (
    if s.sys.rstLow then
      (s.onSys fun y => { y with rstLow := false, step4At := nextBoundary s.time.mt }).onTap fun t => { t with extest := false }
    else s)

/-- WATCHDOG_EXPIRY (R335): in CONTROL with a ready partner the supervisor gives up first. -/
def execWatchdogExpiry (s : State) : Host.Outcome State Fault Refusal :=
  .next (
    if !s.hp.ready || s.sys.wdDelay.isSome then s
    else if s.sys.mode == .control && partnerWasReady s then
      let now := s.time.mt
      (s.onDpx fun d => { d with givingUp := true, giveupCode := 7, giveupAt := now }).onSys fun y =>
        { y with giveupOut := true, outputsHeld := true, wdDelay := some (now + giveTicks) }
    else beginReset .watchdog s)

/-- WATCHDOG_RESET_DELAY_END (R335): OWN_IN has risen, or 20 ms have passed. -/
def execWatchdogResetDelayEnd (s : State) : Host.Outcome State Fault Refusal :=
  .next (match s.sys.wdDelay with
    | some t => beginReset .watchdog (if s.dpx.ownIn then s else advanceTo t s)
    | none => s)

/-- FW_RUN_CONFIRM (R74): the image has run for 10 s after READY. -/
def execFwRunConfirm (s : State) : Host.Outcome State Fault Refusal :=
  .next (if s.hp.ready && s.sys.running.isSome then
      (advanceTo (s.sys.readyMt + 10 * secTicks) s).onSys fun y => { y with earlyWd := 0 }
    else s)

/-- CD_INCONSISTENT (R315): 2 ms of disagreement; the requests fall, EV105 with the channels affected, and a reset of cause 3. -/
def execCdInconsistent (s : State) : Host.Outcome State Fault Refusal :=
  .next (match s.kiln.cdBadSince with
    | none => s
    | some t =>
      if s.kiln.cdBad || s.kiln.st == .off then s
      else
        let s := advanceNow (t + 2 * msTicks) s
        let mask := maskOf (Vector.ofFn fun n : Fin 8 => kCdGate s.kiln n && kEnable s.kiln n)
        let s := raise 105 mask s
        beginReset .kiln (kilnStep (fun now k => evalKiln now { k with cdBad := true, resetReq := true }) s))

/-! Supplies (R92, R394, R440). -/

/-- What Ember keeps when VMAIN goes (R80, R92). DESIGN CHOICE, log entry 67: a capture that has not loaded is kept, loads without VMAIN, and its anchor record is queued in the recorder, where the power-on finds it. -/
def emberTime (t : TimeState) : TimeState :=
  { mtRun := false, now := t.now, rtc := t.rtc, phase := t.phase, opTicks := t.opTicks, pwrCyc := t.pwrCyc, emberLost := t.emberLost
    stg := t.stg, load := t.load.map fun l => { l with cmd := none }, alarm := t.alarm, emb := t.emb }

/-- The slot being programmed when the supply fails (R456, 16.1): only where a program was due. -/
def cutSlot (fate : SlotFate) (s : State) : LogState :=
  if flushDue s && logFlashOk s && !s.log.discard then
    match fate, s.log.queue with
    | .complete, r :: _ => programSlot (.full r) s.log
    | .torn, _ => programSlot .torn s.log
    | _, _ => s.log
  else s.log

/-- VMAIN is below 9.8 V: everything but the Kiln, Ember and the flash, with its slot being programmed, loses its state. -/
def supplyLost (fate : SlotFate) (s : State) : State :=
  let l := eraseAbandoned (cutSlot fate s)
  { time := emberTime s.time, kiln := keptKiln s.kiln
    log := { ring := l.ring, head := l.head, ringMode := l.ringMode, lastOp := l.lastOp, again := l.again }
    sys := { vmain := false, rstLow := s.sys.rstLow, images := s.sys.images }
    dpx := { ownIn := s.dpx.ownIn, giveupIn := s.dpx.giveupIn, ownInAt := s.dpx.ownInAt }
    cfg := { bank := s.cfg.bank }
    tap := s.tap, free := s.free, pending := s.pending }

/-- VMAIN_LOSS. -/
def execVmainLoss (fate : SlotFate) (s : State) : Host.Outcome State Fault Refusal :=
  .next (if s.sys.vmain then supplyLost fate s else s)

/-- EMBER_CONTENT_LOSS (R92): VMAIN and VBAT are both gone. -/
def execEmberContentLoss (s : State) : Host.Outcome State Fault Refusal :=
  .next (if s.sys.vmain then s else s.onTime fun t => { t with emberLost := true, load := none })

/-! Start-up (Table 3-4). Each step ends at its maximum time. -/

/-- Records made before step 7 wait for it (R397, R405): f runs with an empty queue, and its records come back. -/
def deferRecords (f : State → State) (s : State) : State × List Rec :=
  let log := s.log
  let t := f (s.onLog fun l => { l with queue := [], dropped := none })
  let rs := t.log.queue
  (t.onLog fun _ => log, rs)

/-- Step 4: the domains leave reset; the inertial die settles in 350 ms. -/
def startStep4 (s : State) : State :=
  let m := s.time.mt
  (s.onSys fun y => { y with dom := Vector.replicate 12 .on, exiting := Vector.replicate 12 false, warmPending := false }).onFir fun f =>
    { f with imuReady := m + 35000000 }

/-- The image that starts (R74): the valid one of the higher generation, A when equal; the other when it fails; the chosen one after two early resets. -/
def pickImage (k : StartIn) (s : State) : Option (Fin 2) :=
  let a := s.sys.images[(0 : Fin 2)]
  let b := s.sys.images[(1 : Fin 2)]
  let okA := s.sys.nf0Ok && a.valid && k.imageOk[(0 : Fin 2)]
  let okB := s.sys.nf0Ok && b.valid && k.imageOk[(1 : Fin 2)]
  let firstB := b.valid && (!a.valid || decide (a.gen < b.gen))
  let wantB := match s.sys.choice with | some i => i == 1 | none => firstB
  if wantB then (if okB then some 1 else if okA then some 0 else none)
  else if okA then some 0 else if okB then some 1 else none

/-- Step 5: image and factory block (R74, R75, R373); READY. -/
def startStep5 (k : StartIn) (s : State) : State :=
  let im := pickImage k s
  let m := s.time.mt
  (s.onHp fun h => { h with ready := true }).onSys fun y => { y with running := im, readyMt := m, factoryBad := !k.factoryOk }

/-- Step 6: BIST (R77, R207) and the stimulus self-test of the inertial readout (R137). -/
def startStep6 (k : StartIn) (s : State) : State :=
  let s := (fins 4).foldl (fun s r => if k.bistOk[r] then s else markFailed r 4 2 s) s
  if k.imuTest then s else imuFail 1 s

/-- The newest readable record, and the torn slots after it (R395). -/
def newestRec (ring : List (Nat × Slot)) : Option Rec × Nat :=
  ring.foldl (fun a e => match e.2 with | .full r => (some r, 0) | .torn => (a.1, a.2 + 1)) (none, 0)

/-- Counters and sequence against the ring at a main power-on (R396): the state, and the COUNTER_RESTORED payload when one is written. -/
def reconcile (newest : Option Rec) (s : State) : State × Option (List Byte) :=
  match newest with
  | none => (s.onLog fun l => { l with seq := 0 }, none)
  | some r =>
    let op := s.time.opTicks
    let pwr := s.time.pwrCyc
    let opR := (r.opSec + 1) * 32768
    let pwrR := r.pwrCyc + 1
    let s := (s.onTime fun t => { t with opTicks := max op opR, pwrCyc := max pwr pwrR }).onLog fun l => { l with seq := (r.seq + 1) % 2 ^ 32 }
    let bits := b2n (decide (op < opR)) + 2 * b2n (decide (pwr < pwrR))
    (s, if bits = 0 then none else some (leBytes 4 (op / 32768) ++ leBytes 4 pwr ++ ([BitVec.ofNat 8 bits, 0] : List Byte)))

/-- The generation that a bank's header carries, 0 when it carries none. -/
def headerGen (b : Bank) : Nat := if b.begun || b.valid then b.gen + 1 else 0

/-- The bank that a start uses (R76). -/
def startBank (s : State) : Option (Fin 2) :=
  let a := s.cfg.bank[(0 : Fin 2)]
  let b := s.cfg.bank[(1 : Fin 2)]
  if !s.sys.nf0Ok then none
  else if bankValid a && (!bankValid b || decide (b.gen ≤ a.gen)) then some 0
  else if bankValid b then some 1 else none

/-- The defect of a bank: 2 interrupted commit, 3 corrupt, 4 format refused, 0 none (R386). -/
def bankDefect (b : Bank) : Nat :=
  if b.begun && !b.valid then 2 else if b.valid && !b.crcOk then 3 else if b.valid && Config.cfgFormat.toNat < b.format then 4 else 0

/-- CFG_START's detail, none when the start uses the higher-generation bank (R386). -/
def cfgStartDetail (s : State) : Option Nat :=
  let hi : Fin 2 := if headerGen s.cfg.bank[(0 : Fin 2)] < headerGen s.cfg.bank[(1 : Fin 2)] then 1 else 0
  if startBank s = some hi then none
  else
    let d := bankDefect s.cfg.bank[hi]
    some (if d = 0 then 1 else d)

/-- The bank records of Kindling (R82, R381). -/
def bankRecords (s : State) : State :=
  (fins 2).foldl (fun s i =>
    let b := s.cfg.bank[i]
    let pay := leBytes 1 i.val ++ leBytes 4 b.gen
    match bankDefect b with
    | 2 => (record 0x0108 0x82 2 pay s).onCfg fun c => { c with bank := upd c.bank i fun b => { b with begun := false } }
    | 3 => record 0x0109 0x82 3 pay s
    | 4 => record 0x010A 0x82 2 (leBytes 1 i.val ++ leBytes 1 b.format ++ leBytes 1 Config.cfgFormat.toNat) s
    | _ => s) s

/-- Datum and rotation point of the configuration in force (R219, R221). -/
def positionLoaded (s : State) : State :=
  s.onDpc fun d =>
    let d := match cfgFind s.cfg.force .dpcSetDatum 0 with
      | some ws => { d with datum := datumOf ws, datumSrc := 2 }
      | none => d
    { d with rp := #v[(wd (s.inForce .dpcSetRotationPoint) 0).toInt, (wd (s.inForce .dpcSetRotationPoint) 1).toInt] }

/-- The maintenance bus and the summary interval of the configuration in force. -/
def reportsLoaded (s : State) : State :=
  (s.onHp fun h => { h with maintEn := maintOn s }).onLog fun l =>
    { l with interval := (s.time.opTicks / 32768 / max 1 (summaryS s) + 1) * max 1 (summaryS s) }

/-- What depends on a whole new configuration: DP structures, engines, datum and rotation point, maintenance port (R194, R219, R221, 14.6). -/
def configLoaded (s : State) : State := reportsLoaded (positionLoaded (refreshEngines (redefineDp dpIds s)))

/-- The configuration of the selected bank takes effect (step 7). -/
def loadBank (s : State) : State :=
  let b := startBank s
  let l := match b with | some i => (s.cfg.bank[i]).image | none => []
  configLoaded (s.onCfg fun c => { c with work := l, force := l, pend := [], inUse := b, cp := cpOf l, cpPending := false, cpStored := false })

/-- The PD1 buffer of R393: its records are created in arrival order, then BUFFER_OVERFLOW for those beyond 64. -/
def heldRecords (s : State) : State :=
  let rs := s.log.held
  let n := s.log.heldLost
  let before := s
  let s := rs.foldl (fun s r => (limitRec r s).1) (s.onLog fun l => { l with held := [], heldLost := 0 })
  overflow before (if n = 0 then s else (newRec 0x010D 0x83 3 false (leBytes 4 0xFFFFFFFF ++ leBytes 4 n) s).1)

/-- The records of the start itself (Tables 16-2, 16-3): an unclean end, counters set back, a reset, the time anchor, alarms, an image that fell back. -/
def startRecords (cold : Bool) (lost : Option Rec) (torn : Nat) (restored : Option (List Byte)) (s : State) : State :=
  let s := match lost with
    | some r => record 0x0100 0x83 3 (leBytes 4 r.seq ++ leBytes 4 r.pwrCyc ++ leBytes 1 (satN 255 torn) ++ leBytes 1 (b2n s.log.ringMode)) s
    | none => s
  let s := match restored with | some pay => record 0x010F 0x83 2 pay s | none => s
  let s := if !cold || s.sys.furtherCauses != 0 then
      record 0x0106 0x82 2 (leBytes 1 (causeCode s.hp.rstCause) ++ leBytes 1 s.sys.furtherCauses ++ leBytes 8 s.sys.resetMt) s
    else s
  let s := anchor true 0x82 s.time.rtc s.time.rtc s
  let s := (fins 2).foldl (fun s i => if (s.time.alarm[i]).whileOff then
      record 0x010C 0x82 1 (leBytes 1 i.val) (s.onTime fun t => { t with alarm := upd t.alarm i fun a => { a with whileOff := false, offDue := true } })
    else s) s
  match s.sys.running with
  | some i => if s.sys.fbPending then record 0x0107 0x82 3 (leBytes 1 i.val ++ leBytes 4 (s.sys.images[i]).gen) s else s
  | none => s

/-- The configuration of the start's bank, and a Kiln commit that the power loss interrupted (R76, R386). -/
def startConfig (s : State) : State :=
  let detail := cfgStartDetail s
  let s := (loadBank (bankRecords s)).onCfg fun c => { c with startDetail := detail }
  if s.kiln.interrupted then
    (record 0x010B 0x82 2 (leBytes 2 (kCopy s.kiln).gen) s).onKiln fun k => { k with interrupted := false }
  else s

/-- Step 7: the recorder's records in the order of R397, and the configuration. Answers the torn slots when LOSS_MARK was written. -/
def startStep7 (early : List Rec) (s : State) : State × Option Nat :=
  let cold := s.sys.coldBeforeStep7
  let s := if cold then s else summaries (flush [] (heldRecords s))
  let (newest, torn) := newestRec s.log.ring
  let s := s.onLog fun l => { eraseAgain l with nTorn := if cold then satN 0xFFFFFFFF (l.nTorn + torn) else l.nTorn }
  let (s, restored) := if cold then reconcile newest s else (s, none)
  let lost := match newest with | some r => if cold && r.code != 0x010E then some r else none | none => none
  let s := startRecords cold lost torn restored s
  let s := early.foldl (fun s r => (newRec r.code r.source r.sev r.fwd r.payload s).1) s
  let s := startConfig s
  (s.onSys fun y => { y with coldBeforeStep7 := false, warmBeforeStep7 := false, furtherCauses := 0 }, lost.map fun _ => torn)

/-- Step 8: the Kiln's state over the status link (R78); a test in progress is awaited. -/
def startStep8 (k : StartIn) (s : State) : State :=
  let s := match k.kilnTest with
    | some pass => kilnStep (startTestEnd pass) s
    | none => s
  let st := s.kiln.st
  s.onSys fun y => { y with kilnStartFail := !(k.kilnRx && (st == .run || st == .config || st == .recovery)) }

/-- The start faults of R77, in step order. -/
def startFaults (k : StartIn) (warm : Bool) (s : State) : List Nat :=
  (if s.sys.factoryBad then [5] else []) ++
  (if healthyCount s < 2 || !k.belvOk || !k.loopOk then [6] else []) ++
  (if s.sys.kilnStartFail || !k.imuOk then [8] else []) ++
  (if warm && s.sys.tcxoFailed then [9] else [])

/-- Step 9: the first boundary after step 8; what the start found is raised, and the mode follows the start role (R77, R104, R455). -/
def startStep9 (k : StartIn) (warm : Bool) (torn : Option Nat) (s : State) : State :=
  let s := s.onSys fun y => { y with frame := frameOf s.time.mt }
  let s := (fins 2).foldl (fun s i => if (s.time.alarm[i]).offDue then
      raise (if i.val = 0 then 16 else 17) 0 (s.onTime fun t => { t with alarm := upd t.alarm i fun a => { a with offDue := false } })
    else s) s
  let s := match s.sys.running with
    | some i => if s.sys.fbPending then raise 127 i.val (s.onSys fun y => { y with fbPending := false }) else s
    | none => s
  let s := if s.sys.factoryBad then raise 126 0 s else s
  let s := match s.cfg.startDetail with | some d => raise 125 d (s.onCfg fun c => { c with startDetail := none }) | none => s
  let s := match torn with | some n => raise 121 (satN 65535 n) s | none => s
  let fs := startFaults k warm s
  let s := fs.foldl (fun s n => raise 4 n s) s
  let s := if fs.contains 9 then selfDiag 10 s else s
  match fs with
  | n :: _ => setMode .dormant 2 n .host (s.onSys fun y => { y with startFault := some n })
  | [] =>
    match startRole s with
    | 0 => setMode .dormant 1 0 .host s
    | 1 => setMode .standby 1 0 .host s
    | _ => s.onSys fun y => { y with listenEnd := some (s.time.mt + secTicks) }

/-- A reset cuts the start (R80): a warm one goes back to step 4; a main power-on is a loss of VMAIN, after which MAIN_POWER_ON goes back to step 1. -/
def cutStart (cause : RstCause) (s : State) : State := if cause = .powerOn then supplyLost .unwritten s else beginReset cause s

/-- Step n of the start, us microseconds after base, unless a reset cuts the start before it (R80). -/
def startCut (k : StartIn) (base n us : Nat) (next : State → State) (s : State) : State :=
  if k.cutAt = n then cutStart k.cutBy s else next (advanceTo (base + us * 100) s)

/-- Steps 8 and 9. -/
def startFrom8 (k : StartIn) (warm : Bool) (torn : Option Nat) (s : State) : State :=
  let s := startStep8 k s
  if k.cutAt = 9 then cutStart k.cutBy s
  else startStep9 k warm torn (advanceTo (nextBoundary s.time.mt) s)

/-- Steps 6 to 9. -/
def startFrom6 (k : StartIn) (warm : Bool) (base : Nat) (s : State) : State :=
  let r := deferRecords (startStep6 k) s
  startCut k base 7 435000 (fun s =>
    let r := startStep7 r.2 s
    startCut k base 8 585000 (startFrom8 k warm r.2) r.1) r.1

/-- Steps 4 to 9, from the present instant. A reset before a step cuts them (R80); with no image the module stays in KINDLING (R75). -/
def startFrom4 (k : StartIn) (warm : Bool) (s : State) : State :=
  let base := s.time.mt
  startCut k base 5 145000 (fun s =>
    let s := startStep5 k s
    if s.sys.running.isNone then s else startCut k base 6 405000 (startFrom6 k warm base) s) (startStep4 s)

/-- Ember at step 1 of a main power-on (R92, R106): its contents if it lost them, and the power-cycle count. -/
def emberStart (t : TimeState) : TimeState :=
  let t := if t.emberLost then
      { t with rtc := 0, opTicks := 0, pwrCyc := 0, alarm := Vector.replicate 2 {}, emb := Vector.replicate 16 0
               stg := #v[0, 0, 0, 0, 1, 1, 2000], emberLost := false }
    else t
  { t with pwrCyc := (t.pwrCyc + 1) % 2 ^ 32 }

/-- MAIN_POWER_ON (R38, Table 3-4): VMAIN rises through 10.2 V. MT starts at 0 after 12 ms and step 4 comes 3 ms later, unless RST_N holds it (R81). -/
def execMainPowerOn (k : StartIn) (s : State) : Host.Outcome State Fault Refusal :=
  .next (
    if s.sys.vmain && !(s.sys.coldBeforeStep7 && !s.hp.ready && !s.sys.warmPending) then s
    else
      let s := s.onSys fun y => { y with vmain := true, pref := k.pref, earlyWd := 0, choice := none, tcxoFailed := false, coldBeforeStep7 := true }
      let s := ((s.onHost fun _ => {}).onMaint fun _ => {}).onBulk fun _ => Vector.replicate 4 none
      let s := s.onTime fun t => { emberStart t with mtRun := false }
      let s := (advance 1200000 s).onTime fun t => { t with mt := 0, mtRun := true }
      if s.sys.rstLow then s.onSys fun y => { y with warmPending := true }
      else startFrom4 k false (advanceTo 300000 s))

/-- WARM_RESET_START (R80, R81): steps 4 to 9 from the frame boundary. -/
def execWarmResetStart (k : StartIn) (s : State) : Host.Outcome State Fault Refusal :=
  .next (if s.sys.vmain && s.sys.warmPending && !s.sys.rstLow then
      startFrom4 k (!s.sys.coldBeforeStep7) (advanceTo s.sys.step4At s)
    else s)

/-- START_ROLE_RESOLUTION (R455, Table 3-5): the first own boundary after a heartbeat with OWN set, else after the window; the partner's latest heartbeat decides. -/
def execStartRoleResolution (s : State) : Host.Outcome State Fault Refusal :=
  .next (match s.sys.listenEnd with
    | none => s
    | some t =>
      let s := advanceTo (nextBoundary (s.sys.listenOwn.getD t)) s
      let m : Mode :=
        if !s.duplex then .control
        else match s.dpx.partner with
          | some h => if h.own then .standby else if h.mode == .kindling && !isModuleA s then .standby else .control
          | none => .control
      setMode m 1 0 .host (s.onSys fun y => { y with listenEnd := none, listenOwn := none }))

/-! Failures (R13, R18, R334, R439). -/

/-- TCXO_FAILURE (R18, R108, R109): MT goes on from the RC oscillator; a pulse in progress ends at its width. -/
def execTcxoFailure (s : State) : Host.Outcome State Fault Refusal :=
  .next (if !s.sys.vmain || s.sys.tcxoFailed then s
    else
      let s := s.onSys fun y => { y with tcxoFailed := true }
      let s := setSource .fault s
      if s.hp.ready then selfDiag 10 s else s)

/-- A repeated link failure is contained at the unit that owns the link (R13). -/
def containLink (u : LinkUnit) (s : State) : State :=
    match u with
      | .region r => loseRegion r 3 1 s
      | .baseband b => bbFail b s
      | .belvedere => belvFail 3 s
      | .inertial => imuFail 4 s
      | .flash nf1 =>
        if nf1 then (if s.sys.nf1Ok then raise 122 0 (s.onSys fun y => { y with nf1Ok := false }) else s)
        else failCommit 1 0 0xB011 2 (s.onSys fun y => { y with nf0Ok := false })
      | .kiln => s.onSys fun y => { y with kilnLink := false }
      | .other => selfDiag 11 s

/-- LINK_TRANSFER_FAILURE (R13): the attempts of one transfer. Corrected errors are counted; an attempt that fails is discarded and repeated once, with no other trace; a second failure is a repeated link failure. -/
def execLinkTransferFailure (u : LinkUnit) (corrected : Nat) (fails : Fin 3) (s : State) : Host.Outcome State Fault Refusal :=
  .next (
    if !s.hp.ready then s
    else
      let s := s.onSys fun y => { y with linkCe := y.linkCe + corrected }
      if fails = 2 then containLink u s else s)

/-- INTERNAL_RAIL_FAULT (R439): code 5. -/
def execInternalRailFault (s : State) : Host.Outcome State Fault Refusal := .next (if s.hp.ready then selfDiag 5 s else s)

/-- STATE_MEMORY_ECC_ERROR (R334): code 3. -/
def execStateMemoryEccError (s : State) : Host.Outcome State Fault Refusal := .next (if s.hp.ready then selfDiag 3 s else s)

/-! Power domains (3.5, 3.6). -/

/-- Detail of EV5 (Table 17-2). -/
def wakeCode : WakeKind → Nat
  | .header => 1 | .alarm => 2 | .can => 3 | .digitalInput => 4 | .partnerLine => 5

/-- WAKE_TRIGGER (R86). -/
def execWakeTrigger (w : WakeKind) (s : State) : Host.Outcome State Fault Refusal :=
  .next (if s.hp.ready then wakeTrigger (wakeCode w) s else s)

/-- PD2 is on again (R393, R403, R215): the held records first, then the notices, then HOST_STRUCT_LOST. -/
def pd2Exit (s : State) : State :=
  let s := heldRecords s
  let ns := s.ev.heldNotices
  let s := ns.foldl (fun s n => match fin? 128 n.1 with | some i => notices i n.2.1 n.2.2 s | none => s) (s.onEv fun e => { e with heldNotices := [] })
  if s.sys.hostStructLost then raise 55 0 (s.onSys fun y => { y with hostStructLost := false }) else s

/-- DOMAIN_EXIT_COMPLETE (R83): the domain serves again, with what it kept (Table 3-7). -/
def execDomainExitComplete (d : Fin 12) (s : State) : Host.Outcome State Fault Refusal :=
  .next (
    if !s.sys.exiting[d] then s
    else
      let s := advanceTo (s.sys.exitAt[d]) s
      let was := s.sys.dom[d]
      let before := s
      let s := s.onSys fun y => { y with dom := y.dom.set d .on, exiting := y.exiting.set d false }
      let cold := was == .off || was == .retention
      match d.val with
      | 0 => pd2Exit s
      | 1 => if cold then firStale (fun _ => true) s else s
      | 2 => canStates before (canPd4On (if cold then firStale (fun i => decide (6 ≤ i.val)) s else s))
      | 7 => belvWake (was == .off) s
      | 8 => if was == .off then gnssWake 0 s else s
      | 9 => if was == .off then gnssWake 1 s else s
      | 10 => if cold then (firStale (fun i => decide (i.val < 6)) s).onFir fun f => { f with imuReady := s.time.mt } else s
      | _ => s)

/-- The state that a domain takes at the return to the budget (R85, R86, R87): a domain that is on, or on its way from a state that the budget allows, takes its budget state; one whose exit a lowered budget started goes on. PD13 stays while the flash is busy. DESIGN CHOICE, log entry 66: an exit that still runs after 1 s of quiet is abandoned. -/
def idleState (s : State) (d : Fin 12) : DomState :=
  let now := s.sys.dom[d]
  if !budgeted s d || (d.val = 11 && flashBusy s) then now
  else if now = .on || (s.sys.exiting[d] && decide (exitUs d now ≤ s.hp.wakeBudget)) then budgetState d s.hp.wakeBudget
  else now

/-- WAKE_IDLE_RETURN (R85, R86, R87, R393): after 1 s of quiet the domains take the states of the budget. -/
def execWakeIdleReturn (s : State) : Host.Outcome State Fault Refusal :=
  .next (
    if !s.hp.ready || !idleNow s then s
    else
      let s := advanceTo (s.sys.lastActive + secTicks) s
      let s := if s.sys.dom[(0 : Fin 12)] == .on && idleState s 0 == .off then dropHostStructs (flush [] s) else s
      let before := s
      let s := s.onSys fun y => { y with
        dom := Vector.ofFn (idleState before)
        exiting := vmapI y.exiting fun d e => e && decide (s.hp.wakeBudget < exitUs d y.dom[d]) }
      let s := if s.sys.dom[(2 : Fin 12)] != .on && before.sys.dom[(2 : Fin 12)] == .on then
          let s := canPd4Sleep s
          if s.sys.dom[(2 : Fin 12)] == .off then canPd4Off s else s
        else s
      canStates before s)

/-! Boundary scan (R450). -/

/-- The IDCODEs of the chain: control, Pergola, Belvedere and GNSS die (Table 19-6). -/
def idCodes : List Word :=
  ([0x7604, 0x7605, 0x7606, 0x7607] : List Nat).map fun part => pk [((Config.issue.toNat + 15 - 64) % 16, 28), (part, 12), (0x2B5, 1), (1, 0)]

/-- BOUNDARY_SCAN_ACCESS. -/
def execBoundaryScanAccess (a : TapIn) (s : State) : Host.Outcome State Fault Refusal :=
  .next (s.onTap fun t =>
    match a with
    | .trst high => if high then { t with trst := true } else {}
    | .bypass => if t.trst then { t with ir := 1, extest := false } else t
    | .sample => if t.trst then { t with ir := 2, extest := false } else t
    | .preload v => if t.trst then { t with ir := 2, extest := false, bsr := v } else t
    | .extest => if t.trst then { t with ir := 3, extest := s.sys.rstLow } else t
    | .idcode => if t.trst then { t with ir := 0, extest := false, out := idCodes } else t)

end Sys2Proof.Machine
end

