-- ==== Sys2Proof/Machine/System.lean ====
section
/-! DEFINITION. SYS_GET_ID, SYS_ABORT, the bulk commands with their objects, and firmware images (2.7, 2.9, 18.2, 18.3, 18.10). -/

namespace Sys2Proof.Machine

/-- SYS_GET_ID (Table 18-4). With no image running, what belongs to the running image has no value in the spec: free (log entry 3). -/
def execSysGetId (p : Port) (s : State) : Host.Outcome State Fault Refusal :=
  .next (runOp .sysGetId p (fun c s =>
    let head := [hpId] ++ w64 Config.serial.toNat
    match s.sys.running with
    | some i => ok p c 0 (head ++ [Config.fwVersion i, pk [(Config.mirrorVer.toNat, 16), (Config.cfgFormat.toNat, 8), (i.val, 0)],
        ofN (s.sys.images[i]).gen, ofN (Config.baseWeek i).toNat]) s
    | none => ok p c 0 (head ++ [0, pk [(fld (ofI (Config.freeInt s.free)) 15 0, 8), (2, 0), (b2n (Config.freeBool s.free), 0)],
        ofI (Config.freeInt (s.free + 1)), pk [(fld (ofI (Config.freeInt (s.free + 2))) 15 0, 0)]]) (drawn (drawn (drawn s)))) s)

/-! Abort (2.7, Table 18-3). -/

/-- The command cannot be aborted (Table 18-3): KILN_CONFIRM, and a BULK_CLOSE of any kind but the firmware image. -/
def notAbortable (p : Port) (o : Outst) (s : State) : Bool :=
  o.op == .kilnConfirm || (o.op == .bulkClose && !(match s.sys.fwProg with | some f => f.port == p && f.tag == o.tag | none => false))

/-- The named command ends before its commit point (Table 2-8): its work is withdrawn and its ABORTED reply placed. -/
def abortOne (p : Port) (tag : Nat) (s : State) : State :=
  if isCommit p tag s then failCommit 2 3 0xF020 tag s else finish p tag 3 0xF020 tag (ticketWords p tag s) (dropWork p tag s)

/-- SYS_ABORT (R53, Table 2-8). -/
def execSysAbort (p : Port) (s : State) : Host.Outcome State Fault Refusal :=
  .next (runOp .sysAbort p (fun c s =>
    let tag := fld (wd c.words 0) 7 0
    let answer := fun (st : Nat) (s : State) => finish p c.tag 0 st tag [] s
    match (findTag (s.port p) tag).filter fun o => (opInfo o.op).long && !o.done with
    | none => answer 0xF022 s
    | some o =>
      if o.committed then answer 0xF021 s
      else if notAbortable p o s then answer 0xF023 s
      else answer 0xF020 (abortOne p tag s)) s)

/-! Bulk objects (18.10). -/

/-- A row of Table 18-17: instances, direction (true: from the module), modes over the codes of Table 3-1, greatest length, duration of BULK_CLOSE in ms. -/
structure KindRow where
  lo : Nat
  hi : Nat
  fromMod : Bool
  modes : Nat
  len : Nat
  ms : Nat

/-- Table 18-17; none for a kind it does not list. -/
def kindRow : Nat → Option KindRow
  | 0x0001 => some ⟨0, 0, false, 5, 2097152, 60000⟩
  | 0x0006 => some ⟨3, 9, false, 5, 512, 2⟩
  | 0x0010 => some ⟨8, 63, false, 29, 41284, 10⟩
  | 0x0011 => some ⟨0, 7, false, 29, 1282, 2⟩
  | 0x0020 => some ⟨0, 0, false, 21, 257, 2⟩
  | 0x0030 => some ⟨0, 0, true, 61, 16392, 1⟩
  | 0x0040 => some ⟨0, 0, false, 5, 70, 2⟩
  | 0x0041 => some ⟨0, 15, false, 5, 33, 2⟩
  | 0x0050 => some ⟨0, 1023, true, 61, 16384, 1⟩
  | _ => none

/-- The kind is accepted in the present mode (Table 18-17); the firmware image also with no image running (R75). -/
def kindMode (kind : Nat) (r : KindRow) (s : State) : Bool :=
  if noImage s then kind == 1 else tb r.modes (modeCode s.sys.mode)

/-- The interpretation of a bulk command: the checks of R434 that need word 0 alone, then the reserved bits, then QUEUE_ECC, then the rest. An uncorrectable word 0 names no handle and no kind. -/
def runBulk (op : Op) (p : Port) (pre : Cmd → State → Option (Nat × Nat)) (body : Cmd → State → State) (s : State) : State :=
  match (s.port p).accepted with
  | none => s
  | some c =>
    if c.op = op then
      let s := s.onPort p fun q => { q with accepted := none }
      if c.ecc.contains 0 then reject p c 0xF017 0 s
      else match pre c s with
        | some (st, d) => reject p c st d s
        | none =>
          match firstBad op c.words c.ecc, c.ecc with
          | some i, _ => badValue p c i s
          | none, i :: _ => reject p c 0xF017 i s
          | none, [] => body c s
    else s

/-- BULK_OPEN checks 1 to 3 (R434). -/
def openCheck (c : Cmd) (s : State) : Option (Nat × Nat) :=
  let kind := fld (wd c.words 0) 31 16
  let inst := fld (wd c.words 0) 15 0
  match kindRow kind with
  | none => some (0xF016, 0)
  | some r =>
    if !kindMode kind r s then some (0xF015, modeCode s.sys.mode)
    else if inst < r.lo || r.hi < inst then some (0xF016, 0)
    else none

/-- The copy of an object that a handle of direction 1 reads (R434): the Folly capture, empty before the first, or a sector of the ring. -/
def copyObject (kind inst : Nat) (s : State) : List Word :=
  if kind = 0x30 then (match s.loop.capture with | some x => captureWords x | none => []) else sectorWords s inst

/-- BULK_OPEN (R56, R434, R241): the lowest free handle. -/
def execBulkOpen (p : Port) (s : State) : Host.Outcome State Fault Refusal :=
  .next (runBulk .bulkOpen p openCheck (fun c s =>
    let kind := fld (wd c.words 0) 31 16
    let inst := fld (wd c.words 0) 15 0
    let dir := bit (wd c.words 1) 0
    let len := (wd c.words 2).toNat
    match kindRow kind with
    | none => badValue p c 0 s
    | some r =>
      if dir != r.fromMod then badValue p c 1 s
      else if !dir && decide (r.len < len) then reject p c 0xF032 (satN 65535 (len - r.len)) s
      else if kind = 0x20 && s.dpc.fn == 4 then reject p c 0x5011 0 s
      else match (fins 4).find? fun i => (s.bulk[i]).isNone with
        | none => reject p c 0xF034 4 s
        | some i =>
          let data := if dir then copyObject kind inst s else []
          let s := if kind = 0x50 then s.onFree (· + 16384) else s
          let h : Handle := { port := p, kind := kind, inst := inst, fromMod := dir, len := if dir then data.length else len
                              crc := if dir then crc32 data else wd c.words 3, data := data, next := 0, last := s.time.mt }
          let s := s.onBulk fun b => upd b i fun _ => some h
          ok p c 0 (if dir then [ofN (i.val + 1), ofN h.len, h.crc] else [ofN (i.val + 1), 0, 0]) s) s)

/-- R434: an open handle of the right direction, then its kind's modes. -/
def handleCheck (dir : Option Bool) (c : Cmd) (s : State) : Option (Nat × Nat) :=
  let h := namedHandle c.op c.words
  match handleOf s h with
  | none => some (0xF030, h)
  | some x =>
    if (match dir with | some d => d != x.fromMod | none => false) then some (0xF030, h)
    else match kindRow x.kind with
      | some r => if kindMode x.kind r s then none else some (0xF015, modeCode s.sys.mode)
      | none => none

/-- BULK_WRITE (R57). -/
def execBulkWrite (p : Port) (s : State) : Host.Outcome State Fault Refusal :=
  .next (runBulk .bulkWrite p (handleCheck (some false)) (fun c s =>
    let n := namedHandle c.op c.words
    match handleOf s n with
    | none => s
    | some h =>
      let ws := c.words.drop 1
      let need := min 254 (h.len - h.data.length)
      if fld (wd c.words 0) 23 0 != h.next then reject p c 0xF031 (h.next % 65536) s
      else if need < ws.length then reject p c 0xF032 (ws.length - need) s
      else if ws.length < need then reject p c 0xF032 (need - ws.length) s
      else ok p c 0 [] (onHandle n (fun _ => some { h with data := ws.reverse ++ h.data, next := h.next + 1 }) s)) (touchHandle .bulkWrite p s))

/-- BULK_READ (R454). -/
def execBulkRead (p : Port) (s : State) : Host.Outcome State Fault Refusal :=
  .next (runBulk .bulkRead p (handleCheck (some true)) (fun c s =>
    match handleOf s (namedHandle c.op c.words) with
    | none => s
    | some h =>
      let blk := fld (wd c.words 0) 23 0
      if h.len ≤ 253 * blk then badValue p c 0 s
      else ok p c 0 (ofN blk :: (h.data.drop (253 * blk)).take 253) s) (touchHandle .bulkRead p s))

/-! The checks of the objects. -/

/-- FIR coefficient set (R145): detail of FIR_REJECTED. -/
def firBad (ws : List Word) : Option Nat :=
  let n := fld (wd ws 0) 8 0
  if n = 0 || ws.length != n + 1 then some 1
  else if ws.drop 1 != (ws.drop 1).reverse then some 2
  else none

/-- Track (R241): the first failing waypoint, 0xFF for COUNT or length. -/
def trackBad (ws : List Word) : Option Nat :=
  let n := fld (wd ws 0) 7 0
  let pt := fun i : Nat => ((wd ws (1 + 4 * i)).toInt, (wd ws (2 + 4 * i)).toInt)
  if n < 2 || 64 < n || ws.length != 1 + 4 * n then some 0xFF
  else (List.range n).find? fun i =>
    let v := fld (wd ws (4 + 4 * i)) 31 16
    let dx := (pt i).1 - (pt (i - 1)).1
    let dy := (pt i).2 - (pt (i - 1)).2
    (decide (i + 1 < n) && (decide (v < 10) || decide (5000 < v))) || (decide (0 < i) && decide (dx * dx + dy * dy < 1000000))

/-- Vessel model (R376): a word of Table 15-3 is in order. -/
def vesselWordOk (i : Nat) (w : Word) : Bool :=
  let n := w.toNat
  if i = 0 then w == 0x01000000
  else if i = 4 || i = 5 then decide (1 ≤ n) && decide (n ≤ 4000000)
  else if i = 6 || i = 10 || i = 11 then n != 0
  else decide (i < 70)

/-- Vessel model (R376): the first failing word; a missing one fails. -/
def vesselBad (ws : List Word) : Option Nat :=
  (List.range (max 70 ws.length)).find? fun i => decide (ws.length ≤ i) || !vesselWordOk i (wd ws i)

/-- Thruster characteristic (R376): SP and THRUST of point i. -/
def charPt (ws : List Word) (i : Nat) : Int × Int := (((wd ws i).extractLsb' 16 16).toInt, ((wd ws i).extractLsb' 0 16).toInt)

/-- Thruster characteristic (R376): the first failing word: POINTS and the length, the range of SP, the rise of both, and (0, 0) by the point where SP reaches 0 or the last. -/
def charBad (ws : List Word) : Option Nat :=
  let n := (wd ws 0).toNat
  if n < 2 || 32 < n || ws.length != n + 1 then some 0
  else ((List.range n).map (· + 1)).find? fun i =>
    let q := charPt ws i
    let zero := ((List.range i).map (· + 1)).any fun k => charPt ws k == (0, 0)
    decide (q.1 < -10000) || decide (10000 < q.1) ||
    (decide (1 < i) && !(decide ((charPt ws (i - 1)).1 < q.1) && decide ((charPt ws (i - 1)).2 < q.2))) ||
    ((decide (0 ≤ q.1) || i == n) && !zero)

/-- Words that a warm-start vector of these dimensions has (Table 8-8). -/
def warmLen (ws : List Word) : Nat := 2 + 2 * (fld (wd ws 1) 7 0 + 2 * fld (wd ws 1) 24 16)

/-- The image to be written (R435): the one that does not run; with none running that of lower generation, or A. -/
def fwTarget (s : State) : Fin 2 :=
  match s.sys.running with
  | some i => if i = 0 then 1 else 0
  | none =>
    let g := fun i : Fin 2 => if (s.sys.images[i]).hdrOk then (s.sys.images[i]).gen + 1 else 0
    if g 1 < g 0 then 1 else 0

/-- The generation it gets (R435). -/
def fwGen (s : State) : Nat :=
  match s.sys.running with
  | some i => ((s.sys.images[i]).gen + 1) % 2 ^ 32
  | none => ((fins 2).foldl (fun g i => if (s.sys.images[i]).hdrOk then max g (s.sys.images[i]).gen else g) 0 + 1) % 2 ^ 32

/-- Programming of a firmware image starts (R435): the target is erased. Whether a cut programming leaves a readable header is free (log entry 3). -/
def fwStart (p : Port) (c : Cmd) (h : Handle) (s : State) : State :=
  let t := fwTarget s
  let g := fwGen s
  let old := s.sys.images[t]
  (drawn s).onSys fun y => { y with
    images := upd y.images t fun _ => { valid := false, gen := g, crc := h.crc, hdrOk := Config.freeBool s.free }
    fwProg := some { target := t, gen := g, crc := h.crc, oldCrc := if old.valid then old.crc else 0, port := p, tag := c.tag } }

/-- A new control point waits for the commit that stores it (R377). -/
def vesselPending (s : State) : State :=
  s.onCfg fun k => { k with cpPending := cpOf k.work != k.cp, cpStored := false }

/-- A complete object with the declared CRC is checked and applied whole (R58): firmware (R435), FIR set (R145), structure definition (R190), warm-start vector (8.6), track (R241), vessel model and characteristic (R376). -/
def applyObject (p : Port) (c : Cmd) (h : Handle) (s : State) : State :=
  let ws := h.data.reverse
  let fail := fun (st d : Nat) => finish p c.tag 0 st d [] s
  let set := fun (inst : Nat) => setConfig p c.tag .bulkClose inst ws false s
  match h.kind with
  | 0x0001 => if Config.fwHeader ws = 0 then fwStart p c h s else fail 0xE010 (if Config.fwHeader ws = 1 then 1 else 2)
  | 0x0006 => match firBad ws with | some d => fail 0xB020 d | none => ok p c 0 [] (set (32 + h.inst))
  | 0x0010 => ok p c 0 [] (s.onSolv fun v => { v with staged := (v.staged.filter fun e => e.1 != h.inst) ++ [(h.inst, ws)] })
  | 0x0011 =>
    let n := warmLen ws
    if ws.length != n then fail 0xF032 (satN 65535 ((n - ws.length) + (ws.length - n)))
    else ok p c 0 [] (match fin? 8 h.inst with
      | some i => s.onSolv fun v => { v with warm := upd v.warm i fun _ => some ws }
      | none => s)
  | 0x0020 => match trackBad ws with | some i => fail 0x5016 i | none => ok p c 0 [] (s.onDpc fun d => { d with track := ws })
  | 0x0040 => match vesselBad ws with | some i => fail 0xB014 i | none => ok p c 0 [] (vesselPending (set 64))
  | _ => match charBad ws with | some i => fail 0xB014 i | none => ok p c 0 [] (set (96 + h.inst))

/-- BULK_CLOSE (R58, R434, R435): the handle closes, except when another firmware image is being programmed. -/
def execBulkClose (p : Port) (s : State) : Host.Outcome State Fault Refusal :=
  .next (runBulk .bulkClose p (handleCheck none) (fun c s =>
    let n := namedHandle c.op c.words
    match handleOf s n with
    | none => s
    | some h =>
      let s := pending p c (match kindRow h.kind with | some r => r.ms | none => 0) s
      if h.kind = 1 && s.sys.fwProg.isSome then reject p c 0xE011 0 s
      else
        let s := onHandle n (fun _ => none) s
        if h.fromMod then ok p c 0 [] s
        else if h.data.length < h.len then finish p c.tag 0 0xF032 (satN 65535 (h.len - h.data.length)) [] s
        else if crc32 h.data.reverse != h.crc then finish p c.tag 0 0xF033 0 [] s
        else applyObject p c h s) (touchHandle .bulkClose p s))

/-- FW_PROGRAM_COMPLETE (R435, R74, R386): the valid mark, its change record and the reply; a failed read-back leaves the target invalid, with FW_IMAGE_REJECTED and a free detail (log entry 3). PD13 may then sleep (R87). -/
def execFwProgramComplete (readbackOk : Bool) (s : State) : Host.Outcome State Fault Refusal :=
  .next (match s.sys.fwProg with
    | none => s
    | some f =>
      let s := s.onSys fun y => { y with fwProg := none }
      if readbackOk then
        let s := s.onSys fun y => { y with
          images := upd y.images f.target fun _ => { valid := true, gen := f.gen, crc := f.crc, hdrOk := true }
          choice := none }
        let s := changeRecord f.port f.tag .bulkClose 0 f.oldCrc f.crc false (commit f.port f.tag s)
        pd13Budget (finish f.port f.tag 0 0 0 [] s)
      else pd13Budget (finish f.port f.tag 0 0xE010 (Config.freeInt s.free).toNat [] (drawn s)))

end Sys2Proof.Machine
end

