-- ==== Sys2Proof/Machine/Frame.lean ====
section
/-! DEFINITION. The frame boundary with everything that takes effect at one, and missed deadlines (1.4; R19 to R26). -/

namespace Sys2Proof.Machine

/-- Some instance of a configuration function is about to take effect. -/
def State.awaitsAny (s : State) (op : Op) : Bool := s.cfg.pend.any fun k => k.1 == op

/-! CFG_LOAD at its boundary (R385). -/

/-- Everything that a whole configuration touches counts as about to take effect: the DP structures, every reference slot, every CAN controller, the recorder, the rotation point. -/
def loadPend : List (Op × Nat) :=
  ((List.range 24).map fun k => (Op.fusRefConfig, k)) ++ ((List.range 6).map fun c => (Op.busCanConfig, c)) ++
    ([(.allocThrusterConfig, 0), (.allocConfig, 0), (.logConfig, 0), (.dpcSetRotationPoint, 0), (.dpcControllerConfig, 0), (.dpcSetDatum, 0)] : List (Op × Nat))

/-- One CFG_LOAD takes effect (R385, R386): the whole working configuration, the bank in use, the change record, EV124 and the reply. A bank that is no longer valid is refused. -/
def loadTakes (l : LoadReq) (s : State) : State :=
  let b := fin? 2 l.bank
  let bad := match b with | some i => !bankValid s.cfg.bank[i] | none => false
  if bad then (if l.fwd then s else finish l.port l.tag 3 0xB012 l.bank [] s)
  else
    let image := match b with | some i => (s.cfg.bank[i]).image | none => []
    let before := cfgCrc (cfgNorm s.cfg.work)
    let s := s.onCfg fun c => { c with work := image, force := image, inUse := b, cp := cpOf image, cpPending := false, cpStored := false, pend := loadPend }
    let s := changeRecord l.port l.tag .cfgLoad l.bank before (cfgCrc (cfgNorm image)) l.fwd (commit l.port l.tag s)
    let s := cfgEvent l.bank 3 s
    if l.fwd then s else finish l.port l.tag 0 0 0 [] s

/-! Configuration at a boundary. -/

/-- What was set since the last boundary comes into force (R148, R178, R353, R375 to R377, Tables 9-6, 10-11, 16-6). -/
def configForce (s : State) : State :=
  let s := promote .boundary s
  s.onCfg fun c =>
    if c.cpPending && c.cpStored then { c with cp := cpOf c.work, cpPending := false, cpStored := false } else c

/-- What follows from the parameters that have come into force; old is the state before. pend names them. -/
def configEffects (pend : List (Op × Nat)) (old s : State) : State :=
  let has := fun (op : Op) => pend.any fun k => k.1 == op
  let s := (fins 6).foldl (fun s c => if pend.contains (Op.busCanConfig, c.val) then canTakes c s else s) s
  let s := if has .logConfig then logConfigTakes old s else s
  let s := if has .allocThrusterConfig then redefineDp [0, 1] s else if has .allocConfig || has .dpcMpcConfig then redefineDp [] s else s
  let s := if has .allocConfig then s.onAlloc fun a => { a with cfgChanged := true } else s
  let s := if has .dpcControllerConfig then s.onDpc fun d => { d with oldPar := some (d.oldPar.getD (old.inForce .dpcControllerConfig)) } else s
  let s := if has .dpcSetRotationPoint then rpTakes s else s
  let s := if has .dpcSetDatum then
      (match cfgFind s.cfg.force .dpcSetDatum 0 with
        | some ws => datumTakes (datumOf ws) 2 s
        | none => s)
    else s
  firTakes old s

/-- The configuration's part of a boundary. A CFG_LOAD replaces everything that was set before it took effect (R385). -/
def configBoundary (s : State) : State :=
  let old := s
  if s.cfg.loads.isEmpty then configEffects s.cfg.pend old (configForce s)
  else
    let ls := s.cfg.loads
    let s := ls.foldl (fun s l => loadTakes l s) (configForce (s.onCfg fun c => { c with loads := [] }))
    let s := configEffects (old.cfg.pend ++ s.cfg.pend) old s
    let s := refreshEngines s
    (s.onHp fun h => { h with maintEn := maintOn s }).onCfg fun c => { c with pend := c.pend.filter fun k => timing k.1 != .boundary }

/-- The slots about to be cleared at this boundary (R151): those reconfigured, or every one after a load. -/
def clearing (s : State) : State := if s.cfg.loads.isEmpty then s else s.onCfg fun c => { c with pend := c.pend ++ loadPend }

/-! The other parts of a boundary. -/

/-- A frame without a missed deadline ends the row of missed frames (R22). -/
def countMissed (s : State) : State :=
  s.onSys fun y => { y with missedFrames := if y.missedNow = 0 then 0 else y.missedFrames, missedNow := 0 }

/-- The junction temperatures are read (R214): those of the regions that are on or clock-gated in COOLING. -/
def readTemps (temps : Vector Int 4) (s : State) : State :=
  (fins 4).foldl (fun s r => if s.sys.dom[regDom r] == .on || (s.solv.region[r]).st == .cooling then regTemp r temps[r] s else s) s

/-- Targets that wait for a step 3 which does not come, because the module has left CONTROL, end with MODE_REJECT (Table 2-7). -/
def endTargets (s : State) : State :=
  if s.sys.mode == .control then s
  else s.dpc.targets.foldl (fun s r => finish r.port r.tag 3 0xF015 (modeCode s.sys.mode) [] s) (s.onDpc fun d => { d with targets := [] })

/-- Everything that takes effect at the boundary at which MT stands, in this order: the end of the old frame, configuration, the pair, the mode, the estimate latched by step 1, functions, limits, availability, placement, consequence analysis. -/
def boundaryWork (temps : Vector Int 4) (s : State) : State :=
  let old := clearing s
  let s := sensorOut (readTemps temps (countMissed s))
  let s := modeTakes (duplexBoundary (configBoundary s))
  let s := endTargets (fnTakes (fusBoundary old s))
  caBoundary (gazeboBoundary (allocReset (fixAvail (rampLimits s))))

/-- FRAME_BOUNDARY (R19): MT reaches the next boundary that has not been processed. Before the firmware runs only the frame is counted. -/
def execFrameBoundary (temps : Vector Int 4) (s : State) : Host.Outcome State Fault Refusal :=
  .next (
    if !s.sys.vmain || !s.time.mtRun then s
    else
      let k := max (s.sys.frame + 1) (cdiv s.time.mt frameTicks)
      let s := (advanceTo (k * frameTicks) s).onSys fun y => { y with frame := k }
      if s.hp.ready then boundaryWork temps s else s)

/-! Missed deadlines (R22, Table 1-6). FRAME_DEADLINE has no event source in any table, so it sets no pending bit (log entry 51). -/

/-- The observer's update runs past 1.5 ms. -/
def missObserver (s : State) : State :=
  if s.fus.updating && !s.fus.d1Miss && belvRuns s then missDeadline 0 (missD1 (stepAt 1500 s)) else s

/-- The controller has no result at 2.0 ms: τ stays that of the previous frame, and the computation is discarded. -/
def missController (s : State) : State :=
  if frameWork s && s.dpc.ran != some s.sys.frame then
    let s := stepAt 2000 s
    missDeadline 1 (s.onDpc fun d => { d with ran := some s.sys.frame, tauPrev := d.tau, d2Miss := true })
  else s

/-- No allocation is committed at 6.0 ms. -/
def missAllocation (s : State) : State :=
  if frameWork s && s.dpc.fn != 0 && s.alloc.checked == some s.sys.frame && s.alloc.issuedAt != some s.sys.frame && !s.alloc.committed then
    submitBank (missD3 (cancelDp (fun w => w == .alloc) (stepAt 6000 s)))
  else s

/-- The setpoints are not issued at 6.5 ms; SETPOINT_ISSUE may still come up to 9.5 ms. -/
def missIssue (s : State) : State :=
  if frameWork s && s.alloc.issuedAt != some s.sys.frame then missDeadline 3 (stepAt 6500 s) else s

/-- The mirror frame is not under way at 7.0 ms; MIRROR_SEND may still come up to 9.0 ms. -/
def missMirror (s : State) : State :=
  if s.sys.mode == .control && s.duplex && s.dpx.sent.isNone then missDeadline 4 (stepAt 7000 s) else s

/-- DEADLINE_MISS (R22): of D1 to D5, where that step of the frame has not run. -/
def execDeadlineMiss (d : Fin 5) (s : State) : Host.Outcome State Fault Refusal :=
  .next (match d.val with
    | 0 => missObserver s
    | 1 => missController s
    | 2 => missAllocation s
    | 3 => missIssue s
    | _ => missMirror s)

end Sys2Proof.Machine
end

