-- ==== Sys2Proof/Machine/Dispatch.lean ====
section
/-! DEFINITION. One arm per command: a direct call of its meaning. -/

namespace Sys2Proof.Machine

def exec (i : Instr) (s : State) : Host.Outcome State Fault Refusal :=
  match i with
  | .cmdqWriteResume => Sys2Proof.Machine.execCmdqWriteResume s
  | .accessAbandoned => Sys2Proof.Machine.execAccessAbandoned s
  | .conflictingStrobe => Sys2Proof.Machine.execConflictingStrobe s
  | .hpRspqRead e => Sys2Proof.Machine.execHpRspqRead e s
  | .hpEccRead late => Sys2Proof.Machine.execHpEccRead late s
  | .hpWakeWrite v => Sys2Proof.Machine.execHpWakeWrite v s
  | .hpStatClear v setDuring => Sys2Proof.Machine.execHpStatClear v setDuring s
  | .hpIrqClear n v setDuring => Sys2Proof.Machine.execHpIrqClear n v setDuring s
  | .hpImskWrite n v => Sys2Proof.Machine.execHpImskWrite n v s
  | .rtcShadowRead r => Sys2Proof.Machine.execRtcShadowRead r s
  | .rtcYearRead => Sys2Proof.Machine.execRtcYearRead s
  | .rtcCommit => Sys2Proof.Machine.execRtcCommit s
  | .rtcCtlClear v setDuring => Sys2Proof.Machine.execRtcCtlClear v setDuring s
  | .registerWrite a v => Sys2Proof.Machine.execRegisterWrite a v s
  | .commandIntake p => Sys2Proof.Machine.execCommandIntake p s
  | .packetTimeout p => Sys2Proof.Machine.execPacketTimeout p s
  | .replyTransfer p => Sys2Proof.Machine.execReplyTransfer p s
  | .unsolLost p => Sys2Proof.Machine.execUnsolLost p s
  | .bulkHandleTimeout h => Sys2Proof.Machine.execBulkHandleTimeout h s
  | .sysGetId p => Sys2Proof.Machine.execSysGetId p s
  | .sysSetMode p => Sys2Proof.Machine.execSysSetMode p s
  | .sysSetWake p => Sys2Proof.Machine.execSysSetWake p s
  | .sysAbort p => Sys2Proof.Machine.execSysAbort p s
  | .sysReset p => Sys2Proof.Machine.execSysReset p s
  | .timeGet p => Sys2Proof.Machine.execTimeGet p s
  | .timeSetRtc p => Sys2Proof.Machine.execTimeSetRtc p s
  | .timeSetAlarm p => Sys2Proof.Machine.execTimeSetAlarm p s
  | .timeGetAlarm p => Sys2Proof.Machine.execTimeGetAlarm p s
  | .gnssConfig p => Sys2Proof.Machine.execGnssConfig p s
  | .gnssRtcmConfig p => Sys2Proof.Machine.execGnssRtcmConfig p s
  | .gnssHdgConfig p => Sys2Proof.Machine.execGnssHdgConfig p s
  | .gnssStream p => Sys2Proof.Machine.execGnssStream p s
  | .gnssRestart p => Sys2Proof.Machine.execGnssRestart p s
  | .fusRefConfig p => Sys2Proof.Machine.execFusRefConfig p s
  | .fusRefEnable p => Sys2Proof.Machine.execFusRefEnable p s
  | .fusRefCapture p => Sys2Proof.Machine.execFusRefCapture p s
  | .fusVoteConfig p => Sys2Proof.Machine.execFusVoteConfig p s
  | .fusObserverConfig p => Sys2Proof.Machine.execFusObserverConfig p s
  | .fusRefStatus p => Sys2Proof.Machine.execFusRefStatus p s
  | .fusSensorStream p => Sys2Proof.Machine.execFusSensorStream p s
  | .fusStateStream p => Sys2Proof.Machine.execFusStateStream p s
  | .solvStructDefine p => Sys2Proof.Machine.execSolvStructDefine p s
  | .solvStructDelete p => Sys2Proof.Machine.execSolvStructDelete p s
  | .solvUpdate p => Sys2Proof.Machine.execSolvUpdate p s
  | .solvStructQuery p => Sys2Proof.Machine.execSolvStructQuery p s
  | .solvSubmit p => Sys2Proof.Machine.execSolvSubmit p s
  | .solvResultRead p => Sys2Proof.Machine.execSolvResultRead p s
  | .solvPlacement p => Sys2Proof.Machine.execSolvPlacement p s
  | .dpcSetFunction p => Sys2Proof.Machine.execDpcSetFunction p s
  | .dpcSetDatum p => Sys2Proof.Machine.execDpcSetDatum p s
  | .dpcSetRotationPoint p => Sys2Proof.Machine.execDpcSetRotationPoint p s
  | .dpcControllerConfig p => Sys2Proof.Machine.execDpcControllerConfig p s
  | .dpcMpcConfig p => Sys2Proof.Machine.execDpcMpcConfig p s
  | .dpcMoveConfig p => Sys2Proof.Machine.execDpcMoveConfig p s
  | .dpcSetTarget p => Sys2Proof.Machine.execDpcSetTarget p s
  | .dpcJoystick p => Sys2Proof.Machine.execDpcJoystick p s
  | .dpcJoystickConfig p => Sys2Proof.Machine.execDpcJoystickConfig p s
  | .dpcTrackControl p => Sys2Proof.Machine.execDpcTrackControl p s
  | .dpcPowerConfig p => Sys2Proof.Machine.execDpcPowerConfig p s
  | .dpcStatus p => Sys2Proof.Machine.execDpcStatus p s
  | .dpcStateStream p => Sys2Proof.Machine.execDpcStateStream p s
  | .allocThrusterConfig p => Sys2Proof.Machine.execAllocThrusterConfig p s
  | .allocConfig p => Sys2Proof.Machine.execAllocConfig p s
  | .allocThrusterEnable p => Sys2Proof.Machine.execAllocThrusterEnable p s
  | .allocThrusterStatus p => Sys2Proof.Machine.execAllocThrusterStatus p s
  | .allocStatus p => Sys2Proof.Machine.execAllocStatus p s
  | .allocEnvelopeRead p => Sys2Proof.Machine.execAllocEnvelopeRead p s
  | .allocConseqConfig p => Sys2Proof.Machine.execAllocConseqConfig p s
  | .allocStateStream p => Sys2Proof.Machine.execAllocStateStream p s
  | .loopConfig p => Sys2Proof.Machine.execLoopConfig p s
  | .loopThrusterBind p => Sys2Proof.Machine.execLoopThrusterBind p s
  | .loopSetCoeff p => Sys2Proof.Machine.execLoopSetCoeff p s
  | .loopClose p => Sys2Proof.Machine.execLoopClose p s
  | .loopOpen p => Sys2Proof.Machine.execLoopOpen p s
  | .loopSetManual p => Sys2Proof.Machine.execLoopSetManual p s
  | .loopSetSetpoint p => Sys2Proof.Machine.execLoopSetSetpoint p s
  | .loopGroup p => Sys2Proof.Machine.execLoopGroup p s
  | .loopStatus p => Sys2Proof.Machine.execLoopStatus p s
  | .follyStart p => Sys2Proof.Machine.execFollyStart p s
  | .follyStop p => Sys2Proof.Machine.execFollyStop p s
  | .profConfig p => Sys2Proof.Machine.execProfConfig p s
  | .profMove p => Sys2Proof.Machine.execProfMove p s
  | .profHome p => Sys2Proof.Machine.execProfHome p s
  | .profStatus p => Sys2Proof.Machine.execProfStatus p s
  | .busCanConfig p => Sys2Proof.Machine.execBusCanConfig p s
  | .busCanFilter p => Sys2Proof.Machine.execBusCanFilter p s
  | .busCanSend p => Sys2Proof.Machine.execBusCanSend p s
  | .busCanReceive p => Sys2Proof.Machine.execBusCanReceive p s
  | .busCanSleep p => Sys2Proof.Machine.execBusCanSleep p s
  | .busCanRecover p => Sys2Proof.Machine.execBusCanRecover p s
  | .busCanRelease p => Sys2Proof.Machine.execBusCanRelease p s
  | .busCanStatus p => Sys2Proof.Machine.execBusCanStatus p s
  | .busUartConfig p => Sys2Proof.Machine.execBusUartConfig p s
  | .busUartSend p => Sys2Proof.Machine.execBusUartSend p s
  | .busUartStatus p => Sys2Proof.Machine.execBusUartStatus p s
  | .busStream p => Sys2Proof.Machine.execBusStream p s
  | .kilnConfig p => Sys2Proof.Machine.execKilnConfig p s
  | .kilnConfirm p => Sys2Proof.Machine.execKilnConfirm p s
  | .kilnReadConfig p => Sys2Proof.Machine.execKilnReadConfig p s
  | .kilnStatus p => Sys2Proof.Machine.execKilnStatus p s
  | .kilnBrake p => Sys2Proof.Machine.execKilnBrake p s
  | .kilnAck p => Sys2Proof.Machine.execKilnAck p s
  | .dpxConfig p => Sys2Proof.Machine.execDpxConfig p s
  | .dpxTransfer p => Sys2Proof.Machine.execDpxTransfer p s
  | .dpxStatus p => Sys2Proof.Machine.execDpxStatus p s
  | .dpxHostDataWrite p => Sys2Proof.Machine.execDpxHostDataWrite p s
  | .dpxHostDataRead p => Sys2Proof.Machine.execDpxHostDataRead p s
  | .calSet p => Sys2Proof.Machine.execCalSet p s
  | .calRead p => Sys2Proof.Machine.execCalRead p s
  | .cfgFirChannel p => Sys2Proof.Machine.execCfgFirChannel p s
  | .cfgFirQuery p => Sys2Proof.Machine.execCfgFirQuery p s
  | .cfgModule p => Sys2Proof.Machine.execCfgModule p s
  | .cfgCommit p => Sys2Proof.Machine.execCfgCommit p s
  | .cfgLoad p => Sys2Proof.Machine.execCfgLoad p s
  | .cfgStatus p => Sys2Proof.Machine.execCfgStatus p s
  | .busMaintConfig p => Sys2Proof.Machine.execBusMaintConfig p s
  | .logConfig p => Sys2Proof.Machine.execLogConfig p s
  | .logRate p => Sys2Proof.Machine.execLogRate p s
  | .logRead p => Sys2Proof.Machine.execLogRead p s
  | .logStatus p => Sys2Proof.Machine.execLogStatus p s
  | .logWrite p => Sys2Proof.Machine.execLogWrite p s
  | .evtRoute p => Sys2Proof.Machine.execEvtRoute p s
  | .evtQuery p => Sys2Proof.Machine.execEvtQuery p s
  | .bulkOpen p => Sys2Proof.Machine.execBulkOpen p s
  | .bulkWrite p => Sys2Proof.Machine.execBulkWrite p s
  | .bulkRead p => Sys2Proof.Machine.execBulkRead p s
  | .bulkClose p => Sys2Proof.Machine.execBulkClose p s
  | .mainPowerOn k => Sys2Proof.Machine.execMainPowerOn k s
  | .vmainLoss fate => Sys2Proof.Machine.execVmainLoss fate s
  | .emberContentLoss => Sys2Proof.Machine.execEmberContentLoss s
  | .rstNAssert widthNs => Sys2Proof.Machine.execRstNAssert widthNs s
  | .rstNRelease => Sys2Proof.Machine.execRstNRelease s
  | .warmResetStart k => Sys2Proof.Machine.execWarmResetStart k s
  | .fwRunConfirm => Sys2Proof.Machine.execFwRunConfirm s
  | .watchdogExpiry => Sys2Proof.Machine.execWatchdogExpiry s
  | .watchdogResetDelayEnd => Sys2Proof.Machine.execWatchdogResetDelayEnd s
  | .tcxoFailure => Sys2Proof.Machine.execTcxoFailure s
  | .startRoleResolution => Sys2Proof.Machine.execStartRoleResolution s
  | .powerFailFlush => Sys2Proof.Machine.execPowerFailFlush s
  | .pfailRecovery => Sys2Proof.Machine.execPfailRecovery s
  | .wakeTrigger w => Sys2Proof.Machine.execWakeTrigger w s
  | .domainExitComplete d => Sys2Proof.Machine.execDomainExitComplete d s
  | .wakeIdleReturn => Sys2Proof.Machine.execWakeIdleReturn s
  | .frameBoundary temps => Sys2Proof.Machine.execFrameBoundary temps s
  | .observerUpdateComplete ce => Sys2Proof.Machine.execObserverUpdateComplete ce s
  | .drLimitExpiry heading => Sys2Proof.Machine.execDrLimitExpiry heading s
  | .positionControlStep => Sys2Proof.Machine.execPositionControlStep s
  | .speculationCheck => Sys2Proof.Machine.execSpeculationCheck s
  | .setpointIssue => Sys2Proof.Machine.execSetpointIssue s
  | .mirrorSend => Sys2Proof.Machine.execMirrorSend s
  | .hypothesisBankDeadline => Sys2Proof.Machine.execHypothesisBankDeadline s
  | .deadlineMiss d => Sys2Proof.Machine.execDeadlineMiss d s
  | .alarmFire a => Sys2Proof.Machine.execAlarmFire a s
  | .rtcFreezeTimeout => Sys2Proof.Machine.execRtcFreezeTimeout s
  | .rtcLoad => Sys2Proof.Machine.execRtcLoad s
  | .ppsEdge => Sys2Proof.Machine.execPpsEdge s
  | .ppsMissedTimeout => Sys2Proof.Machine.execPpsMissedTimeout s
  | .timeSolutionLoss => Sys2Proof.Machine.execTimeSolutionLoss s
  | .timeSolutionReturn t => Sys2Proof.Machine.execTimeSolutionReturn t s
  | .holdoverLimit => Sys2Proof.Machine.execHoldoverLimit s
  | .gnssEpoch m => Sys2Proof.Machine.execGnssEpoch m s
  | .gnssSolutionComplete b q => Sys2Proof.Machine.execGnssSolutionComplete b q s
  | .gnssHeadingComplete h => Sys2Proof.Machine.execGnssHeadingComplete h s
  | .gnssSolutionTimeout w => Sys2Proof.Machine.execGnssSolutionTimeout w s
  | .antennaStateChange a cls => Sys2Proof.Machine.execAntennaStateChange a cls s
  | .antennaShortRetry a stillShort => Sys2Proof.Machine.execAntennaShortRetry a stillShort s
  | .channelAcquisition b ch prn st => Sys2Proof.Machine.execChannelAcquisition b ch prn st s
  | .channelLossOfLock b ch => Sys2Proof.Machine.execChannelLossOfLock b ch s
  | .cycleSlip b ch => Sys2Proof.Machine.execCycleSlip b ch s
  | .navWordDecoded b ch idx raw => Sys2Proof.Machine.execNavWordDecoded b ch idx raw s
  | .rtcmFrame data => Sys2Proof.Machine.execRtcmFrame data s
  | .gnssInterference b noise avg => Sys2Proof.Machine.execGnssInterference b noise avg s
  | .gnssFault b => Sys2Proof.Machine.execGnssFault b s
  | .sampleInstant slot x => Sys2Proof.Machine.execSampleInstant slot x s
  | .imuFault reason => Sys2Proof.Machine.execImuFault reason s
  | .belvFault detail => Sys2Proof.Machine.execBelvFault detail s
  | .copyComplete ticket copy ce err => Sys2Proof.Machine.execCopyComplete ticket copy ce err s
  | .storeUncorrectableError r ticket => Sys2Proof.Machine.execStoreUncorrectableError r ticket s
  | .linkTransferFailure u corrected fails => Sys2Proof.Machine.execLinkTransferFailure u corrected fails s
  | .hostProblemDeadline ticket => Sys2Proof.Machine.execHostProblemDeadline ticket s
  | .copyResume ticket copy => Sys2Proof.Machine.execCopyResume ticket copy s
  | .structInstallComplete => Sys2Proof.Machine.execStructInstallComplete s
  | .caDirection0Complete => Sys2Proof.Machine.execCaDirection0Complete s
  | .caCycleComplete => Sys2Proof.Machine.execCaCycleComplete s
  | .mpcResultCommit => Sys2Proof.Machine.execMpcResultCommit s
  | .mpcLate => Sys2Proof.Machine.execMpcLate s
  | .joystickTimeout => Sys2Proof.Machine.execJoystickTimeout s
  | .pmsFrame data => Sys2Proof.Machine.execPmsFrame data s
  | .pmsTimeout => Sys2Proof.Machine.execPmsTimeout s
  | .targetReached => Sys2Proof.Machine.execTargetReached s
  | .dpcExcursion heading raised => Sys2Proof.Machine.execDpcExcursion heading raised s
  | .allocSlackAlarm => Sys2Proof.Machine.execAllocSlackAlarm s
  | .notreadyDetect t => Sys2Proof.Machine.execNotreadyDetect t s
  | .feedbackTimeout t => Sys2Proof.Machine.execFeedbackTimeout t s
  | .thrusterReturnTimer t => Sys2Proof.Machine.execThrusterReturnTimer t s
  | .loopTick le => Sys2Proof.Machine.execLoopTick le s
  | .followingError le => Sys2Proof.Machine.execFollowingError le s
  | .follyComplete => Sys2Proof.Machine.execFollyComplete s
  | .profileTick pc => Sys2Proof.Machine.execProfileTick pc s
  | .profileFollowingError pc => Sys2Proof.Machine.execProfileFollowingError pc s
  | .standstillTimer pc => Sys2Proof.Machine.execStandstillTimer pc s
  | .releaseDelayEnd pc => Sys2Proof.Machine.execReleaseDelayEnd pc s
  | .homeStall pc => Sys2Proof.Machine.execHomeStall pc s
  | .vkilnRise => Sys2Proof.Machine.execVkilnRise s
  | .vkilnLoss => Sys2Proof.Machine.execVkilnLoss s
  | .kilnStartTestComplete pass => Sys2Proof.Machine.execKilnStartTestComplete pass s
  | .safeInputChange n level => Sys2Proof.Machine.execSafeInputChange n level s
  | .pairDiscrepancyTimeout j => Sys2Proof.Machine.execPairDiscrepancyTimeout j s
  | .kilnResetInput highMs => Sys2Proof.Machine.execKilnResetInput highMs s
  | .kilnChannelCompareFault => Sys2Proof.Machine.execKilnChannelCompareFault s
  | .kilnRingCrossCheck k1 k2 => Sys2Proof.Machine.execKilnRingCrossCheck k1 k2 s
  | .kilnConfigCrcCheck ok => Sys2Proof.Machine.execKilnConfigCrcCheck ok s
  | .kilnRecoveryEnd pass => Sys2Proof.Machine.execKilnRecoveryEnd pass s
  | .outputTestSlot slot => Sys2Proof.Machine.execOutputTestSlot slot s
  | .testPulseEnd slot readbackOk mirrorOpen => Sys2Proof.Machine.execTestPulseEnd slot readbackOk mirrorOpen s
  | .readbackFault n outB level => Sys2Proof.Machine.execReadbackFault n outB level s
  | .feedbackCheckTimeout n fba fbb => Sys2Proof.Machine.execFeedbackCheckTimeout n fba fbb s
  | .kilnRequestWord path mask comp => Sys2Proof.Machine.execKilnRequestWord path mask comp s
  | .kilnRequestStale path => Sys2Proof.Machine.execKilnRequestStale path s
  | .cdInconsistent => Sys2Proof.Machine.execCdInconsistent s
  | .sdTelegramCopy bus4 bytes => Sys2Proof.Machine.execSdTelegramCopy bus4 bytes s
  | .sdWindowEnd => Sys2Proof.Machine.execSdWindowEnd s
  | .sdTimeout => Sys2Proof.Machine.execSdTimeout s
  | .sdDegradedTimeout => Sys2Proof.Machine.execSdDegradedTimeout s
  | .kilnStageExpiry => Sys2Proof.Machine.execKilnStageExpiry s
  | .kilnWriteComplete ok => Sys2Proof.Machine.execKilnWriteComplete ok s
  | .kilnStateArrival => Sys2Proof.Machine.execKilnStateArrival s
  | .heartbeatSend => Sys2Proof.Machine.execHeartbeatSend s
  | .heartbeatReceive h => Sys2Proof.Machine.execHeartbeatReceive h s
  | .heartbeatTimeout ownIn => Sys2Proof.Machine.execHeartbeatTimeout ownIn s
  | .laneUp l roundTrip => Sys2Proof.Machine.execLaneUp l roundTrip s
  | .laneDown l => Sys2Proof.Machine.execLaneDown l s
  | .mirrorSegmentReceive g => Sys2Proof.Machine.execMirrorSegmentReceive g s
  | .mirrorAckReceive frame crcOk => Sys2Proof.Machine.execMirrorAckReceive frame crcOk s
  | .giveupInRise => Sys2Proof.Machine.execGiveupInRise s
  | .takeover => Sys2Proof.Machine.execTakeover s
  | .ownInRise => Sys2Proof.Machine.execOwnInRise s
  | .dualOwnership => Sys2Proof.Machine.execDualOwnership s
  | .supervisorHeartbeatLoss => Sys2Proof.Machine.execSupervisorHeartbeatLoss s
  | .giveupTimeout => Sys2Proof.Machine.execGiveupTimeout s
  | .transferTimeout => Sys2Proof.Machine.execTransferTimeout s
  | .transferReqTimeout => Sys2Proof.Machine.execTransferReqTimeout s
  | .safeHoldHandover => Sys2Proof.Machine.execSafeHoldHandover s
  | .handoverRetry => Sys2Proof.Machine.execHandoverRetry s
  | .reclaimHoldoffExpiry => Sys2Proof.Machine.execReclaimHoldoffExpiry s
  | .canFrameReceive c x => Sys2Proof.Machine.execCanFrameReceive c x s
  | .canTransmitAttempt c r => Sys2Proof.Machine.execCanTransmitAttempt c r s
  | .canBusOff c => Sys2Proof.Machine.execCanBusOff c s
  | .canBusOffRecovery c => Sys2Proof.Machine.execCanBusOffRecovery c s
  | .canSleepEffect c => Sys2Proof.Machine.execCanSleepEffect c s
  | .canWake c w => Sys2Proof.Machine.execCanWake c w s
  | .busStreamPoint => Sys2Proof.Machine.execBusStreamPoint s
  | .uartSentence u x => Sys2Proof.Machine.execUartSentence u x s
  | .maintFrameReceive m => Sys2Proof.Machine.execMaintFrameReceive m s
  | .maintFreeReport => Sys2Proof.Machine.execMaintFreeReport s
  | .logFlush bad => Sys2Proof.Machine.execLogFlush bad s
  | .counterCheckpoint => Sys2Proof.Machine.execCounterCheckpoint s
  | .summaryIntervalEnd => Sys2Proof.Machine.execSummaryIntervalEnd s
  | .flashLoss nf0 nf1 => Sys2Proof.Machine.execFlashLoss nf0 nf1 s
  | .flashReturn nf0 nf1 => Sys2Proof.Machine.execFlashReturn nf0 nf1 s
  | .cfgCommitComplete readbackOk => Sys2Proof.Machine.execCfgCommitComplete readbackOk s
  | .fwProgramComplete readbackOk => Sys2Proof.Machine.execFwProgramComplete readbackOk s
  | .hpCmdqWrite w e => Sys2Proof.Machine.execHpCmdqWrite w e s
  | .internalRailFault => Sys2Proof.Machine.execInternalRailFault s
  | .stateMemoryEccError => Sys2Proof.Machine.execStateMemoryEccError s
  | .handoverTimeout => Sys2Proof.Machine.execHandoverTimeout s
  | .sectorEraseComplete => Sys2Proof.Machine.execSectorEraseComplete s
  | .canIntegration c => Sys2Proof.Machine.execCanIntegration c s
  | .boundaryScanAccess a => Sys2Proof.Machine.execBoundaryScanAccess a s

end Sys2Proof.Machine
end

