-- ==== Sys2Proof/WellFormed.lean ====
section
/-! DEFINITION. Which commands the outside world can send: the ranges of the operands that a type alone does not bound. -/

namespace Sys2Proof

/-- A CAN identifier and data length (14.3): 11 or 29 bits, at most 64 bytes, 8 in a classic frame. -/
def CanFrame.wf (f : CanFrame) : Bool :=
  decide (f.id < (if f.ide then 2 ^ 29 else 2 ^ 11)) && decide (f.data.length ≤ (if f.fdf then 64 else 8))

/-- Well-formed commands: every number of an operand lies in the range that its row's rule gives it. -/
def Instr.wf : Instr → Bool
  | .mainPowerOn k => k.cutAt == 0 || (decide (5 ≤ k.cutAt) && decide (k.cutAt ≤ 9))
  | .warmResetStart k => k.cutAt == 0 || (decide (5 ≤ k.cutAt) && decide (k.cutAt ≤ 9))
  | .channelAcquisition _ _ prn _ => decide (1 ≤ prn) && decide (prn ≤ 32)
  | .sampleInstant _ x => decide (x.raw.length ≤ 3)
  | .imuFault reason => decide (1 ≤ reason) && decide (reason ≤ 5)
  | .belvFault detail => decide (1 ≤ detail) && decide (detail ≤ 3)
  | .copyComplete ticket _ _ _ => decide (ticket < 256)
  | .storeUncorrectableError _ ticket => decide (ticket < 256)
  | .hostProblemDeadline ticket => decide (192 ≤ ticket) && decide (ticket < 256)
  | .copyResume ticket _ => decide (ticket < 256)
  | .rtcmFrame data => decide (data.length ≤ 1029)
  | .pmsFrame data => decide (data.length ≤ 64)
  | .mirrorAckReceive frame _ => decide (frame < 2 ^ 32)
  | .canFrameReceive _ x => match x with | .frame f _ => f.wf | _ => true
  | .maintFrameReceive m => decide (m.seq < 128) && decide (m.words.length ≤ 15)
  | .cmdqWriteResume | .accessAbandoned | .conflictingStrobe | .hpRspqRead _ | .hpEccRead _ | .hpWakeWrite _ | .hpStatClear _ _ | .hpIrqClear _ _ _ |
  .hpImskWrite _ _ | .rtcShadowRead _ | .rtcYearRead | .rtcCommit | .rtcCtlClear _ _ | .registerWrite _ _ | .commandIntake _ | .packetTimeout _ |
  .replyTransfer _ | .unsolLost _ | .bulkHandleTimeout _ | .sysGetId _ | .sysSetMode _ | .sysSetWake _ | .sysAbort _ | .sysReset _ | .timeGet _ |
  .timeSetRtc _ | .timeSetAlarm _ | .timeGetAlarm _ | .gnssConfig _ | .gnssRtcmConfig _ | .gnssHdgConfig _ | .gnssStream _ | .gnssRestart _ |
  .fusRefConfig _ | .fusRefEnable _ | .fusRefCapture _ | .fusVoteConfig _ | .fusObserverConfig _ | .fusRefStatus _ | .fusSensorStream _ |
  .fusStateStream _ | .solvStructDefine _ | .solvStructDelete _ | .solvUpdate _ | .solvStructQuery _ | .solvSubmit _ | .solvResultRead _ |
  .solvPlacement _ | .dpcSetFunction _ | .dpcSetDatum _ | .dpcSetRotationPoint _ | .dpcControllerConfig _ | .dpcMpcConfig _ | .dpcMoveConfig _ |
  .dpcSetTarget _ | .dpcJoystick _ | .dpcJoystickConfig _ | .dpcTrackControl _ | .dpcPowerConfig _ | .dpcStatus _ | .dpcStateStream _ |
  .allocThrusterConfig _ | .allocConfig _ | .allocThrusterEnable _ | .allocThrusterStatus _ | .allocStatus _ | .allocEnvelopeRead _ |
  .allocConseqConfig _ | .allocStateStream _ | .loopConfig _ | .loopThrusterBind _ | .loopSetCoeff _ | .loopClose _ | .loopOpen _ | .loopSetManual _ |
  .loopSetSetpoint _ | .loopGroup _ | .loopStatus _ | .follyStart _ | .follyStop _ | .profConfig _ | .profMove _ | .profHome _ | .profStatus _ |
  .busCanConfig _ | .busCanFilter _ | .busCanSend _ | .busCanReceive _ | .busCanSleep _ | .busCanRecover _ | .busCanRelease _ | .busCanStatus _ |
  .busUartConfig _ | .busUartSend _ | .busUartStatus _ | .busStream _ | .kilnConfig _ | .kilnConfirm _ | .kilnReadConfig _ | .kilnStatus _ |
  .kilnBrake _ | .kilnAck _ | .dpxConfig _ | .dpxTransfer _ | .dpxStatus _ | .dpxHostDataWrite _ | .dpxHostDataRead _ | .calSet _ | .calRead _ |
  .cfgFirChannel _ | .cfgFirQuery _ | .cfgModule _ | .cfgCommit _ | .cfgLoad _ | .cfgStatus _ | .busMaintConfig _ | .logConfig _ | .logRate _ |
  .logRead _ | .logStatus _ | .logWrite _ | .evtRoute _ | .evtQuery _ | .bulkOpen _ | .bulkWrite _ | .bulkRead _ | .bulkClose _ | .vmainLoss _ |
  .emberContentLoss | .rstNAssert _ | .rstNRelease | .fwRunConfirm | .watchdogExpiry | .watchdogResetDelayEnd | .tcxoFailure | .startRoleResolution |
  .powerFailFlush | .pfailRecovery | .wakeTrigger _ | .domainExitComplete _ | .wakeIdleReturn | .frameBoundary _ | .observerUpdateComplete _ |
  .drLimitExpiry _ | .positionControlStep | .speculationCheck | .setpointIssue | .mirrorSend | .hypothesisBankDeadline | .deadlineMiss _ |
  .alarmFire _ | .rtcFreezeTimeout | .rtcLoad | .ppsEdge | .ppsMissedTimeout | .timeSolutionLoss | .timeSolutionReturn _ | .holdoverLimit |
  .gnssEpoch _ | .gnssSolutionComplete _ _ | .gnssHeadingComplete _ | .gnssSolutionTimeout _ | .antennaStateChange _ _ | .antennaShortRetry _ _ |
  .channelLossOfLock _ _ | .cycleSlip _ _ | .navWordDecoded _ _ _ _ | .gnssInterference _ _ _ | .gnssFault _ | .linkTransferFailure _ _ _ | .caDirection0Complete | .caCycleComplete |
  .structInstallComplete | .mpcResultCommit | .mpcLate | .joystickTimeout | .pmsTimeout | .targetReached | .dpcExcursion _ _ | .allocSlackAlarm |
  .notreadyDetect _ | .feedbackTimeout _ | .thrusterReturnTimer _ | .loopTick _ | .followingError _ | .follyComplete | .profileTick _ |
  .profileFollowingError _ | .standstillTimer _ | .releaseDelayEnd _ | .homeStall _ | .vkilnRise | .vkilnLoss | .kilnStartTestComplete _ |
  .safeInputChange _ _ | .pairDiscrepancyTimeout _ | .kilnResetInput _ | .kilnChannelCompareFault | .kilnRingCrossCheck _ _ | .kilnConfigCrcCheck _ |
  .kilnRecoveryEnd _ | .outputTestSlot _ | .testPulseEnd _ _ _ | .readbackFault _ _ _ | .feedbackCheckTimeout _ _ _ | .kilnRequestWord _ _ _ |
  .kilnRequestStale _ | .cdInconsistent | .sdTelegramCopy _ _ | .sdWindowEnd | .sdTimeout | .sdDegradedTimeout | .kilnStageExpiry |
  .kilnWriteComplete _ | .kilnStateArrival | .heartbeatSend | .heartbeatReceive _ | .heartbeatTimeout _ | .laneUp _ _ | .laneDown _ |
  .mirrorSegmentReceive _ | .giveupInRise | .takeover | .ownInRise | .dualOwnership | .supervisorHeartbeatLoss | .giveupTimeout | .transferTimeout |
  .transferReqTimeout | .safeHoldHandover | .handoverRetry | .reclaimHoldoffExpiry | .canTransmitAttempt _ _ | .canBusOff _ | .canBusOffRecovery _ |
  .canSleepEffect _ | .canWake _ _ | .busStreamPoint | .uartSentence _ _ | .maintFreeReport | .logFlush _ | .counterCheckpoint | .summaryIntervalEnd |
  .flashLoss _ _ | .flashReturn _ _ | .cfgCommitComplete _ | .fwProgramComplete _ | .hpCmdqWrite _ _ | .internalRailFault | .stateMemoryEccError |
  .handoverTimeout | .sectorEraseComplete | .canIntegration _ | .boundaryScanAccess _ => true

end Sys2Proof
end

