-- ==== Sys2Proof/Safety.lean ====
section
/-! DEFINITION. What the statements speak of: the next state of a command, a command that is heard, its replies, the parts of the state that a command leaves alone, and a sound state. -/

namespace Sys2Proof.Machine

/-- Ownership stands as the mode says (Table 3-1, R69): owned in COMMISSION, CONTROL and SAFE-HOLD, and in no other mode. -/
def OwnsByMode (s : State) : Prop := s.sys.own = ownsIn s.sys.mode

/-- Every pair of safe inputs stands in demand as its filtered levels say, and in demand while it is faulted (Table 12-4, R305). -/
def PairsFollow (k : KilnState) : Prop := ∀ j : Fin 8,
  (k.pair[j]).dem0 = ((pairDemand (kPairMode k j) (kA k j) (kB k j)).1 || (k.pair[j]).fault) ∧
  (k.pair[j]).dem1 = ((pairDemand (kPairMode k j) (kA k j) (kB k j)).2 || (k.pair[j]).fault)

/-- A channel is RELEASED or in its test pulse. -/
def Releasing (k : KilnState) (n : Fin 8) : Prop := (k.ch[n]).st = .released ∨ (k.ch[n]).st = .test

/-- Every channel that releases its brake does so in RUN, enabled, under conditions 1 to 3 of R308, and with its reset where it needs one (condition 5). -/
def ReleasesFollow (now : Nat) (k : KilnState) : Prop := ∀ n : Fin 8, Releasing k n →
  k.st = .run ∧ kEnable k n = true ∧ chCond now k n = true ∧ (kManual k n = true → (k.ch[n]).resetOk = true)

/-- The command has this next state. -/
def Steps (i : Instr) (s t : State) : Prop := exec i s = .next t

/-- The parts of the state: the fields of State, and the mode with ownership as a part of sys of its own. -/
inductive Part where
  | host | maint | hp | ev | sys | mode | time | gnss | fir | fus | solv | dpc | alloc | loop | kiln | dpx | can | uart | mnt | tap | cfg | log
  | bulk | subs | free | pending
  deriving DecidableEq, Repr

/-- A part is the same in two states. -/
def Part.same (s t : State) : Part → Prop
  | .host => t.host = s.host
  | .maint => t.maint = s.maint
  | .hp => t.hp = s.hp
  | .ev => t.ev = s.ev
  | .sys => t.sys = s.sys
  | .mode => t.sys.mode = s.sys.mode ∧ t.sys.own = s.sys.own
  | .time => t.time = s.time
  | .gnss => t.gnss = s.gnss
  | .fir => t.fir = s.fir
  | .fus => t.fus = s.fus
  | .solv => t.solv = s.solv
  | .dpc => t.dpc = s.dpc
  | .alloc => t.alloc = s.alloc
  | .loop => t.loop = s.loop
  | .kiln => t.kiln = s.kiln
  | .dpx => t.dpx = s.dpx
  | .can => t.can = s.can
  | .uart => t.uart = s.uart
  | .mnt => t.mnt = s.mnt
  | .tap => t.tap = s.tap
  | .cfg => t.cfg = s.cfg
  | .log => t.log = s.log
  | .bulk => t.bulk = s.bulk
  | .subs => t.subs = s.subs
  | .free => t.free = s.free
  | .pending => t.pending = s.pending

/-- Every part but those listed is the same in t as in s. -/
def SameBut (l : List Part) (s t : State) : Prop := ∀ q : Part, q ∉ l → q.same s t

/-- The parts of the state that a command may change, read off the rules of its row; every other part it leaves alone. -/
def mayChange : Instr → List Part
  | .hpEccRead _ | .hpStatClear _ _ => [.hp]
  | .emberContentLoss => [.time]
  | .channelAcquisition _ _ _ _ | .channelLossOfLock _ _ | .cycleSlip _ _ => [.gnss]
  | .vkilnRise | .kilnStartTestComplete _ | .safeInputChange _ _ | .kilnResetInput _ | .kilnChannelCompareFault | .kilnRingCrossCheck _ _
    | .kilnRecoveryEnd _ | .outputTestSlot _ | .readbackFault _ _ _ | .kilnRequestWord _ _ _ | .sdTelegramCopy _ _ => [.kiln]
  | .mirrorAckReceive _ _ => [.dpx]
  | .canIntegration _ => [.can]
  | .boundaryScanAccess _ => [.tap]
  | .accessAbandoned => [.host, .hp]
  | .hpWakeWrite _ => [.hp, .sys]
  | .hpIrqClear _ _ _ | .hpImskWrite _ _ => [.hp, .ev]
  | .rtcShadowRead _ | .rtcYearRead => [.hp, .time]
  | .bulkHandleTimeout _ => [.time, .bulk]
  | .rstNRelease => [.sys, .tap]
  | .fwRunConfirm => [.sys, .time]
  | .copyResume _ _ => [.solv, .free]
  | .thrusterReturnTimer _ => [.time, .alloc]
  | .releaseDelayEnd _ => [.time, .loop]
  | .pairDiscrepancyTimeout _ | .testPulseEnd _ _ _ | .feedbackCheckTimeout _ _ _ | .kilnRequestStale _ | .sdWindowEnd | .sdTimeout
    | .sdDegradedTimeout | .kilnStageExpiry => [.time, .kiln]
  | .heartbeatSend => [.time, .dpx]
  | .logFlush _ => [.time, .log]
  | .sectorEraseComplete => [.sys, .log]
  | .timeGet _ | .timeGetAlarm _ | .fusRefStatus _ | .solvStructQuery _ | .solvResultRead _ | .solvPlacement _ | .dpcStatus _ | .allocThrusterStatus _
    | .allocStatus _ | .loopStatus _ | .profStatus _ | .busCanStatus _ | .busUartStatus _ | .kilnReadConfig _ | .kilnStatus _ | .dpxStatus _
    | .dpxHostDataRead _ | .calRead _ | .cfgFirQuery _ | .cfgStatus _ | .logRead _ | .evtQuery _ => [.host, .maint, .sys]
  | .hypothesisBankDeadline => [.time, .solv, .free]
  | .mirrorSegmentReceive _ => [.host, .maint, .dpx]
  | .safeHoldHandover | .handoverRetry | .handoverTimeout => [.sys, .time, .dpx]
  | .unsolLost _ => [.host, .maint, .ev, .log]
  | .sysGetId _ | .allocEnvelopeRead _ | .logStatus _ => [.host, .maint, .sys, .free]
  | .sysSetMode _ | .dpxTransfer _ | .dpxHostDataWrite _ => [.host, .maint, .sys, .dpx]
  | .sysSetWake _ => [.host, .maint, .hp, .sys]
  | .timeSetRtc _ | .timeSetAlarm _ | .ppsMissedTimeout => [.host, .maint, .sys, .time]
  | .gnssStream _ | .fusSensorStream _ | .dpcStateStream _ | .allocStateStream _ | .busStream _ => [.host, .maint, .sys, .subs]
  | .fusRefCapture _ | .fusStateStream _ => [.host, .maint, .sys, .fus]
  | .solvStructDefine _ | .solvStructDelete _ | .solvUpdate _ | .structInstallComplete => [.host, .maint, .sys, .solv]
  | .dpcSetFunction _ | .dpcSetTarget _ | .dpcJoystick _ | .dpcTrackControl _ => [.host, .maint, .sys, .dpc]
  | .loopClose _ | .loopOpen _ | .loopSetManual _ | .loopSetSetpoint _ | .follyStart _ | .follyStop _ => [.host, .maint, .sys, .loop]
  | .busCanFilter _ | .busCanSend _ | .busCanReceive _ | .busCanRecover _ | .busCanRelease _ => [.host, .maint, .sys, .can]
  | .busUartSend _ => [.host, .maint, .sys, .uart]
  | .kilnConfig _ | .kilnConfirm _ | .kilnBrake _ | .kilnAck _ | .vkilnLoss | .kilnConfigCrcCheck _ => [.host, .maint, .sys, .kiln]
  | .bulkWrite _ | .bulkRead _ => [.host, .maint, .sys, .bulk]
  | .speculationCheck => [.time, .solv, .alloc, .free]
  | .homeStall _ => [.host, .maint, .time, .loop]
  | .conflictingStrobe => [.host, .maint, .hp, .ev, .log]
  | .solvSubmit _ => [.host, .maint, .sys, .solv, .free]
  | .cfgLoad _ => [.host, .maint, .sys, .dpx, .cfg]
  | .evtRoute _ | .wakeTrigger _ | .canWake _ _ | .flashReturn _ _ => [.host, .maint, .ev, .sys, .log]
  | .bulkOpen _ => [.host, .maint, .sys, .bulk, .free]
  | .mirrorSend | .transferTimeout | .transferReqTimeout => [.host, .maint, .sys, .time, .dpx]
  | .rtcFreezeTimeout | .timeSolutionLoss | .holdoverLimit | .counterCheckpoint | .summaryIntervalEnd => [.host, .maint, .ev, .time, .log]
  | .antennaStateChange _ _ | .navWordDecoded _ _ _ _ | .rtcmFrame _ | .gnssInterference _ _ _ | .gnssFault _ => [.host, .maint, .ev, .gnss, .log]
  | .mpcResultCommit | .targetReached | .dpcExcursion _ _ => [.host, .maint, .ev, .dpc, .log]
  | .allocSlackAlarm | .notreadyDetect _ => [.host, .maint, .ev, .alloc, .log]
  | .kilnStateArrival => [.host, .maint, .ev, .kiln, .log]
  | .laneUp _ _ | .laneDown _ => [.host, .maint, .ev, .dpx, .log]
  | .canTransmitAttempt _ _ | .canBusOff _ | .canBusOffRecovery _ | .canSleepEffect _ => [.host, .maint, .ev, .can, .log]
  | .busStreamPoint => [.host, .maint, .time, .can, .uart]
  | .cmdqWriteResume | .hpRspqRead _ | .hpCmdqWrite _ _ => [.host, .maint, .hp, .ev, .sys, .log]
  | .gnssRestart _ => [.host, .maint, .ev, .sys, .gnss, .log]
  | .allocThrusterEnable _ => [.host, .maint, .ev, .sys, .alloc, .log]
  | .profMove _ | .profHome _ | .follyComplete => [.host, .maint, .ev, .sys, .loop, .log]
  | .busCanSleep _ => [.host, .maint, .ev, .sys, .can, .log]
  | .logWrite _ | .fwProgramComplete _ => [.host, .maint, .ev, .sys, .log, .free]
  | .powerFailFlush | .pfailRecovery => [.host, .maint, .ev, .sys, .fus, .log]
  | .drLimitExpiry _ => [.host, .maint, .ev, .time, .fus, .log]
  | .alarmFire _ | .rtcLoad | .ppsEdge => [.host, .maint, .ev, .sys, .time, .log]
  | .timeSolutionReturn _ | .antennaShortRetry _ _ => [.host, .maint, .ev, .time, .gnss, .log]
  | .hostProblemDeadline _ => [.host, .maint, .sys, .time, .solv, .free]
  | .joystickTimeout => [.host, .maint, .ev, .time, .dpc, .log]
  | .pmsFrame _ => [.host, .maint, .ev, .dpc, .alloc, .log]
  | .feedbackTimeout _ => [.host, .maint, .ev, .time, .alloc, .log]
  | .profileFollowingError _ | .standstillTimer _ => [.host, .maint, .ev, .time, .loop, .log]
  | .kilnWriteComplete _ => [.host, .maint, .ev, .sys, .kiln, .log]
  | .heartbeatReceive _ | .giveupInRise | .internalRailFault | .stateMemoryEccError => [.host, .maint, .ev, .sys, .dpx, .log]
  | .reclaimHoldoffExpiry => [.host, .maint, .ev, .time, .dpx, .log]
  | .uartSentence _ _ => [.host, .maint, .ev, .fus, .uart, .log]
  | .flashLoss _ _ | .cfgCommitComplete _ => [.host, .maint, .ev, .sys, .cfg, .log]
  | .rtcCommit | .rtcCtlClear _ _ | .registerWrite _ _ => [.host, .maint, .hp, .ev, .sys, .time, .log]
  | .commandIntake _ => [.host, .maint, .hp, .ev, .sys, .log, .bulk]
  | .replyTransfer _ => [.host, .maint, .ev, .sys, .can, .mnt, .log]
  | .gnssConfig _ | .gnssRtcmConfig _ | .gnssHdgConfig _ | .fusRefConfig _ | .fusRefEnable _ | .fusVoteConfig _ | .fusObserverConfig _
    | .dpcSetDatum _ | .dpcSetRotationPoint _ | .dpcControllerConfig _ | .dpcMpcConfig _ | .dpcMoveConfig _ | .dpcJoystickConfig _ | .dpcPowerConfig _
    | .allocThrusterConfig _ | .allocConfig _ | .allocConseqConfig _ | .loopThrusterBind _ | .loopSetCoeff _ | .profConfig _ | .busCanConfig _
    | .busUartConfig _ | .dpxConfig _ | .calSet _ | .cfgFirChannel _ | .cfgModule _ | .cfgCommit _ | .logConfig _ | .logRate _ => [.host, .maint, .ev, .sys, .dpx, .cfg, .log]
  | .tcxoFailure | .heartbeatTimeout _ | .supervisorHeartbeatLoss | .giveupTimeout => [.host, .maint, .ev, .sys, .time, .dpx, .log]
  | .imuFault _ => [.host, .maint, .ev, .sys, .fir, .dpx, .log]
  | .belvFault _ => [.host, .maint, .ev, .sys, .fus, .dpx, .log]
  | .caDirection0Complete | .caCycleComplete => [.host, .maint, .ev, .solv, .alloc, .log, .free]
  | .pmsTimeout => [.host, .maint, .ev, .time, .dpc, .alloc, .log]
  | .loopTick _ | .profileTick _ => [.host, .maint, .ev, .sys, .time, .loop, .log]
  | .followingError _ => [.host, .maint, .ev, .time, .alloc, .loop, .log]
  | .maintFreeReport => [.host, .maint, .ev, .time, .can, .mnt, .log]
  | .packetTimeout _ => [.host, .maint, .hp, .ev, .sys, .time, .log, .bulk]
  | .loopConfig _ | .loopGroup _ => [.host, .maint, .ev, .sys, .loop, .dpx, .cfg, .log]
  | .busMaintConfig _ => [.host, .maint, .hp, .ev, .sys, .dpx, .cfg, .log]
  | .wakeIdleReturn => [.host, .maint, .ev, .sys, .time, .solv, .can, .log]
  | .observerUpdateComplete _ => [.host, .maint, .ev, .time, .fus, .solv, .log, .free]
  | .mpcLate => [.host, .maint, .ev, .time, .solv, .dpc, .log, .free]
  | .canFrameReceive _ _ => [.host, .maint, .ev, .sys, .alloc, .loop, .can, .log]
  | .maintFrameReceive _ => [.host, .maint, .hp, .ev, .sys, .mnt, .log, .bulk]
  | .gnssHeadingComplete _ | .gnssSolutionTimeout _ => [.host, .maint, .ev, .time, .gnss, .fus, .solv, .log, .free]
  | .sampleInstant _ _ => [.host, .maint, .ev, .sys, .time, .fir, .fus, .dpx, .log]
  | .bulkClose _ => [.host, .maint, .ev, .sys, .solv, .dpc, .cfg, .log, .bulk, .free]
  | .domainExitComplete _ => [.host, .maint, .ev, .sys, .time, .gnss, .fir, .fus, .can, .log]
  | .positionControlStep => [.host, .maint, .ev, .sys, .time, .solv, .dpc, .cfg, .log, .free]
  | .gnssSolutionComplete _ _ => [.host, .maint, .ev, .time, .gnss, .fus, .solv, .dpc, .log, .free]
  | .copyComplete _ _ _ _ | .storeUncorrectableError _ _ => [.host, .maint, .ev, .sys, .solv, .dpc, .alloc, .dpx, .log, .free]
  | .gnssEpoch _ => [.host, .maint, .ev, .time, .gnss, .fus, .solv, .dpc, .cfg, .log, .free]
  | .sysAbort _ => [.host, .maint, .ev, .sys, .time, .solv, .dpc, .loop, .dpx, .cfg, .log, .free]
  | .setpointIssue => [.host, .maint, .ev, .sys, .time, .solv, .dpc, .alloc, .loop, .can, .log, .free]
  | .deadlineMiss _ => [.host, .maint, .ev, .sys, .time, .fus, .solv, .dpc, .alloc, .dpx, .log, .free]
  | .startRoleResolution => [.host, .maint, .ev, .sys, .mode, .time, .solv, .dpc, .alloc, .loop, .kiln, .can, .log, .free]
  | .linkTransferFailure _ _ _ => [.host, .maint, .ev, .sys, .gnss, .fir, .fus, .solv, .dpc, .alloc, .dpx, .cfg, .log, .free]
  | .takeover => [.host, .maint, .ev, .sys, .mode, .fus, .solv, .dpc, .alloc, .loop, .kiln, .dpx, .can, .log, .free]
  | .ownInRise | .dualOwnership => [.host, .maint, .ev, .sys, .mode, .time, .solv, .dpc, .alloc, .loop, .kiln, .dpx, .can, .cfg, .log, .free]
  | .frameBoundary _ => [.host, .maint, .hp, .ev, .sys, .mode, .time, .fir, .fus, .solv, .dpc, .alloc, .loop, .kiln, .dpx, .can, .cfg, .log, .subs, .free]
  | .sysReset _ | .vmainLoss _ | .watchdogExpiry | .watchdogResetDelayEnd | .cdInconsistent => [.host, .maint, .hp, .ev, .sys, .mode, .time, .gnss, .fir, .fus, .solv, .dpc, .alloc, .loop, .kiln, .dpx, .can, .uart, .mnt, .cfg, .log, .bulk, .subs]
  | .mainPowerOn _ | .rstNAssert _ | .warmResetStart _ => [.host, .maint, .hp, .ev, .sys, .mode, .time, .gnss, .fir, .fus, .solv, .dpc, .alloc, .loop, .kiln, .dpx, .can, .uart, .mnt, .cfg, .log, .bulk, .subs, .free]

/-- A command packet is accepted at a port and heard: it is outstanding, and its payload is in order (R40, R49, Table 2-7). -/
def Heard (p : Port) (c : Cmd) (s : State) : Prop :=
  (s.port p).accepted = some c ∧ c.ecc = [] ∧ firstBad c.op c.words = none ∧
  ∃ o, findTag (s.port p) c.tag = some o ∧ o.done = false ∧ o.op = c.op

/-- The final reply of a command (R48). -/
def finalPkt (c : Cmd) (cls st detail : Nat) (ws : List Word) : Pkt :=
  { words := packet (opInfo c.op).code cls c.tag st detail ws, frees := true }

/-- The last packet in the reply store of the port is this final reply of the command. -/
def Replied (p : Port) (c : Cmd) (cls st detail : Nat) (ws : List Word) (t : State) : Prop :=
  ∃ before, (t.port p).store = before ++ [finalPkt c cls st detail ws]

/-- The command is answered with this final reply and does nothing else: its port, the mark of activity, and no other part of the state. -/
def AnswersOnly (p : Port) (c : Cmd) (cls st detail : Nat) (ws : List Word) (s t : State) : Prop :=
  (t.port p).store = (s.port p).store ++ [finalPkt c cls st detail ws] ∧ (∀ q, q ≠ p → t.port q = s.port q) ∧
  t.sys = { s.sys with lastActive := s.time.mt } ∧ SameBut [.host, .maint, .sys] s t

/-- The last packet is the class 1 reply of the command, and its final reply is still to come. -/
def Accepted (p : Port) (c : Cmd) (ms : Nat) (s t : State) : Prop :=
  (t.port p).store = (s.port p).store ++ [{ words := packet (opInfo c.op).code 1 c.tag 1 (satN 65535 ms) [] }] ∧
  ∃ o, findTag (t.port p) c.tag = some o ∧ o.done = false

/-- A command of a port and tag is outstanding and its final reply is still to come (R49). -/
def Waits (p : Port) (tag : Nat) (op : Op) (s : State) : Prop := ∃ o, findTag (s.port p) tag = some o ∧ o.done = false ∧ o.op = op

/-- This final reply of the command of a port and tag stands in the reply store. -/
def Answered (p : Port) (tag : Nat) (op : Op) (cls st detail : Nat) (ws : List Word) (t : State) : Prop :=
  { words := packet (opInfo op).code cls tag st detail ws, frees := true } ∈ (t.port p).store

/-- One more occurrence at EVn: its pending bit is set, its count is one higher, its detail is the one given (R64, R410). -/
def Occurred (n : Fin 128) (detail : Nat) (s t : State) : Prop :=
  (t.ev.src[n]).pend = true ∧ (t.ev.src[n]).count = satN 0xFFFF ((s.ev.src[n]).count + 1) ∧ (t.ev.src[n]).lastDetail = detail % 65536

/-- The subscription of a stream and instance is replaced by this one, ended by decimation 0; every other one is as before (R416). -/
def Subscribed (stream inst : Nat) (p : Port) (decim arg : Nat) (s t : State) : Prop :=
  t.sub stream inst = (if decim = 0 then none else some { stream := stream, inst := inst, port := p, decim := decim, arg := arg }) ∧
  ∀ a b, ¬ (a = stream ∧ b = inst) → t.sub a b = s.sub a b

/-- A warm reset of this cause has begun (R80, R81, R83, Table 3-6): the dies it resets stand as after State.reset, step 4 waits for the next boundary, and the Kiln's state, the tap, the flash, the recorder's ring, Ember and the navigation store stay. -/
def ResetBegun (cause : RstCause) (s t : State) : Prop :=
  t.hp = { rstCause := cause } ∧ t.sys.mode = .kindling ∧ t.sys.own = false ∧ t.sys.release = true ∧ t.sys.warmPending = true ∧
  t.sys.step4At = nextBoundary t.time.mt ∧ t.sys.images = s.sys.images ∧ t.host = State.reset.host ∧ t.maint = State.reset.maint ∧
  t.ev = State.reset.ev ∧ t.fir = State.reset.fir ∧ t.fus = State.reset.fus ∧ t.solv = State.reset.solv ∧ t.dpc = State.reset.dpc ∧
  t.alloc = State.reset.alloc ∧ t.loop = State.reset.loop ∧ t.can = State.reset.can ∧ t.uart = State.reset.uart ∧ t.mnt = State.reset.mnt ∧
  t.bulk = State.reset.bulk ∧ t.subs = [] ∧ t.cfg = { bank := s.cfg.bank } ∧ t.gnss = { nav := s.gnss.nav, pages := s.gnss.pages, pos := s.gnss.pos, week10 := s.gnss.week10 } ∧
  t.kiln.st = s.kiln.st ∧ t.kiln.cdSet = 0 ∧ t.log.ring = s.log.ring ∧ t.time.alarm = s.time.alarm ∧ t.time.emb = s.time.emb ∧
  t.time.mtRun = s.time.mtRun ∧ t.tap = s.tap

/-- Every event source but those listed is as before. -/
def EventsBut (l : List (Fin 128)) (s t : State) : Prop := ∀ n : Fin 128, n ∉ l → t.ev.src[n] = s.ev.src[n]

/-- The parts that a configuration command changes: the replies, the change record and its event, the working configuration, the mirror of the command. -/
def configParts : List Part := [.host, .maint, .ev, .sys, .dpx, .cfg, .log]

/-- What an accepted configuration command leaves (R54, R55, R379, R453): the answer OK; its parameters, completed to the expert form, in the working configuration under its function and instance; every other function and instance as before (the ENABLE of a configured reference slot replaces that of an earlier FUS_REF_ENABLE); the parameters in force, at once or waiting as its chapter says; one change record; one CHANGE_RECORDED. -/
def Configured (p : Port) (c : Cmd) (s t : State) : Prop :=
  let ws := expertWords c.op c.expert c.words
  let k := instOf c.op ws
  Replied p c 0 0 0 [] t ∧
  (unconfigures c.op ws = false → cfgGet t.cfg.work c.op k = ws) ∧
  (unconfigures c.op ws = true → cfgGet t.cfg.work c.op k = []) ∧
  (∀ op i, ¬ (op = c.op ∧ i = k) → ¬ (c.op = .fusRefConfig ∧ op = .fusRefEnable ∧ i = k) → cfgGet t.cfg.work op i = cfgGet s.cfg.work op i) ∧
  (timing c.op = .now → unconfigures c.op ws = false → cfgGet t.cfg.force c.op k = ws) ∧
  (timing c.op ≠ .now → t.cfg.force = s.cfg.force ∧ (c.op, k) ∈ t.cfg.pend) ∧
  (s.hp.ready = true → Occurred 123 (portNum p * 4096 + (opInfo c.op).code) s t ∧ EventsBut [123, 120] s t) ∧
  (s.log.discard = false → pd2Off s = false → s.log.queue.length < 512 →
    ∃ r more, t.log.queue = s.log.queue ++ r :: more ∧ r.code = 0xC000 + (opInfo c.op).code ∧ r.seq = s.log.seq ∧
      r.payload = [BitVec.ofNat 8 c.tag, BitVec.ofNat 8 (instByte c.op k)] ++ leBytes 4 (cfgHash s.cfg.work c.op k).toNat ++
        leBytes 4 (cfgHash t.cfg.work c.op k).toNat)

end Sys2Proof.Machine
end

