-- ==== Sys2Proof/Certificates/Slice0/Obligations.lean ====
section
/-! DEFINITION. The statements for the provers. A clause about a command says that exec answers a next state on every state that meets its hypotheses, and what that state holds. -/

open Sys2Proof Sys2Proof.Machine

/-- A step runs the command at the front of the queue. For every command c and state s, a step of s with c in front of the waiting commands is exec of c on s with the rest of the queue. The queue is the model's own (log entry 4). Rests on: 95 What each step holds. -/
def Obligations.StepRunsTheFrontCommand : Prop :=
  ∀ (c : Instr) (rest : List Instr) (s : State), step { s with pending := c :: rest } = exec c { s with pending := rest }

/-- A step on an empty queue is one tick of module time. With no command waiting, one tick of 10 ns passes: MT, when it runs, rises by 1 modulo 2^64, and nothing but the clocks of chapter 04 changes. That an empty queue ticks is the model's choice (log entry 4, DESIGN CHOICE). Rests on: R88, 4.1. -/
def Obligations.EmptyQueueStepIsOneTick : Prop :=
  ∀ s : State, s.pending = [] → ∃ t, step s = .next t ∧ SameBut [.time] s t ∧
    t.time.mt = (if s.time.mtRun then (s.time.mt + 1) % 2 ^ 64 else s.time.mt) ∧ t.time.now = s.time.now + 1 ∧ t.time.stg = s.time.stg ∧
    t.time.alarm = s.time.alarm ∧ t.time.emb = s.time.emb ∧ t.time.source = s.time.source

/-- What a command may change: every other part of the state is as before. For each of the 269 commands: when exec answers a next state, every part of the state outside the list mayChange gives for that command is unchanged; the queue of waiting commands is in no list. The parts are the ports, the direct registers, the events, modes and power, the mode with ownership, time, GNSS, filters, Belvedere, Pergola, positioning, allocation, loops, Kiln, duplex, buses, storage, records, handles, subscriptions, the TAP and the count of free values. Rests on: 95 What each step holds, R54, R301. -/
def Obligations.EveryCommandLeavesTheOtherPartsAlone : Prop :=
  ∀ (i : Instr) (s t : State), Steps i s t → SameBut (mayChange i) s t ∧ t.pending = s.pending

/-- Every step keeps ownership as the mode says. For every state in which the module owns its outputs exactly in COMMISSION, CONTROL and SAFE-HOLD (Table 3-1), and for every next state a step answers, the same holds: no command, event or tick moves OWN without the mode or the mode without OWN. Rests on: R69, R80, Table 3-1. -/
def Obligations.EveryStepKeepsOwnershipWithTheMode : Prop :=
  ∀ s t : State, OwnsByMode s → step s = .next t → OwnsByMode t

/-- At reset ownership is as the mode says. The state after reset is in KINDLING and does not own its outputs. Rests on: R69, Table 2-12, Table 3-1. -/
def Obligations.ResetOwnershipIsThatOfKindling : Prop :=
  OwnsByMode State.reset ∧ State.reset.sys.mode = .kindling ∧ State.reset.sys.own = false

/-- The reset values that the spec gives for the direct registers. After reset HP_STAT reads READY 0, MODE KINDLING, RST_SEEN 1, RST_CAUSE 0, CQ_HDR 1, RQ_EMPTY 1, CQ_EMPTY 1 and 0 elsewhere; HP_CQ_LVL reads FREE 1,024 and USED 0; HP_RQ_LVL, HP_ECC, every HP_IRQ and HP_IMSK read 0; the wake budget is 10,000 us; both queues are empty, no tag is outstanding, no handle is open and no stream runs; MT is 0. Rests on: R38, R405, R63, R88, Tables 2-12 to 2-17. -/
def Obligations.ResetValuesOfTheDirectRegisters : Prop :=
  hpStat State.reset = 0x10080015 ∧ hpCqLvl State.reset = 0x04000000 ∧ hpRqLvl State.reset = 0 ∧ hpEcc State.reset.hp.ecc = 0 ∧
  (∀ n : Fin 4, hpIrq State.reset n = 0 ∧ hpImsk State.reset n = 0) ∧ State.reset.hp.wakeBudget = 10000 ∧
  (∀ p : Port, (State.reset.port p).cmdq = [] ∧ (State.reset.port p).rspq = [] ∧ (State.reset.port p).outstanding = [] ∧
    (State.reset.port p).unsolSeq = 0) ∧
  (∀ h : Fin 4, State.reset.bulk[h] = none) ∧ State.reset.subs = [] ∧ State.reset.time.mt = 0 ∧ State.reset.time.source = .none ∧
  State.reset.pending = []

/-- A word written to HP_CMDQ enters the queue at its acknowledge, is withheld while the queue is full, and is gone when the access is abandoned. HP_CMDQ_WRITE with room appends the word to the 1,024-word command queue and acknowledges; with the queue full it is withheld, unacknowledged, and the queue is as before; CMDQ_WRITE_RESUME takes the withheld word once a word has freed; ACCESS_ABANDONED drops it, and no word enters or leaves either queue. The port lies in PD1 and answers while VMAIN is present (R31); without it a write changes nothing. Rests on: R31, R33, R34. -/
def Obligations.HostWordsEnterTheCommandQueueOnlyWhenAcknowledged : Prop :=
  (∀ (w : Word) (e : Ecc) (s : State), s.sys.vmain = true → s.host.held = none → s.host.cmdq.length < 1024 →
    ∃ t, Steps (.hpCmdqWrite w e) s t ∧ t.host.cmdq = s.host.cmdq ++ [{ w := w, ecc := e }] ∧ t.host.held = none ∧ t.hp.acked = true ∧
      t.host.rspq = s.host.rspq ∧ t.host.wrLeft = (if s.host.wrLeft = 0 then fld w 7 0 else s.host.wrLeft - 1)) ∧
  (∀ (w : Word) (e : Ecc) (s : State), s.sys.vmain = true → s.host.held = none → 1024 ≤ s.host.cmdq.length →
    ∃ t, Steps (.hpCmdqWrite w e) s t ∧ SameBut [.host, .hp] s t ∧ t.host = { s.host with held := some { w := w, ecc := e } } ∧
      t.hp = { s.hp with acked := false }) ∧
  (∀ (q : QWord) (s : State), s.sys.vmain = true → s.host.held = some q → s.host.cmdq.length < 1024 →
    ∃ t, Steps .cmdqWriteResume s t ∧ t.host.cmdq = s.host.cmdq ++ [q] ∧ t.host.held = none ∧ t.hp.acked = true ∧ t.host.rspq = s.host.rspq) ∧
  (∀ (w : Word) (e : Ecc) (s : State), s.sys.vmain = false → Steps (.hpCmdqWrite w e) s s ∧ Steps .cmdqWriteResume s s ∧
    ackLine s = .highZ ∧ irqLine 1 s = .highZ ∧ irqLine 2 s = .highZ) ∧
  (∀ s : State, ∃ t, Steps .accessAbandoned s t ∧ SameBut [.host, .hp] s t ∧ t.host = { s.host with held := none } ∧
    t.hp = { s.hp with acked := false })

/-- Reads of HP_RSPQ and HP_ECC, and an access with both strobes low. HP_RSPQ_READ removes and returns the word at the head as stored; an uncorrectable error sets RQ_UE and is counted, a corrected one is counted; on an empty queue it returns 0, removes nothing and sets RQ_UNDER. CONFLICTING_STROBE is acknowledged, sets BUS_ERR, raises EV2 while the firmware interprets commands, and no word enters or leaves a queue. HP_ECC_READ returns the four counters and leaves only the increments made since. Each is so while VMAIN is present, which powers the port (R31). Rests on: R35, R42. -/
def Obligations.HostReadsTakeTheReplyWordAndReportErrors : Prop :=
  (∀ (e : Ecc) (w : Word) (rest : List Word) (s : State), s.sys.vmain = true → s.host.rspq = w :: rest →
    ∃ t, Steps (.hpRspqRead e) s t ∧ t.host.rspq = rest ∧ t.host.cmdq = s.host.cmdq ∧ t.hp.dOut = w ∧ t.hp.acked = true ∧
      t.host.rspLeft = (if s.host.rspLeft = 0 then fld w 7 0 else s.host.rspLeft - 1) ∧
      t.hp.rqUe = (s.hp.rqUe || e == .uncorrectable) ∧
      t.hp.ecc.rqUe = (if e = .uncorrectable then satN 0xFF (s.hp.ecc.rqUe + 1) else s.hp.ecc.rqUe) ∧
      t.hp.ecc.rqCe = (if e = .corrected then satN 0xFF (s.hp.ecc.rqCe + 1) else s.hp.ecc.rqCe) ∧
      t.hp.ecc.cqUe = s.hp.ecc.cqUe ∧ t.hp.ecc.cqCe = s.hp.ecc.cqCe) ∧
  (∀ (e : Ecc) (s : State), s.sys.vmain = true → s.host.rspq = [] →
    ∃ t, Steps (.hpRspqRead e) s t ∧ SameBut [.hp] s t ∧ t.hp = { s.hp with acked := true, rqUnder := true, dOut := 0 }) ∧
  (∀ s : State, s.sys.vmain = true → s.hp.ready = true →
    ∃ t, Steps .conflictingStrobe s t ∧ t.hp = { s.hp with busErr := true, acked := true } ∧ t.host.cmdq = s.host.cmdq ∧
      t.host.rspq = s.host.rspq ∧ t.host.held = s.host.held ∧ Occurred 2 3 s t ∧ EventsBut [2, 120] s t) ∧
  (∀ (late : EccCounts) (s : State), s.sys.vmain = true → late.cqUe ≤ 255 → late.rqUe ≤ 255 → late.cqCe ≤ 255 → late.rqCe ≤ 255 →
    ∃ t, Steps (.hpEccRead late) s t ∧ SameBut [.hp] s t ∧ t.hp = { s.hp with acked := true, dOut := hpEcc s.hp.ecc, ecc := late })

/-- Writes of HP_WAKE, HP_STAT, HP_IRQ, HP_IMSK, the staging registers and the backup memory. While VMAIN is present, which powers the port: HP_WAKE_WRITE in range 1 to 10,000,000 sets the budget, out of range it changes only WAKE_REJ. HP_STAT_CLEAR clears exactly the W1C bits written with 1, and sets those that the module sets during the access. HP_IRQ_CLEAR does so for the 32 pending bits of the register, EV0 pending again while reply words remain; HP_IMSK_WRITE writes the 32 enables. REGISTER_WRITE writes a staging register or a backup word; at the address of a register with a row of its own it is that row, with no bit set during the access; at any other address (the numbers are word addresses A[9:2]) it changes nothing but the acknowledge. Rests on: R6, R7, R31, R32, R63, R64, R65, R105, Tables 2-12, 2-16, 2-17, 2-18. -/
def Obligations.WritesToTheDirectRegistersDoWhatTheirAccessCodesSay : Prop :=
  (∀ (v : Word) (s : State), s.sys.vmain = true → 1 ≤ fld v 23 0 → fld v 23 0 ≤ 10000000 →
    ∃ t, Steps (.hpWakeWrite v) s t ∧ t.hp = { s.hp with wakeBudget := fld v 23 0, acked := true } ∧ SameBut [.hp, .sys] s t) ∧
  (∀ (v : Word) (s : State), s.sys.vmain = true → fld v 23 0 = 0 ∨ 10000000 < fld v 23 0 →
    ∃ t, Steps (.hpWakeWrite v) s t ∧ t.hp = { s.hp with wakeRej := true, acked := true } ∧ SameBut [.hp] s t) ∧
  (∀ (v d : Word) (s : State), s.sys.vmain = true → ∃ t, Steps (.hpStatClear v d) s t ∧ SameBut [.hp] s t ∧ t.hp = { s.hp with
      acked := true
      rstSeen := (s.hp.rstSeen && !bit v 19) || bit d 19
      wakeRej := (s.hp.wakeRej && !bit v 9) || bit d 9
      busErr := (s.hp.busErr && !bit v 8) || bit d 8
      rqUe := (s.hp.rqUe && !bit v 7) || bit d 7
      rqUnder := (s.hp.rqUnder && !bit v 6) || bit d 6
      cqFlush := (s.hp.cqFlush && !bit v 5) || bit d 5 }) ∧
  (∀ (n : Fin 4) (v d : Word) (s : State), s.sys.vmain = true → ∃ t, Steps (.hpIrqClear n v d) s t ∧ SameBut [.hp, .ev] s t ∧
    t.hp = { s.hp with acked := true } ∧ t.ev.heldNotices = s.ev.heldNotices ∧
    ∀ i : Fin 128, t.ev.src[i] = { s.ev.src[i] with pend :=
      if i.val / 32 = n.val then ((s.ev.src[i]).pend && !bit v (i.val % 32)) || bit d (i.val % 32) || (i.val == 0 && !s.host.rspq.isEmpty)
      else (s.ev.src[i]).pend }) ∧
  (∀ (n : Fin 4) (v : Word) (s : State), s.sys.vmain = true → ∃ t, Steps (.hpImskWrite n v) s t ∧ SameBut [.hp, .ev] s t ∧
    t.hp = { s.hp with acked := true } ∧ t.ev.heldNotices = s.ev.heldNotices ∧
    ∀ i : Fin 128, t.ev.src[i] = { s.ev.src[i] with mask := if i.val / 32 = n.val then bit v (i.val % 32) else (s.ev.src[i]).mask }) ∧
  (∀ (a : BitVec 8) (i : Fin 7) (v : Word) (s : State), s.sys.vmain = true → a.toNat = 24 + i.val →
    ∃ t, Steps (.registerWrite a v) s t ∧ SameBut [.hp, .time] s t ∧ t.hp = { s.hp with acked := true } ∧
      t.time = { s.time with stg := s.time.stg.set i (v.toNat % 2 ^ stgWidth.getD i.val 0) }) ∧
  (∀ (a : BitVec 8) (i : Fin 16) (v : Word) (s : State), s.sys.vmain = true → a.toNat = 32 + i.val →
    ∃ t, Steps (.registerWrite a v) s t ∧ SameBut [.hp, .time] s t ∧ t.hp = { s.hp with acked := true } ∧
      t.time = { s.time with emb := s.time.emb.set i v }) ∧
  (∀ (v : Word) (s : State), exec (.registerWrite 1 v) s = exec (.hpStatClear v 0) s ∧ exec (.registerWrite 2 v) s = exec (.hpCmdqWrite v .ok) s ∧
    exec (.registerWrite 7 v) s = exec (.hpWakeWrite v) s ∧ exec (.registerWrite 23 v) s = exec (.rtcCtlClear v 0) s) ∧
  (∀ (n : Fin 4) (a b : BitVec 8) (v : Word) (s : State), a.toNat = 8 + n.val → b.toNat = 12 + n.val →
    exec (.registerWrite a v) s = exec (.hpIrqClear n v 0) s ∧ exec (.registerWrite b v) s = exec (.hpImskWrite n v) s) ∧
  (∀ (a : BitVec 8) (v : Word) (s : State), s.sys.vmain = true →
    a.toNat = 0 ∨ (3 ≤ a.toNat ∧ a.toNat ≤ 6) ∨ (16 ≤ a.toNat ∧ a.toNat ≤ 22) ∨ a.toNat = 31 ∨ 48 ≤ a.toNat →
    ∃ t, Steps (.registerWrite a v) s t ∧ SameBut [.hp] s t ∧ t.hp = { s.hp with acked := true })

/-- Intake of a command packet: accepted, rejected by the first header check that fails, flushed or cut. With the firmware interpreting, no packet accepted and room for its replies, COMMAND_INTAKE takes the whole packet at the head of the queue. If the header checks of Table 2-7 pass, the packet is accepted with its payload and its tag is outstanding with its reservation; if one fails, the class 3 reply with that status and detail is placed and no tag is taken; an uncorrectable header flushes the queue. PACKET_TIMEOUT ends the packet being written: the next word is a header, and a packet whose header passes the checks is rejected with PACKET_TIMEOUT and the number of payload words received. Rests on: R36, R41, R43, R45, R49, Table 2-7. -/
def Obligations.PacketsAreTakenInOrderAndCheckedBeforeAcceptance : Prop :=
  (∀ (p : Port) (hd : QWord) (rest : List QWord) (op : Op) (s : State), s.hp.ready = true → s.sys.dom[0] = .on → (s.port p).accepted = none →
    (s.port p).cmdq = hd :: rest → hd.ecc = .ok → hd.cut = none → fld hd.w 7 0 ≤ rest.length → reservation hd.w ≤ storeRoom (s.port p) →
    headCheck p hd.w ((rest.take (fld hd.w 7 0)).map fun q => q.w) s = none → opOfCode (fld hd.w 31 20) = some op → standbyRefuses op s = false →
    ∃ t c, Steps (.commandIntake p) s t ∧ (t.port p).accepted = some c ∧ c.op = op ∧ c.tag = fld hd.w 15 8 ∧
      c.words = (rest.take (fld hd.w 7 0)).map (fun q => q.w) ∧ (t.port p).cmdq = rest.drop (fld hd.w 7 0) ∧
      (t.port p).outstanding = (s.port p).outstanding ++
        [{ tag := fld hd.w 15 8, op := op, resv := (if (opInfo op).long then 2 else 0) + 2 + (opInfo op).extra }]) ∧
  (∀ (p : Port) (hd : QWord) (rest : List QWord) (st d : Nat) (s : State), s.hp.ready = true → s.sys.dom[0] = .on →
    (s.port p).accepted = none → (s.port p).cmdq = hd :: rest → hd.ecc = .ok → hd.cut = none → fld hd.w 7 0 ≤ rest.length →
    reservation hd.w ≤ storeRoom (s.port p) → headCheck p hd.w ((rest.take (fld hd.w 7 0)).map fun q => q.w) s = some (st, d) →
    ∃ t before, Steps (.commandIntake p) s t ∧ (t.port p).accepted = none ∧ (t.port p).outstanding = (s.port p).outstanding ∧
      (t.port p).cmdq = rest.drop (fld hd.w 7 0) ∧
      (t.port p).store = before ++ [{ words := packet (fld hd.w 31 20) 3 (fld hd.w 15 8) st d [] }]) ∧
  (∀ (hd : QWord) (rest : List QWord) (s : State), s.hp.ready = true → s.sys.dom[0] = .on → s.host.accepted = none →
    s.host.cmdq = hd :: rest → hd.ecc = .uncorrectable →
    ∃ t, Steps (.commandIntake .host) s t ∧ t.host.cmdq = [] ∧ t.host.wrLeft = 0 ∧ t.hp.cqFlush = true ∧ t.host.accepted = none ∧
      t.host.outstanding = s.host.outstanding ∧ Occurred 2 2 s t) ∧
  (∀ (p : Port) (hd : QWord) (pay : List QWord) (op : Op) (s : State), s.hp.ready = true → s.sys.dom[0] = .on → (s.port p).accepted = none →
    (s.port p).cmdq = hd :: pay → (s.port p).wrHave = pay.length → (s.port p).wrLeft ≠ 0 → (s.port p).held = none → hd.ecc = .ok →
    reservation hd.w ≤ storeRoom (s.port p) → headCheck p hd.w (pay.map fun q => q.w) s = none → opOfCode (fld hd.w 31 20) = some op →
    standbyRefuses op s = false →
    ∃ t before, Steps (.packetTimeout p) s t ∧ (t.port p).wrLeft = 0 ∧ (t.port p).cmdq = [] ∧ (t.port p).accepted = none ∧
      (t.port p).store = before ++
        [{ words := packet (opInfo op).code 3 (fld hd.w 15 8) 0xF018 pay.length [], frees := true }])

/-- Transfer of replies to the host and to the tool, the report of lost packets, and the handle time-out. REPLY_TRANSFER moves the packet at the head of the host reply store whole behind the words of HP_RSPQ when it fits its 1,024 words, and frees the tag of a final reply; a packet that does not fit stays, whole. For the maintenance port the packet becomes the words on their way to the tool. A rise of AVAIL from 0 is one occurrence of EV0. UNSOL_LOST raises EV15 with the port and the count of packets discarded and restarts the count, once its notice would fit. BULK_HANDLE_TIMEOUT closes the handle alone, not before its 10 s have passed. Rests on: R51. -/
def Obligations.RepliesMoveWholeIntoTheReplyQueue : Prop :=
  (∀ (k : Pkt) (rest : List Pkt) (s : State), s.host.store = k :: rest → s.host.rspq.length + k.words.length ≤ 1024 →
    ∃ t more, Steps (.replyTransfer .host) s t ∧ t.host.rspq = s.host.rspq ++ k.words ∧ t.host.store = rest ++ more ∧
      t.host.outstanding = (if k.frees then s.host.outstanding.filter (fun o => o.tag != fld (k.words.headD 0) 15 8) else s.host.outstanding) ∧
      (s.host.rspq = [] → s.hp.ready = true → Occurred 0 0 s t)) ∧
  (∀ (k : Pkt) (rest : List Pkt) (s : State), s.host.store = k :: rest → 1024 < s.host.rspq.length + k.words.length →
    Steps (.replyTransfer .host) s s) ∧
  (∀ (k : Pkt) (rest : List Pkt) (s : State), s.maint.store = k :: rest → s.maint.rspq = [] → maintOn s = false →
    ∃ t, Steps (.replyTransfer .maint) s t ∧ SameBut [.maint, .mnt] s t ∧ t.maint.rspq = k.words ∧ t.maint.store = rest) ∧
  (∀ (p : Port) (s : State), s.hp.ready = true → (s.port p).lost ≠ 0 → 5 ≤ storeRoom (s.port p) →
    ∃ t, Steps (.unsolLost p) s t ∧ Occurred 15 (portNum p * 256 + satN 255 (s.port p).lost) s t ∧ EventsBut [15, 120] s t ∧
      ((s.ev.src[15]).noticeHost = false → (s.ev.src[15]).noticeMaint = false → (s.ev.src[120]).noticeHost = false →
        (s.ev.src[120]).noticeMaint = false → (t.port p).lost = 0)) ∧
  (∀ (h : Fin 4) (x : Handle) (s : State), s.bulk[h] = some x →
    ∃ t, Steps (.bulkHandleTimeout h) s t ∧ SameBut [.time, .bulk] s t ∧ t.bulk[h] = none ∧ (∀ j : Fin 4, j ≠ h → t.bulk[j] = s.bulk[j]) ∧
      (s.time.mtRun = true → s.time.mt < 2 ^ 64 → x.last + 1000000000 < 2 ^ 64 → x.last + 1000000000 ≤ t.time.mt))

/-- The calendar clock window: frozen reads, commits, the calendar check, the W1C bits, the load. A first RTC_SHADOW_READ freezes the shadows at the live time and returns its register; while they are frozen it returns the frozen time; RTC_YEAR_READ returns the year of the same time and ends the freeze; RTC_FREEZE_TIMEOUT ends it, sets STALE and raises EV23. RTC_COMMIT captures the staged time when it passes the calendar check and leaves the clock running, else nothing of Ember changes and EV19 is raised. RTC_CTL_CLEAR without COMMIT clears exactly the W1C bits written with 1 and sets those that the module sets during the access. RTC_LOAD puts the captured time into the clock, and each alarm then waits for an instant after it. The accesses are those of a port that VMAIN powers. Rests on: R93, R95, R97, R7, Table 2-18. -/
def Obligations.CalendarRegistersReadCoherentlyAndCommitWhole : Prop :=
  (∀ (r : Fin 6) (s : State), s.sys.vmain = true → s.time.frozen = none →
    ∃ t, Steps (.rtcShadowRead r) s t ∧ SameBut [.hp, .time] s t ∧ t.time = { s.time with shadow := s.time.rtc, frozen := some s.time.mt } ∧
      t.hp = { s.hp with acked := true, dOut := ofN ((rtcFields s.time.rtc).getD r.val 0) }) ∧
  (∀ (r : Fin 6) (s : State), s.sys.vmain = true → s.time.frozen ≠ none →
    ∃ t, Steps (.rtcShadowRead r) s t ∧ SameBut [.hp] s t ∧
      t.hp = { s.hp with acked := true, dOut := ofN ((rtcFields s.time.shadow).getD r.val 0) }) ∧
  (∀ s : State, s.sys.vmain = true → s.time.frozen ≠ none →
    ∃ t, Steps .rtcYearRead s t ∧ SameBut [.hp, .time] s t ∧ t.time = { s.time with frozen := none } ∧
      t.hp = { s.hp with acked := true, dOut := ofN ((rtcFields s.time.shadow).getD 6 0) }) ∧
  (∀ (m : Nat) (s : State), s.time.frozen = some m → s.hp.ready = true →
    ∃ t, Steps .rtcFreezeTimeout s t ∧ t.time.frozen = none ∧ t.time.stale = true ∧ t.time.shadow = s.time.shadow ∧ Occurred 23 0 s t ∧
      EventsBut [23, 120] s t) ∧
  (∀ (v : Nat) (s : State), s.sys.vmain = true → stagedTime s.time = some v →
    ∃ t, Steps .rtcCommit s t ∧ t.hp = { s.hp with acked := true } ∧
      t.time = { s.time with load := some { val := v, source := 0x80, at_ := s.time.now } }) ∧
  (∀ s : State, s.sys.vmain = true → stagedTime s.time = none → s.hp.ready = true →
    ∃ t, Steps .rtcCommit s t ∧ t.hp = { s.hp with acked := true } ∧ t.time = s.time ∧ Occurred 19 0 s t ∧ EventsBut [19, 120] s t) ∧
  (∀ (v d : Word) (s : State), s.sys.vmain = true → bit v 0 = false →
    ∃ t, Steps (.rtcCtlClear v d) s t ∧ SameBut [.hp, .time] s t ∧ t.hp = { s.hp with acked := true } ∧
      t.time.stale = ((s.time.stale && !bit v 1) || bit d 1) ∧ t.time.rtc = s.time.rtc ∧ t.time.load = s.time.load ∧
      ∀ i : Fin 2, t.time.alarm[i] = { s.time.alarm[i] with
        fired := ((s.time.alarm[i]).fired && !bit v (3 + i.val)) || bit d (3 + i.val)
        skip := ((s.time.alarm[i]).skip && !bit v (5 + i.val)) || bit d (5 + i.val) }) ∧
  (∀ (l : RtcLoad) (s : State), s.time.load = some l →
    ∃ t, Steps .rtcLoad s t ∧ t.time.rtc = l.val ∧ t.time.load = none ∧ t.time.stg = s.time.stg ∧ t.time.emb = s.time.emb ∧
      ∀ i : Fin 2, (t.time.alarm[i]).from_ = l.val + 1)

/-- Calendar alarms and the commands that set the clock and the alarms. ALARM_FIRE on an armed alarm with a next instant, the first that it has not noticed, notices it, sets its fired bit, disarms a one-shot, keeps a daily alarm armed and raises EV16 or EV17 while VMAIN is present and the firmware runs; the other alarm is unchanged. TIME_SET_ALARM in order sets that alarm alone (KIND 0 off, 1 one-shot, 2 daily) and answers OK; a one-shot that is not in the future is refused with 0x1012. TIME_SET_RTC at once (basic form) with a valid calendar time answers PENDING and captures that time for the command; an invalid date is BAD_VALUE at word 0 and nothing of Ember changes. TIME_GET_ALARM returns the alarm as set. Rests on: R100, R101, R102, R423, R96. -/
def Obligations.AlarmsFireAndClockCommandsSetWhatTheyCarry : Prop :=
  (∀ (a : Fin 2) (m : Nat) (s : State), (s.time.alarm[a]).armed = true → alarmNext s.time.alarm[a] (if s.time.rtc + 1 < (s.time.alarm[a]).from_ then 0 else (s.time.alarm[a]).from_) = some m → s.sys.vmain = true →
    s.hp.ready = true →
    ∃ t, Steps (.alarmFire a) s t ∧ (t.time.alarm[a]).fired = true ∧ (t.time.alarm[a]).armed = ((s.time.alarm[a]).kind == 2) ∧
      (t.time.alarm[a]).time = (s.time.alarm[a]).time ∧ (t.time.alarm[a]).from_ = (m + 1) % rtcSpan ∧ (∀ b : Fin 2, b ≠ a → t.time.alarm[b] = s.time.alarm[b]) ∧
      Occurred (if a.val = 0 then 16 else 17) 0 s t) ∧
  (∀ (p : Port) (c : Cmd) (s : State), Heard p c s → c.op = .timeSetAlarm → fld (wd c.words 0) 9 8 = 0 →
    ∃ t, Steps (.timeSetAlarm p) s t ∧ SameBut [.host, .maint, .sys, .time] s t ∧ Replied p c 0 0 0 [] t ∧
      ∀ i : Fin 2, t.time.alarm[i] = if i.val = b2n (bit (wd c.words 0) 0) then { s.time.alarm[i] with kind := 0, armed := false, date := 0, time := 0, from_ := s.time.rtc + 1 }
        else s.time.alarm[i]) ∧
  (∀ (p : Port) (c : Cmd) (s : State), Heard p c s → c.op = .timeSetAlarm → fld (wd c.words 0) 9 8 = 1 ∨ fld (wd c.words 0) 9 8 = 2 →
    (fld (wd c.words 0) 9 8 = 1 → validDate (fld (wd c.words 1) 31 16) (fld (wd c.words 1) 15 8) (fld (wd c.words 1) 7 0) = true ∧
      s.time.rtc < alarmInstant (wd c.words 1) (wd c.words 2)) →
    wd c.words 2 &&& 0xFFE0C0C0 = 0 → validTime (fld (wd c.words 2) 20 16) (fld (wd c.words 2) 13 8) (fld (wd c.words 2) 5 0) = true →
    ∃ t, Steps (.timeSetAlarm p) s t ∧ SameBut [.host, .maint, .sys, .time] s t ∧ Replied p c 0 0 0 [] t ∧
      ∀ i : Fin 2, t.time.alarm[i] = if i.val = b2n (bit (wd c.words 0) 0) then { s.time.alarm[i] with
          kind := fld (wd c.words 0) 9 8, armed := true, date := (if fld (wd c.words 0) 9 8 = 1 then wd c.words 1 else 0), time := wd c.words 2, from_ := s.time.rtc + 1 }
        else s.time.alarm[i]) ∧
  (∀ (p : Port) (c : Cmd) (s : State), Heard p c s → c.op = .timeSetAlarm → fld (wd c.words 0) 9 8 = 1 →
    validDate (fld (wd c.words 1) 31 16) (fld (wd c.words 1) 15 8) (fld (wd c.words 1) 7 0) = true →
    wd c.words 2 &&& 0xFFE0C0C0 = 0 → validTime (fld (wd c.words 2) 20 16) (fld (wd c.words 2) 13 8) (fld (wd c.words 2) 5 0) = true →
    alarmInstant (wd c.words 1) (wd c.words 2) ≤ s.time.rtc →
    ∃ t, Steps (.timeSetAlarm p) s t ∧ SameBut [.host, .maint, .sys] s t ∧ Replied p c 3 0x1012 0 [] t) ∧
  (∀ (p : Port) (c : Cmd) (s : State), Heard p c s → c.op = .timeSetRtc → c.expert = false → s.time.load = none →
    validDate (fld (wd c.words 0) 31 16) (fld (wd c.words 0) 15 8) (fld (wd c.words 0) 7 0) = true →
    validTime (fld (wd c.words 1) 20 16) (fld (wd c.words 1) 13 8) (fld (wd c.words 1) 5 0) = true →
    ∃ t, Steps (.timeSetRtc p) s t ∧ SameBut [.host, .maint, .time] s t ∧ Accepted p c 1 s t ∧ t.time = { s.time with load := some {
      val := rtcTicks (fld (wd c.words 0) 31 16) (fld (wd c.words 0) 15 8) (fld (wd c.words 0) 7 0) (fld (wd c.words 1) 20 16)
        (fld (wd c.words 1) 13 8) (fld (wd c.words 1) 5 0) (fld (wd c.words 2) 14 0)
      source := 0x80 + portNum p, at_ := s.time.now, cmd := some (p, c.tag) } }) ∧
  (∀ (p : Port) (c : Cmd) (s : State), Heard p c s → c.op = .timeSetRtc → c.expert = false →
    validDate (fld (wd c.words 0) 31 16) (fld (wd c.words 0) 15 8) (fld (wd c.words 0) 7 0) = false →
    ∃ t, Steps (.timeSetRtc p) s t ∧ SameBut [.host, .maint, .sys] s t ∧ Replied p c 3 0xF016 0 [] t) ∧
  (∀ (p : Port) (c : Cmd) (i : Fin 2) (s : State), Heard p c s → c.op = .timeGetAlarm → i.val = b2n (bit (wd c.words 0) 0) →
    ∃ t, Steps (.timeGetAlarm p) s t ∧ SameBut [.host, .maint, .sys] s t ∧ Replied p c 0 0 0
      [pk [(b2n (s.time.alarm[i]).armed, 16), ((s.time.alarm[i]).kind, 8), (i.val, 0)], (s.time.alarm[i]).date, (s.time.alarm[i]).time] t)

/-- The time source, the pulse, holdover, the return of a solution, and commands that wait for a pulse. TIME_SOLUTION_LOSS with no baseband keeping a solution takes the source from GNSS to HOLDOVER, dates the holdover at MT and raises EV21 with code 2. TIME_SOLUTION_RETURN of a solution that may set the time takes it to GNSS: from NONE at once, on the second the solution names at the antenna; from HOLDOVER with a phase error of at most 2 us by a slew of that error, with a larger one by a step planned for the next second. HOLDOVER_LIMIT raises EV22 once. PPS_EDGE with a step planned ends the holdover, takes the figure of the solution and raises EV20 with the step in microseconds; else it is a rising edge at MT on the second that the measured TCXO rate gives: TOW counts on, the pulse lasts 100 ms, and a slew is worked off by at most 50 ns (no command waiting). PPS_MISSED_TIMEOUT answers 0x1013 to the oldest waiting command alone. The unit of phases is 10^-12 s. Rests on: R100, R108, R109, R111, R112, R374, Table 4-6. -/
def Obligations.TimeSourceFollowsTheSolution : Prop :=
  (∀ s : State, s.time.source = .gnss → s.time.step = none → s.hp.ready = true → (∀ b : Fin 2, (s.gnss.bb[b]).timeOk = false) →
    ∃ t, Steps .timeSolutionLoss s t ∧ t.time.source = .holdover ∧ t.time.holdSince = some s.time.mt ∧ t.time.slew = 0 ∧ t.time.sats = 0 ∧
      t.time.errNs = timeErr s.time ∧ Occurred 21 2 s t ∧ EventsBut [21, 120] s t) ∧
  (∀ (x : TimeSol) (s : State), s.time.source = .none → timeAllowed s x.bb ((s.gnss.bb[x.bb]).fix != 0) = true → s.hp.ready = true →
    ∃ t, Steps (.timeSolutionReturn x) s t ∧ t.time.source = .gnss ∧ t.time.tow = x.tow ∧ t.time.errNs = x.errNs ∧
      t.time.ppsAt = (atAntenna s x).sec ∧ Occurred 21 1 s t) ∧
  (∀ (x : TimeSol) (s : State), s.time.source = .holdover → timeAllowed s x.bb ((s.gnss.bb[x.bb]).fix != 0) = true →
    (phaseError (atAntenna s x) s.time).natAbs ≤ 2000000 → s.hp.ready = true →
    ∃ t, Steps (.timeSolutionReturn x) s t ∧ t.time.source = .gnss ∧ t.time.slew = rne (phaseError (atAntenna s x) s.time) 1000 ∧
      t.time.holdSince = none ∧ t.time.step = s.time.step ∧ Occurred 21 1 s t) ∧
  (∀ (x : TimeSol) (s : State), s.time.source = .holdover → timeAllowed s x.bb ((s.gnss.bb[x.bb]).fix != 0) = true →
    2000000 < (phaseError (atAntenna s x) s.time).natAbs → s.hp.ready = true →
    ∃ t, Steps (.timeSolutionReturn x) s t ∧ t.time.source = .gnss ∧ t.time.slew = s.time.slew ∧
      t.time.step = some (phaseError (atAntenna s x) s.time, x.errNs) ∧ Occurred 21 1 s t) ∧
  (∀ (x : TimeSol) (s : State), timeAllowed s x.bb ((s.gnss.bb[x.bb]).fix != 0) = false → Steps (.timeSolutionReturn x) s s) ∧
  (∀ (m : Nat) (s : State), s.time.holdSince = some m → s.time.source = .holdover → s.time.holdRaised = false → s.hp.ready = true →
    ∃ t, Steps .holdoverLimit s t ∧ t.time.holdRaised = true ∧ t.time.source = .holdover ∧ Occurred 22 0 s t ∧ EventsBut [22, 120] s t) ∧
  (∀ (e : Int) (n : Nat) (s : State), s.time.source = .gnss ∨ s.time.source = .holdover → s.time.step = some (e, n) → s.hp.ready = true →
    ∃ t, Steps .ppsEdge s t ∧ t.time.step = none ∧ t.time.holdSince = none ∧ t.time.errNs = n ∧
      Occurred 20 (BitVec.ofInt 16 (clampI (-32767) 32767 (rne e 1000000))).toNat s t ∧ EventsBut [20, 120] s t) ∧
  (∀ s : State, s.time.source = .gnss ∨ s.time.source = .holdover → s.time.step = none → s.time.ppsWait = [] →
    ∃ t, Steps .ppsEdge s t ∧ SameBut [.time] s t ∧ t.time.mtPps = t.time.mt ∧ t.time.ppsHigh = some (t.time.mt + 10000000) ∧
      t.time.tow = (s.time.tow + ppsCount s.time) % 604800 ∧ t.time.slew = s.time.slew - clampI (-50) 50 s.time.slew ∧
      t.time.ppsAt = s.time.ppsAt + ppsCount s.time * ppsSecond s.time.fErr + clampI (-50) 50 s.time.slew * 1000 + s.time.offset ∧
      t.time.rtc = (advanceTo (ppsDue s.time) s).time.rtc) ∧
  (∀ (w : PpsWait) (ws : List PpsWait) (op : Op) (s : State), s.time.ppsWait = w :: ws → Waits w.port w.tag op s →
    ∃ t, Steps .ppsMissedTimeout s t ∧ Answered w.port w.tag op 0 0x1013 0 [] t ∧ t.time.ppsWait = ws ∧ t.time.load = s.time.load)

/-- SYS_SET_MODE, SYS_SET_WAKE, SYS_ABORT and SYS_GET_ID. SYS_SET_MODE with a reason of Table 3-3 against it answers PENDING and then TRANSITION_REFUSED with the first such reason, and the mode, ownership and any change in progress stay; with none it starts the change, whose commit waits for a frame boundary, so that MODE and OWN are as before, or, from CONTROL with a ready partner, the transfer to the partner. SYS_SET_WAKE sets the budget. SYS_ABORT answers NOT_FOUND for a tag that is not outstanding and ALREADY_COMPLETE past the commit point, both without effect, and else places ABORTED for the named tag and for itself. SYS_GET_ID returns the identity of Table 18-4. Rests on: R53, R63, R71, R72, R343, R421, R419, Tables 2-8, 3-3, 18-4. -/
def Obligations.SystemCommandsSetTheModeTheBudgetAndAbort : Prop :=
  (∀ (p : Port) (c : Cmd) (m : Mode) (s : State), Heard p c s → c.op = .sysSetMode → modeOf (fld (wd c.words 0) 2 0) = some m →
    modeRefusal s m (bit (wd c.words 0) 8) ≠ 0 →
    ∃ t, Steps (.sysSetMode p) s t ∧ Replied p c 3 0x0110 (modeRefusal s m (bit (wd c.words 0) 8)) [] t ∧ SameBut [.host, .maint, .sys] s t ∧
      t.sys.mode = s.sys.mode ∧ t.sys.own = s.sys.own ∧ t.sys.modeReq = s.sys.modeReq) ∧
  (∀ (p : Port) (c : Cmd) (m : Mode) (s : State), Heard p c s → c.op = .sysSetMode → modeOf (fld (wd c.words 0) 2 0) = some m →
    modeRefusal s m (bit (wd c.words 0) 8) = 0 → s.sys.mode ≠ .control ∨ s.duplex = false ∨ partnerReady s = false →
    ∃ t, Steps (.sysSetMode p) s t ∧
      Accepted p c (cdiv ((if s.sys.mode = .dormant then wakeLeft s else 0) + entryUs s.sys.mode m + 10000) 1000) s t ∧
      SameBut [.host, .maint, .sys] s t ∧ t.sys.mode = s.sys.mode ∧ t.sys.own = s.sys.own ∧
      t.sys.modeReq = some { target := m, kind := 0, detail := 0, cmd := some (p, c.tag)
                             due := s.time.mt + ((if s.sys.mode = .dormant then wakeLeft s else 0) + entryUs s.sys.mode m) * 100 }) ∧
  (∀ (p : Port) (c : Cmd) (m : Mode) (s : State), Heard p c s → c.op = .sysSetMode → modeOf (fld (wd c.words 0) 2 0) = some m →
    modeRefusal s m (bit (wd c.words 0) 8) = 0 → s.sys.mode = .control → s.duplex = true → partnerReady s = true →
    ∃ t, Steps (.sysSetMode p) s t ∧ Accepted p c 40 s t ∧ SameBut [.host, .maint, .dpx] s t ∧ t.dpx.transfer = true ∧
      t.dpx.transferDormant = true ∧ t.dpx.transferCmd = some (p, c.tag)) ∧
  (∀ (p : Port) (c : Cmd) (s : State), Heard p c s → c.op = .sysSetWake →
    ∃ t, Steps (.sysSetWake p) s t ∧ Replied p c 0 0 0 [] t ∧ SameBut [.host, .maint, .hp, .sys] s t ∧
      t.hp = { s.hp with wakeBudget := fld (wd c.words 0) 23 0 }) ∧
  (∀ (p : Port) (c : Cmd) (s : State), Heard p c s → c.op = .sysAbort → findTag (s.port p) (fld (wd c.words 0) 7 0) = none →
    ∃ t, Steps (.sysAbort p) s t ∧ Replied p c 0 0xF022 (fld (wd c.words 0) 7 0) [] t ∧ SameBut [.host, .maint, .sys] s t) ∧
  (∀ (p : Port) (c : Cmd) (o : Outst) (s : State), Heard p c s → c.op = .sysAbort → findTag (s.port p) (fld (wd c.words 0) 7 0) = some o →
    (opInfo o.op).long = true → o.done = false → o.committed = true →
    ∃ t, Steps (.sysAbort p) s t ∧ Replied p c 0 0xF021 (fld (wd c.words 0) 7 0) [] t ∧ SameBut [.host, .maint, .sys] s t) ∧
  (∀ (p : Port) (c : Cmd) (o : Outst) (s : State), Heard p c s → c.op = .sysAbort → findTag (s.port p) (fld (wd c.words 0) 7 0) = some o →
    (opInfo o.op).long = true → o.done = false → o.committed = false → notAbortable p o s = false →
    isCommit p (fld (wd c.words 0) 7 0) s = false →
    ∃ t, Steps (.sysAbort p) s t ∧ Replied p c 0 0xF020 (fld (wd c.words 0) 7 0) [] t ∧
      Answered p (fld (wd c.words 0) 7 0) o.op 3 0xF020 (fld (wd c.words 0) 7 0) (ticketWords p (fld (wd c.words 0) 7 0) s) t ∧ t.log = s.log ∧ t.sys.mode = s.sys.mode ∧
      t.kiln = s.kiln ∧ t.alloc = s.alloc) ∧
  (∀ (p : Port) (c : Cmd) (i : Fin 2) (s : State), Heard p c s → c.op = .sysGetId → s.sys.running = some i →
    ∃ t, Steps (.sysGetId p) s t ∧ SameBut [.host, .maint, .sys] s t ∧ Replied p c 0 0 0 ([hpId] ++ w64 Config.serial.toNat ++
      [Config.fwVersion i, pk [(Config.mirrorVer.toNat, 16), (Config.cfgFormat.toNat, 8), (i.val, 0)], ofN (s.sys.images[i]).gen,
        ofN (Config.baseWeek i).toNat]) t)

/-- The bulk commands and the end of a firmware programming. BULK_OPEN of an object to the module takes the lowest free handle and returns its number; with four open it is refused with HANDLES_FULL. BULK_WRITE takes the expected block of exactly the words still due, up to 254, and counts the block; any other block number is BULK_SEQUENCE with the number expected, and the data stand. BULK_READ returns up to 253 words of the copy from its block on. BULK_CLOSE of an object to the module closes the handle: short of its length, or with another CRC, nothing is applied and the final reply says which. FW_PROGRAM_COMPLETE with a good read-back marks the programmed image valid with its generation and answers OK. Every command that names an open handle restarts its 10 s. Rests on: R56, R57, R454, R58, R59, R434, R435. -/
def Obligations.BulkHandlesMoveWholeObjects : Prop :=
  (∀ (p : Port) (c : Cmd) (r : KindRow) (i : Fin 4) (s : State), Heard p c s → c.op = .bulkOpen → openCheck c s = none →
    kindRow (fld (wd c.words 0) 31 16) = some r → r.fromMod = false → bit (wd c.words 1) 0 = false → (wd c.words 2).toNat ≤ r.len →
    (fld (wd c.words 0) 31 16 = 0x20 → (s.dpc.fn == 4) = false) → s.bulk[i] = none → (∀ j : Fin 4, j < i → s.bulk[j] ≠ none) →
    ∃ t, Steps (.bulkOpen p) s t ∧ Replied p c 0 0 0 [ofN (i.val + 1), 0, 0] t ∧ (∀ j : Fin 4, j ≠ i → t.bulk[j] = s.bulk[j]) ∧
      SameBut [.host, .maint, .sys, .bulk] s t ∧
      t.bulk[i] = some { port := p, kind := fld (wd c.words 0) 31 16, inst := fld (wd c.words 0) 15 0, fromMod := false, len := (wd c.words 2).toNat
                         crc := wd c.words 3, data := [], next := 0, last := s.time.mt }) ∧
  (∀ (p : Port) (c : Cmd) (r : KindRow) (s : State), Heard p c s → c.op = .bulkOpen → openCheck c s = none →
    kindRow (fld (wd c.words 0) 31 16) = some r → r.fromMod = false → bit (wd c.words 1) 0 = false → (wd c.words 2).toNat ≤ r.len →
    (fld (wd c.words 0) 31 16 = 0x20 → (s.dpc.fn == 4) = false) → (∀ j : Fin 4, s.bulk[j] ≠ none) →
    ∃ t, Steps (.bulkOpen p) s t ∧ Replied p c 3 0xF034 4 [] t ∧ SameBut [.host, .maint, .sys] s t) ∧
  (∀ (p : Port) (c : Cmd) (i : Fin 4) (h : Handle) (s : State), Heard p c s → c.op = .bulkWrite → s.bulk[i] = some h →
    fld (wd c.words 0) 31 24 = i.val + 1 → h.fromMod = false → (∃ r, kindRow h.kind = some r ∧ kindMode h.kind r s = true) →
    fld (wd c.words 0) 23 0 = h.next → (c.words.drop 1).length = min 254 (h.len - h.data.length) →
    ∃ t, Steps (.bulkWrite p) s t ∧ Replied p c 0 0 0 [] t ∧ (∀ j : Fin 4, j ≠ i → t.bulk[j] = s.bulk[j]) ∧
      SameBut [.host, .maint, .sys, .bulk] s t ∧
      t.bulk[i] = some { h with data := (c.words.drop 1).reverse ++ h.data, next := h.next + 1, last := s.time.mt }) ∧
  (∀ (p : Port) (c : Cmd) (i : Fin 4) (h : Handle) (s : State), Heard p c s → c.op = .bulkWrite → s.bulk[i] = some h →
    fld (wd c.words 0) 31 24 = i.val + 1 → h.fromMod = false → (∃ r, kindRow h.kind = some r ∧ kindMode h.kind r s = true) →
    fld (wd c.words 0) 23 0 ≠ h.next →
    ∃ t, Steps (.bulkWrite p) s t ∧ Replied p c 3 0xF031 (h.next % 65536) [] t ∧ (∀ j : Fin 4, j ≠ i → t.bulk[j] = s.bulk[j]) ∧
      SameBut [.host, .maint, .sys, .bulk] s t ∧ t.bulk[i] = some { h with last := s.time.mt }) ∧
  (∀ (p : Port) (c : Cmd) (i : Fin 4) (h : Handle) (s : State), Heard p c s → c.op = .bulkRead → s.bulk[i] = some h →
    fld (wd c.words 0) 31 24 = i.val + 1 → h.fromMod = true → (∃ r, kindRow h.kind = some r ∧ kindMode h.kind r s = true) →
    253 * fld (wd c.words 0) 23 0 < h.len →
    ∃ t, Steps (.bulkRead p) s t ∧
      Replied p c 0 0 0 (ofN (fld (wd c.words 0) 23 0) :: (h.data.drop (253 * fld (wd c.words 0) 23 0)).take 253) t ∧
      (∀ j : Fin 4, j ≠ i → t.bulk[j] = s.bulk[j]) ∧ SameBut [.host, .maint, .sys, .bulk] s t ∧ t.bulk[i] = some { h with last := s.time.mt }) ∧
  (∀ (p : Port) (c : Cmd) (i : Fin 4) (h : Handle) (s : State), Heard p c s → c.op = .bulkClose → s.bulk[i] = some h →
    fld (wd c.words 0) 7 0 = i.val + 1 → h.fromMod = false → h.kind ≠ 1 → (∃ r, kindRow h.kind = some r ∧ kindMode h.kind r s = true) →
    h.data.length < h.len →
    ∃ t, Steps (.bulkClose p) s t ∧ Replied p c 0 0xF032 (satN 65535 (h.len - h.data.length)) [] t ∧ t.bulk[i] = none ∧
      (∀ j : Fin 4, j ≠ i → t.bulk[j] = s.bulk[j]) ∧ SameBut [.host, .maint, .sys, .bulk] s t) ∧
  (∀ (p : Port) (c : Cmd) (i : Fin 4) (h : Handle) (s : State), Heard p c s → c.op = .bulkClose → s.bulk[i] = some h →
    fld (wd c.words 0) 7 0 = i.val + 1 → h.fromMod = false → h.kind ≠ 1 → (∃ r, kindRow h.kind = some r ∧ kindMode h.kind r s = true) →
    h.len ≤ h.data.length → crc32 h.data.reverse ≠ h.crc →
    ∃ t, Steps (.bulkClose p) s t ∧ Replied p c 0 0xF033 0 [] t ∧ t.bulk[i] = none ∧ SameBut [.host, .maint, .sys, .bulk] s t) ∧
  (∀ (f : FwProg) (op : Op) (s : State), s.sys.fwProg = some f → Waits f.port f.tag op s →
    ∃ t, Steps (.fwProgramComplete true) s t ∧ Answered f.port f.tag op 0 0 0 [] t ∧ t.sys.fwProg = none ∧ t.sys.choice = none ∧
      (t.sys.images[f.target]) = { valid := true, gen := f.gen, crc := f.crc, hdrOk := true } ∧
      ∀ j : Fin 2, j ≠ f.target → (t.sys.images[j]) = s.sys.images[j])

/-- Configuration commands of GNSS, filters, Belvedere and positioning control. Each of these fifteen commands, heard and not refused by its chapter, puts its parameters, those of a basic form completed with the Lennov defaults, into the working configuration under its function and instance, changes no other function or instance, leaves the parameters in force until its chapter lets them take effect, answers OK, and makes one change record and one CHANGE_RECORDED. Rests on: R54, R55, R129, R133, R150, R178, R220, R221, R379, R453. -/
def Obligations.NavigationAndPositioningParametersAreSetAsCarried : Prop :=
  ∀ (p : Port) (c : Cmd) (s : State) (ws : List Word), Heard p c s → ws = expertWords c.op c.expert c.words →
    (c.op = .gnssConfig → ∃ t, Steps (.gnssConfig p) s t ∧ SameBut configParts s t ∧ Configured p c s t) ∧
    (c.op = .gnssRtcmConfig → (fld (wd ws 0) 3 0 = 15 ∨ slotUsesUart s (fld (wd ws 0) 3 0) = false ∧ fld (wd (cfgGet s.cfg.work .busUartConfig (fld (wd ws 0) 3 0)) 0) 9 8 = 3) → ∃ t, Steps (.gnssRtcmConfig p) s t ∧ SameBut configParts s t ∧ Configured p c s t) ∧
    (c.op = .gnssHdgConfig → (bit (wd ws 0) 0 = true → baselineOf s.cfg.work ≠ none) → ∃ t, Steps (.gnssHdgConfig p) s t ∧ SameBut configParts s t ∧ Configured p c s t) ∧
    (c.op = .fusRefConfig → refCheck s ws = none → ∃ t, Steps (.fusRefConfig p) s t ∧ SameBut configParts s t ∧ Configured p c s t) ∧
    (c.op = .fusRefEnable → refKindSet s (fld (wd c.words 0) 4 0) ≠ 0 → ∃ t, Steps (.fusRefEnable p) s t ∧ SameBut configParts s t ∧ Configured p c s t) ∧
    (c.op = .fusVoteConfig → ∃ t, Steps (.fusVoteConfig p) s t ∧ SameBut configParts s t ∧ Configured p c s t) ∧
    (c.op = .fusObserverConfig → ∃ t, Steps (.fusObserverConfig p) s t ∧ SameBut configParts s t ∧ Configured p c s t) ∧
    (c.op = .cfgFirChannel → firCheck s ws = none → ∃ t, Steps (.cfgFirChannel p) s t ∧ SameBut configParts s t ∧ Configured p c s t) ∧
    (c.op = .dpcSetDatum → (s.sys.mode ≠ .control ∨ s.dpc.fn < 3) → (s.dpc.datumSrc = 0 ∨ dist3 (ecefOf (wd ws 0).toInt (wd ws 1).toNat (wd ws 2).toInt) (estEcef s) ≤ 2000000000) → ∃ t, Steps (.dpcSetDatum p) s t ∧ SameBut configParts s t ∧ Configured p c s t) ∧
    (c.op = .dpcSetRotationPoint → (wd ws 0).toInt.natAbs ≤ 100000 → (wd ws 1).toInt.natAbs ≤ 100000 → ∃ t, Steps (.dpcSetRotationPoint p) s t ∧ SameBut configParts s t ∧ Configured p c s t) ∧
    (c.op = .dpcControllerConfig → ∃ t, Steps (.dpcControllerConfig p) s t ∧ SameBut configParts s t ∧ Configured p c s t) ∧
    (c.op = .dpcMpcConfig → fld (wd ws 1) 31 16 % 50 = 0 → ∃ t, Steps (.dpcMpcConfig p) s t ∧ SameBut configParts s t ∧ Configured p c s t) ∧
    (c.op = .dpcMoveConfig → ∃ t, Steps (.dpcMoveConfig p) s t ∧ SameBut configParts s t ∧ Configured p c s t) ∧
    (c.op = .dpcJoystickConfig → ∃ t, Steps (.dpcJoystickConfig p) s t ∧ SameBut configParts s t ∧ Configured p c s t) ∧
    (c.op = .dpcPowerConfig → (bit (wd ws 0) 8 = true ∨ fld (wd ws 1) 28 0 ≤ 0x7FF) → ∃ t, Steps (.dpcPowerConfig p) s t ∧ SameBut configParts s t ∧ Configured p c s t)

/-- Configuration commands of allocation, loops and profiles. As for navigation: each of these eight commands, heard and not refused by its chapter, sets exactly its own function and instance of the working configuration, answers OK and is recorded, and its parameters are in force at once or wait as its chapter says. LOOP_CONFIG besides makes an engine that is no longer configured UNCONFIGURED and one newly configured take the state of the mode; LOOP_GROUP starts the groups that it changes anew; the loop engines are otherwise as they were, and the other six leave them unchanged. Rests on: R54, R55, R250, R281, R289, R295, R379, R453, Table 11-6. -/
def Obligations.ActuationParametersAreSetAsCarried : Prop :=
  ∀ (p : Port) (c : Cmd) (s : State) (ws : List Word), Heard p c s → ws = expertWords c.op c.expert c.words →
    (c.op = .allocThrusterConfig → thrBad ws = none → ∃ t, Steps (.allocThrusterConfig p) s t ∧ SameBut configParts s t ∧ Configured p c s t) ∧
    (c.op = .allocConfig → ∃ t, Steps (.allocConfig p) s t ∧ SameBut configParts s t ∧ Configured p c s t) ∧
    (c.op = .allocConseqConfig → fld (wd ws 1) 15 0 < fld (wd ws 0) 31 16 → ∃ t, Steps (.allocConseqConfig p) s t ∧ SameBut configParts s t ∧ Configured p c s t) ∧
    (c.op = .loopConfig → loopConfigCheck s ws = none → ∃ t, Steps (.loopConfig p) s t ∧ SameBut (.loop :: configParts) s t ∧ Configured p c s t ∧
      t.loop = { s.loop with le := vmapI s.loop.le fun i e => if leSet t i.val then (if e.st = .unconfigured then
          { e with st := if t.sys.mode = .standby then .shadow else if t.sys.release then .released else .open } else e) else { e with st := .unconfigured } }) ∧
    (c.op = .loopThrusterBind → bindCheck s ws = none → ∃ t, Steps (.loopThrusterBind p) s t ∧ SameBut configParts s t ∧ Configured p c s t) ∧
    (c.op = .loopSetCoeff → leRefuse s (fld (wd ws 0) 5 0) = none → ∃ t, Steps (.loopSetCoeff p) s t ∧ SameBut configParts s t ∧ Configured p c s t) ∧
    (c.op = .loopGroup → groupCheck s ws = none → ∃ t, Steps (.loopGroup p) s t ∧ SameBut (.loop :: configParts) s t ∧ Configured p c s t ∧
      t.loop = { s.loop with group := vmapI s.loop.group fun g x => if groupOf t g.val = groupOf s g.val then x else {} }) ∧
    (c.op = .profConfig → profConfigCheck ws = none → ∃ t, Steps (.profConfig p) s t ∧ SameBut configParts s t ∧ Configured p c s t)

/-- Configuration commands of buses, duplex, calibration, module and log. As for navigation: each of these seven commands, heard and not refused by its chapter, sets exactly its own function and instance of the working configuration, answers OK and is recorded, and its parameters are in force at once or wait as its chapter says. BUS_MAINT_CONFIG is for the host port alone, with CAN5 in normal operation at an FD data rate, and besides sets MAINT_EN to its ENABLE. Rests on: R54, R55, R284, R353, R368, R375, R379, R453, 14.6. -/
def Obligations.BusDuplexAndModuleParametersAreSetAsCarried : Prop :=
  ∀ (p : Port) (c : Cmd) (s : State) (ws : List Word), Heard p c s → ws = expertWords c.op c.expert c.words →
    (c.op = .busCanConfig → canConfigCheck s ws = none → ∃ t, Steps (.busCanConfig p) s t ∧ SameBut configParts s t ∧ Configured p c s t) ∧
    (c.op = .busUartConfig → (fld (wd ws 0) 9 8 = 1 → fld (wd ws 0) 18 16 = 0) → (fld (wd ws 0) 9 8 = 2 → fld (wd ws 0) 18 16 = 3) →
      (fld (wd ws 0) 9 8 = 1 ∨ fld (wd ws 0) 9 8 = 2 → fld (wd ws 1) 3 2 = 0 ∧ bit (wd ws 1) 4 = false) →
      (fld (wd ws 0) 9 8 = fld (wd (cfgGet s.cfg.work .busUartConfig (fld (wd ws 0) 3 0)) 0) 9 8 ∨
        slotUsesUart s (fld (wd ws 0) 3 0) = false ∧ rtcmPortSet s ≠ fld (wd ws 0) 3 0) → ∃ t, Steps (.busUartConfig p) s t ∧ SameBut configParts s t ∧ Configured p c s t) ∧
    (c.op = .busMaintConfig → p = .host → fld (wd (cfgGet s.cfg.work .busCanConfig 5) 0) 9 8 = 1 → fld (wd (cfgGet s.cfg.work .busCanConfig 5) 0) 19 16 ≠ 0 → ∃ t, Steps (.busMaintConfig p) s t ∧ SameBut (.hp :: configParts) s t ∧ Configured p c s t ∧
      t.hp = { s.hp with maintEn := maintOn t }) ∧
    (c.op = .dpxConfig → ∃ t, Steps (.dpxConfig p) s t ∧ SameBut configParts s t ∧ Configured p c s t) ∧
    (c.op = .calSet → calCheck ws = none → ∃ t, Steps (.calSet p) s t ∧ SameBut configParts s t ∧ Configured p c s t) ∧
    (c.op = .cfgModule → ∃ t, Steps (.cfgModule p) s t ∧ SameBut configParts s t ∧ Configured p c s t) ∧
    (c.op = .logConfig → ∃ t, Steps (.logConfig p) s t ∧ SameBut configParts s t ∧ Configured p c s t)

/-- A configuration command that its chapter refuses has no effect. For every refusal these commands have: the class 3 reply carries the status and detail that the chapter gives, and no part of the state but the port and the mark of activity changes: configuration, records, events and units are as before. Rests on: R47, R54, R220, R221, R250, R289, R375. -/
def Obligations.RefusedConfigurationChangesNothing : Prop :=
  ∀ (p : Port) (c : Cmd) (s : State) (ws : List Word), Heard p c s → ws = expertWords c.op c.expert c.words →
    (c.op = .gnssRtcmConfig → fld (wd ws 0) 3 0 ≠ 15 → slotUsesUart s (fld (wd ws 0) 3 0) = true → ∃ t, Steps (.gnssRtcmConfig p) s t ∧ Replied p c 3 0x2010 0 [] t ∧ SameBut [.host, .maint, .sys] s t) ∧
    (c.op = .gnssHdgConfig → bit (wd ws 0) 0 = true → baselineOf s.cfg.work = none → ∃ t, Steps (.gnssHdgConfig p) s t ∧ Replied p c 3 0x2011 0 [] t ∧ SameBut [.host, .maint, .sys] s t) ∧
    (c.op = .fusRefEnable → refKindSet s (fld (wd c.words 0) 4 0) = 0 → ∃ t, Steps (.fusRefEnable p) s t ∧ Replied p c 3 0x3013 0 [] t ∧ SameBut [.host, .maint, .sys] s t) ∧
    (c.op = .dpcSetDatum → s.sys.mode = .control → 3 ≤ s.dpc.fn → ∃ t, Steps (.dpcSetDatum p) s t ∧ Replied p c 3 0x5011 s.dpc.fn [] t ∧ SameBut [.host, .maint, .sys] s t) ∧
    (c.op = .dpcSetRotationPoint → 100000 < (wd ws 0).toInt.natAbs → ∃ t, Steps (.dpcSetRotationPoint p) s t ∧ Replied p c 3 0xF016 0 [] t ∧ SameBut [.host, .maint, .sys] s t) ∧
    (c.op = .dpcMpcConfig → fld (wd ws 1) 31 16 % 50 ≠ 0 → ∃ t, Steps (.dpcMpcConfig p) s t ∧ Replied p c 3 0xF016 1 [] t ∧ SameBut [.host, .maint, .sys] s t) ∧
    (c.op = .dpcPowerConfig → bit (wd ws 0) 8 = false → 0x7FF < fld (wd ws 1) 28 0 → ∃ t, Steps (.dpcPowerConfig p) s t ∧ Replied p c 3 0xF016 1 [] t ∧ SameBut [.host, .maint, .sys] s t) ∧
    (c.op = .allocConseqConfig → fld (wd ws 0) 31 16 ≤ fld (wd ws 1) 15 0 → ∃ t, Steps (.allocConseqConfig p) s t ∧ Replied p c 3 0xF016 1 [] t ∧ SameBut [.host, .maint, .sys] s t) ∧
    (c.op = .allocThrusterConfig → ∀ i, thrBad ws = some i → ∃ t, Steps (.allocThrusterConfig p) s t ∧ Replied p c 3 0x6010 i [] t ∧ SameBut [.host, .maint, .sys] s t) ∧
    (∀ st d, (c.op = .fusRefConfig → refCheck s ws = some (st, d) → ∃ t, Steps (.fusRefConfig p) s t ∧ Replied p c 3 st d [] t ∧ SameBut [.host, .maint, .sys] s t) ∧
      (c.op = .cfgFirChannel → firCheck s ws = some (st, d) → ∃ t, Steps (.cfgFirChannel p) s t ∧ Replied p c 3 st d [] t ∧ SameBut [.host, .maint, .sys] s t) ∧
      (c.op = .loopThrusterBind → bindCheck s ws = some (st, d) → ∃ t, Steps (.loopThrusterBind p) s t ∧ Replied p c 3 st d [] t ∧ SameBut [.host, .maint, .sys] s t) ∧
      (c.op = .loopSetCoeff → leRefuse s (fld (wd ws 0) 5 0) = some (st, d) → ∃ t, Steps (.loopSetCoeff p) s t ∧ Replied p c 3 st d [] t ∧ SameBut [.host, .maint, .sys] s t) ∧
      (c.op = .profConfig → profConfigCheck ws = some (st, d) → ∃ t, Steps (.profConfig p) s t ∧ Replied p c 3 st d [] t ∧ SameBut [.host, .maint, .sys] s t) ∧
      (c.op = .busCanConfig → canConfigCheck s ws = some (st, d) → ∃ t, Steps (.busCanConfig p) s t ∧ Replied p c 3 st d [] t ∧ SameBut [.host, .maint, .sys] s t) ∧
      (c.op = .calSet → calCheck ws = some (st, d) → ∃ t, Steps (.calSet p) s t ∧ Replied p c 3 st d [] t ∧ SameBut [.host, .maint, .sys] s t))

/-- Queries of time, reference slots, the solver, positioning control and allocation. Each query of these units answers OK with the words of its reply table, read from the state at that instant, and changes nothing but its port and the mark of activity. A slot without a KIND, a structure or result that does not exist, a thruster that is not configured and a consequence analysis without a completed cycle answer with their own status. In ALLOC_ENVELOPE_READ a thruster that the cycle examined is meant; the words for another are free (log entry 3). Rests on: R47, R161, R184, R185, R215, R245, R272, Tables 18-6, 18-9, 18-10, 18-11, 18-12. -/
def Obligations.NavigationAndPositioningQueriesAnswerFromTheStateAlone : Prop :=
  (∀ (p : Port) (c : Cmd) (s : State), Heard p c s → c.op = .timeGet → s.time.source = .none →
    ∃ t, Steps (.timeGet p) s t ∧ AnswersOnly p c 0 0 0 (w64 s.time.mt ++ [ofN (s.time.rtc / 32768), ofN (s.time.rtc % 32768), ofN (s.time.opTicks / 32768),
      ofN (s.time.opTicks % 32768 * 1000 / 32768), ofN s.time.pwrCyc, 0] ++ List.replicate 6 (0 : Word)) s t) ∧
  (∀ (p : Port) (c : Cmd) (s : State), Heard p c s → c.op = .timeGet → s.time.source ≠ .none →
    ∃ t, Steps (.timeGet p) s t ∧ AnswersOnly p c 0 0 0 (w64 s.time.mt ++ [ofN (s.time.rtc / 32768), ofN (s.time.rtc % 32768), ofN (s.time.opTicks / 32768),
      ofN (s.time.opTicks % 32768 * 1000 / 32768), ofN s.time.pwrCyc,
      pk [(s.time.week, 16), (s.time.sats, 8), (b2n (s.time.slew != 0), 2), (sourceCode s.time.source, 0)]] ++ (w64 s.time.mtPps ++
      [ofN s.time.tow, ofN (satN 0xFFFFFFFF (timeErr s.time)), ofN (BitVec.ofInt 8 s.time.leap).toNat, ofI s.time.fErr])) s t) ∧
  (∀ (p : Port) (c : Cmd) (s : State), Heard p c s → c.op = .fusRefStatus → refKindSet s (fld (wd c.words 0) 4 0) = 0 → fld (wd c.words 0) 4 0 < 24 →
    ∃ t, Steps (.fusRefStatus p) s t ∧ AnswersOnly p c 3 0x3013 0 [] s t) ∧
  (∀ (p : Port) (c : Cmd) (i : Fin 24) (s : State), Heard p c s → c.op = .fusRefStatus → fld (wd c.words 0) 4 0 = i.val → refKindSet s i.val ≠ 0 →
    ∃ t, Steps (.fusRefStatus p) s t ∧ AnswersOnly p c 0 0 0 ([pk [(b2n (s.fus.slot[i]).origin.isSome, 22), (b2n (s.fus.slot[i]).slipped, 21),
        (b2n (refOwnTime s i.val && !(s.fus.slot[i]).slipped && decide (20 ≤ (s.fus.slot[i]).tbN)), 20), ((s.fus.slot[i]).st, 16), (refKindSet s i.val, 8), (i.val, 0)]] ++
      w64 (if (s.fus.slot[i]).used then (s.fus.slot[i]).lastTv.toNat else 0) ++ [ofI (s.fus.slot[i]).in1, ofI (s.fus.slot[i]).in2, ofN (s.fus.slot[i]).nis,
        ofN (s.fus.slot[i]).looNis, ofN (s.fus.slot[i]).nUsed, ofN (s.fus.slot[i]).nOverrun] ++ (s.fus.slot[i]).nDisc.toList.map ofN ++
      [ofN (s.fus.slot[i]).nVotedOut, ofI (sat32 (if refOwnTime s i.val && (s.fus.slot[i]).tbCnt != 0 then rne (s.fus.slot[i]).tbSum (100 * (s.fus.slot[i]).tbCnt) else 0)),
        ofI (sat32 (s.fus.slot[i]).tbB)]) s t) ∧
  (∀ (p : Port) (c : Cmd) (s : State), Heard p c s → c.op = .solvStructQuery → structOf s (fld (wd c.words 0) 5 0) = none →
    ∃ t, Steps (.solvStructQuery p) s t ∧ AnswersOnly p c 3 0x4011 (fld (wd c.words 0) 5 0) [] s t) ∧
  (∀ (p : Port) (c : Cmd) (x : Struct) (s : State), Heard p c s → c.op = .solvStructQuery → structOf s (fld (wd c.words 0) 5 0) = some x →
    ∃ t, Steps (.solvStructQuery p) s t ∧ AnswersOnly p c 0 0 0 ([pk [(x.gen, 16), (x.kind, 8), (x.n, 0)], pk [(x.m, 16), (x.neq, 0)], ofN x.size,
        pk [((inFlight s (fld (wd c.words 0) 5 0)).length, 8), (b2n x.result.isSome, 4), ((versionsOf s (fld (wd c.words 0) 5 0)).length, 0)]] ++
      (x.sat.toList.map ofN) ++ [ofN x.nReg, ofN x.nSubmit]) s t) ∧
  (∀ (p : Port) (c : Cmd) (x : Struct) (s : State), Heard p c s → c.op = .solvResultRead → structOf s (fld (wd c.words 1) 5 0) = some x → x.result = none →
    ∃ t, Steps (.solvResultRead p) s t ∧ AnswersOnly p c 0 0x401C 0 [] s t) ∧
  (∀ (p : Port) (c : Cmd) (x : Struct) (r : SolvResult) (s : State), Heard p c s → c.op = .solvResultRead → structOf s (fld (wd c.words 1) 5 0) = some x → x.result = some r →
    ∃ t, Steps (.solvResultRead p) s t ∧ AnswersOnly p c 0 0 0 (pk [(r.gen, 16), (r.tag % 256, 8), ((resultRows r.out (fld (wd c.words 0) 31 28) (fld (wd c.words 0) 15 8) (fld (wd c.words 0) 7 0)).length / 2, 0)] ::
        resultRows r.out (fld (wd c.words 0) 31 28) (fld (wd c.words 0) 15 8) (fld (wd c.words 0) 7 0)) s t) ∧
  (∀ (p : Port) (c : Cmd) (s : State), Heard p c s → c.op = .solvPlacement → 
    ∃ t, Steps (.solvPlacement p) s t ∧ AnswersOnly p c 0 0 0 (((fins 4).flatMap fun r => [pk [(regionCode s r, 28), (b2n (s.solv.active == r), 24), ((BitVec.ofInt 8 (s.solv.region[r]).temp).toNat, 16), (satN 255 (s.solv.region[r]).load, 8)],
        pk [((s.solv.region[r]).mismatch, 16), ((s.solv.region[r]).eccCe, 0)], pk [((s.solv.region[r]).sat, 16), ((s.solv.region[r]).reg, 0)]]) ++
      ((List.range 16).map (clusterWord s)) ++ [pk [((s.solv.tickets.filter fun k => isHost k == false).length, 16), ((s.solv.tickets.filter fun k => isHost k == true).length, 0)],
        pk [(cdiv (((s.solv.structs.filter fun x => decide (8 ≤ x.sid) == false).map fun x => x.size).sum) 1024, 16),
          (cdiv (((s.solv.structs.filter fun x => decide (8 ≤ x.sid) == true).map fun x => x.size).sum) 1024, 0)],
        ofN (match s.alloc.caDone with | some x => x.period | none => 0)]) s t) ∧
  (∀ (p : Port) (c : Cmd) (s : State), Heard p c s → c.op = .dpcStatus → 
    ∃ t, Steps (.dpcStatus p) s t ∧ AnswersOnly p c 0 0 0 ([pk [(s.dpc.fn, 28), (s.fus.mode, 24), (s.dpc.leg, 16), (trkN s.dpc, 8), (s.dpc.datumSrc, 0)], ofI s.dpc.datum[0], ofI s.dpc.datum[1],
      ofI s.dpc.datum[2], ofI s.dpc.rp[0], ofI s.dpc.rp[1]] ++ (nomCap s).toList.map ofI) s t) ∧
  (∀ (p : Port) (c : Cmd) (s : State), Heard p c s → c.op = .allocThrusterStatus → thrConfigured s (thrOf c).val = false →
    ∃ t, Steps (.allocThrusterStatus p) s t ∧ AnswersOnly p c 3 0x6011 (thrOf c).val [] s t) ∧
  (∀ (p : Port) (c : Cmd) (s : State), Heard p c s → c.op = .allocThrusterStatus → thrConfigured s (thrOf c).val = true →
    ∃ t, Steps (.allocThrusterStatus p) s t ∧ AnswersOnly p c 0 0 0 (thrWords s (thrOf c).val ++ [thrStatusWord s (thrOf c)]) s t) ∧
  (∀ (p : Port) (c : Cmd) (s : State), Heard p c s → c.op = .allocStatus → 
    ∃ t, Steps (.allocStatus p) s t ∧ AnswersOnly p c 0 0 0 ((fins 16).map (thrStatusWord s) ++ [ofN s.alloc.nHit, ofN s.alloc.nSquash, ofN s.alloc.nD3, ofN s.alloc.nSwitch]) s t) ∧
  (∀ (p : Port) (c : Cmd) (s : State), Heard p c s → c.op = .allocEnvelopeRead → s.alloc.caDone = none →
    ∃ t, Steps (.allocEnvelopeRead p) s t ∧ AnswersOnly p c 0 0x6013 (fld (wd c.words 0) 4 0) [] s t) ∧
  (∀ (p : Port) (c : Cmd) (r : CaResult) (s : State), Heard p c s → c.op = .allocEnvelopeRead → s.alloc.caDone = some r → tb r.mask (fld (wd c.words 0) 4 0) = true →
    ∃ t, Steps (.allocEnvelopeRead p) s t ∧ AnswersOnly p c 0 0 0 ([pk [(r.u.getD (fld (wd c.words 0) 4 0) 0, 16), (if ((List.range 72).map fun j => caLam r (fld (wd c.words 0) 4 0) j).contains 0xFFFFFFFF then 2 else 0, 8),
        (fld (wd c.words 0) 4 0, 0)]] ++ w64 r.start ++ [r.theta0, ofI r.rho, ofN r.dxy, ofN r.period] ++
        ((List.range 72).map fun j => ofN (caLam r (fld (wd c.words 0) 4 0) j))) s t)

/-- Queries of loops, profiles, buses, Kiln, duplex, calibration, configuration, filters, log and events. Each query answers OK with the words of its reply table and changes nothing but its port and the mark of activity; KILN queries without the link to the Kiln, and a read of the host block beyond its end, are refused. LOG_READ returns whole records in order: with selection 0 those from the sequence number on, 1 from the oldest on, 2 the newest; NEXT is one past the last returned. The OLDEST_SEQ of an empty log is a free value (log entry 3), a flush is one step (log entry 88). Rests on: R47, R322, R375, R388, R402, R410, R454, Tables 11-10, 11-13, 12-12, 15-6, 16-7, 17-5. -/
def Obligations.ActuationBusAndStorageQueriesAnswerFromTheStateAlone : Prop :=
  (∀ (p : Port) (c : Cmd) (s : State), Heard p c s → c.op = .loopStatus → 
    ∃ t, Steps (.loopStatus p) s t ∧ AnswersOnly p c 0 0 0 ([pk [(leCode (eng s (leOf c)).st, 28), (((leGroup s (leOf c)).map fun g => g.val).getD 0xF, 24), (b2n (eng s (leOf c)).fbStale, 23),
        (b2n (eng s (leOf c)).feSince.isSome, 22), (b2n (eng s (leOf c)).sat, 21), ((leThruster s (leOf c)).getD 0xFF, 0)],
      ofI (eng s (leOf c)).sp, ofI (eng s (leOf c)).fb, ofI (eng s (leOf c)).u] ++ i64 (eng s (leOf c)).i ++ [ofN (eng s (leOf c)).nFe]) s t) ∧
  (∀ (p : Port) (c : Cmd) (s : State), Heard p c s → c.op = .profStatus → 
    ∃ t, Steps (.profStatus p) s t ∧ AnswersOnly p c 0 0 0 [pk [(b2n (prof s (pcOf c)).homed, 31), (b2n (prof s (pcOf c)).velMode, 30), (b2n (prof s (pcOf c)).reduce, 29), (b2n (prof s (pcOf c)).moving, 28),
        ((pcThruster s (pcOf c)).getD 0xFF, 0)], ofI (profPos s (pcOf c)), ofI (rne (prof s (pcOf c)).vel (2 ^ 32)), ofI (prof s (pcOf c)).target, ofN (prof s (pcOf c)).nPfe] s t) ∧
  (∀ (p : Port) (c : Cmd) (s : State), Heard p c s → c.op = .busCanStatus → 
    ∃ t, Steps (.busCanStatus p) s t ∧ AnswersOnly p c 0 0 0 ([pk [(canSt s (ctlOf c), 28), (b2n (s.can[ctlOf c]).alone, 27), (satN 511 (s.can[ctlOf c]).tec, 16), (satN 255 (s.can[ctlOf c]).recv, 8),
        ((s.can[ctlOf c]).txq.length + b2n (s.can[ctlOf c]).inFlight.isSome, 0)], ofN (s.can[ctlOf c]).nTx, ofN (s.can[ctlOf c]).nRx, ofN (s.can[ctlOf c]).nRxDrop,
        ofN (s.can[ctlOf c]).nTxDiscard, ofN (s.can[ctlOf c]).nBusOff, ofN (s.can[ctlOf c]).nErr, ofN (s.can[ctlOf c]).nPex, ofN (s.can[ctlOf c]).blocked.length] ++
      (List.range 8).map fun j => match (s.can[ctlOf c]).blocked[j]? with | some id => pk [(b2n id.1, 31), (id.2, 0)] | none => 0) s t) ∧
  (∀ (p : Port) (c : Cmd) (s : State), Heard p c s → c.op = .busUartStatus → 
    ∃ t, Steps (.busUartStatus p) s t ∧ AnswersOnly p c 0 0 0 ([pk [(uartBaud s (uartOf c), 16), (uartProto s (uartOf c), 8), ((uartOf c).val, 0)], ofN (s.uart[uartOf c]).nUsed, ofN (s.uart[uartOf c]).nUnused] ++
      (s.uart[uartOf c]).nDisc.toList.map ofN ++ [ofN (s.uart[uartOf c]).nRx, ofN (s.uart[uartOf c]).nTx, ofN (s.uart[uartOf c]).txq.length]) s t) ∧
  (∀ (p : Port) (c : Cmd) (s : State), Heard p c s → c.op = .kilnReadConfig → kilnUp s = true →
    ∃ t, Steps (.kilnReadConfig p) s t ∧ AnswersOnly p c 0 0 0 ((kCopy s.kiln).words ++ [crc32 (kCopy s.kiln).words, ofN (kCopy s.kiln).gen]) s t) ∧
  (∀ (p : Port) (c : Cmd) (s : State), Heard p c s → c.op = .kilnStatus → kilnUp s = true →
    ∃ t, Steps (.kilnStatus p) s t ∧ AnswersOnly p c 0 0 0 (kilnStatusWords s.time.now s.kiln) s t) ∧
  (∀ (p : Port) (c : Cmd) (s : State), Heard p c s → c.op = .kilnReadConfig → kilnUp s = false →
    ∃ t, Steps (.kilnReadConfig p) s t ∧ AnswersOnly p c 0 0x9015 0 [] s t) ∧
  (∀ (p : Port) (c : Cmd) (s : State), Heard p c s → c.op = .kilnStatus → kilnUp s = false →
    ∃ t, Steps (.kilnStatus p) s t ∧ AnswersOnly p c 0 0x9015 0 [] s t) ∧
  (∀ (p : Port) (c : Cmd) (s : State), Heard p c s → c.op = .dpxStatus → 
    ∃ t, Steps (.dpxStatus p) s t ∧ AnswersOnly p c 0 0 0 ([pk [((match s.dpx.partner with | some h => if s.duplex && decide (s.time.mt ≤ s.dpx.partnerMt + hbTicks) then modeCode h.mode else 0xF | none => 0xF), 28),
        (b2n (s.duplex && s.dpx.ownIn), 27), (b2n s.dpx.healthy, 26), (b2n s.dpx.sync, 25), (b2n (linkUp s), 24), (laneMask s, 22), (b2n (isModuleA s), 21),
        (b2n s.sys.pref, 20), (b2n s.dpx.strapConflict, 19), (b2n s.dpx.reclaimReq, 18), (b2n s.sys.giveupOut, 17), (b2n s.dpx.giveupIn, 16), (s.sys.diagFirst, 8),
        (s.dpx.reason, 0)]] ++ i64 (mtOffset s) ++ [ofN s.dpx.mirrorFrame, ofN (holdoffLeft s), ofN s.dpx.nMiss, ofN s.dpx.nCrc, ofN s.dpx.nTaken, ofN s.dpx.lastGap]) s t) ∧
  (∀ (p : Port) (c : Cmd) (s : State), Heard p c s → c.op = .dpxHostDataRead → hostWords s < fld (wd c.words 0) 15 0 + fld (wd c.words 0) 23 16 →
    ∃ t, Steps (.dpxHostDataRead p) s t ∧ AnswersOnly p c 3 0xA013 (hostWords s) [] s t) ∧
  (∀ (p : Port) (c : Cmd) (s : State), Heard p c s → c.op = .dpxHostDataRead → s.sys.mode ≠ .standby →
    fld (wd c.words 0) 15 0 + fld (wd c.words 0) 23 16 ≤ hostWords s →
    ∃ t, Steps (.dpxHostDataRead p) s t ∧ AnswersOnly p c 0 0 0 ((List.range (fld (wd c.words 0) 23 16)).map fun i => s.dpx.host.getD (fld (wd c.words 0) 15 0 + i) 0) s t) ∧
  (∀ (p : Port) (c : Cmd) (k : Fin 22) (s : State), Heard p c s → c.op = .cfgFirQuery → fld (wd c.words 0) 4 0 = k.val →
    ∃ t, Steps (.cfgFirQuery p) s t ∧ AnswersOnly p c 0 0 0 [pk [(firSet2 s k.val, 12), (firSet1 s k.val, 8), (k.val, 0)], ofN (firDelay s k.val), ofI (sat32 (firTaps s (firSet1 s k.val)).sum),
      (if stage2On s k.val then ofI (sat32 (firTaps s (firSet2 s k.val)).sum) else 0), ofN (s.fir.slots[k]).nRange, ofN (s.fir.slots[k]).nSat, ofN (s.fir.slots[k]).nMissing] s t) ∧
  (∀ (p : Port) (c : Cmd) (s : State), Heard p c s → c.op = .cfgStatus → 
    ∃ t, Steps (.cfgStatus p) s t ∧ AnswersOnly p c 0 0 0 [pk [(b2n s.cfg.commit.isSome, 31), (b2n (cfgNorm s.cfg.work != cfgNorm (bankImage s)), 30), (b2n s.sys.factoryBad, 29), (b2n s.cfg.cpPending, 28),
        ((match s.cfg.inUse with | some i => i.val | none => 2), 26), (b2n (bankValid s.cfg.bank[1]), 25), (b2n (bankValid s.cfg.bank[0]), 24), (Config.cfgFormat.toNat, 16)],
      (if bankValid s.cfg.bank[0] then ofN (s.cfg.bank[0]).gen else 0), (if bankValid s.cfg.bank[1] then ofN (s.cfg.bank[1]).gen else 0), cfgCrc (cfgNorm s.cfg.work),
      ofN (s.cfg.bank[0]).writes, ofN (s.cfg.bank[1]).writes] s t) ∧
  (∀ (p : Port) (c : Cmd) (s : State), Heard p c s → c.op = .logRead → fld (wd c.words 0) 1 0 = 0 →
    ∃ t, Steps (.logRead p) s t ∧ AnswersOnly p c 0 0 0 ([(match (((heldRecs s).filter fun r => !seqBefore r.seq (wd c.words 1).toNat).take (fld (wd c.words 0) 15 8)).getLast? with
        | some r => ofN (r.seq + 1) | none => wd c.words 1),
        pk [(b2n (seqBefore (wd c.words 1).toNat s.log.seq && !((heldRecs s).any fun r => r.seq == (wd c.words 1).toNat)), 8),
          ((((heldRecs s).filter fun r => !seqBefore r.seq (wd c.words 1).toNat).take (fld (wd c.words 0) 15 8)).length, 0)]] ++
      (((heldRecs s).filter fun r => !seqBefore r.seq (wd c.words 1).toNat).take (fld (wd c.words 0) 15 8)).flatMap fun r => bWords (recBytes r)) s t) ∧
  (∀ (p : Port) (c : Cmd) (s : State), Heard p c s → c.op = .logRead → fld (wd c.words 0) 1 0 = 1 →
    ∃ t, Steps (.logRead p) s t ∧ AnswersOnly p c 0 0 0 ([(match ((heldRecs s).take (fld (wd c.words 0) 15 8)).getLast? with | some r => ofN (r.seq + 1) | none => ofN s.log.seq),
        pk [(0, 8), (((heldRecs s).take (fld (wd c.words 0) 15 8)).length, 0)]] ++ ((heldRecs s).take (fld (wd c.words 0) 15 8)).flatMap fun r => bWords (recBytes r)) s t) ∧
  (∀ (p : Port) (c : Cmd) (s : State), Heard p c s → c.op = .logRead → fld (wd c.words 0) 1 0 = 2 →
    ∃ t, Steps (.logRead p) s t ∧ AnswersOnly p c 0 0 0 ([(match (((heldRecs s).drop ((heldRecs s).length - fld (wd c.words 0) 15 8)).take (fld (wd c.words 0) 15 8)).getLast? with | some r => ofN (r.seq + 1) | none => ofN s.log.seq),
        pk [(0, 8), ((((heldRecs s).drop ((heldRecs s).length - fld (wd c.words 0) 15 8)).take (fld (wd c.words 0) 15 8)).length, 0)]] ++
      (((heldRecs s).drop ((heldRecs s).length - fld (wd c.words 0) 15 8)).take (fld (wd c.words 0) 15 8)).flatMap fun r => bWords (recBytes r)) s t) ∧
  (∀ (p : Port) (c : Cmd) (n : Fin 128) (s : State), Heard p c s → c.op = .evtQuery → fld (wd c.words 0) 6 0 = n.val →
    ∃ t, Steps (.evtQuery p) s t ∧ AnswersOnly p c 0 0 0 ([pk [((s.ev.src[n]).count, 16), (b2n (s.ev.src[n]).noticeMaint, 15), (b2n (s.ev.src[n]).noticeHost, 14), ((s.ev.src[n]).severity, 11), (b2n (s.ev.src[n]).record, 10),
        ((s.ev.src[n]).line, 8), (b2n (s.ev.src[n]).pend, 7), (n.val, 0)]] ++ w64 (s.ev.src[n]).lastMt ++ [ofN (s.ev.src[n]).lastDetail]) s t) ∧
  (∀ (p : Port) (c : Cmd) (n : Nat) (kind : CalKind) (lo hi : Int) (s : State), Heard p c s → c.op = .calRead → calItem (fld (wd c.words 0) 15 8) = some (n, kind, lo, hi) → fld (wd c.words 0) 7 0 < n →
    ∃ t, Steps (.calRead p) s t ∧ AnswersOnly p c 0 0 0 [pk [(b2n (s.awaits .calSet (fld (wd c.words 0) 15 8 * 256 + fld (wd c.words 0) 7 0)), 17),
          (b2n (cfgFind s.cfg.work .calSet (fld (wd c.words 0) 15 8 * 256 + fld (wd c.words 0) 7 0)).isSome, 16), (fld (wd c.words 0) 15 8, 8), (fld (wd c.words 0) 7 0, 0)],
        ofI (calF s (fld (wd c.words 0) 15 8) (fld (wd c.words 0) 7 0)),
        ofI (if kind = .fixed then 0 else calT s.cfg.force (fld (wd c.words 0) 15 8) (fld (wd c.words 0) 7 0)),
        ofI (calE kind (calF s (fld (wd c.words 0) 15 8) (fld (wd c.words 0) 7 0)) (if kind = .fixed then 0 else calT s.cfg.force (fld (wd c.words 0) 15 8) (fld (wd c.words 0) 7 0)))] s t) ∧
  (∀ (p : Port) (c : Cmd) (r : Rec) (rs : List Rec) (s : State), Heard p c s → c.op = .logStatus → heldRecs s = r :: rs →
    ∃ t, Steps (.logStatus p) s t ∧ SameBut [.host, .maint, .sys, .free] s t ∧ Replied p c 0 0 0
      [pk [(s.log.queue.length, 16), (b2n s.sys.nf1Ok, 1), (b2n (logBuffered s), 0)], ofN r.seq, ofN s.log.seq,
        ofN (s.log.head / sectorSlots), ofN s.log.nLost, ofN s.log.nSupp, ofN s.log.nTorn] t)

/-- The stream commands and EVT_ROUTE. A stream command replaces the subscription of its stream and instance by one of the issuing port, and with decimation 0 ends it; every other subscription stays; FUS_STATE_STREAM leaves that to the next frame boundary. EVT_ROUTE sets RECORD, LINE and SEVERITY of the source for both ports and NOTICE for the issuing port alone; a basic form restores the severity of the source; pending bits, counts and every other source stay. EV0 and EV1 take neither a record nor a notice. Rests on: R62, R405, R406, R407, R416, R363, Tables 17-3, 18-7, 18-13. -/
def Obligations.StreamsAndRoutesAreSetAsTheCommandSays : Prop :=
  (∀ (p : Port) (c : Cmd) (s : State), Heard p c s → c.op = .fusStateStream →
    ∃ t, Steps (.fusStateStream p) s t ∧ Replied p c 0 0 0 [] t ∧ SameBut [.host, .maint, .sys, .fus] s t ∧ t.fus = { s.fus with streamReq := some (p, fld (wd c.words 0) 7 0) }) ∧
  (∀ (p : Port) (c : Cmd) (s : State), Heard p c s → c.op = .dpcStateStream → 
    ∃ t, Steps (.dpcStateStream p) s t ∧ Replied p c 0 0 0 [] t ∧ SameBut [.host, .maint, .sys, .subs] s t ∧ Subscribed 0x5A0 (0) p (fld (wd c.words 0) 7 0) (0) s t) ∧
  (∀ (p : Port) (c : Cmd) (s : State), Heard p c s → c.op = .allocStateStream → 
    ∃ t, Steps (.allocStateStream p) s t ∧ Replied p c 0 0 0 [] t ∧ SameBut [.host, .maint, .sys, .subs] s t ∧ Subscribed 0x6A0 (0) p (fld (wd c.words 0) 7 0) (0) s t) ∧
  (∀ (p : Port) (c : Cmd) (s : State), Heard p c s → c.op = .fusSensorStream → 
    ∃ t, Steps (.fusSensorStream p) s t ∧ Replied p c 0 0 0 [] t ∧ SameBut [.host, .maint, .sys, .subs] s t ∧ Subscribed 0x3B0 (0) p (if fld (wd c.words 0) 21 0 = 0 then 0 else 1) (fld (wd c.words 0) 21 0) s t) ∧
  (∀ (p : Port) (c : Cmd) (s : State), Heard p c s → c.op = .busStream → fld (wd c.words 0) 7 4 = 0 → fld (wd c.words 0) 3 0 ≤ 5 →
    ∃ t, Steps (.busStream p) s t ∧ Replied p c 0 0 0 [] t ∧ SameBut [.host, .maint, .sys, .subs] s t ∧ Subscribed 0x8A0 (fld (wd c.words 0) 3 0) p (b2n (bit (wd c.words 0) 8)) (0) s t) ∧
  (∀ (p : Port) (c : Cmd) (s : State), Heard p c s → c.op = .busStream → fld (wd c.words 0) 7 4 = 1 → fld (wd c.words 0) 3 0 ≤ 9 →
    ∃ t, Steps (.busStream p) s t ∧ Replied p c 0 0 0 [] t ∧ SameBut [.host, .maint, .sys, .subs] s t ∧ Subscribed 0x8A4 (fld (wd c.words 0) 3 0) p (b2n (bit (wd c.words 0) 8)) (0) s t) ∧
  (∀ (p : Port) (c : Cmd) (s : State), Heard p c s → c.op = .gnssStream → fld (wd c.words 0) 1 0 = 3 →
    ∃ t, Steps (.gnssStream p) s t ∧ Replied p c 0 0 0 [] t ∧ SameBut [.host, .maint, .sys, .subs] s t ∧ Subscribed 0x2AC (0) p (fld (wd c.words 0) 23 16) (0) s t) ∧
  (∀ (p : Port) (c : Cmd) (s : State), Heard p c s → c.op = .gnssStream → fld (wd c.words 0) 1 0 ≠ 3 →
    ∃ t, Steps (.gnssStream p) s t ∧ Replied p c 0 0 0 [] t ∧ SameBut [.host, .maint, .sys, .subs] s t ∧
      (∀ b : Fin 2, bit (wd c.words 0) (8 + b.val) = true → t.sub (0x2A0 + 4 * fld (wd c.words 0) 1 0) b.val =
        if fld (wd c.words 0) 23 16 = 0 then none else
          some { stream := 0x2A0 + 4 * fld (wd c.words 0) 1 0, inst := b.val, port := p, decim := fld (wd c.words 0) 23 16, arg := 0 }) ∧
      ∀ x y, (∀ b : Fin 2, bit (wd c.words 0) (8 + b.val) = true → ¬ (x = 0x2A0 + 4 * fld (wd c.words 0) 1 0 ∧ y = b.val)) → t.sub x y = s.sub x y) ∧
  (∀ (p : Port) (c : Cmd) (s : State), Heard p c s → c.op = .evtRoute → fld (wd c.words 0) 6 0 ≤ 1 → (bit (wd c.words 0) 11 = true ∨ bit (wd c.words 0) 10 = true) →
    ∃ t, Steps (.evtRoute p) s t ∧ AnswersOnly p c 3 0xF016 0 [] s t) ∧
  (∀ (p : Port) (c : Cmd) (n : Fin 128) (s : State), Heard p c s → c.op = .evtRoute → fld (wd c.words 0) 6 0 = n.val →
    (n.val ≤ 1 → bit (wd c.words 0) 11 = false ∧ bit (wd c.words 0) 10 = false) →
    ∃ t, Steps (.evtRoute p) s t ∧ Replied p c 0 0 0 [] t ∧ SameBut [.host, .maint, .sys, .ev] s t ∧ EventsBut [n] s t ∧
      t.ev.src[n] = { s.ev.src[n] with
        record := bit (wd c.words 0) 11, line := fld (wd c.words 0) 9 8
        severity := if c.expert then fld (wd c.words 1) 2 0 else (EvSrc.initial n.val).severity
        noticeHost := if p = .host then bit (wd c.words 0) 10 else (s.ev.src[n]).noticeHost
        noticeMaint := if p = .maint then bit (wd c.words 0) 10 else (s.ev.src[n]).noticeMaint })

/-- LOG_WRITE, LOG_RATE, SUMMARY_INTERVAL_END and COUNTER_CHECKPOINT. LOG_WRITE of a code with a token left and room in the queue appends one record with the next sequence number and answers with its low half; without a token it counts the suppressed occurrence and appends nothing; with a full queue the record is dropped, the sequence number and the count of lost records advance. LOG_RATE sets rate and burst of the code at once and refills its bucket; a code without a bucket is refused. At the end of an interval every suppressed code gets one SUMMARY record, and the counts begin again. A checkpoint record comes one hour of operating time after the latest record. Rests on: R388, R391, R399, R400, R401, Table 16-2. -/
def Obligations.RecordsAreWrittenSuppressedOrDropped : Prop :=
  (∀ (p : Port) (c : Cmd) (s s1 : State), Heard p c s → c.op = .logWrite → s.log.discard = false → pd2Off s = false → s.log.queue.length < 512 →
    limited (fld (wd c.words 0) 15 0) = true → takeToken (fld (wd c.words 0) 15 0) s = some s1 →
    ∃ t, Steps (.logWrite p) s t ∧ Replied p c 0 0 (s.log.seq % 65536) [] t ∧ SameBut [.host, .maint, .sys, .log] s t ∧
      t.log = { s1.log with
        queue := s.log.queue ++ [{ mkRec s (fld (wd c.words 0) 15 0) (0x80 + portNum p) 1 false ((wBytes (c.words.drop 1)).take 10) with seq := s.log.seq }]
        seq := (s.log.seq + 1) % 2 ^ 32, lastOp := s.time.opTicks }) ∧
  (∀ (p : Port) (c : Cmd) (s : State), Heard p c s → c.op = .logWrite → s.log.discard = false → pd2Off s = false →
    limited (fld (wd c.words 0) 15 0) = true → takeToken (fld (wd c.words 0) 15 0) s = none →
    ∃ t, Steps (.logWrite p) s t ∧ Replied p c 0 0xC010 0 [] t ∧ SameBut [.host, .maint, .sys, .log] s t ∧ t.log.queue = s.log.queue ∧
      t.log.seq = s.log.seq ∧ t.log.nSupp = inc32 s.log.nSupp) ∧
  (∀ (p : Port) (c : Cmd) (s s1 : State), Heard p c s → c.op = .logWrite → s.log.discard = false → pd2Off s = false → 512 ≤ s.log.queue.length →
    s.log.dropped ≠ none → limited (fld (wd c.words 0) 15 0) = true → takeToken (fld (wd c.words 0) 15 0) s = some s1 →
    ∃ t, Steps (.logWrite p) s t ∧ Replied p c 0 0xC011 (s.log.seq % 65536) [] t ∧ SameBut [.host, .maint, .sys, .log] s t ∧
      t.log.queue = s.log.queue ∧ t.log.seq = (s.log.seq + 1) % 2 ^ 32 ∧ t.log.nLost = inc32 s.log.nLost) ∧
  (∀ (p : Port) (c : Cmd) (s : State), Heard p c s → c.op = .logRate → limited (fld (wd c.words 0) 15 0) = false →
    ∃ t, Steps (.logRate p) s t ∧ AnswersOnly p c 3 0xF016 0 [] s t) ∧
  (∀ (p : Port) (c : Cmd) (s : State), Heard p c s → c.op = .logRate → limited (fld (wd c.words 0) 15 0) = true →
    ∃ t, Steps (.logRate p) s t ∧ Replied p c 0 0 0 [] t ∧ SameBut configParts s t ∧ cfgGet t.cfg.force .logRate (fld (wd c.words 0) 15 0) = c.words ∧
      ∀ b ∈ t.log.bucket, b.code ≠ fld (wd c.words 0) 15 0) ∧
  (∀ s : State, s.sys.vmain = true → s.hp.ready = true → s.log.discard = false → pd2Off s = false → s.log.queue.length + s.log.supp.length ≤ 512 →
    ∃ t, Steps .summaryIntervalEnd s t ∧ t.log.supp = [] ∧ t.log.interval = s.log.interval + summaryS s ∧ t.ev = s.ev ∧ t.host = s.host ∧
      t.maint = s.maint ∧ s.log.interval * 32768 ≤ t.time.opTicks ∧ ∃ rs, t.log.queue = s.log.queue ++ rs ∧ rs.map (fun r => (r.code, r.payload)) =
        s.log.supp.map fun x => (0x0102, leBytes 2 x.code ++ leBytes 4 x.n ++ leBytes 4 x.first)) ∧
  (∀ s : State, s.sys.vmain = true → s.hp.ready = true → s.log.discard = false → pd2Off s = false → s.log.queue.length < 512 →
    ∃ t, Steps .counterCheckpoint s t ∧ SameBut [.time, .log] s t ∧ s.log.lastOp + 3600 * 32768 ≤ t.time.opTicks ∧
      ∃ r, t.log.queue = s.log.queue ++ [r] ∧ r.code = 0x0103 ∧ r.payload = leBytes 8 t.time.mt ++ [0, 0])

/-- LOG_FLUSH, SECTOR_ERASE_COMPLETE, POWER_FAIL_FLUSH and PFAIL_RECOVERY. A flush programs every queued record in order into the slots from the head on and empties the queue; a failed program leaves its slot torn and the record takes the next. The end of a sector erase leaves the log as it is but for the erase. A power-fail flush empties the queue into the ring, POWER_FAIL last, and later records are discarded until the recovery. Rests on: R87, R389, R390, R392, R394, R400. -/
def Obligations.FlushesMoveTheQueueToTheRing : Prop :=
  (∀ s : State, s.log.discard = false → logFlashOk s = true → flushDue s = true → s.log.dropped = none → s.log.head % sectorSlots + s.log.queue.length < sectorSlots →
    s.log.head + s.log.queue.length < ringSlots →
    ∃ t, Steps (.logFlush []) s t ∧ SameBut [.time, .log] s t ∧ t.time = s.time ∧ t.log.queue = [] ∧ t.log.head = s.log.head + s.log.queue.length ∧
      t.log.ring = s.log.ring ++ (List.range s.log.queue.length).map (fun i => (s.log.head + i, Slot.full (s.log.queue.getD i { code := 0, source := 0, sev := 0, opSec := 0, opMs := 0, pwrCyc := 0, seq := 0, payload := [] })) ) ∧ t.log.seq = s.log.seq ∧
      t.log.ringMode = logBuffered s) ∧
  (∀ (r : Rec) (s : State), s.log.discard = false → logFlashOk s = true → flushDue s = true → s.log.dropped = none → s.log.queue = [r] → s.log.head % sectorSlots + 2 < sectorSlots →
    s.log.head + 2 < ringSlots →
    ∃ t, Steps (.logFlush [true]) s t ∧ SameBut [.time, .log] s t ∧ t.log.queue = [] ∧ t.log.ring = s.log.ring ++ [(s.log.head, .torn), (s.log.head + 1, .full r)] ∧
      t.log.nTorn = satN 0xFFFFFFFF (s.log.nTorn + 1) ∧ t.log.head = s.log.head + 2) ∧
  (∀ s : State, s.log.discard = false → logFlashOk s = true → flushDue s = false → s.log.queue ≠ [] → s.log.dropped = none →
    ∃ t, Steps (.logFlush []) s t ∧ SameBut [.time, .log] s t ∧ t.log.queue = [] ∧ (s.time.mtRun = true → s.time.mt + flushWait s < 2 ^ 64 → t.time.mt = s.time.mt + flushWait s)) ∧
  (∀ (k : Nat) (s : State), s.log.erasing = some k → ∃ t, Steps .sectorEraseComplete s t ∧ SameBut [.sys, .log] s t ∧ t.log = { s.log with erasing := none } ∧
    t.sys.mode = s.sys.mode ∧ ∀ d : Fin 12, d ≠ 11 → t.sys.dom[d] = s.sys.dom[d]) ∧
  (∀ s : State, s.sys.pfail = false → s.sys.vmain = true → s.hp.ready = true → pd2Off s = false → s.log.discard = false → logFlashOk s = true →
    s.log.queue.length + s.log.supp.length ≤ 512 → s.log.dropped = none →
    ∃ t, Steps .powerFailFlush s t ∧ t.sys = { s.sys with pfail := true } ∧ t.log.discard = true ∧ t.log.queue = [] ∧ t.log.supp = [] ∧
      ∃ before i r, t.log.ring = before ++ [(i, Slot.full r)] ∧ r.code = 0x010E ∧ r.payload = leBytes 2 (s.log.queue.length + s.log.supp.length + 1) ++ leBytes 8 s.time.mt) ∧
  (∀ s : State, s.sys.pfail = true → s.sys.vmain = true → ∃ t, Steps .pfailRecovery s t ∧ SameBut [.sys, .log] s t ∧ t.sys = { s.sys with pfail := false } ∧
    t.log = { s.log with discard := false })

/-- CFG_COMMIT, its completion, CFG_LOAD, and the loss and return of a flash device. CFG_COMMIT with none in progress captures the working configuration for the bank that is not in use, with the next generation, and takes its valid mark; a second one is refused, and without the device it ends at once. Its completion with a good read-back marks the bank valid and in use with the captured image, answers with the generation and raises EV124; a failed read-back leaves the bank in use as it is. CFG_LOAD waits for the boundary and is refused for a bank that is not valid. The loss and return of the log device raise EV122; of both devices nothing else but their presence changes. Rests on: R381, R382, R383, R384, R385, R386, R392, Table 15-5. -/
def Obligations.BanksAreCommittedAndLoaded : Prop :=
  (∀ (p : Port) (c : Cmd) (s : State), Heard p c s → c.op = .cfgCommit → s.cfg.commit = none → s.sys.nf0Ok = true →
    ∃ t, Steps (.cfgCommit p) s t ∧ Accepted p c 4200 s t ∧ SameBut [.host, .maint, .dpx, .cfg] s t ∧
      t.cfg = { s.cfg with
        commit := some { port := p, tag := c.tag, fwd := false, target := commitTarget s, gen := (maxGen s + 1) % 2 ^ 32, image := s.cfg.work }
        bank := upd s.cfg.bank (commitTarget s) fun b => { b with valid := false, begun := true, gen := (maxGen s + 1) % 2 ^ 32 } }) ∧
  (∀ (p : Port) (c : Cmd) (k : Commit) (s : State), Heard p c s → c.op = .cfgCommit → s.cfg.commit = some k →
    ∃ t, Steps (.cfgCommit p) s t ∧ Replied p c 3 0xB010 0 [] t ∧ SameBut [.host, .maint, .sys] s t) ∧
  (∀ (p : Port) (c : Cmd) (s : State), Heard p c s → c.op = .cfgCommit → s.cfg.commit = none → s.sys.nf0Ok = false →
    ∃ t, Steps (.cfgCommit p) s t ∧ Answered p c.tag .cfgCommit 0 0xB011 2 [] t ∧ t.cfg.commit = none ∧ t.cfg.inUse = s.cfg.inUse ∧ t.cfg.work = s.cfg.work ∧
      t.cfg.force = s.cfg.force) ∧
  (∀ (k : Commit) (s : State), s.cfg.commit = some k → k.fwd = false → Waits k.port k.tag .cfgCommit s →
    ∃ t, Steps (.cfgCommitComplete true) s t ∧ Answered k.port k.tag .cfgCommit 0 0 (k.gen % 65536) [] t ∧ t.cfg.commit = none ∧ t.cfg.inUse = some k.target ∧
      (t.cfg.bank[k.target]).image = k.image ∧ (t.cfg.bank[k.target]).gen = k.gen ∧ bankValid t.cfg.bank[k.target] = true ∧
      (t.cfg.bank[k.target]).writes = (s.cfg.bank[k.target]).writes + 1 ∧ (∀ j : Fin 2, j ≠ k.target → t.cfg.bank[j] = s.cfg.bank[j]) ∧
      t.cfg.work = s.cfg.work ∧ t.cfg.force = s.cfg.force ∧ (s.hp.ready = true → Occurred 124 (k.target.val * 256) s t ∧ EventsBut [124, 123, 120] s t)) ∧
  (∀ (k : Commit) (s : State), s.cfg.commit = some k → k.fwd = false → Waits k.port k.tag .cfgCommit s →
    ∃ t, Steps (.cfgCommitComplete false) s t ∧ Answered k.port k.tag .cfgCommit 0 0xB011 1 [] t ∧ t.cfg.commit = none ∧ t.cfg.inUse = s.cfg.inUse ∧
      t.cfg.work = s.cfg.work ∧ (∀ j : Fin 2, j ≠ k.target → t.cfg.bank[j] = s.cfg.bank[j]) ∧ (t.cfg.bank[k.target]).begun = false ∧
      (s.hp.ready = true → Occurred 124 (k.target.val * 256 + 1) s t ∧ EventsBut [124, 120] s t)) ∧
  (∀ (p : Port) (c : Cmd) (i : Fin 2) (s : State), Heard p c s → c.op = .cfgLoad → fld (wd c.words 0) 1 0 = i.val → bankValid s.cfg.bank[i] = false →
    ∃ t, Steps (.cfgLoad p) s t ∧ Replied p c 3 0xB012 i.val [] t ∧ SameBut [.host, .maint, .sys] s t) ∧
  (∀ (p : Port) (c : Cmd) (s : State), Heard p c s → c.op = .cfgLoad → (∀ i : Fin 2, fld (wd c.words 0) 1 0 = i.val → bankValid s.cfg.bank[i] = true) →
    ∃ t, Steps (.cfgLoad p) s t ∧ Accepted p c (cdiv (nextBoundary s.time.mt - s.time.mt) msTicks) s t ∧ SameBut [.host, .maint, .dpx, .cfg] s t ∧
      t.cfg = { s.cfg with loads := s.cfg.loads ++ [{ port := p, tag := c.tag, bank := fld (wd c.words 0) 1 0 }] }) ∧
  (∀ s : State, s.hp.ready = true → s.sys.nf1Ok = true → ∃ t, Steps (.flashLoss false true) s t ∧ t.sys = { s.sys with nf1Ok := false } ∧ t.cfg = s.cfg ∧
    Occurred 122 0 s t ∧ EventsBut [122, 120] s t) ∧
  (∀ s : State, s.cfg.commit = none → ∃ t, Steps (.flashLoss true false) s t ∧ t.sys = { s.sys with nf0Ok := false } ∧ SameBut [.sys] s t) ∧
  (∀ s : State, s.hp.ready = true → s.sys.nf1Ok = false → s.sys.dom[11] = .on →
    ∃ t, Steps (.flashReturn false true) s t ∧ t.sys = { s.sys with nf1Ok := true } ∧ t.log.queue = [] ∧ Occurred 122 1 s t ∧ EventsBut [122, 120] s t)

/-- Safe inputs, discrepancies, request words and the reset of the Kiln. After a change of a safe input, a discrepancy that has lasted its time, a request word, a stale path or KILN_BRAKE, every pair is in demand as Table 12-4 says for the levels then, and a channel is released, or in its test pulse, only in RUN, enabled, with no mapped input in demand, its safe-data permit and its request of the control die, and with its reset where it needs one. A request word is taken only with its right complement; a mask withdrawn by KILN_BRAKE reaches both paths at once. A reset outside its window, or outside RUN, does nothing; a reset frees a pair whose inputs have both been in demand and agree. In OFF a change of an input moves the land alone, and a request word is not taken. Rests on: R305, R307, R308, R311, R315, Tables 12-4, 12-5. -/
def Obligations.KilnInputsAndRequestsMoveThePairsAndChannels : Prop :=
  (∀ (i : Fin 16) (level : Bool) (s : State), s.kiln.st ≠ .off → ∃ t, Steps (.safeInputChange i level) s t ∧ SameBut [.kiln] s t ∧ t.kiln.filt = s.kiln.filt.set i level ∧
      t.kiln.si = s.kiln.si.set i level ∧ t.kiln.st = s.kiln.st ∧ PairsFollow t.kiln ∧ ReleasesFollow t.time.now t.kiln) ∧
  (∀ (j : Fin 8) (since : Nat) (s : State), (s.kiln.pair[j]).discSince = some since → (s.kiln.pair[j]).fault = false → s.kiln.st ≠ .off →
    ∃ t, Steps (.pairDiscrepancyTimeout j) s t ∧ SameBut [.time, .kiln] s t ∧ since + kDiscMs s.kiln j * msTicks ≤ t.time.now ∧ (t.kiln.pair[j]).fault = true ∧
      (t.kiln.pair[j]).dem0 = true ∧ (t.kiln.pair[j]).dem1 = true ∧ PairsFollow t.kiln ∧ ReleasesFollow t.time.now t.kiln ∧
      (∀ n : Fin 8, (tb (kInMask s.kiln n) (2 * j.val) = true ∨ tb (kInMask s.kiln n) (2 * j.val + 1) = true) → ¬ Releasing t.kiln n)) ∧
  (∀ (path : Fin 2) (mask : Byte) (s : State), s.kiln.st ≠ .off → ∃ t, Steps (.kilnRequestWord path mask (~~~mask)) s t ∧ SameBut [.kiln] s t ∧
      t.kiln.path[path] = some (mask, s.time.now) ∧ (∀ q : Fin 2, q ≠ path → t.kiln.path[q] = s.kiln.path[q]) ∧ PairsFollow t.kiln ∧ ReleasesFollow t.time.now t.kiln) ∧
  (∀ (path : Fin 2) (mask comp : Byte) (s : State), comp ≠ ~~~mask → s.kiln.st ≠ .off → ∃ t, Steps (.kilnRequestWord path mask comp) s t ∧ SameBut [.kiln] s t ∧
      t.kiln.path = s.kiln.path ∧ t.kiln.cdBadSince = some (s.kiln.cdBadSince.getD s.time.now) ∧ ReleasesFollow t.time.now t.kiln) ∧
  (∀ (path : Fin 2) (m : Byte) (at_ : Nat) (s : State), s.kiln.path[path] = some (m, at_) →
    ∃ t, Steps (.kilnRequestStale path) s t ∧ SameBut [.time, .kiln] s t ∧ t.kiln.path[path] = none ∧ at_ + 30000 < t.time.now ∧ ReleasesFollow t.time.now t.kiln ∧
      (∀ n : Fin 8, kCdGate s.kiln n = true → ¬ Releasing t.kiln n)) ∧
  (∀ (p : Port) (c : Cmd) (s : State), Heard p c s → c.op = .kilnBrake → kilnUp s = true →
    ∃ t, Steps (.kilnBrake p) s t ∧ Replied p c 0 0 0 [] t ∧ SameBut [.host, .maint, .sys, .kiln] s t ∧ t.kiln.cdSet = BitVec.ofNat 8 (fld (wd c.words 0) 7 0) ∧
      (∀ (q : Fin 2) (m : Byte) (at_ : Nat), s.kiln.path[q] = some (m, at_) → t.kiln.path[q] = some (m &&& BitVec.ofNat 8 (fld (wd c.words 0) 7 0), at_)) ∧ ReleasesFollow t.time.now t.kiln) ∧
  (∀ (p : Port) (c : Cmd) (s : State), Heard p c s → c.op = .kilnAck → kilnUp s = true → kResetSi s.kiln = 0xFF → s.kiln.st = .run →
    ∃ t, Steps (.kilnAck p) s t ∧ Replied p c 0 0 (faultMask t.kiln) [] t ∧ SameBut [.host, .maint, .sys, .kiln] s t ∧ ReleasesFollow t.time.now t.kiln ∧
      (∀ j : Fin 8, (s.kiln.pair[j]).fault = true → (s.kiln.pair[j]).bothSeen = true → pairDisc (kPairMode s.kiln j) (kA s.kiln j) (kB s.kiln j) = false →
        (t.kiln.pair[j]).fault = false)) ∧
  (∀ (highMs : Nat) (s : State), highMs < 100 ∨ 5000 < highMs ∨ s.kiln.st ≠ .run ∨ 16 ≤ kResetSi s.kiln → Steps (.kilnResetInput highMs) s s) ∧
  (∀ (highMs : Nat) (s : State), 100 ≤ highMs → highMs ≤ 5000 → s.kiln.st = .run → kResetSi s.kiln < 16 →
    ∃ t, Steps (.kilnResetInput highMs) s t ∧ SameBut [.kiln] s t ∧ ReleasesFollow t.time.now t.kiln ∧
      (∀ j : Fin 8, (s.kiln.pair[j]).fault = true → (s.kiln.pair[j]).bothSeen = true → pairDisc (kPairMode s.kiln j) (kA s.kiln j) (kB s.kiln j) = false →
        (t.kiln.pair[j]).fault = false)) ∧
  (∀ (i : Fin 16) (level : Bool) (s : State), s.kiln.st = .off → ∃ t, Steps (.safeInputChange i level) s t ∧ SameBut [.kiln] s t ∧
      t.kiln = { s.kiln with si := s.kiln.si.set i level, filt := s.kiln.filt.set i level }) ∧
  (∀ (path : Fin 2) (mask comp : Byte) (s : State), s.kiln.st = .off → ∃ t, Steps (.kilnRequestWord path mask comp) s t ∧ SameBut [.kiln] s t ∧ t.kiln = s.kiln)

/-- The states of the Kiln: start, run, recovery, fault, off. The rise of VKILN starts the start-up test with the newer valid copy; its loss turns the Kiln off and ends a write in progress. The start-up test and the recovery lead to RUN, or with a failure to FAULT of their cause. The comparison of the two channels, the cross check of the rings and the check of the configuration lead to FAULT of cause 1, 2 and 3. In every state but RUN no channel is released; the first fault cause stands. Rests on: R301, R304, R319, R320, R321, Tables 12-2, 12-7. -/
def Obligations.KilnFaultsAndTestsReleaseNothing : Prop :=
  (∀ s : State, s.kiln.vkiln = false → ∃ t, Steps .vkilnRise s t ∧ SameBut [.kiln] s t ∧ t.kiln.vkiln = true ∧ t.kiln.st = .startTest ∧ t.kiln.inUse = kBest s.kiln ∧ (∀ n : Fin 8, ¬ Releasing t.kiln n)) ∧
  (∀ s : State, (∀ w, s.kiln.write = some w → w.cmd = none) → ∃ t, Steps .vkilnLoss s t ∧ SameBut [.kiln] s t ∧ t.kiln.vkiln = false ∧ t.kiln.st = .off ∧ t.kiln.staged = none ∧ t.kiln.write = none ∧ (∀ n : Fin 8, ¬ Releasing t.kiln n)) ∧
  (∀ (w : KWrite) (p : Port) (tag : Nat) (op : Op) (s : State), s.kiln.write = some w → w.cmd = some (p, tag) → Waits p tag op s →
    ∃ t, Steps .vkilnLoss s t ∧ Answered p tag op 0 0x9013 2 [] t ∧ t.kiln.st = .off ∧ (t.kiln.copies[w.target]).valid = false ∧ t.kiln.interrupted = true ∧ t.kiln.write = none ∧ (∀ n : Fin 8, ¬ Releasing t.kiln n)) ∧
  (∀ s : State, s.kiln.st = .startTest → (kCopy s.kiln).valid = true → ∃ t, Steps (.kilnStartTestComplete true) s t ∧ SameBut [.kiln] s t ∧ t.kiln.st = .run ∧ t.kiln.fault = 0 ∧ ReleasesFollow t.time.now t.kiln ∧ PairsFollow t.kiln) ∧
  (∀ s : State, s.kiln.st = .startTest → ∃ t, Steps (.kilnStartTestComplete false) s t ∧ SameBut [.kiln] s t ∧ t.kiln.st = .fault ∧
      t.kiln.fault = (if (kCopy s.kiln).valid then 4 else 3) ∧ (∀ n : Fin 8, ¬ Releasing t.kiln n)) ∧
  (∀ s : State, s.kiln.st = .recovery → ∃ t, Steps (.kilnRecoveryEnd true) s t ∧ SameBut [.kiln] s t ∧ t.kiln.st = .run ∧ ReleasesFollow t.time.now t.kiln ∧ PairsFollow t.kiln) ∧
  (∀ s : State, s.kiln.st = .recovery → ∃ t, Steps (.kilnRecoveryEnd false) s t ∧ SameBut [.kiln] s t ∧ t.kiln.st = .fault ∧ t.kiln.fault = 4 ∧ (∀ n : Fin 8, ¬ Releasing t.kiln n)) ∧
  (∀ s : State, s.kiln.st ≠ .off → s.kiln.st ≠ .fault → ∃ t, Steps .kilnChannelCompareFault s t ∧ SameBut [.kiln] s t ∧ t.kiln.st = .fault ∧ t.kiln.fault = 1 ∧ (∀ n : Fin 8, ¬ Releasing t.kiln n)) ∧
  (∀ s : State, s.kiln.st = .fault → ∃ t, Steps .kilnChannelCompareFault s t ∧ t.kiln = s.kiln) ∧
  (∀ (k1 k2 : Nat) (s : State), ringOk k1 = false ∨ ringOk k2 = false → s.kiln.st ≠ .off → s.kiln.st ≠ .fault →
    ∃ t, Steps (.kilnRingCrossCheck k1 k2) s t ∧ SameBut [.kiln] s t ∧ t.kiln.st = .fault ∧ t.kiln.fault = 2 ∧ (∀ n : Fin 8, ¬ Releasing t.kiln n)) ∧
  (∀ (k1 k2 : Nat) (s : State), 45000 ≤ k1 → k1 ≤ 55000 → 45000 ≤ k2 → k2 ≤ 55000 → Steps (.kilnRingCrossCheck k1 k2) s s) ∧
  (∀ s : State, s.kiln.st ≠ .off → s.kiln.st ≠ .fault → ∃ t, Steps (.kilnConfigCrcCheck false) s t ∧ SameBut [.kiln] s t ∧ t.kiln.st = .fault ∧ t.kiln.fault = 3 ∧ (t.kiln.copies[s.kiln.inUse]).valid = false ∧ (∀ n : Fin 8, ¬ Releasing t.kiln n)) ∧
  (∀ s : State, Steps (.kilnConfigCrcCheck true) s s)

/-- The output test, its end, the readback and the feedback contacts. In its slot the test takes one output of a channel that has been released for a second low, and the other stays; a good end raises it again and counts the pass; a readback that does not follow is channel fault 4, a mirror contact that does not open fault 5. A readback that contradicts its output outside the pulse, 100 us after the last switching, is fault 3. Contacts that contradict the channel after FB_TIME_MS are fault 1, contacts that disagree fault 2. A channel fault takes both outputs low and latches; every other channel stays. Rests on: R309, R310, R312, Table 12-7. -/
def Obligations.KilnOutputTestsAndReadbacks : Prop :=
  (∀ (slot : Fin 16) (n : Fin 8) (at_ : Nat) (s : State), slot.val / 2 = n.val → s.kiln.st = .run → (s.kiln.ch[n]).st = .released → (s.kiln.ch[n]).relSince = some at_ →
    at_ + secTicks ≤ s.time.now →
    ∃ t, Steps (.outputTestSlot slot) s t ∧ SameBut [.kiln] s t ∧ (t.kiln.ch[n]).st = .test ∧ (t.kiln.ch[n]).pulse = some (slot.val % 2 == 1) ∧
      (t.kiln.ch[n]).outA = ((s.kiln.ch[n]).outA && slot.val % 2 == 1) ∧ (t.kiln.ch[n]).outB = ((s.kiln.ch[n]).outB && !(slot.val % 2 == 1)) ∧
      ∀ m : Fin 8, m ≠ n → t.kiln.ch[m] = s.kiln.ch[m]) ∧
  (∀ (slot : Fin 16) (n : Fin 8) (s : State), slot.val / 2 = n.val → (s.kiln.ch[n]).st = .test → (s.kiln.ch[n]).pulse = some (slot.val % 2 == 1) →
    ∃ t, Steps (.testPulseEnd slot true true) s t ∧ SameBut [.time, .kiln] s t ∧ (t.kiln.ch[n]).st = .released ∧ (t.kiln.ch[n]).outA = true ∧ (t.kiln.ch[n]).outB = true ∧
      (t.kiln.ch[n]).pulse = none ∧ (t.kiln.ch[n]).nPass = satN 255 ((s.kiln.ch[n]).nPass + 1) ∧ ∀ m : Fin 8, m ≠ n → t.kiln.ch[m] = s.kiln.ch[m]) ∧
  (∀ (slot : Fin 16) (n : Fin 8) (readback mirror : Bool) (s : State), slot.val / 2 = n.val → (s.kiln.ch[n]).st = .test → (s.kiln.ch[n]).pulse = some (slot.val % 2 == 1) →
    readback = false ∨ mirror = false →
    ∃ t, Steps (.testPulseEnd slot readback mirror) s t ∧ SameBut [.time, .kiln] s t ∧ (t.kiln.ch[n]).st = .fault ∧ (t.kiln.ch[n]).fault = (if mirror then 4 else 5) ∧
      (t.kiln.ch[n]).outA = false ∧ (t.kiln.ch[n]).outB = false ∧ ∀ m : Fin 8, m ≠ n → t.kiln.ch[m] = s.kiln.ch[m]) ∧
  (∀ (n : Fin 8) (outB level : Bool) (s : State), s.kiln.st = .run → (s.kiln.ch[n]).st ≠ .fault → (s.kiln.ch[n]).st ≠ .disabled →
    (if outB then (s.kiln.ch[n]).outB else (s.kiln.ch[n]).outA) ≠ level → (s.kiln.ch[n]).switched + 10000 ≤ s.time.now → (s.kiln.ch[n]).pulse ≠ some outB →
    ∃ t, Steps (.readbackFault n outB level) s t ∧ SameBut [.kiln] s t ∧ (t.kiln.ch[n]).st = .fault ∧ (t.kiln.ch[n]).fault = 3 ∧ (t.kiln.ch[n]).outA = false ∧
      (t.kiln.ch[n]).outB = false ∧ ∀ m : Fin 8, m ≠ n → t.kiln.ch[m] = s.kiln.ch[m]) ∧
  (∀ (n : Fin 8) (outB level : Bool) (s : State), (if outB then (s.kiln.ch[n]).outB else (s.kiln.ch[n]).outA) = level →
    ∃ t, Steps (.readbackFault n outB level) s t ∧ SameBut [.kiln] s t ∧ (t.kiln.ch[n]).st = (s.kiln.ch[n]).st ∧ (t.kiln.ch[n]).outA = (s.kiln.ch[n]).outA ∧
      (t.kiln.ch[n]).outB = (s.kiln.ch[n]).outB ∧ (if outB then (t.kiln.ch[n]).rbb else (t.kiln.ch[n]).rba) = level) ∧
  (∀ (n : Fin 8) (a b : Bool) (s : State), s.kiln.st = .run → kEnable s.kiln n = true → kFbEnable s.kiln n = true → (s.kiln.ch[n]).st = .applied → (a = false ∨ b = false) →
    ∃ t, Steps (.feedbackCheckTimeout n a b) s t ∧ SameBut [.time, .kiln] s t ∧ (s.kiln.ch[n]).switched + kFbMs s.kiln n * msTicks ≤ t.time.now ∧ (t.kiln.ch[n]).st = .fault ∧
      (t.kiln.ch[n]).fault = (if (s.kiln.ch[n]).switched + kFbMs s.kiln n * msTicks ≤ s.time.now ∧ a ≠ b then 2 else 1) ∧ (t.kiln.ch[n]).outA = false ∧
      (t.kiln.ch[n]).outB = false ∧ ∀ m : Fin 8, m ≠ n → t.kiln.ch[m] = s.kiln.ch[m]) ∧
  (∀ (n : Fin 8) (s : State), (s.kiln.ch[n]).st = .released →
    ∃ t, Steps (.feedbackCheckTimeout n false false) s t ∧ SameBut [.time, .kiln] s t ∧ (t.kiln.ch[n]).st = .released ∧ (t.kiln.ch[n]).outA = (s.kiln.ch[n]).outA ∧
      (t.kiln.ch[n]).outB = (s.kiln.ch[n]).outB ∧ (t.kiln.ch[n]).fba = false ∧ (t.kiln.ch[n]).fbb = false)

/-- Safe-data telegrams, their window and their time-outs. A copy that is not well-formed, or whose sequence number is not one to eight ahead, only counts as discarded. The first good copy opens its window and can only take permits away; a second copy equal to it makes them stand as they say, with both buses. A different second copy closes the window and counts a mismatch. A window that ends with one copy is a degraded acceptance, or the reaction where none is allowed. In the reaction, entered by either time-out, every permit is 0 and no channel that uses safe data is released. Rests on: R316, R317, R318, Table 12-9. -/
def Obligations.SafeDataPermitsOnlyWhatTelegramsAgreeOn : Prop :=
  (∀ (bus4 : Bool) (bytes : List Byte) (s : State), kSdEnable s.kiln = true → s.kiln.st = .run → sdValid s.kiln bytes = false →
    ∃ t, Steps (.sdTelegramCopy bus4 bytes) s t ∧ SameBut [.kiln] s t ∧ t.kiln = { s.kiln with sd := { s.kiln.sd with nDiscard := satN 0xFFFF (s.kiln.sd.nDiscard + 1) } }) ∧
  (∀ (bus4 : Bool) (bytes : List Byte) (s : State), kSdEnable s.kiln = true → s.kiln.st = .run → sdValid s.kiln bytes = true →
    (∀ w ∈ s.kiln.sd.wins, w.seq ≠ ofLe (bytes.take 2)) → sdAhead s.kiln (ofLe (bytes.take 2)) = false →
    ∃ t, Steps (.sdTelegramCopy bus4 bytes) s t ∧ SameBut [.kiln] s t ∧ t.kiln = { s.kiln with sd := { s.kiln.sd with nDiscard := satN 0xFFFF (s.kiln.sd.nDiscard + 1) } }) ∧
  (∀ (bus4 : Bool) (bytes : List Byte) (s : State), kSdEnable s.kiln = true → s.kiln.st = .run → sdValid s.kiln bytes = true →
    (∀ w ∈ s.kiln.sd.wins, w.seq ≠ ofLe (bytes.take 2)) → sdAhead s.kiln (ofLe (bytes.take 2)) = true →
    ∃ t, Steps (.sdTelegramCopy bus4 bytes) s t ∧ SameBut [.kiln] s t ∧ ReleasesFollow t.time.now t.kiln ∧
      t.kiln.sd = { s.kiln.sd with
        wins := s.kiln.sd.wins ++ [{ seq := ofLe (bytes.take 2), bytes := bytes, bus4 := bus4, since := s.time.now }]
        permit := s.kiln.sd.permit &&& BitVec.ofNat 16 (ofLe ((bytes.drop 4).take 2)) }) ∧
  (∀ (bus4 : Bool) (w : SdOpen) (s : State), kSdEnable s.kiln = true → s.kiln.st = .run → sdValid s.kiln w.bytes = true → s.kiln.sd.wins = [w] → w.seq = ofLe (w.bytes.take 2) →
    s.kiln.sd.st = 1 ∨ s.kiln.sd.st = 2 →
    ∃ t, Steps (.sdTelegramCopy bus4 w.bytes) s t ∧ SameBut [.kiln] s t ∧ ReleasesFollow t.time.now t.kiln ∧ t.kiln.sd.st = 1 ∧ t.kiln.sd.wins = [] ∧
      t.kiln.sd.permit = BitVec.ofNat 16 (ofLe ((w.bytes.drop 4).take 2)) ∧ t.kiln.sd.lastSeq = some w.seq ∧ t.kiln.sd.accAt = s.time.now ∧ t.kiln.sd.fullAt = s.time.now) ∧
  (∀ (bus4 : Bool) (bytes : List Byte) (w : SdOpen) (s : State), kSdEnable s.kiln = true → s.kiln.st = .run → sdValid s.kiln bytes = true → s.kiln.sd.wins = [w] →
    w.seq = ofLe (bytes.take 2) → w.bytes ≠ bytes →
    ∃ t, Steps (.sdTelegramCopy bus4 bytes) s t ∧ SameBut [.kiln] s t ∧ t.kiln.sd.wins = [] ∧ t.kiln.sd.nMismatch = satN 0xFFFF (s.kiln.sd.nMismatch + 1) ∧
      t.kiln.sd.permit = s.kiln.sd.permit ∧ t.kiln.sd.lastSeq = s.kiln.sd.lastSeq ∧ t.kiln.ch = s.kiln.ch) ∧
  (∀ (w : SdOpen) (s : State), s.kiln.sd.wins = [w] → kSdDegMs s.kiln ≠ 0 → s.kiln.sd.st = 1 ∨ s.kiln.sd.st = 2 →
    ∃ t, Steps .sdWindowEnd s t ∧ SameBut [.time, .kiln] s t ∧ w.since + 500000 ≤ t.time.now ∧ t.kiln.sd.st = 2 ∧ t.kiln.sd.wins = [] ∧ t.kiln.sd.lastSeq = some w.seq ∧
      t.kiln.sd.permit = BitVec.ofNat 16 (ofLe ((w.bytes.drop 4).take 2)) ∧ t.kiln.sd.missing = (if w.bus4 then 3 else 4) ∧ t.kiln.sd.fullAt = s.kiln.sd.fullAt ∧
      t.kiln.sd.nDegraded = satN 0xFFFF (s.kiln.sd.nDegraded + 1) ∧ ReleasesFollow t.time.now t.kiln) ∧
  (∀ s : State, kSdEnable s.kiln = true → s.kiln.st = .run → s.kiln.sd.st = 1 ∨ s.kiln.sd.st = 2 →
    ∃ t, Steps .sdTimeout s t ∧ SameBut [.time, .kiln] s t ∧ s.kiln.sd.accAt + kSdMs s.kiln * msTicks ≤ t.time.now ∧ t.kiln.sd.st = 3 ∧ t.kiln.sd.permit = 0 ∧ t.kiln.sd.why = 1 ∧
      ReleasesFollow t.time.now t.kiln ∧ (∀ n : Fin 8, kSdUse s.kiln n = true → ¬ Releasing t.kiln n)) ∧
  (∀ s : State, kSdEnable s.kiln = true → s.kiln.st = .run → s.kiln.sd.st = 2 → kSdDegMs s.kiln ≠ 0 →
    ∃ t, Steps .sdDegradedTimeout s t ∧ SameBut [.time, .kiln] s t ∧ s.kiln.sd.fullAt + kSdDegMs s.kiln * msTicks ≤ t.time.now ∧ t.kiln.sd.st = 3 ∧ t.kiln.sd.permit = 0 ∧
      t.kiln.sd.why = 2 ∧ (∀ n : Fin 8, kSdUse s.kiln n = true → ¬ Releasing t.kiln n))

/-- KILN_CONFIG, KILN_CONFIRM, the end of a write, the expiry of a staged image and the arrival of Kiln events. KILN_CONFIG in RUN stages an acceptable image and answers with it and its CRC; an image with a word that Table 12-10 does not allow is refused with that word. KILN_CONFIRM with the CRC of the staged image starts its write to the other copy with the next generation, no channel released; another CRC, or nothing staged, is refused. A good write puts the copy in use, answers with its generation, records the change; a bad one is FAULT of cause 3 and the previous copy stays in use. A staged image ends after 60 s. The oldest Kiln event becomes an occurrence at its source. Over a link that is down the command ends with detail 2; a Kiln gone to FAULT stays there (log entry 56). Rests on: R319, R320, R321, R322, R386, R403, Tables 12-10, 12-11. -/
def Obligations.KilnImagesAreStagedConfirmedAndWritten : Prop :=
  (∀ (p : Port) (c : Cmd) (s : State), Heard p c s → c.op = .kilnConfig → kilnUp s = true → s.kiln.st = .run →
    kilnBad (expertWords .kilnConfig c.expert c.words) = none →
    ∃ t, Steps (.kilnConfig p) s t ∧ Replied p c 0 0 0 (expertWords .kilnConfig c.expert c.words ++ [crc32 (expertWords .kilnConfig c.expert c.words)]) t ∧
      SameBut [.host, .maint, .sys, .kiln] s t ∧ t.kiln = { s.kiln with staged := some (expertWords .kilnConfig c.expert c.words, s.time.now) }) ∧
  (∀ (p : Port) (c : Cmd) (i : Nat) (s : State), Heard p c s → c.op = .kilnConfig → kilnUp s = true → s.kiln.st = .run →
    kilnBad (expertWords .kilnConfig c.expert c.words) = some i → ∃ t, Steps (.kilnConfig p) s t ∧ AnswersOnly p c 3 0x9010 i [] s t) ∧
  (∀ (p : Port) (c : Cmd) (s : State), Heard p c s → c.op = .kilnConfig → kilnUp s = true → s.kiln.st ≠ .run → s.kiln.st ≠ .fault →
    ∃ t, Steps (.kilnConfig p) s t ∧ AnswersOnly p c 3 0x9016 (kilnCode s.kiln.st) [] s t) ∧
  (∀ (p : Port) (c : Cmd) (ws : List Word) (at_ : Nat) (s : State), Heard p c s → c.op = .kilnConfirm → kilnUp s = true → s.kiln.st ≠ .fault → s.kiln.staged = some (ws, at_) →
    crc32 ws = wd c.words 0 →
    ∃ t, Steps (.kilnConfirm p) s t ∧ Accepted p c 300 s t ∧ SameBut [.host, .maint, .kiln] s t ∧ t.kiln.st = .config ∧ t.kiln.staged = none ∧ t.kiln.inUse = s.kiln.inUse ∧
      t.kiln.write = some { target := if s.kiln.inUse = 0 then 1 else 0, gen := (kCopy s.kiln).gen + 1, words := ws, cmd := some (p, c.tag) } ∧ (∀ n : Fin 8, ¬ Releasing t.kiln n)) ∧
  (∀ (p : Port) (c : Cmd) (ws : List Word) (at_ : Nat) (s : State), Heard p c s → c.op = .kilnConfirm → kilnUp s = true → s.kiln.st ≠ .fault → s.kiln.staged = some (ws, at_) →
    crc32 ws ≠ wd c.words 0 → ∃ t, Steps (.kilnConfirm p) s t ∧ Replied p c 3 0x9012 (fld (crc32 ws) 15 0) [] t ∧ SameBut [.host, .maint, .sys] s t) ∧
  (∀ (p : Port) (c : Cmd) (s : State), Heard p c s → c.op = .kilnConfirm → kilnUp s = true → s.kiln.st ≠ .fault → s.kiln.staged = none →
    ∃ t, Steps (.kilnConfirm p) s t ∧ Replied p c 3 0x9011 0 [] t ∧ SameBut [.host, .maint, .sys] s t) ∧
  (∀ (w : KWrite) (p : Port) (tag : Nat) (s : State), s.kiln.write = some w → w.cmd = some (p, tag) → Waits p tag .kilnConfirm s → s.kiln.st = .config → s.sys.kilnLink = true →
    ∃ t, Steps (.kilnWriteComplete true) s t ∧ Answered p tag .kilnConfirm 0 0 (w.gen % 65536) [] t ∧ t.kiln.st = .recovery ∧ t.kiln.inUse = w.target ∧ t.kiln.write = none ∧
      t.kiln.copies[w.target] = { gen := w.gen, words := w.words, valid := true } ∧ (∀ i : Fin 2, i ≠ w.target → t.kiln.copies[i] = s.kiln.copies[i]) ∧
      (s.hp.ready = true → Occurred 123 (portNum p * 4096 + (opInfo .kilnConfirm).code) s t ∧ EventsBut [123, 120] s t) ∧ (∀ n : Fin 8, ¬ Releasing t.kiln n)) ∧
  (∀ (w : KWrite) (p : Port) (tag : Nat) (s : State), s.kiln.write = some w → w.cmd = some (p, tag) → Waits p tag .kilnConfirm s → s.kiln.st = .config → s.sys.kilnLink = true →
    ∃ t, Steps (.kilnWriteComplete false) s t ∧ Answered p tag .kilnConfirm 0 0x9013 1 [] t ∧ t.kiln.st = .fault ∧ t.kiln.fault = 3 ∧ t.kiln.inUse = s.kiln.inUse ∧ t.kiln.write = none ∧
      (t.kiln.copies[w.target]).valid = false ∧ t.ev = s.ev ∧ (∀ n : Fin 8, ¬ Releasing t.kiln n)) ∧
  (∀ (ws : List Word) (at_ : Nat) (s : State), s.kiln.staged = some (ws, at_) →
    ∃ t, Steps .kilnStageExpiry s t ∧ SameBut [.time, .kiln] s t ∧ t.kiln = { s.kiln with staged := none } ∧ at_ + 60 * secTicks ≤ t.time.now) ∧
  (∀ (e : KEvent) (rest : List KEvent) (n : Fin 128) (s : State), s.kiln.evq = e :: rest → e.src = n.val → n ≠ 120 → s.hp.ready = true →
    ∃ t, Steps .kilnStateArrival s t ∧ t.kiln = { s.kiln with evq := rest } ∧ Occurred n e.detail s t ∧ EventsBut [n, 120] s t) ∧
  (∀ (w : KWrite) (p : Port) (tag : Nat) (ok : Bool) (s : State), s.kiln.write = some w → w.cmd = some (p, tag) → Waits p tag .kilnConfirm s → s.kiln.st = .config → s.sys.kilnLink = false →
    ∃ t, Steps (.kilnWriteComplete ok) s t ∧ Answered p tag .kilnConfirm 0 0x9013 2 [] t ∧ t.kiln.write = none ∧ (t.kiln.copies[w.target]).valid = ok ∧ (∀ n : Fin 8, ¬ Releasing t.kiln n)) ∧
  (∀ (w : KWrite) (s : State), s.kiln.write = some w → s.kiln.st = .fault →
    ∃ t, Steps (.kilnWriteComplete true) s t ∧ t.kiln.st = .fault ∧ t.kiln.fault = s.kiln.fault ∧ t.kiln.inUse = w.target ∧ t.kiln.write = none)

/-- The commands of the CAN controllers and UART ports. BUS_CAN_FILTER sets one filter; BUS_CAN_SEND appends one host frame in entry order, and refuses it with 32 pending, for an owner identifier without ownership, or a blocked identifier; BUS_CAN_RECEIVE answers with the oldest frames and the drops and removes them; BUS_CAN_SLEEP sleeps at once or after the frame in hand, is refused to a controller in use in CONTROL, and wakes; BUS_CAN_RECOVER starts a recovery only in bus-off; BUS_CAN_RELEASE ends a block, with detail 1 where there is none; BUS_UART_SEND appends its bytes, with the checksum where asked, and refuses what the 1024 bytes do not hold. Every other controller or port stays. Rests on: R356, R357, R358, R360, R361, R363, R364, R371, R433, Tables 14-4, 14-5. -/
def Obligations.BusCommandsQueueFilterAndWake : Prop :=
  (∀ (p : Port) (c : Cmd) (k : Fin 6) (j : Fin 32) (s : State), Heard p c s → c.op = .busCanFilter → fld (wd c.words 0) 2 0 = k.val → fld (wd c.words 0) 12 8 = j.val →
    ∃ t, Steps (.busCanFilter p) s t ∧ Replied p c 0 0 0 [] t ∧ SameBut [.host, .maint, .sys, .can] s t ∧ t.can = s.can.set k { s.can[k] with filters := (s.can[k]).filters.set j { enable := bit (wd c.words 0) 16, ide := bit (wd c.words 0) 17, fdOnly := bit (wd c.words 0) 18, id := fld (wd c.words 1) 28 0, mask := fld (wd c.words 2) 28 0 } }) ∧
  (∀ (p : Port) (c : Cmd) (k : Fin 6) (frame : CanFrame) (s : State), Heard p c s → c.op = .busCanSend → fld (wd c.words 0) 2 0 = k.val →
    frame = { ide := bit (wd c.words 1) 31, id := fld (wd c.words 1) 28 0, fdf := bit (wd c.words 1) 30, brs := bit (wd c.words 1) 29, rtr := bit (wd c.words 2) 7, data := (wBytes (c.words.drop 3)).take (fld (wd c.words 2) 6 0) } →
    lenOk frame.fdf (fld (wd c.words 2) 6 0) = true → (frame.fdf = true → canDataRate s k ≠ 0) → (frame.rtr = true → frame.fdf = false) → (frame.brs = true → frame.fdf = true) →
    canMode s k = 1 → (s.can[k]).sleepCmd = false → hostPending s.can[k] < 32 →
    (ownerId s k (frameId frame) = true → s.sys.own = true) → (s.can[k]).blocked.contains (frameId frame) = false →
    ∃ t, Steps (.busCanSend p) s t ∧ Replied p c 0 0 0 [] t ∧ SameBut [.host, .maint, .sys, .can] s t ∧ t.can = s.can.set k { s.can[k] with
      txq := (s.can[k]).txq ++ [{ f := frame, who := .host, oneShot := bit (wd c.words 0) 8, ord := (s.can[k]).nextOrd }], nextOrd := (s.can[k]).nextOrd + 1 }) ∧
  (∀ (p : Port) (c : Cmd) (k : Fin 6) (frame : CanFrame) (s : State), Heard p c s → c.op = .busCanSend → fld (wd c.words 0) 2 0 = k.val →
    frame = { ide := bit (wd c.words 1) 31, id := fld (wd c.words 1) 28 0, fdf := bit (wd c.words 1) 30, brs := bit (wd c.words 1) 29, rtr := bit (wd c.words 2) 7, data := (wBytes (c.words.drop 3)).take (fld (wd c.words 2) 6 0) } →
    lenOk frame.fdf (fld (wd c.words 2) 6 0) = true → (frame.fdf = true → canDataRate s k ≠ 0) → (frame.rtr = true → frame.fdf = false) → (frame.brs = true → frame.fdf = true) →
    canMode s k = 1 → (s.can[k]).sleepCmd = false → 32 ≤ hostPending s.can[k] →
    ∃ t, Steps (.busCanSend p) s t ∧ AnswersOnly p c 3 0x8010 k.val [] s t) ∧
  (∀ (p : Port) (c : Cmd) (k : Fin 6) (frame : CanFrame) (s : State), Heard p c s → c.op = .busCanSend → fld (wd c.words 0) 2 0 = k.val →
    frame = { ide := bit (wd c.words 1) 31, id := fld (wd c.words 1) 28 0, fdf := bit (wd c.words 1) 30, brs := bit (wd c.words 1) 29, rtr := bit (wd c.words 2) 7, data := (wBytes (c.words.drop 3)).take (fld (wd c.words 2) 6 0) } →
    lenOk frame.fdf (fld (wd c.words 2) 6 0) = true → (frame.fdf = true → canDataRate s k ≠ 0) → (frame.rtr = true → frame.fdf = false) → (frame.brs = true → frame.fdf = true) →
    canMode s k = 1 → (s.can[k]).sleepCmd = false → hostPending s.can[k] < 32 → ownerId s k (frameId frame) = true → s.sys.own = false →
    ∃ t, Steps (.busCanSend p) s t ∧ AnswersOnly p c 3 0x8011 k.val [] s t) ∧
  (∀ (p : Port) (c : Cmd) (k : Fin 6) (frame : CanFrame) (s : State), Heard p c s → c.op = .busCanSend → fld (wd c.words 0) 2 0 = k.val →
    frame = { ide := bit (wd c.words 1) 31, id := fld (wd c.words 1) 28 0, fdf := bit (wd c.words 1) 30, brs := bit (wd c.words 1) 29, rtr := bit (wd c.words 2) 7, data := (wBytes (c.words.drop 3)).take (fld (wd c.words 2) 6 0) } →
    lenOk frame.fdf (fld (wd c.words 2) 6 0) = true → (frame.fdf = true → canDataRate s k ≠ 0) → (frame.rtr = true → frame.fdf = false) → (frame.brs = true → frame.fdf = true) →
    canMode s k = 1 → (s.can[k]).sleepCmd = false → hostPending s.can[k] < 32 → (ownerId s k (frameId frame) = true → s.sys.own = true) → (s.can[k]).blocked.contains (frameId frame) = true →
    ∃ t, Steps (.busCanSend p) s t ∧ AnswersOnly p c 3 0x8012 k.val [] s t) ∧
  (∀ (p : Port) (c : Cmd) (k : Fin 6) (s : State), Heard p c s → c.op = .busCanReceive → fld (wd c.words 0) 2 0 = k.val →
    ∃ t, Steps (.busCanReceive p) s t ∧ SameBut [.host, .maint, .sys, .can] s t ∧ t.can = s.can.set k { s.can[k] with fifo := (s.can[k]).fifo.drop (fld (wd c.words 0) 15 8), dropped := 0 } ∧
      Replied p c 0 0 0 (pk [((s.can[k]).dropped, 16), (((s.can[k]).fifo.take (fld (wd c.words 0) 15 8)).length, 8), (k.val, 0)] ::
        ((s.can[k]).fifo.take (fld (wd c.words 0) 15 8)).flatMap rxRecord) t) ∧
  (∀ (p : Port) (c : Cmd) (k : Fin 6) (s : State), Heard p c s → c.op = .busCanSleep → fld (wd c.words 0) 2 0 = k.val →
    (c.expert = true ∨ fld (wd c.words 0) 15 12 = 0) → bit (wd c.words 0) 8 = true →
    canUse s k.val = 0 ∨ (s.sys.mode ≠ .standby ∧ s.sys.mode ≠ .control) →
    ∃ t, Steps (.busCanSleep p) s t ∧ Replied p c 0 0 0 [] t ∧ t.can = s.can.set k (if (s.can[k]).inFlight = none then
      { s.can[k] with wake := expertWords .busCanSleep c.expert c.words, sleepCmd := true } else
      { s.can[k] with wake := expertWords .busCanSleep c.expert c.words, sleepReq := true })) ∧
  (∀ (p : Port) (c : Cmd) (k : Fin 6) (s : State), Heard p c s → c.op = .busCanSleep → fld (wd c.words 0) 2 0 = k.val →
    (c.expert = true ∨ fld (wd c.words 0) 15 12 = 0) → bit (wd c.words 0) 8 = true → canUse s k.val ≠ 0 → s.sys.mode = .control →
    ∃ t, Steps (.busCanSleep p) s t ∧ AnswersOnly p c 3 0x8015 (canUse s k.val) [] s t) ∧
  (∀ (p : Port) (c : Cmd) (k : Fin 6) (s : State), Heard p c s → c.op = .busCanSleep → fld (wd c.words 0) 2 0 = k.val →
    (c.expert = true ∨ fld (wd c.words 0) 15 12 = 0) → bit (wd c.words 0) 8 = false → (s.can[k]).sleepCmd = true →
    ∃ t, Steps (.busCanSleep p) s t ∧ Replied p c 0 0 0 [] t ∧ t.can = s.can.set k
      { s.can[k] with wake := expertWords .busCanSleep c.expert c.words, sleepCmd := false, sleepReq := false, integrating := true }) ∧
  (∀ (p : Port) (c : Cmd) (k : Fin 6) (s : State), Heard p c s → c.op = .busCanRecover → fld (wd c.words 0) 2 0 = k.val →
    (s.can[k]).busOff = true →
    ∃ t, Steps (.busCanRecover p) s t ∧ Replied p c 0 0 0 [] t ∧ SameBut [.host, .maint, .sys, .can] s t ∧ t.can = s.can.set k { s.can[k] with recovering := true }) ∧
  (∀ (p : Port) (c : Cmd) (k : Fin 6) (s : State), Heard p c s → c.op = .busCanRecover → fld (wd c.words 0) 2 0 = k.val →
    (s.can[k]).busOff = false → ∃ t, Steps (.busCanRecover p) s t ∧ AnswersOnly p c 3 0x8019 k.val [] s t) ∧
  (∀ (p : Port) (c : Cmd) (k : Fin 6) (s : State), Heard p c s → c.op = .busCanRelease → fld (wd c.words 0) 2 0 = k.val →
    (s.can[k]).blocked.contains (bit (wd c.words 1) 31, fld (wd c.words 1) 28 0) = true →
    ∃ t, Steps (.busCanRelease p) s t ∧ Replied p c 0 0 0 [] t ∧ SameBut [.host, .maint, .sys, .can] s t ∧ t.can = s.can.set k
      { s.can[k] with blocked := (s.can[k]).blocked.filter fun y => y != (bit (wd c.words 1) 31, fld (wd c.words 1) 28 0) }) ∧
  (∀ (p : Port) (c : Cmd) (k : Fin 6) (s : State), Heard p c s → c.op = .busCanRelease → fld (wd c.words 0) 2 0 = k.val →
    (s.can[k]).blocked.contains (bit (wd c.words 1) 31, fld (wd c.words 1) 28 0) = false →
    ∃ t, Steps (.busCanRelease p) s t ∧ AnswersOnly p c 0 0 1 [] s t) ∧
  (∀ (p : Port) (c : Cmd) (u : Fin 10) (bytes : List Byte) (s : State), Heard p c s → c.op = .busUartSend → fld (wd c.words 0) 3 0 = u.val →
    bytes = (wBytes (c.words.drop 1)).take (fld (wd c.words 0) 15 8) → uartProto s u = 3 ∨ (uartProto s u ≠ 0 ∧ bit (wd c.words 0) 16 = false) → uartTxEn s u = true →
    (s.uart[u]).txq.length + bytes.length ≤ 1024 →
    ∃ t, Steps (.busUartSend p) s t ∧ Replied p c 0 0 0 [] t ∧ SameBut [.host, .maint, .sys, .uart] s t ∧ t.uart = s.uart.set u { s.uart[u] with txq := (s.uart[u]).txq ++ bytes }) ∧
  (∀ (p : Port) (c : Cmd) (u : Fin 10) (bytes : List Byte) (s : State), Heard p c s → c.op = .busUartSend → fld (wd c.words 0) 3 0 = u.val →
    bytes = (wBytes (c.words.drop 1)).take (fld (wd c.words 0) 15 8) → uartProto s u = 1 ∨ uartProto s u = 2 → bit (wd c.words 0) 16 = true → fld (wd c.words 0) 15 8 ≤ 77 →
    uartTxEn s u = true → (s.uart[u]).txq.length + bytes.length + 5 ≤ 1024 →
    ∃ t, Steps (.busUartSend p) s t ∧ Replied p c 0 0 0 [] t ∧ SameBut [.host, .maint, .sys, .uart] s t ∧
      t.uart = s.uart.set u { s.uart[u] with txq := (s.uart[u]).txq ++ bytes ++ appendix bytes }) ∧
  (∀ (p : Port) (c : Cmd) (u : Fin 10) (s : State), Heard p c s → c.op = .busUartSend → fld (wd c.words 0) 3 0 = u.val → bit (wd c.words 0) 16 = false → uartProto s u ≠ 0 →
    uartTxEn s u = true → 1024 < (s.uart[u]).txq.length + ((wBytes (c.words.drop 1)).take (fld (wd c.words 0) 15 8)).length →
    ∃ t, Steps (.busUartSend p) s t ∧ AnswersOnly p c 3 0x8016 1 [] s t)

/-- Transmission, reception, bus-off, sleep and wake of a CAN controller; the stream points. The pending frame that is chosen goes on the bus and out of the queue; sent, it is gone and counted; a lost arbitration puts it back in its entry order, or drops it when one-shot; the 32nd attempt without acknowledgement raises CAN_ALONE; a second collision of an identifier within a second blocks it, and no frame of it stays pending. Bus-off keeps the frames; recovery zeroes the error counters, with BOFF_MANUAL only after BUS_CAN_RECOVER. A received frame joins the FIFO with its lowest matching filter and its start of frame (at most 1 tick after MT, log entry 85), or is counted as dropped when the FIFO holds 64. A feedback frame with a new COUNTER gives its thruster its values. A commanded sleep begins when no frame is in hand, a wake condition raises EV84 and, in DORMANT, starts the exits of the domains that sleep. A stream point empties the FIFO of a subscribed controller and takes a chunk of a subscribed port. Every other controller stays. Rests on: R354, R355, R358, R359, R360, R361, R362, R363, R364, R365, R370, Table 14-1. -/
def Obligations.FramesAreSentReceivedAndKept : Prop :=
  (∀ (c : Fin 6) (e : TxEntry) (s : State), canActive s c = true → canMode s c = 1 → (s.can[c]).inFlight = none → txChoose (canOrder s c) (s.can[c]).txq = some e →
    ∃ t, Steps (.canTransmitAttempt c .started) s t ∧ SameBut [.host, .maint, .ev, .can, .log] s t ∧ (∀ d : Fin 6, d ≠ c → t.can[d] = s.can[d]) ∧ t.can[c] = { s.can[c] with inFlight := some e, txq := (s.can[c]).txq.filter fun x => x.ord != e.ord }) ∧
  (∀ (c : Fin 6) (e : TxEntry) (s : State), canActive s c = true → canMode s c = 1 → (s.can[c]).inFlight = some e →
    ∃ t, Steps (.canTransmitAttempt c .sent) s t ∧ SameBut [.host, .maint, .ev, .can, .log] s t ∧ (∀ d : Fin 6, d ≠ c → t.can[d] = s.can[d]) ∧ t.can[c] = { s.can[c] with
      inFlight := none, nTx := inc32 (s.can[c]).nTx, tec := (s.can[c]).tec - 1, noAck := 0, alone := false } ∧
      ((s.can[c]).alone = true → s.hp.ready = true → Occurred 81 (c.val * 256) s t)) ∧
  (∀ (c : Fin 6) (e : TxEntry) (s : State), canActive s c = true → canMode s c = 1 → (s.can[c]).inFlight = some e → e.who = .host →
    ∃ t, Steps (.canTransmitAttempt c .lostArbitration) s t ∧ SameBut [.can] s t ∧ (∀ d : Fin 6, d ≠ c → t.can[d] = s.can[d]) ∧ t.can[c] = { s.can[c] with
      inFlight := none, txq := if e.oneShot then (s.can[c]).txq else txInsert e (s.can[c]).txq }) ∧
  (∀ (c : Fin 6) (e : TxEntry) (s : State), canActive s c = true → canMode s c = 1 → (s.can[c]).inFlight = some e → e.who = .host → e.oneShot = false →
    ∃ t, Steps (.canTransmitAttempt c .error) s t ∧ SameBut [.host, .maint, .ev, .can, .log] s t ∧ (∀ d : Fin 6, d ≠ c → t.can[d] = s.can[d]) ∧ t.can[c] = { s.can[c] with
      inFlight := none, txq := txInsert e (s.can[c]).txq, tec := satN 511 ((s.can[c]).tec + 8), nErr := inc32 (s.can[c]).nErr }) ∧
  (∀ (c : Fin 6) (e : TxEntry) (dominant : Bool) (s : State), canActive s c = true → canMode s c = 1 → (s.can[c]).inFlight = some e → (s.can[c]).alone = false → (s.can[c]).noAck = 31 → s.hp.ready = true →
    ∃ t, Steps (.canTransmitAttempt c (.noAck dominant)) s t ∧ SameBut [.host, .maint, .ev, .can, .log] s t ∧ (∀ d : Fin 6, d ≠ c → t.can[d] = s.can[d]) ∧ (t.can[c]).alone = true ∧ (t.can[c]).noAck = 32 ∧ (t.can[c]).inFlight = none ∧
      Occurred 81 (c.val * 256 + 1) s t) ∧
  (∀ (c : Fin 6) (e : TxEntry) (at_ : Nat) (s : State), canActive s c = true → canMode s c = 1 → (s.can[c]).inFlight = some e → (frameId e.f, at_) ∈ (s.can[c]).coll → s.time.mt < at_ + secTicks → s.hp.ready = true →
    ∃ t, Steps (.canTransmitAttempt c .bitError) s t ∧ SameBut [.host, .maint, .ev, .can, .log] s t ∧ (∀ d : Fin 6, d ≠ c → t.can[d] = s.can[d]) ∧ (t.can[c]).blocked.contains (frameId e.f) = true ∧ (t.can[c]).inFlight = none ∧
      (∀ x ∈ (t.can[c]).txq, frameId x.f ≠ frameId e.f) ∧ Occurred 82 (c.val * 8192 + e.f.id % 8192) s t) ∧
  (∀ (c : Fin 6) (s : State), canActive s c = true → canMode s c = 1 → (s.can[c]).inFlight = none → ∃ t, Steps (.canBusOff c) s t ∧ SameBut [.host, .maint, .ev, .can, .log] s t ∧ (∀ d : Fin 6, d ≠ c → t.can[d] = s.can[d]) ∧ t.can[c] = { s.can[c] with
      busOff := true, recovering := false, tec := max 256 (s.can[c]).tec, nBusOff := inc32 (s.can[c]).nBusOff }) ∧
  (∀ (c : Fin 6) (s : State), (s.can[c]).busOff = true → (canBoffManual s c = true → (s.can[c]).recovering = true) → canAsleep s c = false →
    ∃ t, Steps (.canBusOffRecovery c) s t ∧ SameBut [.host, .maint, .ev, .can, .log] s t ∧ (∀ d : Fin 6, d ≠ c → t.can[d] = s.can[d]) ∧ t.can[c] = { s.can[c] with busOff := false, recovering := false, tec := 0, recv := 0 }) ∧
  (∀ (c : Fin 6) (s : State), canBoffManual s c = true → (s.can[c]).recovering = false → Steps (.canBusOffRecovery c) s s) ∧
  (∀ (c : Fin 6) (s : State), canAsleep s c = false → ∃ t, Steps (.canIntegration c) s t ∧ SameBut [.can] s t ∧ t.can = s.can.set c { s.can[c] with integrating := false }) ∧
  (∀ (c : Fin 6) (f : CanFrame) (sof : Nat) (i : Fin 32) (s : State), canActive s c = true → ((fins 32).find? fun i => filterHit f (s.can[c]).filters[i]) = some i → (s.can[c]).fifo.length < 64 →
    ∃ t, Steps (.canFrameReceive c (.frame f sof)) s t ∧ (∀ d : Fin 6, d ≠ c → t.can[d] = s.can[d]) ∧ t.can[c] = { s.can[c] with
      recv := if 127 < (s.can[c]).recv then 127 else (s.can[c]).recv - 1,
      fifo := (s.can[c]).fifo ++ [{ f := f, stamp := min sof (s.time.mt + 1) % 2 ^ 48, filter := i.val }], nRx := inc32 (s.can[c]).nRx }) ∧
  (∀ (c : Fin 6) (f : CanFrame) (sof : Nat) (i : Fin 32) (s : State), canActive s c = true → ((fins 32).find? fun i => filterHit f (s.can[c]).filters[i]) = some i → 64 ≤ (s.can[c]).fifo.length →
    ∃ t, Steps (.canFrameReceive c (.frame f sof)) s t ∧ (∀ d : Fin 6, d ≠ c → t.can[d] = s.can[d]) ∧ (t.can[c]).fifo = (s.can[c]).fifo ∧ (t.can[c]).dropped = satN 0xFFFF ((s.can[c]).dropped + 1) ∧
      (t.can[c]).nRxDrop = inc32 (s.can[c]).nRxDrop ∧ (t.can[c]).nRx = (s.can[c]).nRx) ∧
  (∀ (c : Fin 6) (n : Fin 16) (f : CanFrame) (sof : Nat) (s : State), canActive s c = true → bindCan s n.val = c.val → fbId s n.val = frameId f → f.fdf = false → f.rtr = false →
    f.data.length = 8 → (s.alloc.thr[n]).fbCounter ≠ some (f.data.getD 7 0).toNat →
    ∃ t, Steps (.canFrameReceive c (.frame f sof)) s t ∧ t.loop.canFb[n] = (s16 f.data 0, s16 f.data 2, u16 f.data 4) ∧ t.loop.canFbStale[n] = false ∧
      (t.alloc.thr[n]).fbCounter = some (f.data.getD 7 0).toNat ∧ (t.alloc.thr[n]).notReady = ((f.data.getD 6 0).getLsbD 0 || (f.data.getD 6 0).getLsbD 1) ∧
      ∀ m : Fin 16, bindCan s m.val ≠ c.val → t.loop.canFb[m] = s.loop.canFb[m] ∧ t.alloc.thr[m] = s.alloc.thr[m]) ∧
  (∀ (c : Fin 6) (s : State), canActive s c = true → ∃ t, Steps (.canFrameReceive c .error) s t ∧ SameBut [.host, .maint, .ev, .can, .log] s t ∧ (∀ d : Fin 6, d ≠ c → t.can[d] = s.can[d]) ∧
      t.can[c] = { s.can[c] with recv := satN 255 ((s.can[c]).recv + 1), nErr := inc32 (s.can[c]).nErr }) ∧
  (∀ (c : Fin 6) (x : CanIn) (s : State), canActive s c = false → Steps (.canFrameReceive c x) s s) ∧
  (∀ (c : Fin 6) (s : State), (s.can[c]).sleepReq = true → (s.can[c]).inFlight = none → ∃ t, Steps (.canSleepEffect c) s t ∧ SameBut [.host, .maint, .ev, .can, .log] s t ∧ (∀ d : Fin 6, d ≠ c → t.can[d] = s.can[d]) ∧
      t.can[c] = { s.can[c] with sleepReq := false, sleepCmd := true }) ∧
  (∀ (c : Fin 6) (s : State), (s.can[c]).inFlight ≠ none → Steps (.canSleepEffect c) s s) ∧
  (∀ (c : Fin 6) (w : CanWakeCause) (s : State), canMode s c ≠ 0 → canAsleep s c = true → wakeMet (s.can[c]).wake w = true → s.hp.ready = true →
    ∃ t, Steps (.canWake c w) s t ∧ SameBut [.host, .maint, .ev, .sys, .log] s t ∧ Occurred 84 (c.val * 256 + fld (wd (s.can[c]).wake 0) 10 9) s t ∧
      t.sys.lastActive = s.time.mt ∧ ∀ d : Fin 12, s.sys.dom[d] ≠ .on → budgeted s d = true → t.sys.exiting[d] = true) ∧
  (∀ (c : Fin 6) (w : CanWakeCause) (s : State), wakeMet (s.can[c]).wake w = false → Steps (.canWake c w) s s) ∧
  (∀ s : State, ∃ t, Steps .busStreamPoint s t ∧ SameBut [.host, .maint, .time, .can, .uart] s t ∧
      (s.time.mtRun = true → s.time.mt + msTicks < 2 ^ 64 → t.time.mt = (s.time.mt / msTicks + 1) * msTicks) ∧
      (∀ c : Fin 6, (s.sub 0x8A0 c.val).isSome = true → (s.can[c]).fifo.length ≤ 64 → (t.can[c]).fifo = []) ∧
      (∀ c : Fin 6, s.sub 0x8A0 c.val = none → t.can[c] = s.can[c]) ∧
      (∀ u : Fin 10, (s.sub 0x8A4 u.val).isSome = true → (t.uart[u]).chunk = (s.uart[u]).chunk.drop 200) ∧ (∀ u : Fin 10, s.sub 0x8A4 u.val = none → t.uart[u] = s.uart[u]))

/-- LOOP_CLOSE, LOOP_OPEN, LOOP_SET_MANUAL, LOOP_SET_SETPOINT, LOOP_TICK and FOLLOWING_ERROR. The four commands note the request (LOOP_CLOSE on a closed engine has nothing to do), the manual value within its limits, or the setpoint on their engine alone; in CONTROL they are refused on a bound engine, LOOP_CLOSE on an unconfigured one, LOOP_SET_MANUAL on a closed one. At a tick an open engine gives its manual value; a closed one takes the scaled sample, the error, the law, and its output stays within its limits; the output reaches its land. A following error raises EV64 and is counted, opens the engine at its present output where it is so configured, and is a failure cause of the thruster it drives. Rests on: R278, R279, R280, R282, R283, R286, R291, Table 11-2. -/
def Obligations.LoopEnginesFollowTheirCommandsAndLaw : Prop :=
  (∀ (p : Port) (c : Cmd) (i : Fin 64) (s : State), Heard p c s → c.op = .loopClose → fld (wd c.words 0) 5 0 = i.val → loopBound s i.val = false →
    (s.loop.le[i]).st ≠ .unconfigured → engClosed s.loop.le[i] = false →
    ∃ t, Steps (.loopClose p) s t ∧ Replied p c 0 0 0 [] t ∧ SameBut [.host, .maint, .sys, .loop] s t ∧ t.loop = { s.loop with le := s.loop.le.set i { s.loop.le[i] with closeReq := true, openReq := false } }) ∧
  (∀ (p : Port) (c : Cmd) (i : Fin 64) (s : State), Heard p c s → c.op = .loopClose → fld (wd c.words 0) 5 0 = i.val → loopBound s i.val = false →
    (s.loop.le[i]).st ≠ .unconfigured → engClosed s.loop.le[i] = true →
    ∃ t, Steps (.loopClose p) s t ∧ AnswersOnly p c 0 0 0 [] s t) ∧
  (∀ (p : Port) (c : Cmd) (i : Fin 64) (s : State), Heard p c s → c.op = .loopClose → fld (wd c.words 0) 5 0 = i.val → loopBound s i.val = false → (s.loop.le[i]).st = .unconfigured →
    ∃ t, Steps (.loopClose p) s t ∧ AnswersOnly p c 3 0x7011 0 [] s t) ∧
  (∀ (p : Port) (c : Cmd) (i : Fin 64) (s : State), Heard p c s → fld (wd c.words 0) 5 0 = i.val → loopBound s i.val = true →
    (c.op = .loopClose → ∃ t, Steps (.loopClose p) s t ∧ AnswersOnly p c 3 0x7013 0 [] s t) ∧
    (c.op = .loopOpen → ∃ t, Steps (.loopOpen p) s t ∧ AnswersOnly p c 3 0x7013 0 [] s t) ∧
    (c.op = .loopSetManual → ∃ t, Steps (.loopSetManual p) s t ∧ AnswersOnly p c 3 0x7013 0 [] s t) ∧
    (c.op = .loopSetSetpoint → ∃ t, Steps (.loopSetSetpoint p) s t ∧ AnswersOnly p c 3 0x7013 0 [] s t)) ∧
  (∀ (p : Port) (c : Cmd) (i : Fin 64) (s : State), Heard p c s → c.op = .loopOpen → fld (wd c.words 0) 5 0 = i.val → loopBound s i.val = false → s.loop.folly = none →
    ∃ t, Steps (.loopOpen p) s t ∧ Replied p c 0 0 0 [] t ∧ SameBut [.host, .maint, .sys, .loop] s t ∧ t.loop = { s.loop with le := s.loop.le.set i { s.loop.le[i] with openReq := engClosed s.loop.le[i], closeReq := false } }) ∧
  (∀ (p : Port) (c : Cmd) (i : Fin 64) (s : State), Heard p c s → c.op = .loopSetManual → fld (wd c.words 0) 5 0 = i.val → loopBound s i.val = false → engClosed s.loop.le[i] = false →
    ∃ t, Steps (.loopSetManual p) s t ∧ Replied p c 0 0 0 [] t ∧ SameBut [.host, .maint, .sys, .loop] s t ∧
      t.loop = { s.loop with le := s.loop.le.set i { s.loop.le[i] with manual := clampI (outMin s i.val) (outMax s i.val) (wd c.words 1).toInt } }) ∧
  (∀ (p : Port) (c : Cmd) (i : Fin 64) (s : State), Heard p c s → c.op = .loopSetManual → fld (wd c.words 0) 5 0 = i.val → loopBound s i.val = false → engClosed s.loop.le[i] = true →
    ∃ t, Steps (.loopSetManual p) s t ∧ AnswersOnly p c 3 0x7010 0 [] s t) ∧
  (∀ (p : Port) (c : Cmd) (i : Fin 64) (s : State), Heard p c s → c.op = .loopSetSetpoint → fld (wd c.words 0) 5 0 = i.val → loopBound s i.val = false →
    ∃ t, Steps (.loopSetSetpoint p) s t ∧ Replied p c 0 0 0 [] t ∧ SameBut [.host, .maint, .sys, .loop] s t ∧ t.loop = { s.loop with le := s.loop.le.set i { s.loop.le[i] with spReq := (wd c.words 1).toInt } }) ∧
  (∀ (i : Fin 64) (s : State), leSet s i.val = true → s.sys.dom[1] = .on → leGroup s i.val = none → s.loop.folly = none → (s.loop.le[i]).closeReq = false → (s.loop.le[i]).openReq = false → (s.loop.le[i]).st = .open →
    ∃ t, Steps (.loopTick i) s t ∧ (∀ j : Fin 64, j ≠ i → t.loop.le[j] = s.loop.le[j]) ∧ (t.loop.le[i]).st = .open ∧ (t.loop.le[i]).u = (s.loop.le[i]).manual ∧ (t.loop.le[i]).manual = (s.loop.le[i]).manual ∧
      (∀ d : Fin 8, leDest s i.val = d.val → t.loop.ao[d] = (s.loop.le[i]).manual) ∧ (∀ d : Fin 8, leDest s i.val ≠ d.val → t.loop.ao[d] = s.loop.ao[d])) ∧
  (∀ (i : Fin 64) (x : Int) (s : State), leSet s i.val = true → s.sys.dom[1] = .on → leGroup s i.val = none → s.loop.folly = none → (s.loop.le[i]).closeReq = false → (s.loop.le[i]).openReq = false → (s.loop.le[i]).st = .closed → leSample s i.val = some x → bit (wd (leCfg s i.val) 0) 11 = false →
    -(2 ^ 31) ≤ gmul (wd (leCfg s i.val) 1) x + (wd (leCfg s i.val) 2).toInt → gmul (wd (leCfg s i.val) 1) x + (wd (leCfg s i.val) 2).toInt < 2 ^ 31 →
    -(2 ^ 31) ≤ (s.loop.le[i]).spReq - (gmul (wd (leCfg s i.val) 1) x + (wd (leCfg s i.val) 2).toInt) →
    (s.loop.le[i]).spReq - (gmul (wd (leCfg s i.val) 1) x + (wd (leCfg s i.val) 2).toInt) < 2 ^ 31 → wd (leCfg s i.val) 5 = 0 → outMin s i.val ≤ outMax s i.val →
    ∃ t, Steps (.loopTick i) s t ∧ (∀ j : Fin 64, j ≠ i → t.loop.le[j] = s.loop.le[j]) ∧ (t.loop.le[i]).st = .closed ∧ (t.loop.le[i]).sp = (s.loop.le[i]).spReq ∧
      (t.loop.le[i]).fb = gmul (wd (leCfg s i.val) 1) x + (wd (leCfg s i.val) 2).toInt ∧ (t.loop.le[i]).err = (t.loop.le[i]).sp - (t.loop.le[i]).fb ∧
      (t.loop.le[i]).u = clampI (outMin s i.val) (outMax s i.val) (t.loop.le[i]).v ∧ outMin s i.val ≤ (t.loop.le[i]).u ∧ (t.loop.le[i]).u ≤ outMax s i.val ∧
      (∀ d : Fin 8, leDest s i.val = d.val → t.loop.ao[d] = (t.loop.le[i]).u)) ∧
  (∀ (i : Fin 64) (s : State), leSet s i.val = true → s.sys.dom[1] = .on → leGroup s i.val = none → s.loop.folly = none → (s.loop.le[i]).closeReq = true → (s.loop.le[i]).openReq = false →
    (s.loop.le[i]).st = .open → ∃ t, Steps (.loopTick i) s t ∧ (∀ j : Fin 64, j ≠ i → t.loop.le[j] = s.loop.le[j]) ∧ (t.loop.le[i]).st = .closed ∧ (t.loop.le[i]).closeReq = false) ∧
  (∀ (i : Fin 64) (t0 : Nat) (s : State), (s.loop.le[i]).feSince = some t0 → (s.loop.le[i]).feRaised = false → s.loop.folly = none → leThruster s i.val = none →
    bit (wd (leCfg s i.val) 7) 16 = false →
    ∃ t, Steps (.followingError i) s t ∧ SameBut [.host, .maint, .ev, .time, .loop, .log] s t ∧ (s.hp.ready = true → Occurred 64 i.val s t ∧ EventsBut [64, 120] s t) ∧
      t.loop = { s.loop with le := s.loop.le.set i { s.loop.le[i] with feRaised := true, nFe := inc32 (s.loop.le[i]).nFe } }) ∧
  (∀ (i : Fin 64) (t0 : Nat) (n : Fin 16) (s : State), (s.loop.le[i]).feSince = some t0 → (s.loop.le[i]).feRaised = false → leThruster s i.val = some n.val →
    bit (wd (leCfg s i.val) 7) 16 = true → (s.loop.le[i]).st = .closed →
    ∃ t, Steps (.followingError i) s t ∧ (∀ j : Fin 64, j ≠ i → t.loop.le[j] = s.loop.le[j]) ∧ (t.loop.le[i]).st = .open ∧ (t.loop.le[i]).manual = (s.loop.le[i]).u ∧ (t.loop.le[i]).nFe = inc32 (s.loop.le[i]).nFe ∧
      (t.alloc.thr[n]).causes = (s.alloc.thr[n]).causes ||| 2 ∧ ∀ m : Fin 16, m ≠ n → t.alloc.thr[m] = s.alloc.thr[m])

/-- FOLLY_START, FOLLY_STOP, LOOP_OPEN on the engine of a test, and FOLLY_COMPLETE. FOLLY_START with no test running starts the test its words describe, the capture before it stays until the first tick of its engine, which discards it and is the commit point; a second one is refused, and so is one that injects at the setpoint of an engine that is not closed. FOLLY_STOP notes cause 1, LOOP_OPEN on the engine of the test cause 3; the first cause stands. With 4,096 samples the test ends: its reply OK, EV68 with cause 0, and its capture kept. Rests on: R292, R293, R294, Tables 11-7, 11-8. -/
def Obligations.FollyTestsAreStartedStoppedAndCaptured : Prop :=
  (∀ (p : Port) (c : Cmd) (ws : List Word) (s : State), Heard p c s → c.op = .follyStart → ws = expertWords .follyStart c.expert c.words → follyBad s ws = none → s.loop.folly = none →
    (bit (wd ws 0) 8 = true ∨ engClosed (eng s (fld (wd ws 0) 5 0)) = true) →
    ∃ t ms, Steps (.follyStart p) s t ∧ Accepted p c ms s t ∧ SameBut [.host, .maint, .loop] s t ∧ t.loop = { s.loop with
      folly := some {
        port := p, tag := c.tag, le := fld (wd ws 0) 5 0, output := bit (wd ws 0) 8, signal := fld (wd ws 0) 10 9, amp := (wd ws 1).toInt, f0 := (wd ws 2).toNat
        f1 := (wd ws 3).toNat, settle := (wd ws 4).toNat, decim := fld (wd ws 0) 31 24
        chans := [fld (wd ws 5) 7 0, fld (wd ws 5) 15 8, fld (wd ws 5) 23 16, fld (wd ws 5) 31 24], stopOnFe := bit (wd ws 6) 0 } }) ∧
  (∀ (p : Port) (c : Cmd) (ws : List Word) (f : Folly) (s : State), Heard p c s → c.op = .follyStart → ws = expertWords .follyStart c.expert c.words → follyBad s ws = none → s.loop.folly = some f →
    ∃ t, Steps (.follyStart p) s t ∧ Replied p c 3 0x7014 0 [] t ∧ SameBut [.host, .maint, .sys] s t) ∧
  (∀ (p : Port) (c : Cmd) (ws : List Word) (s : State), Heard p c s → c.op = .follyStart → ws = expertWords .follyStart c.expert c.words → follyBad s ws = none → s.loop.folly = none →
    bit (wd ws 0) 8 = false → engClosed (eng s (fld (wd ws 0) 5 0)) = false →
    ∃ t, Steps (.follyStart p) s t ∧ Replied p c 3 0x7015 0 [] t ∧ SameBut [.host, .maint, .sys] s t) ∧
  (∀ (p : Port) (c : Cmd) (i : Nat) (s : State), Heard p c s → c.op = .follyStart → follyBad s (expertWords .follyStart c.expert c.words) = some i →
    ∃ t, Steps (.follyStart p) s t ∧ AnswersOnly p c 3 0xF016 i [] s t) ∧
  (∀ (p : Port) (c : Cmd) (s : State), Heard p c s → c.op = .follyStop →
    ∃ t, Steps (.follyStop p) s t ∧ Replied p c 0 0 0 [] t ∧ SameBut [.host, .maint, .sys, .loop] s t ∧
      t.loop = { s.loop with folly := s.loop.folly.map fun f => { f with stopReq := some (f.stopReq.getD 1) } }) ∧
  (∀ (p : Port) (c : Cmd) (f : Folly) (s : State), Heard p c s → c.op = .loopOpen → fld (wd c.words 0) 5 0 = f.le → loopBound s f.le = false → s.loop.folly = some f →
    ∃ t, Steps (.loopOpen p) s t ∧ Replied p c 0 0 0 [] t ∧ t.loop.folly = some { f with stopReq := some (f.stopReq.getD 3) }) ∧
  (∀ (i : Fin 64) (f : Folly) (s : State), leSet s i.val = true → s.sys.dom[1] = .on → leGroup s i.val = none → s.loop.folly = some f → f.le = i.val → f.tick = 0 → f.stopReq = none →
    ∃ t, Steps (.loopTick i) s t ∧ t.loop.capture = none ∧ ∃ g, t.loop.folly = some g ∧ g.tick = 1 ∧ g.port = f.port ∧ g.tag = f.tag ∧
      (∀ o, findTag (s.port f.port) f.tag = some o → findTag (t.port f.port) f.tag = some { o with committed := true })) ∧
  (∀ (f : Folly) (s : State), s.loop.folly = some f → f.taken = 4096 → Waits f.port f.tag .follyStart s →
    ∃ t, Steps .follyComplete s t ∧ Answered f.port f.tag .follyStart 0 0 0 [] t ∧ t.loop = { s.loop with folly := none, capture := some (captureOf s f) } ∧
      (s.hp.ready = true → Occurred 68 0 s t ∧ EventsBut [68, 120] s t)) ∧
  (∀ (f : Folly) (s : State), s.loop.folly = some f → f.taken < 4096 → Steps .follyComplete s s)

/-- PROF_MOVE, PROF_HOME and the ticks and timers of a profile channel. PROF_MOVE and PROF_HOME note their motion on their channel alone, and a move that replaces one not yet begun ends that with 0x7019; without a configuration, on a bound channel in CONTROL, or without a way to detect the stop they are refused. The tick at which the plan is used up puts the channel at its target at rest and raises EV70; a tick before that follows the plan. A position error raises EV71 once and is counted; at standstill the REDUCE output is asserted with EV74, except in the release state; the release delay ends; a stall takes the position of the stop and backs off to the reference. A PROF_HOME ends a waiting move with PROF_SUPERSEDED and a running homing with HOME_FAILED; a move that waits at the stall is kept (model, log entry 23). Rests on: R291, R295, R296, R298, R299, R300, Table 18-15. -/
def Obligations.ProfileChannelsMoveHomeAndRest : Prop :=
  (∀ (p : Port) (c : Cmd) (i : Fin 16) (ws : List Word) (s : State), Heard p c s → c.op = .profMove → ws = expertWords .profMove c.expert c.words → fld (wd c.words 0) 3 0 = i.val → pcSet s i.val = true → profBound s i.val = false →
    (s.loop.pc[i]).req = none →
    ∃ t ms, Steps (.profMove p) s t ∧ Accepted p c ms s t ∧ SameBut [.host, .maint, .loop] s t ∧ t.loop = { s.loop with pc := s.loop.pc.set i { s.loop.pc[i] with
      req := some { vel := bit (wd ws 0) 8, relative := bit (wd ws 0) 9, target := (wd ws 1).toInt, pct := fld (wd ws 2) 7 0, cmd := some (p, c.tag) } } }) ∧
  (∀ (p : Port) (c : Cmd) (i : Fin 16) (ws : List Word) (r : MoveReq) (q : Port) (tag : Nat) (s : State), Heard p c s → c.op = .profMove → ws = expertWords .profMove c.expert c.words → fld (wd c.words 0) 3 0 = i.val → pcSet s i.val = true → profBound s i.val = false →
    (s.loop.pc[i]).req = some r → r.cmd = some (q, tag) → (q, tag) ≠ (p, c.tag) → Waits q tag .profMove s →
    ∃ t, Steps (.profMove p) s t ∧ Answered q tag .profMove 0 0x7019 0 [] t ∧ (s.hp.ready = true → Occurred 70 i.val s t) ∧ (t.loop.pc[i]).req =
      some { vel := bit (wd ws 0) 8, relative := bit (wd ws 0) 9, target := (wd ws 1).toInt, pct := fld (wd ws 2) 7 0, cmd := some (p, c.tag) }) ∧
  (∀ (p : Port) (c : Cmd) (i : Fin 16) (ws : List Word) (s : State), Heard p c s → c.op = .profMove → ws = expertWords .profMove c.expert c.words → fld (wd c.words 0) 3 0 = i.val → pcSet s i.val = false →
    ∃ t, Steps (.profMove p) s t ∧ AnswersOnly p c 3 0xF016 0 [] s t) ∧
  (∀ (p : Port) (c : Cmd) (i : Fin 16) (ws : List Word) (s : State), Heard p c s → c.op = .profMove → ws = expertWords .profMove c.expert c.words → fld (wd c.words 0) 3 0 = i.val → pcSet s i.val = true → profBound s i.val = true →
    ∃ t, Steps (.profMove p) s t ∧ Replied p c 3 0x7013 0 [] t ∧ SameBut [.host, .maint, .sys] s t) ∧
  (∀ (p : Port) (c : Cmd) (i : Fin 16) (ws : List Word) (s : State), Heard p c s → c.op = .profHome → ws = expertWords .profHome c.expert c.words → fld (wd c.words 0) 3 0 = i.val → pcSet s i.val = true → profBound s i.val = false →
    (wd ws 1).toNat ≤ (pcW s i.val 1).toNat → (fld (wd ws 0) 10 9 = 0 → pcFb s i.val ≠ 0xFF) → (fld (wd ws 0) 10 9 = 1 → fld (wd ws 5) 7 0 ≠ 0xFF) → (s.loop.pc[i]).home = none → (s.loop.pc[i]).req = none →
    ∃ t ms, Steps (.profHome p) s t ∧ Accepted p c ms s t ∧ SameBut [.host, .maint, .loop] s t ∧ t.loop = { s.loop with pc := s.loop.pc.set i { s.loop.pc[i] with
      req := some { vel := true, target := if bit (wd ws 0) 8 then -((wd ws 1).toNat : Int) else (wd ws 1).toNat }
      home := some { port := p, tag := c.tag, words := ws, from0 := (s.loop.pc[i]).pos } } }) ∧
  (∀ (p : Port) (c : Cmd) (i : Fin 16) (ws : List Word) (s : State), Heard p c s → c.op = .profHome → ws = expertWords .profHome c.expert c.words → fld (wd c.words 0) 3 0 = i.val → pcSet s i.val = true → profBound s i.val = false →
    (wd ws 1).toNat ≤ (pcW s i.val 1).toNat → (fld (wd ws 0) 10 9 = 0 ∧ pcFb s i.val = 0xFF) ∨ (fld (wd ws 0) 10 9 = 1 ∧ fld (wd ws 5) 7 0 = 0xFF) →
    ∃ t, Steps (.profHome p) s t ∧ Replied p c 3 0x7018 0 [] t ∧ SameBut [.host, .maint, .sys] s t) ∧
  (∀ (p : Port) (c : Cmd) (i : Fin 16) (ws : List Word) (s : State), Heard p c s → c.op = .profHome → ws = expertWords .profHome c.expert c.words → fld (wd c.words 0) 3 0 = i.val → pcSet s i.val = true → profBound s i.val = true → (wd ws 1).toNat ≤ (pcW s i.val 1).toNat →
    ∃ t, Steps (.profHome p) s t ∧ Replied p c 3 0x7013 0 [] t ∧ SameBut [.host, .maint, .sys] s t) ∧
  (∀ (i : Fin 16) (a : Axis) (s : State), pcSet s i.val = true → s.sys.dom[1] = .on → (s.loop.pc[i]).req = none → (s.loop.pc[i]).home = none → (s.loop.pc[i]).holdUntil = none →
    (s.loop.pc[i]).moving = true → (s.loop.pc[i]).velMode = false → runFor 10000 (s.loop.pc[i]).plan (axisOf s.loop.pc[i]) = (a, []) →
    ∃ t, Steps (.profileTick i) s t ∧ (∀ j : Fin 16, j ≠ i → t.loop.pc[j] = s.loop.pc[j]) ∧ (t.loop.pc[i]).pos = (s.loop.pc[i]).target * 2 ^ 32 ∧ (t.loop.pc[i]).vel = 0 ∧ (t.loop.pc[i]).acc = 0 ∧
      (t.loop.pc[i]).moving = false ∧ (t.loop.pc[i]).cmd = none ∧ (s.hp.ready = true → Occurred 70 i.val s t) ∧
      (∀ q tag, (s.loop.pc[i]).cmd = some (q, tag) → Waits q tag .profMove s → Answered q tag .profMove 0 0 0 [] t)) ∧
  (∀ (i : Fin 16) (a : Axis) (x : Nat × Int) (rest : List (Nat × Int)) (s : State), pcSet s i.val = true → s.sys.dom[1] = .on → (s.loop.pc[i]).req = none → (s.loop.pc[i]).home = none →
    (s.loop.pc[i]).holdUntil = none → (s.loop.pc[i]).moving = true → runFor 10000 (s.loop.pc[i]).plan (axisOf s.loop.pc[i]) = (a, x :: rest) →
    ∃ t, Steps (.profileTick i) s t ∧ (∀ j : Fin 16, j ≠ i → t.loop.pc[j] = s.loop.pc[j]) ∧ (t.loop.pc[i]).pos = a.x ∧ (t.loop.pc[i]).vel = a.v ∧ (t.loop.pc[i]).acc = a.a ∧ (t.loop.pc[i]).plan = x :: rest ∧
      (t.loop.pc[i]).moving = true ∧ t.ev = s.ev ∧ t.host = s.host ∧ t.maint = s.maint) ∧
  (∀ (i : Fin 16) (t0 : Nat) (s : State), (s.loop.pc[i]).peSince = some t0 → (s.loop.pc[i]).peRaised = false →
    ∃ t, Steps (.profileFollowingError i) s t ∧ SameBut [.host, .maint, .ev, .time, .loop, .log] s t ∧ (s.hp.ready = true → Occurred 71 i.val s t ∧ EventsBut [71, 120] s t) ∧
      t.loop = { s.loop with pc := s.loop.pc.set i { s.loop.pc[i] with peRaised := true, nPfe := inc32 (s.loop.pc[i]).nPfe } }) ∧
  (∀ (i : Fin 16) (s : State), (s.loop.pc[i]).peRaised = true → Steps (.profileFollowingError i) s s) ∧
  (∀ (i : Fin 16) (d : Fin 16) (t0 : Nat) (s : State), (s.loop.pc[i]).restSince = some t0 → (s.loop.pc[i]).reduce = false → pcReduce s i.val = d.val →
    ∃ t, Steps (.standstillTimer i) s t ∧ (s.hp.ready = true → Occurred 74 (256 + i.val) s t ∧ EventsBut [74, 120] s t) ∧
      t.loop = { s.loop with
        pc := s.loop.pc.set i { s.loop.pc[i] with reduce := true }
        dout := if s.sys.release = true ∨ s.sys.mode = .standby then s.loop.dout else s.loop.dout.set d true }) ∧
  (∀ (i : Fin 16) (t0 : Nat) (s : State), (s.loop.pc[i]).holdUntil = some t0 → ∃ t, Steps (.releaseDelayEnd i) s t ∧ SameBut [.time, .loop] s t ∧
      t.loop = { s.loop with pc := s.loop.pc.set i { s.loop.pc[i] with holdUntil := none } } ∧
      (s.time.mtRun = true → s.time.mt ≤ t0 → t0 < 2 ^ 64 → t.time.mt = t0)) ∧
  (∀ (i : Fin 16) (h : Homing) (t0 : Nat) (s : State), (s.loop.pc[i]).home = some h → h.stallSince = some t0 → h.stalled = false → h.failing = false → ((s.loop.pc[i]).req.bind fun r => r.cmd) = none →
    ∃ t, Steps (.homeStall i) s t ∧ (∀ j : Fin 16, j ≠ i → t.loop.pc[j] = s.loop.pc[j]) ∧ t.loop.pc[i] = { s.loop.pc[i] with
      pos := ((wd h.words 2).toInt + (wd h.words 3).toInt) * 2 ^ 32, steps := (wd h.words 2).toInt + (wd h.words 3).toInt, vel := 0, acc := 0, plan := []
      req := some { vel := false, target := (wd h.words 2).toInt }, home := some { h with stalled := true, stallSince := none } }) ∧
  (∀ (i : Fin 16) (h : Homing) (t0 : Nat) (r : MoveReq) (s : State), (s.loop.pc[i]).home = some h → h.stallSince = some t0 → h.stalled = false → h.failing = false → (s.loop.pc[i]).req = some r → r.cmd ≠ none →
    ∃ t, Steps (.homeStall i) s t ∧ (t.loop.pc[i]).req = some r ∧ (t.loop.pc[i]).home = some { h with stalled := true, stallSince := none }) ∧
  (∀ (p : Port) (c : Cmd) (i : Fin 16) (ws : List Word) (r : MoveReq) (q : Port) (tag : Nat) (s : State), Heard p c s → c.op = .profHome → ws = expertWords .profHome c.expert c.words → fld (wd c.words 0) 3 0 = i.val → pcSet s i.val = true → profBound s i.val = false →
    (wd ws 1).toNat ≤ (pcW s i.val 1).toNat → (fld (wd ws 0) 10 9 = 0 → pcFb s i.val ≠ 0xFF) → (fld (wd ws 0) 10 9 = 1 → fld (wd ws 5) 7 0 ≠ 0xFF) → (s.loop.pc[i]).home = none →
    (s.loop.pc[i]).req = some r → r.cmd = some (q, tag) → (q, tag) ≠ (p, c.tag) → Waits q tag .profMove s →
    ∃ t, Steps (.profHome p) s t ∧ Answered q tag .profMove 0 0x7019 0 [] t ∧ (s.hp.ready = true → Occurred 70 i.val s t) ∧ (t.loop.pc[i]).home = some { port := p, tag := c.tag, words := ws, from0 := (s.loop.pc[i]).pos }) ∧
  (∀ (p : Port) (c : Cmd) (i : Fin 16) (ws : List Word) (h : Homing) (s : State), Heard p c s → c.op = .profHome → ws = expertWords .profHome c.expert c.words → fld (wd c.words 0) 3 0 = i.val → pcSet s i.val = true → profBound s i.val = false →
    (wd ws 1).toNat ≤ (pcW s i.val 1).toNat → (fld (wd ws 0) 10 9 = 0 → pcFb s i.val ≠ 0xFF) → (fld (wd ws 0) 10 9 = 1 → fld (wd ws 5) 7 0 ≠ 0xFF) → (s.loop.pc[i]).home = some h → h.aborted = false → h.stalled = false →
    (h.port, h.tag) ≠ (p, c.tag) → Waits h.port h.tag .profHome s → (s.loop.pc[i]).req = none →
    ∃ t, Steps (.profHome p) s t ∧ Answered h.port h.tag .profHome 0 0x701A 1 [] t ∧ (t.loop.pc[i]).home = some { port := p, tag := c.tag, words := ws, from0 := (s.loop.pc[i]).pos })

/-- The commands of positioning control, its step, its MPC, its supervision and the PMS. DPC_SET_FUNCTION and DPC_SET_TARGET wait for their boundary and step, or are refused; DPC_JOYSTICK keeps the newest demand; DPC_TRACK_CONTROL acts in TRACK alone. The step runs once in a frame: with function NONE no force is demanded, with the estimate LOST the demand is held, in JOYSTICK each force is the demand times its capability. An MPC result is committed within its ten frames; late, the PID takes over with EV14. A lost joystick zeroes the demand with EV13. TARGET_REACHED and DPC_EXCURSION come at their counts. A PMS frame sets the available powers, limits and lost sections it carries; its loss raises EV13 and takes the fallback power where configured. Over a controller that is off its bus a PMS frame does nothing. Rests on: R22, R223, R225, R226, R233, R234, R235, R239, R240, R244, R245, R248. -/
def Obligations.PositioningTakesCommandsAndControlsOncePerFrame : Prop :=
  (∀ (p : Port) (c : Cmd) (s : State), Heard p c s → c.op = .dpcSetFunction → fnEstimate s (fld (wd c.words 0) 2 0) = true → (fld (wd c.words 0) 2 0 = 4 → s.dpc.track ≠ []) →
    ∃ t, Steps (.dpcSetFunction p) s t ∧ Accepted p c 10 s t ∧ SameBut [.host, .maint, .dpc] s t ∧
      t.dpc = { s.dpc with fnReq := s.dpc.fnReq ++ [(fld (wd c.words 0) 2 0, p, c.tag)] }) ∧
  (∀ (p : Port) (c : Cmd) (s : State), Heard p c s → c.op = .dpcSetFunction → fnEstimate s (fld (wd c.words 0) 2 0) = false →
    ∃ t, Steps (.dpcSetFunction p) s t ∧ Replied p c 3 0x5010 s.fus.mode [] t ∧ SameBut [.host, .maint, .sys] s t) ∧
  (∀ (p : Port) (c : Cmd) (s : State), Heard p c s → c.op = .dpcSetFunction → fld (wd c.words 0) 2 0 = 4 → fnEstimate s 4 = true → s.dpc.track = [] →
    ∃ t, Steps (.dpcSetFunction p) s t ∧ Replied p c 3 0x5014 0 [] t ∧ SameBut [.host, .maint, .sys] s t) ∧
  (∀ (p : Port) (c : Cmd) (s : State), Heard p c s → c.op = .dpcSetTarget → targetRefusal s (expertWords .dpcSetTarget c.expert c.words) = none →
    ∃ t, Steps (.dpcSetTarget p) s t ∧ Accepted p c 10 s t ∧ SameBut [.host, .maint, .dpc] s t ∧
      t.dpc = { s.dpc with targets := s.dpc.targets ++ [{ port := p, tag := c.tag, words := expertWords .dpcSetTarget c.expert c.words, frame := s.sys.frame }] }) ∧
  (∀ (p : Port) (c : Cmd) (st detail : Nat) (s : State), Heard p c s → c.op = .dpcSetTarget → targetRefusal s (expertWords .dpcSetTarget c.expert c.words) = some (st, detail) →
    ∃ t, Steps (.dpcSetTarget p) s t ∧ Replied p c 3 st detail [] t ∧ SameBut [.host, .maint, .sys] s t) ∧
  (∀ (p : Port) (c : Cmd) (s : State), Heard p c s → c.op = .dpcJoystick → ∃ t, Steps (.dpcJoystick p) s t ∧ Replied p c 0 0 0 [] t ∧ SameBut [.host, .maint, .sys, .dpc] s t ∧ t.dpc = { s.dpc with
      joyNext := some (#v[joyVal (fld (wd c.words 0) 15 0), joyVal (fld (wd c.words 0) 31 16), joyVal (fld (wd c.words 1) 15 0)], s.sys.frame)
      joyMt := some s.time.mt }) ∧
  (∀ (p : Port) (c : Cmd) (s : State), Heard p c s → c.op = .dpcTrackControl → fld (wd c.words 0) 1 0 ≠ 3 → s.sys.mode = .control → s.dpc.fn = 4 → (fld (wd c.words 0) 1 0 = 2 → fld (wd c.words 0) 15 8 < trkN s.dpc) →
    ∃ t, Steps (.dpcTrackControl p) s t ∧ Replied p c 0 0 0 [] t ∧ SameBut [.host, .maint, .sys, .dpc] s t ∧
      t.dpc = { s.dpc with action := some (fld (wd c.words 0) 1 0, fld (wd c.words 0) 15 8, s.sys.frame) }) ∧
  (∀ (p : Port) (c : Cmd) (s : State), Heard p c s → c.op = .dpcTrackControl → fld (wd c.words 0) 1 0 ≠ 3 → s.sys.mode = .control → s.dpc.fn ≠ 4 →
    ∃ t, Steps (.dpcTrackControl p) s t ∧ AnswersOnly p c 3 0x5011 s.dpc.fn [] s t) ∧
  (∀ s : State, s.dpc.ran = some s.sys.frame → ∃ t, Steps .positionControlStep s t ∧ SameBut [.time] s t) ∧
  (∀ s : State, s.sys.mode = .control ∨ s.sys.mode = .standby → s.dpc.ran ≠ some s.sys.frame → s.dpc.action = none → s.dpc.targets = [] → s.dpc.fn = 0 →
    ∃ t, Steps .positionControlStep s t ∧ t.dpc.ran = some s.sys.frame ∧ t.dpc.fn = 0 ∧ t.dpc.tau = Vector.replicate 3 0 ∧ t.dpc.ff = Vector.replicate 3 0 ∧ t.dpc.tauPrev = s.dpc.tau) ∧
  (∀ s : State, s.sys.mode = .control ∨ s.sys.mode = .standby → s.dpc.ran ≠ some s.sys.frame → s.dpc.action = none → s.dpc.targets = [] → s.dpc.fn = 3 → s.fus.mode = 3 →
    ∃ t, Steps .positionControlStep s t ∧ t.dpc.ran = some s.sys.frame ∧ t.dpc.fn = 3 ∧ t.dpc.tau = s.dpc.tau ∧ t.dpc.tauPrev = s.dpc.tau) ∧
  (∀ s : State, s.sys.mode = .control ∨ s.sys.mode = .standby → s.dpc.ran ≠ some s.sys.frame → s.dpc.action = none → s.dpc.targets = [] → s.dpc.fn = 1 → bit (joyW s 0) 0 = false → s.dpc.joyNext = none → bit (joyW s 4) 0 = false →
    ∃ t, Steps .positionControlStep s t ∧ t.dpc.fn = 1 ∧ t.dpc.joy = s.dpc.joy ∧
      t.dpc.tau = #v[joyForce s 0, joyForce s 1, joyForce s 2 + rpMoment s (joyForce s 0) (joyForce s 1)]) ∧
  (∀ (x : List Int) (b : Nat) (s : State), s.dpc.mpcReady = some x → s.dpc.mpcSub = some b → s.time.mt ≤ b + 10 * frameTicks → s.dpc.mpcFell = false →
    ∃ t, Steps .mpcResultCommit s t ∧ SameBut [.dpc] s t ∧ t.dpc = { s.dpc with
      mpcSeq := x, mpcFrom := b, mpcReady := none, mpcSub := none, mpcRun := s.dpc.mpcRun + 1, mpcAt := s.sys.frame, mpcOn := true }) ∧
  (∀ (x : List Int) (b : Nat) (s : State), s.dpc.mpcReady = some x → s.dpc.mpcSub = some b → s.time.mt ≤ b + 10 * frameTicks → s.dpc.mpcFell = true → s.dpc.mpcRun = 2 → s.hp.ready = true →
    ∃ t, Steps .mpcResultCommit s t ∧ t.dpc.mpcOn = true ∧ t.dpc.mpcFell = false ∧ t.dpc.mpcSeq = x ∧ Occurred 14 0 s t ∧ EventsBut [14, 120] s t) ∧
  (∀ s : State, s.dpc.mpcReady = none → Steps .mpcResultCommit s s) ∧
  (∀ (b : Nat) (s : State), s.dpc.mpcSub = some b → s.dpc.mpcOn = true → s.hp.ready = true →
    ∃ t, Steps .mpcLate s t ∧ t.dpc = { s.dpc with mpcOn := false, mpcRun := 0, mpcSub := none, mpcReady := none, mpcFell := true } ∧ Occurred 14 2 s t ∧ EventsBut [14, 120] s t) ∧
  (∀ s : State, bit (joyW s 0) 0 = false → s.dpc.joyLost = false → s.dpc.fn = 1 → s.hp.ready = true →
    ∃ t, Steps .joystickTimeout s t ∧ t.dpc = { s.dpc with joy := Vector.replicate 3 0, joyNext := none, joyLost := true } ∧ Occurred 13 257 s t ∧ EventsBut [13, 120] s t) ∧
  (∀ s : State, s.dpc.reachDone = false → 100 ≤ s.dpc.reached → s.hp.ready = true →
    ∃ t, Steps .targetReached s t ∧ t.dpc = { s.dpc with reachDone := true } ∧ Occurred 10 0 s t ∧ EventsBut [10, 120] s t) ∧
  (∀ s : State, s.dpc.reachDone = true ∨ s.dpc.reached < 100 → Steps .targetReached s s) ∧
  (∀ (heading : Bool) (h : Fin 2) (s : State), h.val = b2n heading → s.dpc.excOn[h] = false → 10 ≤ s.dpc.excRun[h] → s.hp.ready = true →
    ∃ t, Steps (.dpcExcursion heading true) s t ∧ t.dpc = { s.dpc with excOn := s.dpc.excOn.set h true } ∧ Occurred 11 (256 + h.val) s t ∧ EventsBut [11, 120] s t) ∧
  (∀ (heading : Bool) (h : Fin 2) (s : State), h.val = b2n heading → s.dpc.excOn[h] = true → 100 ≤ s.dpc.excLow[h] → s.hp.ready = true →
    ∃ t, Steps (.dpcExcursion heading false) s t ∧ t.dpc = { s.dpc with excOn := s.dpc.excOn.set h false } ∧ Occurred 11 h.val s t ∧ EventsBut [11, 120] s t) ∧
  (∀ (data : List Byte) (b : Fin 6) (s : State), pmsPort s = b.val → canActive s b = true →
    ∃ t, Steps (.pmsFrame data) s t ∧ t.dpc.pmsMt = some s.time.mt ∧ t.dpc.pmsLost = false ∧
      (∀ (k : Fin 4) (kw : Nat), pmsField s data k = some kw → t.dpc.avail[k] = some kw ∧ t.dpc.limit[k] = newLimit s s.dpc.limit[k] kw ∧
        t.dpc.secLost[k] = decide (kw < fld (powW s 5) 15 0)) ∧
      (∀ k : Fin 4, pmsField s data k = none → t.dpc.avail[k] = s.dpc.avail[k] ∧ t.dpc.limit[k] = s.dpc.limit[k] ∧ t.dpc.secLost[k] = s.dpc.secLost[k]) ∧
      (∀ (k : Fin 4) (kw : Nat) (n : Fin 16), pmsField s data k = some kw → kw < fld (powW s 5) 15 0 → s.dpc.secLost[k] = false → n.val ∈ thrusters s → thrSection s n.val = k.val →
        tb (t.alloc.thr[n]).causes 4 = true) ∧ (s.dpc.pmsLost = true → s.hp.ready = true → Occurred 13 2 s t)) ∧
  (∀ s : State, pmsPort s ≠ 7 → s.dpc.pmsLost = false → bit (powW s 4) 0 = false → s.hp.ready = true →
    ∃ t, Steps .pmsTimeout s t ∧ t.dpc = { s.dpc with pmsLost := true } ∧ t.alloc = s.alloc ∧ Occurred 13 258 s t ∧ EventsBut [13, 120] s t) ∧
  (∀ s : State, pmsPort s ≠ 7 → s.dpc.pmsLost = false → bit (powW s 4) 0 = true →
    ∃ t, Steps .pmsTimeout s t ∧ t.dpc.pmsLost = true ∧ ∀ k : Fin 4, fld (powW s 2) (8 * k.val + 7) (8 * k.val) ≠ 0xFF → t.dpc.avail[k] = some (fld (powW s 4) 31 16)) ∧
  (∀ s : State, pmsPort s = 7 ∨ s.dpc.pmsLost = true → Steps .pmsTimeout s s) ∧
  (∀ (data : List Byte) (s : State), (∀ b : Fin 6, pmsPort s = b.val → canActive s b = false) → Steps (.pmsFrame data) s s)

/-- ALLOC_THRUSTER_ENABLE, the check of the speculation, the issue of setpoints, the consequence analysis and the failure causes. ALLOC_THRUSTER_ENABLE takes a thruster out with cause 5, or clears its causes unless one still stands (for cause 4 until the power has stood for RETURN_S, log entry 91). The speculation check runs once in a frame: it notes a hit or counts the squash with its reason; in a failure frame it commits the selected entry and counts a switch. The issue clamps the available setpoints to the section powers, reports the slack, and drives nothing without ownership; in CONTROL every bound thruster gets its command frame. At the bank deadline the bank problems end and every other problem stays. The consequence analysis finds the worst applicable configuration and raises its alarm above the limit. Not-ready, feedback loss and return set and clear their causes on their thruster alone. Rests on: R22, R23, R257, R260, R261, R264, R265, R267, R268, R272, R273, Table 10-7. -/
def Obligations.ThrustIsAllocatedIssuedAndSupervised : Prop :=
  (∀ (p : Port) (c : Cmd) (n : Fin 16) (s : State), Heard p c s → c.op = .allocThrusterEnable → fld (wd c.words 0) 3 0 = n.val → thrSet s n.val = true → bit (wd c.words 0) 8 = false →
    ∃ t, Steps (.allocThrusterEnable p) s t ∧ Replied p c 0 0 0 [] t ∧ (t.alloc.thr[n]).causes = (s.alloc.thr[n]).causes ||| 32 ∧ (∀ m : Fin 16, m ≠ n → t.alloc.thr[m] = s.alloc.thr[m]) ∧
      (s.hp.ready = true → thrConfigured s n.val = true → tb (s.alloc.thr[n]).causes 5 = false → Occurred 56 (n.val * 256 + 5) s t)) ∧
  (∀ (p : Port) (c : Cmd) (n : Fin 16) (s : State), Heard p c s → c.op = .allocThrusterEnable → fld (wd c.words 0) 3 0 = n.val → thrSet s n.val = true → bit (wd c.words 0) 8 = true →
    (∀ k : Nat, 2 ≤ k → k ≤ 4 → bars s n k = false) →
    ∃ t, Steps (.allocThrusterEnable p) s t ∧ Replied p c 0 0 0 [] t ∧ SameBut [.host, .maint, .sys, .alloc] s t ∧ t.alloc = { s.alloc with thr := s.alloc.thr.set n { s.alloc.thr[n] with causes := 0, absent := none } }) ∧
  (∀ (p : Port) (c : Cmd) (n : Fin 16) (k : Nat) (s : State), Heard p c s → c.op = .allocThrusterEnable → fld (wd c.words 0) 3 0 = n.val → thrSet s n.val = true → bit (wd c.words 0) 8 = true →
    2 ≤ k → k ≤ 4 → bars s n k = true →
    ∃ t, Steps (.allocThrusterEnable p) s t ∧ AnswersOnly p c 3 0x6012 ((s.alloc.thr[n]).causes % 64) [] s t) ∧
  (∀ (p : Port) (c : Cmd) (n : Fin 16) (s : State), Heard p c s → c.op = .allocThrusterEnable → fld (wd c.words 0) 3 0 = n.val → thrSet s n.val = false →
    ∃ t, Steps (.allocThrusterEnable p) s t ∧ AnswersOnly p c 3 0x6011 n.val [] s t) ∧
  (∀ s : State, s.sys.mode = .control ∨ s.sys.mode = .standby → s.dpc.fn ≠ 0 → s.alloc.checked ≠ some s.sys.frame → s.alloc.lost = 0 ∨ s.alloc.firstFrame = true →
    ∃ t, Steps .speculationCheck s t ∧ t.alloc.checked = some s.sys.frame ∧ t.alloc.sol = s.alloc.sol ∧ t.alloc.firstFrame = false ∧ t.alloc.cfgChanged = false ∧
      t.alloc.nSwitch = s.alloc.nSwitch ∧ t.alloc.hit = (if squashReason s = 0 then true else s.alloc.hit) ∧ t.alloc.squash = (if squashReason s = 0 then s.alloc.squash else squashReason s) ∧
      t.alloc.nSquash = (if squashReason s = 0 then s.alloc.nSquash else inc32 s.alloc.nSquash)) ∧
  (∀ s : State, s.sys.mode = .control ∨ s.sys.mode = .standby → s.dpc.fn ≠ 0 → s.alloc.checked ≠ some s.sys.frame → s.alloc.lost ≠ 0 → s.alloc.firstFrame = false →
    ∃ t, Steps .speculationCheck s t ∧ t.alloc.checked = some s.sys.frame ∧ t.alloc.sol = (selectEntry s).2.2 ∧ t.alloc.entry = (selectEntry s).1 ∧ t.alloc.aged = (selectEntry s).2.1 ∧
      t.alloc.committed = true ∧ t.alloc.nSwitch = inc32 s.alloc.nSwitch ∧ t.alloc.nSquash = s.alloc.nSquash) ∧
  (∀ s : State, s.alloc.checked = some s.sys.frame → ∃ t, Steps .speculationCheck s t ∧ SameBut [.time] s t) ∧
  (∀ s : State, s.sys.mode = .control ∨ s.sys.mode = .standby → s.dpc.fn ≠ 0 → s.alloc.issuedAt ≠ some s.sys.frame → s.time.mt ≤ s.sys.frame * frameTicks + 950000 →
    ∃ t, Steps .setpointIssue s t ∧ t.alloc.issuedAt = some s.sys.frame ∧ t.alloc.issued = (clampPower s (available s)).1 ∧ t.alloc.clamp = (clampPower s (available s)).2.toList.any id ∧
      (∀ n : Fin 16, inMask s.alloc.avail n.val = false → (t.alloc.issued[n]).az = (s.alloc.issued[n]).az) ∧
      (∀ i : Fin 3, t.alloc.slack[i] = s.dpc.tau[i] - (forceOf s t.alloc.issued)[i]) ∧
      (s.alloc.entry ≠ 0xFE → s.hp.ready = true → Occurred 59 (s.alloc.entry * 256 + b2n s.alloc.aged + 2 * b2n s.alloc.refined) s t) ∧
      (s.sys.own = false → t.loop = s.loop ∧ t.can = s.can) ∧
      (s.sys.mode = .control → s.sys.own = true → s.sys.release = false → s.sys.outputsHeld = false → ∀ n : Fin 16, bound s n.val = true → bindCan s n.val < 6 →
        t.loop.canCounter[n] = (s.loop.canCounter[n] + 1) % 256)) ∧
  (∀ s : State, s.alloc.issuedAt = some s.sys.frame → ∃ t, Steps .setpointIssue s t ∧ SameBut [.time] s t) ∧
  (∀ s : State, s.sys.mode = .control ∨ s.sys.mode = .standby → ∃ t, Steps .hypothesisBankDeadline s t ∧ SameBut [.time, .solv, .free] s t ∧
      (∀ x ∈ t.solv.tickets, ∀ e, x.work ≠ .bank e) ∧ (∀ x ∈ s.solv.tickets, (∀ e, x.work ≠ .bank e) → ∃ y ∈ t.solv.tickets, y.id = x.id ∧ y.work = x.work)) ∧
  (∀ (r : CaResult) (s : State), s.alloc.ca = some r → r.dir0 = false →
    ∃ t, Steps .caDirection0Complete s t ∧
      t.alloc.ca = some { r with next := max (caFirst r) r.next, dir0 := true, u := (List.range 21).map fun k => util r.dxy (caLamOf s r (k, 0)) } ∧
      (∀ k : Fin 21, 1 ≤ k.val → tb r.mask k.val = true → util r.dxy (caLamOf s r (k.val, 0)) ≤ t.alloc.worstU) ∧
      ((t.alloc.worst = 0 ∧ t.alloc.worstU = 0) ∨ ∃ k : Fin 21, 1 ≤ k.val ∧ t.alloc.worst = k.val ∧ tb r.mask k.val = true ∧ t.alloc.worstU = util r.dxy (caLamOf s r (k.val, 0))) ∧
      t.alloc.nomOver = decide (fld (ccfg s 0) 31 16 * 10 < util r.dxy (caLamOf s r (0, 0))) ∧
      (s.alloc.conseq = false → bit (ccfg s 0) 0 = true → fld (ccfg s 0) 31 16 * 10 < t.alloc.worstU → t.alloc.conseq = true ∧ (s.hp.ready = true → Occurred 62 (256 + t.alloc.worst) s t)) ∧
      (s.alloc.conseq = false → t.alloc.worstU ≤ fld (ccfg s 0) 31 16 * 10 → t.alloc.conseq = false ∧ t.ev.src[62] = s.ev.src[62]) ∧
      (s.alloc.conseq = true → t.alloc.worstU < fld (ccfg s 1) 15 0 * 10 → fld (ccfg s 1) 23 16 ≤ s.alloc.conseqClear + 1 →
        t.alloc.conseq = false ∧ (s.hp.ready = true → Occurred 62 t.alloc.worst s t))) ∧
  (∀ (r : CaResult) (s : State), s.alloc.ca = some r → r.dir0 = true →
    ∃ t, Steps .caCycleComplete s t ∧ t.alloc.ca = none ∧ t.alloc.caDone = some { r with
        lam := (List.range 21).flatMap fun k => (List.range 72).map fun j => caLamOf s r (k, j), period := (s.time.mt - r.start) / msTicks } ∧
      t.alloc.caSlow = decide ((ccfg s 2).toNat * msTicks < s.time.mt - r.start) ∧
      (s.hp.ready = true → t.alloc.caSlow = true → s.alloc.caSlow = false → Occurred 63 256 s t) ∧ (s.hp.ready = true → t.alloc.caSlow = false → s.alloc.caSlow = true → Occurred 63 0 s t) ∧
      (t.alloc.caSlow = s.alloc.caSlow → t.ev.src[63] = s.ev.src[63])) ∧
  (∀ s : State, s.alloc.slackOn = 0 → maskOf (vmap s.alloc.slackRun fun n => decide (10 ≤ n)) ≠ 0 → s.hp.ready = true →
    ∃ t, Steps .allocSlackAlarm s t ∧ t.alloc = { s.alloc with slackOn := maskOf (vmap s.alloc.slackRun fun n => decide (10 ≤ n)) } ∧
      Occurred 60 (256 + maskOf (vmap s.alloc.slackRun fun n => decide (10 ≤ n))) s t ∧ EventsBut [60, 120] s t) ∧
  (∀ s : State, s.alloc.slackOn ≠ 0 → 100 ≤ s.alloc.slackClear → s.hp.ready = true →
    ∃ t, Steps .allocSlackAlarm s t ∧ t.alloc = { s.alloc with slackOn := 0 } ∧ Occurred 60 s.alloc.slackOn s t ∧ EventsBut [60, 120] s t) ∧
  (∀ s : State, s.alloc.slackOn ≠ 0 → s.alloc.slackClear < 100 → Steps .allocSlackAlarm s s) ∧
  (∀ (n : Fin 16) (s : State), thrConfigured s n.val = true → (s.alloc.thr[n]).notReady = true →
    ∃ t, Steps (.notreadyDetect n) s t ∧ (t.alloc.thr[n]).causes = (s.alloc.thr[n]).causes ||| 4 ∧ (∀ m : Fin 16, m ≠ n → t.alloc.thr[m] = s.alloc.thr[m]) ∧ (s.hp.ready = true → tb (s.alloc.thr[n]).causes 2 = false → Occurred 56 (n.val * 256 + 2) s t) ∧
      (tb (s.alloc.thr[n]).causes 2 = true → t.ev = s.ev)) ∧
  (∀ (n : Fin 16) (s : State), thrConfigured s n.val = true → bound s n.val = true → ((fbSrcs s n.val).any fun c => c != 0xFF) = true → fbNow s n.val = false →
    ∃ t, Steps (.feedbackTimeout n) s t ∧ (t.alloc.thr[n]).causes = (s.alloc.thr[n]).causes ||| 8 ∧ (∀ m : Fin 16, m ≠ n → t.alloc.thr[m] = s.alloc.thr[m]) ∧ (s.hp.ready = true → tb (s.alloc.thr[n]).causes 3 = false → Occurred 56 (n.val * 256 + 3) s t)) ∧
  (∀ (n : Fin 16) (s : State), thrConfigured s n.val = false → Steps (.notreadyDetect n) s s ∧ Steps (.feedbackTimeout n) s s) ∧
  (∀ (n : Fin 16) (s : State), autoReturn s = true → (s.alloc.thr[n]).notReady = false →
    ∃ t, Steps (.thrusterReturnTimer n) s t ∧ SameBut [.time, .alloc] s t ∧ (∀ m : Fin 16, m ≠ n → t.alloc.thr[m] = s.alloc.thr[m]) ∧ tb (t.alloc.thr[n]).causes 2 = false ∧ tb (t.alloc.thr[n]).causes 1 = tb (s.alloc.thr[n]).causes 1 ∧
      tb (t.alloc.thr[n]).causes 5 = tb (s.alloc.thr[n]).causes 5) ∧
  (∀ (n : Fin 16) (s : State), autoReturn s = false → ∃ t, Steps (.thrusterReturnTimer n) s t ∧ SameBut [.time] s t)

/-- Structures, submissions, copies, deadlines and region failures of the solver. SOLV_STRUCT_DEFINE consumes the staged definition and starts its installation, or is refused with the reason; its completion installs the structure with the next generation, no values and the counters at 0. SOLV_STRUCT_DELETE removes a structure without problems in flight. SOLV_UPDATE sets all its entries, or none. SOLV_SUBMIT opens one host ticket with the values at that time, its two copies in different regions; without a ticket or structure it is refused with words 1 to 7. A copy that ends stores what the structure and the captured values give, wherever it ran, unless a fault spoilt it: one without a partner ends the problem with the outcome of Table 8-7; the first of a pair only leaves its words; two that agree end the problem; two that differ raise EV49. A deadline ends the problem with 0x4019. An uncorrectable store error fails the region and powers it off. A suspended copy resumes on an idle cluster of its region. Rests on: R9, R181, R191, R192, R193, R195, R196, R197, R201, R204, R205, R207. -/
def Obligations.SolverProblemsAreSubmittedComparedAndAnswered : Prop :=
  (∀ (p : Port) (c : Cmd) (k : Nat) (ws : List Word) (s : State), Heard p c s → c.op = .solvStructDefine → 8 ≤ fld (wd c.words 0) 5 0 → inFlight s (fld (wd c.words 0) 5 0) = [] → (s.solv.staged.find? fun e => e.1 == fld (wd c.words 0) 5 0) = some (k, ws) →
    structFault (parseStruct (fld (wd c.words 0) 5 0) ws) ws = none → residentBut s (fld (wd c.words 0) 5 0) + (parseStruct (fld (wd c.words 0) 5 0) ws).size ≤ 1536 * 1024 →
    ∃ t, Steps (.solvStructDefine p) s t ∧ Accepted p c 5 s t ∧ SameBut [.host, .maint, .solv] s t ∧ t.solv = { s.solv with
      staged := s.solv.staged.filter fun e => e.1 != fld (wd c.words 0) 5 0, installs := s.solv.installs ++ [{ sid := fld (wd c.words 0) 5 0, port := p, tag := c.tag, s := parseStruct (fld (wd c.words 0) 5 0) ws }] }) ∧
  (∀ (p : Port) (c : Cmd) (k r : Nat) (ws : List Word) (s : State), Heard p c s → c.op = .solvStructDefine → 8 ≤ fld (wd c.words 0) 5 0 → inFlight s (fld (wd c.words 0) 5 0) = [] → (s.solv.staged.find? fun e => e.1 == fld (wd c.words 0) 5 0) = some (k, ws) →
    structFault (parseStruct (fld (wd c.words 0) 5 0) ws) ws = some r →
    ∃ t, Steps (.solvStructDefine p) s t ∧ Replied p c 3 0x4015 r [] t ∧ SameBut [.host, .maint, .sys, .solv] s t ∧ t.solv = { s.solv with staged := s.solv.staged.filter fun e => e.1 != fld (wd c.words 0) 5 0 }) ∧
  (∀ (p : Port) (c : Cmd) (k : Nat) (ws : List Word) (s : State), Heard p c s → c.op = .solvStructDefine → 8 ≤ fld (wd c.words 0) 5 0 → inFlight s (fld (wd c.words 0) 5 0) = [] → (s.solv.staged.find? fun e => e.1 == fld (wd c.words 0) 5 0) = some (k, ws) →
    structFault (parseStruct (fld (wd c.words 0) 5 0) ws) ws = none → 1536 * 1024 < residentBut s (fld (wd c.words 0) 5 0) + (parseStruct (fld (wd c.words 0) 5 0) ws).size →
    ∃ t, Steps (.solvStructDefine p) s t ∧ Replied p c 3 0x4014 0 [] t ∧ t.solv = { s.solv with staged := s.solv.staged.filter fun e => e.1 != fld (wd c.words 0) 5 0 }) ∧
  (∀ (p : Port) (c : Cmd) (s : State), Heard p c s → c.op = .solvStructDefine → 8 ≤ fld (wd c.words 0) 5 0 → inFlight s (fld (wd c.words 0) 5 0) ≠ [] →
    ∃ t, Steps (.solvStructDefine p) s t ∧ Replied p c 3 0x4013 0 [] t ∧ t.solv = { s.solv with staged := s.solv.staged.filter fun e => e.1 != fld (wd c.words 0) 5 0 }) ∧
  (∀ (p : Port) (c : Cmd) (s : State), Heard p c s → c.op = .solvStructDefine → 8 ≤ fld (wd c.words 0) 5 0 → inFlight s (fld (wd c.words 0) 5 0) = [] → (s.solv.staged.find? fun e => e.1 == fld (wd c.words 0) 5 0) = none →
    ∃ t, Steps (.solvStructDefine p) s t ∧ Replied p c 3 0x4015 6 [] t ∧ SameBut [.host, .maint, .sys] s t) ∧
  (∀ (p : Port) (c : Cmd) (s : State), Heard p c s → c.op = .solvStructDefine → fld (wd c.words 0) 5 0 < 8 →
    ∃ t, Steps (.solvStructDefine p) s t ∧ Replied p c 3 0x4012 0 [] t ∧ SameBut [.host, .maint, .sys] s t) ∧
  (∀ (i : Install) (rest : List Install) (n : Fin 64) (s : State), s.solv.installs = i :: rest → i.s.sid = n.val → Waits i.port i.tag .solvStructDefine s →
    ∃ t g, Steps .structInstallComplete s t ∧ Answered i.port i.tag .solvStructDefine 0 0 0 [] t ∧ SameBut [.host, .maint, .sys, .solv] s t ∧ g = (s.solv.gens[n] + 1) % 65536 ∧ t.solv = { s.solv with
      installs := rest, gens := s.solv.gens.set n g
      structs := (s.solv.structs.filter fun y => y.sid != n.val) ++ [{ i.s with gen := g, vals := [], version := 0, result := none, prog := Config.laneProgram [n.val, i.s.kind, i.s.n, i.s.m, i.s.neq] i.s.patH i.s.patA i.s.fmts g, lastSat := (structOf s n.val).bind fun y => y.lastSat, lastReg := (structOf s n.val).bind fun y => y.lastReg }] }) ∧
  (∀ s : State, s.solv.installs = [] → Steps .structInstallComplete s s) ∧
  (∀ (p : Port) (c : Cmd) (x : Struct) (s : State), Heard p c s → c.op = .solvStructDelete → 8 ≤ fld (wd c.words 0) 5 0 → structOf s (fld (wd c.words 0) 5 0) = some x → inFlight s (fld (wd c.words 0) 5 0) = [] →
    ∃ t, Steps (.solvStructDelete p) s t ∧ Replied p c 0 0 0 [] t ∧ SameBut [.host, .maint, .sys, .solv] s t ∧
      t.solv = { s.solv with structs := s.solv.structs.filter fun x => x.sid != fld (wd c.words 0) 5 0 }) ∧
  (∀ (p : Port) (c : Cmd) (x : Struct) (s : State), Heard p c s → c.op = .solvStructDelete → 8 ≤ fld (wd c.words 0) 5 0 → structOf s (fld (wd c.words 0) 5 0) = some x → inFlight s (fld (wd c.words 0) 5 0) ≠ [] →
    ∃ t, Steps (.solvStructDelete p) s t ∧ AnswersOnly p c 3 0x4013 0 [] s t) ∧
  (∀ (p : Port) (c : Cmd) (x : Struct) (s : State), Heard p c s → c.op = .solvUpdate → 8 ≤ fld (wd c.words 0) 5 0 → structOf s (fld (wd c.words 0) 5 0) = some x →
    (∀ i : Nat, i < (updateEntries c.words).length → entryOk x (wd c.words (1 + 3 * i)) ((updateEntries c.words).getD i ⟨9, 0, 0, 0⟩) = true) →
    ((versionsOf s (fld (wd c.words 0) 5 0)).contains x.version = true → (versionsOf s (fld (wd c.words 0) 5 0)).length < 4) →
    ∃ t, Steps (.solvUpdate p) s t ∧ Replied p c 0 0 0 [] t ∧ SameBut [.host, .maint, .sys, .solv] s t ∧ t.solv = { s.solv with
      structs := s.solv.structs.map fun y => if y.sid = fld (wd c.words 0) 5 0 then { y with vals := (updateEntries c.words).foldl setVal y.vals, version := if (versionsOf s (fld (wd c.words 0) 5 0)).contains x.version then y.version + 1 else y.version } else y }) ∧
  (∀ (p : Port) (c : Cmd) (x : Struct) (i : Nat) (s : State), Heard p c s → c.op = .solvUpdate → 8 ≤ fld (wd c.words 0) 5 0 → structOf s (fld (wd c.words 0) 5 0) = some x → i < (updateEntries c.words).length →
    entryOk x (wd c.words (1 + 3 * i)) ((updateEntries c.words).getD i ⟨9, 0, 0, 0⟩) = false →
    (∀ j : Nat, j < i → entryOk x (wd c.words (1 + 3 * j)) ((updateEntries c.words).getD j ⟨9, 0, 0, 0⟩) = true) →
    ∃ t, Steps (.solvUpdate p) s t ∧ AnswersOnly p c 3 0xF016 (1 + 3 * i) [] s t) ∧
  (∀ (p : Port) (c : Cmd) (s : State), Heard p c s → c.op = .solvUpdate → fld (wd c.words 0) 5 0 < 8 →
    ∃ t, Steps (.solvUpdate p) s t ∧ AnswersOnly p c 3 0xF016 0 [] s t) ∧
  (∀ (p : Port) (c : Cmd) (ws : List Word) (x : Struct) (id : Nat) (s : State), Heard p c s → c.op = .solvSubmit → ws = expertWords .solvSubmit c.expert c.words → 8 ≤ fld (wd c.words 0) 5 0 → structOf s (fld (wd c.words 0) 5 0) = some x →
    (x.kind = 0 ∨ x.kind = 1 → fld (wd c.words 0) 9 8 = 0) → freeTicket s 192 255 = some id →
    ∃ t ms tk, Steps (.solvSubmit p) s t ∧ Accepted p c ms s t ∧ SameBut [.host, .maint, .solv, .free] s t ∧ t.solv.structs = s.solv.structs ∧ t.solv.order = s.solv.order + 1 ∧
      t.solv.tickets.map (fun y => y.id) = s.solv.tickets.map (fun y => y.id) ++ [id] ∧ ticketOf t id = some tk ∧
      tk.work = .host ∧ tk.port = p ∧ tk.tag = c.tag ∧ tk.sid = fld (wd c.words 0) 5 0 ∧ tk.gen = x.gen ∧ tk.on = asSubmitted x ∧ tk.version = x.version ∧ tk.vals = x.vals ∧
      tk.order = s.solv.order ∧ tk.dup = bit (wd ws 1) 24 ∧ tk.deadline = (if (wd ws 2).toNat = 0 then none else some (s.time.mt + (wd ws 2).toNat * msTicks)) ∧
      (tk.dup = false → tk.copies.length ≤ 1) ∧ (tk.dup = true → tk.copies = [] ∨ ∃ a b, tk.copies = [a, b] ∧ a.region ≠ b.region)) ∧
  (∀ (p : Port) (c : Cmd) (x : Struct) (s : State), Heard p c s → c.op = .solvSubmit → 8 ≤ fld (wd c.words 0) 5 0 → structOf s (fld (wd c.words 0) 5 0) = some x →
    (x.kind = 0 ∨ x.kind = 1 → fld (wd c.words 0) 9 8 = 0) → freeTicket s 192 255 = none →
    ∃ t ws, Steps (.solvSubmit p) s t ∧ Replied p c 3 0x4010 64 ws t ∧ ws.length = 7 ∧ fld (wd ws 0) 5 0 = fld (wd c.words 0) 5 0 ∧ SameBut [.host, .maint, .sys] s t) ∧
  (∀ (p : Port) (c : Cmd) (id : Nat) (s : State), Heard p c s → c.op = .solvSubmit → 8 ≤ fld (wd c.words 0) 5 0 → structOf s (fld (wd c.words 0) 5 0) = none → freeTicket s 192 255 = some id →
    ∃ t ws, Steps (.solvSubmit p) s t ∧ Replied p c 3 0x4011 (fld (wd c.words 0) 5 0) ws t ∧ ws.length = 7 ∧ fld (wd ws 0) 5 0 = fld (wd c.words 0) 5 0 ∧ SameBut [.host, .maint, .sys] s t) ∧
  (∀ (p : Port) (c : Cmd) (s : State), Heard p c s → c.op = .solvSubmit → fld (wd c.words 0) 5 0 < 8 ∨ (∃ x, structOf s (fld (wd c.words 0) 5 0) = some x ∧ x.kind ≤ 1 ∧ fld (wd c.words 0) 9 8 ≠ 0) →
    ∃ t, Steps (.solvSubmit p) s t ∧ AnswersOnly p c 3 0xF016 0 [] s t) ∧
  (∀ (id ce : Nat) (err : Option CopyOut) (tk : Ticket) (k : Copy) (o : CopyOut) (s : State), ticketOf s id = some tk → tk.work = .host → tk.aborted = false → tk.dup = false → tk.copies = [k] → k.dead = false → k.suspended = false →
    k.out = none → o = storedOut tk err → Waits tk.port tk.tag .solvSubmit s →
    ∃ t, Steps (.copyComplete id 0 ce err) s t ∧ ticketOf t id = none ∧ Answered tk.port tk.tag .solvSubmit 0 (outcome tk o).1 (outcome tk o).2
        (replyHead s.time.mt { tk with copies := [{ k with out := some o }] } o ++ if o.status = 0 then resultRows o tk.outQty tk.outFirst (outRows tk) else []) t ∧
      ∀ x, structOf s tk.sid = some x → x.gen = tk.gen → x.result = none → ∃ y, structOf t tk.sid = some y ∧ y.nSubmit = inc32 x.nSubmit ∧
        y.result = (if o.status = 0 then some { order := tk.order, gen := tk.gen, tag := tk.tag, out := o } else none)) ∧
  (∀ (tk : Ticket) (l : List Copy), storedOut { tk with copies := l } none = storedOut tk none) ∧
  (∀ (id ce : Nat) (err : Option CopyOut) (tk : Ticket) (a b : Copy) (s : State), ticketOf s id = some tk → tk.dup = true → tk.copies = [a, b] → a.dead = false → a.suspended = false → a.out = none → b.out = none →
    ∃ t y k, Steps (.copyComplete id 0 ce err) s t ∧ SameBut [.solv, .free] s t ∧ ticketOf t id = some y ∧ y.copies = [{ a with out := some (storedOut tk err) }, k] ∧
      k.out = none ∧ k.region = b.region ∧ k.cluster = b.cluster ∧ t.solv.structs = s.solv.structs) ∧
  (∀ (id ce : Nat) (err : Option CopyOut) (tk : Ticket) (a b : Copy) (o : CopyOut) (s : State), ticketOf s id = some tk → tk.work = .host → tk.aborted = false → tk.dup = true → tk.copies = [a, b] → b.dead = false → b.suspended = false → a.out = some o → b.out = none →
    o = storedOut tk err → Waits tk.port tk.tag .solvSubmit s →
    ∃ t, Steps (.copyComplete id 1 ce err) s t ∧ ticketOf t id = none ∧ Answered tk.port tk.tag .solvSubmit 0 (outcome tk o).1 (outcome tk o).2
        (replyHead s.time.mt { tk with copies := [a, { b with out := some o }] } o ++ if o.status = 0 then resultRows o tk.outQty tk.outFirst (outRows tk) else []) t) ∧
  (∀ (id ce : Nat) (err : Option CopyOut) (tk : Ticket) (a b : Copy) (o' : CopyOut) (s : State), ticketOf s id = some tk → tk.dup = true → tk.copies = [a, b] → b.dead = false → b.suspended = false → a.out = some o' → b.out = none →
    o' ≠ storedOut tk err → s.hp.ready = true → ∃ t, Steps (.copyComplete id 1 ce err) s t ∧ Occurred 49 (a.region * 256 + b.region) s t) ∧
  (∀ (id ce : Nat) (k : Fin 3) (err : Option CopyOut) (s : State), ticketOf s id = none → Steps (.copyComplete id k ce err) s s) ∧
  (∀ (r : Fin 4) (id : Nat) (tk : Ticket) (k : Copy) (s : State), ticketOf s id = some tk → k ∈ tk.copies → k.region = r.val → k.out = none → k.dead = false → k.suspended = false → (s.solv.region[r]).st ≠ .failed →
    ∃ t, Steps (.storeUncorrectableError r id) s t ∧ (t.solv.region[r]).st = .failed ∧ t.sys.dom[regDom r] = .off ∧ t.sys.exiting[regDom r] = false ∧
      (s.hp.ready = true → Occurred 48 (r.val * 256 + 2) s t) ∧ ((∀ q : Fin 4, q ≠ r → (s.solv.region[q]).st = .failed) → 2 ∈ t.sys.diagSeen)) ∧
  (∀ (r : Fin 4) (id : Nat) (s : State), ticketOf s id = none → Steps (.storeUncorrectableError r id) s s) ∧
  (∀ (id d : Nat) (tk : Ticket) (s : State), ticketOf s id = some tk → tk.deadline = some d → tk.work = .host → tk.aborted = false → Waits tk.port tk.tag .solvSubmit s →
    ∃ t, Steps (.hostProblemDeadline id) s t ∧ SameBut [.host, .maint, .sys, .time, .solv, .free] s t ∧ ticketOf t id = none ∧
      Answered tk.port tk.tag .solvSubmit 0 0x4019 (satN 65535 tk.deadlineMs) (replyHead t.time.mt tk (endedOut tk)) t) ∧
  (∀ (id : Nat) (tk : Ticket) (k : Fin 3) (a : Copy) (cl : Nat) (s : State), ticketOf s id = some tk → tk.copies[k.val]? = some a → a.suspended = true → a.dead = false → (tk.work = .host → (charge s).solv.reserve ≠ 0) →
    cl < 4 → runningOn s a.region cl = [] →
    ∃ t y n, Steps (.copyResume id k) s t ∧ SameBut [.solv, .free] s t ∧ n < 4 ∧ runningOn (charge s) a.region n = [] ∧ ticketOf t id = some y ∧ y.copies[k.val]? = some { a with suspended := false, cluster := n }) ∧
  (∀ (id : Nat) (tk : Ticket) (k : Fin 3) (a : Copy) (s : State), ticketOf s id = some tk → tk.copies[k.val]? = some a → a.suspended = false → Steps (.copyResume id k) s (charge s))

/-- Antenna classes, channel states, parity, the shared store of navigation data, RTCM frames, interference and faults of the basebands. A change of the class of an antenna input is stored and raised as EV24 or EV25 and leaves the other baseband alone; a short returns to OK when the retry finds none. A channel takes the next state of Table 5-4; a loss of lock returns it to ACQ with the slip flag; a cycle slip sets the flag and restarts the lock time. A word that fails parity is counted and not kept; a subframe that completes a good set of three fills the shared store of its PRN, and a set with the same issue and another content excludes the PRN with EV29. An RTCM frame with a bad CRC and a message that is not used are only counted; a 1005 gives the place of its station, a 1004 the corrections of the satellites with a stored set, formed against the computed range, and both decide whether corrections may be used; EV28 marks the change to unusable. The places of the fields are those of RTCM 10403.3 (log entry 70). Noise at its average plus INTERF_DB is interference, raised as EV30 on each change; a baseband fault idles its channels, ends its fix and is raised as EV31. The parity equations are those of IS-GPS-200 (log entry 17). Rests on: R116, R117, R118, R119, R120, R121, R122, R127, R128, R134. -/
def Obligations.AntennasChannelsNavigationDataAndCorrections : Prop :=
  (∀ (a : Fin 2) (cls : Fin 4) (s : State), s.hp.ready = true → antBias s a = true → (s.gnss.bb[a]).ant ≠ cls.val →
    ∃ t, Steps (.antennaStateChange a cls) s t ∧ (t.gnss.bb[a]).ant = cls.val ∧ (∀ b : Fin 2, b ≠ a → t.gnss.bb[b] = s.gnss.bb[b]) ∧
      (a.val = 0 → Occurred 24 cls.val s t) ∧ (a.val = 1 → Occurred 25 cls.val s t)) ∧
  (∀ (a : Fin 2) (cls : Fin 4) (s : State), antBias s a = false ∨ (s.gnss.bb[a]).ant = cls.val → Steps (.antennaStateChange a cls) s s) ∧
  (∀ (a : Fin 2) (s : State), s.hp.ready = true → gnssDom s a ≠ .off → biasOn s a = true → (s.gnss.bb[a]).ant = 2 →
    ∃ t, Steps (.antennaShortRetry a false) s t ∧ (t.gnss.bb[a]).ant = 0 ∧ (∀ b : Fin 2, b ≠ a → t.gnss.bb[b] = s.gnss.bb[b]) ∧ (a.val = 0 → Occurred 24 0 s t) ∧ (a.val = 1 → Occurred 25 0 s t)) ∧
  (∀ (a : Fin 2) (s : State), s.hp.ready = true → gnssDom s a ≠ .off → biasOn s a = true → (s.gnss.bb[a]).ant = 2 →
    ∃ t, Steps (.antennaShortRetry a true) s t ∧ (t.gnss.bb[a]).ant = 2 ∧ t.ev = s.ev ∧ (∀ b : Fin 2, b ≠ a → t.gnss.bb[b] = s.gnss.bb[b])) ∧
  (∀ (b : Fin 2) (ch : Fin 32) (prn : Nat) (st : Fin 6) (s : State), bbOn s b = true → st.val = ((s.gnss.bb[b]).chans[ch]).st.val + 1 →
    ∃ t, Steps (.channelAcquisition b ch prn st) s t ∧ SameBut [.gnss] s t ∧ ((t.gnss.bb[b]).chans[ch]).st = st ∧ (st.val = 1 → ((s.gnss.bb[b]).chans[ch]).prn = 0 → ((t.gnss.bb[b]).chans[ch]).prn = prn) ∧ (((s.gnss.bb[b]).chans[ch]).prn ≠ 0 → ((t.gnss.bb[b]).chans[ch]).prn = ((s.gnss.bb[b]).chans[ch]).prn) ∧
      (st.val = 3 → ((t.gnss.bb[b]).chans[ch]).lockSince = s.time.mt) ∧ (∀ k : Fin 32, k ≠ ch → (t.gnss.bb[b]).chans[k] = (s.gnss.bb[b]).chans[k]) ∧ (∀ a : Fin 2, a ≠ b → t.gnss.bb[a] = s.gnss.bb[a])) ∧
  (∀ (b : Fin 2) (ch : Fin 32) (s : State), bbOn s b = true → 2 ≤ ((s.gnss.bb[b]).chans[ch]).st.val →
    ∃ t, Steps (.channelLossOfLock b ch) s t ∧ SameBut [.gnss] s t ∧ ((t.gnss.bb[b]).chans[ch]).st = 1 ∧ ((t.gnss.bb[b]).chans[ch]).slip = true ∧ ((t.gnss.bb[b]).chans[ch]).prn = ((s.gnss.bb[b]).chans[ch]).prn ∧ ((t.gnss.bb[b]).chans[ch]).lockSince = s.time.mt ∧
      (∀ k : Fin 32, k ≠ ch → (t.gnss.bb[b]).chans[k] = (s.gnss.bb[b]).chans[k]) ∧ (∀ a : Fin 2, a ≠ b → t.gnss.bb[a] = s.gnss.bb[a])) ∧
  (∀ (b : Fin 2) (ch : Fin 32) (s : State), bbOn s b = true → 3 ≤ ((s.gnss.bb[b]).chans[ch]).st.val →
    ∃ t, Steps (.cycleSlip b ch) s t ∧ SameBut [.gnss] s t ∧ (t.gnss.bb[b]).chans[ch] = { (s.gnss.bb[b]).chans[ch] with slip := true, lockSince := s.time.mt } ∧
      (∀ k : Fin 32, k ≠ ch → (t.gnss.bb[b]).chans[k] = (s.gnss.bb[b]).chans[k]) ∧ (∀ a : Fin 2, a ≠ b → t.gnss.bb[a] = s.gnss.bb[a])) ∧
  (∀ (b : Fin 2) (ch : Fin 32) (s : State), ((s.gnss.bb[b]).chans[ch]).st.val ≤ 1 → Steps (.channelLossOfLock b ch) s s ∧ Steps (.cycleSlip b ch) s s) ∧
  (∀ (b : Fin 2) (ch : Fin 32) (idx : Fin 10) (raw : BitVec 30) (s : State), bbOn s b = true → ((s.gnss.bb[b]).chans[ch]).st = 5 → idx.val ≠ 9 →
    ∃ t, Steps (.navWordDecoded b ch idx raw) s t ∧ t.gnss.nav = s.gnss.nav ∧ ((t.gnss.bb[b]).chans[ch]).d29 = raw.getLsbD 1 ∧ ((t.gnss.bb[b]).chans[ch]).d30 = raw.getLsbD 0 ∧
      (navParity raw ((s.gnss.bb[b]).chans[ch]).d29 ((s.gnss.bb[b]).chans[ch]).d30 = true → ((t.gnss.bb[b]).chans[ch]).parityErr = ((s.gnss.bb[b]).chans[ch]).parityErr ∧ ((t.gnss.bb[b]).chans[ch]).sub[idx] = some (navData raw ((s.gnss.bb[b]).chans[ch]).d30).toNat) ∧
      (navParity raw ((s.gnss.bb[b]).chans[ch]).d29 ((s.gnss.bb[b]).chans[ch]).d30 = false → ((t.gnss.bb[b]).chans[ch]).parityErr = inc32 ((s.gnss.bb[b]).chans[ch]).parityErr ∧ ((t.gnss.bb[b]).chans[ch]).sub[idx] = none)) ∧
  (∀ (b : Fin 2) (ch : Fin 32) (raw : BitVec 30) (s : State), bbOn s b = true → ((s.gnss.bb[b]).chans[ch]).st = 5 → navParity raw ((s.gnss.bb[b]).chans[ch]).d29 ((s.gnss.bb[b]).chans[ch]).d30 = false →
    ∃ t, Steps (.navWordDecoded b ch 9 raw) s t ∧ t.gnss.nav = s.gnss.nav ∧ t.gnss.pages = s.gnss.pages ∧ ((t.gnss.bb[b]).chans[ch]).parityErr = inc32 ((s.gnss.bb[b]).chans[ch]).parityErr) ∧
  (∀ (b : Fin 2) (ch : Fin 32) (raw : BitVec 30) (i : Fin 32) (k : Fin 3) (ws : List Nat) (sf : Vector (List Nat) 3) (s : State), bbOn s b = true → ((s.gnss.bb[b]).chans[ch]).st = 5 → ((s.gnss.bb[b]).chans[ch]).prn = i.val + 1 →
    navParity raw ((s.gnss.bb[b]).chans[ch]).d29 ((s.gnss.bb[b]).chans[ch]).d30 = true → (((s.gnss.bb[b]).chans[ch]).sub.set 9 (some (navData raw ((s.gnss.bb[b]).chans[ch]).d30).toNat)).toList = ws.map some → ws.getD 1 0 / 4 % 8 = k.val + 1 →
    sf = ((s.gnss.bb[b]).chans[ch]).sf.set k (ws.drop 2) → (∀ j : Fin 3, sf[j] ≠ []) → setGood sf[0] sf[1] sf[2] = true → (s.gnss.nav[i]).excluded = false →
    ∃ t, Steps (.navWordDecoded b ch 9 raw) s t ∧
      ((s.gnss.nav[i]).set = [] ∨ iodeOf (s.gnss.nav[i]).set ≠ iodeOf (sf[0] ++ sf[1] ++ sf[2]) →
        t.gnss.nav[i] = { set := sf[0] ++ sf[1] ++ sf[2] }) ∧
      ((s.gnss.nav[i]).set ≠ [] → iodeOf (s.gnss.nav[i]).set = iodeOf (sf[0] ++ sf[1] ++ sf[2]) → (s.gnss.nav[i]).set ≠ sf[0] ++ sf[1] ++ sf[2] →
        (t.gnss.nav[i]).excluded = true ∧ Occurred 29 (i.val + 1) s t)) ∧
  (∀ (u : Fin 10) (data : List Byte) (s : State), s.hp.ready = true → pd4On s = true → rtcmPort s = u.val → uartProto s u = 3 → rtcmMessage data = none →
    ∃ t, Steps (.rtcmFrame data) s t ∧ SameBut [.gnss] s t ∧ t.gnss = { s.gnss with rtcmCrcErr := inc32 s.gnss.rtcmCrcErr }) ∧
  (∀ (u : Fin 10) (data m : List Byte) (s : State), s.hp.ready = true → pd4On s = true → rtcmPort s = u.val → uartProto s u = 3 → rtcmMessage data = some m → (rtcmFld m 0 12 ≠ 1004 ∧ rtcmFld m 0 12 ≠ 1005) ∨ (rtcmFld m 0 12 = 1005 ∧ rtcmFld m 30 1 = 0) →
    ∃ t, Steps (.rtcmFrame data) s t ∧ SameBut [.gnss] s t ∧ t.gnss = { s.gnss with rtcmIgnored := inc32 s.gnss.rtcmIgnored }) ∧
  (∀ (u : Fin 10) (data m : List Byte) (s : State), s.hp.ready = true → pd4On s = true → rtcmPort s = u.val → uartProto s u = 3 → rtcmMessage data = some m → rtcmFld m 0 12 = 1005 → 19 ≤ m.length → rtcmFld m 30 1 = 1 →
    ∃ t ok, Steps (.rtcmFrame data) s t ∧ t.gnss = { s.gnss with rtcmOk := ok, arps := (rtcmFld m 12 12, rtcmInt m 34 38, rtcmInt m 74 38, rtcmInt m 114 38) :: s.gnss.arps.filter fun a => a.1 != rtcmFld m 12 12 } ∧
      (ok = true ↔ s.time.mt ≤ s.gnss.corrMt + maxAge s * secTicks ∧ ∃ arp, stationArp t = some arp ∧ arpNear s arp = true) ∧ (s.gnss.rtcmOk = true → ok = false → ∃ d, 1 ≤ d ∧ d ≤ 3 ∧ Occurred 28 d s t)) ∧
  (∀ (u : Fin 10) (data m : List Byte) (st mt : Nat) (s : State), s.hp.ready = true → pd4On s = true → rtcmPort s = u.val → uartProto s u = 3 → rtcmMessage data = some m → rtcmFld m 0 12 = 1004 → 64 + 125 * rtcmFld m 55 5 ≤ 8 * m.length → st = rtcmFld m 12 12 → mt = mtOfTow (rtcmFld m 24 30) s →
    ∃ t ok l, Steps (.rtcmFrame data) s t ∧ t.gnss = { s.gnss with rtcmStation := some st, corrMt := mt, corr := l, rtcmOk := ok } ∧ (arpOf s st = none → ok = false) ∧
      (∀ x ∈ l, (x ∈ s.gnss.corr ∧ s.gnss.rtcmStation = some st) ∨ ∃ (k pr : Nat) (i : Fin 32) (arp : Int × Int × Int), k < rtcmFld m 55 5 ∧ arpOf s st = some arp ∧
        rtcmFld m (64 + 125 * k) 6 = i.val + 1 ∧ rtcmFld m (70 + 125 * k) 1 = 0 ∧ pr = rtcmFld m (71 + 125 * k) 24 ∧ pr ≠ 0x80000 ∧ (s.gnss.nav[i]).set ≠ [] ∧
        x.prn = i.val + 1 ∧ x.iode = iodeOf (s.gnss.nav[i]).set ∧ x.mt = mt ∧
        x.prc = Config.satGeometry (s.gnss.nav[i]).set (rtcmFld m 24 30) arp - (rtcmFld m (122 + 125 * k) 8 * 299792458 + pr * 20 : Nat)) ∧
      (s.gnss.rtcmOk = true → ok = false → ∃ d, 1 ≤ d ∧ d ≤ 3 ∧ Occurred 28 d s t)) ∧
  (∀ (data : List Byte) (s : State), pd4On s = false → Steps (.rtcmFrame data) s s) ∧
  (∀ (b : Fin 2) (noise avg : Int) (rise : Bool) (s : State), bbOn s b = true → rise = decide (avg + 10 * fld (gnssW s 1) 23 16 ≤ noise) → (s.gnss.bb[b]).interf ≠ rise →
    ∃ t, Steps (.gnssInterference b noise avg) s t ∧ t.gnss.bb[b] = { s.gnss.bb[b] with interf := rise } ∧ (∀ a : Fin 2, a ≠ b → t.gnss.bb[a] = s.gnss.bb[a]) ∧ Occurred 30 (b.val * 256 + (if rise then 1 else 0)) s t ∧ EventsBut [30, 120] s t) ∧
  (∀ (b : Fin 2) (s : State), (s.gnss.bb[b]).out = false → s.hp.ready = true →
    ∃ t, Steps (.gnssFault b) s t ∧ (t.gnss.bb[b]).out = true ∧ (t.gnss.bb[b]).chans = Vector.replicate 32 {} ∧ (t.gnss.bb[b]).fix = 0 ∧ Occurred 31 b.val s t ∧
      ((s.gnss.bb[b]).fix ≠ 0 → Occurred 26 (b.val * 256) s t) ∧ ∀ a : Fin 2, a ≠ b → t.gnss.bb[a] = s.gnss.bb[a]) ∧
  (∀ (b : Fin 2) (s : State), (s.gnss.bb[b]).out = true → Steps (.gnssFault b) s s)

/-- GNSS epochs, position solutions and their residual test, the fix kind, the heading states, dropped solutions, restarts. An epoch lies on the grid of 100 ms after the last one, takes pending GNSS parameters over, awaits a solution of every working baseband, and a heading when it is not OFF. A solution of fewer than four rows, or one whose statistic is above the chi-square threshold of RAIM_PFA, is not delivered and ends the fix; four rows, a pass, or a pass without the row of the largest residual give the position and the fix kind, with EV26 on each change. SEARCH starts again after a lost epoch and becomes FIXED after the configured wins of one set of integers; FIXED goes on with the integers of the satellites in view and returns to SEARCH with fewer than four satellites or a wrong length for the third time. A solution that is late is dropped and counted. GNSS_RESTART idles the channels of its basebands; a cold start also empties the shared store. Rests on: R123, R124, R126, R129, R130, R131, R132, R133, R425. -/
def Obligations.GnssEpochsSolutionsAndHeading : Prop :=
  (∀ (m : EpochIn) (s : State), s.hp.ready = true → ∃ t, Steps (.gnssEpoch m) s t ∧ t.gnss.epoch % epochTicks = 0 ∧ s.gnss.epoch < t.gnss.epoch ∧ (∀ k ∈ t.cfg.pend, timing k.1 ≠ .epoch) ∧
      (∀ b : Fin 2, (t.gnss.bb[b]).awaiting = bbOn t b) ∧ t.gnss.hdgAwaiting = (t.gnss.hdg != 0) ∧
      (∀ b : Fin 2, bbOn t b = false → ∀ c : Fin 32, ((t.gnss.bb[b]).chans[c]).meas = none) ∧
      ((∀ b : Fin 2, (s.gnss.bb[b]).awaiting = false) → s.gnss.hdgAwaiting = false → t.gnss.epoch = max (s.gnss.epoch / epochTicks + 1) (cdiv s.time.mt epochTicks) * epochTicks)) ∧
  (∀ (b : Fin 2) (q : PvtIn) (rows : List Nat) (s : State), (s.gnss.bb[b]).awaiting = true → s.time.mt ≤ s.gnss.epoch + 8 * msTicks → rows = solutionRows b q s → rows.length < 4 →
    ∃ t, Steps (.gnssSolutionComplete b q) s t ∧ (t.gnss.bb[b]).awaiting = false ∧ (t.gnss.bb[b]).fix = 0 ∧ t.gnss.pos = s.gnss.pos ∧ (s.hp.ready = true → (s.gnss.bb[b]).fix ≠ 0 → Occurred 26 (b.val * 256) s t)) ∧
  (∀ (b : Fin 2) (q : PvtIn) (rows : List Nat) (s : State), (s.gnss.bb[b]).awaiting = true → s.time.mt ≤ s.gnss.epoch + 8 * msTicks → rows = solutionRows b q s → 4 < rows.length → raimLimit s rows.length < q.stat → rows.length < 6 ∨ raimLimit s (rows.length - 1) < q.stat2 →
    ∃ t, Steps (.gnssSolutionComplete b q) s t ∧ (t.gnss.bb[b]).awaiting = false ∧ (t.gnss.bb[b]).fix = 0 ∧ t.gnss.pos = s.gnss.pos ∧ (s.hp.ready = true → (s.gnss.bb[b]).fix ≠ 0 → Occurred 26 (b.val * 256) s t)) ∧
  (∀ (b : Fin 2) (q : PvtIn) (rows : List Nat) (s : State), (s.gnss.bb[b]).awaiting = true → s.time.mt ≤ s.gnss.epoch + 8 * msTicks → rows = solutionRows b q s → rows.length = 4 ∨ (4 < rows.length ∧ q.stat ≤ raimLimit s rows.length) →
    ∃ t, Steps (.gnssSolutionComplete b q) s t ∧ (t.gnss.bb[b]).awaiting = false ∧ t.gnss.pos = some (q.lat, q.lon, q.height) ∧
      (t.gnss.bb[b]).fix = (if (rows).any (corrected s) then 2 else 1) ∧ (s.hp.ready = true → (s.gnss.bb[b]).fix ≠ (t.gnss.bb[b]).fix → Occurred 26 (b.val * 256 + (t.gnss.bb[b]).fix) s t)) ∧
  (∀ (b : Fin 2) (q : PvtIn) (rows : List Nat) (s : State), (s.gnss.bb[b]).awaiting = true → s.time.mt ≤ s.gnss.epoch + 8 * msTicks → rows = solutionRows b q s → 6 ≤ rows.length → raimLimit s rows.length < q.stat → q.stat2 ≤ raimLimit s (rows.length - 1) →
    ∃ t, Steps (.gnssSolutionComplete b q) s t ∧ (t.gnss.bb[b]).awaiting = false ∧ t.gnss.pos = some (q.lat, q.lon, q.height) ∧
      (t.gnss.bb[b]).fix = (if (rows.filter fun p => p != worstRow rows q.resid).any (corrected s) then 2 else 1) ∧ (s.hp.ready = true → (s.gnss.bb[b]).fix ≠ (t.gnss.bb[b]).fix → Occurred 26 (b.val * 256 + (t.gnss.bb[b]).fix) s t)) ∧
  (∀ (b : Fin 2) (q : PvtIn) (s : State), (s.gnss.bb[b]).awaiting = true → s.gnss.epoch + 8 * msTicks < s.time.mt → ∃ t, Steps (.gnssSolutionComplete b q) s t ∧ (t.gnss.bb[b]).awaiting = false ∧ (t.gnss.bb[b]).fix = 0 ∧ (t.gnss.bb[b]).dropped = inc32 (s.gnss.bb[b]).dropped ∧ t.gnss.pos = s.gnss.pos) ∧
  (∀ (b : Fin 2) (q : PvtIn) (s : State), (s.gnss.bb[b]).awaiting = false → Steps (.gnssSolutionComplete b q) s s) ∧
  (∀ (h : HdgIn) (sats : List Nat) (s : State), s.gnss.hdgAwaiting = true → s.time.mt ≤ s.gnss.epoch + 8 * msTicks → s.gnss.hdg = 1 → sats = ((common s).filter fun x => x.2.1 && h.above.contains x.1).map (fun x => x.1) → sats.length < 5 ∨ h.ratio < fld (hdgW s 1) 7 0 →
    ∃ t, Steps (.gnssHeadingComplete h) s t ∧ t.gnss = { s.gnss with hdgAwaiting := false, wins := 0, winSet := [], hdgSlip := [] }) ∧
  (∀ (h : HdgIn) (sats : List Nat) (n : Nat) (s : State), s.gnss.hdgAwaiting = true → s.time.mt ≤ s.gnss.epoch + 8 * msTicks → s.gnss.hdg = 1 → sats = ((common s).filter fun x => x.2.1 && h.above.contains x.1).map (fun x => x.1) → 5 ≤ sats.length → fld (hdgW s 1) 7 0 ≤ h.ratio →
    n = (if s.gnss.winSet = h.ints ∧ 0 < s.gnss.wins then s.gnss.wins + 1 else 1) → s.hp.ready = true → ∃ t, Steps (.gnssHeadingComplete h) s t ∧ t.gnss.hdgAwaiting = false ∧
      (n < fld (hdgW s 1) 15 8 → t.gnss.hdg = 1 ∧ t.gnss.wins = n ∧ t.gnss.winSet = h.ints) ∧
      (fld (hdgW s 1) 15 8 ≤ n → t.gnss.hdg = 2 ∧ t.gnss.hdgFixed = h.ints.filter (fun x => sats.contains x.1) ∧ Occurred 27 0x201 s t)) ∧
  (∀ (h : HdgIn) (s : State), s.gnss.hdgAwaiting = true → s.time.mt ≤ s.gnss.epoch + 8 * msTicks → s.gnss.hdg = 2 → s.hp.ready = true → (s.gnss.hdgFixed.map fun f => f.1).Nodup → (common s).length < 4 →
    ∃ t, Steps (.gnssHeadingComplete h) s t ∧ t.gnss.hdgAwaiting = false ∧ t.gnss.hdg = 1 ∧ t.gnss.hdgFixed = [] ∧ Occurred 27 0x102 s t) ∧
  (∀ (h : HdgIn) (keep : List (Nat × Int)) (n off : Nat) (s : State), s.gnss.hdgAwaiting = true → s.time.mt ≤ s.gnss.epoch + 8 * msTicks → s.gnss.hdg = 2 → (∀ x ∈ common s, x.2.2 = false ∧ ∃ f ∈ s.gnss.hdgFixed, f.1 = x.1) → keep = (s.gnss.hdgFixed.filter fun f => (common s).any fun x => x.1 == f.1) → 4 ≤ keep.length → baselineOf s.cfg.force = some n → off = (h.len - isqrt n) + (isqrt n - h.len) →
    (∀ f ∈ keep, ∀ r ∈ h.dd, r.1 = f.1 → (r.2 - f.2 * 1000).natAbs ≤ 250) → off ≤ fld (hdgW s 1) 23 16 →
    ∃ t, Steps (.gnssHeadingComplete h) s t ∧ t.gnss = { s.gnss with hdgAwaiting := false, lenTrips := 0, hdgFixed := keep, hdgSlip := [] }) ∧
  (∀ (h : HdgIn) (keep : List (Nat × Int)) (n off : Nat) (s : State), s.gnss.hdgAwaiting = true → s.time.mt ≤ s.gnss.epoch + 8 * msTicks → s.gnss.hdg = 2 → s.hp.ready = true → (∀ x ∈ common s, x.2.2 = false ∧ ∃ f ∈ s.gnss.hdgFixed, f.1 = x.1) → keep = (s.gnss.hdgFixed.filter fun f => (common s).any fun x => x.1 == f.1) → 4 ≤ keep.length → baselineOf s.cfg.force = some n → off = (h.len - isqrt n) + (isqrt n - h.len) →
    (∀ f ∈ keep, ∀ r ∈ h.dd, r.1 = f.1 → (r.2 - f.2 * 1000).natAbs ≤ 250) → s.gnss.lenTrips = 2 → fld (hdgW s 1) 23 16 < off →
    ∃ t, Steps (.gnssHeadingComplete h) s t ∧ t.gnss.hdg = 1 ∧ t.gnss.hdgFixed = [] ∧ Occurred 27 0x103 s t) ∧
  (∀ (h : HdgIn) (s : State), s.gnss.hdgAwaiting = false → Steps (.gnssHeadingComplete h) s s) ∧
  (∀ (b : Fin 2) (w : Fin 3) (s : State), w.val = b.val → (s.gnss.bb[b]).awaiting = true →
    ∃ t, Steps (.gnssSolutionTimeout w) s t ∧ (t.gnss.bb[b]).awaiting = false ∧ (t.gnss.bb[b]).fix = 0 ∧ (t.gnss.bb[b]).dropped = inc32 (s.gnss.bb[b]).dropped ∧ (∀ a : Fin 2, a ≠ b → t.gnss.bb[a] = s.gnss.bb[a]) ∧
      (s.hp.ready = true → (s.gnss.bb[b]).fix ≠ 0 → Occurred 26 (b.val * 256) s t)) ∧
  (∀ s : State, s.gnss.hdgAwaiting = true → ∃ t, Steps (.gnssSolutionTimeout 2) s t ∧ t.ev = s.ev ∧ t.gnss = { s.gnss with hdgAwaiting := false, hdgDropped := inc32 s.gnss.hdgDropped, wins := 0, winSet := [], lenTrips := 0 }) ∧
  (∀ (p : Port) (c : Cmd) (s : State), Heard p c s → c.op = .gnssRestart →
    ∃ t, Steps (.gnssRestart p) s t ∧ Replied p c 0 0 0 [] t ∧ (∀ b : Fin 2, bit (wd c.words 0) b.val = true → (t.gnss.bb[b]).fix = 0 ∧ (t.gnss.bb[b]).awaiting = false ∧
        (fld (wd c.words 0) 9 8 ≠ 0 → (t.gnss.bb[b]).chans = Vector.replicate 32 {}) ∧
        (fld (wd c.words 0) 9 8 = 0 → ∀ k : Fin 32, (((t.gnss.bb[b]).chans[k]).prn = ((s.gnss.bb[b]).chans[k]).prn))) ∧
      (∀ b : Fin 2, bit (wd c.words 0) b.val = false → t.gnss.bb[b] = s.gnss.bb[b]) ∧
      (fld (wd c.words 0) 9 8 ≠ 2 → t.gnss.nav = s.gnss.nav) ∧ (fld (wd c.words 0) 9 8 = 2 → t.gnss.nav = Vector.replicate 32 {} ∧ t.gnss.pages = [] ∧ t.gnss.pos = none))

/-- A sample is taken, calibrated, clipped, filtered, replaced when it is missing; three failures in a row and an IMU fault are reported once. At its sample instant a slot whose domains are on puts the calibrated and clipped sample at the head of its delay line; a missing sample repeats the one before with its mark and is counted. At every eighth sample stage 1 gives the rounded and saturated sum of its taps over the delay line. A clipped sample is counted and, where the slot raises events and had no occurrence yet, raises EV7. Three words of an inertial slot in a row with a parity failure are IMU fault 3. The first IMU fault raises EV6 and self-diagnosis code 8; a later one does nothing. Inertial samples are not delivered while the sensor settles; nothing happens with the domains off. A temperature outside -45 to +110 degrees is IMU fault 5. The order in which the gains, the misalignment and the bias act is read from the spec (log entry 72, DEDUCED). Rests on: R137, R138, R139, R140, R142, R144, R149, R334. -/
def Obligations.SamplesAreFilteredAndImuFaultsReported : Prop :=
  (∀ (k : Fin 22) (x : SampleIn) (n : Nat) (c : Int) (s : State), s.sys.dom[1] = .on → sourceOn s k.val = true → s.sys.vmain = true → n = sampleAt k.val (s.fir.slots[k]).at_ s.time.mt → (k.val < 6 → s.fir.imuReady ≤ n) →
    x.missing = false → x.parity = false → c = calSample (s.onFir fun f => { f with temp := x.temp.getD f.temp }) k.val x.raw →
    ∃ t, Steps (.sampleInstant k x) s t ∧ (t.fir.slots[k]).at_ = some n ∧ (t.fir.slots[k]).d1 = (({ v := clampI (-rangeLimit k.val) (rangeLimit k.val) c, range := decide (c < -rangeLimit k.val) || decide (rangeLimit k.val < c) } : Smp) :: (s.fir.slots[k]).d1).take 511 ∧
      (t.fir.slots[k]).nMissing = (s.fir.slots[k]).nMissing ∧ (t.fir.slots[k]).missRun = 0 ∧ (t.fir.slots[k]).parRun = 0 ∧ (∀ j : Fin 22, j ≠ k → t.fir.slots[j] = s.fir.slots[j]) ∧
      ((n - 250 * k.val) / 12500 % 8 = 0 → (t.fir.slots[k]).out1.v = sat32 (rne ((((firTaps s (firSet1 s k.val)).zip (t.fir.slots[k]).d1).map fun p => p.1 * p.2.v).sum) (2 ^ 30))) ∧
      ((n - 250 * k.val) / 12500 % 8 ≠ 0 → (t.fir.slots[k]).out1 = (s.fir.slots[k]).out1)) ∧
  (∀ (k : Fin 22) (x : SampleIn) (n : Nat) (c : Int) (s : State), s.sys.dom[1] = .on → sourceOn s k.val = true → s.sys.vmain = true → n = sampleAt k.val (s.fir.slots[k]).at_ s.time.mt → (k.val < 6 → s.fir.imuReady ≤ n) →
    x.missing = false → x.parity = false → c = calSample (s.onFir fun f => { f with temp := x.temp.getD f.temp }) k.val x.raw → rangeLimit k.val < c → (n - 250 * k.val) / 12500 % 8 ≠ 0 →
    ∃ t, Steps (.sampleInstant k x) s t ∧ (t.fir.slots[k]).nRange = inc32 (s.fir.slots[k]).nRange ∧ (s.hp.ready = true → rangeEvent s k.val = true → (s.fir.slots[k]).lastRange = none → Occurred 7 (k.val * 256 + 1) s t)) ∧
  (∀ (k : Fin 22) (x : SampleIn) (n : Nat) (s : State), s.sys.dom[1] = .on → sourceOn s k.val = true → s.sys.vmain = true → n = sampleAt k.val (s.fir.slots[k]).at_ s.time.mt → (k.val < 6 → s.fir.imuReady ≤ n) →
    x.missing = true ∨ x.parity = true → ∃ t, Steps (.sampleInstant k x) s t ∧ (t.fir.slots[k]).nMissing = inc32 (s.fir.slots[k]).nMissing ∧
      (t.fir.slots[k]).d1 = (({ v := ((s.fir.slots[k]).d1.headD {}).v, range := ((s.fir.slots[k]).d1.headD {}).range, missing := true } : Smp) :: (s.fir.slots[k]).d1).take 511) ∧
  (∀ (k : Fin 22) (x : SampleIn) (n : Nat) (s : State), s.sys.dom[1] = .on → sourceOn s k.val = true → s.sys.vmain = true → n = sampleAt k.val (s.fir.slots[k]).at_ s.time.mt → (k.val < 6 → s.fir.imuReady ≤ n) →
    k.val < 6 → x.parity = true → 2 ≤ (s.fir.slots[k]).parRun → s.fir.imuFault = 0 → -4500 ≤ x.temp.getD s.fir.temp → x.temp.getD s.fir.temp ≤ 11000 → ∃ t, Steps (.sampleInstant k x) s t ∧ t.fir.imuFault = 3 ∧ (s.hp.ready = true → Occurred 6 3 s t) ∧ 8 ∈ t.sys.diagSeen) ∧
  (∀ (k : Fin 22) (x : SampleIn) (n : Nat) (s : State), s.sys.dom[1] = .on → sourceOn s k.val = true → s.sys.vmain = true → n = sampleAt k.val (s.fir.slots[k]).at_ s.time.mt → k.val < 6 → n < s.fir.imuReady → -4500 ≤ x.temp.getD s.fir.temp → x.temp.getD s.fir.temp ≤ 11000 →
    ∃ t, Steps (.sampleInstant k x) s t ∧ t.fir = { s.fir with temp := x.temp.getD s.fir.temp, slots := s.fir.slots.set k { s.fir.slots[k] with at_ := some n } }) ∧
  (∀ (k : Fin 22) (x : SampleIn) (v : Int) (n : Nat) (s : State), s.sys.dom[1] = .on → sourceOn s k.val = true → s.sys.vmain = true → n = sampleAt k.val (s.fir.slots[k]).at_ s.time.mt → (k.val < 6 → s.fir.imuReady ≤ n) →
    x.temp = some v → v < -4500 ∨ 11000 < v → s.fir.imuFault = 0 → ∃ t, Steps (.sampleInstant k x) s t ∧ t.fir.imuFault = 5 ∧ (s.hp.ready = true → Occurred 6 5 s t)) ∧
  (∀ (k : Fin 22) (x : SampleIn) (s : State), s.sys.dom[1] ≠ .on ∨ sourceOn s k.val = false ∨ s.sys.vmain = false → Steps (.sampleInstant k x) s s) ∧
  (∀ (r : Nat) (s : State), s.fir.imuFault = 0 → ∃ t, Steps (.imuFault r) s t ∧ t.fir = { s.fir with imuFault := r } ∧ (s.hp.ready = true → Occurred 6 r s t) ∧ 8 ∈ t.sys.diagSeen) ∧
  (∀ (r : Nat) (s : State), s.fir.imuFault ≠ 0 → Steps (.imuFault r) s s)

/-- The observer update takes the estimate over and publishes it; a missed one is kept for the blend; dead-reckoning limits, captures and faults. The end of an update takes the estimate of the main observer at the boundary over and stores the frame for a later replay; without a late measurement, a swap or an earlier miss, the published estimate is it with the rest of a running blend, and is that of the frame. An update that missed D1 leaves the published estimate and keeps the difference. In SAFE-HOLD no slot contributes and none changes state, and NORMAL becomes dead-reckoning with EV39. A group without an active slot that passes its dead-reckoning limit is marked with EV34. A capture is accepted for a relative slot and refused for another. A Belvedere fault is held, raised as EV41, and is a self-diagnosis failure. The end of an update that none awaits does nothing. Rests on: R22, R157, R160, R167, R170, R174, R175, R178, R179, R334. -/
def Obligations.EstimateIsUpdatedPublishedAndSupervised : Prop :=
  (∀ (ce : Nat) (s : State), s.fus.updating = true → belvRuns s = true → s.fus.d1Miss = false →
    ∃ t bank f older, Steps (.observerUpdateComplete ce) s t ∧ t.fus.updating = false ∧ t.fus.tv = s.sys.frame * frameTicks ∧
      t.fus.bank = some bank ∧ bank.at_ = s.sys.frame * frameTicks ∧ t.fus.xhat = estOf t (s.sys.frame * frameTicks) bank.main ∧
      t.fus.hist = f :: older ∧ f.k = s.sys.frame ∧ f.bank = bank ∧ older.length = min 255 s.fus.hist.length ∧ (t.fus.rolled = false → older = s.fus.hist.take 255) ∧ t.fus.histCe = satN 0xFFFFFFFF (s.fus.histCe + ce) ∧
      (t.fus.rolled = false → t.fus.swapped = false → s.fus.late = none → t.fus.pub = published (blendFrames s) s.fus t.fus.xhat ∧ t.fus.n = (if 1 < s.fus.n then s.fus.n - 1 else s.fus.n)) ∧
      (t.fus.rolled = true ∨ t.fus.swapped = true ∨ s.fus.late ≠ none → t.fus.n = (if 1 < blendFrames s then blendFrames s - 1 else blendFrames s) ∧ t.fus.late = none) ∧
      (∀ i : Fin 24, ∀ m ∈ (t.fus.slot[i]).queue, s.sys.frame * frameTicks ≤ m.ta)) ∧
  (∀ (ce : Nat) (s : State), s.fus.updating = true → belvRuns s = true → s.fus.d1Miss = true →
    ∃ t bank, Steps (.observerUpdateComplete ce) s t ∧ t.fus.updating = false ∧ t.fus.bank = some bank ∧ t.fus.xhat = estOf t (s.sys.frame * frameTicks) bank.main ∧ t.fus.pub = s.fus.pub ∧ t.fus.late = some (estDiff t.fus.xhat s.fus.latched)) ∧
  (∀ (ce : Nat) (s : State), s.fus.updating = true → belvRuns s = true → s.sys.mode = .safeHold →
    ∃ t, Steps (.observerUpdateComplete ce) s t ∧ t.fus.contrib = 0 ∧ t.fus.rolled = false ∧ t.fus.swapped = false ∧ (∀ i : Fin 24, (t.fus.slot[i]).st = (s.fus.slot[i]).st) ∧
      (s.fus.mode = 1 → t.fus.mode = 2 ∧ (s.hp.ready = true → Occurred 39 2 s t))) ∧
  (∀ (ce : Nat) (s : State), s.fus.updating = false ∨ belvRuns s = false → Steps (.observerUpdateComplete ce) s s) ∧
  (∀ (g : Fin 2) (n : Nat) (s : State), s.fus.lastAct[g] = some n → s.fus.drift[g] = false → (∀ i : Fin 24, (s.fus.slot[i]).st ≠ 3) → belvRuns s = true →
    ∃ t, Steps (.drLimitExpiry (g.val == 1)) s t ∧ t.fus = { s.fus with drift := s.fus.drift.set g true } ∧ (s.hp.ready = true → Occurred 34 (1 + g.val) s t)) ∧
  (∀ (g : Fin 2) (s : State), s.fus.drift[g] = true ∨ s.fus.lastAct[g] = none → Steps (.drLimitExpiry (g.val == 1)) s s) ∧
  (∀ (d : Nat) (s : State), ∃ t, Steps (.belvFault d) s t ∧ t.fus = { s.fus with fault := true } ∧ (s.hp.ready = true → Occurred 41 d s t) ∧ 9 ∈ t.sys.diagSeen) ∧
  (∀ (p : Port) (c : Cmd) (i : Fin 24) (s : State), Heard p c s → c.op = .fusRefCapture → fld (wd c.words 0) 4 0 = i.val → refKindSet s i.val = 3 ∨ refKindSet s i.val = 4 →
    ∃ t, Steps (.fusRefCapture p) s t ∧ Replied p c 0 0 0 [] t ∧ SameBut [.host, .maint, .sys, .fus] s t ∧ t.fus = { s.fus with slot := s.fus.slot.set i { s.fus.slot[i] with capReq := true } }) ∧
  (∀ (p : Port) (c : Cmd) (s : State), Heard p c s → c.op = .fusRefCapture → refKindSet s (fld (wd c.words 0) 4 0) ≠ 3 → refKindSet s (fld (wd c.words 0) 4 0) ≠ 4 →
    ∃ t, Steps (.fusRefCapture p) s t ∧ AnswersOnly p c 3 0x3014 0 [] s t)

/-- Sentences of a UART are checked, counted, discarded with their reason or handed to their slots; binary bytes are held; queued characters leave. A sentence that fails a check of Table 14-8 is counted under its reason, with EV86 unless one was raised less than a second ago, and goes nowhere. One that passes is counted as used or unused, and its measurement enters the queue of every slot that takes it; content that is rejected is discarded there. A sentence that starts with neither of the two start characters, and one cut short, are only counted as received. Bytes of a binary port that is subscribed and is not the RTCM input are held. Characters sent leave the queue. Nothing happens while the domain is off. Sentence fields: log entries. Rests on: R153, R157, R369, R370, R371, R372. -/
def Obligations.SentencesAreCheckedAndHandedOn : Prop :=
  (∀ (u : Fin 10) (mt : Nat) (chars : List Byte) (framing : Bool) (r : Fin 5) (s : State), pd4On s = true → uartProto s u = 1 ∨ uartProto s u = 2 → chars.headD 0 = 36 ∨ chars.headD 0 = 33 → sentenceFault (uartCksOpt s u) framing chars = some r →
    ∃ t, Steps (.uartSentence u (.sentence mt chars framing)) s t ∧ (t.uart[u]).nDisc = (s.uart[u]).nDisc.set r (inc32 (s.uart[u]).nDisc[r]) ∧ (t.uart[u]).nUsed = (s.uart[u]).nUsed ∧ (t.uart[u]).nUnused = (s.uart[u]).nUnused ∧
      t.fus = s.fus ∧ (s.hp.ready = true → secondPassed (s.uart[u]).errAt[r] s.time.mt = true → Occurred 86 (u.val * 256 + r.val + 1) s t) ∧ (secondPassed (s.uart[u]).errAt[r] s.time.mt = false → t.ev = s.ev)) ∧
  (∀ (u : Fin 10) (mt : Nat) (chars : List Byte) (f : Formatter) (talker : Nat) (s : State), pd4On s = true → uartProto s u = 1 ∨ uartProto s u = 2 → chars.headD 0 = 36 ∨ chars.headD 0 = 33 → sentenceFault (uartCksOpt s u) false chars = none →
    formatterOf ((fieldsOf ((chars.drop 1).takeWhile fun b => b != 42)).headD []) = some (f, talker) →
    ∃ t, Steps (.uartSentence u (.sentence mt chars false)) s t ∧ (t.uart[u]).nDisc = (s.uart[u]).nDisc ∧
      (recipients s u f talker = [] → s.sub 0x8A4 u.val = none → (t.uart[u]).nUnused = inc32 (s.uart[u]).nUnused ∧ t.fus = s.fus) ∧ (recipients s u f talker ≠ [] → (t.uart[u]).nUsed = inc32 (s.uart[u]).nUsed) ∧
      (∀ i ∈ recipients s u f talker, ∀ m : Meas, measOf (replicaStamp s mt) f ((fieldsOf ((chars.drop 1).takeWhile fun b => b != 42)).drop 1) = some m → (s.fus.slot[i]).queue.length < 8 → (t.fus.slot[i]).queue = (s.fus.slot[i]).queue ++ [{ m with fused := s.fus.mode == 1 }]) ∧
      (∀ i ∈ recipients s u f talker, measOf (replicaStamp s mt) f ((fieldsOf ((chars.drop 1).takeWhile fun b => b != 42)).drop 1) = none → (t.fus.slot[i]).queue = (s.fus.slot[i]).queue ∧ (t.fus.slot[i]).nDisc[2] = inc32 (s.fus.slot[i]).nDisc[2]) ∧
      (∀ i : Fin 24, i ∉ recipients s u f talker → t.fus.slot[i] = s.fus.slot[i])) ∧
  (∀ (u : Fin 10) (mt : Nat) (chars : List Byte) (framing : Bool) (s : State), pd4On s = true → uartProto s u = 1 ∨ uartProto s u = 2 → chars.headD 0 ≠ 36 → chars.headD 0 ≠ 33 →
    ∃ t, Steps (.uartSentence u (.sentence mt chars framing)) s t ∧ SameBut [.uart] s t ∧ t.uart = s.uart.set u { s.uart[u] with nRx := satN 0xFFFFFFFF ((s.uart[u]).nRx + (chars.length + 2)) }) ∧
  (∀ (u : Fin 10) (n : Nat) (s : State), pd4On s = true → uartProto s u = 1 ∨ uartProto s u = 2 → ∃ t, Steps (.uartSentence u (.partialCut n)) s t ∧ SameBut [.uart] s t ∧ t.uart = s.uart.set u { s.uart[u] with nRx := satN 0xFFFFFFFF ((s.uart[u]).nRx + n) }) ∧
  (∀ (u : Fin 10) (mt : Nat) (bytes : List Byte) (s : State), pd4On s = true → uartProto s u = 3 → rtcmPort s ≠ u.val → s.sub 0x8A4 u.val ≠ none →
    ∃ t, Steps (.uartSentence u (.binary mt bytes)) s t ∧ SameBut [.uart] s t ∧ (t.uart[u]).chunk = (s.uart[u]).chunk ++ bytes ∧ ((s.uart[u]).chunk = [] → (t.uart[u]).chunkMt = replicaStamp s mt)) ∧
  (∀ (u : Fin 10) (n : Nat) (s : State), pd4On s = true → ∃ t, Steps (.uartSentence u (.sent n)) s t ∧ SameBut [.uart] s t ∧ (t.uart[u]).txq = (s.uart[u]).txq.drop n ∧
      (t.uart[u]).nTx = satN 0xFFFFFFFF ((s.uart[u]).nTx + min n (s.uart[u]).txq.length)) ∧
  (∀ (u : Fin 10) (x : UartIn) (s : State), pd4On s = false → Steps (.uartSentence u x) s s)

/-- Heartbeats, the view of the partner, the lanes, the mirror frame, its segments and acknowledgement, the host block. A heartbeat leaves while the pair is enabled, a lane is up and step 9 is past, with the mode, the ownership and the time of the moment. A valid one is kept with its time, and the partner is healthy when it says so, its mirror version is the own one and the configurations do not differ for long, with EV114 on a change; a bad CRC is only counted. A standby that hears nothing for 5.5 ms with OWN_IN low marks the partner lost. A lane that changes is raised as EV115. The owner sends one mirror frame per frame, which is the commit point of a transfer and then holds the outputs; a segment that fails twice fails the frame, the last good one makes it the newest. The host block takes a write that fits and refuses another. Rests on: R324, R325, R326, R327, R328, R329, R331, R338, R351. -/
def Obligations.HeartbeatsLanesMirrorAndPartnerView : Prop :=
  (∀ s : State, s.duplex = true → pastStep9 s = true → linkUp s = true → ∃ t, Steps .heartbeatSend s t ∧ SameBut [.time, .dpx] s t ∧ t.dpx.hbSent = some t.time.mt ∧ t.dpx.hbSeq = (s.dpx.hbSeq + 1) % 16 ∧
      t.dpx.lastHb.mode = s.sys.mode ∧ t.dpx.lastHb.own = s.sys.own ∧ t.dpx.lastHb.giveup = s.sys.giveupOut ∧ t.dpx.lastHb.pref = s.sys.pref ∧ t.dpx.lastHb.sync = s.dpx.sync ∧ t.dpx.lastHb.seq = s.dpx.hbSeq ∧
      t.dpx.lastHb.mtTx = t.time.mt ∧ t.dpx.lastHb.diag = s.sys.diagFirst ∧ t.dpx.lastHb.transferReq = s.dpx.transferReq.isSome ∧ t.dpx.lastHb.reclaimReq = s.dpx.reclaimReq) ∧
  (∀ s : State, s.duplex = false ∨ pastStep9 s = false → Steps .heartbeatSend s s) ∧
  (∀ (h : Heartbeat) (s : State), s.duplex = true → s.hp.ready = true → s.dpx.lane[h.lane] = true → h.crcOk = false →
    ∃ t, Steps (.heartbeatReceive h) s t ∧ SameBut [.dpx] s t ∧ t.dpx = { s.dpx with nCrc := inc32 s.dpx.nCrc }) ∧
  (∀ (h : Heartbeat) (s : State), s.duplex = true → s.hp.ready = true → s.dpx.lane[h.lane] = true → h.crcOk = true →
    ∃ t, Steps (.heartbeatReceive h) s t ∧ t.dpx.partner = some h ∧ t.dpx.partnerMt = s.time.mt ∧ t.dpx.strapConflict = (h.pref == s.sys.pref) ∧
      t.dpx.samples = (((s.time.mt : Int) - h.mtTx - s.dpx.delay[h.lane]) :: s.dpx.samples).take 64 ∧
      t.dpx.healthy = (h.healthy && h.mirrorVer == Config.mirrorVer && decide (s.dpx.crcDiff ≤ 3)) ∧ (h.healthy = false → t.dpx.reason = 2) ∧ (t.dpx.healthy = true → t.dpx.reason = 0) ∧
      (s.dpx.healthy ≠ t.dpx.healthy → Occurred 114 ((if t.dpx.healthy then 256 else 0) + t.dpx.reason) s t) ∧ (h.pref = s.sys.pref → s.dpx.strapConflict = false → Occurred 118 (if h.pref then 1 else 0) s t) ∧
      (h.transferReq = true → s.dpx.partner = none → s.sys.mode = .control → inTransition s = false → t.dpx.healthy = true → s.dpx.sync = true → h.sync = true → t.dpx.transfer = true)) ∧
  (∀ (h : Heartbeat) (s : State), s.dpx.lane[h.lane] = false → Steps (.heartbeatReceive h) s s) ∧
  (∀ s : State, s.duplex = true → s.hp.ready = true → s.sys.mode = .standby → s.sound = true → s.time.mtRun = true → s.time.mt < 2 ^ 64 → s.dpx.partnerMt + hbTicks + 1 < 2 ^ 64 →
    ∃ t, Steps (.heartbeatTimeout false) s t ∧ t.dpx.lost = true ∧ t.dpx.gapFrom = s.dpx.partnerMt ∧ t.dpx.ownIn = false ∧ t.dpx.healthy = false ∧ t.dpx.reason = 1 ∧ (s.dpx.healthy = true → Occurred 114 1 s t)) ∧
  (∀ s : State, s.duplex = true → s.hp.ready = true → ∃ t, Steps (.heartbeatTimeout true) s t ∧ t.dpx.ownIn = true ∧ t.dpx.lost = s.dpx.lost) ∧
  (∀ (l : Fin 2) (n : Nat) (s : State), s.hp.ready = true → s.dpx.lane[l] = false →
    ∃ t, Steps (.laneUp l n) s t ∧ t.dpx = { s.dpx with lane := s.dpx.lane.set l true, delay := s.dpx.delay.set l (n / 2) } ∧ (s.duplex = true → Occurred 115 (laneMask t) s t) ∧ (s.duplex = false → t.ev = s.ev)) ∧
  (∀ (l : Fin 2) (s : State), s.dpx.lane[l] = true → ∃ t, Steps (.laneDown l) s t ∧ t.dpx = { s.dpx with lane := s.dpx.lane.set l false } ∧ (s.hp.ready = true → s.duplex = true → Occurred 115 (laneMask t) s t)) ∧
  (∀ (l : Fin 2) (s : State), s.dpx.lane[l] = false → Steps (.laneDown l) s s) ∧
  (∀ s : State, s.sys.mode = .control → s.duplex = true → s.dpx.givingUp = false → s.dpx.transferAt = none → s.dpx.sent = none → s.time.mt ≤ s.sys.frame * frameTicks + 900000 →
    ∃ t f, Steps .mirrorSend s t ∧ t.dpx.txMirror = some f ∧ t.dpx.sent = some s.sys.frame ∧ t.dpx.acked = false ∧ t.dpx.fwd = [] ∧ f.frame = s.sys.frame ∧ f.fwd = s.dpx.fwd ∧ f.transfer = s.dpx.transfer ∧ f.handover = false ∧
      f.outs.ao = s.loop.ao ∧ f.outs.dout = s.loop.dout ∧ f.recorder = s.log.seq ∧ (s.dpx.transfer = true → t.dpx.transferAt = some t.time.mt ∧ t.sys.outputsHeld = true) ∧ (s.dpx.transfer = false → t.dpx.transferAt = none ∧ t.sys = s.sys)) ∧
  (∀ s : State, s.sys.mode ≠ .control ∨ s.duplex = false → ∃ t, Steps .mirrorSend s t ∧ SameBut [.time] s t) ∧
  (∀ (g : MirrorSeg) (s : State), s.duplex = true → s.sys.mode = .standby → linkUp s = true → s.dpx.ackOut ≠ some (g.frame, false) →
    ∃ t, Steps (.mirrorSegmentReceive g) s t ∧ SameBut [.host, .maint, .dpx] s t ∧ (g.content.transfer = false → t.host = s.host ∧ t.maint = s.maint) ∧ (g.crcOk = true → g.last = true → t.dpx.newest = some g.content ∧ t.dpx.ackOut = some (g.frame, true)) ∧ (g.crcOk = true → g.last = false → t.dpx = s.dpx) ∧
      (g.crcOk = false → t.dpx.nCrc = inc32 s.dpx.nCrc ∧ t.dpx.newest = s.dpx.newest ∧ t.dpx.segFail = some (g.frame, g.seg) ∧
        t.dpx.ackOut = (if s.dpx.segFail = some (g.frame, g.seg) then some (g.frame, false) else s.dpx.ackOut))) ∧
  (∀ (n : Nat) (s : State), s.duplex = true → s.dpx.sent = some n → ∃ t, Steps (.mirrorAckReceive n true) s t ∧ SameBut [.dpx] s t ∧ t.dpx = { s.dpx with acked := true }) ∧
  (∀ (n : Nat) (ok : Bool) (s : State), ok = false ∨ s.dpx.sent ≠ some n → Steps (.mirrorAckReceive n ok) s s) ∧
  (∀ (p : Port) (c : Cmd) (s : State), Heard p c s → c.op = .dpxHostDataWrite → fld (wd c.words 0) 15 0 + (c.words.drop 1).length ≤ hostWords s →
    ∃ t, Steps (.dpxHostDataWrite p) s t ∧ Replied p c 0 0 0 [] t ∧ SameBut [.host, .maint, .sys, .dpx] s t ∧ t.dpx = { s.dpx with host := t.dpx.host } ∧ t.dpx.host.length = hostWords s ∧
      (∀ i : Nat, i < (c.words.drop 1).length → t.dpx.host.getD (fld (wd c.words 0) 15 0 + i) 0 = wd c.words (1 + i)) ∧
      (∀ i : Nat, i < hostWords s → i < fld (wd c.words 0) 15 0 ∨ fld (wd c.words 0) 15 0 + (c.words.drop 1).length ≤ i → t.dpx.host.getD i 0 = s.dpx.host.getD i 0)) ∧
  (∀ (p : Port) (c : Cmd) (s : State), Heard p c s → c.op = .dpxHostDataWrite → hostWords s < fld (wd c.words 0) 15 0 + (c.words.drop 1).length →
    ∃ t, Steps (.dpxHostDataWrite p) s t ∧ AnswersOnly p c 3 0xA013 (hostWords s) [] s t)

/-- Take-over, release, dual ownership, giving up, transfer, hand-over and reclaim. A standby that found its condition takes ownership: CONTROL, OWN, EV113 with the cause. A rise of OWN_IN makes an owner that started a hand-over, a transfer or gave up release it, with the cause, into the mode of the rule, and does not move another. Dual ownership leaves module A owner and makes the other release. A supervisor that misses the heartbeat of an owner with a ready partner is self-diagnosis code 6, which gives up. A give-up without a taker is raised as EV119 and goes to SAFE-HOLD at the next boundary. A transfer past its time lets the outputs go and is answered so. SAFE-HOLD hands over to a healthy partner, takes back after 20 ms and tries again. A reclaim hold-off that ends asks for the transfer, EV117. DPX_TRANSFER is refused without the pair or a ready partner, and otherwise starts on the owner or asks it. The time of a request to the owner runs out only while no transfer mirror stands. Rests on: R335, R336, R337, R338, R339, R341, R342, R343, R344, R345, R69, R72. -/
def Obligations.OwnershipIsTakenReleasedAndHandedOver : Prop :=
  (∀ (cause : Nat) (s : State), cause = s.dpx.taking → cause ≠ 0 → s.sys.mode = .standby → s.hp.ready = true →
    ∃ t, Steps .takeover s t ∧ t.sys.mode = .control ∧ t.sys.own = true ∧ t.dpx.taking = 0 ∧ t.dpx.giveupSeen = false ∧ t.dpx.lost = false ∧ t.dpx.transferReq = none ∧ t.dpx.nTaken = inc32 s.dpx.nTaken ∧
      Occurred 113 (256 + cause) s t ∧ Occurred 3 0x304 s t) ∧
  (∀ s : State, s.dpx.taking = 0 ∨ s.sys.mode ≠ .standby → Steps .takeover s s) ∧
  (∀ s : State, s.duplex = true → s.hp.ready = true → s.sys.own = true → s.dpx.handoverAt ≠ none →
    ∃ t, Steps .ownInRise s t ∧ t.sys.own = false ∧ t.sys.mode = .dormant ∧ t.sys.giveupOut = false ∧ t.dpx.handoverAt = none ∧ Occurred 113 5 s t) ∧
  (∀ s : State, s.duplex = true → s.hp.ready = true → s.sys.own = true → s.dpx.handoverAt = none → s.dpx.transferAt ≠ none →
    ∃ t, Steps .ownInRise s t ∧ t.sys.own = false ∧ t.sys.mode = (if s.dpx.transferDormant then .dormant else .standby) ∧ t.dpx.transferAt = none ∧ Occurred 113 s.dpx.transferCause s t) ∧
  (∀ s : State, s.duplex = true → s.hp.ready = true → s.sys.own = true → s.dpx.handoverAt = none → s.dpx.transferAt = none → s.sys.giveupOut = true →
    ∃ t, Steps .ownInRise s t ∧ t.sys.own = false ∧ t.sys.mode = .standby ∧ t.sys.giveupOut = false ∧ t.dpx.givingUp = false ∧ Occurred 113 1 s t) ∧
  (∀ s : State, s.sys.own = false ∨ (s.dpx.handoverAt = none ∧ s.dpx.transferAt = none ∧ s.sys.giveupOut = false) →
    ∃ t, Steps .ownInRise s t ∧ t.sys.mode = s.sys.mode ∧ t.sys.own = s.sys.own ∧ t.dpx = { s.dpx with ownIn := true, ownInAt := s.time.mt }) ∧
  (∀ s : State, s.duplex = true → s.hp.ready = true → s.sys.own = true → s.dpx.ownIn = true → s.dpx.dual = false → s.sys.giveupOut = false → s.dpx.transferAt = none →
    (isModuleA s = true → ∃ t, Steps .dualOwnership s t ∧ t.sys = s.sys ∧ t.dpx = { s.dpx with dual := true } ∧ Occurred 113 0x106 s t) ∧
    (isModuleA s = false → ∃ t, Steps .dualOwnership s t ∧ t.sys.own = false ∧ t.sys.mode = .standby ∧ t.dpx.dual = true ∧ Occurred 113 6 s t)) ∧
  (∀ s : State, s.sys.own = false ∨ s.dpx.ownIn = false ∨ s.dpx.dual = true ∨ s.sys.giveupOut = true ∨ s.dpx.transferAt ≠ none → Steps .dualOwnership s s) ∧
  (∀ (n : Nat) (s : State), s.dpx.hbSent = some n → s.sys.mode = .control → partnerWasReady s = true → s.sys.diagFirst = 0 → 6 ∉ s.sys.diagSeen →
    ∃ t, Steps .supervisorHeartbeatLoss s t ∧ 6 ∈ t.sys.diagSeen ∧ t.sys.diagFirst = 6 ∧ t.dpx.givingUp = true ∧ t.dpx.giveupCode = 6 ∧ t.sys.giveupOut = true ∧ t.sys.outputsHeld = true ∧ (s.hp.ready = true → Occurred 112 6 s t)) ∧
  (∀ s : State, s.sys.mode ≠ .control ∨ partnerWasReady s = false → Steps .supervisorHeartbeatLoss s s) ∧
  (∀ s : State, s.dpx.givingUp = true → s.sys.wdDelay = none → ∃ t, Steps .giveupTimeout s t ∧ t.sys.giveupOut = false ∧ t.dpx.givingUp = false ∧
      t.sys.modeReq = some { target := .safeHold, kind := 3, detail := s.dpx.giveupCode } ∧ (s.hp.ready = true → Occurred 119 s.dpx.giveupCode s t)) ∧
  (∀ s : State, s.dpx.givingUp = false ∨ s.sys.wdDelay ≠ none → Steps .giveupTimeout s s) ∧
  (∀ s : State, s.duplex = true → s.hp.ready = true → s.sys.mode = .standby → s.sound = true → ∃ t, Steps .giveupInRise s t ∧ t.dpx.giveupIn = true ∧ t.dpx.giveupSeen = true ∧ t.dpx.gapFrom = s.time.mt ∧ (s.dpx.transferCmd = none → t.dpx = { s.dpx with giveupIn := true, giveupSeen := true, gapFrom := s.time.mt })) ∧
  (∀ s : State, s.duplex = false → ∃ t, Steps .giveupInRise s t ∧ SameBut [.dpx] s t ∧ t.dpx = { s.dpx with giveupIn := true }) ∧
  (∀ (n tag : Nat) (p : Port) (op : Op) (s : State), s.dpx.transferAt = some n → s.dpx.transferCmd = some (p, tag) → Waits p tag op s →
    ∃ t, Steps .transferTimeout s t ∧ t.dpx = { s.dpx with transfer := false, transferDormant := false, transferCmd := none, transferAt := none } ∧ t.sys.outputsHeld = false ∧ Answered p tag op 0 0xA012 1 [] t) ∧
  (∀ s : State, s.dpx.transferAt = none → Steps .transferTimeout s s) ∧
  (∀ (n tag : Nat) (p : Port) (op : Op) (s : State), s.dpx.transferReq = some (p, tag) → s.dpx.transferReqAt = some n → transferSeen s = false ∨ s.sys.mode ≠ .standby → Waits p tag op s →
    ∃ t, Steps .transferReqTimeout s t ∧ t.dpx = { s.dpx with transferReq := none, transferReqAt := none } ∧ Answered p tag op 0 0xA012 1 [] t) ∧
  (∀ s : State, s.dpx.transferReqAt = none → Steps .transferReqTimeout s s) ∧
  (∀ s : State, s.duplex = true → s.sys.mode = .safeHold → s.dpx.healthy = true → s.dpx.handoverAt = none → s.dpx.retryAt = none →
    ∃ t f, Steps .safeHoldHandover s t ∧ t.sys = { s.sys with giveupOut := true } ∧ t.dpx = { s.dpx with txMirror := some f, mirrorFrame := f.frame, handoverAt := some t.time.mt } ∧ f.handover = true ∧ f.transfer = false ∧ f.fwd = s.dpx.fwd) ∧
  (∀ s : State, s.sys.mode ≠ .safeHold ∨ s.dpx.healthy = false ∨ s.dpx.retryAt ≠ none → Steps .safeHoldHandover s s) ∧
  (∀ (n : Nat) (s : State), s.dpx.handoverAt = some n → ∃ t, Steps .handoverTimeout s t ∧ t.sys = { s.sys with giveupOut := false } ∧ t.dpx = { s.dpx with handoverAt := none, retryAt := some (t.time.mt + secTicks) }) ∧
  (∀ (n : Nat) (s : State), s.dpx.retryAt = some n → s.duplex = true → s.sys.mode = .safeHold → s.dpx.healthy = true →
    ∃ t f, Steps .handoverRetry s t ∧ t.sys = { s.sys with giveupOut := true } ∧ t.dpx = { s.dpx with txMirror := some f, mirrorFrame := f.frame, handoverAt := some t.time.mt, retryAt := none } ∧ f.handover = true) ∧
  (∀ (n : Nat) (s : State), s.dpx.retryAt = some n → s.dpx.healthy = false → ∃ t, Steps .handoverRetry s t ∧ SameBut [.time, .dpx] s t ∧ t.dpx = { s.dpx with retryAt := none }) ∧
  (∀ (n : Nat) (s : State), s.dpx.reclaimFrom = some n → ∃ t, Steps .reclaimHoldoffExpiry s t ∧ t.dpx = { s.dpx with reclaimFrom := none, reclaimReq := true, reclaimAt := t.time.mt } ∧ (s.hp.ready = true → Occurred 117 2 s t)) ∧
  (∀ (p : Port) (c : Cmd) (s : State), Heard p c s → c.op = .dpxTransfer → s.duplex = true → inTransition s = false → s.dpx.transferReq = none → partnerReady s = true → s.sys.mode = .control →
    ∃ t, Steps (.dpxTransfer p) s t ∧ Accepted p c 40 s t ∧ t.dpx = { s.dpx with transfer := true, transferDormant := false, transferCmd := some (p, c.tag), transferCause := causeTransfer }) ∧
  (∀ (p : Port) (c : Cmd) (s : State), Heard p c s → c.op = .dpxTransfer → s.duplex = true → inTransition s = false → s.dpx.transferReq = none → partnerReady s = true → s.sys.mode ≠ .control →
    ∃ t, Steps (.dpxTransfer p) s t ∧ Accepted p c 40 s t ∧ t.dpx = { s.dpx with transferReq := some (p, c.tag), transferReqAt := none }) ∧
  (∀ (p : Port) (c : Cmd) (s : State), Heard p c s → c.op = .dpxTransfer → s.duplex = false →
    ∃ t, Steps (.dpxTransfer p) s t ∧ Replied p c 3 0xA011 0 [] t ∧ SameBut [.host, .maint, .sys] s t) ∧
  (∀ (p : Port) (c : Cmd) (s : State), Heard p c s → c.op = .dpxTransfer → s.duplex = true → inTransition s = true ∨ s.dpx.transferReq ≠ none →
    ∃ t, Steps (.dpxTransfer p) s t ∧ Replied p c 0 0xA012 2 [] t ∧ SameBut [.host, .maint, .sys] s t) ∧
  (∀ (p : Port) (c : Cmd) (s : State), Heard p c s → c.op = .dpxTransfer → s.duplex = true → inTransition s = false → s.dpx.transferReq = none → partnerReady s = false →
    ∃ t, Steps (.dpxTransfer p) s t ∧ Replied p c 3 0xA010 (if s.dpx.healthy then 6 else s.dpx.reason) [] t ∧ SameBut [.host, .maint, .sys] s t) ∧
  (∀ s : State, transferSeen s = true → s.sys.mode = .standby → s.sound = true → Steps .transferReqTimeout s s)

/-- Warm resets and what they keep, RST_N, the watchdog, supply loss, power-on, the start and its faults, the start role. SYS_RESET, RST_N held from 1 us on, the watchdog, the end of its delay and an inconsistent request of the Kiln begin a warm reset of their cause, which the flash, Ember, the Kiln, the ring and the navigation store outlive; a cause within a reset resets again and is noted beside the first, and one before step 7 of a power-on leaves it a power-on. A watchdog in CONTROL with a ready partner gives up first. Steps 4 to 9 start the picked image, and without one the module stays in KINDLING; a bad factory block is start fault 5 and leads to DORMANT with EV4; a sound start follows the start role, and a reset that cuts it begins again. The end of listening chooses CONTROL or STANDBY by the partner. A supply loss ends everything but Kiln, Ember and flash; Ember loses its contents only without either supply. Rests on: R38, R74, R75, R77, R80, R81, R83, R92, R303, R315, R335, R455. -/
def Obligations.ResetsSuppliesAndTheStart : Prop :=
  (∀ (p : Port) (c : Cmd) (s : State), Heard p c s → c.op = .sysReset → s.sys.vmain = true → withinReset s = false →
    ∃ t, Steps (.sysReset p) s t ∧ ResetBegun .sysReset s t ∧ t.time.mt = s.time.mt ∧ t.kiln.ch = s.kiln.ch ∧ t.kiln.pair = s.kiln.pair) ∧
  (∀ (n : Nat) (s : State), 1000 ≤ n → s.sys.rstLow = false → s.sys.vmain = true → withinReset s = false →
    ∃ t, Steps (.rstNAssert n) s t ∧ ResetBegun .rstN s t ∧ t.sys.rstLow = true ∧ t.time.mt = s.time.mt ∧ t.kiln.ch = s.kiln.ch ∧ t.kiln.pair = s.kiln.pair) ∧
  (∀ (n : Nat) (s : State), n < 200 ∨ s.sys.rstLow = true → Steps (.rstNAssert n) s s) ∧
  (∀ (n : Nat) (s : State), 200 ≤ n → n < 1000 → s.sys.rstLow = false → s.sys.vmain = true → withinReset s = false →
    (Config.shortRst n s.free = true → ∃ t, Steps (.rstNAssert n) s t ∧ ResetBegun .rstN s t) ∧ (Config.shortRst n s.free = false → ∃ t, Steps (.rstNAssert n) s t ∧ SameBut [.free] s t)) ∧
  (∀ (n : Nat) (s : State), 1000 ≤ n → s.sys.rstLow = false → s.sys.vmain = true → withinReset s = true →
    ∃ t, Steps (.rstNAssert n) s t ∧ t.hp = { rstCause := s.hp.rstCause } ∧ t.sys.rstLow = true ∧ t.sys.warmPending = true ∧ t.sys.furtherCauses = s.sys.furtherCauses ||| 2 ∧
      t.sys.coldBeforeStep7 = s.sys.coldBeforeStep7 ∧ t.sys.warmBeforeStep7 = s.sys.warmBeforeStep7 ∧ t.time.mt = s.time.mt ∧ t.host = State.reset.host ∧ t.maint = State.reset.maint ∧ t.cfg = { bank := s.cfg.bank } ∧ t.kiln.ch = s.kiln.ch) ∧
  (∀ s : State, s.sys.rstLow = true → ∃ t, Steps .rstNRelease s t ∧ SameBut [.sys, .tap] s t ∧ t.sys = { s.sys with rstLow := false, step4At := nextBoundary s.time.mt } ∧ t.tap = { s.tap with extest := false }) ∧
  (∀ s : State, s.sys.rstLow = false → Steps .rstNRelease s s) ∧
  (∀ s : State, s.hp.ready = true → s.sys.wdDelay = none → s.sys.mode ≠ .control ∨ partnerWasReady s = false → s.sys.vmain = true → withinReset s = false →
    ∃ t, Steps .watchdogExpiry s t ∧ ResetBegun .watchdog s t ∧ (∀ i, s.sys.running = some i → s.time.mt < s.sys.readyMt + 10 * secTicks → t.sys.earlyWd = s.sys.earlyWd + 1 ∧ (s.sys.earlyWd = 1 → s.sys.choice = none → t.sys.choice = some (if i = 0 then 1 else 0))) ∧
      (s.sys.readyMt + 10 * secTicks ≤ s.time.mt → t.sys.earlyWd = 0)) ∧
  (∀ s : State, s.hp.ready = true → s.sys.wdDelay = none → s.sys.mode = .control → partnerWasReady s = true → ∃ t, Steps .watchdogExpiry s t ∧ SameBut [.sys, .dpx] s t ∧
      t.dpx = { s.dpx with givingUp := true, giveupCode := 7, giveupAt := s.time.mt } ∧ t.sys = { s.sys with giveupOut := true, outputsHeld := true, wdDelay := some (s.time.mt + giveTicks) }) ∧
  (∀ (n : Nat) (s : State), s.sys.wdDelay = some n → s.sys.vmain = true → withinReset s = false → ∃ t, Steps .watchdogResetDelayEnd s t ∧ ResetBegun .watchdog s t ∧ (s.dpx.ownIn = true → t.time.mt = s.time.mt)) ∧
  (∀ s : State, s.sys.wdDelay = none → Steps .watchdogResetDelayEnd s s) ∧
  (∀ s : State, s.hp.ready = true → s.sys.running ≠ none → ∃ t, Steps .fwRunConfirm s t ∧ SameBut [.time, .sys] s t ∧ t.sys = { s.sys with earlyWd := 0 }) ∧
  (∀ s : State, s.hp.ready = false ∨ s.sys.running = none → Steps .fwRunConfirm s s) ∧
  (∀ (n : Nat) (s : State), s.kiln.cdBadSince = some n → s.kiln.cdBad = false → s.kiln.st ≠ .off → s.sys.vmain = true → withinReset s = false → ∃ t, Steps .cdInconsistent s t ∧ ResetBegun .kiln s t ∧ t.kiln.cdBad = true) ∧
  (∀ s : State, s.kiln.cdBadSince = none ∨ s.kiln.cdBad = true ∨ s.kiln.st = .off → Steps .cdInconsistent s s) ∧
  (∀ (fate : SlotFate) (s : State), s.sys.vmain = true → ∃ t, Steps (.vmainLoss fate) s t ∧ t.sys.mode = .kindling ∧ t.sys.own = false ∧ t.sys.vmain = false ∧ t.hp.ready = false ∧ t.cfg = { bank := s.cfg.bank } ∧ t.sys.images = s.sys.images ∧ t.kiln.st = s.kiln.st ∧ t.kiln.ch = s.kiln.ch ∧ t.time.rtc = s.time.rtc ∧
      t.time.emb = s.time.emb ∧ t.time.alarm = s.time.alarm ∧ t.time.mtRun = false ∧ t.host = State.reset.host ∧ t.ev = State.reset.ev ∧ t.solv = State.reset.solv ∧ t.fus = State.reset.fus ∧ t.gnss = State.reset.gnss ∧ t.log.queue = [] ∧
      (fate = .unwritten → t.log.ring = s.log.ring)) ∧
  (∀ (fate : SlotFate) (s : State), s.sys.vmain = false → Steps (.vmainLoss fate) s s) ∧
  (∀ s : State, s.sys.vmain = false → ∃ t, Steps .emberContentLoss s t ∧ SameBut [.time] s t ∧ t.time = { s.time with emberLost := true, load := none }) ∧
  (∀ s : State, s.sys.vmain = true → Steps .emberContentLoss s s) ∧
  (∀ (k : StartIn) (s : State), s.sys.vmain = false → s.sys.rstLow = true → ∃ t, Steps (.mainPowerOn k) s t ∧ t.sys.vmain = true ∧ t.sys.pref = k.pref ∧ t.sys.warmPending = true ∧ t.sys.coldBeforeStep7 = true ∧ t.sys.tcxoFailed = false ∧
      t.time.mt = 0 ∧ t.time.mtRun = true ∧ t.time.pwrCyc = ((if s.time.emberLost then 0 else s.time.pwrCyc) + 1) % 2 ^ 32 ∧ t.time.emberLost = false ∧ (s.time.emberLost = true → t.time.emb = Vector.replicate 16 0) ∧ (s.time.emberLost = false → t.time.emb = s.time.emb)) ∧
  (∀ (k : StartIn) (s : State), s.sys.vmain = false → s.sys.rstLow = false → k.cutAt = 0 → (pickImage k { s with sys := { s.sys with choice := none } }).isSome = true → k.factoryOk = true → (∀ r : Fin 4, k.bistOk[r] = true ∧ (s.solv.region[r]).st = .healthy) → k.belvOk = true → k.loopOk = true → k.imuOk = true → k.kilnRx = true → k.kilnTest = none → s.kiln.st = .run → s.sys.mode = .kindling →
    ∃ t, Steps (.mainPowerOn k) s t ∧ t.hp.ready = true ∧ t.sys.vmain = true ∧ t.sys.coldBeforeStep7 = false ∧ t.time.mtRun = true ∧ t.sys.startFault = s.sys.startFault ∧ (startRole t = 0 → t.sys.mode = .dormant) ∧ (startRole t = 1 → t.sys.mode = .standby) ∧ (2 ≤ startRole t → t.sys.mode = .kindling ∧ t.sys.listenEnd = some (t.time.mt + secTicks))) ∧
  (∀ (k : StartIn) (s : State), s.sys.vmain = true → s.hp.ready = true → Steps (.mainPowerOn k) s s) ∧
  (∀ (k : StartIn) (s : State), s.sys.vmain = true → s.sys.warmPending = true → s.sys.rstLow = false → k.cutAt = 0 → (pickImage k s).isSome = true → k.factoryOk = true → (∀ r : Fin 4, k.bistOk[r] = true ∧ (s.solv.region[r]).st = .healthy) → k.belvOk = true → k.loopOk = true → k.imuOk = true → k.kilnRx = true → k.kilnTest = none → s.kiln.st = .run → s.sys.mode = .kindling → s.sys.tcxoFailed = false →
    ∃ t, Steps (.warmResetStart k) s t ∧ t.hp.ready = true ∧ t.sys.running = pickImage k s ∧ t.sys.warmPending = false ∧ t.sys.startFault = s.sys.startFault ∧ (startRole t = 0 → t.sys.mode = .dormant) ∧ (startRole t = 1 → t.sys.mode = .standby) ∧ (2 ≤ startRole t → t.sys.mode = .kindling ∧ t.sys.listenEnd = some (t.time.mt + secTicks))) ∧
  (∀ (k : StartIn) (s : State), s.sys.vmain = true → s.sys.warmPending = true → s.sys.rstLow = false → k.cutAt = 0 → (pickImage k s).isSome = true → k.factoryOk = false →
    ∃ t, Steps (.warmResetStart k) s t ∧ t.hp.ready = true ∧ t.sys.warmPending = false ∧ t.sys.mode = .dormant ∧ t.sys.startFault = some 5 ∧ (t.ev.src[4]).pend = true ∧ (t.ev.src[126]).pend = true) ∧
  (∀ (k : StartIn) (s : State), s.sys.vmain = true → s.sys.warmPending = true → s.sys.rstLow = false → k.cutAt = 0 → pickImage k s = none →
    ∃ t, Steps (.warmResetStart k) s t ∧ t.hp.ready = true ∧ t.sys.warmPending = false ∧ t.sys.running = none ∧ t.sys.mode = s.sys.mode) ∧
  (∀ (k : StartIn) (s : State), s.sys.vmain = true → s.sys.warmPending = true → s.sys.rstLow = false → k.cutAt = 5 → ∃ t, Steps (.warmResetStart k) s t ∧
      (k.cutBy = .powerOn → t.sys.vmain = false ∧ t.hp.ready = false) ∧
      (k.cutBy ≠ .powerOn → s.sys.warmBeforeStep7 = true ∨ s.sys.coldBeforeStep7 = true → t.hp = { rstCause := s.hp.rstCause } ∧ t.sys.warmPending = true ∧ t.sys.step4At = nextBoundary t.time.mt ∧
        t.sys.mode = .kindling ∧ t.sys.furtherCauses = s.sys.furtherCauses ||| 2 ^ causeCode k.cutBy)) ∧
  (∀ (k : StartIn) (s : State), s.sys.vmain = false ∨ s.sys.warmPending = false ∨ s.sys.rstLow = true → Steps (.warmResetStart k) s s) ∧
  (∀ (n : Nat) (m : Mode) (s : State), s.sys.listenEnd = some n → s.sys.mode = .kindling → s.hp.ready = true →
    m = (if s.duplex then (match s.dpx.partner with | some h => if h.own then .standby else if h.mode == .kindling && !isModuleA s then .standby else .control | none => .control) else .control) →
    ∃ t, Steps .startRoleResolution s t ∧ t.sys.mode = m ∧ t.sys.own = (m == .control) ∧ t.sys.listenEnd = none ∧ Occurred 3 (256 + modeCode m) s t) ∧
  (∀ s : State, s.sys.listenEnd = none → Steps .startRoleResolution s s)

/-- Oscillator, link, rail and memory failures; wake triggers, the exit of a domain and the return to the budget; the boundary-scan port. A TCXO failure makes the time source FAULT and is self-diagnosis code 10. A transfer that fails once leaves only its corrected errors counted; a repeated link failure is contained at the unit that owns the link. A rail fault is code 5 and a state-memory error code 3, raised as EV112 once; the first in STANDBY asks for DORMANT. In DORMANT a wake trigger starts the exit of every domain that is not on, regions failed or cooling apart, and raises EV5. The end of an exit turns its domain on and no other. After a second of quiet each domain that is on, or on its way from a state that the budget allows, takes the state of the budget (log entry 66), PD13 apart while the flash is busy. The TAP follows its instruction while TRST_N is high; EXTEST drives only while RST_N is low. Rests on: R13, R18, R83, R84, R85, R86, R87, R207, R334, R439, R450, R393. -/
def Obligations.FailuresPowerDomainsWakeAndBoundaryScan : Prop :=
  (∀ s : State, s.sys.vmain = true → s.sys.tcxoFailed = false → ∃ t, Steps .tcxoFailure s t ∧ t.sys.tcxoFailed = true ∧ t.time.source = .fault ∧ (s.hp.ready = true → 10 ∈ t.sys.diagSeen ∧ (10 ∉ s.sys.diagSeen → Occurred 112 10 s t))) ∧
  (∀ s : State, s.sys.vmain = false ∨ s.sys.tcxoFailed = true → Steps .tcxoFailure s s) ∧
  (∀ (r : Fin 4) (n : Nat) (s : State), s.hp.ready = true → (s.solv.region[r]).st ≠ .failed → ∃ t, Steps (.linkTransferFailure (.region r) n 2) s t ∧ (t.solv.region[r]).st = .failed ∧ t.sys.dom[regDom r] = .off) ∧
  (∀ (b : Fin 2) (n : Nat) (s : State), s.hp.ready = true → (s.gnss.bb[b]).out = false → ∃ t, Steps (.linkTransferFailure (.baseband b) n 2) s t ∧ (t.gnss.bb[b]).out = true ∧ Occurred 31 b.val s t) ∧
  (∀ (n : Nat) (s : State), s.hp.ready = true → ∃ t, Steps (.linkTransferFailure .belvedere n 2) s t ∧ t.fus = { s.fus with fault := true } ∧ 9 ∈ t.sys.diagSeen ∧ Occurred 41 3 s t) ∧
  (∀ (n : Nat) (s : State), s.hp.ready = true → s.fir.imuFault = 0 → ∃ t, Steps (.linkTransferFailure .inertial n 2) s t ∧ t.fir = { s.fir with imuFault := 4 } ∧ 8 ∈ t.sys.diagSeen ∧ Occurred 6 4 s t) ∧
  (∀ (n : Nat) (s : State), s.hp.ready = true → s.sys.nf1Ok = true → ∃ t, Steps (.linkTransferFailure (.flash true) n 2) s t ∧ t.sys = { s.sys with nf1Ok := false, linkCe := s.sys.linkCe + n } ∧ Occurred 122 0 s t) ∧
  (∀ (n : Nat) (s : State), s.hp.ready = true → ∃ t, Steps (.linkTransferFailure (.flash false) n 2) s t ∧ t.sys.nf0Ok = false ∧ t.cfg.commit = none) ∧
  (∀ (n : Nat) (s : State), s.hp.ready = true → ∃ t, Steps (.linkTransferFailure .kiln n 2) s t ∧ SameBut [.sys] s t ∧ t.sys = { s.sys with kilnLink := false, linkCe := s.sys.linkCe + n }) ∧
  (∀ (n : Nat) (s : State), s.hp.ready = true → ∃ t, Steps (.linkTransferFailure .other n 2) s t ∧ 11 ∈ t.sys.diagSeen ∧ (11 ∉ s.sys.diagSeen → Occurred 112 11 s t)) ∧
  (∀ (u : LinkUnit) (n : Nat) (f : Fin 3) (s : State), s.hp.ready = true → f ≠ 2 → ∃ t, Steps (.linkTransferFailure u n f) s t ∧ SameBut [.sys] s t ∧ t.sys = { s.sys with linkCe := s.sys.linkCe + n }) ∧
  (∀ (u : LinkUnit) (n : Nat) (f : Fin 3) (s : State), s.hp.ready = false → Steps (.linkTransferFailure u n f) s s ∧ Steps .internalRailFault s s ∧ Steps .stateMemoryEccError s s) ∧
  (∀ s : State, s.hp.ready = true → 5 ∉ s.sys.diagSeen → ∃ t, Steps .internalRailFault s t ∧ 5 ∈ t.sys.diagSeen ∧ Occurred 112 5 s t ∧
      (s.sys.diagFirst = 0 → t.sys.diagFirst = 5 ∧ (s.sys.mode = .standby → t.sys.modeReq = some { target := .dormant, kind := 3, detail := 5 }))) ∧
  (∀ s : State, s.hp.ready = true → 5 ∈ s.sys.diagSeen → Steps .internalRailFault s s) ∧
  (∀ s : State, s.hp.ready = true → 3 ∉ s.sys.diagSeen → ∃ t, Steps .stateMemoryEccError s t ∧ 3 ∈ t.sys.diagSeen ∧ Occurred 112 3 s t ∧
      (s.sys.diagFirst = 0 → t.sys.diagFirst = 3 ∧ (s.sys.mode = .standby → t.sys.modeReq = some { target := .dormant, kind := 3, detail := 3 }))) ∧
  (∀ s : State, s.hp.ready = true → 3 ∈ s.sys.diagSeen → Steps .stateMemoryEccError s s) ∧
  (∀ (w : WakeKind) (s : State), s.hp.ready = true → ∃ t, Steps (.wakeTrigger w) s t ∧ SameBut [.host, .maint, .ev, .sys, .log] s t ∧ t.sys.lastActive = s.time.mt ∧ t.sys.dom = s.sys.dom ∧
      (∀ d : Fin 12, t.sys.exiting[d] = (s.sys.exiting[d] || (budgeted s d && s.sys.dom[d] != .on))) ∧
      (∀ d : Fin 12, s.sys.exiting[d] = false → t.sys.exiting[d] = true → t.sys.exitAt[d] = s.time.mt + exitUs d s.sys.dom[d] * 100) ∧
      ((∃ d : Fin 12, s.sys.exiting[d] = false ∧ t.sys.exiting[d] = true) → Occurred 5 (wakeCode w) s t) ∧ (s.sys.mode ≠ .dormant → t.sys.exiting = s.sys.exiting)) ∧
  (∀ (w : WakeKind) (s : State), s.hp.ready = false → Steps (.wakeTrigger w) s s) ∧
  (∀ (d : Fin 12) (s : State), s.sys.exiting[d] = true → ∃ t, Steps (.domainExitComplete d) s t ∧ t.sys.dom[d] = .on ∧ t.sys.exiting[d] = false ∧ (∀ e : Fin 12, e ≠ d → t.sys.dom[e] = s.sys.dom[e] ∧ t.sys.exiting[e] = s.sys.exiting[e]) ∧ t.gnss.nav = s.gnss.nav) ∧
  (∀ (d : Fin 12) (s : State), s.sys.exiting[d] = false → Steps (.domainExitComplete d) s s) ∧
  (∀ s : State, s.hp.ready = true → idleNow s = true → ∃ t, Steps .wakeIdleReturn s t ∧
      (∀ d : Fin 12, d ≠ 11 → t.sys.dom[d] = (if budgeted s d = true ∧ (s.sys.dom[d] = .on ∨ (s.sys.exiting[d] = true ∧ exitUs d s.sys.dom[d] ≤ s.hp.wakeBudget)) then budgetState d s.hp.wakeBudget else s.sys.dom[d])) ∧
      (∀ d : Fin 12, t.sys.exiting[d] = (s.sys.exiting[d] && decide (s.hp.wakeBudget < exitUs d s.sys.dom[d]))) ∧
      (t.sys.dom[11] = s.sys.dom[11] ∨ t.sys.dom[11] = budgetState 11 s.hp.wakeBudget)) ∧
  (∀ s : State, s.hp.ready = false ∨ idleNow s = false → Steps .wakeIdleReturn s s) ∧
  (∀ s : State, (∃ t, Steps (.boundaryScanAccess (.trst false)) s t ∧ SameBut [.tap] s t ∧ t.tap = State.reset.tap) ∧ (∃ t, Steps (.boundaryScanAccess (.trst true)) s t ∧ SameBut [.tap] s t ∧ t.tap = { s.tap with trst := true })) ∧
  (∀ (v : List Bool) (s : State), s.tap.trst = true →
    (∃ t, Steps (.boundaryScanAccess .bypass) s t ∧ SameBut [.tap] s t ∧ t.tap = { s.tap with ir := 1, extest := false }) ∧
    (∃ t, Steps (.boundaryScanAccess .sample) s t ∧ SameBut [.tap] s t ∧ t.tap = { s.tap with ir := 2, extest := false }) ∧
    (∃ t, Steps (.boundaryScanAccess (.preload v)) s t ∧ SameBut [.tap] s t ∧ t.tap = { s.tap with ir := 2, extest := false, bsr := v }) ∧
    (∃ t, Steps (.boundaryScanAccess .extest) s t ∧ SameBut [.tap] s t ∧ t.tap = { s.tap with ir := 3, extest := s.sys.rstLow }) ∧
    (∃ t, Steps (.boundaryScanAccess .idcode) s t ∧ SameBut [.tap] s t ∧ t.tap = { s.tap with ir := 0, extest := false, out := idCodes })) ∧
  (∀ (a : TapIn) (s : State), s.tap.trst = false → (∀ high : Bool, a ≠ .trst high) → Steps (.boundaryScanAccess a) s s)

/-- A frame boundary counts the frame, brings pending parameters into force and takes the mode change asked for; missed deadlines D1 to D5. A boundary is the next one that has not been processed, and numbers the frame by its time; before the firmware runs only the frame is counted. With the firmware, outside STANDBY nothing of the parameters that wait for a boundary is left pending and whole loads are done (a standby may take forwarded ones over from its mirror frame), the missed deadlines of the frame are cleared and a frame without one ends the row, regions that are on or cool take their temperature, and a change of mode that the module itself asked for is made. A missed deadline publishes the latched estimate with the rest of a running blend and no contribution (D1), keeps the last thrust demand (D2), counts and raises EV58 (D3), or is marked (D4, D5); the third missed frame in a row is self-diagnosis code 4. A step that has run misses nothing. Rests on: R19, R20, R22, R69, R72, R148, R214, R276. -/
def Obligations.FramesBeginAndMissedDeadlinesAreCounted : Prop :=
  (∀ (temps : Vector Int 4) (s : State), s.sys.vmain = true → s.time.mtRun = true → ∃ t, Steps (.frameBoundary temps) s t ∧ t.sys.frame = max (s.sys.frame + 1) (cdiv s.time.mt frameTicks) ∧
      (s.hp.ready = false → SameBut [.time, .sys] s t ∧ t.sys = { s.sys with frame := t.sys.frame })) ∧
  (∀ (temps : Vector Int 4) (s : State), s.sys.vmain = true → s.time.mtRun = true → s.hp.ready = true → ∃ t, Steps (.frameBoundary temps) s t ∧ (s.sys.mode ≠ .standby → (∀ k ∈ t.cfg.pend, timing k.1 ≠ .boundary) ∧ t.cfg.loads = []) ∧ t.sys.missedNow = 0 ∧
      t.sys.missedFrames = (if s.sys.missedNow = 0 then 0 else s.sys.missedFrames) ∧ (t.sys.mode ≠ .control → t.dpc.targets = []) ∧
      (∀ r : Fin 4, s.sys.dom[regDom r] = .on → (t.solv.region[r]).temp = temps[r] ∧ ((s.solv.region[r]).st = .healthy → 115 ≤ temps[r] → temps[r] < 125 → (t.solv.region[r]).st = .hot))) ∧
  (∀ (temps : Vector Int 4) (r : ModeReq) (s : State), s.sys.vmain = true → s.time.mtRun = true → s.hp.ready = true → s.sys.modeReq = some r → r.cmd = none → r.target ≠ s.sys.mode → s.dpx.dormantNext = false →
    ∃ t, Steps (.frameBoundary temps) s t ∧ t.sys.mode = r.target ∧ t.sys.own = ownsIn r.target ∧ ((∀ x ∈ s.solv.tickets, x.copies.length ≤ 2) → t.sys.modeReq = none) ∧ Occurred 3 (modeCode s.sys.mode * 256 + modeCode r.target) s t) ∧
  (∀ (temps : Vector Int 4) (s : State), s.sys.vmain = true → s.time.mtRun = true → s.hp.ready = true → s.sys.modeReq = none → s.dpx.dormantNext = false →
    ∃ t, Steps (.frameBoundary temps) s t ∧ t.sys.mode = s.sys.mode ∧ t.sys.own = s.sys.own) ∧
  (∀ (temps : Vector Int 4) (s : State), s.sys.vmain = false ∨ s.time.mtRun = false → Steps (.frameBoundary temps) s s) ∧
  (∀ s : State, s.fus.updating = true → s.fus.d1Miss = false → belvRuns s = true → ∃ t, Steps (.deadlineMiss 0) s t ∧ t.fus.d1Miss = true ∧ t.fus.tv = s.sys.frame * frameTicks ∧ t.fus.xhat = s.fus.xhat ∧ t.fus.pub = published (blendFrames s) s.fus s.fus.latched ∧ t.fus.n = (if 1 < s.fus.n then s.fus.n - 1 else s.fus.n) ∧ t.fus.r = s.fus.r ∧
      t.fus.contrib = 0 ∧ t.fus.rolled = false ∧ t.fus.swapped = false ∧ t.fus.slot = s.fus.slot ∧ t.fus.updating = true ∧ t.sys.missedNow = s.sys.missedNow ||| 1 ∧ (s.sys.missedNow = 0 → t.sys.missedFrames = s.sys.missedFrames + 1 ∧ (2 ≤ s.sys.missedFrames → 4 ∈ t.sys.diagSeen)) ∧ (s.sys.missedNow ≠ 0 → t.sys.missedFrames = s.sys.missedFrames)) ∧
  (∀ s : State, frameWork s = true → s.dpc.ran ≠ some s.sys.frame → ∃ t, Steps (.deadlineMiss 1) s t ∧ t.dpc = { s.dpc with ran := some s.sys.frame, tauPrev := s.dpc.tau, d2Miss := true } ∧ t.sys.missedNow = s.sys.missedNow ||| 2 ∧ (s.sys.missedNow = 0 → t.sys.missedFrames = s.sys.missedFrames + 1 ∧ (2 ≤ s.sys.missedFrames → 4 ∈ t.sys.diagSeen)) ∧ (s.sys.missedNow ≠ 0 → t.sys.missedFrames = s.sys.missedFrames)) ∧
  (∀ s : State, frameWork s = true → s.dpc.fn ≠ 0 → s.alloc.checked = some s.sys.frame → s.alloc.issuedAt ≠ some s.sys.frame → s.alloc.committed = false → s.alloc.d3Miss = false →
    ∃ t, Steps (.deadlineMiss 2) s t ∧ t.alloc.d3Miss = true ∧ t.alloc.d3Run = s.alloc.d3Run + 1 ∧ t.alloc.nD3 = inc32 s.alloc.nD3 ∧ t.alloc.sol = s.alloc.sol ∧ (s.hp.ready = true → Occurred 58 (satN 255 (s.alloc.d3Run + 1)) s t) ∧ t.sys.missedNow = s.sys.missedNow ||| 4 ∧ (s.sys.missedNow = 0 → t.sys.missedFrames = s.sys.missedFrames + 1 ∧ (2 ≤ s.sys.missedFrames → 4 ∈ t.sys.diagSeen)) ∧ (s.sys.missedNow ≠ 0 → t.sys.missedFrames = s.sys.missedFrames)) ∧
  (∀ s : State, frameWork s = true → s.alloc.issuedAt ≠ some s.sys.frame → ∃ t, Steps (.deadlineMiss 3) s t ∧ t.alloc = s.alloc ∧ t.loop = s.loop ∧ t.sys.missedNow = s.sys.missedNow ||| 8 ∧ (s.sys.missedNow = 0 → t.sys.missedFrames = s.sys.missedFrames + 1 ∧ (2 ≤ s.sys.missedFrames → 4 ∈ t.sys.diagSeen)) ∧ (s.sys.missedNow ≠ 0 → t.sys.missedFrames = s.sys.missedFrames)) ∧
  (∀ s : State, s.sys.mode = .control → s.duplex = true → s.dpx.sent = none → ∃ t, Steps (.deadlineMiss 4) s t ∧ t.dpx.sent = none ∧ t.sys.missedNow = s.sys.missedNow ||| 16 ∧ (s.sys.missedNow = 0 → t.sys.missedFrames = s.sys.missedFrames + 1 ∧ (2 ≤ s.sys.missedFrames → 4 ∈ t.sys.diagSeen)) ∧ (s.sys.missedNow ≠ 0 → t.sys.missedFrames = s.sys.missedFrames)) ∧
  (∀ s : State, (s.fus.updating = false → Steps (.deadlineMiss 0) s s) ∧ (s.dpc.ran = some s.sys.frame → Steps (.deadlineMiss 1) s s) ∧ (s.alloc.committed = true → Steps (.deadlineMiss 2) s s) ∧
    (s.alloc.issuedAt = some s.sys.frame → Steps (.deadlineMiss 3) s s) ∧ (s.dpx.sent ≠ none → Steps (.deadlineMiss 4) s s))

/-- Frames of the maintenance tool enter its command queue in order, or are discarded up to the next FIRST; free space is reported. A frame with FIRST and one packet that fits enters the maintenance command queue whole, and the next SEQ is expected. After a break in SEQ, or where the words have no room, frames are discarded until one has FIRST. A frame without FIRST while no packet is open is discarded. Nothing is taken while the port is off. A free-space report leaves when FREE has risen by 256 or more and none is queued, with the next SEQ and FREE noted. Rests on: R366, R367, R61. -/
def Obligations.MaintenanceFramesAreTakenInOrder : Prop :=
  (∀ (m : MaintFrame) (q : QWord) (qs : List QWord) (s : State), s.hp.maintEn = true → canActive s 5 = true → m.words = q :: qs → fld q.w 7 0 = qs.length → m.first = true → s.mnt.rxSeq = none ∨ s.mnt.rxSeq = some (m.seq % 128) → s.maint.wrLeft = 0 → m.words.length ≤ maintFree s →
    ∃ t, Steps (.maintFrameReceive m) s t ∧ t.maint.cmdq = s.maint.cmdq ++ m.words ∧ t.maint.wrLeft = 0 ∧ t.maint.lastWord = s.time.mt ∧ t.mnt.rxSeq = some ((m.seq + 1) % 128) ∧ t.mnt.skip = false ∧ t.host.cmdq = s.host.cmdq) ∧
  (∀ (m : MaintFrame) (e : Nat) (s : State), s.hp.maintEn = true → canActive s 5 = true → s.mnt.rxSeq = some e → e ≠ m.seq % 128 → m.first = false → s.maint.wrLeft = 0 →
    ∃ t, Steps (.maintFrameReceive m) s t ∧ SameBut [.mnt] s t ∧ t.mnt = { s.mnt with rxSeq := some ((m.seq + 1) % 128), skip := true }) ∧
  (∀ (m : MaintFrame) (s : State), s.hp.maintEn = true → canActive s 5 = true → s.mnt.rxSeq = some (m.seq % 128) → m.first = false → s.mnt.skip = true ∨ s.maint.wrLeft = 0 →
    ∃ t, Steps (.maintFrameReceive m) s t ∧ SameBut [.mnt] s t ∧ t.mnt = { s.mnt with rxSeq := some ((m.seq + 1) % 128) }) ∧
  (∀ (m : MaintFrame) (s : State), s.hp.maintEn = true → canActive s 5 = true → m.first = true → s.maint.wrLeft = 0 → m.words ≠ [] → maintFree s < m.words.length →
    ∃ t, Steps (.maintFrameReceive m) s t ∧ SameBut [.mnt] s t ∧ t.mnt = { s.mnt with rxSeq := some ((m.seq + 1) % 128), skip := true }) ∧
  (∀ (m : MaintFrame) (s : State), s.hp.maintEn = false ∨ canActive s 5 = false → Steps (.maintFrameReceive m) s s) ∧
  (∀ s : State, s.hp.maintEn = true → s.mnt.lastFree + 256 ≤ maintFree s → fnQueued 5 .maint (maintTxId s) s = false →
    ∃ t, Steps .maintFreeReport s t ∧ t.mnt = { s.mnt with txSeq := (s.mnt.txSeq + 1) % 128, lastFree := maintFree s, freeAt := some t.time.mt } ∧
      (s.can[(5 : Fin 6)].blocked.contains (maintTxId s) = false → t.can[(5 : Fin 6)].txq.length = s.can[(5 : Fin 6)].txq.length + 1)) ∧
  (∀ s : State, s.hp.maintEn = false ∨ maintFree s < s.mnt.lastFree + 256 ∨ fnQueued 5 .maint (maintTxId s) s = true → Steps .maintFreeReport s s)

/-- The read freeze of the calendar registers, its end, and a commit that loads during it. A read of a time register while none is frozen copies the live calendar, as at the last completed Ember tick, into the shadows and freezes them; while they are frozen such a read returns the shadow and changes nothing. A read of RTC_YEAR returns its shadow and ends the freeze. 2 s without one end it and set STALE. A commit that loads during a freeze sets the live counters and leaves the frozen shadows. Rests on: R93, R99. -/
def Obligations.ReadFreezeHoldsTheCalendarAndOutlivesACommit : Prop :=
  (∀ (r : Fin 6) (s : State), s.sys.vmain = true → s.time.frozen = none → ∃ t, Steps (.rtcShadowRead r) s t ∧ SameBut [.hp, .time] s t ∧ t.time = { s.time with shadow := s.time.rtc, frozen := some s.time.mt } ∧
      t.hp = { s.hp with acked := true, dOut := ofN ((rtcFields s.time.rtc).getD r.val 0) }) ∧
  (∀ (r : Fin 6) (m : Nat) (s : State), s.sys.vmain = true → s.time.frozen = some m → ∃ t, Steps (.rtcShadowRead r) s t ∧ SameBut [.hp] s t ∧ t.hp = { s.hp with acked := true, dOut := ofN ((rtcFields s.time.shadow).getD r.val 0) }) ∧
  (∀ s : State, s.sys.vmain = true → s.time.frozen = none → ∃ t, Steps .rtcYearRead s t ∧ SameBut [.hp, .time] s t ∧ t.time = { s.time with shadow := s.time.rtc } ∧ t.hp = { s.hp with acked := true, dOut := ofN ((rtcFields s.time.rtc).getD 6 0) }) ∧
  (∀ (m : Nat) (s : State), s.sys.vmain = true → s.time.frozen = some m → ∃ t, Steps .rtcYearRead s t ∧ SameBut [.hp, .time] s t ∧ t.time = { s.time with frozen := none } ∧ t.hp = { s.hp with acked := true, dOut := ofN ((rtcFields s.time.shadow).getD 6 0) }) ∧
  (∀ (m : Nat) (s : State), s.time.frozen = some m → ∃ t, Steps .rtcFreezeTimeout s t ∧ t.time.frozen = none ∧ t.time.stale = true ∧ t.time.shadow = s.time.shadow ∧
      (s.time.mtRun = true → s.time.mt < 2 ^ 64 → m + 2 * secTicks < 2 ^ 64 → m + 2 * secTicks ≤ t.time.mt)) ∧
  (∀ s : State, s.time.frozen = none → Steps .rtcFreezeTimeout s s) ∧
  (∀ (m : Nat) (l : RtcLoad) (s : State), s.time.frozen = some m → s.time.load = some l → ∃ t, Steps .rtcLoad s t ∧ t.time.rtc = l.val ∧ t.time.shadow = s.time.shadow ∧ t.time.frozen = some m)

/-- BULK_WRITE takes the next block of exactly the words due, and refuses another number, more words or fewer. A block with the next expected number and exactly the smaller of 254 words and the words still missing is taken and the expected number rises by 1. Another number is rejected with BULK_SEQUENCE, more words with BULK_LENGTH and the excess, fewer with BULK_LENGTH and the lack; in each case the handle stays open with its data and its expected number. Rests on: R57. -/
def Obligations.WriteBlocksComeInOrderAndInFull : Prop :=
  (∀ (p : Port) (c : Cmd) (i : Fin 4) (h : Handle) (n : Nat) (s : State), Heard p c s → c.op = .bulkWrite → s.bulk[i] = some h → fld (wd c.words 0) 31 24 = i.val + 1 → h.fromMod = false → (∃ r, kindRow h.kind = some r ∧ kindMode h.kind r s = true) → n = min 254 (h.len - h.data.length) → fld (wd c.words 0) 23 0 = h.next → (c.words.drop 1).length = n →
    ∃ t, Steps (.bulkWrite p) s t ∧ Replied p c 0 0 0 [] t ∧ SameBut [.host, .maint, .sys, .bulk] s t ∧ (∀ j : Fin 4, j ≠ i → t.bulk[j] = s.bulk[j]) ∧
      t.bulk[i] = some { h with data := (c.words.drop 1).reverse ++ h.data, next := h.next + 1, last := s.time.mt }) ∧
  (∀ (p : Port) (c : Cmd) (i : Fin 4) (h : Handle) (n : Nat) (s : State), Heard p c s → c.op = .bulkWrite → s.bulk[i] = some h → fld (wd c.words 0) 31 24 = i.val + 1 → h.fromMod = false → (∃ r, kindRow h.kind = some r ∧ kindMode h.kind r s = true) → n = min 254 (h.len - h.data.length) → fld (wd c.words 0) 23 0 ≠ h.next →
    ∃ t, Steps (.bulkWrite p) s t ∧ Replied p c 3 0xF031 (h.next % 65536) [] t ∧ SameBut [.host, .maint, .sys, .bulk] s t ∧ (∀ j : Fin 4, j ≠ i → t.bulk[j] = s.bulk[j]) ∧ t.bulk[i] = some { h with last := s.time.mt }) ∧
  (∀ (p : Port) (c : Cmd) (i : Fin 4) (h : Handle) (n : Nat) (s : State), Heard p c s → c.op = .bulkWrite → s.bulk[i] = some h → fld (wd c.words 0) 31 24 = i.val + 1 → h.fromMod = false → (∃ r, kindRow h.kind = some r ∧ kindMode h.kind r s = true) → n = min 254 (h.len - h.data.length) → fld (wd c.words 0) 23 0 = h.next → n < (c.words.drop 1).length →
    ∃ t, Steps (.bulkWrite p) s t ∧ Replied p c 3 0xF032 ((c.words.drop 1).length - n) [] t ∧ SameBut [.host, .maint, .sys, .bulk] s t ∧ (∀ j : Fin 4, j ≠ i → t.bulk[j] = s.bulk[j]) ∧ t.bulk[i] = some { h with last := s.time.mt }) ∧
  (∀ (p : Port) (c : Cmd) (i : Fin 4) (h : Handle) (n : Nat) (s : State), Heard p c s → c.op = .bulkWrite → s.bulk[i] = some h → fld (wd c.words 0) 31 24 = i.val + 1 → h.fromMod = false → (∃ r, kindRow h.kind = some r ∧ kindMode h.kind r s = true) → n = min 254 (h.len - h.data.length) → fld (wd c.words 0) 23 0 = h.next → (c.words.drop 1).length < n →
    ∃ t, Steps (.bulkWrite p) s t ∧ Replied p c 3 0xF032 (n - (c.words.drop 1).length) [] t ∧ SameBut [.host, .maint, .sys, .bulk] s t ∧ (∀ j : Fin 4, j ≠ i → t.bulk[j] = s.bulk[j]) ∧ t.bulk[i] = some { h with last := s.time.mt })

/-- The receive FIFO holds 64 frames; a frame that finds it full is dropped and counted, with EV83 at most once per second. A frame that matches a filter is appended while fewer than 64 are held. With 64 held it is dropped and counted and the frames held stay; EV83 with the controller is raised at the first drop and when a second has passed since the last one raised, and otherwise nothing is raised. Rests on: R362. -/
def Obligations.ReceiveFifoKeepsItsFramesWhenFull : Prop :=
  (∀ (c : Fin 6) (f : CanFrame) (sof : Nat) (i : Fin 32) (s : State), canActive s c = true → ((fins 32).find? fun i => filterHit f (s.can[c]).filters[i]) = some i → (s.can[c]).fifo.length < 64 →
    ∃ t, Steps (.canFrameReceive c (.frame f sof)) s t ∧ (t.can[c]).fifo = (s.can[c]).fifo ++ [{ f := f, stamp := replicaStamp s sof % 2 ^ 48, filter := i.val }] ∧ (t.can[c]).nRxDrop = (s.can[c]).nRxDrop) ∧
  (∀ (c : Fin 6) (f : CanFrame) (sof : Nat) (i : Fin 32) (s : State), canActive s c = true → ((fins 32).find? fun i => filterHit f (s.can[c]).filters[i]) = some i → 64 ≤ (s.can[c]).fifo.length →
    ∃ t, Steps (.canFrameReceive c (.frame f sof)) s t ∧ (t.can[c]).fifo = (s.can[c]).fifo ∧ (t.can[c]).nRxDrop = inc32 (s.can[c]).nRxDrop ∧
      (s.hp.ready = true → (s.can[c]).ovrAt = none → Occurred 83 c.val s t ∧ (t.can[c]).ovrAt = some s.time.mt) ∧
      (∀ m : Nat, (s.can[c]).ovrAt = some m → (s.hp.ready = true → m + secTicks ≤ s.time.mt → Occurred 83 c.val s t ∧ (t.can[c]).ovrAt = some s.time.mt) ∧
        (s.time.mt < m + secTicks → t.ev.src[83] = s.ev.src[83] ∧ (t.can[c]).ovrAt = some m)))

/-- SYS_SET_WAKE takes a budget of 1 to 10,000,000 us at interpretation and refuses any other. With BUDGET_US in range the budget is the one carried, WAKE_REJ stays, and in DORMANT every domain whose exit latency exceeds it, a region failed or cooling apart, starts its exit at once. Out of range the reply is class 3 BAD_VALUE at word 0, and the budget and WAKE_REJ stay. Rests on: R421. -/
def Obligations.WakeBudgetIsSetInRangeOnly : Prop :=
  (∀ (p : Port) (c : Cmd) (b : Nat) (s : State), Heard p c s → c.op = .sysSetWake → c.words.length = 1 → b = fld (wd c.words 0) 23 0 →
    ∃ t, Steps (.sysSetWake p) s t ∧ Replied p c 0 0 0 [] t ∧ SameBut [.host, .maint, .hp, .sys] s t ∧ t.hp = { s.hp with wakeBudget := b } ∧ 1 ≤ b ∧ b ≤ 10000000 ∧
      ∀ d : Fin 12, t.sys.exiting[d] = (s.sys.exiting[d] || (budgeted s d && decide (b < exitUs d s.sys.dom[d])))) ∧
  (∀ (p : Port) (c : Cmd) (w : Word) (o : Outst) (s : State), (s.port p).accepted = some c → c.ecc = [] → c.op = .sysSetWake → c.words = [w] →
    findTag (s.port p) c.tag = some o → o.done = false → o.op = c.op → fld w 23 0 = 0 ∨ 10000000 < fld w 23 0 →
    ∃ t, Steps (.sysSetWake p) s t ∧ Replied p c 3 0xF016 0 [] t ∧ SameBut [.host, .maint, .sys] s t ∧ t.sys.exiting = s.sys.exiting)

/-- TIME_SET_ALARM replaces the setting of its alarm and clears nothing in RTC_CTL; a one-shot that is not in the future is refused. KIND 0, 1 and 2 with valid fields replace the setting of the alarm named and leave the other alarm and every bit of RTC_CTL; a one-shot whose instant is at or before the live time is refused with class 3 ALARM_PAST and the setting stays. Rests on: R102. -/
def Obligations.AlarmSettingsReplaceOrStay : Prop :=
  (∀ (p : Port) (c : Cmd) (i : Fin 2) (s : State), Heard p c s → c.op = .timeSetAlarm → fld (wd c.words 0) 9 8 = 0 → i.val = b2n (bit (wd c.words 0) 0) →
    ∃ t, Steps (.timeSetAlarm p) s t ∧ Replied p c 0 0 0 [] t ∧ rtcCtl t.time = rtcCtl s.time ∧ (∀ j : Fin 2, j ≠ i → t.time.alarm[j] = s.time.alarm[j]) ∧
      t.time.alarm[i] = { s.time.alarm[i] with kind := 0, armed := false, date := 0, time := 0, from_ := s.time.rtc + 1 }) ∧
  (∀ (p : Port) (c : Cmd) (i : Fin 2) (s : State), Heard p c s → c.op = .timeSetAlarm → fld (wd c.words 0) 9 8 = 1 ∨ fld (wd c.words 0) 9 8 = 2 → i.val = b2n (bit (wd c.words 0) 0) →
    (fld (wd c.words 0) 9 8 = 1 → validDate (fld (wd c.words 1) 31 16) (fld (wd c.words 1) 15 8) (fld (wd c.words 1) 7 0) = true ∧ s.time.rtc < alarmInstant (wd c.words 1) (wd c.words 2)) →
    wd c.words 2 &&& 0xFFE0C0C0 = 0 → validTime (fld (wd c.words 2) 20 16) (fld (wd c.words 2) 13 8) (fld (wd c.words 2) 5 0) = true →
    ∃ t, Steps (.timeSetAlarm p) s t ∧ Replied p c 0 0 0 [] t ∧ rtcCtl t.time = rtcCtl s.time ∧ (∀ j : Fin 2, j ≠ i → t.time.alarm[j] = s.time.alarm[j]) ∧
      t.time.alarm[i] = { s.time.alarm[i] with kind := fld (wd c.words 0) 9 8, armed := true, date := (if fld (wd c.words 0) 9 8 = 1 then wd c.words 1 else 0), time := wd c.words 2, from_ := s.time.rtc + 1 }) ∧
  (∀ (p : Port) (c : Cmd) (s : State), Heard p c s → c.op = .timeSetAlarm → fld (wd c.words 0) 9 8 = 1 → validDate (fld (wd c.words 1) 31 16) (fld (wd c.words 1) 15 8) (fld (wd c.words 1) 7 0) = true →
    wd c.words 2 &&& 0xFFE0C0C0 = 0 → validTime (fld (wd c.words 2) 20 16) (fld (wd c.words 2) 13 8) (fld (wd c.words 2) 5 0) = true → alarmInstant (wd c.words 1) (wd c.words 2) ≤ s.time.rtc →
    ∃ t, Steps (.timeSetAlarm p) s t ∧ AnswersOnly p c 3 0x1012 0 [] s t)

/-- Each stream and instance has one subscriber, replaced from either port, stopped by a rate of 0, and ended by every reset. Every stream command makes its port the subscriber of its stream and instance, whichever port held it before, or leaves none with rate, decimation, mask or enable 0; every other stream and instance stays. That of the estimate changes at the next frame boundary (R178). After the start of a reset by command, pin, watchdog (at once or after its delay) or Kiln, and at the supply loss before a power-on, there is no subscription. Rests on: R416. -/
def Obligations.OneSubscriberPerStreamUntilReset : Prop :=
  (∀ (p : Port) (c : Cmd) (s : State), Heard p c s → c.op = .fusStateStream →
    ∃ t, Steps (.fusStateStream p) s t ∧ Replied p c 0 0 0 [] t ∧ t.fus.streamReq = some (p, fld (wd c.words 0) 7 0) ∧ t.subs = s.subs) ∧
  (∀ (temps : Vector Int 4) (p : Port) (d : Nat) (s : State), s.sys.vmain = true → s.time.mtRun = true → s.hp.ready = true → s.fus.streamReq = some (p, d) →
    ∃ t, Steps (.frameBoundary temps) s t ∧ t.sub 0x3A0 0 = (if d = 0 then none else some { stream := 0x3A0, inst := 0, port := p, decim := d, arg := 0 }) ∧ (∀ x y, x ≠ 0x3A0 → t.sub x y = s.sub x y) ∧ t.fus.streamReq = none) ∧
  (∀ (p : Port) (c : Cmd) (s : State), Heard p c s → c.op = .dpcStateStream → 
    ∃ t, Steps (.dpcStateStream p) s t ∧ Replied p c 0 0 0 [] t ∧ SameBut [.host, .maint, .sys, .subs] s t ∧ Subscribed 0x5A0 (0) p (fld (wd c.words 0) 7 0) (0) s t) ∧
  (∀ (p : Port) (c : Cmd) (s : State), Heard p c s → c.op = .allocStateStream → 
    ∃ t, Steps (.allocStateStream p) s t ∧ Replied p c 0 0 0 [] t ∧ SameBut [.host, .maint, .sys, .subs] s t ∧ Subscribed 0x6A0 (0) p (fld (wd c.words 0) 7 0) (0) s t) ∧
  (∀ (p : Port) (c : Cmd) (s : State), Heard p c s → c.op = .fusSensorStream → 
    ∃ t, Steps (.fusSensorStream p) s t ∧ Replied p c 0 0 0 [] t ∧ SameBut [.host, .maint, .sys, .subs] s t ∧ Subscribed 0x3B0 (0) p (if fld (wd c.words 0) 21 0 = 0 then 0 else 1) (fld (wd c.words 0) 21 0) s t) ∧
  (∀ (p : Port) (c : Cmd) (s : State), Heard p c s → c.op = .busStream → fld (wd c.words 0) 7 4 = 0 → fld (wd c.words 0) 3 0 ≤ 5 →
    ∃ t, Steps (.busStream p) s t ∧ Replied p c 0 0 0 [] t ∧ SameBut [.host, .maint, .sys, .subs] s t ∧ Subscribed 0x8A0 (fld (wd c.words 0) 3 0) p (b2n (bit (wd c.words 0) 8)) (0) s t) ∧
  (∀ (p : Port) (c : Cmd) (s : State), Heard p c s → c.op = .busStream → fld (wd c.words 0) 7 4 = 1 → fld (wd c.words 0) 3 0 ≤ 9 →
    ∃ t, Steps (.busStream p) s t ∧ Replied p c 0 0 0 [] t ∧ SameBut [.host, .maint, .sys, .subs] s t ∧ Subscribed 0x8A4 (fld (wd c.words 0) 3 0) p (b2n (bit (wd c.words 0) 8)) (0) s t) ∧
  (∀ (p : Port) (c : Cmd) (s : State), Heard p c s → c.op = .gnssStream → fld (wd c.words 0) 1 0 = 3 →
    ∃ t, Steps (.gnssStream p) s t ∧ Replied p c 0 0 0 [] t ∧ SameBut [.host, .maint, .sys, .subs] s t ∧ Subscribed 0x2AC (0) p (fld (wd c.words 0) 23 16) (0) s t) ∧
  (∀ (p : Port) (c : Cmd) (b : Fin 2) (k : Nat) (s : State), Heard p c s → c.op = .gnssStream → bit (wd c.words 0) (8 + b.val) = true → k = fld (wd c.words 0) 1 0 → k ≠ 3 →
    ∃ t, Steps (.gnssStream p) s t ∧ Replied p c 0 0 0 [] t ∧ t.sub (0x2A0 + 4 * k) b.val = (if fld (wd c.words 0) 23 16 = 0 then none else some { stream := 0x2A0 + 4 * k, inst := b.val, port := p, decim := fld (wd c.words 0) 23 16, arg := 0 }) ∧
      (∀ x y, x ≠ 0x2A0 + 4 * k → t.sub x y = s.sub x y)) ∧
  (∀ (p : Port) (c : Cmd) (s : State), Heard p c s → c.op = .sysReset → s.sys.vmain = true → withinReset s = false →
    ∃ t, Steps (.sysReset p) s t ∧ t.subs = []) ∧
  (∀ (n : Nat) (s : State), 1000 ≤ n → s.sys.rstLow = false → s.sys.vmain = true → withinReset s = false → ∃ t, Steps (.rstNAssert n) s t ∧ t.subs = []) ∧
  (∀ s : State, s.hp.ready = true → s.sys.wdDelay = none → partnerWasReady s = false → s.sys.vmain = true → withinReset s = false → ∃ t, Steps .watchdogExpiry s t ∧ t.subs = []) ∧
  (∀ (n : Nat) (s : State), s.sys.wdDelay = some n → s.sys.vmain = true → withinReset s = false → ∃ t, Steps .watchdogResetDelayEnd s t ∧ t.subs = []) ∧
  (∀ (n : Nat) (s : State), s.kiln.cdBadSince = some n → s.kiln.cdBad = false → s.kiln.st ≠ .off → s.sys.vmain = true → withinReset s = false → ∃ t, Steps .cdInconsistent s t ∧ t.subs = []) ∧
  (∀ (fate : SlotFate) (s : State), s.sys.vmain = true → ∃ t, Steps (.vmainLoss fate) s t ∧ t.subs = [])

/-- An occurrence sets the pending bit whatever the route; a line is low exactly while a source routed to it is pending and enabled. Every occurrence that the firmware sees sets the pending bit of its source and no enable or route. IRQ0_N (route 1) and IRQ1_N (route 2) are low exactly while some source routed there has its pending and its enable bit. After the host writes every enable of the four registers 0, both are high; after a reset both are high. Rests on: R64, R404, R405. -/
def Obligations.PendingEnabledRoutedSourcesPullTheirLine : Prop :=
  (∀ (n : Fin 128) (d : Nat) (s : State), s.hp.ready = true → ((raise n d s).ev.src[n]).pend = true ∧ ((raise n d s).ev.src[n]).line = (s.ev.src[n]).line ∧ ((raise n d s).ev.src[n]).mask = (s.ev.src[n]).mask ∧
    (∀ m : Fin 128, (s.ev.src[m]).pend = true → ((raise n d s).ev.src[m]).pend = true)) ∧
  (∀ (l : Nat) (s : State), irqLow l s = true ↔ ∃ n : Fin 128, (s.ev.src[n]).pend = true ∧ (s.ev.src[n]).mask = true ∧ (s.ev.src[n]).line = l) ∧
  (∀ (n : Fin 4) (l : Nat) (s : State), s.sys.vmain = true → (∀ i : Fin 128, i.val / 32 ≠ n.val → (s.ev.src[i]).mask = false) → ∃ t, Steps (.hpImskWrite n 0) s t ∧ irqLow l t = false) ∧
  irqLow 1 State.reset = false ∧ irqLow 2 State.reset = false

/-- What a read of the register window returns: the value held, or zero at a write-only and at an unassigned address. HP_CMDQ and every unassigned word address read zero. A backup word reads as last written and a staging register as the bits it has; HP_WAKE reads the budget last accepted; an interrupt enable reads as written; none of these writes changes what any other of these addresses reads. A write to an unassigned address is acknowledged and changes nothing. Without VMAIN the lines are high-impedance and no access does anything. Rests on: R6, R31, R32, R63, Table 2-10, Table 2-18. -/
def Obligations.WindowReadsReturnTheRegisterWritten : Prop :=
  (∀ s : State, regRead 2 s = 0) ∧
  (∀ (a : Nat) (s : State), a = 31 ∨ 48 ≤ a → regRead a s = 0) ∧
  (∀ (a : BitVec 8) (v : Word) (s : State), s.sys.vmain = true → a.toNat = 31 ∨ 48 ≤ a.toNat → ∃ t, Steps (.registerWrite a v) s t ∧ SameBut [.hp] s t ∧ t.hp = { s.hp with acked := true }) ∧
  (∀ (a : BitVec 8) (i : Fin 16) (v : Word) (s : State), s.sys.vmain = true → a.toNat = 32 + i.val →
    ∃ t, Steps (.registerWrite a v) s t ∧ SameBut [.hp, .time] s t ∧ regRead (32 + i.val) t = v ∧ ∀ b : Nat, b ≠ 32 + i.val → regRead b t = regRead b s) ∧
  (∀ (a : BitVec 8) (i : Fin 7) (v : Word) (s : State), s.sys.vmain = true → a.toNat = 24 + i.val →
    ∃ t, Steps (.registerWrite a v) s t ∧ SameBut [.hp, .time] s t ∧ regRead (24 + i.val) t = ofN (v.toNat % 2 ^ stgWidth.getD i.val 0) ∧ ∀ b : Nat, b ≠ 24 + i.val → regRead b t = regRead b s) ∧
  (∀ (v : Word) (s : State), s.sys.vmain = true → 1 ≤ fld v 23 0 → fld v 23 0 ≤ 10000000 → ∃ t, Steps (.hpWakeWrite v) s t ∧ regRead 7 t = ofN (fld v 23 0) ∧ ∀ b : Nat, b ≠ 7 → regRead b t = regRead b s) ∧
  (∀ (v : Word) (s : State), s.sys.vmain = true → fld v 23 0 = 0 ∨ 10000000 < fld v 23 0 → ∃ t, Steps (.hpWakeWrite v) s t ∧ regRead 7 t = regRead 7 s ∧ t.hp.wakeRej = true ∧ t.sys = s.sys) ∧
  (∀ (n : Fin 4) (v : Word) (s : State), s.sys.vmain = true → ∃ t, Steps (.hpImskWrite n v) s t ∧ regRead (12 + n.val) t = v ∧ ∀ b : Nat, b ≠ 12 + n.val → regRead b t = regRead b s) ∧
  (∀ (a : BitVec 8) (v : Word) (s : State), s.sys.vmain = false → ackLine s = .highZ ∧ irqLine 1 s = .highZ ∧ irqLine 2 s = .highZ ∧ Steps (.registerWrite a v) s s ∧ Steps (.hpCmdqWrite v .ok) s s ∧ Steps (.hpRspqRead .ok) s s)

/-- Conversions between the lanes and Q-format, bounds at their ends, pivots, and the end of a problem at an infinity or NaN. A store rounds the lane value times 2^F to an integer to nearest, a tie to even, and saturates at the ends of the signed 64-bit range; an infinity or NaN stores nothing and fails the problem at its KKT index, after which no lane operation changes anything. A loaded value of up to 2^53 is stored back as it was. A lower bound at the lowest value and an upper bound at the highest are no bound. A pivot below tau max|diag|, or zero, is replaced by that product with its sign or the one required, and counted; another stays. Rests on: R180, R184, R185, R189, R199, R200. -/
def Obligations.LaneValuesAreStoredRoundedAndSaturated : Prop :=
  (∀ (f : Int) (x : F64), laneOf x = .nan ∨ (∃ neg, laneOf x = .inf neg) → storeQ f x = none) ∧
  (∀ (f e v : Int) (x : F64) (neg : Bool) (m : Nat), laneOf x = .fin neg m e → v = (if neg then -(m : Int) else m) → 0 ≤ e + f → storeQ f x = some (toRange (v * 2 ^ (e + f).toNat))) ∧
  (∀ (f e v : Int) (x : F64) (neg : Bool) (m d : Nat), laneOf x = .fin neg m e → v = (if neg then -(m : Int) else m) → e + f < 0 → d = 2 ^ (-(e + f)).toNat → ∃ n : Int, storeQ f x = some (toRange n) ∧
      2 * (n * d - v).natAbs ≤ d ∧ (2 * (n * d - v).natAbs = d → n % 2 = 0)) ∧
  (∀ n : Int, (-(2 ^ 63) ≤ n → n < 2 ^ 63 → toRange n = (n, false)) ∧ (n < -(2 ^ 63) → toRange n = (-(2 ^ 63), true)) ∧ (2 ^ 63 ≤ n → toRange n = (2 ^ 63 - 1, true))) ∧
  (∀ f n : Int, -32 ≤ f → f ≤ 96 → n.natAbs ≤ 2 ^ 53 → storeQ f (loadQ f n) = some (n, false)) ∧
  (∀ (x : Struct) (row : Nat), laneOf (laneLoad x 4 row (-(2 ^ 63))) = .inf true ∧ laneOf (laneLoad x 5 row (2 ^ 63 - 1)) = .inf false) ∧
  (∀ (x : Struct) (tau : F64) (o : LaneOp) (l : LaneSt), l.fail ≠ none → laneStep x tau o l = l) ∧
  (∀ (x : Struct) (tau : F64) (q r a kkt : Nat) (l : LaneSt), l.fail = none → storeQ (fmtAt x q r) (laneReg l a) = none → laneStep x tau (.store q r a kkt) l = { l with fail := some kkt }) ∧
  (∀ (x : Struct) (tau : F64) (q r a kkt : Nat) (n : Int) (sat : Bool) (l : LaneSt), l.fail = none → storeQ (fmtAt x q r) (laneReg l a) = some (n, sat) →
    laneVal (laneStep x tau (.store q r a kkt) l) q r 0 = n ∧ (laneStep x tau (.store q r a kkt) l).sats = (if sat then [(q, r)] else []) ++ l.sats) ∧
  (∀ (tau : F64) (sign : Fin 3) (diag : List F64) (p lim : F64), lim = fmaF tau (diag.foldl (fun m d => if ltAbs m d then absF d else m) 0) 0 →
    (ltAbs p lim = false → absF p ≠ 0 → treatPivot tau sign diag p = (p, false)) ∧
    (ltAbs p lim = true ∨ absF p = 0 → (treatPivot tau sign diag p).2 = true ∧ absF (treatPivot tau sign diag p).1 = absF lim ∧
      (sign = 2 → (treatPivot tau sign diag p).1 = lim ^^^ 0x8000000000000000#64) ∧ (sign = 1 → (treatPivot tau sign diag p).1 = lim) ∧
      (sign = 0 → absF p = 0 → (treatPivot tau sign diag p).1 = lim)))

/-- The 10-bit week resolves into the 1,024 weeks from the base week of the running image. For every image and 10-bit week the resolved week lies in the window of 1,024 weeks that starts at the image's base week and agrees with the 10 bits modulo 1,024. Rests on: R110. -/
def Obligations.WeekIsResolvedIntoTheWindowOfTheImage : Prop :=
  (∀ (im : Fin 2) (w : Nat), w < 1024 → (Config.baseWeek im).toNat ≤ resolveWeek im w ∧ resolveWeek im w < (Config.baseWeek im).toNat + 1024 ∧ resolveWeek im w % 1024 = w)
end

