-- ==== Sys2Proof/Laws/Bits.lean ====
section
/-! SUPPORT. Elements of the vectors that the operations build. -/

namespace Sys2Proof.Machine

@[simp] theorem vmapI_getElem {α β : Type} {n : Nat} (v : Vector α n) (f : Fin n → α → β) (i : Nat) (h : i < n) :
    (vmapI v f)[i] = f ⟨i, h⟩ v[i] := by simp [vmapI]

@[simp] theorem vmap_getElem {α β : Type} {n : Nat} (v : Vector α n) (f : α → β) (i : Nat) (h : i < n) : (vmap v f)[i] = f v[i] := by
  simp [vmap]

theorem upd_getElem {α : Type} {n : Nat} (v : Vector α n) (i : Fin n) (f : α → α) (j : Nat) (h : j < n) :
    (upd v i f)[j] = if i.val = j then f v[j] else v[j] := by
  simp only [upd, Fin.getElem_fin, Vector.getElem_set]
  split
  · subst_vars; rfl
  · rfl

@[simp] theorem upd_getElem_self {α : Type} {n : Nat} (v : Vector α n) (i : Fin n) (f : α → α) : (upd v i f)[i.val] = f v[i.val] := by
  simp [upd_getElem]

theorem upd_getElem_ne {α : Type} {n : Nat} (v : Vector α n) (i j : Fin n) (f : α → α) (h : j ≠ i) : (upd v i f)[j.val] = v[j.val] := by
  rw [upd_getElem, if_neg]; intro e; exact h (Fin.ext e.symm)

@[simp] theorem fin?_val {n : Nat} (i : Fin n) : fin? n i.val = some i := by simp [fin?]

theorem fin?_eq {n k : Nat} {i : Fin n} (h : i.val = k) : fin? n k = some i := by subst h; simp

end Sys2Proof.Machine
end

