-- ==== Sys2Proof/Laws/State.lean ====
section
/-! SUPPORT. One lemma per field and update of State, each true by rfl: a later proof unfolds no record update. -/

namespace Sys2Proof.Machine

@[simp] theorem State.onHost_host (s : State) (f) : (s.onHost f).host = f s.host := rfl
@[simp] theorem State.onHost_maint (s : State) (f) : (s.onHost f).maint = s.maint := rfl
@[simp] theorem State.onHost_hp (s : State) (f) : (s.onHost f).hp = s.hp := rfl
@[simp] theorem State.onHost_ev (s : State) (f) : (s.onHost f).ev = s.ev := rfl
@[simp] theorem State.onHost_sys (s : State) (f) : (s.onHost f).sys = s.sys := rfl
@[simp] theorem State.onHost_time (s : State) (f) : (s.onHost f).time = s.time := rfl
@[simp] theorem State.onHost_gnss (s : State) (f) : (s.onHost f).gnss = s.gnss := rfl
@[simp] theorem State.onHost_fir (s : State) (f) : (s.onHost f).fir = s.fir := rfl
@[simp] theorem State.onHost_fus (s : State) (f) : (s.onHost f).fus = s.fus := rfl
@[simp] theorem State.onHost_solv (s : State) (f) : (s.onHost f).solv = s.solv := rfl
@[simp] theorem State.onHost_dpc (s : State) (f) : (s.onHost f).dpc = s.dpc := rfl
@[simp] theorem State.onHost_alloc (s : State) (f) : (s.onHost f).alloc = s.alloc := rfl
@[simp] theorem State.onHost_loop (s : State) (f) : (s.onHost f).loop = s.loop := rfl
@[simp] theorem State.onHost_kiln (s : State) (f) : (s.onHost f).kiln = s.kiln := rfl
@[simp] theorem State.onHost_dpx (s : State) (f) : (s.onHost f).dpx = s.dpx := rfl
@[simp] theorem State.onHost_can (s : State) (f) : (s.onHost f).can = s.can := rfl
@[simp] theorem State.onHost_uart (s : State) (f) : (s.onHost f).uart = s.uart := rfl
@[simp] theorem State.onHost_mnt (s : State) (f) : (s.onHost f).mnt = s.mnt := rfl
@[simp] theorem State.onHost_tap (s : State) (f) : (s.onHost f).tap = s.tap := rfl
@[simp] theorem State.onHost_cfg (s : State) (f) : (s.onHost f).cfg = s.cfg := rfl
@[simp] theorem State.onHost_log (s : State) (f) : (s.onHost f).log = s.log := rfl
@[simp] theorem State.onHost_bulk (s : State) (f) : (s.onHost f).bulk = s.bulk := rfl
@[simp] theorem State.onHost_subs (s : State) (f) : (s.onHost f).subs = s.subs := rfl
@[simp] theorem State.onHost_free (s : State) (f) : (s.onHost f).free = s.free := rfl
@[simp] theorem State.onHost_pending (s : State) (f) : (s.onHost f).pending = s.pending := rfl

@[simp] theorem State.onMaint_host (s : State) (f) : (s.onMaint f).host = s.host := rfl
@[simp] theorem State.onMaint_maint (s : State) (f) : (s.onMaint f).maint = f s.maint := rfl
@[simp] theorem State.onMaint_hp (s : State) (f) : (s.onMaint f).hp = s.hp := rfl
@[simp] theorem State.onMaint_ev (s : State) (f) : (s.onMaint f).ev = s.ev := rfl
@[simp] theorem State.onMaint_sys (s : State) (f) : (s.onMaint f).sys = s.sys := rfl
@[simp] theorem State.onMaint_time (s : State) (f) : (s.onMaint f).time = s.time := rfl
@[simp] theorem State.onMaint_gnss (s : State) (f) : (s.onMaint f).gnss = s.gnss := rfl
@[simp] theorem State.onMaint_fir (s : State) (f) : (s.onMaint f).fir = s.fir := rfl
@[simp] theorem State.onMaint_fus (s : State) (f) : (s.onMaint f).fus = s.fus := rfl
@[simp] theorem State.onMaint_solv (s : State) (f) : (s.onMaint f).solv = s.solv := rfl
@[simp] theorem State.onMaint_dpc (s : State) (f) : (s.onMaint f).dpc = s.dpc := rfl
@[simp] theorem State.onMaint_alloc (s : State) (f) : (s.onMaint f).alloc = s.alloc := rfl
@[simp] theorem State.onMaint_loop (s : State) (f) : (s.onMaint f).loop = s.loop := rfl
@[simp] theorem State.onMaint_kiln (s : State) (f) : (s.onMaint f).kiln = s.kiln := rfl
@[simp] theorem State.onMaint_dpx (s : State) (f) : (s.onMaint f).dpx = s.dpx := rfl
@[simp] theorem State.onMaint_can (s : State) (f) : (s.onMaint f).can = s.can := rfl
@[simp] theorem State.onMaint_uart (s : State) (f) : (s.onMaint f).uart = s.uart := rfl
@[simp] theorem State.onMaint_mnt (s : State) (f) : (s.onMaint f).mnt = s.mnt := rfl
@[simp] theorem State.onMaint_tap (s : State) (f) : (s.onMaint f).tap = s.tap := rfl
@[simp] theorem State.onMaint_cfg (s : State) (f) : (s.onMaint f).cfg = s.cfg := rfl
@[simp] theorem State.onMaint_log (s : State) (f) : (s.onMaint f).log = s.log := rfl
@[simp] theorem State.onMaint_bulk (s : State) (f) : (s.onMaint f).bulk = s.bulk := rfl
@[simp] theorem State.onMaint_subs (s : State) (f) : (s.onMaint f).subs = s.subs := rfl
@[simp] theorem State.onMaint_free (s : State) (f) : (s.onMaint f).free = s.free := rfl
@[simp] theorem State.onMaint_pending (s : State) (f) : (s.onMaint f).pending = s.pending := rfl

@[simp] theorem State.onHp_host (s : State) (f) : (s.onHp f).host = s.host := rfl
@[simp] theorem State.onHp_maint (s : State) (f) : (s.onHp f).maint = s.maint := rfl
@[simp] theorem State.onHp_hp (s : State) (f) : (s.onHp f).hp = f s.hp := rfl
@[simp] theorem State.onHp_ev (s : State) (f) : (s.onHp f).ev = s.ev := rfl
@[simp] theorem State.onHp_sys (s : State) (f) : (s.onHp f).sys = s.sys := rfl
@[simp] theorem State.onHp_time (s : State) (f) : (s.onHp f).time = s.time := rfl
@[simp] theorem State.onHp_gnss (s : State) (f) : (s.onHp f).gnss = s.gnss := rfl
@[simp] theorem State.onHp_fir (s : State) (f) : (s.onHp f).fir = s.fir := rfl
@[simp] theorem State.onHp_fus (s : State) (f) : (s.onHp f).fus = s.fus := rfl
@[simp] theorem State.onHp_solv (s : State) (f) : (s.onHp f).solv = s.solv := rfl
@[simp] theorem State.onHp_dpc (s : State) (f) : (s.onHp f).dpc = s.dpc := rfl
@[simp] theorem State.onHp_alloc (s : State) (f) : (s.onHp f).alloc = s.alloc := rfl
@[simp] theorem State.onHp_loop (s : State) (f) : (s.onHp f).loop = s.loop := rfl
@[simp] theorem State.onHp_kiln (s : State) (f) : (s.onHp f).kiln = s.kiln := rfl
@[simp] theorem State.onHp_dpx (s : State) (f) : (s.onHp f).dpx = s.dpx := rfl
@[simp] theorem State.onHp_can (s : State) (f) : (s.onHp f).can = s.can := rfl
@[simp] theorem State.onHp_uart (s : State) (f) : (s.onHp f).uart = s.uart := rfl
@[simp] theorem State.onHp_mnt (s : State) (f) : (s.onHp f).mnt = s.mnt := rfl
@[simp] theorem State.onHp_tap (s : State) (f) : (s.onHp f).tap = s.tap := rfl
@[simp] theorem State.onHp_cfg (s : State) (f) : (s.onHp f).cfg = s.cfg := rfl
@[simp] theorem State.onHp_log (s : State) (f) : (s.onHp f).log = s.log := rfl
@[simp] theorem State.onHp_bulk (s : State) (f) : (s.onHp f).bulk = s.bulk := rfl
@[simp] theorem State.onHp_subs (s : State) (f) : (s.onHp f).subs = s.subs := rfl
@[simp] theorem State.onHp_free (s : State) (f) : (s.onHp f).free = s.free := rfl
@[simp] theorem State.onHp_pending (s : State) (f) : (s.onHp f).pending = s.pending := rfl

@[simp] theorem State.onEv_host (s : State) (f) : (s.onEv f).host = s.host := rfl
@[simp] theorem State.onEv_maint (s : State) (f) : (s.onEv f).maint = s.maint := rfl
@[simp] theorem State.onEv_hp (s : State) (f) : (s.onEv f).hp = s.hp := rfl
@[simp] theorem State.onEv_ev (s : State) (f) : (s.onEv f).ev = f s.ev := rfl
@[simp] theorem State.onEv_sys (s : State) (f) : (s.onEv f).sys = s.sys := rfl
@[simp] theorem State.onEv_time (s : State) (f) : (s.onEv f).time = s.time := rfl
@[simp] theorem State.onEv_gnss (s : State) (f) : (s.onEv f).gnss = s.gnss := rfl
@[simp] theorem State.onEv_fir (s : State) (f) : (s.onEv f).fir = s.fir := rfl
@[simp] theorem State.onEv_fus (s : State) (f) : (s.onEv f).fus = s.fus := rfl
@[simp] theorem State.onEv_solv (s : State) (f) : (s.onEv f).solv = s.solv := rfl
@[simp] theorem State.onEv_dpc (s : State) (f) : (s.onEv f).dpc = s.dpc := rfl
@[simp] theorem State.onEv_alloc (s : State) (f) : (s.onEv f).alloc = s.alloc := rfl
@[simp] theorem State.onEv_loop (s : State) (f) : (s.onEv f).loop = s.loop := rfl
@[simp] theorem State.onEv_kiln (s : State) (f) : (s.onEv f).kiln = s.kiln := rfl
@[simp] theorem State.onEv_dpx (s : State) (f) : (s.onEv f).dpx = s.dpx := rfl
@[simp] theorem State.onEv_can (s : State) (f) : (s.onEv f).can = s.can := rfl
@[simp] theorem State.onEv_uart (s : State) (f) : (s.onEv f).uart = s.uart := rfl
@[simp] theorem State.onEv_mnt (s : State) (f) : (s.onEv f).mnt = s.mnt := rfl
@[simp] theorem State.onEv_tap (s : State) (f) : (s.onEv f).tap = s.tap := rfl
@[simp] theorem State.onEv_cfg (s : State) (f) : (s.onEv f).cfg = s.cfg := rfl
@[simp] theorem State.onEv_log (s : State) (f) : (s.onEv f).log = s.log := rfl
@[simp] theorem State.onEv_bulk (s : State) (f) : (s.onEv f).bulk = s.bulk := rfl
@[simp] theorem State.onEv_subs (s : State) (f) : (s.onEv f).subs = s.subs := rfl
@[simp] theorem State.onEv_free (s : State) (f) : (s.onEv f).free = s.free := rfl
@[simp] theorem State.onEv_pending (s : State) (f) : (s.onEv f).pending = s.pending := rfl

@[simp] theorem State.onSys_host (s : State) (f) : (s.onSys f).host = s.host := rfl
@[simp] theorem State.onSys_maint (s : State) (f) : (s.onSys f).maint = s.maint := rfl
@[simp] theorem State.onSys_hp (s : State) (f) : (s.onSys f).hp = s.hp := rfl
@[simp] theorem State.onSys_ev (s : State) (f) : (s.onSys f).ev = s.ev := rfl
@[simp] theorem State.onSys_sys (s : State) (f) : (s.onSys f).sys = f s.sys := rfl
@[simp] theorem State.onSys_time (s : State) (f) : (s.onSys f).time = s.time := rfl
@[simp] theorem State.onSys_gnss (s : State) (f) : (s.onSys f).gnss = s.gnss := rfl
@[simp] theorem State.onSys_fir (s : State) (f) : (s.onSys f).fir = s.fir := rfl
@[simp] theorem State.onSys_fus (s : State) (f) : (s.onSys f).fus = s.fus := rfl
@[simp] theorem State.onSys_solv (s : State) (f) : (s.onSys f).solv = s.solv := rfl
@[simp] theorem State.onSys_dpc (s : State) (f) : (s.onSys f).dpc = s.dpc := rfl
@[simp] theorem State.onSys_alloc (s : State) (f) : (s.onSys f).alloc = s.alloc := rfl
@[simp] theorem State.onSys_loop (s : State) (f) : (s.onSys f).loop = s.loop := rfl
@[simp] theorem State.onSys_kiln (s : State) (f) : (s.onSys f).kiln = s.kiln := rfl
@[simp] theorem State.onSys_dpx (s : State) (f) : (s.onSys f).dpx = s.dpx := rfl
@[simp] theorem State.onSys_can (s : State) (f) : (s.onSys f).can = s.can := rfl
@[simp] theorem State.onSys_uart (s : State) (f) : (s.onSys f).uart = s.uart := rfl
@[simp] theorem State.onSys_mnt (s : State) (f) : (s.onSys f).mnt = s.mnt := rfl
@[simp] theorem State.onSys_tap (s : State) (f) : (s.onSys f).tap = s.tap := rfl
@[simp] theorem State.onSys_cfg (s : State) (f) : (s.onSys f).cfg = s.cfg := rfl
@[simp] theorem State.onSys_log (s : State) (f) : (s.onSys f).log = s.log := rfl
@[simp] theorem State.onSys_bulk (s : State) (f) : (s.onSys f).bulk = s.bulk := rfl
@[simp] theorem State.onSys_subs (s : State) (f) : (s.onSys f).subs = s.subs := rfl
@[simp] theorem State.onSys_free (s : State) (f) : (s.onSys f).free = s.free := rfl
@[simp] theorem State.onSys_pending (s : State) (f) : (s.onSys f).pending = s.pending := rfl

@[simp] theorem State.onTime_host (s : State) (f) : (s.onTime f).host = s.host := rfl
@[simp] theorem State.onTime_maint (s : State) (f) : (s.onTime f).maint = s.maint := rfl
@[simp] theorem State.onTime_hp (s : State) (f) : (s.onTime f).hp = s.hp := rfl
@[simp] theorem State.onTime_ev (s : State) (f) : (s.onTime f).ev = s.ev := rfl
@[simp] theorem State.onTime_sys (s : State) (f) : (s.onTime f).sys = s.sys := rfl
@[simp] theorem State.onTime_time (s : State) (f) : (s.onTime f).time = f s.time := rfl
@[simp] theorem State.onTime_gnss (s : State) (f) : (s.onTime f).gnss = s.gnss := rfl
@[simp] theorem State.onTime_fir (s : State) (f) : (s.onTime f).fir = s.fir := rfl
@[simp] theorem State.onTime_fus (s : State) (f) : (s.onTime f).fus = s.fus := rfl
@[simp] theorem State.onTime_solv (s : State) (f) : (s.onTime f).solv = s.solv := rfl
@[simp] theorem State.onTime_dpc (s : State) (f) : (s.onTime f).dpc = s.dpc := rfl
@[simp] theorem State.onTime_alloc (s : State) (f) : (s.onTime f).alloc = s.alloc := rfl
@[simp] theorem State.onTime_loop (s : State) (f) : (s.onTime f).loop = s.loop := rfl
@[simp] theorem State.onTime_kiln (s : State) (f) : (s.onTime f).kiln = s.kiln := rfl
@[simp] theorem State.onTime_dpx (s : State) (f) : (s.onTime f).dpx = s.dpx := rfl
@[simp] theorem State.onTime_can (s : State) (f) : (s.onTime f).can = s.can := rfl
@[simp] theorem State.onTime_uart (s : State) (f) : (s.onTime f).uart = s.uart := rfl
@[simp] theorem State.onTime_mnt (s : State) (f) : (s.onTime f).mnt = s.mnt := rfl
@[simp] theorem State.onTime_tap (s : State) (f) : (s.onTime f).tap = s.tap := rfl
@[simp] theorem State.onTime_cfg (s : State) (f) : (s.onTime f).cfg = s.cfg := rfl
@[simp] theorem State.onTime_log (s : State) (f) : (s.onTime f).log = s.log := rfl
@[simp] theorem State.onTime_bulk (s : State) (f) : (s.onTime f).bulk = s.bulk := rfl
@[simp] theorem State.onTime_subs (s : State) (f) : (s.onTime f).subs = s.subs := rfl
@[simp] theorem State.onTime_free (s : State) (f) : (s.onTime f).free = s.free := rfl
@[simp] theorem State.onTime_pending (s : State) (f) : (s.onTime f).pending = s.pending := rfl

@[simp] theorem State.onGnss_host (s : State) (f) : (s.onGnss f).host = s.host := rfl
@[simp] theorem State.onGnss_maint (s : State) (f) : (s.onGnss f).maint = s.maint := rfl
@[simp] theorem State.onGnss_hp (s : State) (f) : (s.onGnss f).hp = s.hp := rfl
@[simp] theorem State.onGnss_ev (s : State) (f) : (s.onGnss f).ev = s.ev := rfl
@[simp] theorem State.onGnss_sys (s : State) (f) : (s.onGnss f).sys = s.sys := rfl
@[simp] theorem State.onGnss_time (s : State) (f) : (s.onGnss f).time = s.time := rfl
@[simp] theorem State.onGnss_gnss (s : State) (f) : (s.onGnss f).gnss = f s.gnss := rfl
@[simp] theorem State.onGnss_fir (s : State) (f) : (s.onGnss f).fir = s.fir := rfl
@[simp] theorem State.onGnss_fus (s : State) (f) : (s.onGnss f).fus = s.fus := rfl
@[simp] theorem State.onGnss_solv (s : State) (f) : (s.onGnss f).solv = s.solv := rfl
@[simp] theorem State.onGnss_dpc (s : State) (f) : (s.onGnss f).dpc = s.dpc := rfl
@[simp] theorem State.onGnss_alloc (s : State) (f) : (s.onGnss f).alloc = s.alloc := rfl
@[simp] theorem State.onGnss_loop (s : State) (f) : (s.onGnss f).loop = s.loop := rfl
@[simp] theorem State.onGnss_kiln (s : State) (f) : (s.onGnss f).kiln = s.kiln := rfl
@[simp] theorem State.onGnss_dpx (s : State) (f) : (s.onGnss f).dpx = s.dpx := rfl
@[simp] theorem State.onGnss_can (s : State) (f) : (s.onGnss f).can = s.can := rfl
@[simp] theorem State.onGnss_uart (s : State) (f) : (s.onGnss f).uart = s.uart := rfl
@[simp] theorem State.onGnss_mnt (s : State) (f) : (s.onGnss f).mnt = s.mnt := rfl
@[simp] theorem State.onGnss_tap (s : State) (f) : (s.onGnss f).tap = s.tap := rfl
@[simp] theorem State.onGnss_cfg (s : State) (f) : (s.onGnss f).cfg = s.cfg := rfl
@[simp] theorem State.onGnss_log (s : State) (f) : (s.onGnss f).log = s.log := rfl
@[simp] theorem State.onGnss_bulk (s : State) (f) : (s.onGnss f).bulk = s.bulk := rfl
@[simp] theorem State.onGnss_subs (s : State) (f) : (s.onGnss f).subs = s.subs := rfl
@[simp] theorem State.onGnss_free (s : State) (f) : (s.onGnss f).free = s.free := rfl
@[simp] theorem State.onGnss_pending (s : State) (f) : (s.onGnss f).pending = s.pending := rfl

@[simp] theorem State.onFir_host (s : State) (f) : (s.onFir f).host = s.host := rfl
@[simp] theorem State.onFir_maint (s : State) (f) : (s.onFir f).maint = s.maint := rfl
@[simp] theorem State.onFir_hp (s : State) (f) : (s.onFir f).hp = s.hp := rfl
@[simp] theorem State.onFir_ev (s : State) (f) : (s.onFir f).ev = s.ev := rfl
@[simp] theorem State.onFir_sys (s : State) (f) : (s.onFir f).sys = s.sys := rfl
@[simp] theorem State.onFir_time (s : State) (f) : (s.onFir f).time = s.time := rfl
@[simp] theorem State.onFir_gnss (s : State) (f) : (s.onFir f).gnss = s.gnss := rfl
@[simp] theorem State.onFir_fir (s : State) (f) : (s.onFir f).fir = f s.fir := rfl
@[simp] theorem State.onFir_fus (s : State) (f) : (s.onFir f).fus = s.fus := rfl
@[simp] theorem State.onFir_solv (s : State) (f) : (s.onFir f).solv = s.solv := rfl
@[simp] theorem State.onFir_dpc (s : State) (f) : (s.onFir f).dpc = s.dpc := rfl
@[simp] theorem State.onFir_alloc (s : State) (f) : (s.onFir f).alloc = s.alloc := rfl
@[simp] theorem State.onFir_loop (s : State) (f) : (s.onFir f).loop = s.loop := rfl
@[simp] theorem State.onFir_kiln (s : State) (f) : (s.onFir f).kiln = s.kiln := rfl
@[simp] theorem State.onFir_dpx (s : State) (f) : (s.onFir f).dpx = s.dpx := rfl
@[simp] theorem State.onFir_can (s : State) (f) : (s.onFir f).can = s.can := rfl
@[simp] theorem State.onFir_uart (s : State) (f) : (s.onFir f).uart = s.uart := rfl
@[simp] theorem State.onFir_mnt (s : State) (f) : (s.onFir f).mnt = s.mnt := rfl
@[simp] theorem State.onFir_tap (s : State) (f) : (s.onFir f).tap = s.tap := rfl
@[simp] theorem State.onFir_cfg (s : State) (f) : (s.onFir f).cfg = s.cfg := rfl
@[simp] theorem State.onFir_log (s : State) (f) : (s.onFir f).log = s.log := rfl
@[simp] theorem State.onFir_bulk (s : State) (f) : (s.onFir f).bulk = s.bulk := rfl
@[simp] theorem State.onFir_subs (s : State) (f) : (s.onFir f).subs = s.subs := rfl
@[simp] theorem State.onFir_free (s : State) (f) : (s.onFir f).free = s.free := rfl
@[simp] theorem State.onFir_pending (s : State) (f) : (s.onFir f).pending = s.pending := rfl

@[simp] theorem State.onFus_host (s : State) (f) : (s.onFus f).host = s.host := rfl
@[simp] theorem State.onFus_maint (s : State) (f) : (s.onFus f).maint = s.maint := rfl
@[simp] theorem State.onFus_hp (s : State) (f) : (s.onFus f).hp = s.hp := rfl
@[simp] theorem State.onFus_ev (s : State) (f) : (s.onFus f).ev = s.ev := rfl
@[simp] theorem State.onFus_sys (s : State) (f) : (s.onFus f).sys = s.sys := rfl
@[simp] theorem State.onFus_time (s : State) (f) : (s.onFus f).time = s.time := rfl
@[simp] theorem State.onFus_gnss (s : State) (f) : (s.onFus f).gnss = s.gnss := rfl
@[simp] theorem State.onFus_fir (s : State) (f) : (s.onFus f).fir = s.fir := rfl
@[simp] theorem State.onFus_fus (s : State) (f) : (s.onFus f).fus = f s.fus := rfl
@[simp] theorem State.onFus_solv (s : State) (f) : (s.onFus f).solv = s.solv := rfl
@[simp] theorem State.onFus_dpc (s : State) (f) : (s.onFus f).dpc = s.dpc := rfl
@[simp] theorem State.onFus_alloc (s : State) (f) : (s.onFus f).alloc = s.alloc := rfl
@[simp] theorem State.onFus_loop (s : State) (f) : (s.onFus f).loop = s.loop := rfl
@[simp] theorem State.onFus_kiln (s : State) (f) : (s.onFus f).kiln = s.kiln := rfl
@[simp] theorem State.onFus_dpx (s : State) (f) : (s.onFus f).dpx = s.dpx := rfl
@[simp] theorem State.onFus_can (s : State) (f) : (s.onFus f).can = s.can := rfl
@[simp] theorem State.onFus_uart (s : State) (f) : (s.onFus f).uart = s.uart := rfl
@[simp] theorem State.onFus_mnt (s : State) (f) : (s.onFus f).mnt = s.mnt := rfl
@[simp] theorem State.onFus_tap (s : State) (f) : (s.onFus f).tap = s.tap := rfl
@[simp] theorem State.onFus_cfg (s : State) (f) : (s.onFus f).cfg = s.cfg := rfl
@[simp] theorem State.onFus_log (s : State) (f) : (s.onFus f).log = s.log := rfl
@[simp] theorem State.onFus_bulk (s : State) (f) : (s.onFus f).bulk = s.bulk := rfl
@[simp] theorem State.onFus_subs (s : State) (f) : (s.onFus f).subs = s.subs := rfl
@[simp] theorem State.onFus_free (s : State) (f) : (s.onFus f).free = s.free := rfl
@[simp] theorem State.onFus_pending (s : State) (f) : (s.onFus f).pending = s.pending := rfl

@[simp] theorem State.onSolv_host (s : State) (f) : (s.onSolv f).host = s.host := rfl
@[simp] theorem State.onSolv_maint (s : State) (f) : (s.onSolv f).maint = s.maint := rfl
@[simp] theorem State.onSolv_hp (s : State) (f) : (s.onSolv f).hp = s.hp := rfl
@[simp] theorem State.onSolv_ev (s : State) (f) : (s.onSolv f).ev = s.ev := rfl
@[simp] theorem State.onSolv_sys (s : State) (f) : (s.onSolv f).sys = s.sys := rfl
@[simp] theorem State.onSolv_time (s : State) (f) : (s.onSolv f).time = s.time := rfl
@[simp] theorem State.onSolv_gnss (s : State) (f) : (s.onSolv f).gnss = s.gnss := rfl
@[simp] theorem State.onSolv_fir (s : State) (f) : (s.onSolv f).fir = s.fir := rfl
@[simp] theorem State.onSolv_fus (s : State) (f) : (s.onSolv f).fus = s.fus := rfl
@[simp] theorem State.onSolv_solv (s : State) (f) : (s.onSolv f).solv = f s.solv := rfl
@[simp] theorem State.onSolv_dpc (s : State) (f) : (s.onSolv f).dpc = s.dpc := rfl
@[simp] theorem State.onSolv_alloc (s : State) (f) : (s.onSolv f).alloc = s.alloc := rfl
@[simp] theorem State.onSolv_loop (s : State) (f) : (s.onSolv f).loop = s.loop := rfl
@[simp] theorem State.onSolv_kiln (s : State) (f) : (s.onSolv f).kiln = s.kiln := rfl
@[simp] theorem State.onSolv_dpx (s : State) (f) : (s.onSolv f).dpx = s.dpx := rfl
@[simp] theorem State.onSolv_can (s : State) (f) : (s.onSolv f).can = s.can := rfl
@[simp] theorem State.onSolv_uart (s : State) (f) : (s.onSolv f).uart = s.uart := rfl
@[simp] theorem State.onSolv_mnt (s : State) (f) : (s.onSolv f).mnt = s.mnt := rfl
@[simp] theorem State.onSolv_tap (s : State) (f) : (s.onSolv f).tap = s.tap := rfl
@[simp] theorem State.onSolv_cfg (s : State) (f) : (s.onSolv f).cfg = s.cfg := rfl
@[simp] theorem State.onSolv_log (s : State) (f) : (s.onSolv f).log = s.log := rfl
@[simp] theorem State.onSolv_bulk (s : State) (f) : (s.onSolv f).bulk = s.bulk := rfl
@[simp] theorem State.onSolv_subs (s : State) (f) : (s.onSolv f).subs = s.subs := rfl
@[simp] theorem State.onSolv_free (s : State) (f) : (s.onSolv f).free = s.free := rfl
@[simp] theorem State.onSolv_pending (s : State) (f) : (s.onSolv f).pending = s.pending := rfl

@[simp] theorem State.onDpc_host (s : State) (f) : (s.onDpc f).host = s.host := rfl
@[simp] theorem State.onDpc_maint (s : State) (f) : (s.onDpc f).maint = s.maint := rfl
@[simp] theorem State.onDpc_hp (s : State) (f) : (s.onDpc f).hp = s.hp := rfl
@[simp] theorem State.onDpc_ev (s : State) (f) : (s.onDpc f).ev = s.ev := rfl
@[simp] theorem State.onDpc_sys (s : State) (f) : (s.onDpc f).sys = s.sys := rfl
@[simp] theorem State.onDpc_time (s : State) (f) : (s.onDpc f).time = s.time := rfl
@[simp] theorem State.onDpc_gnss (s : State) (f) : (s.onDpc f).gnss = s.gnss := rfl
@[simp] theorem State.onDpc_fir (s : State) (f) : (s.onDpc f).fir = s.fir := rfl
@[simp] theorem State.onDpc_fus (s : State) (f) : (s.onDpc f).fus = s.fus := rfl
@[simp] theorem State.onDpc_solv (s : State) (f) : (s.onDpc f).solv = s.solv := rfl
@[simp] theorem State.onDpc_dpc (s : State) (f) : (s.onDpc f).dpc = f s.dpc := rfl
@[simp] theorem State.onDpc_alloc (s : State) (f) : (s.onDpc f).alloc = s.alloc := rfl
@[simp] theorem State.onDpc_loop (s : State) (f) : (s.onDpc f).loop = s.loop := rfl
@[simp] theorem State.onDpc_kiln (s : State) (f) : (s.onDpc f).kiln = s.kiln := rfl
@[simp] theorem State.onDpc_dpx (s : State) (f) : (s.onDpc f).dpx = s.dpx := rfl
@[simp] theorem State.onDpc_can (s : State) (f) : (s.onDpc f).can = s.can := rfl
@[simp] theorem State.onDpc_uart (s : State) (f) : (s.onDpc f).uart = s.uart := rfl
@[simp] theorem State.onDpc_mnt (s : State) (f) : (s.onDpc f).mnt = s.mnt := rfl
@[simp] theorem State.onDpc_tap (s : State) (f) : (s.onDpc f).tap = s.tap := rfl
@[simp] theorem State.onDpc_cfg (s : State) (f) : (s.onDpc f).cfg = s.cfg := rfl
@[simp] theorem State.onDpc_log (s : State) (f) : (s.onDpc f).log = s.log := rfl
@[simp] theorem State.onDpc_bulk (s : State) (f) : (s.onDpc f).bulk = s.bulk := rfl
@[simp] theorem State.onDpc_subs (s : State) (f) : (s.onDpc f).subs = s.subs := rfl
@[simp] theorem State.onDpc_free (s : State) (f) : (s.onDpc f).free = s.free := rfl
@[simp] theorem State.onDpc_pending (s : State) (f) : (s.onDpc f).pending = s.pending := rfl

@[simp] theorem State.onAlloc_host (s : State) (f) : (s.onAlloc f).host = s.host := rfl
@[simp] theorem State.onAlloc_maint (s : State) (f) : (s.onAlloc f).maint = s.maint := rfl
@[simp] theorem State.onAlloc_hp (s : State) (f) : (s.onAlloc f).hp = s.hp := rfl
@[simp] theorem State.onAlloc_ev (s : State) (f) : (s.onAlloc f).ev = s.ev := rfl
@[simp] theorem State.onAlloc_sys (s : State) (f) : (s.onAlloc f).sys = s.sys := rfl
@[simp] theorem State.onAlloc_time (s : State) (f) : (s.onAlloc f).time = s.time := rfl
@[simp] theorem State.onAlloc_gnss (s : State) (f) : (s.onAlloc f).gnss = s.gnss := rfl
@[simp] theorem State.onAlloc_fir (s : State) (f) : (s.onAlloc f).fir = s.fir := rfl
@[simp] theorem State.onAlloc_fus (s : State) (f) : (s.onAlloc f).fus = s.fus := rfl
@[simp] theorem State.onAlloc_solv (s : State) (f) : (s.onAlloc f).solv = s.solv := rfl
@[simp] theorem State.onAlloc_dpc (s : State) (f) : (s.onAlloc f).dpc = s.dpc := rfl
@[simp] theorem State.onAlloc_alloc (s : State) (f) : (s.onAlloc f).alloc = f s.alloc := rfl
@[simp] theorem State.onAlloc_loop (s : State) (f) : (s.onAlloc f).loop = s.loop := rfl
@[simp] theorem State.onAlloc_kiln (s : State) (f) : (s.onAlloc f).kiln = s.kiln := rfl
@[simp] theorem State.onAlloc_dpx (s : State) (f) : (s.onAlloc f).dpx = s.dpx := rfl
@[simp] theorem State.onAlloc_can (s : State) (f) : (s.onAlloc f).can = s.can := rfl
@[simp] theorem State.onAlloc_uart (s : State) (f) : (s.onAlloc f).uart = s.uart := rfl
@[simp] theorem State.onAlloc_mnt (s : State) (f) : (s.onAlloc f).mnt = s.mnt := rfl
@[simp] theorem State.onAlloc_tap (s : State) (f) : (s.onAlloc f).tap = s.tap := rfl
@[simp] theorem State.onAlloc_cfg (s : State) (f) : (s.onAlloc f).cfg = s.cfg := rfl
@[simp] theorem State.onAlloc_log (s : State) (f) : (s.onAlloc f).log = s.log := rfl
@[simp] theorem State.onAlloc_bulk (s : State) (f) : (s.onAlloc f).bulk = s.bulk := rfl
@[simp] theorem State.onAlloc_subs (s : State) (f) : (s.onAlloc f).subs = s.subs := rfl
@[simp] theorem State.onAlloc_free (s : State) (f) : (s.onAlloc f).free = s.free := rfl
@[simp] theorem State.onAlloc_pending (s : State) (f) : (s.onAlloc f).pending = s.pending := rfl

@[simp] theorem State.onLoop_host (s : State) (f) : (s.onLoop f).host = s.host := rfl
@[simp] theorem State.onLoop_maint (s : State) (f) : (s.onLoop f).maint = s.maint := rfl
@[simp] theorem State.onLoop_hp (s : State) (f) : (s.onLoop f).hp = s.hp := rfl
@[simp] theorem State.onLoop_ev (s : State) (f) : (s.onLoop f).ev = s.ev := rfl
@[simp] theorem State.onLoop_sys (s : State) (f) : (s.onLoop f).sys = s.sys := rfl
@[simp] theorem State.onLoop_time (s : State) (f) : (s.onLoop f).time = s.time := rfl
@[simp] theorem State.onLoop_gnss (s : State) (f) : (s.onLoop f).gnss = s.gnss := rfl
@[simp] theorem State.onLoop_fir (s : State) (f) : (s.onLoop f).fir = s.fir := rfl
@[simp] theorem State.onLoop_fus (s : State) (f) : (s.onLoop f).fus = s.fus := rfl
@[simp] theorem State.onLoop_solv (s : State) (f) : (s.onLoop f).solv = s.solv := rfl
@[simp] theorem State.onLoop_dpc (s : State) (f) : (s.onLoop f).dpc = s.dpc := rfl
@[simp] theorem State.onLoop_alloc (s : State) (f) : (s.onLoop f).alloc = s.alloc := rfl
@[simp] theorem State.onLoop_loop (s : State) (f) : (s.onLoop f).loop = f s.loop := rfl
@[simp] theorem State.onLoop_kiln (s : State) (f) : (s.onLoop f).kiln = s.kiln := rfl
@[simp] theorem State.onLoop_dpx (s : State) (f) : (s.onLoop f).dpx = s.dpx := rfl
@[simp] theorem State.onLoop_can (s : State) (f) : (s.onLoop f).can = s.can := rfl
@[simp] theorem State.onLoop_uart (s : State) (f) : (s.onLoop f).uart = s.uart := rfl
@[simp] theorem State.onLoop_mnt (s : State) (f) : (s.onLoop f).mnt = s.mnt := rfl
@[simp] theorem State.onLoop_tap (s : State) (f) : (s.onLoop f).tap = s.tap := rfl
@[simp] theorem State.onLoop_cfg (s : State) (f) : (s.onLoop f).cfg = s.cfg := rfl
@[simp] theorem State.onLoop_log (s : State) (f) : (s.onLoop f).log = s.log := rfl
@[simp] theorem State.onLoop_bulk (s : State) (f) : (s.onLoop f).bulk = s.bulk := rfl
@[simp] theorem State.onLoop_subs (s : State) (f) : (s.onLoop f).subs = s.subs := rfl
@[simp] theorem State.onLoop_free (s : State) (f) : (s.onLoop f).free = s.free := rfl
@[simp] theorem State.onLoop_pending (s : State) (f) : (s.onLoop f).pending = s.pending := rfl

@[simp] theorem State.onKiln_host (s : State) (f) : (s.onKiln f).host = s.host := rfl
@[simp] theorem State.onKiln_maint (s : State) (f) : (s.onKiln f).maint = s.maint := rfl
@[simp] theorem State.onKiln_hp (s : State) (f) : (s.onKiln f).hp = s.hp := rfl
@[simp] theorem State.onKiln_ev (s : State) (f) : (s.onKiln f).ev = s.ev := rfl
@[simp] theorem State.onKiln_sys (s : State) (f) : (s.onKiln f).sys = s.sys := rfl
@[simp] theorem State.onKiln_time (s : State) (f) : (s.onKiln f).time = s.time := rfl
@[simp] theorem State.onKiln_gnss (s : State) (f) : (s.onKiln f).gnss = s.gnss := rfl
@[simp] theorem State.onKiln_fir (s : State) (f) : (s.onKiln f).fir = s.fir := rfl
@[simp] theorem State.onKiln_fus (s : State) (f) : (s.onKiln f).fus = s.fus := rfl
@[simp] theorem State.onKiln_solv (s : State) (f) : (s.onKiln f).solv = s.solv := rfl
@[simp] theorem State.onKiln_dpc (s : State) (f) : (s.onKiln f).dpc = s.dpc := rfl
@[simp] theorem State.onKiln_alloc (s : State) (f) : (s.onKiln f).alloc = s.alloc := rfl
@[simp] theorem State.onKiln_loop (s : State) (f) : (s.onKiln f).loop = s.loop := rfl
@[simp] theorem State.onKiln_kiln (s : State) (f) : (s.onKiln f).kiln = f s.kiln := rfl
@[simp] theorem State.onKiln_dpx (s : State) (f) : (s.onKiln f).dpx = s.dpx := rfl
@[simp] theorem State.onKiln_can (s : State) (f) : (s.onKiln f).can = s.can := rfl
@[simp] theorem State.onKiln_uart (s : State) (f) : (s.onKiln f).uart = s.uart := rfl
@[simp] theorem State.onKiln_mnt (s : State) (f) : (s.onKiln f).mnt = s.mnt := rfl
@[simp] theorem State.onKiln_tap (s : State) (f) : (s.onKiln f).tap = s.tap := rfl
@[simp] theorem State.onKiln_cfg (s : State) (f) : (s.onKiln f).cfg = s.cfg := rfl
@[simp] theorem State.onKiln_log (s : State) (f) : (s.onKiln f).log = s.log := rfl
@[simp] theorem State.onKiln_bulk (s : State) (f) : (s.onKiln f).bulk = s.bulk := rfl
@[simp] theorem State.onKiln_subs (s : State) (f) : (s.onKiln f).subs = s.subs := rfl
@[simp] theorem State.onKiln_free (s : State) (f) : (s.onKiln f).free = s.free := rfl
@[simp] theorem State.onKiln_pending (s : State) (f) : (s.onKiln f).pending = s.pending := rfl

@[simp] theorem State.onDpx_host (s : State) (f) : (s.onDpx f).host = s.host := rfl
@[simp] theorem State.onDpx_maint (s : State) (f) : (s.onDpx f).maint = s.maint := rfl
@[simp] theorem State.onDpx_hp (s : State) (f) : (s.onDpx f).hp = s.hp := rfl
@[simp] theorem State.onDpx_ev (s : State) (f) : (s.onDpx f).ev = s.ev := rfl
@[simp] theorem State.onDpx_sys (s : State) (f) : (s.onDpx f).sys = s.sys := rfl
@[simp] theorem State.onDpx_time (s : State) (f) : (s.onDpx f).time = s.time := rfl
@[simp] theorem State.onDpx_gnss (s : State) (f) : (s.onDpx f).gnss = s.gnss := rfl
@[simp] theorem State.onDpx_fir (s : State) (f) : (s.onDpx f).fir = s.fir := rfl
@[simp] theorem State.onDpx_fus (s : State) (f) : (s.onDpx f).fus = s.fus := rfl
@[simp] theorem State.onDpx_solv (s : State) (f) : (s.onDpx f).solv = s.solv := rfl
@[simp] theorem State.onDpx_dpc (s : State) (f) : (s.onDpx f).dpc = s.dpc := rfl
@[simp] theorem State.onDpx_alloc (s : State) (f) : (s.onDpx f).alloc = s.alloc := rfl
@[simp] theorem State.onDpx_loop (s : State) (f) : (s.onDpx f).loop = s.loop := rfl
@[simp] theorem State.onDpx_kiln (s : State) (f) : (s.onDpx f).kiln = s.kiln := rfl
@[simp] theorem State.onDpx_dpx (s : State) (f) : (s.onDpx f).dpx = f s.dpx := rfl
@[simp] theorem State.onDpx_can (s : State) (f) : (s.onDpx f).can = s.can := rfl
@[simp] theorem State.onDpx_uart (s : State) (f) : (s.onDpx f).uart = s.uart := rfl
@[simp] theorem State.onDpx_mnt (s : State) (f) : (s.onDpx f).mnt = s.mnt := rfl
@[simp] theorem State.onDpx_tap (s : State) (f) : (s.onDpx f).tap = s.tap := rfl
@[simp] theorem State.onDpx_cfg (s : State) (f) : (s.onDpx f).cfg = s.cfg := rfl
@[simp] theorem State.onDpx_log (s : State) (f) : (s.onDpx f).log = s.log := rfl
@[simp] theorem State.onDpx_bulk (s : State) (f) : (s.onDpx f).bulk = s.bulk := rfl
@[simp] theorem State.onDpx_subs (s : State) (f) : (s.onDpx f).subs = s.subs := rfl
@[simp] theorem State.onDpx_free (s : State) (f) : (s.onDpx f).free = s.free := rfl
@[simp] theorem State.onDpx_pending (s : State) (f) : (s.onDpx f).pending = s.pending := rfl

@[simp] theorem State.onCan_host (s : State) (f) : (s.onCan f).host = s.host := rfl
@[simp] theorem State.onCan_maint (s : State) (f) : (s.onCan f).maint = s.maint := rfl
@[simp] theorem State.onCan_hp (s : State) (f) : (s.onCan f).hp = s.hp := rfl
@[simp] theorem State.onCan_ev (s : State) (f) : (s.onCan f).ev = s.ev := rfl
@[simp] theorem State.onCan_sys (s : State) (f) : (s.onCan f).sys = s.sys := rfl
@[simp] theorem State.onCan_time (s : State) (f) : (s.onCan f).time = s.time := rfl
@[simp] theorem State.onCan_gnss (s : State) (f) : (s.onCan f).gnss = s.gnss := rfl
@[simp] theorem State.onCan_fir (s : State) (f) : (s.onCan f).fir = s.fir := rfl
@[simp] theorem State.onCan_fus (s : State) (f) : (s.onCan f).fus = s.fus := rfl
@[simp] theorem State.onCan_solv (s : State) (f) : (s.onCan f).solv = s.solv := rfl
@[simp] theorem State.onCan_dpc (s : State) (f) : (s.onCan f).dpc = s.dpc := rfl
@[simp] theorem State.onCan_alloc (s : State) (f) : (s.onCan f).alloc = s.alloc := rfl
@[simp] theorem State.onCan_loop (s : State) (f) : (s.onCan f).loop = s.loop := rfl
@[simp] theorem State.onCan_kiln (s : State) (f) : (s.onCan f).kiln = s.kiln := rfl
@[simp] theorem State.onCan_dpx (s : State) (f) : (s.onCan f).dpx = s.dpx := rfl
@[simp] theorem State.onCan_can (s : State) (f) : (s.onCan f).can = f s.can := rfl
@[simp] theorem State.onCan_uart (s : State) (f) : (s.onCan f).uart = s.uart := rfl
@[simp] theorem State.onCan_mnt (s : State) (f) : (s.onCan f).mnt = s.mnt := rfl
@[simp] theorem State.onCan_tap (s : State) (f) : (s.onCan f).tap = s.tap := rfl
@[simp] theorem State.onCan_cfg (s : State) (f) : (s.onCan f).cfg = s.cfg := rfl
@[simp] theorem State.onCan_log (s : State) (f) : (s.onCan f).log = s.log := rfl
@[simp] theorem State.onCan_bulk (s : State) (f) : (s.onCan f).bulk = s.bulk := rfl
@[simp] theorem State.onCan_subs (s : State) (f) : (s.onCan f).subs = s.subs := rfl
@[simp] theorem State.onCan_free (s : State) (f) : (s.onCan f).free = s.free := rfl
@[simp] theorem State.onCan_pending (s : State) (f) : (s.onCan f).pending = s.pending := rfl

@[simp] theorem State.onUart_host (s : State) (f) : (s.onUart f).host = s.host := rfl
@[simp] theorem State.onUart_maint (s : State) (f) : (s.onUart f).maint = s.maint := rfl
@[simp] theorem State.onUart_hp (s : State) (f) : (s.onUart f).hp = s.hp := rfl
@[simp] theorem State.onUart_ev (s : State) (f) : (s.onUart f).ev = s.ev := rfl
@[simp] theorem State.onUart_sys (s : State) (f) : (s.onUart f).sys = s.sys := rfl
@[simp] theorem State.onUart_time (s : State) (f) : (s.onUart f).time = s.time := rfl
@[simp] theorem State.onUart_gnss (s : State) (f) : (s.onUart f).gnss = s.gnss := rfl
@[simp] theorem State.onUart_fir (s : State) (f) : (s.onUart f).fir = s.fir := rfl
@[simp] theorem State.onUart_fus (s : State) (f) : (s.onUart f).fus = s.fus := rfl
@[simp] theorem State.onUart_solv (s : State) (f) : (s.onUart f).solv = s.solv := rfl
@[simp] theorem State.onUart_dpc (s : State) (f) : (s.onUart f).dpc = s.dpc := rfl
@[simp] theorem State.onUart_alloc (s : State) (f) : (s.onUart f).alloc = s.alloc := rfl
@[simp] theorem State.onUart_loop (s : State) (f) : (s.onUart f).loop = s.loop := rfl
@[simp] theorem State.onUart_kiln (s : State) (f) : (s.onUart f).kiln = s.kiln := rfl
@[simp] theorem State.onUart_dpx (s : State) (f) : (s.onUart f).dpx = s.dpx := rfl
@[simp] theorem State.onUart_can (s : State) (f) : (s.onUart f).can = s.can := rfl
@[simp] theorem State.onUart_uart (s : State) (f) : (s.onUart f).uart = f s.uart := rfl
@[simp] theorem State.onUart_mnt (s : State) (f) : (s.onUart f).mnt = s.mnt := rfl
@[simp] theorem State.onUart_tap (s : State) (f) : (s.onUart f).tap = s.tap := rfl
@[simp] theorem State.onUart_cfg (s : State) (f) : (s.onUart f).cfg = s.cfg := rfl
@[simp] theorem State.onUart_log (s : State) (f) : (s.onUart f).log = s.log := rfl
@[simp] theorem State.onUart_bulk (s : State) (f) : (s.onUart f).bulk = s.bulk := rfl
@[simp] theorem State.onUart_subs (s : State) (f) : (s.onUart f).subs = s.subs := rfl
@[simp] theorem State.onUart_free (s : State) (f) : (s.onUart f).free = s.free := rfl
@[simp] theorem State.onUart_pending (s : State) (f) : (s.onUart f).pending = s.pending := rfl

@[simp] theorem State.onMnt_host (s : State) (f) : (s.onMnt f).host = s.host := rfl
@[simp] theorem State.onMnt_maint (s : State) (f) : (s.onMnt f).maint = s.maint := rfl
@[simp] theorem State.onMnt_hp (s : State) (f) : (s.onMnt f).hp = s.hp := rfl
@[simp] theorem State.onMnt_ev (s : State) (f) : (s.onMnt f).ev = s.ev := rfl
@[simp] theorem State.onMnt_sys (s : State) (f) : (s.onMnt f).sys = s.sys := rfl
@[simp] theorem State.onMnt_time (s : State) (f) : (s.onMnt f).time = s.time := rfl
@[simp] theorem State.onMnt_gnss (s : State) (f) : (s.onMnt f).gnss = s.gnss := rfl
@[simp] theorem State.onMnt_fir (s : State) (f) : (s.onMnt f).fir = s.fir := rfl
@[simp] theorem State.onMnt_fus (s : State) (f) : (s.onMnt f).fus = s.fus := rfl
@[simp] theorem State.onMnt_solv (s : State) (f) : (s.onMnt f).solv = s.solv := rfl
@[simp] theorem State.onMnt_dpc (s : State) (f) : (s.onMnt f).dpc = s.dpc := rfl
@[simp] theorem State.onMnt_alloc (s : State) (f) : (s.onMnt f).alloc = s.alloc := rfl
@[simp] theorem State.onMnt_loop (s : State) (f) : (s.onMnt f).loop = s.loop := rfl
@[simp] theorem State.onMnt_kiln (s : State) (f) : (s.onMnt f).kiln = s.kiln := rfl
@[simp] theorem State.onMnt_dpx (s : State) (f) : (s.onMnt f).dpx = s.dpx := rfl
@[simp] theorem State.onMnt_can (s : State) (f) : (s.onMnt f).can = s.can := rfl
@[simp] theorem State.onMnt_uart (s : State) (f) : (s.onMnt f).uart = s.uart := rfl
@[simp] theorem State.onMnt_mnt (s : State) (f) : (s.onMnt f).mnt = f s.mnt := rfl
@[simp] theorem State.onMnt_tap (s : State) (f) : (s.onMnt f).tap = s.tap := rfl
@[simp] theorem State.onMnt_cfg (s : State) (f) : (s.onMnt f).cfg = s.cfg := rfl
@[simp] theorem State.onMnt_log (s : State) (f) : (s.onMnt f).log = s.log := rfl
@[simp] theorem State.onMnt_bulk (s : State) (f) : (s.onMnt f).bulk = s.bulk := rfl
@[simp] theorem State.onMnt_subs (s : State) (f) : (s.onMnt f).subs = s.subs := rfl
@[simp] theorem State.onMnt_free (s : State) (f) : (s.onMnt f).free = s.free := rfl
@[simp] theorem State.onMnt_pending (s : State) (f) : (s.onMnt f).pending = s.pending := rfl

@[simp] theorem State.onTap_host (s : State) (f) : (s.onTap f).host = s.host := rfl
@[simp] theorem State.onTap_maint (s : State) (f) : (s.onTap f).maint = s.maint := rfl
@[simp] theorem State.onTap_hp (s : State) (f) : (s.onTap f).hp = s.hp := rfl
@[simp] theorem State.onTap_ev (s : State) (f) : (s.onTap f).ev = s.ev := rfl
@[simp] theorem State.onTap_sys (s : State) (f) : (s.onTap f).sys = s.sys := rfl
@[simp] theorem State.onTap_time (s : State) (f) : (s.onTap f).time = s.time := rfl
@[simp] theorem State.onTap_gnss (s : State) (f) : (s.onTap f).gnss = s.gnss := rfl
@[simp] theorem State.onTap_fir (s : State) (f) : (s.onTap f).fir = s.fir := rfl
@[simp] theorem State.onTap_fus (s : State) (f) : (s.onTap f).fus = s.fus := rfl
@[simp] theorem State.onTap_solv (s : State) (f) : (s.onTap f).solv = s.solv := rfl
@[simp] theorem State.onTap_dpc (s : State) (f) : (s.onTap f).dpc = s.dpc := rfl
@[simp] theorem State.onTap_alloc (s : State) (f) : (s.onTap f).alloc = s.alloc := rfl
@[simp] theorem State.onTap_loop (s : State) (f) : (s.onTap f).loop = s.loop := rfl
@[simp] theorem State.onTap_kiln (s : State) (f) : (s.onTap f).kiln = s.kiln := rfl
@[simp] theorem State.onTap_dpx (s : State) (f) : (s.onTap f).dpx = s.dpx := rfl
@[simp] theorem State.onTap_can (s : State) (f) : (s.onTap f).can = s.can := rfl
@[simp] theorem State.onTap_uart (s : State) (f) : (s.onTap f).uart = s.uart := rfl
@[simp] theorem State.onTap_mnt (s : State) (f) : (s.onTap f).mnt = s.mnt := rfl
@[simp] theorem State.onTap_tap (s : State) (f) : (s.onTap f).tap = f s.tap := rfl
@[simp] theorem State.onTap_cfg (s : State) (f) : (s.onTap f).cfg = s.cfg := rfl
@[simp] theorem State.onTap_log (s : State) (f) : (s.onTap f).log = s.log := rfl
@[simp] theorem State.onTap_bulk (s : State) (f) : (s.onTap f).bulk = s.bulk := rfl
@[simp] theorem State.onTap_subs (s : State) (f) : (s.onTap f).subs = s.subs := rfl
@[simp] theorem State.onTap_free (s : State) (f) : (s.onTap f).free = s.free := rfl
@[simp] theorem State.onTap_pending (s : State) (f) : (s.onTap f).pending = s.pending := rfl

@[simp] theorem State.onCfg_host (s : State) (f) : (s.onCfg f).host = s.host := rfl
@[simp] theorem State.onCfg_maint (s : State) (f) : (s.onCfg f).maint = s.maint := rfl
@[simp] theorem State.onCfg_hp (s : State) (f) : (s.onCfg f).hp = s.hp := rfl
@[simp] theorem State.onCfg_ev (s : State) (f) : (s.onCfg f).ev = s.ev := rfl
@[simp] theorem State.onCfg_sys (s : State) (f) : (s.onCfg f).sys = s.sys := rfl
@[simp] theorem State.onCfg_time (s : State) (f) : (s.onCfg f).time = s.time := rfl
@[simp] theorem State.onCfg_gnss (s : State) (f) : (s.onCfg f).gnss = s.gnss := rfl
@[simp] theorem State.onCfg_fir (s : State) (f) : (s.onCfg f).fir = s.fir := rfl
@[simp] theorem State.onCfg_fus (s : State) (f) : (s.onCfg f).fus = s.fus := rfl
@[simp] theorem State.onCfg_solv (s : State) (f) : (s.onCfg f).solv = s.solv := rfl
@[simp] theorem State.onCfg_dpc (s : State) (f) : (s.onCfg f).dpc = s.dpc := rfl
@[simp] theorem State.onCfg_alloc (s : State) (f) : (s.onCfg f).alloc = s.alloc := rfl
@[simp] theorem State.onCfg_loop (s : State) (f) : (s.onCfg f).loop = s.loop := rfl
@[simp] theorem State.onCfg_kiln (s : State) (f) : (s.onCfg f).kiln = s.kiln := rfl
@[simp] theorem State.onCfg_dpx (s : State) (f) : (s.onCfg f).dpx = s.dpx := rfl
@[simp] theorem State.onCfg_can (s : State) (f) : (s.onCfg f).can = s.can := rfl
@[simp] theorem State.onCfg_uart (s : State) (f) : (s.onCfg f).uart = s.uart := rfl
@[simp] theorem State.onCfg_mnt (s : State) (f) : (s.onCfg f).mnt = s.mnt := rfl
@[simp] theorem State.onCfg_tap (s : State) (f) : (s.onCfg f).tap = s.tap := rfl
@[simp] theorem State.onCfg_cfg (s : State) (f) : (s.onCfg f).cfg = f s.cfg := rfl
@[simp] theorem State.onCfg_log (s : State) (f) : (s.onCfg f).log = s.log := rfl
@[simp] theorem State.onCfg_bulk (s : State) (f) : (s.onCfg f).bulk = s.bulk := rfl
@[simp] theorem State.onCfg_subs (s : State) (f) : (s.onCfg f).subs = s.subs := rfl
@[simp] theorem State.onCfg_free (s : State) (f) : (s.onCfg f).free = s.free := rfl
@[simp] theorem State.onCfg_pending (s : State) (f) : (s.onCfg f).pending = s.pending := rfl

@[simp] theorem State.onLog_host (s : State) (f) : (s.onLog f).host = s.host := rfl
@[simp] theorem State.onLog_maint (s : State) (f) : (s.onLog f).maint = s.maint := rfl
@[simp] theorem State.onLog_hp (s : State) (f) : (s.onLog f).hp = s.hp := rfl
@[simp] theorem State.onLog_ev (s : State) (f) : (s.onLog f).ev = s.ev := rfl
@[simp] theorem State.onLog_sys (s : State) (f) : (s.onLog f).sys = s.sys := rfl
@[simp] theorem State.onLog_time (s : State) (f) : (s.onLog f).time = s.time := rfl
@[simp] theorem State.onLog_gnss (s : State) (f) : (s.onLog f).gnss = s.gnss := rfl
@[simp] theorem State.onLog_fir (s : State) (f) : (s.onLog f).fir = s.fir := rfl
@[simp] theorem State.onLog_fus (s : State) (f) : (s.onLog f).fus = s.fus := rfl
@[simp] theorem State.onLog_solv (s : State) (f) : (s.onLog f).solv = s.solv := rfl
@[simp] theorem State.onLog_dpc (s : State) (f) : (s.onLog f).dpc = s.dpc := rfl
@[simp] theorem State.onLog_alloc (s : State) (f) : (s.onLog f).alloc = s.alloc := rfl
@[simp] theorem State.onLog_loop (s : State) (f) : (s.onLog f).loop = s.loop := rfl
@[simp] theorem State.onLog_kiln (s : State) (f) : (s.onLog f).kiln = s.kiln := rfl
@[simp] theorem State.onLog_dpx (s : State) (f) : (s.onLog f).dpx = s.dpx := rfl
@[simp] theorem State.onLog_can (s : State) (f) : (s.onLog f).can = s.can := rfl
@[simp] theorem State.onLog_uart (s : State) (f) : (s.onLog f).uart = s.uart := rfl
@[simp] theorem State.onLog_mnt (s : State) (f) : (s.onLog f).mnt = s.mnt := rfl
@[simp] theorem State.onLog_tap (s : State) (f) : (s.onLog f).tap = s.tap := rfl
@[simp] theorem State.onLog_cfg (s : State) (f) : (s.onLog f).cfg = s.cfg := rfl
@[simp] theorem State.onLog_log (s : State) (f) : (s.onLog f).log = f s.log := rfl
@[simp] theorem State.onLog_bulk (s : State) (f) : (s.onLog f).bulk = s.bulk := rfl
@[simp] theorem State.onLog_subs (s : State) (f) : (s.onLog f).subs = s.subs := rfl
@[simp] theorem State.onLog_free (s : State) (f) : (s.onLog f).free = s.free := rfl
@[simp] theorem State.onLog_pending (s : State) (f) : (s.onLog f).pending = s.pending := rfl

@[simp] theorem State.onBulk_host (s : State) (f) : (s.onBulk f).host = s.host := rfl
@[simp] theorem State.onBulk_maint (s : State) (f) : (s.onBulk f).maint = s.maint := rfl
@[simp] theorem State.onBulk_hp (s : State) (f) : (s.onBulk f).hp = s.hp := rfl
@[simp] theorem State.onBulk_ev (s : State) (f) : (s.onBulk f).ev = s.ev := rfl
@[simp] theorem State.onBulk_sys (s : State) (f) : (s.onBulk f).sys = s.sys := rfl
@[simp] theorem State.onBulk_time (s : State) (f) : (s.onBulk f).time = s.time := rfl
@[simp] theorem State.onBulk_gnss (s : State) (f) : (s.onBulk f).gnss = s.gnss := rfl
@[simp] theorem State.onBulk_fir (s : State) (f) : (s.onBulk f).fir = s.fir := rfl
@[simp] theorem State.onBulk_fus (s : State) (f) : (s.onBulk f).fus = s.fus := rfl
@[simp] theorem State.onBulk_solv (s : State) (f) : (s.onBulk f).solv = s.solv := rfl
@[simp] theorem State.onBulk_dpc (s : State) (f) : (s.onBulk f).dpc = s.dpc := rfl
@[simp] theorem State.onBulk_alloc (s : State) (f) : (s.onBulk f).alloc = s.alloc := rfl
@[simp] theorem State.onBulk_loop (s : State) (f) : (s.onBulk f).loop = s.loop := rfl
@[simp] theorem State.onBulk_kiln (s : State) (f) : (s.onBulk f).kiln = s.kiln := rfl
@[simp] theorem State.onBulk_dpx (s : State) (f) : (s.onBulk f).dpx = s.dpx := rfl
@[simp] theorem State.onBulk_can (s : State) (f) : (s.onBulk f).can = s.can := rfl
@[simp] theorem State.onBulk_uart (s : State) (f) : (s.onBulk f).uart = s.uart := rfl
@[simp] theorem State.onBulk_mnt (s : State) (f) : (s.onBulk f).mnt = s.mnt := rfl
@[simp] theorem State.onBulk_tap (s : State) (f) : (s.onBulk f).tap = s.tap := rfl
@[simp] theorem State.onBulk_cfg (s : State) (f) : (s.onBulk f).cfg = s.cfg := rfl
@[simp] theorem State.onBulk_log (s : State) (f) : (s.onBulk f).log = s.log := rfl
@[simp] theorem State.onBulk_bulk (s : State) (f) : (s.onBulk f).bulk = f s.bulk := rfl
@[simp] theorem State.onBulk_subs (s : State) (f) : (s.onBulk f).subs = s.subs := rfl
@[simp] theorem State.onBulk_free (s : State) (f) : (s.onBulk f).free = s.free := rfl
@[simp] theorem State.onBulk_pending (s : State) (f) : (s.onBulk f).pending = s.pending := rfl

@[simp] theorem State.onSubs_host (s : State) (f) : (s.onSubs f).host = s.host := rfl
@[simp] theorem State.onSubs_maint (s : State) (f) : (s.onSubs f).maint = s.maint := rfl
@[simp] theorem State.onSubs_hp (s : State) (f) : (s.onSubs f).hp = s.hp := rfl
@[simp] theorem State.onSubs_ev (s : State) (f) : (s.onSubs f).ev = s.ev := rfl
@[simp] theorem State.onSubs_sys (s : State) (f) : (s.onSubs f).sys = s.sys := rfl
@[simp] theorem State.onSubs_time (s : State) (f) : (s.onSubs f).time = s.time := rfl
@[simp] theorem State.onSubs_gnss (s : State) (f) : (s.onSubs f).gnss = s.gnss := rfl
@[simp] theorem State.onSubs_fir (s : State) (f) : (s.onSubs f).fir = s.fir := rfl
@[simp] theorem State.onSubs_fus (s : State) (f) : (s.onSubs f).fus = s.fus := rfl
@[simp] theorem State.onSubs_solv (s : State) (f) : (s.onSubs f).solv = s.solv := rfl
@[simp] theorem State.onSubs_dpc (s : State) (f) : (s.onSubs f).dpc = s.dpc := rfl
@[simp] theorem State.onSubs_alloc (s : State) (f) : (s.onSubs f).alloc = s.alloc := rfl
@[simp] theorem State.onSubs_loop (s : State) (f) : (s.onSubs f).loop = s.loop := rfl
@[simp] theorem State.onSubs_kiln (s : State) (f) : (s.onSubs f).kiln = s.kiln := rfl
@[simp] theorem State.onSubs_dpx (s : State) (f) : (s.onSubs f).dpx = s.dpx := rfl
@[simp] theorem State.onSubs_can (s : State) (f) : (s.onSubs f).can = s.can := rfl
@[simp] theorem State.onSubs_uart (s : State) (f) : (s.onSubs f).uart = s.uart := rfl
@[simp] theorem State.onSubs_mnt (s : State) (f) : (s.onSubs f).mnt = s.mnt := rfl
@[simp] theorem State.onSubs_tap (s : State) (f) : (s.onSubs f).tap = s.tap := rfl
@[simp] theorem State.onSubs_cfg (s : State) (f) : (s.onSubs f).cfg = s.cfg := rfl
@[simp] theorem State.onSubs_log (s : State) (f) : (s.onSubs f).log = s.log := rfl
@[simp] theorem State.onSubs_bulk (s : State) (f) : (s.onSubs f).bulk = s.bulk := rfl
@[simp] theorem State.onSubs_subs (s : State) (f) : (s.onSubs f).subs = f s.subs := rfl
@[simp] theorem State.onSubs_free (s : State) (f) : (s.onSubs f).free = s.free := rfl
@[simp] theorem State.onSubs_pending (s : State) (f) : (s.onSubs f).pending = s.pending := rfl

@[simp] theorem State.onFree_host (s : State) (f) : (s.onFree f).host = s.host := rfl
@[simp] theorem State.onFree_maint (s : State) (f) : (s.onFree f).maint = s.maint := rfl
@[simp] theorem State.onFree_hp (s : State) (f) : (s.onFree f).hp = s.hp := rfl
@[simp] theorem State.onFree_ev (s : State) (f) : (s.onFree f).ev = s.ev := rfl
@[simp] theorem State.onFree_sys (s : State) (f) : (s.onFree f).sys = s.sys := rfl
@[simp] theorem State.onFree_time (s : State) (f) : (s.onFree f).time = s.time := rfl
@[simp] theorem State.onFree_gnss (s : State) (f) : (s.onFree f).gnss = s.gnss := rfl
@[simp] theorem State.onFree_fir (s : State) (f) : (s.onFree f).fir = s.fir := rfl
@[simp] theorem State.onFree_fus (s : State) (f) : (s.onFree f).fus = s.fus := rfl
@[simp] theorem State.onFree_solv (s : State) (f) : (s.onFree f).solv = s.solv := rfl
@[simp] theorem State.onFree_dpc (s : State) (f) : (s.onFree f).dpc = s.dpc := rfl
@[simp] theorem State.onFree_alloc (s : State) (f) : (s.onFree f).alloc = s.alloc := rfl
@[simp] theorem State.onFree_loop (s : State) (f) : (s.onFree f).loop = s.loop := rfl
@[simp] theorem State.onFree_kiln (s : State) (f) : (s.onFree f).kiln = s.kiln := rfl
@[simp] theorem State.onFree_dpx (s : State) (f) : (s.onFree f).dpx = s.dpx := rfl
@[simp] theorem State.onFree_can (s : State) (f) : (s.onFree f).can = s.can := rfl
@[simp] theorem State.onFree_uart (s : State) (f) : (s.onFree f).uart = s.uart := rfl
@[simp] theorem State.onFree_mnt (s : State) (f) : (s.onFree f).mnt = s.mnt := rfl
@[simp] theorem State.onFree_tap (s : State) (f) : (s.onFree f).tap = s.tap := rfl
@[simp] theorem State.onFree_cfg (s : State) (f) : (s.onFree f).cfg = s.cfg := rfl
@[simp] theorem State.onFree_log (s : State) (f) : (s.onFree f).log = s.log := rfl
@[simp] theorem State.onFree_bulk (s : State) (f) : (s.onFree f).bulk = s.bulk := rfl
@[simp] theorem State.onFree_subs (s : State) (f) : (s.onFree f).subs = s.subs := rfl
@[simp] theorem State.onFree_free (s : State) (f) : (s.onFree f).free = f s.free := rfl
@[simp] theorem State.onFree_pending (s : State) (f) : (s.onFree f).pending = s.pending := rfl

@[simp] theorem State.onPort_hp (s : State) (p : Port) (f) : (s.onPort p f).hp = s.hp := by cases p <;> rfl
@[simp] theorem State.onPort_ev (s : State) (p : Port) (f) : (s.onPort p f).ev = s.ev := by cases p <;> rfl
@[simp] theorem State.onPort_sys (s : State) (p : Port) (f) : (s.onPort p f).sys = s.sys := by cases p <;> rfl
@[simp] theorem State.onPort_time (s : State) (p : Port) (f) : (s.onPort p f).time = s.time := by cases p <;> rfl
@[simp] theorem State.onPort_gnss (s : State) (p : Port) (f) : (s.onPort p f).gnss = s.gnss := by cases p <;> rfl
@[simp] theorem State.onPort_fir (s : State) (p : Port) (f) : (s.onPort p f).fir = s.fir := by cases p <;> rfl
@[simp] theorem State.onPort_fus (s : State) (p : Port) (f) : (s.onPort p f).fus = s.fus := by cases p <;> rfl
@[simp] theorem State.onPort_solv (s : State) (p : Port) (f) : (s.onPort p f).solv = s.solv := by cases p <;> rfl
@[simp] theorem State.onPort_dpc (s : State) (p : Port) (f) : (s.onPort p f).dpc = s.dpc := by cases p <;> rfl
@[simp] theorem State.onPort_alloc (s : State) (p : Port) (f) : (s.onPort p f).alloc = s.alloc := by cases p <;> rfl
@[simp] theorem State.onPort_loop (s : State) (p : Port) (f) : (s.onPort p f).loop = s.loop := by cases p <;> rfl
@[simp] theorem State.onPort_kiln (s : State) (p : Port) (f) : (s.onPort p f).kiln = s.kiln := by cases p <;> rfl
@[simp] theorem State.onPort_dpx (s : State) (p : Port) (f) : (s.onPort p f).dpx = s.dpx := by cases p <;> rfl
@[simp] theorem State.onPort_can (s : State) (p : Port) (f) : (s.onPort p f).can = s.can := by cases p <;> rfl
@[simp] theorem State.onPort_uart (s : State) (p : Port) (f) : (s.onPort p f).uart = s.uart := by cases p <;> rfl
@[simp] theorem State.onPort_mnt (s : State) (p : Port) (f) : (s.onPort p f).mnt = s.mnt := by cases p <;> rfl
@[simp] theorem State.onPort_tap (s : State) (p : Port) (f) : (s.onPort p f).tap = s.tap := by cases p <;> rfl
@[simp] theorem State.onPort_cfg (s : State) (p : Port) (f) : (s.onPort p f).cfg = s.cfg := by cases p <;> rfl
@[simp] theorem State.onPort_log (s : State) (p : Port) (f) : (s.onPort p f).log = s.log := by cases p <;> rfl
@[simp] theorem State.onPort_bulk (s : State) (p : Port) (f) : (s.onPort p f).bulk = s.bulk := by cases p <;> rfl
@[simp] theorem State.onPort_subs (s : State) (p : Port) (f) : (s.onPort p f).subs = s.subs := by cases p <;> rfl
@[simp] theorem State.onPort_free (s : State) (p : Port) (f) : (s.onPort p f).free = s.free := by cases p <;> rfl
@[simp] theorem State.onPort_pending (s : State) (p : Port) (f) : (s.onPort p f).pending = s.pending := by cases p <;> rfl

/-- The port changed by onPort. -/
@[simp] theorem State.onPort_port (s : State) (p : Port) (f) : (s.onPort p f).port p = f (s.port p) := by cases p <;> rfl
/-- The other port is left alone. -/
theorem State.onPort_port_ne (s : State) (p q : Port) (f) (h : q ≠ p) : (s.onPort p f).port q = s.port q := by
  cases p <;> cases q <;> first | rfl | exact absurd rfl h

@[simp] theorem State.onHp_port (s : State) (f) (p : Port) : (s.onHp f).port p = s.port p := by cases p <;> rfl
@[simp] theorem State.onEv_port (s : State) (f) (p : Port) : (s.onEv f).port p = s.port p := by cases p <;> rfl
@[simp] theorem State.onSys_port (s : State) (f) (p : Port) : (s.onSys f).port p = s.port p := by cases p <;> rfl
@[simp] theorem State.onTime_port (s : State) (f) (p : Port) : (s.onTime f).port p = s.port p := by cases p <;> rfl
@[simp] theorem State.onGnss_port (s : State) (f) (p : Port) : (s.onGnss f).port p = s.port p := by cases p <;> rfl
@[simp] theorem State.onFir_port (s : State) (f) (p : Port) : (s.onFir f).port p = s.port p := by cases p <;> rfl
@[simp] theorem State.onFus_port (s : State) (f) (p : Port) : (s.onFus f).port p = s.port p := by cases p <;> rfl
@[simp] theorem State.onSolv_port (s : State) (f) (p : Port) : (s.onSolv f).port p = s.port p := by cases p <;> rfl
@[simp] theorem State.onDpc_port (s : State) (f) (p : Port) : (s.onDpc f).port p = s.port p := by cases p <;> rfl
@[simp] theorem State.onAlloc_port (s : State) (f) (p : Port) : (s.onAlloc f).port p = s.port p := by cases p <;> rfl
@[simp] theorem State.onLoop_port (s : State) (f) (p : Port) : (s.onLoop f).port p = s.port p := by cases p <;> rfl
@[simp] theorem State.onKiln_port (s : State) (f) (p : Port) : (s.onKiln f).port p = s.port p := by cases p <;> rfl
@[simp] theorem State.onDpx_port (s : State) (f) (p : Port) : (s.onDpx f).port p = s.port p := by cases p <;> rfl
@[simp] theorem State.onCan_port (s : State) (f) (p : Port) : (s.onCan f).port p = s.port p := by cases p <;> rfl
@[simp] theorem State.onUart_port (s : State) (f) (p : Port) : (s.onUart f).port p = s.port p := by cases p <;> rfl
@[simp] theorem State.onMnt_port (s : State) (f) (p : Port) : (s.onMnt f).port p = s.port p := by cases p <;> rfl
@[simp] theorem State.onTap_port (s : State) (f) (p : Port) : (s.onTap f).port p = s.port p := by cases p <;> rfl
@[simp] theorem State.onCfg_port (s : State) (f) (p : Port) : (s.onCfg f).port p = s.port p := by cases p <;> rfl
@[simp] theorem State.onLog_port (s : State) (f) (p : Port) : (s.onLog f).port p = s.port p := by cases p <;> rfl
@[simp] theorem State.onBulk_port (s : State) (f) (p : Port) : (s.onBulk f).port p = s.port p := by cases p <;> rfl
@[simp] theorem State.onSubs_port (s : State) (f) (p : Port) : (s.onSubs f).port p = s.port p := by cases p <;> rfl
@[simp] theorem State.onFree_port (s : State) (f) (p : Port) : (s.onFree f).port p = s.port p := by cases p <;> rfl

end Sys2Proof.Machine
end

