-- ==== Sys2Proof/Laws/Frame.lean ====
section
/-! SUPPORT. The calculus of frames: SameBut composes along a chain of updates. -/

namespace Sys2Proof.Machine

theorem SameBut.refl (l : List Part) (s : State) : SameBut l s s := by
  intro q _; cases q <;> simp [Part.same]

theorem SameBut.trans {l : List Part} {s t u : State} (h : SameBut l s t) (k : SameBut l t u) : SameBut l s u := by
  intro q hq
  have a := h q hq
  have b := k q hq
  cases q <;> simp_all [Part.same]

theorem SameBut.mono {l m : List Part} {s t : State} (h : SameBut l s t) (hm : (l.all fun q => m.contains q) = true) : SameBut m s t := by
  intro q hq
  refine h q fun hl => hq ?_
  have := List.all_eq_true.mp hm q hl
  simpa using this

/-- A step that changes only the parts m, after one that changes only the parts l. -/
theorem SameBut.step {l m : List Part} {s t u : State} (h : SameBut l s t) (k : SameBut m t u) (hl : (m.all fun q => l.contains q) = true) :
    SameBut l s u := h.trans (k.mono hl)

/-- A fold of steps. -/
theorem SameBut.foldl {α : Type} {l : List Part} {g : State → α → State} (hg : ∀ w x, SameBut l w (g w x)) (xs : List α) {s u : State}
    (h : SameBut l s u) : SameBut l s (xs.foldl g u) := by
  induction xs generalizing u with
  | nil => exact h
  | cons x xs ih => exact ih (h.trans (hg u x))

/-- A fold of steps beside other values. -/
theorem SameBut.foldlFst {α β : Type} {l : List Part} {g : State × β → α → State × β} (hg : ∀ w x, SameBut l w.1 (g w x).1) (xs : List α)
    {s : State} {u : State × β} (h : SameBut l s u.1) : SameBut l s (xs.foldl g u).1 := by
  induction xs generalizing u with
  | nil => exact h
  | cons x xs ih => exact ih (h.trans (hg u x))

theorem SameBut.gen {l : List Part} {s u w : State} (h : SameBut l s u) (k : SameBut l s u → SameBut l s w) : SameBut l s w := k h

/-- The state that a pair holds first. -/
theorem SameBut.fst_ {α : Type} {l m : List Part} {s u v : State} {r : α} {a : State × α} (e : a = (v, r)) (k : SameBut m u a.1)
    (hl : (m.all fun q => l.contains q) = true) (h : SameBut l s u) : SameBut l s v := by
  subst e; exact h.step k hl

/-- The state that a pair holds second. -/
theorem SameBut.snd_ {α : Type} {l m : List Part} {s u v : State} {r : α} {a : α × State} (e : a = (r, v)) (k : SameBut m u a.2)
    (hl : (m.all fun q => l.contains q) = true) (h : SameBut l s u) : SameBut l s v := by
  subst e; exact h.step k hl

/-- The state that an option holds. -/
theorem SameBut.some_ {l m : List Part} {s u v : State} {a : Option State} (e : a = some v) (k : ∀ w, a = some w → SameBut m u w)
    (hl : (m.all fun q => l.contains q) = true) (h : SameBut l s u) : SameBut l s v := h.step (k v e) hl

theorem SameBut.onHost {l : List Part} {s u : State} (f) (h : SameBut l s u) (hl : (([.host] : List Part).all fun q => l.contains q) = true) :
    SameBut l s (u.onHost f) := h.step (by intro q hq; cases q <;> simp_all [Part.same]) hl

theorem SameBut.onMaint {l : List Part} {s u : State} (f) (h : SameBut l s u) (hl : (([.maint] : List Part).all fun q => l.contains q) = true) :
    SameBut l s (u.onMaint f) := h.step (by intro q hq; cases q <;> simp_all [Part.same]) hl

theorem SameBut.onHp {l : List Part} {s u : State} (f) (h : SameBut l s u) (hl : (([.hp] : List Part).all fun q => l.contains q) = true) :
    SameBut l s (u.onHp f) := h.step (by intro q hq; cases q <;> simp_all [Part.same]) hl

theorem SameBut.onEv {l : List Part} {s u : State} (f) (h : SameBut l s u) (hl : (([.ev] : List Part).all fun q => l.contains q) = true) :
    SameBut l s (u.onEv f) := h.step (by intro q hq; cases q <;> simp_all [Part.same]) hl

theorem SameBut.onSys {l : List Part} {s u : State} (f) (h : SameBut l s u) (hl : (([.sys, .mode] : List Part).all fun q => l.contains q) = true) :
    SameBut l s (u.onSys f) := h.step (by intro q hq; cases q <;> simp_all [Part.same]) hl

theorem SameBut.onTime {l : List Part} {s u : State} (f) (h : SameBut l s u) (hl : (([.time] : List Part).all fun q => l.contains q) = true) :
    SameBut l s (u.onTime f) := h.step (by intro q hq; cases q <;> simp_all [Part.same]) hl

theorem SameBut.onGnss {l : List Part} {s u : State} (f) (h : SameBut l s u) (hl : (([.gnss] : List Part).all fun q => l.contains q) = true) :
    SameBut l s (u.onGnss f) := h.step (by intro q hq; cases q <;> simp_all [Part.same]) hl

theorem SameBut.onFir {l : List Part} {s u : State} (f) (h : SameBut l s u) (hl : (([.fir] : List Part).all fun q => l.contains q) = true) :
    SameBut l s (u.onFir f) := h.step (by intro q hq; cases q <;> simp_all [Part.same]) hl

theorem SameBut.onFus {l : List Part} {s u : State} (f) (h : SameBut l s u) (hl : (([.fus] : List Part).all fun q => l.contains q) = true) :
    SameBut l s (u.onFus f) := h.step (by intro q hq; cases q <;> simp_all [Part.same]) hl

theorem SameBut.onSolv {l : List Part} {s u : State} (f) (h : SameBut l s u) (hl : (([.solv] : List Part).all fun q => l.contains q) = true) :
    SameBut l s (u.onSolv f) := h.step (by intro q hq; cases q <;> simp_all [Part.same]) hl

theorem SameBut.onDpc {l : List Part} {s u : State} (f) (h : SameBut l s u) (hl : (([.dpc] : List Part).all fun q => l.contains q) = true) :
    SameBut l s (u.onDpc f) := h.step (by intro q hq; cases q <;> simp_all [Part.same]) hl

theorem SameBut.onAlloc {l : List Part} {s u : State} (f) (h : SameBut l s u) (hl : (([.alloc] : List Part).all fun q => l.contains q) = true) :
    SameBut l s (u.onAlloc f) := h.step (by intro q hq; cases q <;> simp_all [Part.same]) hl

theorem SameBut.onLoop {l : List Part} {s u : State} (f) (h : SameBut l s u) (hl : (([.loop] : List Part).all fun q => l.contains q) = true) :
    SameBut l s (u.onLoop f) := h.step (by intro q hq; cases q <;> simp_all [Part.same]) hl

theorem SameBut.onKiln {l : List Part} {s u : State} (f) (h : SameBut l s u) (hl : (([.kiln] : List Part).all fun q => l.contains q) = true) :
    SameBut l s (u.onKiln f) := h.step (by intro q hq; cases q <;> simp_all [Part.same]) hl

theorem SameBut.onDpx {l : List Part} {s u : State} (f) (h : SameBut l s u) (hl : (([.dpx] : List Part).all fun q => l.contains q) = true) :
    SameBut l s (u.onDpx f) := h.step (by intro q hq; cases q <;> simp_all [Part.same]) hl

theorem SameBut.onCan {l : List Part} {s u : State} (f) (h : SameBut l s u) (hl : (([.can] : List Part).all fun q => l.contains q) = true) :
    SameBut l s (u.onCan f) := h.step (by intro q hq; cases q <;> simp_all [Part.same]) hl

theorem SameBut.onUart {l : List Part} {s u : State} (f) (h : SameBut l s u) (hl : (([.uart] : List Part).all fun q => l.contains q) = true) :
    SameBut l s (u.onUart f) := h.step (by intro q hq; cases q <;> simp_all [Part.same]) hl

theorem SameBut.onMnt {l : List Part} {s u : State} (f) (h : SameBut l s u) (hl : (([.mnt] : List Part).all fun q => l.contains q) = true) :
    SameBut l s (u.onMnt f) := h.step (by intro q hq; cases q <;> simp_all [Part.same]) hl

theorem SameBut.onTap {l : List Part} {s u : State} (f) (h : SameBut l s u) (hl : (([.tap] : List Part).all fun q => l.contains q) = true) :
    SameBut l s (u.onTap f) := h.step (by intro q hq; cases q <;> simp_all [Part.same]) hl

theorem SameBut.onCfg {l : List Part} {s u : State} (f) (h : SameBut l s u) (hl : (([.cfg] : List Part).all fun q => l.contains q) = true) :
    SameBut l s (u.onCfg f) := h.step (by intro q hq; cases q <;> simp_all [Part.same]) hl

theorem SameBut.onLog {l : List Part} {s u : State} (f) (h : SameBut l s u) (hl : (([.log] : List Part).all fun q => l.contains q) = true) :
    SameBut l s (u.onLog f) := h.step (by intro q hq; cases q <;> simp_all [Part.same]) hl

theorem SameBut.onBulk {l : List Part} {s u : State} (f) (h : SameBut l s u) (hl : (([.bulk] : List Part).all fun q => l.contains q) = true) :
    SameBut l s (u.onBulk f) := h.step (by intro q hq; cases q <;> simp_all [Part.same]) hl

theorem SameBut.onSubs {l : List Part} {s u : State} (f) (h : SameBut l s u) (hl : (([.subs] : List Part).all fun q => l.contains q) = true) :
    SameBut l s (u.onSubs f) := h.step (by intro q hq; cases q <;> simp_all [Part.same]) hl

theorem SameBut.onFree {l : List Part} {s u : State} (f) (h : SameBut l s u) (hl : (([.free] : List Part).all fun q => l.contains q) = true) :
    SameBut l s (u.onFree f) := h.step (by intro q hq; cases q <;> simp_all [Part.same]) hl

theorem SameBut.onSysMode {l : List Part} {s u : State} (f) (h : SameBut l s u) (hl : (([.sys] : List Part).all fun q => l.contains q) = true)
    (hm : ∀ y : SysState, (f y).mode = y.mode ∧ (f y).own = y.own) : SameBut l s (u.onSys f) :=
  h.step (by intro q hq; cases q <;> simp_all [Part.same]) hl

theorem SameBut.onPort {l : List Part} {s u : State} (p : Port) (f) (h : SameBut l s u)
    (hl : (([.host, .maint] : List Part).all fun q => l.contains q) = true) : SameBut l s (u.onPort p f) := by
  refine h.step ?_ hl
  intro q hq
  cases q <;> simp_all [Part.same]

end Sys2Proof.Machine
end

