-- ==== Sys2Proof/Laws/FrameFlags.lean ====
section
/-! SUPPORT. What each operation of Machine/Flags.lean leaves alone: every part of the state but those listed. -/

namespace Sys2Proof.Machine

set_option linter.all false

theorem ack_same (s : State) : SameBut [.hp] s (ack s) := by
  unfold ack
  repeat' first
    | (extract_lets +onlyGivenNames u_; first | (apply SameBut.gen (u := u_); (on_goal 1 => (dsimp -zeta -zetaHave only [u_]; clear u_)); (on_goal 2 => (clear_value u_; revert u_; intros))) | (clear_value u_; revert u_; intros) | (revert u_; intros))
    | with_reducible assumption
    | with_reducible apply SameBut.refl
    | ((with_reducible apply SameBut.onHp); (case hl => rfl))
    | split
    | dsimp only

end Sys2Proof.Machine
end

