-- ==== Sys2Proof/Laws/FrameOps.lean ====
section
/-! SUPPORT. What each operation of Machine/Ops.lean leaves alone: every part of the state but those listed. -/

namespace Sys2Proof.Machine

set_option linter.all false

theorem drawn_same (s : State) : SameBut [.free] s (drawn s) := by
  unfold drawn
  repeat' first
    | (extract_lets +onlyGivenNames u_; first | (apply SameBut.gen (u := u_); (on_goal 1 => (dsimp -zeta -zetaHave only [u_]; clear u_)); (on_goal 2 => (clear_value u_; revert u_; intros))) | (clear_value u_; revert u_; intros) | (revert u_; intros))
    | with_reducible assumption
    | with_reducible apply SameBut.refl
    | ((with_reducible apply SameBut.onFree); (case hl => rfl))
    | split
    | dsimp only

theorem enqueueRec_same (r : Rec) (s : State) : SameBut [.log] s (enqueueRec r s).1 := by
  unfold enqueueRec
  repeat' first
    | (extract_lets +onlyGivenNames u_; first | (apply SameBut.gen (u := u_); (on_goal 1 => (dsimp -zeta -zetaHave only [u_]; clear u_)); (on_goal 2 => (clear_value u_; revert u_; intros))) | (clear_value u_; revert u_; intros) | (revert u_; intros))
    | with_reducible assumption
    | with_reducible apply SameBut.refl
    | ((with_reducible apply SameBut.onLog); (case hl => rfl))
    | split
    | dsimp only

theorem suppress_same (code : Nat) (s : State) : SameBut [.log] s (suppress code s) := by
  unfold suppress
  repeat' first
    | (extract_lets +onlyGivenNames u_; first | (apply SameBut.gen (u := u_); (on_goal 1 => (dsimp -zeta -zetaHave only [u_]; clear u_)); (on_goal 2 => (clear_value u_; revert u_; intros))) | (clear_value u_; revert u_; intros) | (revert u_; intros))
    | with_reducible assumption
    | with_reducible apply SameBut.refl
    | ((with_reducible apply SameBut.onLog); (case hl => rfl))
    | split
    | dsimp only

theorem takeToken_same (code : Nat) (s : State) : ∀ w, takeToken code s = some w → SameBut [.log] s w := by
  intro w h
  unfold takeToken at h
  dsimp only at h
  split at h
  · injection h with h; subst h; exact SameBut.refl _ _
  · split at h <;> split at h
    all_goals first
      | (injection h with h; subst h; exact SameBut.onLog _ (SameBut.refl _ _) (by decide))
      | cases h

theorem limitRec_same (r : Rec) (s : State) : SameBut [.log] s (limitRec r s).1 := by
  unfold limitRec
  repeat' first
    | (extract_lets +onlyGivenNames u_; first | (apply SameBut.gen (u := u_); (on_goal 1 => (dsimp -zeta -zetaHave only [u_]; clear u_)); (on_goal 2 => (clear_value u_; revert u_; intros))) | (clear_value u_; revert u_; intros) | (revert u_; intros))
    | with_reducible assumption
    | with_reducible apply SameBut.refl
    | ((with_reducible apply SameBut.step (k := enqueueRec_same _ _)); (case hl => rfl))
    | ((with_reducible apply SameBut.fst_ (k := enqueueRec_same _ _) (by assumption)); (case hl => rfl))
    | ((with_reducible apply SameBut.step (k := suppress_same _ _)); (case hl => rfl))
    | ((with_reducible apply SameBut.some_ (k := takeToken_same _ _) (by assumption)); (case hl => rfl))
    | split
    | dsimp only

theorem newRec_same (code source sev : Nat) (fwd : Bool) (payload : List Byte) (s : State) : SameBut [.log] s (newRec code source sev fwd payload s).1 := by
  unfold newRec
  repeat' first
    | (extract_lets +onlyGivenNames u_; first | (apply SameBut.gen (u := u_); (on_goal 1 => (dsimp -zeta -zetaHave only [u_]; clear u_)); (on_goal 2 => (clear_value u_; revert u_; intros))) | (clear_value u_; revert u_; intros) | (revert u_; intros))
    | with_reducible assumption
    | with_reducible apply SameBut.refl
    | ((with_reducible apply SameBut.onLog); (case hl => rfl))
    | ((with_reducible apply SameBut.step (k := limitRec_same _ _)); (case hl => rfl))
    | ((with_reducible apply SameBut.fst_ (k := limitRec_same _ _) (by assumption)); (case hl => rfl))
    | split
    | dsimp only

theorem unsol_same (p : Port) (code : Nat) (ws : List Word) (s : State) : SameBut [.host, .maint] s (unsol p code ws s) := by
  unfold unsol
  repeat' first
    | (extract_lets +onlyGivenNames u_; first | (apply SameBut.gen (u := u_); (on_goal 1 => (dsimp -zeta -zetaHave only [u_]; clear u_)); (on_goal 2 => (clear_value u_; revert u_; intros))) | (clear_value u_; revert u_; intros) | (revert u_; intros))
    | with_reducible assumption
    | with_reducible apply SameBut.refl
    | ((with_reducible apply SameBut.onPort); (case hl => rfl))
    | split
    | dsimp only

theorem notices_same (n : Fin 128) (detail mt : Nat) (s : State) : SameBut [.host, .maint] s (notices n detail mt s) := by
  unfold notices
  repeat' first
    | (extract_lets +onlyGivenNames u_; first | (apply SameBut.gen (u := u_); (on_goal 1 => (dsimp -zeta -zetaHave only [u_]; clear u_)); (on_goal 2 => (clear_value u_; revert u_; intros))) | (clear_value u_; revert u_; intros) | (revert u_; intros))
    | with_reducible assumption
    | with_reducible apply SameBut.refl
    | ((with_reducible apply SameBut.step (k := unsol_same _ _ _ _)); (case hl => rfl))
    | split
    | dsimp only

theorem occur_same (n : Fin 128) (detail mt : Nat) (s : State) : SameBut [.host, .maint, .ev, .log] s (occur n detail mt s) := by
  unfold occur
  repeat' first
    | (extract_lets +onlyGivenNames u_; first | (apply SameBut.gen (u := u_); (on_goal 1 => (dsimp -zeta -zetaHave only [u_]; clear u_)); (on_goal 2 => (clear_value u_; revert u_; intros))) | (clear_value u_; revert u_; intros) | (revert u_; intros))
    | with_reducible assumption
    | with_reducible apply SameBut.refl
    | ((with_reducible apply SameBut.onEv); (case hl => rfl))
    | ((with_reducible apply SameBut.step (k := newRec_same _ _ _ _ _ _)); (case hl => rfl))
    | ((with_reducible apply SameBut.fst_ (k := newRec_same _ _ _ _ _ _) (by assumption)); (case hl => rfl))
    | ((with_reducible apply SameBut.step (k := notices_same _ _ _ _)); (case hl => rfl))
    | split
    | dsimp only

theorem overflow_same (before after : State) : SameBut [.host, .maint, .ev, .log] after (overflow before after) := by
  unfold overflow
  repeat' first
    | (extract_lets +onlyGivenNames u_; first | (apply SameBut.gen (u := u_); (on_goal 1 => (dsimp -zeta -zetaHave only [u_]; clear u_)); (on_goal 2 => (clear_value u_; revert u_; intros))) | (clear_value u_; revert u_; intros) | (revert u_; intros))
    | with_reducible assumption
    | with_reducible apply SameBut.refl
    | ((with_reducible apply SameBut.step (k := occur_same _ _ _ _)); (case hl => rfl))
    | split
    | dsimp only

theorem raiseAt_same (n : Fin 128) (detail mt : Nat) (s : State) : SameBut [.host, .maint, .ev, .log] s (raiseAt n detail mt s) := by
  unfold raiseAt
  repeat' first
    | (extract_lets +onlyGivenNames u_; first | (apply SameBut.gen (u := u_); (on_goal 1 => (dsimp -zeta -zetaHave only [u_]; clear u_)); (on_goal 2 => (clear_value u_; revert u_; intros))) | (clear_value u_; revert u_; intros) | (revert u_; intros))
    | with_reducible assumption
    | with_reducible apply SameBut.refl
    | ((with_reducible apply SameBut.step (k := occur_same _ _ _ _)); (case hl => rfl))
    | ((with_reducible apply SameBut.step (k := overflow_same _ _)); (case hl => rfl))
    | split
    | dsimp only

theorem raise_same (n : Fin 128) (detail : Nat) (s : State) : SameBut [.host, .maint, .ev, .log] s (raise n detail s) := by
  unfold raise
  repeat' first
    | (extract_lets +onlyGivenNames u_; first | (apply SameBut.gen (u := u_); (on_goal 1 => (dsimp -zeta -zetaHave only [u_]; clear u_)); (on_goal 2 => (clear_value u_; revert u_; intros))) | (clear_value u_; revert u_; intros) | (revert u_; intros))
    | with_reducible assumption
    | with_reducible apply SameBut.refl
    | ((with_reducible apply SameBut.step (k := raiseAt_same _ _ _ _)); (case hl => rfl))
    | split
    | dsimp only

theorem commit_same (p : Port) (tag : Nat) (s : State) : SameBut [.host, .maint] s (commit p tag s) := by
  unfold commit
  repeat' first
    | (extract_lets +onlyGivenNames u_; first | (apply SameBut.gen (u := u_); (on_goal 1 => (dsimp -zeta -zetaHave only [u_]; clear u_)); (on_goal 2 => (clear_value u_; revert u_; intros))) | (clear_value u_; revert u_; intros) | (revert u_; intros))
    | with_reducible assumption
    | with_reducible apply SameBut.refl
    | ((with_reducible apply SameBut.onPort); (case hl => rfl))
    | split
    | dsimp only

theorem place_same (p : Port) (k : Pkt) (s : State) : SameBut [.host, .maint] s (place p k s) := by
  unfold place
  repeat' first
    | (extract_lets +onlyGivenNames u_; first | (apply SameBut.gen (u := u_); (on_goal 1 => (dsimp -zeta -zetaHave only [u_]; clear u_)); (on_goal 2 => (clear_value u_; revert u_; intros))) | (clear_value u_; revert u_; intros) | (revert u_; intros))
    | with_reducible assumption
    | with_reducible apply SameBut.refl
    | ((with_reducible apply SameBut.onPort); (case hl => rfl))
    | split
    | dsimp only

theorem finish_same (p : Port) (tag cls st detail : Nat) (ws : List Word) (s : State) : SameBut [.host, .maint, .sys] s (finish p tag cls st detail ws s) := by
  unfold finish
  repeat' first
    | (extract_lets +onlyGivenNames u_; first | (apply SameBut.gen (u := u_); (on_goal 1 => (dsimp -zeta -zetaHave only [u_]; clear u_)); (on_goal 2 => (clear_value u_; revert u_; intros))) | (clear_value u_; revert u_; intros) | (revert u_; intros))
    | with_reducible assumption
    | with_reducible apply SameBut.refl
    | ((with_reducible apply SameBut.onPort); (case hl => rfl))
    | ((with_reducible apply SameBut.onSysMode); (case hl => rfl))
    | (show ∀ _ : SysState, _ ∧ _; intros; repeat' first | exact ⟨rfl, rfl⟩ | split | dsimp only)
    | ((with_reducible apply SameBut.step (k := place_same _ _ _)); (case hl => rfl))
    | split
    | dsimp only

theorem advance_same (n : Nat) (s : State) : SameBut [.time] s (advance n s) := by
  unfold advance
  repeat' first
    | (extract_lets +onlyGivenNames u_; first | (apply SameBut.gen (u := u_); (on_goal 1 => (dsimp -zeta -zetaHave only [u_]; clear u_)); (on_goal 2 => (clear_value u_; revert u_; intros))) | (clear_value u_; revert u_; intros) | (revert u_; intros))
    | with_reducible assumption
    | with_reducible apply SameBut.refl
    | ((with_reducible apply SameBut.onTime); (case hl => rfl))
    | split
    | dsimp only

theorem advanceNow_same (m : Nat) (s : State) : SameBut [.time] s (advanceNow m s) := by
  unfold advanceNow
  repeat' first
    | (extract_lets +onlyGivenNames u_; first | (apply SameBut.gen (u := u_); (on_goal 1 => (dsimp -zeta -zetaHave only [u_]; clear u_)); (on_goal 2 => (clear_value u_; revert u_; intros))) | (clear_value u_; revert u_; intros) | (revert u_; intros))
    | with_reducible assumption
    | with_reducible apply SameBut.refl
    | ((with_reducible apply SameBut.step (k := advance_same _ _)); (case hl => rfl))
    | split
    | dsimp only

theorem advanceTo_same (m : Nat) (s : State) : SameBut [.time] s (advanceTo m s) := by
  unfold advanceTo
  repeat' first
    | (extract_lets +onlyGivenNames u_; first | (apply SameBut.gen (u := u_); (on_goal 1 => (dsimp -zeta -zetaHave only [u_]; clear u_)); (on_goal 2 => (clear_value u_; revert u_; intros))) | (clear_value u_; revert u_; intros) | (revert u_; intros))
    | with_reducible assumption
    | with_reducible apply SameBut.refl
    | ((with_reducible apply SameBut.step (k := advance_same _ _)); (case hl => rfl))
    | split
    | dsimp only

theorem cancelModeCmd_same (detail : Nat) (s : State) : SameBut [.host, .maint, .sys, .dpx] s (cancelModeCmd detail s) := by
  unfold cancelModeCmd
  repeat' first
    | (extract_lets +onlyGivenNames u_; first | (apply SameBut.gen (u := u_); (on_goal 1 => (dsimp -zeta -zetaHave only [u_]; clear u_)); (on_goal 2 => (clear_value u_; revert u_; intros))) | (clear_value u_; revert u_; intros) | (revert u_; intros))
    | with_reducible assumption
    | with_reducible apply SameBut.refl
    | ((with_reducible apply SameBut.onDpx); (case hl => rfl))
    | ((with_reducible apply SameBut.onSysMode); (case hl => rfl))
    | (show ∀ _ : SysState, _ ∧ _; intros; repeat' first | exact ⟨rfl, rfl⟩ | split | dsimp only)
    | ((with_reducible apply SameBut.step (k := finish_same _ _ _ _ _ _ _)); (case hl => rfl))
    | split
    | dsimp only

theorem cancelTransferReq_same (s : State) : SameBut [.host, .maint, .sys, .dpx] s (cancelTransferReq s) := by
  unfold cancelTransferReq
  repeat' first
    | (extract_lets +onlyGivenNames u_; first | (apply SameBut.gen (u := u_); (on_goal 1 => (dsimp -zeta -zetaHave only [u_]; clear u_)); (on_goal 2 => (clear_value u_; revert u_; intros))) | (clear_value u_; revert u_; intros) | (revert u_; intros))
    | with_reducible assumption
    | with_reducible apply SameBut.refl
    | ((with_reducible apply SameBut.onDpx); (case hl => rfl))
    | ((with_reducible apply SameBut.step (k := finish_same _ _ _ _ _ _ _)); (case hl => rfl))
    | split
    | dsimp only

theorem cancelTransfer_same (s : State) : SameBut [.host, .maint, .sys, .dpx] s (cancelTransfer s) := by
  unfold cancelTransfer
  repeat' first
    | (extract_lets +onlyGivenNames u_; first | (apply SameBut.gen (u := u_); (on_goal 1 => (dsimp -zeta -zetaHave only [u_]; clear u_)); (on_goal 2 => (clear_value u_; revert u_; intros))) | (clear_value u_; revert u_; intros) | (revert u_; intros))
    | with_reducible assumption
    | with_reducible apply SameBut.refl
    | ((with_reducible apply SameBut.onDpx); (case hl => rfl))
    | ((with_reducible apply SameBut.step (k := cancelTransferReq_same _)); (case hl => rfl))
    | ((with_reducible apply SameBut.step (k := finish_same _ _ _ _ _ _ _)); (case hl => rfl))
    | split
    | dsimp only

theorem giveUp_same (code : Nat) (s : State) : SameBut [.host, .maint, .sys, .dpx] s (giveUp code s) := by
  unfold giveUp
  repeat' first
    | (extract_lets +onlyGivenNames u_; first | (apply SameBut.gen (u := u_); (on_goal 1 => (dsimp -zeta -zetaHave only [u_]; clear u_)); (on_goal 2 => (clear_value u_; revert u_; intros))) | (clear_value u_; revert u_; intros) | (revert u_; intros))
    | with_reducible assumption
    | with_reducible apply SameBut.refl
    | ((with_reducible apply SameBut.onDpx); (case hl => rfl))
    | ((with_reducible apply SameBut.onSysMode); (case hl => rfl))
    | (show ∀ _ : SysState, _ ∧ _; intros; repeat' first | exact ⟨rfl, rfl⟩ | split | dsimp only)
    | ((with_reducible apply SameBut.step (k := cancelModeCmd_same _ _)); (case hl => rfl))
    | ((with_reducible apply SameBut.step (k := cancelTransfer_same _)); (case hl => rfl))
    | split
    | dsimp only

theorem ownTransition_same (m : Mode) (kind detail : Nat) (s : State) : SameBut [.host, .maint, .sys, .dpx] s (ownTransition m kind detail s) := by
  unfold ownTransition
  repeat' first
    | (extract_lets +onlyGivenNames u_; first | (apply SameBut.gen (u := u_); (on_goal 1 => (dsimp -zeta -zetaHave only [u_]; clear u_)); (on_goal 2 => (clear_value u_; revert u_; intros))) | (clear_value u_; revert u_; intros) | (revert u_; intros))
    | with_reducible assumption
    | with_reducible apply SameBut.refl
    | ((with_reducible apply SameBut.onSysMode); (case hl => rfl))
    | (show ∀ _ : SysState, _ ∧ _; intros; repeat' first | exact ⟨rfl, rfl⟩ | split | dsimp only)
    | ((with_reducible apply SameBut.step (k := cancelModeCmd_same _ _)); (case hl => rfl))
    | ((with_reducible apply SameBut.step (k := cancelTransfer_same _)); (case hl => rfl))
    | split
    | dsimp only

theorem selfDiag_same (code : Nat) (s : State) : SameBut [.host, .maint, .ev, .sys, .dpx, .log] s (selfDiag code s) := by
  unfold selfDiag
  repeat' first
    | (extract_lets +onlyGivenNames u_; first | (apply SameBut.gen (u := u_); (on_goal 1 => (dsimp -zeta -zetaHave only [u_]; clear u_)); (on_goal 2 => (clear_value u_; revert u_; intros))) | (clear_value u_; revert u_; intros) | (revert u_; intros))
    | with_reducible assumption
    | with_reducible apply SameBut.refl
    | ((with_reducible apply SameBut.onSysMode); (case hl => rfl))
    | (show ∀ _ : SysState, _ ∧ _; intros; repeat' first | exact ⟨rfl, rfl⟩ | split | dsimp only)
    | ((with_reducible apply SameBut.step (k := giveUp_same _ _)); (case hl => rfl))
    | ((with_reducible apply SameBut.step (k := ownTransition_same _ _ _ _)); (case hl => rfl))
    | ((with_reducible apply SameBut.step (k := raise_same _ _ _)); (case hl => rfl))
    | split
    | dsimp only

theorem missDeadline_same (d : Nat) (s : State) : SameBut [.host, .maint, .ev, .sys, .dpx, .log] s (missDeadline d s) := by
  unfold missDeadline
  repeat' first
    | (extract_lets +onlyGivenNames u_; first | (apply SameBut.gen (u := u_); (on_goal 1 => (dsimp -zeta -zetaHave only [u_]; clear u_)); (on_goal 2 => (clear_value u_; revert u_; intros))) | (clear_value u_; revert u_; intros) | (revert u_; intros))
    | with_reducible assumption
    | with_reducible apply SameBut.refl
    | ((with_reducible apply SameBut.onSysMode); (case hl => rfl))
    | (show ∀ _ : SysState, _ ∧ _; intros; repeat' first | exact ⟨rfl, rfl⟩ | split | dsimp only)
    | ((with_reducible apply SameBut.step (k := selfDiag_same _ _)); (case hl => rfl))
    | split
    | dsimp only

theorem record_same (code source sev : Nat) (payload : List Byte) (s : State) : SameBut [.host, .maint, .ev, .log] s (record code source sev payload s) := by
  unfold record
  repeat' first
    | (extract_lets +onlyGivenNames u_; first | (apply SameBut.gen (u := u_); (on_goal 1 => (dsimp -zeta -zetaHave only [u_]; clear u_)); (on_goal 2 => (clear_value u_; revert u_; intros))) | (clear_value u_; revert u_; intros) | (revert u_; intros))
    | with_reducible assumption
    | with_reducible apply SameBut.refl
    | ((with_reducible apply SameBut.step (k := newRec_same _ _ _ _ _ _)); (case hl => rfl))
    | ((with_reducible apply SameBut.fst_ (k := newRec_same _ _ _ _ _ _) (by assumption)); (case hl => rfl))
    | ((with_reducible apply SameBut.step (k := overflow_same _ _)); (case hl => rfl))
    | split
    | dsimp only

theorem changeRecord_same (p : Port) (tag : Nat) (op : Op) (inst : Nat) (before after : Word) (fwd : Bool) (s : State) : SameBut [.host, .maint, .ev, .log] s (changeRecord p tag op inst before after fwd s) := by
  unfold changeRecord
  repeat' first
    | (extract_lets +onlyGivenNames u_; first | (apply SameBut.gen (u := u_); (on_goal 1 => (dsimp -zeta -zetaHave only [u_]; clear u_)); (on_goal 2 => (clear_value u_; revert u_; intros))) | (clear_value u_; revert u_; intros) | (revert u_; intros))
    | with_reducible assumption
    | with_reducible apply SameBut.refl
    | ((with_reducible apply SameBut.step (k := newRec_same _ _ _ _ _ _)); (case hl => rfl))
    | ((with_reducible apply SameBut.fst_ (k := newRec_same _ _ _ _ _ _) (by assumption)); (case hl => rfl))
    | ((with_reducible apply SameBut.step (k := overflow_same _ _)); (case hl => rfl))
    | ((with_reducible apply SameBut.step (k := raise_same _ _ _)); (case hl => rfl))
    | split
    | dsimp only

theorem promote_same (t : Timing) (s : State) : SameBut [.cfg] s (promote t s) := by
  unfold promote
  repeat' first
    | (extract_lets +onlyGivenNames u_; first | (apply SameBut.gen (u := u_); (on_goal 1 => (dsimp -zeta -zetaHave only [u_]; clear u_)); (on_goal 2 => (clear_value u_; revert u_; intros))) | (clear_value u_; revert u_; intros) | (revert u_; intros))
    | with_reducible assumption
    | with_reducible apply SameBut.refl
    | ((with_reducible apply SameBut.onCfg); (case hl => rfl))
    | with_reducible apply SameBut.foldl
    | with_reducible intro _
    | split
    | dsimp only

theorem setConfig_same (p : Port) (tag : Nat) (op : Op) (inst : Nat) (ws : List Word) (fwd : Bool) (s : State) : SameBut [.host, .maint, .ev, .cfg, .log] s (setConfig p tag op inst ws fwd s) := by
  unfold setConfig
  repeat' first
    | (extract_lets +onlyGivenNames u_; first | (apply SameBut.gen (u := u_); (on_goal 1 => (dsimp -zeta -zetaHave only [u_]; clear u_)); (on_goal 2 => (clear_value u_; revert u_; intros))) | (clear_value u_; revert u_; intros) | (revert u_; intros))
    | with_reducible assumption
    | with_reducible apply SameBut.refl
    | ((with_reducible apply SameBut.onCfg); (case hl => rfl))
    | ((with_reducible apply SameBut.step (k := changeRecord_same _ _ _ _ _ _ _ _)); (case hl => rfl))
    | ((with_reducible apply SameBut.step (k := promote_same _ _)); (case hl => rfl))
    | split
    | dsimp only

theorem ok_same (p : Port) (c : Cmd) (detail : Nat) (ws : List Word) (s : State) : SameBut [.host, .maint, .sys] s (ok p c detail ws s) := by
  unfold ok
  repeat' first
    | (extract_lets +onlyGivenNames u_; first | (apply SameBut.gen (u := u_); (on_goal 1 => (dsimp -zeta -zetaHave only [u_]; clear u_)); (on_goal 2 => (clear_value u_; revert u_; intros))) | (clear_value u_; revert u_; intros) | (revert u_; intros))
    | with_reducible assumption
    | with_reducible apply SameBut.refl
    | ((with_reducible apply SameBut.step (k := finish_same _ _ _ _ _ _ _)); (case hl => rfl))
    | split
    | dsimp only

theorem reject_same (p : Port) (c : Cmd) (st detail : Nat) (s : State) : SameBut [.host, .maint, .sys] s (reject p c st detail s) := by
  unfold reject
  repeat' first
    | (extract_lets +onlyGivenNames u_; first | (apply SameBut.gen (u := u_); (on_goal 1 => (dsimp -zeta -zetaHave only [u_]; clear u_)); (on_goal 2 => (clear_value u_; revert u_; intros))) | (clear_value u_; revert u_; intros) | (revert u_; intros))
    | with_reducible assumption
    | with_reducible apply SameBut.refl
    | ((with_reducible apply SameBut.step (k := finish_same _ _ _ _ _ _ _)); (case hl => rfl))
    | split
    | dsimp only

theorem badValue_same (p : Port) (c : Cmd) (i : Nat) (s : State) : SameBut [.host, .maint, .sys] s (badValue p c i s) := by
  unfold badValue
  repeat' first
    | (extract_lets +onlyGivenNames u_; first | (apply SameBut.gen (u := u_); (on_goal 1 => (dsimp -zeta -zetaHave only [u_]; clear u_)); (on_goal 2 => (clear_value u_; revert u_; intros))) | (clear_value u_; revert u_; intros) | (revert u_; intros))
    | with_reducible assumption
    | with_reducible apply SameBut.refl
    | ((with_reducible apply SameBut.step (k := reject_same _ _ _ _ _)); (case hl => rfl))
    | split
    | dsimp only

theorem pending_same (p : Port) (c : Cmd) (ms : Nat) (s : State) : SameBut [.host, .maint] s (pending p c ms s) := by
  unfold pending
  repeat' first
    | (extract_lets +onlyGivenNames u_; first | (apply SameBut.gen (u := u_); (on_goal 1 => (dsimp -zeta -zetaHave only [u_]; clear u_)); (on_goal 2 => (clear_value u_; revert u_; intros))) | (clear_value u_; revert u_; intros) | (revert u_; intros))
    | with_reducible assumption
    | with_reducible apply SameBut.refl
    | ((with_reducible apply SameBut.onPort); (case hl => rfl))
    | ((with_reducible apply SameBut.step (k := place_same _ _ _)); (case hl => rfl))
    | split
    | dsimp only

theorem stream_same (code inst : Nat) (ws : List Word) (s : State) : SameBut [.host, .maint] s (stream code inst ws s) := by
  unfold stream
  repeat' first
    | (extract_lets +onlyGivenNames u_; first | (apply SameBut.gen (u := u_); (on_goal 1 => (dsimp -zeta -zetaHave only [u_]; clear u_)); (on_goal 2 => (clear_value u_; revert u_; intros))) | (clear_value u_; revert u_; intros) | (revert u_; intros))
    | with_reducible assumption
    | with_reducible apply SameBut.refl
    | ((with_reducible apply SameBut.step (k := unsol_same _ _ _ _)); (case hl => rfl))
    | split
    | dsimp only

theorem subscribe_same (stream inst : Nat) (p : Port) (decim arg : Nat) (s : State) : SameBut [.host, .maint, .subs] s (subscribe stream inst p decim arg s) := by
  unfold subscribe
  repeat' first
    | (extract_lets +onlyGivenNames u_; first | (apply SameBut.gen (u := u_); (on_goal 1 => (dsimp -zeta -zetaHave only [u_]; clear u_)); (on_goal 2 => (clear_value u_; revert u_; intros))) | (clear_value u_; revert u_; intros) | (revert u_; intros))
    | with_reducible assumption
    | with_reducible apply SameBut.refl
    | ((with_reducible apply SameBut.onSubs); (case hl => rfl))
    | ((with_reducible apply SameBut.step (k := stream_same _ _ _ _)); (case hl => rfl))
    | split
    | dsimp only

theorem startExits_same (need : Fin 12 → Bool) (s : State) : SameBut [.sys] s (startExits need s) := by
  unfold startExits
  repeat' first
    | (extract_lets +onlyGivenNames u_; first | (apply SameBut.gen (u := u_); (on_goal 1 => (dsimp -zeta -zetaHave only [u_]; clear u_)); (on_goal 2 => (clear_value u_; revert u_; intros))) | (clear_value u_; revert u_; intros) | (revert u_; intros))
    | with_reducible assumption
    | with_reducible apply SameBut.refl
    | ((with_reducible apply SameBut.onSysMode); (case hl => rfl))
    | (show ∀ _ : SysState, _ ∧ _; intros; repeat' first | exact ⟨rfl, rfl⟩ | split | dsimp only)
    | split
    | dsimp only

theorem wakeTrigger_same (kind : Nat) (s : State) : SameBut [.host, .maint, .ev, .sys, .log] s (wakeTrigger kind s) := by
  unfold wakeTrigger
  repeat' first
    | (extract_lets +onlyGivenNames u_; first | (apply SameBut.gen (u := u_); (on_goal 1 => (dsimp -zeta -zetaHave only [u_]; clear u_)); (on_goal 2 => (clear_value u_; revert u_; intros))) | (clear_value u_; revert u_; intros) | (revert u_; intros))
    | with_reducible assumption
    | with_reducible apply SameBut.refl
    | ((with_reducible apply SameBut.onSysMode); (case hl => rfl))
    | (show ∀ _ : SysState, _ ∧ _; intros; repeat' first | exact ⟨rfl, rfl⟩ | split | dsimp only)
    | ((with_reducible apply SameBut.step (k := raise_same _ _ _)); (case hl => rfl))
    | ((with_reducible apply SameBut.step (k := startExits_same _ _)); (case hl => rfl))
    | split
    | dsimp only

theorem forward_same (p : Port) (c : Cmd) (s : State) : SameBut [.dpx] s (forward p c s) := by
  unfold forward
  repeat' first
    | (extract_lets +onlyGivenNames u_; first | (apply SameBut.gen (u := u_); (on_goal 1 => (dsimp -zeta -zetaHave only [u_]; clear u_)); (on_goal 2 => (clear_value u_; revert u_; intros))) | (clear_value u_; revert u_; intros) | (revert u_; intros))
    | with_reducible assumption
    | with_reducible apply SameBut.refl
    | ((with_reducible apply SameBut.onDpx); (case hl => rfl))
    | split
    | dsimp only

/-- A row changes what its body changes, and the port's queue state with its reply. -/
theorem SameBut.runOpV {l : List Part} {s u : State} (op : Op) (p : Port) (early : Cmd → State → Option Nat) (body : Cmd → State → State)
    (hl : (([.host, .maint, .sys] : List Part).all fun q => l.contains q) = true)
    (hb : ∀ c w, SameBut l w (body c w)) (h : SameBut l s u) : SameBut l s (runOpV op p early body u) := by
  refine h.trans ?_
  have hl2 : (([.host, .maint] : List Part).all fun q => l.contains q) = true := by simp_all
  unfold Machine.runOpV
  repeat' first
    | with_reducible apply SameBut.refl
    | with_reducible apply SameBut.trans (k := hb _ _)
    | with_reducible apply SameBut.step (k := badValue_same _ _ _ _) (hl := hl)
    | with_reducible apply SameBut.step (k := reject_same _ _ _ _ _) (hl := hl)
    | with_reducible apply SameBut.onPort (hl := hl2)
    | split
    | dsimp only

theorem configRow_same (op : Op) (p : Port) (check : Cmd → List Word → State → Option (Nat × Nat)) (s : State) : SameBut [.host, .maint, .ev, .sys, .dpx, .cfg, .log] s (configRow op p check s) := by
  unfold configRow
  repeat' first
    | (extract_lets +onlyGivenNames u_; first | (apply SameBut.gen (u := u_); (on_goal 1 => (dsimp -zeta -zetaHave only [u_]; clear u_)); (on_goal 2 => (clear_value u_; revert u_; intros))) | (clear_value u_; revert u_; intros) | (revert u_; intros))
    | with_reducible assumption
    | with_reducible apply SameBut.refl
    | ((with_reducible apply SameBut.step (k := forward_same _ _ _)); (case hl => rfl))
    | ((with_reducible apply SameBut.step (k := ok_same _ _ _ _ _)); (case hl => rfl))
    | ((with_reducible apply SameBut.step (k := reject_same _ _ _ _ _)); (case hl => rfl))
    | ((with_reducible apply SameBut.step (k := setConfig_same _ _ _ _ _ _ _)); (case hl => rfl))
    | ((with_reducible apply SameBut.runOpV); (case hl => rfl))
    | with_reducible intro _
    | split
    | dsimp only

/-- A row changes what its body changes, and the port's queue state with its reply. -/
theorem SameBut.runOp {l : List Part} {s u : State} (op : Op) (p : Port) (body : Cmd → State → State)
    (hl : (([.host, .maint, .sys] : List Part).all fun q => l.contains q) = true)
    (hb : ∀ c w, SameBut l w (body c w)) (h : SameBut l s u) : SameBut l s (runOp op p body u) :=
  SameBut.runOpV op p _ body hl hb h

theorem headReject_same (p : Port) (code tag st detail : Nat) (s : State) : SameBut [.host, .maint, .sys] s (headReject p code tag st detail s) := by
  unfold headReject
  repeat' first
    | (extract_lets +onlyGivenNames u_; first | (apply SameBut.gen (u := u_); (on_goal 1 => (dsimp -zeta -zetaHave only [u_]; clear u_)); (on_goal 2 => (clear_value u_; revert u_; intros))) | (clear_value u_; revert u_; intros) | (revert u_; intros))
    | with_reducible assumption
    | with_reducible apply SameBut.refl
    | ((with_reducible apply SameBut.onSysMode); (case hl => rfl))
    | (show ∀ _ : SysState, _ ∧ _; intros; repeat' first | exact ⟨rfl, rfl⟩ | split | dsimp only)
    | ((with_reducible apply SameBut.step (k := place_same _ _ _)); (case hl => rfl))
    | split
    | dsimp only

theorem setBudget_same (us : Nat) (s : State) : SameBut [.hp, .sys] s (setBudget us s) := by
  unfold setBudget
  repeat' first
    | (extract_lets +onlyGivenNames u_; first | (apply SameBut.gen (u := u_); (on_goal 1 => (dsimp -zeta -zetaHave only [u_]; clear u_)); (on_goal 2 => (clear_value u_; revert u_; intros))) | (clear_value u_; revert u_; intros) | (revert u_; intros))
    | with_reducible assumption
    | with_reducible apply SameBut.refl
    | ((with_reducible apply SameBut.onHp); (case hl => rfl))
    | ((with_reducible apply SameBut.step (k := startExits_same _ _)); (case hl => rfl))
    | split
    | dsimp only

theorem setUnit_same (p : Port) (tag u : Nat) (s : State) : SameBut [.host, .maint] s (setUnit p tag u s) := by
  unfold setUnit
  repeat' first
    | (extract_lets +onlyGivenNames u_; first | (apply SameBut.gen (u := u_); (on_goal 1 => (dsimp -zeta -zetaHave only [u_]; clear u_)); (on_goal 2 => (clear_value u_; revert u_; intros))) | (clear_value u_; revert u_; intros) | (revert u_; intros))
    | with_reducible assumption
    | with_reducible apply SameBut.refl
    | ((with_reducible apply SameBut.onPort); (case hl => rfl))
    | split
    | dsimp only

end Sys2Proof.Machine
end

