-- ==== Sys2Proof/Laws/FrameTime.lean ====
section
/-! SUPPORT. What each operation of Machine/Time.lean leaves alone: every part of the state but those listed. -/

namespace Sys2Proof.Machine

set_option linter.all false

theorem alarmFrom_same (i : Fin 2) (t : Nat) (s : State) : SameBut [.time] s (alarmFrom i t s) := by
  unfold alarmFrom
  repeat' first
    | (extract_lets +onlyGivenNames u_; first | (apply SameBut.gen (u := u_); (on_goal 1 => (dsimp -zeta -zetaHave only [u_]; clear u_)); (on_goal 2 => (clear_value u_; revert u_; intros))) | (clear_value u_; revert u_; intros) | (revert u_; intros))
    | with_reducible assumption
    | with_reducible apply SameBut.refl
    | ((with_reducible apply SameBut.onTime); (case hl => rfl))
    | split
    | dsimp only

theorem anchor_same (start : Bool) (source told tnew : Nat) (s : State) : SameBut [.host, .maint, .ev, .log] s (anchor start source told tnew s) := by
  unfold anchor
  repeat' first
    | (extract_lets +onlyGivenNames u_; first | (apply SameBut.gen (u := u_); (on_goal 1 => (dsimp -zeta -zetaHave only [u_]; clear u_)); (on_goal 2 => (clear_value u_; revert u_; intros))) | (clear_value u_; revert u_; intros) | (revert u_; intros))
    | with_reducible assumption
    | with_reducible apply SameBut.refl
    | ((with_reducible apply SameBut.step (k := record_same _ _ _ _ _)); (case hl => rfl))
    | split
    | dsimp only

theorem captureTime_same (l : RtcLoad) (s : State) : SameBut [.host, .maint, .sys, .time] s (captureTime l s) := by
  unfold captureTime
  repeat' first
    | (extract_lets +onlyGivenNames u_; first | (apply SameBut.gen (u := u_); (on_goal 1 => (dsimp -zeta -zetaHave only [u_]; clear u_)); (on_goal 2 => (clear_value u_; revert u_; intros))) | (clear_value u_; revert u_; intros) | (revert u_; intros))
    | with_reducible assumption
    | with_reducible apply SameBut.refl
    | ((with_reducible apply SameBut.onTime); (case hl => rfl))
    | ((with_reducible apply SameBut.step (k := finish_same _ _ _ _ _ _ _)); (case hl => rfl))
    | split
    | dsimp only

theorem commitStaged_same (s : State) : SameBut [.host, .maint, .ev, .sys, .time, .log] s (commitStaged s) := by
  unfold commitStaged
  repeat' first
    | (extract_lets +onlyGivenNames u_; first | (apply SameBut.gen (u := u_); (on_goal 1 => (dsimp -zeta -zetaHave only [u_]; clear u_)); (on_goal 2 => (clear_value u_; revert u_; intros))) | (clear_value u_; revert u_; intros) | (revert u_; intros))
    | with_reducible assumption
    | with_reducible apply SameBut.refl
    | ((with_reducible apply SameBut.step (k := captureTime_same _ _)); (case hl => rfl))
    | ((with_reducible apply SameBut.step (k := raise_same _ _ _)); (case hl => rfl))
    | split
    | dsimp only

theorem fireAlarm_same (i : Fin 2) (skip : Bool) (s : State) : SameBut [.host, .maint, .ev, .sys, .time, .log] s (fireAlarm i skip s) := by
  unfold fireAlarm
  repeat' first
    | (extract_lets +onlyGivenNames u_; first | (apply SameBut.gen (u := u_); (on_goal 1 => (dsimp -zeta -zetaHave only [u_]; clear u_)); (on_goal 2 => (clear_value u_; revert u_; intros))) | (clear_value u_; revert u_; intros) | (revert u_; intros))
    | with_reducible assumption
    | with_reducible apply SameBut.refl
    | ((with_reducible apply SameBut.onTime); (case hl => rfl))
    | ((with_reducible apply SameBut.step (k := raise_same _ _ _)); (case hl => rfl))
    | ((with_reducible apply SameBut.step (k := wakeTrigger_same _ _)); (case hl => rfl))
    | split
    | dsimp only

theorem execAlarmFire_same (a : Fin 2) (s : State) {t_ : State} (h_ : execAlarmFire a s = .next t_) : SameBut [.host, .maint, .ev, .sys, .time, .log] s t_ := by
  unfold execAlarmFire at h_
  injection h_ with h_
  subst h_
  repeat' first
    | (extract_lets +onlyGivenNames u_; first | (apply SameBut.gen (u := u_); (on_goal 1 => (dsimp -zeta -zetaHave only [u_]; clear u_)); (on_goal 2 => (clear_value u_; revert u_; intros))) | (clear_value u_; revert u_; intros) | (revert u_; intros))
    | with_reducible assumption
    | with_reducible apply SameBut.refl
    | ((with_reducible apply SameBut.step (k := advance_same _ _)); (case hl => rfl))
    | ((with_reducible apply SameBut.step (k := alarmFrom_same _ _ _)); (case hl => rfl))
    | ((with_reducible apply SameBut.step (k := fireAlarm_same _ _ _)); (case hl => rfl))
    | split
    | dsimp only

theorem setSource_same (x : TimeSource) (s : State) : SameBut [.host, .maint, .ev, .time, .log] s (setSource x s) := by
  unfold setSource
  repeat' first
    | (extract_lets +onlyGivenNames u_; first | (apply SameBut.gen (u := u_); (on_goal 1 => (dsimp -zeta -zetaHave only [u_]; clear u_)); (on_goal 2 => (clear_value u_; revert u_; intros))) | (clear_value u_; revert u_; intros) | (revert u_; intros))
    | with_reducible assumption
    | with_reducible apply SameBut.refl
    | ((with_reducible apply SameBut.onTime); (case hl => rfl))
    | ((with_reducible apply SameBut.step (k := raise_same _ _ _)); (case hl => rfl))
    | split
    | dsimp only

theorem timeFigures_same (x : TimeSol) (s : State) : SameBut [.time, .gnss] s (timeFigures x s) := by
  unfold timeFigures
  repeat' first
    | (extract_lets +onlyGivenNames u_; first | (apply SameBut.gen (u := u_); (on_goal 1 => (dsimp -zeta -zetaHave only [u_]; clear u_)); (on_goal 2 => (clear_value u_; revert u_; intros))) | (clear_value u_; revert u_; intros) | (revert u_; intros))
    | with_reducible assumption
    | with_reducible apply SameBut.refl
    | ((with_reducible apply SameBut.onGnss); (case hl => rfl))
    | ((with_reducible apply SameBut.onTime); (case hl => rfl))
    | split
    | dsimp only

theorem timeSolution_same (x : TimeSol) (s : State) : SameBut [.host, .maint, .ev, .time, .gnss, .log] s (timeSolution x s) := by
  unfold timeSolution
  repeat' first
    | (extract_lets +onlyGivenNames u_; first | (apply SameBut.gen (u := u_); (on_goal 1 => (dsimp -zeta -zetaHave only [u_]; clear u_)); (on_goal 2 => (clear_value u_; revert u_; intros))) | (clear_value u_; revert u_; intros) | (revert u_; intros))
    | with_reducible assumption
    | with_reducible apply SameBut.refl
    | ((with_reducible apply SameBut.onTime); (case hl => rfl))
    | ((with_reducible apply SameBut.step (k := setSource_same _ _)); (case hl => rfl))
    | ((with_reducible apply SameBut.step (k := timeFigures_same _ _)); (case hl => rfl))
    | split
    | dsimp only

theorem execHoldoverLimit_same (s : State) {t_ : State} (h_ : execHoldoverLimit s = .next t_) : SameBut [.host, .maint, .ev, .time, .log] s t_ := by
  unfold execHoldoverLimit at h_
  injection h_ with h_
  subst h_
  repeat' first
    | (extract_lets +onlyGivenNames u_; first | (apply SameBut.gen (u := u_); (on_goal 1 => (dsimp -zeta -zetaHave only [u_]; clear u_)); (on_goal 2 => (clear_value u_; revert u_; intros))) | (clear_value u_; revert u_; intros) | (revert u_; intros))
    | with_reducible assumption
    | with_reducible apply SameBut.refl
    | ((with_reducible apply SameBut.onTime); (case hl => rfl))
    | ((with_reducible apply SameBut.step (k := advanceTo_same _ _)); (case hl => rfl))
    | ((with_reducible apply SameBut.step (k := raise_same _ _ _)); (case hl => rfl))
    | split
    | dsimp only

theorem loadTime_same (s : State) : SameBut [.host, .maint, .ev, .sys, .time, .log] s (loadTime s) := by
  unfold loadTime
  repeat' first
    | (extract_lets +onlyGivenNames u_; first | (apply SameBut.gen (u := u_); (on_goal 1 => (dsimp -zeta -zetaHave only [u_]; clear u_)); (on_goal 2 => (clear_value u_; revert u_; intros))) | (clear_value u_; revert u_; intros) | (revert u_; intros))
    | with_reducible assumption
    | with_reducible apply SameBut.refl
    | ((with_reducible apply SameBut.onTime); (case hl => rfl))
    | ((with_reducible apply SameBut.step (k := anchor_same _ _ _ _ _)); (case hl => rfl))
    | ((with_reducible apply SameBut.step (k := commit_same _ _ _)); (case hl => rfl))
    | ((with_reducible apply SameBut.step (k := finish_same _ _ _ _ _ _ _)); (case hl => rfl))
    | ((with_reducible apply SameBut.step (k := fireAlarm_same _ _ _)); (case hl => rfl))
    | ((with_reducible apply SameBut.step (k := raise_same _ _ _)); (case hl => rfl))
    | split
    | dsimp only

theorem ppsPulse_same (n : Nat) (exact : Int) (s : State) : SameBut [.host, .maint, .ev, .sys, .time, .log] s (ppsPulse n exact s) := by
  unfold ppsPulse
  repeat' first
    | (extract_lets +onlyGivenNames u_; first | (apply SameBut.gen (u := u_); (on_goal 1 => (dsimp -zeta -zetaHave only [u_]; clear u_)); (on_goal 2 => (clear_value u_; revert u_; intros))) | (clear_value u_; revert u_; intros) | (revert u_; intros))
    | with_reducible assumption
    | with_reducible apply SameBut.refl
    | ((with_reducible apply SameBut.onTime); (case hl => rfl))
    | ((with_reducible apply SameBut.step (k := captureTime_same _ _)); (case hl => rfl))
    | ((with_reducible apply SameBut.step (k := loadTime_same _)); (case hl => rfl))
    | with_reducible apply SameBut.foldl
    | with_reducible intro _
    | split
    | dsimp only

theorem timeStep_same (e : Int) (errNs : Nat) (s : State) : SameBut [.host, .maint, .ev, .time, .log] s (timeStep e errNs s) := by
  unfold timeStep
  repeat' first
    | (extract_lets +onlyGivenNames u_; first | (apply SameBut.gen (u := u_); (on_goal 1 => (dsimp -zeta -zetaHave only [u_]; clear u_)); (on_goal 2 => (clear_value u_; revert u_; intros))) | (clear_value u_; revert u_; intros) | (revert u_; intros))
    | with_reducible assumption
    | with_reducible apply SameBut.refl
    | ((with_reducible apply SameBut.onTime); (case hl => rfl))
    | ((with_reducible apply SameBut.step (k := advanceTo_same _ _)); (case hl => rfl))
    | ((with_reducible apply SameBut.step (k := raise_same _ _ _)); (case hl => rfl))
    | split
    | dsimp only

theorem execPpsEdge_same (s : State) {t_ : State} (h_ : execPpsEdge s = .next t_) : SameBut [.host, .maint, .ev, .sys, .time, .log] s t_ := by
  unfold execPpsEdge at h_
  injection h_ with h_
  subst h_
  repeat' first
    | (extract_lets +onlyGivenNames u_; first | (apply SameBut.gen (u := u_); (on_goal 1 => (dsimp -zeta -zetaHave only [u_]; clear u_)); (on_goal 2 => (clear_value u_; revert u_; intros))) | (clear_value u_; revert u_; intros) | (revert u_; intros))
    | with_reducible assumption
    | with_reducible apply SameBut.refl
    | ((with_reducible apply SameBut.step (k := advanceTo_same _ _)); (case hl => rfl))
    | ((with_reducible apply SameBut.step (k := ppsPulse_same _ _ _)); (case hl => rfl))
    | ((with_reducible apply SameBut.step (k := timeStep_same _ _ _)); (case hl => rfl))
    | split
    | dsimp only

theorem execPpsMissedTimeout_same (s : State) {t_ : State} (h_ : execPpsMissedTimeout s = .next t_) : SameBut [.host, .maint, .sys, .time] s t_ := by
  unfold execPpsMissedTimeout at h_
  injection h_ with h_
  subst h_
  repeat' first
    | (extract_lets +onlyGivenNames u_; first | (apply SameBut.gen (u := u_); (on_goal 1 => (dsimp -zeta -zetaHave only [u_]; clear u_)); (on_goal 2 => (clear_value u_; revert u_; intros))) | (clear_value u_; revert u_; intros) | (revert u_; intros))
    | with_reducible assumption
    | with_reducible apply SameBut.refl
    | ((with_reducible apply SameBut.onTime); (case hl => rfl))
    | ((with_reducible apply SameBut.step (k := advanceTo_same _ _)); (case hl => rfl))
    | ((with_reducible apply SameBut.step (k := finish_same _ _ _ _ _ _ _)); (case hl => rfl))
    | split
    | dsimp only

theorem rtcCtlWrite_same (v d : Word) (s : State) : SameBut [.host, .maint, .hp, .ev, .sys, .time, .log] s (rtcCtlWrite v d s) := by
  unfold rtcCtlWrite
  repeat' first
    | (extract_lets +onlyGivenNames u_; first | (apply SameBut.gen (u := u_); (on_goal 1 => (dsimp -zeta -zetaHave only [u_]; clear u_)); (on_goal 2 => (clear_value u_; revert u_; intros))) | (clear_value u_; revert u_; intros) | (revert u_; intros))
    | with_reducible assumption
    | with_reducible apply SameBut.refl
    | ((with_reducible apply SameBut.onTime); (case hl => rfl))
    | ((with_reducible apply SameBut.step (k := ack_same _)); (case hl => rfl))
    | ((with_reducible apply SameBut.step (k := commitStaged_same _)); (case hl => rfl))
    | split
    | dsimp only

theorem execRtcCommit_same (s : State) {t_ : State} (h_ : execRtcCommit s = .next t_) : SameBut [.host, .maint, .hp, .ev, .sys, .time, .log] s t_ := by
  unfold execRtcCommit at h_
  injection h_ with h_
  subst h_
  repeat' first
    | (extract_lets +onlyGivenNames u_; first | (apply SameBut.gen (u := u_); (on_goal 1 => (dsimp -zeta -zetaHave only [u_]; clear u_)); (on_goal 2 => (clear_value u_; revert u_; intros))) | (clear_value u_; revert u_; intros) | (revert u_; intros))
    | with_reducible assumption
    | with_reducible apply SameBut.refl
    | ((with_reducible apply SameBut.step (k := ack_same _)); (case hl => rfl))
    | ((with_reducible apply SameBut.step (k := commitStaged_same _)); (case hl => rfl))
    | split
    | dsimp only

theorem execRtcCtlClear_same (v setDuring : Word) (s : State) {t_ : State} (h_ : execRtcCtlClear v setDuring s = .next t_) : SameBut [.host, .maint, .hp, .ev, .sys, .time, .log] s t_ := by
  unfold execRtcCtlClear at h_
  injection h_ with h_
  subst h_
  repeat' first
    | (extract_lets +onlyGivenNames u_; first | (apply SameBut.gen (u := u_); (on_goal 1 => (dsimp -zeta -zetaHave only [u_]; clear u_)); (on_goal 2 => (clear_value u_; revert u_; intros))) | (clear_value u_; revert u_; intros) | (revert u_; intros))
    | with_reducible assumption
    | with_reducible apply SameBut.refl
    | ((with_reducible apply SameBut.step (k := rtcCtlWrite_same _ _ _)); (case hl => rfl))
    | split
    | dsimp only

theorem execRtcFreezeTimeout_same (s : State) {t_ : State} (h_ : execRtcFreezeTimeout s = .next t_) : SameBut [.host, .maint, .ev, .time, .log] s t_ := by
  unfold execRtcFreezeTimeout at h_
  injection h_ with h_
  subst h_
  repeat' first
    | (extract_lets +onlyGivenNames u_; first | (apply SameBut.gen (u := u_); (on_goal 1 => (dsimp -zeta -zetaHave only [u_]; clear u_)); (on_goal 2 => (clear_value u_; revert u_; intros))) | (clear_value u_; revert u_; intros) | (revert u_; intros))
    | with_reducible assumption
    | with_reducible apply SameBut.refl
    | ((with_reducible apply SameBut.onTime); (case hl => rfl))
    | ((with_reducible apply SameBut.step (k := advanceTo_same _ _)); (case hl => rfl))
    | ((with_reducible apply SameBut.step (k := raise_same _ _ _)); (case hl => rfl))
    | split
    | dsimp only

theorem execRtcLoad_same (s : State) {t_ : State} (h_ : execRtcLoad s = .next t_) : SameBut [.host, .maint, .ev, .sys, .time, .log] s t_ := by
  unfold execRtcLoad at h_
  injection h_ with h_
  subst h_
  repeat' first
    | (extract_lets +onlyGivenNames u_; first | (apply SameBut.gen (u := u_); (on_goal 1 => (dsimp -zeta -zetaHave only [u_]; clear u_)); (on_goal 2 => (clear_value u_; revert u_; intros))) | (clear_value u_; revert u_; intros) | (revert u_; intros))
    | with_reducible assumption
    | with_reducible apply SameBut.refl
    | ((with_reducible apply SameBut.step (k := advance_same _ _)); (case hl => rfl))
    | ((with_reducible apply SameBut.step (k := advanceNow_same _ _)); (case hl => rfl))
    | ((with_reducible apply SameBut.step (k := loadTime_same _)); (case hl => rfl))
    | split
    | dsimp only

theorem freezeRtc_same (s : State) : SameBut [.time] s (freezeRtc s) := by
  unfold freezeRtc
  repeat' first
    | (extract_lets +onlyGivenNames u_; first | (apply SameBut.gen (u := u_); (on_goal 1 => (dsimp -zeta -zetaHave only [u_]; clear u_)); (on_goal 2 => (clear_value u_; revert u_; intros))) | (clear_value u_; revert u_; intros) | (revert u_; intros))
    | with_reducible assumption
    | with_reducible apply SameBut.refl
    | ((with_reducible apply SameBut.onTime); (case hl => rfl))
    | split
    | dsimp only

theorem execRtcShadowRead_same (r : Fin 6) (s : State) {t_ : State} (h_ : execRtcShadowRead r s = .next t_) : SameBut [.hp, .time] s t_ := by
  unfold execRtcShadowRead at h_
  injection h_ with h_
  subst h_
  repeat' first
    | (extract_lets +onlyGivenNames u_; first | (apply SameBut.gen (u := u_); (on_goal 1 => (dsimp -zeta -zetaHave only [u_]; clear u_)); (on_goal 2 => (clear_value u_; revert u_; intros))) | (clear_value u_; revert u_; intros) | (revert u_; intros))
    | with_reducible assumption
    | with_reducible apply SameBut.refl
    | ((with_reducible apply SameBut.onHp); (case hl => rfl))
    | ((with_reducible apply SameBut.step (k := freezeRtc_same _)); (case hl => rfl))
    | split
    | dsimp only

theorem execRtcYearRead_same (s : State) {t_ : State} (h_ : execRtcYearRead s = .next t_) : SameBut [.hp, .time] s t_ := by
  unfold execRtcYearRead at h_
  injection h_ with h_
  subst h_
  repeat' first
    | (extract_lets +onlyGivenNames u_; first | (apply SameBut.gen (u := u_); (on_goal 1 => (dsimp -zeta -zetaHave only [u_]; clear u_)); (on_goal 2 => (clear_value u_; revert u_; intros))) | (clear_value u_; revert u_; intros) | (revert u_; intros))
    | with_reducible assumption
    | with_reducible apply SameBut.refl
    | ((with_reducible apply SameBut.onHp); (case hl => rfl))
    | ((with_reducible apply SameBut.onTime); (case hl => rfl))
    | ((with_reducible apply SameBut.step (k := freezeRtc_same _)); (case hl => rfl))
    | split
    | dsimp only

theorem execTimeGet_same (p : Port) (s : State) {t_ : State} (h_ : execTimeGet p s = .next t_) : SameBut [.host, .maint, .sys] s t_ := by
  unfold execTimeGet at h_
  injection h_ with h_
  subst h_
  repeat' first
    | (extract_lets +onlyGivenNames u_; first | (apply SameBut.gen (u := u_); (on_goal 1 => (dsimp -zeta -zetaHave only [u_]; clear u_)); (on_goal 2 => (clear_value u_; revert u_; intros))) | (clear_value u_; revert u_; intros) | (revert u_; intros))
    | with_reducible assumption
    | with_reducible apply SameBut.refl
    | ((with_reducible apply SameBut.step (k := ok_same _ _ _ _ _)); (case hl => rfl))
    | ((with_reducible apply SameBut.runOp); (case hl => rfl))
    | with_reducible intro _
    | split
    | dsimp only

theorem execTimeGetAlarm_same (p : Port) (s : State) {t_ : State} (h_ : execTimeGetAlarm p s = .next t_) : SameBut [.host, .maint, .sys] s t_ := by
  unfold execTimeGetAlarm at h_
  injection h_ with h_
  subst h_
  repeat' first
    | (extract_lets +onlyGivenNames u_; first | (apply SameBut.gen (u := u_); (on_goal 1 => (dsimp -zeta -zetaHave only [u_]; clear u_)); (on_goal 2 => (clear_value u_; revert u_; intros))) | (clear_value u_; revert u_; intros) | (revert u_; intros))
    | with_reducible assumption
    | with_reducible apply SameBut.refl
    | ((with_reducible apply SameBut.step (k := ok_same _ _ _ _ _)); (case hl => rfl))
    | ((with_reducible apply SameBut.runOp); (case hl => rfl))
    | with_reducible intro _
    | split
    | dsimp only

theorem execTimeSetAlarm_same (p : Port) (s : State) {t_ : State} (h_ : execTimeSetAlarm p s = .next t_) : SameBut [.host, .maint, .sys, .time] s t_ := by
  unfold execTimeSetAlarm at h_
  injection h_ with h_
  subst h_
  repeat' first
    | (extract_lets +onlyGivenNames u_; first | (apply SameBut.gen (u := u_); (on_goal 1 => (dsimp -zeta -zetaHave only [u_]; clear u_)); (on_goal 2 => (clear_value u_; revert u_; intros))) | (clear_value u_; revert u_; intros) | (revert u_; intros))
    | with_reducible assumption
    | with_reducible apply SameBut.refl
    | ((with_reducible apply SameBut.onTime); (case hl => rfl))
    | ((with_reducible apply SameBut.step (k := ok_same _ _ _ _ _)); (case hl => rfl))
    | ((with_reducible apply SameBut.step (k := reject_same _ _ _ _ _)); (case hl => rfl))
    | ((with_reducible apply SameBut.runOpV); (case hl => rfl))
    | with_reducible intro _
    | split
    | dsimp only

theorem execTimeSetRtc_same (p : Port) (s : State) {t_ : State} (h_ : execTimeSetRtc p s = .next t_) : SameBut [.host, .maint, .sys, .time] s t_ := by
  unfold execTimeSetRtc at h_
  injection h_ with h_
  subst h_
  repeat' first
    | (extract_lets +onlyGivenNames u_; first | (apply SameBut.gen (u := u_); (on_goal 1 => (dsimp -zeta -zetaHave only [u_]; clear u_)); (on_goal 2 => (clear_value u_; revert u_; intros))) | (clear_value u_; revert u_; intros) | (revert u_; intros))
    | with_reducible assumption
    | with_reducible apply SameBut.refl
    | ((with_reducible apply SameBut.onTime); (case hl => rfl))
    | ((with_reducible apply SameBut.step (k := captureTime_same _ _)); (case hl => rfl))
    | ((with_reducible apply SameBut.step (k := pending_same _ _ _ _)); (case hl => rfl))
    | ((with_reducible apply SameBut.step (k := reject_same _ _ _ _ _)); (case hl => rfl))
    | ((with_reducible apply SameBut.runOpV); (case hl => rfl))
    | with_reducible intro _
    | split
    | dsimp only

theorem timeLoss_same (s : State) : SameBut [.host, .maint, .ev, .time, .log] s (timeLoss s) := by
  unfold timeLoss
  repeat' first
    | (extract_lets +onlyGivenNames u_; first | (apply SameBut.gen (u := u_); (on_goal 1 => (dsimp -zeta -zetaHave only [u_]; clear u_)); (on_goal 2 => (clear_value u_; revert u_; intros))) | (clear_value u_; revert u_; intros) | (revert u_; intros))
    | with_reducible assumption
    | with_reducible apply SameBut.refl
    | ((with_reducible apply SameBut.onTime); (case hl => rfl))
    | ((with_reducible apply SameBut.step (k := setSource_same _ _)); (case hl => rfl))
    | split
    | dsimp only

theorem execTimeSolutionLoss_same (s : State) {t_ : State} (h_ : execTimeSolutionLoss s = .next t_) : SameBut [.host, .maint, .ev, .time, .log] s t_ := by
  unfold execTimeSolutionLoss at h_
  injection h_ with h_
  subst h_
  repeat' first
    | (extract_lets +onlyGivenNames u_; first | (apply SameBut.gen (u := u_); (on_goal 1 => (dsimp -zeta -zetaHave only [u_]; clear u_)); (on_goal 2 => (clear_value u_; revert u_; intros))) | (clear_value u_; revert u_; intros) | (revert u_; intros))
    | with_reducible assumption
    | with_reducible apply SameBut.refl
    | ((with_reducible apply SameBut.step (k := timeLoss_same _)); (case hl => rfl))
    | split
    | dsimp only

end Sys2Proof.Machine
end

