-- ==== Sys2Proof/Laws/FrameHostPort.lean ====
section
/-! SUPPORT. What each operation of Machine/HostPort.lean leaves alone: every part of the state but those listed. -/

namespace Sys2Proof.Machine

set_option linter.all false

theorem accept_same (p : Port) (op : Op) (c : Cmd) (s : State) : SameBut [.host, .maint] s (accept p op c s) := by
  unfold accept
  repeat' first
    | (extract_lets +onlyGivenNames u_; first | (apply SameBut.gen (u := u_); (on_goal 1 => (dsimp -zeta -zetaHave only [u_]; clear u_)); (on_goal 2 => (clear_value u_; revert u_; intros))) | (clear_value u_; revert u_; intros) | (revert u_; intros))
    | with_reducible assumption
    | with_reducible apply SameBut.refl
    | ((with_reducible apply SameBut.onPort); (case hl => rfl))
    | split
    | dsimp only

theorem cmdqSpace_same (s : State) : SameBut [.host, .maint, .hp, .ev, .log] s (cmdqSpace s) := by
  unfold cmdqSpace
  repeat' first
    | (extract_lets +onlyGivenNames u_; first | (apply SameBut.gen (u := u_); (on_goal 1 => (dsimp -zeta -zetaHave only [u_]; clear u_)); (on_goal 2 => (clear_value u_; revert u_; intros))) | (clear_value u_; revert u_; intros) | (revert u_; intros))
    | with_reducible assumption
    | with_reducible apply SameBut.refl
    | ((with_reducible apply SameBut.onHp); (case hl => rfl))
    | ((with_reducible apply SameBut.step (k := raise_same _ _ _)); (case hl => rfl))
    | split
    | dsimp only

theorem takeWord_same (q : QWord) (s : State) : SameBut [.host, .maint, .hp, .ev, .sys, .log] s (takeWord q s) := by
  unfold takeWord
  repeat' first
    | (extract_lets +onlyGivenNames u_; first | (apply SameBut.gen (u := u_); (on_goal 1 => (dsimp -zeta -zetaHave only [u_]; clear u_)); (on_goal 2 => (clear_value u_; revert u_; intros))) | (clear_value u_; revert u_; intros) | (revert u_; intros))
    | with_reducible assumption
    | with_reducible apply SameBut.refl
    | ((with_reducible apply SameBut.onHost); (case hl => rfl))
    | ((with_reducible apply SameBut.onHp); (case hl => rfl))
    | ((with_reducible apply SameBut.step (k := wakeTrigger_same _ _)); (case hl => rfl))
    | split
    | dsimp only

theorem cmdqWrite_same (w : Word) (e : Ecc) (s : State) : SameBut [.host, .maint, .hp, .ev, .sys, .log] s (cmdqWrite w e s) := by
  unfold cmdqWrite
  repeat' first
    | (extract_lets +onlyGivenNames u_; first | (apply SameBut.gen (u := u_); (on_goal 1 => (dsimp -zeta -zetaHave only [u_]; clear u_)); (on_goal 2 => (clear_value u_; revert u_; intros))) | (clear_value u_; revert u_; intros) | (revert u_; intros))
    | with_reducible assumption
    | with_reducible apply SameBut.refl
    | ((with_reducible apply SameBut.onHost); (case hl => rfl))
    | ((with_reducible apply SameBut.onHp); (case hl => rfl))
    | ((with_reducible apply SameBut.step (k := takeWord_same _ _)); (case hl => rfl))
    | split
    | dsimp only

theorem countEcc_same (p : Port) (qs : List QWord) (s : State) : SameBut [.hp] s (countEcc p qs s) := by
  unfold countEcc
  repeat' first
    | (extract_lets +onlyGivenNames u_; first | (apply SameBut.gen (u := u_); (on_goal 1 => (dsimp -zeta -zetaHave only [u_]; clear u_)); (on_goal 2 => (clear_value u_; revert u_; intros))) | (clear_value u_; revert u_; intros) | (revert u_; intros))
    | with_reducible assumption
    | with_reducible apply SameBut.refl
    | ((with_reducible apply SameBut.onHp); (case hl => rfl))
    | split
    | dsimp only

theorem execAccessAbandoned_same (s : State) {t_ : State} (h_ : execAccessAbandoned s = .next t_) : SameBut [.host, .hp] s t_ := by
  unfold execAccessAbandoned at h_
  injection h_ with h_
  subst h_
  repeat' first
    | (extract_lets +onlyGivenNames u_; first | (apply SameBut.gen (u := u_); (on_goal 1 => (dsimp -zeta -zetaHave only [u_]; clear u_)); (on_goal 2 => (clear_value u_; revert u_; intros))) | (clear_value u_; revert u_; intros) | (revert u_; intros))
    | with_reducible assumption
    | with_reducible apply SameBut.refl
    | ((with_reducible apply SameBut.onHost); (case hl => rfl))
    | ((with_reducible apply SameBut.onHp); (case hl => rfl))
    | split
    | dsimp only

theorem onHandle_same (h : Nat) (f : Option Handle → Option Handle) (s : State) : SameBut [.bulk] s (onHandle h f s) := by
  unfold onHandle
  repeat' first
    | (extract_lets +onlyGivenNames u_; first | (apply SameBut.gen (u := u_); (on_goal 1 => (dsimp -zeta -zetaHave only [u_]; clear u_)); (on_goal 2 => (clear_value u_; revert u_; intros))) | (clear_value u_; revert u_; intros) | (revert u_; intros))
    | with_reducible assumption
    | with_reducible apply SameBut.refl
    | ((with_reducible apply SameBut.onBulk); (case hl => rfl))
    | split
    | dsimp only

theorem restartHandle_same (h : Nat) (s : State) : SameBut [.bulk] s (restartHandle h s) := by
  unfold restartHandle
  repeat' first
    | (extract_lets +onlyGivenNames u_; first | (apply SameBut.gen (u := u_); (on_goal 1 => (dsimp -zeta -zetaHave only [u_]; clear u_)); (on_goal 2 => (clear_value u_; revert u_; intros))) | (clear_value u_; revert u_; intros) | (revert u_; intros))
    | with_reducible assumption
    | with_reducible apply SameBut.refl
    | ((with_reducible apply SameBut.step (k := onHandle_same _ _ _)); (case hl => rfl))
    | split
    | dsimp only

theorem touchHandle_same (op : Op) (p : Port) (s : State) : SameBut [.bulk] s (touchHandle op p s) := by
  unfold touchHandle
  repeat' first
    | (extract_lets +onlyGivenNames u_; first | (apply SameBut.gen (u := u_); (on_goal 1 => (dsimp -zeta -zetaHave only [u_]; clear u_)); (on_goal 2 => (clear_value u_; revert u_; intros))) | (clear_value u_; revert u_; intros) | (revert u_; intros))
    | with_reducible assumption
    | with_reducible apply SameBut.refl
    | ((with_reducible apply SameBut.step (k := restartHandle_same _ _)); (case hl => rfl))
    | split
    | dsimp only

theorem execBulkHandleTimeout_same (h : Fin 4) (s : State) {t_ : State} (h_ : execBulkHandleTimeout h s = .next t_) : SameBut [.time, .bulk] s t_ := by
  unfold execBulkHandleTimeout at h_
  injection h_ with h_
  subst h_
  repeat' first
    | (extract_lets +onlyGivenNames u_; first | (apply SameBut.gen (u := u_); (on_goal 1 => (dsimp -zeta -zetaHave only [u_]; clear u_)); (on_goal 2 => (clear_value u_; revert u_; intros))) | (clear_value u_; revert u_; intros) | (revert u_; intros))
    | with_reducible assumption
    | with_reducible apply SameBut.refl
    | ((with_reducible apply SameBut.onBulk); (case hl => rfl))
    | ((with_reducible apply SameBut.step (k := advanceTo_same _ _)); (case hl => rfl))
    | split
    | dsimp only

theorem execCmdqWriteResume_same (s : State) {t_ : State} (h_ : execCmdqWriteResume s = .next t_) : SameBut [.host, .maint, .hp, .ev, .sys, .log] s t_ := by
  unfold execCmdqWriteResume at h_
  injection h_ with h_
  subst h_
  repeat' first
    | (extract_lets +onlyGivenNames u_; first | (apply SameBut.gen (u := u_); (on_goal 1 => (dsimp -zeta -zetaHave only [u_]; clear u_)); (on_goal 2 => (clear_value u_; revert u_; intros))) | (clear_value u_; revert u_; intros) | (revert u_; intros))
    | with_reducible assumption
    | with_reducible apply SameBut.refl
    | ((with_reducible apply SameBut.step (k := takeWord_same _ _)); (case hl => rfl))
    | split
    | dsimp only

theorem flushQueue_same (p : Port) (s : State) : SameBut [.host, .maint, .hp, .ev, .log] s (flushQueue p s) := by
  unfold flushQueue
  repeat' first
    | (extract_lets +onlyGivenNames u_; first | (apply SameBut.gen (u := u_); (on_goal 1 => (dsimp -zeta -zetaHave only [u_]; clear u_)); (on_goal 2 => (clear_value u_; revert u_; intros))) | (clear_value u_; revert u_; intros) | (revert u_; intros))
    | with_reducible assumption
    | with_reducible apply SameBut.refl
    | ((with_reducible apply SameBut.onHp); (case hl => rfl))
    | ((with_reducible apply SameBut.onPort); (case hl => rfl))
    | ((with_reducible apply SameBut.step (k := cmdqSpace_same _)); (case hl => rfl))
    | ((with_reducible apply SameBut.step (k := raise_same _ _ _)); (case hl => rfl))
    | ((with_reducible apply SameBut.step (k := unsol_same _ _ _ _)); (case hl => rfl))
    | split
    | dsimp only

theorem touchNamed_same (op : Option Op) (pay : List QWord) (s : State) : SameBut [.bulk] s (touchNamed op pay s) := by
  unfold touchNamed
  repeat' first
    | (extract_lets +onlyGivenNames u_; first | (apply SameBut.gen (u := u_); (on_goal 1 => (dsimp -zeta -zetaHave only [u_]; clear u_)); (on_goal 2 => (clear_value u_; revert u_; intros))) | (clear_value u_; revert u_; intros) | (revert u_; intros))
    | with_reducible assumption
    | with_reducible apply SameBut.refl
    | ((with_reducible apply SameBut.step (k := restartHandle_same _ _)); (case hl => rfl))
    | split
    | dsimp only

theorem judge_same (p : Port) (hd : QWord) (pay : List QWord) (s : State) : SameBut [.host, .maint, .sys, .bulk] s (judge p hd pay s) := by
  unfold judge
  repeat' first
    | (extract_lets +onlyGivenNames u_; first | (apply SameBut.gen (u := u_); (on_goal 1 => (dsimp -zeta -zetaHave only [u_]; clear u_)); (on_goal 2 => (clear_value u_; revert u_; intros))) | (clear_value u_; revert u_; intros) | (revert u_; intros))
    | with_reducible assumption
    | with_reducible apply SameBut.refl
    | ((with_reducible apply SameBut.onPort); (case hl => rfl))
    | ((with_reducible apply SameBut.step (k := accept_same _ _ _ _)); (case hl => rfl))
    | ((with_reducible apply SameBut.step (k := headReject_same _ _ _ _ _ _)); (case hl => rfl))
    | ((with_reducible apply SameBut.step (k := pending_same _ _ _ _)); (case hl => rfl))
    | ((with_reducible apply SameBut.step (k := reject_same _ _ _ _ _)); (case hl => rfl))
    | ((with_reducible apply SameBut.step (k := touchNamed_same _ _ _)); (case hl => rfl))
    | split
    | dsimp only

theorem intake_same (p : Port) (s : State) : SameBut [.host, .maint, .hp, .ev, .sys, .log, .bulk] s (intake p s) := by
  unfold intake
  repeat' first
    | (extract_lets +onlyGivenNames u_; first | (apply SameBut.gen (u := u_); (on_goal 1 => (dsimp -zeta -zetaHave only [u_]; clear u_)); (on_goal 2 => (clear_value u_; revert u_; intros))) | (clear_value u_; revert u_; intros) | (revert u_; intros))
    | with_reducible assumption
    | with_reducible apply SameBut.refl
    | ((with_reducible apply SameBut.onPort); (case hl => rfl))
    | ((with_reducible apply SameBut.step (k := cmdqSpace_same _)); (case hl => rfl))
    | ((with_reducible apply SameBut.step (k := countEcc_same _ _ _)); (case hl => rfl))
    | ((with_reducible apply SameBut.step (k := flushQueue_same _ _)); (case hl => rfl))
    | ((with_reducible apply SameBut.step (k := judge_same _ _ _ _)); (case hl => rfl))
    | split
    | dsimp only

theorem execCommandIntake_same (p : Port) (s : State) {t_ : State} (h_ : execCommandIntake p s = .next t_) : SameBut [.host, .maint, .hp, .ev, .sys, .log, .bulk] s t_ := by
  unfold execCommandIntake at h_
  injection h_ with h_
  subst h_
  repeat' first
    | (extract_lets +onlyGivenNames u_; first | (apply SameBut.gen (u := u_); (on_goal 1 => (dsimp -zeta -zetaHave only [u_]; clear u_)); (on_goal 2 => (clear_value u_; revert u_; intros))) | (clear_value u_; revert u_; intros) | (revert u_; intros))
    | with_reducible assumption
    | with_reducible apply SameBut.refl
    | ((with_reducible apply SameBut.step (k := intake_same _ _)); (case hl => rfl))
    | split
    | dsimp only

theorem execConflictingStrobe_same (s : State) {t_ : State} (h_ : execConflictingStrobe s = .next t_) : SameBut [.host, .maint, .hp, .ev, .log] s t_ := by
  unfold execConflictingStrobe at h_
  injection h_ with h_
  subst h_
  repeat' first
    | (extract_lets +onlyGivenNames u_; first | (apply SameBut.gen (u := u_); (on_goal 1 => (dsimp -zeta -zetaHave only [u_]; clear u_)); (on_goal 2 => (clear_value u_; revert u_; intros))) | (clear_value u_; revert u_; intros) | (revert u_; intros))
    | with_reducible assumption
    | with_reducible apply SameBut.refl
    | ((with_reducible apply SameBut.onHp); (case hl => rfl))
    | ((with_reducible apply SameBut.step (k := ack_same _)); (case hl => rfl))
    | ((with_reducible apply SameBut.step (k := raise_same _ _ _)); (case hl => rfl))
    | split
    | dsimp only

theorem execHpCmdqWrite_same (w : Word) (e : Ecc) (s : State) {t_ : State} (h_ : execHpCmdqWrite w e s = .next t_) : SameBut [.host, .maint, .hp, .ev, .sys, .log] s t_ := by
  unfold execHpCmdqWrite at h_
  injection h_ with h_
  subst h_
  repeat' first
    | (extract_lets +onlyGivenNames u_; first | (apply SameBut.gen (u := u_); (on_goal 1 => (dsimp -zeta -zetaHave only [u_]; clear u_)); (on_goal 2 => (clear_value u_; revert u_; intros))) | (clear_value u_; revert u_; intros) | (revert u_; intros))
    | with_reducible assumption
    | with_reducible apply SameBut.refl
    | ((with_reducible apply SameBut.step (k := cmdqWrite_same _ _ _)); (case hl => rfl))
    | split
    | dsimp only

theorem execHpEccRead_same (late : EccCounts) (s : State) {t_ : State} (h_ : execHpEccRead late s = .next t_) : SameBut [.hp] s t_ := by
  unfold execHpEccRead at h_
  injection h_ with h_
  subst h_
  repeat' first
    | (extract_lets +onlyGivenNames u_; first | (apply SameBut.gen (u := u_); (on_goal 1 => (dsimp -zeta -zetaHave only [u_]; clear u_)); (on_goal 2 => (clear_value u_; revert u_; intros))) | (clear_value u_; revert u_; intros) | (revert u_; intros))
    | with_reducible assumption
    | with_reducible apply SameBut.refl
    | ((with_reducible apply SameBut.onHp); (case hl => rfl))
    | ((with_reducible apply SameBut.step (k := ack_same _)); (case hl => rfl))
    | split
    | dsimp only

theorem imskWrite_same (n : Fin 4) (v : Word) (s : State) : SameBut [.hp, .ev] s (imskWrite n v s) := by
  unfold imskWrite
  repeat' first
    | (extract_lets +onlyGivenNames u_; first | (apply SameBut.gen (u := u_); (on_goal 1 => (dsimp -zeta -zetaHave only [u_]; clear u_)); (on_goal 2 => (clear_value u_; revert u_; intros))) | (clear_value u_; revert u_; intros) | (revert u_; intros))
    | with_reducible assumption
    | with_reducible apply SameBut.refl
    | ((with_reducible apply SameBut.onEv); (case hl => rfl))
    | ((with_reducible apply SameBut.step (k := ack_same _)); (case hl => rfl))
    | split
    | dsimp only

theorem execHpImskWrite_same (n : Fin 4) (v : Word) (s : State) {t_ : State} (h_ : execHpImskWrite n v s = .next t_) : SameBut [.hp, .ev] s t_ := by
  unfold execHpImskWrite at h_
  injection h_ with h_
  subst h_
  repeat' first
    | (extract_lets +onlyGivenNames u_; first | (apply SameBut.gen (u := u_); (on_goal 1 => (dsimp -zeta -zetaHave only [u_]; clear u_)); (on_goal 2 => (clear_value u_; revert u_; intros))) | (clear_value u_; revert u_; intros) | (revert u_; intros))
    | with_reducible assumption
    | with_reducible apply SameBut.refl
    | ((with_reducible apply SameBut.step (k := imskWrite_same _ _ _)); (case hl => rfl))
    | split
    | dsimp only

theorem irqClear_same (n : Fin 4) (v d : Word) (s : State) : SameBut [.hp, .ev] s (irqClear n v d s) := by
  unfold irqClear
  repeat' first
    | (extract_lets +onlyGivenNames u_; first | (apply SameBut.gen (u := u_); (on_goal 1 => (dsimp -zeta -zetaHave only [u_]; clear u_)); (on_goal 2 => (clear_value u_; revert u_; intros))) | (clear_value u_; revert u_; intros) | (revert u_; intros))
    | with_reducible assumption
    | with_reducible apply SameBut.refl
    | ((with_reducible apply SameBut.onEv); (case hl => rfl))
    | ((with_reducible apply SameBut.step (k := ack_same _)); (case hl => rfl))
    | split
    | dsimp only

theorem execHpIrqClear_same (n : Fin 4) (v setDuring : Word) (s : State) {t_ : State} (h_ : execHpIrqClear n v setDuring s = .next t_) : SameBut [.hp, .ev] s t_ := by
  unfold execHpIrqClear at h_
  injection h_ with h_
  subst h_
  repeat' first
    | (extract_lets +onlyGivenNames u_; first | (apply SameBut.gen (u := u_); (on_goal 1 => (dsimp -zeta -zetaHave only [u_]; clear u_)); (on_goal 2 => (clear_value u_; revert u_; intros))) | (clear_value u_; revert u_; intros) | (revert u_; intros))
    | with_reducible assumption
    | with_reducible apply SameBut.refl
    | ((with_reducible apply SameBut.step (k := irqClear_same _ _ _ _)); (case hl => rfl))
    | split
    | dsimp only

theorem rspqRead_same (e : Ecc) (s : State) : SameBut [.host, .maint, .hp, .ev, .sys, .log] s (rspqRead e s) := by
  unfold rspqRead
  repeat' first
    | (extract_lets +onlyGivenNames u_; first | (apply SameBut.gen (u := u_); (on_goal 1 => (dsimp -zeta -zetaHave only [u_]; clear u_)); (on_goal 2 => (clear_value u_; revert u_; intros))) | (clear_value u_; revert u_; intros) | (revert u_; intros))
    | with_reducible assumption
    | with_reducible apply SameBut.refl
    | ((with_reducible apply SameBut.onEv); (case hl => rfl))
    | ((with_reducible apply SameBut.onHost); (case hl => rfl))
    | ((with_reducible apply SameBut.onHp); (case hl => rfl))
    | ((with_reducible apply SameBut.onSysMode); (case hl => rfl))
    | (show ∀ _ : SysState, _ ∧ _; intros; repeat' first | exact ⟨rfl, rfl⟩ | split | dsimp only)
    | ((with_reducible apply SameBut.step (k := ack_same _)); (case hl => rfl))
    | ((with_reducible apply SameBut.step (k := raise_same _ _ _)); (case hl => rfl))
    | split
    | dsimp only

theorem execHpRspqRead_same (e : Ecc) (s : State) {t_ : State} (h_ : execHpRspqRead e s = .next t_) : SameBut [.host, .maint, .hp, .ev, .sys, .log] s t_ := by
  unfold execHpRspqRead at h_
  injection h_ with h_
  subst h_
  repeat' first
    | (extract_lets +onlyGivenNames u_; first | (apply SameBut.gen (u := u_); (on_goal 1 => (dsimp -zeta -zetaHave only [u_]; clear u_)); (on_goal 2 => (clear_value u_; revert u_; intros))) | (clear_value u_; revert u_; intros) | (revert u_; intros))
    | with_reducible assumption
    | with_reducible apply SameBut.refl
    | ((with_reducible apply SameBut.step (k := rspqRead_same _ _)); (case hl => rfl))
    | split
    | dsimp only

theorem statClear_same (v d : Word) (s : State) : SameBut [.hp] s (statClear v d s) := by
  unfold statClear
  repeat' first
    | (extract_lets +onlyGivenNames u_; first | (apply SameBut.gen (u := u_); (on_goal 1 => (dsimp -zeta -zetaHave only [u_]; clear u_)); (on_goal 2 => (clear_value u_; revert u_; intros))) | (clear_value u_; revert u_; intros) | (revert u_; intros))
    | with_reducible assumption
    | with_reducible apply SameBut.refl
    | ((with_reducible apply SameBut.onHp); (case hl => rfl))
    | ((with_reducible apply SameBut.step (k := ack_same _)); (case hl => rfl))
    | split
    | dsimp only

theorem execHpStatClear_same (v setDuring : Word) (s : State) {t_ : State} (h_ : execHpStatClear v setDuring s = .next t_) : SameBut [.hp] s t_ := by
  unfold execHpStatClear at h_
  injection h_ with h_
  subst h_
  repeat' first
    | (extract_lets +onlyGivenNames u_; first | (apply SameBut.gen (u := u_); (on_goal 1 => (dsimp -zeta -zetaHave only [u_]; clear u_)); (on_goal 2 => (clear_value u_; revert u_; intros))) | (clear_value u_; revert u_; intros) | (revert u_; intros))
    | with_reducible assumption
    | with_reducible apply SameBut.refl
    | ((with_reducible apply SameBut.step (k := statClear_same _ _ _)); (case hl => rfl))
    | split
    | dsimp only

theorem wakeWrite_same (v : Word) (s : State) : SameBut [.hp, .sys] s (wakeWrite v s) := by
  unfold wakeWrite
  repeat' first
    | (extract_lets +onlyGivenNames u_; first | (apply SameBut.gen (u := u_); (on_goal 1 => (dsimp -zeta -zetaHave only [u_]; clear u_)); (on_goal 2 => (clear_value u_; revert u_; intros))) | (clear_value u_; revert u_; intros) | (revert u_; intros))
    | with_reducible assumption
    | with_reducible apply SameBut.refl
    | ((with_reducible apply SameBut.onHp); (case hl => rfl))
    | ((with_reducible apply SameBut.step (k := ack_same _)); (case hl => rfl))
    | ((with_reducible apply SameBut.step (k := setBudget_same _ _)); (case hl => rfl))
    | split
    | dsimp only

theorem execHpWakeWrite_same (v : Word) (s : State) {t_ : State} (h_ : execHpWakeWrite v s = .next t_) : SameBut [.hp, .sys] s t_ := by
  unfold execHpWakeWrite at h_
  injection h_ with h_
  subst h_
  repeat' first
    | (extract_lets +onlyGivenNames u_; first | (apply SameBut.gen (u := u_); (on_goal 1 => (dsimp -zeta -zetaHave only [u_]; clear u_)); (on_goal 2 => (clear_value u_; revert u_; intros))) | (clear_value u_; revert u_; intros) | (revert u_; intros))
    | with_reducible assumption
    | with_reducible apply SameBut.refl
    | ((with_reducible apply SameBut.step (k := wakeWrite_same _ _)); (case hl => rfl))
    | split
    | dsimp only

theorem execPacketTimeout_same (p : Port) (s : State) {t_ : State} (h_ : execPacketTimeout p s = .next t_) : SameBut [.host, .maint, .hp, .ev, .sys, .time, .log, .bulk] s t_ := by
  unfold execPacketTimeout at h_
  injection h_ with h_
  subst h_
  repeat' first
    | (extract_lets +onlyGivenNames u_; first | (apply SameBut.gen (u := u_); (on_goal 1 => (dsimp -zeta -zetaHave only [u_]; clear u_)); (on_goal 2 => (clear_value u_; revert u_; intros))) | (clear_value u_; revert u_; intros) | (revert u_; intros))
    | with_reducible assumption
    | with_reducible apply SameBut.refl
    | ((with_reducible apply SameBut.onPort); (case hl => rfl))
    | ((with_reducible apply SameBut.step (k := advanceTo_same _ _)); (case hl => rfl))
    | ((with_reducible apply SameBut.step (k := intake_same _ _)); (case hl => rfl))
    | split
    | dsimp only

theorem regWrite_same (a : Nat) (v : Word) (s : State) : SameBut [.host, .maint, .hp, .ev, .sys, .time, .log] s (regWrite a v s) := by
  unfold regWrite
  repeat' first
    | (extract_lets +onlyGivenNames u_; first | (apply SameBut.gen (u := u_); (on_goal 1 => (dsimp -zeta -zetaHave only [u_]; clear u_)); (on_goal 2 => (clear_value u_; revert u_; intros))) | (clear_value u_; revert u_; intros) | (revert u_; intros))
    | with_reducible assumption
    | with_reducible apply SameBut.refl
    | ((with_reducible apply SameBut.onTime); (case hl => rfl))
    | ((with_reducible apply SameBut.step (k := ack_same _)); (case hl => rfl))
    | ((with_reducible apply SameBut.step (k := cmdqWrite_same _ _ _)); (case hl => rfl))
    | ((with_reducible apply SameBut.step (k := imskWrite_same _ _ _)); (case hl => rfl))
    | ((with_reducible apply SameBut.step (k := irqClear_same _ _ _ _)); (case hl => rfl))
    | ((with_reducible apply SameBut.step (k := rtcCtlWrite_same _ _ _)); (case hl => rfl))
    | ((with_reducible apply SameBut.step (k := statClear_same _ _ _)); (case hl => rfl))
    | ((with_reducible apply SameBut.step (k := wakeWrite_same _ _)); (case hl => rfl))
    | split
    | dsimp only

theorem execRegisterWrite_same (a : BitVec 8) (v : Word) (s : State) {t_ : State} (h_ : execRegisterWrite a v s = .next t_) : SameBut [.host, .maint, .hp, .ev, .sys, .time, .log] s t_ := by
  unfold execRegisterWrite at h_
  injection h_ with h_
  subst h_
  repeat' first
    | (extract_lets +onlyGivenNames u_; first | (apply SameBut.gen (u := u_); (on_goal 1 => (dsimp -zeta -zetaHave only [u_]; clear u_)); (on_goal 2 => (clear_value u_; revert u_; intros))) | (clear_value u_; revert u_; intros) | (revert u_; intros))
    | with_reducible assumption
    | with_reducible apply SameBut.refl
    | ((with_reducible apply SameBut.step (k := regWrite_same _ _ _)); (case hl => rfl))
    | split
    | dsimp only

theorem transferHost_same (s : State) : SameBut [.host, .maint, .ev, .log] s (transferHost s) := by
  unfold transferHost
  repeat' first
    | (extract_lets +onlyGivenNames u_; first | (apply SameBut.gen (u := u_); (on_goal 1 => (dsimp -zeta -zetaHave only [u_]; clear u_)); (on_goal 2 => (clear_value u_; revert u_; intros))) | (clear_value u_; revert u_; intros) | (revert u_; intros))
    | with_reducible assumption
    | with_reducible apply SameBut.refl
    | ((with_reducible apply SameBut.onHost); (case hl => rfl))
    | ((with_reducible apply SameBut.step (k := raise_same _ _ _)); (case hl => rfl))
    | split
    | dsimp only

theorem execUnsolLost_same (p : Port) (s : State) {t_ : State} (h_ : execUnsolLost p s = .next t_) : SameBut [.host, .maint, .ev, .log] s t_ := by
  unfold execUnsolLost at h_
  injection h_ with h_
  subst h_
  repeat' first
    | (extract_lets +onlyGivenNames u_; first | (apply SameBut.gen (u := u_); (on_goal 1 => (dsimp -zeta -zetaHave only [u_]; clear u_)); (on_goal 2 => (clear_value u_; revert u_; intros))) | (clear_value u_; revert u_; intros) | (revert u_; intros))
    | with_reducible assumption
    | with_reducible apply SameBut.refl
    | ((with_reducible apply SameBut.onPort); (case hl => rfl))
    | ((with_reducible apply SameBut.step (k := raise_same _ _ _)); (case hl => rfl))
    | split
    | dsimp only

end Sys2Proof.Machine
end

