-- ==== Sys2Proof/Laws/Keeps.lean ====
section
/-! SUPPORT. What the shared operations leave alone, field by field, for simp: read off their frame lemmas. -/

namespace Sys2Proof.Machine

@[simp] theorem place_hp (p : Port) (k : Pkt) (s : State) : (place p k s).hp = s.hp := place_same _ _ _ .hp (by decide)
@[simp] theorem place_ev (p : Port) (k : Pkt) (s : State) : (place p k s).ev = s.ev := place_same _ _ _ .ev (by decide)
@[simp] theorem place_time (p : Port) (k : Pkt) (s : State) : (place p k s).time = s.time := place_same _ _ _ .time (by decide)
@[simp] theorem place_gnss (p : Port) (k : Pkt) (s : State) : (place p k s).gnss = s.gnss := place_same _ _ _ .gnss (by decide)
@[simp] theorem place_fir (p : Port) (k : Pkt) (s : State) : (place p k s).fir = s.fir := place_same _ _ _ .fir (by decide)
@[simp] theorem place_fus (p : Port) (k : Pkt) (s : State) : (place p k s).fus = s.fus := place_same _ _ _ .fus (by decide)
@[simp] theorem place_solv (p : Port) (k : Pkt) (s : State) : (place p k s).solv = s.solv := place_same _ _ _ .solv (by decide)
@[simp] theorem place_dpc (p : Port) (k : Pkt) (s : State) : (place p k s).dpc = s.dpc := place_same _ _ _ .dpc (by decide)
@[simp] theorem place_alloc (p : Port) (k : Pkt) (s : State) : (place p k s).alloc = s.alloc := place_same _ _ _ .alloc (by decide)
@[simp] theorem place_loop (p : Port) (k : Pkt) (s : State) : (place p k s).loop = s.loop := place_same _ _ _ .loop (by decide)
@[simp] theorem place_kiln (p : Port) (k : Pkt) (s : State) : (place p k s).kiln = s.kiln := place_same _ _ _ .kiln (by decide)
@[simp] theorem place_dpx (p : Port) (k : Pkt) (s : State) : (place p k s).dpx = s.dpx := place_same _ _ _ .dpx (by decide)
@[simp] theorem place_can (p : Port) (k : Pkt) (s : State) : (place p k s).can = s.can := place_same _ _ _ .can (by decide)
@[simp] theorem place_uart (p : Port) (k : Pkt) (s : State) : (place p k s).uart = s.uart := place_same _ _ _ .uart (by decide)
@[simp] theorem place_mnt (p : Port) (k : Pkt) (s : State) : (place p k s).mnt = s.mnt := place_same _ _ _ .mnt (by decide)
@[simp] theorem place_tap (p : Port) (k : Pkt) (s : State) : (place p k s).tap = s.tap := place_same _ _ _ .tap (by decide)
@[simp] theorem place_cfg (p : Port) (k : Pkt) (s : State) : (place p k s).cfg = s.cfg := place_same _ _ _ .cfg (by decide)
@[simp] theorem place_log (p : Port) (k : Pkt) (s : State) : (place p k s).log = s.log := place_same _ _ _ .log (by decide)
@[simp] theorem place_bulk (p : Port) (k : Pkt) (s : State) : (place p k s).bulk = s.bulk := place_same _ _ _ .bulk (by decide)
@[simp] theorem place_subs (p : Port) (k : Pkt) (s : State) : (place p k s).subs = s.subs := place_same _ _ _ .subs (by decide)
@[simp] theorem place_free (p : Port) (k : Pkt) (s : State) : (place p k s).free = s.free := place_same _ _ _ .free (by decide)
@[simp] theorem place_pending (p : Port) (k : Pkt) (s : State) : (place p k s).pending = s.pending := place_same _ _ _ .pending (by decide)
@[simp] theorem place_sys (p : Port) (k : Pkt) (s : State) : (place p k s).sys = s.sys := place_same _ _ _ .sys (by decide)

@[simp] theorem finish_hp (p : Port) (tag cls st detail : Nat) (ws : List Word) (s : State) : (finish p tag cls st detail ws s).hp = s.hp := finish_same _ _ _ _ _ _ _ .hp (by decide)
@[simp] theorem finish_ev (p : Port) (tag cls st detail : Nat) (ws : List Word) (s : State) : (finish p tag cls st detail ws s).ev = s.ev := finish_same _ _ _ _ _ _ _ .ev (by decide)
@[simp] theorem finish_time (p : Port) (tag cls st detail : Nat) (ws : List Word) (s : State) : (finish p tag cls st detail ws s).time = s.time := finish_same _ _ _ _ _ _ _ .time (by decide)
@[simp] theorem finish_gnss (p : Port) (tag cls st detail : Nat) (ws : List Word) (s : State) : (finish p tag cls st detail ws s).gnss = s.gnss := finish_same _ _ _ _ _ _ _ .gnss (by decide)
@[simp] theorem finish_fir (p : Port) (tag cls st detail : Nat) (ws : List Word) (s : State) : (finish p tag cls st detail ws s).fir = s.fir := finish_same _ _ _ _ _ _ _ .fir (by decide)
@[simp] theorem finish_fus (p : Port) (tag cls st detail : Nat) (ws : List Word) (s : State) : (finish p tag cls st detail ws s).fus = s.fus := finish_same _ _ _ _ _ _ _ .fus (by decide)
@[simp] theorem finish_solv (p : Port) (tag cls st detail : Nat) (ws : List Word) (s : State) : (finish p tag cls st detail ws s).solv = s.solv := finish_same _ _ _ _ _ _ _ .solv (by decide)
@[simp] theorem finish_dpc (p : Port) (tag cls st detail : Nat) (ws : List Word) (s : State) : (finish p tag cls st detail ws s).dpc = s.dpc := finish_same _ _ _ _ _ _ _ .dpc (by decide)
@[simp] theorem finish_alloc (p : Port) (tag cls st detail : Nat) (ws : List Word) (s : State) : (finish p tag cls st detail ws s).alloc = s.alloc := finish_same _ _ _ _ _ _ _ .alloc (by decide)
@[simp] theorem finish_loop (p : Port) (tag cls st detail : Nat) (ws : List Word) (s : State) : (finish p tag cls st detail ws s).loop = s.loop := finish_same _ _ _ _ _ _ _ .loop (by decide)
@[simp] theorem finish_kiln (p : Port) (tag cls st detail : Nat) (ws : List Word) (s : State) : (finish p tag cls st detail ws s).kiln = s.kiln := finish_same _ _ _ _ _ _ _ .kiln (by decide)
@[simp] theorem finish_dpx (p : Port) (tag cls st detail : Nat) (ws : List Word) (s : State) : (finish p tag cls st detail ws s).dpx = s.dpx := finish_same _ _ _ _ _ _ _ .dpx (by decide)
@[simp] theorem finish_can (p : Port) (tag cls st detail : Nat) (ws : List Word) (s : State) : (finish p tag cls st detail ws s).can = s.can := finish_same _ _ _ _ _ _ _ .can (by decide)
@[simp] theorem finish_uart (p : Port) (tag cls st detail : Nat) (ws : List Word) (s : State) : (finish p tag cls st detail ws s).uart = s.uart := finish_same _ _ _ _ _ _ _ .uart (by decide)
@[simp] theorem finish_mnt (p : Port) (tag cls st detail : Nat) (ws : List Word) (s : State) : (finish p tag cls st detail ws s).mnt = s.mnt := finish_same _ _ _ _ _ _ _ .mnt (by decide)
@[simp] theorem finish_tap (p : Port) (tag cls st detail : Nat) (ws : List Word) (s : State) : (finish p tag cls st detail ws s).tap = s.tap := finish_same _ _ _ _ _ _ _ .tap (by decide)
@[simp] theorem finish_cfg (p : Port) (tag cls st detail : Nat) (ws : List Word) (s : State) : (finish p tag cls st detail ws s).cfg = s.cfg := finish_same _ _ _ _ _ _ _ .cfg (by decide)
@[simp] theorem finish_log (p : Port) (tag cls st detail : Nat) (ws : List Word) (s : State) : (finish p tag cls st detail ws s).log = s.log := finish_same _ _ _ _ _ _ _ .log (by decide)
@[simp] theorem finish_bulk (p : Port) (tag cls st detail : Nat) (ws : List Word) (s : State) : (finish p tag cls st detail ws s).bulk = s.bulk := finish_same _ _ _ _ _ _ _ .bulk (by decide)
@[simp] theorem finish_subs (p : Port) (tag cls st detail : Nat) (ws : List Word) (s : State) : (finish p tag cls st detail ws s).subs = s.subs := finish_same _ _ _ _ _ _ _ .subs (by decide)
@[simp] theorem finish_free (p : Port) (tag cls st detail : Nat) (ws : List Word) (s : State) : (finish p tag cls st detail ws s).free = s.free := finish_same _ _ _ _ _ _ _ .free (by decide)
@[simp] theorem finish_pending (p : Port) (tag cls st detail : Nat) (ws : List Word) (s : State) : (finish p tag cls st detail ws s).pending = s.pending := finish_same _ _ _ _ _ _ _ .pending (by decide)
@[simp] theorem finish_mode (p : Port) (tag cls st detail : Nat) (ws : List Word) (s : State) : (finish p tag cls st detail ws s).sys.mode = s.sys.mode := (finish_same _ _ _ _ _ _ _ .mode (by decide)).1
@[simp] theorem finish_own (p : Port) (tag cls st detail : Nat) (ws : List Word) (s : State) : (finish p tag cls st detail ws s).sys.own = s.sys.own := (finish_same _ _ _ _ _ _ _ .mode (by decide)).2

@[simp] theorem reject_hp (p : Port) (c : Cmd) (st detail : Nat) (s : State) : (reject p c st detail s).hp = s.hp := reject_same _ _ _ _ _ .hp (by decide)
@[simp] theorem reject_ev (p : Port) (c : Cmd) (st detail : Nat) (s : State) : (reject p c st detail s).ev = s.ev := reject_same _ _ _ _ _ .ev (by decide)
@[simp] theorem reject_time (p : Port) (c : Cmd) (st detail : Nat) (s : State) : (reject p c st detail s).time = s.time := reject_same _ _ _ _ _ .time (by decide)
@[simp] theorem reject_gnss (p : Port) (c : Cmd) (st detail : Nat) (s : State) : (reject p c st detail s).gnss = s.gnss := reject_same _ _ _ _ _ .gnss (by decide)
@[simp] theorem reject_fir (p : Port) (c : Cmd) (st detail : Nat) (s : State) : (reject p c st detail s).fir = s.fir := reject_same _ _ _ _ _ .fir (by decide)
@[simp] theorem reject_fus (p : Port) (c : Cmd) (st detail : Nat) (s : State) : (reject p c st detail s).fus = s.fus := reject_same _ _ _ _ _ .fus (by decide)
@[simp] theorem reject_solv (p : Port) (c : Cmd) (st detail : Nat) (s : State) : (reject p c st detail s).solv = s.solv := reject_same _ _ _ _ _ .solv (by decide)
@[simp] theorem reject_dpc (p : Port) (c : Cmd) (st detail : Nat) (s : State) : (reject p c st detail s).dpc = s.dpc := reject_same _ _ _ _ _ .dpc (by decide)
@[simp] theorem reject_alloc (p : Port) (c : Cmd) (st detail : Nat) (s : State) : (reject p c st detail s).alloc = s.alloc := reject_same _ _ _ _ _ .alloc (by decide)
@[simp] theorem reject_loop (p : Port) (c : Cmd) (st detail : Nat) (s : State) : (reject p c st detail s).loop = s.loop := reject_same _ _ _ _ _ .loop (by decide)
@[simp] theorem reject_kiln (p : Port) (c : Cmd) (st detail : Nat) (s : State) : (reject p c st detail s).kiln = s.kiln := reject_same _ _ _ _ _ .kiln (by decide)
@[simp] theorem reject_dpx (p : Port) (c : Cmd) (st detail : Nat) (s : State) : (reject p c st detail s).dpx = s.dpx := reject_same _ _ _ _ _ .dpx (by decide)
@[simp] theorem reject_can (p : Port) (c : Cmd) (st detail : Nat) (s : State) : (reject p c st detail s).can = s.can := reject_same _ _ _ _ _ .can (by decide)
@[simp] theorem reject_uart (p : Port) (c : Cmd) (st detail : Nat) (s : State) : (reject p c st detail s).uart = s.uart := reject_same _ _ _ _ _ .uart (by decide)
@[simp] theorem reject_mnt (p : Port) (c : Cmd) (st detail : Nat) (s : State) : (reject p c st detail s).mnt = s.mnt := reject_same _ _ _ _ _ .mnt (by decide)
@[simp] theorem reject_tap (p : Port) (c : Cmd) (st detail : Nat) (s : State) : (reject p c st detail s).tap = s.tap := reject_same _ _ _ _ _ .tap (by decide)
@[simp] theorem reject_cfg (p : Port) (c : Cmd) (st detail : Nat) (s : State) : (reject p c st detail s).cfg = s.cfg := reject_same _ _ _ _ _ .cfg (by decide)
@[simp] theorem reject_log (p : Port) (c : Cmd) (st detail : Nat) (s : State) : (reject p c st detail s).log = s.log := reject_same _ _ _ _ _ .log (by decide)
@[simp] theorem reject_bulk (p : Port) (c : Cmd) (st detail : Nat) (s : State) : (reject p c st detail s).bulk = s.bulk := reject_same _ _ _ _ _ .bulk (by decide)
@[simp] theorem reject_subs (p : Port) (c : Cmd) (st detail : Nat) (s : State) : (reject p c st detail s).subs = s.subs := reject_same _ _ _ _ _ .subs (by decide)
@[simp] theorem reject_free (p : Port) (c : Cmd) (st detail : Nat) (s : State) : (reject p c st detail s).free = s.free := reject_same _ _ _ _ _ .free (by decide)
@[simp] theorem reject_pending (p : Port) (c : Cmd) (st detail : Nat) (s : State) : (reject p c st detail s).pending = s.pending := reject_same _ _ _ _ _ .pending (by decide)
@[simp] theorem reject_mode (p : Port) (c : Cmd) (st detail : Nat) (s : State) : (reject p c st detail s).sys.mode = s.sys.mode := (reject_same _ _ _ _ _ .mode (by decide)).1
@[simp] theorem reject_own (p : Port) (c : Cmd) (st detail : Nat) (s : State) : (reject p c st detail s).sys.own = s.sys.own := (reject_same _ _ _ _ _ .mode (by decide)).2

@[simp] theorem ok_hp (p : Port) (c : Cmd) (detail : Nat) (ws : List Word) (s : State) : (ok p c detail ws s).hp = s.hp := ok_same _ _ _ _ _ .hp (by decide)
@[simp] theorem ok_ev (p : Port) (c : Cmd) (detail : Nat) (ws : List Word) (s : State) : (ok p c detail ws s).ev = s.ev := ok_same _ _ _ _ _ .ev (by decide)
@[simp] theorem ok_time (p : Port) (c : Cmd) (detail : Nat) (ws : List Word) (s : State) : (ok p c detail ws s).time = s.time := ok_same _ _ _ _ _ .time (by decide)
@[simp] theorem ok_gnss (p : Port) (c : Cmd) (detail : Nat) (ws : List Word) (s : State) : (ok p c detail ws s).gnss = s.gnss := ok_same _ _ _ _ _ .gnss (by decide)
@[simp] theorem ok_fir (p : Port) (c : Cmd) (detail : Nat) (ws : List Word) (s : State) : (ok p c detail ws s).fir = s.fir := ok_same _ _ _ _ _ .fir (by decide)
@[simp] theorem ok_fus (p : Port) (c : Cmd) (detail : Nat) (ws : List Word) (s : State) : (ok p c detail ws s).fus = s.fus := ok_same _ _ _ _ _ .fus (by decide)
@[simp] theorem ok_solv (p : Port) (c : Cmd) (detail : Nat) (ws : List Word) (s : State) : (ok p c detail ws s).solv = s.solv := ok_same _ _ _ _ _ .solv (by decide)
@[simp] theorem ok_dpc (p : Port) (c : Cmd) (detail : Nat) (ws : List Word) (s : State) : (ok p c detail ws s).dpc = s.dpc := ok_same _ _ _ _ _ .dpc (by decide)
@[simp] theorem ok_alloc (p : Port) (c : Cmd) (detail : Nat) (ws : List Word) (s : State) : (ok p c detail ws s).alloc = s.alloc := ok_same _ _ _ _ _ .alloc (by decide)
@[simp] theorem ok_loop (p : Port) (c : Cmd) (detail : Nat) (ws : List Word) (s : State) : (ok p c detail ws s).loop = s.loop := ok_same _ _ _ _ _ .loop (by decide)
@[simp] theorem ok_kiln (p : Port) (c : Cmd) (detail : Nat) (ws : List Word) (s : State) : (ok p c detail ws s).kiln = s.kiln := ok_same _ _ _ _ _ .kiln (by decide)
@[simp] theorem ok_dpx (p : Port) (c : Cmd) (detail : Nat) (ws : List Word) (s : State) : (ok p c detail ws s).dpx = s.dpx := ok_same _ _ _ _ _ .dpx (by decide)
@[simp] theorem ok_can (p : Port) (c : Cmd) (detail : Nat) (ws : List Word) (s : State) : (ok p c detail ws s).can = s.can := ok_same _ _ _ _ _ .can (by decide)
@[simp] theorem ok_uart (p : Port) (c : Cmd) (detail : Nat) (ws : List Word) (s : State) : (ok p c detail ws s).uart = s.uart := ok_same _ _ _ _ _ .uart (by decide)
@[simp] theorem ok_mnt (p : Port) (c : Cmd) (detail : Nat) (ws : List Word) (s : State) : (ok p c detail ws s).mnt = s.mnt := ok_same _ _ _ _ _ .mnt (by decide)
@[simp] theorem ok_tap (p : Port) (c : Cmd) (detail : Nat) (ws : List Word) (s : State) : (ok p c detail ws s).tap = s.tap := ok_same _ _ _ _ _ .tap (by decide)
@[simp] theorem ok_cfg (p : Port) (c : Cmd) (detail : Nat) (ws : List Word) (s : State) : (ok p c detail ws s).cfg = s.cfg := ok_same _ _ _ _ _ .cfg (by decide)
@[simp] theorem ok_log (p : Port) (c : Cmd) (detail : Nat) (ws : List Word) (s : State) : (ok p c detail ws s).log = s.log := ok_same _ _ _ _ _ .log (by decide)
@[simp] theorem ok_bulk (p : Port) (c : Cmd) (detail : Nat) (ws : List Word) (s : State) : (ok p c detail ws s).bulk = s.bulk := ok_same _ _ _ _ _ .bulk (by decide)
@[simp] theorem ok_subs (p : Port) (c : Cmd) (detail : Nat) (ws : List Word) (s : State) : (ok p c detail ws s).subs = s.subs := ok_same _ _ _ _ _ .subs (by decide)
@[simp] theorem ok_free (p : Port) (c : Cmd) (detail : Nat) (ws : List Word) (s : State) : (ok p c detail ws s).free = s.free := ok_same _ _ _ _ _ .free (by decide)
@[simp] theorem ok_pending (p : Port) (c : Cmd) (detail : Nat) (ws : List Word) (s : State) : (ok p c detail ws s).pending = s.pending := ok_same _ _ _ _ _ .pending (by decide)
@[simp] theorem ok_mode (p : Port) (c : Cmd) (detail : Nat) (ws : List Word) (s : State) : (ok p c detail ws s).sys.mode = s.sys.mode := (ok_same _ _ _ _ _ .mode (by decide)).1
@[simp] theorem ok_own (p : Port) (c : Cmd) (detail : Nat) (ws : List Word) (s : State) : (ok p c detail ws s).sys.own = s.sys.own := (ok_same _ _ _ _ _ .mode (by decide)).2

@[simp] theorem badValue_hp (p : Port) (c : Cmd) (i : Nat) (s : State) : (badValue p c i s).hp = s.hp := badValue_same _ _ _ _ .hp (by decide)
@[simp] theorem badValue_ev (p : Port) (c : Cmd) (i : Nat) (s : State) : (badValue p c i s).ev = s.ev := badValue_same _ _ _ _ .ev (by decide)
@[simp] theorem badValue_time (p : Port) (c : Cmd) (i : Nat) (s : State) : (badValue p c i s).time = s.time := badValue_same _ _ _ _ .time (by decide)
@[simp] theorem badValue_gnss (p : Port) (c : Cmd) (i : Nat) (s : State) : (badValue p c i s).gnss = s.gnss := badValue_same _ _ _ _ .gnss (by decide)
@[simp] theorem badValue_fir (p : Port) (c : Cmd) (i : Nat) (s : State) : (badValue p c i s).fir = s.fir := badValue_same _ _ _ _ .fir (by decide)
@[simp] theorem badValue_fus (p : Port) (c : Cmd) (i : Nat) (s : State) : (badValue p c i s).fus = s.fus := badValue_same _ _ _ _ .fus (by decide)
@[simp] theorem badValue_solv (p : Port) (c : Cmd) (i : Nat) (s : State) : (badValue p c i s).solv = s.solv := badValue_same _ _ _ _ .solv (by decide)
@[simp] theorem badValue_dpc (p : Port) (c : Cmd) (i : Nat) (s : State) : (badValue p c i s).dpc = s.dpc := badValue_same _ _ _ _ .dpc (by decide)
@[simp] theorem badValue_alloc (p : Port) (c : Cmd) (i : Nat) (s : State) : (badValue p c i s).alloc = s.alloc := badValue_same _ _ _ _ .alloc (by decide)
@[simp] theorem badValue_loop (p : Port) (c : Cmd) (i : Nat) (s : State) : (badValue p c i s).loop = s.loop := badValue_same _ _ _ _ .loop (by decide)
@[simp] theorem badValue_kiln (p : Port) (c : Cmd) (i : Nat) (s : State) : (badValue p c i s).kiln = s.kiln := badValue_same _ _ _ _ .kiln (by decide)
@[simp] theorem badValue_dpx (p : Port) (c : Cmd) (i : Nat) (s : State) : (badValue p c i s).dpx = s.dpx := badValue_same _ _ _ _ .dpx (by decide)
@[simp] theorem badValue_can (p : Port) (c : Cmd) (i : Nat) (s : State) : (badValue p c i s).can = s.can := badValue_same _ _ _ _ .can (by decide)
@[simp] theorem badValue_uart (p : Port) (c : Cmd) (i : Nat) (s : State) : (badValue p c i s).uart = s.uart := badValue_same _ _ _ _ .uart (by decide)
@[simp] theorem badValue_mnt (p : Port) (c : Cmd) (i : Nat) (s : State) : (badValue p c i s).mnt = s.mnt := badValue_same _ _ _ _ .mnt (by decide)
@[simp] theorem badValue_tap (p : Port) (c : Cmd) (i : Nat) (s : State) : (badValue p c i s).tap = s.tap := badValue_same _ _ _ _ .tap (by decide)
@[simp] theorem badValue_cfg (p : Port) (c : Cmd) (i : Nat) (s : State) : (badValue p c i s).cfg = s.cfg := badValue_same _ _ _ _ .cfg (by decide)
@[simp] theorem badValue_log (p : Port) (c : Cmd) (i : Nat) (s : State) : (badValue p c i s).log = s.log := badValue_same _ _ _ _ .log (by decide)
@[simp] theorem badValue_bulk (p : Port) (c : Cmd) (i : Nat) (s : State) : (badValue p c i s).bulk = s.bulk := badValue_same _ _ _ _ .bulk (by decide)
@[simp] theorem badValue_subs (p : Port) (c : Cmd) (i : Nat) (s : State) : (badValue p c i s).subs = s.subs := badValue_same _ _ _ _ .subs (by decide)
@[simp] theorem badValue_free (p : Port) (c : Cmd) (i : Nat) (s : State) : (badValue p c i s).free = s.free := badValue_same _ _ _ _ .free (by decide)
@[simp] theorem badValue_pending (p : Port) (c : Cmd) (i : Nat) (s : State) : (badValue p c i s).pending = s.pending := badValue_same _ _ _ _ .pending (by decide)
@[simp] theorem badValue_mode (p : Port) (c : Cmd) (i : Nat) (s : State) : (badValue p c i s).sys.mode = s.sys.mode := (badValue_same _ _ _ _ .mode (by decide)).1
@[simp] theorem badValue_own (p : Port) (c : Cmd) (i : Nat) (s : State) : (badValue p c i s).sys.own = s.sys.own := (badValue_same _ _ _ _ .mode (by decide)).2

@[simp] theorem pending_hp (p : Port) (c : Cmd) (ms : Nat) (s : State) : (pending p c ms s).hp = s.hp := pending_same _ _ _ _ .hp (by decide)
@[simp] theorem pending_ev (p : Port) (c : Cmd) (ms : Nat) (s : State) : (pending p c ms s).ev = s.ev := pending_same _ _ _ _ .ev (by decide)
@[simp] theorem pending_time (p : Port) (c : Cmd) (ms : Nat) (s : State) : (pending p c ms s).time = s.time := pending_same _ _ _ _ .time (by decide)
@[simp] theorem pending_gnss (p : Port) (c : Cmd) (ms : Nat) (s : State) : (pending p c ms s).gnss = s.gnss := pending_same _ _ _ _ .gnss (by decide)
@[simp] theorem pending_fir (p : Port) (c : Cmd) (ms : Nat) (s : State) : (pending p c ms s).fir = s.fir := pending_same _ _ _ _ .fir (by decide)
@[simp] theorem pending_fus (p : Port) (c : Cmd) (ms : Nat) (s : State) : (pending p c ms s).fus = s.fus := pending_same _ _ _ _ .fus (by decide)
@[simp] theorem pending_solv (p : Port) (c : Cmd) (ms : Nat) (s : State) : (pending p c ms s).solv = s.solv := pending_same _ _ _ _ .solv (by decide)
@[simp] theorem pending_dpc (p : Port) (c : Cmd) (ms : Nat) (s : State) : (pending p c ms s).dpc = s.dpc := pending_same _ _ _ _ .dpc (by decide)
@[simp] theorem pending_alloc (p : Port) (c : Cmd) (ms : Nat) (s : State) : (pending p c ms s).alloc = s.alloc := pending_same _ _ _ _ .alloc (by decide)
@[simp] theorem pending_loop (p : Port) (c : Cmd) (ms : Nat) (s : State) : (pending p c ms s).loop = s.loop := pending_same _ _ _ _ .loop (by decide)
@[simp] theorem pending_kiln (p : Port) (c : Cmd) (ms : Nat) (s : State) : (pending p c ms s).kiln = s.kiln := pending_same _ _ _ _ .kiln (by decide)
@[simp] theorem pending_dpx (p : Port) (c : Cmd) (ms : Nat) (s : State) : (pending p c ms s).dpx = s.dpx := pending_same _ _ _ _ .dpx (by decide)
@[simp] theorem pending_can (p : Port) (c : Cmd) (ms : Nat) (s : State) : (pending p c ms s).can = s.can := pending_same _ _ _ _ .can (by decide)
@[simp] theorem pending_uart (p : Port) (c : Cmd) (ms : Nat) (s : State) : (pending p c ms s).uart = s.uart := pending_same _ _ _ _ .uart (by decide)
@[simp] theorem pending_mnt (p : Port) (c : Cmd) (ms : Nat) (s : State) : (pending p c ms s).mnt = s.mnt := pending_same _ _ _ _ .mnt (by decide)
@[simp] theorem pending_tap (p : Port) (c : Cmd) (ms : Nat) (s : State) : (pending p c ms s).tap = s.tap := pending_same _ _ _ _ .tap (by decide)
@[simp] theorem pending_cfg (p : Port) (c : Cmd) (ms : Nat) (s : State) : (pending p c ms s).cfg = s.cfg := pending_same _ _ _ _ .cfg (by decide)
@[simp] theorem pending_log (p : Port) (c : Cmd) (ms : Nat) (s : State) : (pending p c ms s).log = s.log := pending_same _ _ _ _ .log (by decide)
@[simp] theorem pending_bulk (p : Port) (c : Cmd) (ms : Nat) (s : State) : (pending p c ms s).bulk = s.bulk := pending_same _ _ _ _ .bulk (by decide)
@[simp] theorem pending_subs (p : Port) (c : Cmd) (ms : Nat) (s : State) : (pending p c ms s).subs = s.subs := pending_same _ _ _ _ .subs (by decide)
@[simp] theorem pending_free (p : Port) (c : Cmd) (ms : Nat) (s : State) : (pending p c ms s).free = s.free := pending_same _ _ _ _ .free (by decide)
@[simp] theorem pending_pending (p : Port) (c : Cmd) (ms : Nat) (s : State) : (pending p c ms s).pending = s.pending := pending_same _ _ _ _ .pending (by decide)
@[simp] theorem pending_sys (p : Port) (c : Cmd) (ms : Nat) (s : State) : (pending p c ms s).sys = s.sys := pending_same _ _ _ _ .sys (by decide)

@[simp] theorem commit_hp (p : Port) (tag : Nat) (s : State) : (commit p tag s).hp = s.hp := commit_same _ _ _ .hp (by decide)
@[simp] theorem commit_ev (p : Port) (tag : Nat) (s : State) : (commit p tag s).ev = s.ev := commit_same _ _ _ .ev (by decide)
@[simp] theorem commit_time (p : Port) (tag : Nat) (s : State) : (commit p tag s).time = s.time := commit_same _ _ _ .time (by decide)
@[simp] theorem commit_gnss (p : Port) (tag : Nat) (s : State) : (commit p tag s).gnss = s.gnss := commit_same _ _ _ .gnss (by decide)
@[simp] theorem commit_fir (p : Port) (tag : Nat) (s : State) : (commit p tag s).fir = s.fir := commit_same _ _ _ .fir (by decide)
@[simp] theorem commit_fus (p : Port) (tag : Nat) (s : State) : (commit p tag s).fus = s.fus := commit_same _ _ _ .fus (by decide)
@[simp] theorem commit_solv (p : Port) (tag : Nat) (s : State) : (commit p tag s).solv = s.solv := commit_same _ _ _ .solv (by decide)
@[simp] theorem commit_dpc (p : Port) (tag : Nat) (s : State) : (commit p tag s).dpc = s.dpc := commit_same _ _ _ .dpc (by decide)
@[simp] theorem commit_alloc (p : Port) (tag : Nat) (s : State) : (commit p tag s).alloc = s.alloc := commit_same _ _ _ .alloc (by decide)
@[simp] theorem commit_loop (p : Port) (tag : Nat) (s : State) : (commit p tag s).loop = s.loop := commit_same _ _ _ .loop (by decide)
@[simp] theorem commit_kiln (p : Port) (tag : Nat) (s : State) : (commit p tag s).kiln = s.kiln := commit_same _ _ _ .kiln (by decide)
@[simp] theorem commit_dpx (p : Port) (tag : Nat) (s : State) : (commit p tag s).dpx = s.dpx := commit_same _ _ _ .dpx (by decide)
@[simp] theorem commit_can (p : Port) (tag : Nat) (s : State) : (commit p tag s).can = s.can := commit_same _ _ _ .can (by decide)
@[simp] theorem commit_uart (p : Port) (tag : Nat) (s : State) : (commit p tag s).uart = s.uart := commit_same _ _ _ .uart (by decide)
@[simp] theorem commit_mnt (p : Port) (tag : Nat) (s : State) : (commit p tag s).mnt = s.mnt := commit_same _ _ _ .mnt (by decide)
@[simp] theorem commit_tap (p : Port) (tag : Nat) (s : State) : (commit p tag s).tap = s.tap := commit_same _ _ _ .tap (by decide)
@[simp] theorem commit_cfg (p : Port) (tag : Nat) (s : State) : (commit p tag s).cfg = s.cfg := commit_same _ _ _ .cfg (by decide)
@[simp] theorem commit_log (p : Port) (tag : Nat) (s : State) : (commit p tag s).log = s.log := commit_same _ _ _ .log (by decide)
@[simp] theorem commit_bulk (p : Port) (tag : Nat) (s : State) : (commit p tag s).bulk = s.bulk := commit_same _ _ _ .bulk (by decide)
@[simp] theorem commit_subs (p : Port) (tag : Nat) (s : State) : (commit p tag s).subs = s.subs := commit_same _ _ _ .subs (by decide)
@[simp] theorem commit_free (p : Port) (tag : Nat) (s : State) : (commit p tag s).free = s.free := commit_same _ _ _ .free (by decide)
@[simp] theorem commit_pending (p : Port) (tag : Nat) (s : State) : (commit p tag s).pending = s.pending := commit_same _ _ _ .pending (by decide)
@[simp] theorem commit_sys (p : Port) (tag : Nat) (s : State) : (commit p tag s).sys = s.sys := commit_same _ _ _ .sys (by decide)

@[simp] theorem setUnit_hp (p : Port) (tag u : Nat) (s : State) : (setUnit p tag u s).hp = s.hp := setUnit_same _ _ _ _ .hp (by decide)
@[simp] theorem setUnit_ev (p : Port) (tag u : Nat) (s : State) : (setUnit p tag u s).ev = s.ev := setUnit_same _ _ _ _ .ev (by decide)
@[simp] theorem setUnit_time (p : Port) (tag u : Nat) (s : State) : (setUnit p tag u s).time = s.time := setUnit_same _ _ _ _ .time (by decide)
@[simp] theorem setUnit_gnss (p : Port) (tag u : Nat) (s : State) : (setUnit p tag u s).gnss = s.gnss := setUnit_same _ _ _ _ .gnss (by decide)
@[simp] theorem setUnit_fir (p : Port) (tag u : Nat) (s : State) : (setUnit p tag u s).fir = s.fir := setUnit_same _ _ _ _ .fir (by decide)
@[simp] theorem setUnit_fus (p : Port) (tag u : Nat) (s : State) : (setUnit p tag u s).fus = s.fus := setUnit_same _ _ _ _ .fus (by decide)
@[simp] theorem setUnit_solv (p : Port) (tag u : Nat) (s : State) : (setUnit p tag u s).solv = s.solv := setUnit_same _ _ _ _ .solv (by decide)
@[simp] theorem setUnit_dpc (p : Port) (tag u : Nat) (s : State) : (setUnit p tag u s).dpc = s.dpc := setUnit_same _ _ _ _ .dpc (by decide)
@[simp] theorem setUnit_alloc (p : Port) (tag u : Nat) (s : State) : (setUnit p tag u s).alloc = s.alloc := setUnit_same _ _ _ _ .alloc (by decide)
@[simp] theorem setUnit_loop (p : Port) (tag u : Nat) (s : State) : (setUnit p tag u s).loop = s.loop := setUnit_same _ _ _ _ .loop (by decide)
@[simp] theorem setUnit_kiln (p : Port) (tag u : Nat) (s : State) : (setUnit p tag u s).kiln = s.kiln := setUnit_same _ _ _ _ .kiln (by decide)
@[simp] theorem setUnit_dpx (p : Port) (tag u : Nat) (s : State) : (setUnit p tag u s).dpx = s.dpx := setUnit_same _ _ _ _ .dpx (by decide)
@[simp] theorem setUnit_can (p : Port) (tag u : Nat) (s : State) : (setUnit p tag u s).can = s.can := setUnit_same _ _ _ _ .can (by decide)
@[simp] theorem setUnit_uart (p : Port) (tag u : Nat) (s : State) : (setUnit p tag u s).uart = s.uart := setUnit_same _ _ _ _ .uart (by decide)
@[simp] theorem setUnit_mnt (p : Port) (tag u : Nat) (s : State) : (setUnit p tag u s).mnt = s.mnt := setUnit_same _ _ _ _ .mnt (by decide)
@[simp] theorem setUnit_tap (p : Port) (tag u : Nat) (s : State) : (setUnit p tag u s).tap = s.tap := setUnit_same _ _ _ _ .tap (by decide)
@[simp] theorem setUnit_cfg (p : Port) (tag u : Nat) (s : State) : (setUnit p tag u s).cfg = s.cfg := setUnit_same _ _ _ _ .cfg (by decide)
@[simp] theorem setUnit_log (p : Port) (tag u : Nat) (s : State) : (setUnit p tag u s).log = s.log := setUnit_same _ _ _ _ .log (by decide)
@[simp] theorem setUnit_bulk (p : Port) (tag u : Nat) (s : State) : (setUnit p tag u s).bulk = s.bulk := setUnit_same _ _ _ _ .bulk (by decide)
@[simp] theorem setUnit_subs (p : Port) (tag u : Nat) (s : State) : (setUnit p tag u s).subs = s.subs := setUnit_same _ _ _ _ .subs (by decide)
@[simp] theorem setUnit_free (p : Port) (tag u : Nat) (s : State) : (setUnit p tag u s).free = s.free := setUnit_same _ _ _ _ .free (by decide)
@[simp] theorem setUnit_pending (p : Port) (tag u : Nat) (s : State) : (setUnit p tag u s).pending = s.pending := setUnit_same _ _ _ _ .pending (by decide)
@[simp] theorem setUnit_sys (p : Port) (tag u : Nat) (s : State) : (setUnit p tag u s).sys = s.sys := setUnit_same _ _ _ _ .sys (by decide)

@[simp] theorem unsol_hp (p : Port) (code : Nat) (ws : List Word) (s : State) : (unsol p code ws s).hp = s.hp := unsol_same _ _ _ _ .hp (by decide)
@[simp] theorem unsol_ev (p : Port) (code : Nat) (ws : List Word) (s : State) : (unsol p code ws s).ev = s.ev := unsol_same _ _ _ _ .ev (by decide)
@[simp] theorem unsol_time (p : Port) (code : Nat) (ws : List Word) (s : State) : (unsol p code ws s).time = s.time := unsol_same _ _ _ _ .time (by decide)
@[simp] theorem unsol_gnss (p : Port) (code : Nat) (ws : List Word) (s : State) : (unsol p code ws s).gnss = s.gnss := unsol_same _ _ _ _ .gnss (by decide)
@[simp] theorem unsol_fir (p : Port) (code : Nat) (ws : List Word) (s : State) : (unsol p code ws s).fir = s.fir := unsol_same _ _ _ _ .fir (by decide)
@[simp] theorem unsol_fus (p : Port) (code : Nat) (ws : List Word) (s : State) : (unsol p code ws s).fus = s.fus := unsol_same _ _ _ _ .fus (by decide)
@[simp] theorem unsol_solv (p : Port) (code : Nat) (ws : List Word) (s : State) : (unsol p code ws s).solv = s.solv := unsol_same _ _ _ _ .solv (by decide)
@[simp] theorem unsol_dpc (p : Port) (code : Nat) (ws : List Word) (s : State) : (unsol p code ws s).dpc = s.dpc := unsol_same _ _ _ _ .dpc (by decide)
@[simp] theorem unsol_alloc (p : Port) (code : Nat) (ws : List Word) (s : State) : (unsol p code ws s).alloc = s.alloc := unsol_same _ _ _ _ .alloc (by decide)
@[simp] theorem unsol_loop (p : Port) (code : Nat) (ws : List Word) (s : State) : (unsol p code ws s).loop = s.loop := unsol_same _ _ _ _ .loop (by decide)
@[simp] theorem unsol_kiln (p : Port) (code : Nat) (ws : List Word) (s : State) : (unsol p code ws s).kiln = s.kiln := unsol_same _ _ _ _ .kiln (by decide)
@[simp] theorem unsol_dpx (p : Port) (code : Nat) (ws : List Word) (s : State) : (unsol p code ws s).dpx = s.dpx := unsol_same _ _ _ _ .dpx (by decide)
@[simp] theorem unsol_can (p : Port) (code : Nat) (ws : List Word) (s : State) : (unsol p code ws s).can = s.can := unsol_same _ _ _ _ .can (by decide)
@[simp] theorem unsol_uart (p : Port) (code : Nat) (ws : List Word) (s : State) : (unsol p code ws s).uart = s.uart := unsol_same _ _ _ _ .uart (by decide)
@[simp] theorem unsol_mnt (p : Port) (code : Nat) (ws : List Word) (s : State) : (unsol p code ws s).mnt = s.mnt := unsol_same _ _ _ _ .mnt (by decide)
@[simp] theorem unsol_tap (p : Port) (code : Nat) (ws : List Word) (s : State) : (unsol p code ws s).tap = s.tap := unsol_same _ _ _ _ .tap (by decide)
@[simp] theorem unsol_cfg (p : Port) (code : Nat) (ws : List Word) (s : State) : (unsol p code ws s).cfg = s.cfg := unsol_same _ _ _ _ .cfg (by decide)
@[simp] theorem unsol_log (p : Port) (code : Nat) (ws : List Word) (s : State) : (unsol p code ws s).log = s.log := unsol_same _ _ _ _ .log (by decide)
@[simp] theorem unsol_bulk (p : Port) (code : Nat) (ws : List Word) (s : State) : (unsol p code ws s).bulk = s.bulk := unsol_same _ _ _ _ .bulk (by decide)
@[simp] theorem unsol_subs (p : Port) (code : Nat) (ws : List Word) (s : State) : (unsol p code ws s).subs = s.subs := unsol_same _ _ _ _ .subs (by decide)
@[simp] theorem unsol_free (p : Port) (code : Nat) (ws : List Word) (s : State) : (unsol p code ws s).free = s.free := unsol_same _ _ _ _ .free (by decide)
@[simp] theorem unsol_pending (p : Port) (code : Nat) (ws : List Word) (s : State) : (unsol p code ws s).pending = s.pending := unsol_same _ _ _ _ .pending (by decide)
@[simp] theorem unsol_sys (p : Port) (code : Nat) (ws : List Word) (s : State) : (unsol p code ws s).sys = s.sys := unsol_same _ _ _ _ .sys (by decide)

@[simp] theorem raiseAt_hp (n : Fin 128) (detail mt : Nat) (s : State) : (raiseAt n detail mt s).hp = s.hp := raiseAt_same _ _ _ _ .hp (by decide)
@[simp] theorem raiseAt_time (n : Fin 128) (detail mt : Nat) (s : State) : (raiseAt n detail mt s).time = s.time := raiseAt_same _ _ _ _ .time (by decide)
@[simp] theorem raiseAt_gnss (n : Fin 128) (detail mt : Nat) (s : State) : (raiseAt n detail mt s).gnss = s.gnss := raiseAt_same _ _ _ _ .gnss (by decide)
@[simp] theorem raiseAt_fir (n : Fin 128) (detail mt : Nat) (s : State) : (raiseAt n detail mt s).fir = s.fir := raiseAt_same _ _ _ _ .fir (by decide)
@[simp] theorem raiseAt_fus (n : Fin 128) (detail mt : Nat) (s : State) : (raiseAt n detail mt s).fus = s.fus := raiseAt_same _ _ _ _ .fus (by decide)
@[simp] theorem raiseAt_solv (n : Fin 128) (detail mt : Nat) (s : State) : (raiseAt n detail mt s).solv = s.solv := raiseAt_same _ _ _ _ .solv (by decide)
@[simp] theorem raiseAt_dpc (n : Fin 128) (detail mt : Nat) (s : State) : (raiseAt n detail mt s).dpc = s.dpc := raiseAt_same _ _ _ _ .dpc (by decide)
@[simp] theorem raiseAt_alloc (n : Fin 128) (detail mt : Nat) (s : State) : (raiseAt n detail mt s).alloc = s.alloc := raiseAt_same _ _ _ _ .alloc (by decide)
@[simp] theorem raiseAt_loop (n : Fin 128) (detail mt : Nat) (s : State) : (raiseAt n detail mt s).loop = s.loop := raiseAt_same _ _ _ _ .loop (by decide)
@[simp] theorem raiseAt_kiln (n : Fin 128) (detail mt : Nat) (s : State) : (raiseAt n detail mt s).kiln = s.kiln := raiseAt_same _ _ _ _ .kiln (by decide)
@[simp] theorem raiseAt_dpx (n : Fin 128) (detail mt : Nat) (s : State) : (raiseAt n detail mt s).dpx = s.dpx := raiseAt_same _ _ _ _ .dpx (by decide)
@[simp] theorem raiseAt_can (n : Fin 128) (detail mt : Nat) (s : State) : (raiseAt n detail mt s).can = s.can := raiseAt_same _ _ _ _ .can (by decide)
@[simp] theorem raiseAt_uart (n : Fin 128) (detail mt : Nat) (s : State) : (raiseAt n detail mt s).uart = s.uart := raiseAt_same _ _ _ _ .uart (by decide)
@[simp] theorem raiseAt_mnt (n : Fin 128) (detail mt : Nat) (s : State) : (raiseAt n detail mt s).mnt = s.mnt := raiseAt_same _ _ _ _ .mnt (by decide)
@[simp] theorem raiseAt_tap (n : Fin 128) (detail mt : Nat) (s : State) : (raiseAt n detail mt s).tap = s.tap := raiseAt_same _ _ _ _ .tap (by decide)
@[simp] theorem raiseAt_cfg (n : Fin 128) (detail mt : Nat) (s : State) : (raiseAt n detail mt s).cfg = s.cfg := raiseAt_same _ _ _ _ .cfg (by decide)
@[simp] theorem raiseAt_bulk (n : Fin 128) (detail mt : Nat) (s : State) : (raiseAt n detail mt s).bulk = s.bulk := raiseAt_same _ _ _ _ .bulk (by decide)
@[simp] theorem raiseAt_subs (n : Fin 128) (detail mt : Nat) (s : State) : (raiseAt n detail mt s).subs = s.subs := raiseAt_same _ _ _ _ .subs (by decide)
@[simp] theorem raiseAt_free (n : Fin 128) (detail mt : Nat) (s : State) : (raiseAt n detail mt s).free = s.free := raiseAt_same _ _ _ _ .free (by decide)
@[simp] theorem raiseAt_pending (n : Fin 128) (detail mt : Nat) (s : State) : (raiseAt n detail mt s).pending = s.pending := raiseAt_same _ _ _ _ .pending (by decide)
@[simp] theorem raiseAt_sys (n : Fin 128) (detail mt : Nat) (s : State) : (raiseAt n detail mt s).sys = s.sys := raiseAt_same _ _ _ _ .sys (by decide)

@[simp] theorem raise_hp (n : Fin 128) (detail : Nat) (s : State) : (raise n detail s).hp = s.hp := raise_same _ _ _ .hp (by decide)
@[simp] theorem raise_time (n : Fin 128) (detail : Nat) (s : State) : (raise n detail s).time = s.time := raise_same _ _ _ .time (by decide)
@[simp] theorem raise_gnss (n : Fin 128) (detail : Nat) (s : State) : (raise n detail s).gnss = s.gnss := raise_same _ _ _ .gnss (by decide)
@[simp] theorem raise_fir (n : Fin 128) (detail : Nat) (s : State) : (raise n detail s).fir = s.fir := raise_same _ _ _ .fir (by decide)
@[simp] theorem raise_fus (n : Fin 128) (detail : Nat) (s : State) : (raise n detail s).fus = s.fus := raise_same _ _ _ .fus (by decide)
@[simp] theorem raise_solv (n : Fin 128) (detail : Nat) (s : State) : (raise n detail s).solv = s.solv := raise_same _ _ _ .solv (by decide)
@[simp] theorem raise_dpc (n : Fin 128) (detail : Nat) (s : State) : (raise n detail s).dpc = s.dpc := raise_same _ _ _ .dpc (by decide)
@[simp] theorem raise_alloc (n : Fin 128) (detail : Nat) (s : State) : (raise n detail s).alloc = s.alloc := raise_same _ _ _ .alloc (by decide)
@[simp] theorem raise_loop (n : Fin 128) (detail : Nat) (s : State) : (raise n detail s).loop = s.loop := raise_same _ _ _ .loop (by decide)
@[simp] theorem raise_kiln (n : Fin 128) (detail : Nat) (s : State) : (raise n detail s).kiln = s.kiln := raise_same _ _ _ .kiln (by decide)
@[simp] theorem raise_dpx (n : Fin 128) (detail : Nat) (s : State) : (raise n detail s).dpx = s.dpx := raise_same _ _ _ .dpx (by decide)
@[simp] theorem raise_can (n : Fin 128) (detail : Nat) (s : State) : (raise n detail s).can = s.can := raise_same _ _ _ .can (by decide)
@[simp] theorem raise_uart (n : Fin 128) (detail : Nat) (s : State) : (raise n detail s).uart = s.uart := raise_same _ _ _ .uart (by decide)
@[simp] theorem raise_mnt (n : Fin 128) (detail : Nat) (s : State) : (raise n detail s).mnt = s.mnt := raise_same _ _ _ .mnt (by decide)
@[simp] theorem raise_tap (n : Fin 128) (detail : Nat) (s : State) : (raise n detail s).tap = s.tap := raise_same _ _ _ .tap (by decide)
@[simp] theorem raise_cfg (n : Fin 128) (detail : Nat) (s : State) : (raise n detail s).cfg = s.cfg := raise_same _ _ _ .cfg (by decide)
@[simp] theorem raise_bulk (n : Fin 128) (detail : Nat) (s : State) : (raise n detail s).bulk = s.bulk := raise_same _ _ _ .bulk (by decide)
@[simp] theorem raise_subs (n : Fin 128) (detail : Nat) (s : State) : (raise n detail s).subs = s.subs := raise_same _ _ _ .subs (by decide)
@[simp] theorem raise_free (n : Fin 128) (detail : Nat) (s : State) : (raise n detail s).free = s.free := raise_same _ _ _ .free (by decide)
@[simp] theorem raise_pending (n : Fin 128) (detail : Nat) (s : State) : (raise n detail s).pending = s.pending := raise_same _ _ _ .pending (by decide)
@[simp] theorem raise_sys (n : Fin 128) (detail : Nat) (s : State) : (raise n detail s).sys = s.sys := raise_same _ _ _ .sys (by decide)

@[simp] theorem record_hp (code source sev : Nat) (payload : List Byte) (s : State) : (record code source sev payload s).hp = s.hp := record_same _ _ _ _ _ .hp (by decide)
@[simp] theorem record_time (code source sev : Nat) (payload : List Byte) (s : State) : (record code source sev payload s).time = s.time := record_same _ _ _ _ _ .time (by decide)
@[simp] theorem record_gnss (code source sev : Nat) (payload : List Byte) (s : State) : (record code source sev payload s).gnss = s.gnss := record_same _ _ _ _ _ .gnss (by decide)
@[simp] theorem record_fir (code source sev : Nat) (payload : List Byte) (s : State) : (record code source sev payload s).fir = s.fir := record_same _ _ _ _ _ .fir (by decide)
@[simp] theorem record_fus (code source sev : Nat) (payload : List Byte) (s : State) : (record code source sev payload s).fus = s.fus := record_same _ _ _ _ _ .fus (by decide)
@[simp] theorem record_solv (code source sev : Nat) (payload : List Byte) (s : State) : (record code source sev payload s).solv = s.solv := record_same _ _ _ _ _ .solv (by decide)
@[simp] theorem record_dpc (code source sev : Nat) (payload : List Byte) (s : State) : (record code source sev payload s).dpc = s.dpc := record_same _ _ _ _ _ .dpc (by decide)
@[simp] theorem record_alloc (code source sev : Nat) (payload : List Byte) (s : State) : (record code source sev payload s).alloc = s.alloc := record_same _ _ _ _ _ .alloc (by decide)
@[simp] theorem record_loop (code source sev : Nat) (payload : List Byte) (s : State) : (record code source sev payload s).loop = s.loop := record_same _ _ _ _ _ .loop (by decide)
@[simp] theorem record_kiln (code source sev : Nat) (payload : List Byte) (s : State) : (record code source sev payload s).kiln = s.kiln := record_same _ _ _ _ _ .kiln (by decide)
@[simp] theorem record_dpx (code source sev : Nat) (payload : List Byte) (s : State) : (record code source sev payload s).dpx = s.dpx := record_same _ _ _ _ _ .dpx (by decide)
@[simp] theorem record_can (code source sev : Nat) (payload : List Byte) (s : State) : (record code source sev payload s).can = s.can := record_same _ _ _ _ _ .can (by decide)
@[simp] theorem record_uart (code source sev : Nat) (payload : List Byte) (s : State) : (record code source sev payload s).uart = s.uart := record_same _ _ _ _ _ .uart (by decide)
@[simp] theorem record_mnt (code source sev : Nat) (payload : List Byte) (s : State) : (record code source sev payload s).mnt = s.mnt := record_same _ _ _ _ _ .mnt (by decide)
@[simp] theorem record_tap (code source sev : Nat) (payload : List Byte) (s : State) : (record code source sev payload s).tap = s.tap := record_same _ _ _ _ _ .tap (by decide)
@[simp] theorem record_cfg (code source sev : Nat) (payload : List Byte) (s : State) : (record code source sev payload s).cfg = s.cfg := record_same _ _ _ _ _ .cfg (by decide)
@[simp] theorem record_bulk (code source sev : Nat) (payload : List Byte) (s : State) : (record code source sev payload s).bulk = s.bulk := record_same _ _ _ _ _ .bulk (by decide)
@[simp] theorem record_subs (code source sev : Nat) (payload : List Byte) (s : State) : (record code source sev payload s).subs = s.subs := record_same _ _ _ _ _ .subs (by decide)
@[simp] theorem record_free (code source sev : Nat) (payload : List Byte) (s : State) : (record code source sev payload s).free = s.free := record_same _ _ _ _ _ .free (by decide)
@[simp] theorem record_pending (code source sev : Nat) (payload : List Byte) (s : State) : (record code source sev payload s).pending = s.pending := record_same _ _ _ _ _ .pending (by decide)
@[simp] theorem record_sys (code source sev : Nat) (payload : List Byte) (s : State) : (record code source sev payload s).sys = s.sys := record_same _ _ _ _ _ .sys (by decide)

@[simp] theorem forward_host (p : Port) (c : Cmd) (s : State) : (forward p c s).host = s.host := forward_same _ _ _ .host (by decide)
@[simp] theorem forward_maint (p : Port) (c : Cmd) (s : State) : (forward p c s).maint = s.maint := forward_same _ _ _ .maint (by decide)
@[simp] theorem forward_hp (p : Port) (c : Cmd) (s : State) : (forward p c s).hp = s.hp := forward_same _ _ _ .hp (by decide)
@[simp] theorem forward_ev (p : Port) (c : Cmd) (s : State) : (forward p c s).ev = s.ev := forward_same _ _ _ .ev (by decide)
@[simp] theorem forward_time (p : Port) (c : Cmd) (s : State) : (forward p c s).time = s.time := forward_same _ _ _ .time (by decide)
@[simp] theorem forward_gnss (p : Port) (c : Cmd) (s : State) : (forward p c s).gnss = s.gnss := forward_same _ _ _ .gnss (by decide)
@[simp] theorem forward_fir (p : Port) (c : Cmd) (s : State) : (forward p c s).fir = s.fir := forward_same _ _ _ .fir (by decide)
@[simp] theorem forward_fus (p : Port) (c : Cmd) (s : State) : (forward p c s).fus = s.fus := forward_same _ _ _ .fus (by decide)
@[simp] theorem forward_solv (p : Port) (c : Cmd) (s : State) : (forward p c s).solv = s.solv := forward_same _ _ _ .solv (by decide)
@[simp] theorem forward_dpc (p : Port) (c : Cmd) (s : State) : (forward p c s).dpc = s.dpc := forward_same _ _ _ .dpc (by decide)
@[simp] theorem forward_alloc (p : Port) (c : Cmd) (s : State) : (forward p c s).alloc = s.alloc := forward_same _ _ _ .alloc (by decide)
@[simp] theorem forward_loop (p : Port) (c : Cmd) (s : State) : (forward p c s).loop = s.loop := forward_same _ _ _ .loop (by decide)
@[simp] theorem forward_kiln (p : Port) (c : Cmd) (s : State) : (forward p c s).kiln = s.kiln := forward_same _ _ _ .kiln (by decide)
@[simp] theorem forward_can (p : Port) (c : Cmd) (s : State) : (forward p c s).can = s.can := forward_same _ _ _ .can (by decide)
@[simp] theorem forward_uart (p : Port) (c : Cmd) (s : State) : (forward p c s).uart = s.uart := forward_same _ _ _ .uart (by decide)
@[simp] theorem forward_mnt (p : Port) (c : Cmd) (s : State) : (forward p c s).mnt = s.mnt := forward_same _ _ _ .mnt (by decide)
@[simp] theorem forward_tap (p : Port) (c : Cmd) (s : State) : (forward p c s).tap = s.tap := forward_same _ _ _ .tap (by decide)
@[simp] theorem forward_cfg (p : Port) (c : Cmd) (s : State) : (forward p c s).cfg = s.cfg := forward_same _ _ _ .cfg (by decide)
@[simp] theorem forward_log (p : Port) (c : Cmd) (s : State) : (forward p c s).log = s.log := forward_same _ _ _ .log (by decide)
@[simp] theorem forward_bulk (p : Port) (c : Cmd) (s : State) : (forward p c s).bulk = s.bulk := forward_same _ _ _ .bulk (by decide)
@[simp] theorem forward_subs (p : Port) (c : Cmd) (s : State) : (forward p c s).subs = s.subs := forward_same _ _ _ .subs (by decide)
@[simp] theorem forward_free (p : Port) (c : Cmd) (s : State) : (forward p c s).free = s.free := forward_same _ _ _ .free (by decide)
@[simp] theorem forward_pending (p : Port) (c : Cmd) (s : State) : (forward p c s).pending = s.pending := forward_same _ _ _ .pending (by decide)
@[simp] theorem forward_sys (p : Port) (c : Cmd) (s : State) : (forward p c s).sys = s.sys := forward_same _ _ _ .sys (by decide)

@[simp] theorem changeRecord_hp (p : Port) (tag : Nat) (op : Op) (inst : Nat) (before after : Word) (fwd : Bool) (s : State) : (changeRecord p tag op inst before after fwd s).hp = s.hp := changeRecord_same _ _ _ _ _ _ _ _ .hp (by decide)
@[simp] theorem changeRecord_time (p : Port) (tag : Nat) (op : Op) (inst : Nat) (before after : Word) (fwd : Bool) (s : State) : (changeRecord p tag op inst before after fwd s).time = s.time := changeRecord_same _ _ _ _ _ _ _ _ .time (by decide)
@[simp] theorem changeRecord_gnss (p : Port) (tag : Nat) (op : Op) (inst : Nat) (before after : Word) (fwd : Bool) (s : State) : (changeRecord p tag op inst before after fwd s).gnss = s.gnss := changeRecord_same _ _ _ _ _ _ _ _ .gnss (by decide)
@[simp] theorem changeRecord_fir (p : Port) (tag : Nat) (op : Op) (inst : Nat) (before after : Word) (fwd : Bool) (s : State) : (changeRecord p tag op inst before after fwd s).fir = s.fir := changeRecord_same _ _ _ _ _ _ _ _ .fir (by decide)
@[simp] theorem changeRecord_fus (p : Port) (tag : Nat) (op : Op) (inst : Nat) (before after : Word) (fwd : Bool) (s : State) : (changeRecord p tag op inst before after fwd s).fus = s.fus := changeRecord_same _ _ _ _ _ _ _ _ .fus (by decide)
@[simp] theorem changeRecord_solv (p : Port) (tag : Nat) (op : Op) (inst : Nat) (before after : Word) (fwd : Bool) (s : State) : (changeRecord p tag op inst before after fwd s).solv = s.solv := changeRecord_same _ _ _ _ _ _ _ _ .solv (by decide)
@[simp] theorem changeRecord_dpc (p : Port) (tag : Nat) (op : Op) (inst : Nat) (before after : Word) (fwd : Bool) (s : State) : (changeRecord p tag op inst before after fwd s).dpc = s.dpc := changeRecord_same _ _ _ _ _ _ _ _ .dpc (by decide)
@[simp] theorem changeRecord_alloc (p : Port) (tag : Nat) (op : Op) (inst : Nat) (before after : Word) (fwd : Bool) (s : State) : (changeRecord p tag op inst before after fwd s).alloc = s.alloc := changeRecord_same _ _ _ _ _ _ _ _ .alloc (by decide)
@[simp] theorem changeRecord_loop (p : Port) (tag : Nat) (op : Op) (inst : Nat) (before after : Word) (fwd : Bool) (s : State) : (changeRecord p tag op inst before after fwd s).loop = s.loop := changeRecord_same _ _ _ _ _ _ _ _ .loop (by decide)
@[simp] theorem changeRecord_kiln (p : Port) (tag : Nat) (op : Op) (inst : Nat) (before after : Word) (fwd : Bool) (s : State) : (changeRecord p tag op inst before after fwd s).kiln = s.kiln := changeRecord_same _ _ _ _ _ _ _ _ .kiln (by decide)
@[simp] theorem changeRecord_dpx (p : Port) (tag : Nat) (op : Op) (inst : Nat) (before after : Word) (fwd : Bool) (s : State) : (changeRecord p tag op inst before after fwd s).dpx = s.dpx := changeRecord_same _ _ _ _ _ _ _ _ .dpx (by decide)
@[simp] theorem changeRecord_can (p : Port) (tag : Nat) (op : Op) (inst : Nat) (before after : Word) (fwd : Bool) (s : State) : (changeRecord p tag op inst before after fwd s).can = s.can := changeRecord_same _ _ _ _ _ _ _ _ .can (by decide)
@[simp] theorem changeRecord_uart (p : Port) (tag : Nat) (op : Op) (inst : Nat) (before after : Word) (fwd : Bool) (s : State) : (changeRecord p tag op inst before after fwd s).uart = s.uart := changeRecord_same _ _ _ _ _ _ _ _ .uart (by decide)
@[simp] theorem changeRecord_mnt (p : Port) (tag : Nat) (op : Op) (inst : Nat) (before after : Word) (fwd : Bool) (s : State) : (changeRecord p tag op inst before after fwd s).mnt = s.mnt := changeRecord_same _ _ _ _ _ _ _ _ .mnt (by decide)
@[simp] theorem changeRecord_tap (p : Port) (tag : Nat) (op : Op) (inst : Nat) (before after : Word) (fwd : Bool) (s : State) : (changeRecord p tag op inst before after fwd s).tap = s.tap := changeRecord_same _ _ _ _ _ _ _ _ .tap (by decide)
@[simp] theorem changeRecord_cfg (p : Port) (tag : Nat) (op : Op) (inst : Nat) (before after : Word) (fwd : Bool) (s : State) : (changeRecord p tag op inst before after fwd s).cfg = s.cfg := changeRecord_same _ _ _ _ _ _ _ _ .cfg (by decide)
@[simp] theorem changeRecord_bulk (p : Port) (tag : Nat) (op : Op) (inst : Nat) (before after : Word) (fwd : Bool) (s : State) : (changeRecord p tag op inst before after fwd s).bulk = s.bulk := changeRecord_same _ _ _ _ _ _ _ _ .bulk (by decide)
@[simp] theorem changeRecord_subs (p : Port) (tag : Nat) (op : Op) (inst : Nat) (before after : Word) (fwd : Bool) (s : State) : (changeRecord p tag op inst before after fwd s).subs = s.subs := changeRecord_same _ _ _ _ _ _ _ _ .subs (by decide)
@[simp] theorem changeRecord_free (p : Port) (tag : Nat) (op : Op) (inst : Nat) (before after : Word) (fwd : Bool) (s : State) : (changeRecord p tag op inst before after fwd s).free = s.free := changeRecord_same _ _ _ _ _ _ _ _ .free (by decide)
@[simp] theorem changeRecord_pending (p : Port) (tag : Nat) (op : Op) (inst : Nat) (before after : Word) (fwd : Bool) (s : State) : (changeRecord p tag op inst before after fwd s).pending = s.pending := changeRecord_same _ _ _ _ _ _ _ _ .pending (by decide)
@[simp] theorem changeRecord_sys (p : Port) (tag : Nat) (op : Op) (inst : Nat) (before after : Word) (fwd : Bool) (s : State) : (changeRecord p tag op inst before after fwd s).sys = s.sys := changeRecord_same _ _ _ _ _ _ _ _ .sys (by decide)

@[simp] theorem setConfig_hp (p : Port) (tag : Nat) (op : Op) (inst : Nat) (ws : List Word) (fwd : Bool) (s : State) : (setConfig p tag op inst ws fwd s).hp = s.hp := setConfig_same _ _ _ _ _ _ _ .hp (by decide)
@[simp] theorem setConfig_time (p : Port) (tag : Nat) (op : Op) (inst : Nat) (ws : List Word) (fwd : Bool) (s : State) : (setConfig p tag op inst ws fwd s).time = s.time := setConfig_same _ _ _ _ _ _ _ .time (by decide)
@[simp] theorem setConfig_gnss (p : Port) (tag : Nat) (op : Op) (inst : Nat) (ws : List Word) (fwd : Bool) (s : State) : (setConfig p tag op inst ws fwd s).gnss = s.gnss := setConfig_same _ _ _ _ _ _ _ .gnss (by decide)
@[simp] theorem setConfig_fir (p : Port) (tag : Nat) (op : Op) (inst : Nat) (ws : List Word) (fwd : Bool) (s : State) : (setConfig p tag op inst ws fwd s).fir = s.fir := setConfig_same _ _ _ _ _ _ _ .fir (by decide)
@[simp] theorem setConfig_fus (p : Port) (tag : Nat) (op : Op) (inst : Nat) (ws : List Word) (fwd : Bool) (s : State) : (setConfig p tag op inst ws fwd s).fus = s.fus := setConfig_same _ _ _ _ _ _ _ .fus (by decide)
@[simp] theorem setConfig_solv (p : Port) (tag : Nat) (op : Op) (inst : Nat) (ws : List Word) (fwd : Bool) (s : State) : (setConfig p tag op inst ws fwd s).solv = s.solv := setConfig_same _ _ _ _ _ _ _ .solv (by decide)
@[simp] theorem setConfig_dpc (p : Port) (tag : Nat) (op : Op) (inst : Nat) (ws : List Word) (fwd : Bool) (s : State) : (setConfig p tag op inst ws fwd s).dpc = s.dpc := setConfig_same _ _ _ _ _ _ _ .dpc (by decide)
@[simp] theorem setConfig_alloc (p : Port) (tag : Nat) (op : Op) (inst : Nat) (ws : List Word) (fwd : Bool) (s : State) : (setConfig p tag op inst ws fwd s).alloc = s.alloc := setConfig_same _ _ _ _ _ _ _ .alloc (by decide)
@[simp] theorem setConfig_loop (p : Port) (tag : Nat) (op : Op) (inst : Nat) (ws : List Word) (fwd : Bool) (s : State) : (setConfig p tag op inst ws fwd s).loop = s.loop := setConfig_same _ _ _ _ _ _ _ .loop (by decide)
@[simp] theorem setConfig_kiln (p : Port) (tag : Nat) (op : Op) (inst : Nat) (ws : List Word) (fwd : Bool) (s : State) : (setConfig p tag op inst ws fwd s).kiln = s.kiln := setConfig_same _ _ _ _ _ _ _ .kiln (by decide)
@[simp] theorem setConfig_dpx (p : Port) (tag : Nat) (op : Op) (inst : Nat) (ws : List Word) (fwd : Bool) (s : State) : (setConfig p tag op inst ws fwd s).dpx = s.dpx := setConfig_same _ _ _ _ _ _ _ .dpx (by decide)
@[simp] theorem setConfig_can (p : Port) (tag : Nat) (op : Op) (inst : Nat) (ws : List Word) (fwd : Bool) (s : State) : (setConfig p tag op inst ws fwd s).can = s.can := setConfig_same _ _ _ _ _ _ _ .can (by decide)
@[simp] theorem setConfig_uart (p : Port) (tag : Nat) (op : Op) (inst : Nat) (ws : List Word) (fwd : Bool) (s : State) : (setConfig p tag op inst ws fwd s).uart = s.uart := setConfig_same _ _ _ _ _ _ _ .uart (by decide)
@[simp] theorem setConfig_mnt (p : Port) (tag : Nat) (op : Op) (inst : Nat) (ws : List Word) (fwd : Bool) (s : State) : (setConfig p tag op inst ws fwd s).mnt = s.mnt := setConfig_same _ _ _ _ _ _ _ .mnt (by decide)
@[simp] theorem setConfig_tap (p : Port) (tag : Nat) (op : Op) (inst : Nat) (ws : List Word) (fwd : Bool) (s : State) : (setConfig p tag op inst ws fwd s).tap = s.tap := setConfig_same _ _ _ _ _ _ _ .tap (by decide)
@[simp] theorem setConfig_bulk (p : Port) (tag : Nat) (op : Op) (inst : Nat) (ws : List Word) (fwd : Bool) (s : State) : (setConfig p tag op inst ws fwd s).bulk = s.bulk := setConfig_same _ _ _ _ _ _ _ .bulk (by decide)
@[simp] theorem setConfig_subs (p : Port) (tag : Nat) (op : Op) (inst : Nat) (ws : List Word) (fwd : Bool) (s : State) : (setConfig p tag op inst ws fwd s).subs = s.subs := setConfig_same _ _ _ _ _ _ _ .subs (by decide)
@[simp] theorem setConfig_free (p : Port) (tag : Nat) (op : Op) (inst : Nat) (ws : List Word) (fwd : Bool) (s : State) : (setConfig p tag op inst ws fwd s).free = s.free := setConfig_same _ _ _ _ _ _ _ .free (by decide)
@[simp] theorem setConfig_pending (p : Port) (tag : Nat) (op : Op) (inst : Nat) (ws : List Word) (fwd : Bool) (s : State) : (setConfig p tag op inst ws fwd s).pending = s.pending := setConfig_same _ _ _ _ _ _ _ .pending (by decide)
@[simp] theorem setConfig_sys (p : Port) (tag : Nat) (op : Op) (inst : Nat) (ws : List Word) (fwd : Bool) (s : State) : (setConfig p tag op inst ws fwd s).sys = s.sys := setConfig_same _ _ _ _ _ _ _ .sys (by decide)

@[simp] theorem promote_host (t : Timing) (s : State) : (promote t s).host = s.host := promote_same _ _ .host (by decide)
@[simp] theorem promote_maint (t : Timing) (s : State) : (promote t s).maint = s.maint := promote_same _ _ .maint (by decide)
@[simp] theorem promote_hp (t : Timing) (s : State) : (promote t s).hp = s.hp := promote_same _ _ .hp (by decide)
@[simp] theorem promote_ev (t : Timing) (s : State) : (promote t s).ev = s.ev := promote_same _ _ .ev (by decide)
@[simp] theorem promote_time (t : Timing) (s : State) : (promote t s).time = s.time := promote_same _ _ .time (by decide)
@[simp] theorem promote_gnss (t : Timing) (s : State) : (promote t s).gnss = s.gnss := promote_same _ _ .gnss (by decide)
@[simp] theorem promote_fir (t : Timing) (s : State) : (promote t s).fir = s.fir := promote_same _ _ .fir (by decide)
@[simp] theorem promote_fus (t : Timing) (s : State) : (promote t s).fus = s.fus := promote_same _ _ .fus (by decide)
@[simp] theorem promote_solv (t : Timing) (s : State) : (promote t s).solv = s.solv := promote_same _ _ .solv (by decide)
@[simp] theorem promote_dpc (t : Timing) (s : State) : (promote t s).dpc = s.dpc := promote_same _ _ .dpc (by decide)
@[simp] theorem promote_alloc (t : Timing) (s : State) : (promote t s).alloc = s.alloc := promote_same _ _ .alloc (by decide)
@[simp] theorem promote_loop (t : Timing) (s : State) : (promote t s).loop = s.loop := promote_same _ _ .loop (by decide)
@[simp] theorem promote_kiln (t : Timing) (s : State) : (promote t s).kiln = s.kiln := promote_same _ _ .kiln (by decide)
@[simp] theorem promote_dpx (t : Timing) (s : State) : (promote t s).dpx = s.dpx := promote_same _ _ .dpx (by decide)
@[simp] theorem promote_can (t : Timing) (s : State) : (promote t s).can = s.can := promote_same _ _ .can (by decide)
@[simp] theorem promote_uart (t : Timing) (s : State) : (promote t s).uart = s.uart := promote_same _ _ .uart (by decide)
@[simp] theorem promote_mnt (t : Timing) (s : State) : (promote t s).mnt = s.mnt := promote_same _ _ .mnt (by decide)
@[simp] theorem promote_tap (t : Timing) (s : State) : (promote t s).tap = s.tap := promote_same _ _ .tap (by decide)
@[simp] theorem promote_log (t : Timing) (s : State) : (promote t s).log = s.log := promote_same _ _ .log (by decide)
@[simp] theorem promote_bulk (t : Timing) (s : State) : (promote t s).bulk = s.bulk := promote_same _ _ .bulk (by decide)
@[simp] theorem promote_subs (t : Timing) (s : State) : (promote t s).subs = s.subs := promote_same _ _ .subs (by decide)
@[simp] theorem promote_free (t : Timing) (s : State) : (promote t s).free = s.free := promote_same _ _ .free (by decide)
@[simp] theorem promote_pending (t : Timing) (s : State) : (promote t s).pending = s.pending := promote_same _ _ .pending (by decide)
@[simp] theorem promote_sys (t : Timing) (s : State) : (promote t s).sys = s.sys := promote_same _ _ .sys (by decide)

@[simp] theorem advance_host (n : Nat) (s : State) : (advance n s).host = s.host := advance_same _ _ .host (by decide)
@[simp] theorem advance_maint (n : Nat) (s : State) : (advance n s).maint = s.maint := advance_same _ _ .maint (by decide)
@[simp] theorem advance_hp (n : Nat) (s : State) : (advance n s).hp = s.hp := advance_same _ _ .hp (by decide)
@[simp] theorem advance_ev (n : Nat) (s : State) : (advance n s).ev = s.ev := advance_same _ _ .ev (by decide)
@[simp] theorem advance_gnss (n : Nat) (s : State) : (advance n s).gnss = s.gnss := advance_same _ _ .gnss (by decide)
@[simp] theorem advance_fir (n : Nat) (s : State) : (advance n s).fir = s.fir := advance_same _ _ .fir (by decide)
@[simp] theorem advance_fus (n : Nat) (s : State) : (advance n s).fus = s.fus := advance_same _ _ .fus (by decide)
@[simp] theorem advance_solv (n : Nat) (s : State) : (advance n s).solv = s.solv := advance_same _ _ .solv (by decide)
@[simp] theorem advance_dpc (n : Nat) (s : State) : (advance n s).dpc = s.dpc := advance_same _ _ .dpc (by decide)
@[simp] theorem advance_alloc (n : Nat) (s : State) : (advance n s).alloc = s.alloc := advance_same _ _ .alloc (by decide)
@[simp] theorem advance_loop (n : Nat) (s : State) : (advance n s).loop = s.loop := advance_same _ _ .loop (by decide)
@[simp] theorem advance_kiln (n : Nat) (s : State) : (advance n s).kiln = s.kiln := advance_same _ _ .kiln (by decide)
@[simp] theorem advance_dpx (n : Nat) (s : State) : (advance n s).dpx = s.dpx := advance_same _ _ .dpx (by decide)
@[simp] theorem advance_can (n : Nat) (s : State) : (advance n s).can = s.can := advance_same _ _ .can (by decide)
@[simp] theorem advance_uart (n : Nat) (s : State) : (advance n s).uart = s.uart := advance_same _ _ .uart (by decide)
@[simp] theorem advance_mnt (n : Nat) (s : State) : (advance n s).mnt = s.mnt := advance_same _ _ .mnt (by decide)
@[simp] theorem advance_tap (n : Nat) (s : State) : (advance n s).tap = s.tap := advance_same _ _ .tap (by decide)
@[simp] theorem advance_cfg (n : Nat) (s : State) : (advance n s).cfg = s.cfg := advance_same _ _ .cfg (by decide)
@[simp] theorem advance_log (n : Nat) (s : State) : (advance n s).log = s.log := advance_same _ _ .log (by decide)
@[simp] theorem advance_bulk (n : Nat) (s : State) : (advance n s).bulk = s.bulk := advance_same _ _ .bulk (by decide)
@[simp] theorem advance_subs (n : Nat) (s : State) : (advance n s).subs = s.subs := advance_same _ _ .subs (by decide)
@[simp] theorem advance_free (n : Nat) (s : State) : (advance n s).free = s.free := advance_same _ _ .free (by decide)
@[simp] theorem advance_pending (n : Nat) (s : State) : (advance n s).pending = s.pending := advance_same _ _ .pending (by decide)
@[simp] theorem advance_sys (n : Nat) (s : State) : (advance n s).sys = s.sys := advance_same _ _ .sys (by decide)

@[simp] theorem advanceTo_host (m : Nat) (s : State) : (advanceTo m s).host = s.host := advanceTo_same _ _ .host (by decide)
@[simp] theorem advanceTo_maint (m : Nat) (s : State) : (advanceTo m s).maint = s.maint := advanceTo_same _ _ .maint (by decide)
@[simp] theorem advanceTo_hp (m : Nat) (s : State) : (advanceTo m s).hp = s.hp := advanceTo_same _ _ .hp (by decide)
@[simp] theorem advanceTo_ev (m : Nat) (s : State) : (advanceTo m s).ev = s.ev := advanceTo_same _ _ .ev (by decide)
@[simp] theorem advanceTo_gnss (m : Nat) (s : State) : (advanceTo m s).gnss = s.gnss := advanceTo_same _ _ .gnss (by decide)
@[simp] theorem advanceTo_fir (m : Nat) (s : State) : (advanceTo m s).fir = s.fir := advanceTo_same _ _ .fir (by decide)
@[simp] theorem advanceTo_fus (m : Nat) (s : State) : (advanceTo m s).fus = s.fus := advanceTo_same _ _ .fus (by decide)
@[simp] theorem advanceTo_solv (m : Nat) (s : State) : (advanceTo m s).solv = s.solv := advanceTo_same _ _ .solv (by decide)
@[simp] theorem advanceTo_dpc (m : Nat) (s : State) : (advanceTo m s).dpc = s.dpc := advanceTo_same _ _ .dpc (by decide)
@[simp] theorem advanceTo_alloc (m : Nat) (s : State) : (advanceTo m s).alloc = s.alloc := advanceTo_same _ _ .alloc (by decide)
@[simp] theorem advanceTo_loop (m : Nat) (s : State) : (advanceTo m s).loop = s.loop := advanceTo_same _ _ .loop (by decide)
@[simp] theorem advanceTo_kiln (m : Nat) (s : State) : (advanceTo m s).kiln = s.kiln := advanceTo_same _ _ .kiln (by decide)
@[simp] theorem advanceTo_dpx (m : Nat) (s : State) : (advanceTo m s).dpx = s.dpx := advanceTo_same _ _ .dpx (by decide)
@[simp] theorem advanceTo_can (m : Nat) (s : State) : (advanceTo m s).can = s.can := advanceTo_same _ _ .can (by decide)
@[simp] theorem advanceTo_uart (m : Nat) (s : State) : (advanceTo m s).uart = s.uart := advanceTo_same _ _ .uart (by decide)
@[simp] theorem advanceTo_mnt (m : Nat) (s : State) : (advanceTo m s).mnt = s.mnt := advanceTo_same _ _ .mnt (by decide)
@[simp] theorem advanceTo_tap (m : Nat) (s : State) : (advanceTo m s).tap = s.tap := advanceTo_same _ _ .tap (by decide)
@[simp] theorem advanceTo_cfg (m : Nat) (s : State) : (advanceTo m s).cfg = s.cfg := advanceTo_same _ _ .cfg (by decide)
@[simp] theorem advanceTo_log (m : Nat) (s : State) : (advanceTo m s).log = s.log := advanceTo_same _ _ .log (by decide)
@[simp] theorem advanceTo_bulk (m : Nat) (s : State) : (advanceTo m s).bulk = s.bulk := advanceTo_same _ _ .bulk (by decide)
@[simp] theorem advanceTo_subs (m : Nat) (s : State) : (advanceTo m s).subs = s.subs := advanceTo_same _ _ .subs (by decide)
@[simp] theorem advanceTo_free (m : Nat) (s : State) : (advanceTo m s).free = s.free := advanceTo_same _ _ .free (by decide)
@[simp] theorem advanceTo_pending (m : Nat) (s : State) : (advanceTo m s).pending = s.pending := advanceTo_same _ _ .pending (by decide)
@[simp] theorem advanceTo_sys (m : Nat) (s : State) : (advanceTo m s).sys = s.sys := advanceTo_same _ _ .sys (by decide)

@[simp] theorem advanceNow_host (m : Nat) (s : State) : (advanceNow m s).host = s.host := advanceNow_same _ _ .host (by decide)
@[simp] theorem advanceNow_maint (m : Nat) (s : State) : (advanceNow m s).maint = s.maint := advanceNow_same _ _ .maint (by decide)
@[simp] theorem advanceNow_hp (m : Nat) (s : State) : (advanceNow m s).hp = s.hp := advanceNow_same _ _ .hp (by decide)
@[simp] theorem advanceNow_ev (m : Nat) (s : State) : (advanceNow m s).ev = s.ev := advanceNow_same _ _ .ev (by decide)
@[simp] theorem advanceNow_gnss (m : Nat) (s : State) : (advanceNow m s).gnss = s.gnss := advanceNow_same _ _ .gnss (by decide)
@[simp] theorem advanceNow_fir (m : Nat) (s : State) : (advanceNow m s).fir = s.fir := advanceNow_same _ _ .fir (by decide)
@[simp] theorem advanceNow_fus (m : Nat) (s : State) : (advanceNow m s).fus = s.fus := advanceNow_same _ _ .fus (by decide)
@[simp] theorem advanceNow_solv (m : Nat) (s : State) : (advanceNow m s).solv = s.solv := advanceNow_same _ _ .solv (by decide)
@[simp] theorem advanceNow_dpc (m : Nat) (s : State) : (advanceNow m s).dpc = s.dpc := advanceNow_same _ _ .dpc (by decide)
@[simp] theorem advanceNow_alloc (m : Nat) (s : State) : (advanceNow m s).alloc = s.alloc := advanceNow_same _ _ .alloc (by decide)
@[simp] theorem advanceNow_loop (m : Nat) (s : State) : (advanceNow m s).loop = s.loop := advanceNow_same _ _ .loop (by decide)
@[simp] theorem advanceNow_kiln (m : Nat) (s : State) : (advanceNow m s).kiln = s.kiln := advanceNow_same _ _ .kiln (by decide)
@[simp] theorem advanceNow_dpx (m : Nat) (s : State) : (advanceNow m s).dpx = s.dpx := advanceNow_same _ _ .dpx (by decide)
@[simp] theorem advanceNow_can (m : Nat) (s : State) : (advanceNow m s).can = s.can := advanceNow_same _ _ .can (by decide)
@[simp] theorem advanceNow_uart (m : Nat) (s : State) : (advanceNow m s).uart = s.uart := advanceNow_same _ _ .uart (by decide)
@[simp] theorem advanceNow_mnt (m : Nat) (s : State) : (advanceNow m s).mnt = s.mnt := advanceNow_same _ _ .mnt (by decide)
@[simp] theorem advanceNow_tap (m : Nat) (s : State) : (advanceNow m s).tap = s.tap := advanceNow_same _ _ .tap (by decide)
@[simp] theorem advanceNow_cfg (m : Nat) (s : State) : (advanceNow m s).cfg = s.cfg := advanceNow_same _ _ .cfg (by decide)
@[simp] theorem advanceNow_log (m : Nat) (s : State) : (advanceNow m s).log = s.log := advanceNow_same _ _ .log (by decide)
@[simp] theorem advanceNow_bulk (m : Nat) (s : State) : (advanceNow m s).bulk = s.bulk := advanceNow_same _ _ .bulk (by decide)
@[simp] theorem advanceNow_subs (m : Nat) (s : State) : (advanceNow m s).subs = s.subs := advanceNow_same _ _ .subs (by decide)
@[simp] theorem advanceNow_free (m : Nat) (s : State) : (advanceNow m s).free = s.free := advanceNow_same _ _ .free (by decide)
@[simp] theorem advanceNow_pending (m : Nat) (s : State) : (advanceNow m s).pending = s.pending := advanceNow_same _ _ .pending (by decide)
@[simp] theorem advanceNow_sys (m : Nat) (s : State) : (advanceNow m s).sys = s.sys := advanceNow_same _ _ .sys (by decide)

@[simp] theorem subscribe_hp (stream inst : Nat) (p : Port) (decim arg : Nat) (s : State) : (subscribe stream inst p decim arg s).hp = s.hp := subscribe_same _ _ _ _ _ _ .hp (by decide)
@[simp] theorem subscribe_ev (stream inst : Nat) (p : Port) (decim arg : Nat) (s : State) : (subscribe stream inst p decim arg s).ev = s.ev := subscribe_same _ _ _ _ _ _ .ev (by decide)
@[simp] theorem subscribe_time (stream inst : Nat) (p : Port) (decim arg : Nat) (s : State) : (subscribe stream inst p decim arg s).time = s.time := subscribe_same _ _ _ _ _ _ .time (by decide)
@[simp] theorem subscribe_gnss (stream inst : Nat) (p : Port) (decim arg : Nat) (s : State) : (subscribe stream inst p decim arg s).gnss = s.gnss := subscribe_same _ _ _ _ _ _ .gnss (by decide)
@[simp] theorem subscribe_fir (stream inst : Nat) (p : Port) (decim arg : Nat) (s : State) : (subscribe stream inst p decim arg s).fir = s.fir := subscribe_same _ _ _ _ _ _ .fir (by decide)
@[simp] theorem subscribe_fus (stream inst : Nat) (p : Port) (decim arg : Nat) (s : State) : (subscribe stream inst p decim arg s).fus = s.fus := subscribe_same _ _ _ _ _ _ .fus (by decide)
@[simp] theorem subscribe_solv (stream inst : Nat) (p : Port) (decim arg : Nat) (s : State) : (subscribe stream inst p decim arg s).solv = s.solv := subscribe_same _ _ _ _ _ _ .solv (by decide)
@[simp] theorem subscribe_dpc (stream inst : Nat) (p : Port) (decim arg : Nat) (s : State) : (subscribe stream inst p decim arg s).dpc = s.dpc := subscribe_same _ _ _ _ _ _ .dpc (by decide)
@[simp] theorem subscribe_alloc (stream inst : Nat) (p : Port) (decim arg : Nat) (s : State) : (subscribe stream inst p decim arg s).alloc = s.alloc := subscribe_same _ _ _ _ _ _ .alloc (by decide)
@[simp] theorem subscribe_loop (stream inst : Nat) (p : Port) (decim arg : Nat) (s : State) : (subscribe stream inst p decim arg s).loop = s.loop := subscribe_same _ _ _ _ _ _ .loop (by decide)
@[simp] theorem subscribe_kiln (stream inst : Nat) (p : Port) (decim arg : Nat) (s : State) : (subscribe stream inst p decim arg s).kiln = s.kiln := subscribe_same _ _ _ _ _ _ .kiln (by decide)
@[simp] theorem subscribe_dpx (stream inst : Nat) (p : Port) (decim arg : Nat) (s : State) : (subscribe stream inst p decim arg s).dpx = s.dpx := subscribe_same _ _ _ _ _ _ .dpx (by decide)
@[simp] theorem subscribe_can (stream inst : Nat) (p : Port) (decim arg : Nat) (s : State) : (subscribe stream inst p decim arg s).can = s.can := subscribe_same _ _ _ _ _ _ .can (by decide)
@[simp] theorem subscribe_uart (stream inst : Nat) (p : Port) (decim arg : Nat) (s : State) : (subscribe stream inst p decim arg s).uart = s.uart := subscribe_same _ _ _ _ _ _ .uart (by decide)
@[simp] theorem subscribe_mnt (stream inst : Nat) (p : Port) (decim arg : Nat) (s : State) : (subscribe stream inst p decim arg s).mnt = s.mnt := subscribe_same _ _ _ _ _ _ .mnt (by decide)
@[simp] theorem subscribe_tap (stream inst : Nat) (p : Port) (decim arg : Nat) (s : State) : (subscribe stream inst p decim arg s).tap = s.tap := subscribe_same _ _ _ _ _ _ .tap (by decide)
@[simp] theorem subscribe_cfg (stream inst : Nat) (p : Port) (decim arg : Nat) (s : State) : (subscribe stream inst p decim arg s).cfg = s.cfg := subscribe_same _ _ _ _ _ _ .cfg (by decide)
@[simp] theorem subscribe_log (stream inst : Nat) (p : Port) (decim arg : Nat) (s : State) : (subscribe stream inst p decim arg s).log = s.log := subscribe_same _ _ _ _ _ _ .log (by decide)
@[simp] theorem subscribe_bulk (stream inst : Nat) (p : Port) (decim arg : Nat) (s : State) : (subscribe stream inst p decim arg s).bulk = s.bulk := subscribe_same _ _ _ _ _ _ .bulk (by decide)
@[simp] theorem subscribe_free (stream inst : Nat) (p : Port) (decim arg : Nat) (s : State) : (subscribe stream inst p decim arg s).free = s.free := subscribe_same _ _ _ _ _ _ .free (by decide)
@[simp] theorem subscribe_pending (stream inst : Nat) (p : Port) (decim arg : Nat) (s : State) : (subscribe stream inst p decim arg s).pending = s.pending := subscribe_same _ _ _ _ _ _ .pending (by decide)
@[simp] theorem subscribe_sys (stream inst : Nat) (p : Port) (decim arg : Nat) (s : State) : (subscribe stream inst p decim arg s).sys = s.sys := subscribe_same _ _ _ _ _ _ .sys (by decide)

@[simp] theorem wakeTrigger_hp (kind : Nat) (s : State) : (wakeTrigger kind s).hp = s.hp := wakeTrigger_same _ _ .hp (by decide)
@[simp] theorem wakeTrigger_time (kind : Nat) (s : State) : (wakeTrigger kind s).time = s.time := wakeTrigger_same _ _ .time (by decide)
@[simp] theorem wakeTrigger_gnss (kind : Nat) (s : State) : (wakeTrigger kind s).gnss = s.gnss := wakeTrigger_same _ _ .gnss (by decide)
@[simp] theorem wakeTrigger_fir (kind : Nat) (s : State) : (wakeTrigger kind s).fir = s.fir := wakeTrigger_same _ _ .fir (by decide)
@[simp] theorem wakeTrigger_fus (kind : Nat) (s : State) : (wakeTrigger kind s).fus = s.fus := wakeTrigger_same _ _ .fus (by decide)
@[simp] theorem wakeTrigger_solv (kind : Nat) (s : State) : (wakeTrigger kind s).solv = s.solv := wakeTrigger_same _ _ .solv (by decide)
@[simp] theorem wakeTrigger_dpc (kind : Nat) (s : State) : (wakeTrigger kind s).dpc = s.dpc := wakeTrigger_same _ _ .dpc (by decide)
@[simp] theorem wakeTrigger_alloc (kind : Nat) (s : State) : (wakeTrigger kind s).alloc = s.alloc := wakeTrigger_same _ _ .alloc (by decide)
@[simp] theorem wakeTrigger_loop (kind : Nat) (s : State) : (wakeTrigger kind s).loop = s.loop := wakeTrigger_same _ _ .loop (by decide)
@[simp] theorem wakeTrigger_kiln (kind : Nat) (s : State) : (wakeTrigger kind s).kiln = s.kiln := wakeTrigger_same _ _ .kiln (by decide)
@[simp] theorem wakeTrigger_dpx (kind : Nat) (s : State) : (wakeTrigger kind s).dpx = s.dpx := wakeTrigger_same _ _ .dpx (by decide)
@[simp] theorem wakeTrigger_can (kind : Nat) (s : State) : (wakeTrigger kind s).can = s.can := wakeTrigger_same _ _ .can (by decide)
@[simp] theorem wakeTrigger_uart (kind : Nat) (s : State) : (wakeTrigger kind s).uart = s.uart := wakeTrigger_same _ _ .uart (by decide)
@[simp] theorem wakeTrigger_mnt (kind : Nat) (s : State) : (wakeTrigger kind s).mnt = s.mnt := wakeTrigger_same _ _ .mnt (by decide)
@[simp] theorem wakeTrigger_tap (kind : Nat) (s : State) : (wakeTrigger kind s).tap = s.tap := wakeTrigger_same _ _ .tap (by decide)
@[simp] theorem wakeTrigger_cfg (kind : Nat) (s : State) : (wakeTrigger kind s).cfg = s.cfg := wakeTrigger_same _ _ .cfg (by decide)
@[simp] theorem wakeTrigger_bulk (kind : Nat) (s : State) : (wakeTrigger kind s).bulk = s.bulk := wakeTrigger_same _ _ .bulk (by decide)
@[simp] theorem wakeTrigger_subs (kind : Nat) (s : State) : (wakeTrigger kind s).subs = s.subs := wakeTrigger_same _ _ .subs (by decide)
@[simp] theorem wakeTrigger_free (kind : Nat) (s : State) : (wakeTrigger kind s).free = s.free := wakeTrigger_same _ _ .free (by decide)
@[simp] theorem wakeTrigger_pending (kind : Nat) (s : State) : (wakeTrigger kind s).pending = s.pending := wakeTrigger_same _ _ .pending (by decide)
@[simp] theorem wakeTrigger_mode (kind : Nat) (s : State) : (wakeTrigger kind s).sys.mode = s.sys.mode := (wakeTrigger_same _ _ .mode (by decide)).1
@[simp] theorem wakeTrigger_own (kind : Nat) (s : State) : (wakeTrigger kind s).sys.own = s.sys.own := (wakeTrigger_same _ _ .mode (by decide)).2

@[simp] theorem selfDiag_hp (code : Nat) (s : State) : (selfDiag code s).hp = s.hp := selfDiag_same _ _ .hp (by decide)
@[simp] theorem selfDiag_time (code : Nat) (s : State) : (selfDiag code s).time = s.time := selfDiag_same _ _ .time (by decide)
@[simp] theorem selfDiag_gnss (code : Nat) (s : State) : (selfDiag code s).gnss = s.gnss := selfDiag_same _ _ .gnss (by decide)
@[simp] theorem selfDiag_fir (code : Nat) (s : State) : (selfDiag code s).fir = s.fir := selfDiag_same _ _ .fir (by decide)
@[simp] theorem selfDiag_fus (code : Nat) (s : State) : (selfDiag code s).fus = s.fus := selfDiag_same _ _ .fus (by decide)
@[simp] theorem selfDiag_solv (code : Nat) (s : State) : (selfDiag code s).solv = s.solv := selfDiag_same _ _ .solv (by decide)
@[simp] theorem selfDiag_dpc (code : Nat) (s : State) : (selfDiag code s).dpc = s.dpc := selfDiag_same _ _ .dpc (by decide)
@[simp] theorem selfDiag_alloc (code : Nat) (s : State) : (selfDiag code s).alloc = s.alloc := selfDiag_same _ _ .alloc (by decide)
@[simp] theorem selfDiag_loop (code : Nat) (s : State) : (selfDiag code s).loop = s.loop := selfDiag_same _ _ .loop (by decide)
@[simp] theorem selfDiag_kiln (code : Nat) (s : State) : (selfDiag code s).kiln = s.kiln := selfDiag_same _ _ .kiln (by decide)
@[simp] theorem selfDiag_can (code : Nat) (s : State) : (selfDiag code s).can = s.can := selfDiag_same _ _ .can (by decide)
@[simp] theorem selfDiag_uart (code : Nat) (s : State) : (selfDiag code s).uart = s.uart := selfDiag_same _ _ .uart (by decide)
@[simp] theorem selfDiag_mnt (code : Nat) (s : State) : (selfDiag code s).mnt = s.mnt := selfDiag_same _ _ .mnt (by decide)
@[simp] theorem selfDiag_tap (code : Nat) (s : State) : (selfDiag code s).tap = s.tap := selfDiag_same _ _ .tap (by decide)
@[simp] theorem selfDiag_cfg (code : Nat) (s : State) : (selfDiag code s).cfg = s.cfg := selfDiag_same _ _ .cfg (by decide)
@[simp] theorem selfDiag_bulk (code : Nat) (s : State) : (selfDiag code s).bulk = s.bulk := selfDiag_same _ _ .bulk (by decide)
@[simp] theorem selfDiag_subs (code : Nat) (s : State) : (selfDiag code s).subs = s.subs := selfDiag_same _ _ .subs (by decide)
@[simp] theorem selfDiag_free (code : Nat) (s : State) : (selfDiag code s).free = s.free := selfDiag_same _ _ .free (by decide)
@[simp] theorem selfDiag_pending (code : Nat) (s : State) : (selfDiag code s).pending = s.pending := selfDiag_same _ _ .pending (by decide)
@[simp] theorem selfDiag_mode (code : Nat) (s : State) : (selfDiag code s).sys.mode = s.sys.mode := (selfDiag_same _ _ .mode (by decide)).1
@[simp] theorem selfDiag_own (code : Nat) (s : State) : (selfDiag code s).sys.own = s.sys.own := (selfDiag_same _ _ .mode (by decide)).2

@[simp] theorem drawn_host (s : State) : (drawn s).host = s.host := drawn_same _ .host (by decide)
@[simp] theorem drawn_maint (s : State) : (drawn s).maint = s.maint := drawn_same _ .maint (by decide)
@[simp] theorem drawn_hp (s : State) : (drawn s).hp = s.hp := drawn_same _ .hp (by decide)
@[simp] theorem drawn_ev (s : State) : (drawn s).ev = s.ev := drawn_same _ .ev (by decide)
@[simp] theorem drawn_time (s : State) : (drawn s).time = s.time := drawn_same _ .time (by decide)
@[simp] theorem drawn_gnss (s : State) : (drawn s).gnss = s.gnss := drawn_same _ .gnss (by decide)
@[simp] theorem drawn_fir (s : State) : (drawn s).fir = s.fir := drawn_same _ .fir (by decide)
@[simp] theorem drawn_fus (s : State) : (drawn s).fus = s.fus := drawn_same _ .fus (by decide)
@[simp] theorem drawn_solv (s : State) : (drawn s).solv = s.solv := drawn_same _ .solv (by decide)
@[simp] theorem drawn_dpc (s : State) : (drawn s).dpc = s.dpc := drawn_same _ .dpc (by decide)
@[simp] theorem drawn_alloc (s : State) : (drawn s).alloc = s.alloc := drawn_same _ .alloc (by decide)
@[simp] theorem drawn_loop (s : State) : (drawn s).loop = s.loop := drawn_same _ .loop (by decide)
@[simp] theorem drawn_kiln (s : State) : (drawn s).kiln = s.kiln := drawn_same _ .kiln (by decide)
@[simp] theorem drawn_dpx (s : State) : (drawn s).dpx = s.dpx := drawn_same _ .dpx (by decide)
@[simp] theorem drawn_can (s : State) : (drawn s).can = s.can := drawn_same _ .can (by decide)
@[simp] theorem drawn_uart (s : State) : (drawn s).uart = s.uart := drawn_same _ .uart (by decide)
@[simp] theorem drawn_mnt (s : State) : (drawn s).mnt = s.mnt := drawn_same _ .mnt (by decide)
@[simp] theorem drawn_tap (s : State) : (drawn s).tap = s.tap := drawn_same _ .tap (by decide)
@[simp] theorem drawn_cfg (s : State) : (drawn s).cfg = s.cfg := drawn_same _ .cfg (by decide)
@[simp] theorem drawn_log (s : State) : (drawn s).log = s.log := drawn_same _ .log (by decide)
@[simp] theorem drawn_bulk (s : State) : (drawn s).bulk = s.bulk := drawn_same _ .bulk (by decide)
@[simp] theorem drawn_subs (s : State) : (drawn s).subs = s.subs := drawn_same _ .subs (by decide)
@[simp] theorem drawn_pending (s : State) : (drawn s).pending = s.pending := drawn_same _ .pending (by decide)
@[simp] theorem drawn_sys (s : State) : (drawn s).sys = s.sys := drawn_same _ .sys (by decide)

@[simp] theorem stream_hp (code inst : Nat) (ws : List Word) (s : State) : (stream code inst ws s).hp = s.hp := stream_same _ _ _ _ .hp (by decide)
@[simp] theorem stream_ev (code inst : Nat) (ws : List Word) (s : State) : (stream code inst ws s).ev = s.ev := stream_same _ _ _ _ .ev (by decide)
@[simp] theorem stream_time (code inst : Nat) (ws : List Word) (s : State) : (stream code inst ws s).time = s.time := stream_same _ _ _ _ .time (by decide)
@[simp] theorem stream_gnss (code inst : Nat) (ws : List Word) (s : State) : (stream code inst ws s).gnss = s.gnss := stream_same _ _ _ _ .gnss (by decide)
@[simp] theorem stream_fir (code inst : Nat) (ws : List Word) (s : State) : (stream code inst ws s).fir = s.fir := stream_same _ _ _ _ .fir (by decide)
@[simp] theorem stream_fus (code inst : Nat) (ws : List Word) (s : State) : (stream code inst ws s).fus = s.fus := stream_same _ _ _ _ .fus (by decide)
@[simp] theorem stream_solv (code inst : Nat) (ws : List Word) (s : State) : (stream code inst ws s).solv = s.solv := stream_same _ _ _ _ .solv (by decide)
@[simp] theorem stream_dpc (code inst : Nat) (ws : List Word) (s : State) : (stream code inst ws s).dpc = s.dpc := stream_same _ _ _ _ .dpc (by decide)
@[simp] theorem stream_alloc (code inst : Nat) (ws : List Word) (s : State) : (stream code inst ws s).alloc = s.alloc := stream_same _ _ _ _ .alloc (by decide)
@[simp] theorem stream_loop (code inst : Nat) (ws : List Word) (s : State) : (stream code inst ws s).loop = s.loop := stream_same _ _ _ _ .loop (by decide)
@[simp] theorem stream_kiln (code inst : Nat) (ws : List Word) (s : State) : (stream code inst ws s).kiln = s.kiln := stream_same _ _ _ _ .kiln (by decide)
@[simp] theorem stream_dpx (code inst : Nat) (ws : List Word) (s : State) : (stream code inst ws s).dpx = s.dpx := stream_same _ _ _ _ .dpx (by decide)
@[simp] theorem stream_can (code inst : Nat) (ws : List Word) (s : State) : (stream code inst ws s).can = s.can := stream_same _ _ _ _ .can (by decide)
@[simp] theorem stream_uart (code inst : Nat) (ws : List Word) (s : State) : (stream code inst ws s).uart = s.uart := stream_same _ _ _ _ .uart (by decide)
@[simp] theorem stream_mnt (code inst : Nat) (ws : List Word) (s : State) : (stream code inst ws s).mnt = s.mnt := stream_same _ _ _ _ .mnt (by decide)
@[simp] theorem stream_tap (code inst : Nat) (ws : List Word) (s : State) : (stream code inst ws s).tap = s.tap := stream_same _ _ _ _ .tap (by decide)
@[simp] theorem stream_cfg (code inst : Nat) (ws : List Word) (s : State) : (stream code inst ws s).cfg = s.cfg := stream_same _ _ _ _ .cfg (by decide)
@[simp] theorem stream_log (code inst : Nat) (ws : List Word) (s : State) : (stream code inst ws s).log = s.log := stream_same _ _ _ _ .log (by decide)
@[simp] theorem stream_bulk (code inst : Nat) (ws : List Word) (s : State) : (stream code inst ws s).bulk = s.bulk := stream_same _ _ _ _ .bulk (by decide)
@[simp] theorem stream_subs (code inst : Nat) (ws : List Word) (s : State) : (stream code inst ws s).subs = s.subs := stream_same _ _ _ _ .subs (by decide)
@[simp] theorem stream_free (code inst : Nat) (ws : List Word) (s : State) : (stream code inst ws s).free = s.free := stream_same _ _ _ _ .free (by decide)
@[simp] theorem stream_pending (code inst : Nat) (ws : List Word) (s : State) : (stream code inst ws s).pending = s.pending := stream_same _ _ _ _ .pending (by decide)
@[simp] theorem stream_sys (code inst : Nat) (ws : List Word) (s : State) : (stream code inst ws s).sys = s.sys := stream_same _ _ _ _ .sys (by decide)

@[simp] theorem notices_hp (n : Fin 128) (detail mt : Nat) (s : State) : (notices n detail mt s).hp = s.hp := notices_same _ _ _ _ .hp (by decide)
@[simp] theorem notices_ev (n : Fin 128) (detail mt : Nat) (s : State) : (notices n detail mt s).ev = s.ev := notices_same _ _ _ _ .ev (by decide)
@[simp] theorem notices_time (n : Fin 128) (detail mt : Nat) (s : State) : (notices n detail mt s).time = s.time := notices_same _ _ _ _ .time (by decide)
@[simp] theorem notices_gnss (n : Fin 128) (detail mt : Nat) (s : State) : (notices n detail mt s).gnss = s.gnss := notices_same _ _ _ _ .gnss (by decide)
@[simp] theorem notices_fir (n : Fin 128) (detail mt : Nat) (s : State) : (notices n detail mt s).fir = s.fir := notices_same _ _ _ _ .fir (by decide)
@[simp] theorem notices_fus (n : Fin 128) (detail mt : Nat) (s : State) : (notices n detail mt s).fus = s.fus := notices_same _ _ _ _ .fus (by decide)
@[simp] theorem notices_solv (n : Fin 128) (detail mt : Nat) (s : State) : (notices n detail mt s).solv = s.solv := notices_same _ _ _ _ .solv (by decide)
@[simp] theorem notices_dpc (n : Fin 128) (detail mt : Nat) (s : State) : (notices n detail mt s).dpc = s.dpc := notices_same _ _ _ _ .dpc (by decide)
@[simp] theorem notices_alloc (n : Fin 128) (detail mt : Nat) (s : State) : (notices n detail mt s).alloc = s.alloc := notices_same _ _ _ _ .alloc (by decide)
@[simp] theorem notices_loop (n : Fin 128) (detail mt : Nat) (s : State) : (notices n detail mt s).loop = s.loop := notices_same _ _ _ _ .loop (by decide)
@[simp] theorem notices_kiln (n : Fin 128) (detail mt : Nat) (s : State) : (notices n detail mt s).kiln = s.kiln := notices_same _ _ _ _ .kiln (by decide)
@[simp] theorem notices_dpx (n : Fin 128) (detail mt : Nat) (s : State) : (notices n detail mt s).dpx = s.dpx := notices_same _ _ _ _ .dpx (by decide)
@[simp] theorem notices_can (n : Fin 128) (detail mt : Nat) (s : State) : (notices n detail mt s).can = s.can := notices_same _ _ _ _ .can (by decide)
@[simp] theorem notices_uart (n : Fin 128) (detail mt : Nat) (s : State) : (notices n detail mt s).uart = s.uart := notices_same _ _ _ _ .uart (by decide)
@[simp] theorem notices_mnt (n : Fin 128) (detail mt : Nat) (s : State) : (notices n detail mt s).mnt = s.mnt := notices_same _ _ _ _ .mnt (by decide)
@[simp] theorem notices_tap (n : Fin 128) (detail mt : Nat) (s : State) : (notices n detail mt s).tap = s.tap := notices_same _ _ _ _ .tap (by decide)
@[simp] theorem notices_cfg (n : Fin 128) (detail mt : Nat) (s : State) : (notices n detail mt s).cfg = s.cfg := notices_same _ _ _ _ .cfg (by decide)
@[simp] theorem notices_log (n : Fin 128) (detail mt : Nat) (s : State) : (notices n detail mt s).log = s.log := notices_same _ _ _ _ .log (by decide)
@[simp] theorem notices_bulk (n : Fin 128) (detail mt : Nat) (s : State) : (notices n detail mt s).bulk = s.bulk := notices_same _ _ _ _ .bulk (by decide)
@[simp] theorem notices_subs (n : Fin 128) (detail mt : Nat) (s : State) : (notices n detail mt s).subs = s.subs := notices_same _ _ _ _ .subs (by decide)
@[simp] theorem notices_free (n : Fin 128) (detail mt : Nat) (s : State) : (notices n detail mt s).free = s.free := notices_same _ _ _ _ .free (by decide)
@[simp] theorem notices_pending (n : Fin 128) (detail mt : Nat) (s : State) : (notices n detail mt s).pending = s.pending := notices_same _ _ _ _ .pending (by decide)
@[simp] theorem notices_sys (n : Fin 128) (detail mt : Nat) (s : State) : (notices n detail mt s).sys = s.sys := notices_same _ _ _ _ .sys (by decide)

@[simp] theorem occur_hp (n : Fin 128) (detail mt : Nat) (s : State) : (occur n detail mt s).hp = s.hp := occur_same _ _ _ _ .hp (by decide)
@[simp] theorem occur_time (n : Fin 128) (detail mt : Nat) (s : State) : (occur n detail mt s).time = s.time := occur_same _ _ _ _ .time (by decide)
@[simp] theorem occur_gnss (n : Fin 128) (detail mt : Nat) (s : State) : (occur n detail mt s).gnss = s.gnss := occur_same _ _ _ _ .gnss (by decide)
@[simp] theorem occur_fir (n : Fin 128) (detail mt : Nat) (s : State) : (occur n detail mt s).fir = s.fir := occur_same _ _ _ _ .fir (by decide)
@[simp] theorem occur_fus (n : Fin 128) (detail mt : Nat) (s : State) : (occur n detail mt s).fus = s.fus := occur_same _ _ _ _ .fus (by decide)
@[simp] theorem occur_solv (n : Fin 128) (detail mt : Nat) (s : State) : (occur n detail mt s).solv = s.solv := occur_same _ _ _ _ .solv (by decide)
@[simp] theorem occur_dpc (n : Fin 128) (detail mt : Nat) (s : State) : (occur n detail mt s).dpc = s.dpc := occur_same _ _ _ _ .dpc (by decide)
@[simp] theorem occur_alloc (n : Fin 128) (detail mt : Nat) (s : State) : (occur n detail mt s).alloc = s.alloc := occur_same _ _ _ _ .alloc (by decide)
@[simp] theorem occur_loop (n : Fin 128) (detail mt : Nat) (s : State) : (occur n detail mt s).loop = s.loop := occur_same _ _ _ _ .loop (by decide)
@[simp] theorem occur_kiln (n : Fin 128) (detail mt : Nat) (s : State) : (occur n detail mt s).kiln = s.kiln := occur_same _ _ _ _ .kiln (by decide)
@[simp] theorem occur_dpx (n : Fin 128) (detail mt : Nat) (s : State) : (occur n detail mt s).dpx = s.dpx := occur_same _ _ _ _ .dpx (by decide)
@[simp] theorem occur_can (n : Fin 128) (detail mt : Nat) (s : State) : (occur n detail mt s).can = s.can := occur_same _ _ _ _ .can (by decide)
@[simp] theorem occur_uart (n : Fin 128) (detail mt : Nat) (s : State) : (occur n detail mt s).uart = s.uart := occur_same _ _ _ _ .uart (by decide)
@[simp] theorem occur_mnt (n : Fin 128) (detail mt : Nat) (s : State) : (occur n detail mt s).mnt = s.mnt := occur_same _ _ _ _ .mnt (by decide)
@[simp] theorem occur_tap (n : Fin 128) (detail mt : Nat) (s : State) : (occur n detail mt s).tap = s.tap := occur_same _ _ _ _ .tap (by decide)
@[simp] theorem occur_cfg (n : Fin 128) (detail mt : Nat) (s : State) : (occur n detail mt s).cfg = s.cfg := occur_same _ _ _ _ .cfg (by decide)
@[simp] theorem occur_bulk (n : Fin 128) (detail mt : Nat) (s : State) : (occur n detail mt s).bulk = s.bulk := occur_same _ _ _ _ .bulk (by decide)
@[simp] theorem occur_subs (n : Fin 128) (detail mt : Nat) (s : State) : (occur n detail mt s).subs = s.subs := occur_same _ _ _ _ .subs (by decide)
@[simp] theorem occur_free (n : Fin 128) (detail mt : Nat) (s : State) : (occur n detail mt s).free = s.free := occur_same _ _ _ _ .free (by decide)
@[simp] theorem occur_pending (n : Fin 128) (detail mt : Nat) (s : State) : (occur n detail mt s).pending = s.pending := occur_same _ _ _ _ .pending (by decide)
@[simp] theorem occur_sys (n : Fin 128) (detail mt : Nat) (s : State) : (occur n detail mt s).sys = s.sys := occur_same _ _ _ _ .sys (by decide)

end Sys2Proof.Machine
end

