-- ==== Sys2Proof/Laws/Replies.lean ====
section
/-! SUPPORT. What replies and events do: the packet that is interpreted, the tag that is answered, the occurrence that is counted. -/

namespace Sys2Proof.Machine

@[simp] theorem onPort_port (p : Port) (f) (s : State) : (s.onPort p f).port p = f (s.port p) := by cases p <;> rfl

@[simp] theorem onEv_port (f) (q : Port) (s : State) : (s.onEv f).port q = s.port q := by cases q <;> rfl
@[simp] theorem onSys_port (f) (q : Port) (s : State) : (s.onSys f).port q = s.port q := by cases q <;> rfl
@[simp] theorem onCfg_port (f) (q : Port) (s : State) : (s.onCfg f).port q = s.port q := by cases q <;> rfl
@[simp] theorem onLog_port (f) (q : Port) (s : State) : (s.onLog f).port q = s.port q := by cases q <;> rfl
@[simp] theorem onDpx_port (f) (q : Port) (s : State) : (s.onDpx f).port q = s.port q := by cases q <;> rfl
@[simp] theorem onHp_port (f) (q : Port) (s : State) : (s.onHp f).port q = s.port q := by cases q <;> rfl
@[simp] theorem onTime_port (f) (q : Port) (s : State) : (s.onTime f).port q = s.port q := by cases q <;> rfl
@[simp] theorem onGnss_port (f) (q : Port) (s : State) : (s.onGnss f).port q = s.port q := by cases q <;> rfl
@[simp] theorem onFir_port (f) (q : Port) (s : State) : (s.onFir f).port q = s.port q := by cases q <;> rfl
@[simp] theorem onFus_port (f) (q : Port) (s : State) : (s.onFus f).port q = s.port q := by cases q <;> rfl
@[simp] theorem onSolv_port (f) (q : Port) (s : State) : (s.onSolv f).port q = s.port q := by cases q <;> rfl
@[simp] theorem onDpc_port (f) (q : Port) (s : State) : (s.onDpc f).port q = s.port q := by cases q <;> rfl
@[simp] theorem onAlloc_port (f) (q : Port) (s : State) : (s.onAlloc f).port q = s.port q := by cases q <;> rfl
@[simp] theorem onLoop_port (f) (q : Port) (s : State) : (s.onLoop f).port q = s.port q := by cases q <;> rfl
@[simp] theorem onKiln_port (f) (q : Port) (s : State) : (s.onKiln f).port q = s.port q := by cases q <;> rfl
@[simp] theorem onCan_port (f) (q : Port) (s : State) : (s.onCan f).port q = s.port q := by cases q <;> rfl
@[simp] theorem onUart_port (f) (q : Port) (s : State) : (s.onUart f).port q = s.port q := by cases q <;> rfl
@[simp] theorem onMnt_port (f) (q : Port) (s : State) : (s.onMnt f).port q = s.port q := by cases q <;> rfl
@[simp] theorem onTap_port (f) (q : Port) (s : State) : (s.onTap f).port q = s.port q := by cases q <;> rfl
@[simp] theorem onBulk_port (f) (q : Port) (s : State) : (s.onBulk f).port q = s.port q := by cases q <;> rfl
@[simp] theorem onSubs_port (f) (q : Port) (s : State) : (s.onSubs f).port q = s.port q := by cases q <;> rfl
@[simp] theorem onFree_port (f) (q : Port) (s : State) : (s.onFree f).port q = s.port q := by cases q <;> rfl

/-- A heard packet whose words pass the row's further checks is interpreted by its row's body, on the state in which no packet waits. -/
theorem runOpV_heard {p : Port} {c : Cmd} {s : State} (h : Heard p c s) (early : Cmd → State → Option Nat) (body : Cmd → State → State)
    (he : early c (s.onPort p fun q => { q with accepted := none }) = none) :
    runOpV c.op p early body s = body c (s.onPort p fun q => { q with accepted := none }) := by
  obtain ⟨h1, h2, h3, -⟩ := h
  simp [runOpV, h1, h2, h3, he, least]

/-- One that fails them answers BAD_VALUE with the word. -/
theorem runOpV_bad {p : Port} {c : Cmd} {s : State} (h : Heard p c s) (early : Cmd → State → Option Nat) (body : Cmd → State → State) {i : Nat}
    (he : early c (s.onPort p fun q => { q with accepted := none }) = some i) :
    runOpV c.op p early body s = badValue p c i (s.onPort p fun q => { q with accepted := none }) := by
  obtain ⟨h1, h2, h3, -⟩ := h
  simp [runOpV, h1, h2, h3, he, least, Option.filter]

/-- A heard packet is interpreted by its row's body, on the state in which no packet waits. -/
theorem runOp_heard {p : Port} {c : Cmd} {s : State} (h : Heard p c s) (body : Cmd → State → State) :
    runOp c.op p body s = body c (s.onPort p fun q => { q with accepted := none }) := runOpV_heard h _ body rfl

/-- A heard packet of a row is interpreted by the row's body. -/
theorem runOp_op {p : Port} {c : Cmd} {s : State} {op : Op} (h : Heard p c s) (ho : c.op = op) (body : Cmd → State → State) :
    runOp op p body s = body c (s.onPort p fun q => { q with accepted := none }) := ho ▸ runOp_heard h body

/-- A tag answers to the command: it is outstanding and its final reply is still to come. -/
def Unanswered (p : Port) (c : Cmd) (s : State) : Prop := ∃ o, findTag (s.port p) c.tag = some o ∧ o.done = false ∧ o.op = c.op

theorem Heard.unanswered {p : Port} {c : Cmd} {s : State} (h : Heard p c s) : Unanswered p c s := h.2.2.2

theorem Unanswered.of_outstanding {p : Port} {c : Cmd} {s t : State} (h : Unanswered p c s)
    (e : (t.port p).outstanding = (s.port p).outstanding) : Unanswered p c t := by
  obtain ⟨o, h1, h2⟩ := h
  exact ⟨o, by simpa [findTag, e] using h1, h2⟩

theorem Heard.taken {p : Port} {c : Cmd} {s : State} (h : Heard p c s) :
    Unanswered p c (s.onPort p fun q => { q with accepted := none }) := h.unanswered.of_outstanding (by simp)

/-- The final reply of an unanswered command stands last in the reply store. -/
theorem finish_store {p : Port} {c : Cmd} {s : State} (h : Unanswered p c s) (cls st detail : Nat) (ws : List Word) :
    ((finish p c.tag cls st detail ws s).port p).store = (s.port p).store ++ [finalPkt c cls st detail ws] := by
  obtain ⟨o, h1, h2, h3⟩ := h
  simp [finish, h1, h2, h3, place, finalPkt, onTag]

theorem finish_replied {p : Port} {c : Cmd} {s : State} (h : Unanswered p c s) (cls st detail : Nat) (ws : List Word) :
    Replied p c cls st detail ws (finish p c.tag cls st detail ws s) := ⟨_, finish_store h cls st detail ws⟩

theorem SameBut.reply {s u : State} (h : SameBut [.host, .maint, .sys] s u) (p : Port) (tag cls st detail : Nat) (ws : List Word) :
    SameBut [.host, .maint, .sys] s (finish p tag cls st detail ws u) := h.step (finish_same _ _ _ _ _ _ _) (by decide)

theorem finish_other {p q : Port} (hq : q ≠ p) (tag cls st detail : Nat) (ws : List Word) (s : State) : (finish p tag cls st detail ws s).port q = s.port q := by
  unfold finish
  split
  · rfl
  · split
    · rfl
    · cases p <;> cases q <;> first | exact absurd rfl hq | rfl

/-- A final reply to a heard command, and nothing else. -/
theorem finish_answersOnly {p : Port} {c : Cmd} {s : State} (h : Heard p c s) (cls st detail : Nat) (ws : List Word) :
    AnswersOnly p c cls st detail ws s (finish p c.tag cls st detail ws (s.onPort p fun q => { q with accepted := none })) := by
  refine ⟨?_, ?_, ?_, ?_⟩
  · rw [finish_store h.taken]; simp
  · intro q hq; rw [finish_other hq]; cases p <;> cases q <;> first | exact absurd rfl hq | rfl
  · obtain ⟨o, h1, h2, h3⟩ := h.taken
    unfold finish; rw [h1]; simp only [h2]; simp
  · exact (SameBut.onPort p _ (SameBut.refl _ s) (by decide)).reply _ _ _ _ _ _

theorem ok_answersOnly {p : Port} {c : Cmd} {s : State} (h : Heard p c s) (detail : Nat) (ws : List Word) :
    AnswersOnly p c 0 0 detail ws s (ok p c detail ws (s.onPort p fun q => { q with accepted := none })) := finish_answersOnly h 0 0 detail ws

theorem reject_answersOnly {p : Port} {c : Cmd} {s : State} (h : Heard p c s) (st detail : Nat) :
    AnswersOnly p c 3 st detail [] s (reject p c st detail (s.onPort p fun q => { q with accepted := none })) := finish_answersOnly h 3 st detail []

theorem ok_replied {p : Port} {c : Cmd} {s : State} (h : Unanswered p c s) (detail : Nat) (ws : List Word) :
    Replied p c 0 0 detail ws (ok p c detail ws s) := finish_replied h 0 0 detail ws

theorem reject_replied {p : Port} {c : Cmd} {s : State} (h : Unanswered p c s) (st detail : Nat) :
    Replied p c 3 st detail [] (reject p c st detail s) := finish_replied h 3 st detail []

theorem badValue_replied {p : Port} {c : Cmd} {s : State} (h : Unanswered p c s) (i : Nat) :
    Replied p c 3 0xF016 i [] (badValue p c i s) := finish_replied h 3 0xF016 i []

theorem finish_answered {p : Port} {tag : Nat} {op : Op} {s : State} (h : Waits p tag op s) (cls st detail : Nat) (ws : List Word) :
    Answered p tag op cls st detail ws (finish p tag cls st detail ws s) := by
  have := finish_store (p := p) (c := { op := op, tag := tag, words := [], expert := false, ecc := [] }) (s := s) h cls st detail ws
  simp [Answered, this, finalPkt]

theorem Waits.of_outstanding {p : Port} {tag : Nat} {op : Op} {s t : State} (h : Waits p tag op s)
    (e : (t.port p).outstanding = (s.port p).outstanding) : Waits p tag op t := by
  obtain ⟨o, h1, h2⟩ := h
  exact ⟨o, by simpa [findTag, e] using h1, h2⟩

theorem findTag_onTag {q : PortState} {tag : Nat} {o : Outst} {f : Outst → Outst} (h : findTag q tag = some o) (hf : ∀ x, (f x).tag = x.tag) :
    findTag (onTag q tag f) tag = some (f o) := by
  unfold findTag at *
  simp only [onTag]
  generalize q.outstanding = l at *
  induction l with
  | nil => simp at h
  | cons x l ih =>
    by_cases hx : x.tag = tag
    · simp [hx] at h ⊢; subst h; simp [hf, hx]
    · simp [hx] at h ⊢; simpa [hx] using ih h

/-- The class 1 reply of an unanswered command; the command stays outstanding. -/
theorem pending_accepted {p : Port} {c : Cmd} {s : State} (h : Unanswered p c s) (ms : Nat) : Accepted p c ms s (pending p c ms s) := by
  obtain ⟨o, h1, h2, h3⟩ := h
  refine ⟨by simp [pending, place, onTag], { o with resv := o.resv - 2 }, ?_, h2⟩
  have := findTag_onTag (f := fun o => { o with resv := o.resv - 2 }) h1 (fun _ => rfl)
  simpa [pending, place, findTag] using this

theorem pending_unanswered {p : Port} {c : Cmd} {s : State} (h : Unanswered p c s) (ms : Nat) : Unanswered p c (pending p c ms s) := by
  obtain ⟨o, h1, h2, h3⟩ := h
  refine ⟨{ o with resv := o.resv - 2 }, ?_, h2, h3⟩
  have := findTag_onTag (f := fun o => { o with resv := o.resv - 2 }) h1 (fun _ => rfl)
  simpa [pending, place, findTag] using this

theorem setUnit_unanswered {p : Port} {c : Cmd} {s : State} (h : Unanswered p c s) (u : Nat) : Unanswered p c (setUnit p c.tag u s) := by
  obtain ⟨o, h1, h2, h3⟩ := h
  refine ⟨{ o with unit := u }, ?_, h2, h3⟩
  have := findTag_onTag (f := fun o => { o with unit := u }) h1 (fun _ => rfl)
  simpa [setUnit, findTag] using this

theorem commit_unanswered {p : Port} {c : Cmd} {s : State} (h : Unanswered p c s) : Unanswered p c (commit p c.tag s) := by
  obtain ⟨o, h1, h2, h3⟩ := h
  refine ⟨{ o with committed := true }, ?_, h2, h3⟩
  have := findTag_onTag (f := fun o => { o with committed := true }) h1 (fun _ => rfl)
  simpa [commit, findTag] using this

/-! Events and records change the reply store, the unsolicited number and the lost packets of a port, and nothing else of it. -/

/-- A port without its reply store, unsolicited number and lost packets. -/
def kept (q : PortState) : PortState := { q with store := [], unsolSeq := 0, lost := 0 }

theorem kept_outstanding {q r : PortState} (h : kept q = kept r) : q.outstanding = r.outstanding := (congrArg PortState.outstanding h :)
theorem kept_cmdq {q r : PortState} (h : kept q = kept r) : q.cmdq = r.cmdq := (congrArg PortState.cmdq h :)
theorem kept_rspq {q r : PortState} (h : kept q = kept r) : q.rspq = r.rspq := (congrArg PortState.rspq h :)
theorem kept_held {q r : PortState} (h : kept q = kept r) : q.held = r.held := (congrArg PortState.held h :)
theorem kept_accepted {q r : PortState} (h : kept q = kept r) : q.accepted = r.accepted := (congrArg PortState.accepted h :)
theorem kept_wrLeft {q r : PortState} (h : kept q = kept r) : q.wrLeft = r.wrLeft := (congrArg PortState.wrLeft h :)
theorem kept_rspLeft {q r : PortState} (h : kept q = kept r) : q.rspLeft = r.rspLeft := (congrArg PortState.rspLeft h :)

@[simp] theorem unsol_kept (p q : Port) (code : Nat) (ws : List Word) (s : State) :
    kept ((unsol p code ws s).port q) = kept (s.port q) := by
  cases p <;> cases q <;> simp only [unsol, State.onPort, State.port] <;> simp <;> split <;> rfl

@[simp] theorem newRec_host (code source sev : Nat) (fwd : Bool) (b : List Byte) (s : State) : (newRec code source sev fwd b s).1.host = s.host :=
  newRec_same code source sev fwd b s .host (by decide)

@[simp] theorem newRec_maint (code source sev : Nat) (fwd : Bool) (b : List Byte) (s : State) : (newRec code source sev fwd b s).1.maint = s.maint :=
  newRec_same code source sev fwd b s .maint (by decide)

@[simp] theorem newRec_port (q : Port) (code source sev : Nat) (fwd : Bool) (b : List Byte) (s : State) :
    (newRec code source sev fwd b s).1.port q = s.port q := by cases q <;> simp [State.port]

@[simp] theorem newRec_ev (code source sev : Nat) (fwd : Bool) (b : List Byte) (s : State) : (newRec code source sev fwd b s).1.ev = s.ev :=
  newRec_same code source sev fwd b s .ev (by decide)

@[simp] theorem newRec_hp (code source sev : Nat) (fwd : Bool) (b : List Byte) (s : State) : (newRec code source sev fwd b s).1.hp = s.hp :=
  newRec_same code source sev fwd b s .hp (by decide)

@[simp] theorem notices_kept (n : Fin 128) (d mt : Nat) (q : Port) (s : State) :
    kept ((notices n d mt s).port q) = kept (s.port q) := by
  simp only [notices]; split <;> split <;> simp

@[simp] theorem occur_kept (n : Fin 128) (d mt : Nat) (q : Port) (s : State) :
    kept ((occur n d mt s).port q) = kept (s.port q) := by
  unfold occur
  extract_lets src s1 s2
  have h2 : kept (s2.port q) = kept (s.port q) := by
    simp only [s2]; split <;> simp [s1]
  clear_value s2
  split <;> (try split) <;> simp [h2]

@[simp] theorem overflow_kept (a b : State) (q : Port) : kept ((overflow a b).port q) = kept (b.port q) := by
  simp only [overflow]; split <;> simp

@[simp] theorem raiseAt_kept (n : Fin 128) (d mt : Nat) (q : Port) (s : State) :
    kept ((raiseAt n d mt s).port q) = kept (s.port q) := by
  simp only [raiseAt]; split <;> simp

@[simp] theorem raise_kept (n : Fin 128) (d : Nat) (q : Port) (s : State) :
    kept ((raise n d s).port q) = kept (s.port q) := by simp [raise]

@[simp] theorem record_kept (code source sev : Nat) (b : List Byte) (q : Port) (s : State) :
    kept ((record code source sev b s).port q) = kept (s.port q) := by simp [record]

@[simp] theorem changeRecord_kept (p : Port) (tag : Nat) (op : Op) (inst : Nat) (x y : Word) (fwd : Bool) (q : Port) (s : State) :
    kept ((changeRecord p tag op inst x y fwd s).port q) = kept (s.port q) := by simp [changeRecord]

@[simp] theorem promote_port (t : Timing) (q : Port) (s : State) : (promote t s).port q = s.port q := by simp [promote]

@[simp] theorem setConfig_kept (p : Port) (tag : Nat) (op : Op) (inst : Nat) (ws : List Word) (fwd : Bool) (q : Port) (s : State) :
    kept ((setConfig p tag op inst ws fwd s).port q) = kept (s.port q) := by
  simp only [setConfig]; split <;> simp

@[simp] theorem forward_port (p : Port) (c : Cmd) (q : Port) (s : State) : (forward p c s).port q = s.port q := by
  simp only [forward]; split <;> simp

@[simp] theorem advance_port (n : Nat) (q : Port) (s : State) : (advance n s).port q = s.port q := by simp [advance]
@[simp] theorem advanceTo_port (n : Nat) (q : Port) (s : State) : (advanceTo n s).port q = s.port q := by simp [advanceTo]
@[simp] theorem advanceNow_port (n : Nat) (q : Port) (s : State) : (advanceNow n s).port q = s.port q := by simp [advanceNow]

@[simp] theorem startExits_port (who : Fin 12 → Bool) (q : Port) (s : State) : ((startExits who s).port q) = s.port q := by
  simp [startExits]

@[simp] theorem wakeTrigger_kept (k : Nat) (q : Port) (s : State) : kept ((wakeTrigger k s).port q) = kept (s.port q) := by
  simp only [wakeTrigger]; split <;> simp

@[simp] theorem raise_port_outstanding (n : Fin 128) (d : Nat) (q : Port) (s : State) : ((raise n d s).port q).outstanding = (s.port q).outstanding := kept_outstanding (raise_kept n d q s)
@[simp] theorem raise_host_outstanding (n : Fin 128) (d : Nat) (s : State) : (raise n d s).host.outstanding = s.host.outstanding := kept_outstanding (raise_kept n d .host s)
@[simp] theorem raise_maint_outstanding (n : Fin 128) (d : Nat) (s : State) : (raise n d s).maint.outstanding = s.maint.outstanding := kept_outstanding (raise_kept n d .maint s)
@[simp] theorem raise_port_cmdq (n : Fin 128) (d : Nat) (q : Port) (s : State) : ((raise n d s).port q).cmdq = (s.port q).cmdq := kept_cmdq (raise_kept n d q s)
@[simp] theorem raise_host_cmdq (n : Fin 128) (d : Nat) (s : State) : (raise n d s).host.cmdq = s.host.cmdq := kept_cmdq (raise_kept n d .host s)
@[simp] theorem raise_maint_cmdq (n : Fin 128) (d : Nat) (s : State) : (raise n d s).maint.cmdq = s.maint.cmdq := kept_cmdq (raise_kept n d .maint s)
@[simp] theorem raise_port_rspq (n : Fin 128) (d : Nat) (q : Port) (s : State) : ((raise n d s).port q).rspq = (s.port q).rspq := kept_rspq (raise_kept n d q s)
@[simp] theorem raise_host_rspq (n : Fin 128) (d : Nat) (s : State) : (raise n d s).host.rspq = s.host.rspq := kept_rspq (raise_kept n d .host s)
@[simp] theorem raise_maint_rspq (n : Fin 128) (d : Nat) (s : State) : (raise n d s).maint.rspq = s.maint.rspq := kept_rspq (raise_kept n d .maint s)
@[simp] theorem raise_port_held (n : Fin 128) (d : Nat) (q : Port) (s : State) : ((raise n d s).port q).held = (s.port q).held := kept_held (raise_kept n d q s)
@[simp] theorem raise_host_held (n : Fin 128) (d : Nat) (s : State) : (raise n d s).host.held = s.host.held := kept_held (raise_kept n d .host s)
@[simp] theorem raise_maint_held (n : Fin 128) (d : Nat) (s : State) : (raise n d s).maint.held = s.maint.held := kept_held (raise_kept n d .maint s)
@[simp] theorem raise_port_accepted (n : Fin 128) (d : Nat) (q : Port) (s : State) : ((raise n d s).port q).accepted = (s.port q).accepted := kept_accepted (raise_kept n d q s)
@[simp] theorem raise_host_accepted (n : Fin 128) (d : Nat) (s : State) : (raise n d s).host.accepted = s.host.accepted := kept_accepted (raise_kept n d .host s)
@[simp] theorem raise_maint_accepted (n : Fin 128) (d : Nat) (s : State) : (raise n d s).maint.accepted = s.maint.accepted := kept_accepted (raise_kept n d .maint s)
@[simp] theorem raise_port_wrLeft (n : Fin 128) (d : Nat) (q : Port) (s : State) : ((raise n d s).port q).wrLeft = (s.port q).wrLeft := kept_wrLeft (raise_kept n d q s)
@[simp] theorem raise_host_wrLeft (n : Fin 128) (d : Nat) (s : State) : (raise n d s).host.wrLeft = s.host.wrLeft := kept_wrLeft (raise_kept n d .host s)
@[simp] theorem raise_maint_wrLeft (n : Fin 128) (d : Nat) (s : State) : (raise n d s).maint.wrLeft = s.maint.wrLeft := kept_wrLeft (raise_kept n d .maint s)
@[simp] theorem raise_port_rspLeft (n : Fin 128) (d : Nat) (q : Port) (s : State) : ((raise n d s).port q).rspLeft = (s.port q).rspLeft := kept_rspLeft (raise_kept n d q s)
@[simp] theorem raise_host_rspLeft (n : Fin 128) (d : Nat) (s : State) : (raise n d s).host.rspLeft = s.host.rspLeft := kept_rspLeft (raise_kept n d .host s)
@[simp] theorem raise_maint_rspLeft (n : Fin 128) (d : Nat) (s : State) : (raise n d s).maint.rspLeft = s.maint.rspLeft := kept_rspLeft (raise_kept n d .maint s)
@[simp] theorem record_port_outstanding (code source sev : Nat) (b : List Byte) (q : Port) (s : State) : ((record code source sev b s).port q).outstanding = (s.port q).outstanding := kept_outstanding (record_kept code source sev b q s)
@[simp] theorem setConfig_port_outstanding (p : Port) (tag : Nat) (op : Op) (inst : Nat) (ws : List Word) (fwd : Bool) (q : Port) (s : State) : ((setConfig p tag op inst ws fwd s).port q).outstanding = (s.port q).outstanding := kept_outstanding (setConfig_kept p tag op inst ws fwd q s)
@[simp] theorem changeRecord_port_outstanding (p : Port) (tag : Nat) (op : Op) (inst : Nat) (x y : Word) (fwd : Bool) (q : Port) (s : State) : ((changeRecord p tag op inst x y fwd s).port q).outstanding = (s.port q).outstanding := kept_outstanding (changeRecord_kept p tag op inst x y fwd q s)
@[simp] theorem wakeTrigger_port_outstanding (k : Nat) (q : Port) (s : State) : ((wakeTrigger k s).port q).outstanding = (s.port q).outstanding := kept_outstanding (wakeTrigger_kept k q s)
@[simp] theorem wakeTrigger_host_cmdq (k : Nat) (s : State) : (wakeTrigger k s).host.cmdq = s.host.cmdq := kept_cmdq (wakeTrigger_kept k .host s)
@[simp] theorem wakeTrigger_host_rspq (k : Nat) (s : State) : (wakeTrigger k s).host.rspq = s.host.rspq := kept_rspq (wakeTrigger_kept k .host s)
@[simp] theorem wakeTrigger_host_held (k : Nat) (s : State) : (wakeTrigger k s).host.held = s.host.held := kept_held (wakeTrigger_kept k .host s)
@[simp] theorem wakeTrigger_host_wrLeft (k : Nat) (s : State) : (wakeTrigger k s).host.wrLeft = s.host.wrLeft := kept_wrLeft (wakeTrigger_kept k .host s)
@[simp] theorem wakeTrigger_host_rspLeft (k : Nat) (s : State) : (wakeTrigger k s).host.rspLeft = s.host.rspLeft := kept_rspLeft (wakeTrigger_kept k .host s)

/-! A final reply marks the activity of the module and leaves every other field of sys alone. -/

theorem finish_sysKept (p : Port) (tag cls st detail : Nat) (ws : List Word) (s : State) :
    { (finish p tag cls st detail ws s).sys with lastActive := 0 } = { s.sys with lastActive := 0 } := by
  simp only [finish]; split
  · rfl
  · split
    · rfl
    · simp

@[simp] theorem finish_sys_modeReq (p : Port) (tag cls st detail : Nat) (ws : List Word) (s : State) : (finish p tag cls st detail ws s).sys.modeReq = s.sys.modeReq :=
  (congrArg SysState.modeReq (finish_sysKept p tag cls st detail ws s) :)
@[simp] theorem ok_sys_modeReq (p : Port) (c : Cmd) (detail : Nat) (ws : List Word) (s : State) : (ok p c detail ws s).sys.modeReq = s.sys.modeReq :=
  finish_sys_modeReq p c.tag 0 0 detail ws s
@[simp] theorem reject_sys_modeReq (p : Port) (c : Cmd) (st detail : Nat) (s : State) : (reject p c st detail s).sys.modeReq = s.sys.modeReq :=
  finish_sys_modeReq p c.tag 3 st detail [] s
@[simp] theorem finish_sys_running (p : Port) (tag cls st detail : Nat) (ws : List Word) (s : State) : (finish p tag cls st detail ws s).sys.running = s.sys.running :=
  (congrArg SysState.running (finish_sysKept p tag cls st detail ws s) :)
@[simp] theorem ok_sys_running (p : Port) (c : Cmd) (detail : Nat) (ws : List Word) (s : State) : (ok p c detail ws s).sys.running = s.sys.running :=
  finish_sys_running p c.tag 0 0 detail ws s
@[simp] theorem reject_sys_running (p : Port) (c : Cmd) (st detail : Nat) (s : State) : (reject p c st detail s).sys.running = s.sys.running :=
  finish_sys_running p c.tag 3 st detail [] s
@[simp] theorem finish_sys_images (p : Port) (tag cls st detail : Nat) (ws : List Word) (s : State) : (finish p tag cls st detail ws s).sys.images = s.sys.images :=
  (congrArg SysState.images (finish_sysKept p tag cls st detail ws s) :)
@[simp] theorem ok_sys_images (p : Port) (c : Cmd) (detail : Nat) (ws : List Word) (s : State) : (ok p c detail ws s).sys.images = s.sys.images :=
  finish_sys_images p c.tag 0 0 detail ws s
@[simp] theorem reject_sys_images (p : Port) (c : Cmd) (st detail : Nat) (s : State) : (reject p c st detail s).sys.images = s.sys.images :=
  finish_sys_images p c.tag 3 st detail [] s
@[simp] theorem finish_sys_fwProg (p : Port) (tag cls st detail : Nat) (ws : List Word) (s : State) : (finish p tag cls st detail ws s).sys.fwProg = s.sys.fwProg :=
  (congrArg SysState.fwProg (finish_sysKept p tag cls st detail ws s) :)
@[simp] theorem ok_sys_fwProg (p : Port) (c : Cmd) (detail : Nat) (ws : List Word) (s : State) : (ok p c detail ws s).sys.fwProg = s.sys.fwProg :=
  finish_sys_fwProg p c.tag 0 0 detail ws s
@[simp] theorem reject_sys_fwProg (p : Port) (c : Cmd) (st detail : Nat) (s : State) : (reject p c st detail s).sys.fwProg = s.sys.fwProg :=
  finish_sys_fwProg p c.tag 3 st detail [] s
@[simp] theorem finish_sys_choice (p : Port) (tag cls st detail : Nat) (ws : List Word) (s : State) : (finish p tag cls st detail ws s).sys.choice = s.sys.choice :=
  (congrArg SysState.choice (finish_sysKept p tag cls st detail ws s) :)
@[simp] theorem ok_sys_choice (p : Port) (c : Cmd) (detail : Nat) (ws : List Word) (s : State) : (ok p c detail ws s).sys.choice = s.sys.choice :=
  finish_sys_choice p c.tag 0 0 detail ws s
@[simp] theorem reject_sys_choice (p : Port) (c : Cmd) (st detail : Nat) (s : State) : (reject p c st detail s).sys.choice = s.sys.choice :=
  finish_sys_choice p c.tag 3 st detail [] s
@[simp] theorem finish_sys_dom (p : Port) (tag cls st detail : Nat) (ws : List Word) (s : State) : (finish p tag cls st detail ws s).sys.dom = s.sys.dom :=
  (congrArg SysState.dom (finish_sysKept p tag cls st detail ws s) :)
@[simp] theorem ok_sys_dom (p : Port) (c : Cmd) (detail : Nat) (ws : List Word) (s : State) : (ok p c detail ws s).sys.dom = s.sys.dom :=
  finish_sys_dom p c.tag 0 0 detail ws s
@[simp] theorem reject_sys_dom (p : Port) (c : Cmd) (st detail : Nat) (s : State) : (reject p c st detail s).sys.dom = s.sys.dom :=
  finish_sys_dom p c.tag 3 st detail [] s
@[simp] theorem finish_sys_exiting (p : Port) (tag cls st detail : Nat) (ws : List Word) (s : State) : (finish p tag cls st detail ws s).sys.exiting = s.sys.exiting :=
  (congrArg SysState.exiting (finish_sysKept p tag cls st detail ws s) :)
@[simp] theorem ok_sys_exiting (p : Port) (c : Cmd) (detail : Nat) (ws : List Word) (s : State) : (ok p c detail ws s).sys.exiting = s.sys.exiting :=
  finish_sys_exiting p c.tag 0 0 detail ws s
@[simp] theorem reject_sys_exiting (p : Port) (c : Cmd) (st detail : Nat) (s : State) : (reject p c st detail s).sys.exiting = s.sys.exiting :=
  finish_sys_exiting p c.tag 3 st detail [] s
@[simp] theorem finish_sys_exitAt (p : Port) (tag cls st detail : Nat) (ws : List Word) (s : State) : (finish p tag cls st detail ws s).sys.exitAt = s.sys.exitAt :=
  (congrArg SysState.exitAt (finish_sysKept p tag cls st detail ws s) :)
@[simp] theorem ok_sys_exitAt (p : Port) (c : Cmd) (detail : Nat) (ws : List Word) (s : State) : (ok p c detail ws s).sys.exitAt = s.sys.exitAt :=
  finish_sys_exitAt p c.tag 0 0 detail ws s
@[simp] theorem reject_sys_exitAt (p : Port) (c : Cmd) (st detail : Nat) (s : State) : (reject p c st detail s).sys.exitAt = s.sys.exitAt :=
  finish_sys_exitAt p c.tag 3 st detail [] s
@[simp] theorem finish_sys_vmain (p : Port) (tag cls st detail : Nat) (ws : List Word) (s : State) : (finish p tag cls st detail ws s).sys.vmain = s.sys.vmain :=
  (congrArg SysState.vmain (finish_sysKept p tag cls st detail ws s) :)
@[simp] theorem ok_sys_vmain (p : Port) (c : Cmd) (detail : Nat) (ws : List Word) (s : State) : (ok p c detail ws s).sys.vmain = s.sys.vmain :=
  finish_sys_vmain p c.tag 0 0 detail ws s
@[simp] theorem reject_sys_vmain (p : Port) (c : Cmd) (st detail : Nat) (s : State) : (reject p c st detail s).sys.vmain = s.sys.vmain :=
  finish_sys_vmain p c.tag 3 st detail [] s
@[simp] theorem finish_sys_outputsHeld (p : Port) (tag cls st detail : Nat) (ws : List Word) (s : State) : (finish p tag cls st detail ws s).sys.outputsHeld = s.sys.outputsHeld :=
  (congrArg SysState.outputsHeld (finish_sysKept p tag cls st detail ws s) :)
@[simp] theorem ok_sys_outputsHeld (p : Port) (c : Cmd) (detail : Nat) (ws : List Word) (s : State) : (ok p c detail ws s).sys.outputsHeld = s.sys.outputsHeld :=
  finish_sys_outputsHeld p c.tag 0 0 detail ws s
@[simp] theorem reject_sys_outputsHeld (p : Port) (c : Cmd) (st detail : Nat) (s : State) : (reject p c st detail s).sys.outputsHeld = s.sys.outputsHeld :=
  finish_sys_outputsHeld p c.tag 3 st detail [] s
@[simp] theorem finish_sys_diagFirst (p : Port) (tag cls st detail : Nat) (ws : List Word) (s : State) : (finish p tag cls st detail ws s).sys.diagFirst = s.sys.diagFirst :=
  (congrArg SysState.diagFirst (finish_sysKept p tag cls st detail ws s) :)
@[simp] theorem ok_sys_diagFirst (p : Port) (c : Cmd) (detail : Nat) (ws : List Word) (s : State) : (ok p c detail ws s).sys.diagFirst = s.sys.diagFirst :=
  finish_sys_diagFirst p c.tag 0 0 detail ws s
@[simp] theorem reject_sys_diagFirst (p : Port) (c : Cmd) (st detail : Nat) (s : State) : (reject p c st detail s).sys.diagFirst = s.sys.diagFirst :=
  finish_sys_diagFirst p c.tag 3 st detail [] s
@[simp] theorem finish_sys_diagSeen (p : Port) (tag cls st detail : Nat) (ws : List Word) (s : State) : (finish p tag cls st detail ws s).sys.diagSeen = s.sys.diagSeen :=
  (congrArg SysState.diagSeen (finish_sysKept p tag cls st detail ws s) :)
@[simp] theorem ok_sys_diagSeen (p : Port) (c : Cmd) (detail : Nat) (ws : List Word) (s : State) : (ok p c detail ws s).sys.diagSeen = s.sys.diagSeen :=
  finish_sys_diagSeen p c.tag 0 0 detail ws s
@[simp] theorem reject_sys_diagSeen (p : Port) (c : Cmd) (st detail : Nat) (s : State) : (reject p c st detail s).sys.diagSeen = s.sys.diagSeen :=
  finish_sys_diagSeen p c.tag 3 st detail [] s
@[simp] theorem finish_sys_giveupOut (p : Port) (tag cls st detail : Nat) (ws : List Word) (s : State) : (finish p tag cls st detail ws s).sys.giveupOut = s.sys.giveupOut :=
  (congrArg SysState.giveupOut (finish_sysKept p tag cls st detail ws s) :)
@[simp] theorem ok_sys_giveupOut (p : Port) (c : Cmd) (detail : Nat) (ws : List Word) (s : State) : (ok p c detail ws s).sys.giveupOut = s.sys.giveupOut :=
  finish_sys_giveupOut p c.tag 0 0 detail ws s
@[simp] theorem reject_sys_giveupOut (p : Port) (c : Cmd) (st detail : Nat) (s : State) : (reject p c st detail s).sys.giveupOut = s.sys.giveupOut :=
  finish_sys_giveupOut p c.tag 3 st detail [] s
@[simp] theorem finish_sys_release (p : Port) (tag cls st detail : Nat) (ws : List Word) (s : State) : (finish p tag cls st detail ws s).sys.release = s.sys.release :=
  (congrArg SysState.release (finish_sysKept p tag cls st detail ws s) :)
@[simp] theorem ok_sys_release (p : Port) (c : Cmd) (detail : Nat) (ws : List Word) (s : State) : (ok p c detail ws s).sys.release = s.sys.release :=
  finish_sys_release p c.tag 0 0 detail ws s
@[simp] theorem reject_sys_release (p : Port) (c : Cmd) (st detail : Nat) (s : State) : (reject p c st detail s).sys.release = s.sys.release :=
  finish_sys_release p c.tag 3 st detail [] s
@[simp] theorem finish_sys_frame (p : Port) (tag cls st detail : Nat) (ws : List Word) (s : State) : (finish p tag cls st detail ws s).sys.frame = s.sys.frame :=
  (congrArg SysState.frame (finish_sysKept p tag cls st detail ws s) :)
@[simp] theorem ok_sys_frame (p : Port) (c : Cmd) (detail : Nat) (ws : List Word) (s : State) : (ok p c detail ws s).sys.frame = s.sys.frame :=
  finish_sys_frame p c.tag 0 0 detail ws s
@[simp] theorem reject_sys_frame (p : Port) (c : Cmd) (st detail : Nat) (s : State) : (reject p c st detail s).sys.frame = s.sys.frame :=
  finish_sys_frame p c.tag 3 st detail [] s
@[simp] theorem finish_sys_warmPending (p : Port) (tag cls st detail : Nat) (ws : List Word) (s : State) : (finish p tag cls st detail ws s).sys.warmPending = s.sys.warmPending :=
  (congrArg SysState.warmPending (finish_sysKept p tag cls st detail ws s) :)
@[simp] theorem ok_sys_warmPending (p : Port) (c : Cmd) (detail : Nat) (ws : List Word) (s : State) : (ok p c detail ws s).sys.warmPending = s.sys.warmPending :=
  finish_sys_warmPending p c.tag 0 0 detail ws s
@[simp] theorem reject_sys_warmPending (p : Port) (c : Cmd) (st detail : Nat) (s : State) : (reject p c st detail s).sys.warmPending = s.sys.warmPending :=
  finish_sys_warmPending p c.tag 3 st detail [] s
@[simp] theorem finish_sys_missedNow (p : Port) (tag cls st detail : Nat) (ws : List Word) (s : State) : (finish p tag cls st detail ws s).sys.missedNow = s.sys.missedNow :=
  (congrArg SysState.missedNow (finish_sysKept p tag cls st detail ws s) :)
@[simp] theorem ok_sys_missedNow (p : Port) (c : Cmd) (detail : Nat) (ws : List Word) (s : State) : (ok p c detail ws s).sys.missedNow = s.sys.missedNow :=
  finish_sys_missedNow p c.tag 0 0 detail ws s
@[simp] theorem reject_sys_missedNow (p : Port) (c : Cmd) (st detail : Nat) (s : State) : (reject p c st detail s).sys.missedNow = s.sys.missedNow :=
  finish_sys_missedNow p c.tag 3 st detail [] s
@[simp] theorem finish_sys_missedFrames (p : Port) (tag cls st detail : Nat) (ws : List Word) (s : State) : (finish p tag cls st detail ws s).sys.missedFrames = s.sys.missedFrames :=
  (congrArg SysState.missedFrames (finish_sysKept p tag cls st detail ws s) :)
@[simp] theorem ok_sys_missedFrames (p : Port) (c : Cmd) (detail : Nat) (ws : List Word) (s : State) : (ok p c detail ws s).sys.missedFrames = s.sys.missedFrames :=
  finish_sys_missedFrames p c.tag 0 0 detail ws s
@[simp] theorem reject_sys_missedFrames (p : Port) (c : Cmd) (st detail : Nat) (s : State) : (reject p c st detail s).sys.missedFrames = s.sys.missedFrames :=
  finish_sys_missedFrames p c.tag 3 st detail [] s
@[simp] theorem finish_sys_hostStructLost (p : Port) (tag cls st detail : Nat) (ws : List Word) (s : State) : (finish p tag cls st detail ws s).sys.hostStructLost = s.sys.hostStructLost :=
  (congrArg SysState.hostStructLost (finish_sysKept p tag cls st detail ws s) :)
@[simp] theorem ok_sys_hostStructLost (p : Port) (c : Cmd) (detail : Nat) (ws : List Word) (s : State) : (ok p c detail ws s).sys.hostStructLost = s.sys.hostStructLost :=
  finish_sys_hostStructLost p c.tag 0 0 detail ws s
@[simp] theorem reject_sys_hostStructLost (p : Port) (c : Cmd) (st detail : Nat) (s : State) : (reject p c st detail s).sys.hostStructLost = s.sys.hostStructLost :=
  finish_sys_hostStructLost p c.tag 3 st detail [] s
@[simp] theorem finish_sys_startFault (p : Port) (tag cls st detail : Nat) (ws : List Word) (s : State) : (finish p tag cls st detail ws s).sys.startFault = s.sys.startFault :=
  (congrArg SysState.startFault (finish_sysKept p tag cls st detail ws s) :)
@[simp] theorem ok_sys_startFault (p : Port) (c : Cmd) (detail : Nat) (ws : List Word) (s : State) : (ok p c detail ws s).sys.startFault = s.sys.startFault :=
  finish_sys_startFault p c.tag 0 0 detail ws s
@[simp] theorem reject_sys_startFault (p : Port) (c : Cmd) (st detail : Nat) (s : State) : (reject p c st detail s).sys.startFault = s.sys.startFault :=
  finish_sys_startFault p c.tag 3 st detail [] s
@[simp] theorem finish_sys_kilnLink (p : Port) (tag cls st detail : Nat) (ws : List Word) (s : State) : (finish p tag cls st detail ws s).sys.kilnLink = s.sys.kilnLink :=
  (congrArg SysState.kilnLink (finish_sysKept p tag cls st detail ws s) :)
@[simp] theorem ok_sys_kilnLink (p : Port) (c : Cmd) (detail : Nat) (ws : List Word) (s : State) : (ok p c detail ws s).sys.kilnLink = s.sys.kilnLink :=
  finish_sys_kilnLink p c.tag 0 0 detail ws s
@[simp] theorem reject_sys_kilnLink (p : Port) (c : Cmd) (st detail : Nat) (s : State) : (reject p c st detail s).sys.kilnLink = s.sys.kilnLink :=
  finish_sys_kilnLink p c.tag 3 st detail [] s
@[simp] theorem finish_sys_readyMt (p : Port) (tag cls st detail : Nat) (ws : List Word) (s : State) : (finish p tag cls st detail ws s).sys.readyMt = s.sys.readyMt :=
  (congrArg SysState.readyMt (finish_sysKept p tag cls st detail ws s) :)
@[simp] theorem ok_sys_readyMt (p : Port) (c : Cmd) (detail : Nat) (ws : List Word) (s : State) : (ok p c detail ws s).sys.readyMt = s.sys.readyMt :=
  finish_sys_readyMt p c.tag 0 0 detail ws s
@[simp] theorem reject_sys_readyMt (p : Port) (c : Cmd) (st detail : Nat) (s : State) : (reject p c st detail s).sys.readyMt = s.sys.readyMt :=
  finish_sys_readyMt p c.tag 3 st detail [] s
@[simp] theorem finish_sys_listenEnd (p : Port) (tag cls st detail : Nat) (ws : List Word) (s : State) : (finish p tag cls st detail ws s).sys.listenEnd = s.sys.listenEnd :=
  (congrArg SysState.listenEnd (finish_sysKept p tag cls st detail ws s) :)
@[simp] theorem ok_sys_listenEnd (p : Port) (c : Cmd) (detail : Nat) (ws : List Word) (s : State) : (ok p c detail ws s).sys.listenEnd = s.sys.listenEnd :=
  finish_sys_listenEnd p c.tag 0 0 detail ws s
@[simp] theorem reject_sys_listenEnd (p : Port) (c : Cmd) (st detail : Nat) (s : State) : (reject p c st detail s).sys.listenEnd = s.sys.listenEnd :=
  finish_sys_listenEnd p c.tag 3 st detail [] s

/-! One occurrence. -/

theorem upd_self {α : Type} {n : Nat} (v : Vector α n) (i : Fin n) (f : α → α) : (upd v i f)[i] = f v[i] := by simp [upd]

theorem upd_other {α : Type} {n : Nat} (v : Vector α n) (i j : Fin n) (f : α → α) (h : j ≠ i) : (upd v i f)[j] = v[j] := by
  simp only [upd, Fin.getElem_fin, Vector.getElem_set]
  rw [if_neg]; intro e; exact h (Fin.ext e.symm)

/-- The sources after an occurrence at n: only n has changed. -/
theorem occur_src (n : Fin 128) (d mt : Nat) (s : State) :
    (occur n d mt s).ev.src = upd s.ev.src n fun x =>
      { x with pend := true, count := satN 0xFFFF (x.count + 1), lastMt := mt, lastDetail := d % 65536 } := by
  unfold occur
  extract_lets src s1 s2
  have h2 : s2.ev.src = s1.ev.src := by
    simp only [s2]; split <;> simp
  clear_value s2
  split <;> (try split) <;> simp [h2, s1]

theorem overflow_src (a b : State) : (overflow a b).ev.src = b.ev.src ∨ ∃ d mt, (overflow a b).ev.src = (occur 120 d mt b).ev.src := by
  unfold overflow; split
  · exact .inr ⟨_, _, rfl⟩
  · exact .inl rfl

theorem raiseAt_src_other (n m : Fin 128) (d mt : Nat) (s : State) (h : m ≠ n) (h' : m ≠ 120) :
    (raiseAt n d mt s).ev.src[m] = s.ev.src[m] := by
  by_cases hr : s.hp.ready = true
  · have e0 : raiseAt n d mt s = overflow s (occur n d mt s) := if_pos hr
    rw [e0]
    rcases overflow_src s (occur n d mt s) with e | ⟨a, b, e⟩ <;> refine (congrArg (fun v => v[m]) e).trans ?_
    · simp only [occur_src]; exact upd_other _ _ _ _ h
    · simp only [occur_src]; exact (upd_other _ _ _ _ h').trans (upd_other _ _ _ _ h)
  · have e0 : raiseAt n d mt s = s := if_neg hr
    rw [e0]

theorem raiseAt_src_self (n : Fin 128) (d mt : Nat) (s : State) (hr : s.hp.ready = true) (h' : n ≠ 120) :
    (raiseAt n d mt s).ev.src[n] = { s.ev.src[n] with pend := true, count := satN 0xFFFF (s.ev.src[n].count + 1), lastMt := mt, lastDetail := d % 65536 } := by
  have e0 : raiseAt n d mt s = overflow s (occur n d mt s) := if_pos hr
  rw [e0]
  rcases overflow_src s (occur n d mt s) with e | ⟨a, b, e⟩ <;> refine (congrArg (fun v => v[n]) e).trans ?_
  · simp only [occur_src]; exact upd_self _ _ _
  · simp only [occur_src]; exact (upd_other _ _ _ _ h').trans (upd_self _ _ _)

theorem raise_occurred {n : Fin 128} {s u : State} (d : Nat) (hr : u.hp.ready = true) (hn : n ≠ 120) (he : u.ev.src = s.ev.src) :
    Occurred n d s (raise n d u) := by
  have h := raiseAt_src_self n d u.time.mt u hr hn
  have h2 : u.ev.src[n] = s.ev.src[n] := congrArg (fun v => v[n]) he
  rw [h2] at h
  exact ⟨congrArg EvSrc.pend h, congrArg EvSrc.count h, congrArg EvSrc.lastDetail h⟩

theorem raise_eventsBut {n : Fin 128} {s u : State} (d : Nat) (he : u.ev.src = s.ev.src) : EventsBut [n, 120] s (raise n d u) := by
  intro m hm
  have h : m ≠ n ∧ m ≠ 120 := by simpa using hm
  exact (raiseAt_src_other n m d u.time.mt u h.1 h.2).trans (congrArg (fun v => v[m]) he)

/-- Occurrences and the other sources are read off the event logic alone. -/
theorem Occurred.of_ev {n : Fin 128} {d : Nat} {s t t' : State} (h : Occurred n d s t) (e : t'.ev = t.ev) : Occurred n d s t' := by
  simpa only [Occurred, e] using h

theorem Occurred.of_src {n : Fin 128} {d : Nat} {s t t' : State} (h : Occurred n d s t) (e : t'.ev.src[n] = t.ev.src[n]) : Occurred n d s t' := by
  simpa only [Occurred, e] using h

theorem EventsBut.of_ev {l : List (Fin 128)} {s t t' : State} (h : EventsBut l s t) (e : t'.ev = t.ev) : EventsBut l s t' := by
  simpa only [EventsBut, e] using h

end Sys2Proof.Machine
end

