-- ==== Sys2Proof/Laws/HostPort.lean ====
section
/-! SUPPORT. The intake of packets, the growth of the reply store, and the reach of a time-out. -/

namespace Sys2Proof.Machine

set_option linter.all false

/-- The header checks read the outstanding commands, the modes and READY alone. -/
theorem headCheck_congr {p : Port} {hd : Word} {ws : List Word} {s t : State} (h1 : (t.port p).outstanding = (s.port p).outstanding)
    (h2 : t.sys = s.sys) (h3 : t.hp.ready = s.hp.ready) : headCheck p hd ws t = headCheck p hd ws s := by
  have h4 : ∀ op, modeOk op t = modeOk op s := by intro op; simp [modeOk, noImage, h2, h3]
  have h5 : ∀ n, findTag (t.port p) n = findTag (s.port p) n := by intro n; simp [findTag, h1]
  unfold headCheck
  simp only [h5, h4, h2]

theorem countEcc_port (p q : Port) (l : List QWord) (s : State) : (countEcc p l s).port q = s.port q := by
  unfold countEcc; split <;> simp

theorem countEcc_sys (p : Port) (l : List QWord) (s : State) : (countEcc p l s).sys = s.sys := by unfold countEcc; split <;> simp

theorem countEcc_cfg (p : Port) (l : List QWord) (s : State) : (countEcc p l s).cfg = s.cfg := by unfold countEcc; split <;> simp

theorem countEcc_ready (p : Port) (l : List QWord) (s : State) : (countEcc p l s).hp.ready = s.hp.ready := by unfold countEcc; split <;> simp

theorem cmdqSpace_kept (q : Port) (s : State) : kept ((cmdqSpace s).port q) = kept (s.port q) := by
  unfold cmdqSpace; split <;> simp

theorem cmdqSpace_sys (s : State) : (cmdqSpace s).sys = s.sys := cmdqSpace_same s .sys (by decide)

theorem cmdqSpace_cfg (s : State) : (cmdqSpace s).cfg = s.cfg := cmdqSpace_same s .cfg (by decide)

theorem cmdqSpace_ready (s : State) : (cmdqSpace s).hp.ready = s.hp.ready := by unfold cmdqSpace; split <;> simp

theorem cmdqSpace_cqf (s : State) : (cmdqSpace s).hp.cqFlush = s.hp.cqFlush := by unfold cmdqSpace; split <;> simp

/-- The intake of a whole packet that fits judges it on a state whose port is as before but for the queue. -/
theorem intake_eq {p : Port} {hd : QWord} {rest : List QWord} {s : State} (h1 : s.hp.ready = true) (h2 : s.sys.dom[0] = .on)
    (h3 : (s.port p).accepted = none) (h4 : (s.port p).cmdq = hd :: rest) (h5 : hd.ecc = .ok) (h6 : hd.cut.getD (fld hd.w 7 0) ≤ rest.length)
    (h7 : reservation hd.w ≤ storeRoom (s.port p)) : ∃ u, intake p s = judge p hd (rest.take (hd.cut.getD (fld hd.w 7 0))) u ∧ u.sys = s.sys ∧
      u.hp.ready = s.hp.ready ∧ u.cfg = s.cfg ∧ kept (u.port p) = kept { s.port p with cmdq := rest.drop (hd.cut.getD (fld hd.w 7 0)) } := by
  have h6' : ¬ rest.length < hd.cut.getD (fld hd.w 7 0) := by omega
  have h7' : ¬ storeRoom (s.port p) < reservation hd.w := by omega
  unfold intake
  simp only [h1, h2, h3, h4, h5, h6', h7']
  simp
  split
  · subst_vars
    refine ⟨_, rfl, ?_, ?_, ?_, ?_⟩
    · simp [cmdqSpace_sys, countEcc_sys]
    · simp [cmdqSpace_ready, countEcc_ready, h1]
    · simp [cmdqSpace_cfg, countEcc_cfg]
    · simp [cmdqSpace_kept, countEcc_port, h3]
  · refine ⟨_, rfl, ?_, ?_, ?_, ?_⟩
    · simp [countEcc_sys]
    · simp [countEcc_ready, h1]
    · simp [countEcc_cfg]
    · simp [countEcc_port, h3]

theorem headReject_store (p : Port) (c t st d : Nat) (s : State) : ((headReject p c t st d s).port p).store = (s.port p).store ++ [{ words := packet c 3 t st d [] }] := by
  simp [headReject, place]

theorem headReject_kept (p : Port) (c t st d : Nat) (s : State) : kept ((headReject p c t st d s).port p) = kept (s.port p) := by
  simp [headReject, place, kept]

theorem standby_congr {op : Op} {s t : State} (h1 : t.sys = s.sys) (h2 : t.cfg = s.cfg) : standbyRefuses op t = standbyRefuses op s := by
  simp only [standbyRefuses, State.duplex, State.inForce, h1, h2]

theorem unsol_store (p q : Port) (code : Nat) (ws : List Word) (s : State) :
    ∃ more, ((unsol p code ws s).port q).store = (s.port q).store ++ more := by
  cases p <;> cases q <;> simp only [unsol, State.onPort, State.port] <;> simp <;> split <;> first | exact ⟨_, rfl⟩ | exact ⟨[], by simp⟩

/-- The reply store has only grown. -/
def Grows (q : Port) (s t : State) : Prop := ∃ more, (t.port q).store = (s.port q).store ++ more

theorem Grows.refl (q : Port) (s : State) : Grows q s s := ⟨[], by simp⟩

theorem Grows.trans {q : Port} {s t u : State} (h : Grows q s t) (k : Grows q t u) : Grows q s u := by
  obtain ⟨a, h⟩ := h; obtain ⟨b, k⟩ := k; exact ⟨a ++ b, by rw [k, h, List.append_assoc]⟩

theorem Grows.of_port {q : Port} {s t : State} (h : t.port q = s.port q) : Grows q s t := ⟨[], by simp [h]⟩

theorem notices_grows (n : Fin 128) (d mt : Nat) (q : Port) (s : State) : Grows q s (notices n d mt s) := by
  simp only [notices]
  split <;> split
  · exact Grows.trans (unsol_store _ _ _ _ _) (unsol_store _ _ _ _ _)
  · exact unsol_store _ _ _ _ _
  · exact unsol_store _ _ _ _ _
  · exact .refl _ _

theorem occur_grows (n : Fin 128) (d mt : Nat) (q : Port) (s : State) : Grows q s (occur n d mt s) := by
  unfold occur
  extract_lets src s1 s2
  have h2 : Grows q s s2 := by
    simp only [s2]; split <;> exact .of_port (by simp [s1])
  clear_value s2
  split <;> (try split)
  · exact h2.trans (notices_grows _ _ _ _ _)
  · exact h2.trans (.of_port (by simp))
  · exact h2

theorem raise_grows (n : Fin 128) (d : Nat) (q : Port) (s : State) : Grows q s (raise n d s) := by
  simp only [raise, raiseAt]
  split
  · refine (occur_grows n d s.time.mt q s).trans ?_
    simp only [overflow]; split
    · exact occur_grows _ _ _ _ _
    · exact .refl _ _
  · exact .refl _ _

theorem notices_quiet {n : Fin 128} {s : State} (d mt : Nat) (h1 : (s.ev.src[n]).noticeHost = false) (h2 : (s.ev.src[n]).noticeMaint = false) :
    notices n d mt s = s := by
  simp only [notices, h1]; simp; intro h; simp_all

theorem occur_quiet {n : Fin 128} {s : State} (d mt : Nat) (q : Port) (h1 : (s.ev.src[n]).noticeHost = false) (h2 : (s.ev.src[n]).noticeMaint = false) :
    (occur n d mt s).port q = s.port q := by
  unfold occur
  extract_lets src s1 s2
  have e : (src.noticeHost || src.noticeMaint) = false := by simp only [src]; rw [h1, h2]; rfl
  rw [e, if_neg (by decide)]
  simp only [s2]
  split <;> simp [s1]

/-- An event without notices leaves the ports alone. -/
theorem raise_quiet {n : Fin 128} {s : State} (d : Nat) (q : Port) (h1 : (s.ev.src[n]).noticeHost = false) (h2 : (s.ev.src[n]).noticeMaint = false)
    (h3 : (s.ev.src[120]).noticeHost = false) (h4 : (s.ev.src[120]).noticeMaint = false) (hn : n ≠ 120) : (raise n d s).port q = s.port q := by
  simp only [raise, raiseAt]
  split
  · simp only [overflow]
    have e : (occur n d s.time.mt s).ev.src[120] = s.ev.src[120] := by
      refine (congrArg (fun v : Vector EvSrc 128 => v[(120 : Fin 128)]) (occur_src n d s.time.mt s)).trans ?_
      exact upd_other _ _ _ _ (Ne.symm hn)
    split
    · rw [occur_quiet _ _ _ ((congrArg EvSrc.noticeHost e).trans h3) ((congrArg EvSrc.noticeMaint e).trans h4), occur_quiet _ _ _ h1 h2]
    · exact occur_quiet _ _ _ h1 h2
  · rfl

/-- MT reaches the instant. -/
theorem advanceTo_reaches {m : Nat} {s : State} (hr : s.time.mtRun = true) (hb : m < 2 ^ 64) (hs : s.time.mt < 2 ^ 64) : m ≤ (advanceTo m s).time.mt := by
  simp only [advanceTo, advance, State.onTime_time, hr, if_true]
  rw [Nat.mod_eq_of_lt (by omega)]; omega

end Sys2Proof.Machine
end

