-- ==== Sys2Proof/Laws/Config.lean ====
section
/-! SUPPORT. The working configuration: what setting a function and instance leaves, and what an accepted or refused configuration command does. -/

namespace Sys2Proof.Machine

set_option linter.all false

theorem find_insert {P : CfgEntry → Bool} (e : CfgEntry) (l : List CfgEntry) (hl : P e = true → l.find? P = none) :
    (cfgInsert e l).find? P = if P e then some e else l.find? P := by
  induction l with
  | nil => cases h : P e <;> simp [cfgInsert, List.find?_cons, h]
  | cons x xs ih =>
    simp only [cfgInsert]
    split
    · cases h : P e <;> simp [List.find?_cons, h]
    · by_cases hx : P x = true
      · have hne : P e = false := by
          by_contra hc
          have := hl (by simpa using hc)
          simp [hx] at this
        simp [hx, hne]
      · have hx' : P x = false := by simpa using hx
        have hl' : P e = true → xs.find? P = none := by
          intro he; have := hl he; simpa [List.find?_cons, hx'] using this
        rw [List.find?_cons, hx', ih hl']
        simp [List.find?_cons, hx']

theorem find_remove_self (op : Op) (i : Nat) (l : List CfgEntry) : cfgFind (cfgRemove op i l) op i = none := by
  simp only [cfgFind, cfgRemove, Option.map_eq_none_iff, List.find?_eq_none]
  intro x hx
  simp at hx ⊢
  obtain ⟨_, h⟩ := hx
  intro ho; rcases h with h | h
  · exact absurd ho h
  · exact h

theorem find_remove_other (op op' : Op) (i i' : Nat) (l : List CfgEntry) (h : ¬ (op' = op ∧ i' = i)) :
    cfgFind (cfgRemove op i l) op' i' = cfgFind l op' i' := by
  have key : (cfgRemove op i l).find? (fun e => e.op == op' && e.inst == i') = l.find? (fun e => e.op == op' && e.inst == i') := by
    simp only [cfgRemove]
    induction l with
    | nil => rfl
    | cons x xs ih =>
      by_cases hx : (x.op == op && x.inst == i) = true
      · have hn : (x.op == op' && x.inst == i') = false := by
          simp at hx ⊢; intro e1 e2; exact h ⟨by rw [← e1, hx.1], by rw [← e2, hx.2]⟩
        rw [List.filter_cons, if_neg (by simp [hx]), List.find?_cons, hn]; exact ih
      · rw [List.filter_cons, if_pos (by rw [Bool.not_eq_true] at hx; rw [hx]; rfl), List.find?_cons, List.find?_cons, ih]
  simp only [cfgFind, key]

theorem cfgSet_self (op : Op) (i : Nat) (ws : List Word) (l : List CfgEntry) (hu : unconfigures op ws = false) : cfgGet (cfgSet op i ws l) op i = ws := by
  simp only [cfgSet, hu, Bool.or_false]
  split
  · rename_i h
    have h' : lennov op i = some ws := by simpa using h
    simp [cfgGet, find_remove_self, h']
  · have hf := find_remove_self op i l
    have : (cfgInsert ⟨op, i, ws⟩ (cfgRemove op i l)).find? (fun e => e.op == op && e.inst == i) = some ⟨op, i, ws⟩ := by
      rw [find_insert]
      · simp
      · intro _
        simpa [cfgFind] using hf
    simp [cfgGet, cfgFind, this]

theorem unconf_lennov {op : Op} {ws : List Word} (hu : unconfigures op ws = true) (i : Nat) : (lennov op i).getD [] = [] := by
  have : op = .fusRefConfig ∨ op = .allocThrusterConfig ∨ op = .loopGroup := by
    simp [unconfigures] at hu; tauto
  rcases this with e | e | e <;> subst e <;> rfl

theorem cfgSet_unconf (op : Op) (i : Nat) (ws : List Word) (l : List CfgEntry) (hu : unconfigures op ws = true) : cfgGet (cfgSet op i ws l) op i = [] := by
  simp only [cfgSet, hu, Bool.or_true, if_true, cfgGet, find_remove_self]
  exact unconf_lennov hu i

theorem cfgSet_other (op op' : Op) (i i' : Nat) (ws : List Word) (l : List CfgEntry) (h : ¬ (op' = op ∧ i' = i)) :
    cfgGet (cfgSet op i ws l) op' i' = cfgGet l op' i' := by
  have : cfgFind (cfgSet op i ws l) op' i' = cfgFind l op' i' := by
    simp only [cfgSet]
    split
    · exact find_remove_other op op' i i' l h
    · have e : (cfgInsert ⟨op, i, ws⟩ (cfgRemove op i l)).find? (fun e => e.op == op' && e.inst == i') = (cfgRemove op i l).find? (fun e => e.op == op' && e.inst == i') := by
        have hn : ((op == op') && (i == i')) = false := by
          simp; intro e1 e2; exact h ⟨e1.symm, e2.symm⟩
        rw [find_insert]
        · simp [hn]
        · intro hc; simp [hn] at hc
      simp only [cfgFind, e]
      exact find_remove_other op op' i i' l h
  simp only [cfgGet, this]

/-- The queue of the Woodshed has only grown. -/
def LogGrows (s t : State) : Prop := ∃ more, t.log.queue = s.log.queue ++ more

theorem LogGrows.refl (s : State) : LogGrows s s := ⟨[], by simp⟩

theorem LogGrows.trans {s t u : State} (h : LogGrows s t) (k : LogGrows t u) : LogGrows s u := by
  obtain ⟨a, h⟩ := h; obtain ⟨b, k⟩ := k; exact ⟨a ++ b, by rw [k, h, List.append_assoc]⟩

theorem LogGrows.of_log {s t : State} (h : t.log.queue = s.log.queue) : LogGrows s t := ⟨[], by simp [h]⟩

theorem enqueueRec_grows (r : Rec) (s : State) : LogGrows s (enqueueRec r s).1 := by
  unfold enqueueRec; extract_lets n nx; split
  · exact ⟨_, rfl⟩
  · exact .of_log rfl

theorem takeToken_queue {c : Nat} {s s' : State} (h : takeToken c s = some s') : s'.log.queue = s.log.queue := by
  unfold takeToken at h
  split at h
  · cases h; rfl
  · revert h; extract_lets full t; intro h
    split at h
    · cases h; rfl
    · cases h

theorem newRec_grows (code source sev : Nat) (fwd : Bool) (b : List Byte) (s : State) : LogGrows s (newRec code source sev fwd b s).1 := by
  unfold newRec; extract_lets r
  split
  · exact .refl _
  · split
    · refine .of_log ?_; simp only [State.onLog_log]; split <;> rfl
    · unfold limitRec; split
      · split
        · rename_i h; exact (LogGrows.of_log (takeToken_queue h)).trans (enqueueRec_grows _ _)
        · exact .of_log rfl
      · exact enqueueRec_grows _ _

theorem occur_lgrows (n : Fin 128) (d mt : Nat) (s : State) : LogGrows s (occur n d mt s) := by
  unfold occur
  extract_lets src s1 s2
  have h2 : LogGrows s s2 := by
    simp only [s2]; split
    · exact LogGrows.trans (t := s1) (.of_log rfl) (newRec_grows _ _ _ _ _ _)
    · exact .of_log rfl
  clear_value s2
  split <;> (try split)
  · exact h2.trans (.of_log (by rw [notices_log]))
  · exact h2.trans (.of_log rfl)
  · exact h2

theorem overflow_lgrows (a b : State) : LogGrows b (overflow a b) := by
  simp only [overflow]; split
  · exact occur_lgrows _ _ _ _
  · exact .refl _

theorem raise_lgrows (n : Fin 128) (d : Nat) (s : State) : LogGrows s (raise n d s) := by
  simp only [raise, raiseAt]; split
  · exact (occur_lgrows _ _ _ _).trans (overflow_lgrows _ _)
  · exact .refl _

theorem newRec_now {code source sev : Nat} {fwd : Bool} {b : List Byte} {s : State} (h1 : limited code = false) (h2 : s.log.discard = false)
    (h3 : pd2Off s = false) (h4 : s.log.queue.length < 512) :
    (newRec code source sev fwd b s).1.log.queue = s.log.queue ++ [{ mkRec s code source sev fwd b with seq := s.log.seq }] := by
  simp [newRec, h2, h3, limitRec, mkRec, h1, enqueueRec, h4]

theorem code_limited (op : Op) : limited (0xC000 + (opInfo op).code) = false := by
  have : 0x8FFF < 0xC000 + (opInfo op).code := by omega
  simp [limited]; omega

theorem changeRecord_grows (p : Port) (tag : Nat) (op : Op) (inst : Nat) (x y : Word) (fwd : Bool) (s : State) (h2 : s.log.discard = false)
    (h3 : pd2Off s = false) (h4 : s.log.queue.length < 512) :
    ∃ r more, (changeRecord p tag op inst x y fwd s).log.queue = s.log.queue ++ r :: more ∧ r.code = 0xC000 + (opInfo op).code ∧ r.seq = s.log.seq ∧
      r.payload = [BitVec.ofNat 8 tag, BitVec.ofNat 8 inst] ++ leBytes 4 x.toNat ++ leBytes 4 y.toNat := by
  unfold changeRecord; extract_lets code s1
  have e := newRec_now (code := 0xC000 + code) (source := 0x80 + portNum p) (sev := 1) (fwd := fwd)
    (b := [BitVec.ofNat 8 tag, BitVec.ofNat 8 inst] ++ leBytes 4 x.toNat ++ leBytes 4 y.toNat) (code_limited op) h2 h3 h4
  obtain ⟨m1, k1⟩ := overflow_lgrows s (newRec (0xC000 + code) (0x80 + portNum p) 1 fwd
    ([BitVec.ofNat 8 tag, BitVec.ofNat 8 inst] ++ leBytes 4 x.toNat ++ leBytes 4 y.toNat) s).1
  obtain ⟨m2, k2⟩ := raise_lgrows 123 (portNum p * 4096 + code) s1
  exact ⟨_, m1 ++ m2, by rw [k2]; simp only [s1]; rw [k1, e, List.append_assoc, List.append_assoc]; rfl, rfl, rfl, rfl⟩

theorem overflow_ready (a b : State) : (overflow a b).hp = b.hp := overflow_same _ _ .hp (by decide)

theorem overflow_events (a b : State) (h : b.ev = a.ev) : EventsBut [120] a (overflow a b) := by
  intro m hm
  rcases overflow_src a b with e | ⟨d, mt, e⟩ <;> refine (congrArg (fun v => v[m]) e).trans ?_
  · rw [h]
  · simp only [occur_src, h]; exact upd_other _ _ _ _ (by simpa using hm)

theorem changeRecord_events (p : Port) (tag : Nat) (op : Op) (inst : Nat) (x y : Word) (fwd : Bool) (s : State) (hr : s.hp.ready = true) :
    Occurred 123 (portNum p * 4096 + (opInfo op).code) s (changeRecord p tag op inst x y fwd s) ∧ EventsBut [123, 120] s (changeRecord p tag op inst x y fwd s) := by
  unfold changeRecord; extract_lets code s1
  have h1 : EventsBut [120] s s1 := overflow_events _ _ (by simp)
  have hr1 : s1.hp.ready = true := by simp only [s1, overflow_ready]; simpa using hr
  have e := raiseAt_src_self 123 (portNum p * 4096 + code) s1.time.mt s1 hr1 (by decide)
  rw [h1 123 (by decide)] at e
  refine ⟨⟨congrArg EvSrc.pend e, congrArg EvSrc.count e, congrArg EvSrc.lastDetail e⟩, ?_⟩
  intro m hm
  have hm' : m ≠ 123 ∧ m ≠ 120 := by simpa using hm
  exact (raiseAt_src_other 123 m _ _ s1 hm'.1 hm'.2).trans (h1 m (by simpa using hm'.2))

theorem promote_work (t : Timing) (s : State) : (promote t s).cfg.work = s.cfg.work := rfl

theorem changeRecord_cfg' (p : Port) (tag : Nat) (op : Op) (inst : Nat) (x y : Word) (fwd : Bool) (s : State) : (changeRecord p tag op inst x y fwd s).cfg = s.cfg := by simp

/-- What setConfig leaves in the working configuration. -/
theorem setConfig_work (p : Port) (tag : Nat) (op : Op) (inst : Nat) (ws : List Word) (fwd : Bool) (s : State) :
    (setConfig p tag op inst ws fwd s).cfg.work = cfgSet op inst ws (if op = .fusRefConfig then cfgRemove .fusRefEnable inst s.cfg.work else s.cfg.work) := by
  simp only [setConfig, changeRecord_cfg']
  split <;> simp [promote_work]

theorem setConfig_late (p : Port) (tag : Nat) (op : Op) (inst : Nat) (ws : List Word) (fwd : Bool) (s : State) (h : timing op ≠ .now) :
    (setConfig p tag op inst ws fwd s).cfg.force = s.cfg.force ∧ (op, inst) ∈ (setConfig p tag op inst ws fwd s).cfg.pend := by
  have h' : (timing op == .now) = false := by simpa using h
  simp only [setConfig, changeRecord_cfg', h', Bool.false_or]
  refine ⟨rfl, ?_⟩
  simp only [if_false, Bool.false_eq_true, State.onCfg_cfg]
  split
  · rename_i h2; simpa using h2
  · simp

theorem filter_insert {P : CfgEntry → Bool} (e : CfgEntry) (l : List CfgEntry) (hl : l.filter P = []) : (cfgInsert e l).filter P = if P e then [e] else [] := by
  induction l with
  | nil => cases h : P e <;> simp [cfgInsert, List.filter_cons, h]
  | cons x xs ih =>
    have hx : P x = false := by
      cases h : P x
      · rfl
      · simp [List.filter_cons, h] at hl
    have hxs : xs.filter P = [] := by simpa [List.filter_cons, hx] using hl
    simp only [cfgInsert]
    split
    · simp only [List.filter_cons, hx, hxs]; cases P e <;> simp
    · simp [List.filter_cons, hx, ih hxs]

theorem find_foldl_none {P : CfgEntry → Bool} (es base : List CfgEntry) (h : es.filter P = []) :
    (es.foldl (fun l e => cfgInsert e l) base).find? P = base.find? P := by
  induction es generalizing base with
  | nil => rfl
  | cons e es ih =>
    have he : P e = false := by
      cases k : P e
      · rfl
      · simp [List.filter_cons, k] at h
    have hes : es.filter P = [] := by simpa [List.filter_cons, he] using h
    rw [List.foldl_cons, ih _ hes, find_insert _ _ (by simp [he]), he]; rfl

theorem find_foldl_one {P : CfgEntry → Bool} (es base : List CfgEntry) (x : CfgEntry) (h : es.filter P = [x]) (hb : base.find? P = none) :
    (es.foldl (fun l e => cfgInsert e l) base).find? P = some x := by
  induction es generalizing base with
  | nil => simp at h
  | cons e es ih =>
    rw [List.foldl_cons]
    by_cases he : P e = true
    · simp only [List.filter_cons, he, if_true] at h
      injection h with h1 h2
      rw [find_foldl_none _ _ h2, find_insert _ _ (fun _ => hb), if_pos he, h1]
    · have he' : P e = false := by simpa using he
      refine ih _ (by simpa [List.filter_cons, he'] using h) ?_
      rw [find_insert _ _ (by simp [he']), he']; exact hb

theorem filter_remove_self (op : Op) (i : Nat) (l : List CfgEntry) : (cfgRemove op i l).filter (fun e => e.op == op && e.inst == i) = [] := by
  have := find_remove_self op i l
  simp only [cfgFind, Option.map_eq_none_iff] at this
  rw [List.find?_eq_none] at this
  exact List.filter_eq_nil_iff.2 this

/-- A function and instance that takes effect at once is in force as it is set. -/
theorem setConfig_now (p : Port) (tag : Nat) (op : Op) (inst : Nat) (ws : List Word) (fwd : Bool) (s : State) (h : timing op = .now)
    (hu : unconfigures op ws = false) : cfgGet (setConfig p tag op inst ws fwd s).cfg.force op inst = ws := by
  have h' : (timing op == .now) = true := by simpa using h
  simp only [setConfig, changeRecord_cfg', h', if_true, promote, State.onCfg_cfg]
  generalize hw0 : (if op = .fusRefConfig then cfgRemove .fusRefEnable inst s.cfg.work else s.cfg.work) = w0
  have hb : (s.cfg.force.filter fun e => timing e.op != .now).find? (fun e => e.op == op && e.inst == inst) = none := by
    rw [List.find?_eq_none]; intro x hx hc
    simp at hx hc
    exact hx.2 (hc.1 ▸ h)
  simp only [cfgSet, hu, Bool.or_false]
  split
  · rename_i hl
    have hl' : lennov op inst = some ws := by simpa using hl
    have hes : ((cfgRemove op inst w0).filter fun e => timing e.op == .now).filter (fun e => e.op == op && e.inst == inst) = [] := by
      rw [List.filter_comm, filter_remove_self]; rfl
    simp [cfgGet, cfgFind, find_foldl_none _ _ hes, hb, hl']
  · have hes : ((cfgInsert ⟨op, inst, ws⟩ (cfgRemove op inst w0)).filter fun e => timing e.op == .now).filter (fun e => e.op == op && e.inst == inst) = [⟨op, inst, ws⟩] := by
      rw [List.filter_comm, filter_insert _ _ (filter_remove_self _ _ _)]
      simp [h]
    simp [cfgGet, cfgFind, find_foldl_one _ _ _ hes hb]

theorem configRow_configured {p : Port} {c : Cmd} {s : State} {op : Op} {check} (h : Heard p c s) (ho : c.op = op)
    (hk : check c (expertWords op c.expert c.words) (s.onPort p fun q => { q with accepted := none }) = none) :
    Configured p c s (configRow op p check s) := by
  subst ho
  unfold configRow
  rw [runOpV_heard h _ _ (by simp [hk, badOf])]
  simp only [hk]
  set s0 := s.onPort p fun q => { q with accepted := none } with hs0
  set ws := expertWords c.op c.expert c.words
  set u := setConfig p c.tag c.op (instOf c.op ws) ws false s0
  have hu : Unanswered p c (forward p c u) := by
    refine h.taken.of_outstanding ?_
    rw [forward_port]; exact setConfig_port_outstanding _ _ _ _ _ _ _ _
  have hw : u.cfg.work = cfgSet c.op (instOf c.op ws) ws (if c.op = .fusRefConfig then cfgRemove .fusRefEnable (instOf c.op ws) s.cfg.work else s.cfg.work) := by
    simp only [u, setConfig_work]; simp [s0]
  have hcfg : (ok p c 0 [] (forward p c u)).cfg = u.cfg := by simp
  have hev : (ok p c 0 [] (forward p c u)).ev = u.ev := by simp
  have hlog : (ok p c 0 [] (forward p c u)).log = u.log := by simp
  refine ⟨ok_replied hu 0 [], ?_, ?_, ?_, ?_, ?_, ?_, ?_⟩
  · intro hn; rw [hcfg, hw]; exact cfgSet_self _ _ _ _ hn
  · intro hn; rw [hcfg, hw]; exact cfgSet_unconf _ _ _ _ hn
  · intro op' i' h1 h2
    rw [hcfg, hw, cfgSet_other _ _ _ _ _ _ h1]
    split
    · rename_i e
      simp only [cfgGet]
      rw [find_remove_other _ _ _ _ _ (fun hh => h2 ⟨e, hh.1, hh.2⟩)]
    · rfl
  · intro ht hn
    rw [hcfg]; exact setConfig_now _ _ _ _ _ _ _ ht hn
  · intro ht
    rw [hcfg]
    have := setConfig_late p c.tag c.op (instOf c.op ws) ws false s0 ht
    simpa [s0] using this
  · intro hr
    have hex : ∃ s2 : State, s2.ev = s.ev ∧ s2.hp = s.hp ∧ ∃ a b, u = changeRecord p c.tag c.op (instByte c.op (instOf c.op ws)) a b false s2 := by
      refine ⟨_, ?_, ?_, _, _, rfl⟩
      · split <;> simp [s0]
      · split <;> simp [s0]
    obtain ⟨s2, e1, e2, a, b, e3⟩ := hex
    have := changeRecord_events p c.tag c.op (instByte c.op (instOf c.op ws)) a b false s2 (by rw [e2]; exact hr)
    rw [← e3] at this
    refine ⟨?_, ?_⟩
    · have h1 := this.1.of_ev hev
      simpa only [Occurred, e1] using h1
    · have h1 := this.2.of_ev hev
      simpa only [EventsBut, e1] using h1
  · intro hd hp hq
    have hex : ∃ s2 : State, s2.log = s.log ∧ s2.hp = s.hp ∧ s2.sys = s.sys ∧ s2.cfg.work = u.cfg.work ∧ u = changeRecord p c.tag c.op (instByte c.op (instOf c.op ws)) (cfgHash s0.cfg.work c.op (instOf c.op ws)) (cfgHash s2.cfg.work c.op (instOf c.op ws)) false s2 := by
      refine ⟨if (timing c.op == Timing.now) = true then promote .now (s0.onCfg _) else s0.onCfg _, ?_, ?_, ?_, ?_, rfl⟩
      · split <;> simp [s0]
      · split <;> simp [s0]
      · split <;> simp [s0]
      · simp only [u, setConfig_work]
        split <;> simp [promote_work, s0]
    obtain ⟨s2, e1, e2, e4, e5, e3⟩ := hex
    obtain ⟨r, more, k1, k2, k3, k4⟩ := changeRecord_grows p c.tag c.op (instByte c.op (instOf c.op ws)) (cfgHash s0.cfg.work c.op (instOf c.op ws)) (cfgHash s2.cfg.work c.op (instOf c.op ws)) false s2
      (by rw [e1]; exact hd) (by simpa [pd2Off, e2, e4] using hp) (by rw [e1]; exact hq)
    rw [← e3] at k1
    exact ⟨r, more, by rw [hlog, k1, e1], k2, by rw [k3, e1], by rw [k4, e5, hcfg, show s0.cfg.work = s.cfg.work by simp [s0]]⟩

theorem configRow_refused {p : Port} {c : Cmd} {s : State} {op : Op} {check} {st d : Nat} (h : Heard p c s) (ho : c.op = op)
    (hk : check c (expertWords op c.expert c.words) (s.onPort p fun q => { q with accepted := none }) = some (st, d)) :
    Replied p c 3 st d [] (configRow op p check s) ∧ SameBut [.host, .maint, .sys] s (configRow op p check s) := by
  subst ho
  unfold configRow
  by_cases hs : st = 0xF016
  · subst hs
    rw [runOpV_bad h (i := d) _ _ (by simp [hk, badOf])]
    exact ⟨badValue_replied h.taken d, (SameBut.onPort p _ (SameBut.refl _ s) (by decide)).reply _ _ _ _ _ _⟩
  · rw [runOpV_heard h _ _ (by simp only [hk, badOf]; split <;> simp_all)]
    simp only [hk]
    exact ⟨reject_replied h.taken st d, (SameBut.onPort p _ (SameBut.refl _ s) (by decide)).reply _ _ _ _ _ _⟩

end Sys2Proof.Machine
end

