-- ==== Sys2Proof/Laws/FrameBuses.lean ====
section
/-! SUPPORT. What each operation of Machine/Buses.lean leaves alone: every part of the state but those listed. -/

namespace Sys2Proof.Machine

set_option linter.all false

theorem canTakes_same (c : Fin 6) (s : State) : SameBut [.can] s (canTakes c s) := by
  unfold canTakes
  repeat' first
    | (extract_lets +onlyGivenNames u_; first | (apply SameBut.gen (u := u_); (on_goal 1 => (dsimp -zeta -zetaHave only [u_]; clear u_)); (on_goal 2 => (clear_value u_; revert u_; intros))) | (clear_value u_; revert u_; intros) | (revert u_; intros))
    | with_reducible assumption
    | with_reducible apply SameBut.refl
    | ((with_reducible apply SameBut.onCan); (case hl => rfl))
    | split
    | dsimp only

theorem canOwnerChange_same (s : State) : SameBut [.can] s (canOwnerChange s) := by
  unfold canOwnerChange
  repeat' first
    | (extract_lets +onlyGivenNames u_; first | (apply SameBut.gen (u := u_); (on_goal 1 => (dsimp -zeta -zetaHave only [u_]; clear u_)); (on_goal 2 => (clear_value u_; revert u_; intros))) | (clear_value u_; revert u_; intros) | (revert u_; intros))
    | with_reducible assumption
    | with_reducible apply SameBut.refl
    | ((with_reducible apply SameBut.onCan); (case hl => rfl))
    | split
    | dsimp only

theorem canRelease_same (s : State) : SameBut [.can] s (canRelease s) := by
  unfold canRelease
  repeat' first
    | (extract_lets +onlyGivenNames u_; first | (apply SameBut.gen (u := u_); (on_goal 1 => (dsimp -zeta -zetaHave only [u_]; clear u_)); (on_goal 2 => (clear_value u_; revert u_; intros))) | (clear_value u_; revert u_; intros) | (revert u_; intros))
    | with_reducible assumption
    | with_reducible apply SameBut.refl
    | ((with_reducible apply SameBut.onCan); (case hl => rfl))
    | split
    | dsimp only

theorem canPd4Off_same (s : State) : SameBut [.can] s (canPd4Off s) := by
  unfold canPd4Off
  repeat' first
    | (extract_lets +onlyGivenNames u_; first | (apply SameBut.gen (u := u_); (on_goal 1 => (dsimp -zeta -zetaHave only [u_]; clear u_)); (on_goal 2 => (clear_value u_; revert u_; intros))) | (clear_value u_; revert u_; intros) | (revert u_; intros))
    | with_reducible assumption
    | with_reducible apply SameBut.refl
    | ((with_reducible apply SameBut.onCan); (case hl => rfl))
    | split
    | dsimp only

theorem canPd4On_same (s : State) : SameBut [.can] s (canPd4On s) := by
  unfold canPd4On
  repeat' first
    | (extract_lets +onlyGivenNames u_; first | (apply SameBut.gen (u := u_); (on_goal 1 => (dsimp -zeta -zetaHave only [u_]; clear u_)); (on_goal 2 => (clear_value u_; revert u_; intros))) | (clear_value u_; revert u_; intros) | (revert u_; intros))
    | with_reducible assumption
    | with_reducible apply SameBut.refl
    | ((with_reducible apply SameBut.onCan); (case hl => rfl))
    | split
    | dsimp only

theorem canPd4Sleep_same (s : State) : SameBut [.can] s (canPd4Sleep s) := by
  unfold canPd4Sleep
  repeat' first
    | (extract_lets +onlyGivenNames u_; first | (apply SameBut.gen (u := u_); (on_goal 1 => (dsimp -zeta -zetaHave only [u_]; clear u_)); (on_goal 2 => (clear_value u_; revert u_; intros))) | (clear_value u_; revert u_; intros) | (revert u_; intros))
    | with_reducible assumption
    | with_reducible apply SameBut.refl
    | ((with_reducible apply SameBut.onCan); (case hl => rfl))
    | split
    | dsimp only

theorem canStates_same (before s : State) : SameBut [.host, .maint, .ev, .log] s (canStates before s) := by
  unfold canStates
  repeat' first
    | (extract_lets +onlyGivenNames u_; first | (apply SameBut.gen (u := u_); (on_goal 1 => (dsimp -zeta -zetaHave only [u_]; clear u_)); (on_goal 2 => (clear_value u_; revert u_; intros))) | (clear_value u_; revert u_; intros) | (revert u_; intros))
    | with_reducible assumption
    | with_reducible apply SameBut.refl
    | ((with_reducible apply SameBut.step (k := raise_same _ _ _)); (case hl => rfl))
    | with_reducible apply SameBut.foldl
    | with_reducible intro _
    | split
    | dsimp only

theorem execBusCanConfig_same (p : Port) (s : State) {t_ : State} (h_ : execBusCanConfig p s = .next t_) : SameBut [.host, .maint, .ev, .sys, .dpx, .cfg, .log] s t_ := by
  unfold execBusCanConfig at h_
  injection h_ with h_
  subst h_
  repeat' first
    | (extract_lets +onlyGivenNames u_; first | (apply SameBut.gen (u := u_); (on_goal 1 => (dsimp -zeta -zetaHave only [u_]; clear u_)); (on_goal 2 => (clear_value u_; revert u_; intros))) | (clear_value u_; revert u_; intros) | (revert u_; intros))
    | with_reducible assumption
    | with_reducible apply SameBut.refl
    | ((with_reducible apply SameBut.step (k := configRow_same _ _ _ _)); (case hl => rfl))
    | split
    | dsimp only

theorem execBusCanFilter_same (p : Port) (s : State) {t_ : State} (h_ : execBusCanFilter p s = .next t_) : SameBut [.host, .maint, .sys, .can] s t_ := by
  unfold execBusCanFilter at h_
  injection h_ with h_
  subst h_
  repeat' first
    | (extract_lets +onlyGivenNames u_; first | (apply SameBut.gen (u := u_); (on_goal 1 => (dsimp -zeta -zetaHave only [u_]; clear u_)); (on_goal 2 => (clear_value u_; revert u_; intros))) | (clear_value u_; revert u_; intros) | (revert u_; intros))
    | with_reducible assumption
    | with_reducible apply SameBut.refl
    | ((with_reducible apply SameBut.onCan); (case hl => rfl))
    | ((with_reducible apply SameBut.step (k := ok_same _ _ _ _ _)); (case hl => rfl))
    | ((with_reducible apply SameBut.runOp); (case hl => rfl))
    | with_reducible intro _
    | split
    | dsimp only

theorem rxPacket_same (c : Fin 6) (n : Nat) (s : State) : SameBut [.can] s (rxPacket c n s).2 := by
  unfold rxPacket
  repeat' first
    | (extract_lets +onlyGivenNames u_; first | (apply SameBut.gen (u := u_); (on_goal 1 => (dsimp -zeta -zetaHave only [u_]; clear u_)); (on_goal 2 => (clear_value u_; revert u_; intros))) | (clear_value u_; revert u_; intros) | (revert u_; intros))
    | with_reducible assumption
    | with_reducible apply SameBut.refl
    | ((with_reducible apply SameBut.onCan); (case hl => rfl))
    | split
    | dsimp only

theorem execBusCanReceive_same (p : Port) (s : State) {t_ : State} (h_ : execBusCanReceive p s = .next t_) : SameBut [.host, .maint, .sys, .can] s t_ := by
  unfold execBusCanReceive at h_
  injection h_ with h_
  subst h_
  repeat' first
    | (extract_lets +onlyGivenNames u_; first | (apply SameBut.gen (u := u_); (on_goal 1 => (dsimp -zeta -zetaHave only [u_]; clear u_)); (on_goal 2 => (clear_value u_; revert u_; intros))) | (clear_value u_; revert u_; intros) | (revert u_; intros))
    | with_reducible assumption
    | with_reducible apply SameBut.refl
    | ((with_reducible apply SameBut.step (k := ok_same _ _ _ _ _)); (case hl => rfl))
    | ((with_reducible apply SameBut.step (k := rxPacket_same _ _ _)); (case hl => rfl))
    | ((with_reducible apply SameBut.snd_ (k := rxPacket_same _ _ _) (by assumption)); (case hl => rfl))
    | ((with_reducible apply SameBut.runOp); (case hl => rfl))
    | with_reducible intro _
    | split
    | dsimp only

theorem execBusCanRecover_same (p : Port) (s : State) {t_ : State} (h_ : execBusCanRecover p s = .next t_) : SameBut [.host, .maint, .sys, .can] s t_ := by
  unfold execBusCanRecover at h_
  injection h_ with h_
  subst h_
  repeat' first
    | (extract_lets +onlyGivenNames u_; first | (apply SameBut.gen (u := u_); (on_goal 1 => (dsimp -zeta -zetaHave only [u_]; clear u_)); (on_goal 2 => (clear_value u_; revert u_; intros))) | (clear_value u_; revert u_; intros) | (revert u_; intros))
    | with_reducible assumption
    | with_reducible apply SameBut.refl
    | ((with_reducible apply SameBut.onCan); (case hl => rfl))
    | ((with_reducible apply SameBut.step (k := ok_same _ _ _ _ _)); (case hl => rfl))
    | ((with_reducible apply SameBut.step (k := reject_same _ _ _ _ _)); (case hl => rfl))
    | ((with_reducible apply SameBut.runOp); (case hl => rfl))
    | with_reducible intro _
    | split
    | dsimp only

theorem execBusCanRelease_same (p : Port) (s : State) {t_ : State} (h_ : execBusCanRelease p s = .next t_) : SameBut [.host, .maint, .sys, .can] s t_ := by
  unfold execBusCanRelease at h_
  injection h_ with h_
  subst h_
  repeat' first
    | (extract_lets +onlyGivenNames u_; first | (apply SameBut.gen (u := u_); (on_goal 1 => (dsimp -zeta -zetaHave only [u_]; clear u_)); (on_goal 2 => (clear_value u_; revert u_; intros))) | (clear_value u_; revert u_; intros) | (revert u_; intros))
    | with_reducible assumption
    | with_reducible apply SameBut.refl
    | ((with_reducible apply SameBut.onCan); (case hl => rfl))
    | ((with_reducible apply SameBut.step (k := ok_same _ _ _ _ _)); (case hl => rfl))
    | ((with_reducible apply SameBut.runOp); (case hl => rfl))
    | with_reducible intro _
    | split
    | dsimp only

theorem execBusCanSend_same (p : Port) (s : State) {t_ : State} (h_ : execBusCanSend p s = .next t_) : SameBut [.host, .maint, .sys, .can] s t_ := by
  unfold execBusCanSend at h_
  injection h_ with h_
  subst h_
  repeat' first
    | (extract_lets +onlyGivenNames u_; first | (apply SameBut.gen (u := u_); (on_goal 1 => (dsimp -zeta -zetaHave only [u_]; clear u_)); (on_goal 2 => (clear_value u_; revert u_; intros))) | (clear_value u_; revert u_; intros) | (revert u_; intros))
    | with_reducible assumption
    | with_reducible apply SameBut.refl
    | ((with_reducible apply SameBut.onCan); (case hl => rfl))
    | ((with_reducible apply SameBut.step (k := ok_same _ _ _ _ _)); (case hl => rfl))
    | ((with_reducible apply SameBut.step (k := reject_same _ _ _ _ _)); (case hl => rfl))
    | ((with_reducible apply SameBut.runOp); (case hl => rfl))
    | with_reducible intro _
    | split
    | dsimp only

theorem onCtl_same (c : Fin 6) (f : CanState → CanState) (s : State) : SameBut [.host, .maint, .ev, .can, .log] s (onCtl c f s) := by
  unfold onCtl
  repeat' first
    | (extract_lets +onlyGivenNames u_; first | (apply SameBut.gen (u := u_); (on_goal 1 => (dsimp -zeta -zetaHave only [u_]; clear u_)); (on_goal 2 => (clear_value u_; revert u_; intros))) | (clear_value u_; revert u_; intros) | (revert u_; intros))
    | with_reducible assumption
    | with_reducible apply SameBut.refl
    | ((with_reducible apply SameBut.onCan); (case hl => rfl))
    | ((with_reducible apply SameBut.step (k := canStates_same _ _)); (case hl => rfl))
    | split
    | dsimp only

theorem execBusCanSleep_same (p : Port) (s : State) {t_ : State} (h_ : execBusCanSleep p s = .next t_) : SameBut [.host, .maint, .ev, .sys, .can, .log] s t_ := by
  unfold execBusCanSleep at h_
  injection h_ with h_
  subst h_
  repeat' first
    | (extract_lets +onlyGivenNames u_; first | (apply SameBut.gen (u := u_); (on_goal 1 => (dsimp -zeta -zetaHave only [u_]; clear u_)); (on_goal 2 => (clear_value u_; revert u_; intros))) | (clear_value u_; revert u_; intros) | (revert u_; intros))
    | with_reducible assumption
    | with_reducible apply SameBut.refl
    | ((with_reducible apply SameBut.step (k := ok_same _ _ _ _ _)); (case hl => rfl))
    | ((with_reducible apply SameBut.step (k := onCtl_same _ _ _)); (case hl => rfl))
    | ((with_reducible apply SameBut.step (k := reject_same _ _ _ _ _)); (case hl => rfl))
    | ((with_reducible apply SameBut.runOpV); (case hl => rfl))
    | with_reducible intro _
    | split
    | dsimp only

theorem execBusCanStatus_same (p : Port) (s : State) {t_ : State} (h_ : execBusCanStatus p s = .next t_) : SameBut [.host, .maint, .sys] s t_ := by
  unfold execBusCanStatus at h_
  injection h_ with h_
  subst h_
  repeat' first
    | (extract_lets +onlyGivenNames u_; first | (apply SameBut.gen (u := u_); (on_goal 1 => (dsimp -zeta -zetaHave only [u_]; clear u_)); (on_goal 2 => (clear_value u_; revert u_; intros))) | (clear_value u_; revert u_; intros) | (revert u_; intros))
    | with_reducible assumption
    | with_reducible apply SameBut.refl
    | ((with_reducible apply SameBut.step (k := ok_same _ _ _ _ _)); (case hl => rfl))
    | ((with_reducible apply SameBut.runOp); (case hl => rfl))
    | with_reducible intro _
    | split
    | dsimp only

theorem execBusStream_same (p : Port) (s : State) {t_ : State} (h_ : execBusStream p s = .next t_) : SameBut [.host, .maint, .sys, .subs] s t_ := by
  unfold execBusStream at h_
  injection h_ with h_
  subst h_
  repeat' first
    | (extract_lets +onlyGivenNames u_; first | (apply SameBut.gen (u := u_); (on_goal 1 => (dsimp -zeta -zetaHave only [u_]; clear u_)); (on_goal 2 => (clear_value u_; revert u_; intros))) | (clear_value u_; revert u_; intros) | (revert u_; intros))
    | with_reducible assumption
    | with_reducible apply SameBut.refl
    | ((with_reducible apply SameBut.step (k := badValue_same _ _ _ _)); (case hl => rfl))
    | ((with_reducible apply SameBut.step (k := ok_same _ _ _ _ _)); (case hl => rfl))
    | ((with_reducible apply SameBut.step (k := subscribe_same _ _ _ _ _ _)); (case hl => rfl))
    | ((with_reducible apply SameBut.runOp); (case hl => rfl))
    | with_reducible intro _
    | split
    | dsimp only

theorem rxStream_same (c : Fin 6) (n : Nat) (s : State) : SameBut [.host, .maint, .can] s (rxStream c n s) := by
  induction n generalizing s with
  | zero => exact SameBut.refl _ _
  | succ n ih =>
    unfold rxStream
    repeat' first
      | (extract_lets +onlyGivenNames u_; first | (apply SameBut.gen (u := u_); (on_goal 1 => (dsimp -zeta -zetaHave only [u_]; clear u_)); (on_goal 2 => (clear_value u_; revert u_; intros))) | (clear_value u_; revert u_; intros) | (revert u_; intros))
      | with_reducible assumption
      | with_reducible apply SameBut.refl
      | ((with_reducible apply SameBut.step (k := stream_same _ _ _ _)); (case hl => rfl))
      | ((with_reducible apply SameBut.step (k := rxPacket_same _ _ _)); (case hl => rfl))
      | ((with_reducible apply SameBut.snd_ (k := rxPacket_same _ _ _) (by assumption)); (case hl => rfl))
      | (with_reducible apply SameBut.trans (k := ih _))
      | split

theorem uartPacket_same (u kind mt : Nat) (bs : List Byte) (s : State) : SameBut [.host, .maint] s (uartPacket u kind mt bs s) := by
  unfold uartPacket
  repeat' first
    | (extract_lets +onlyGivenNames u_; first | (apply SameBut.gen (u := u_); (on_goal 1 => (dsimp -zeta -zetaHave only [u_]; clear u_)); (on_goal 2 => (clear_value u_; revert u_; intros))) | (clear_value u_; revert u_; intros) | (revert u_; intros))
    | with_reducible assumption
    | with_reducible apply SameBut.refl
    | ((with_reducible apply SameBut.step (k := stream_same _ _ _ _)); (case hl => rfl))
    | split
    | dsimp only

theorem execBusStreamPoint_same (s : State) {t_ : State} (h_ : execBusStreamPoint s = .next t_) : SameBut [.host, .maint, .time, .can, .uart] s t_ := by
  unfold execBusStreamPoint at h_
  injection h_ with h_
  subst h_
  repeat' first
    | (extract_lets +onlyGivenNames u_; first | (apply SameBut.gen (u := u_); (on_goal 1 => (dsimp -zeta -zetaHave only [u_]; clear u_)); (on_goal 2 => (clear_value u_; revert u_; intros))) | (clear_value u_; revert u_; intros) | (revert u_; intros))
    | with_reducible assumption
    | with_reducible apply SameBut.refl
    | ((with_reducible apply SameBut.onUart); (case hl => rfl))
    | ((with_reducible apply SameBut.step (k := advanceTo_same _ _)); (case hl => rfl))
    | ((with_reducible apply SameBut.step (k := rxStream_same _ _ _)); (case hl => rfl))
    | ((with_reducible apply SameBut.step (k := uartPacket_same _ _ _ _ _)); (case hl => rfl))
    | with_reducible apply SameBut.foldl
    | with_reducible intro _
    | split
    | dsimp only

theorem execBusUartConfig_same (p : Port) (s : State) {t_ : State} (h_ : execBusUartConfig p s = .next t_) : SameBut [.host, .maint, .ev, .sys, .dpx, .cfg, .log] s t_ := by
  unfold execBusUartConfig at h_
  injection h_ with h_
  subst h_
  repeat' first
    | (extract_lets +onlyGivenNames u_; first | (apply SameBut.gen (u := u_); (on_goal 1 => (dsimp -zeta -zetaHave only [u_]; clear u_)); (on_goal 2 => (clear_value u_; revert u_; intros))) | (clear_value u_; revert u_; intros) | (revert u_; intros))
    | with_reducible assumption
    | with_reducible apply SameBut.refl
    | ((with_reducible apply SameBut.step (k := configRow_same _ _ _ _)); (case hl => rfl))
    | split
    | dsimp only

theorem execBusUartSend_same (p : Port) (s : State) {t_ : State} (h_ : execBusUartSend p s = .next t_) : SameBut [.host, .maint, .sys, .uart] s t_ := by
  unfold execBusUartSend at h_
  injection h_ with h_
  subst h_
  repeat' first
    | (extract_lets +onlyGivenNames u_; first | (apply SameBut.gen (u := u_); (on_goal 1 => (dsimp -zeta -zetaHave only [u_]; clear u_)); (on_goal 2 => (clear_value u_; revert u_; intros))) | (clear_value u_; revert u_; intros) | (revert u_; intros))
    | with_reducible assumption
    | with_reducible apply SameBut.refl
    | ((with_reducible apply SameBut.onUart); (case hl => rfl))
    | ((with_reducible apply SameBut.step (k := ok_same _ _ _ _ _)); (case hl => rfl))
    | ((with_reducible apply SameBut.step (k := reject_same _ _ _ _ _)); (case hl => rfl))
    | ((with_reducible apply SameBut.runOpV); (case hl => rfl))
    | with_reducible intro _
    | split
    | dsimp only

theorem execBusUartStatus_same (p : Port) (s : State) {t_ : State} (h_ : execBusUartStatus p s = .next t_) : SameBut [.host, .maint, .sys] s t_ := by
  unfold execBusUartStatus at h_
  injection h_ with h_
  subst h_
  repeat' first
    | (extract_lets +onlyGivenNames u_; first | (apply SameBut.gen (u := u_); (on_goal 1 => (dsimp -zeta -zetaHave only [u_]; clear u_)); (on_goal 2 => (clear_value u_; revert u_; intros))) | (clear_value u_; revert u_; intros) | (revert u_; intros))
    | with_reducible assumption
    | with_reducible apply SameBut.refl
    | ((with_reducible apply SameBut.step (k := ok_same _ _ _ _ _)); (case hl => rfl))
    | ((with_reducible apply SameBut.runOp); (case hl => rfl))
    | with_reducible intro _
    | split
    | dsimp only

theorem execCanBusOff_same (c : Fin 6) (s : State) {t_ : State} (h_ : execCanBusOff c s = .next t_) : SameBut [.host, .maint, .ev, .can, .log] s t_ := by
  unfold execCanBusOff at h_
  injection h_ with h_
  subst h_
  repeat' first
    | (extract_lets +onlyGivenNames u_; first | (apply SameBut.gen (u := u_); (on_goal 1 => (dsimp -zeta -zetaHave only [u_]; clear u_)); (on_goal 2 => (clear_value u_; revert u_; intros))) | (clear_value u_; revert u_; intros) | (revert u_; intros))
    | with_reducible assumption
    | with_reducible apply SameBut.refl
    | ((with_reducible apply SameBut.step (k := onCtl_same _ _ _)); (case hl => rfl))
    | split
    | dsimp only

theorem execCanBusOffRecovery_same (c : Fin 6) (s : State) {t_ : State} (h_ : execCanBusOffRecovery c s = .next t_) : SameBut [.host, .maint, .ev, .can, .log] s t_ := by
  unfold execCanBusOffRecovery at h_
  injection h_ with h_
  subst h_
  repeat' first
    | (extract_lets +onlyGivenNames u_; first | (apply SameBut.gen (u := u_); (on_goal 1 => (dsimp -zeta -zetaHave only [u_]; clear u_)); (on_goal 2 => (clear_value u_; revert u_; intros))) | (clear_value u_; revert u_; intros) | (revert u_; intros))
    | with_reducible assumption
    | with_reducible apply SameBut.refl
    | ((with_reducible apply SameBut.step (k := onCtl_same _ _ _)); (case hl => rfl))
    | split
    | dsimp only

theorem fifoTake_same (c : Fin 6) (f : CanFrame) (sof : Nat) (s : State) : SameBut [.host, .maint, .ev, .can, .log] s (fifoTake c f sof s) := by
  unfold fifoTake
  repeat' first
    | (extract_lets +onlyGivenNames u_; first | (apply SameBut.gen (u := u_); (on_goal 1 => (dsimp -zeta -zetaHave only [u_]; clear u_)); (on_goal 2 => (clear_value u_; revert u_; intros))) | (clear_value u_; revert u_; intros) | (revert u_; intros))
    | with_reducible assumption
    | with_reducible apply SameBut.refl
    | ((with_reducible apply SameBut.onCan); (case hl => rfl))
    | ((with_reducible apply SameBut.step (k := raise_same _ _ _)); (case hl => rfl))
    | split
    | dsimp only

theorem thrFeedback_same (t : Fin 16) (bs : List Byte) (s : State) : SameBut [.host, .maint, .sys, .alloc, .loop] s (thrFeedback t bs s) := by
  unfold thrFeedback
  repeat' first
    | (extract_lets +onlyGivenNames u_; first | (apply SameBut.gen (u := u_); (on_goal 1 => (dsimp -zeta -zetaHave only [u_]; clear u_)); (on_goal 2 => (clear_value u_; revert u_; intros))) | (clear_value u_; revert u_; intros) | (revert u_; intros))
    | with_reducible assumption
    | with_reducible apply SameBut.refl
    | ((with_reducible apply SameBut.onAlloc); (case hl => rfl))
    | ((with_reducible apply SameBut.onLoop); (case hl => rfl))
    | ((with_reducible apply SameBut.step (k := ok_same _ _ _ _ _)); (case hl => rfl))
    | split
    | dsimp only

theorem fnDeliver_same (c : Fin 6) (f : CanFrame) (s : State) : SameBut [.host, .maint, .sys, .alloc, .loop] s (fnDeliver c f s) := by
  unfold fnDeliver
  repeat' first
    | (extract_lets +onlyGivenNames u_; first | (apply SameBut.gen (u := u_); (on_goal 1 => (dsimp -zeta -zetaHave only [u_]; clear u_)); (on_goal 2 => (clear_value u_; revert u_; intros))) | (clear_value u_; revert u_; intros) | (revert u_; intros))
    | with_reducible assumption
    | with_reducible apply SameBut.refl
    | ((with_reducible apply SameBut.step (k := thrFeedback_same _ _ _)); (case hl => rfl))
    | with_reducible apply SameBut.foldl
    | with_reducible intro _
    | split
    | dsimp only

theorem execCanFrameReceive_same (c : Fin 6) (x : CanIn) (s : State) {t_ : State} (h_ : execCanFrameReceive c x s = .next t_) : SameBut [.host, .maint, .ev, .sys, .alloc, .loop, .can, .log] s t_ := by
  unfold execCanFrameReceive at h_
  injection h_ with h_
  subst h_
  repeat' first
    | (extract_lets +onlyGivenNames u_; first | (apply SameBut.gen (u := u_); (on_goal 1 => (dsimp -zeta -zetaHave only [u_]; clear u_)); (on_goal 2 => (clear_value u_; revert u_; intros))) | (clear_value u_; revert u_; intros) | (revert u_; intros))
    | with_reducible assumption
    | with_reducible apply SameBut.refl
    | ((with_reducible apply SameBut.onCan); (case hl => rfl))
    | ((with_reducible apply SameBut.step (k := fifoTake_same _ _ _ _)); (case hl => rfl))
    | ((with_reducible apply SameBut.step (k := fnDeliver_same _ _ _)); (case hl => rfl))
    | ((with_reducible apply SameBut.step (k := onCtl_same _ _ _)); (case hl => rfl))
    | split
    | dsimp only

theorem execCanIntegration_same (c : Fin 6) (s : State) {t_ : State} (h_ : execCanIntegration c s = .next t_) : SameBut [.can] s t_ := by
  unfold execCanIntegration at h_
  injection h_ with h_
  subst h_
  repeat' first
    | (extract_lets +onlyGivenNames u_; first | (apply SameBut.gen (u := u_); (on_goal 1 => (dsimp -zeta -zetaHave only [u_]; clear u_)); (on_goal 2 => (clear_value u_; revert u_; intros))) | (clear_value u_; revert u_; intros) | (revert u_; intros))
    | with_reducible assumption
    | with_reducible apply SameBut.refl
    | ((with_reducible apply SameBut.onCan); (case hl => rfl))
    | split
    | dsimp only

theorem execCanSleepEffect_same (c : Fin 6) (s : State) {t_ : State} (h_ : execCanSleepEffect c s = .next t_) : SameBut [.host, .maint, .ev, .can, .log] s t_ := by
  unfold execCanSleepEffect at h_
  injection h_ with h_
  subst h_
  repeat' first
    | (extract_lets +onlyGivenNames u_; first | (apply SameBut.gen (u := u_); (on_goal 1 => (dsimp -zeta -zetaHave only [u_]; clear u_)); (on_goal 2 => (clear_value u_; revert u_; intros))) | (clear_value u_; revert u_; intros) | (revert u_; intros))
    | with_reducible assumption
    | with_reducible apply SameBut.refl
    | ((with_reducible apply SameBut.step (k := onCtl_same _ _ _)); (case hl => rfl))
    | split
    | dsimp only

theorem txFail_same (c : Fin 6) (kind : Fin 3) (s : State) : SameBut [.host, .maint, .ev, .can, .log] s (txFail c kind s) := by
  unfold txFail
  repeat' first
    | (extract_lets +onlyGivenNames u_; first | (apply SameBut.gen (u := u_); (on_goal 1 => (dsimp -zeta -zetaHave only [u_]; clear u_)); (on_goal 2 => (clear_value u_; revert u_; intros))) | (clear_value u_; revert u_; intros) | (revert u_; intros))
    | with_reducible assumption
    | with_reducible apply SameBut.refl
    | ((with_reducible apply SameBut.onCan); (case hl => rfl))
    | ((with_reducible apply SameBut.step (k := raise_same _ _ _)); (case hl => rfl))
    | split
    | dsimp only

theorem txEnd_same (c : Fin 6) (e : TxEntry) (r : TxResult) (s : State) : SameBut [.host, .maint, .ev, .can, .log] s (txEnd c e r s) := by
  unfold txEnd
  repeat' first
    | (extract_lets +onlyGivenNames u_; first | (apply SameBut.gen (u := u_); (on_goal 1 => (dsimp -zeta -zetaHave only [u_]; clear u_)); (on_goal 2 => (clear_value u_; revert u_; intros))) | (clear_value u_; revert u_; intros) | (revert u_; intros))
    | with_reducible assumption
    | with_reducible apply SameBut.refl
    | ((with_reducible apply SameBut.onCan); (case hl => rfl))
    | ((with_reducible apply SameBut.step (k := onCtl_same _ _ _)); (case hl => rfl))
    | ((with_reducible apply SameBut.step (k := raise_same _ _ _)); (case hl => rfl))
    | ((with_reducible apply SameBut.step (k := txFail_same _ _ _)); (case hl => rfl))
    | split
    | dsimp only

theorem execCanTransmitAttempt_same (c : Fin 6) (r : TxResult) (s : State) {t_ : State} (h_ : execCanTransmitAttempt c r s = .next t_) : SameBut [.host, .maint, .ev, .can, .log] s t_ := by
  unfold execCanTransmitAttempt at h_
  injection h_ with h_
  subst h_
  repeat' first
    | (extract_lets +onlyGivenNames u_; first | (apply SameBut.gen (u := u_); (on_goal 1 => (dsimp -zeta -zetaHave only [u_]; clear u_)); (on_goal 2 => (clear_value u_; revert u_; intros))) | (clear_value u_; revert u_; intros) | (revert u_; intros))
    | with_reducible assumption
    | with_reducible apply SameBut.refl
    | ((with_reducible apply SameBut.onCan); (case hl => rfl))
    | ((with_reducible apply SameBut.step (k := txEnd_same _ _ _ _)); (case hl => rfl))
    | split
    | dsimp only

theorem execCanWake_same (c : Fin 6) (w : CanWakeCause) (s : State) {t_ : State} (h_ : execCanWake c w s = .next t_) : SameBut [.host, .maint, .ev, .sys, .log] s t_ := by
  unfold execCanWake at h_
  injection h_ with h_
  subst h_
  repeat' first
    | (extract_lets +onlyGivenNames u_; first | (apply SameBut.gen (u := u_); (on_goal 1 => (dsimp -zeta -zetaHave only [u_]; clear u_)); (on_goal 2 => (clear_value u_; revert u_; intros))) | (clear_value u_; revert u_; intros) | (revert u_; intros))
    | with_reducible assumption
    | with_reducible apply SameBut.refl
    | ((with_reducible apply SameBut.step (k := raise_same _ _ _)); (case hl => rfl))
    | ((with_reducible apply SameBut.step (k := wakeTrigger_same _ _)); (case hl => rfl))
    | split
    | dsimp only

theorem queueFn_same (c : Fin 6) (who : CanOwner) (f : CanFrame) (s : State) : SameBut [.host, .maint, .ev, .can, .log] s (queueFn c who f s) := by
  unfold queueFn
  repeat' first
    | (extract_lets +onlyGivenNames u_; first | (apply SameBut.gen (u := u_); (on_goal 1 => (dsimp -zeta -zetaHave only [u_]; clear u_)); (on_goal 2 => (clear_value u_; revert u_; intros))) | (clear_value u_; revert u_; intros) | (revert u_; intros))
    | with_reducible assumption
    | with_reducible apply SameBut.refl
    | ((with_reducible apply SameBut.onCan); (case hl => rfl))
    | ((with_reducible apply SameBut.step (k := txFail_same _ _ _)); (case hl => rfl))
    | split
    | dsimp only

end Sys2Proof.Machine
end

