-- ==== Sys2Proof/Laws/FrameLoops.lean ====
section
/-! SUPPORT. What each operation of Machine/Loops.lean leaves alone: every part of the state but those listed. -/

namespace Sys2Proof.Machine

set_option linter.all false

theorem refreshEngines_same (s : State) : SameBut [.loop] s (refreshEngines s) := by
  unfold refreshEngines
  repeat' first
    | (extract_lets +onlyGivenNames u_; first | (apply SameBut.gen (u := u_); (on_goal 1 => (dsimp -zeta -zetaHave only [u_]; clear u_)); (on_goal 2 => (clear_value u_; revert u_; intros))) | (clear_value u_; revert u_; intros) | (revert u_; intros))
    | with_reducible assumption
    | with_reducible apply SameBut.refl
    | ((with_reducible apply SameBut.onLoop); (case hl => rfl))
    | split
    | dsimp only

theorem onProf_same (pc : Nat) (f : Prof → Prof) (s : State) : SameBut [.loop] s (onProf pc f s) := by
  unfold onProf
  repeat' first
    | (extract_lets +onlyGivenNames u_; first | (apply SameBut.gen (u := u_); (on_goal 1 => (dsimp -zeta -zetaHave only [u_]; clear u_)); (on_goal 2 => (clear_value u_; revert u_; intros))) | (clear_value u_; revert u_; intros) | (revert u_; intros))
    | with_reducible assumption
    | with_reducible apply SameBut.refl
    | ((with_reducible apply SameBut.onLoop); (case hl => rfl))
    | split
    | dsimp only

theorem follyEnd_same (cause : Nat) (s : State) : SameBut [.host, .maint, .ev, .sys, .loop, .log] s (follyEnd cause s) := by
  unfold follyEnd
  repeat' first
    | (extract_lets +onlyGivenNames u_; first | (apply SameBut.gen (u := u_); (on_goal 1 => (dsimp -zeta -zetaHave only [u_]; clear u_)); (on_goal 2 => (clear_value u_; revert u_; intros))) | (clear_value u_; revert u_; intros) | (revert u_; intros))
    | with_reducible assumption
    | with_reducible apply SameBut.refl
    | ((with_reducible apply SameBut.onLoop); (case hl => rfl))
    | ((with_reducible apply SameBut.step (k := finish_same _ _ _ _ _ _ _)); (case hl => rfl))
    | ((with_reducible apply SameBut.step (k := raise_same _ _ _)); (case hl => rfl))
    | split
    | dsimp only

theorem detectCause_same (t c : Nat) (s : State) : SameBut [.host, .maint, .ev, .alloc, .log] s (detectCause t c s) := by
  unfold detectCause
  repeat' first
    | (extract_lets +onlyGivenNames u_; first | (apply SameBut.gen (u := u_); (on_goal 1 => (dsimp -zeta -zetaHave only [u_]; clear u_)); (on_goal 2 => (clear_value u_; revert u_; intros))) | (clear_value u_; revert u_; intros) | (revert u_; intros))
    | with_reducible assumption
    | with_reducible apply SameBut.refl
    | ((with_reducible apply SameBut.onAlloc); (case hl => rfl))
    | ((with_reducible apply SameBut.step (k := raise_same _ _ _)); (case hl => rfl))
    | split
    | dsimp only

theorem driveOut_same (s0 : State) (le : Nat) (u : Int) (s : State) : SameBut [.loop] s (driveOut s0 le u s) := by
  unfold driveOut
  repeat' first
    | (extract_lets +onlyGivenNames u_; first | (apply SameBut.gen (u := u_); (on_goal 1 => (dsimp -zeta -zetaHave only [u_]; clear u_)); (on_goal 2 => (clear_value u_; revert u_; intros))) | (clear_value u_; revert u_; intros) | (revert u_; intros))
    | with_reducible assumption
    | with_reducible apply SameBut.refl
    | ((with_reducible apply SameBut.onLoop); (case hl => rfl))
    | ((with_reducible apply SameBut.step (k := onProf_same _ _ _)); (case hl => rfl))
    | split
    | dsimp only

theorem onEng_same (le : Nat) (f : Engine → Engine) (s : State) : SameBut [.loop] s (onEng le f s) := by
  unfold onEng
  repeat' first
    | (extract_lets +onlyGivenNames u_; first | (apply SameBut.gen (u := u_); (on_goal 1 => (dsimp -zeta -zetaHave only [u_]; clear u_)); (on_goal 2 => (clear_value u_; revert u_; intros))) | (clear_value u_; revert u_; intros) | (revert u_; intros))
    | with_reducible assumption
    | with_reducible apply SameBut.refl
    | ((with_reducible apply SameBut.onLoop); (case hl => rfl))
    | split
    | dsimp only

theorem follyStop_same (le : Option Nat) (cause : Nat) (s : State) : SameBut [.loop] s (follyStop le cause s) := by
  unfold follyStop
  repeat' first
    | (extract_lets +onlyGivenNames u_; first | (apply SameBut.gen (u := u_); (on_goal 1 => (dsimp -zeta -zetaHave only [u_]; clear u_)); (on_goal 2 => (clear_value u_; revert u_; intros))) | (clear_value u_; revert u_; intros) | (revert u_; intros))
    | with_reducible assumption
    | with_reducible apply SameBut.refl
    | ((with_reducible apply SameBut.onLoop); (case hl => rfl))
    | split
    | dsimp only

theorem execFollowingError_same (le : Fin 64) (s : State) {t_ : State} (h_ : execFollowingError le s = .next t_) : SameBut [.host, .maint, .ev, .time, .alloc, .loop, .log] s t_ := by
  unfold execFollowingError at h_
  injection h_ with h_
  subst h_
  repeat' first
    | (extract_lets +onlyGivenNames u_; first | (apply SameBut.gen (u := u_); (on_goal 1 => (dsimp -zeta -zetaHave only [u_]; clear u_)); (on_goal 2 => (clear_value u_; revert u_; intros))) | (clear_value u_; revert u_; intros) | (revert u_; intros))
    | with_reducible assumption
    | with_reducible apply SameBut.refl
    | ((with_reducible apply SameBut.step (k := advanceTo_same _ _)); (case hl => rfl))
    | ((with_reducible apply SameBut.step (k := detectCause_same _ _ _)); (case hl => rfl))
    | ((with_reducible apply SameBut.step (k := follyStop_same _ _ _)); (case hl => rfl))
    | ((with_reducible apply SameBut.step (k := onEng_same _ _ _)); (case hl => rfl))
    | ((with_reducible apply SameBut.step (k := raise_same _ _ _)); (case hl => rfl))
    | split
    | dsimp only

theorem execFollyComplete_same (s : State) {t_ : State} (h_ : execFollyComplete s = .next t_) : SameBut [.host, .maint, .ev, .sys, .loop, .log] s t_ := by
  unfold execFollyComplete at h_
  injection h_ with h_
  subst h_
  repeat' first
    | (extract_lets +onlyGivenNames u_; first | (apply SameBut.gen (u := u_); (on_goal 1 => (dsimp -zeta -zetaHave only [u_]; clear u_)); (on_goal 2 => (clear_value u_; revert u_; intros))) | (clear_value u_; revert u_; intros) | (revert u_; intros))
    | with_reducible assumption
    | with_reducible apply SameBut.refl
    | ((with_reducible apply SameBut.step (k := follyEnd_same _ _)); (case hl => rfl))
    | split
    | dsimp only

theorem execFollyStart_same (p : Port) (s : State) {t_ : State} (h_ : execFollyStart p s = .next t_) : SameBut [.host, .maint, .sys, .loop] s t_ := by
  unfold execFollyStart at h_
  injection h_ with h_
  subst h_
  repeat' first
    | (extract_lets +onlyGivenNames u_; first | (apply SameBut.gen (u := u_); (on_goal 1 => (dsimp -zeta -zetaHave only [u_]; clear u_)); (on_goal 2 => (clear_value u_; revert u_; intros))) | (clear_value u_; revert u_; intros) | (revert u_; intros))
    | with_reducible assumption
    | with_reducible apply SameBut.refl
    | ((with_reducible apply SameBut.onLoop); (case hl => rfl))
    | ((with_reducible apply SameBut.step (k := pending_same _ _ _ _)); (case hl => rfl))
    | ((with_reducible apply SameBut.step (k := reject_same _ _ _ _ _)); (case hl => rfl))
    | ((with_reducible apply SameBut.runOpV); (case hl => rfl))
    | with_reducible intro _
    | split
    | dsimp only

theorem execFollyStop_same (p : Port) (s : State) {t_ : State} (h_ : execFollyStop p s = .next t_) : SameBut [.host, .maint, .sys, .loop] s t_ := by
  unfold execFollyStop at h_
  injection h_ with h_
  subst h_
  repeat' first
    | (extract_lets +onlyGivenNames u_; first | (apply SameBut.gen (u := u_); (on_goal 1 => (dsimp -zeta -zetaHave only [u_]; clear u_)); (on_goal 2 => (clear_value u_; revert u_; intros))) | (clear_value u_; revert u_; intros) | (revert u_; intros))
    | with_reducible assumption
    | with_reducible apply SameBut.refl
    | ((with_reducible apply SameBut.step (k := follyStop_same _ _ _)); (case hl => rfl))
    | ((with_reducible apply SameBut.step (k := ok_same _ _ _ _ _)); (case hl => rfl))
    | ((with_reducible apply SameBut.runOp); (case hl => rfl))
    | with_reducible intro _
    | split
    | dsimp only

theorem execLoopClose_same (p : Port) (s : State) {t_ : State} (h_ : execLoopClose p s = .next t_) : SameBut [.host, .maint, .sys, .loop] s t_ := by
  unfold execLoopClose at h_
  injection h_ with h_
  subst h_
  repeat' first
    | (extract_lets +onlyGivenNames u_; first | (apply SameBut.gen (u := u_); (on_goal 1 => (dsimp -zeta -zetaHave only [u_]; clear u_)); (on_goal 2 => (clear_value u_; revert u_; intros))) | (clear_value u_; revert u_; intros) | (revert u_; intros))
    | with_reducible assumption
    | with_reducible apply SameBut.refl
    | ((with_reducible apply SameBut.step (k := ok_same _ _ _ _ _)); (case hl => rfl))
    | ((with_reducible apply SameBut.step (k := onEng_same _ _ _)); (case hl => rfl))
    | ((with_reducible apply SameBut.step (k := reject_same _ _ _ _ _)); (case hl => rfl))
    | ((with_reducible apply SameBut.runOp); (case hl => rfl))
    | with_reducible intro _
    | split
    | dsimp only

theorem execLoopConfig_same (p : Port) (s : State) {t_ : State} (h_ : execLoopConfig p s = .next t_) : SameBut [.host, .maint, .ev, .sys, .loop, .dpx, .cfg, .log] s t_ := by
  unfold execLoopConfig at h_
  injection h_ with h_
  subst h_
  repeat' first
    | (extract_lets +onlyGivenNames u_; first | (apply SameBut.gen (u := u_); (on_goal 1 => (dsimp -zeta -zetaHave only [u_]; clear u_)); (on_goal 2 => (clear_value u_; revert u_; intros))) | (clear_value u_; revert u_; intros) | (revert u_; intros))
    | with_reducible assumption
    | with_reducible apply SameBut.refl
    | ((with_reducible apply SameBut.step (k := refreshEngines_same _)); (case hl => rfl))
    | ((with_reducible apply SameBut.step (k := configRow_same _ _ _ _)); (case hl => rfl))
    | split
    | dsimp only

theorem execLoopGroup_same (p : Port) (s : State) {t_ : State} (h_ : execLoopGroup p s = .next t_) : SameBut [.host, .maint, .ev, .sys, .loop, .dpx, .cfg, .log] s t_ := by
  unfold execLoopGroup at h_
  injection h_ with h_
  subst h_
  repeat' first
    | (extract_lets +onlyGivenNames u_; first | (apply SameBut.gen (u := u_); (on_goal 1 => (dsimp -zeta -zetaHave only [u_]; clear u_)); (on_goal 2 => (clear_value u_; revert u_; intros))) | (clear_value u_; revert u_; intros) | (revert u_; intros))
    | with_reducible assumption
    | with_reducible apply SameBut.refl
    | ((with_reducible apply SameBut.onLoop); (case hl => rfl))
    | ((with_reducible apply SameBut.step (k := configRow_same _ _ _ _)); (case hl => rfl))
    | split
    | dsimp only

theorem execLoopOpen_same (p : Port) (s : State) {t_ : State} (h_ : execLoopOpen p s = .next t_) : SameBut [.host, .maint, .sys, .loop] s t_ := by
  unfold execLoopOpen at h_
  injection h_ with h_
  subst h_
  repeat' first
    | (extract_lets +onlyGivenNames u_; first | (apply SameBut.gen (u := u_); (on_goal 1 => (dsimp -zeta -zetaHave only [u_]; clear u_)); (on_goal 2 => (clear_value u_; revert u_; intros))) | (clear_value u_; revert u_; intros) | (revert u_; intros))
    | with_reducible assumption
    | with_reducible apply SameBut.refl
    | ((with_reducible apply SameBut.step (k := follyStop_same _ _ _)); (case hl => rfl))
    | ((with_reducible apply SameBut.step (k := ok_same _ _ _ _ _)); (case hl => rfl))
    | ((with_reducible apply SameBut.step (k := onEng_same _ _ _)); (case hl => rfl))
    | ((with_reducible apply SameBut.step (k := reject_same _ _ _ _ _)); (case hl => rfl))
    | ((with_reducible apply SameBut.runOp); (case hl => rfl))
    | with_reducible intro _
    | split
    | dsimp only

theorem execLoopSetCoeff_same (p : Port) (s : State) {t_ : State} (h_ : execLoopSetCoeff p s = .next t_) : SameBut [.host, .maint, .ev, .sys, .dpx, .cfg, .log] s t_ := by
  unfold execLoopSetCoeff at h_
  injection h_ with h_
  subst h_
  repeat' first
    | (extract_lets +onlyGivenNames u_; first | (apply SameBut.gen (u := u_); (on_goal 1 => (dsimp -zeta -zetaHave only [u_]; clear u_)); (on_goal 2 => (clear_value u_; revert u_; intros))) | (clear_value u_; revert u_; intros) | (revert u_; intros))
    | with_reducible assumption
    | with_reducible apply SameBut.refl
    | ((with_reducible apply SameBut.step (k := configRow_same _ _ _ _)); (case hl => rfl))
    | split
    | dsimp only

theorem execLoopSetManual_same (p : Port) (s : State) {t_ : State} (h_ : execLoopSetManual p s = .next t_) : SameBut [.host, .maint, .sys, .loop] s t_ := by
  unfold execLoopSetManual at h_
  injection h_ with h_
  subst h_
  repeat' first
    | (extract_lets +onlyGivenNames u_; first | (apply SameBut.gen (u := u_); (on_goal 1 => (dsimp -zeta -zetaHave only [u_]; clear u_)); (on_goal 2 => (clear_value u_; revert u_; intros))) | (clear_value u_; revert u_; intros) | (revert u_; intros))
    | with_reducible assumption
    | with_reducible apply SameBut.refl
    | ((with_reducible apply SameBut.step (k := ok_same _ _ _ _ _)); (case hl => rfl))
    | ((with_reducible apply SameBut.step (k := onEng_same _ _ _)); (case hl => rfl))
    | ((with_reducible apply SameBut.step (k := reject_same _ _ _ _ _)); (case hl => rfl))
    | ((with_reducible apply SameBut.runOp); (case hl => rfl))
    | with_reducible intro _
    | split
    | dsimp only

theorem execLoopSetSetpoint_same (p : Port) (s : State) {t_ : State} (h_ : execLoopSetSetpoint p s = .next t_) : SameBut [.host, .maint, .sys, .loop] s t_ := by
  unfold execLoopSetSetpoint at h_
  injection h_ with h_
  subst h_
  repeat' first
    | (extract_lets +onlyGivenNames u_; first | (apply SameBut.gen (u := u_); (on_goal 1 => (dsimp -zeta -zetaHave only [u_]; clear u_)); (on_goal 2 => (clear_value u_; revert u_; intros))) | (clear_value u_; revert u_; intros) | (revert u_; intros))
    | with_reducible assumption
    | with_reducible apply SameBut.refl
    | ((with_reducible apply SameBut.step (k := ok_same _ _ _ _ _)); (case hl => rfl))
    | ((with_reducible apply SameBut.step (k := onEng_same _ _ _)); (case hl => rfl))
    | ((with_reducible apply SameBut.step (k := reject_same _ _ _ _ _)); (case hl => rfl))
    | ((with_reducible apply SameBut.runOp); (case hl => rfl))
    | with_reducible intro _
    | split
    | dsimp only

theorem execLoopStatus_same (p : Port) (s : State) {t_ : State} (h_ : execLoopStatus p s = .next t_) : SameBut [.host, .maint, .sys] s t_ := by
  unfold execLoopStatus at h_
  injection h_ with h_
  subst h_
  repeat' first
    | (extract_lets +onlyGivenNames u_; first | (apply SameBut.gen (u := u_); (on_goal 1 => (dsimp -zeta -zetaHave only [u_]; clear u_)); (on_goal 2 => (clear_value u_; revert u_; intros))) | (clear_value u_; revert u_; intros) | (revert u_; intros))
    | with_reducible assumption
    | with_reducible apply SameBut.refl
    | ((with_reducible apply SameBut.step (k := ok_same _ _ _ _ _)); (case hl => rfl))
    | ((with_reducible apply SameBut.runOp); (case hl => rfl))
    | with_reducible intro _
    | split
    | dsimp only

theorem execLoopThrusterBind_same (p : Port) (s : State) {t_ : State} (h_ : execLoopThrusterBind p s = .next t_) : SameBut [.host, .maint, .ev, .sys, .dpx, .cfg, .log] s t_ := by
  unfold execLoopThrusterBind at h_
  injection h_ with h_
  subst h_
  repeat' first
    | (extract_lets +onlyGivenNames u_; first | (apply SameBut.gen (u := u_); (on_goal 1 => (dsimp -zeta -zetaHave only [u_]; clear u_)); (on_goal 2 => (clear_value u_; revert u_; intros))) | (clear_value u_; revert u_; intros) | (revert u_; intros))
    | with_reducible assumption
    | with_reducible apply SameBut.refl
    | ((with_reducible apply SameBut.step (k := configRow_same _ _ _ _)); (case hl => rfl))
    | split
    | dsimp only

theorem follySample_same (le : Nat) (s : State) : SameBut [.loop] s (follySample le s) := by
  unfold follySample
  repeat' first
    | (extract_lets +onlyGivenNames u_; first | (apply SameBut.gen (u := u_); (on_goal 1 => (dsimp -zeta -zetaHave only [u_]; clear u_)); (on_goal 2 => (clear_value u_; revert u_; intros))) | (clear_value u_; revert u_; intros) | (revert u_; intros))
    | with_reducible assumption
    | with_reducible apply SameBut.refl
    | ((with_reducible apply SameBut.onLoop); (case hl => rfl))
    | split
    | dsimp only

theorem follyTick_same (le : Nat) (s : State) : SameBut [.host, .maint, .ev, .sys, .loop, .log] s (follyTick le s) := by
  unfold follyTick
  repeat' first
    | (extract_lets +onlyGivenNames u_; first | (apply SameBut.gen (u := u_); (on_goal 1 => (dsimp -zeta -zetaHave only [u_]; clear u_)); (on_goal 2 => (clear_value u_; revert u_; intros))) | (clear_value u_; revert u_; intros) | (revert u_; intros))
    | with_reducible assumption
    | with_reducible apply SameBut.refl
    | ((with_reducible apply SameBut.onLoop); (case hl => rfl))
    | ((with_reducible apply SameBut.step (k := commit_same _ _ _)); (case hl => rfl))
    | ((with_reducible apply SameBut.step (k := follyEnd_same _ _)); (case hl => rfl))
    | split
    | dsimp only

theorem groupTick_same (g : Fin 16) (s : State) : SameBut [.host, .maint, .ev, .sys, .loop, .log] s (groupTick g s) := by
  unfold groupTick
  repeat' first
    | (extract_lets +onlyGivenNames u_; first | (apply SameBut.gen (u := u_); (on_goal 1 => (dsimp -zeta -zetaHave only [u_]; clear u_)); (on_goal 2 => (clear_value u_; revert u_; intros))) | (clear_value u_; revert u_; intros) | (revert u_; intros))
    | with_reducible assumption
    | with_reducible apply SameBut.refl
    | ((with_reducible apply SameBut.onLoop); (case hl => rfl))
    | ((with_reducible apply SameBut.step (k := driveOut_same _ _ _ _)); (case hl => rfl))
    | ((with_reducible apply SameBut.step (k := follySample_same _ _)); (case hl => rfl))
    | ((with_reducible apply SameBut.step (k := follyTick_same _ _)); (case hl => rfl))
    | ((with_reducible apply SameBut.step (k := onEng_same _ _ _)); (case hl => rfl))
    | ((with_reducible apply SameBut.step (k := raise_same _ _ _)); (case hl => rfl))
    | with_reducible apply SameBut.foldl
    | with_reducible intro _
    | split
    | dsimp only

theorem soloTick_same (le : Nat) (s : State) : SameBut [.host, .maint, .ev, .sys, .loop, .log] s (soloTick le s) := by
  unfold soloTick
  repeat' first
    | (extract_lets +onlyGivenNames u_; first | (apply SameBut.gen (u := u_); (on_goal 1 => (dsimp -zeta -zetaHave only [u_]; clear u_)); (on_goal 2 => (clear_value u_; revert u_; intros))) | (clear_value u_; revert u_; intros) | (revert u_; intros))
    | with_reducible assumption
    | with_reducible apply SameBut.refl
    | ((with_reducible apply SameBut.step (k := driveOut_same _ _ _ _)); (case hl => rfl))
    | ((with_reducible apply SameBut.step (k := follySample_same _ _)); (case hl => rfl))
    | ((with_reducible apply SameBut.step (k := follyTick_same _ _)); (case hl => rfl))
    | ((with_reducible apply SameBut.step (k := onEng_same _ _ _)); (case hl => rfl))
    | split
    | dsimp only

theorem execLoopTick_same (le : Fin 64) (s : State) {t_ : State} (h_ : execLoopTick le s = .next t_) : SameBut [.host, .maint, .ev, .sys, .time, .loop, .log] s t_ := by
  unfold execLoopTick at h_
  injection h_ with h_
  subst h_
  repeat' first
    | (extract_lets +onlyGivenNames u_; first | (apply SameBut.gen (u := u_); (on_goal 1 => (dsimp -zeta -zetaHave only [u_]; clear u_)); (on_goal 2 => (clear_value u_; revert u_; intros))) | (clear_value u_; revert u_; intros) | (revert u_; intros))
    | with_reducible assumption
    | with_reducible apply SameBut.refl
    | ((with_reducible apply SameBut.step (k := advanceTo_same _ _)); (case hl => rfl))
    | ((with_reducible apply SameBut.step (k := groupTick_same _ _)); (case hl => rfl))
    | ((with_reducible apply SameBut.step (k := onEng_same _ _ _)); (case hl => rfl))
    | ((with_reducible apply SameBut.step (k := soloTick_same _ _)); (case hl => rfl))
    | split
    | dsimp only

end Sys2Proof.Machine
end

