-- ==== Sys2Proof/Laws/FrameProfiles.lean ====
section
/-! SUPPORT. What each operation of Machine/Profiles.lean leaves alone: every part of the state but those listed. -/

namespace Sys2Proof.Machine

set_option linter.all false

theorem openEngines_same (s : State) : SameBut [.sys, .loop] s (openEngines s) := by
  unfold openEngines
  repeat' first
    | (extract_lets +onlyGivenNames u_; first | (apply SameBut.gen (u := u_); (on_goal 1 => (dsimp -zeta -zetaHave only [u_]; clear u_)); (on_goal 2 => (clear_value u_; revert u_; intros))) | (clear_value u_; revert u_; intros) | (revert u_; intros))
    | with_reducible assumption
    | with_reducible apply SameBut.refl
    | ((with_reducible apply SameBut.onLoop); (case hl => rfl))
    | ((with_reducible apply SameBut.onSysMode); (case hl => rfl))
    | (show ∀ _ : SysState, _ ∧ _; intros; repeat' first | exact ⟨rfl, rfl⟩ | split | dsimp only)
    | split
    | dsimp only

theorem stopProf_same (st detail : Nat) (pc : Nat) (s : State) : SameBut [.host, .maint, .ev, .sys, .loop, .log] s (stopProf st detail pc s) := by
  unfold stopProf
  repeat' first
    | (extract_lets +onlyGivenNames u_; first | (apply SameBut.gen (u := u_); (on_goal 1 => (dsimp -zeta -zetaHave only [u_]; clear u_)); (on_goal 2 => (clear_value u_; revert u_; intros))) | (dsimp -zeta -zetaHave only [u_]; clear u_) | (clear_value u_; revert u_; intros) | (revert u_; intros))
    | with_reducible assumption
    | with_reducible apply SameBut.refl
    | ((with_reducible apply SameBut.step (k := finish_same _ _ _ _ _ _ _)); (case hl => rfl))
    | ((with_reducible apply SameBut.step (k := onProf_same _ _ _)); (case hl => rfl))
    | ((with_reducible apply SameBut.step (k := raise_same _ _ _)); (case hl => rfl))
    | split
    | dsimp only

theorem stopProfs_same (st detail : Nat) (s : State) : SameBut [.host, .maint, .ev, .sys, .loop, .log] s (stopProfs st detail s) := by
  unfold stopProfs
  repeat' first
    | (extract_lets +onlyGivenNames u_; first | (apply SameBut.gen (u := u_); (on_goal 1 => (dsimp -zeta -zetaHave only [u_]; clear u_)); (on_goal 2 => (clear_value u_; revert u_; intros))) | (clear_value u_; revert u_; intros) | (revert u_; intros))
    | with_reducible assumption
    | with_reducible apply SameBut.refl
    | ((with_reducible apply SameBut.step (k := stopProf_same _ _ _ _)); (case hl => rfl))
    | with_reducible apply SameBut.foldl
    | with_reducible intro _
    | split
    | dsimp only

theorem releaseOutputs_same (s : State) : SameBut [.host, .maint, .ev, .sys, .loop, .log] s (releaseOutputs s) := by
  unfold releaseOutputs
  repeat' first
    | (extract_lets +onlyGivenNames u_; first | (apply SameBut.gen (u := u_); (on_goal 1 => (dsimp -zeta -zetaHave only [u_]; clear u_)); (on_goal 2 => (clear_value u_; revert u_; intros))) | (clear_value u_; revert u_; intros) | (revert u_; intros))
    | with_reducible assumption
    | with_reducible apply SameBut.refl
    | ((with_reducible apply SameBut.onLoop); (case hl => rfl))
    | ((with_reducible apply SameBut.onSysMode); (case hl => rfl))
    | (show ∀ _ : SysState, _ ∧ _; intros; repeat' first | exact ⟨rfl, rfl⟩ | split | dsimp only)
    | ((with_reducible apply SameBut.step (k := stopProfs_same _ _ _)); (case hl => rfl))
    | split
    | dsimp only

theorem shadowEngines_same (s : State) : SameBut [.loop] s (shadowEngines s) := by
  unfold shadowEngines
  repeat' first
    | (extract_lets +onlyGivenNames u_; first | (apply SameBut.gen (u := u_); (on_goal 1 => (dsimp -zeta -zetaHave only [u_]; clear u_)); (on_goal 2 => (clear_value u_; revert u_; intros))) | (clear_value u_; revert u_; intros) | (revert u_; intros))
    | with_reducible assumption
    | with_reducible apply SameBut.refl
    | ((with_reducible apply SameBut.onLoop); (case hl => rfl))
    | split
    | dsimp only

theorem restBound_same (s : State) : SameBut [.host, .maint, .ev, .sys, .loop, .log] s (restBound s) := by
  unfold restBound
  repeat' first
    | (extract_lets +onlyGivenNames u_; first | (apply SameBut.gen (u := u_); (on_goal 1 => (dsimp -zeta -zetaHave only [u_]; clear u_)); (on_goal 2 => (clear_value u_; revert u_; intros))) | (clear_value u_; revert u_; intros) | (revert u_; intros))
    | with_reducible assumption
    | with_reducible apply SameBut.refl
    | ((with_reducible apply SameBut.onLoop); (case hl => rfl))
    | ((with_reducible apply SameBut.step (k := stopProf_same _ _ _ _)); (case hl => rfl))
    | with_reducible apply SameBut.foldl
    | with_reducible intro _
    | split
    | dsimp only

theorem driveBound_same (on : Bool) (s : State) : SameBut [.host, .maint, .ev, .sys, .loop, .log] s (driveBound on s) := by
  unfold driveBound
  repeat' first
    | (extract_lets +onlyGivenNames u_; first | (apply SameBut.gen (u := u_); (on_goal 1 => (dsimp -zeta -zetaHave only [u_]; clear u_)); (on_goal 2 => (clear_value u_; revert u_; intros))) | (clear_value u_; revert u_; intros) | (revert u_; intros))
    | with_reducible assumption
    | with_reducible apply SameBut.refl
    | ((with_reducible apply SameBut.onLoop); (case hl => rfl))
    | ((with_reducible apply SameBut.step (k := restBound_same _)); (case hl => rfl))
    | split
    | dsimp only

theorem dropHome_same (pc : Nat) (s : State) : SameBut [.host, .maint, .sys, .loop] s (dropHome pc s) := by
  unfold dropHome
  repeat' first
    | (extract_lets +onlyGivenNames u_; first | (apply SameBut.gen (u := u_); (on_goal 1 => (dsimp -zeta -zetaHave only [u_]; clear u_)); (on_goal 2 => (clear_value u_; revert u_; intros))) | (clear_value u_; revert u_; intros) | (revert u_; intros))
    | with_reducible assumption
    | with_reducible apply SameBut.refl
    | ((with_reducible apply SameBut.step (k := finish_same _ _ _ _ _ _ _)); (case hl => rfl))
    | ((with_reducible apply SameBut.step (k := onProf_same _ _ _)); (case hl => rfl))
    | split
    | dsimp only

theorem dropReq_same (pc : Nat) (s : State) : SameBut [.host, .maint, .ev, .sys, .log] s (dropReq pc s) := by
  unfold dropReq
  repeat' first
    | (extract_lets +onlyGivenNames u_; first | (apply SameBut.gen (u := u_); (on_goal 1 => (dsimp -zeta -zetaHave only [u_]; clear u_)); (on_goal 2 => (clear_value u_; revert u_; intros))) | (clear_value u_; revert u_; intros) | (revert u_; intros))
    | with_reducible assumption
    | with_reducible apply SameBut.refl
    | ((with_reducible apply SameBut.step (k := finish_same _ _ _ _ _ _ _)); (case hl => rfl))
    | ((with_reducible apply SameBut.step (k := raise_same _ _ _)); (case hl => rfl))
    | split
    | dsimp only

theorem endMove_same (pc : Nat) (st : Nat) (s : State) : SameBut [.host, .maint, .ev, .sys, .loop, .log] s (endMove pc st s) := by
  unfold endMove
  repeat' first
    | (extract_lets +onlyGivenNames u_; first | (apply SameBut.gen (u := u_); (on_goal 1 => (dsimp -zeta -zetaHave only [u_]; clear u_)); (on_goal 2 => (clear_value u_; revert u_; intros))) | (clear_value u_; revert u_; intros) | (revert u_; intros))
    | with_reducible assumption
    | with_reducible apply SameBut.refl
    | ((with_reducible apply SameBut.step (k := finish_same _ _ _ _ _ _ _)); (case hl => rfl))
    | ((with_reducible apply SameBut.step (k := onProf_same _ _ _)); (case hl => rfl))
    | ((with_reducible apply SameBut.step (k := raise_same _ _ _)); (case hl => rfl))
    | split
    | dsimp only

theorem execHomeStall_same (pc : Fin 16) (s : State) {t_ : State} (h_ : execHomeStall pc s = .next t_) : SameBut [.host, .maint, .time, .loop] s t_ := by
  unfold execHomeStall at h_
  injection h_ with h_
  subst h_
  repeat' first
    | (extract_lets +onlyGivenNames u_; first | (apply SameBut.gen (u := u_); (on_goal 1 => (dsimp -zeta -zetaHave only [u_]; clear u_)); (on_goal 2 => (clear_value u_; revert u_; intros))) | (clear_value u_; revert u_; intros) | (revert u_; intros))
    | with_reducible assumption
    | with_reducible apply SameBut.refl
    | ((with_reducible apply SameBut.step (k := advanceTo_same _ _)); (case hl => rfl))
    | ((with_reducible apply SameBut.step (k := commit_same _ _ _)); (case hl => rfl))
    | ((with_reducible apply SameBut.step (k := onProf_same _ _ _)); (case hl => rfl))
    | split
    | dsimp only

theorem execProfConfig_same (p : Port) (s : State) {t_ : State} (h_ : execProfConfig p s = .next t_) : SameBut [.host, .maint, .ev, .sys, .dpx, .cfg, .log] s t_ := by
  unfold execProfConfig at h_
  injection h_ with h_
  subst h_
  repeat' first
    | (extract_lets +onlyGivenNames u_; first | (apply SameBut.gen (u := u_); (on_goal 1 => (dsimp -zeta -zetaHave only [u_]; clear u_)); (on_goal 2 => (clear_value u_; revert u_; intros))) | (clear_value u_; revert u_; intros) | (revert u_; intros))
    | with_reducible assumption
    | with_reducible apply SameBut.refl
    | ((with_reducible apply SameBut.step (k := configRow_same _ _ _ _)); (case hl => rfl))
    | split
    | dsimp only

theorem execProfHome_same (p : Port) (s : State) {t_ : State} (h_ : execProfHome p s = .next t_) : SameBut [.host, .maint, .ev, .sys, .loop, .log] s t_ := by
  unfold execProfHome at h_
  injection h_ with h_
  subst h_
  repeat' first
    | (extract_lets +onlyGivenNames u_; first | (apply SameBut.gen (u := u_); (on_goal 1 => (dsimp -zeta -zetaHave only [u_]; clear u_)); (on_goal 2 => (clear_value u_; revert u_; intros))) | (clear_value u_; revert u_; intros) | (revert u_; intros))
    | with_reducible assumption
    | with_reducible apply SameBut.refl
    | ((with_reducible apply SameBut.step (k := dropHome_same _ _)); (case hl => rfl))
    | ((with_reducible apply SameBut.step (k := dropReq_same _ _)); (case hl => rfl))
    | ((with_reducible apply SameBut.step (k := onProf_same _ _ _)); (case hl => rfl))
    | ((with_reducible apply SameBut.step (k := pending_same _ _ _ _)); (case hl => rfl))
    | ((with_reducible apply SameBut.step (k := reject_same _ _ _ _ _)); (case hl => rfl))
    | ((with_reducible apply SameBut.step (k := setUnit_same _ _ _ _)); (case hl => rfl))
    | ((with_reducible apply SameBut.runOpV); (case hl => rfl))
    | with_reducible intro _
    | split
    | dsimp only

theorem execProfMove_same (p : Port) (s : State) {t_ : State} (h_ : execProfMove p s = .next t_) : SameBut [.host, .maint, .ev, .sys, .loop, .log] s t_ := by
  unfold execProfMove at h_
  injection h_ with h_
  subst h_
  repeat' first
    | (extract_lets +onlyGivenNames u_; first | (apply SameBut.gen (u := u_); (on_goal 1 => (dsimp -zeta -zetaHave only [u_]; clear u_)); (on_goal 2 => (clear_value u_; revert u_; intros))) | (clear_value u_; revert u_; intros) | (revert u_; intros))
    | with_reducible assumption
    | with_reducible apply SameBut.refl
    | ((with_reducible apply SameBut.step (k := dropReq_same _ _)); (case hl => rfl))
    | ((with_reducible apply SameBut.step (k := onProf_same _ _ _)); (case hl => rfl))
    | ((with_reducible apply SameBut.step (k := pending_same _ _ _ _)); (case hl => rfl))
    | ((with_reducible apply SameBut.step (k := reject_same _ _ _ _ _)); (case hl => rfl))
    | ((with_reducible apply SameBut.step (k := setUnit_same _ _ _ _)); (case hl => rfl))
    | ((with_reducible apply SameBut.runOpV); (case hl => rfl))
    | with_reducible intro _
    | split
    | dsimp only

theorem execProfStatus_same (p : Port) (s : State) {t_ : State} (h_ : execProfStatus p s = .next t_) : SameBut [.host, .maint, .sys] s t_ := by
  unfold execProfStatus at h_
  injection h_ with h_
  subst h_
  repeat' first
    | (extract_lets +onlyGivenNames u_; first | (apply SameBut.gen (u := u_); (on_goal 1 => (dsimp -zeta -zetaHave only [u_]; clear u_)); (on_goal 2 => (clear_value u_; revert u_; intros))) | (clear_value u_; revert u_; intros) | (revert u_; intros))
    | with_reducible assumption
    | with_reducible apply SameBut.refl
    | ((with_reducible apply SameBut.step (k := ok_same _ _ _ _ _)); (case hl => rfl))
    | ((with_reducible apply SameBut.runOp); (case hl => rfl))
    | with_reducible intro _
    | split
    | dsimp only

theorem execProfileFollowingError_same (pc : Fin 16) (s : State) {t_ : State} (h_ : execProfileFollowingError pc s = .next t_) : SameBut [.host, .maint, .ev, .time, .loop, .log] s t_ := by
  unfold execProfileFollowingError at h_
  injection h_ with h_
  subst h_
  repeat' first
    | (extract_lets +onlyGivenNames u_; first | (apply SameBut.gen (u := u_); (on_goal 1 => (dsimp -zeta -zetaHave only [u_]; clear u_)); (on_goal 2 => (clear_value u_; revert u_; intros))) | (clear_value u_; revert u_; intros) | (revert u_; intros))
    | with_reducible assumption
    | with_reducible apply SameBut.refl
    | ((with_reducible apply SameBut.step (k := advanceTo_same _ _)); (case hl => rfl))
    | ((with_reducible apply SameBut.step (k := onProf_same _ _ _)); (case hl => rfl))
    | ((with_reducible apply SameBut.step (k := raise_same _ _ _)); (case hl => rfl))
    | split
    | dsimp only

theorem homeReplaced_same (pc : Nat) (s : State) : SameBut [.host, .maint, .sys, .loop] s (homeReplaced pc s) := by
  unfold homeReplaced
  repeat' first
    | (extract_lets +onlyGivenNames u_; first | (apply SameBut.gen (u := u_); (on_goal 1 => (dsimp -zeta -zetaHave only [u_]; clear u_)); (on_goal 2 => (clear_value u_; revert u_; intros))) | (clear_value u_; revert u_; intros) | (revert u_; intros))
    | with_reducible assumption
    | with_reducible apply SameBut.refl
    | ((with_reducible apply SameBut.step (k := dropHome_same _ _)); (case hl => rfl))
    | split
    | dsimp only

theorem homeRest_same (pc : Nat) (s : State) : SameBut [.host, .maint, .ev, .sys, .loop, .log] s (homeRest pc s) := by
  unfold homeRest
  repeat' first
    | (extract_lets +onlyGivenNames u_; first | (apply SameBut.gen (u := u_); (on_goal 1 => (dsimp -zeta -zetaHave only [u_]; clear u_)); (on_goal 2 => (clear_value u_; revert u_; intros))) | (dsimp -zeta -zetaHave only [u_]; clear u_) | (clear_value u_; revert u_; intros) | (revert u_; intros))
    | with_reducible assumption
    | with_reducible apply SameBut.refl
    | ((with_reducible apply SameBut.step (k := finish_same _ _ _ _ _ _ _)); (case hl => rfl))
    | ((with_reducible apply SameBut.step (k := onProf_same _ _ _)); (case hl => rfl))
    | ((with_reducible apply SameBut.step (k := raise_same _ _ _)); (case hl => rfl))
    | split
    | dsimp only

theorem homeTick_same (pc : Nat) (s : State) : SameBut [.loop] s (homeTick pc s) := by
  unfold homeTick
  repeat' first
    | (extract_lets +onlyGivenNames u_; first | (apply SameBut.gen (u := u_); (on_goal 1 => (dsimp -zeta -zetaHave only [u_]; clear u_)); (on_goal 2 => (clear_value u_; revert u_; intros))) | (clear_value u_; revert u_; intros) | (revert u_; intros))
    | with_reducible assumption
    | with_reducible apply SameBut.refl
    | ((with_reducible apply SameBut.step (k := onProf_same _ _ _)); (case hl => rfl))
    | split
    | dsimp only

theorem planMove_same (pc : Nat) (s : State) : SameBut [.host, .maint, .ev, .sys, .loop, .log] s (planMove pc s) := by
  unfold planMove
  repeat' first
    | (extract_lets +onlyGivenNames u_; first | (apply SameBut.gen (u := u_); (on_goal 1 => (dsimp -zeta -zetaHave only [u_]; clear u_)); (on_goal 2 => (clear_value u_; revert u_; intros))) | (clear_value u_; revert u_; intros) | (revert u_; intros))
    | with_reducible assumption
    | with_reducible apply SameBut.refl
    | ((with_reducible apply SameBut.onLoop); (case hl => rfl))
    | ((with_reducible apply SameBut.step (k := commit_same _ _ _)); (case hl => rfl))
    | ((with_reducible apply SameBut.step (k := endMove_same _ _ _)); (case hl => rfl))
    | ((with_reducible apply SameBut.step (k := onProf_same _ _ _)); (case hl => rfl))
    | ((with_reducible apply SameBut.step (k := raise_same _ _ _)); (case hl => rfl))
    | split
    | dsimp only

theorem profError_same (pc : Nat) (s : State) : SameBut [.loop] s (profError pc s) := by
  unfold profError
  repeat' first
    | (extract_lets +onlyGivenNames u_; first | (apply SameBut.gen (u := u_); (on_goal 1 => (dsimp -zeta -zetaHave only [u_]; clear u_)); (on_goal 2 => (clear_value u_; revert u_; intros))) | (clear_value u_; revert u_; intros) | (revert u_; intros))
    | with_reducible assumption
    | with_reducible apply SameBut.refl
    | ((with_reducible apply SameBut.step (k := onProf_same _ _ _)); (case hl => rfl))
    | split
    | dsimp only

theorem profOut_same (pc : Nat) (s : State) : SameBut [.loop] s (profOut pc s) := by
  unfold profOut
  repeat' first
    | (extract_lets +onlyGivenNames u_; first | (apply SameBut.gen (u := u_); (on_goal 1 => (dsimp -zeta -zetaHave only [u_]; clear u_)); (on_goal 2 => (clear_value u_; revert u_; intros))) | (clear_value u_; revert u_; intros) | (revert u_; intros))
    | with_reducible assumption
    | with_reducible apply SameBut.refl
    | ((with_reducible apply SameBut.onLoop); (case hl => rfl))
    | ((with_reducible apply SameBut.step (k := onEng_same _ _ _)); (case hl => rfl))
    | ((with_reducible apply SameBut.step (k := onProf_same _ _ _)); (case hl => rfl))
    | split
    | dsimp only

theorem execProfileTick_same (pc : Fin 16) (s : State) {t_ : State} (h_ : execProfileTick pc s = .next t_) : SameBut [.host, .maint, .ev, .sys, .time, .loop, .log] s t_ := by
  unfold execProfileTick at h_
  injection h_ with h_
  subst h_
  repeat' first
    | (extract_lets +onlyGivenNames u_; first | (apply SameBut.gen (u := u_); (on_goal 1 => (dsimp -zeta -zetaHave only [u_]; clear u_)); (on_goal 2 => (clear_value u_; revert u_; intros))) | (clear_value u_; revert u_; intros) | (revert u_; intros))
    | with_reducible assumption
    | with_reducible apply SameBut.refl
    | ((with_reducible apply SameBut.step (k := advanceTo_same _ _)); (case hl => rfl))
    | ((with_reducible apply SameBut.step (k := endMove_same _ _ _)); (case hl => rfl))
    | ((with_reducible apply SameBut.step (k := homeReplaced_same _ _)); (case hl => rfl))
    | ((with_reducible apply SameBut.step (k := homeRest_same _ _)); (case hl => rfl))
    | ((with_reducible apply SameBut.step (k := homeTick_same _ _)); (case hl => rfl))
    | ((with_reducible apply SameBut.step (k := onProf_same _ _ _)); (case hl => rfl))
    | ((with_reducible apply SameBut.step (k := planMove_same _ _)); (case hl => rfl))
    | ((with_reducible apply SameBut.step (k := profError_same _ _)); (case hl => rfl))
    | ((with_reducible apply SameBut.step (k := profOut_same _ _)); (case hl => rfl))
    | split
    | dsimp only

theorem execReleaseDelayEnd_same (pc : Fin 16) (s : State) {t_ : State} (h_ : execReleaseDelayEnd pc s = .next t_) : SameBut [.time, .loop] s t_ := by
  unfold execReleaseDelayEnd at h_
  injection h_ with h_
  subst h_
  repeat' first
    | (extract_lets +onlyGivenNames u_; first | (apply SameBut.gen (u := u_); (on_goal 1 => (dsimp -zeta -zetaHave only [u_]; clear u_)); (on_goal 2 => (clear_value u_; revert u_; intros))) | (clear_value u_; revert u_; intros) | (revert u_; intros))
    | with_reducible assumption
    | with_reducible apply SameBut.refl
    | ((with_reducible apply SameBut.step (k := advanceTo_same _ _)); (case hl => rfl))
    | ((with_reducible apply SameBut.step (k := onProf_same _ _ _)); (case hl => rfl))
    | split
    | dsimp only

theorem execStandstillTimer_same (pc : Fin 16) (s : State) {t_ : State} (h_ : execStandstillTimer pc s = .next t_) : SameBut [.host, .maint, .ev, .time, .loop, .log] s t_ := by
  unfold execStandstillTimer at h_
  injection h_ with h_
  subst h_
  repeat' first
    | (extract_lets +onlyGivenNames u_; first | (apply SameBut.gen (u := u_); (on_goal 1 => (dsimp -zeta -zetaHave only [u_]; clear u_)); (on_goal 2 => (clear_value u_; revert u_; intros))) | (clear_value u_; revert u_; intros) | (revert u_; intros))
    | with_reducible assumption
    | with_reducible apply SameBut.refl
    | ((with_reducible apply SameBut.onLoop); (case hl => rfl))
    | ((with_reducible apply SameBut.step (k := advanceTo_same _ _)); (case hl => rfl))
    | ((with_reducible apply SameBut.step (k := onProf_same _ _ _)); (case hl => rfl))
    | ((with_reducible apply SameBut.step (k := raise_same _ _ _)); (case hl => rfl))
    | split
    | dsimp only

theorem zeroLands_same (s : State) : SameBut [.loop] s (zeroLands s) := by
  unfold zeroLands
  repeat' first
    | (extract_lets +onlyGivenNames u_; first | (apply SameBut.gen (u := u_); (on_goal 1 => (dsimp -zeta -zetaHave only [u_]; clear u_)); (on_goal 2 => (clear_value u_; revert u_; intros))) | (clear_value u_; revert u_; intros) | (revert u_; intros))
    | with_reducible assumption
    | with_reducible apply SameBut.refl
    | ((with_reducible apply SameBut.onLoop); (case hl => rfl))
    | split
    | dsimp only

end Sys2Proof.Machine
end

