-- ==== Sys2Proof/Laws/FrameSolverOps.lean ====
section
/-! SUPPORT. What each operation of Machine/SolverOps.lean leaves alone: every part of the state but those listed. -/

namespace Sys2Proof.Machine

set_option linter.all false

theorem dropTicket_same (id : Nat) (s : State) : SameBut [.solv] s (dropTicket id s) := by
  unfold dropTicket
  repeat' first
    | (extract_lets +onlyGivenNames u_; first | (apply SameBut.gen (u := u_); (on_goal 1 => (dsimp -zeta -zetaHave only [u_]; clear u_)); (on_goal 2 => (clear_value u_; revert u_; intros))) | (clear_value u_; revert u_; intros) | (revert u_; intros))
    | with_reducible assumption
    | with_reducible apply SameBut.refl
    | ((with_reducible apply SameBut.onSolv); (case hl => rfl))
    | split
    | dsimp only

theorem onTicket_same (id : Nat) (f : Ticket → Ticket) (s : State) : SameBut [.solv] s (onTicket id f s) := by
  unfold onTicket
  repeat' first
    | (extract_lets +onlyGivenNames u_; first | (apply SameBut.gen (u := u_); (on_goal 1 => (dsimp -zeta -zetaHave only [u_]; clear u_)); (on_goal 2 => (clear_value u_; revert u_; intros))) | (clear_value u_; revert u_; intros) | (revert u_; intros))
    | with_reducible assumption
    | with_reducible apply SameBut.refl
    | ((with_reducible apply SameBut.onSolv); (case hl => rfl))
    | split
    | dsimp only

theorem claim_same (l : List Copy) (s : State) : SameBut [.solv] s (claim l s) := by
  unfold claim
  repeat' first
    | (extract_lets +onlyGivenNames u_; first | (apply SameBut.gen (u := u_); (on_goal 1 => (dsimp -zeta -zetaHave only [u_]; clear u_)); (on_goal 2 => (clear_value u_; revert u_; intros))) | (clear_value u_; revert u_; intros) | (revert u_; intros))
    | with_reducible assumption
    | with_reducible apply SameBut.refl
    | ((with_reducible apply SameBut.onSolv); (case hl => rfl))
    | split
    | dsimp only

theorem startTicket_same (t : Ticket) (s : State) : SameBut [.solv, .free] s (startTicket t s) := by
  unfold startTicket
  repeat' first
    | (extract_lets +onlyGivenNames u_; first | (apply SameBut.gen (u := u_); (on_goal 1 => (dsimp -zeta -zetaHave only [u_]; clear u_)); (on_goal 2 => (clear_value u_; revert u_; intros))) | (clear_value u_; revert u_; intros) | (revert u_; intros))
    | with_reducible assumption
    | with_reducible apply SameBut.refl
    | ((with_reducible apply SameBut.step (k := claim_same _ _)); (case hl => rfl))
    | ((with_reducible apply SameBut.step (k := drawn_same _)); (case hl => rfl))
    | ((with_reducible apply SameBut.step (k := onTicket_same _ _ _)); (case hl => rfl))
    | split
    | dsimp only

theorem serve_same (s : State) : SameBut [.solv, .free] s (serve s) := by
  unfold serve
  repeat' first
    | (extract_lets +onlyGivenNames u_; first | (apply SameBut.gen (u := u_); (on_goal 1 => (dsimp -zeta -zetaHave only [u_]; clear u_)); (on_goal 2 => (clear_value u_; revert u_; intros))) | (clear_value u_; revert u_; intros) | (revert u_; intros))
    | with_reducible assumption
    | with_reducible apply SameBut.refl
    | ((with_reducible apply SameBut.step (k := startTicket_same _ _)); (case hl => rfl))
    | with_reducible apply SameBut.foldl
    | with_reducible intro _
    | split
    | dsimp only

theorem charge_same (s : State) : SameBut [.solv] s (charge s) := by
  unfold charge
  repeat' first
    | (extract_lets +onlyGivenNames u_; first | (apply SameBut.gen (u := u_); (on_goal 1 => (dsimp -zeta -zetaHave only [u_]; clear u_)); (on_goal 2 => (clear_value u_; revert u_; intros))) | (clear_value u_; revert u_; intros) | (revert u_; intros))
    | with_reducible assumption
    | with_reducible apply SameBut.refl
    | ((with_reducible apply SameBut.onSolv); (case hl => rfl))
    | split
    | dsimp only

theorem cancelDp_same (p : Work → Bool) (s : State) : SameBut [.solv, .free] s (cancelDp p s) := by
  unfold cancelDp
  repeat' first
    | (extract_lets +onlyGivenNames u_; first | (apply SameBut.gen (u := u_); (on_goal 1 => (dsimp -zeta -zetaHave only [u_]; clear u_)); (on_goal 2 => (clear_value u_; revert u_; intros))) | (clear_value u_; revert u_; intros) | (revert u_; intros))
    | with_reducible assumption
    | with_reducible apply SameBut.refl
    | ((with_reducible apply SameBut.onSolv); (case hl => rfl))
    | ((with_reducible apply SameBut.step (k := charge_same _)); (case hl => rfl))
    | ((with_reducible apply SameBut.step (k := serve_same _)); (case hl => rfl))
    | split
    | dsimp only

theorem openTicket_same (t : Ticket) (s : State) : SameBut [.solv, .free] s (openTicket t s) := by
  unfold openTicket
  repeat' first
    | (extract_lets +onlyGivenNames u_; first | (apply SameBut.gen (u := u_); (on_goal 1 => (dsimp -zeta -zetaHave only [u_]; clear u_)); (on_goal 2 => (clear_value u_; revert u_; intros))) | (clear_value u_; revert u_; intros) | (revert u_; intros))
    | with_reducible assumption
    | with_reducible apply SameBut.refl
    | ((with_reducible apply SameBut.onSolv); (case hl => rfl))
    | ((with_reducible apply SameBut.step (k := charge_same _)); (case hl => rfl))
    | ((with_reducible apply SameBut.step (k := serve_same _)); (case hl => rfl))
    | split
    | dsimp only

theorem submitDp_same (t : Ticket) (s : State) : SameBut [.solv, .free] s (submitDp t s) := by
  unfold submitDp
  repeat' first
    | (extract_lets +onlyGivenNames u_; first | (apply SameBut.gen (u := u_); (on_goal 1 => (dsimp -zeta -zetaHave only [u_]; clear u_)); (on_goal 2 => (clear_value u_; revert u_; intros))) | (clear_value u_; revert u_; intros) | (revert u_; intros))
    | with_reducible assumption
    | with_reducible apply SameBut.refl
    | ((with_reducible apply SameBut.step (k := openTicket_same _ _)); (case hl => rfl))
    | split
    | dsimp only

theorem installStruct_same (x : Struct) (s : State) : SameBut [.solv] s (installStruct x s) := by
  unfold installStruct
  repeat' first
    | (extract_lets +onlyGivenNames u_; first | (apply SameBut.gen (u := u_); (on_goal 1 => (dsimp -zeta -zetaHave only [u_]; clear u_)); (on_goal 2 => (clear_value u_; revert u_; intros))) | (clear_value u_; revert u_; intros) | (revert u_; intros))
    | with_reducible assumption
    | with_reducible apply SameBut.refl
    | ((with_reducible apply SameBut.onSolv); (case hl => rfl))
    | split
    | dsimp only

theorem endHost_same (t : Ticket) (st detail : Nat) (s : State) : SameBut [.host, .maint, .sys, .solv, .free] s (endHost t st detail s) := by
  unfold endHost
  repeat' first
    | (extract_lets +onlyGivenNames u_; first | (apply SameBut.gen (u := u_); (on_goal 1 => (dsimp -zeta -zetaHave only [u_]; clear u_)); (on_goal 2 => (clear_value u_; revert u_; intros))) | (clear_value u_; revert u_; intros) | (revert u_; intros))
    | with_reducible assumption
    | with_reducible apply SameBut.refl
    | ((with_reducible apply SameBut.step (k := charge_same _)); (case hl => rfl))
    | ((with_reducible apply SameBut.step (k := commit_same _ _ _)); (case hl => rfl))
    | ((with_reducible apply SameBut.step (k := dropTicket_same _ _)); (case hl => rfl))
    | ((with_reducible apply SameBut.step (k := finish_same _ _ _ _ _ _ _)); (case hl => rfl))
    | ((with_reducible apply SameBut.step (k := serve_same _)); (case hl => rfl))
    | split
    | dsimp only

theorem withdrawHost_same (s : State) : SameBut [.host, .maint, .sys, .solv, .free] s (withdrawHost s) := by
  unfold withdrawHost
  repeat' first
    | (extract_lets +onlyGivenNames u_; first | (apply SameBut.gen (u := u_); (on_goal 1 => (dsimp -zeta -zetaHave only [u_]; clear u_)); (on_goal 2 => (clear_value u_; revert u_; intros))) | (clear_value u_; revert u_; intros) | (revert u_; intros))
    | with_reducible assumption
    | with_reducible apply SameBut.refl
    | ((with_reducible apply SameBut.step (k := dropTicket_same _ _)); (case hl => rfl))
    | ((with_reducible apply SameBut.step (k := endHost_same _ _ _ _)); (case hl => rfl))
    | with_reducible apply SameBut.foldl
    | with_reducible intro _
    | split
    | dsimp only

theorem submitOpen_same (w : Work) (deadline : Nat) (s : State) : SameBut [.solv, .free] s (submitOpen w deadline s) := by
  unfold submitOpen
  repeat' first
    | (extract_lets +onlyGivenNames u_; first | (apply SameBut.gen (u := u_); (on_goal 1 => (dsimp -zeta -zetaHave only [u_]; clear u_)); (on_goal 2 => (clear_value u_; revert u_; intros))) | (clear_value u_; revert u_; intros) | (revert u_; intros))
    | with_reducible assumption
    | with_reducible apply SameBut.refl
    | ((with_reducible apply SameBut.step (k := submitDp_same _ _)); (case hl => rfl))
    | split
    | dsimp only

theorem buildHot_same (ok : List (Fin 4)) (s : State) : SameBut [.solv] s (buildHot ok s) := by
  unfold buildHot
  repeat' first
    | (extract_lets +onlyGivenNames u_; first | (apply SameBut.gen (u := u_); (on_goal 1 => (dsimp -zeta -zetaHave only [u_]; clear u_)); (on_goal 2 => (clear_value u_; revert u_; intros))) | (clear_value u_; revert u_; intros) | (revert u_; intros))
    | with_reducible assumption
    | with_reducible apply SameBut.refl
    | ((with_reducible apply SameBut.onSolv); (case hl => rfl))
    | split
    | dsimp only

theorem moveCopies_same (r : Fin 4) (s : State) : SameBut [.solv, .free] s (moveCopies r s) := by
  unfold moveCopies
  repeat' first
    | (extract_lets +onlyGivenNames u_; first | (apply SameBut.gen (u := u_); (on_goal 1 => (dsimp -zeta -zetaHave only [u_]; clear u_)); (on_goal 2 => (clear_value u_; revert u_; intros))) | (clear_value u_; revert u_; intros) | (revert u_; intros))
    | with_reducible assumption
    | with_reducible apply SameBut.refl
    | ((with_reducible apply SameBut.step (k := charge_same _)); (case hl => rfl))
    | ((with_reducible apply SameBut.step (k := drawn_same _)); (case hl => rfl))
    | ((with_reducible apply SameBut.step (k := onTicket_same _ _ _)); (case hl => rfl))
    | with_reducible apply SameBut.foldl
    | with_reducible intro _
    | split
    | dsimp only

theorem fromCheckpoint_same (s : State) : SameBut [.solv] s (fromCheckpoint s) := by
  unfold fromCheckpoint
  repeat' first
    | (extract_lets +onlyGivenNames u_; first | (apply SameBut.gen (u := u_); (on_goal 1 => (dsimp -zeta -zetaHave only [u_]; clear u_)); (on_goal 2 => (clear_value u_; revert u_; intros))) | (clear_value u_; revert u_; intros) | (revert u_; intros))
    | with_reducible assumption
    | with_reducible apply SameBut.refl
    | ((with_reducible apply SameBut.onSolv); (case hl => rfl))
    | split
    | dsimp only

theorem moveGazebo_same (r : Fin 4) (s : State) : SameBut [.host, .maint, .ev, .sys, .solv, .log] s (moveGazebo r s) := by
  unfold moveGazebo
  repeat' first
    | (extract_lets +onlyGivenNames u_; first | (apply SameBut.gen (u := u_); (on_goal 1 => (dsimp -zeta -zetaHave only [u_]; clear u_)); (on_goal 2 => (clear_value u_; revert u_; intros))) | (clear_value u_; revert u_; intros) | (revert u_; intros))
    | with_reducible assumption
    | with_reducible apply SameBut.refl
    | ((with_reducible apply SameBut.onSolv); (case hl => rfl))
    | ((with_reducible apply SameBut.step (k := buildHot_same _ _)); (case hl => rfl))
    | ((with_reducible apply SameBut.step (k := fromCheckpoint_same _)); (case hl => rfl))
    | ((with_reducible apply SameBut.step (k := ok_same _ _ _ _ _)); (case hl => rfl))
    | ((with_reducible apply SameBut.step (k := raise_same _ _ _)); (case hl => rfl))
    | split
    | dsimp only

theorem regTemp_same (r : Fin 4) (temp : Int) (s : State) : SameBut [.host, .maint, .ev, .sys, .solv, .log, .free] s (regTemp r temp s) := by
  unfold regTemp
  repeat' first
    | (extract_lets +onlyGivenNames u_; first | (apply SameBut.gen (u := u_); (on_goal 1 => (dsimp -zeta -zetaHave only [u_]; clear u_)); (on_goal 2 => (clear_value u_; revert u_; intros))) | (clear_value u_; revert u_; intros) | (revert u_; intros))
    | with_reducible assumption
    | with_reducible apply SameBut.refl
    | ((with_reducible apply SameBut.onSolv); (case hl => rfl))
    | ((with_reducible apply SameBut.onSysMode); (case hl => rfl))
    | (show ∀ _ : SysState, _ ∧ _; intros; repeat' first | exact ⟨rfl, rfl⟩ | split | dsimp only)
    | ((with_reducible apply SameBut.step (k := moveCopies_same _ _)); (case hl => rfl))
    | ((with_reducible apply SameBut.step (k := moveGazebo_same _ _)); (case hl => rfl))
    | ((with_reducible apply SameBut.step (k := raise_same _ _ _)); (case hl => rfl))
    | split
    | dsimp only

theorem onStruct_same (sid : Nat) (f : Struct → Struct) (s : State) : SameBut [.solv] s (onStruct sid f s) := by
  unfold onStruct
  repeat' first
    | (extract_lets +onlyGivenNames u_; first | (apply SameBut.gen (u := u_); (on_goal 1 => (dsimp -zeta -zetaHave only [u_]; clear u_)); (on_goal 2 => (clear_value u_; revert u_; intros))) | (clear_value u_; revert u_; intros) | (revert u_; intros))
    | with_reducible assumption
    | with_reducible apply SameBut.refl
    | ((with_reducible apply SameBut.onSolv); (case hl => rfl))
    | split
    | dsimp only

theorem creditStruct_same (t : Ticket) (o : CopyOut) (s : State) : SameBut [.host, .maint, .ev, .solv, .log] s (creditStruct t o s) := by
  unfold creditStruct
  repeat' first
    | (extract_lets +onlyGivenNames u_; first | (apply SameBut.gen (u := u_); (on_goal 1 => (dsimp -zeta -zetaHave only [u_]; clear u_)); (on_goal 2 => (clear_value u_; revert u_; intros))) | (clear_value u_; revert u_; intros) | (revert u_; intros))
    | with_reducible assumption
    | with_reducible apply SameBut.refl
    | ((with_reducible apply SameBut.step (k := onStruct_same _ _ _)); (case hl => rfl))
    | ((with_reducible apply SameBut.step (k := raise_same _ _ _)); (case hl => rfl))
    | split
    | dsimp only

theorem creditDp_same (t : Ticket) (o : CopyOut) (s : State) : SameBut [.host, .maint, .ev, .solv, .log] s (creditDp t o s) := by
  unfold creditDp
  repeat' first
    | (extract_lets +onlyGivenNames u_; first | (apply SameBut.gen (u := u_); (on_goal 1 => (dsimp -zeta -zetaHave only [u_]; clear u_)); (on_goal 2 => (clear_value u_; revert u_; intros))) | (clear_value u_; revert u_; intros) | (revert u_; intros))
    | with_reducible assumption
    | with_reducible apply SameBut.refl
    | ((with_reducible apply SameBut.step (k := creditStruct_same _ _ _)); (case hl => rfl))
    | ((with_reducible apply SameBut.step (k := raise_same _ _ _)); (case hl => rfl))
    | split
    | dsimp only

theorem markFailed_same (r : Fin 4) (cause code : Nat) (s : State) : SameBut [.host, .maint, .ev, .sys, .solv, .dpx, .log, .free] s (markFailed r cause code s) := by
  unfold markFailed
  repeat' first
    | (extract_lets +onlyGivenNames u_; first | (apply SameBut.gen (u := u_); (on_goal 1 => (dsimp -zeta -zetaHave only [u_]; clear u_)); (on_goal 2 => (clear_value u_; revert u_; intros))) | (clear_value u_; revert u_; intros) | (revert u_; intros))
    | with_reducible assumption
    | with_reducible apply SameBut.refl
    | ((with_reducible apply SameBut.onSolv); (case hl => rfl))
    | ((with_reducible apply SameBut.onSysMode); (case hl => rfl))
    | (show ∀ _ : SysState, _ ∧ _; intros; repeat' first | exact ⟨rfl, rfl⟩ | split | dsimp only)
    | ((with_reducible apply SameBut.step (k := moveCopies_same _ _)); (case hl => rfl))
    | ((with_reducible apply SameBut.step (k := moveGazebo_same _ _)); (case hl => rfl))
    | ((with_reducible apply SameBut.step (k := raise_same _ _ _)); (case hl => rfl))
    | ((with_reducible apply SameBut.step (k := selfDiag_same _ _)); (case hl => rfl))
    | split
    | dsimp only

theorem dropHostStructs_same (s : State) : SameBut [.sys, .solv] s (dropHostStructs s) := by
  unfold dropHostStructs
  repeat' first
    | (extract_lets +onlyGivenNames u_; first | (apply SameBut.gen (u := u_); (on_goal 1 => (dsimp -zeta -zetaHave only [u_]; clear u_)); (on_goal 2 => (clear_value u_; revert u_; intros))) | (clear_value u_; revert u_; intros) | (revert u_; intros))
    | with_reducible assumption
    | with_reducible apply SameBut.refl
    | ((with_reducible apply SameBut.onSolv); (case hl => rfl))
    | ((with_reducible apply SameBut.onSysMode); (case hl => rfl))
    | (show ∀ _ : SysState, _ ∧ _; intros; repeat' first | exact ⟨rfl, rfl⟩ | split | dsimp only)
    | split
    | dsimp only

theorem finishDp_same (p : Work → Bool) (s : State) : SameBut [.host, .maint, .ev, .solv, .log, .free] s (finishDp p s) := by
  unfold finishDp
  repeat' first
    | (extract_lets +onlyGivenNames u_; first | (apply SameBut.gen (u := u_); (on_goal 1 => (dsimp -zeta -zetaHave only [u_]; clear u_)); (on_goal 2 => (clear_value u_; revert u_; intros))) | (clear_value u_; revert u_; intros) | (revert u_; intros))
    | with_reducible assumption
    | with_reducible apply SameBut.refl
    | ((with_reducible apply SameBut.step (k := cancelDp_same _ _)); (case hl => rfl))
    | ((with_reducible apply SameBut.step (k := creditDp_same _ _ _)); (case hl => rfl))
    | with_reducible apply SameBut.foldl
    | with_reducible intro _
    | split
    | dsimp only

end Sys2Proof.Machine
end

