-- ==== Sys2Proof/Laws/FrameAlloc.lean ====
section
/-! SUPPORT. What each operation of Machine/Alloc.lean leaves alone: every part of the state but those listed. -/

namespace Sys2Proof.Machine

set_option linter.all false

theorem missD3_same (s : State) : SameBut [.host, .maint, .ev, .sys, .alloc, .dpx, .log] s (missD3 s) := by
  unfold missD3
  repeat' first
    | (extract_lets +onlyGivenNames u_; first | (apply SameBut.gen (u := u_); (on_goal 1 => (dsimp -zeta -zetaHave only [u_]; clear u_)); (on_goal 2 => (clear_value u_; revert u_; intros))) | (clear_value u_; revert u_; intros) | (revert u_; intros))
    | with_reducible assumption
    | with_reducible apply SameBut.refl
    | ((with_reducible apply SameBut.onAlloc); (case hl => rfl))
    | ((with_reducible apply SameBut.step (k := missDeadline_same _ _)); (case hl => rfl))
    | ((with_reducible apply SameBut.step (k := raise_same _ _ _)); (case hl => rfl))
    | split
    | dsimp only

theorem submitBank_same (s : State) : SameBut [.solv, .dpc, .alloc, .free] s (submitBank s) := by
  unfold submitBank
  repeat' first
    | (extract_lets +onlyGivenNames u_; first | (apply SameBut.gen (u := u_); (on_goal 1 => (dsimp -zeta -zetaHave only [u_]; clear u_)); (on_goal 2 => (clear_value u_; revert u_; intros))) | (clear_value u_; revert u_; intros) | (revert u_; intros))
    | with_reducible assumption
    | with_reducible apply SameBut.refl
    | ((with_reducible apply SameBut.onAlloc); (case hl => rfl))
    | ((with_reducible apply SameBut.onDpc); (case hl => rfl))
    | ((with_reducible apply SameBut.step (k := cancelDp_same _ _)); (case hl => rfl))
    | ((with_reducible apply SameBut.step (k := submitDp_same _ _)); (case hl => rfl))
    | with_reducible apply SameBut.foldl
    | with_reducible intro _
    | split
    | dsimp only

theorem allocNoResult_same (code : Nat) (s : State) : SameBut [.host, .maint, .ev, .sys, .solv, .dpc, .alloc, .dpx, .log, .free] s (allocNoResult code s) := by
  unfold allocNoResult
  repeat' first
    | (extract_lets +onlyGivenNames u_; first | (apply SameBut.gen (u := u_); (on_goal 1 => (dsimp -zeta -zetaHave only [u_]; clear u_)); (on_goal 2 => (clear_value u_; revert u_; intros))) | (clear_value u_; revert u_; intros) | (revert u_; intros))
    | with_reducible assumption
    | with_reducible apply SameBut.refl
    | ((with_reducible apply SameBut.onAlloc); (case hl => rfl))
    | ((with_reducible apply SameBut.step (k := missD3_same _)); (case hl => rfl))
    | ((with_reducible apply SameBut.step (k := raise_same _ _ _)); (case hl => rfl))
    | ((with_reducible apply SameBut.step (k := submitBank_same _)); (case hl => rfl))
    | split
    | dsimp only

theorem allocReset_same (s : State) : SameBut [.alloc] s (allocReset s) := by
  unfold allocReset
  repeat' first
    | (extract_lets +onlyGivenNames u_; first | (apply SameBut.gen (u := u_); (on_goal 1 => (dsimp -zeta -zetaHave only [u_]; clear u_)); (on_goal 2 => (clear_value u_; revert u_; intros))) | (clear_value u_; revert u_; intros) | (revert u_; intros))
    | with_reducible assumption
    | with_reducible apply SameBut.refl
    | ((with_reducible apply SameBut.onAlloc); (case hl => rfl))
    | split
    | dsimp only

theorem allocResult_same (t : Ticket) (x : List Int) (s : State) : SameBut [.solv, .dpc, .alloc, .free] s (allocResult t x s) := by
  unfold allocResult
  repeat' first
    | (extract_lets +onlyGivenNames u_; first | (apply SameBut.gen (u := u_); (on_goal 1 => (dsimp -zeta -zetaHave only [u_]; clear u_)); (on_goal 2 => (clear_value u_; revert u_; intros))) | (clear_value u_; revert u_; intros) | (revert u_; intros))
    | with_reducible assumption
    | with_reducible apply SameBut.refl
    | ((with_reducible apply SameBut.onAlloc); (case hl => rfl))
    | ((with_reducible apply SameBut.step (k := submitBank_same _)); (case hl => rfl))
    | split
    | dsimp only

theorem bankResult_same (e : Fin 21) (t : Ticket) (o : CopyOut) (s : State) : SameBut [.alloc] s (bankResult e t o s) := by
  unfold bankResult
  repeat' first
    | (extract_lets +onlyGivenNames u_; first | (apply SameBut.gen (u := u_); (on_goal 1 => (dsimp -zeta -zetaHave only [u_]; clear u_)); (on_goal 2 => (clear_value u_; revert u_; intros))) | (clear_value u_; revert u_; intros) | (revert u_; intros))
    | with_reducible assumption
    | with_reducible apply SameBut.refl
    | ((with_reducible apply SameBut.onAlloc); (case hl => rfl))
    | split
    | dsimp only

theorem caNext_same (s : State) : SameBut [.solv, .free] s (caNext s) := by
  unfold caNext
  repeat' first
    | (extract_lets +onlyGivenNames u_; first | (apply SameBut.gen (u := u_); (on_goal 1 => (dsimp -zeta -zetaHave only [u_]; clear u_)); (on_goal 2 => (clear_value u_; revert u_; intros))) | (clear_value u_; revert u_; intros) | (revert u_; intros))
    | with_reducible assumption
    | with_reducible apply SameBut.refl
    | ((with_reducible apply SameBut.step (k := cancelDp_same _ _)); (case hl => rfl))
    | ((with_reducible apply SameBut.step (k := submitDp_same _ _)); (case hl => rfl))
    | split
    | dsimp only

theorem caBegin_same (s : State) : SameBut [.solv, .alloc, .free] s (caBegin s) := by
  unfold caBegin
  repeat' first
    | (extract_lets +onlyGivenNames u_; first | (apply SameBut.gen (u := u_); (on_goal 1 => (dsimp -zeta -zetaHave only [u_]; clear u_)); (on_goal 2 => (clear_value u_; revert u_; intros))) | (clear_value u_; revert u_; intros) | (revert u_; intros))
    | with_reducible assumption
    | with_reducible apply SameBut.refl
    | ((with_reducible apply SameBut.onAlloc); (case hl => rfl))
    | ((with_reducible apply SameBut.step (k := caNext_same _)); (case hl => rfl))
    | split
    | dsimp only

theorem caBoundary_same (s : State) : SameBut [.solv, .alloc, .free] s (caBoundary s) := by
  unfold caBoundary
  repeat' first
    | (extract_lets +onlyGivenNames u_; first | (apply SameBut.gen (u := u_); (on_goal 1 => (dsimp -zeta -zetaHave only [u_]; clear u_)); (on_goal 2 => (clear_value u_; revert u_; intros))) | (clear_value u_; revert u_; intros) | (revert u_; intros))
    | with_reducible assumption
    | with_reducible apply SameBut.refl
    | ((with_reducible apply SameBut.onAlloc); (case hl => rfl))
    | ((with_reducible apply SameBut.step (k := caBegin_same _)); (case hl => rfl))
    | ((with_reducible apply SameBut.step (k := caNext_same _)); (case hl => rfl))
    | split
    | dsimp only

theorem fixAvail_same (s : State) : SameBut [.host, .maint, .ev, .alloc, .log] s (fixAvail s) := by
  unfold fixAvail
  repeat' first
    | (extract_lets +onlyGivenNames u_; first | (apply SameBut.gen (u := u_); (on_goal 1 => (dsimp -zeta -zetaHave only [u_]; clear u_)); (on_goal 2 => (clear_value u_; revert u_; intros))) | (clear_value u_; revert u_; intros) | (revert u_; intros))
    | with_reducible assumption
    | with_reducible apply SameBut.refl
    | ((with_reducible apply SameBut.onAlloc); (case hl => rfl))
    | ((with_reducible apply SameBut.step (k := raise_same _ _ _)); (case hl => rfl))
    | with_reducible apply SameBut.foldl
    | with_reducible intro _
    | split
    | dsimp only

theorem caEnded_same (good : Bool) (s : State) : SameBut [.solv, .alloc, .free] s (caEnded good s) := by
  unfold caEnded
  repeat' first
    | (extract_lets +onlyGivenNames u_; first | (apply SameBut.gen (u := u_); (on_goal 1 => (dsimp -zeta -zetaHave only [u_]; clear u_)); (on_goal 2 => (clear_value u_; revert u_; intros))) | (clear_value u_; revert u_; intros) | (revert u_; intros))
    | with_reducible assumption
    | with_reducible apply SameBut.refl
    | ((with_reducible apply SameBut.onAlloc); (case hl => rfl))
    | ((with_reducible apply SameBut.step (k := caNext_same _)); (case hl => rfl))
    | split
    | dsimp only

theorem caSolve_same (n : Nat) (s : State) : SameBut [.host, .maint, .ev, .solv, .alloc, .log, .free] s (caSolve n s) := by
  unfold caSolve
  repeat' first
    | (extract_lets +onlyGivenNames u_; first | (apply SameBut.gen (u := u_); (on_goal 1 => (dsimp -zeta -zetaHave only [u_]; clear u_)); (on_goal 2 => (clear_value u_; revert u_; intros))) | (clear_value u_; revert u_; intros) | (revert u_; intros))
    | with_reducible assumption
    | with_reducible apply SameBut.refl
    | ((with_reducible apply SameBut.onAlloc); (case hl => rfl))
    | ((with_reducible apply SameBut.step (k := caNext_same _)); (case hl => rfl))
    | ((with_reducible apply SameBut.step (k := charge_same _)); (case hl => rfl))
    | ((with_reducible apply SameBut.step (k := creditDp_same _ _ _)); (case hl => rfl))
    | with_reducible apply SameBut.foldl
    | with_reducible intro _
    | split
    | dsimp only

theorem checkEntry_same (s : State) : SameBut [.alloc] s (checkEntry s) := by
  unfold checkEntry
  repeat' first
    | (extract_lets +onlyGivenNames u_; first | (apply SameBut.gen (u := u_); (on_goal 1 => (dsimp -zeta -zetaHave only [u_]; clear u_)); (on_goal 2 => (clear_value u_; revert u_; intros))) | (clear_value u_; revert u_; intros) | (revert u_; intros))
    | with_reducible assumption
    | with_reducible apply SameBut.refl
    | ((with_reducible apply SameBut.onAlloc); (case hl => rfl))
    | split
    | dsimp only

theorem commitEntry_same (s : State) : SameBut [.alloc] s (commitEntry s) := by
  unfold commitEntry
  repeat' first
    | (extract_lets +onlyGivenNames u_; first | (apply SameBut.gen (u := u_); (on_goal 1 => (dsimp -zeta -zetaHave only [u_]; clear u_)); (on_goal 2 => (clear_value u_; revert u_; intros))) | (clear_value u_; revert u_; intros) | (revert u_; intros))
    | with_reducible assumption
    | with_reducible apply SameBut.refl
    | ((with_reducible apply SameBut.onAlloc); (case hl => rfl))
    | split
    | dsimp only

theorem driveThr_same (t : Fin 16) (s : State) : SameBut [.loop] s (driveThr t s) := by
  unfold driveThr
  repeat' first
    | (extract_lets +onlyGivenNames u_; first | (apply SameBut.gen (u := u_); (on_goal 1 => (dsimp -zeta -zetaHave only [u_]; clear u_)); (on_goal 2 => (clear_value u_; revert u_; intros))) | (clear_value u_; revert u_; intros) | (revert u_; intros))
    | with_reducible assumption
    | with_reducible apply SameBut.refl
    | ((with_reducible apply SameBut.step (k := onEng_same _ _ _)); (case hl => rfl))
    | ((with_reducible apply SameBut.step (k := onProf_same _ _ _)); (case hl => rfl))
    | split
    | dsimp only

theorem execAllocConfig_same (p : Port) (s : State) {t_ : State} (h_ : execAllocConfig p s = .next t_) : SameBut [.host, .maint, .ev, .sys, .dpx, .cfg, .log] s t_ := by
  unfold execAllocConfig at h_
  injection h_ with h_
  subst h_
  repeat' first
    | (extract_lets +onlyGivenNames u_; first | (apply SameBut.gen (u := u_); (on_goal 1 => (dsimp -zeta -zetaHave only [u_]; clear u_)); (on_goal 2 => (clear_value u_; revert u_; intros))) | (clear_value u_; revert u_; intros) | (revert u_; intros))
    | with_reducible assumption
    | with_reducible apply SameBut.refl
    | ((with_reducible apply SameBut.step (k := configRow_same _ _ _ _)); (case hl => rfl))
    | split
    | dsimp only

theorem execAllocConseqConfig_same (p : Port) (s : State) {t_ : State} (h_ : execAllocConseqConfig p s = .next t_) : SameBut [.host, .maint, .ev, .sys, .dpx, .cfg, .log] s t_ := by
  unfold execAllocConseqConfig at h_
  injection h_ with h_
  subst h_
  repeat' first
    | (extract_lets +onlyGivenNames u_; first | (apply SameBut.gen (u := u_); (on_goal 1 => (dsimp -zeta -zetaHave only [u_]; clear u_)); (on_goal 2 => (clear_value u_; revert u_; intros))) | (clear_value u_; revert u_; intros) | (revert u_; intros))
    | with_reducible assumption
    | with_reducible apply SameBut.refl
    | ((with_reducible apply SameBut.step (k := configRow_same _ _ _ _)); (case hl => rfl))
    | split
    | dsimp only

theorem execAllocEnvelopeRead_same (p : Port) (s : State) {t_ : State} (h_ : execAllocEnvelopeRead p s = .next t_) : SameBut [.host, .maint, .sys, .free] s t_ := by
  unfold execAllocEnvelopeRead at h_
  injection h_ with h_
  subst h_
  repeat' first
    | (extract_lets +onlyGivenNames u_; first | (apply SameBut.gen (u := u_); (on_goal 1 => (dsimp -zeta -zetaHave only [u_]; clear u_)); (on_goal 2 => (clear_value u_; revert u_; intros))) | (clear_value u_; revert u_; intros) | (revert u_; intros))
    | with_reducible assumption
    | with_reducible apply SameBut.refl
    | ((with_reducible apply SameBut.step (k := drawn_same _)); (case hl => rfl))
    | ((with_reducible apply SameBut.step (k := finish_same _ _ _ _ _ _ _)); (case hl => rfl))
    | ((with_reducible apply SameBut.step (k := ok_same _ _ _ _ _)); (case hl => rfl))
    | ((with_reducible apply SameBut.runOp); (case hl => rfl))
    | with_reducible intro _
    | split
    | dsimp only

theorem execAllocSlackAlarm_same (s : State) {t_ : State} (h_ : execAllocSlackAlarm s = .next t_) : SameBut [.host, .maint, .ev, .alloc, .log] s t_ := by
  unfold execAllocSlackAlarm at h_
  injection h_ with h_
  subst h_
  repeat' first
    | (extract_lets +onlyGivenNames u_; first | (apply SameBut.gen (u := u_); (on_goal 1 => (dsimp -zeta -zetaHave only [u_]; clear u_)); (on_goal 2 => (clear_value u_; revert u_; intros))) | (clear_value u_; revert u_; intros) | (revert u_; intros))
    | with_reducible assumption
    | with_reducible apply SameBut.refl
    | ((with_reducible apply SameBut.onAlloc); (case hl => rfl))
    | ((with_reducible apply SameBut.step (k := raise_same _ _ _)); (case hl => rfl))
    | split
    | dsimp only

theorem execAllocStateStream_same (p : Port) (s : State) {t_ : State} (h_ : execAllocStateStream p s = .next t_) : SameBut [.host, .maint, .sys, .subs] s t_ := by
  unfold execAllocStateStream at h_
  injection h_ with h_
  subst h_
  repeat' first
    | (extract_lets +onlyGivenNames u_; first | (apply SameBut.gen (u := u_); (on_goal 1 => (dsimp -zeta -zetaHave only [u_]; clear u_)); (on_goal 2 => (clear_value u_; revert u_; intros))) | (clear_value u_; revert u_; intros) | (revert u_; intros))
    | with_reducible assumption
    | with_reducible apply SameBut.refl
    | ((with_reducible apply SameBut.step (k := ok_same _ _ _ _ _)); (case hl => rfl))
    | ((with_reducible apply SameBut.step (k := subscribe_same _ _ _ _ _ _)); (case hl => rfl))
    | ((with_reducible apply SameBut.runOp); (case hl => rfl))
    | with_reducible intro _
    | split
    | dsimp only

theorem execAllocStatus_same (p : Port) (s : State) {t_ : State} (h_ : execAllocStatus p s = .next t_) : SameBut [.host, .maint, .sys] s t_ := by
  unfold execAllocStatus at h_
  injection h_ with h_
  subst h_
  repeat' first
    | (extract_lets +onlyGivenNames u_; first | (apply SameBut.gen (u := u_); (on_goal 1 => (dsimp -zeta -zetaHave only [u_]; clear u_)); (on_goal 2 => (clear_value u_; revert u_; intros))) | (clear_value u_; revert u_; intros) | (revert u_; intros))
    | with_reducible assumption
    | with_reducible apply SameBut.refl
    | ((with_reducible apply SameBut.step (k := ok_same _ _ _ _ _)); (case hl => rfl))
    | ((with_reducible apply SameBut.runOp); (case hl => rfl))
    | with_reducible intro _
    | split
    | dsimp only

theorem execAllocThrusterConfig_same (p : Port) (s : State) {t_ : State} (h_ : execAllocThrusterConfig p s = .next t_) : SameBut [.host, .maint, .ev, .sys, .dpx, .cfg, .log] s t_ := by
  unfold execAllocThrusterConfig at h_
  injection h_ with h_
  subst h_
  repeat' first
    | (extract_lets +onlyGivenNames u_; first | (apply SameBut.gen (u := u_); (on_goal 1 => (dsimp -zeta -zetaHave only [u_]; clear u_)); (on_goal 2 => (clear_value u_; revert u_; intros))) | (clear_value u_; revert u_; intros) | (revert u_; intros))
    | with_reducible assumption
    | with_reducible apply SameBut.refl
    | ((with_reducible apply SameBut.step (k := configRow_same _ _ _ _)); (case hl => rfl))
    | split
    | dsimp only

theorem execAllocThrusterEnable_same (p : Port) (s : State) {t_ : State} (h_ : execAllocThrusterEnable p s = .next t_) : SameBut [.host, .maint, .ev, .sys, .alloc, .log] s t_ := by
  unfold execAllocThrusterEnable at h_
  injection h_ with h_
  subst h_
  repeat' first
    | (extract_lets +onlyGivenNames u_; first | (apply SameBut.gen (u := u_); (on_goal 1 => (dsimp -zeta -zetaHave only [u_]; clear u_)); (on_goal 2 => (clear_value u_; revert u_; intros))) | (clear_value u_; revert u_; intros) | (revert u_; intros))
    | with_reducible assumption
    | with_reducible apply SameBut.refl
    | ((with_reducible apply SameBut.onAlloc); (case hl => rfl))
    | ((with_reducible apply SameBut.step (k := detectCause_same _ _ _)); (case hl => rfl))
    | ((with_reducible apply SameBut.step (k := ok_same _ _ _ _ _)); (case hl => rfl))
    | ((with_reducible apply SameBut.step (k := reject_same _ _ _ _ _)); (case hl => rfl))
    | ((with_reducible apply SameBut.runOp); (case hl => rfl))
    | with_reducible intro _
    | split
    | dsimp only

theorem execAllocThrusterStatus_same (p : Port) (s : State) {t_ : State} (h_ : execAllocThrusterStatus p s = .next t_) : SameBut [.host, .maint, .sys] s t_ := by
  unfold execAllocThrusterStatus at h_
  injection h_ with h_
  subst h_
  repeat' first
    | (extract_lets +onlyGivenNames u_; first | (apply SameBut.gen (u := u_); (on_goal 1 => (dsimp -zeta -zetaHave only [u_]; clear u_)); (on_goal 2 => (clear_value u_; revert u_; intros))) | (clear_value u_; revert u_; intros) | (revert u_; intros))
    | with_reducible assumption
    | with_reducible apply SameBut.refl
    | ((with_reducible apply SameBut.step (k := ok_same _ _ _ _ _)); (case hl => rfl))
    | ((with_reducible apply SameBut.step (k := reject_same _ _ _ _ _)); (case hl => rfl))
    | ((with_reducible apply SameBut.runOp); (case hl => rfl))
    | with_reducible intro _
    | split
    | dsimp only

theorem execCaCycleComplete_same (s : State) {t_ : State} (h_ : execCaCycleComplete s = .next t_) : SameBut [.host, .maint, .ev, .solv, .alloc, .log, .free] s t_ := by
  unfold execCaCycleComplete at h_
  injection h_ with h_
  subst h_
  repeat' first
    | (extract_lets +onlyGivenNames u_; first | (apply SameBut.gen (u := u_); (on_goal 1 => (dsimp -zeta -zetaHave only [u_]; clear u_)); (on_goal 2 => (clear_value u_; revert u_; intros))) | (clear_value u_; revert u_; intros) | (revert u_; intros))
    | with_reducible assumption
    | with_reducible apply SameBut.refl
    | ((with_reducible apply SameBut.onAlloc); (case hl => rfl))
    | ((with_reducible apply SameBut.step (k := caSolve_same _ _)); (case hl => rfl))
    | ((with_reducible apply SameBut.step (k := raise_same _ _ _)); (case hl => rfl))
    | split
    | dsimp only

theorem execCaDirection0Complete_same (s : State) {t_ : State} (h_ : execCaDirection0Complete s = .next t_) : SameBut [.host, .maint, .ev, .solv, .alloc, .log, .free] s t_ := by
  unfold execCaDirection0Complete at h_
  injection h_ with h_
  subst h_
  repeat' first
    | (extract_lets +onlyGivenNames u_; first | (apply SameBut.gen (u := u_); (on_goal 1 => (dsimp -zeta -zetaHave only [u_]; clear u_)); (on_goal 2 => (clear_value u_; revert u_; intros))) | (clear_value u_; revert u_; intros) | (revert u_; intros))
    | with_reducible assumption
    | with_reducible apply SameBut.refl
    | ((with_reducible apply SameBut.onAlloc); (case hl => rfl))
    | ((with_reducible apply SameBut.step (k := caSolve_same _ _)); (case hl => rfl))
    | ((with_reducible apply SameBut.step (k := raise_same _ _ _)); (case hl => rfl))
    | with_reducible apply SameBut.foldl
    | with_reducible intro _
    | split
    | dsimp only

theorem execFeedbackTimeout_same (t : Fin 16) (s : State) {t_ : State} (h_ : execFeedbackTimeout t s = .next t_) : SameBut [.host, .maint, .ev, .time, .alloc, .log] s t_ := by
  unfold execFeedbackTimeout at h_
  injection h_ with h_
  subst h_
  repeat' first
    | (extract_lets +onlyGivenNames u_; first | (apply SameBut.gen (u := u_); (on_goal 1 => (dsimp -zeta -zetaHave only [u_]; clear u_)); (on_goal 2 => (clear_value u_; revert u_; intros))) | (clear_value u_; revert u_; intros) | (revert u_; intros))
    | with_reducible assumption
    | with_reducible apply SameBut.refl
    | ((with_reducible apply SameBut.step (k := advanceTo_same _ _)); (case hl => rfl))
    | ((with_reducible apply SameBut.step (k := detectCause_same _ _ _)); (case hl => rfl))
    | split
    | dsimp only

theorem execHypothesisBankDeadline_same (s : State) {t_ : State} (h_ : execHypothesisBankDeadline s = .next t_) : SameBut [.time, .solv, .free] s t_ := by
  unfold execHypothesisBankDeadline at h_
  injection h_ with h_
  subst h_
  repeat' first
    | (extract_lets +onlyGivenNames u_; first | (apply SameBut.gen (u := u_); (on_goal 1 => (dsimp -zeta -zetaHave only [u_]; clear u_)); (on_goal 2 => (clear_value u_; revert u_; intros))) | (clear_value u_; revert u_; intros) | (revert u_; intros))
    | with_reducible assumption
    | with_reducible apply SameBut.refl
    | ((with_reducible apply SameBut.step (k := cancelDp_same _ _)); (case hl => rfl))
    | ((with_reducible apply SameBut.step (k := stepAt_same _ _)); (case hl => rfl))
    | split
    | dsimp only

theorem execNotreadyDetect_same (t : Fin 16) (s : State) {t_ : State} (h_ : execNotreadyDetect t s = .next t_) : SameBut [.host, .maint, .ev, .alloc, .log] s t_ := by
  unfold execNotreadyDetect at h_
  injection h_ with h_
  subst h_
  repeat' first
    | (extract_lets +onlyGivenNames u_; first | (apply SameBut.gen (u := u_); (on_goal 1 => (dsimp -zeta -zetaHave only [u_]; clear u_)); (on_goal 2 => (clear_value u_; revert u_; intros))) | (clear_value u_; revert u_; intros) | (revert u_; intros))
    | with_reducible assumption
    | with_reducible apply SameBut.refl
    | ((with_reducible apply SameBut.step (k := detectCause_same _ _ _)); (case hl => rfl))
    | split
    | dsimp only

theorem sendThr_same (t : Fin 16) (thrust : Int) (az : Nat) (enable : Bool) (s : State) : SameBut [.host, .maint, .ev, .loop, .can, .log] s (sendThr t thrust az enable s) := by
  unfold sendThr
  repeat' first
    | (extract_lets +onlyGivenNames u_; first | (apply SameBut.gen (u := u_); (on_goal 1 => (dsimp -zeta -zetaHave only [u_]; clear u_)); (on_goal 2 => (clear_value u_; revert u_; intros))) | (clear_value u_; revert u_; intros) | (revert u_; intros))
    | with_reducible assumption
    | with_reducible apply SameBut.refl
    | ((with_reducible apply SameBut.onLoop); (case hl => rfl))
    | ((with_reducible apply SameBut.step (k := queueFn_same _ _ _ _)); (case hl => rfl))
    | split
    | dsimp only

theorem issue_same (s : State) : SameBut [.host, .maint, .ev, .sys, .loop, .can, .log] s (issue s) := by
  unfold issue
  repeat' first
    | (extract_lets +onlyGivenNames u_; first | (apply SameBut.gen (u := u_); (on_goal 1 => (dsimp -zeta -zetaHave only [u_]; clear u_)); (on_goal 2 => (clear_value u_; revert u_; intros))) | (clear_value u_; revert u_; intros) | (revert u_; intros))
    | with_reducible assumption
    | with_reducible apply SameBut.refl
    | ((with_reducible apply SameBut.step (k := driveBound_same _ _)); (case hl => rfl))
    | ((with_reducible apply SameBut.step (k := driveThr_same _ _)); (case hl => rfl))
    | ((with_reducible apply SameBut.step (k := sendThr_same _ _ _ _ _)); (case hl => rfl))
    | with_reducible apply SameBut.foldl
    | with_reducible intro _
    | split
    | dsimp only

theorem setBinding_same (v : Vector Bool 4) (s : State) : SameBut [.host, .maint, .ev, .dpc, .log] s (setBinding v s) := by
  unfold setBinding
  repeat' first
    | (extract_lets +onlyGivenNames u_; first | (apply SameBut.gen (u := u_); (on_goal 1 => (dsimp -zeta -zetaHave only [u_]; clear u_)); (on_goal 2 => (clear_value u_; revert u_; intros))) | (clear_value u_; revert u_; intros) | (revert u_; intros))
    | with_reducible assumption
    | with_reducible apply SameBut.refl
    | ((with_reducible apply SameBut.onDpc); (case hl => rfl))
    | ((with_reducible apply SameBut.step (k := raise_same _ _ _)); (case hl => rfl))
    | with_reducible apply SameBut.foldl
    | with_reducible intro _
    | split
    | dsimp only

theorem slackCount_same (s : State) : SameBut [.alloc] s (slackCount s) := by
  unfold slackCount
  repeat' first
    | (extract_lets +onlyGivenNames u_; first | (apply SameBut.gen (u := u_); (on_goal 1 => (dsimp -zeta -zetaHave only [u_]; clear u_)); (on_goal 2 => (clear_value u_; revert u_; intros))) | (clear_value u_; revert u_; intros) | (revert u_; intros))
    | with_reducible assumption
    | with_reducible apply SameBut.refl
    | ((with_reducible apply SameBut.onAlloc); (case hl => rfl))
    | split
    | dsimp only

theorem execSetpointIssue_same (s : State) {t_ : State} (h_ : execSetpointIssue s = .next t_) : SameBut [.host, .maint, .ev, .sys, .time, .solv, .dpc, .alloc, .loop, .can, .log, .free] s t_ := by
  unfold execSetpointIssue at h_
  injection h_ with h_
  subst h_
  repeat' first
    | (extract_lets +onlyGivenNames u_; first | (apply SameBut.gen (u := u_); (on_goal 1 => (dsimp -zeta -zetaHave only [u_]; clear u_)); (on_goal 2 => (clear_value u_; revert u_; intros))) | (clear_value u_; revert u_; intros) | (revert u_; intros))
    | with_reducible assumption
    | with_reducible apply SameBut.refl
    | ((with_reducible apply SameBut.onAlloc); (case hl => rfl))
    | ((with_reducible apply SameBut.step (k := cancelDp_same _ _)); (case hl => rfl))
    | ((with_reducible apply SameBut.step (k := issue_same _)); (case hl => rfl))
    | ((with_reducible apply SameBut.step (k := raise_same _ _ _)); (case hl => rfl))
    | ((with_reducible apply SameBut.step (k := setBinding_same _ _)); (case hl => rfl))
    | ((with_reducible apply SameBut.step (k := slackCount_same _)); (case hl => rfl))
    | ((with_reducible apply SameBut.step (k := stepAt_same _ _)); (case hl => rfl))
    | ((with_reducible apply SameBut.step (k := stream_same _ _ _ _)); (case hl => rfl))
    | ((with_reducible apply SameBut.step (k := submitBank_same _)); (case hl => rfl))
    | split
    | dsimp only

theorem linearize_same (b : Nat) (s : State) : SameBut [.alloc] s (linearize b s) := by
  unfold linearize
  repeat' first
    | (extract_lets +onlyGivenNames u_; first | (apply SameBut.gen (u := u_); (on_goal 1 => (dsimp -zeta -zetaHave only [u_]; clear u_)); (on_goal 2 => (clear_value u_; revert u_; intros))) | (clear_value u_; revert u_; intros) | (revert u_; intros))
    | with_reducible assumption
    | with_reducible apply SameBut.refl
    | ((with_reducible apply SameBut.onAlloc); (case hl => rfl))
    | split
    | dsimp only

theorem predict_same (s : State) : SameBut [.alloc] s (predict s) := by
  unfold predict
  repeat' first
    | (extract_lets +onlyGivenNames u_; first | (apply SameBut.gen (u := u_); (on_goal 1 => (dsimp -zeta -zetaHave only [u_]; clear u_)); (on_goal 2 => (clear_value u_; revert u_; intros))) | (clear_value u_; revert u_; intros) | (revert u_; intros))
    | with_reducible assumption
    | with_reducible apply SameBut.refl
    | ((with_reducible apply SameBut.onAlloc); (case hl => rfl))
    | split
    | dsimp only

theorem submitDp1_same (fail : Option Nat) (s : State) : SameBut [.solv, .free] s (submitDp1 fail s) := by
  unfold submitDp1
  repeat' first
    | (extract_lets +onlyGivenNames u_; first | (apply SameBut.gen (u := u_); (on_goal 1 => (dsimp -zeta -zetaHave only [u_]; clear u_)); (on_goal 2 => (clear_value u_; revert u_; intros))) | (clear_value u_; revert u_; intros) | (revert u_; intros))
    | with_reducible assumption
    | with_reducible apply SameBut.refl
    | ((with_reducible apply SameBut.step (k := submitDp_same _ _)); (case hl => rfl))
    | split
    | dsimp only

theorem execSpeculationCheck_same (s : State) {t_ : State} (h_ : execSpeculationCheck s = .next t_) : SameBut [.time, .solv, .alloc, .free] s t_ := by
  unfold execSpeculationCheck at h_
  injection h_ with h_
  subst h_
  repeat' first
    | (extract_lets +onlyGivenNames u_; first | (apply SameBut.gen (u := u_); (on_goal 1 => (dsimp -zeta -zetaHave only [u_]; clear u_)); (on_goal 2 => (clear_value u_; revert u_; intros))) | (revert u_; intros))
    | with_reducible assumption
    | with_reducible apply SameBut.refl
    | ((with_reducible apply SameBut.onAlloc); (case hl => rfl))
    | ((with_reducible apply SameBut.step (k := cancelDp_same _ _)); (case hl => rfl))
    | ((with_reducible apply SameBut.step (k := checkEntry_same _)); (case hl => rfl))
    | ((with_reducible apply SameBut.step (k := commitEntry_same _)); (case hl => rfl))
    | ((with_reducible apply SameBut.step (k := linearize_same _ _)); (case hl => rfl))
    | ((with_reducible apply SameBut.step (k := predict_same _)); (case hl => rfl))
    | ((with_reducible apply SameBut.step (k := stepAt_same _ _)); (case hl => rfl))
    | ((with_reducible apply SameBut.step (k := submitDp1_same _ _)); (case hl => rfl))
    | split
    | dsimp only

theorem execThrusterReturnTimer_same (t : Fin 16) (s : State) {t_ : State} (h_ : execThrusterReturnTimer t s = .next t_) : SameBut [.time, .alloc] s t_ := by
  unfold execThrusterReturnTimer at h_
  injection h_ with h_
  subst h_
  repeat' first
    | (extract_lets +onlyGivenNames u_; first | (apply SameBut.gen (u := u_); (on_goal 1 => (dsimp -zeta -zetaHave only [u_]; clear u_)); (on_goal 2 => (clear_value u_; revert u_; intros))) | (clear_value u_; revert u_; intros) | (revert u_; intros))
    | with_reducible assumption
    | with_reducible apply SameBut.refl
    | ((with_reducible apply SameBut.onAlloc); (case hl => rfl))
    | ((with_reducible apply SameBut.step (k := advanceTo_same _ _)); (case hl => rfl))
    | with_reducible apply SameBut.foldl
    | with_reducible intro _
    | split
    | dsimp only

end Sys2Proof.Machine
end

