-- ==== Sys2Proof/Laws/FrameKiln.lean ====
section
/-! SUPPORT. What each operation of Machine/Kiln.lean leaves alone: every part of the state but those listed. -/

namespace Sys2Proof.Machine

set_option linter.all false

theorem kilnUnstage_same (s : State) : SameBut [.kiln] s (kilnUnstage s) := by
  unfold kilnUnstage
  repeat' first
    | (extract_lets +onlyGivenNames u_; first | (apply SameBut.gen (u := u_); (on_goal 1 => (dsimp -zeta -zetaHave only [u_]; clear u_)); (on_goal 2 => (clear_value u_; revert u_; intros))) | (clear_value u_; revert u_; intros) | (revert u_; intros))
    | with_reducible assumption
    | with_reducible apply SameBut.refl
    | ((with_reducible apply SameBut.onKiln); (case hl => rfl))
    | split
    | dsimp only

theorem kilnStep_same (f : Nat → KilnState → KilnState) (s : State) : SameBut [.kiln] s (kilnStep f s) := by
  unfold kilnStep
  repeat' first
    | (extract_lets +onlyGivenNames u_; first | (apply SameBut.gen (u := u_); (on_goal 1 => (dsimp -zeta -zetaHave only [u_]; clear u_)); (on_goal 2 => (clear_value u_; revert u_; intros))) | (clear_value u_; revert u_; intros) | (revert u_; intros))
    | with_reducible assumption
    | with_reducible apply SameBut.refl
    | ((with_reducible apply SameBut.onKiln); (case hl => rfl))
    | split
    | dsimp only

theorem execFeedbackCheckTimeout_same (n : Fin 8) (fba fbb : Bool) (s : State) {t_ : State} (h_ : execFeedbackCheckTimeout n fba fbb s = .next t_) : SameBut [.time, .kiln] s t_ := by
  unfold execFeedbackCheckTimeout at h_
  injection h_ with h_
  subst h_
  repeat' first
    | (extract_lets +onlyGivenNames u_; first | (apply SameBut.gen (u := u_); (on_goal 1 => (dsimp -zeta -zetaHave only [u_]; clear u_)); (on_goal 2 => (clear_value u_; revert u_; intros))) | (clear_value u_; revert u_; intros) | (revert u_; intros))
    | with_reducible assumption
    | with_reducible apply SameBut.refl
    | ((with_reducible apply SameBut.step (k := advanceNow_same _ _)); (case hl => rfl))
    | ((with_reducible apply SameBut.step (k := kilnStep_same _ _)); (case hl => rfl))
    | split
    | dsimp only

/-- A row that needs the Kiln's link. -/
theorem SameBut.needKiln {l : List Part} {s u : State} (p : Port) (c : Cmd) (body : State → State)
    (hl : (([.host, .maint, .sys] : List Part).all fun q => l.contains q) = true)
    (hb : ∀ w, SameBut l w (body w)) (h : SameBut l s u) : SameBut l s (needKiln p c body u) := by
  refine h.trans ?_
  unfold Machine.needKiln
  split
  · exact hb _
  · exact (SameBut.refl _ _).step (finish_same _ _ _ _ _ _ _) hl

theorem execKilnAck_same (p : Port) (s : State) {t_ : State} (h_ : execKilnAck p s = .next t_) : SameBut [.host, .maint, .sys, .kiln] s t_ := by
  unfold execKilnAck at h_
  injection h_ with h_
  subst h_
  repeat' first
    | (extract_lets +onlyGivenNames u_; first | (apply SameBut.gen (u := u_); (on_goal 1 => (dsimp -zeta -zetaHave only [u_]; clear u_)); (on_goal 2 => (clear_value u_; revert u_; intros))) | (clear_value u_; revert u_; intros) | (revert u_; intros))
    | with_reducible assumption
    | with_reducible apply SameBut.refl
    | ((with_reducible apply SameBut.step (k := kilnStep_same _ _)); (case hl => rfl))
    | ((with_reducible apply SameBut.step (k := ok_same _ _ _ _ _)); (case hl => rfl))
    | ((with_reducible apply SameBut.runOp); (case hl => rfl))
    | ((with_reducible apply SameBut.needKiln); (case hl => rfl))
    | with_reducible intro _
    | split
    | dsimp only

theorem execKilnBrake_same (p : Port) (s : State) {t_ : State} (h_ : execKilnBrake p s = .next t_) : SameBut [.host, .maint, .sys, .kiln] s t_ := by
  unfold execKilnBrake at h_
  injection h_ with h_
  subst h_
  repeat' first
    | (extract_lets +onlyGivenNames u_; first | (apply SameBut.gen (u := u_); (on_goal 1 => (dsimp -zeta -zetaHave only [u_]; clear u_)); (on_goal 2 => (clear_value u_; revert u_; intros))) | (clear_value u_; revert u_; intros) | (revert u_; intros))
    | with_reducible assumption
    | with_reducible apply SameBut.refl
    | ((with_reducible apply SameBut.step (k := kilnStep_same _ _)); (case hl => rfl))
    | ((with_reducible apply SameBut.step (k := ok_same _ _ _ _ _)); (case hl => rfl))
    | ((with_reducible apply SameBut.runOp); (case hl => rfl))
    | ((with_reducible apply SameBut.needKiln); (case hl => rfl))
    | with_reducible intro _
    | split
    | dsimp only

theorem execKilnChannelCompareFault_same (s : State) {t_ : State} (h_ : execKilnChannelCompareFault s = .next t_) : SameBut [.kiln] s t_ := by
  unfold execKilnChannelCompareFault at h_
  injection h_ with h_
  subst h_
  repeat' first
    | (extract_lets +onlyGivenNames u_; first | (apply SameBut.gen (u := u_); (on_goal 1 => (dsimp -zeta -zetaHave only [u_]; clear u_)); (on_goal 2 => (clear_value u_; revert u_; intros))) | (clear_value u_; revert u_; intros) | (revert u_; intros))
    | with_reducible assumption
    | with_reducible apply SameBut.refl
    | ((with_reducible apply SameBut.step (k := kilnStep_same _ _)); (case hl => rfl))
    | split
    | dsimp only

theorem execKilnConfig_same (p : Port) (s : State) {t_ : State} (h_ : execKilnConfig p s = .next t_) : SameBut [.host, .maint, .sys, .kiln] s t_ := by
  unfold execKilnConfig at h_
  injection h_ with h_
  subst h_
  repeat' first
    | (extract_lets +onlyGivenNames u_; first | (apply SameBut.gen (u := u_); (on_goal 1 => (dsimp -zeta -zetaHave only [u_]; clear u_)); (on_goal 2 => (clear_value u_; revert u_; intros))) | (clear_value u_; revert u_; intros) | (revert u_; intros))
    | with_reducible assumption
    | with_reducible apply SameBut.refl
    | ((with_reducible apply SameBut.onKiln); (case hl => rfl))
    | ((with_reducible apply SameBut.step (k := ok_same _ _ _ _ _)); (case hl => rfl))
    | ((with_reducible apply SameBut.step (k := reject_same _ _ _ _ _)); (case hl => rfl))
    | ((with_reducible apply SameBut.runOp); (case hl => rfl))
    | ((with_reducible apply SameBut.needKiln); (case hl => rfl))
    | with_reducible intro _
    | split
    | dsimp only

theorem execKilnConfigCrcCheck_same (ok : Bool) (s : State) {t_ : State} (h_ : execKilnConfigCrcCheck ok s = .next t_) : SameBut [.host, .maint, .sys, .kiln] s t_ := by
  unfold execKilnConfigCrcCheck at h_
  injection h_ with h_
  subst h_
  repeat' first
    | (extract_lets +onlyGivenNames u_; first | (apply SameBut.gen (u := u_); (on_goal 1 => (dsimp -zeta -zetaHave only [u_]; clear u_)); (on_goal 2 => (clear_value u_; revert u_; intros))) | (clear_value u_; revert u_; intros) | (revert u_; intros))
    | with_reducible assumption
    | with_reducible apply SameBut.refl
    | ((with_reducible apply SameBut.step (k := kilnStep_same _ _)); (case hl => rfl))
    | ((with_reducible apply SameBut.step (k := ok_same _ _ _ _ _)); (case hl => rfl))
    | split
    | dsimp only

theorem execKilnConfirm_same (p : Port) (s : State) {t_ : State} (h_ : execKilnConfirm p s = .next t_) : SameBut [.host, .maint, .sys, .kiln] s t_ := by
  unfold execKilnConfirm at h_
  injection h_ with h_
  subst h_
  repeat' first
    | (extract_lets +onlyGivenNames u_; first | (apply SameBut.gen (u := u_); (on_goal 1 => (dsimp -zeta -zetaHave only [u_]; clear u_)); (on_goal 2 => (clear_value u_; revert u_; intros))) | (clear_value u_; revert u_; intros) | (revert u_; intros))
    | with_reducible assumption
    | with_reducible apply SameBut.refl
    | ((with_reducible apply SameBut.step (k := finish_same _ _ _ _ _ _ _)); (case hl => rfl))
    | ((with_reducible apply SameBut.step (k := kilnStep_same _ _)); (case hl => rfl))
    | ((with_reducible apply SameBut.step (k := pending_same _ _ _ _)); (case hl => rfl))
    | ((with_reducible apply SameBut.step (k := reject_same _ _ _ _ _)); (case hl => rfl))
    | ((with_reducible apply SameBut.runOp); (case hl => rfl))
    | with_reducible intro _
    | split
    | dsimp only

theorem execKilnReadConfig_same (p : Port) (s : State) {t_ : State} (h_ : execKilnReadConfig p s = .next t_) : SameBut [.host, .maint, .sys] s t_ := by
  unfold execKilnReadConfig at h_
  injection h_ with h_
  subst h_
  repeat' first
    | (extract_lets +onlyGivenNames u_; first | (apply SameBut.gen (u := u_); (on_goal 1 => (dsimp -zeta -zetaHave only [u_]; clear u_)); (on_goal 2 => (clear_value u_; revert u_; intros))) | (clear_value u_; revert u_; intros) | (revert u_; intros))
    | with_reducible assumption
    | with_reducible apply SameBut.refl
    | ((with_reducible apply SameBut.step (k := ok_same _ _ _ _ _)); (case hl => rfl))
    | ((with_reducible apply SameBut.runOp); (case hl => rfl))
    | ((with_reducible apply SameBut.needKiln); (case hl => rfl))
    | with_reducible intro _
    | split
    | dsimp only

theorem execKilnRecoveryEnd_same (pass : Bool) (s : State) {t_ : State} (h_ : execKilnRecoveryEnd pass s = .next t_) : SameBut [.kiln] s t_ := by
  unfold execKilnRecoveryEnd at h_
  injection h_ with h_
  subst h_
  repeat' first
    | (extract_lets +onlyGivenNames u_; first | (apply SameBut.gen (u := u_); (on_goal 1 => (dsimp -zeta -zetaHave only [u_]; clear u_)); (on_goal 2 => (clear_value u_; revert u_; intros))) | (clear_value u_; revert u_; intros) | (revert u_; intros))
    | with_reducible assumption
    | with_reducible apply SameBut.refl
    | ((with_reducible apply SameBut.step (k := kilnStep_same _ _)); (case hl => rfl))
    | split
    | dsimp only

theorem execKilnRequestStale_same (path : Fin 2) (s : State) {t_ : State} (h_ : execKilnRequestStale path s = .next t_) : SameBut [.time, .kiln] s t_ := by
  unfold execKilnRequestStale at h_
  injection h_ with h_
  subst h_
  repeat' first
    | (extract_lets +onlyGivenNames u_; first | (apply SameBut.gen (u := u_); (on_goal 1 => (dsimp -zeta -zetaHave only [u_]; clear u_)); (on_goal 2 => (clear_value u_; revert u_; intros))) | (clear_value u_; revert u_; intros) | (revert u_; intros))
    | with_reducible assumption
    | with_reducible apply SameBut.refl
    | ((with_reducible apply SameBut.step (k := advanceNow_same _ _)); (case hl => rfl))
    | ((with_reducible apply SameBut.step (k := kilnStep_same _ _)); (case hl => rfl))
    | split
    | dsimp only

theorem execKilnRequestWord_same (path : Fin 2) (mask comp : Byte) (s : State) {t_ : State} (h_ : execKilnRequestWord path mask comp s = .next t_) : SameBut [.kiln] s t_ := by
  unfold execKilnRequestWord at h_
  injection h_ with h_
  subst h_
  repeat' first
    | (extract_lets +onlyGivenNames u_; first | (apply SameBut.gen (u := u_); (on_goal 1 => (dsimp -zeta -zetaHave only [u_]; clear u_)); (on_goal 2 => (clear_value u_; revert u_; intros))) | (clear_value u_; revert u_; intros) | (revert u_; intros))
    | with_reducible assumption
    | with_reducible apply SameBut.refl
    | ((with_reducible apply SameBut.step (k := kilnStep_same _ _)); (case hl => rfl))
    | split
    | dsimp only

theorem execKilnResetInput_same (highMs : Nat) (s : State) {t_ : State} (h_ : execKilnResetInput highMs s = .next t_) : SameBut [.kiln] s t_ := by
  unfold execKilnResetInput at h_
  injection h_ with h_
  subst h_
  repeat' first
    | (extract_lets +onlyGivenNames u_; first | (apply SameBut.gen (u := u_); (on_goal 1 => (dsimp -zeta -zetaHave only [u_]; clear u_)); (on_goal 2 => (clear_value u_; revert u_; intros))) | (clear_value u_; revert u_; intros) | (revert u_; intros))
    | with_reducible assumption
    | with_reducible apply SameBut.refl
    | ((with_reducible apply SameBut.step (k := kilnStep_same _ _)); (case hl => rfl))
    | split
    | dsimp only

theorem execKilnRingCrossCheck_same (k1 k2 : Nat) (s : State) {t_ : State} (h_ : execKilnRingCrossCheck k1 k2 s = .next t_) : SameBut [.kiln] s t_ := by
  unfold execKilnRingCrossCheck at h_
  injection h_ with h_
  subst h_
  repeat' first
    | (extract_lets +onlyGivenNames u_; first | (apply SameBut.gen (u := u_); (on_goal 1 => (dsimp -zeta -zetaHave only [u_]; clear u_)); (on_goal 2 => (clear_value u_; revert u_; intros))) | (clear_value u_; revert u_; intros) | (revert u_; intros))
    | with_reducible assumption
    | with_reducible apply SameBut.refl
    | ((with_reducible apply SameBut.step (k := kilnStep_same _ _)); (case hl => rfl))
    | split
    | dsimp only

theorem execKilnStageExpiry_same (s : State) {t_ : State} (h_ : execKilnStageExpiry s = .next t_) : SameBut [.time, .kiln] s t_ := by
  unfold execKilnStageExpiry at h_
  injection h_ with h_
  subst h_
  repeat' first
    | (extract_lets +onlyGivenNames u_; first | (apply SameBut.gen (u := u_); (on_goal 1 => (dsimp -zeta -zetaHave only [u_]; clear u_)); (on_goal 2 => (clear_value u_; revert u_; intros))) | (clear_value u_; revert u_; intros) | (revert u_; intros))
    | with_reducible assumption
    | with_reducible apply SameBut.refl
    | ((with_reducible apply SameBut.onKiln); (case hl => rfl))
    | ((with_reducible apply SameBut.step (k := advanceNow_same _ _)); (case hl => rfl))
    | split
    | dsimp only

theorem execKilnStartTestComplete_same (pass : Bool) (s : State) {t_ : State} (h_ : execKilnStartTestComplete pass s = .next t_) : SameBut [.kiln] s t_ := by
  unfold execKilnStartTestComplete at h_
  injection h_ with h_
  subst h_
  repeat' first
    | (extract_lets +onlyGivenNames u_; first | (apply SameBut.gen (u := u_); (on_goal 1 => (dsimp -zeta -zetaHave only [u_]; clear u_)); (on_goal 2 => (clear_value u_; revert u_; intros))) | (clear_value u_; revert u_; intros) | (revert u_; intros))
    | with_reducible assumption
    | with_reducible apply SameBut.refl
    | ((with_reducible apply SameBut.step (k := kilnStep_same _ _)); (case hl => rfl))
    | split
    | dsimp only

theorem execKilnStateArrival_same (s : State) {t_ : State} (h_ : execKilnStateArrival s = .next t_) : SameBut [.host, .maint, .ev, .kiln, .log] s t_ := by
  unfold execKilnStateArrival at h_
  injection h_ with h_
  subst h_
  repeat' first
    | (extract_lets +onlyGivenNames u_; first | (apply SameBut.gen (u := u_); (on_goal 1 => (dsimp -zeta -zetaHave only [u_]; clear u_)); (on_goal 2 => (clear_value u_; revert u_; intros))) | (clear_value u_; revert u_; intros) | (revert u_; intros))
    | with_reducible assumption
    | with_reducible apply SameBut.refl
    | ((with_reducible apply SameBut.onKiln); (case hl => rfl))
    | ((with_reducible apply SameBut.step (k := raise_same _ _ _)); (case hl => rfl))
    | split
    | dsimp only

theorem execKilnStatus_same (p : Port) (s : State) {t_ : State} (h_ : execKilnStatus p s = .next t_) : SameBut [.host, .maint, .sys] s t_ := by
  unfold execKilnStatus at h_
  injection h_ with h_
  subst h_
  repeat' first
    | (extract_lets +onlyGivenNames u_; first | (apply SameBut.gen (u := u_); (on_goal 1 => (dsimp -zeta -zetaHave only [u_]; clear u_)); (on_goal 2 => (clear_value u_; revert u_; intros))) | (clear_value u_; revert u_; intros) | (revert u_; intros))
    | with_reducible assumption
    | with_reducible apply SameBut.refl
    | ((with_reducible apply SameBut.step (k := ok_same _ _ _ _ _)); (case hl => rfl))
    | ((with_reducible apply SameBut.runOp); (case hl => rfl))
    | ((with_reducible apply SameBut.needKiln); (case hl => rfl))
    | with_reducible intro _
    | split
    | dsimp only

theorem execKilnWriteComplete_same (readbackOk : Bool) (s : State) {t_ : State} (h_ : execKilnWriteComplete readbackOk s = .next t_) : SameBut [.host, .maint, .ev, .sys, .kiln, .log] s t_ := by
  unfold execKilnWriteComplete at h_
  injection h_ with h_
  subst h_
  repeat' first
    | (extract_lets +onlyGivenNames u_; first | (apply SameBut.gen (u := u_); (on_goal 1 => (dsimp -zeta -zetaHave only [u_]; clear u_)); (on_goal 2 => (clear_value u_; revert u_; intros))) | (clear_value u_; revert u_; intros) | (revert u_; intros))
    | with_reducible assumption
    | with_reducible apply SameBut.refl
    | ((with_reducible apply SameBut.step (k := changeRecord_same _ _ _ _ _ _ _ _)); (case hl => rfl))
    | ((with_reducible apply SameBut.step (k := finish_same _ _ _ _ _ _ _)); (case hl => rfl))
    | ((with_reducible apply SameBut.step (k := kilnStep_same _ _)); (case hl => rfl))
    | split
    | dsimp only

theorem execOutputTestSlot_same (slot : Fin 16) (s : State) {t_ : State} (h_ : execOutputTestSlot slot s = .next t_) : SameBut [.kiln] s t_ := by
  unfold execOutputTestSlot at h_
  injection h_ with h_
  subst h_
  repeat' first
    | (extract_lets +onlyGivenNames u_; first | (apply SameBut.gen (u := u_); (on_goal 1 => (dsimp -zeta -zetaHave only [u_]; clear u_)); (on_goal 2 => (clear_value u_; revert u_; intros))) | (clear_value u_; revert u_; intros) | (revert u_; intros))
    | with_reducible assumption
    | with_reducible apply SameBut.refl
    | ((with_reducible apply SameBut.step (k := kilnStep_same _ _)); (case hl => rfl))
    | split
    | dsimp only

theorem execPairDiscrepancyTimeout_same (j : Fin 8) (s : State) {t_ : State} (h_ : execPairDiscrepancyTimeout j s = .next t_) : SameBut [.time, .kiln] s t_ := by
  unfold execPairDiscrepancyTimeout at h_
  injection h_ with h_
  subst h_
  repeat' first
    | (extract_lets +onlyGivenNames u_; first | (apply SameBut.gen (u := u_); (on_goal 1 => (dsimp -zeta -zetaHave only [u_]; clear u_)); (on_goal 2 => (clear_value u_; revert u_; intros))) | (clear_value u_; revert u_; intros) | (revert u_; intros))
    | with_reducible assumption
    | with_reducible apply SameBut.refl
    | ((with_reducible apply SameBut.step (k := advanceNow_same _ _)); (case hl => rfl))
    | ((with_reducible apply SameBut.step (k := kilnStep_same _ _)); (case hl => rfl))
    | split
    | dsimp only

theorem execReadbackFault_same (n : Fin 8) (outB level : Bool) (s : State) {t_ : State} (h_ : execReadbackFault n outB level s = .next t_) : SameBut [.kiln] s t_ := by
  unfold execReadbackFault at h_
  injection h_ with h_
  subst h_
  repeat' first
    | (extract_lets +onlyGivenNames u_; first | (apply SameBut.gen (u := u_); (on_goal 1 => (dsimp -zeta -zetaHave only [u_]; clear u_)); (on_goal 2 => (clear_value u_; revert u_; intros))) | (clear_value u_; revert u_; intros) | (revert u_; intros))
    | with_reducible assumption
    | with_reducible apply SameBut.refl
    | ((with_reducible apply SameBut.step (k := kilnStep_same _ _)); (case hl => rfl))
    | split
    | dsimp only

theorem execSafeInputChange_same (i : Fin 16) (level : Bool) (s : State) {t_ : State} (h_ : execSafeInputChange i level s = .next t_) : SameBut [.kiln] s t_ := by
  unfold execSafeInputChange at h_
  injection h_ with h_
  subst h_
  repeat' first
    | (extract_lets +onlyGivenNames u_; first | (apply SameBut.gen (u := u_); (on_goal 1 => (dsimp -zeta -zetaHave only [u_]; clear u_)); (on_goal 2 => (clear_value u_; revert u_; intros))) | (clear_value u_; revert u_; intros) | (revert u_; intros))
    | with_reducible assumption
    | with_reducible apply SameBut.refl
    | ((with_reducible apply SameBut.step (k := kilnStep_same _ _)); (case hl => rfl))
    | split
    | dsimp only

theorem execSdDegradedTimeout_same (s : State) {t_ : State} (h_ : execSdDegradedTimeout s = .next t_) : SameBut [.time, .kiln] s t_ := by
  unfold execSdDegradedTimeout at h_
  injection h_ with h_
  subst h_
  repeat' first
    | (extract_lets +onlyGivenNames u_; first | (apply SameBut.gen (u := u_); (on_goal 1 => (dsimp -zeta -zetaHave only [u_]; clear u_)); (on_goal 2 => (clear_value u_; revert u_; intros))) | (clear_value u_; revert u_; intros) | (revert u_; intros))
    | with_reducible assumption
    | with_reducible apply SameBut.refl
    | ((with_reducible apply SameBut.step (k := advanceNow_same _ _)); (case hl => rfl))
    | ((with_reducible apply SameBut.step (k := kilnStep_same _ _)); (case hl => rfl))
    | split
    | dsimp only

theorem execSdTelegramCopy_same (bus4 : Bool) (bytes : List Byte) (s : State) {t_ : State} (h_ : execSdTelegramCopy bus4 bytes s = .next t_) : SameBut [.kiln] s t_ := by
  unfold execSdTelegramCopy at h_
  injection h_ with h_
  subst h_
  repeat' first
    | (extract_lets +onlyGivenNames u_; first | (apply SameBut.gen (u := u_); (on_goal 1 => (dsimp -zeta -zetaHave only [u_]; clear u_)); (on_goal 2 => (clear_value u_; revert u_; intros))) | (clear_value u_; revert u_; intros) | (revert u_; intros))
    | with_reducible assumption
    | with_reducible apply SameBut.refl
    | ((with_reducible apply SameBut.step (k := kilnStep_same _ _)); (case hl => rfl))
    | split
    | dsimp only

theorem execSdTimeout_same (s : State) {t_ : State} (h_ : execSdTimeout s = .next t_) : SameBut [.time, .kiln] s t_ := by
  unfold execSdTimeout at h_
  injection h_ with h_
  subst h_
  repeat' first
    | (extract_lets +onlyGivenNames u_; first | (apply SameBut.gen (u := u_); (on_goal 1 => (dsimp -zeta -zetaHave only [u_]; clear u_)); (on_goal 2 => (clear_value u_; revert u_; intros))) | (clear_value u_; revert u_; intros) | (revert u_; intros))
    | with_reducible assumption
    | with_reducible apply SameBut.refl
    | ((with_reducible apply SameBut.step (k := advanceNow_same _ _)); (case hl => rfl))
    | ((with_reducible apply SameBut.step (k := kilnStep_same _ _)); (case hl => rfl))
    | split
    | dsimp only

theorem execSdWindowEnd_same (s : State) {t_ : State} (h_ : execSdWindowEnd s = .next t_) : SameBut [.time, .kiln] s t_ := by
  unfold execSdWindowEnd at h_
  injection h_ with h_
  subst h_
  repeat' first
    | (extract_lets +onlyGivenNames u_; first | (apply SameBut.gen (u := u_); (on_goal 1 => (dsimp -zeta -zetaHave only [u_]; clear u_)); (on_goal 2 => (clear_value u_; revert u_; intros))) | (clear_value u_; revert u_; intros) | (revert u_; intros))
    | with_reducible assumption
    | with_reducible apply SameBut.refl
    | ((with_reducible apply SameBut.step (k := advanceNow_same _ _)); (case hl => rfl))
    | ((with_reducible apply SameBut.step (k := kilnStep_same _ _)); (case hl => rfl))
    | split
    | dsimp only

theorem execTestPulseEnd_same (slot : Fin 16) (readbackOk mirrorOpen : Bool) (s : State) {t_ : State} (h_ : execTestPulseEnd slot readbackOk mirrorOpen s = .next t_) : SameBut [.time, .kiln] s t_ := by
  unfold execTestPulseEnd at h_
  injection h_ with h_
  subst h_
  repeat' first
    | (extract_lets +onlyGivenNames u_; first | (apply SameBut.gen (u := u_); (on_goal 1 => (dsimp -zeta -zetaHave only [u_]; clear u_)); (on_goal 2 => (clear_value u_; revert u_; intros))) | (clear_value u_; revert u_; intros) | (revert u_; intros))
    | with_reducible assumption
    | with_reducible apply SameBut.refl
    | ((with_reducible apply SameBut.step (k := advanceNow_same _ _)); (case hl => rfl))
    | ((with_reducible apply SameBut.step (k := kilnStep_same _ _)); (case hl => rfl))
    | split
    | dsimp only

theorem execVkilnLoss_same (s : State) {t_ : State} (h_ : execVkilnLoss s = .next t_) : SameBut [.host, .maint, .sys, .kiln] s t_ := by
  unfold execVkilnLoss at h_
  injection h_ with h_
  subst h_
  repeat' first
    | (extract_lets +onlyGivenNames u_; first | (apply SameBut.gen (u := u_); (on_goal 1 => (dsimp -zeta -zetaHave only [u_]; clear u_)); (on_goal 2 => (clear_value u_; revert u_; intros))) | (clear_value u_; revert u_; intros) | (revert u_; intros))
    | with_reducible assumption
    | with_reducible apply SameBut.refl
    | ((with_reducible apply SameBut.step (k := finish_same _ _ _ _ _ _ _)); (case hl => rfl))
    | ((with_reducible apply SameBut.step (k := kilnStep_same _ _)); (case hl => rfl))
    | split
    | dsimp only

theorem execVkilnRise_same (s : State) {t_ : State} (h_ : execVkilnRise s = .next t_) : SameBut [.kiln] s t_ := by
  unfold execVkilnRise at h_
  injection h_ with h_
  subst h_
  repeat' first
    | (extract_lets +onlyGivenNames u_; first | (apply SameBut.gen (u := u_); (on_goal 1 => (dsimp -zeta -zetaHave only [u_]; clear u_)); (on_goal 2 => (clear_value u_; revert u_; intros))) | (clear_value u_; revert u_; intros) | (revert u_; intros))
    | with_reducible assumption
    | with_reducible apply SameBut.refl
    | ((with_reducible apply SameBut.step (k := kilnStep_same _ _)); (case hl => rfl))
    | split
    | dsimp only

end Sys2Proof.Machine
end

