-- ==== Sys2Proof/Laws/FrameFir.lean ====
section
/-! SUPPORT. What each operation of Machine/Fir.lean leaves alone: every part of the state but those listed. -/

namespace Sys2Proof.Machine

set_option linter.all false

theorem firTakes_same (old s : State) : SameBut [.fir] s (firTakes old s) := by
  unfold firTakes
  repeat' first
    | (extract_lets +onlyGivenNames u_; first | (apply SameBut.gen (u := u_); (on_goal 1 => (dsimp -zeta -zetaHave only [u_]; clear u_)); (on_goal 2 => (clear_value u_; revert u_; intros))) | (clear_value u_; revert u_; intros) | (revert u_; intros))
    | with_reducible assumption
    | with_reducible apply SameBut.refl
    | ((with_reducible apply SameBut.onFir); (case hl => rfl))
    | split
    | dsimp only

theorem sensorOut_same (s : State) : SameBut [.host, .maint, .fir] s (sensorOut s) := by
  unfold sensorOut
  repeat' first
    | (extract_lets +onlyGivenNames u_; first | (apply SameBut.gen (u := u_); (on_goal 1 => (dsimp -zeta -zetaHave only [u_]; clear u_)); (on_goal 2 => (clear_value u_; revert u_; intros))) | (clear_value u_; revert u_; intros) | (revert u_; intros))
    | with_reducible assumption
    | with_reducible apply SameBut.refl
    | ((with_reducible apply SameBut.onFir); (case hl => rfl))
    | ((with_reducible apply SameBut.step (k := stream_same _ _ _ _)); (case hl => rfl))
    | with_reducible apply SameBut.foldl
    | with_reducible intro _
    | split
    | dsimp only

theorem imuFail_same (reason : Nat) (s : State) : SameBut [.host, .maint, .ev, .sys, .fir, .dpx, .log] s (imuFail reason s) := by
  unfold imuFail
  repeat' first
    | (extract_lets +onlyGivenNames u_; first | (apply SameBut.gen (u := u_); (on_goal 1 => (dsimp -zeta -zetaHave only [u_]; clear u_)); (on_goal 2 => (clear_value u_; revert u_; intros))) | (clear_value u_; revert u_; intros) | (revert u_; intros))
    | with_reducible assumption
    | with_reducible apply SameBut.refl
    | ((with_reducible apply SameBut.onFir); (case hl => rfl))
    | ((with_reducible apply SameBut.step (k := raise_same _ _ _)); (case hl => rfl))
    | ((with_reducible apply SameBut.step (k := selfDiag_same _ _)); (case hl => rfl))
    | split
    | dsimp only

theorem execCfgFirChannel_same (p : Port) (s : State) {t_ : State} (h_ : execCfgFirChannel p s = .next t_) : SameBut [.host, .maint, .ev, .sys, .dpx, .cfg, .log] s t_ := by
  unfold execCfgFirChannel at h_
  injection h_ with h_
  subst h_
  repeat' first
    | (extract_lets +onlyGivenNames u_; first | (apply SameBut.gen (u := u_); (on_goal 1 => (dsimp -zeta -zetaHave only [u_]; clear u_)); (on_goal 2 => (clear_value u_; revert u_; intros))) | (clear_value u_; revert u_; intros) | (revert u_; intros))
    | with_reducible assumption
    | with_reducible apply SameBut.refl
    | ((with_reducible apply SameBut.step (k := configRow_same _ _ _ _)); (case hl => rfl))
    | split
    | dsimp only

theorem execCfgFirQuery_same (p : Port) (s : State) {t_ : State} (h_ : execCfgFirQuery p s = .next t_) : SameBut [.host, .maint, .sys] s t_ := by
  unfold execCfgFirQuery at h_
  injection h_ with h_
  subst h_
  repeat' first
    | (extract_lets +onlyGivenNames u_; first | (apply SameBut.gen (u := u_); (on_goal 1 => (dsimp -zeta -zetaHave only [u_]; clear u_)); (on_goal 2 => (clear_value u_; revert u_; intros))) | (clear_value u_; revert u_; intros) | (revert u_; intros))
    | with_reducible assumption
    | with_reducible apply SameBut.refl
    | ((with_reducible apply SameBut.step (k := badValue_same _ _ _ _)); (case hl => rfl))
    | ((with_reducible apply SameBut.step (k := ok_same _ _ _ _ _)); (case hl => rfl))
    | ((with_reducible apply SameBut.runOp); (case hl => rfl))
    | with_reducible intro _
    | split
    | dsimp only

theorem firStale_same (p : Fin 22 → Bool) (s : State) : SameBut [.fir] s (firStale p s) := by
  unfold firStale
  repeat' first
    | (extract_lets +onlyGivenNames u_; first | (apply SameBut.gen (u := u_); (on_goal 1 => (dsimp -zeta -zetaHave only [u_]; clear u_)); (on_goal 2 => (clear_value u_; revert u_; intros))) | (clear_value u_; revert u_; intros) | (revert u_; intros))
    | with_reducible assumption
    | with_reducible apply SameBut.refl
    | ((with_reducible apply SameBut.onFir); (case hl => rfl))
    | split
    | dsimp only

theorem execFusSensorStream_same (p : Port) (s : State) {t_ : State} (h_ : execFusSensorStream p s = .next t_) : SameBut [.host, .maint, .sys, .subs] s t_ := by
  unfold execFusSensorStream at h_
  injection h_ with h_
  subst h_
  repeat' first
    | (extract_lets +onlyGivenNames u_; first | (apply SameBut.gen (u := u_); (on_goal 1 => (dsimp -zeta -zetaHave only [u_]; clear u_)); (on_goal 2 => (clear_value u_; revert u_; intros))) | (clear_value u_; revert u_; intros) | (revert u_; intros))
    | with_reducible assumption
    | with_reducible apply SameBut.refl
    | ((with_reducible apply SameBut.step (k := ok_same _ _ _ _ _)); (case hl => rfl))
    | ((with_reducible apply SameBut.step (k := subscribe_same _ _ _ _ _ _)); (case hl => rfl))
    | ((with_reducible apply SameBut.runOp); (case hl => rfl))
    | with_reducible intro _
    | split
    | dsimp only

theorem execImuFault_same (reason : Nat) (s : State) {t_ : State} (h_ : execImuFault reason s = .next t_) : SameBut [.host, .maint, .ev, .sys, .fir, .dpx, .log] s t_ := by
  unfold execImuFault at h_
  injection h_ with h_
  subst h_
  repeat' first
    | (extract_lets +onlyGivenNames u_; first | (apply SameBut.gen (u := u_); (on_goal 1 => (dsimp -zeta -zetaHave only [u_]; clear u_)); (on_goal 2 => (clear_value u_; revert u_; intros))) | (clear_value u_; revert u_; intros) | (revert u_; intros))
    | with_reducible assumption
    | with_reducible apply SameBut.refl
    | ((with_reducible apply SameBut.step (k := imuFail_same _ _)); (case hl => rfl))
    | split
    | dsimp only

theorem firOccur_same (k : Fin 22) (kind : Nat) (s : State) : SameBut [.host, .maint, .ev, .fir, .log] s (firOccur k kind s) := by
  unfold firOccur
  repeat' first
    | (extract_lets +onlyGivenNames u_; first | (apply SameBut.gen (u := u_); (on_goal 1 => (dsimp -zeta -zetaHave only [u_]; clear u_)); (on_goal 2 => (clear_value u_; revert u_; intros))) | (clear_value u_; revert u_; intros) | (revert u_; intros))
    | with_reducible assumption
    | with_reducible apply SameBut.refl
    | ((with_reducible apply SameBut.onFir); (case hl => rfl))
    | ((with_reducible apply SameBut.step (k := raise_same _ _ _)); (case hl => rfl))
    | split
    | dsimp only

theorem stage2_same (k : Fin 22) (m : Nat) (o : FirOut) (s : State) : SameBut [.host, .maint, .ev, .fir, .log] s (stage2 k m o s) := by
  unfold stage2
  repeat' first
    | (extract_lets +onlyGivenNames u_; first | (apply SameBut.gen (u := u_); (on_goal 1 => (dsimp -zeta -zetaHave only [u_]; clear u_)); (on_goal 2 => (clear_value u_; revert u_; intros))) | (clear_value u_; revert u_; intros) | (revert u_; intros))
    | with_reducible assumption
    | with_reducible apply SameBut.refl
    | ((with_reducible apply SameBut.onFir); (case hl => rfl))
    | ((with_reducible apply SameBut.step (k := firOccur_same _ _ _)); (case hl => rfl))
    | split
    | dsimp only

theorem stage1_same (k : Fin 22) (m : Nat) (s : State) : SameBut [.host, .maint, .ev, .fir, .log] s (stage1 k m s) := by
  unfold stage1
  repeat' first
    | (extract_lets +onlyGivenNames u_; first | (apply SameBut.gen (u := u_); (on_goal 1 => (dsimp -zeta -zetaHave only [u_]; clear u_)); (on_goal 2 => (clear_value u_; revert u_; intros))) | (clear_value u_; revert u_; intros) | (revert u_; intros))
    | with_reducible assumption
    | with_reducible apply SameBut.refl
    | ((with_reducible apply SameBut.onFir); (case hl => rfl))
    | ((with_reducible apply SameBut.step (k := firOccur_same _ _ _)); (case hl => rfl))
    | ((with_reducible apply SameBut.step (k := stage2_same _ _ _ _)); (case hl => rfl))
    | split
    | dsimp only

end Sys2Proof.Machine
end

