-- ==== Sys2Proof/Laws/FrameFusion.lean ====
section
/-! SUPPORT. What each operation of Machine/Fusion.lean leaves alone: every part of the state but those listed. -/

namespace Sys2Proof.Machine

set_option linter.all false

theorem belvFail_same (detail : Nat) (s : State) : SameBut [.host, .maint, .ev, .sys, .fus, .dpx, .log] s (belvFail detail s) := by
  unfold belvFail
  repeat' first
    | (extract_lets +onlyGivenNames u_; first | (apply SameBut.gen (u := u_); (on_goal 1 => (dsimp -zeta -zetaHave only [u_]; clear u_)); (on_goal 2 => (clear_value u_; revert u_; intros))) | (clear_value u_; revert u_; intros) | (revert u_; intros))
    | with_reducible assumption
    | with_reducible apply SameBut.refl
    | ((with_reducible apply SameBut.onFus); (case hl => rfl))
    | ((with_reducible apply SameBut.step (k := raise_same _ _ _)); (case hl => rfl))
    | ((with_reducible apply SameBut.step (k := selfDiag_same _ _)); (case hl => rfl))
    | split
    | dsimp only

theorem onSlot_same (i : Fin 24) (f : RefSlot → RefSlot) (s : State) : SameBut [.fus] s (onSlot i f s) := by
  unfold onSlot
  repeat' first
    | (extract_lets +onlyGivenNames u_; first | (apply SameBut.gen (u := u_); (on_goal 1 => (dsimp -zeta -zetaHave only [u_]; clear u_)); (on_goal 2 => (clear_value u_; revert u_; intros))) | (clear_value u_; revert u_; intros) | (revert u_; intros))
    | with_reducible assumption
    | with_reducible apply SameBut.refl
    | ((with_reducible apply SameBut.onFus); (case hl => rfl))
    | split
    | dsimp only

theorem setEstMode_same (m : Nat) (s : State) : SameBut [.host, .maint, .ev, .fus, .log] s (setEstMode m s) := by
  unfold setEstMode
  repeat' first
    | (extract_lets +onlyGivenNames u_; first | (apply SameBut.gen (u := u_); (on_goal 1 => (dsimp -zeta -zetaHave only [u_]; clear u_)); (on_goal 2 => (clear_value u_; revert u_; intros))) | (clear_value u_; revert u_; intros) | (revert u_; intros))
    | with_reducible assumption
    | with_reducible apply SameBut.refl
    | ((with_reducible apply SameBut.onFus); (case hl => rfl))
    | ((with_reducible apply SameBut.step (k := raise_same _ _ _)); (case hl => rfl))
    | split
    | dsimp only

theorem setSlot_same (i : Fin 24) (st : Nat) (s : State) : SameBut [.host, .maint, .ev, .fus, .log] s (setSlot i st s) := by
  unfold setSlot
  repeat' first
    | (extract_lets +onlyGivenNames u_; first | (apply SameBut.gen (u := u_); (on_goal 1 => (dsimp -zeta -zetaHave only [u_]; clear u_)); (on_goal 2 => (clear_value u_; revert u_; intros))) | (clear_value u_; revert u_; intros) | (revert u_; intros))
    | with_reducible assumption
    | with_reducible apply SameBut.refl
    | ((with_reducible apply SameBut.step (k := onSlot_same _ _ _)); (case hl => rfl))
    | ((with_reducible apply SameBut.step (k := raise_same _ _ _)); (case hl => rfl))
    | split
    | dsimp only

theorem belvWake_same (off : Bool) (s : State) : SameBut [.host, .maint, .ev, .fus, .log] s (belvWake off s) := by
  unfold belvWake
  repeat' first
    | (extract_lets +onlyGivenNames u_; first | (apply SameBut.gen (u := u_); (on_goal 1 => (dsimp -zeta -zetaHave only [u_]; clear u_)); (on_goal 2 => (clear_value u_; revert u_; intros))) | (clear_value u_; revert u_; intros) | (revert u_; intros))
    | with_reducible assumption
    | with_reducible apply SameBut.refl
    | ((with_reducible apply SameBut.onFus); (case hl => rfl))
    | ((with_reducible apply SameBut.step (k := onSlot_same _ _ _)); (case hl => rfl))
    | ((with_reducible apply SameBut.step (k := setEstMode_same _ _)); (case hl => rfl))
    | ((with_reducible apply SameBut.step (k := setSlot_same _ _ _)); (case hl => rfl))
    | with_reducible apply SameBut.foldl
    | with_reducible intro _
    | split
    | dsimp only

theorem looTakes_same (old s : State) : SameBut [.fus] s (looTakes old s) := by
  unfold looTakes
  repeat' first
    | (extract_lets +onlyGivenNames u_; first | (apply SameBut.gen (u := u_); (on_goal 1 => (dsimp -zeta -zetaHave only [u_]; clear u_)); (on_goal 2 => (clear_value u_; revert u_; intros))) | (clear_value u_; revert u_; intros) | (revert u_; intros))
    | with_reducible assumption
    | with_reducible apply SameBut.refl
    | ((with_reducible apply SameBut.onFus); (case hl => rfl))
    | split
    | dsimp only

theorem slotTakes_same (old : State) (i : Fin 24) (s : State) : SameBut [.host, .maint, .ev, .fus, .log] s (slotTakes old i s) := by
  unfold slotTakes
  repeat' first
    | (extract_lets +onlyGivenNames u_; first | (apply SameBut.gen (u := u_); (on_goal 1 => (dsimp -zeta -zetaHave only [u_]; clear u_)); (on_goal 2 => (clear_value u_; revert u_; intros))) | (clear_value u_; revert u_; intros) | (revert u_; intros))
    | with_reducible assumption
    | with_reducible apply SameBut.refl
    | ((with_reducible apply SameBut.onFus); (case hl => rfl))
    | ((with_reducible apply SameBut.step (k := onSlot_same _ _ _)); (case hl => rfl))
    | ((with_reducible apply SameBut.step (k := setSlot_same _ _ _)); (case hl => rfl))
    | split
    | dsimp only

theorem fusBoundary_same (old s : State) : SameBut [.host, .maint, .ev, .fus, .solv, .log, .subs, .free] s (fusBoundary old s) := by
  unfold fusBoundary
  repeat' first
    | (extract_lets +onlyGivenNames u_; first | (apply SameBut.gen (u := u_); (on_goal 1 => (dsimp -zeta -zetaHave only [u_]; clear u_)); (on_goal 2 => (clear_value u_; revert u_; intros))) | (clear_value u_; revert u_; intros) | (revert u_; intros))
    | with_reducible assumption
    | with_reducible apply SameBut.refl
    | ((with_reducible apply SameBut.onFus); (case hl => rfl))
    | ((with_reducible apply SameBut.step (k := cancelDp_same _ _)); (case hl => rfl))
    | ((with_reducible apply SameBut.step (k := looTakes_same _ _)); (case hl => rfl))
    | ((with_reducible apply SameBut.step (k := setEstMode_same _ _)); (case hl => rfl))
    | ((with_reducible apply SameBut.step (k := slotTakes_same _ _ _)); (case hl => rfl))
    | ((with_reducible apply SameBut.step (k := submitOpen_same _ _ _)); (case hl => rfl))
    | ((with_reducible apply SameBut.step (k := subscribe_same _ _ _ _ _ _)); (case hl => rfl))
    | with_reducible apply SameBut.foldl
    | with_reducible intro _
    | split
    | dsimp only

theorem discard_same (i : Fin 24) (reason : Fin 3) (s : State) : SameBut [.host, .maint, .ev, .fus, .log] s (discard i reason s) := by
  unfold discard
  repeat' first
    | (extract_lets +onlyGivenNames u_; first | (apply SameBut.gen (u := u_); (on_goal 1 => (dsimp -zeta -zetaHave only [u_]; clear u_)); (on_goal 2 => (clear_value u_; revert u_; intros))) | (clear_value u_; revert u_; intros) | (revert u_; intros))
    | with_reducible assumption
    | with_reducible apply SameBut.refl
    | ((with_reducible apply SameBut.step (k := onSlot_same _ _ _)); (case hl => rfl))
    | ((with_reducible apply SameBut.step (k := raise_same _ _ _)); (case hl => rfl))
    | split
    | dsimp only

theorem drStep_same (b : Nat) (g : Fin 2) (act : Bool) (s : State) : SameBut [.host, .maint, .ev, .fus, .log] s (drStep b g act s) := by
  unfold drStep
  repeat' first
    | (extract_lets +onlyGivenNames u_; first | (apply SameBut.gen (u := u_); (on_goal 1 => (dsimp -zeta -zetaHave only [u_]; clear u_)); (on_goal 2 => (clear_value u_; revert u_; intros))) | (clear_value u_; revert u_; intros) | (revert u_; intros))
    | with_reducible assumption
    | with_reducible apply SameBut.refl
    | ((with_reducible apply SameBut.onFus); (case hl => rfl))
    | ((with_reducible apply SameBut.step (k := raise_same _ _ _)); (case hl => rfl))
    | split
    | dsimp only

theorem estModeStep_same (pos hdg : Bool) (s : State) : SameBut [.host, .maint, .ev, .fus, .log] s (estModeStep pos hdg s) := by
  unfold estModeStep
  repeat' first
    | (extract_lets +onlyGivenNames u_; first | (apply SameBut.gen (u := u_); (on_goal 1 => (dsimp -zeta -zetaHave only [u_]; clear u_)); (on_goal 2 => (clear_value u_; revert u_; intros))) | (clear_value u_; revert u_; intros) | (revert u_; intros))
    | with_reducible assumption
    | with_reducible apply SameBut.refl
    | ((with_reducible apply SameBut.onFus); (case hl => rfl))
    | ((with_reducible apply SameBut.step (k := setEstMode_same _ _)); (case hl => rfl))
    | split
    | dsimp only

theorem execBelvFault_same (detail : Nat) (s : State) {t_ : State} (h_ : execBelvFault detail s = .next t_) : SameBut [.host, .maint, .ev, .sys, .fus, .dpx, .log] s t_ := by
  unfold execBelvFault at h_
  injection h_ with h_
  subst h_
  repeat' first
    | (extract_lets +onlyGivenNames u_; first | (apply SameBut.gen (u := u_); (on_goal 1 => (dsimp -zeta -zetaHave only [u_]; clear u_)); (on_goal 2 => (clear_value u_; revert u_; intros))) | (clear_value u_; revert u_; intros) | (revert u_; intros))
    | with_reducible assumption
    | with_reducible apply SameBut.refl
    | ((with_reducible apply SameBut.step (k := belvFail_same _ _)); (case hl => rfl))
    | split
    | dsimp only

theorem obsAge_same (b contrib : Nat) (s : State) : SameBut [.free] s (obsAge b contrib s).1 := by
  unfold obsAge
  repeat' first
    | (extract_lets +onlyGivenNames u_; first | (apply SameBut.gen (u := u_); (on_goal 1 => (dsimp -zeta -zetaHave only [u_]; clear u_)); (on_goal 2 => (clear_value u_; revert u_; intros))) | (clear_value u_; revert u_; intros) | (revert u_; intros))
    | with_reducible assumption
    | with_reducible apply SameBut.refl
    | ((with_reducible apply SameBut.step (k := drawn_same _)); (case hl => rfl))
    | with_reducible apply SameBut.foldl
    | with_reducible intro _
    | split
    | dsimp only

theorem sendEstimate_same (b : Nat) (s : State) : SameBut [.host, .maint] s (sendEstimate b s) := by
  unfold sendEstimate
  repeat' first
    | (extract_lets +onlyGivenNames u_; first | (apply SameBut.gen (u := u_); (on_goal 1 => (dsimp -zeta -zetaHave only [u_]; clear u_)); (on_goal 2 => (clear_value u_; revert u_; intros))) | (clear_value u_; revert u_; intros) | (revert u_; intros))
    | with_reducible assumption
    | with_reducible apply SameBut.refl
    | ((with_reducible apply SameBut.step (k := stream_same _ _ _ _)); (case hl => rfl))
    | split
    | dsimp only

theorem missD1_same (s : State) : SameBut [.host, .maint, .fus, .free] s (missD1 s) := by
  unfold missD1
  repeat' first
    | (extract_lets +onlyGivenNames u_; first | (apply SameBut.gen (u := u_); (on_goal 1 => (dsimp -zeta -zetaHave only [u_]; clear u_)); (on_goal 2 => (clear_value u_; revert u_; intros))) | (clear_value u_; revert u_; intros) | (revert u_; intros))
    | with_reducible assumption
    | with_reducible apply SameBut.refl
    | ((with_reducible apply SameBut.onFus); (case hl => rfl))
    | ((with_reducible apply SameBut.step (k := obsAge_same _ _ _)); (case hl => rfl))
    | ((with_reducible apply SameBut.fst_ (k := obsAge_same _ _ _) (by assumption)); (case hl => rfl))
    | ((with_reducible apply SameBut.step (k := sendEstimate_same _ _)); (case hl => rfl))
    | split
    | dsimp only

theorem execDrLimitExpiry_same (heading : Bool) (s : State) {t_ : State} (h_ : execDrLimitExpiry heading s = .next t_) : SameBut [.host, .maint, .ev, .time, .fus, .log] s t_ := by
  unfold execDrLimitExpiry at h_
  injection h_ with h_
  subst h_
  repeat' first
    | (extract_lets +onlyGivenNames u_; first | (apply SameBut.gen (u := u_); (on_goal 1 => (dsimp -zeta -zetaHave only [u_]; clear u_)); (on_goal 2 => (clear_value u_; revert u_; intros))) | (clear_value u_; revert u_; intros) | (revert u_; intros))
    | with_reducible assumption
    | with_reducible apply SameBut.refl
    | ((with_reducible apply SameBut.onFus); (case hl => rfl))
    | ((with_reducible apply SameBut.step (k := advanceTo_same _ _)); (case hl => rfl))
    | ((with_reducible apply SameBut.step (k := raise_same _ _ _)); (case hl => rfl))
    | split
    | dsimp only

theorem execFusObserverConfig_same (p : Port) (s : State) {t_ : State} (h_ : execFusObserverConfig p s = .next t_) : SameBut [.host, .maint, .ev, .sys, .dpx, .cfg, .log] s t_ := by
  unfold execFusObserverConfig at h_
  injection h_ with h_
  subst h_
  repeat' first
    | (extract_lets +onlyGivenNames u_; first | (apply SameBut.gen (u := u_); (on_goal 1 => (dsimp -zeta -zetaHave only [u_]; clear u_)); (on_goal 2 => (clear_value u_; revert u_; intros))) | (clear_value u_; revert u_; intros) | (revert u_; intros))
    | with_reducible assumption
    | with_reducible apply SameBut.refl
    | ((with_reducible apply SameBut.step (k := configRow_same _ _ _ _)); (case hl => rfl))
    | split
    | dsimp only

theorem execFusRefCapture_same (p : Port) (s : State) {t_ : State} (h_ : execFusRefCapture p s = .next t_) : SameBut [.host, .maint, .sys, .fus] s t_ := by
  unfold execFusRefCapture at h_
  injection h_ with h_
  subst h_
  repeat' first
    | (extract_lets +onlyGivenNames u_; first | (apply SameBut.gen (u := u_); (on_goal 1 => (dsimp -zeta -zetaHave only [u_]; clear u_)); (on_goal 2 => (clear_value u_; revert u_; intros))) | (clear_value u_; revert u_; intros) | (revert u_; intros))
    | with_reducible assumption
    | with_reducible apply SameBut.refl
    | ((with_reducible apply SameBut.step (k := badValue_same _ _ _ _)); (case hl => rfl))
    | ((with_reducible apply SameBut.step (k := ok_same _ _ _ _ _)); (case hl => rfl))
    | ((with_reducible apply SameBut.step (k := onSlot_same _ _ _)); (case hl => rfl))
    | ((with_reducible apply SameBut.step (k := reject_same _ _ _ _ _)); (case hl => rfl))
    | ((with_reducible apply SameBut.runOp); (case hl => rfl))
    | with_reducible intro _
    | split
    | dsimp only

theorem execFusRefConfig_same (p : Port) (s : State) {t_ : State} (h_ : execFusRefConfig p s = .next t_) : SameBut [.host, .maint, .ev, .sys, .dpx, .cfg, .log] s t_ := by
  unfold execFusRefConfig at h_
  injection h_ with h_
  subst h_
  repeat' first
    | (extract_lets +onlyGivenNames u_; first | (apply SameBut.gen (u := u_); (on_goal 1 => (dsimp -zeta -zetaHave only [u_]; clear u_)); (on_goal 2 => (clear_value u_; revert u_; intros))) | (clear_value u_; revert u_; intros) | (revert u_; intros))
    | with_reducible assumption
    | with_reducible apply SameBut.refl
    | ((with_reducible apply SameBut.step (k := configRow_same _ _ _ _)); (case hl => rfl))
    | split
    | dsimp only

theorem execFusRefEnable_same (p : Port) (s : State) {t_ : State} (h_ : execFusRefEnable p s = .next t_) : SameBut [.host, .maint, .ev, .sys, .dpx, .cfg, .log] s t_ := by
  unfold execFusRefEnable at h_
  injection h_ with h_
  subst h_
  repeat' first
    | (extract_lets +onlyGivenNames u_; first | (apply SameBut.gen (u := u_); (on_goal 1 => (dsimp -zeta -zetaHave only [u_]; clear u_)); (on_goal 2 => (clear_value u_; revert u_; intros))) | (clear_value u_; revert u_; intros) | (revert u_; intros))
    | with_reducible assumption
    | with_reducible apply SameBut.refl
    | ((with_reducible apply SameBut.step (k := configRow_same _ _ _ _)); (case hl => rfl))
    | split
    | dsimp only

theorem execFusRefStatus_same (p : Port) (s : State) {t_ : State} (h_ : execFusRefStatus p s = .next t_) : SameBut [.host, .maint, .sys] s t_ := by
  unfold execFusRefStatus at h_
  injection h_ with h_
  subst h_
  repeat' first
    | (extract_lets +onlyGivenNames u_; first | (apply SameBut.gen (u := u_); (on_goal 1 => (dsimp -zeta -zetaHave only [u_]; clear u_)); (on_goal 2 => (clear_value u_; revert u_; intros))) | (clear_value u_; revert u_; intros) | (revert u_; intros))
    | with_reducible assumption
    | with_reducible apply SameBut.refl
    | ((with_reducible apply SameBut.step (k := badValue_same _ _ _ _)); (case hl => rfl))
    | ((with_reducible apply SameBut.step (k := ok_same _ _ _ _ _)); (case hl => rfl))
    | ((with_reducible apply SameBut.step (k := reject_same _ _ _ _ _)); (case hl => rfl))
    | ((with_reducible apply SameBut.runOp); (case hl => rfl))
    | with_reducible intro _
    | split
    | dsimp only

theorem execFusStateStream_same (p : Port) (s : State) {t_ : State} (h_ : execFusStateStream p s = .next t_) : SameBut [.host, .maint, .sys, .fus] s t_ := by
  unfold execFusStateStream at h_
  injection h_ with h_
  subst h_
  repeat' first
    | (extract_lets +onlyGivenNames u_; first | (apply SameBut.gen (u := u_); (on_goal 1 => (dsimp -zeta -zetaHave only [u_]; clear u_)); (on_goal 2 => (clear_value u_; revert u_; intros))) | (clear_value u_; revert u_; intros) | (revert u_; intros))
    | with_reducible assumption
    | with_reducible apply SameBut.refl
    | ((with_reducible apply SameBut.onFus); (case hl => rfl))
    | ((with_reducible apply SameBut.step (k := ok_same _ _ _ _ _)); (case hl => rfl))
    | ((with_reducible apply SameBut.runOp); (case hl => rfl))
    | with_reducible intro _
    | split
    | dsimp only

theorem execFusVoteConfig_same (p : Port) (s : State) {t_ : State} (h_ : execFusVoteConfig p s = .next t_) : SameBut [.host, .maint, .ev, .sys, .dpx, .cfg, .log] s t_ := by
  unfold execFusVoteConfig at h_
  injection h_ with h_
  subst h_
  repeat' first
    | (extract_lets +onlyGivenNames u_; first | (apply SameBut.gen (u := u_); (on_goal 1 => (dsimp -zeta -zetaHave only [u_]; clear u_)); (on_goal 2 => (clear_value u_; revert u_; intros))) | (clear_value u_; revert u_; intros) | (revert u_; intros))
    | with_reducible assumption
    | with_reducible apply SameBut.refl
    | ((with_reducible apply SameBut.step (k := configRow_same _ _ _ _)); (case hl => rfl))
    | split
    | dsimp only

theorem intakeMeas_same (i : Fin 24) (m : Meas) (s : State) : SameBut [.host, .maint, .ev, .fus, .log] s (intakeMeas i m s) := by
  unfold intakeMeas
  repeat' first
    | (extract_lets +onlyGivenNames u_; first | (apply SameBut.gen (u := u_); (on_goal 1 => (dsimp -zeta -zetaHave only [u_]; clear u_)); (on_goal 2 => (clear_value u_; revert u_; intros))) | (clear_value u_; revert u_; intros) | (revert u_; intros))
    | with_reducible assumption
    | with_reducible apply SameBut.refl
    | ((with_reducible apply SameBut.step (k := onSlot_same _ _ _)); (case hl => rfl))
    | ((with_reducible apply SameBut.step (k := raise_same _ _ _)); (case hl => rfl))
    | split
    | dsimp only

theorem looSlots_same (b : Nat) (loo : List Seen) (s : State) : SameBut [.host, .maint, .ev, .fus, .log] s (looSlots b loo s) := by
  unfold looSlots
  repeat' first
    | (extract_lets +onlyGivenNames u_; first | (apply SameBut.gen (u := u_); (on_goal 1 => (dsimp -zeta -zetaHave only [u_]; clear u_)); (on_goal 2 => (clear_value u_; revert u_; intros))) | (clear_value u_; revert u_; intros) | (revert u_; intros))
    | with_reducible assumption
    | with_reducible apply SameBut.refl
    | ((with_reducible apply SameBut.step (k := onSlot_same _ _ _)); (case hl => rfl))
    | ((with_reducible apply SameBut.step (k := raise_same _ _ _)); (case hl => rfl))
    | with_reducible apply SameBut.foldl
    | with_reducible intro _
    | split
    | dsimp only

theorem motionWind_same (used : List Stamped) (s : State) : SameBut [.fus] s (motionWind used s) := by
  unfold motionWind
  repeat' first
    | (extract_lets +onlyGivenNames u_; first | (apply SameBut.gen (u := u_); (on_goal 1 => (dsimp -zeta -zetaHave only [u_]; clear u_)); (on_goal 2 => (clear_value u_; revert u_; intros))) | (clear_value u_; revert u_; intros) | (revert u_; intros))
    | with_reducible assumption
    | with_reducible apply SameBut.refl
    | ((with_reducible apply SameBut.onFus); (case hl => rfl))
    | with_reducible apply SameBut.foldl
    | with_reducible intro _
    | split
    | dsimp only

theorem stampMeas_same (i : Fin 24) (m : Meas) (s : State) : SameBut [.host, .maint, .ev, .fus, .log] s (stampMeas i m s).2 := by
  unfold stampMeas
  repeat' first
    | (extract_lets +onlyGivenNames u_; first | (apply SameBut.gen (u := u_); (on_goal 1 => (dsimp -zeta -zetaHave only [u_]; clear u_)); (on_goal 2 => (clear_value u_; revert u_; intros))) | (clear_value u_; revert u_; intros) | (revert u_; intros))
    | with_reducible assumption
    | with_reducible apply SameBut.refl
    | ((with_reducible apply SameBut.step (k := onSlot_same _ _ _)); (case hl => rfl))
    | ((with_reducible apply SameBut.step (k := raise_same _ _ _)); (case hl => rfl))
    | split
    | dsimp only

theorem takeQueue_same (b : Nat) (i : Fin 24) (s : State) : SameBut [.host, .maint, .ev, .fus, .log] s (takeQueue b i s).1 := by
  unfold takeQueue
  repeat' first
    | (extract_lets +onlyGivenNames u_; first | (apply SameBut.gen (u := u_); (on_goal 1 => (dsimp -zeta -zetaHave only [u_]; clear u_)); (on_goal 2 => (clear_value u_; revert u_; intros))) | (clear_value u_; revert u_; intros) | (revert u_; intros))
    | with_reducible assumption
    | with_reducible apply SameBut.refl
    | ((with_reducible apply SameBut.step (k := discard_same _ _ _)); (case hl => rfl))
    | ((with_reducible apply SameBut.step (k := onSlot_same _ _ _)); (case hl => rfl))
    | ((with_reducible apply SameBut.step (k := stampMeas_same _ _ _)); (case hl => rfl))
    | ((with_reducible apply SameBut.snd_ (k := stampMeas_same _ _ _) (by assumption)); (case hl => rfl))
    | with_reducible apply SameBut.foldl
    | with_reducible apply SameBut.foldlFst
    | ((with_reducible apply SameBut.fst_ (k := SameBut.foldlFst ?_ _ (SameBut.refl _ _)) (by assumption)); (case hl => rfl))
    | with_reducible intro _
    | split
    | dsimp only

theorem takeAll_same (b : Nat) (s : State) : SameBut [.host, .maint, .ev, .fus, .log] s (takeAll b s).1 := by
  unfold takeAll
  repeat' first
    | (extract_lets +onlyGivenNames u_; first | (apply SameBut.gen (u := u_); (on_goal 1 => (dsimp -zeta -zetaHave only [u_]; clear u_)); (on_goal 2 => (clear_value u_; revert u_; intros))) | (clear_value u_; revert u_; intros) | (revert u_; intros))
    | with_reducible assumption
    | with_reducible apply SameBut.refl
    | ((with_reducible apply SameBut.step (k := takeQueue_same _ _ _)); (case hl => rfl))
    | ((with_reducible apply SameBut.fst_ (k := takeQueue_same _ _ _) (by assumption)); (case hl => rfl))
    | with_reducible apply SameBut.foldl
    | with_reducible apply SameBut.foldlFst
    | ((with_reducible apply SameBut.fst_ (k := SameBut.foldlFst ?_ _ (SameBut.refl _ _)) (by assumption)); (case hl => rfl))
    | with_reducible intro _
    | split
    | dsimp only

theorem takeInnov_same (b : Nat) (i : Fin 24) (fused : Bool) (from_ : Int × Int) (sn : Seen) (s : State) : SameBut [.fus] s (takeInnov b i fused from_ sn s) := by
  unfold takeInnov
  repeat' first
    | (extract_lets +onlyGivenNames u_; first | (apply SameBut.gen (u := u_); (on_goal 1 => (dsimp -zeta -zetaHave only [u_]; clear u_)); (on_goal 2 => (clear_value u_; revert u_; intros))) | (dsimp -zeta -zetaHave only [u_]; clear u_) | (clear_value u_; revert u_; intros) | (revert u_; intros))
    | with_reducible assumption
    | with_reducible apply SameBut.refl
    | ((with_reducible apply SameBut.step (k := onSlot_same _ _ _)); (case hl => rfl))
    | split
    | dsimp only

theorem takeOther_same (b : Nat) (e : Stamped) (s : State) : SameBut [.fus] s (takeOther b e s) := by
  unfold takeOther
  repeat' first
    | (extract_lets +onlyGivenNames u_; first | (apply SameBut.gen (u := u_); (on_goal 1 => (dsimp -zeta -zetaHave only [u_]; clear u_)); (on_goal 2 => (clear_value u_; revert u_; intros))) | (clear_value u_; revert u_; intros) | (revert u_; intros))
    | with_reducible assumption
    | with_reducible apply SameBut.refl
    | ((with_reducible apply SameBut.step (k := onSlot_same _ _ _)); (case hl => rfl))
    | split
    | dsimp only

theorem staleSlots_same (b : Nat) (s : State) : SameBut [.host, .maint, .ev, .fus, .log] s (staleSlots b s) := by
  unfold staleSlots
  repeat' first
    | (extract_lets +onlyGivenNames u_; first | (apply SameBut.gen (u := u_); (on_goal 1 => (dsimp -zeta -zetaHave only [u_]; clear u_)); (on_goal 2 => (clear_value u_; revert u_; intros))) | (clear_value u_; revert u_; intros) | (revert u_; intros))
    | with_reducible assumption
    | with_reducible apply SameBut.refl
    | ((with_reducible apply SameBut.step (k := setSlot_same _ _ _)); (case hl => rfl))
    | with_reducible apply SameBut.foldl
    | with_reducible intro _
    | split
    | dsimp only

theorem voteGroup_same (b : Nat) (g : Fin 4) (s : State) : SameBut [.host, .maint, .ev, .fus, .log, .free] s (voteGroup b g s) := by
  unfold voteGroup
  repeat' first
    | (extract_lets +onlyGivenNames u_; first | (apply SameBut.gen (u := u_); (on_goal 1 => (dsimp -zeta -zetaHave only [u_]; clear u_)); (on_goal 2 => (clear_value u_; revert u_; intros))) | (clear_value u_; revert u_; intros) | (revert u_; intros))
    | with_reducible assumption
    | with_reducible apply SameBut.refl
    | ((with_reducible apply SameBut.onFree); (case hl => rfl))
    | ((with_reducible apply SameBut.onFus); (case hl => rfl))
    | ((with_reducible apply SameBut.step (k := onSlot_same _ _ _)); (case hl => rfl))
    | ((with_reducible apply SameBut.step (k := raise_same _ _ _)); (case hl => rfl))
    | ((with_reducible apply SameBut.step (k := setSlot_same _ _ _)); (case hl => rfl))
    | with_reducible apply SameBut.foldl
    | with_reducible intro _
    | split
    | dsimp only

theorem voteAll_same (b : Nat) (s : State) : SameBut [.host, .maint, .ev, .fus, .log, .free] s (voteAll b s) := by
  unfold voteAll
  repeat' first
    | (extract_lets +onlyGivenNames u_; first | (apply SameBut.gen (u := u_); (on_goal 1 => (dsimp -zeta -zetaHave only [u_]; clear u_)); (on_goal 2 => (clear_value u_; revert u_; intros))) | (clear_value u_; revert u_; intros) | (revert u_; intros))
    | with_reducible assumption
    | with_reducible apply SameBut.refl
    | ((with_reducible apply SameBut.step (k := staleSlots_same _ _)); (case hl => rfl))
    | ((with_reducible apply SameBut.step (k := voteGroup_same _ _ _)); (case hl => rfl))
    | with_reducible apply SameBut.foldl
    | with_reducible intro _
    | split
    | dsimp only

theorem observe_same (b ce : Nat) (s : State) : SameBut [.host, .maint, .ev, .fus, .log, .free] s (observe b ce s).1 := by
  unfold observe
  repeat' first
    | (extract_lets +onlyGivenNames u_; first | (apply SameBut.gen (u := u_); (on_goal 1 => (dsimp -zeta -zetaHave only [u_]; clear u_)); (on_goal 2 => (clear_value u_; revert u_; intros))) | (revert u_; intros))
    | with_reducible assumption
    | with_reducible apply SameBut.refl
    | ((with_reducible apply SameBut.onFus); (case hl => rfl))
    | ((with_reducible apply SameBut.step (k := drStep_same _ _ _ _)); (case hl => rfl))
    | ((with_reducible apply SameBut.step (k := estModeStep_same _ _ _)); (case hl => rfl))
    | ((with_reducible apply SameBut.step (k := looSlots_same _ _ _)); (case hl => rfl))
    | ((with_reducible apply SameBut.step (k := motionWind_same _ _)); (case hl => rfl))
    | ((with_reducible apply SameBut.step (k := obsAge_same _ _ _)); (case hl => rfl))
    | ((with_reducible apply SameBut.fst_ (k := obsAge_same _ _ _) (by assumption)); (case hl => rfl))
    | ((with_reducible apply SameBut.step (k := raise_same _ _ _)); (case hl => rfl))
    | ((with_reducible apply SameBut.step (k := takeAll_same _ _)); (case hl => rfl))
    | ((with_reducible apply SameBut.fst_ (k := takeAll_same _ _) (by assumption)); (case hl => rfl))
    | ((with_reducible apply SameBut.step (k := takeInnov_same _ _ _ _ _ _)); (case hl => rfl))
    | ((with_reducible apply SameBut.step (k := takeOther_same _ _ _)); (case hl => rfl))
    | ((with_reducible apply SameBut.step (k := voteAll_same _ _)); (case hl => rfl))
    | with_reducible apply SameBut.foldl
    | with_reducible intro _
    | split
    | dsimp only

theorem execObserverUpdateComplete_same (ce : Nat) (s : State) {t_ : State} (h_ : execObserverUpdateComplete ce s = .next t_) : SameBut [.host, .maint, .ev, .time, .fus, .solv, .log, .free] s t_ := by
  unfold execObserverUpdateComplete at h_
  injection h_ with h_
  subst h_
  repeat' first
    | (extract_lets +onlyGivenNames u_; first | (apply SameBut.gen (u := u_); (on_goal 1 => (dsimp -zeta -zetaHave only [u_]; clear u_)); (on_goal 2 => (clear_value u_; revert u_; intros))) | (clear_value u_; revert u_; intros) | (revert u_; intros))
    | with_reducible assumption
    | with_reducible apply SameBut.refl
    | ((with_reducible apply SameBut.onFus); (case hl => rfl))
    | ((with_reducible apply SameBut.step (k := finishDp_same _ _)); (case hl => rfl))
    | ((with_reducible apply SameBut.step (k := observe_same _ _ _)); (case hl => rfl))
    | ((with_reducible apply SameBut.fst_ (k := observe_same _ _ _) (by assumption)); (case hl => rfl))
    | ((with_reducible apply SameBut.step (k := sendEstimate_same _ _)); (case hl => rfl))
    | ((with_reducible apply SameBut.step (k := stepAt_same _ _)); (case hl => rfl))
    | split
    | dsimp only

theorem mechanised_same (s : State) : SameBut [.fus] s (mechanised s) := by
  unfold mechanised
  repeat' first
    | (extract_lets +onlyGivenNames u_; first | (apply SameBut.gen (u := u_); (on_goal 1 => (dsimp -zeta -zetaHave only [u_]; clear u_)); (on_goal 2 => (clear_value u_; revert u_; intros))) | (clear_value u_; revert u_; intros) | (revert u_; intros))
    | with_reducible assumption
    | with_reducible apply SameBut.refl
    | ((with_reducible apply SameBut.onFus); (case hl => rfl))
    | split
    | dsimp only

theorem execSampleInstant_same (slot : Fin 22) (x : SampleIn) (s : State) {t_ : State} (h_ : execSampleInstant slot x s = .next t_) : SameBut [.host, .maint, .ev, .sys, .time, .fir, .fus, .dpx, .log] s t_ := by
  unfold execSampleInstant at h_
  injection h_ with h_
  subst h_
  repeat' first
    | (extract_lets +onlyGivenNames u_; first | (apply SameBut.gen (u := u_); (on_goal 1 => (dsimp -zeta -zetaHave only [u_]; clear u_)); (on_goal 2 => (clear_value u_; revert u_; intros))) | (clear_value u_; revert u_; intros) | (revert u_; intros))
    | with_reducible assumption
    | with_reducible apply SameBut.refl
    | ((with_reducible apply SameBut.onFir); (case hl => rfl))
    | ((with_reducible apply SameBut.step (k := advanceTo_same _ _)); (case hl => rfl))
    | ((with_reducible apply SameBut.step (k := firOccur_same _ _ _)); (case hl => rfl))
    | ((with_reducible apply SameBut.step (k := imuFail_same _ _)); (case hl => rfl))
    | ((with_reducible apply SameBut.step (k := mechanised_same _)); (case hl => rfl))
    | ((with_reducible apply SameBut.step (k := stage1_same _ _ _)); (case hl => rfl))
    | split
    | dsimp only

end Sys2Proof.Machine
end

