-- ==== Sys2Proof/Laws/FrameWoodshed.lean ====
section
/-! SUPPORT. What each operation of Machine/Woodshed.lean leaves alone: every part of the state but those listed. -/

namespace Sys2Proof.Machine

set_option linter.all false

theorem pd13Budget_same (s : State) : SameBut [.sys] s (pd13Budget s) := by
  unfold pd13Budget
  repeat' first
    | (extract_lets +onlyGivenNames u_; first | (apply SameBut.gen (u := u_); (on_goal 1 => (dsimp -zeta -zetaHave only [u_]; clear u_)); (on_goal 2 => (clear_value u_; revert u_; intros))) | (clear_value u_; revert u_; intros) | (revert u_; intros))
    | with_reducible assumption
    | with_reducible apply SameBut.refl
    | ((with_reducible apply SameBut.onSysMode); (case hl => rfl))
    | (show ∀ _ : SysState, _ ∧ _; intros; repeat' first | exact ⟨rfl, rfl⟩ | split | dsimp only)
    | split
    | dsimp only

theorem flush_same (bad : List Bool) (s : State) : SameBut [.log] s (flush bad s) := by
  unfold flush
  repeat' first
    | (extract_lets +onlyGivenNames u_; first | (apply SameBut.gen (u := u_); (on_goal 1 => (dsimp -zeta -zetaHave only [u_]; clear u_)); (on_goal 2 => (clear_value u_; revert u_; intros))) | (clear_value u_; revert u_; intros) | (revert u_; intros))
    | with_reducible assumption
    | with_reducible apply SameBut.refl
    | ((with_reducible apply SameBut.onLog); (case hl => rfl))
    | ((with_reducible apply SameBut.step (k := newRec_same _ _ _ _ _ _)); (case hl => rfl))
    | ((with_reducible apply SameBut.fst_ (k := newRec_same _ _ _ _ _ _) (by assumption)); (case hl => rfl))
    | split
    | dsimp only

theorem logConfigTakes_same (old : State) (s : State) : SameBut [.log] s (logConfigTakes old s) := by
  unfold logConfigTakes
  repeat' first
    | (extract_lets +onlyGivenNames u_; first | (apply SameBut.gen (u := u_); (on_goal 1 => (dsimp -zeta -zetaHave only [u_]; clear u_)); (on_goal 2 => (clear_value u_; revert u_; intros))) | (clear_value u_; revert u_; intros) | (revert u_; intros))
    | with_reducible assumption
    | with_reducible apply SameBut.refl
    | ((with_reducible apply SameBut.onLog); (case hl => rfl))
    | ((with_reducible apply SameBut.step (k := flush_same _ _)); (case hl => rfl))
    | split
    | dsimp only

theorem execCounterCheckpoint_same (s : State) {t_ : State} (h_ : execCounterCheckpoint s = .next t_) : SameBut [.host, .maint, .ev, .time, .log] s t_ := by
  unfold execCounterCheckpoint at h_
  injection h_ with h_
  subst h_
  repeat' first
    | (extract_lets +onlyGivenNames u_; first | (apply SameBut.gen (u := u_); (on_goal 1 => (dsimp -zeta -zetaHave only [u_]; clear u_)); (on_goal 2 => (clear_value u_; revert u_; intros))) | (clear_value u_; revert u_; intros) | (revert u_; intros))
    | with_reducible assumption
    | with_reducible apply SameBut.refl
    | ((with_reducible apply SameBut.step (k := advance_same _ _)); (case hl => rfl))
    | ((with_reducible apply SameBut.step (k := record_same _ _ _ _ _)); (case hl => rfl))
    | split
    | dsimp only

theorem execLogConfig_same (p : Port) (s : State) {t_ : State} (h_ : execLogConfig p s = .next t_) : SameBut [.host, .maint, .ev, .sys, .dpx, .cfg, .log] s t_ := by
  unfold execLogConfig at h_
  injection h_ with h_
  subst h_
  repeat' first
    | (extract_lets +onlyGivenNames u_; first | (apply SameBut.gen (u := u_); (on_goal 1 => (dsimp -zeta -zetaHave only [u_]; clear u_)); (on_goal 2 => (clear_value u_; revert u_; intros))) | (clear_value u_; revert u_; intros) | (revert u_; intros))
    | with_reducible assumption
    | with_reducible apply SameBut.refl
    | ((with_reducible apply SameBut.step (k := configRow_same _ _ _ _)); (case hl => rfl))
    | split
    | dsimp only

theorem execLogFlush_same (bad : List Bool) (s : State) {t_ : State} (h_ : execLogFlush bad s = .next t_) : SameBut [.time, .log] s t_ := by
  unfold execLogFlush at h_
  injection h_ with h_
  subst h_
  repeat' first
    | (extract_lets +onlyGivenNames u_; first | (apply SameBut.gen (u := u_); (on_goal 1 => (dsimp -zeta -zetaHave only [u_]; clear u_)); (on_goal 2 => (clear_value u_; revert u_; intros))) | (clear_value u_; revert u_; intros) | (revert u_; intros))
    | with_reducible assumption
    | with_reducible apply SameBut.refl
    | ((with_reducible apply SameBut.step (k := advance_same _ _)); (case hl => rfl))
    | ((with_reducible apply SameBut.step (k := flush_same _ _)); (case hl => rfl))
    | split
    | dsimp only

theorem execLogRate_same (p : Port) (s : State) {t_ : State} (h_ : execLogRate p s = .next t_) : SameBut [.host, .maint, .ev, .sys, .dpx, .cfg, .log] s t_ := by
  unfold execLogRate at h_
  injection h_ with h_
  subst h_
  repeat' first
    | (extract_lets +onlyGivenNames u_; first | (apply SameBut.gen (u := u_); (on_goal 1 => (dsimp -zeta -zetaHave only [u_]; clear u_)); (on_goal 2 => (clear_value u_; revert u_; intros))) | (clear_value u_; revert u_; intros) | (revert u_; intros))
    | with_reducible assumption
    | with_reducible apply SameBut.refl
    | ((with_reducible apply SameBut.onLog); (case hl => rfl))
    | ((with_reducible apply SameBut.step (k := forward_same _ _ _)); (case hl => rfl))
    | ((with_reducible apply SameBut.step (k := ok_same _ _ _ _ _)); (case hl => rfl))
    | ((with_reducible apply SameBut.step (k := setConfig_same _ _ _ _ _ _ _)); (case hl => rfl))
    | ((with_reducible apply SameBut.runOpV); (case hl => rfl))
    | with_reducible intro _
    | split
    | dsimp only

theorem execLogRead_same (p : Port) (s : State) {t_ : State} (h_ : execLogRead p s = .next t_) : SameBut [.host, .maint, .sys] s t_ := by
  unfold execLogRead at h_
  injection h_ with h_
  subst h_
  repeat' first
    | (extract_lets +onlyGivenNames u_; first | (apply SameBut.gen (u := u_); (on_goal 1 => (dsimp -zeta -zetaHave only [u_]; clear u_)); (on_goal 2 => (clear_value u_; revert u_; intros))) | (clear_value u_; revert u_; intros) | (revert u_; intros))
    | with_reducible assumption
    | with_reducible apply SameBut.refl
    | ((with_reducible apply SameBut.step (k := ok_same _ _ _ _ _)); (case hl => rfl))
    | ((with_reducible apply SameBut.runOp); (case hl => rfl))
    | with_reducible intro _
    | split
    | dsimp only

theorem execLogStatus_same (p : Port) (s : State) {t_ : State} (h_ : execLogStatus p s = .next t_) : SameBut [.host, .maint, .sys, .free] s t_ := by
  unfold execLogStatus at h_
  injection h_ with h_
  subst h_
  repeat' first
    | (extract_lets +onlyGivenNames u_; first | (apply SameBut.gen (u := u_); (on_goal 1 => (dsimp -zeta -zetaHave only [u_]; clear u_)); (on_goal 2 => (clear_value u_; revert u_; intros))) | (clear_value u_; revert u_; intros) | (revert u_; intros))
    | with_reducible assumption
    | with_reducible apply SameBut.refl
    | ((with_reducible apply SameBut.step (k := drawn_same _)); (case hl => rfl))
    | ((with_reducible apply SameBut.step (k := ok_same _ _ _ _ _)); (case hl => rfl))
    | ((with_reducible apply SameBut.runOp); (case hl => rfl))
    | with_reducible intro _
    | split
    | dsimp only

theorem execLogWrite_same (p : Port) (s : State) {t_ : State} (h_ : execLogWrite p s = .next t_) : SameBut [.host, .maint, .ev, .sys, .log, .free] s t_ := by
  unfold execLogWrite at h_
  injection h_ with h_
  subst h_
  repeat' first
    | (extract_lets +onlyGivenNames u_; first | (apply SameBut.gen (u := u_); (on_goal 1 => (dsimp -zeta -zetaHave only [u_]; clear u_)); (on_goal 2 => (clear_value u_; revert u_; intros))) | (dsimp -zeta -zetaHave only [u_]; clear u_) | (clear_value u_; revert u_; intros) | (revert u_; intros))
    | with_reducible assumption
    | with_reducible apply SameBut.refl
    | ((with_reducible apply SameBut.step (k := drawn_same _)); (case hl => rfl))
    | ((with_reducible apply SameBut.step (k := finish_same _ _ _ _ _ _ _)); (case hl => rfl))
    | ((with_reducible apply SameBut.step (k := newRec_same _ _ _ _ _ _)); (case hl => rfl))
    | ((with_reducible apply SameBut.fst_ (k := newRec_same _ _ _ _ _ _) (by assumption)); (case hl => rfl))
    | ((with_reducible apply SameBut.step (k := ok_same _ _ _ _ _)); (case hl => rfl))
    | ((with_reducible apply SameBut.step (k := overflow_same _ _)); (case hl => rfl))
    | ((with_reducible apply SameBut.runOp); (case hl => rfl))
    | with_reducible intro _
    | split
    | dsimp only

theorem summaries_same (s : State) : SameBut [.host, .maint, .ev, .log] s (summaries s) := by
  unfold summaries
  repeat' first
    | (extract_lets +onlyGivenNames u_; first | (apply SameBut.gen (u := u_); (on_goal 1 => (dsimp -zeta -zetaHave only [u_]; clear u_)); (on_goal 2 => (clear_value u_; revert u_; intros))) | (clear_value u_; revert u_; intros) | (revert u_; intros))
    | with_reducible assumption
    | with_reducible apply SameBut.refl
    | ((with_reducible apply SameBut.onLog); (case hl => rfl))
    | ((with_reducible apply SameBut.step (k := record_same _ _ _ _ _)); (case hl => rfl))
    | with_reducible apply SameBut.foldl
    | with_reducible intro _
    | split
    | dsimp only

theorem execPfailRecovery_same (s : State) {t_ : State} (h_ : execPfailRecovery s = .next t_) : SameBut [.host, .maint, .ev, .sys, .fus, .log] s t_ := by
  unfold execPfailRecovery at h_
  injection h_ with h_
  subst h_
  repeat' first
    | (extract_lets +onlyGivenNames u_; first | (apply SameBut.gen (u := u_); (on_goal 1 => (dsimp -zeta -zetaHave only [u_]; clear u_)); (on_goal 2 => (clear_value u_; revert u_; intros))) | (clear_value u_; revert u_; intros) | (revert u_; intros))
    | with_reducible assumption
    | with_reducible apply SameBut.refl
    | ((with_reducible apply SameBut.onLog); (case hl => rfl))
    | ((with_reducible apply SameBut.onSysMode); (case hl => rfl))
    | (show ∀ _ : SysState, _ ∧ _; intros; repeat' first | exact ⟨rfl, rfl⟩ | split | dsimp only)
    | ((with_reducible apply SameBut.step (k := discard_same _ _ _)); (case hl => rfl))
    | split
    | dsimp only

theorem powerFailFlush_same (s : State) : SameBut [.host, .maint, .ev, .sys, .fus, .log] s (powerFailFlush s) := by
  unfold powerFailFlush
  repeat' first
    | (extract_lets +onlyGivenNames u_; first | (apply SameBut.gen (u := u_); (on_goal 1 => (dsimp -zeta -zetaHave only [u_]; clear u_)); (on_goal 2 => (clear_value u_; revert u_; intros))) | (clear_value u_; revert u_; intros) | (revert u_; intros))
    | with_reducible assumption
    | with_reducible apply SameBut.refl
    | ((with_reducible apply SameBut.onLog); (case hl => rfl))
    | ((with_reducible apply SameBut.onSysMode); (case hl => rfl))
    | (show ∀ _ : SysState, _ ∧ _; intros; repeat' first | exact ⟨rfl, rfl⟩ | split | dsimp only)
    | ((with_reducible apply SameBut.step (k := discard_same _ _ _)); (case hl => rfl))
    | ((with_reducible apply SameBut.step (k := flush_same _ _)); (case hl => rfl))
    | ((with_reducible apply SameBut.step (k := newRec_same _ _ _ _ _ _)); (case hl => rfl))
    | ((with_reducible apply SameBut.fst_ (k := newRec_same _ _ _ _ _ _) (by assumption)); (case hl => rfl))
    | ((with_reducible apply SameBut.step (k := summaries_same _)); (case hl => rfl))
    | split
    | dsimp only

theorem execPowerFailFlush_same (s : State) {t_ : State} (h_ : execPowerFailFlush s = .next t_) : SameBut [.host, .maint, .ev, .sys, .fus, .log] s t_ := by
  unfold execPowerFailFlush at h_
  injection h_ with h_
  subst h_
  repeat' first
    | (extract_lets +onlyGivenNames u_; first | (apply SameBut.gen (u := u_); (on_goal 1 => (dsimp -zeta -zetaHave only [u_]; clear u_)); (on_goal 2 => (clear_value u_; revert u_; intros))) | (clear_value u_; revert u_; intros) | (revert u_; intros))
    | with_reducible assumption
    | with_reducible apply SameBut.refl
    | ((with_reducible apply SameBut.step (k := powerFailFlush_same _)); (case hl => rfl))
    | split
    | dsimp only

theorem execSectorEraseComplete_same (s : State) {t_ : State} (h_ : execSectorEraseComplete s = .next t_) : SameBut [.sys, .log] s t_ := by
  unfold execSectorEraseComplete at h_
  injection h_ with h_
  subst h_
  repeat' first
    | (extract_lets +onlyGivenNames u_; first | (apply SameBut.gen (u := u_); (on_goal 1 => (dsimp -zeta -zetaHave only [u_]; clear u_)); (on_goal 2 => (clear_value u_; revert u_; intros))) | (clear_value u_; revert u_; intros) | (revert u_; intros))
    | with_reducible assumption
    | with_reducible apply SameBut.refl
    | ((with_reducible apply SameBut.onLog); (case hl => rfl))
    | ((with_reducible apply SameBut.step (k := pd13Budget_same _)); (case hl => rfl))
    | split
    | dsimp only

theorem execSummaryIntervalEnd_same (s : State) {t_ : State} (h_ : execSummaryIntervalEnd s = .next t_) : SameBut [.host, .maint, .ev, .time, .log] s t_ := by
  unfold execSummaryIntervalEnd at h_
  injection h_ with h_
  subst h_
  repeat' first
    | (extract_lets +onlyGivenNames u_; first | (apply SameBut.gen (u := u_); (on_goal 1 => (dsimp -zeta -zetaHave only [u_]; clear u_)); (on_goal 2 => (clear_value u_; revert u_; intros))) | (clear_value u_; revert u_; intros) | (revert u_; intros))
    | with_reducible assumption
    | with_reducible apply SameBut.refl
    | ((with_reducible apply SameBut.onLog); (case hl => rfl))
    | ((with_reducible apply SameBut.step (k := advance_same _ _)); (case hl => rfl))
    | ((with_reducible apply SameBut.step (k := summaries_same _)); (case hl => rfl))
    | split
    | dsimp only

end Sys2Proof.Machine
end

