-- ==== Sys2Proof/Laws/FrameModes.lean ====
section
/-! SUPPORT. What each operation of Machine/Modes.lean leaves alone: every part of the state but those listed. -/

namespace Sys2Proof.Machine

set_option linter.all false

theorem abortHoming_same (p : Port) (tag : Nat) (s : State) : SameBut [.loop] s (abortHoming p tag s) := by
  unfold abortHoming
  repeat' first
    | (extract_lets +onlyGivenNames u_; first | (apply SameBut.gen (u := u_); (on_goal 1 => (dsimp -zeta -zetaHave only [u_]; clear u_)); (on_goal 2 => (clear_value u_; revert u_; intros))) | (clear_value u_; revert u_; intros) | (revert u_; intros))
    | with_reducible assumption
    | with_reducible apply SameBut.refl
    | ((with_reducible apply SameBut.onLoop); (case hl => rfl))
    | split
    | dsimp only

theorem abortTicket_same (t : Ticket) (s : State) : SameBut [.solv] s (abortTicket t s) := by
  unfold abortTicket
  repeat' first
    | (extract_lets +onlyGivenNames u_; first | (apply SameBut.gen (u := u_); (on_goal 1 => (dsimp -zeta -zetaHave only [u_]; clear u_)); (on_goal 2 => (clear_value u_; revert u_; intros))) | (clear_value u_; revert u_; intros) | (revert u_; intros))
    | with_reducible assumption
    | with_reducible apply SameBut.refl
    | ((with_reducible apply SameBut.step (k := dropTicket_same _ _)); (case hl => rfl))
    | ((with_reducible apply SameBut.step (k := onTicket_same _ _ _)); (case hl => rfl))
    | split
    | dsimp only

theorem dropWork_same (p : Port) (tag : Nat) (s : State) : SameBut [.sys, .time, .solv, .dpc, .loop, .dpx, .cfg, .free] s (dropWork p tag s) := by
  unfold dropWork
  repeat' first
    | (extract_lets +onlyGivenNames u_; first | (apply SameBut.gen (u := u_); (on_goal 1 => (dsimp -zeta -zetaHave only [u_]; clear u_)); (on_goal 2 => (clear_value u_; revert u_; intros))) | (clear_value u_; revert u_; intros) | (revert u_; intros))
    | with_reducible assumption
    | with_reducible apply SameBut.refl
    | ((with_reducible apply SameBut.onCfg); (case hl => rfl))
    | ((with_reducible apply SameBut.onDpc); (case hl => rfl))
    | ((with_reducible apply SameBut.onDpx); (case hl => rfl))
    | ((with_reducible apply SameBut.onLoop); (case hl => rfl))
    | ((with_reducible apply SameBut.onSolv); (case hl => rfl))
    | ((with_reducible apply SameBut.onSysMode); (case hl => rfl))
    | (show ∀ _ : SysState, _ ∧ _; intros; repeat' first | exact ⟨rfl, rfl⟩ | split | dsimp only)
    | ((with_reducible apply SameBut.onTime); (case hl => rfl))
    | ((with_reducible apply SameBut.step (k := abortHoming_same _ _ _)); (case hl => rfl))
    | ((with_reducible apply SameBut.step (k := abortTicket_same _ _)); (case hl => rfl))
    | ((with_reducible apply SameBut.step (k := pd13Budget_same _)); (case hl => rfl))
    | ((with_reducible apply SameBut.step (k := serve_same _)); (case hl => rfl))
    | with_reducible apply SameBut.foldl
    | with_reducible intro _
    | split
    | dsimp only

theorem noFunction_same (s : State) : SameBut [.solv, .dpc, .free] s (noFunction s) := by
  unfold noFunction
  repeat' first
    | (extract_lets +onlyGivenNames u_; first | (apply SameBut.gen (u := u_); (on_goal 1 => (dsimp -zeta -zetaHave only [u_]; clear u_)); (on_goal 2 => (clear_value u_; revert u_; intros))) | (clear_value u_; revert u_; intros) | (revert u_; intros))
    | with_reducible assumption
    | with_reducible apply SameBut.refl
    | ((with_reducible apply SameBut.onDpc); (case hl => rfl))
    | ((with_reducible apply SameBut.step (k := cancelDp_same _ _)); (case hl => rfl))
    | split
    | dsimp only

theorem enterMode_same (old m : Mode) (s : State) : SameBut [.host, .maint, .ev, .sys, .solv, .dpc, .alloc, .loop, .log, .free] s (enterMode old m s) := by
  unfold enterMode
  repeat' first
    | (extract_lets +onlyGivenNames u_; first | (apply SameBut.gen (u := u_); (on_goal 1 => (dsimp -zeta -zetaHave only [u_]; clear u_)); (on_goal 2 => (clear_value u_; revert u_; intros))) | (clear_value u_; revert u_; intros) | (revert u_; intros))
    | with_reducible assumption
    | with_reducible apply SameBut.refl
    | ((with_reducible apply SameBut.onAlloc); (case hl => rfl))
    | ((with_reducible apply SameBut.step (k := noFunction_same _)); (case hl => rfl))
    | ((with_reducible apply SameBut.step (k := openEngines_same _)); (case hl => rfl))
    | ((with_reducible apply SameBut.step (k := releaseOutputs_same _)); (case hl => rfl))
    | ((with_reducible apply SameBut.step (k := shadowEngines_same _)); (case hl => rfl))
    | ((with_reducible apply SameBut.step (k := withdrawHost_same _)); (case hl => rfl))
    | split
    | dsimp only

theorem leaveMode_same (s : State) : SameBut [.host, .maint, .ev, .sys, .loop, .kiln, .log] s (leaveMode s) := by
  unfold leaveMode
  repeat' first
    | (extract_lets +onlyGivenNames u_; first | (apply SameBut.gen (u := u_); (on_goal 1 => (dsimp -zeta -zetaHave only [u_]; clear u_)); (on_goal 2 => (clear_value u_; revert u_; intros))) | (clear_value u_; revert u_; intros) | (revert u_; intros))
    | with_reducible assumption
    | with_reducible apply SameBut.refl
    | ((with_reducible apply SameBut.step (k := follyEnd_same _ _)); (case hl => rfl))
    | ((with_reducible apply SameBut.step (k := kilnUnstage_same _)); (case hl => rfl))
    | split
    | dsimp only

theorem setMode_same (m : Mode) (kind detail : Nat) (p : Port) (s : State) : SameBut [.host, .maint, .ev, .sys, .mode, .solv, .dpc, .alloc, .loop, .kiln, .can, .log, .free] s (setMode m kind detail p s) := by
  unfold setMode
  repeat' first
    | (extract_lets +onlyGivenNames u_; first | (apply SameBut.gen (u := u_); (on_goal 1 => (dsimp -zeta -zetaHave only [u_]; clear u_)); (on_goal 2 => (clear_value u_; revert u_; intros))) | (clear_value u_; revert u_; intros) | (revert u_; intros))
    | with_reducible assumption
    | with_reducible apply SameBut.refl
    | ((with_reducible apply SameBut.onSys); (case hl => rfl))
    | ((with_reducible apply SameBut.step (k := canOwnerChange_same _)); (case hl => rfl))
    | ((with_reducible apply SameBut.step (k := canRelease_same _)); (case hl => rfl))
    | ((with_reducible apply SameBut.step (k := enterMode_same _ _ _)); (case hl => rfl))
    | ((with_reducible apply SameBut.step (k := leaveMode_same _)); (case hl => rfl))
    | ((with_reducible apply SameBut.step (k := raise_same _ _ _)); (case hl => rfl))
    | ((with_reducible apply SameBut.step (k := record_same _ _ _ _ _)); (case hl => rfl))
    | split
    | dsimp only

theorem modeTakes_same (s : State) : SameBut [.host, .maint, .ev, .sys, .mode, .solv, .dpc, .alloc, .loop, .kiln, .can, .log, .free] s (modeTakes s) := by
  unfold modeTakes
  repeat' first
    | (extract_lets +onlyGivenNames u_; first | (apply SameBut.gen (u := u_); (on_goal 1 => (dsimp -zeta -zetaHave only [u_]; clear u_)); (on_goal 2 => (clear_value u_; revert u_; intros))) | (clear_value u_; revert u_; intros) | (revert u_; intros))
    | with_reducible assumption
    | with_reducible apply SameBut.refl
    | ((with_reducible apply SameBut.onSys); (case hl => rfl))
    | ((with_reducible apply SameBut.step (k := commit_same _ _ _)); (case hl => rfl))
    | ((with_reducible apply SameBut.step (k := drawn_same _)); (case hl => rfl))
    | ((with_reducible apply SameBut.step (k := finish_same _ _ _ _ _ _ _)); (case hl => rfl))
    | ((with_reducible apply SameBut.step (k := setMode_same _ _ _ _ _)); (case hl => rfl))
    | split
    | dsimp only

theorem loseCommands_same (s : State) : SameBut [.host, .maint, .ev, .sys, .time, .solv, .dpc, .loop, .dpx, .cfg, .log, .free] s (loseCommands s) := by
  unfold loseCommands
  repeat' first
    | (extract_lets +onlyGivenNames u_; first | (apply SameBut.gen (u := u_); (on_goal 1 => (dsimp -zeta -zetaHave only [u_]; clear u_)); (on_goal 2 => (clear_value u_; revert u_; intros))) | (clear_value u_; revert u_; intros) | (revert u_; intros))
    | with_reducible assumption
    | with_reducible apply SameBut.refl
    | ((with_reducible apply SameBut.step (k := dropWork_same _ _ _)); (case hl => rfl))
    | ((with_reducible apply SameBut.step (k := failCommit_same _ _ _ _ _)); (case hl => rfl))
    | ((with_reducible apply SameBut.step (k := finish_same _ _ _ _ _ _ _)); (case hl => rfl))
    | with_reducible apply SameBut.foldl
    | with_reducible intro _
    | split
    | dsimp only

theorem execSysSetMode_same (p : Port) (s : State) {t_ : State} (h_ : execSysSetMode p s = .next t_) : SameBut [.host, .maint, .sys, .dpx] s t_ := by
  unfold execSysSetMode at h_
  injection h_ with h_
  subst h_
  repeat' first
    | (extract_lets +onlyGivenNames u_; first | (apply SameBut.gen (u := u_); (on_goal 1 => (dsimp -zeta -zetaHave only [u_]; clear u_)); (on_goal 2 => (clear_value u_; revert u_; intros))) | (clear_value u_; revert u_; intros) | (revert u_; intros))
    | with_reducible assumption
    | with_reducible apply SameBut.refl
    | ((with_reducible apply SameBut.onDpx); (case hl => rfl))
    | ((with_reducible apply SameBut.onSysMode); (case hl => rfl))
    | (show ∀ _ : SysState, _ ∧ _; intros; repeat' first | exact ⟨rfl, rfl⟩ | split | dsimp only)
    | ((with_reducible apply SameBut.step (k := badValue_same _ _ _ _)); (case hl => rfl))
    | ((with_reducible apply SameBut.step (k := pending_same _ _ _ _)); (case hl => rfl))
    | ((with_reducible apply SameBut.step (k := reject_same _ _ _ _ _)); (case hl => rfl))
    | ((with_reducible apply SameBut.runOp); (case hl => rfl))
    | with_reducible intro _
    | split
    | dsimp only

theorem execSysSetWake_same (p : Port) (s : State) {t_ : State} (h_ : execSysSetWake p s = .next t_) : SameBut [.host, .maint, .hp, .sys] s t_ := by
  unfold execSysSetWake at h_
  injection h_ with h_
  subst h_
  repeat' first
    | (extract_lets +onlyGivenNames u_; first | (apply SameBut.gen (u := u_); (on_goal 1 => (dsimp -zeta -zetaHave only [u_]; clear u_)); (on_goal 2 => (clear_value u_; revert u_; intros))) | (clear_value u_; revert u_; intros) | (revert u_; intros))
    | with_reducible assumption
    | with_reducible apply SameBut.refl
    | ((with_reducible apply SameBut.step (k := ok_same _ _ _ _ _)); (case hl => rfl))
    | ((with_reducible apply SameBut.step (k := setBudget_same _ _)); (case hl => rfl))
    | ((with_reducible apply SameBut.runOp); (case hl => rfl))
    | with_reducible intro _
    | split
    | dsimp only

end Sys2Proof.Machine
end

