-- ==== Sys2Proof/Laws/FramePosition.lean ====
section
/-! SUPPORT. What each operation of Machine/Position.lean leaves alone: every part of the state but those listed. -/

namespace Sys2Proof.Machine

set_option linter.all false

theorem enterMove_same (pos : Option (Int × Int)) (hdg : Option Int) (pct dir : Nat) (sync : Bool) (s : State) : SameBut [.host, .maint, .ev, .dpc, .cfg, .log] s (enterMove pos hdg pct dir sync s).1 := by
  unfold enterMove
  repeat' first
    | (extract_lets +onlyGivenNames u_; first | (apply SameBut.gen (u := u_); (on_goal 1 => (dsimp -zeta -zetaHave only [u_]; clear u_)); (on_goal 2 => (clear_value u_; revert u_; intros))) | (clear_value u_; revert u_; intros) | (revert u_; intros))
    | with_reducible assumption
    | with_reducible apply SameBut.refl
    | ((with_reducible apply SameBut.onDpc); (case hl => rfl))
    | ((with_reducible apply SameBut.step (k := promote_same _ _)); (case hl => rfl))
    | ((with_reducible apply SameBut.step (k := raise_same _ _ _)); (case hl => rfl))
    | with_reducible apply SameBut.foldl
    | with_reducible intro _
    | split
    | dsimp only

theorem approach_same (i : Nat) (s : State) : SameBut [.host, .maint, .ev, .dpc, .cfg, .log] s (approach i s) := by
  unfold approach
  repeat' first
    | (extract_lets +onlyGivenNames u_; first | (apply SameBut.gen (u := u_); (on_goal 1 => (dsimp -zeta -zetaHave only [u_]; clear u_)); (on_goal 2 => (clear_value u_; revert u_; intros))) | (clear_value u_; revert u_; intros) | (revert u_; intros))
    | with_reducible assumption
    | with_reducible apply SameBut.refl
    | ((with_reducible apply SameBut.onDpc); (case hl => rfl))
    | ((with_reducible apply SameBut.step (k := enterMove_same _ _ _ _ _ _)); (case hl => rfl))
    | ((with_reducible apply SameBut.fst_ (k := enterMove_same _ _ _ _ _ _) (by assumption)); (case hl => rfl))
    | split
    | dsimp only

theorem turnTo_same (h : Int) (s : State) : SameBut [.host, .maint, .ev, .dpc, .cfg, .log] s (turnTo h s) := by
  unfold turnTo
  repeat' first
    | (extract_lets +onlyGivenNames u_; first | (apply SameBut.gen (u := u_); (on_goal 1 => (dsimp -zeta -zetaHave only [u_]; clear u_)); (on_goal 2 => (clear_value u_; revert u_; intros))) | (clear_value u_; revert u_; intros) | (revert u_; intros))
    | with_reducible assumption
    | with_reducible apply SameBut.refl
    | ((with_reducible apply SameBut.step (k := enterMove_same _ _ _ _ _ _)); (case hl => rfl))
    | ((with_reducible apply SameBut.fst_ (k := enterMove_same _ _ _ _ _ _) (by assumption)); (case hl => rfl))
    | split
    | dsimp only

theorem atStop_same (i : Nat) (s : State) : SameBut [.host, .maint, .ev, .dpc, .cfg, .log] s (atStop i s) := by
  unfold atStop
  repeat' first
    | (extract_lets +onlyGivenNames u_; first | (apply SameBut.gen (u := u_); (on_goal 1 => (dsimp -zeta -zetaHave only [u_]; clear u_)); (on_goal 2 => (clear_value u_; revert u_; intros))) | (clear_value u_; revert u_; intros) | (revert u_; intros))
    | with_reducible assumption
    | with_reducible apply SameBut.refl
    | ((with_reducible apply SameBut.onDpc); (case hl => rfl))
    | ((with_reducible apply SameBut.step (k := raise_same _ _ _)); (case hl => rfl))
    | ((with_reducible apply SameBut.step (k := turnTo_same _ _)); (case hl => rfl))
    | split
    | dsimp only

theorem datumTakes_same (n : Datum) (src : Nat) (s : State) : SameBut [.fus, .dpc] s (datumTakes n src s) := by
  unfold datumTakes
  repeat' first
    | (extract_lets +onlyGivenNames u_; first | (apply SameBut.gen (u := u_); (on_goal 1 => (dsimp -zeta -zetaHave only [u_]; clear u_)); (on_goal 2 => (clear_value u_; revert u_; intros))) | (revert u_; intros))
    | with_reducible assumption
    | with_reducible apply SameBut.refl
    | ((with_reducible apply SameBut.onDpc); (case hl => rfl))
    | ((with_reducible apply SameBut.onFus); (case hl => rfl))
    | split
    | dsimp only

theorem rpTakes_same (s : State) : SameBut [.dpc] s (rpTakes s) := by
  unfold rpTakes
  repeat' first
    | (extract_lets +onlyGivenNames u_; first | (apply SameBut.gen (u := u_); (on_goal 1 => (dsimp -zeta -zetaHave only [u_]; clear u_)); (on_goal 2 => (clear_value u_; revert u_; intros))) | (clear_value u_; revert u_; intros) | (revert u_; intros))
    | with_reducible assumption
    | with_reducible apply SameBut.refl
    | ((with_reducible apply SameBut.onDpc); (case hl => rfl))
    | split
    | dsimp only

theorem restAll_same (s : State) : SameBut [.dpc] s (restAll s) := by
  unfold restAll
  repeat' first
    | (extract_lets +onlyGivenNames u_; first | (apply SameBut.gen (u := u_); (on_goal 1 => (dsimp -zeta -zetaHave only [u_]; clear u_)); (on_goal 2 => (clear_value u_; revert u_; intros))) | (clear_value u_; revert u_; intros) | (revert u_; intros))
    | with_reducible assumption
    | with_reducible apply SameBut.refl
    | ((with_reducible apply SameBut.onDpc); (case hl => rfl))
    | split
    | dsimp only

theorem startPos_same (s : State) : SameBut [.dpc] s (startPos s) := by
  unfold startPos
  repeat' first
    | (extract_lets +onlyGivenNames u_; first | (apply SameBut.gen (u := u_); (on_goal 1 => (dsimp -zeta -zetaHave only [u_]; clear u_)); (on_goal 2 => (clear_value u_; revert u_; intros))) | (clear_value u_; revert u_; intros) | (revert u_; intros))
    | with_reducible assumption
    | with_reducible apply SameBut.refl
    | ((with_reducible apply SameBut.onDpc); (case hl => rfl))
    | split
    | dsimp only

theorem startYaw_same (s : State) : SameBut [.dpc] s (startYaw s) := by
  unfold startYaw
  repeat' first
    | (extract_lets +onlyGivenNames u_; first | (apply SameBut.gen (u := u_); (on_goal 1 => (dsimp -zeta -zetaHave only [u_]; clear u_)); (on_goal 2 => (clear_value u_; revert u_; intros))) | (clear_value u_; revert u_; intros) | (revert u_; intros))
    | with_reducible assumption
    | with_reducible apply SameBut.refl
    | ((with_reducible apply SameBut.onDpc); (case hl => rfl))
    | split
    | dsimp only

theorem setFunction_same (fn : Nat) (s : State) : SameBut [.host, .maint, .ev, .solv, .dpc, .alloc, .log, .free] s (setFunction fn s) := by
  unfold setFunction
  repeat' first
    | (extract_lets +onlyGivenNames u_; first | (apply SameBut.gen (u := u_); (on_goal 1 => (dsimp -zeta -zetaHave only [u_]; clear u_)); (on_goal 2 => (clear_value u_; revert u_; intros))) | (clear_value u_; revert u_; intros) | (revert u_; intros))
    | with_reducible assumption
    | with_reducible apply SameBut.refl
    | ((with_reducible apply SameBut.onAlloc); (case hl => rfl))
    | ((with_reducible apply SameBut.onDpc); (case hl => rfl))
    | ((with_reducible apply SameBut.step (k := cancelDp_same _ _)); (case hl => rfl))
    | ((with_reducible apply SameBut.step (k := raise_same _ _ _)); (case hl => rfl))
    | ((with_reducible apply SameBut.step (k := restAll_same _)); (case hl => rfl))
    | ((with_reducible apply SameBut.step (k := startPos_same _)); (case hl => rfl))
    | ((with_reducible apply SameBut.step (k := startYaw_same _)); (case hl => rfl))
    | split
    | dsimp only

theorem fnTakes_same (s : State) : SameBut [.host, .maint, .ev, .sys, .solv, .dpc, .alloc, .log, .free] s (fnTakes s) := by
  unfold fnTakes
  repeat' first
    | (extract_lets +onlyGivenNames u_; first | (apply SameBut.gen (u := u_); (on_goal 1 => (dsimp -zeta -zetaHave only [u_]; clear u_)); (on_goal 2 => (clear_value u_; revert u_; intros))) | (dsimp -zeta -zetaHave only [u_]; clear u_) | (clear_value u_; revert u_; intros) | (revert u_; intros))
    | with_reducible assumption
    | with_reducible apply SameBut.refl
    | ((with_reducible apply SameBut.onDpc); (case hl => rfl))
    | ((with_reducible apply SameBut.step (k := commit_same _ _ _)); (case hl => rfl))
    | ((with_reducible apply SameBut.step (k := finish_same _ _ _ _ _ _ _)); (case hl => rfl))
    | ((with_reducible apply SameBut.step (k := setFunction_same _ _)); (case hl => rfl))
    | with_reducible apply SameBut.foldl
    | with_reducible intro _
    | split
    | dsimp only

theorem mpcFall_same (detail : Nat) (s : State) : SameBut [.host, .maint, .ev, .dpc, .log] s (mpcFall detail s) := by
  unfold mpcFall
  repeat' first
    | (extract_lets +onlyGivenNames u_; first | (apply SameBut.gen (u := u_); (on_goal 1 => (dsimp -zeta -zetaHave only [u_]; clear u_)); (on_goal 2 => (clear_value u_; revert u_; intros))) | (clear_value u_; revert u_; intros) | (revert u_; intros))
    | with_reducible assumption
    | with_reducible apply SameBut.refl
    | ((with_reducible apply SameBut.onDpc); (case hl => rfl))
    | ((with_reducible apply SameBut.step (k := raise_same _ _ _)); (case hl => rfl))
    | split
    | dsimp only

theorem rampLimits_same (s : State) : SameBut [.dpc] s (rampLimits s) := by
  unfold rampLimits
  repeat' first
    | (extract_lets +onlyGivenNames u_; first | (apply SameBut.gen (u := u_); (on_goal 1 => (dsimp -zeta -zetaHave only [u_]; clear u_)); (on_goal 2 => (clear_value u_; revert u_; intros))) | (clear_value u_; revert u_; intros) | (revert u_; intros))
    | with_reducible assumption
    | with_reducible apply SameBut.refl
    | ((with_reducible apply SameBut.onDpc); (case hl => rfl))
    | split
    | dsimp only

theorem computeTau_same (s : State) : SameBut [.dpc] s (computeTau s) := by
  unfold computeTau
  repeat' first
    | (extract_lets +onlyGivenNames u_; first | (apply SameBut.gen (u := u_); (on_goal 1 => (dsimp -zeta -zetaHave only [u_]; clear u_)); (on_goal 2 => (clear_value u_; revert u_; intros))) | (clear_value u_; revert u_; intros) | (revert u_; intros))
    | with_reducible assumption
    | with_reducible apply SameBut.refl
    | ((with_reducible apply SameBut.onDpc); (case hl => rfl))
    | split
    | dsimp only

theorem runLeg_same (i : Nat) (s : State) : SameBut [.dpc] s (runLeg i s) := by
  unfold runLeg
  repeat' first
    | (extract_lets +onlyGivenNames u_; first | (apply SameBut.gen (u := u_); (on_goal 1 => (dsimp -zeta -zetaHave only [u_]; clear u_)); (on_goal 2 => (clear_value u_; revert u_; intros))) | (clear_value u_; revert u_; intros) | (revert u_; intros))
    | with_reducible assumption
    | with_reducible apply SameBut.refl
    | ((with_reducible apply SameBut.onDpc); (case hl => rfl))
    | split
    | dsimp only

theorem enterLeg_same (i : Nat) (v : Int) (s : State) : SameBut [.dpc, .cfg] s (enterLeg i v s) := by
  unfold enterLeg
  repeat' first
    | (extract_lets +onlyGivenNames u_; first | (apply SameBut.gen (u := u_); (on_goal 1 => (dsimp -zeta -zetaHave only [u_]; clear u_)); (on_goal 2 => (clear_value u_; revert u_; intros))) | (clear_value u_; revert u_; intros) | (revert u_; intros))
    | with_reducible assumption
    | with_reducible apply SameBut.refl
    | ((with_reducible apply SameBut.onDpc); (case hl => rfl))
    | ((with_reducible apply SameBut.step (k := promote_same _ _)); (case hl => rfl))
    | ((with_reducible apply SameBut.step (k := runLeg_same _ _)); (case hl => rfl))
    | split
    | dsimp only

theorem execDpcControllerConfig_same (p : Port) (s : State) {t_ : State} (h_ : execDpcControllerConfig p s = .next t_) : SameBut [.host, .maint, .ev, .sys, .dpx, .cfg, .log] s t_ := by
  unfold execDpcControllerConfig at h_
  injection h_ with h_
  subst h_
  repeat' first
    | (extract_lets +onlyGivenNames u_; first | (apply SameBut.gen (u := u_); (on_goal 1 => (dsimp -zeta -zetaHave only [u_]; clear u_)); (on_goal 2 => (clear_value u_; revert u_; intros))) | (clear_value u_; revert u_; intros) | (revert u_; intros))
    | with_reducible assumption
    | with_reducible apply SameBut.refl
    | ((with_reducible apply SameBut.step (k := configRow_same _ _ _ _)); (case hl => rfl))
    | split
    | dsimp only

theorem execDpcExcursion_same (heading raised : Bool) (s : State) {t_ : State} (h_ : execDpcExcursion heading raised s = .next t_) : SameBut [.host, .maint, .ev, .dpc, .log] s t_ := by
  unfold execDpcExcursion at h_
  injection h_ with h_
  subst h_
  repeat' first
    | (extract_lets +onlyGivenNames u_; first | (apply SameBut.gen (u := u_); (on_goal 1 => (dsimp -zeta -zetaHave only [u_]; clear u_)); (on_goal 2 => (clear_value u_; revert u_; intros))) | (clear_value u_; revert u_; intros) | (revert u_; intros))
    | with_reducible assumption
    | with_reducible apply SameBut.refl
    | ((with_reducible apply SameBut.onDpc); (case hl => rfl))
    | ((with_reducible apply SameBut.step (k := raise_same _ _ _)); (case hl => rfl))
    | split
    | dsimp only

theorem execDpcJoystick_same (p : Port) (s : State) {t_ : State} (h_ : execDpcJoystick p s = .next t_) : SameBut [.host, .maint, .sys, .dpc] s t_ := by
  unfold execDpcJoystick at h_
  injection h_ with h_
  subst h_
  repeat' first
    | (extract_lets +onlyGivenNames u_; first | (apply SameBut.gen (u := u_); (on_goal 1 => (dsimp -zeta -zetaHave only [u_]; clear u_)); (on_goal 2 => (clear_value u_; revert u_; intros))) | (clear_value u_; revert u_; intros) | (revert u_; intros))
    | with_reducible assumption
    | with_reducible apply SameBut.refl
    | ((with_reducible apply SameBut.onDpc); (case hl => rfl))
    | ((with_reducible apply SameBut.step (k := ok_same _ _ _ _ _)); (case hl => rfl))
    | ((with_reducible apply SameBut.runOp); (case hl => rfl))
    | with_reducible intro _
    | split
    | dsimp only

theorem execDpcJoystickConfig_same (p : Port) (s : State) {t_ : State} (h_ : execDpcJoystickConfig p s = .next t_) : SameBut [.host, .maint, .ev, .sys, .dpx, .cfg, .log] s t_ := by
  unfold execDpcJoystickConfig at h_
  injection h_ with h_
  subst h_
  repeat' first
    | (extract_lets +onlyGivenNames u_; first | (apply SameBut.gen (u := u_); (on_goal 1 => (dsimp -zeta -zetaHave only [u_]; clear u_)); (on_goal 2 => (clear_value u_; revert u_; intros))) | (clear_value u_; revert u_; intros) | (revert u_; intros))
    | with_reducible assumption
    | with_reducible apply SameBut.refl
    | ((with_reducible apply SameBut.step (k := configRow_same _ _ _ _)); (case hl => rfl))
    | split
    | dsimp only

theorem execDpcMoveConfig_same (p : Port) (s : State) {t_ : State} (h_ : execDpcMoveConfig p s = .next t_) : SameBut [.host, .maint, .ev, .sys, .dpx, .cfg, .log] s t_ := by
  unfold execDpcMoveConfig at h_
  injection h_ with h_
  subst h_
  repeat' first
    | (extract_lets +onlyGivenNames u_; first | (apply SameBut.gen (u := u_); (on_goal 1 => (dsimp -zeta -zetaHave only [u_]; clear u_)); (on_goal 2 => (clear_value u_; revert u_; intros))) | (clear_value u_; revert u_; intros) | (revert u_; intros))
    | with_reducible assumption
    | with_reducible apply SameBut.refl
    | ((with_reducible apply SameBut.step (k := configRow_same _ _ _ _)); (case hl => rfl))
    | split
    | dsimp only

theorem execDpcMpcConfig_same (p : Port) (s : State) {t_ : State} (h_ : execDpcMpcConfig p s = .next t_) : SameBut [.host, .maint, .ev, .sys, .dpx, .cfg, .log] s t_ := by
  unfold execDpcMpcConfig at h_
  injection h_ with h_
  subst h_
  repeat' first
    | (extract_lets +onlyGivenNames u_; first | (apply SameBut.gen (u := u_); (on_goal 1 => (dsimp -zeta -zetaHave only [u_]; clear u_)); (on_goal 2 => (clear_value u_; revert u_; intros))) | (clear_value u_; revert u_; intros) | (revert u_; intros))
    | with_reducible assumption
    | with_reducible apply SameBut.refl
    | ((with_reducible apply SameBut.step (k := configRow_same _ _ _ _)); (case hl => rfl))
    | split
    | dsimp only

theorem execDpcPowerConfig_same (p : Port) (s : State) {t_ : State} (h_ : execDpcPowerConfig p s = .next t_) : SameBut [.host, .maint, .ev, .sys, .dpx, .cfg, .log] s t_ := by
  unfold execDpcPowerConfig at h_
  injection h_ with h_
  subst h_
  repeat' first
    | (extract_lets +onlyGivenNames u_; first | (apply SameBut.gen (u := u_); (on_goal 1 => (dsimp -zeta -zetaHave only [u_]; clear u_)); (on_goal 2 => (clear_value u_; revert u_; intros))) | (clear_value u_; revert u_; intros) | (revert u_; intros))
    | with_reducible assumption
    | with_reducible apply SameBut.refl
    | ((with_reducible apply SameBut.step (k := configRow_same _ _ _ _)); (case hl => rfl))
    | split
    | dsimp only

theorem execDpcSetDatum_same (p : Port) (s : State) {t_ : State} (h_ : execDpcSetDatum p s = .next t_) : SameBut [.host, .maint, .ev, .sys, .dpx, .cfg, .log] s t_ := by
  unfold execDpcSetDatum at h_
  injection h_ with h_
  subst h_
  repeat' first
    | (extract_lets +onlyGivenNames u_; first | (apply SameBut.gen (u := u_); (on_goal 1 => (dsimp -zeta -zetaHave only [u_]; clear u_)); (on_goal 2 => (clear_value u_; revert u_; intros))) | (clear_value u_; revert u_; intros) | (revert u_; intros))
    | with_reducible assumption
    | with_reducible apply SameBut.refl
    | ((with_reducible apply SameBut.step (k := configRow_same _ _ _ _)); (case hl => rfl))
    | split
    | dsimp only

theorem execDpcSetFunction_same (p : Port) (s : State) {t_ : State} (h_ : execDpcSetFunction p s = .next t_) : SameBut [.host, .maint, .sys, .dpc] s t_ := by
  unfold execDpcSetFunction at h_
  injection h_ with h_
  subst h_
  repeat' first
    | (extract_lets +onlyGivenNames u_; first | (apply SameBut.gen (u := u_); (on_goal 1 => (dsimp -zeta -zetaHave only [u_]; clear u_)); (on_goal 2 => (clear_value u_; revert u_; intros))) | (clear_value u_; revert u_; intros) | (revert u_; intros))
    | with_reducible assumption
    | with_reducible apply SameBut.refl
    | ((with_reducible apply SameBut.onDpc); (case hl => rfl))
    | ((with_reducible apply SameBut.step (k := pending_same _ _ _ _)); (case hl => rfl))
    | ((with_reducible apply SameBut.step (k := reject_same _ _ _ _ _)); (case hl => rfl))
    | ((with_reducible apply SameBut.runOp); (case hl => rfl))
    | with_reducible intro _
    | split
    | dsimp only

theorem execDpcSetRotationPoint_same (p : Port) (s : State) {t_ : State} (h_ : execDpcSetRotationPoint p s = .next t_) : SameBut [.host, .maint, .ev, .sys, .dpx, .cfg, .log] s t_ := by
  unfold execDpcSetRotationPoint at h_
  injection h_ with h_
  subst h_
  repeat' first
    | (extract_lets +onlyGivenNames u_; first | (apply SameBut.gen (u := u_); (on_goal 1 => (dsimp -zeta -zetaHave only [u_]; clear u_)); (on_goal 2 => (clear_value u_; revert u_; intros))) | (clear_value u_; revert u_; intros) | (revert u_; intros))
    | with_reducible assumption
    | with_reducible apply SameBut.refl
    | ((with_reducible apply SameBut.step (k := configRow_same _ _ _ _)); (case hl => rfl))
    | split
    | dsimp only

theorem execDpcSetTarget_same (p : Port) (s : State) {t_ : State} (h_ : execDpcSetTarget p s = .next t_) : SameBut [.host, .maint, .sys, .dpc] s t_ := by
  unfold execDpcSetTarget at h_
  injection h_ with h_
  subst h_
  repeat' first
    | (extract_lets +onlyGivenNames u_; first | (apply SameBut.gen (u := u_); (on_goal 1 => (dsimp -zeta -zetaHave only [u_]; clear u_)); (on_goal 2 => (clear_value u_; revert u_; intros))) | (clear_value u_; revert u_; intros) | (revert u_; intros))
    | with_reducible assumption
    | with_reducible apply SameBut.refl
    | ((with_reducible apply SameBut.onDpc); (case hl => rfl))
    | ((with_reducible apply SameBut.step (k := pending_same _ _ _ _)); (case hl => rfl))
    | ((with_reducible apply SameBut.step (k := reject_same _ _ _ _ _)); (case hl => rfl))
    | ((with_reducible apply SameBut.runOp); (case hl => rfl))
    | with_reducible intro _
    | split
    | dsimp only

theorem execDpcStateStream_same (p : Port) (s : State) {t_ : State} (h_ : execDpcStateStream p s = .next t_) : SameBut [.host, .maint, .sys, .subs] s t_ := by
  unfold execDpcStateStream at h_
  injection h_ with h_
  subst h_
  repeat' first
    | (extract_lets +onlyGivenNames u_; first | (apply SameBut.gen (u := u_); (on_goal 1 => (dsimp -zeta -zetaHave only [u_]; clear u_)); (on_goal 2 => (clear_value u_; revert u_; intros))) | (clear_value u_; revert u_; intros) | (revert u_; intros))
    | with_reducible assumption
    | with_reducible apply SameBut.refl
    | ((with_reducible apply SameBut.step (k := ok_same _ _ _ _ _)); (case hl => rfl))
    | ((with_reducible apply SameBut.step (k := subscribe_same _ _ _ _ _ _)); (case hl => rfl))
    | ((with_reducible apply SameBut.runOp); (case hl => rfl))
    | with_reducible intro _
    | split
    | dsimp only

theorem execDpcStatus_same (p : Port) (s : State) {t_ : State} (h_ : execDpcStatus p s = .next t_) : SameBut [.host, .maint, .sys] s t_ := by
  unfold execDpcStatus at h_
  injection h_ with h_
  subst h_
  repeat' first
    | (extract_lets +onlyGivenNames u_; first | (apply SameBut.gen (u := u_); (on_goal 1 => (dsimp -zeta -zetaHave only [u_]; clear u_)); (on_goal 2 => (clear_value u_; revert u_; intros))) | (clear_value u_; revert u_; intros) | (revert u_; intros))
    | with_reducible assumption
    | with_reducible apply SameBut.refl
    | ((with_reducible apply SameBut.step (k := ok_same _ _ _ _ _)); (case hl => rfl))
    | ((with_reducible apply SameBut.runOp); (case hl => rfl))
    | with_reducible intro _
    | split
    | dsimp only

theorem execDpcTrackControl_same (p : Port) (s : State) {t_ : State} (h_ : execDpcTrackControl p s = .next t_) : SameBut [.host, .maint, .sys, .dpc] s t_ := by
  unfold execDpcTrackControl at h_
  injection h_ with h_
  subst h_
  repeat' first
    | (extract_lets +onlyGivenNames u_; first | (apply SameBut.gen (u := u_); (on_goal 1 => (dsimp -zeta -zetaHave only [u_]; clear u_)); (on_goal 2 => (clear_value u_; revert u_; intros))) | (clear_value u_; revert u_; intros) | (revert u_; intros))
    | with_reducible assumption
    | with_reducible apply SameBut.refl
    | ((with_reducible apply SameBut.onDpc); (case hl => rfl))
    | ((with_reducible apply SameBut.step (k := badValue_same _ _ _ _)); (case hl => rfl))
    | ((with_reducible apply SameBut.step (k := ok_same _ _ _ _ _)); (case hl => rfl))
    | ((with_reducible apply SameBut.step (k := reject_same _ _ _ _ _)); (case hl => rfl))
    | ((with_reducible apply SameBut.runOp); (case hl => rfl))
    | with_reducible intro _
    | split
    | dsimp only

theorem execJoystickTimeout_same (s : State) {t_ : State} (h_ : execJoystickTimeout s = .next t_) : SameBut [.host, .maint, .ev, .time, .dpc, .log] s t_ := by
  unfold execJoystickTimeout at h_
  injection h_ with h_
  subst h_
  repeat' first
    | (extract_lets +onlyGivenNames u_; first | (apply SameBut.gen (u := u_); (on_goal 1 => (dsimp -zeta -zetaHave only [u_]; clear u_)); (on_goal 2 => (clear_value u_; revert u_; intros))) | (clear_value u_; revert u_; intros) | (revert u_; intros))
    | with_reducible assumption
    | with_reducible apply SameBut.refl
    | ((with_reducible apply SameBut.onDpc); (case hl => rfl))
    | ((with_reducible apply SameBut.step (k := advanceTo_same _ _)); (case hl => rfl))
    | ((with_reducible apply SameBut.step (k := raise_same _ _ _)); (case hl => rfl))
    | split
    | dsimp only

theorem execMpcLate_same (s : State) {t_ : State} (h_ : execMpcLate s = .next t_) : SameBut [.host, .maint, .ev, .time, .solv, .dpc, .log, .free] s t_ := by
  unfold execMpcLate at h_
  injection h_ with h_
  subst h_
  repeat' first
    | (extract_lets +onlyGivenNames u_; first | (apply SameBut.gen (u := u_); (on_goal 1 => (dsimp -zeta -zetaHave only [u_]; clear u_)); (on_goal 2 => (clear_value u_; revert u_; intros))) | (clear_value u_; revert u_; intros) | (revert u_; intros))
    | with_reducible assumption
    | with_reducible apply SameBut.refl
    | ((with_reducible apply SameBut.step (k := advanceTo_same _ _)); (case hl => rfl))
    | ((with_reducible apply SameBut.step (k := cancelDp_same _ _)); (case hl => rfl))
    | ((with_reducible apply SameBut.step (k := mpcFall_same _ _)); (case hl => rfl))
    | split
    | dsimp only

theorem execMpcResultCommit_same (s : State) {t_ : State} (h_ : execMpcResultCommit s = .next t_) : SameBut [.host, .maint, .ev, .dpc, .log] s t_ := by
  unfold execMpcResultCommit at h_
  injection h_ with h_
  subst h_
  repeat' first
    | (extract_lets +onlyGivenNames u_; first | (apply SameBut.gen (u := u_); (on_goal 1 => (dsimp -zeta -zetaHave only [u_]; clear u_)); (on_goal 2 => (clear_value u_; revert u_; intros))) | (clear_value u_; revert u_; intros) | (revert u_; intros))
    | with_reducible assumption
    | with_reducible apply SameBut.refl
    | ((with_reducible apply SameBut.onDpc); (case hl => rfl))
    | ((with_reducible apply SameBut.step (k := raise_same _ _ _)); (case hl => rfl))
    | split
    | dsimp only

theorem setAvail_same (v : Vector (Option Nat) 4) (s : State) : SameBut [.host, .maint, .ev, .dpc, .alloc, .log] s (setAvail v s) := by
  unfold setAvail
  repeat' first
    | (extract_lets +onlyGivenNames u_; first | (apply SameBut.gen (u := u_); (on_goal 1 => (dsimp -zeta -zetaHave only [u_]; clear u_)); (on_goal 2 => (clear_value u_; revert u_; intros))) | (clear_value u_; revert u_; intros) | (revert u_; intros))
    | with_reducible assumption
    | with_reducible apply SameBut.refl
    | ((with_reducible apply SameBut.onAlloc); (case hl => rfl))
    | ((with_reducible apply SameBut.onDpc); (case hl => rfl))
    | ((with_reducible apply SameBut.step (k := detectCause_same _ _ _)); (case hl => rfl))
    | with_reducible apply SameBut.foldl
    | with_reducible intro _
    | split
    | dsimp only

theorem execPmsFrame_same (data : List Byte) (s : State) {t_ : State} (h_ : execPmsFrame data s = .next t_) : SameBut [.host, .maint, .ev, .dpc, .alloc, .log] s t_ := by
  unfold execPmsFrame at h_
  injection h_ with h_
  subst h_
  repeat' first
    | (extract_lets +onlyGivenNames u_; first | (apply SameBut.gen (u := u_); (on_goal 1 => (dsimp -zeta -zetaHave only [u_]; clear u_)); (on_goal 2 => (clear_value u_; revert u_; intros))) | (clear_value u_; revert u_; intros) | (revert u_; intros))
    | with_reducible assumption
    | with_reducible apply SameBut.refl
    | ((with_reducible apply SameBut.onDpc); (case hl => rfl))
    | ((with_reducible apply SameBut.step (k := raise_same _ _ _)); (case hl => rfl))
    | ((with_reducible apply SameBut.step (k := setAvail_same _ _)); (case hl => rfl))
    | split
    | dsimp only

theorem execPmsTimeout_same (s : State) {t_ : State} (h_ : execPmsTimeout s = .next t_) : SameBut [.host, .maint, .ev, .time, .dpc, .alloc, .log] s t_ := by
  unfold execPmsTimeout at h_
  injection h_ with h_
  subst h_
  repeat' first
    | (extract_lets +onlyGivenNames u_; first | (apply SameBut.gen (u := u_); (on_goal 1 => (dsimp -zeta -zetaHave only [u_]; clear u_)); (on_goal 2 => (clear_value u_; revert u_; intros))) | (clear_value u_; revert u_; intros) | (revert u_; intros))
    | with_reducible assumption
    | with_reducible apply SameBut.refl
    | ((with_reducible apply SameBut.onDpc); (case hl => rfl))
    | ((with_reducible apply SameBut.step (k := advanceTo_same _ _)); (case hl => rfl))
    | ((with_reducible apply SameBut.step (k := raise_same _ _ _)); (case hl => rfl))
    | ((with_reducible apply SameBut.step (k := setAvail_same _ _)); (case hl => rfl))
    | split
    | dsimp only

theorem fadeStep_same (s : State) : SameBut [.dpc] s (fadeStep s) := by
  unfold fadeStep
  repeat' first
    | (extract_lets +onlyGivenNames u_; first | (apply SameBut.gen (u := u_); (on_goal 1 => (dsimp -zeta -zetaHave only [u_]; clear u_)); (on_goal 2 => (clear_value u_; revert u_; intros))) | (clear_value u_; revert u_; intros) | (revert u_; intros))
    | with_reducible assumption
    | with_reducible apply SameBut.refl
    | ((with_reducible apply SameBut.onDpc); (case hl => rfl))
    | split
    | dsimp only

theorem joyStep_same (s : State) : SameBut [.host, .maint, .ev, .dpc, .log] s (joyStep s) := by
  unfold joyStep
  repeat' first
    | (extract_lets +onlyGivenNames u_; first | (apply SameBut.gen (u := u_); (on_goal 1 => (dsimp -zeta -zetaHave only [u_]; clear u_)); (on_goal 2 => (clear_value u_; revert u_; intros))) | (clear_value u_; revert u_; intros) | (revert u_; intros))
    | with_reducible assumption
    | with_reducible apply SameBut.refl
    | ((with_reducible apply SameBut.onDpc); (case hl => rfl))
    | ((with_reducible apply SameBut.step (k := raise_same _ _ _)); (case hl => rfl))
    | split
    | dsimp only

theorem moveRef_same (fuel t : Nat) (s : State) : SameBut [.host, .maint, .ev, .dpc, .cfg, .log] s (moveRef fuel t s) := by
  induction fuel generalizing t s with
  | zero => exact SameBut.refl _ _
  | succ n ih =>
    unfold moveRef
    repeat' first
      | (extract_lets +onlyGivenNames u_; first | (apply SameBut.gen (u := u_); (on_goal 1 => (dsimp -zeta -zetaHave only [u_]; clear u_)); (on_goal 2 => (clear_value u_; revert u_; intros))) | (clear_value u_; revert u_; intros) | (revert u_; intros))
      | with_reducible assumption
      | with_reducible apply SameBut.refl
      | ((with_reducible apply SameBut.onDpc); (case hl => rfl))
      | ((with_reducible apply SameBut.step (k := turnTo_same _ _)); (case hl => rfl))
      | ((with_reducible apply SameBut.step (k := enterLeg_same _ _ _)); (case hl => rfl))
      | (with_reducible apply SameBut.trans (k := ih _ _))
      | split

theorem mpcSubmit_same (s : State) : SameBut [.host, .maint, .ev, .solv, .dpc, .log, .free] s (mpcSubmit s) := by
  unfold mpcSubmit
  repeat' first
    | (extract_lets +onlyGivenNames u_; first | (apply SameBut.gen (u := u_); (on_goal 1 => (dsimp -zeta -zetaHave only [u_]; clear u_)); (on_goal 2 => (clear_value u_; revert u_; intros))) | (clear_value u_; revert u_; intros) | (revert u_; intros))
    | with_reducible assumption
    | with_reducible apply SameBut.refl
    | ((with_reducible apply SameBut.onDpc); (case hl => rfl))
    | ((with_reducible apply SameBut.step (k := cancelDp_same _ _)); (case hl => rfl))
    | ((with_reducible apply SameBut.step (k := mpcFall_same _ _)); (case hl => rfl))
    | ((with_reducible apply SameBut.step (k := submitDp_same _ _)); (case hl => rfl))
    | split
    | dsimp only

theorem supervise_same (s : State) : SameBut [.dpc] s (supervise s) := by
  unfold supervise
  repeat' first
    | (extract_lets +onlyGivenNames u_; first | (apply SameBut.gen (u := u_); (on_goal 1 => (dsimp -zeta -zetaHave only [u_]; clear u_)); (on_goal 2 => (clear_value u_; revert u_; intros))) | (clear_value u_; revert u_; intros) | (revert u_; intros))
    | with_reducible assumption
    | with_reducible apply SameBut.refl
    | ((with_reducible apply SameBut.onDpc); (case hl => rfl))
    | split
    | dsimp only

theorem takeTargets_same (s : State) : SameBut [.host, .maint, .ev, .sys, .dpc, .cfg, .log] s (takeTargets s) := by
  unfold takeTargets
  repeat' first
    | (extract_lets +onlyGivenNames u_; first | (apply SameBut.gen (u := u_); (on_goal 1 => (dsimp -zeta -zetaHave only [u_]; clear u_)); (on_goal 2 => (clear_value u_; revert u_; intros))) | (clear_value u_; revert u_; intros) | (revert u_; intros))
    | with_reducible assumption
    | with_reducible apply SameBut.refl
    | ((with_reducible apply SameBut.onDpc); (case hl => rfl))
    | ((with_reducible apply SameBut.step (k := commit_same _ _ _)); (case hl => rfl))
    | ((with_reducible apply SameBut.step (k := enterMove_same _ _ _ _ _ _)); (case hl => rfl))
    | ((with_reducible apply SameBut.fst_ (k := enterMove_same _ _ _ _ _ _) (by assumption)); (case hl => rfl))
    | ((with_reducible apply SameBut.step (k := finish_same _ _ _ _ _ _ _)); (case hl => rfl))
    | with_reducible apply SameBut.foldl
    | with_reducible intro _
    | split
    | dsimp only

theorem trackAct_same (act wp : Nat) (s : State) : SameBut [.host, .maint, .ev, .dpc, .cfg, .log] s (trackAct act wp s) := by
  unfold trackAct
  repeat' first
    | (extract_lets +onlyGivenNames u_; first | (apply SameBut.gen (u := u_); (on_goal 1 => (dsimp -zeta -zetaHave only [u_]; clear u_)); (on_goal 2 => (clear_value u_; revert u_; intros))) | (clear_value u_; revert u_; intros) | (revert u_; intros))
    | with_reducible assumption
    | with_reducible apply SameBut.refl
    | ((with_reducible apply SameBut.onDpc); (case hl => rfl))
    | ((with_reducible apply SameBut.step (k := approach_same _ _)); (case hl => rfl))
    | ((with_reducible apply SameBut.step (k := restAll_same _)); (case hl => rfl))
    | ((with_reducible apply SameBut.step (k := runLeg_same _ _)); (case hl => rfl))
    | ((with_reducible apply SameBut.step (k := turnTo_same _ _)); (case hl => rfl))
    | split
    | dsimp only

theorem trackOn_same (s : State) : SameBut [.host, .maint, .ev, .dpc, .cfg, .log] s (trackOn s) := by
  unfold trackOn
  repeat' first
    | (extract_lets +onlyGivenNames u_; first | (apply SameBut.gen (u := u_); (on_goal 1 => (dsimp -zeta -zetaHave only [u_]; clear u_)); (on_goal 2 => (clear_value u_; revert u_; intros))) | (clear_value u_; revert u_; intros) | (revert u_; intros))
    | with_reducible assumption
    | with_reducible apply SameBut.refl
    | ((with_reducible apply SameBut.step (k := atStop_same _ _)); (case hl => rfl))
    | ((with_reducible apply SameBut.step (k := enterLeg_same _ _ _)); (case hl => rfl))
    | split
    | dsimp only

theorem execPositionControlStep_same (s : State) {t_ : State} (h_ : execPositionControlStep s = .next t_) : SameBut [.host, .maint, .ev, .sys, .time, .solv, .dpc, .cfg, .log, .free] s t_ := by
  unfold execPositionControlStep at h_
  injection h_ with h_
  subst h_
  repeat' first
    | (extract_lets +onlyGivenNames u_; first | (apply SameBut.gen (u := u_); (on_goal 1 => (dsimp -zeta -zetaHave only [u_]; clear u_)); (on_goal 2 => (clear_value u_; revert u_; intros))) | (clear_value u_; revert u_; intros) | (revert u_; intros))
    | with_reducible assumption
    | with_reducible apply SameBut.refl
    | ((with_reducible apply SameBut.onDpc); (case hl => rfl))
    | ((with_reducible apply SameBut.step (k := computeTau_same _)); (case hl => rfl))
    | ((with_reducible apply SameBut.step (k := fadeStep_same _)); (case hl => rfl))
    | ((with_reducible apply SameBut.step (k := joyStep_same _)); (case hl => rfl))
    | ((with_reducible apply SameBut.step (k := moveRef_same _ _ _)); (case hl => rfl))
    | ((with_reducible apply SameBut.step (k := mpcSubmit_same _)); (case hl => rfl))
    | ((with_reducible apply SameBut.step (k := stepAt_same _ _)); (case hl => rfl))
    | ((with_reducible apply SameBut.step (k := stream_same _ _ _ _)); (case hl => rfl))
    | ((with_reducible apply SameBut.step (k := supervise_same _)); (case hl => rfl))
    | ((with_reducible apply SameBut.step (k := takeTargets_same _)); (case hl => rfl))
    | ((with_reducible apply SameBut.step (k := trackAct_same _ _ _)); (case hl => rfl))
    | ((with_reducible apply SameBut.step (k := trackOn_same _)); (case hl => rfl))
    | split
    | dsimp only

theorem execTargetReached_same (s : State) {t_ : State} (h_ : execTargetReached s = .next t_) : SameBut [.host, .maint, .ev, .dpc, .log] s t_ := by
  unfold execTargetReached at h_
  injection h_ with h_
  subst h_
  repeat' first
    | (extract_lets +onlyGivenNames u_; first | (apply SameBut.gen (u := u_); (on_goal 1 => (dsimp -zeta -zetaHave only [u_]; clear u_)); (on_goal 2 => (clear_value u_; revert u_; intros))) | (clear_value u_; revert u_; intros) | (revert u_; intros))
    | with_reducible assumption
    | with_reducible apply SameBut.refl
    | ((with_reducible apply SameBut.onDpc); (case hl => rfl))
    | ((with_reducible apply SameBut.step (k := raise_same _ _ _)); (case hl => rfl))
    | split
    | dsimp only

end Sys2Proof.Machine
end

