-- ==== Sys2Proof/Laws/FrameDuplex.lean ====
section
/-! SUPPORT. What each operation of Machine/Duplex.lean leaves alone: every part of the state but those listed. -/

namespace Sys2Proof.Machine

set_option linter.all false

theorem execFwd_same (f : FwdCmd) (s : State) : SameBut [.host, .maint, .ev, .sys, .cfg, .log] s (execFwd f s) := by
  unfold execFwd
  repeat' first
    | (extract_lets +onlyGivenNames u_; first | (apply SameBut.gen (u := u_); (on_goal 1 => (dsimp -zeta -zetaHave only [u_]; clear u_)); (on_goal 2 => (clear_value u_; revert u_; intros))) | (clear_value u_; revert u_; intros) | (revert u_; intros))
    | with_reducible assumption
    | with_reducible apply SameBut.refl
    | ((with_reducible apply SameBut.onLog); (case hl => rfl))
    | ((with_reducible apply SameBut.step (k := failCommit_same _ _ _ _ _)); (case hl => rfl))
    | ((with_reducible apply SameBut.step (k := setConfig_same _ _ _ _ _ _ _)); (case hl => rfl))
    | ((with_reducible apply SameBut.step (k := startCommit_same _ _ _ _)); (case hl => rfl))
    | split
    | dsimp only

theorem applyMirror_same (f : MirrorFrame) (s : State) : SameBut [.host, .maint, .ev, .sys, .dpc, .alloc, .loop, .dpx, .cfg, .log] s (applyMirror f s) := by
  unfold applyMirror
  repeat' first
    | (extract_lets +onlyGivenNames u_; first | (apply SameBut.gen (u := u_); (on_goal 1 => (dsimp -zeta -zetaHave only [u_]; clear u_)); (on_goal 2 => (clear_value u_; revert u_; intros))) | (clear_value u_; revert u_; intros) | (revert u_; intros))
    | with_reducible assumption
    | with_reducible apply SameBut.refl
    | ((with_reducible apply SameBut.onAlloc); (case hl => rfl))
    | ((with_reducible apply SameBut.onDpc); (case hl => rfl))
    | ((with_reducible apply SameBut.onDpx); (case hl => rfl))
    | ((with_reducible apply SameBut.onLoop); (case hl => rfl))
    | ((with_reducible apply SameBut.step (k := execFwd_same _ _)); (case hl => rfl))
    | with_reducible apply SameBut.foldl
    | with_reducible intro _
    | split
    | dsimp only

theorem beginTransfer_same (cause : Nat) (s : State) : SameBut [.dpx] s (beginTransfer cause s) := by
  unfold beginTransfer
  repeat' first
    | (extract_lets +onlyGivenNames u_; first | (apply SameBut.gen (u := u_); (on_goal 1 => (dsimp -zeta -zetaHave only [u_]; clear u_)); (on_goal 2 => (clear_value u_; revert u_; intros))) | (clear_value u_; revert u_; intros) | (revert u_; intros))
    | with_reducible assumption
    | with_reducible apply SameBut.refl
    | ((with_reducible apply SameBut.onDpx); (case hl => rfl))
    | split
    | dsimp only

theorem mirrorBoundary_same (s : State) : SameBut [.host, .maint, .ev, .sys, .dpc, .alloc, .loop, .dpx, .cfg, .log] s (mirrorBoundary s) := by
  unfold mirrorBoundary
  repeat' first
    | (extract_lets +onlyGivenNames u_; first | (apply SameBut.gen (u := u_); (on_goal 1 => (dsimp -zeta -zetaHave only [u_]; clear u_)); (on_goal 2 => (clear_value u_; revert u_; intros))) | (clear_value u_; revert u_; intros) | (revert u_; intros))
    | with_reducible assumption
    | with_reducible apply SameBut.refl
    | ((with_reducible apply SameBut.onDpx); (case hl => rfl))
    | ((with_reducible apply SameBut.step (k := applyMirror_same _ _)); (case hl => rfl))
    | ((with_reducible apply SameBut.step (k := raise_same _ _ _)); (case hl => rfl))
    | split
    | dsimp only

theorem reclaimStop_same (s : State) : SameBut [.host, .maint, .ev, .dpx, .log] s (reclaimStop s) := by
  unfold reclaimStop
  repeat' first
    | (extract_lets +onlyGivenNames u_; first | (apply SameBut.gen (u := u_); (on_goal 1 => (dsimp -zeta -zetaHave only [u_]; clear u_)); (on_goal 2 => (clear_value u_; revert u_; intros))) | (clear_value u_; revert u_; intros) | (revert u_; intros))
    | with_reducible assumption
    | with_reducible apply SameBut.refl
    | ((with_reducible apply SameBut.onDpx); (case hl => rfl))
    | ((with_reducible apply SameBut.step (k := raise_same _ _ _)); (case hl => rfl))
    | split
    | dsimp only

theorem reclaimLook_same (s : State) : SameBut [.host, .maint, .ev, .dpx, .log] s (reclaimLook s) := by
  unfold reclaimLook
  repeat' first
    | (extract_lets +onlyGivenNames u_; first | (apply SameBut.gen (u := u_); (on_goal 1 => (dsimp -zeta -zetaHave only [u_]; clear u_)); (on_goal 2 => (clear_value u_; revert u_; intros))) | (clear_value u_; revert u_; intros) | (revert u_; intros))
    | with_reducible assumption
    | with_reducible apply SameBut.refl
    | ((with_reducible apply SameBut.onDpx); (case hl => rfl))
    | ((with_reducible apply SameBut.step (k := raise_same _ _ _)); (case hl => rfl))
    | ((with_reducible apply SameBut.step (k := reclaimStop_same _)); (case hl => rfl))
    | split
    | dsimp only

theorem partnerLook_same (s : State) : SameBut [.host, .maint, .ev, .dpx, .log] s (partnerLook s) := by
  unfold partnerLook
  repeat' first
    | (extract_lets +onlyGivenNames u_; first | (apply SameBut.gen (u := u_); (on_goal 1 => (dsimp -zeta -zetaHave only [u_]; clear u_)); (on_goal 2 => (clear_value u_; revert u_; intros))) | (clear_value u_; revert u_; intros) | (revert u_; intros))
    | with_reducible assumption
    | with_reducible apply SameBut.refl
    | ((with_reducible apply SameBut.onDpx); (case hl => rfl))
    | ((with_reducible apply SameBut.step (k := raise_same _ _ _)); (case hl => rfl))
    | ((with_reducible apply SameBut.step (k := reclaimLook_same _)); (case hl => rfl))
    | split
    | dsimp only

theorem duplexBoundary_same (s : State) : SameBut [.host, .maint, .ev, .sys, .mode, .solv, .dpc, .alloc, .loop, .kiln, .dpx, .can, .cfg, .log, .free] s (duplexBoundary s) := by
  unfold duplexBoundary
  repeat' first
    | (extract_lets +onlyGivenNames u_; first | (apply SameBut.gen (u := u_); (on_goal 1 => (dsimp -zeta -zetaHave only [u_]; clear u_)); (on_goal 2 => (clear_value u_; revert u_; intros))) | (clear_value u_; revert u_; intros) | (revert u_; intros))
    | with_reducible assumption
    | with_reducible apply SameBut.refl
    | ((with_reducible apply SameBut.onDpx); (case hl => rfl))
    | ((with_reducible apply SameBut.step (k := cancelModeCmd_same _ _)); (case hl => rfl))
    | ((with_reducible apply SameBut.step (k := mirrorBoundary_same _)); (case hl => rfl))
    | ((with_reducible apply SameBut.step (k := partnerLook_same _)); (case hl => rfl))
    | ((with_reducible apply SameBut.step (k := setMode_same _ _ _ _ _)); (case hl => rfl))
    | split
    | dsimp only

theorem execDpxConfig_same (p : Port) (s : State) {t_ : State} (h_ : execDpxConfig p s = .next t_) : SameBut [.host, .maint, .ev, .sys, .dpx, .cfg, .log] s t_ := by
  unfold execDpxConfig at h_
  injection h_ with h_
  subst h_
  repeat' first
    | (extract_lets +onlyGivenNames u_; first | (apply SameBut.gen (u := u_); (on_goal 1 => (dsimp -zeta -zetaHave only [u_]; clear u_)); (on_goal 2 => (clear_value u_; revert u_; intros))) | (clear_value u_; revert u_; intros) | (revert u_; intros))
    | with_reducible assumption
    | with_reducible apply SameBut.refl
    | ((with_reducible apply SameBut.step (k := configRow_same _ _ _ _)); (case hl => rfl))
    | split
    | dsimp only

theorem execDpxHostDataRead_same (p : Port) (s : State) {t_ : State} (h_ : execDpxHostDataRead p s = .next t_) : SameBut [.host, .maint, .sys] s t_ := by
  unfold execDpxHostDataRead at h_
  injection h_ with h_
  subst h_
  repeat' first
    | (extract_lets +onlyGivenNames u_; first | (apply SameBut.gen (u := u_); (on_goal 1 => (dsimp -zeta -zetaHave only [u_]; clear u_)); (on_goal 2 => (clear_value u_; revert u_; intros))) | (clear_value u_; revert u_; intros) | (revert u_; intros))
    | with_reducible assumption
    | with_reducible apply SameBut.refl
    | ((with_reducible apply SameBut.step (k := ok_same _ _ _ _ _)); (case hl => rfl))
    | ((with_reducible apply SameBut.step (k := reject_same _ _ _ _ _)); (case hl => rfl))
    | ((with_reducible apply SameBut.runOp); (case hl => rfl))
    | with_reducible intro _
    | split
    | dsimp only

theorem execDpxHostDataWrite_same (p : Port) (s : State) {t_ : State} (h_ : execDpxHostDataWrite p s = .next t_) : SameBut [.host, .maint, .sys, .dpx] s t_ := by
  unfold execDpxHostDataWrite at h_
  injection h_ with h_
  subst h_
  repeat' first
    | (extract_lets +onlyGivenNames u_; first | (apply SameBut.gen (u := u_); (on_goal 1 => (dsimp -zeta -zetaHave only [u_]; clear u_)); (on_goal 2 => (clear_value u_; revert u_; intros))) | (clear_value u_; revert u_; intros) | (revert u_; intros))
    | with_reducible assumption
    | with_reducible apply SameBut.refl
    | ((with_reducible apply SameBut.onDpx); (case hl => rfl))
    | ((with_reducible apply SameBut.step (k := ok_same _ _ _ _ _)); (case hl => rfl))
    | ((with_reducible apply SameBut.step (k := reject_same _ _ _ _ _)); (case hl => rfl))
    | ((with_reducible apply SameBut.runOp); (case hl => rfl))
    | with_reducible intro _
    | split
    | dsimp only

theorem execDpxStatus_same (p : Port) (s : State) {t_ : State} (h_ : execDpxStatus p s = .next t_) : SameBut [.host, .maint, .sys] s t_ := by
  unfold execDpxStatus at h_
  injection h_ with h_
  subst h_
  repeat' first
    | (extract_lets +onlyGivenNames u_; first | (apply SameBut.gen (u := u_); (on_goal 1 => (dsimp -zeta -zetaHave only [u_]; clear u_)); (on_goal 2 => (clear_value u_; revert u_; intros))) | (clear_value u_; revert u_; intros) | (revert u_; intros))
    | with_reducible assumption
    | with_reducible apply SameBut.refl
    | ((with_reducible apply SameBut.step (k := ok_same _ _ _ _ _)); (case hl => rfl))
    | ((with_reducible apply SameBut.runOp); (case hl => rfl))
    | with_reducible intro _
    | split
    | dsimp only

theorem execDpxTransfer_same (p : Port) (s : State) {t_ : State} (h_ : execDpxTransfer p s = .next t_) : SameBut [.host, .maint, .sys, .dpx] s t_ := by
  unfold execDpxTransfer at h_
  injection h_ with h_
  subst h_
  repeat' first
    | (extract_lets +onlyGivenNames u_; first | (apply SameBut.gen (u := u_); (on_goal 1 => (dsimp -zeta -zetaHave only [u_]; clear u_)); (on_goal 2 => (clear_value u_; revert u_; intros))) | (clear_value u_; revert u_; intros) | (revert u_; intros))
    | with_reducible assumption
    | with_reducible apply SameBut.refl
    | ((with_reducible apply SameBut.onDpx); (case hl => rfl))
    | ((with_reducible apply SameBut.step (k := finish_same _ _ _ _ _ _ _)); (case hl => rfl))
    | ((with_reducible apply SameBut.step (k := pending_same _ _ _ _)); (case hl => rfl))
    | ((with_reducible apply SameBut.step (k := reject_same _ _ _ _ _)); (case hl => rfl))
    | ((with_reducible apply SameBut.runOp); (case hl => rfl))
    | with_reducible intro _
    | split
    | dsimp only

theorem ownership_same (taken : Bool) (cause : Nat) (s : State) : SameBut [.host, .maint, .ev, .log] s (ownership taken cause s) := by
  unfold ownership
  repeat' first
    | (extract_lets +onlyGivenNames u_; first | (apply SameBut.gen (u := u_); (on_goal 1 => (dsimp -zeta -zetaHave only [u_]; clear u_)); (on_goal 2 => (clear_value u_; revert u_; intros))) | (clear_value u_; revert u_; intros) | (revert u_; intros))
    | with_reducible assumption
    | with_reducible apply SameBut.refl
    | ((with_reducible apply SameBut.step (k := raise_same _ _ _)); (case hl => rfl))
    | split
    | dsimp only

theorem releaseOwnership_same (target : Mode) (cause : Nat) (s : State) : SameBut [.host, .maint, .ev, .sys, .mode, .time, .solv, .dpc, .alloc, .loop, .kiln, .dpx, .can, .cfg, .log, .free] s (releaseOwnership target cause s) := by
  unfold releaseOwnership
  repeat' first
    | (extract_lets +onlyGivenNames u_; first | (apply SameBut.gen (u := u_); (on_goal 1 => (dsimp -zeta -zetaHave only [u_]; clear u_)); (on_goal 2 => (clear_value u_; revert u_; intros))) | (clear_value u_; revert u_; intros) | (revert u_; intros))
    | with_reducible assumption
    | with_reducible apply SameBut.refl
    | ((with_reducible apply SameBut.onDpx); (case hl => rfl))
    | ((with_reducible apply SameBut.onSys); (case hl => rfl))
    | ((with_reducible apply SameBut.step (k := canOwnerChange_same _)); (case hl => rfl))
    | ((with_reducible apply SameBut.step (k := canRelease_same _)); (case hl => rfl))
    | ((with_reducible apply SameBut.step (k := finish_same _ _ _ _ _ _ _)); (case hl => rfl))
    | ((with_reducible apply SameBut.step (k := loseCommands_same _)); (case hl => rfl))
    | ((with_reducible apply SameBut.step (k := ownership_same _ _ _)); (case hl => rfl))
    | ((with_reducible apply SameBut.step (k := setMode_same _ _ _ _ _)); (case hl => rfl))
    | split
    | dsimp only

theorem execDualOwnership_same (s : State) {t_ : State} (h_ : execDualOwnership s = .next t_) : SameBut [.host, .maint, .ev, .sys, .mode, .time, .solv, .dpc, .alloc, .loop, .kiln, .dpx, .can, .cfg, .log, .free] s t_ := by
  unfold execDualOwnership at h_
  injection h_ with h_
  subst h_
  repeat' first
    | (extract_lets +onlyGivenNames u_; first | (apply SameBut.gen (u := u_); (on_goal 1 => (dsimp -zeta -zetaHave only [u_]; clear u_)); (on_goal 2 => (clear_value u_; revert u_; intros))) | (clear_value u_; revert u_; intros) | (revert u_; intros))
    | with_reducible assumption
    | with_reducible apply SameBut.refl
    | ((with_reducible apply SameBut.onDpx); (case hl => rfl))
    | ((with_reducible apply SameBut.step (k := advanceTo_same _ _)); (case hl => rfl))
    | ((with_reducible apply SameBut.step (k := ownership_same _ _ _)); (case hl => rfl))
    | ((with_reducible apply SameBut.step (k := releaseOwnership_same _ _ _)); (case hl => rfl))
    | split
    | dsimp only

theorem execGiveupInRise_same (s : State) {t_ : State} (h_ : execGiveupInRise s = .next t_) : SameBut [.host, .maint, .ev, .sys, .dpx, .log] s t_ := by
  unfold execGiveupInRise at h_
  injection h_ with h_
  subst h_
  repeat' first
    | (extract_lets +onlyGivenNames u_; first | (apply SameBut.gen (u := u_); (on_goal 1 => (dsimp -zeta -zetaHave only [u_]; clear u_)); (on_goal 2 => (clear_value u_; revert u_; intros))) | (clear_value u_; revert u_; intros) | (revert u_; intros))
    | with_reducible assumption
    | with_reducible apply SameBut.refl
    | ((with_reducible apply SameBut.onDpx); (case hl => rfl))
    | ((with_reducible apply SameBut.step (k := cancelModeCmd_same _ _)); (case hl => rfl))
    | ((with_reducible apply SameBut.step (k := wakeTrigger_same _ _)); (case hl => rfl))
    | split
    | dsimp only

theorem execGiveupTimeout_same (s : State) {t_ : State} (h_ : execGiveupTimeout s = .next t_) : SameBut [.host, .maint, .ev, .sys, .time, .dpx, .log] s t_ := by
  unfold execGiveupTimeout at h_
  injection h_ with h_
  subst h_
  repeat' first
    | (extract_lets +onlyGivenNames u_; first | (apply SameBut.gen (u := u_); (on_goal 1 => (dsimp -zeta -zetaHave only [u_]; clear u_)); (on_goal 2 => (clear_value u_; revert u_; intros))) | (clear_value u_; revert u_; intros) | (revert u_; intros))
    | with_reducible assumption
    | with_reducible apply SameBut.refl
    | ((with_reducible apply SameBut.onDpx); (case hl => rfl))
    | ((with_reducible apply SameBut.onSysMode); (case hl => rfl))
    | (show ∀ _ : SysState, _ ∧ _; intros; repeat' first | exact ⟨rfl, rfl⟩ | split | dsimp only)
    | ((with_reducible apply SameBut.step (k := advanceTo_same _ _)); (case hl => rfl))
    | ((with_reducible apply SameBut.step (k := ownTransition_same _ _ _ _)); (case hl => rfl))
    | ((with_reducible apply SameBut.step (k := raise_same _ _ _)); (case hl => rfl))
    | split
    | dsimp only

theorem handOver_same (s : State) : SameBut [.sys, .time, .dpx] s (handOver s) := by
  unfold handOver
  repeat' first
    | (extract_lets +onlyGivenNames u_; first | (apply SameBut.gen (u := u_); (on_goal 1 => (dsimp -zeta -zetaHave only [u_]; clear u_)); (on_goal 2 => (clear_value u_; revert u_; intros))) | (clear_value u_; revert u_; intros) | (revert u_; intros))
    | with_reducible assumption
    | with_reducible apply SameBut.refl
    | ((with_reducible apply SameBut.onDpx); (case hl => rfl))
    | ((with_reducible apply SameBut.onSysMode); (case hl => rfl))
    | (show ∀ _ : SysState, _ ∧ _; intros; repeat' first | exact ⟨rfl, rfl⟩ | split | dsimp only)
    | ((with_reducible apply SameBut.step (k := advanceTo_same _ _)); (case hl => rfl))
    | split
    | dsimp only

theorem execHandoverRetry_same (s : State) {t_ : State} (h_ : execHandoverRetry s = .next t_) : SameBut [.sys, .time, .dpx] s t_ := by
  unfold execHandoverRetry at h_
  injection h_ with h_
  subst h_
  repeat' first
    | (extract_lets +onlyGivenNames u_; first | (apply SameBut.gen (u := u_); (on_goal 1 => (dsimp -zeta -zetaHave only [u_]; clear u_)); (on_goal 2 => (clear_value u_; revert u_; intros))) | (clear_value u_; revert u_; intros) | (revert u_; intros))
    | with_reducible assumption
    | with_reducible apply SameBut.refl
    | ((with_reducible apply SameBut.onDpx); (case hl => rfl))
    | ((with_reducible apply SameBut.step (k := advanceTo_same _ _)); (case hl => rfl))
    | ((with_reducible apply SameBut.step (k := handOver_same _)); (case hl => rfl))
    | split
    | dsimp only

theorem execHandoverTimeout_same (s : State) {t_ : State} (h_ : execHandoverTimeout s = .next t_) : SameBut [.sys, .time, .dpx] s t_ := by
  unfold execHandoverTimeout at h_
  injection h_ with h_
  subst h_
  repeat' first
    | (extract_lets +onlyGivenNames u_; first | (apply SameBut.gen (u := u_); (on_goal 1 => (dsimp -zeta -zetaHave only [u_]; clear u_)); (on_goal 2 => (clear_value u_; revert u_; intros))) | (clear_value u_; revert u_; intros) | (revert u_; intros))
    | with_reducible assumption
    | with_reducible apply SameBut.refl
    | ((with_reducible apply SameBut.onDpx); (case hl => rfl))
    | ((with_reducible apply SameBut.onSysMode); (case hl => rfl))
    | (show ∀ _ : SysState, _ ∧ _; intros; repeat' first | exact ⟨rfl, rfl⟩ | split | dsimp only)
    | ((with_reducible apply SameBut.step (k := advanceTo_same _ _)); (case hl => rfl))
    | split
    | dsimp only

theorem execHeartbeatReceive_same (h : Heartbeat) (s : State) {t_ : State} (h_ : execHeartbeatReceive h s = .next t_) : SameBut [.host, .maint, .ev, .sys, .dpx, .log] s t_ := by
  unfold execHeartbeatReceive at h_
  injection h_ with h_
  subst h_
  repeat' first
    | (extract_lets +onlyGivenNames u_; first | (apply SameBut.gen (u := u_); (on_goal 1 => (dsimp -zeta -zetaHave only [u_]; clear u_)); (on_goal 2 => (clear_value u_; revert u_; intros))) | (clear_value u_; revert u_; intros) | (revert u_; intros))
    | with_reducible assumption
    | with_reducible apply SameBut.refl
    | ((with_reducible apply SameBut.onDpx); (case hl => rfl))
    | ((with_reducible apply SameBut.onSysMode); (case hl => rfl))
    | (show ∀ _ : SysState, _ ∧ _; intros; repeat' first | exact ⟨rfl, rfl⟩ | split | dsimp only)
    | ((with_reducible apply SameBut.step (k := beginTransfer_same _ _)); (case hl => rfl))
    | ((with_reducible apply SameBut.step (k := partnerLook_same _)); (case hl => rfl))
    | ((with_reducible apply SameBut.step (k := raise_same _ _ _)); (case hl => rfl))
    | split
    | dsimp only

theorem execHeartbeatSend_same (s : State) {t_ : State} (h_ : execHeartbeatSend s = .next t_) : SameBut [.time, .dpx] s t_ := by
  unfold execHeartbeatSend at h_
  injection h_ with h_
  subst h_
  repeat' first
    | (extract_lets +onlyGivenNames u_; first | (apply SameBut.gen (u := u_); (on_goal 1 => (dsimp -zeta -zetaHave only [u_]; clear u_)); (on_goal 2 => (clear_value u_; revert u_; intros))) | (clear_value u_; revert u_; intros) | (revert u_; intros))
    | with_reducible assumption
    | with_reducible apply SameBut.refl
    | ((with_reducible apply SameBut.onDpx); (case hl => rfl))
    | ((with_reducible apply SameBut.step (k := advanceTo_same _ _)); (case hl => rfl))
    | split
    | dsimp only

theorem execHeartbeatTimeout_same (ownIn : Bool) (s : State) {t_ : State} (h_ : execHeartbeatTimeout ownIn s = .next t_) : SameBut [.host, .maint, .ev, .sys, .time, .dpx, .log] s t_ := by
  unfold execHeartbeatTimeout at h_
  injection h_ with h_
  subst h_
  repeat' first
    | (extract_lets +onlyGivenNames u_; first | (apply SameBut.gen (u := u_); (on_goal 1 => (dsimp -zeta -zetaHave only [u_]; clear u_)); (on_goal 2 => (clear_value u_; revert u_; intros))) | (clear_value u_; revert u_; intros) | (revert u_; intros))
    | with_reducible assumption
    | with_reducible apply SameBut.refl
    | ((with_reducible apply SameBut.onDpx); (case hl => rfl))
    | ((with_reducible apply SameBut.step (k := advanceTo_same _ _)); (case hl => rfl))
    | ((with_reducible apply SameBut.step (k := cancelModeCmd_same _ _)); (case hl => rfl))
    | ((with_reducible apply SameBut.step (k := partnerLook_same _)); (case hl => rfl))
    | split
    | dsimp only

theorem laneTo_same (l : Fin 2) (up : Bool) (s : State) : SameBut [.host, .maint, .ev, .dpx, .log] s (laneTo l up s) := by
  unfold laneTo
  repeat' first
    | (extract_lets +onlyGivenNames u_; first | (apply SameBut.gen (u := u_); (on_goal 1 => (dsimp -zeta -zetaHave only [u_]; clear u_)); (on_goal 2 => (clear_value u_; revert u_; intros))) | (clear_value u_; revert u_; intros) | (revert u_; intros))
    | with_reducible assumption
    | with_reducible apply SameBut.refl
    | ((with_reducible apply SameBut.onDpx); (case hl => rfl))
    | ((with_reducible apply SameBut.step (k := raise_same _ _ _)); (case hl => rfl))
    | split
    | dsimp only

theorem execLaneDown_same (l : Fin 2) (s : State) {t_ : State} (h_ : execLaneDown l s = .next t_) : SameBut [.host, .maint, .ev, .dpx, .log] s t_ := by
  unfold execLaneDown at h_
  injection h_ with h_
  subst h_
  repeat' first
    | (extract_lets +onlyGivenNames u_; first | (apply SameBut.gen (u := u_); (on_goal 1 => (dsimp -zeta -zetaHave only [u_]; clear u_)); (on_goal 2 => (clear_value u_; revert u_; intros))) | (clear_value u_; revert u_; intros) | (revert u_; intros))
    | with_reducible assumption
    | with_reducible apply SameBut.refl
    | ((with_reducible apply SameBut.step (k := laneTo_same _ _ _)); (case hl => rfl))
    | split
    | dsimp only

theorem execLaneUp_same (l : Fin 2) (roundTrip : Nat) (s : State) {t_ : State} (h_ : execLaneUp l roundTrip s = .next t_) : SameBut [.host, .maint, .ev, .dpx, .log] s t_ := by
  unfold execLaneUp at h_
  injection h_ with h_
  subst h_
  repeat' first
    | (extract_lets +onlyGivenNames u_; first | (apply SameBut.gen (u := u_); (on_goal 1 => (dsimp -zeta -zetaHave only [u_]; clear u_)); (on_goal 2 => (clear_value u_; revert u_; intros))) | (clear_value u_; revert u_; intros) | (revert u_; intros))
    | with_reducible assumption
    | with_reducible apply SameBut.refl
    | ((with_reducible apply SameBut.onDpx); (case hl => rfl))
    | ((with_reducible apply SameBut.step (k := laneTo_same _ _ _)); (case hl => rfl))
    | split
    | dsimp only

theorem execMirrorAckReceive_same (frame : Nat) (crcOk : Bool) (s : State) {t_ : State} (h_ : execMirrorAckReceive frame crcOk s = .next t_) : SameBut [.dpx] s t_ := by
  unfold execMirrorAckReceive at h_
  injection h_ with h_
  subst h_
  repeat' first
    | (extract_lets +onlyGivenNames u_; first | (apply SameBut.gen (u := u_); (on_goal 1 => (dsimp -zeta -zetaHave only [u_]; clear u_)); (on_goal 2 => (clear_value u_; revert u_; intros))) | (clear_value u_; revert u_; intros) | (revert u_; intros))
    | with_reducible assumption
    | with_reducible apply SameBut.refl
    | ((with_reducible apply SameBut.onDpx); (case hl => rfl))
    | split
    | dsimp only

theorem execMirrorSegmentReceive_same (g : MirrorSeg) (s : State) {t_ : State} (h_ : execMirrorSegmentReceive g s = .next t_) : SameBut [.host, .maint, .dpx] s t_ := by
  unfold execMirrorSegmentReceive at h_
  injection h_ with h_
  subst h_
  repeat' first
    | (extract_lets +onlyGivenNames u_; first | (apply SameBut.gen (u := u_); (on_goal 1 => (dsimp -zeta -zetaHave only [u_]; clear u_)); (on_goal 2 => (clear_value u_; revert u_; intros))) | (clear_value u_; revert u_; intros) | (revert u_; intros))
    | with_reducible assumption
    | with_reducible apply SameBut.refl
    | ((with_reducible apply SameBut.onDpx); (case hl => rfl))
    | ((with_reducible apply SameBut.step (k := commit_same _ _ _)); (case hl => rfl))
    | split
    | dsimp only

theorem execMirrorSend_same (s : State) {t_ : State} (h_ : execMirrorSend s = .next t_) : SameBut [.host, .maint, .sys, .time, .dpx] s t_ := by
  unfold execMirrorSend at h_
  injection h_ with h_
  subst h_
  repeat' first
    | (extract_lets +onlyGivenNames u_; first | (apply SameBut.gen (u := u_); (on_goal 1 => (dsimp -zeta -zetaHave only [u_]; clear u_)); (on_goal 2 => (clear_value u_; revert u_; intros))) | (clear_value u_; revert u_; intros) | (revert u_; intros))
    | with_reducible assumption
    | with_reducible apply SameBut.refl
    | ((with_reducible apply SameBut.onDpx); (case hl => rfl))
    | ((with_reducible apply SameBut.onSysMode); (case hl => rfl))
    | (show ∀ _ : SysState, _ ∧ _; intros; repeat' first | exact ⟨rfl, rfl⟩ | split | dsimp only)
    | ((with_reducible apply SameBut.step (k := commit_same _ _ _)); (case hl => rfl))
    | ((with_reducible apply SameBut.step (k := stepAt_same _ _)); (case hl => rfl))
    | split
    | dsimp only

theorem execOwnInRise_same (s : State) {t_ : State} (h_ : execOwnInRise s = .next t_) : SameBut [.host, .maint, .ev, .sys, .mode, .time, .solv, .dpc, .alloc, .loop, .kiln, .dpx, .can, .cfg, .log, .free] s t_ := by
  unfold execOwnInRise at h_
  injection h_ with h_
  subst h_
  repeat' first
    | (extract_lets +onlyGivenNames u_; first | (apply SameBut.gen (u := u_); (on_goal 1 => (dsimp -zeta -zetaHave only [u_]; clear u_)); (on_goal 2 => (clear_value u_; revert u_; intros))) | (clear_value u_; revert u_; intros) | (revert u_; intros))
    | with_reducible assumption
    | with_reducible apply SameBut.refl
    | ((with_reducible apply SameBut.onDpx); (case hl => rfl))
    | ((with_reducible apply SameBut.step (k := releaseOwnership_same _ _ _)); (case hl => rfl))
    | ((with_reducible apply SameBut.step (k := wakeTrigger_same _ _)); (case hl => rfl))
    | split
    | dsimp only

theorem execReclaimHoldoffExpiry_same (s : State) {t_ : State} (h_ : execReclaimHoldoffExpiry s = .next t_) : SameBut [.host, .maint, .ev, .time, .dpx, .log] s t_ := by
  unfold execReclaimHoldoffExpiry at h_
  injection h_ with h_
  subst h_
  repeat' first
    | (extract_lets +onlyGivenNames u_; first | (apply SameBut.gen (u := u_); (on_goal 1 => (dsimp -zeta -zetaHave only [u_]; clear u_)); (on_goal 2 => (clear_value u_; revert u_; intros))) | (clear_value u_; revert u_; intros) | (revert u_; intros))
    | with_reducible assumption
    | with_reducible apply SameBut.refl
    | ((with_reducible apply SameBut.onDpx); (case hl => rfl))
    | ((with_reducible apply SameBut.step (k := advanceTo_same _ _)); (case hl => rfl))
    | ((with_reducible apply SameBut.step (k := raise_same _ _ _)); (case hl => rfl))
    | split
    | dsimp only

theorem execSafeHoldHandover_same (s : State) {t_ : State} (h_ : execSafeHoldHandover s = .next t_) : SameBut [.sys, .time, .dpx] s t_ := by
  unfold execSafeHoldHandover at h_
  injection h_ with h_
  subst h_
  repeat' first
    | (extract_lets +onlyGivenNames u_; first | (apply SameBut.gen (u := u_); (on_goal 1 => (dsimp -zeta -zetaHave only [u_]; clear u_)); (on_goal 2 => (clear_value u_; revert u_; intros))) | (clear_value u_; revert u_; intros) | (revert u_; intros))
    | with_reducible assumption
    | with_reducible apply SameBut.refl
    | ((with_reducible apply SameBut.step (k := handOver_same _)); (case hl => rfl))
    | split
    | dsimp only

theorem execSupervisorHeartbeatLoss_same (s : State) {t_ : State} (h_ : execSupervisorHeartbeatLoss s = .next t_) : SameBut [.host, .maint, .ev, .sys, .time, .dpx, .log] s t_ := by
  unfold execSupervisorHeartbeatLoss at h_
  injection h_ with h_
  subst h_
  repeat' first
    | (extract_lets +onlyGivenNames u_; first | (apply SameBut.gen (u := u_); (on_goal 1 => (dsimp -zeta -zetaHave only [u_]; clear u_)); (on_goal 2 => (clear_value u_; revert u_; intros))) | (clear_value u_; revert u_; intros) | (revert u_; intros))
    | with_reducible assumption
    | with_reducible apply SameBut.refl
    | ((with_reducible apply SameBut.step (k := advanceTo_same _ _)); (case hl => rfl))
    | ((with_reducible apply SameBut.step (k := selfDiag_same _ _)); (case hl => rfl))
    | split
    | dsimp only

theorem gapMarker_same (s : State) : SameBut [.host, .maint, .ev, .log] s (gapMarker s) := by
  unfold gapMarker
  repeat' first
    | (extract_lets +onlyGivenNames u_; first | (apply SameBut.gen (u := u_); (on_goal 1 => (dsimp -zeta -zetaHave only [u_]; clear u_)); (on_goal 2 => (clear_value u_; revert u_; intros))) | (clear_value u_; revert u_; intros) | (revert u_; intros))
    | with_reducible assumption
    | with_reducible apply SameBut.refl
    | ((with_reducible apply SameBut.onLog); (case hl => rfl))
    | ((with_reducible apply SameBut.step (k := record_same _ _ _ _ _)); (case hl => rfl))
    | split
    | dsimp only

theorem takeOutputs_same (f : MirrorFrame) (s : State) : SameBut [.sys, .loop] s (takeOutputs f s) := by
  unfold takeOutputs
  repeat' first
    | (extract_lets +onlyGivenNames u_; first | (apply SameBut.gen (u := u_); (on_goal 1 => (dsimp -zeta -zetaHave only [u_]; clear u_)); (on_goal 2 => (clear_value u_; revert u_; intros))) | (clear_value u_; revert u_; intros) | (revert u_; intros))
    | with_reducible assumption
    | with_reducible apply SameBut.refl
    | ((with_reducible apply SameBut.onLoop); (case hl => rfl))
    | ((with_reducible apply SameBut.onSysMode); (case hl => rfl))
    | (show ∀ _ : SysState, _ ∧ _; intros; repeat' first | exact ⟨rfl, rfl⟩ | split | dsimp only)
    | split
    | dsimp only

theorem takeState_same (f : MirrorFrame) (s : State) : SameBut [.fus, .dpc, .alloc] s (takeState f s) := by
  unfold takeState
  repeat' first
    | (extract_lets +onlyGivenNames u_; first | (apply SameBut.gen (u := u_); (on_goal 1 => (dsimp -zeta -zetaHave only [u_]; clear u_)); (on_goal 2 => (clear_value u_; revert u_; intros))) | (clear_value u_; revert u_; intros) | (revert u_; intros))
    | with_reducible assumption
    | with_reducible apply SameBut.refl
    | ((with_reducible apply SameBut.onAlloc); (case hl => rfl))
    | ((with_reducible apply SameBut.onDpc); (case hl => rfl))
    | ((with_reducible apply SameBut.onFus); (case hl => rfl))
    | split
    | dsimp only

theorem execTakeover_same (s : State) {t_ : State} (h_ : execTakeover s = .next t_) : SameBut [.host, .maint, .ev, .sys, .mode, .fus, .solv, .dpc, .alloc, .loop, .kiln, .dpx, .can, .log, .free] s t_ := by
  unfold execTakeover at h_
  injection h_ with h_
  subst h_
  repeat' first
    | (extract_lets +onlyGivenNames u_; first | (apply SameBut.gen (u := u_); (on_goal 1 => (dsimp -zeta -zetaHave only [u_]; clear u_)); (on_goal 2 => (clear_value u_; revert u_; intros))) | (clear_value u_; revert u_; intros) | (revert u_; intros))
    | with_reducible assumption
    | with_reducible apply SameBut.refl
    | ((with_reducible apply SameBut.onDpx); (case hl => rfl))
    | ((with_reducible apply SameBut.step (k := commit_same _ _ _)); (case hl => rfl))
    | ((with_reducible apply SameBut.step (k := finish_same _ _ _ _ _ _ _)); (case hl => rfl))
    | ((with_reducible apply SameBut.step (k := gapMarker_same _)); (case hl => rfl))
    | ((with_reducible apply SameBut.step (k := noFunction_same _)); (case hl => rfl))
    | ((with_reducible apply SameBut.step (k := ownership_same _ _ _)); (case hl => rfl))
    | ((with_reducible apply SameBut.step (k := reclaimStop_same _)); (case hl => rfl))
    | ((with_reducible apply SameBut.step (k := setFunction_same _ _)); (case hl => rfl))
    | ((with_reducible apply SameBut.step (k := setMode_same _ _ _ _ _)); (case hl => rfl))
    | ((with_reducible apply SameBut.step (k := takeOutputs_same _ _)); (case hl => rfl))
    | ((with_reducible apply SameBut.step (k := takeState_same _ _)); (case hl => rfl))
    | split
    | dsimp only

theorem execTransferReqTimeout_same (s : State) {t_ : State} (h_ : execTransferReqTimeout s = .next t_) : SameBut [.host, .maint, .sys, .time, .dpx] s t_ := by
  unfold execTransferReqTimeout at h_
  injection h_ with h_
  subst h_
  repeat' first
    | (extract_lets +onlyGivenNames u_; first | (apply SameBut.gen (u := u_); (on_goal 1 => (dsimp -zeta -zetaHave only [u_]; clear u_)); (on_goal 2 => (clear_value u_; revert u_; intros))) | (clear_value u_; revert u_; intros) | (revert u_; intros))
    | with_reducible assumption
    | with_reducible apply SameBut.refl
    | ((with_reducible apply SameBut.onDpx); (case hl => rfl))
    | ((with_reducible apply SameBut.step (k := advanceTo_same _ _)); (case hl => rfl))
    | ((with_reducible apply SameBut.step (k := finish_same _ _ _ _ _ _ _)); (case hl => rfl))
    | split
    | dsimp only

theorem failTransfer_same (s : State) : SameBut [.host, .maint, .sys, .dpx] s (failTransfer s) := by
  unfold failTransfer
  repeat' first
    | (extract_lets +onlyGivenNames u_; first | (apply SameBut.gen (u := u_); (on_goal 1 => (dsimp -zeta -zetaHave only [u_]; clear u_)); (on_goal 2 => (clear_value u_; revert u_; intros))) | (clear_value u_; revert u_; intros) | (revert u_; intros))
    | with_reducible assumption
    | with_reducible apply SameBut.refl
    | ((with_reducible apply SameBut.onDpx); (case hl => rfl))
    | ((with_reducible apply SameBut.onSysMode); (case hl => rfl))
    | (show ∀ _ : SysState, _ ∧ _; intros; repeat' first | exact ⟨rfl, rfl⟩ | split | dsimp only)
    | ((with_reducible apply SameBut.step (k := finish_same _ _ _ _ _ _ _)); (case hl => rfl))
    | split
    | dsimp only

theorem execTransferTimeout_same (s : State) {t_ : State} (h_ : execTransferTimeout s = .next t_) : SameBut [.host, .maint, .sys, .time, .dpx] s t_ := by
  unfold execTransferTimeout at h_
  injection h_ with h_
  subst h_
  repeat' first
    | (extract_lets +onlyGivenNames u_; first | (apply SameBut.gen (u := u_); (on_goal 1 => (dsimp -zeta -zetaHave only [u_]; clear u_)); (on_goal 2 => (clear_value u_; revert u_; intros))) | (clear_value u_; revert u_; intros) | (revert u_; intros))
    | with_reducible assumption
    | with_reducible apply SameBut.refl
    | ((with_reducible apply SameBut.step (k := advanceTo_same _ _)); (case hl => rfl))
    | ((with_reducible apply SameBut.step (k := failTransfer_same _)); (case hl => rfl))
    | split
    | dsimp only

end Sys2Proof.Machine
end

