-- ==== Sys2Proof/Laws/FrameProblems.lean ====
section
/-! SUPPORT. What each operation of Machine/Problems.lean leaves alone: every part of the state but those listed. -/

namespace Sys2Proof.Machine

set_option linter.all false

theorem redefineDp_same (always : List Nat) (s : State) : SameBut [.solv] s (redefineDp always s) := by
  unfold redefineDp
  repeat' first
    | (extract_lets +onlyGivenNames u_; first | (apply SameBut.gen (u := u_); (on_goal 1 => (dsimp -zeta -zetaHave only [u_]; clear u_)); (on_goal 2 => (clear_value u_; revert u_; intros))) | (clear_value u_; revert u_; intros) | (revert u_; intros))
    | with_reducible assumption
    | with_reducible apply SameBut.refl
    | ((with_reducible apply SameBut.step (k := installStruct_same _ _)); (case hl => rfl))
    | with_reducible apply SameBut.foldl
    | with_reducible intro _
    | split
    | dsimp only

end Sys2Proof.Machine
end

