-- ==== Sys2Proof/Laws/FrameSolver.lean ====
section
/-! SUPPORT. What each operation of Machine/Solver.lean leaves alone: every part of the state but those listed. -/

namespace Sys2Proof.Machine

set_option linter.all false

theorem compareFault_same (t : Ticket) (s : State) : SameBut [.host, .maint, .ev, .sys, .solv, .dpc, .alloc, .dpx, .log, .free] s (compareFault t s) := by
  unfold compareFault
  repeat' first
    | (extract_lets +onlyGivenNames u_; first | (apply SameBut.gen (u := u_); (on_goal 1 => (dsimp -zeta -zetaHave only [u_]; clear u_)); (on_goal 2 => (clear_value u_; revert u_; intros))) | (clear_value u_; revert u_; intros) | (revert u_; intros))
    | with_reducible assumption
    | with_reducible apply SameBut.refl
    | ((with_reducible apply SameBut.step (k := allocNoResult_same _ _)); (case hl => rfl))
    | ((with_reducible apply SameBut.step (k := caEnded_same _ _)); (case hl => rfl))
    | ((with_reducible apply SameBut.step (k := dropTicket_same _ _)); (case hl => rfl))
    | ((with_reducible apply SameBut.step (k := endHost_same _ _ _ _)); (case hl => rfl))
    | ((with_reducible apply SameBut.step (k := mpcFall_same _ _)); (case hl => rfl))
    | ((with_reducible apply SameBut.step (k := selfDiag_same _ _)); (case hl => rfl))
    | split
    | dsimp only

theorem endStuck_same (s : State) : SameBut [.host, .maint, .ev, .sys, .solv, .dpc, .alloc, .dpx, .log, .free] s (endStuck s) := by
  unfold endStuck
  repeat' first
    | (extract_lets +onlyGivenNames u_; first | (apply SameBut.gen (u := u_); (on_goal 1 => (dsimp -zeta -zetaHave only [u_]; clear u_)); (on_goal 2 => (clear_value u_; revert u_; intros))) | (clear_value u_; revert u_; intros) | (revert u_; intros))
    | with_reducible assumption
    | with_reducible apply SameBut.refl
    | ((with_reducible apply SameBut.step (k := compareFault_same _ _)); (case hl => rfl))
    | with_reducible apply SameBut.foldl
    | with_reducible intro _
    | split
    | dsimp only

theorem replaceDead_same (s : State) : SameBut [.solv, .free] s (replaceDead s) := by
  unfold replaceDead
  repeat' first
    | (extract_lets +onlyGivenNames u_; first | (apply SameBut.gen (u := u_); (on_goal 1 => (dsimp -zeta -zetaHave only [u_]; clear u_)); (on_goal 2 => (clear_value u_; revert u_; intros))) | (clear_value u_; revert u_; intros) | (revert u_; intros))
    | with_reducible assumption
    | with_reducible apply SameBut.refl
    | ((with_reducible apply SameBut.step (k := drawn_same _)); (case hl => rfl))
    | ((with_reducible apply SameBut.step (k := onTicket_same _ _ _)); (case hl => rfl))
    | with_reducible apply SameBut.foldl
    | with_reducible intro _
    | split
    | dsimp only

theorem gazeboBoundary_same (s : State) : SameBut [.host, .maint, .ev, .sys, .solv, .dpc, .alloc, .dpx, .log, .free] s (gazeboBoundary s) := by
  unfold gazeboBoundary
  repeat' first
    | (extract_lets +onlyGivenNames u_; first | (apply SameBut.gen (u := u_); (on_goal 1 => (dsimp -zeta -zetaHave only [u_]; clear u_)); (on_goal 2 => (clear_value u_; revert u_; intros))) | (clear_value u_; revert u_; intros) | (revert u_; intros))
    | with_reducible assumption
    | with_reducible apply SameBut.refl
    | ((with_reducible apply SameBut.onSolv); (case hl => rfl))
    | ((with_reducible apply SameBut.step (k := buildHot_same _ _)); (case hl => rfl))
    | ((with_reducible apply SameBut.step (k := charge_same _)); (case hl => rfl))
    | ((with_reducible apply SameBut.step (k := endStuck_same _)); (case hl => rfl))
    | ((with_reducible apply SameBut.step (k := replaceDead_same _)); (case hl => rfl))
    | ((with_reducible apply SameBut.step (k := serve_same _)); (case hl => rfl))
    | split
    | dsimp only

theorem completeTicket_same (t : Ticket) (o : CopyOut) (s : State) : SameBut [.host, .maint, .ev, .sys, .solv, .dpc, .alloc, .dpx, .log, .free] s (completeTicket t o s) := by
  unfold completeTicket
  repeat' first
    | (extract_lets +onlyGivenNames u_; first | (apply SameBut.gen (u := u_); (on_goal 1 => (dsimp -zeta -zetaHave only [u_]; clear u_)); (on_goal 2 => (clear_value u_; revert u_; intros))) | (clear_value u_; revert u_; intros) | (revert u_; intros))
    | with_reducible assumption
    | with_reducible apply SameBut.refl
    | ((with_reducible apply SameBut.onDpc); (case hl => rfl))
    | ((with_reducible apply SameBut.step (k := allocNoResult_same _ _)); (case hl => rfl))
    | ((with_reducible apply SameBut.step (k := allocResult_same _ _ _)); (case hl => rfl))
    | ((with_reducible apply SameBut.step (k := bankResult_same _ _ _ _)); (case hl => rfl))
    | ((with_reducible apply SameBut.step (k := caEnded_same _ _)); (case hl => rfl))
    | ((with_reducible apply SameBut.step (k := commit_same _ _ _)); (case hl => rfl))
    | ((with_reducible apply SameBut.step (k := creditDp_same _ _ _)); (case hl => rfl))
    | ((with_reducible apply SameBut.step (k := creditStruct_same _ _ _)); (case hl => rfl))
    | ((with_reducible apply SameBut.step (k := dropTicket_same _ _)); (case hl => rfl))
    | ((with_reducible apply SameBut.step (k := finish_same _ _ _ _ _ _ _)); (case hl => rfl))
    | ((with_reducible apply SameBut.step (k := mpcFall_same _ _)); (case hl => rfl))
    | split
    | dsimp only

theorem endTicket_same (t : Ticket) (o : CopyOut) (s : State) : SameBut [.host, .maint, .ev, .sys, .solv, .dpc, .alloc, .dpx, .log, .free] s (endTicket t o s) := by
  unfold endTicket
  repeat' first
    | (extract_lets +onlyGivenNames u_; first | (apply SameBut.gen (u := u_); (on_goal 1 => (dsimp -zeta -zetaHave only [u_]; clear u_)); (on_goal 2 => (clear_value u_; revert u_; intros))) | (clear_value u_; revert u_; intros) | (revert u_; intros))
    | with_reducible assumption
    | with_reducible apply SameBut.refl
    | ((with_reducible apply SameBut.step (k := completeTicket_same _ _ _)); (case hl => rfl))
    | ((with_reducible apply SameBut.step (k := dropTicket_same _ _)); (case hl => rfl))
    | split
    | dsimp only

theorem loseRegion_same (r : Fin 4) (cause code : Nat) (s : State) : SameBut [.host, .maint, .ev, .sys, .solv, .dpc, .alloc, .dpx, .log, .free] s (loseRegion r cause code s) := by
  unfold loseRegion
  repeat' first
    | (extract_lets +onlyGivenNames u_; first | (apply SameBut.gen (u := u_); (on_goal 1 => (dsimp -zeta -zetaHave only [u_]; clear u_)); (on_goal 2 => (clear_value u_; revert u_; intros))) | (clear_value u_; revert u_; intros) | (revert u_; intros))
    | with_reducible assumption
    | with_reducible apply SameBut.refl
    | ((with_reducible apply SameBut.step (k := endStuck_same _)); (case hl => rfl))
    | ((with_reducible apply SameBut.step (k := markFailed_same _ _ _ _)); (case hl => rfl))
    | ((with_reducible apply SameBut.step (k := serve_same _)); (case hl => rfl))
    | split
    | dsimp only

theorem failCopy_same (t : Ticket) (k : Nat) (s : State) : SameBut [.host, .maint, .ev, .sys, .solv, .dpc, .alloc, .dpx, .log, .free] s (failCopy t k s) := by
  unfold failCopy
  repeat' first
    | (extract_lets +onlyGivenNames u_; first | (apply SameBut.gen (u := u_); (on_goal 1 => (dsimp -zeta -zetaHave only [u_]; clear u_)); (on_goal 2 => (clear_value u_; revert u_; intros))) | (clear_value u_; revert u_; intros) | (revert u_; intros))
    | with_reducible assumption
    | with_reducible apply SameBut.refl
    | ((with_reducible apply SameBut.step (k := loseRegion_same _ _ _ _)); (case hl => rfl))
    | split
    | dsimp only

theorem onRegion_same (r : Nat) (f : Region → Region) (s : State) : SameBut [.solv] s (onRegion r f s) := by
  unfold onRegion
  repeat' first
    | (extract_lets +onlyGivenNames u_; first | (apply SameBut.gen (u := u_); (on_goal 1 => (dsimp -zeta -zetaHave only [u_]; clear u_)); (on_goal 2 => (clear_value u_; revert u_; intros))) | (clear_value u_; revert u_; intros) | (revert u_; intros))
    | with_reducible assumption
    | with_reducible apply SameBut.refl
    | ((with_reducible apply SameBut.onSolv); (case hl => rfl))
    | split
    | dsimp only

theorem compareTicket_same (t : Ticket) (s : State) : SameBut [.host, .maint, .ev, .sys, .solv, .dpc, .alloc, .dpx, .log, .free] s (compareTicket t s) := by
  unfold compareTicket
  repeat' first
    | (extract_lets +onlyGivenNames u_; first | (apply SameBut.gen (u := u_); (on_goal 1 => (dsimp -zeta -zetaHave only [u_]; clear u_)); (on_goal 2 => (clear_value u_; revert u_; intros))) | (clear_value u_; revert u_; intros) | (revert u_; intros))
    | with_reducible assumption
    | with_reducible apply SameBut.refl
    | ((with_reducible apply SameBut.step (k := claim_same _ _)); (case hl => rfl))
    | ((with_reducible apply SameBut.step (k := compareFault_same _ _)); (case hl => rfl))
    | ((with_reducible apply SameBut.step (k := drawn_same _)); (case hl => rfl))
    | ((with_reducible apply SameBut.step (k := endTicket_same _ _ _)); (case hl => rfl))
    | ((with_reducible apply SameBut.step (k := failCopy_same _ _ _)); (case hl => rfl))
    | ((with_reducible apply SameBut.step (k := onRegion_same _ _ _)); (case hl => rfl))
    | ((with_reducible apply SameBut.step (k := onTicket_same _ _ _)); (case hl => rfl))
    | ((with_reducible apply SameBut.step (k := raise_same _ _ _)); (case hl => rfl))
    | split
    | dsimp only

theorem creditRegion_same (t : Ticket) (k : Nat) (o : CopyOut) (s : State) : SameBut [.solv] s (creditRegion t k o s) := by
  unfold creditRegion
  repeat' first
    | (extract_lets +onlyGivenNames u_; first | (apply SameBut.gen (u := u_); (on_goal 1 => (dsimp -zeta -zetaHave only [u_]; clear u_)); (on_goal 2 => (clear_value u_; revert u_; intros))) | (clear_value u_; revert u_; intros) | (revert u_; intros))
    | with_reducible assumption
    | with_reducible apply SameBut.refl
    | ((with_reducible apply SameBut.step (k := onRegion_same _ _ _)); (case hl => rfl))
    | split
    | dsimp only

theorem execCopyComplete_same (ticket : Nat) (copy : Fin 3) (ce : Nat) (err : Option CopyOut) (s : State) {t_ : State} (h_ : execCopyComplete ticket copy ce err s = .next t_) : SameBut [.host, .maint, .ev, .sys, .solv, .dpc, .alloc, .dpx, .log, .free] s t_ := by
  unfold execCopyComplete at h_
  injection h_ with h_
  subst h_
  repeat' first
    | (extract_lets +onlyGivenNames u_; first | (apply SameBut.gen (u := u_); (on_goal 1 => (dsimp -zeta -zetaHave only [u_]; clear u_)); (on_goal 2 => (clear_value u_; revert u_; intros))) | (clear_value u_; revert u_; intros) | (revert u_; intros))
    | with_reducible assumption
    | with_reducible apply SameBut.refl
    | ((with_reducible apply SameBut.step (k := charge_same _)); (case hl => rfl))
    | ((with_reducible apply SameBut.step (k := compareTicket_same _ _)); (case hl => rfl))
    | ((with_reducible apply SameBut.step (k := creditRegion_same _ _ _ _)); (case hl => rfl))
    | ((with_reducible apply SameBut.step (k := endTicket_same _ _ _)); (case hl => rfl))
    | ((with_reducible apply SameBut.step (k := onRegion_same _ _ _)); (case hl => rfl))
    | ((with_reducible apply SameBut.step (k := onTicket_same _ _ _)); (case hl => rfl))
    | ((with_reducible apply SameBut.step (k := serve_same _)); (case hl => rfl))
    | split
    | dsimp only

theorem execCopyResume_same (ticket : Nat) (copy : Fin 3) (s : State) {t_ : State} (h_ : execCopyResume ticket copy s = .next t_) : SameBut [.solv, .free] s t_ := by
  unfold execCopyResume at h_
  injection h_ with h_
  subst h_
  repeat' first
    | (extract_lets +onlyGivenNames u_; first | (apply SameBut.gen (u := u_); (on_goal 1 => (dsimp -zeta -zetaHave only [u_]; clear u_)); (on_goal 2 => (clear_value u_; revert u_; intros))) | (clear_value u_; revert u_; intros) | (revert u_; intros))
    | with_reducible assumption
    | with_reducible apply SameBut.refl
    | ((with_reducible apply SameBut.step (k := charge_same _)); (case hl => rfl))
    | ((with_reducible apply SameBut.step (k := drawn_same _)); (case hl => rfl))
    | ((with_reducible apply SameBut.step (k := onTicket_same _ _ _)); (case hl => rfl))
    | split
    | dsimp only

theorem execHostProblemDeadline_same (ticket : Nat) (s : State) {t_ : State} (h_ : execHostProblemDeadline ticket s = .next t_) : SameBut [.host, .maint, .sys, .time, .solv, .free] s t_ := by
  unfold execHostProblemDeadline at h_
  injection h_ with h_
  subst h_
  repeat' first
    | (extract_lets +onlyGivenNames u_; first | (apply SameBut.gen (u := u_); (on_goal 1 => (dsimp -zeta -zetaHave only [u_]; clear u_)); (on_goal 2 => (clear_value u_; revert u_; intros))) | (clear_value u_; revert u_; intros) | (revert u_; intros))
    | with_reducible assumption
    | with_reducible apply SameBut.refl
    | ((with_reducible apply SameBut.step (k := advanceTo_same _ _)); (case hl => rfl))
    | ((with_reducible apply SameBut.step (k := endHost_same _ _ _ _)); (case hl => rfl))
    | split
    | dsimp only

theorem execSolvPlacement_same (p : Port) (s : State) {t_ : State} (h_ : execSolvPlacement p s = .next t_) : SameBut [.host, .maint, .sys] s t_ := by
  unfold execSolvPlacement at h_
  injection h_ with h_
  subst h_
  repeat' first
    | (extract_lets +onlyGivenNames u_; first | (apply SameBut.gen (u := u_); (on_goal 1 => (dsimp -zeta -zetaHave only [u_]; clear u_)); (on_goal 2 => (clear_value u_; revert u_; intros))) | (clear_value u_; revert u_; intros) | (revert u_; intros))
    | with_reducible assumption
    | with_reducible apply SameBut.refl
    | ((with_reducible apply SameBut.step (k := ok_same _ _ _ _ _)); (case hl => rfl))
    | ((with_reducible apply SameBut.runOp); (case hl => rfl))
    | with_reducible intro _
    | split
    | dsimp only

theorem execSolvResultRead_same (p : Port) (s : State) {t_ : State} (h_ : execSolvResultRead p s = .next t_) : SameBut [.host, .maint, .sys] s t_ := by
  unfold execSolvResultRead at h_
  injection h_ with h_
  subst h_
  repeat' first
    | (extract_lets +onlyGivenNames u_; first | (apply SameBut.gen (u := u_); (on_goal 1 => (dsimp -zeta -zetaHave only [u_]; clear u_)); (on_goal 2 => (clear_value u_; revert u_; intros))) | (clear_value u_; revert u_; intros) | (revert u_; intros))
    | with_reducible assumption
    | with_reducible apply SameBut.refl
    | ((with_reducible apply SameBut.step (k := finish_same _ _ _ _ _ _ _)); (case hl => rfl))
    | ((with_reducible apply SameBut.step (k := ok_same _ _ _ _ _)); (case hl => rfl))
    | ((with_reducible apply SameBut.step (k := reject_same _ _ _ _ _)); (case hl => rfl))
    | ((with_reducible apply SameBut.runOp); (case hl => rfl))
    | with_reducible intro _
    | split
    | dsimp only

theorem execSolvStructDefine_same (p : Port) (s : State) {t_ : State} (h_ : execSolvStructDefine p s = .next t_) : SameBut [.host, .maint, .sys, .solv] s t_ := by
  unfold execSolvStructDefine at h_
  injection h_ with h_
  subst h_
  repeat' first
    | (extract_lets +onlyGivenNames u_; first | (apply SameBut.gen (u := u_); (on_goal 1 => (dsimp -zeta -zetaHave only [u_]; clear u_)); (on_goal 2 => (clear_value u_; revert u_; intros))) | (dsimp -zeta -zetaHave only [u_]; clear u_) | (clear_value u_; revert u_; intros) | (revert u_; intros))
    | with_reducible assumption
    | with_reducible apply SameBut.refl
    | ((with_reducible apply SameBut.onSolv); (case hl => rfl))
    | ((with_reducible apply SameBut.step (k := pending_same _ _ _ _)); (case hl => rfl))
    | ((with_reducible apply SameBut.step (k := reject_same _ _ _ _ _)); (case hl => rfl))
    | ((with_reducible apply SameBut.runOp); (case hl => rfl))
    | with_reducible intro _
    | split
    | dsimp only

theorem execSolvStructDelete_same (p : Port) (s : State) {t_ : State} (h_ : execSolvStructDelete p s = .next t_) : SameBut [.host, .maint, .sys, .solv] s t_ := by
  unfold execSolvStructDelete at h_
  injection h_ with h_
  subst h_
  repeat' first
    | (extract_lets +onlyGivenNames u_; first | (apply SameBut.gen (u := u_); (on_goal 1 => (dsimp -zeta -zetaHave only [u_]; clear u_)); (on_goal 2 => (clear_value u_; revert u_; intros))) | (clear_value u_; revert u_; intros) | (revert u_; intros))
    | with_reducible assumption
    | with_reducible apply SameBut.refl
    | ((with_reducible apply SameBut.onSolv); (case hl => rfl))
    | ((with_reducible apply SameBut.step (k := ok_same _ _ _ _ _)); (case hl => rfl))
    | ((with_reducible apply SameBut.step (k := reject_same _ _ _ _ _)); (case hl => rfl))
    | ((with_reducible apply SameBut.runOp); (case hl => rfl))
    | with_reducible intro _
    | split
    | dsimp only

theorem execSolvStructQuery_same (p : Port) (s : State) {t_ : State} (h_ : execSolvStructQuery p s = .next t_) : SameBut [.host, .maint, .sys] s t_ := by
  unfold execSolvStructQuery at h_
  injection h_ with h_
  subst h_
  repeat' first
    | (extract_lets +onlyGivenNames u_; first | (apply SameBut.gen (u := u_); (on_goal 1 => (dsimp -zeta -zetaHave only [u_]; clear u_)); (on_goal 2 => (clear_value u_; revert u_; intros))) | (clear_value u_; revert u_; intros) | (revert u_; intros))
    | with_reducible assumption
    | with_reducible apply SameBut.refl
    | ((with_reducible apply SameBut.step (k := ok_same _ _ _ _ _)); (case hl => rfl))
    | ((with_reducible apply SameBut.step (k := reject_same _ _ _ _ _)); (case hl => rfl))
    | ((with_reducible apply SameBut.runOp); (case hl => rfl))
    | with_reducible intro _
    | split
    | dsimp only

theorem execSolvSubmit_same (p : Port) (s : State) {t_ : State} (h_ : execSolvSubmit p s = .next t_) : SameBut [.host, .maint, .sys, .solv, .free] s t_ := by
  unfold execSolvSubmit at h_
  injection h_ with h_
  subst h_
  repeat' first
    | (extract_lets +onlyGivenNames u_; first | (apply SameBut.gen (u := u_); (on_goal 1 => (dsimp -zeta -zetaHave only [u_]; clear u_)); (on_goal 2 => (clear_value u_; revert u_; intros))) | (clear_value u_; revert u_; intros) | (revert u_; intros))
    | with_reducible assumption
    | with_reducible apply SameBut.refl
    | ((with_reducible apply SameBut.step (k := finish_same _ _ _ _ _ _ _)); (case hl => rfl))
    | ((with_reducible apply SameBut.step (k := openTicket_same _ _)); (case hl => rfl))
    | ((with_reducible apply SameBut.step (k := pending_same _ _ _ _)); (case hl => rfl))
    | ((with_reducible apply SameBut.step (k := setUnit_same _ _ _ _)); (case hl => rfl))
    | ((with_reducible apply SameBut.runOpV); (case hl => rfl))
    | with_reducible intro _
    | split
    | dsimp only

theorem execSolvUpdate_same (p : Port) (s : State) {t_ : State} (h_ : execSolvUpdate p s = .next t_) : SameBut [.host, .maint, .sys, .solv] s t_ := by
  unfold execSolvUpdate at h_
  injection h_ with h_
  subst h_
  repeat' first
    | (extract_lets +onlyGivenNames u_; first | (apply SameBut.gen (u := u_); (on_goal 1 => (dsimp -zeta -zetaHave only [u_]; clear u_)); (on_goal 2 => (clear_value u_; revert u_; intros))) | (clear_value u_; revert u_; intros) | (revert u_; intros))
    | with_reducible assumption
    | with_reducible apply SameBut.refl
    | ((with_reducible apply SameBut.step (k := ok_same _ _ _ _ _)); (case hl => rfl))
    | ((with_reducible apply SameBut.step (k := onStruct_same _ _ _)); (case hl => rfl))
    | ((with_reducible apply SameBut.step (k := reject_same _ _ _ _ _)); (case hl => rfl))
    | ((with_reducible apply SameBut.runOpV); (case hl => rfl))
    | with_reducible apply SameBut.foldl
    | with_reducible intro _
    | split
    | dsimp only

theorem execStoreUncorrectableError_same (r : Fin 4) (ticket : Nat) (s : State) {t_ : State} (h_ : execStoreUncorrectableError r ticket s = .next t_) : SameBut [.host, .maint, .ev, .sys, .solv, .dpc, .alloc, .dpx, .log, .free] s t_ := by
  unfold execStoreUncorrectableError at h_
  injection h_ with h_
  subst h_
  repeat' first
    | (extract_lets +onlyGivenNames u_; first | (apply SameBut.gen (u := u_); (on_goal 1 => (dsimp -zeta -zetaHave only [u_]; clear u_)); (on_goal 2 => (clear_value u_; revert u_; intros))) | (clear_value u_; revert u_; intros) | (revert u_; intros))
    | with_reducible assumption
    | with_reducible apply SameBut.refl
    | ((with_reducible apply SameBut.step (k := loseRegion_same _ _ _ _)); (case hl => rfl))
    | split
    | dsimp only

theorem execStructInstallComplete_same (s : State) {t_ : State} (h_ : execStructInstallComplete s = .next t_) : SameBut [.host, .maint, .sys, .solv] s t_ := by
  unfold execStructInstallComplete at h_
  injection h_ with h_
  subst h_
  repeat' first
    | (extract_lets +onlyGivenNames u_; first | (apply SameBut.gen (u := u_); (on_goal 1 => (dsimp -zeta -zetaHave only [u_]; clear u_)); (on_goal 2 => (clear_value u_; revert u_; intros))) | (clear_value u_; revert u_; intros) | (revert u_; intros))
    | with_reducible assumption
    | with_reducible apply SameBut.refl
    | ((with_reducible apply SameBut.onSolv); (case hl => rfl))
    | ((with_reducible apply SameBut.step (k := commit_same _ _ _)); (case hl => rfl))
    | ((with_reducible apply SameBut.step (k := finish_same _ _ _ _ _ _ _)); (case hl => rfl))
    | ((with_reducible apply SameBut.step (k := installStruct_same _ _)); (case hl => rfl))
    | split
    | dsimp only

end Sys2Proof.Machine
end

