-- ==== Sys2Proof/Laws/FrameFrame.lean ====
section
/-! SUPPORT. What each operation of Machine/Frame.lean leaves alone: every part of the state but those listed. -/

namespace Sys2Proof.Machine

set_option linter.all false

theorem clearing_same (s : State) : SameBut [.cfg] s (clearing s) := by
  unfold clearing
  repeat' first
    | (extract_lets +onlyGivenNames u_; first | (apply SameBut.gen (u := u_); (on_goal 1 => (dsimp -zeta -zetaHave only [u_]; clear u_)); (on_goal 2 => (clear_value u_; revert u_; intros))) | (clear_value u_; revert u_; intros) | (revert u_; intros))
    | with_reducible assumption
    | with_reducible apply SameBut.refl
    | ((with_reducible apply SameBut.onCfg); (case hl => rfl))
    | split
    | dsimp only

theorem configEffects_same (pend : List (Op × Nat)) (old s : State) : SameBut [.fir, .fus, .solv, .dpc, .alloc, .can, .log] s (configEffects pend old s) := by
  unfold configEffects
  repeat' first
    | (extract_lets +onlyGivenNames u_; first | (apply SameBut.gen (u := u_); (on_goal 1 => (dsimp -zeta -zetaHave only [u_]; clear u_)); (on_goal 2 => (clear_value u_; revert u_; intros))) | (clear_value u_; revert u_; intros) | (revert u_; intros))
    | with_reducible assumption
    | with_reducible apply SameBut.refl
    | ((with_reducible apply SameBut.onAlloc); (case hl => rfl))
    | ((with_reducible apply SameBut.onDpc); (case hl => rfl))
    | ((with_reducible apply SameBut.step (k := canTakes_same _ _)); (case hl => rfl))
    | ((with_reducible apply SameBut.step (k := datumTakes_same _ _ _)); (case hl => rfl))
    | ((with_reducible apply SameBut.step (k := firTakes_same _ _)); (case hl => rfl))
    | ((with_reducible apply SameBut.step (k := logConfigTakes_same _ _)); (case hl => rfl))
    | ((with_reducible apply SameBut.step (k := redefineDp_same _ _)); (case hl => rfl))
    | ((with_reducible apply SameBut.step (k := rpTakes_same _)); (case hl => rfl))
    | with_reducible apply SameBut.foldl
    | with_reducible intro _
    | split
    | dsimp only

theorem configForce_same (s : State) : SameBut [.cfg] s (configForce s) := by
  unfold configForce
  repeat' first
    | (extract_lets +onlyGivenNames u_; first | (apply SameBut.gen (u := u_); (on_goal 1 => (dsimp -zeta -zetaHave only [u_]; clear u_)); (on_goal 2 => (clear_value u_; revert u_; intros))) | (clear_value u_; revert u_; intros) | (revert u_; intros))
    | with_reducible assumption
    | with_reducible apply SameBut.refl
    | ((with_reducible apply SameBut.onCfg); (case hl => rfl))
    | ((with_reducible apply SameBut.step (k := promote_same _ _)); (case hl => rfl))
    | split
    | dsimp only

theorem loadTakes_same (l : LoadReq) (s : State) : SameBut [.host, .maint, .ev, .sys, .cfg, .log] s (loadTakes l s) := by
  unfold loadTakes
  repeat' first
    | (extract_lets +onlyGivenNames u_; first | (apply SameBut.gen (u := u_); (on_goal 1 => (dsimp -zeta -zetaHave only [u_]; clear u_)); (on_goal 2 => (clear_value u_; revert u_; intros))) | (clear_value u_; revert u_; intros) | (revert u_; intros))
    | with_reducible assumption
    | with_reducible apply SameBut.refl
    | ((with_reducible apply SameBut.onCfg); (case hl => rfl))
    | ((with_reducible apply SameBut.step (k := cfgEvent_same _ _ _)); (case hl => rfl))
    | ((with_reducible apply SameBut.step (k := changeRecord_same _ _ _ _ _ _ _ _)); (case hl => rfl))
    | ((with_reducible apply SameBut.step (k := commit_same _ _ _)); (case hl => rfl))
    | ((with_reducible apply SameBut.step (k := finish_same _ _ _ _ _ _ _)); (case hl => rfl))
    | split
    | dsimp only

theorem configBoundary_same (s : State) : SameBut [.host, .maint, .hp, .ev, .sys, .fir, .fus, .solv, .dpc, .alloc, .loop, .can, .cfg, .log] s (configBoundary s) := by
  unfold configBoundary
  repeat' first
    | (extract_lets +onlyGivenNames u_; first | (apply SameBut.gen (u := u_); (on_goal 1 => (dsimp -zeta -zetaHave only [u_]; clear u_)); (on_goal 2 => (clear_value u_; revert u_; intros))) | (clear_value u_; revert u_; intros) | (revert u_; intros))
    | with_reducible assumption
    | with_reducible apply SameBut.refl
    | ((with_reducible apply SameBut.onCfg); (case hl => rfl))
    | ((with_reducible apply SameBut.onHp); (case hl => rfl))
    | ((with_reducible apply SameBut.step (k := configEffects_same _ _ _)); (case hl => rfl))
    | ((with_reducible apply SameBut.step (k := configForce_same _)); (case hl => rfl))
    | ((with_reducible apply SameBut.step (k := loadTakes_same _ _)); (case hl => rfl))
    | ((with_reducible apply SameBut.step (k := refreshEngines_same _)); (case hl => rfl))
    | with_reducible apply SameBut.foldl
    | with_reducible intro _
    | split
    | dsimp only

theorem countMissed_same (s : State) : SameBut [.sys] s (countMissed s) := by
  unfold countMissed
  repeat' first
    | (extract_lets +onlyGivenNames u_; first | (apply SameBut.gen (u := u_); (on_goal 1 => (dsimp -zeta -zetaHave only [u_]; clear u_)); (on_goal 2 => (clear_value u_; revert u_; intros))) | (clear_value u_; revert u_; intros) | (revert u_; intros))
    | with_reducible assumption
    | with_reducible apply SameBut.refl
    | ((with_reducible apply SameBut.onSysMode); (case hl => rfl))
    | (show ∀ _ : SysState, _ ∧ _; intros; repeat' first | exact ⟨rfl, rfl⟩ | split | dsimp only)
    | split
    | dsimp only

theorem endTargets_same (s : State) : SameBut [.host, .maint, .sys, .dpc] s (endTargets s) := by
  unfold endTargets
  repeat' first
    | (extract_lets +onlyGivenNames u_; first | (apply SameBut.gen (u := u_); (on_goal 1 => (dsimp -zeta -zetaHave only [u_]; clear u_)); (on_goal 2 => (clear_value u_; revert u_; intros))) | (clear_value u_; revert u_; intros) | (revert u_; intros))
    | with_reducible assumption
    | with_reducible apply SameBut.refl
    | ((with_reducible apply SameBut.onDpc); (case hl => rfl))
    | ((with_reducible apply SameBut.step (k := finish_same _ _ _ _ _ _ _)); (case hl => rfl))
    | with_reducible apply SameBut.foldl
    | with_reducible intro _
    | split
    | dsimp only

theorem readTemps_same (temps : Vector Int 4) (s : State) : SameBut [.host, .maint, .ev, .sys, .solv, .log, .free] s (readTemps temps s) := by
  unfold readTemps
  repeat' first
    | (extract_lets +onlyGivenNames u_; first | (apply SameBut.gen (u := u_); (on_goal 1 => (dsimp -zeta -zetaHave only [u_]; clear u_)); (on_goal 2 => (clear_value u_; revert u_; intros))) | (clear_value u_; revert u_; intros) | (revert u_; intros))
    | with_reducible assumption
    | with_reducible apply SameBut.refl
    | ((with_reducible apply SameBut.step (k := regTemp_same _ _ _)); (case hl => rfl))
    | with_reducible apply SameBut.foldl
    | with_reducible intro _
    | split
    | dsimp only

theorem boundaryWork_same (temps : Vector Int 4) (s : State) : SameBut [.host, .maint, .hp, .ev, .sys, .mode, .fir, .fus, .solv, .dpc, .alloc, .loop, .kiln, .dpx, .can, .cfg, .log, .subs, .free] s (boundaryWork temps s) := by
  unfold boundaryWork
  repeat' first
    | (extract_lets +onlyGivenNames u_; first | (apply SameBut.gen (u := u_); (on_goal 1 => (dsimp -zeta -zetaHave only [u_]; clear u_)); (on_goal 2 => (clear_value u_; revert u_; intros))) | (clear_value u_; revert u_; intros) | (revert u_; intros))
    | with_reducible assumption
    | with_reducible apply SameBut.refl
    | ((with_reducible apply SameBut.step (k := allocReset_same _)); (case hl => rfl))
    | ((with_reducible apply SameBut.step (k := caBoundary_same _)); (case hl => rfl))
    | ((with_reducible apply SameBut.step (k := clearing_same _)); (case hl => rfl))
    | ((with_reducible apply SameBut.step (k := configBoundary_same _)); (case hl => rfl))
    | ((with_reducible apply SameBut.step (k := countMissed_same _)); (case hl => rfl))
    | ((with_reducible apply SameBut.step (k := duplexBoundary_same _)); (case hl => rfl))
    | ((with_reducible apply SameBut.step (k := endTargets_same _)); (case hl => rfl))
    | ((with_reducible apply SameBut.step (k := fixAvail_same _)); (case hl => rfl))
    | ((with_reducible apply SameBut.step (k := fnTakes_same _)); (case hl => rfl))
    | ((with_reducible apply SameBut.step (k := fusBoundary_same _ _)); (case hl => rfl))
    | ((with_reducible apply SameBut.step (k := gazeboBoundary_same _)); (case hl => rfl))
    | ((with_reducible apply SameBut.step (k := modeTakes_same _)); (case hl => rfl))
    | ((with_reducible apply SameBut.step (k := rampLimits_same _)); (case hl => rfl))
    | ((with_reducible apply SameBut.step (k := readTemps_same _ _)); (case hl => rfl))
    | ((with_reducible apply SameBut.step (k := sensorOut_same _)); (case hl => rfl))
    | split
    | dsimp only

theorem missAllocation_same (s : State) : SameBut [.host, .maint, .ev, .sys, .time, .solv, .dpc, .alloc, .dpx, .log, .free] s (missAllocation s) := by
  unfold missAllocation
  repeat' first
    | (extract_lets +onlyGivenNames u_; first | (apply SameBut.gen (u := u_); (on_goal 1 => (dsimp -zeta -zetaHave only [u_]; clear u_)); (on_goal 2 => (clear_value u_; revert u_; intros))) | (clear_value u_; revert u_; intros) | (revert u_; intros))
    | with_reducible assumption
    | with_reducible apply SameBut.refl
    | ((with_reducible apply SameBut.step (k := cancelDp_same _ _)); (case hl => rfl))
    | ((with_reducible apply SameBut.step (k := missD3_same _)); (case hl => rfl))
    | ((with_reducible apply SameBut.step (k := stepAt_same _ _)); (case hl => rfl))
    | ((with_reducible apply SameBut.step (k := submitBank_same _)); (case hl => rfl))
    | split
    | dsimp only

theorem missController_same (s : State) : SameBut [.host, .maint, .ev, .sys, .time, .dpc, .dpx, .log] s (missController s) := by
  unfold missController
  repeat' first
    | (extract_lets +onlyGivenNames u_; first | (apply SameBut.gen (u := u_); (on_goal 1 => (dsimp -zeta -zetaHave only [u_]; clear u_)); (on_goal 2 => (clear_value u_; revert u_; intros))) | (clear_value u_; revert u_; intros) | (revert u_; intros))
    | with_reducible assumption
    | with_reducible apply SameBut.refl
    | ((with_reducible apply SameBut.onDpc); (case hl => rfl))
    | ((with_reducible apply SameBut.step (k := missDeadline_same _ _)); (case hl => rfl))
    | ((with_reducible apply SameBut.step (k := stepAt_same _ _)); (case hl => rfl))
    | split
    | dsimp only

theorem missIssue_same (s : State) : SameBut [.host, .maint, .ev, .sys, .time, .dpx, .log] s (missIssue s) := by
  unfold missIssue
  repeat' first
    | (extract_lets +onlyGivenNames u_; first | (apply SameBut.gen (u := u_); (on_goal 1 => (dsimp -zeta -zetaHave only [u_]; clear u_)); (on_goal 2 => (clear_value u_; revert u_; intros))) | (clear_value u_; revert u_; intros) | (revert u_; intros))
    | with_reducible assumption
    | with_reducible apply SameBut.refl
    | ((with_reducible apply SameBut.step (k := missDeadline_same _ _)); (case hl => rfl))
    | ((with_reducible apply SameBut.step (k := stepAt_same _ _)); (case hl => rfl))
    | split
    | dsimp only

theorem missMirror_same (s : State) : SameBut [.host, .maint, .ev, .sys, .time, .dpx, .log] s (missMirror s) := by
  unfold missMirror
  repeat' first
    | (extract_lets +onlyGivenNames u_; first | (apply SameBut.gen (u := u_); (on_goal 1 => (dsimp -zeta -zetaHave only [u_]; clear u_)); (on_goal 2 => (clear_value u_; revert u_; intros))) | (clear_value u_; revert u_; intros) | (revert u_; intros))
    | with_reducible assumption
    | with_reducible apply SameBut.refl
    | ((with_reducible apply SameBut.step (k := missDeadline_same _ _)); (case hl => rfl))
    | ((with_reducible apply SameBut.step (k := stepAt_same _ _)); (case hl => rfl))
    | split
    | dsimp only

theorem missObserver_same (s : State) : SameBut [.host, .maint, .ev, .sys, .time, .fus, .dpx, .log, .free] s (missObserver s) := by
  unfold missObserver
  repeat' first
    | (extract_lets +onlyGivenNames u_; first | (apply SameBut.gen (u := u_); (on_goal 1 => (dsimp -zeta -zetaHave only [u_]; clear u_)); (on_goal 2 => (clear_value u_; revert u_; intros))) | (clear_value u_; revert u_; intros) | (revert u_; intros))
    | with_reducible assumption
    | with_reducible apply SameBut.refl
    | ((with_reducible apply SameBut.step (k := missD1_same _)); (case hl => rfl))
    | ((with_reducible apply SameBut.step (k := missDeadline_same _ _)); (case hl => rfl))
    | ((with_reducible apply SameBut.step (k := stepAt_same _ _)); (case hl => rfl))
    | split
    | dsimp only

theorem execDeadlineMiss_same (d : Fin 5) (s : State) {t_ : State} (h_ : execDeadlineMiss d s = .next t_) : SameBut [.host, .maint, .ev, .sys, .time, .fus, .solv, .dpc, .alloc, .dpx, .log, .free] s t_ := by
  unfold execDeadlineMiss at h_
  injection h_ with h_
  subst h_
  repeat' first
    | (extract_lets +onlyGivenNames u_; first | (apply SameBut.gen (u := u_); (on_goal 1 => (dsimp -zeta -zetaHave only [u_]; clear u_)); (on_goal 2 => (clear_value u_; revert u_; intros))) | (clear_value u_; revert u_; intros) | (revert u_; intros))
    | with_reducible assumption
    | with_reducible apply SameBut.refl
    | ((with_reducible apply SameBut.step (k := missAllocation_same _)); (case hl => rfl))
    | ((with_reducible apply SameBut.step (k := missController_same _)); (case hl => rfl))
    | ((with_reducible apply SameBut.step (k := missIssue_same _)); (case hl => rfl))
    | ((with_reducible apply SameBut.step (k := missMirror_same _)); (case hl => rfl))
    | ((with_reducible apply SameBut.step (k := missObserver_same _)); (case hl => rfl))
    | split
    | dsimp only

theorem execFrameBoundary_same (temps : Vector Int 4) (s : State) {t_ : State} (h_ : execFrameBoundary temps s = .next t_) : SameBut [.host, .maint, .hp, .ev, .sys, .mode, .time, .fir, .fus, .solv, .dpc, .alloc, .loop, .kiln, .dpx, .can, .cfg, .log, .subs, .free] s t_ := by
  unfold execFrameBoundary at h_
  injection h_ with h_
  subst h_
  repeat' first
    | (extract_lets +onlyGivenNames u_; first | (apply SameBut.gen (u := u_); (on_goal 1 => (dsimp -zeta -zetaHave only [u_]; clear u_)); (on_goal 2 => (clear_value u_; revert u_; intros))) | (clear_value u_; revert u_; intros) | (revert u_; intros))
    | with_reducible assumption
    | with_reducible apply SameBut.refl
    | ((with_reducible apply SameBut.onSys); (case hl => rfl))
    | ((with_reducible apply SameBut.step (k := advanceTo_same _ _)); (case hl => rfl))
    | ((with_reducible apply SameBut.step (k := boundaryWork_same _ _)); (case hl => rfl))
    | split
    | dsimp only

end Sys2Proof.Machine
end

