-- ==== Sys2Proof/Laws/FrameGnss.lean ====
section
/-! SUPPORT. What each operation of Machine/Gnss.lean leaves alone: every part of the state but those listed. -/

namespace Sys2Proof.Machine

set_option linter.all false

theorem onBb_same (b : Fin 2) (f : Baseband → Baseband) (s : State) : SameBut [.gnss] s (onBb b f s) := by
  unfold onBb
  repeat' first
    | (extract_lets +onlyGivenNames u_; first | (apply SameBut.gen (u := u_); (on_goal 1 => (dsimp -zeta -zetaHave only [u_]; clear u_)); (on_goal 2 => (clear_value u_; revert u_; intros))) | (clear_value u_; revert u_; intros) | (revert u_; intros))
    | with_reducible assumption
    | with_reducible apply SameBut.refl
    | ((with_reducible apply SameBut.onGnss); (case hl => rfl))
    | split
    | dsimp only

theorem setFix_same (b : Fin 2) (k : Nat) (s : State) : SameBut [.host, .maint, .ev, .gnss, .log] s (setFix b k s) := by
  unfold setFix
  repeat' first
    | (extract_lets +onlyGivenNames u_; first | (apply SameBut.gen (u := u_); (on_goal 1 => (dsimp -zeta -zetaHave only [u_]; clear u_)); (on_goal 2 => (clear_value u_; revert u_; intros))) | (clear_value u_; revert u_; intros) | (revert u_; intros))
    | with_reducible assumption
    | with_reducible apply SameBut.refl
    | ((with_reducible apply SameBut.step (k := onBb_same _ _ _)); (case hl => rfl))
    | ((with_reducible apply SameBut.step (k := raise_same _ _ _)); (case hl => rfl))
    | split
    | dsimp only

theorem bbIdle_same (b : Fin 2) (s : State) : SameBut [.host, .maint, .ev, .gnss, .log] s (bbIdle b s) := by
  unfold bbIdle
  repeat' first
    | (extract_lets +onlyGivenNames u_; first | (apply SameBut.gen (u := u_); (on_goal 1 => (dsimp -zeta -zetaHave only [u_]; clear u_)); (on_goal 2 => (clear_value u_; revert u_; intros))) | (clear_value u_; revert u_; intros) | (revert u_; intros))
    | with_reducible assumption
    | with_reducible apply SameBut.refl
    | ((with_reducible apply SameBut.step (k := onBb_same _ _ _)); (case hl => rfl))
    | ((with_reducible apply SameBut.step (k := setFix_same _ _ _)); (case hl => rfl))
    | split
    | dsimp only

theorem bbFail_same (b : Fin 2) (s : State) : SameBut [.host, .maint, .ev, .gnss, .log] s (bbFail b s) := by
  unfold bbFail
  repeat' first
    | (extract_lets +onlyGivenNames u_; first | (apply SameBut.gen (u := u_); (on_goal 1 => (dsimp -zeta -zetaHave only [u_]; clear u_)); (on_goal 2 => (clear_value u_; revert u_; intros))) | (clear_value u_; revert u_; intros) | (revert u_; intros))
    | with_reducible assumption
    | with_reducible apply SameBut.refl
    | ((with_reducible apply SameBut.step (k := bbIdle_same _ _)); (case hl => rfl))
    | ((with_reducible apply SameBut.step (k := onBb_same _ _ _)); (case hl => rfl))
    | ((with_reducible apply SameBut.step (k := raise_same _ _ _)); (case hl => rfl))
    | split
    | dsimp only

theorem bbRestart_same (start : Nat) (b : Fin 2) (s : State) : SameBut [.host, .maint, .ev, .gnss, .log] s (bbRestart start b s) := by
  unfold bbRestart
  repeat' first
    | (extract_lets +onlyGivenNames u_; first | (apply SameBut.gen (u := u_); (on_goal 1 => (dsimp -zeta -zetaHave only [u_]; clear u_)); (on_goal 2 => (clear_value u_; revert u_; intros))) | (clear_value u_; revert u_; intros) | (revert u_; intros))
    | with_reducible assumption
    | with_reducible apply SameBut.refl
    | ((with_reducible apply SameBut.step (k := bbIdle_same _ _)); (case hl => rfl))
    | ((with_reducible apply SameBut.step (k := onBb_same _ _ _)); (case hl => rfl))
    | ((with_reducible apply SameBut.step (k := setFix_same _ _ _)); (case hl => rfl))
    | split
    | dsimp only

theorem dropHeading_same (s : State) : SameBut [.time, .gnss, .solv, .free] s (dropHeading s) := by
  unfold dropHeading
  repeat' first
    | (extract_lets +onlyGivenNames u_; first | (apply SameBut.gen (u := u_); (on_goal 1 => (dsimp -zeta -zetaHave only [u_]; clear u_)); (on_goal 2 => (clear_value u_; revert u_; intros))) | (clear_value u_; revert u_; intros) | (revert u_; intros))
    | with_reducible assumption
    | with_reducible apply SameBut.refl
    | ((with_reducible apply SameBut.onGnss); (case hl => rfl))
    | ((with_reducible apply SameBut.step (k := advanceTo_same _ _)); (case hl => rfl))
    | ((with_reducible apply SameBut.step (k := cancelDp_same _ _)); (case hl => rfl))
    | split
    | dsimp only

theorem measStream_same (b : Fin 2) (used : List Nat) (s : State) : SameBut [.host, .maint] s (measStream b used s) := by
  unfold measStream
  repeat' first
    | (extract_lets +onlyGivenNames u_; first | (apply SameBut.gen (u := u_); (on_goal 1 => (dsimp -zeta -zetaHave only [u_]; clear u_)); (on_goal 2 => (clear_value u_; revert u_; intros))) | (clear_value u_; revert u_; intros) | (revert u_; intros))
    | with_reducible assumption
    | with_reducible apply SameBut.refl
    | ((with_reducible apply SameBut.step (k := stream_same _ _ _ _)); (case hl => rfl))
    | split
    | dsimp only

theorem tightReset_same (b : Fin 2) (s : State) : SameBut [.fus] s (tightReset b s) := by
  unfold tightReset
  repeat' first
    | (extract_lets +onlyGivenNames u_; first | (apply SameBut.gen (u := u_); (on_goal 1 => (dsimp -zeta -zetaHave only [u_]; clear u_)); (on_goal 2 => (clear_value u_; revert u_; intros))) | (clear_value u_; revert u_; intros) | (revert u_; intros))
    | with_reducible assumption
    | with_reducible apply SameBut.refl
    | ((with_reducible apply SameBut.step (k := onSlot_same _ _ _)); (case hl => rfl))
    | with_reducible apply SameBut.foldl
    | with_reducible intro _
    | split
    | dsimp only

theorem dropSolution_same (b : Fin 2) (s : State) : SameBut [.host, .maint, .ev, .time, .gnss, .fus, .solv, .log, .free] s (dropSolution b s) := by
  unfold dropSolution
  repeat' first
    | (extract_lets +onlyGivenNames u_; first | (apply SameBut.gen (u := u_); (on_goal 1 => (dsimp -zeta -zetaHave only [u_]; clear u_)); (on_goal 2 => (clear_value u_; revert u_; intros))) | (clear_value u_; revert u_; intros) | (revert u_; intros))
    | with_reducible assumption
    | with_reducible apply SameBut.refl
    | ((with_reducible apply SameBut.step (k := advanceTo_same _ _)); (case hl => rfl))
    | ((with_reducible apply SameBut.step (k := cancelDp_same _ _)); (case hl => rfl))
    | ((with_reducible apply SameBut.step (k := measStream_same _ _ _)); (case hl => rfl))
    | ((with_reducible apply SameBut.step (k := onBb_same _ _ _)); (case hl => rfl))
    | ((with_reducible apply SameBut.step (k := setFix_same _ _ _)); (case hl => rfl))
    | ((with_reducible apply SameBut.step (k := tightReset_same _ _)); (case hl => rfl))
    | split
    | dsimp only

theorem setAnt_same (a : Fin 2) (cls : Nat) (s : State) : SameBut [.host, .maint, .ev, .gnss, .log] s (setAnt a cls s) := by
  unfold setAnt
  repeat' first
    | (extract_lets +onlyGivenNames u_; first | (apply SameBut.gen (u := u_); (on_goal 1 => (dsimp -zeta -zetaHave only [u_]; clear u_)); (on_goal 2 => (clear_value u_; revert u_; intros))) | (clear_value u_; revert u_; intros) | (revert u_; intros))
    | with_reducible assumption
    | with_reducible apply SameBut.refl
    | ((with_reducible apply SameBut.step (k := onBb_same _ _ _)); (case hl => rfl))
    | ((with_reducible apply SameBut.step (k := raise_same _ _ _)); (case hl => rfl))
    | split
    | dsimp only

theorem execAntennaShortRetry_same (a : Fin 2) (stillShort : Bool) (s : State) {t_ : State} (h_ : execAntennaShortRetry a stillShort s = .next t_) : SameBut [.host, .maint, .ev, .time, .gnss, .log] s t_ := by
  unfold execAntennaShortRetry at h_
  injection h_ with h_
  subst h_
  repeat' first
    | (extract_lets +onlyGivenNames u_; first | (apply SameBut.gen (u := u_); (on_goal 1 => (dsimp -zeta -zetaHave only [u_]; clear u_)); (on_goal 2 => (clear_value u_; revert u_; intros))) | (clear_value u_; revert u_; intros) | (revert u_; intros))
    | with_reducible assumption
    | with_reducible apply SameBut.refl
    | ((with_reducible apply SameBut.step (k := advanceTo_same _ _)); (case hl => rfl))
    | ((with_reducible apply SameBut.step (k := onBb_same _ _ _)); (case hl => rfl))
    | ((with_reducible apply SameBut.step (k := setAnt_same _ _ _)); (case hl => rfl))
    | split
    | dsimp only

theorem execAntennaStateChange_same (a : Fin 2) (cls : Fin 4) (s : State) {t_ : State} (h_ : execAntennaStateChange a cls s = .next t_) : SameBut [.host, .maint, .ev, .gnss, .log] s t_ := by
  unfold execAntennaStateChange at h_
  injection h_ with h_
  subst h_
  repeat' first
    | (extract_lets +onlyGivenNames u_; first | (apply SameBut.gen (u := u_); (on_goal 1 => (dsimp -zeta -zetaHave only [u_]; clear u_)); (on_goal 2 => (clear_value u_; revert u_; intros))) | (clear_value u_; revert u_; intros) | (revert u_; intros))
    | with_reducible assumption
    | with_reducible apply SameBut.refl
    | ((with_reducible apply SameBut.step (k := setAnt_same _ _ _)); (case hl => rfl))
    | split
    | dsimp only

theorem onChan_same (b : Fin 2) (c : Fin 32) (f : Channel → Channel) (s : State) : SameBut [.gnss] s (onChan b c f s) := by
  unfold onChan
  repeat' first
    | (extract_lets +onlyGivenNames u_; first | (apply SameBut.gen (u := u_); (on_goal 1 => (dsimp -zeta -zetaHave only [u_]; clear u_)); (on_goal 2 => (clear_value u_; revert u_; intros))) | (clear_value u_; revert u_; intros) | (revert u_; intros))
    | with_reducible assumption
    | with_reducible apply SameBut.refl
    | ((with_reducible apply SameBut.step (k := onBb_same _ _ _)); (case hl => rfl))
    | split
    | dsimp only

theorem execChannelAcquisition_same (b : Fin 2) (ch : Fin 32) (prn : Nat) (st : Fin 6) (s : State) {t_ : State} (h_ : execChannelAcquisition b ch prn st s = .next t_) : SameBut [.gnss] s t_ := by
  unfold execChannelAcquisition at h_
  injection h_ with h_
  subst h_
  repeat' first
    | (extract_lets +onlyGivenNames u_; first | (apply SameBut.gen (u := u_); (on_goal 1 => (dsimp -zeta -zetaHave only [u_]; clear u_)); (on_goal 2 => (clear_value u_; revert u_; intros))) | (clear_value u_; revert u_; intros) | (revert u_; intros))
    | with_reducible assumption
    | with_reducible apply SameBut.refl
    | ((with_reducible apply SameBut.step (k := onChan_same _ _ _ _)); (case hl => rfl))
    | split
    | dsimp only

theorem execChannelLossOfLock_same (b : Fin 2) (ch : Fin 32) (s : State) {t_ : State} (h_ : execChannelLossOfLock b ch s = .next t_) : SameBut [.gnss] s t_ := by
  unfold execChannelLossOfLock at h_
  injection h_ with h_
  subst h_
  repeat' first
    | (extract_lets +onlyGivenNames u_; first | (apply SameBut.gen (u := u_); (on_goal 1 => (dsimp -zeta -zetaHave only [u_]; clear u_)); (on_goal 2 => (clear_value u_; revert u_; intros))) | (clear_value u_; revert u_; intros) | (revert u_; intros))
    | with_reducible assumption
    | with_reducible apply SameBut.refl
    | ((with_reducible apply SameBut.step (k := onChan_same _ _ _ _)); (case hl => rfl))
    | split
    | dsimp only

theorem execCycleSlip_same (b : Fin 2) (ch : Fin 32) (s : State) {t_ : State} (h_ : execCycleSlip b ch s = .next t_) : SameBut [.gnss] s t_ := by
  unfold execCycleSlip at h_
  injection h_ with h_
  subst h_
  repeat' first
    | (extract_lets +onlyGivenNames u_; first | (apply SameBut.gen (u := u_); (on_goal 1 => (dsimp -zeta -zetaHave only [u_]; clear u_)); (on_goal 2 => (clear_value u_; revert u_; intros))) | (clear_value u_; revert u_; intros) | (revert u_; intros))
    | with_reducible assumption
    | with_reducible apply SameBut.refl
    | ((with_reducible apply SameBut.step (k := onChan_same _ _ _ _)); (case hl => rfl))
    | split
    | dsimp only

theorem gnssWake_same (b : Fin 2) (s : State) : SameBut [.host, .maint, .ev, .gnss, .log] s (gnssWake b s) := by
  unfold gnssWake
  repeat' first
    | (extract_lets +onlyGivenNames u_; first | (apply SameBut.gen (u := u_); (on_goal 1 => (dsimp -zeta -zetaHave only [u_]; clear u_)); (on_goal 2 => (clear_value u_; revert u_; intros))) | (clear_value u_; revert u_; intros) | (revert u_; intros))
    | with_reducible assumption
    | with_reducible apply SameBut.refl
    | ((with_reducible apply SameBut.step (k := onBb_same _ _ _)); (case hl => rfl))
    | ((with_reducible apply SameBut.step (k := setFix_same _ _ _)); (case hl => rfl))
    | split
    | dsimp only

theorem execGnssConfig_same (p : Port) (s : State) {t_ : State} (h_ : execGnssConfig p s = .next t_) : SameBut [.host, .maint, .ev, .sys, .dpx, .cfg, .log] s t_ := by
  unfold execGnssConfig at h_
  injection h_ with h_
  subst h_
  repeat' first
    | (extract_lets +onlyGivenNames u_; first | (apply SameBut.gen (u := u_); (on_goal 1 => (dsimp -zeta -zetaHave only [u_]; clear u_)); (on_goal 2 => (clear_value u_; revert u_; intros))) | (clear_value u_; revert u_; intros) | (revert u_; intros))
    | with_reducible assumption
    | with_reducible apply SameBut.refl
    | ((with_reducible apply SameBut.step (k := configRow_same _ _ _ _)); (case hl => rfl))
    | split
    | dsimp only

theorem setHdg_same (st reason : Nat) (s : State) : SameBut [.host, .maint, .ev, .gnss, .log] s (setHdg st reason s) := by
  unfold setHdg
  repeat' first
    | (extract_lets +onlyGivenNames u_; first | (apply SameBut.gen (u := u_); (on_goal 1 => (dsimp -zeta -zetaHave only [u_]; clear u_)); (on_goal 2 => (clear_value u_; revert u_; intros))) | (clear_value u_; revert u_; intros) | (revert u_; intros))
    | with_reducible assumption
    | with_reducible apply SameBut.refl
    | ((with_reducible apply SameBut.onGnss); (case hl => rfl))
    | ((with_reducible apply SameBut.step (k := raise_same _ _ _)); (case hl => rfl))
    | split
    | dsimp only

theorem gnssTakes_same (old s : State) : SameBut [.host, .maint, .ev, .gnss, .log] s (gnssTakes old s) := by
  unfold gnssTakes
  repeat' first
    | (extract_lets +onlyGivenNames u_; first | (apply SameBut.gen (u := u_); (on_goal 1 => (dsimp -zeta -zetaHave only [u_]; clear u_)); (on_goal 2 => (clear_value u_; revert u_; intros))) | (clear_value u_; revert u_; intros) | (revert u_; intros))
    | with_reducible assumption
    | with_reducible apply SameBut.refl
    | ((with_reducible apply SameBut.onGnss); (case hl => rfl))
    | ((with_reducible apply SameBut.step (k := bbIdle_same _ _)); (case hl => rfl))
    | ((with_reducible apply SameBut.step (k := setAnt_same _ _ _)); (case hl => rfl))
    | ((with_reducible apply SameBut.step (k := setHdg_same _ _ _)); (case hl => rfl))
    | with_reducible apply SameBut.foldl
    | with_reducible intro _
    | split
    | dsimp only

theorem rtcmCheck_same (at_ : Nat) (s : State) : SameBut [.host, .maint, .ev, .gnss, .log] s (rtcmCheck at_ s) := by
  unfold rtcmCheck
  repeat' first
    | (extract_lets +onlyGivenNames u_; first | (apply SameBut.gen (u := u_); (on_goal 1 => (dsimp -zeta -zetaHave only [u_]; clear u_)); (on_goal 2 => (clear_value u_; revert u_; intros))) | (clear_value u_; revert u_; intros) | (revert u_; intros))
    | with_reducible assumption
    | with_reducible apply SameBut.refl
    | ((with_reducible apply SameBut.onGnss); (case hl => rfl))
    | ((with_reducible apply SameBut.step (k := raise_same _ _ _)); (case hl => rfl))
    | split
    | dsimp only

theorem firstDatum_same (lat lon height : Int) (s : State) : SameBut [.fus, .dpc] s (firstDatum lat lon height s) := by
  unfold firstDatum
  repeat' first
    | (extract_lets +onlyGivenNames u_; first | (apply SameBut.gen (u := u_); (on_goal 1 => (dsimp -zeta -zetaHave only [u_]; clear u_)); (on_goal 2 => (clear_value u_; revert u_; intros))) | (clear_value u_; revert u_; intros) | (revert u_; intros))
    | with_reducible assumption
    | with_reducible apply SameBut.refl
    | ((with_reducible apply SameBut.step (k := datumTakes_same _ _ _)); (case hl => rfl))
    | split
    | dsimp only

theorem tightSlot_same (m : EpochIn) (b : Fin 2) (s : State) : SameBut [.host, .maint, .ev, .fus, .dpc, .log] s (tightSlot m b s) := by
  unfold tightSlot
  repeat' first
    | (extract_lets +onlyGivenNames u_; first | (apply SameBut.gen (u := u_); (on_goal 1 => (dsimp -zeta -zetaHave only [u_]; clear u_)); (on_goal 2 => (clear_value u_; revert u_; intros))) | (clear_value u_; revert u_; intros) | (revert u_; intros))
    | with_reducible assumption
    | with_reducible apply SameBut.refl
    | ((with_reducible apply SameBut.step (k := firstDatum_same _ _ _ _)); (case hl => rfl))
    | ((with_reducible apply SameBut.step (k := intakeMeas_same _ _ _)); (case hl => rfl))
    | ((with_reducible apply SameBut.step (k := onSlot_same _ _ _)); (case hl => rfl))
    | with_reducible apply SameBut.foldl
    | with_reducible intro _
    | split
    | dsimp only

theorem execGnssEpoch_same (m : EpochIn) (s : State) {t_ : State} (h_ : execGnssEpoch m s = .next t_) : SameBut [.host, .maint, .ev, .time, .gnss, .fus, .solv, .dpc, .cfg, .log, .free] s t_ := by
  unfold execGnssEpoch at h_
  injection h_ with h_
  subst h_
  repeat' first
    | (extract_lets +onlyGivenNames u_; first | (apply SameBut.gen (u := u_); (on_goal 1 => (dsimp -zeta -zetaHave only [u_]; clear u_)); (on_goal 2 => (clear_value u_; revert u_; intros))) | (clear_value u_; revert u_; intros) | (revert u_; intros))
    | with_reducible assumption
    | with_reducible apply SameBut.refl
    | ((with_reducible apply SameBut.onGnss); (case hl => rfl))
    | ((with_reducible apply SameBut.step (k := advanceTo_same _ _)); (case hl => rfl))
    | ((with_reducible apply SameBut.step (k := dropHeading_same _)); (case hl => rfl))
    | ((with_reducible apply SameBut.step (k := dropSolution_same _ _)); (case hl => rfl))
    | ((with_reducible apply SameBut.step (k := gnssTakes_same _ _)); (case hl => rfl))
    | ((with_reducible apply SameBut.step (k := onBb_same _ _ _)); (case hl => rfl))
    | ((with_reducible apply SameBut.step (k := promote_same _ _)); (case hl => rfl))
    | ((with_reducible apply SameBut.step (k := rtcmCheck_same _ _)); (case hl => rfl))
    | ((with_reducible apply SameBut.step (k := submitOpen_same _ _ _)); (case hl => rfl))
    | ((with_reducible apply SameBut.step (k := tightSlot_same _ _ _)); (case hl => rfl))
    | with_reducible apply SameBut.foldl
    | with_reducible intro _
    | split
    | dsimp only

theorem execGnssFault_same (b : Fin 2) (s : State) {t_ : State} (h_ : execGnssFault b s = .next t_) : SameBut [.host, .maint, .ev, .gnss, .log] s t_ := by
  unfold execGnssFault at h_
  injection h_ with h_
  subst h_
  repeat' first
    | (extract_lets +onlyGivenNames u_; first | (apply SameBut.gen (u := u_); (on_goal 1 => (dsimp -zeta -zetaHave only [u_]; clear u_)); (on_goal 2 => (clear_value u_; revert u_; intros))) | (clear_value u_; revert u_; intros) | (revert u_; intros))
    | with_reducible assumption
    | with_reducible apply SameBut.refl
    | ((with_reducible apply SameBut.step (k := bbFail_same _ _)); (case hl => rfl))
    | split
    | dsimp only

theorem execGnssHdgConfig_same (p : Port) (s : State) {t_ : State} (h_ : execGnssHdgConfig p s = .next t_) : SameBut [.host, .maint, .ev, .sys, .dpx, .cfg, .log] s t_ := by
  unfold execGnssHdgConfig at h_
  injection h_ with h_
  subst h_
  repeat' first
    | (extract_lets +onlyGivenNames u_; first | (apply SameBut.gen (u := u_); (on_goal 1 => (dsimp -zeta -zetaHave only [u_]; clear u_)); (on_goal 2 => (clear_value u_; revert u_; intros))) | (clear_value u_; revert u_; intros) | (revert u_; intros))
    | with_reducible assumption
    | with_reducible apply SameBut.refl
    | ((with_reducible apply SameBut.step (k := configRow_same _ _ _ _)); (case hl => rfl))
    | split
    | dsimp only

theorem hdgFixedStep_same (h : HdgIn) (s : State) : SameBut [.host, .maint, .ev, .gnss, .log] s (hdgFixedStep h s) := by
  unfold hdgFixedStep
  repeat' first
    | (extract_lets +onlyGivenNames u_; first | (apply SameBut.gen (u := u_); (on_goal 1 => (dsimp -zeta -zetaHave only [u_]; clear u_)); (on_goal 2 => (clear_value u_; revert u_; intros))) | (clear_value u_; revert u_; intros) | (revert u_; intros))
    | with_reducible assumption
    | with_reducible apply SameBut.refl
    | ((with_reducible apply SameBut.onGnss); (case hl => rfl))
    | ((with_reducible apply SameBut.step (k := setHdg_same _ _ _)); (case hl => rfl))
    | split
    | dsimp only

theorem hdgSearch_same (h : HdgIn) (s : State) : SameBut [.host, .maint, .ev, .gnss, .log] s (hdgSearch h s) := by
  unfold hdgSearch
  repeat' first
    | (extract_lets +onlyGivenNames u_; first | (apply SameBut.gen (u := u_); (on_goal 1 => (dsimp -zeta -zetaHave only [u_]; clear u_)); (on_goal 2 => (clear_value u_; revert u_; intros))) | (clear_value u_; revert u_; intros) | (revert u_; intros))
    | with_reducible assumption
    | with_reducible apply SameBut.refl
    | ((with_reducible apply SameBut.onGnss); (case hl => rfl))
    | ((with_reducible apply SameBut.step (k := setHdg_same _ _ _)); (case hl => rfl))
    | split
    | dsimp only

theorem execGnssHeadingComplete_same (h : HdgIn) (s : State) {t_ : State} (h_ : execGnssHeadingComplete h s = .next t_) : SameBut [.host, .maint, .ev, .time, .gnss, .fus, .solv, .log, .free] s t_ := by
  unfold execGnssHeadingComplete at h_
  injection h_ with h_
  subst h_
  repeat' first
    | (extract_lets +onlyGivenNames u_; first | (apply SameBut.gen (u := u_); (on_goal 1 => (dsimp -zeta -zetaHave only [u_]; clear u_)); (on_goal 2 => (clear_value u_; revert u_; intros))) | (clear_value u_; revert u_; intros) | (revert u_; intros))
    | with_reducible assumption
    | with_reducible apply SameBut.refl
    | ((with_reducible apply SameBut.onGnss); (case hl => rfl))
    | ((with_reducible apply SameBut.step (k := advanceTo_same _ _)); (case hl => rfl))
    | ((with_reducible apply SameBut.step (k := dropHeading_same _)); (case hl => rfl))
    | ((with_reducible apply SameBut.step (k := finishDp_same _ _)); (case hl => rfl))
    | ((with_reducible apply SameBut.step (k := hdgFixedStep_same _ _)); (case hl => rfl))
    | ((with_reducible apply SameBut.step (k := hdgSearch_same _ _)); (case hl => rfl))
    | ((with_reducible apply SameBut.step (k := intakeMeas_same _ _ _)); (case hl => rfl))
    | ((with_reducible apply SameBut.step (k := stream_same _ _ _ _)); (case hl => rfl))
    | with_reducible apply SameBut.foldl
    | with_reducible intro _
    | split
    | dsimp only

theorem execGnssInterference_same (b : Fin 2) (noise avg : Int) (s : State) {t_ : State} (h_ : execGnssInterference b noise avg s = .next t_) : SameBut [.host, .maint, .ev, .gnss, .log] s t_ := by
  unfold execGnssInterference at h_
  injection h_ with h_
  subst h_
  repeat' first
    | (extract_lets +onlyGivenNames u_; first | (apply SameBut.gen (u := u_); (on_goal 1 => (dsimp -zeta -zetaHave only [u_]; clear u_)); (on_goal 2 => (clear_value u_; revert u_; intros))) | (clear_value u_; revert u_; intros) | (revert u_; intros))
    | with_reducible assumption
    | with_reducible apply SameBut.refl
    | ((with_reducible apply SameBut.step (k := onBb_same _ _ _)); (case hl => rfl))
    | ((with_reducible apply SameBut.step (k := raise_same _ _ _)); (case hl => rfl))
    | split
    | dsimp only

theorem execGnssRestart_same (p : Port) (s : State) {t_ : State} (h_ : execGnssRestart p s = .next t_) : SameBut [.host, .maint, .ev, .sys, .gnss, .log] s t_ := by
  unfold execGnssRestart at h_
  injection h_ with h_
  subst h_
  repeat' first
    | (extract_lets +onlyGivenNames u_; first | (apply SameBut.gen (u := u_); (on_goal 1 => (dsimp -zeta -zetaHave only [u_]; clear u_)); (on_goal 2 => (clear_value u_; revert u_; intros))) | (clear_value u_; revert u_; intros) | (revert u_; intros))
    | with_reducible assumption
    | with_reducible apply SameBut.refl
    | ((with_reducible apply SameBut.onGnss); (case hl => rfl))
    | ((with_reducible apply SameBut.step (k := bbRestart_same _ _ _)); (case hl => rfl))
    | ((with_reducible apply SameBut.step (k := commit_same _ _ _)); (case hl => rfl))
    | ((with_reducible apply SameBut.step (k := ok_same _ _ _ _ _)); (case hl => rfl))
    | ((with_reducible apply SameBut.step (k := pending_same _ _ _ _)); (case hl => rfl))
    | ((with_reducible apply SameBut.runOp); (case hl => rfl))
    | with_reducible apply SameBut.foldl
    | with_reducible intro _
    | split
    | dsimp only

theorem execGnssRtcmConfig_same (p : Port) (s : State) {t_ : State} (h_ : execGnssRtcmConfig p s = .next t_) : SameBut [.host, .maint, .ev, .sys, .dpx, .cfg, .log] s t_ := by
  unfold execGnssRtcmConfig at h_
  injection h_ with h_
  subst h_
  repeat' first
    | (extract_lets +onlyGivenNames u_; first | (apply SameBut.gen (u := u_); (on_goal 1 => (dsimp -zeta -zetaHave only [u_]; clear u_)); (on_goal 2 => (clear_value u_; revert u_; intros))) | (clear_value u_; revert u_; intros) | (revert u_; intros))
    | with_reducible assumption
    | with_reducible apply SameBut.refl
    | ((with_reducible apply SameBut.step (k := configRow_same _ _ _ _)); (case hl => rfl))
    | split
    | dsimp only

theorem solutionSlot_same (b : Fin 2) (q : PvtIn) (s : State) : SameBut [.host, .maint, .ev, .fus, .dpc, .log] s (solutionSlot b q s) := by
  unfold solutionSlot
  repeat' first
    | (extract_lets +onlyGivenNames u_; first | (apply SameBut.gen (u := u_); (on_goal 1 => (dsimp -zeta -zetaHave only [u_]; clear u_)); (on_goal 2 => (clear_value u_; revert u_; intros))) | (clear_value u_; revert u_; intros) | (revert u_; intros))
    | with_reducible assumption
    | with_reducible apply SameBut.refl
    | ((with_reducible apply SameBut.step (k := firstDatum_same _ _ _ _)); (case hl => rfl))
    | ((with_reducible apply SameBut.step (k := intakeMeas_same _ _ _)); (case hl => rfl))
    | ((with_reducible apply SameBut.step (k := onSlot_same _ _ _)); (case hl => rfl))
    | ((with_reducible apply SameBut.step (k := raise_same _ _ _)); (case hl => rfl))
    | with_reducible apply SameBut.foldl
    | with_reducible intro _
    | split
    | dsimp only

theorem publishFix_same (b : Fin 2) (q : PvtIn) (used : List Nat) (integ excl : Nat) (s : State) : SameBut [.host, .maint, .ev, .gnss, .fus, .dpc, .log] s (publishFix b q used integ excl s) := by
  unfold publishFix
  repeat' first
    | (extract_lets +onlyGivenNames u_; first | (apply SameBut.gen (u := u_); (on_goal 1 => (dsimp -zeta -zetaHave only [u_]; clear u_)); (on_goal 2 => (clear_value u_; revert u_; intros))) | (clear_value u_; revert u_; intros) | (revert u_; intros))
    | with_reducible assumption
    | with_reducible apply SameBut.refl
    | ((with_reducible apply SameBut.onGnss); (case hl => rfl))
    | ((with_reducible apply SameBut.step (k := onBb_same _ _ _)); (case hl => rfl))
    | ((with_reducible apply SameBut.step (k := setFix_same _ _ _)); (case hl => rfl))
    | ((with_reducible apply SameBut.step (k := solutionSlot_same _ _ _)); (case hl => rfl))
    | ((with_reducible apply SameBut.step (k := stream_same _ _ _ _)); (case hl => rfl))
    | split
    | dsimp only

theorem solutionTime_same (b : Fin 2) (q : PvtIn) (fixed : Bool) (s : State) : SameBut [.host, .maint, .ev, .time, .gnss, .log] s (solutionTime b q fixed s) := by
  unfold solutionTime
  repeat' first
    | (extract_lets +onlyGivenNames u_; first | (apply SameBut.gen (u := u_); (on_goal 1 => (dsimp -zeta -zetaHave only [u_]; clear u_)); (on_goal 2 => (clear_value u_; revert u_; intros))) | (clear_value u_; revert u_; intros) | (revert u_; intros))
    | with_reducible assumption
    | with_reducible apply SameBut.refl
    | ((with_reducible apply SameBut.step (k := onBb_same _ _ _)); (case hl => rfl))
    | ((with_reducible apply SameBut.step (k := timeSolution_same _ _)); (case hl => rfl))
    | split
    | dsimp only

theorem execGnssSolutionComplete_same (b : Fin 2) (q : PvtIn) (s : State) {t_ : State} (h_ : execGnssSolutionComplete b q s = .next t_) : SameBut [.host, .maint, .ev, .time, .gnss, .fus, .solv, .dpc, .log, .free] s t_ := by
  unfold execGnssSolutionComplete at h_
  injection h_ with h_
  subst h_
  repeat' first
    | (extract_lets +onlyGivenNames u_; first | (apply SameBut.gen (u := u_); (on_goal 1 => (dsimp -zeta -zetaHave only [u_]; clear u_)); (on_goal 2 => (clear_value u_; revert u_; intros))) | (clear_value u_; revert u_; intros) | (revert u_; intros))
    | with_reducible assumption
    | with_reducible apply SameBut.refl
    | ((with_reducible apply SameBut.step (k := advanceTo_same _ _)); (case hl => rfl))
    | ((with_reducible apply SameBut.step (k := dropSolution_same _ _)); (case hl => rfl))
    | ((with_reducible apply SameBut.step (k := finishDp_same _ _)); (case hl => rfl))
    | ((with_reducible apply SameBut.step (k := measStream_same _ _ _)); (case hl => rfl))
    | ((with_reducible apply SameBut.step (k := onBb_same _ _ _)); (case hl => rfl))
    | ((with_reducible apply SameBut.step (k := publishFix_same _ _ _ _ _ _)); (case hl => rfl))
    | ((with_reducible apply SameBut.step (k := setFix_same _ _ _)); (case hl => rfl))
    | ((with_reducible apply SameBut.step (k := solutionTime_same _ _ _ _)); (case hl => rfl))
    | ((with_reducible apply SameBut.step (k := tightReset_same _ _)); (case hl => rfl))
    | split
    | dsimp only

theorem execGnssSolutionTimeout_same (w : Fin 3) (s : State) {t_ : State} (h_ : execGnssSolutionTimeout w s = .next t_) : SameBut [.host, .maint, .ev, .time, .gnss, .fus, .solv, .log, .free] s t_ := by
  unfold execGnssSolutionTimeout at h_
  injection h_ with h_
  subst h_
  repeat' first
    | (extract_lets +onlyGivenNames u_; first | (apply SameBut.gen (u := u_); (on_goal 1 => (dsimp -zeta -zetaHave only [u_]; clear u_)); (on_goal 2 => (clear_value u_; revert u_; intros))) | (clear_value u_; revert u_; intros) | (revert u_; intros))
    | with_reducible assumption
    | with_reducible apply SameBut.refl
    | ((with_reducible apply SameBut.step (k := dropHeading_same _)); (case hl => rfl))
    | ((with_reducible apply SameBut.step (k := dropSolution_same _ _)); (case hl => rfl))
    | split
    | dsimp only

theorem execGnssStream_same (p : Port) (s : State) {t_ : State} (h_ : execGnssStream p s = .next t_) : SameBut [.host, .maint, .sys, .subs] s t_ := by
  unfold execGnssStream at h_
  injection h_ with h_
  subst h_
  repeat' first
    | (extract_lets +onlyGivenNames u_; first | (apply SameBut.gen (u := u_); (on_goal 1 => (dsimp -zeta -zetaHave only [u_]; clear u_)); (on_goal 2 => (clear_value u_; revert u_; intros))) | (clear_value u_; revert u_; intros) | (revert u_; intros))
    | with_reducible assumption
    | with_reducible apply SameBut.refl
    | ((with_reducible apply SameBut.step (k := ok_same _ _ _ _ _)); (case hl => rfl))
    | ((with_reducible apply SameBut.step (k := subscribe_same _ _ _ _ _ _)); (case hl => rfl))
    | ((with_reducible apply SameBut.runOp); (case hl => rfl))
    | with_reducible apply SameBut.foldl
    | with_reducible intro _
    | split
    | dsimp only

theorem storeSet_same (i : Fin 32) (set : List Nat) (s : State) : SameBut [.host, .maint, .ev, .gnss, .log] s (storeSet i set s) := by
  unfold storeSet
  repeat' first
    | (extract_lets +onlyGivenNames u_; first | (apply SameBut.gen (u := u_); (on_goal 1 => (dsimp -zeta -zetaHave only [u_]; clear u_)); (on_goal 2 => (clear_value u_; revert u_; intros))) | (dsimp -zeta -zetaHave only [u_]; clear u_) | (clear_value u_; revert u_; intros) | (revert u_; intros))
    | with_reducible assumption
    | with_reducible apply SameBut.refl
    | ((with_reducible apply SameBut.onGnss); (case hl => rfl))
    | ((with_reducible apply SameBut.step (k := raise_same _ _ _)); (case hl => rfl))
    | split
    | dsimp only

theorem subframeDone_same (b : Fin 2) (ch : Fin 32) (s : State) : SameBut [.host, .maint, .ev, .gnss, .log] s (subframeDone b ch s) := by
  unfold subframeDone
  repeat' first
    | (extract_lets +onlyGivenNames u_; first | (apply SameBut.gen (u := u_); (on_goal 1 => (dsimp -zeta -zetaHave only [u_]; clear u_)); (on_goal 2 => (clear_value u_; revert u_; intros))) | (clear_value u_; revert u_; intros) | (revert u_; intros))
    | with_reducible assumption
    | with_reducible apply SameBut.refl
    | ((with_reducible apply SameBut.onGnss); (case hl => rfl))
    | ((with_reducible apply SameBut.step (k := onChan_same _ _ _ _)); (case hl => rfl))
    | ((with_reducible apply SameBut.step (k := storeSet_same _ _ _)); (case hl => rfl))
    | split
    | dsimp only

theorem execNavWordDecoded_same (b : Fin 2) (ch : Fin 32) (idx : Fin 10) (raw : BitVec 30) (s : State) {t_ : State} (h_ : execNavWordDecoded b ch idx raw s = .next t_) : SameBut [.host, .maint, .ev, .gnss, .log] s t_ := by
  unfold execNavWordDecoded at h_
  injection h_ with h_
  subst h_
  repeat' first
    | (extract_lets +onlyGivenNames u_; first | (apply SameBut.gen (u := u_); (on_goal 1 => (dsimp -zeta -zetaHave only [u_]; clear u_)); (on_goal 2 => (clear_value u_; revert u_; intros))) | (clear_value u_; revert u_; intros) | (revert u_; intros))
    | with_reducible assumption
    | with_reducible apply SameBut.refl
    | ((with_reducible apply SameBut.step (k := onChan_same _ _ _ _)); (case hl => rfl))
    | ((with_reducible apply SameBut.step (k := stream_same _ _ _ _)); (case hl => rfl))
    | ((with_reducible apply SameBut.step (k := subframeDone_same _ _ _)); (case hl => rfl))
    | split
    | dsimp only

theorem take1004_same (m : List Byte) (s : State) : SameBut [.host, .maint, .ev, .gnss, .log] s (take1004 m s) := by
  unfold take1004
  repeat' first
    | (extract_lets +onlyGivenNames u_; first | (apply SameBut.gen (u := u_); (on_goal 1 => (dsimp -zeta -zetaHave only [u_]; clear u_)); (on_goal 2 => (clear_value u_; revert u_; intros))) | (clear_value u_; revert u_; intros) | (revert u_; intros))
    | with_reducible assumption
    | with_reducible apply SameBut.refl
    | ((with_reducible apply SameBut.onGnss); (case hl => rfl))
    | ((with_reducible apply SameBut.step (k := rtcmCheck_same _ _)); (case hl => rfl))
    | split
    | dsimp only

theorem take1005_same (m : List Byte) (s : State) : SameBut [.host, .maint, .ev, .gnss, .log] s (take1005 m s) := by
  unfold take1005
  repeat' first
    | (extract_lets +onlyGivenNames u_; first | (apply SameBut.gen (u := u_); (on_goal 1 => (dsimp -zeta -zetaHave only [u_]; clear u_)); (on_goal 2 => (clear_value u_; revert u_; intros))) | (clear_value u_; revert u_; intros) | (revert u_; intros))
    | with_reducible assumption
    | with_reducible apply SameBut.refl
    | ((with_reducible apply SameBut.onGnss); (case hl => rfl))
    | ((with_reducible apply SameBut.step (k := rtcmCheck_same _ _)); (case hl => rfl))
    | split
    | dsimp only

theorem execRtcmFrame_same (data : List Byte) (s : State) {t_ : State} (h_ : execRtcmFrame data s = .next t_) : SameBut [.host, .maint, .ev, .gnss, .log] s t_ := by
  unfold execRtcmFrame at h_
  injection h_ with h_
  subst h_
  repeat' first
    | (extract_lets +onlyGivenNames u_; first | (apply SameBut.gen (u := u_); (on_goal 1 => (dsimp -zeta -zetaHave only [u_]; clear u_)); (on_goal 2 => (clear_value u_; revert u_; intros))) | (clear_value u_; revert u_; intros) | (revert u_; intros))
    | with_reducible assumption
    | with_reducible apply SameBut.refl
    | ((with_reducible apply SameBut.onGnss); (case hl => rfl))
    | ((with_reducible apply SameBut.step (k := take1004_same _ _)); (case hl => rfl))
    | ((with_reducible apply SameBut.step (k := take1005_same _ _)); (case hl => rfl))
    | split
    | dsimp only

theorem execTimeSolutionReturn_same (t : TimeSol) (s : State) {t_ : State} (h_ : execTimeSolutionReturn t s = .next t_) : SameBut [.host, .maint, .ev, .time, .gnss, .log] s t_ := by
  unfold execTimeSolutionReturn at h_
  injection h_ with h_
  subst h_
  repeat' first
    | (extract_lets +onlyGivenNames u_; first | (apply SameBut.gen (u := u_); (on_goal 1 => (dsimp -zeta -zetaHave only [u_]; clear u_)); (on_goal 2 => (clear_value u_; revert u_; intros))) | (clear_value u_; revert u_; intros) | (revert u_; intros))
    | with_reducible assumption
    | with_reducible apply SameBut.refl
    | ((with_reducible apply SameBut.step (k := timeSolution_same _ _)); (case hl => rfl))
    | split
    | dsimp only

end Sys2Proof.Machine
end

