-- ==== Sys2Proof/Laws/FrameMaint.lean ====
section
/-! SUPPORT. What each operation of Machine/Maint.lean leaves alone: every part of the state but those listed. -/

namespace Sys2Proof.Machine

set_option linter.all false

theorem execBusMaintConfig_same (p : Port) (s : State) {t_ : State} (h_ : execBusMaintConfig p s = .next t_) : SameBut [.host, .maint, .hp, .ev, .sys, .dpx, .cfg, .log] s t_ := by
  unfold execBusMaintConfig at h_
  injection h_ with h_
  subst h_
  repeat' first
    | (extract_lets +onlyGivenNames u_; first | (apply SameBut.gen (u := u_); (on_goal 1 => (dsimp -zeta -zetaHave only [u_]; clear u_)); (on_goal 2 => (clear_value u_; revert u_; intros))) | (clear_value u_; revert u_; intros) | (revert u_; intros))
    | with_reducible assumption
    | with_reducible apply SameBut.refl
    | ((with_reducible apply SameBut.onHp); (case hl => rfl))
    | ((with_reducible apply SameBut.step (k := configRow_same _ _ _ _)); (case hl => rfl))
    | split
    | dsimp only

theorem maintCut_same (s : State) : SameBut [.host, .maint, .hp, .ev, .sys, .log, .bulk] s (maintCut s) := by
  unfold maintCut
  repeat' first
    | (extract_lets +onlyGivenNames u_; first | (apply SameBut.gen (u := u_); (on_goal 1 => (dsimp -zeta -zetaHave only [u_]; clear u_)); (on_goal 2 => (clear_value u_; revert u_; intros))) | (clear_value u_; revert u_; intros) | (revert u_; intros))
    | with_reducible assumption
    | with_reducible apply SameBut.refl
    | ((with_reducible apply SameBut.onMaint); (case hl => rfl))
    | ((with_reducible apply SameBut.step (k := intake_same _ _)); (case hl => rfl))
    | split
    | dsimp only

theorem maintTake_same (qs : List QWord) (s : State) : SameBut [.host, .maint, .ev, .sys, .log] s (maintTake qs s) := by
  induction qs generalizing s with
  | nil => exact SameBut.refl _ _
  | cons q qs ih =>
    unfold maintTake
    repeat' first
      | (extract_lets +onlyGivenNames u_; first | (apply SameBut.gen (u := u_); (on_goal 1 => (dsimp -zeta -zetaHave only [u_]; clear u_)); (on_goal 2 => (clear_value u_; revert u_; intros))) | (clear_value u_; revert u_; intros) | (revert u_; intros))
      | with_reducible assumption
      | with_reducible apply SameBut.refl
      | ((with_reducible apply SameBut.onMaint); (case hl => rfl))
      | ((with_reducible apply SameBut.step (k := wakeTrigger_same _ _)); (case hl => rfl))
      | (with_reducible apply SameBut.trans (k := ih _))
      | split

theorem execMaintFrameReceive_same (m : MaintFrame) (s : State) {t_ : State} (h_ : execMaintFrameReceive m s = .next t_) : SameBut [.host, .maint, .hp, .ev, .sys, .mnt, .log, .bulk] s t_ := by
  unfold execMaintFrameReceive at h_
  injection h_ with h_
  subst h_
  repeat' first
    | (extract_lets +onlyGivenNames u_; first | (apply SameBut.gen (u := u_); (on_goal 1 => (dsimp -zeta -zetaHave only [u_]; clear u_)); (on_goal 2 => (clear_value u_; revert u_; intros))) | (clear_value u_; revert u_; intros) | (revert u_; intros))
    | with_reducible assumption
    | with_reducible apply SameBut.refl
    | ((with_reducible apply SameBut.onMnt); (case hl => rfl))
    | ((with_reducible apply SameBut.step (k := maintCut_same _)); (case hl => rfl))
    | ((with_reducible apply SameBut.step (k := maintTake_same _ _)); (case hl => rfl))
    | split
    | dsimp only

theorem maintSend_same (first : Bool) (ws : List Word) (s : State) : SameBut [.host, .maint, .ev, .can, .mnt, .log] s (maintSend first ws s) := by
  unfold maintSend
  repeat' first
    | (extract_lets +onlyGivenNames u_; first | (apply SameBut.gen (u := u_); (on_goal 1 => (dsimp -zeta -zetaHave only [u_]; clear u_)); (on_goal 2 => (clear_value u_; revert u_; intros))) | (clear_value u_; revert u_; intros) | (revert u_; intros))
    | with_reducible assumption
    | with_reducible apply SameBut.refl
    | ((with_reducible apply SameBut.onMnt); (case hl => rfl))
    | ((with_reducible apply SameBut.step (k := queueFn_same _ _ _ _)); (case hl => rfl))
    | split
    | dsimp only

theorem execMaintFreeReport_same (s : State) {t_ : State} (h_ : execMaintFreeReport s = .next t_) : SameBut [.host, .maint, .ev, .time, .can, .mnt, .log] s t_ := by
  unfold execMaintFreeReport at h_
  injection h_ with h_
  subst h_
  repeat' first
    | (extract_lets +onlyGivenNames u_; first | (apply SameBut.gen (u := u_); (on_goal 1 => (dsimp -zeta -zetaHave only [u_]; clear u_)); (on_goal 2 => (clear_value u_; revert u_; intros))) | (clear_value u_; revert u_; intros) | (revert u_; intros))
    | with_reducible assumption
    | with_reducible apply SameBut.refl
    | ((with_reducible apply SameBut.onMnt); (case hl => rfl))
    | ((with_reducible apply SameBut.step (k := advanceTo_same _ _)); (case hl => rfl))
    | ((with_reducible apply SameBut.step (k := maintSend_same _ _ _)); (case hl => rfl))
    | split
    | dsimp only

theorem maintLoad_same (s : State) : SameBut [.maint, .mnt] s (maintLoad s) := by
  unfold maintLoad
  repeat' first
    | (extract_lets +onlyGivenNames u_; first | (apply SameBut.gen (u := u_); (on_goal 1 => (dsimp -zeta -zetaHave only [u_]; clear u_)); (on_goal 2 => (clear_value u_; revert u_; intros))) | (clear_value u_; revert u_; intros) | (revert u_; intros))
    | with_reducible assumption
    | with_reducible apply SameBut.refl
    | ((with_reducible apply SameBut.onMaint); (case hl => rfl))
    | ((with_reducible apply SameBut.onMnt); (case hl => rfl))
    | split
    | dsimp only

theorem maintNext_same (s : State) : SameBut [.host, .maint, .ev, .sys, .can, .mnt, .log] s (maintNext s) := by
  unfold maintNext
  repeat' first
    | (extract_lets +onlyGivenNames u_; first | (apply SameBut.gen (u := u_); (on_goal 1 => (dsimp -zeta -zetaHave only [u_]; clear u_)); (on_goal 2 => (clear_value u_; revert u_; intros))) | (clear_value u_; revert u_; intros) | (revert u_; intros))
    | with_reducible assumption
    | with_reducible apply SameBut.refl
    | ((with_reducible apply SameBut.onMaint); (case hl => rfl))
    | ((with_reducible apply SameBut.onMnt); (case hl => rfl))
    | ((with_reducible apply SameBut.onSysMode); (case hl => rfl))
    | (show ∀ _ : SysState, _ ∧ _; intros; repeat' first | exact ⟨rfl, rfl⟩ | split | dsimp only)
    | ((with_reducible apply SameBut.step (k := maintSend_same _ _ _)); (case hl => rfl))
    | split
    | dsimp only

theorem execReplyTransfer_same (p : Port) (s : State) {t_ : State} (h_ : execReplyTransfer p s = .next t_) : SameBut [.host, .maint, .ev, .sys, .can, .mnt, .log] s t_ := by
  unfold execReplyTransfer at h_
  injection h_ with h_
  subst h_
  repeat' first
    | (extract_lets +onlyGivenNames u_; first | (apply SameBut.gen (u := u_); (on_goal 1 => (dsimp -zeta -zetaHave only [u_]; clear u_)); (on_goal 2 => (clear_value u_; revert u_; intros))) | (clear_value u_; revert u_; intros) | (revert u_; intros))
    | with_reducible assumption
    | with_reducible apply SameBut.refl
    | ((with_reducible apply SameBut.step (k := maintLoad_same _)); (case hl => rfl))
    | ((with_reducible apply SameBut.step (k := maintNext_same _)); (case hl => rfl))
    | ((with_reducible apply SameBut.step (k := transferHost_same _)); (case hl => rfl))
    | split
    | dsimp only

end Sys2Proof.Machine
end

