-- ==== Sys2Proof/Laws/FramePower.lean ====
section
/-! SUPPORT. What each operation of Machine/Power.lean leaves alone: every part of the state but those listed. -/

namespace Sys2Proof.Machine

set_option linter.all false

theorem bankRecords_same (s : State) : SameBut [.host, .maint, .ev, .cfg, .log] s (bankRecords s) := by
  unfold bankRecords
  repeat' first
    | (extract_lets +onlyGivenNames u_; first | (apply SameBut.gen (u := u_); (on_goal 1 => (dsimp -zeta -zetaHave only [u_]; clear u_)); (on_goal 2 => (clear_value u_; revert u_; intros))) | (clear_value u_; revert u_; intros) | (revert u_; intros))
    | with_reducible assumption
    | with_reducible apply SameBut.refl
    | ((with_reducible apply SameBut.onCfg); (case hl => rfl))
    | ((with_reducible apply SameBut.step (k := record_same _ _ _ _ _)); (case hl => rfl))
    | with_reducible apply SameBut.foldl
    | with_reducible intro _
    | split
    | dsimp only

theorem countEarly_same (cause : RstCause) (s : State) : SameBut [.sys] s (countEarly cause s) := by
  unfold countEarly
  repeat' first
    | (extract_lets +onlyGivenNames u_; first | (apply SameBut.gen (u := u_); (on_goal 1 => (dsimp -zeta -zetaHave only [u_]; clear u_)); (on_goal 2 => (clear_value u_; revert u_; intros))) | (clear_value u_; revert u_; intros) | (revert u_; intros))
    | with_reducible assumption
    | with_reducible apply SameBut.refl
    | ((with_reducible apply SameBut.onSysMode); (case hl => rfl))
    | (show ∀ _ : SysState, _ ∧ _; intros; repeat' first | exact ⟨rfl, rfl⟩ | split | dsimp only)
    | split
    | dsimp only

theorem resetDies_same (s : State) : SameBut [.host, .maint, .hp, .ev, .sys, .mode, .time, .gnss, .fir, .fus, .solv, .dpc, .alloc, .loop, .kiln, .dpx, .can, .uart, .mnt, .cfg, .log, .bulk, .subs] s (resetDies s) := by
  intro q hq
  cases q <;> first | (refine absurd ?_ hq; decide) | rfl

theorem beginReset_same (cause : RstCause) (s : State) : SameBut [.host, .maint, .hp, .ev, .sys, .mode, .time, .gnss, .fir, .fus, .solv, .dpc, .alloc, .loop, .kiln, .dpx, .can, .uart, .mnt, .cfg, .log, .bulk, .subs] s (beginReset cause s) := by
  unfold beginReset
  repeat' first
    | (extract_lets +onlyGivenNames u_; first | (apply SameBut.gen (u := u_); (on_goal 1 => (dsimp -zeta -zetaHave only [u_]; clear u_)); (on_goal 2 => (clear_value u_; revert u_; intros))) | (clear_value u_; revert u_; intros) | (revert u_; intros))
    | with_reducible assumption
    | with_reducible apply SameBut.refl
    | ((with_reducible apply SameBut.onHp); (case hl => rfl))
    | ((with_reducible apply SameBut.onSys); (case hl => rfl))
    | ((with_reducible apply SameBut.step (k := countEarly_same _ _)); (case hl => rfl))
    | ((with_reducible apply SameBut.step (k := record_same _ _ _ _ _)); (case hl => rfl))
    | ((with_reducible apply SameBut.step (k := resetDies_same _)); (case hl => rfl))
    | split
    | dsimp only

theorem positionLoaded_same (s : State) : SameBut [.dpc] s (positionLoaded s) := by
  unfold positionLoaded
  repeat' first
    | (extract_lets +onlyGivenNames u_; first | (apply SameBut.gen (u := u_); (on_goal 1 => (dsimp -zeta -zetaHave only [u_]; clear u_)); (on_goal 2 => (clear_value u_; revert u_; intros))) | (clear_value u_; revert u_; intros) | (revert u_; intros))
    | with_reducible assumption
    | with_reducible apply SameBut.refl
    | ((with_reducible apply SameBut.onDpc); (case hl => rfl))
    | split
    | dsimp only

theorem reportsLoaded_same (s : State) : SameBut [.hp, .log] s (reportsLoaded s) := by
  unfold reportsLoaded
  repeat' first
    | (extract_lets +onlyGivenNames u_; first | (apply SameBut.gen (u := u_); (on_goal 1 => (dsimp -zeta -zetaHave only [u_]; clear u_)); (on_goal 2 => (clear_value u_; revert u_; intros))) | (clear_value u_; revert u_; intros) | (revert u_; intros))
    | with_reducible assumption
    | with_reducible apply SameBut.refl
    | ((with_reducible apply SameBut.onHp); (case hl => rfl))
    | ((with_reducible apply SameBut.onLog); (case hl => rfl))
    | split
    | dsimp only

theorem configLoaded_same (s : State) : SameBut [.hp, .solv, .dpc, .loop, .log] s (configLoaded s) := by
  unfold configLoaded
  repeat' first
    | (extract_lets +onlyGivenNames u_; first | (apply SameBut.gen (u := u_); (on_goal 1 => (dsimp -zeta -zetaHave only [u_]; clear u_)); (on_goal 2 => (clear_value u_; revert u_; intros))) | (clear_value u_; revert u_; intros) | (revert u_; intros))
    | with_reducible assumption
    | with_reducible apply SameBut.refl
    | ((with_reducible apply SameBut.step (k := positionLoaded_same _)); (case hl => rfl))
    | ((with_reducible apply SameBut.step (k := redefineDp_same _ _)); (case hl => rfl))
    | ((with_reducible apply SameBut.step (k := refreshEngines_same _)); (case hl => rfl))
    | ((with_reducible apply SameBut.step (k := reportsLoaded_same _)); (case hl => rfl))
    | split
    | dsimp only

theorem containLink_same (u : LinkUnit) (s : State) : SameBut [.host, .maint, .ev, .sys, .gnss, .fir, .fus, .solv, .dpc, .alloc, .dpx, .cfg, .log, .free] s (containLink u s) := by
  unfold containLink
  repeat' first
    | (extract_lets +onlyGivenNames u_; first | (apply SameBut.gen (u := u_); (on_goal 1 => (dsimp -zeta -zetaHave only [u_]; clear u_)); (on_goal 2 => (clear_value u_; revert u_; intros))) | (clear_value u_; revert u_; intros) | (revert u_; intros))
    | with_reducible assumption
    | with_reducible apply SameBut.refl
    | ((with_reducible apply SameBut.onSysMode); (case hl => rfl))
    | (show ∀ _ : SysState, _ ∧ _; intros; repeat' first | exact ⟨rfl, rfl⟩ | split | dsimp only)
    | ((with_reducible apply SameBut.step (k := bbFail_same _ _)); (case hl => rfl))
    | ((with_reducible apply SameBut.step (k := belvFail_same _ _)); (case hl => rfl))
    | ((with_reducible apply SameBut.step (k := failCommit_same _ _ _ _ _)); (case hl => rfl))
    | ((with_reducible apply SameBut.step (k := imuFail_same _ _)); (case hl => rfl))
    | ((with_reducible apply SameBut.step (k := loseRegion_same _ _ _ _)); (case hl => rfl))
    | ((with_reducible apply SameBut.step (k := raise_same _ _ _)); (case hl => rfl))
    | ((with_reducible apply SameBut.step (k := selfDiag_same _ _)); (case hl => rfl))
    | split
    | dsimp only

theorem supplyLost_same (fate : SlotFate) (s : State) : SameBut [.host, .maint, .hp, .ev, .sys, .mode, .time, .gnss, .fir, .fus, .solv, .dpc, .alloc, .loop, .kiln, .dpx, .can, .uart, .mnt, .cfg, .log, .bulk, .subs] s (supplyLost fate s) := by
  intro q hq
  cases q <;> first | (refine absurd ?_ hq; decide) | rfl

theorem cutStart_same (cause : RstCause) (s : State) : SameBut [.host, .maint, .hp, .ev, .sys, .mode, .time, .gnss, .fir, .fus, .solv, .dpc, .alloc, .loop, .kiln, .dpx, .can, .uart, .mnt, .cfg, .log, .bulk, .subs] s (cutStart cause s) := by
  unfold cutStart
  repeat' first
    | (extract_lets +onlyGivenNames u_; first | (apply SameBut.gen (u := u_); (on_goal 1 => (dsimp -zeta -zetaHave only [u_]; clear u_)); (on_goal 2 => (clear_value u_; revert u_; intros))) | (clear_value u_; revert u_; intros) | (revert u_; intros))
    | with_reducible assumption
    | with_reducible apply SameBut.refl
    | ((with_reducible apply SameBut.step (k := beginReset_same _ _)); (case hl => rfl))
    | ((with_reducible apply SameBut.step (k := supplyLost_same _ _)); (case hl => rfl))
    | split
    | dsimp only

/-- Deferring the records of f leaves alone what f leaves alone. -/
theorem SameBut.deferRecords {l : List Part} {s u : State} (f : State → State) (hl : (([.log] : List Part).all fun q => l.contains q) = true)
    (hb : ∀ w, SameBut l w (f w)) (h : SameBut l s u) : SameBut l s (deferRecords f u).1 := by
  refine h.trans ?_
  exact SameBut.onLog _ ((SameBut.onLog _ (SameBut.refl _ _) hl).trans (hb _)) hl

theorem execBoundaryScanAccess_same (a : TapIn) (s : State) {t_ : State} (h_ : execBoundaryScanAccess a s = .next t_) : SameBut [.tap] s t_ := by
  unfold execBoundaryScanAccess at h_
  injection h_ with h_
  subst h_
  repeat' first
    | (extract_lets +onlyGivenNames u_; first | (apply SameBut.gen (u := u_); (on_goal 1 => (dsimp -zeta -zetaHave only [u_]; clear u_)); (on_goal 2 => (clear_value u_; revert u_; intros))) | (clear_value u_; revert u_; intros) | (revert u_; intros))
    | with_reducible assumption
    | with_reducible apply SameBut.refl
    | ((with_reducible apply SameBut.onTap); (case hl => rfl))
    | split
    | dsimp only

theorem execCdInconsistent_same (s : State) {t_ : State} (h_ : execCdInconsistent s = .next t_) : SameBut [.host, .maint, .hp, .ev, .sys, .mode, .time, .gnss, .fir, .fus, .solv, .dpc, .alloc, .loop, .kiln, .dpx, .can, .uart, .mnt, .cfg, .log, .bulk, .subs] s t_ := by
  unfold execCdInconsistent at h_
  injection h_ with h_
  subst h_
  repeat' first
    | (extract_lets +onlyGivenNames u_; first | (apply SameBut.gen (u := u_); (on_goal 1 => (dsimp -zeta -zetaHave only [u_]; clear u_)); (on_goal 2 => (clear_value u_; revert u_; intros))) | (clear_value u_; revert u_; intros) | (revert u_; intros))
    | with_reducible assumption
    | with_reducible apply SameBut.refl
    | ((with_reducible apply SameBut.step (k := advanceNow_same _ _)); (case hl => rfl))
    | ((with_reducible apply SameBut.step (k := beginReset_same _ _)); (case hl => rfl))
    | ((with_reducible apply SameBut.step (k := kilnStep_same _ _)); (case hl => rfl))
    | ((with_reducible apply SameBut.step (k := raise_same _ _ _)); (case hl => rfl))
    | split
    | dsimp only

theorem heldRecords_same (s : State) : SameBut [.host, .maint, .ev, .log] s (heldRecords s) := by
  unfold heldRecords
  repeat' first
    | (extract_lets +onlyGivenNames u_; first | (apply SameBut.gen (u := u_); (on_goal 1 => (dsimp -zeta -zetaHave only [u_]; clear u_)); (on_goal 2 => (clear_value u_; revert u_; intros))) | (clear_value u_; revert u_; intros) | (revert u_; intros))
    | with_reducible assumption
    | with_reducible apply SameBut.refl
    | ((with_reducible apply SameBut.onLog); (case hl => rfl))
    | ((with_reducible apply SameBut.step (k := limitRec_same _ _)); (case hl => rfl))
    | ((with_reducible apply SameBut.fst_ (k := limitRec_same _ _) (by assumption)); (case hl => rfl))
    | ((with_reducible apply SameBut.step (k := newRec_same _ _ _ _ _ _)); (case hl => rfl))
    | ((with_reducible apply SameBut.fst_ (k := newRec_same _ _ _ _ _ _) (by assumption)); (case hl => rfl))
    | ((with_reducible apply SameBut.step (k := overflow_same _ _)); (case hl => rfl))
    | with_reducible apply SameBut.foldl
    | with_reducible intro _
    | split
    | dsimp only

theorem pd2Exit_same (s : State) : SameBut [.host, .maint, .ev, .sys, .log] s (pd2Exit s) := by
  unfold pd2Exit
  repeat' first
    | (extract_lets +onlyGivenNames u_; first | (apply SameBut.gen (u := u_); (on_goal 1 => (dsimp -zeta -zetaHave only [u_]; clear u_)); (on_goal 2 => (clear_value u_; revert u_; intros))) | (clear_value u_; revert u_; intros) | (revert u_; intros))
    | with_reducible assumption
    | with_reducible apply SameBut.refl
    | ((with_reducible apply SameBut.onEv); (case hl => rfl))
    | ((with_reducible apply SameBut.onSysMode); (case hl => rfl))
    | (show ∀ _ : SysState, _ ∧ _; intros; repeat' first | exact ⟨rfl, rfl⟩ | split | dsimp only)
    | ((with_reducible apply SameBut.step (k := heldRecords_same _)); (case hl => rfl))
    | ((with_reducible apply SameBut.step (k := notices_same _ _ _ _)); (case hl => rfl))
    | ((with_reducible apply SameBut.step (k := raise_same _ _ _)); (case hl => rfl))
    | with_reducible apply SameBut.foldl
    | with_reducible intro _
    | split
    | dsimp only

theorem execDomainExitComplete_same (d : Fin 12) (s : State) {t_ : State} (h_ : execDomainExitComplete d s = .next t_) : SameBut [.host, .maint, .ev, .sys, .time, .gnss, .fir, .fus, .can, .log] s t_ := by
  unfold execDomainExitComplete at h_
  injection h_ with h_
  subst h_
  repeat' first
    | (extract_lets +onlyGivenNames u_; first | (apply SameBut.gen (u := u_); (on_goal 1 => (dsimp -zeta -zetaHave only [u_]; clear u_)); (on_goal 2 => (clear_value u_; revert u_; intros))) | (clear_value u_; revert u_; intros) | (revert u_; intros))
    | with_reducible assumption
    | with_reducible apply SameBut.refl
    | ((with_reducible apply SameBut.onFir); (case hl => rfl))
    | ((with_reducible apply SameBut.onSysMode); (case hl => rfl))
    | (show ∀ _ : SysState, _ ∧ _; intros; repeat' first | exact ⟨rfl, rfl⟩ | split | dsimp only)
    | ((with_reducible apply SameBut.step (k := advanceTo_same _ _)); (case hl => rfl))
    | ((with_reducible apply SameBut.step (k := belvWake_same _ _)); (case hl => rfl))
    | ((with_reducible apply SameBut.step (k := canPd4On_same _)); (case hl => rfl))
    | ((with_reducible apply SameBut.step (k := canStates_same _ _)); (case hl => rfl))
    | ((with_reducible apply SameBut.step (k := firStale_same _ _)); (case hl => rfl))
    | ((with_reducible apply SameBut.step (k := gnssWake_same _ _)); (case hl => rfl))
    | ((with_reducible apply SameBut.step (k := pd2Exit_same _)); (case hl => rfl))
    | split
    | dsimp only

theorem execEmberContentLoss_same (s : State) {t_ : State} (h_ : execEmberContentLoss s = .next t_) : SameBut [.time] s t_ := by
  unfold execEmberContentLoss at h_
  injection h_ with h_
  subst h_
  repeat' first
    | (extract_lets +onlyGivenNames u_; first | (apply SameBut.gen (u := u_); (on_goal 1 => (dsimp -zeta -zetaHave only [u_]; clear u_)); (on_goal 2 => (clear_value u_; revert u_; intros))) | (clear_value u_; revert u_; intros) | (revert u_; intros))
    | with_reducible assumption
    | with_reducible apply SameBut.refl
    | ((with_reducible apply SameBut.onTime); (case hl => rfl))
    | split
    | dsimp only

theorem execFwRunConfirm_same (s : State) {t_ : State} (h_ : execFwRunConfirm s = .next t_) : SameBut [.sys, .time] s t_ := by
  unfold execFwRunConfirm at h_
  injection h_ with h_
  subst h_
  repeat' first
    | (extract_lets +onlyGivenNames u_; first | (apply SameBut.gen (u := u_); (on_goal 1 => (dsimp -zeta -zetaHave only [u_]; clear u_)); (on_goal 2 => (clear_value u_; revert u_; intros))) | (clear_value u_; revert u_; intros) | (revert u_; intros))
    | with_reducible assumption
    | with_reducible apply SameBut.refl
    | ((with_reducible apply SameBut.onSysMode); (case hl => rfl))
    | (show ∀ _ : SysState, _ ∧ _; intros; repeat' first | exact ⟨rfl, rfl⟩ | split | dsimp only)
    | ((with_reducible apply SameBut.step (k := advanceTo_same _ _)); (case hl => rfl))
    | split
    | dsimp only

theorem execInternalRailFault_same (s : State) {t_ : State} (h_ : execInternalRailFault s = .next t_) : SameBut [.host, .maint, .ev, .sys, .dpx, .log] s t_ := by
  unfold execInternalRailFault at h_
  injection h_ with h_
  subst h_
  repeat' first
    | (extract_lets +onlyGivenNames u_; first | (apply SameBut.gen (u := u_); (on_goal 1 => (dsimp -zeta -zetaHave only [u_]; clear u_)); (on_goal 2 => (clear_value u_; revert u_; intros))) | (clear_value u_; revert u_; intros) | (revert u_; intros))
    | with_reducible assumption
    | with_reducible apply SameBut.refl
    | ((with_reducible apply SameBut.step (k := selfDiag_same _ _)); (case hl => rfl))
    | split
    | dsimp only

theorem execLinkTransferFailure_same (u : LinkUnit) (corrected : Nat) (fails : Fin 3) (s : State) {t_ : State} (h_ : execLinkTransferFailure u corrected fails s = .next t_) : SameBut [.host, .maint, .ev, .sys, .gnss, .fir, .fus, .solv, .dpc, .alloc, .dpx, .cfg, .log, .free] s t_ := by
  unfold execLinkTransferFailure at h_
  injection h_ with h_
  subst h_
  repeat' first
    | (extract_lets +onlyGivenNames u_; first | (apply SameBut.gen (u := u_); (on_goal 1 => (dsimp -zeta -zetaHave only [u_]; clear u_)); (on_goal 2 => (clear_value u_; revert u_; intros))) | (clear_value u_; revert u_; intros) | (revert u_; intros))
    | with_reducible assumption
    | with_reducible apply SameBut.refl
    | ((with_reducible apply SameBut.onSysMode); (case hl => rfl))
    | (show ∀ _ : SysState, _ ∧ _; intros; repeat' first | exact ⟨rfl, rfl⟩ | split | dsimp only)
    | ((with_reducible apply SameBut.step (k := containLink_same _ _)); (case hl => rfl))
    | split
    | dsimp only

/-- A step of the start changes what its next steps change, or what a reset changes. -/
theorem SameBut.startCut {l : List Part} {s u : State} (k : StartIn) (base n us : Nat) (next : State → State)
    (hl : (([.host, .maint, .hp, .ev, .sys, .mode, .time, .gnss, .fir, .fus, .solv, .dpc, .alloc, .loop, .kiln, .dpx, .can, .uart, .mnt, .cfg, .log, .bulk, .subs] : List Part).all fun q => l.contains q) = true)
    (hb : ∀ w, SameBut l w (next w)) (h : SameBut l s u) : SameBut l s (startCut k base n us next u) := by
  refine h.trans ?_
  unfold Machine.startCut
  split
  · exact (SameBut.refl _ _).step (cutStart_same _ _) hl
  · refine SameBut.trans ?_ (hb _)
    refine (SameBut.refl _ _).step (advanceTo_same _ _) ?_
    simp_all

theorem startStep8_same (k : StartIn) (s : State) : SameBut [.sys, .kiln] s (startStep8 k s) := by
  unfold startStep8
  repeat' first
    | (extract_lets +onlyGivenNames u_; first | (apply SameBut.gen (u := u_); (on_goal 1 => (dsimp -zeta -zetaHave only [u_]; clear u_)); (on_goal 2 => (clear_value u_; revert u_; intros))) | (clear_value u_; revert u_; intros) | (revert u_; intros))
    | with_reducible assumption
    | with_reducible apply SameBut.refl
    | ((with_reducible apply SameBut.onSysMode); (case hl => rfl))
    | (show ∀ _ : SysState, _ ∧ _; intros; repeat' first | exact ⟨rfl, rfl⟩ | split | dsimp only)
    | ((with_reducible apply SameBut.step (k := kilnStep_same _ _)); (case hl => rfl))
    | split
    | dsimp only

theorem startStep9_same (k : StartIn) (warm : Bool) (torn : Option Nat) (s : State) : SameBut [.host, .maint, .ev, .sys, .mode, .time, .solv, .dpc, .alloc, .loop, .kiln, .dpx, .can, .cfg, .log, .free] s (startStep9 k warm torn s) := by
  unfold startStep9
  repeat' first
    | (extract_lets +onlyGivenNames u_; first | (apply SameBut.gen (u := u_); (on_goal 1 => (dsimp -zeta -zetaHave only [u_]; clear u_)); (on_goal 2 => (clear_value u_; revert u_; intros))) | (clear_value u_; revert u_; intros) | (revert u_; intros))
    | with_reducible assumption
    | with_reducible apply SameBut.refl
    | ((with_reducible apply SameBut.onCfg); (case hl => rfl))
    | ((with_reducible apply SameBut.onSys); (case hl => rfl))
    | ((with_reducible apply SameBut.onTime); (case hl => rfl))
    | ((with_reducible apply SameBut.step (k := raise_same _ _ _)); (case hl => rfl))
    | ((with_reducible apply SameBut.step (k := selfDiag_same _ _)); (case hl => rfl))
    | ((with_reducible apply SameBut.step (k := setMode_same _ _ _ _ _)); (case hl => rfl))
    | with_reducible apply SameBut.foldl
    | with_reducible intro _
    | split
    | dsimp only

theorem startFrom8_same (k : StartIn) (warm : Bool) (torn : Option Nat) (s : State) : SameBut [.host, .maint, .hp, .ev, .sys, .mode, .time, .gnss, .fir, .fus, .solv, .dpc, .alloc, .loop, .kiln, .dpx, .can, .uart, .mnt, .cfg, .log, .bulk, .subs, .free] s (startFrom8 k warm torn s) := by
  unfold startFrom8
  repeat' first
    | (extract_lets +onlyGivenNames u_; first | (apply SameBut.gen (u := u_); (on_goal 1 => (dsimp -zeta -zetaHave only [u_]; clear u_)); (on_goal 2 => (clear_value u_; revert u_; intros))) | (clear_value u_; revert u_; intros) | (revert u_; intros))
    | with_reducible assumption
    | with_reducible apply SameBut.refl
    | ((with_reducible apply SameBut.step (k := advanceTo_same _ _)); (case hl => rfl))
    | ((with_reducible apply SameBut.step (k := cutStart_same _ _)); (case hl => rfl))
    | ((with_reducible apply SameBut.step (k := startStep8_same _ _)); (case hl => rfl))
    | ((with_reducible apply SameBut.step (k := startStep9_same _ _ _ _)); (case hl => rfl))
    | split
    | dsimp only

theorem startStep6_same (k : StartIn) (s : State) : SameBut [.host, .maint, .ev, .sys, .fir, .solv, .dpx, .log, .free] s (startStep6 k s) := by
  unfold startStep6
  repeat' first
    | (extract_lets +onlyGivenNames u_; first | (apply SameBut.gen (u := u_); (on_goal 1 => (dsimp -zeta -zetaHave only [u_]; clear u_)); (on_goal 2 => (clear_value u_; revert u_; intros))) | (clear_value u_; revert u_; intros) | (revert u_; intros))
    | with_reducible assumption
    | with_reducible apply SameBut.refl
    | ((with_reducible apply SameBut.step (k := imuFail_same _ _)); (case hl => rfl))
    | ((with_reducible apply SameBut.step (k := markFailed_same _ _ _ _)); (case hl => rfl))
    | with_reducible apply SameBut.foldl
    | with_reducible intro _
    | split
    | dsimp only

theorem reconcile_same (newest : Option Rec) (s : State) : SameBut [.time, .log] s (reconcile newest s).1 := by
  unfold reconcile
  repeat' first
    | (extract_lets +onlyGivenNames u_; first | (apply SameBut.gen (u := u_); (on_goal 1 => (dsimp -zeta -zetaHave only [u_]; clear u_)); (on_goal 2 => (clear_value u_; revert u_; intros))) | (clear_value u_; revert u_; intros) | (revert u_; intros))
    | with_reducible assumption
    | with_reducible apply SameBut.refl
    | ((with_reducible apply SameBut.onLog); (case hl => rfl))
    | ((with_reducible apply SameBut.onTime); (case hl => rfl))
    | split
    | dsimp only

theorem loadBank_same (s : State) : SameBut [.hp, .solv, .dpc, .loop, .cfg, .log] s (loadBank s) := by
  unfold loadBank
  repeat' first
    | (extract_lets +onlyGivenNames u_; first | (apply SameBut.gen (u := u_); (on_goal 1 => (dsimp -zeta -zetaHave only [u_]; clear u_)); (on_goal 2 => (clear_value u_; revert u_; intros))) | (clear_value u_; revert u_; intros) | (revert u_; intros))
    | with_reducible assumption
    | with_reducible apply SameBut.refl
    | ((with_reducible apply SameBut.onCfg); (case hl => rfl))
    | ((with_reducible apply SameBut.step (k := configLoaded_same _)); (case hl => rfl))
    | split
    | dsimp only

theorem startConfig_same (s : State) : SameBut [.host, .maint, .hp, .ev, .solv, .dpc, .loop, .kiln, .cfg, .log] s (startConfig s) := by
  unfold startConfig
  repeat' first
    | (extract_lets +onlyGivenNames u_; first | (apply SameBut.gen (u := u_); (on_goal 1 => (dsimp -zeta -zetaHave only [u_]; clear u_)); (on_goal 2 => (clear_value u_; revert u_; intros))) | (clear_value u_; revert u_; intros) | (revert u_; intros))
    | with_reducible assumption
    | with_reducible apply SameBut.refl
    | ((with_reducible apply SameBut.onCfg); (case hl => rfl))
    | ((with_reducible apply SameBut.onKiln); (case hl => rfl))
    | ((with_reducible apply SameBut.step (k := bankRecords_same _)); (case hl => rfl))
    | ((with_reducible apply SameBut.step (k := loadBank_same _)); (case hl => rfl))
    | ((with_reducible apply SameBut.step (k := record_same _ _ _ _ _)); (case hl => rfl))
    | split
    | dsimp only

theorem startRecords_same (cold : Bool) (lost : Option Rec) (torn : Nat) (restored : Option (List Byte)) (s : State) : SameBut [.host, .maint, .ev, .time, .log] s (startRecords cold lost torn restored s) := by
  unfold startRecords
  repeat' first
    | (extract_lets +onlyGivenNames u_; first | (apply SameBut.gen (u := u_); (on_goal 1 => (dsimp -zeta -zetaHave only [u_]; clear u_)); (on_goal 2 => (clear_value u_; revert u_; intros))) | (clear_value u_; revert u_; intros) | (revert u_; intros))
    | with_reducible assumption
    | with_reducible apply SameBut.refl
    | ((with_reducible apply SameBut.onTime); (case hl => rfl))
    | ((with_reducible apply SameBut.step (k := anchor_same _ _ _ _ _)); (case hl => rfl))
    | ((with_reducible apply SameBut.step (k := record_same _ _ _ _ _)); (case hl => rfl))
    | with_reducible apply SameBut.foldl
    | with_reducible intro _
    | split
    | dsimp only

theorem startStep7_same (early : List Rec) (s : State) : SameBut [.host, .maint, .hp, .ev, .sys, .time, .solv, .dpc, .loop, .kiln, .cfg, .log] s (startStep7 early s).1 := by
  unfold startStep7
  repeat' first
    | (extract_lets +onlyGivenNames u_; first | (apply SameBut.gen (u := u_); (on_goal 1 => (dsimp -zeta -zetaHave only [u_]; clear u_)); (on_goal 2 => (clear_value u_; revert u_; intros))) | (clear_value u_; revert u_; intros) | (revert u_; intros))
    | with_reducible assumption
    | with_reducible apply SameBut.refl
    | ((with_reducible apply SameBut.onLog); (case hl => rfl))
    | ((with_reducible apply SameBut.onSysMode); (case hl => rfl))
    | (show ∀ _ : SysState, _ ∧ _; intros; repeat' first | exact ⟨rfl, rfl⟩ | split | dsimp only)
    | ((with_reducible apply SameBut.step (k := flush_same _ _)); (case hl => rfl))
    | ((with_reducible apply SameBut.step (k := heldRecords_same _)); (case hl => rfl))
    | ((with_reducible apply SameBut.step (k := newRec_same _ _ _ _ _ _)); (case hl => rfl))
    | ((with_reducible apply SameBut.fst_ (k := newRec_same _ _ _ _ _ _) (by assumption)); (case hl => rfl))
    | ((with_reducible apply SameBut.step (k := reconcile_same _ _)); (case hl => rfl))
    | ((with_reducible apply SameBut.fst_ (k := reconcile_same _ _) (by assumption)); (case hl => rfl))
    | ((with_reducible apply SameBut.step (k := startConfig_same _)); (case hl => rfl))
    | ((with_reducible apply SameBut.step (k := startRecords_same _ _ _ _ _)); (case hl => rfl))
    | ((with_reducible apply SameBut.step (k := summaries_same _)); (case hl => rfl))
    | with_reducible apply SameBut.foldl
    | with_reducible intro _
    | split
    | dsimp only

theorem startFrom6_same (k : StartIn) (warm : Bool) (base : Nat) (s : State) : SameBut [.host, .maint, .hp, .ev, .sys, .mode, .time, .gnss, .fir, .fus, .solv, .dpc, .alloc, .loop, .kiln, .dpx, .can, .uart, .mnt, .cfg, .log, .bulk, .subs, .free] s (startFrom6 k warm base s) := by
  unfold startFrom6
  repeat' first
    | (extract_lets +onlyGivenNames u_; first | (apply SameBut.gen (u := u_); (on_goal 1 => (dsimp -zeta -zetaHave only [u_]; clear u_)); (on_goal 2 => (clear_value u_; revert u_; intros))) | (dsimp -zeta -zetaHave only [u_]; clear u_) | (clear_value u_; revert u_; intros) | (revert u_; intros))
    | with_reducible assumption
    | with_reducible apply SameBut.refl
    | ((with_reducible apply SameBut.step (k := startFrom8_same _ _ _ _)); (case hl => rfl))
    | ((with_reducible apply SameBut.step (k := startStep6_same _ _)); (case hl => rfl))
    | ((with_reducible apply SameBut.step (k := startStep7_same _ _)); (case hl => rfl))
    | ((with_reducible apply SameBut.fst_ (k := startStep7_same _ _) (by assumption)); (case hl => rfl))
    | ((with_reducible apply SameBut.deferRecords); (case hl => rfl))
    | ((with_reducible apply SameBut.startCut); (case hl => rfl))
    | with_reducible intro _
    | split
    | dsimp only

theorem startStep4_same (s : State) : SameBut [.sys, .fir] s (startStep4 s) := by
  unfold startStep4
  repeat' first
    | (extract_lets +onlyGivenNames u_; first | (apply SameBut.gen (u := u_); (on_goal 1 => (dsimp -zeta -zetaHave only [u_]; clear u_)); (on_goal 2 => (clear_value u_; revert u_; intros))) | (clear_value u_; revert u_; intros) | (revert u_; intros))
    | with_reducible assumption
    | with_reducible apply SameBut.refl
    | ((with_reducible apply SameBut.onFir); (case hl => rfl))
    | ((with_reducible apply SameBut.onSysMode); (case hl => rfl))
    | (show ∀ _ : SysState, _ ∧ _; intros; repeat' first | exact ⟨rfl, rfl⟩ | split | dsimp only)
    | split
    | dsimp only

theorem startStep5_same (k : StartIn) (s : State) : SameBut [.hp, .sys] s (startStep5 k s) := by
  unfold startStep5
  repeat' first
    | (extract_lets +onlyGivenNames u_; first | (apply SameBut.gen (u := u_); (on_goal 1 => (dsimp -zeta -zetaHave only [u_]; clear u_)); (on_goal 2 => (clear_value u_; revert u_; intros))) | (clear_value u_; revert u_; intros) | (revert u_; intros))
    | with_reducible assumption
    | with_reducible apply SameBut.refl
    | ((with_reducible apply SameBut.onHp); (case hl => rfl))
    | ((with_reducible apply SameBut.onSysMode); (case hl => rfl))
    | (show ∀ _ : SysState, _ ∧ _; intros; repeat' first | exact ⟨rfl, rfl⟩ | split | dsimp only)
    | split
    | dsimp only

theorem startFrom4_same (k : StartIn) (warm : Bool) (s : State) : SameBut [.host, .maint, .hp, .ev, .sys, .mode, .time, .gnss, .fir, .fus, .solv, .dpc, .alloc, .loop, .kiln, .dpx, .can, .uart, .mnt, .cfg, .log, .bulk, .subs, .free] s (startFrom4 k warm s) := by
  unfold startFrom4
  repeat' first
    | (extract_lets +onlyGivenNames u_; first | (apply SameBut.gen (u := u_); (on_goal 1 => (dsimp -zeta -zetaHave only [u_]; clear u_)); (on_goal 2 => (clear_value u_; revert u_; intros))) | (clear_value u_; revert u_; intros) | (revert u_; intros))
    | with_reducible assumption
    | with_reducible apply SameBut.refl
    | ((with_reducible apply SameBut.step (k := startFrom6_same _ _ _ _)); (case hl => rfl))
    | ((with_reducible apply SameBut.step (k := startStep4_same _)); (case hl => rfl))
    | ((with_reducible apply SameBut.step (k := startStep5_same _ _)); (case hl => rfl))
    | ((with_reducible apply SameBut.startCut); (case hl => rfl))
    | with_reducible intro _
    | split
    | dsimp only

theorem execMainPowerOn_same (k : StartIn) (s : State) {t_ : State} (h_ : execMainPowerOn k s = .next t_) : SameBut [.host, .maint, .hp, .ev, .sys, .mode, .time, .gnss, .fir, .fus, .solv, .dpc, .alloc, .loop, .kiln, .dpx, .can, .uart, .mnt, .cfg, .log, .bulk, .subs, .free] s t_ := by
  unfold execMainPowerOn at h_
  injection h_ with h_
  subst h_
  repeat' first
    | (extract_lets +onlyGivenNames u_; first | (apply SameBut.gen (u := u_); (on_goal 1 => (dsimp -zeta -zetaHave only [u_]; clear u_)); (on_goal 2 => (clear_value u_; revert u_; intros))) | (clear_value u_; revert u_; intros) | (revert u_; intros))
    | with_reducible assumption
    | with_reducible apply SameBut.refl
    | ((with_reducible apply SameBut.onBulk); (case hl => rfl))
    | ((with_reducible apply SameBut.onHost); (case hl => rfl))
    | ((with_reducible apply SameBut.onMaint); (case hl => rfl))
    | ((with_reducible apply SameBut.onSys); (case hl => rfl))
    | ((with_reducible apply SameBut.onTime); (case hl => rfl))
    | ((with_reducible apply SameBut.step (k := advance_same _ _)); (case hl => rfl))
    | ((with_reducible apply SameBut.step (k := advanceTo_same _ _)); (case hl => rfl))
    | ((with_reducible apply SameBut.step (k := startFrom4_same _ _ _)); (case hl => rfl))
    | split
    | dsimp only

theorem execRstNAssert_same (widthNs : Nat) (s : State) {t_ : State} (h_ : execRstNAssert widthNs s = .next t_) : SameBut [.host, .maint, .hp, .ev, .sys, .mode, .time, .gnss, .fir, .fus, .solv, .dpc, .alloc, .loop, .kiln, .dpx, .can, .uart, .mnt, .cfg, .log, .bulk, .subs, .free] s t_ := by
  unfold execRstNAssert at h_
  injection h_ with h_
  subst h_
  repeat' first
    | (extract_lets +onlyGivenNames u_; first | (apply SameBut.gen (u := u_); (on_goal 1 => (dsimp -zeta -zetaHave only [u_]; clear u_)); (on_goal 2 => (clear_value u_; revert u_; intros))) | (clear_value u_; revert u_; intros) | (revert u_; intros))
    | with_reducible assumption
    | with_reducible apply SameBut.refl
    | ((with_reducible apply SameBut.onSys); (case hl => rfl))
    | ((with_reducible apply SameBut.step (k := beginReset_same _ _)); (case hl => rfl))
    | ((with_reducible apply SameBut.step (k := drawn_same _)); (case hl => rfl))
    | split
    | dsimp only

theorem execRstNRelease_same (s : State) {t_ : State} (h_ : execRstNRelease s = .next t_) : SameBut [.sys, .tap] s t_ := by
  unfold execRstNRelease at h_
  injection h_ with h_
  subst h_
  repeat' first
    | (extract_lets +onlyGivenNames u_; first | (apply SameBut.gen (u := u_); (on_goal 1 => (dsimp -zeta -zetaHave only [u_]; clear u_)); (on_goal 2 => (clear_value u_; revert u_; intros))) | (clear_value u_; revert u_; intros) | (revert u_; intros))
    | with_reducible assumption
    | with_reducible apply SameBut.refl
    | ((with_reducible apply SameBut.onSysMode); (case hl => rfl))
    | (show ∀ _ : SysState, _ ∧ _; intros; repeat' first | exact ⟨rfl, rfl⟩ | split | dsimp only)
    | ((with_reducible apply SameBut.onTap); (case hl => rfl))
    | split
    | dsimp only

theorem execStartRoleResolution_same (s : State) {t_ : State} (h_ : execStartRoleResolution s = .next t_) : SameBut [.host, .maint, .ev, .sys, .mode, .time, .solv, .dpc, .alloc, .loop, .kiln, .can, .log, .free] s t_ := by
  unfold execStartRoleResolution at h_
  injection h_ with h_
  subst h_
  repeat' first
    | (extract_lets +onlyGivenNames u_; first | (apply SameBut.gen (u := u_); (on_goal 1 => (dsimp -zeta -zetaHave only [u_]; clear u_)); (on_goal 2 => (clear_value u_; revert u_; intros))) | (clear_value u_; revert u_; intros) | (revert u_; intros))
    | with_reducible assumption
    | with_reducible apply SameBut.refl
    | ((with_reducible apply SameBut.onSys); (case hl => rfl))
    | ((with_reducible apply SameBut.step (k := advanceTo_same _ _)); (case hl => rfl))
    | ((with_reducible apply SameBut.step (k := setMode_same _ _ _ _ _)); (case hl => rfl))
    | split
    | dsimp only

theorem execStateMemoryEccError_same (s : State) {t_ : State} (h_ : execStateMemoryEccError s = .next t_) : SameBut [.host, .maint, .ev, .sys, .dpx, .log] s t_ := by
  unfold execStateMemoryEccError at h_
  injection h_ with h_
  subst h_
  repeat' first
    | (extract_lets +onlyGivenNames u_; first | (apply SameBut.gen (u := u_); (on_goal 1 => (dsimp -zeta -zetaHave only [u_]; clear u_)); (on_goal 2 => (clear_value u_; revert u_; intros))) | (clear_value u_; revert u_; intros) | (revert u_; intros))
    | with_reducible assumption
    | with_reducible apply SameBut.refl
    | ((with_reducible apply SameBut.step (k := selfDiag_same _ _)); (case hl => rfl))
    | split
    | dsimp only

theorem execSysReset_same (p : Port) (s : State) {t_ : State} (h_ : execSysReset p s = .next t_) : SameBut [.host, .maint, .hp, .ev, .sys, .mode, .time, .gnss, .fir, .fus, .solv, .dpc, .alloc, .loop, .kiln, .dpx, .can, .uart, .mnt, .cfg, .log, .bulk, .subs] s t_ := by
  unfold execSysReset at h_
  injection h_ with h_
  subst h_
  repeat' first
    | (extract_lets +onlyGivenNames u_; first | (apply SameBut.gen (u := u_); (on_goal 1 => (dsimp -zeta -zetaHave only [u_]; clear u_)); (on_goal 2 => (clear_value u_; revert u_; intros))) | (clear_value u_; revert u_; intros) | (revert u_; intros))
    | with_reducible assumption
    | with_reducible apply SameBut.refl
    | ((with_reducible apply SameBut.step (k := beginReset_same _ _)); (case hl => rfl))
    | ((with_reducible apply SameBut.runOp); (case hl => rfl))
    | with_reducible intro _
    | split
    | dsimp only

theorem execTcxoFailure_same (s : State) {t_ : State} (h_ : execTcxoFailure s = .next t_) : SameBut [.host, .maint, .ev, .sys, .time, .dpx, .log] s t_ := by
  unfold execTcxoFailure at h_
  injection h_ with h_
  subst h_
  repeat' first
    | (extract_lets +onlyGivenNames u_; first | (apply SameBut.gen (u := u_); (on_goal 1 => (dsimp -zeta -zetaHave only [u_]; clear u_)); (on_goal 2 => (clear_value u_; revert u_; intros))) | (clear_value u_; revert u_; intros) | (revert u_; intros))
    | with_reducible assumption
    | with_reducible apply SameBut.refl
    | ((with_reducible apply SameBut.onSysMode); (case hl => rfl))
    | (show ∀ _ : SysState, _ ∧ _; intros; repeat' first | exact ⟨rfl, rfl⟩ | split | dsimp only)
    | ((with_reducible apply SameBut.step (k := selfDiag_same _ _)); (case hl => rfl))
    | ((with_reducible apply SameBut.step (k := setSource_same _ _)); (case hl => rfl))
    | split
    | dsimp only

theorem execVmainLoss_same (fate : SlotFate) (s : State) {t_ : State} (h_ : execVmainLoss fate s = .next t_) : SameBut [.host, .maint, .hp, .ev, .sys, .mode, .time, .gnss, .fir, .fus, .solv, .dpc, .alloc, .loop, .kiln, .dpx, .can, .uart, .mnt, .cfg, .log, .bulk, .subs] s t_ := by
  unfold execVmainLoss at h_
  injection h_ with h_
  subst h_
  repeat' first
    | (extract_lets +onlyGivenNames u_; first | (apply SameBut.gen (u := u_); (on_goal 1 => (dsimp -zeta -zetaHave only [u_]; clear u_)); (on_goal 2 => (clear_value u_; revert u_; intros))) | (clear_value u_; revert u_; intros) | (revert u_; intros))
    | with_reducible assumption
    | with_reducible apply SameBut.refl
    | ((with_reducible apply SameBut.step (k := supplyLost_same _ _)); (case hl => rfl))
    | split
    | dsimp only

theorem execWakeIdleReturn_same (s : State) {t_ : State} (h_ : execWakeIdleReturn s = .next t_) : SameBut [.host, .maint, .ev, .sys, .time, .solv, .can, .log] s t_ := by
  unfold execWakeIdleReturn at h_
  injection h_ with h_
  subst h_
  repeat' first
    | (extract_lets +onlyGivenNames u_; first | (apply SameBut.gen (u := u_); (on_goal 1 => (dsimp -zeta -zetaHave only [u_]; clear u_)); (on_goal 2 => (clear_value u_; revert u_; intros))) | (clear_value u_; revert u_; intros) | (revert u_; intros))
    | with_reducible assumption
    | with_reducible apply SameBut.refl
    | ((with_reducible apply SameBut.onSysMode); (case hl => rfl))
    | (show ∀ _ : SysState, _ ∧ _; intros; repeat' first | exact ⟨rfl, rfl⟩ | split | dsimp only)
    | ((with_reducible apply SameBut.step (k := advanceTo_same _ _)); (case hl => rfl))
    | ((with_reducible apply SameBut.step (k := canPd4Off_same _)); (case hl => rfl))
    | ((with_reducible apply SameBut.step (k := canPd4Sleep_same _)); (case hl => rfl))
    | ((with_reducible apply SameBut.step (k := canStates_same _ _)); (case hl => rfl))
    | ((with_reducible apply SameBut.step (k := dropHostStructs_same _)); (case hl => rfl))
    | ((with_reducible apply SameBut.step (k := flush_same _ _)); (case hl => rfl))
    | split
    | dsimp only

theorem execWakeTrigger_same (w : WakeKind) (s : State) {t_ : State} (h_ : execWakeTrigger w s = .next t_) : SameBut [.host, .maint, .ev, .sys, .log] s t_ := by
  unfold execWakeTrigger at h_
  injection h_ with h_
  subst h_
  repeat' first
    | (extract_lets +onlyGivenNames u_; first | (apply SameBut.gen (u := u_); (on_goal 1 => (dsimp -zeta -zetaHave only [u_]; clear u_)); (on_goal 2 => (clear_value u_; revert u_; intros))) | (clear_value u_; revert u_; intros) | (revert u_; intros))
    | with_reducible assumption
    | with_reducible apply SameBut.refl
    | ((with_reducible apply SameBut.step (k := wakeTrigger_same _ _)); (case hl => rfl))
    | split
    | dsimp only

theorem execWarmResetStart_same (k : StartIn) (s : State) {t_ : State} (h_ : execWarmResetStart k s = .next t_) : SameBut [.host, .maint, .hp, .ev, .sys, .mode, .time, .gnss, .fir, .fus, .solv, .dpc, .alloc, .loop, .kiln, .dpx, .can, .uart, .mnt, .cfg, .log, .bulk, .subs, .free] s t_ := by
  unfold execWarmResetStart at h_
  injection h_ with h_
  subst h_
  repeat' first
    | (extract_lets +onlyGivenNames u_; first | (apply SameBut.gen (u := u_); (on_goal 1 => (dsimp -zeta -zetaHave only [u_]; clear u_)); (on_goal 2 => (clear_value u_; revert u_; intros))) | (clear_value u_; revert u_; intros) | (revert u_; intros))
    | with_reducible assumption
    | with_reducible apply SameBut.refl
    | ((with_reducible apply SameBut.step (k := advanceTo_same _ _)); (case hl => rfl))
    | ((with_reducible apply SameBut.step (k := startFrom4_same _ _ _)); (case hl => rfl))
    | split
    | dsimp only

theorem execWatchdogExpiry_same (s : State) {t_ : State} (h_ : execWatchdogExpiry s = .next t_) : SameBut [.host, .maint, .hp, .ev, .sys, .mode, .time, .gnss, .fir, .fus, .solv, .dpc, .alloc, .loop, .kiln, .dpx, .can, .uart, .mnt, .cfg, .log, .bulk, .subs] s t_ := by
  unfold execWatchdogExpiry at h_
  injection h_ with h_
  subst h_
  repeat' first
    | (extract_lets +onlyGivenNames u_; first | (apply SameBut.gen (u := u_); (on_goal 1 => (dsimp -zeta -zetaHave only [u_]; clear u_)); (on_goal 2 => (clear_value u_; revert u_; intros))) | (clear_value u_; revert u_; intros) | (revert u_; intros))
    | with_reducible assumption
    | with_reducible apply SameBut.refl
    | ((with_reducible apply SameBut.onDpx); (case hl => rfl))
    | ((with_reducible apply SameBut.onSys); (case hl => rfl))
    | ((with_reducible apply SameBut.step (k := beginReset_same _ _)); (case hl => rfl))
    | split
    | dsimp only

theorem execWatchdogResetDelayEnd_same (s : State) {t_ : State} (h_ : execWatchdogResetDelayEnd s = .next t_) : SameBut [.host, .maint, .hp, .ev, .sys, .mode, .time, .gnss, .fir, .fus, .solv, .dpc, .alloc, .loop, .kiln, .dpx, .can, .uart, .mnt, .cfg, .log, .bulk, .subs] s t_ := by
  unfold execWatchdogResetDelayEnd at h_
  injection h_ with h_
  subst h_
  repeat' first
    | (extract_lets +onlyGivenNames u_; first | (apply SameBut.gen (u := u_); (on_goal 1 => (dsimp -zeta -zetaHave only [u_]; clear u_)); (on_goal 2 => (clear_value u_; revert u_; intros))) | (clear_value u_; revert u_; intros) | (revert u_; intros))
    | with_reducible assumption
    | with_reducible apply SameBut.refl
    | ((with_reducible apply SameBut.step (k := advanceTo_same _ _)); (case hl => rfl))
    | ((with_reducible apply SameBut.step (k := beginReset_same _ _)); (case hl => rfl))
    | split
    | dsimp only

end Sys2Proof.Machine
end

