-- ==== Sys2Proof/Laws/FrameSentences.lean ====
section
/-! SUPPORT. What each operation of Machine/Sentences.lean leaves alone: every part of the state but those listed. -/

namespace Sys2Proof.Machine

set_option linter.all false

theorem countRx_same (u : Fin 10) (n : Nat) (s : State) : SameBut [.uart] s (countRx u n s) := by
  unfold countRx
  repeat' first
    | (extract_lets +onlyGivenNames u_; first | (apply SameBut.gen (u := u_); (on_goal 1 => (dsimp -zeta -zetaHave only [u_]; clear u_)); (on_goal 2 => (clear_value u_; revert u_; intros))) | (clear_value u_; revert u_; intros) | (revert u_; intros))
    | with_reducible assumption
    | with_reducible apply SameBut.refl
    | ((with_reducible apply SameBut.onUart); (case hl => rfl))
    | split
    | dsimp only

theorem handOn_same (u : Fin 10) (mt : Nat) (chars : List Byte) (s : State) : SameBut [.host, .maint, .ev, .fus, .uart, .log] s (handOn u mt chars s) := by
  unfold handOn
  repeat' first
    | (extract_lets +onlyGivenNames u_; first | (apply SameBut.gen (u := u_); (on_goal 1 => (dsimp -zeta -zetaHave only [u_]; clear u_)); (on_goal 2 => (clear_value u_; revert u_; intros))) | (clear_value u_; revert u_; intros) | (revert u_; intros))
    | with_reducible assumption
    | with_reducible apply SameBut.refl
    | ((with_reducible apply SameBut.onUart); (case hl => rfl))
    | ((with_reducible apply SameBut.step (k := discard_same _ _ _)); (case hl => rfl))
    | ((with_reducible apply SameBut.step (k := intakeMeas_same _ _ _)); (case hl => rfl))
    | ((with_reducible apply SameBut.step (k := uartPacket_same _ _ _ _ _)); (case hl => rfl))
    | with_reducible apply SameBut.foldl
    | with_reducible intro _
    | split
    | dsimp only

theorem uartDiscard_same (u : Fin 10) (r : Fin 5) (s : State) : SameBut [.host, .maint, .ev, .uart, .log] s (uartDiscard u r s) := by
  unfold uartDiscard
  repeat' first
    | (extract_lets +onlyGivenNames u_; first | (apply SameBut.gen (u := u_); (on_goal 1 => (dsimp -zeta -zetaHave only [u_]; clear u_)); (on_goal 2 => (clear_value u_; revert u_; intros))) | (clear_value u_; revert u_; intros) | (revert u_; intros))
    | with_reducible assumption
    | with_reducible apply SameBut.refl
    | ((with_reducible apply SameBut.onUart); (case hl => rfl))
    | ((with_reducible apply SameBut.step (k := raise_same _ _ _)); (case hl => rfl))
    | split
    | dsimp only

theorem execUartSentence_same (u : Fin 10) (x : UartIn) (s : State) {t_ : State} (h_ : execUartSentence u x s = .next t_) : SameBut [.host, .maint, .ev, .fus, .uart, .log] s t_ := by
  unfold execUartSentence at h_
  injection h_ with h_
  subst h_
  repeat' first
    | (extract_lets +onlyGivenNames u_; first | (apply SameBut.gen (u := u_); (on_goal 1 => (dsimp -zeta -zetaHave only [u_]; clear u_)); (on_goal 2 => (clear_value u_; revert u_; intros))) | (clear_value u_; revert u_; intros) | (revert u_; intros))
    | with_reducible assumption
    | with_reducible apply SameBut.refl
    | ((with_reducible apply SameBut.onUart); (case hl => rfl))
    | ((with_reducible apply SameBut.step (k := countRx_same _ _ _)); (case hl => rfl))
    | ((with_reducible apply SameBut.step (k := handOn_same _ _ _ _)); (case hl => rfl))
    | ((with_reducible apply SameBut.step (k := uartDiscard_same _ _ _)); (case hl => rfl))
    | split
    | dsimp only

end Sys2Proof.Machine
end

