-- ==== Sys2Proof/Laws/FrameSystem.lean ====
section
/-! SUPPORT. What each operation of Machine/System.lean leaves alone: every part of the state but those listed. -/

namespace Sys2Proof.Machine

set_option linter.all false

theorem abortOne_same (p : Port) (tag : Nat) (s : State) : SameBut [.host, .maint, .ev, .sys, .time, .solv, .dpc, .loop, .dpx, .cfg, .log, .free] s (abortOne p tag s) := by
  unfold abortOne
  repeat' first
    | (extract_lets +onlyGivenNames u_; first | (apply SameBut.gen (u := u_); (on_goal 1 => (dsimp -zeta -zetaHave only [u_]; clear u_)); (on_goal 2 => (clear_value u_; revert u_; intros))) | (clear_value u_; revert u_; intros) | (revert u_; intros))
    | with_reducible assumption
    | with_reducible apply SameBut.refl
    | ((with_reducible apply SameBut.step (k := dropWork_same _ _ _)); (case hl => rfl))
    | ((with_reducible apply SameBut.step (k := failCommit_same _ _ _ _ _)); (case hl => rfl))
    | ((with_reducible apply SameBut.step (k := finish_same _ _ _ _ _ _ _)); (case hl => rfl))
    | split
    | dsimp only

theorem fwStart_same (p : Port) (c : Cmd) (h : Handle) (s : State) : SameBut [.sys, .free] s (fwStart p c h s) := by
  unfold fwStart
  repeat' first
    | (extract_lets +onlyGivenNames u_; first | (apply SameBut.gen (u := u_); (on_goal 1 => (dsimp -zeta -zetaHave only [u_]; clear u_)); (on_goal 2 => (clear_value u_; revert u_; intros))) | (clear_value u_; revert u_; intros) | (revert u_; intros))
    | with_reducible assumption
    | with_reducible apply SameBut.refl
    | ((with_reducible apply SameBut.onSysMode); (case hl => rfl))
    | (show ∀ _ : SysState, _ ∧ _; intros; repeat' first | exact ⟨rfl, rfl⟩ | split | dsimp only)
    | ((with_reducible apply SameBut.step (k := drawn_same _)); (case hl => rfl))
    | split
    | dsimp only

theorem vesselPending_same (s : State) : SameBut [.cfg] s (vesselPending s) := by
  unfold vesselPending
  repeat' first
    | (extract_lets +onlyGivenNames u_; first | (apply SameBut.gen (u := u_); (on_goal 1 => (dsimp -zeta -zetaHave only [u_]; clear u_)); (on_goal 2 => (clear_value u_; revert u_; intros))) | (clear_value u_; revert u_; intros) | (revert u_; intros))
    | with_reducible assumption
    | with_reducible apply SameBut.refl
    | ((with_reducible apply SameBut.onCfg); (case hl => rfl))
    | split
    | dsimp only

theorem applyObject_same (p : Port) (c : Cmd) (h : Handle) (s : State) : SameBut [.host, .maint, .ev, .sys, .solv, .dpc, .cfg, .log, .free] s (applyObject p c h s) := by
  unfold applyObject
  repeat' first
    | (extract_lets +onlyGivenNames u_; first | (apply SameBut.gen (u := u_); (on_goal 1 => (dsimp -zeta -zetaHave only [u_]; clear u_)); (on_goal 2 => (clear_value u_; revert u_; intros))) | (dsimp -zeta -zetaHave only [u_]; clear u_) | (clear_value u_; revert u_; intros) | (revert u_; intros))
    | with_reducible assumption
    | with_reducible apply SameBut.refl
    | ((with_reducible apply SameBut.onDpc); (case hl => rfl))
    | ((with_reducible apply SameBut.onSolv); (case hl => rfl))
    | ((with_reducible apply SameBut.step (k := finish_same _ _ _ _ _ _ _)); (case hl => rfl))
    | ((with_reducible apply SameBut.step (k := fwStart_same _ _ _ _)); (case hl => rfl))
    | ((with_reducible apply SameBut.step (k := ok_same _ _ _ _ _)); (case hl => rfl))
    | ((with_reducible apply SameBut.step (k := setConfig_same _ _ _ _ _ _ _)); (case hl => rfl))
    | ((with_reducible apply SameBut.step (k := vesselPending_same _)); (case hl => rfl))
    | split
    | dsimp only

/-- A bulk row changes what its body changes, and the port's queue state with its reply. -/
theorem SameBut.runBulk {l : List Part} {s u : State} (op : Op) (p : Port) (pre : Cmd → State → Option (Nat × Nat)) (body : Cmd → State → State)
    (hl : (([.host, .maint, .sys] : List Part).all fun q => l.contains q) = true)
    (hb : ∀ c w, SameBut l w (body c w)) (h : SameBut l s u) : SameBut l s (runBulk op p pre body u) := by
  refine h.trans ?_
  have hl2 : (([.host, .maint] : List Part).all fun q => l.contains q) = true := by simp_all
  unfold Machine.runBulk
  repeat' first
    | with_reducible apply SameBut.refl
    | with_reducible apply SameBut.trans (k := hb _ _)
    | with_reducible apply SameBut.step (k := badValue_same _ _ _ _) (hl := hl)
    | with_reducible apply SameBut.step (k := reject_same _ _ _ _ _) (hl := hl)
    | with_reducible apply SameBut.onPort (hl := hl2)
    | split
    | dsimp only

theorem execBulkClose_same (p : Port) (s : State) {t_ : State} (h_ : execBulkClose p s = .next t_) : SameBut [.host, .maint, .ev, .sys, .solv, .dpc, .cfg, .log, .bulk, .free] s t_ := by
  unfold execBulkClose at h_
  injection h_ with h_
  subst h_
  repeat' first
    | (extract_lets +onlyGivenNames u_; first | (apply SameBut.gen (u := u_); (on_goal 1 => (dsimp -zeta -zetaHave only [u_]; clear u_)); (on_goal 2 => (clear_value u_; revert u_; intros))) | (clear_value u_; revert u_; intros) | (revert u_; intros))
    | with_reducible assumption
    | with_reducible apply SameBut.refl
    | ((with_reducible apply SameBut.step (k := applyObject_same _ _ _ _)); (case hl => rfl))
    | ((with_reducible apply SameBut.step (k := finish_same _ _ _ _ _ _ _)); (case hl => rfl))
    | ((with_reducible apply SameBut.step (k := ok_same _ _ _ _ _)); (case hl => rfl))
    | ((with_reducible apply SameBut.step (k := onHandle_same _ _ _)); (case hl => rfl))
    | ((with_reducible apply SameBut.step (k := pending_same _ _ _ _)); (case hl => rfl))
    | ((with_reducible apply SameBut.step (k := reject_same _ _ _ _ _)); (case hl => rfl))
    | ((with_reducible apply SameBut.step (k := touchHandle_same _ _ _)); (case hl => rfl))
    | ((with_reducible apply SameBut.runBulk); (case hl => rfl))
    | with_reducible intro _
    | split
    | dsimp only

theorem execBulkOpen_same (p : Port) (s : State) {t_ : State} (h_ : execBulkOpen p s = .next t_) : SameBut [.host, .maint, .sys, .bulk, .free] s t_ := by
  unfold execBulkOpen at h_
  injection h_ with h_
  subst h_
  repeat' first
    | (extract_lets +onlyGivenNames u_; first | (apply SameBut.gen (u := u_); (on_goal 1 => (dsimp -zeta -zetaHave only [u_]; clear u_)); (on_goal 2 => (clear_value u_; revert u_; intros))) | (clear_value u_; revert u_; intros) | (revert u_; intros))
    | with_reducible assumption
    | with_reducible apply SameBut.refl
    | ((with_reducible apply SameBut.onBulk); (case hl => rfl))
    | ((with_reducible apply SameBut.onFree); (case hl => rfl))
    | ((with_reducible apply SameBut.step (k := badValue_same _ _ _ _)); (case hl => rfl))
    | ((with_reducible apply SameBut.step (k := ok_same _ _ _ _ _)); (case hl => rfl))
    | ((with_reducible apply SameBut.step (k := reject_same _ _ _ _ _)); (case hl => rfl))
    | ((with_reducible apply SameBut.runBulk); (case hl => rfl))
    | with_reducible intro _
    | split
    | dsimp only

theorem execBulkRead_same (p : Port) (s : State) {t_ : State} (h_ : execBulkRead p s = .next t_) : SameBut [.host, .maint, .sys, .bulk] s t_ := by
  unfold execBulkRead at h_
  injection h_ with h_
  subst h_
  repeat' first
    | (extract_lets +onlyGivenNames u_; first | (apply SameBut.gen (u := u_); (on_goal 1 => (dsimp -zeta -zetaHave only [u_]; clear u_)); (on_goal 2 => (clear_value u_; revert u_; intros))) | (clear_value u_; revert u_; intros) | (revert u_; intros))
    | with_reducible assumption
    | with_reducible apply SameBut.refl
    | ((with_reducible apply SameBut.step (k := badValue_same _ _ _ _)); (case hl => rfl))
    | ((with_reducible apply SameBut.step (k := ok_same _ _ _ _ _)); (case hl => rfl))
    | ((with_reducible apply SameBut.step (k := touchHandle_same _ _ _)); (case hl => rfl))
    | ((with_reducible apply SameBut.runBulk); (case hl => rfl))
    | with_reducible intro _
    | split
    | dsimp only

theorem execBulkWrite_same (p : Port) (s : State) {t_ : State} (h_ : execBulkWrite p s = .next t_) : SameBut [.host, .maint, .sys, .bulk] s t_ := by
  unfold execBulkWrite at h_
  injection h_ with h_
  subst h_
  repeat' first
    | (extract_lets +onlyGivenNames u_; first | (apply SameBut.gen (u := u_); (on_goal 1 => (dsimp -zeta -zetaHave only [u_]; clear u_)); (on_goal 2 => (clear_value u_; revert u_; intros))) | (clear_value u_; revert u_; intros) | (revert u_; intros))
    | with_reducible assumption
    | with_reducible apply SameBut.refl
    | ((with_reducible apply SameBut.step (k := ok_same _ _ _ _ _)); (case hl => rfl))
    | ((with_reducible apply SameBut.step (k := onHandle_same _ _ _)); (case hl => rfl))
    | ((with_reducible apply SameBut.step (k := reject_same _ _ _ _ _)); (case hl => rfl))
    | ((with_reducible apply SameBut.step (k := touchHandle_same _ _ _)); (case hl => rfl))
    | ((with_reducible apply SameBut.runBulk); (case hl => rfl))
    | with_reducible intro _
    | split
    | dsimp only

theorem execFwProgramComplete_same (readbackOk : Bool) (s : State) {t_ : State} (h_ : execFwProgramComplete readbackOk s = .next t_) : SameBut [.host, .maint, .ev, .sys, .log, .free] s t_ := by
  unfold execFwProgramComplete at h_
  injection h_ with h_
  subst h_
  repeat' first
    | (extract_lets +onlyGivenNames u_; first | (apply SameBut.gen (u := u_); (on_goal 1 => (dsimp -zeta -zetaHave only [u_]; clear u_)); (on_goal 2 => (clear_value u_; revert u_; intros))) | (clear_value u_; revert u_; intros) | (revert u_; intros))
    | with_reducible assumption
    | with_reducible apply SameBut.refl
    | ((with_reducible apply SameBut.onSysMode); (case hl => rfl))
    | (show ∀ _ : SysState, _ ∧ _; intros; repeat' first | exact ⟨rfl, rfl⟩ | split | dsimp only)
    | ((with_reducible apply SameBut.step (k := changeRecord_same _ _ _ _ _ _ _ _)); (case hl => rfl))
    | ((with_reducible apply SameBut.step (k := commit_same _ _ _)); (case hl => rfl))
    | ((with_reducible apply SameBut.step (k := drawn_same _)); (case hl => rfl))
    | ((with_reducible apply SameBut.step (k := finish_same _ _ _ _ _ _ _)); (case hl => rfl))
    | ((with_reducible apply SameBut.step (k := pd13Budget_same _)); (case hl => rfl))
    | split
    | dsimp only

theorem execSysAbort_same (p : Port) (s : State) {t_ : State} (h_ : execSysAbort p s = .next t_) : SameBut [.host, .maint, .ev, .sys, .time, .solv, .dpc, .loop, .dpx, .cfg, .log, .free] s t_ := by
  unfold execSysAbort at h_
  injection h_ with h_
  subst h_
  repeat' first
    | (extract_lets +onlyGivenNames u_; first | (apply SameBut.gen (u := u_); (on_goal 1 => (dsimp -zeta -zetaHave only [u_]; clear u_)); (on_goal 2 => (clear_value u_; revert u_; intros))) | (dsimp -zeta -zetaHave only [u_]; clear u_) | (clear_value u_; revert u_; intros) | (revert u_; intros))
    | with_reducible assumption
    | with_reducible apply SameBut.refl
    | ((with_reducible apply SameBut.step (k := abortOne_same _ _ _)); (case hl => rfl))
    | ((with_reducible apply SameBut.step (k := finish_same _ _ _ _ _ _ _)); (case hl => rfl))
    | ((with_reducible apply SameBut.runOp); (case hl => rfl))
    | with_reducible intro _
    | split
    | dsimp only

theorem execSysGetId_same (p : Port) (s : State) {t_ : State} (h_ : execSysGetId p s = .next t_) : SameBut [.host, .maint, .sys, .free] s t_ := by
  unfold execSysGetId at h_
  injection h_ with h_
  subst h_
  repeat' first
    | (extract_lets +onlyGivenNames u_; first | (apply SameBut.gen (u := u_); (on_goal 1 => (dsimp -zeta -zetaHave only [u_]; clear u_)); (on_goal 2 => (clear_value u_; revert u_; intros))) | (clear_value u_; revert u_; intros) | (revert u_; intros))
    | with_reducible assumption
    | with_reducible apply SameBut.refl
    | ((with_reducible apply SameBut.step (k := drawn_same _)); (case hl => rfl))
    | ((with_reducible apply SameBut.step (k := ok_same _ _ _ _ _)); (case hl => rfl))
    | ((with_reducible apply SameBut.runOp); (case hl => rfl))
    | with_reducible intro _
    | split
    | dsimp only

end Sys2Proof.Machine
end

