-- ==== Sys2Proof/Laws/Owns.lean ====
section
/-! SUPPORT. Every operation that moves the mode or ownership keeps them together (Table 3-1). -/

namespace Sys2Proof.Machine

set_option linter.all false

/-- The second state has ownership as its mode says if the first has. -/
def OwnKeep (s t : State) : Prop := OwnsByMode s → OwnsByMode t

theorem OwnKeep.refl (s : State) : OwnKeep s s := id
theorem OwnKeep.gen {s u w : State} (h : OwnKeep s u) (k : OwnKeep s u → OwnKeep s w) : OwnKeep s w := k h
theorem SameBut.own {m : List Part} {s t : State} (k : SameBut m s t) (hl : (!m.contains .mode) = true) : OwnKeep s t := by
  intro h
  have := k .mode (by simpa using hl)
  simp only [Part.same] at this
  simp_all [OwnsByMode]
theorem OwnKeep.stepO {s t u : State} (h : OwnKeep s t) (k : OwnKeep t u) : OwnKeep s u := k ∘ h
theorem OwnKeep.step {m : List Part} {s t u : State} (h : OwnKeep s t) (k : SameBut m t u) (hl : (!m.contains .mode) = true) : OwnKeep s u :=
  h.stepO (k.own hl)
theorem OwnKeep.fst_ {α : Type} {m : List Part} {s u v : State} {r : α} {a : State × α} (e : a = (v, r)) (k : SameBut m u a.1)
    (hl : (!m.contains .mode) = true) (h : OwnKeep s u) : OwnKeep s v := by subst e; exact h.step k hl
theorem OwnKeep.fst_O {α : Type} {s u v : State} {r : α} {a : State × α} (e : a = (v, r)) (k : OwnKeep u a.1)
    (h : OwnKeep s u) : OwnKeep s v := by subst e; exact h.stepO k
theorem OwnKeep.foldl {α : Type} {g : State → α → State} (hg : ∀ w x, OwnKeep w (g w x)) (xs : List α) {s u : State}
    (h : OwnKeep s u) : OwnKeep s (xs.foldl g u) := by
  induction xs generalizing u with
  | nil => exact h
  | cons x xs ih => exact ih (h.stepO (hg u x))
theorem OwnKeep.onSys {s u : State} (f) (h : OwnKeep s u) (hm : ∀ y : SysState, (f y).mode = y.mode ∧ (f y).own = y.own) : OwnKeep s (u.onSys f) := by
  intro a; have := h a; have := hm u.sys; simp_all [OwnsByMode]
theorem OwnKeep.onSysMode {s u : State} (f) (h : OwnKeep s u) (hm : ∀ y : SysState, (f y).mode = y.mode ∧ (f y).own = y.own) : OwnKeep s (u.onSys f) := h.onSys f hm
theorem OwnKeep.onHost {s u : State} (f) (h : OwnKeep s u) : OwnKeep s (u.onHost f) := h
theorem OwnKeep.onMaint {s u : State} (f) (h : OwnKeep s u) : OwnKeep s (u.onMaint f) := h
theorem OwnKeep.onHp {s u : State} (f) (h : OwnKeep s u) : OwnKeep s (u.onHp f) := h
theorem OwnKeep.onEv {s u : State} (f) (h : OwnKeep s u) : OwnKeep s (u.onEv f) := h
theorem OwnKeep.onTime {s u : State} (f) (h : OwnKeep s u) : OwnKeep s (u.onTime f) := h
theorem OwnKeep.onGnss {s u : State} (f) (h : OwnKeep s u) : OwnKeep s (u.onGnss f) := h
theorem OwnKeep.onFir {s u : State} (f) (h : OwnKeep s u) : OwnKeep s (u.onFir f) := h
theorem OwnKeep.onFus {s u : State} (f) (h : OwnKeep s u) : OwnKeep s (u.onFus f) := h
theorem OwnKeep.onSolv {s u : State} (f) (h : OwnKeep s u) : OwnKeep s (u.onSolv f) := h
theorem OwnKeep.onDpc {s u : State} (f) (h : OwnKeep s u) : OwnKeep s (u.onDpc f) := h
theorem OwnKeep.onAlloc {s u : State} (f) (h : OwnKeep s u) : OwnKeep s (u.onAlloc f) := h
theorem OwnKeep.onLoop {s u : State} (f) (h : OwnKeep s u) : OwnKeep s (u.onLoop f) := h
theorem OwnKeep.onKiln {s u : State} (f) (h : OwnKeep s u) : OwnKeep s (u.onKiln f) := h
theorem OwnKeep.onDpx {s u : State} (f) (h : OwnKeep s u) : OwnKeep s (u.onDpx f) := h
theorem OwnKeep.onCan {s u : State} (f) (h : OwnKeep s u) : OwnKeep s (u.onCan f) := h
theorem OwnKeep.onUart {s u : State} (f) (h : OwnKeep s u) : OwnKeep s (u.onUart f) := h
theorem OwnKeep.onMnt {s u : State} (f) (h : OwnKeep s u) : OwnKeep s (u.onMnt f) := h
theorem OwnKeep.onTap {s u : State} (f) (h : OwnKeep s u) : OwnKeep s (u.onTap f) := h
theorem OwnKeep.onCfg {s u : State} (f) (h : OwnKeep s u) : OwnKeep s (u.onCfg f) := h
theorem OwnKeep.onLog {s u : State} (f) (h : OwnKeep s u) : OwnKeep s (u.onLog f) := h
theorem OwnKeep.onBulk {s u : State} (f) (h : OwnKeep s u) : OwnKeep s (u.onBulk f) := h
theorem OwnKeep.onSubs {s u : State} (f) (h : OwnKeep s u) : OwnKeep s (u.onSubs f) := h
theorem OwnKeep.onFree {s u : State} (f) (h : OwnKeep s u) : OwnKeep s (u.onFree f) := h
theorem OwnKeep.onPort {s u : State} (p : Port) (f) (h : OwnKeep s u) : OwnKeep s (u.onPort p f) := by cases p <;> exact h

theorem OwnKeep.runOpV {op : Op} {p : Port} {early : Cmd → State → Option Nat} {body : Cmd → State → State} {s u : State}
    (hb : ∀ c w, OwnKeep w (body c w)) (h : OwnKeep s u) : OwnKeep s (Machine.runOpV op p early body u) := by
  refine h.stepO ?_
  unfold Machine.runOpV
  split
  · exact .refl _
  · split
    · have k := OwnKeep.onPort p (fun q => { q with accepted := none }) (OwnKeep.refl u)
      dsimp only
      split
      · exact k.step (badValue_same _ _ _ _) rfl
      · exact k.step (reject_same _ _ _ _ _) rfl
      · exact k.stepO (hb _ _)
    · exact .refl _

theorem OwnKeep.runOp {op : Op} {p : Port} {body : Cmd → State → State} {s u : State} (hb : ∀ c w, OwnKeep w (body c w)) (h : OwnKeep s u) :
    OwnKeep s (Machine.runOp op p body u) := OwnKeep.runOpV hb h

theorem OwnKeep.deferRecords {f : State → State} {s u : State} (hb : ∀ w, OwnKeep w (f w)) (h : OwnKeep s u) : OwnKeep s (Machine.deferRecords f u).1 := by
  refine h.stepO ?_
  unfold Machine.deferRecords
  exact hb (u.onLog _)

/-- Ownership after the mode has been set: right when it was, or when the mode changes. -/
theorem setMode_owns (m : Mode) (k d : Nat) (p : Port) (s : State) (h : s.sys.mode = m → OwnsByMode s) : OwnsByMode (setMode m k d p s) := by
  unfold setMode
  extract_lets old
  split
  · exact h ‹_›
  · rename_i s1 had s2 s3 s4 s5 s6 _
    have h2 : OwnsByMode s2 := by simp [OwnsByMode, s2]
    have h3 : OwnsByMode s3 := (enterMode_same _ _ _).own rfl h2
    have h4 : OwnsByMode s4 := by simp only [s4]; split; exacts [(canOwnerChange_same _).own rfl h3, h3]
    have h5 : OwnsByMode s5 := by simp only [s5]; split; exacts [(canRelease_same _).own rfl h4, h4]
    have h6 : OwnsByMode s6 := (record_same _ _ _ _ _).own rfl h5
    exact (raise_same _ _ _).own rfl h6

theorem setMode_own (m : Mode) (k d : Nat) (p : Port) (s : State) : OwnKeep s (setMode m k d p s) := fun h => setMode_owns m k d p s fun _ => h

theorem resetDies_own (s : State) : OwnKeep s (resetDies s) := fun _ => by simp [OwnsByMode, resetDies, keptSys]; rfl

theorem supplyLost_own (fate : SlotFate) (s : State) : OwnKeep s (supplyLost fate s) := fun _ => rfl

theorem releaseOwnership_own (m : Mode) (k : Nat) (s : State) (ht : ownsIn m = false) : OwnKeep s (releaseOwnership m k s) := by
  intro _
  unfold releaseOwnership
  extract_lets cmd s1 s2 s3 s4 s5
  have h2 : s2.sys.own = false := rfl
  have h4 : s4.sys.own = false := by
    have a : Part.same s3 (canOwnerChange s3) .mode := (canOwnerChange_same s3) .mode (by decide)
    have b : Part.same (canOwnerChange s3) s4 .mode := (canRelease_same (canOwnerChange s3)) .mode (by decide)
    exact (b.2.trans a.2).trans h2
  have h5 : OwnsByMode s5 := by
    refine (ownership_same _ _ _).own rfl (setMode_owns _ _ _ _ _ fun e => ?_)
    simp [OwnsByMode, e, ht, h4]
  clear_value cmd s5
  split
  · exact (finish_same _ _ _ _ _ _ _).own rfl h5
  · exact h5

theorem OwnKeep.rel {s u : State} (m : Mode) (k : Nat) (ht : ownsIn m = false) (h : OwnKeep s u) : OwnKeep s (releaseOwnership m k u) :=
  h.stepO (releaseOwnership_own m k u ht)

theorem beginReset_own (cause : RstCause) (s : State) : OwnKeep s (beginReset cause s) := by
  unfold beginReset
  repeat' first
    | (extract_lets +onlyGivenNames u_; first | (apply OwnKeep.gen (u := u_); (on_goal 1 => (dsimp -zeta -zetaHave only [u_]; clear u_)); (on_goal 2 => (clear_value u_; revert u_; intros))) | (dsimp -zeta -zetaHave only [u_]; clear u_) | (clear_value u_; revert u_; intros) | (revert u_; intros))
    | with_reducible assumption
    | with_reducible apply OwnKeep.refl
    | exact ⟨rfl, rfl⟩
    | (show ∀ _ : SysState, _ ∧ _; intros; repeat' first | exact ⟨rfl, rfl⟩ | split | dsimp only)
    | (with_reducible apply OwnKeep.onHp)
    | (with_reducible apply OwnKeep.onSys)
    | ((with_reducible apply OwnKeep.step (k := countEarly_same _ _)); (case hl => rfl))
    | ((with_reducible apply OwnKeep.step (k := record_same _ _ _ _ _)); (case hl => rfl))
    | ((with_reducible apply OwnKeep.stepO (k := resetDies_own _)))
    | split
    | dsimp only

theorem duplexBoundary_own (s : State) : OwnKeep s (duplexBoundary s) := by
  unfold duplexBoundary
  repeat' first
    | (extract_lets +onlyGivenNames u_; first | (apply OwnKeep.gen (u := u_); (on_goal 1 => (dsimp -zeta -zetaHave only [u_]; clear u_)); (on_goal 2 => (clear_value u_; revert u_; intros))) | (clear_value u_; revert u_; intros) | (revert u_; intros))
    | with_reducible assumption
    | with_reducible apply OwnKeep.refl
    | exact ⟨rfl, rfl⟩
    | (show ∀ _ : SysState, _ ∧ _; intros; repeat' first | exact ⟨rfl, rfl⟩ | split | dsimp only)
    | (with_reducible apply OwnKeep.onDpx)
    | ((with_reducible apply OwnKeep.step (k := cancelModeCmd_same _ _)); (case hl => rfl))
    | ((with_reducible apply OwnKeep.step (k := mirrorBoundary_same _)); (case hl => rfl))
    | ((with_reducible apply OwnKeep.step (k := partnerLook_same _)); (case hl => rfl))
    | ((with_reducible apply OwnKeep.stepO (k := setMode_own _ _ _ _ _)))
    | split
    | dsimp only

theorem modeTakes_own (s : State) : OwnKeep s (modeTakes s) := by
  unfold modeTakes
  repeat' first
    | (extract_lets +onlyGivenNames u_; first | (apply OwnKeep.gen (u := u_); (on_goal 1 => (dsimp -zeta -zetaHave only [u_]; clear u_)); (on_goal 2 => (clear_value u_; revert u_; intros))) | (clear_value u_; revert u_; intros) | (revert u_; intros))
    | with_reducible assumption
    | with_reducible apply OwnKeep.refl
    | exact ⟨rfl, rfl⟩
    | (show ∀ _ : SysState, _ ∧ _; intros; repeat' first | exact ⟨rfl, rfl⟩ | split | dsimp only)
    | (with_reducible apply OwnKeep.onSys)
    | ((with_reducible apply OwnKeep.step (k := commit_same _ _ _)); (case hl => rfl))
    | ((with_reducible apply OwnKeep.step (k := drawn_same _)); (case hl => rfl))
    | ((with_reducible apply OwnKeep.step (k := finish_same _ _ _ _ _ _ _)); (case hl => rfl))
    | ((with_reducible apply OwnKeep.stepO (k := setMode_own _ _ _ _ _)))
    | split
    | dsimp only

theorem boundaryWork_own (temps : Vector Int 4) (s : State) : OwnKeep s (boundaryWork temps s) := by
  unfold boundaryWork
  repeat' first
    | (extract_lets +onlyGivenNames u_; first | (apply OwnKeep.gen (u := u_); (on_goal 1 => (dsimp -zeta -zetaHave only [u_]; clear u_)); (on_goal 2 => (clear_value u_; revert u_; intros))) | (clear_value u_; revert u_; intros) | (revert u_; intros))
    | with_reducible assumption
    | with_reducible apply OwnKeep.refl
    | exact ⟨rfl, rfl⟩
    | (show ∀ _ : SysState, _ ∧ _; intros; repeat' first | exact ⟨rfl, rfl⟩ | split | dsimp only)
    | ((with_reducible apply OwnKeep.step (k := allocReset_same _)); (case hl => rfl))
    | ((with_reducible apply OwnKeep.step (k := caBoundary_same _)); (case hl => rfl))
    | ((with_reducible apply OwnKeep.step (k := clearing_same _)); (case hl => rfl))
    | ((with_reducible apply OwnKeep.step (k := configBoundary_same _)); (case hl => rfl))
    | ((with_reducible apply OwnKeep.step (k := countMissed_same _)); (case hl => rfl))
    | ((with_reducible apply OwnKeep.stepO (k := duplexBoundary_own _)))
    | ((with_reducible apply OwnKeep.step (k := endTargets_same _)); (case hl => rfl))
    | ((with_reducible apply OwnKeep.step (k := fixAvail_same _)); (case hl => rfl))
    | ((with_reducible apply OwnKeep.step (k := fnTakes_same _)); (case hl => rfl))
    | ((with_reducible apply OwnKeep.step (k := fusBoundary_same _ _)); (case hl => rfl))
    | ((with_reducible apply OwnKeep.step (k := gazeboBoundary_same _)); (case hl => rfl))
    | ((with_reducible apply OwnKeep.stepO (k := modeTakes_own _)))
    | ((with_reducible apply OwnKeep.step (k := rampLimits_same _)); (case hl => rfl))
    | ((with_reducible apply OwnKeep.step (k := readTemps_same _ _)); (case hl => rfl))
    | ((with_reducible apply OwnKeep.step (k := sensorOut_same _)); (case hl => rfl))
    | split
    | dsimp only

theorem cutStart_own (cause : RstCause) (s : State) : OwnKeep s (cutStart cause s) := by
  unfold cutStart
  repeat' first
    | (extract_lets +onlyGivenNames u_; first | (apply OwnKeep.gen (u := u_); (on_goal 1 => (dsimp -zeta -zetaHave only [u_]; clear u_)); (on_goal 2 => (clear_value u_; revert u_; intros))) | (clear_value u_; revert u_; intros) | (revert u_; intros))
    | with_reducible assumption
    | with_reducible apply OwnKeep.refl
    | exact ⟨rfl, rfl⟩
    | (show ∀ _ : SysState, _ ∧ _; intros; repeat' first | exact ⟨rfl, rfl⟩ | split | dsimp only)
    | ((with_reducible apply OwnKeep.stepO (k := beginReset_own _ _)))
    | ((with_reducible apply OwnKeep.stepO (k := supplyLost_own _ _)))
    | split
    | dsimp only

theorem OwnKeep.startCut {s u : State} (k : StartIn) (base n us : Nat) (next : State → State)
    (hb : ∀ w, OwnKeep w (next w)) (h : OwnKeep s u) : OwnKeep s (startCut k base n us next u) := by
  refine h.stepO ?_
  unfold Machine.startCut
  split
  · exact cutStart_own _ _
  · exact ((OwnKeep.refl _).step (advanceTo_same _ _) rfl).stepO (hb _)

theorem execCdInconsistent_own (s : State) {t_ : State} (h_ : execCdInconsistent s = .next t_) : OwnKeep s t_ := by
  unfold execCdInconsistent at h_
  injection h_ with h_
  subst h_
  repeat' first
    | (extract_lets +onlyGivenNames u_; first | (apply OwnKeep.gen (u := u_); (on_goal 1 => (dsimp -zeta -zetaHave only [u_]; clear u_)); (on_goal 2 => (clear_value u_; revert u_; intros))) | (clear_value u_; revert u_; intros) | (revert u_; intros))
    | with_reducible assumption
    | with_reducible apply OwnKeep.refl
    | exact ⟨rfl, rfl⟩
    | (show ∀ _ : SysState, _ ∧ _; intros; repeat' first | exact ⟨rfl, rfl⟩ | split | dsimp only)
    | ((with_reducible apply OwnKeep.step (k := advanceNow_same _ _)); (case hl => rfl))
    | ((with_reducible apply OwnKeep.stepO (k := beginReset_own _ _)))
    | ((with_reducible apply OwnKeep.step (k := kilnStep_same _ _)); (case hl => rfl))
    | ((with_reducible apply OwnKeep.step (k := raise_same _ _ _)); (case hl => rfl))
    | split
    | dsimp only

theorem execDualOwnership_own (s : State) {t_ : State} (h_ : execDualOwnership s = .next t_) : OwnKeep s t_ := by
  unfold execDualOwnership at h_
  injection h_ with h_
  subst h_
  repeat' first
    | (extract_lets +onlyGivenNames u_; first | (apply OwnKeep.gen (u := u_); (on_goal 1 => (dsimp -zeta -zetaHave only [u_]; clear u_)); (on_goal 2 => (clear_value u_; revert u_; intros))) | (clear_value u_; revert u_; intros) | (revert u_; intros))
    | with_reducible assumption
    | with_reducible apply OwnKeep.refl
    | exact ⟨rfl, rfl⟩
    | (show ∀ _ : SysState, _ ∧ _; intros; repeat' first | exact ⟨rfl, rfl⟩ | split | dsimp only)
    | (with_reducible apply OwnKeep.onDpx)
    | ((with_reducible apply OwnKeep.step (k := advanceTo_same _ _)); (case hl => rfl))
    | ((with_reducible apply OwnKeep.step (k := ownership_same _ _ _)); (case hl => rfl))
    | ((with_reducible apply OwnKeep.rel); (case ht => first | rfl | (split <;> rfl)))
    | split
    | dsimp only

theorem execFrameBoundary_own (temps : Vector Int 4) (s : State) {t_ : State} (h_ : execFrameBoundary temps s = .next t_) : OwnKeep s t_ := by
  unfold execFrameBoundary at h_
  injection h_ with h_
  subst h_
  repeat' first
    | (extract_lets +onlyGivenNames u_; first | (apply OwnKeep.gen (u := u_); (on_goal 1 => (dsimp -zeta -zetaHave only [u_]; clear u_)); (on_goal 2 => (clear_value u_; revert u_; intros))) | (clear_value u_; revert u_; intros) | (revert u_; intros))
    | with_reducible assumption
    | with_reducible apply OwnKeep.refl
    | exact ⟨rfl, rfl⟩
    | (show ∀ _ : SysState, _ ∧ _; intros; repeat' first | exact ⟨rfl, rfl⟩ | split | dsimp only)
    | (with_reducible apply OwnKeep.onSys)
    | ((with_reducible apply OwnKeep.step (k := advanceTo_same _ _)); (case hl => rfl))
    | ((with_reducible apply OwnKeep.stepO (k := boundaryWork_own _ _)))
    | split
    | dsimp only

theorem startStep9_own (k : StartIn) (warm : Bool) (torn : Option Nat) (s : State) : OwnKeep s (startStep9 k warm torn s) := by
  unfold startStep9
  repeat' first
    | (extract_lets +onlyGivenNames u_; first | (apply OwnKeep.gen (u := u_); (on_goal 1 => (dsimp -zeta -zetaHave only [u_]; clear u_)); (on_goal 2 => (clear_value u_; revert u_; intros))) | (clear_value u_; revert u_; intros) | (revert u_; intros))
    | with_reducible assumption
    | with_reducible apply OwnKeep.refl
    | exact ⟨rfl, rfl⟩
    | (show ∀ _ : SysState, _ ∧ _; intros; repeat' first | exact ⟨rfl, rfl⟩ | split | dsimp only)
    | (with_reducible apply OwnKeep.onCfg)
    | (with_reducible apply OwnKeep.onSys)
    | (with_reducible apply OwnKeep.onTime)
    | ((with_reducible apply OwnKeep.step (k := raise_same _ _ _)); (case hl => rfl))
    | ((with_reducible apply OwnKeep.step (k := selfDiag_same _ _)); (case hl => rfl))
    | ((with_reducible apply OwnKeep.stepO (k := setMode_own _ _ _ _ _)))
    | with_reducible apply OwnKeep.foldl
    | with_reducible intro _
    | split
    | dsimp only

theorem startFrom8_own (k : StartIn) (warm : Bool) (torn : Option Nat) (s : State) : OwnKeep s (startFrom8 k warm torn s) := by
  unfold startFrom8
  repeat' first
    | (extract_lets +onlyGivenNames u_; first | (apply OwnKeep.gen (u := u_); (on_goal 1 => (dsimp -zeta -zetaHave only [u_]; clear u_)); (on_goal 2 => (clear_value u_; revert u_; intros))) | (clear_value u_; revert u_; intros) | (revert u_; intros))
    | with_reducible assumption
    | with_reducible apply OwnKeep.refl
    | exact ⟨rfl, rfl⟩
    | (show ∀ _ : SysState, _ ∧ _; intros; repeat' first | exact ⟨rfl, rfl⟩ | split | dsimp only)
    | ((with_reducible apply OwnKeep.step (k := advanceTo_same _ _)); (case hl => rfl))
    | ((with_reducible apply OwnKeep.stepO (k := cutStart_own _ _)))
    | ((with_reducible apply OwnKeep.step (k := startStep8_same _ _)); (case hl => rfl))
    | ((with_reducible apply OwnKeep.stepO (k := startStep9_own _ _ _ _)))
    | split
    | dsimp only

theorem startFrom6_own (k : StartIn) (warm : Bool) (base : Nat) (s : State) : OwnKeep s (startFrom6 k warm base s) := by
  unfold startFrom6
  repeat' first
    | (extract_lets +onlyGivenNames u_; first | (apply OwnKeep.gen (u := u_); (on_goal 1 => (dsimp -zeta -zetaHave only [u_]; clear u_)); (on_goal 2 => (clear_value u_; revert u_; intros))) | (dsimp -zeta -zetaHave only [u_]; clear u_) | (clear_value u_; revert u_; intros) | (revert u_; intros))
    | with_reducible assumption
    | with_reducible apply OwnKeep.refl
    | exact ⟨rfl, rfl⟩
    | (show ∀ _ : SysState, _ ∧ _; intros; repeat' first | exact ⟨rfl, rfl⟩ | split | dsimp only)
    | ((with_reducible apply OwnKeep.stepO (k := startFrom8_own _ _ _ _)))
    | ((with_reducible apply OwnKeep.step (k := startStep6_same _ _)); (case hl => rfl))
    | ((with_reducible apply OwnKeep.step (k := startStep7_same _ _)); (case hl => rfl))
    | ((with_reducible apply OwnKeep.fst_ (k := startStep7_same _ _) (by assumption)); (case hl => rfl))
    | (with_reducible apply OwnKeep.deferRecords)
    | (with_reducible apply OwnKeep.startCut)
    | with_reducible intro _
    | split
    | dsimp only

theorem startFrom4_own (k : StartIn) (warm : Bool) (s : State) : OwnKeep s (startFrom4 k warm s) := by
  unfold startFrom4
  repeat' first
    | (extract_lets +onlyGivenNames u_; first | (apply OwnKeep.gen (u := u_); (on_goal 1 => (dsimp -zeta -zetaHave only [u_]; clear u_)); (on_goal 2 => (clear_value u_; revert u_; intros))) | (clear_value u_; revert u_; intros) | (revert u_; intros))
    | with_reducible assumption
    | with_reducible apply OwnKeep.refl
    | exact ⟨rfl, rfl⟩
    | (show ∀ _ : SysState, _ ∧ _; intros; repeat' first | exact ⟨rfl, rfl⟩ | split | dsimp only)
    | ((with_reducible apply OwnKeep.stepO (k := startFrom6_own _ _ _ _)))
    | ((with_reducible apply OwnKeep.step (k := startStep4_same _)); (case hl => rfl))
    | ((with_reducible apply OwnKeep.step (k := startStep5_same _ _)); (case hl => rfl))
    | (with_reducible apply OwnKeep.startCut)
    | with_reducible intro _
    | split
    | dsimp only

theorem execMainPowerOn_own (k : StartIn) (s : State) {t_ : State} (h_ : execMainPowerOn k s = .next t_) : OwnKeep s t_ := by
  unfold execMainPowerOn at h_
  injection h_ with h_
  subst h_
  repeat' first
    | (extract_lets +onlyGivenNames u_; first | (apply OwnKeep.gen (u := u_); (on_goal 1 => (dsimp -zeta -zetaHave only [u_]; clear u_)); (on_goal 2 => (clear_value u_; revert u_; intros))) | (clear_value u_; revert u_; intros) | (revert u_; intros))
    | with_reducible assumption
    | with_reducible apply OwnKeep.refl
    | exact ⟨rfl, rfl⟩
    | (show ∀ _ : SysState, _ ∧ _; intros; repeat' first | exact ⟨rfl, rfl⟩ | split | dsimp only)
    | (with_reducible apply OwnKeep.onBulk)
    | (with_reducible apply OwnKeep.onHost)
    | (with_reducible apply OwnKeep.onMaint)
    | (with_reducible apply OwnKeep.onSys)
    | (with_reducible apply OwnKeep.onTime)
    | ((with_reducible apply OwnKeep.step (k := advance_same _ _)); (case hl => rfl))
    | ((with_reducible apply OwnKeep.step (k := advanceTo_same _ _)); (case hl => rfl))
    | ((with_reducible apply OwnKeep.stepO (k := startFrom4_own _ _ _)))
    | split
    | dsimp only

theorem execOwnInRise_own (s : State) {t_ : State} (h_ : execOwnInRise s = .next t_) : OwnKeep s t_ := by
  unfold execOwnInRise at h_
  injection h_ with h_
  subst h_
  repeat' first
    | (extract_lets +onlyGivenNames u_; first | (apply OwnKeep.gen (u := u_); (on_goal 1 => (dsimp -zeta -zetaHave only [u_]; clear u_)); (on_goal 2 => (clear_value u_; revert u_; intros))) | (clear_value u_; revert u_; intros) | (revert u_; intros))
    | with_reducible assumption
    | with_reducible apply OwnKeep.refl
    | exact ⟨rfl, rfl⟩
    | (show ∀ _ : SysState, _ ∧ _; intros; repeat' first | exact ⟨rfl, rfl⟩ | split | dsimp only)
    | (with_reducible apply OwnKeep.onDpx)
    | ((with_reducible apply OwnKeep.rel); (case ht => first | rfl | (split <;> rfl)))
    | ((with_reducible apply OwnKeep.step (k := wakeTrigger_same _ _)); (case hl => rfl))
    | split
    | dsimp only

theorem execRstNAssert_own (widthNs : Nat) (s : State) {t_ : State} (h_ : execRstNAssert widthNs s = .next t_) : OwnKeep s t_ := by
  unfold execRstNAssert at h_
  injection h_ with h_
  subst h_
  repeat' first
    | (extract_lets +onlyGivenNames u_; first | (apply OwnKeep.gen (u := u_); (on_goal 1 => (dsimp -zeta -zetaHave only [u_]; clear u_)); (on_goal 2 => (clear_value u_; revert u_; intros))) | (clear_value u_; revert u_; intros) | (revert u_; intros))
    | with_reducible assumption
    | with_reducible apply OwnKeep.refl
    | exact ⟨rfl, rfl⟩
    | (show ∀ _ : SysState, _ ∧ _; intros; repeat' first | exact ⟨rfl, rfl⟩ | split | dsimp only)
    | (with_reducible apply OwnKeep.onSys)
    | ((with_reducible apply OwnKeep.stepO (k := beginReset_own _ _)))
    | ((with_reducible apply OwnKeep.step (k := drawn_same _)); (case hl => rfl))
    | split
    | dsimp only

theorem execStartRoleResolution_own (s : State) {t_ : State} (h_ : execStartRoleResolution s = .next t_) : OwnKeep s t_ := by
  unfold execStartRoleResolution at h_
  injection h_ with h_
  subst h_
  repeat' first
    | (extract_lets +onlyGivenNames u_; first | (apply OwnKeep.gen (u := u_); (on_goal 1 => (dsimp -zeta -zetaHave only [u_]; clear u_)); (on_goal 2 => (clear_value u_; revert u_; intros))) | (clear_value u_; revert u_; intros) | (revert u_; intros))
    | with_reducible assumption
    | with_reducible apply OwnKeep.refl
    | exact ⟨rfl, rfl⟩
    | (show ∀ _ : SysState, _ ∧ _; intros; repeat' first | exact ⟨rfl, rfl⟩ | split | dsimp only)
    | (with_reducible apply OwnKeep.onSys)
    | ((with_reducible apply OwnKeep.step (k := advanceTo_same _ _)); (case hl => rfl))
    | ((with_reducible apply OwnKeep.stepO (k := setMode_own _ _ _ _ _)))
    | split
    | dsimp only

theorem execSysReset_own (p : Port) (s : State) {t_ : State} (h_ : execSysReset p s = .next t_) : OwnKeep s t_ := by
  unfold execSysReset at h_
  injection h_ with h_
  subst h_
  repeat' first
    | (extract_lets +onlyGivenNames u_; first | (apply OwnKeep.gen (u := u_); (on_goal 1 => (dsimp -zeta -zetaHave only [u_]; clear u_)); (on_goal 2 => (clear_value u_; revert u_; intros))) | (clear_value u_; revert u_; intros) | (revert u_; intros))
    | with_reducible assumption
    | with_reducible apply OwnKeep.refl
    | exact ⟨rfl, rfl⟩
    | (show ∀ _ : SysState, _ ∧ _; intros; repeat' first | exact ⟨rfl, rfl⟩ | split | dsimp only)
    | ((with_reducible apply OwnKeep.stepO (k := beginReset_own _ _)))
    | (with_reducible apply OwnKeep.runOp)
    | with_reducible intro _
    | split
    | dsimp only

theorem execTakeover_own (s : State) {t_ : State} (h_ : execTakeover s = .next t_) : OwnKeep s t_ := by
  unfold execTakeover at h_
  injection h_ with h_
  subst h_
  repeat' first
    | (extract_lets +onlyGivenNames u_; first | (apply OwnKeep.gen (u := u_); (on_goal 1 => (dsimp -zeta -zetaHave only [u_]; clear u_)); (on_goal 2 => (clear_value u_; revert u_; intros))) | (clear_value u_; revert u_; intros) | (revert u_; intros))
    | with_reducible assumption
    | with_reducible apply OwnKeep.refl
    | exact ⟨rfl, rfl⟩
    | (show ∀ _ : SysState, _ ∧ _; intros; repeat' first | exact ⟨rfl, rfl⟩ | split | dsimp only)
    | (with_reducible apply OwnKeep.onDpx)
    | ((with_reducible apply OwnKeep.step (k := commit_same _ _ _)); (case hl => rfl))
    | ((with_reducible apply OwnKeep.step (k := finish_same _ _ _ _ _ _ _)); (case hl => rfl))
    | ((with_reducible apply OwnKeep.step (k := gapMarker_same _)); (case hl => rfl))
    | ((with_reducible apply OwnKeep.step (k := noFunction_same _)); (case hl => rfl))
    | ((with_reducible apply OwnKeep.step (k := ownership_same _ _ _)); (case hl => rfl))
    | ((with_reducible apply OwnKeep.step (k := reclaimStop_same _)); (case hl => rfl))
    | ((with_reducible apply OwnKeep.step (k := setFunction_same _ _)); (case hl => rfl))
    | ((with_reducible apply OwnKeep.stepO (k := setMode_own _ _ _ _ _)))
    | ((with_reducible apply OwnKeep.step (k := takeOutputs_same _ _)); (case hl => rfl))
    | ((with_reducible apply OwnKeep.step (k := takeState_same _ _)); (case hl => rfl))
    | split
    | dsimp only

theorem execVmainLoss_own (fate : SlotFate) (s : State) {t_ : State} (h_ : execVmainLoss fate s = .next t_) : OwnKeep s t_ := by
  unfold execVmainLoss at h_
  injection h_ with h_
  subst h_
  repeat' first
    | (extract_lets +onlyGivenNames u_; first | (apply OwnKeep.gen (u := u_); (on_goal 1 => (dsimp -zeta -zetaHave only [u_]; clear u_)); (on_goal 2 => (clear_value u_; revert u_; intros))) | (clear_value u_; revert u_; intros) | (revert u_; intros))
    | with_reducible assumption
    | with_reducible apply OwnKeep.refl
    | exact ⟨rfl, rfl⟩
    | (show ∀ _ : SysState, _ ∧ _; intros; repeat' first | exact ⟨rfl, rfl⟩ | split | dsimp only)
    | ((with_reducible apply OwnKeep.stepO (k := supplyLost_own _ _)))
    | split
    | dsimp only

theorem execWarmResetStart_own (k : StartIn) (s : State) {t_ : State} (h_ : execWarmResetStart k s = .next t_) : OwnKeep s t_ := by
  unfold execWarmResetStart at h_
  injection h_ with h_
  subst h_
  repeat' first
    | (extract_lets +onlyGivenNames u_; first | (apply OwnKeep.gen (u := u_); (on_goal 1 => (dsimp -zeta -zetaHave only [u_]; clear u_)); (on_goal 2 => (clear_value u_; revert u_; intros))) | (clear_value u_; revert u_; intros) | (revert u_; intros))
    | with_reducible assumption
    | with_reducible apply OwnKeep.refl
    | exact ⟨rfl, rfl⟩
    | (show ∀ _ : SysState, _ ∧ _; intros; repeat' first | exact ⟨rfl, rfl⟩ | split | dsimp only)
    | ((with_reducible apply OwnKeep.step (k := advanceTo_same _ _)); (case hl => rfl))
    | ((with_reducible apply OwnKeep.stepO (k := startFrom4_own _ _ _)))
    | split
    | dsimp only

theorem execWatchdogExpiry_own (s : State) {t_ : State} (h_ : execWatchdogExpiry s = .next t_) : OwnKeep s t_ := by
  unfold execWatchdogExpiry at h_
  injection h_ with h_
  subst h_
  repeat' first
    | (extract_lets +onlyGivenNames u_; first | (apply OwnKeep.gen (u := u_); (on_goal 1 => (dsimp -zeta -zetaHave only [u_]; clear u_)); (on_goal 2 => (clear_value u_; revert u_; intros))) | (clear_value u_; revert u_; intros) | (revert u_; intros))
    | with_reducible assumption
    | with_reducible apply OwnKeep.refl
    | exact ⟨rfl, rfl⟩
    | (show ∀ _ : SysState, _ ∧ _; intros; repeat' first | exact ⟨rfl, rfl⟩ | split | dsimp only)
    | (with_reducible apply OwnKeep.onDpx)
    | (with_reducible apply OwnKeep.onSys)
    | ((with_reducible apply OwnKeep.stepO (k := beginReset_own _ _)))
    | split
    | dsimp only

theorem execWatchdogResetDelayEnd_own (s : State) {t_ : State} (h_ : execWatchdogResetDelayEnd s = .next t_) : OwnKeep s t_ := by
  unfold execWatchdogResetDelayEnd at h_
  injection h_ with h_
  subst h_
  repeat' first
    | (extract_lets +onlyGivenNames u_; first | (apply OwnKeep.gen (u := u_); (on_goal 1 => (dsimp -zeta -zetaHave only [u_]; clear u_)); (on_goal 2 => (clear_value u_; revert u_; intros))) | (clear_value u_; revert u_; intros) | (revert u_; intros))
    | with_reducible assumption
    | with_reducible apply OwnKeep.refl
    | exact ⟨rfl, rfl⟩
    | (show ∀ _ : SysState, _ ∧ _; intros; repeat' first | exact ⟨rfl, rfl⟩ | split | dsimp only)
    | ((with_reducible apply OwnKeep.step (k := advanceTo_same _ _)); (case hl => rfl))
    | ((with_reducible apply OwnKeep.stepO (k := beginReset_own _ _)))
    | split
    | dsimp only

end Sys2Proof.Machine
end

