-- ==== Sys2Proof/Tests/Slice0.lean ====
section
/-! SUPPORT. The tests: an ill-formed command for each check, hand-worked values of the spec, and for every statement states that meet its hypotheses. -/

set_option linter.all false
set_option Elab.async false

namespace Sys2Proof.Tests
open Sys2Proof Sys2Proof.Machine

/-- A module past its start, in STANDBY, with every domain on. -/
def live : State := { State.reset with
  hp := { ready := true }
  sys := { mode := .standby, running := some 0, coldBeforeStep7 := false, dom := Vector.replicate 12 .on } }

/-- A command with tag 9. -/
def cmd (op : Op) (ws : List Word) (x : Bool := false) : Cmd := { op := op, expert := x, tag := 9, words := ws }

/-- The state with the command accepted and outstanding at the port. -/
def asked (p : Port) (c : Cmd) (s : State) : State := s.onPort p fun q => { q with accepted := some c, outstanding := { tag := c.tag, op := c.op, resv := 2 } :: q.outstanding }

/-- The state with a command of that tag outstanding. -/
def waiting (p : Port) (tag : Nat) (op : Op) (s : State) : State := s.onPort p fun q => { q with outstanding := { tag := tag, op := op, resv := 2 } :: q.outstanding }

/-- The state with these parameters set and in force. -/
def setCfg (l : List (Op × Nat × List Word)) (s : State) : State :=
  s.onCfg fun c => { c with work := l.map fun e => { op := e.1, inst := e.2.1, words := e.2.2 }, force := l.map fun e => { op := e.1, inst := e.2.1, words := e.2.2 } }

/-- The state in that mode. -/
def inMode (m : Mode) (s : State) : State := s.onSys fun y => { y with mode := m, own := ownsIn m }

/-- Two modules of which the partner has SYNC. -/
def pair : State := { setCfg [(.dpxConfig, 0, [1, 0])] live with dpx := { healthy := true, sync := true, partner := some { sync := true } } }

/-- A Kiln image of zeros but for these words. -/
def kImg (l : List (Nat × Word)) : List Word := l.foldl (fun ws e => ws.set e.1 e.2) (List.replicate 37 0)

/-- The Kiln in RUN with such an image. -/
def kilnOn (l : List (Nat × Word)) : KilnState := { st := .run, copies := Vector.replicate 2 { words := kImg l } }

/-- A safe-data telegram with its CRC. -/
def telegram (init : Word) (seq permit : Nat) : List Byte :=
  let b := leBytes 2 seq ++ [1, 0] ++ leBytes 2 permit ++ leBytes 2 (65535 - permit) ++ [0, 0, 0, 0]
  b ++ leBytes 4 (crc32Init init b).toNat

/-- Characters by code. -/
def chars (l : List Nat) : List Byte := l.map (BitVec.ofNat 8)

/-- A vector with one element replaced. -/
def put {α : Type} {n : Nat} (v : Vector α n) (i : Nat) (x : α) : Vector α n := v.setIfInBounds i x

/-- A bit string of fields, the first on the left. -/
def bits (l : List (Nat × Nat)) : Nat := l.foldl (fun v e => v * 2 ^ e.1 + e.2 % 2 ^ e.1) 0

/-- Bytes of a number, the most significant first. -/
def beBytes (k v : Nat) : List Byte := (leBytes k v).reverse

/-- An RTCM frame around a message. -/
def rtcm (m : List Byte) : List Byte :=
  let b := [0xD3] ++ beBytes 2 m.length ++ m
  b ++ beBytes 3 (crc24 b).toNat

/-- The definition of a LINSOLVE structure with one unknown. -/
def lin : List Word := [0x01000000, 1, 1, 4, 0, 0x0000001E, 0x2000001E, 0x6000001E, 0x9000001E]

/-- Module and partner synchronised in STANDBY. -/
def duo : State := { setCfg [(.dpxConfig, 0, [1, 0])] live with dpx := { lane := Vector.replicate 2 true, healthy := true, sync := true, partner := some { mode := .standby, healthy := true, sync := true } } }

/-- Channels that track six satellites. -/
def meas6 : Vector Channel 32 := Vector.ofFn fun i => if i.val < 6 then { prn := i.val + 1, st := 5, meas := some { cn0 := 160, st := 5, usable := true, dd := true, slip := false, pr := 0, phase := 0, dop := 0, lock := 0 } } else {}

/-- Two basebands with those channels and an epoch in hand. -/
def gsix : State := { setCfg [(.gnssConfig, 0, [0xF, 0x05000000, 0]), (.gnssHdgConfig, 0, [1, 0x00050A0F]), (.fusRefConfig, 0, [0x100, 0x0000]), (.fusRefConfig, 1, [0x101, 0x0100, 0, 1000])] live with
  gnss := { bb := Vector.replicate 2 { awaiting := true, chans := meas6 }, hdgAwaiting := true } }

/-- Heard, as a test. -/
def heardB (p : Port) (c : Cmd) (s : State) : Bool :=
  decide ((s.port p).accepted = some c) && c.ecc.isEmpty && (firstBad c.op c.words).isNone &&
    match findTag (s.port p) c.tag with | some o => !o.done && decide (o.op = c.op) | none => false

theorem heard_of {p : Port} {c : Cmd} {s : State} (h : heardB p c s = true) : Heard p c s := by
  simp only [heardB, Bool.and_eq_true, decide_eq_true_eq, List.isEmpty_iff, Option.isNone_iff_eq_none] at h
  obtain ⟨⟨⟨ha, he⟩, hb⟩, hf⟩ := h
  refine ⟨ha, he, hb, ?_⟩
  split at hf
  · rename_i o ho; simp at hf; exact ⟨o, ho, hf⟩
  · cases hf

/-- Waits, as a test. -/
def waitsB (p : Port) (tag : Nat) (op : Op) (s : State) : Bool :=
  match findTag (s.port p) tag with | some o => !o.done && decide (o.op = op) | none => false

theorem waits_of {p : Port} {tag : Nat} {op : Op} {s : State} (h : waitsB p tag op s = true) : Waits p tag op s := by
  unfold waitsB at h
  split at h
  · rename_i o ho; simp at h; exact ⟨o, ho, h⟩
  · cases h

/-- The next state of an outcome. -/
def nextOf : Host.Outcome State Fault Refusal → State
  | .next t => t
  | _ => live

/-- That definition is accepted where its working set fits the 224 KiB of a cluster (R191; its size is open, log entry 18). -/
theorem lin_good (h : Config.workingSet lin ≤ 224 * 1024) : structFault (parseStruct (fld (wd (cmd .solvStructDefine [8]).words 0) 5 0) lin) lin = none := by
  unfold structFault
  rw [if_neg (by decide +kernel), if_neg (by decide +kernel), if_neg (by decide +kernel), if_neg (by decide +kernel), if_neg (by omega)]

/-! An ill-formed command for each check of Instr.wf, refused. -/

theorem test_wf_cut : (Instr.mainPowerOn { cutAt := 4 }).wf = false ∧ (Instr.warmResetStart { cutAt := 10 }).wf = false := by decide
theorem test_wf_prn : (Instr.channelAcquisition 0 0 33 1).wf = false ∧ (Instr.channelAcquisition 0 0 0 1).wf = false := by decide
theorem test_wf_sample : (Instr.sampleInstant 0 { raw := [1, 2, 3, 4] }).wf = false := by decide
theorem test_wf_reasons : (Instr.imuFault 0).wf = false ∧ (Instr.imuFault 6).wf = false ∧ (Instr.belvFault 4).wf = false := by decide
theorem test_wf_tickets : (Instr.copyComplete 256 0 0 none).wf = false ∧ (Instr.storeUncorrectableError 0 256).wf = false ∧
    (Instr.hostProblemDeadline 191).wf = false ∧ (Instr.copyResume 256 0).wf = false := by decide
theorem test_wf_frames : (Instr.rtcmFrame (List.replicate 1030 0)).wf = false ∧ (Instr.pmsFrame (List.replicate 65 0)).wf = false ∧
    (Instr.mirrorAckReceive (2 ^ 32) true).wf = false := by decide +kernel
theorem test_wf_can : (Instr.canFrameReceive 0 (.frame { id := 2048 } 0)).wf = false ∧
    (Instr.canFrameReceive 0 (.frame { data := List.replicate 9 0 } 0)).wf = false := by decide
theorem test_wf_maint : (Instr.maintFrameReceive { first := true, seq := 128, words := [] }).wf = false ∧
    (Instr.maintFrameReceive { first := true, seq := 0, words := List.replicate 16 { w := 0, ecc := .ok } }).wf = false := by decide
theorem test_wf_accepts : (Instr.mainPowerOn { cutAt := 9 }).wf = true ∧ (Instr.imuFault 5).wf = true ∧
    (Instr.canFrameReceive 0 (.frame { ide := true, id := 2 ^ 29 - 1, fdf := true, data := List.replicate 64 0 } 0)).wf = true := by decide

/-! Values worked by hand from the rules. -/

/-- Rounding to nearest, ties to even (R184). -/
theorem test_rne_ties : rne 5 2 = 2 ∧ rne 7 2 = 4 ∧ rne (-5) 2 = -2 ∧ rne (-7) 2 = -4 := by decide
/-- 1000000.5 × 2^36 (R184). -/
theorem test_store_value : storeQ 36 0x412E848100000000 = some (68719511095738368, false) := by decide +kernel
/-- 0.5, 1.5 and 2.5 at F = 0 round to the even neighbour, −0 stores as 0 (R184). -/
theorem test_store_ties : storeQ 0 0x3FE0000000000000 = some (0, false) ∧ storeQ 0 0x3FF8000000000000 = some (2, false) ∧
    storeQ 0 0x4004000000000000 = some (2, false) ∧ storeQ 0 0x8000000000000000 = some (0, false) := by decide +kernel
/-- 2^40 at F = 36 saturates at the upper end, its negative at the lower (R184). -/
theorem test_store_saturates : storeQ 36 0x4270000000000000 = some (2 ^ 63 - 1, true) ∧ storeQ 36 0xC270000000000000 = some (-2 ^ 63, true) := by decide +kernel
/-- An infinity and a NaN store nothing (R184). -/
theorem test_store_inf : storeQ 0 0x7FF0000000000000 = none ∧ storeQ 0 0x7FF8000000000000 = none := by decide +kernel
/-- A load is the inverse of an exact store (R185). -/
theorem test_load_value : loadQ 36 68719511095738368 = 0x412E848100000000 := by decide +kernel
/-- A fused multiply-add rounds once: (1 + 2^-52)² − 1 = 2^-51 + 2^-104, nearest 2^-51 (R180, IEEE 754). -/
theorem test_fma_once : fmaF 0x3FF0000000000001 0x3FF0000000000001 0xBFF0000000000000 = 0x3CC0000000000000 := by decide +kernel
/-- 1/3 and the square root of 2 in binary64 (R180, IEEE 754). -/
theorem test_div_sqrt : divF 0x3FF0000000000000 0x4008000000000000 = 0x3FD5555555555555 ∧ sqrtF 0x4000000000000000 = 0x3FF6A09E667F3BCD := by decide +kernel
/-- Three subnormal units from one: subnormals are kept (R180). -/
theorem test_subnormal : fmaF 1 0x4008000000000000 0 = 3 := by decide +kernel
/-- Thirds at two fraction counts add exactly before the one conversion: 1·2^-1 + 1·2^-2 = 3·2^-2, at F = 1 a tie to the even 2 (R186). -/
theorem test_reduce_once : reduceQ 1 [(1, 1), (1, 2)] = (2, false) := by decide +kernel
/-- The check values of the CRCs over the characters 1 to 9 (R60, R127, R387). -/
theorem test_crcs : crc32Init 0xFFFFFFFF (chars [49, 50, 51, 52, 53, 54, 55, 56, 57]) = 0xCBF43926 ∧
    crc24 (chars [49, 50, 51, 52, 53, 54, 55, 56, 57]) = 0xCDE703 ∧ crc16 (chars [49, 50, 51, 52, 53, 54, 55, 56, 57]) = 0x29B1 := by decide +kernel
/-- 2000 is a leap year and 2100 is not; the range ends with 2199 (R90). -/
theorem test_leap_years : validDate 2000 2 29 = true ∧ validDate 2100 2 29 = false ∧ validDate 2199 12 31 = true ∧ validDate 2200 1 1 = false := by decide
/-- The day after 2000-02-29 is 2000-03-01; day 366 is 2001-01-01 (R90). -/
theorem test_calendar : rtcFields (60 * 86400 * 32768) = [0, 0, 0, 0, 1, 3, 2000] ∧ rtcFields (366 * 86400 * 32768 + 5) = [5, 0, 0, 0, 1, 1, 2001] := by decide +kernel
/-- The opcode of TIME_SET_RTC (4.4). -/
theorem test_opcodes : opOfCode 0x110 = some .timeSetRtc ∧ opOfCode 0xFFF = none := by decide +kernel
/-- HP_WAKE resets to 10,000 µs, takes a budget in range, and keeps the old one and sets WAKE_REJ out of range (Table 2-14, R63). -/
theorem test_wake_budget : regRead 7 State.reset = 10000 ∧ regRead 7 (nextOf (execHpWakeWrite 10 live)) = 10 ∧
    regRead 7 (nextOf (execHpWakeWrite 10000001 live)) = 10000 ∧ (nextOf (execHpWakeWrite 0 live)).hp.wakeRej = true := by decide +kernel
/-- The direct read of an unassigned address returns zero (R32). -/
theorem test_unassigned : regRead 31 live = 0 ∧ regRead 255 live = 0 := by decide +kernel
/-- A bit that the module sets during the clearing access stays set (R7). -/
theorem test_w1c : (nextOf (execHpIrqClear 0 0xFFFFFFFF 4 (live.onEv fun e => { e with src := put e.src 3 { pend := true } }))).ev.src[2].pend = true ∧
    (nextOf (execHpIrqClear 0 0xFFFFFFFF 4 (live.onEv fun e => { e with src := put e.src 3 { pend := true } }))).ev.src[3].pend = false := by decide +kernel
/-- A safe-data telegram with a false inverse is no valid one (Table 12-8). -/
theorem test_telegram : sdValid (kilnOn [(0, 1)]) (telegram 0 7 3) = true ∧ sdValid (kilnOn [(0, 1)]) ((telegram 0 7 3).set 6 0) = false := by decide +kernel
/-- The XOR of the characters between $ and * is the sentence's checksum (14.8). -/
theorem test_checksum : sentenceFault false false (chars [36, 71, 80, 72, 68, 84, 44, 49, 44, 84, 42, 50, 65]) = none ∧
    sentenceFault false false (chars [36, 71, 80, 72, 68, 84, 44, 49, 44, 84, 42, 50, 66]) = some 1 := by decide +kernel
/-- With no phase left a plan stays where it is. -/
theorem test_rest : runFor 10000 ([] : Plan) { x := 5 } = ({ x := 5 }, []) := by decide +kernel
/-- A command at the front of the queue runs before the one behind it. -/
theorem test_queue_order : (nextOf (step { live with pending := [.hpWakeWrite 7, .hpWakeWrite 9] })).pending = [.hpWakeWrite 9] ∧
    (nextOf (step { live with pending := [.hpWakeWrite 7, .hpWakeWrite 9] })).hp.wakeBudget = 7 := by decide +kernel
/-- SYS_GET_ID is answered OK with its tag (Table 2-7). -/
theorem test_get_id : ((nextOf (execSysGetId .host (asked .host (cmd .sysGetId []) live))).host.store.getLast?.map fun k => fld (wd k.words 0) 15 8) = some 9 := by decide +kernel
/-- KILN_BRAKE with the Kiln off ends with the link-down status 0x9015 (12.10). -/
theorem test_kiln_off : ((nextOf (execKilnBrake .host (asked .host (cmd .kilnBrake [3]) live))).host.store.getLast?.map fun k => fld (wd k.words 1) 31 16) = some 0x9015 := by decide +kernel

/-! For every statement with hypotheses, states that meet them, clause by clause (in the order of its clauses with hypotheses). -/

/-- A state that meets the hypotheses of EmptyQueueStepIsOneTick. -/
theorem witness_empty_queue_step_is_one_tick :
    (∃ (s : State), s.pending = []) :=
  (by refine ⟨(live), ?_⟩; exact by decide +kernel)

/-- A state that meets the hypotheses of EveryCommandLeavesTheOtherPartsAlone. -/
theorem witness_every_command_leaves_the_other_parts_alone :
    (∃ (i : Instr) (s : State) (t : State), Steps i s t) :=
  (by refine ⟨(.replyTransfer .host : Instr), (live), (nextOf (exec (.replyTransfer .host) live)), ?_⟩; exact rfl)

/-- A state that meets the hypotheses of EveryStepKeepsOwnershipWithTheMode. -/
theorem witness_every_step_keeps_ownership_with_the_mode :
    (∃ (s : State) (t : State), OwnsByMode s ∧ step s = .next t) :=
  (by refine ⟨(live), (nextOf (step live)), ?_⟩; exact ⟨rfl, rfl⟩)

/-- States that meet the hypotheses of HostWordsEnterTheCommandQueueOnlyWhenAcknowledged, clause by clause. -/
theorem witness_host_words_enter_the_command_queue_only_when_acknowledged :
    (∃ (w : Word) (e : Ecc) (s : State), s.sys.vmain = true ∧ s.host.held = none ∧ s.host.cmdq.length < 1024) ∧
    (∃ (w : Word) (e : Ecc) (s : State), s.sys.vmain = true ∧ s.host.held = none ∧ 1024 ≤ s.host.cmdq.length) ∧
    (∃ (q : QWord) (s : State), s.sys.vmain = true ∧ s.host.held = some q ∧ s.host.cmdq.length < 1024) ∧
    (∃ (w : Word) (e : Ecc) (s : State), s.sys.vmain = false) :=
  ⟨(by refine ⟨(0 : Word), (.ok : Ecc), (live), ?_⟩; exact ⟨by decide +kernel, by decide +kernel, by decide +kernel⟩),
   (by refine ⟨(0 : Word), (.ok : Ecc), ({ live with host := { cmdq := List.replicate 1024 { w := 0, ecc := .ok } } }), ?_⟩; exact ⟨by decide +kernel, by decide +kernel, by decide +kernel⟩),
   (by refine ⟨({ w := 7, ecc := .ok } : QWord), ({ live with host := { held := some { w := 7, ecc := .ok } } }), ?_⟩; exact ⟨by decide +kernel, by decide +kernel, by decide +kernel⟩),
   (by refine ⟨(0 : Word), (.ok : Ecc), ({ live with sys := { live.sys with vmain := false } }), ?_⟩; exact by decide +kernel)⟩

/-- States that meet the hypotheses of HostReadsTakeTheReplyWordAndReportErrors, clause by clause. -/
theorem witness_host_reads_take_the_reply_word_and_report_errors :
    (∃ (e : Ecc) (w : Word) (rest : List Word) (s : State), s.sys.vmain = true ∧ s.host.rspq = w :: rest) ∧
    (∃ (e : Ecc) (s : State), s.sys.vmain = true ∧ s.host.rspq = []) ∧
    (∃ (s : State), s.sys.vmain = true ∧ s.hp.ready = true) ∧
    (∃ (late : EccCounts) (s : State), s.sys.vmain = true ∧ late.cqUe ≤ 255 ∧ late.rqUe ≤ 255 ∧ late.cqCe ≤ 255 ∧ late.rqCe ≤ 255) :=
  ⟨(by refine ⟨(.ok : Ecc), (5 : Word), ([6] : List Word), ({ live with host := { rspq := [5, 6], rspLeft := 1 } }), ?_⟩; exact ⟨by decide +kernel, by decide +kernel⟩),
   (by refine ⟨(.ok : Ecc), (live), ?_⟩; exact ⟨by decide +kernel, by decide +kernel⟩),
   (by refine ⟨(live), ?_⟩; exact ⟨by decide +kernel, by decide +kernel⟩),
   (by refine ⟨({} : EccCounts), (live), ?_⟩; exact ⟨by decide +kernel, by decide +kernel, by decide +kernel, by decide +kernel, by decide +kernel⟩)⟩

/-- States that meet the hypotheses of WritesToTheDirectRegistersDoWhatTheirAccessCodesSay, clause by clause. -/
theorem witness_writes_to_the_direct_registers_do_what_their_access_codes_say :
    (∃ (v : Word) (s : State), s.sys.vmain = true ∧ 1 ≤ fld v 23 0 ∧ fld v 23 0 ≤ 10000000) ∧
    (∃ (v : Word) (s : State), s.sys.vmain = true ∧ (fld v 23 0 = 0 ∨ 10000000 < fld v 23 0)) ∧
    (∃ (v : Word) (d : Word) (s : State), s.sys.vmain = true) ∧
    (∃ (n : Fin 4) (v : Word) (d : Word) (s : State), s.sys.vmain = true) ∧
    (∃ (n : Fin 4) (v : Word) (s : State), s.sys.vmain = true) ∧
    (∃ (a : BitVec 8) (i : Fin 7) (v : Word) (s : State), s.sys.vmain = true ∧ a.toNat = 24 + i.val) ∧
    (∃ (a : BitVec 8) (i : Fin 16) (v : Word) (s : State), s.sys.vmain = true ∧ a.toNat = 32 + i.val) ∧
    (∃ (n : Fin 4) (a : BitVec 8) (b : BitVec 8) (v : Word) (s : State), a.toNat = 8 + n.val ∧ b.toNat = 12 + n.val) ∧
    (∃ (a : BitVec 8) (v : Word) (s : State), s.sys.vmain = true ∧ (a.toNat = 0 ∨ (3 ≤ a.toNat ∧ a.toNat ≤ 6) ∨ (16 ≤ a.toNat ∧ a.toNat ≤ 22) ∨ a.toNat = 31 ∨ 48 ≤ a.toNat)) :=
  ⟨(by refine ⟨(500 : Word), (live), ?_⟩; exact ⟨by decide +kernel, by decide +kernel, by decide +kernel⟩),
   (by refine ⟨(0 : Word), (live), ?_⟩; exact ⟨by decide +kernel, by decide +kernel⟩),
   (by refine ⟨(0 : Word), (0 : Word), (live), ?_⟩; exact by decide +kernel),
   (by refine ⟨(0 : Fin 4), (0 : Word), (0 : Word), (live), ?_⟩; exact by decide +kernel),
   (by refine ⟨(0 : Fin 4), (0 : Word), (live), ?_⟩; exact by decide +kernel),
   (by refine ⟨(24 : BitVec 8), (0 : Fin 7), (0 : Word), (live), ?_⟩; exact ⟨by decide +kernel, by decide +kernel⟩),
   (by refine ⟨(33 : BitVec 8), (1 : Fin 16), (77 : Word), (live), ?_⟩; exact ⟨by decide +kernel, by decide +kernel⟩),
   (by refine ⟨(0 : Fin 4), (8 : BitVec 8), (12 : BitVec 8), (0 : Word), (live), ?_⟩; exact ⟨by decide +kernel, by decide +kernel⟩),
   (by refine ⟨(0 : BitVec 8), (0 : Word), (live), ?_⟩; exact ⟨by decide +kernel, by decide +kernel⟩)⟩

/-- States that meet the hypotheses of PacketsAreTakenInOrderAndCheckedBeforeAcceptance, clause by clause. -/
theorem witness_packets_are_taken_in_order_and_checked_before_acceptance :
    (∃ (p : Port) (hd : QWord) (rest : List QWord) (op : Op) (s : State), s.hp.ready = true ∧ s.sys.dom[0] = .on ∧ (s.port p).accepted = none ∧ (s.port p).cmdq = hd :: rest ∧ hd.ecc = .ok ∧ hd.cut = none ∧ fld hd.w 7 0 ≤ rest.length ∧ reservation hd.w ≤ storeRoom (s.port p) ∧ headCheck p hd.w ((rest.take (fld hd.w 7 0)).map fun q => q.w) s = none ∧ opOfCode (fld hd.w 31 20) = some op ∧ standbyRefuses op s = false) ∧
    (∃ (p : Port) (hd : QWord) (rest : List QWord) (st : Nat) (d : Nat) (s : State), s.hp.ready = true ∧ s.sys.dom[0] = .on ∧ (s.port p).accepted = none ∧ (s.port p).cmdq = hd :: rest ∧ hd.ecc = .ok ∧ hd.cut = none ∧ fld hd.w 7 0 ≤ rest.length ∧ reservation hd.w ≤ storeRoom (s.port p) ∧ headCheck p hd.w ((rest.take (fld hd.w 7 0)).map fun q => q.w) s = some (st, d)) ∧
    (∃ (hd : QWord) (rest : List QWord) (s : State), s.hp.ready = true ∧ s.sys.dom[0] = .on ∧ s.host.accepted = none ∧ s.host.cmdq = hd :: rest ∧ hd.ecc = .uncorrectable) ∧
    (∃ (p : Port) (hd : QWord) (pay : List QWord) (op : Op) (s : State), s.hp.ready = true ∧ s.sys.dom[0] = .on ∧ (s.port p).accepted = none ∧ (s.port p).cmdq = hd :: pay ∧ (s.port p).wrHave = pay.length ∧ (s.port p).wrLeft ≠ 0 ∧ (s.port p).held = none ∧ hd.ecc = .ok ∧ reservation hd.w ≤ storeRoom (s.port p) ∧ headCheck p hd.w (pay.map fun q => q.w) s = none ∧ opOfCode (fld hd.w 31 20) = some op ∧ standbyRefuses op s = false) :=
  ⟨(by refine ⟨(.host : Port), ({ w := 0x00100900, ecc := .ok } : QWord), ([] : List QWord), (.sysGetId : Op), ({ live with host := { cmdq := [{ w := 0x00100900, ecc := .ok }] } }), ?_⟩; exact ⟨by decide +kernel, by decide +kernel, by decide +kernel, by decide +kernel, by decide +kernel, by decide +kernel, by decide +kernel, by decide +kernel, by decide +kernel, by decide +kernel, by decide +kernel⟩),
   (by refine ⟨(.host : Port), ({ w := 0x00100000, ecc := .ok } : QWord), ([] : List QWord), (0xF010 : Nat), (0 : Nat), ({ live with host := { cmdq := [{ w := 0x00100000, ecc := .ok }] } }), ?_⟩; exact ⟨by decide +kernel, by decide +kernel, by decide +kernel, by decide +kernel, by decide +kernel, by decide +kernel, by decide +kernel, by decide +kernel, by decide +kernel⟩),
   (by refine ⟨({ w := 3, ecc := .uncorrectable } : QWord), ([] : List QWord), ({ live with host := { cmdq := [{ w := 3, ecc := .uncorrectable }] } }), ?_⟩; exact ⟨by decide +kernel, by decide +kernel, by decide +kernel, by decide +kernel, by decide +kernel⟩),
   (by refine ⟨(.host : Port), ({ w := 0x00100900, ecc := .ok } : QWord), ([] : List QWord), (.sysGetId : Op), ({ live with host := { cmdq := [{ w := 0x00100900, ecc := .ok }], wrLeft := 2 } }), ?_⟩; exact ⟨by decide +kernel, by decide +kernel, by decide +kernel, by decide +kernel, by decide +kernel, by decide +kernel, by decide +kernel, by decide +kernel, by decide +kernel, by decide +kernel, by decide +kernel, by decide +kernel⟩)⟩

/-- States that meet the hypotheses of RepliesMoveWholeIntoTheReplyQueue, clause by clause. -/
theorem witness_replies_move_whole_into_the_reply_queue :
    (∃ (k : Pkt) (rest : List Pkt) (s : State), s.host.store = k :: rest ∧ s.host.rspq.length + k.words.length ≤ 1024) ∧
    (∃ (k : Pkt) (rest : List Pkt) (s : State), s.host.store = k :: rest ∧ 1024 < s.host.rspq.length + k.words.length) ∧
    (∃ (k : Pkt) (rest : List Pkt) (s : State), s.maint.store = k :: rest ∧ s.maint.rspq = [] ∧ maintOn s = false) ∧
    (∃ (p : Port) (s : State), s.hp.ready = true ∧ (s.port p).lost ≠ 0 ∧ 5 ≤ storeRoom (s.port p)) ∧
    (∃ (h : Fin 4) (x : Handle) (s : State), s.bulk[h] = some x) :=
  ⟨(by refine ⟨({ words := [1, 2] } : Pkt), ([] : List Pkt), ({ live with host := { store := [{ words := [1, 2] }] } }), ?_⟩; exact ⟨by decide +kernel, by decide +kernel⟩),
   (by refine ⟨({ words := [1, 2] } : Pkt), ([] : List Pkt), ({ live with host := { store := [{ words := [1, 2] }], rspq := List.replicate 1023 0 } }), ?_⟩; exact ⟨by decide +kernel, by decide +kernel⟩),
   (by refine ⟨({ words := [1, 2] } : Pkt), ([] : List Pkt), ({ live with maint := { store := [{ words := [1, 2] }] } }), ?_⟩; exact ⟨by decide +kernel, by decide +kernel, by decide +kernel⟩),
   (by refine ⟨(.host : Port), ({ live with host := { lost := 3 } }), ?_⟩; exact ⟨by decide +kernel, by decide +kernel, by decide +kernel⟩),
   (by refine ⟨(0 : Fin 4), ({ port := .host, kind := 6, inst := 0, fromMod := false, len := 3, crc := 0, data := [], next := 0, last := 0 } : Handle), ({ live with bulk := #v[some { port := .host, kind := 6, inst := 0, fromMod := false, len := 3, crc := 0, data := [], next := 0, last := 0 }, none, none, none] }), ?_⟩; exact by decide +kernel)⟩

/-- States that meet the hypotheses of CalendarRegistersReadCoherentlyAndCommitWhole, clause by clause. -/
theorem witness_calendar_registers_read_coherently_and_commit_whole :
    (∃ (r : Fin 6) (s : State), s.sys.vmain = true ∧ s.time.frozen = none) ∧
    (∃ (r : Fin 6) (s : State), s.sys.vmain = true ∧ s.time.frozen ≠ none) ∧
    (∃ (s : State), s.sys.vmain = true ∧ s.time.frozen ≠ none) ∧
    (∃ (m : Nat) (s : State), s.time.frozen = some m ∧ s.hp.ready = true) ∧
    (∃ (v : Nat) (s : State), s.sys.vmain = true ∧ stagedTime s.time = some v) ∧
    (∃ (s : State), s.sys.vmain = true ∧ stagedTime s.time = none ∧ s.hp.ready = true) ∧
    (∃ (v : Word) (d : Word) (s : State), s.sys.vmain = true ∧ bit v 0 = false) ∧
    (∃ (l : RtcLoad) (s : State), s.time.load = some l) :=
  ⟨(by refine ⟨(0 : Fin 6), (live), ?_⟩; exact ⟨by decide +kernel, by decide +kernel⟩),
   (by refine ⟨(0 : Fin 6), ({ live with time := { frozen := some 0 } }), ?_⟩; exact ⟨by decide +kernel, by decide +kernel⟩),
   (by refine ⟨({ live with time := { frozen := some 0 } }), ?_⟩; exact ⟨by decide +kernel, by decide +kernel⟩),
   (by refine ⟨(0 : Nat), ({ live with time := { frozen := some 0 } }), ?_⟩; exact ⟨by decide +kernel, by decide +kernel⟩),
   (by refine ⟨(0 : Nat), (live), ?_⟩; exact ⟨by decide +kernel, by decide +kernel⟩),
   (by refine ⟨({ live with time := { stg := #v[0, 0, 0, 0, 31, 2, 2001] } }), ?_⟩; exact ⟨by decide +kernel, by decide +kernel, by decide +kernel⟩),
   (by refine ⟨(0 : Word), (0 : Word), (live), ?_⟩; exact ⟨by decide +kernel, by decide +kernel⟩),
   (by refine ⟨({ val := 9, source := 1, at_ := 3 } : RtcLoad), ({ live with time := { load := some { val := 9, source := 1, at_ := 3 } } }), ?_⟩; exact by decide +kernel)⟩

/-- States that meet the hypotheses of AlarmsFireAndClockCommandsSetWhatTheyCarry, clause by clause. -/
theorem witness_alarms_fire_and_clock_commands_set_what_they_carry :
    (∃ (a : Fin 2) (m : Nat) (s : State), (s.time.alarm[a]).armed = true ∧ alarmNext s.time.alarm[a] (if s.time.rtc + 1 < (s.time.alarm[a]).from_ then 0 else (s.time.alarm[a]).from_) = some m ∧ s.sys.vmain = true ∧ s.hp.ready = true) ∧
    (∃ (p : Port) (c : Cmd) (s : State), Heard p c s ∧ c.op = .timeSetAlarm ∧ fld (wd c.words 0) 9 8 = 0) ∧
    (∃ (p : Port) (c : Cmd) (s : State), Heard p c s ∧ c.op = .timeSetAlarm ∧ (fld (wd c.words 0) 9 8 = 1 ∨ fld (wd c.words 0) 9 8 = 2) ∧ ((fld (wd c.words 0) 9 8 = 1 → validDate (fld (wd c.words 1) 31 16) (fld (wd c.words 1) 15 8) (fld (wd c.words 1) 7 0) = true ∧
      s.time.rtc < alarmInstant (wd c.words 1) (wd c.words 2))) ∧ wd c.words 2 &&& 0xFFE0C0C0 = 0 ∧ validTime (fld (wd c.words 2) 20 16) (fld (wd c.words 2) 13 8) (fld (wd c.words 2) 5 0) = true) ∧
    (∃ (p : Port) (c : Cmd) (s : State), Heard p c s ∧ c.op = .timeSetAlarm ∧ fld (wd c.words 0) 9 8 = 1 ∧ validDate (fld (wd c.words 1) 31 16) (fld (wd c.words 1) 15 8) (fld (wd c.words 1) 7 0) = true ∧ wd c.words 2 &&& 0xFFE0C0C0 = 0 ∧ validTime (fld (wd c.words 2) 20 16) (fld (wd c.words 2) 13 8) (fld (wd c.words 2) 5 0) = true ∧ alarmInstant (wd c.words 1) (wd c.words 2) ≤ s.time.rtc) ∧
    (∃ (p : Port) (c : Cmd) (s : State), Heard p c s ∧ c.op = .timeSetRtc ∧ c.expert = false ∧ s.time.load = none ∧ validDate (fld (wd c.words 0) 31 16) (fld (wd c.words 0) 15 8) (fld (wd c.words 0) 7 0) = true ∧ validTime (fld (wd c.words 1) 20 16) (fld (wd c.words 1) 13 8) (fld (wd c.words 1) 5 0) = true) ∧
    (∃ (p : Port) (c : Cmd) (s : State), Heard p c s ∧ c.op = .timeSetRtc ∧ c.expert = false ∧ validDate (fld (wd c.words 0) 31 16) (fld (wd c.words 0) 15 8) (fld (wd c.words 0) 7 0) = false) ∧
    (∃ (p : Port) (c : Cmd) (i : Fin 2) (s : State), Heard p c s ∧ c.op = .timeGetAlarm ∧ i.val = b2n (bit (wd c.words 0) 0)) :=
  ⟨(by refine ⟨(0 : Fin 2), ((alarmNext { kind := 2, armed := true, date := 0, time := 0x00010101 } 0).getD 0 : Nat), ({ live with time := { alarm := #v[{ kind := 2, armed := true, date := 0, time := 0x00010101 }, {}] } }), ?_⟩; exact ⟨by decide +kernel, by decide +kernel, by decide +kernel, by decide +kernel⟩),
   (by refine ⟨(.host : Port), (cmd .timeSetAlarm []), (asked (.host : Port) (cmd .timeSetAlarm []) (live)), ?_⟩; exact ⟨heard_of (by decide +kernel), by decide +kernel, by decide +kernel⟩),
   (by refine ⟨(.host : Port), (cmd .timeSetAlarm [0x200, 0, 0x00010101]), (asked (.host : Port) (cmd .timeSetAlarm [0x200, 0, 0x00010101]) (live)), ?_⟩; exact ⟨heard_of (by decide +kernel), by decide +kernel, by decide +kernel, by decide +kernel, by decide +kernel, by decide +kernel⟩),
   (by refine ⟨(.host : Port), (cmd .timeSetAlarm [0x100, 0x07D00101, 0]), (asked (.host : Port) (cmd .timeSetAlarm [0x100, 0x07D00101, 0]) (live)), ?_⟩; exact ⟨heard_of (by decide +kernel), by decide +kernel, by decide +kernel, by decide +kernel, by decide +kernel, by decide +kernel, by decide +kernel⟩),
   (by refine ⟨(.host : Port), (cmd .timeSetRtc [0x07D00101, 0, 0]), (asked (.host : Port) (cmd .timeSetRtc [0x07D00101, 0, 0]) (live)), ?_⟩; exact ⟨heard_of (by decide +kernel), by decide +kernel, by decide +kernel, by decide +kernel, by decide +kernel, by decide +kernel⟩),
   (by refine ⟨(.host : Port), (cmd .timeSetRtc []), (asked (.host : Port) (cmd .timeSetRtc []) (live)), ?_⟩; exact ⟨heard_of (by decide +kernel), by decide +kernel, by decide +kernel, by decide +kernel⟩),
   (by refine ⟨(.host : Port), (cmd .timeGetAlarm []), (0 : Fin 2), (asked (.host : Port) (cmd .timeGetAlarm []) (live)), ?_⟩; exact ⟨heard_of (by decide +kernel), by decide +kernel, by decide +kernel⟩)⟩

/-- States that meet the hypotheses of TimeSourceFollowsTheSolution, clause by clause. -/
theorem witness_time_source_follows_the_solution :
    (∃ (s : State), s.time.source = .gnss ∧ s.time.step = none ∧ s.hp.ready = true ∧ ((∀ b : Fin 2, (s.gnss.bb[b]).timeOk = false))) ∧
    (∃ (x : TimeSol) (s : State), s.time.source = .none ∧ timeAllowed s x.bb ((s.gnss.bb[x.bb]).fix != 0) = true ∧ s.hp.ready = true) ∧
    (∃ (x : TimeSol) (s : State), s.time.source = .holdover ∧ timeAllowed s x.bb ((s.gnss.bb[x.bb]).fix != 0) = true ∧ (phaseError (atAntenna s x) s.time).natAbs ≤ 2000000 ∧ s.hp.ready = true) ∧
    (∃ (x : TimeSol) (s : State), s.time.source = .holdover ∧ timeAllowed s x.bb ((s.gnss.bb[x.bb]).fix != 0) = true ∧ 2000000 < (phaseError (atAntenna s x) s.time).natAbs ∧ s.hp.ready = true) ∧
    (∃ (x : TimeSol) (s : State), timeAllowed s x.bb ((s.gnss.bb[x.bb]).fix != 0) = false) ∧
    (∃ (m : Nat) (s : State), s.time.holdSince = some m ∧ s.time.source = .holdover ∧ s.time.holdRaised = false ∧ s.hp.ready = true) ∧
    (∃ (e : Int) (n : Nat) (s : State), (s.time.source = .gnss ∨ s.time.source = .holdover) ∧ s.time.step = some (e, n) ∧ s.hp.ready = true) ∧
    (∃ (s : State), (s.time.source = .gnss ∨ s.time.source = .holdover) ∧ s.time.step = none ∧ s.time.ppsWait = []) ∧
    (∃ (w : PpsWait) (ws : List PpsWait) (op : Op) (s : State), s.time.ppsWait = w :: ws ∧ Waits w.port w.tag op s) :=
  ⟨(by refine ⟨({ live with time := { source := .gnss } }), ?_⟩; exact ⟨by decide +kernel, by decide +kernel, by decide +kernel, by decide +kernel⟩),
   (by refine ⟨({ tow := 5, errNs := 40 } : TimeSol), ({ live with gnss := { bb := #v[{ fix := 1 }, {}] } }), ?_⟩; exact ⟨by decide +kernel, by decide +kernel, by decide +kernel⟩),
   (by refine ⟨({ sec := 10000 } : TimeSol), ({ live with gnss := { bb := #v[{ fix := 1 }, {}] }, sys := { live.sys with factoryBad := true }, time := { source := .holdover, holdSince := some 0 } }), ?_⟩; exact ⟨by decide +kernel, by decide +kernel, by decide +kernel, by decide +kernel⟩),
   (by refine ⟨({ sec := 10000000 } : TimeSol), ({ live with gnss := { bb := #v[{ fix := 1 }, {}] }, sys := { live.sys with factoryBad := true }, time := { source := .holdover, holdSince := some 0 } }), ?_⟩; exact ⟨by decide +kernel, by decide +kernel, by decide +kernel, by decide +kernel⟩),
   (by refine ⟨({} : TimeSol), ({ live with time := { source := .gnss } }), ?_⟩; exact by decide +kernel),
   (by refine ⟨(0 : Nat), ({ live with time := { source := .holdover, holdSince := some 0, mt := 20000000000000 } }), ?_⟩; exact ⟨by decide +kernel, by decide +kernel, by decide +kernel, by decide +kernel⟩),
   (by refine ⟨(3000 : Int), (4 : Nat), ({ live with time := { source := .gnss, step := some (3000, 4) } }), ?_⟩; exact ⟨by decide +kernel, by decide +kernel, by decide +kernel⟩),
   (by refine ⟨({ live with time := { source := .gnss } }), ?_⟩; exact ⟨by decide +kernel, by decide +kernel, by decide +kernel⟩),
   (by refine ⟨({ port := .host, tag := 5, val := none, since := 0 } : PpsWait), ([] : List PpsWait), (.timeSetRtc : Op), ({ waiting .host 5 .timeSetRtc live with time := { ppsWait := [{ port := .host, tag := 5, val := none, since := 0 }] } }), ?_⟩; exact ⟨by decide +kernel, waits_of (by decide +kernel)⟩)⟩

/-- States that meet the hypotheses of SystemCommandsSetTheModeTheBudgetAndAbort, clause by clause. -/
theorem witness_system_commands_set_the_mode_the_budget_and_abort :
    (∃ (p : Port) (c : Cmd) (m : Mode) (s : State), Heard p c s ∧ c.op = .sysSetMode ∧ modeOf (fld (wd c.words 0) 2 0) = some m ∧ modeRefusal s m (bit (wd c.words 0) 8) ≠ 0) ∧
    (∃ (p : Port) (c : Cmd) (m : Mode) (s : State), Heard p c s ∧ c.op = .sysSetMode ∧ modeOf (fld (wd c.words 0) 2 0) = some m ∧ modeRefusal s m (bit (wd c.words 0) 8) = 0 ∧ (s.sys.mode ≠ .control ∨ s.duplex = false ∨ partnerReady s = false)) ∧
    (∃ (p : Port) (c : Cmd) (m : Mode) (s : State), Heard p c s ∧ c.op = .sysSetMode ∧ modeOf (fld (wd c.words 0) 2 0) = some m ∧ modeRefusal s m (bit (wd c.words 0) 8) = 0 ∧ s.sys.mode = .control ∧ s.duplex = true ∧ partnerReady s = true) ∧
    (∃ (p : Port) (c : Cmd) (s : State), Heard p c s ∧ c.op = .sysSetWake) ∧
    (∃ (p : Port) (c : Cmd) (s : State), Heard p c s ∧ c.op = .sysAbort ∧ findTag (s.port p) (fld (wd c.words 0) 7 0) = none) ∧
    (∃ (p : Port) (c : Cmd) (o : Outst) (s : State), Heard p c s ∧ c.op = .sysAbort ∧ findTag (s.port p) (fld (wd c.words 0) 7 0) = some o ∧ (opInfo o.op).long = true ∧ o.done = false ∧ o.committed = true) ∧
    (∃ (p : Port) (c : Cmd) (o : Outst) (s : State), Heard p c s ∧ c.op = .sysAbort ∧ findTag (s.port p) (fld (wd c.words 0) 7 0) = some o ∧ (opInfo o.op).long = true ∧ o.done = false ∧ o.committed = false ∧ notAbortable p o s = false ∧ isCommit p (fld (wd c.words 0) 7 0) s = false) ∧
    (∃ (p : Port) (c : Cmd) (i : Fin 2) (s : State), Heard p c s ∧ c.op = .sysGetId ∧ s.sys.running = some i) :=
  ⟨(by refine ⟨(.host : Port), (cmd .sysSetMode [2]), (.commission : Mode), (asked (.host : Port) (cmd .sysSetMode [2]) (live)), ?_⟩; exact ⟨heard_of (by decide +kernel), by decide +kernel, by decide +kernel, by decide +kernel⟩),
   (by refine ⟨(.host : Port), (cmd .sysSetMode [0]), (.dormant : Mode), (asked (.host : Port) (cmd .sysSetMode [0]) (live)), ?_⟩; exact ⟨heard_of (by decide +kernel), by decide +kernel, by decide +kernel, by decide +kernel, by decide +kernel⟩),
   (by refine ⟨(.host : Port), (cmd .sysSetMode [0]), (.dormant : Mode), (asked (.host : Port) (cmd .sysSetMode [0]) (inMode .control pair)), ?_⟩; exact ⟨heard_of (by decide +kernel), by decide +kernel, by decide +kernel, by decide +kernel, by decide +kernel, by decide +kernel, by decide +kernel⟩),
   (by refine ⟨(.host : Port), (cmd .sysSetWake []), (asked (.host : Port) (cmd .sysSetWake []) (live)), ?_⟩; exact ⟨heard_of (by decide +kernel), by decide +kernel⟩),
   (by refine ⟨(.host : Port), (cmd .sysAbort []), (asked (.host : Port) (cmd .sysAbort []) (live)), ?_⟩; exact ⟨heard_of (by decide +kernel), by decide +kernel, by decide +kernel⟩),
   (by refine ⟨(.host : Port), (cmd .sysAbort [5]), ({ tag := 5, op := .timeSetRtc, resv := 2, committed := true } : Outst), (asked (.host : Port) (cmd .sysAbort [5]) ({ live with host := { outstanding := [{ tag := 5, op := .timeSetRtc, resv := 2, committed := true }] } })), ?_⟩; exact ⟨heard_of (by decide +kernel), by decide +kernel, by decide +kernel, by decide +kernel, by decide +kernel, by decide +kernel⟩),
   (by refine ⟨(.host : Port), (cmd .sysAbort [5]), ({ tag := 5, op := .timeSetRtc, resv := 2, committed := false } : Outst), (asked (.host : Port) (cmd .sysAbort [5]) ({ live with host := { outstanding := [{ tag := 5, op := .timeSetRtc, resv := 2, committed := false }] } })), ?_⟩; exact ⟨heard_of (by decide +kernel), by decide +kernel, by decide +kernel, by decide +kernel, by decide +kernel, by decide +kernel, by decide +kernel, by decide +kernel⟩),
   (by refine ⟨(.host : Port), (cmd .sysGetId []), (0 : Fin 2), (asked (.host : Port) (cmd .sysGetId []) (live)), ?_⟩; exact ⟨heard_of (by decide +kernel), by decide +kernel, by decide +kernel⟩)⟩

/-- States that meet the hypotheses of BulkHandlesMoveWholeObjects, clause by clause. -/
theorem witness_bulk_handles_move_whole_objects :
    (∃ (p : Port) (c : Cmd) (r : KindRow) (i : Fin 4) (s : State), Heard p c s ∧ c.op = .bulkOpen ∧ openCheck c s = none ∧ kindRow (fld (wd c.words 0) 31 16) = some r ∧ r.fromMod = false ∧ bit (wd c.words 1) 0 = false ∧ (wd c.words 2).toNat ≤ r.len ∧ ((fld (wd c.words 0) 31 16 = 0x20 → (s.dpc.fn == 4) = false)) ∧ s.bulk[i] = none ∧ ((∀ j : Fin 4, j < i → s.bulk[j] ≠ none))) ∧
    (∃ (p : Port) (c : Cmd) (r : KindRow) (s : State), Heard p c s ∧ c.op = .bulkOpen ∧ openCheck c s = none ∧ kindRow (fld (wd c.words 0) 31 16) = some r ∧ r.fromMod = false ∧ bit (wd c.words 1) 0 = false ∧ (wd c.words 2).toNat ≤ r.len ∧ ((fld (wd c.words 0) 31 16 = 0x20 → (s.dpc.fn == 4) = false)) ∧ ((∀ j : Fin 4, s.bulk[j] ≠ none))) ∧
    (∃ (p : Port) (c : Cmd) (i : Fin 4) (h : Handle) (s : State), Heard p c s ∧ c.op = .bulkWrite ∧ s.bulk[i] = some h ∧ fld (wd c.words 0) 31 24 = i.val + 1 ∧ h.fromMod = false ∧ ((∃ r, kindRow h.kind = some r ∧ kindMode h.kind r s = true)) ∧ fld (wd c.words 0) 23 0 = h.next ∧ (c.words.drop 1).length = min 254 (h.len - h.data.length)) ∧
    (∃ (p : Port) (c : Cmd) (i : Fin 4) (h : Handle) (s : State), Heard p c s ∧ c.op = .bulkWrite ∧ s.bulk[i] = some h ∧ fld (wd c.words 0) 31 24 = i.val + 1 ∧ h.fromMod = false ∧ ((∃ r, kindRow h.kind = some r ∧ kindMode h.kind r s = true)) ∧ fld (wd c.words 0) 23 0 ≠ h.next) ∧
    (∃ (p : Port) (c : Cmd) (i : Fin 4) (h : Handle) (s : State), Heard p c s ∧ c.op = .bulkRead ∧ s.bulk[i] = some h ∧ fld (wd c.words 0) 31 24 = i.val + 1 ∧ h.fromMod = true ∧ ((∃ r, kindRow h.kind = some r ∧ kindMode h.kind r s = true)) ∧ 253 * fld (wd c.words 0) 23 0 < h.len) ∧
    (∃ (p : Port) (c : Cmd) (i : Fin 4) (h : Handle) (s : State), Heard p c s ∧ c.op = .bulkClose ∧ s.bulk[i] = some h ∧ fld (wd c.words 0) 7 0 = i.val + 1 ∧ h.fromMod = false ∧ h.kind ≠ 1 ∧ ((∃ r, kindRow h.kind = some r ∧ kindMode h.kind r s = true)) ∧ h.data.length < h.len) ∧
    (∃ (p : Port) (c : Cmd) (i : Fin 4) (h : Handle) (s : State), Heard p c s ∧ c.op = .bulkClose ∧ s.bulk[i] = some h ∧ fld (wd c.words 0) 7 0 = i.val + 1 ∧ h.fromMod = false ∧ h.kind ≠ 1 ∧ ((∃ r, kindRow h.kind = some r ∧ kindMode h.kind r s = true)) ∧ h.len ≤ h.data.length ∧ crc32 h.data.reverse ≠ h.crc) ∧
    (∃ (f : FwProg) (op : Op) (s : State), s.sys.fwProg = some f ∧ Waits f.port f.tag op s) :=
  ⟨(by refine ⟨(.host : Port), (cmd .bulkOpen [0x00410000, 0, 5, 0]), (⟨0, 15, false, 5, 33, 2⟩ : KindRow), (0 : Fin 4), (asked (.host : Port) (cmd .bulkOpen [0x00410000, 0, 5, 0]) (inMode .commission live)), ?_⟩; exact ⟨heard_of (by decide +kernel), by decide +kernel, by decide +kernel, rfl, by decide +kernel, by decide +kernel, by decide +kernel, by decide +kernel, by decide +kernel, by decide +kernel⟩),
   (by refine ⟨(.host : Port), (cmd .bulkOpen [0x00410000, 0, 5, 0]), (⟨0, 15, false, 5, 33, 2⟩ : KindRow), (asked (.host : Port) (cmd .bulkOpen [0x00410000, 0, 5, 0]) (inMode .commission { live with bulk := Vector.replicate 4 (some { port := .host, kind := 6, inst := 0, fromMod := false, len := 3, crc := 0, data := [], next := 0, last := 0 }) })), ?_⟩; exact ⟨heard_of (by decide +kernel), by decide +kernel, by decide +kernel, rfl, by decide +kernel, by decide +kernel, by decide +kernel, by decide +kernel, by decide +kernel⟩),
   (by refine ⟨(.host : Port), (cmd .bulkWrite [0x01000000, 1, 2, 3]), (0 : Fin 4), ({ port := .host, kind := 0x41, inst := 0, fromMod := false, len := 3, crc := 0, data := [], next := 0, last := 0 } : Handle), (asked (.host : Port) (cmd .bulkWrite [0x01000000, 1, 2, 3]) (inMode .commission ({ live with bulk := #v[some { port := .host, kind := 0x41, inst := 0, fromMod := false, len := 3, crc := 0, data := [], next := 0, last := 0 }, none, none, none] }))), ?_⟩; exact ⟨heard_of (by decide +kernel), by decide +kernel, by decide +kernel, by decide +kernel, by decide +kernel, by decide +kernel, by decide +kernel, by decide +kernel⟩),
   (by refine ⟨(.host : Port), (cmd .bulkWrite [0x01000005, 1, 2, 3]), (0 : Fin 4), ({ port := .host, kind := 0x41, inst := 0, fromMod := false, len := 3, crc := 0, data := [], next := 0, last := 0 } : Handle), (asked (.host : Port) (cmd .bulkWrite [0x01000005, 1, 2, 3]) (inMode .commission ({ live with bulk := #v[some { port := .host, kind := 0x41, inst := 0, fromMod := false, len := 3, crc := 0, data := [], next := 0, last := 0 }, none, none, none] }))), ?_⟩; exact ⟨heard_of (by decide +kernel), by decide +kernel, by decide +kernel, by decide +kernel, by decide +kernel, by decide +kernel, by decide +kernel⟩),
   (by refine ⟨(.host : Port), (cmd .bulkRead [0x01000000]), (0 : Fin 4), ({ port := .host, kind := 0x30, inst := 0, fromMod := true, len := 3, crc := 0, data := [1, 2, 3], next := 0, last := 0 } : Handle), (asked (.host : Port) (cmd .bulkRead [0x01000000]) (inMode .commission ({ live with bulk := #v[some { port := .host, kind := 0x30, inst := 0, fromMod := true, len := 3, crc := 0, data := [1, 2, 3], next := 0, last := 0 }, none, none, none] }))), ?_⟩; exact ⟨heard_of (by decide +kernel), by decide +kernel, by decide +kernel, by decide +kernel, by decide +kernel, by decide +kernel, by decide +kernel⟩),
   (by refine ⟨(.host : Port), (cmd .bulkClose [1]), (0 : Fin 4), ({ port := .host, kind := 0x41, inst := 0, fromMod := false, len := 3, crc := 0, data := [], next := 0, last := 0 } : Handle), (asked (.host : Port) (cmd .bulkClose [1]) (inMode .commission ({ live with bulk := #v[some { port := .host, kind := 0x41, inst := 0, fromMod := false, len := 3, crc := 0, data := [], next := 0, last := 0 }, none, none, none] }))), ?_⟩; exact ⟨heard_of (by decide +kernel), by decide +kernel, by decide +kernel, by decide +kernel, by decide +kernel, by decide +kernel, by decide +kernel, by decide +kernel⟩),
   (by refine ⟨(.host : Port), (cmd .bulkClose [1]), (0 : Fin 4), ({ port := .host, kind := 0x41, inst := 0, fromMod := false, len := 2, crc := 0, data := [1, 2], next := 0, last := 0 } : Handle), (asked (.host : Port) (cmd .bulkClose [1]) (inMode .commission ({ live with bulk := #v[some { port := .host, kind := 0x41, inst := 0, fromMod := false, len := 2, crc := 0, data := [1, 2], next := 0, last := 0 }, none, none, none] }))), ?_⟩; exact ⟨heard_of (by decide +kernel), by decide +kernel, by decide +kernel, by decide +kernel, by decide +kernel, by decide +kernel, by decide +kernel, by decide +kernel, by decide +kernel⟩),
   (by refine ⟨({ target := 1, gen := 2, crc := 0, oldCrc := 0, port := .host, tag := 5 } : FwProg), (.bulkClose : Op), ({ waiting .host 5 .bulkClose live with sys := { live.sys with fwProg := some { target := 1, gen := 2, crc := 0, oldCrc := 0, port := .host, tag := 5 } } }), ?_⟩; exact ⟨by decide +kernel, waits_of (by decide +kernel)⟩)⟩

/-- States that meet the hypotheses of NavigationAndPositioningParametersAreSetAsCarried, clause by clause. -/
theorem witness_navigation_and_positioning_parameters_are_set_as_carried :
    (∃ (p : Port) (c : Cmd) (s : State) (ws : List Word), Heard p c s ∧ ws = expertWords c.op c.expert c.words ∧ c.op = .gnssConfig) ∧
    (∃ (p : Port) (c : Cmd) (s : State) (ws : List Word), Heard p c s ∧ ws = expertWords c.op c.expert c.words ∧ c.op = .gnssRtcmConfig ∧ ((fld (wd ws 0) 3 0 = 15 ∨ slotUsesUart s (fld (wd ws 0) 3 0) = false ∧ fld (wd (cfgGet s.cfg.work .busUartConfig (fld (wd ws 0) 3 0)) 0) 9 8 = 3))) ∧
    (∃ (p : Port) (c : Cmd) (s : State) (ws : List Word), Heard p c s ∧ ws = expertWords c.op c.expert c.words ∧ c.op = .gnssHdgConfig ∧ ((bit (wd ws 0) 0 = true → baselineOf s.cfg.work ≠ none))) ∧
    (∃ (p : Port) (c : Cmd) (s : State) (ws : List Word), Heard p c s ∧ ws = expertWords c.op c.expert c.words ∧ c.op = .fusRefConfig ∧ refCheck s ws = none) ∧
    (∃ (p : Port) (c : Cmd) (s : State) (ws : List Word), Heard p c s ∧ ws = expertWords c.op c.expert c.words ∧ c.op = .fusRefEnable ∧ refKindSet s (fld (wd c.words 0) 4 0) ≠ 0) ∧
    (∃ (p : Port) (c : Cmd) (s : State) (ws : List Word), Heard p c s ∧ ws = expertWords c.op c.expert c.words ∧ c.op = .fusVoteConfig) ∧
    (∃ (p : Port) (c : Cmd) (s : State) (ws : List Word), Heard p c s ∧ ws = expertWords c.op c.expert c.words ∧ c.op = .fusObserverConfig) ∧
    (∃ (p : Port) (c : Cmd) (s : State) (ws : List Word), Heard p c s ∧ ws = expertWords c.op c.expert c.words ∧ c.op = .cfgFirChannel ∧ firCheck s ws = none) ∧
    (∃ (p : Port) (c : Cmd) (s : State) (ws : List Word), Heard p c s ∧ ws = expertWords c.op c.expert c.words ∧ c.op = .dpcSetDatum ∧ ((s.sys.mode ≠ .control ∨ s.dpc.fn < 3)) ∧ ((s.dpc.datumSrc = 0 ∨ dist3 (ecefOf (wd ws 0).toInt (wd ws 1).toNat (wd ws 2).toInt) (estEcef s) ≤ 2000000000))) ∧
    (∃ (p : Port) (c : Cmd) (s : State) (ws : List Word), Heard p c s ∧ ws = expertWords c.op c.expert c.words ∧ c.op = .dpcSetRotationPoint ∧ (wd ws 0).toInt.natAbs ≤ 100000 ∧ (wd ws 1).toInt.natAbs ≤ 100000) ∧
    (∃ (p : Port) (c : Cmd) (s : State) (ws : List Word), Heard p c s ∧ ws = expertWords c.op c.expert c.words ∧ c.op = .dpcControllerConfig) ∧
    (∃ (p : Port) (c : Cmd) (s : State) (ws : List Word), Heard p c s ∧ ws = expertWords c.op c.expert c.words ∧ c.op = .dpcMpcConfig ∧ fld (wd ws 1) 31 16 % 50 = 0) ∧
    (∃ (p : Port) (c : Cmd) (s : State) (ws : List Word), Heard p c s ∧ ws = expertWords c.op c.expert c.words ∧ c.op = .dpcMoveConfig) ∧
    (∃ (p : Port) (c : Cmd) (s : State) (ws : List Word), Heard p c s ∧ ws = expertWords c.op c.expert c.words ∧ c.op = .dpcJoystickConfig) ∧
    (∃ (p : Port) (c : Cmd) (s : State) (ws : List Word), Heard p c s ∧ ws = expertWords c.op c.expert c.words ∧ c.op = .dpcPowerConfig ∧ ((bit (wd ws 0) 8 = true ∨ fld (wd ws 1) 28 0 ≤ 0x7FF))) :=
  ⟨(by refine ⟨(.host : Port), (cmd .gnssConfig []), (asked (.host : Port) (cmd .gnssConfig []) (live)), (expertWords (cmd .gnssConfig []).op (cmd .gnssConfig []).expert (cmd .gnssConfig []).words : List Word), ?_⟩; exact ⟨heard_of (by decide +kernel), rfl, by decide +kernel⟩),
   (by refine ⟨(.host : Port), (cmd .gnssRtcmConfig []), (asked (.host : Port) (cmd .gnssRtcmConfig []) (live)), (expertWords (cmd .gnssRtcmConfig []).op (cmd .gnssRtcmConfig []).expert (cmd .gnssRtcmConfig []).words : List Word), ?_⟩; exact ⟨heard_of (by decide +kernel), rfl, by decide +kernel, by decide +kernel⟩),
   (by refine ⟨(.host : Port), (cmd .gnssHdgConfig []), (asked (.host : Port) (cmd .gnssHdgConfig []) (live)), (expertWords (cmd .gnssHdgConfig []).op (cmd .gnssHdgConfig []).expert (cmd .gnssHdgConfig []).words : List Word), ?_⟩; exact ⟨heard_of (by decide +kernel), rfl, by decide +kernel, by decide +kernel⟩),
   (by refine ⟨(.host : Port), (cmd .fusRefConfig []), (asked (.host : Port) (cmd .fusRefConfig []) (live)), (expertWords (cmd .fusRefConfig []).op (cmd .fusRefConfig []).expert (cmd .fusRefConfig []).words : List Word), ?_⟩; exact ⟨heard_of (by decide +kernel), rfl, by decide +kernel, by decide +kernel⟩),
   (by refine ⟨(.host : Port), (cmd .fusRefEnable [1]), (asked (.host : Port) (cmd .fusRefEnable [1]) (setCfg [(.fusRefConfig, 1, [0x101])] (live))), (expertWords (cmd .fusRefEnable [1]).op (cmd .fusRefEnable [1]).expert (cmd .fusRefEnable [1]).words : List Word), ?_⟩; exact ⟨heard_of (by decide +kernel), rfl, by decide +kernel, by decide +kernel⟩),
   (by refine ⟨(.host : Port), (cmd .fusVoteConfig []), (asked (.host : Port) (cmd .fusVoteConfig []) (live)), (expertWords (cmd .fusVoteConfig []).op (cmd .fusVoteConfig []).expert (cmd .fusVoteConfig []).words : List Word), ?_⟩; exact ⟨heard_of (by decide +kernel), rfl, by decide +kernel⟩),
   (by refine ⟨(.host : Port), (cmd .fusObserverConfig []), (asked (.host : Port) (cmd .fusObserverConfig []) (live)), (expertWords (cmd .fusObserverConfig []).op (cmd .fusObserverConfig []).expert (cmd .fusObserverConfig []).words : List Word), ?_⟩; exact ⟨heard_of (by decide +kernel), rfl, by decide +kernel⟩),
   (by refine ⟨(.host : Port), (cmd .cfgFirChannel []), (asked (.host : Port) (cmd .cfgFirChannel []) (live)), (expertWords (cmd .cfgFirChannel []).op (cmd .cfgFirChannel []).expert (cmd .cfgFirChannel []).words : List Word), ?_⟩; exact ⟨heard_of (by decide +kernel), rfl, by decide +kernel, by decide +kernel⟩),
   (by refine ⟨(.host : Port), (cmd .dpcSetDatum []), (asked (.host : Port) (cmd .dpcSetDatum []) (live)), (expertWords (cmd .dpcSetDatum []).op (cmd .dpcSetDatum []).expert (cmd .dpcSetDatum []).words : List Word), ?_⟩; exact ⟨heard_of (by decide +kernel), rfl, by decide +kernel, by decide +kernel, by decide +kernel⟩),
   (by refine ⟨(.host : Port), (cmd .dpcSetRotationPoint []), (asked (.host : Port) (cmd .dpcSetRotationPoint []) (live)), (expertWords (cmd .dpcSetRotationPoint []).op (cmd .dpcSetRotationPoint []).expert (cmd .dpcSetRotationPoint []).words : List Word), ?_⟩; exact ⟨heard_of (by decide +kernel), rfl, by decide +kernel, by decide +kernel, by decide +kernel⟩),
   (by refine ⟨(.host : Port), (cmd .dpcControllerConfig []), (asked (.host : Port) (cmd .dpcControllerConfig []) (live)), (expertWords (cmd .dpcControllerConfig []).op (cmd .dpcControllerConfig []).expert (cmd .dpcControllerConfig []).words : List Word), ?_⟩; exact ⟨heard_of (by decide +kernel), rfl, by decide +kernel⟩),
   (by refine ⟨(.host : Port), (cmd .dpcMpcConfig []), (asked (.host : Port) (cmd .dpcMpcConfig []) (live)), (expertWords (cmd .dpcMpcConfig []).op (cmd .dpcMpcConfig []).expert (cmd .dpcMpcConfig []).words : List Word), ?_⟩; exact ⟨heard_of (by decide +kernel), rfl, by decide +kernel, by decide +kernel⟩),
   (by refine ⟨(.host : Port), (cmd .dpcMoveConfig []), (asked (.host : Port) (cmd .dpcMoveConfig []) (live)), (expertWords (cmd .dpcMoveConfig []).op (cmd .dpcMoveConfig []).expert (cmd .dpcMoveConfig []).words : List Word), ?_⟩; exact ⟨heard_of (by decide +kernel), rfl, by decide +kernel⟩),
   (by refine ⟨(.host : Port), (cmd .dpcJoystickConfig []), (asked (.host : Port) (cmd .dpcJoystickConfig []) (live)), (expertWords (cmd .dpcJoystickConfig []).op (cmd .dpcJoystickConfig []).expert (cmd .dpcJoystickConfig []).words : List Word), ?_⟩; exact ⟨heard_of (by decide +kernel), rfl, by decide +kernel⟩),
   (by refine ⟨(.host : Port), (cmd .dpcPowerConfig []), (asked (.host : Port) (cmd .dpcPowerConfig []) (live)), (expertWords (cmd .dpcPowerConfig []).op (cmd .dpcPowerConfig []).expert (cmd .dpcPowerConfig []).words : List Word), ?_⟩; exact ⟨heard_of (by decide +kernel), rfl, by decide +kernel, by decide +kernel⟩)⟩

/-- States that meet the hypotheses of ActuationParametersAreSetAsCarried, clause by clause. -/
theorem witness_actuation_parameters_are_set_as_carried :
    (∃ (p : Port) (c : Cmd) (s : State) (ws : List Word), Heard p c s ∧ ws = expertWords c.op c.expert c.words ∧ c.op = .allocThrusterConfig ∧ thrBad ws = none) ∧
    (∃ (p : Port) (c : Cmd) (s : State) (ws : List Word), Heard p c s ∧ ws = expertWords c.op c.expert c.words ∧ c.op = .allocConfig) ∧
    (∃ (p : Port) (c : Cmd) (s : State) (ws : List Word), Heard p c s ∧ ws = expertWords c.op c.expert c.words ∧ c.op = .allocConseqConfig ∧ fld (wd ws 1) 15 0 < fld (wd ws 0) 31 16) ∧
    (∃ (p : Port) (c : Cmd) (s : State) (ws : List Word), Heard p c s ∧ ws = expertWords c.op c.expert c.words ∧ c.op = .loopConfig ∧ loopConfigCheck s ws = none) ∧
    (∃ (p : Port) (c : Cmd) (s : State) (ws : List Word), Heard p c s ∧ ws = expertWords c.op c.expert c.words ∧ c.op = .loopThrusterBind ∧ bindCheck s ws = none) ∧
    (∃ (p : Port) (c : Cmd) (s : State) (ws : List Word), Heard p c s ∧ ws = expertWords c.op c.expert c.words ∧ c.op = .loopSetCoeff ∧ leRefuse s (fld (wd ws 0) 5 0) = none) ∧
    (∃ (p : Port) (c : Cmd) (s : State) (ws : List Word), Heard p c s ∧ ws = expertWords c.op c.expert c.words ∧ c.op = .loopGroup ∧ groupCheck s ws = none) ∧
    (∃ (p : Port) (c : Cmd) (s : State) (ws : List Word), Heard p c s ∧ ws = expertWords c.op c.expert c.words ∧ c.op = .profConfig ∧ profConfigCheck ws = none) :=
  ⟨(by refine ⟨(.host : Port), (cmd .allocThrusterConfig [1, 0, 0, 1000, 1000, 0, 0, 11930465, 0, 0x000A000A, 0, 0, 0, 0, 0, 0] true), (asked (.host : Port) (cmd .allocThrusterConfig [1, 0, 0, 1000, 1000, 0, 0, 11930465, 0, 0x000A000A, 0, 0, 0, 0, 0, 0] true) (live)), (expertWords (cmd .allocThrusterConfig [1, 0, 0, 1000, 1000, 0, 0, 11930465, 0, 0x000A000A, 0, 0, 0, 0, 0, 0] true).op (cmd .allocThrusterConfig [1, 0, 0, 1000, 1000, 0, 0, 11930465, 0, 0x000A000A, 0, 0, 0, 0, 0, 0] true).expert (cmd .allocThrusterConfig [1, 0, 0, 1000, 1000, 0, 0, 11930465, 0, 0x000A000A, 0, 0, 0, 0, 0, 0] true).words : List Word), ?_⟩; exact ⟨heard_of (by decide +kernel), rfl, by decide +kernel, by decide +kernel⟩),
   (by refine ⟨(.host : Port), (cmd .allocConfig []), (asked (.host : Port) (cmd .allocConfig []) (live)), (expertWords (cmd .allocConfig []).op (cmd .allocConfig []).expert (cmd .allocConfig []).words : List Word), ?_⟩; exact ⟨heard_of (by decide +kernel), rfl, by decide +kernel⟩),
   (by refine ⟨(.host : Port), (cmd .allocConseqConfig []), (asked (.host : Port) (cmd .allocConseqConfig []) (live)), (expertWords (cmd .allocConseqConfig []).op (cmd .allocConseqConfig []).expert (cmd .allocConseqConfig []).words : List Word), ?_⟩; exact ⟨heard_of (by decide +kernel), rfl, by decide +kernel, by decide +kernel⟩),
   (by refine ⟨(.host : Port), (cmd .loopConfig []), (asked (.host : Port) (cmd .loopConfig []) (live)), (expertWords (cmd .loopConfig []).op (cmd .loopConfig []).expert (cmd .loopConfig []).words : List Word), ?_⟩; exact ⟨heard_of (by decide +kernel), rfl, by decide +kernel, by decide +kernel⟩),
   (by refine ⟨(.host : Port), (cmd .loopThrusterBind [0xFFFF0001, 0xFFFFFF00, 0, 0, 0] true), (asked (.host : Port) (cmd .loopThrusterBind [0xFFFF0001, 0xFFFFFF00, 0, 0, 0] true) (setCfg [(.bulkClose, 97, [1])] (live))), (expertWords (cmd .loopThrusterBind [0xFFFF0001, 0xFFFFFF00, 0, 0, 0] true).op (cmd .loopThrusterBind [0xFFFF0001, 0xFFFFFF00, 0, 0, 0] true).expert (cmd .loopThrusterBind [0xFFFF0001, 0xFFFFFF00, 0, 0, 0] true).words : List Word), ?_⟩; exact ⟨heard_of (by decide +kernel), rfl, by decide +kernel, by decide +kernel⟩),
   (by refine ⟨(.host : Port), (cmd .loopSetCoeff []), (asked (.host : Port) (cmd .loopSetCoeff []) (live)), (expertWords (cmd .loopSetCoeff []).op (cmd .loopSetCoeff []).expert (cmd .loopSetCoeff []).words : List Word), ?_⟩; exact ⟨heard_of (by decide +kernel), rfl, by decide +kernel, by decide +kernel⟩),
   (by refine ⟨(.host : Port), (cmd .loopGroup [0x103, 0]), (asked (.host : Port) (cmd .loopGroup [0x103, 0]) (live)), (expertWords (cmd .loopGroup [0x103, 0]).op (cmd .loopGroup [0x103, 0]).expert (cmd .loopGroup [0x103, 0]).words : List Word), ?_⟩; exact ⟨heard_of (by decide +kernel), rfl, by decide +kernel, by decide +kernel⟩),
   (by refine ⟨(.host : Port), (cmd .profConfig []), (asked (.host : Port) (cmd .profConfig []) (live)), (expertWords (cmd .profConfig []).op (cmd .profConfig []).expert (cmd .profConfig []).words : List Word), ?_⟩; exact ⟨heard_of (by decide +kernel), rfl, by decide +kernel, by decide +kernel⟩)⟩

/-- States that meet the hypotheses of BusDuplexAndModuleParametersAreSetAsCarried, clause by clause. -/
theorem witness_bus_duplex_and_module_parameters_are_set_as_carried :
    (∃ (p : Port) (c : Cmd) (s : State) (ws : List Word), Heard p c s ∧ ws = expertWords c.op c.expert c.words ∧ c.op = .busCanConfig ∧ canConfigCheck s ws = none) ∧
    (∃ (p : Port) (c : Cmd) (s : State) (ws : List Word), Heard p c s ∧ ws = expertWords c.op c.expert c.words ∧ c.op = .busUartConfig ∧ ((fld (wd ws 0) 9 8 = 1 → fld (wd ws 0) 18 16 = 0)) ∧ ((fld (wd ws 0) 9 8 = 2 → fld (wd ws 0) 18 16 = 3)) ∧ ((fld (wd ws 0) 9 8 = 1 ∨ fld (wd ws 0) 9 8 = 2 → fld (wd ws 1) 3 2 = 0 ∧ bit (wd ws 1) 4 = false)) ∧ ((fld (wd ws 0) 9 8 = fld (wd (cfgGet s.cfg.work .busUartConfig (fld (wd ws 0) 3 0)) 0) 9 8 ∨
        slotUsesUart s (fld (wd ws 0) 3 0) = false ∧ rtcmPortSet s ≠ fld (wd ws 0) 3 0))) ∧
    (∃ (p : Port) (c : Cmd) (s : State) (ws : List Word), Heard p c s ∧ ws = expertWords c.op c.expert c.words ∧ c.op = .busMaintConfig ∧ p = .host ∧ fld (wd (cfgGet s.cfg.work .busCanConfig 5) 0) 9 8 = 1 ∧ fld (wd (cfgGet s.cfg.work .busCanConfig 5) 0) 19 16 ≠ 0) ∧
    (∃ (p : Port) (c : Cmd) (s : State) (ws : List Word), Heard p c s ∧ ws = expertWords c.op c.expert c.words ∧ c.op = .dpxConfig) ∧
    (∃ (p : Port) (c : Cmd) (s : State) (ws : List Word), Heard p c s ∧ ws = expertWords c.op c.expert c.words ∧ c.op = .calSet ∧ calCheck ws = none) ∧
    (∃ (p : Port) (c : Cmd) (s : State) (ws : List Word), Heard p c s ∧ ws = expertWords c.op c.expert c.words ∧ c.op = .cfgModule) ∧
    (∃ (p : Port) (c : Cmd) (s : State) (ws : List Word), Heard p c s ∧ ws = expertWords c.op c.expert c.words ∧ c.op = .logConfig) :=
  ⟨(by refine ⟨(.host : Port), (cmd .busCanConfig []), (asked (.host : Port) (cmd .busCanConfig []) (live)), (expertWords (cmd .busCanConfig []).op (cmd .busCanConfig []).expert (cmd .busCanConfig []).words : List Word), ?_⟩; exact ⟨heard_of (by decide +kernel), rfl, by decide +kernel, by decide +kernel⟩),
   (by refine ⟨(.host : Port), (cmd .busUartConfig []), (asked (.host : Port) (cmd .busUartConfig []) (live)), (expertWords (cmd .busUartConfig []).op (cmd .busUartConfig []).expert (cmd .busUartConfig []).words : List Word), ?_⟩; exact ⟨heard_of (by decide +kernel), rfl, by decide +kernel, by decide +kernel, by decide +kernel, by decide +kernel, by decide +kernel⟩),
   (by refine ⟨(.host : Port), (cmd .busMaintConfig [0, 0, 0, 0]), (asked (.host : Port) (cmd .busMaintConfig [0, 0, 0, 0]) (setCfg [(.busCanConfig, 5, [0x00010100])] (live))), (expertWords (cmd .busMaintConfig [0, 0, 0, 0]).op (cmd .busMaintConfig [0, 0, 0, 0]).expert (cmd .busMaintConfig [0, 0, 0, 0]).words : List Word), ?_⟩; exact ⟨heard_of (by decide +kernel), rfl, by decide +kernel, by decide +kernel, by decide +kernel, by decide +kernel⟩),
   (by refine ⟨(.host : Port), (cmd .dpxConfig []), (asked (.host : Port) (cmd .dpxConfig []) (live)), (expertWords (cmd .dpxConfig []).op (cmd .dpxConfig []).expert (cmd .dpxConfig []).words : List Word), ?_⟩; exact ⟨heard_of (by decide +kernel), rfl, by decide +kernel⟩),
   (by refine ⟨(.host : Port), (cmd .calSet [0x101, 5]), (asked (.host : Port) (cmd .calSet [0x101, 5]) (live)), (expertWords (cmd .calSet [0x101, 5]).op (cmd .calSet [0x101, 5]).expert (cmd .calSet [0x101, 5]).words : List Word), ?_⟩; exact ⟨heard_of (by decide +kernel), rfl, by decide +kernel, by decide +kernel⟩),
   (by refine ⟨(.host : Port), (cmd .cfgModule []), (asked (.host : Port) (cmd .cfgModule []) (live)), (expertWords (cmd .cfgModule []).op (cmd .cfgModule []).expert (cmd .cfgModule []).words : List Word), ?_⟩; exact ⟨heard_of (by decide +kernel), rfl, by decide +kernel⟩),
   (by refine ⟨(.host : Port), (cmd .logConfig []), (asked (.host : Port) (cmd .logConfig []) (live)), (expertWords (cmd .logConfig []).op (cmd .logConfig []).expert (cmd .logConfig []).words : List Word), ?_⟩; exact ⟨heard_of (by decide +kernel), rfl, by decide +kernel⟩)⟩

/-- States that meet the hypotheses of RefusedConfigurationChangesNothing, clause by clause. -/
theorem witness_refused_configuration_changes_nothing :
    (∃ (p : Port) (c : Cmd) (s : State) (ws : List Word), Heard p c s ∧ ws = expertWords c.op c.expert c.words ∧ c.op = .gnssRtcmConfig ∧ fld (wd ws 0) 3 0 ≠ 15 ∧ slotUsesUart s (fld (wd ws 0) 3 0) = true) ∧
    (∃ (p : Port) (c : Cmd) (s : State) (ws : List Word), Heard p c s ∧ ws = expertWords c.op c.expert c.words ∧ c.op = .gnssHdgConfig ∧ bit (wd ws 0) 0 = true ∧ baselineOf s.cfg.work = none) ∧
    (∃ (p : Port) (c : Cmd) (s : State) (ws : List Word), Heard p c s ∧ ws = expertWords c.op c.expert c.words ∧ c.op = .fusRefEnable ∧ refKindSet s (fld (wd c.words 0) 4 0) = 0) ∧
    (∃ (p : Port) (c : Cmd) (s : State) (ws : List Word), Heard p c s ∧ ws = expertWords c.op c.expert c.words ∧ c.op = .dpcSetDatum ∧ s.sys.mode = .control ∧ 3 ≤ s.dpc.fn) ∧
    (∃ (p : Port) (c : Cmd) (s : State) (ws : List Word), Heard p c s ∧ ws = expertWords c.op c.expert c.words ∧ c.op = .dpcSetRotationPoint ∧ 100000 < (wd ws 0).toInt.natAbs) ∧
    (∃ (p : Port) (c : Cmd) (s : State) (ws : List Word), Heard p c s ∧ ws = expertWords c.op c.expert c.words ∧ c.op = .dpcMpcConfig ∧ fld (wd ws 1) 31 16 % 50 ≠ 0) ∧
    (∃ (p : Port) (c : Cmd) (s : State) (ws : List Word), Heard p c s ∧ ws = expertWords c.op c.expert c.words ∧ c.op = .dpcPowerConfig ∧ bit (wd ws 0) 8 = false ∧ 0x7FF < fld (wd ws 1) 28 0) ∧
    (∃ (p : Port) (c : Cmd) (s : State) (ws : List Word), Heard p c s ∧ ws = expertWords c.op c.expert c.words ∧ c.op = .allocConseqConfig ∧ fld (wd ws 0) 31 16 ≤ fld (wd ws 1) 15 0) ∧
    (∃ (p : Port) (c : Cmd) (s : State) (i : Nat) (ws : List Word), Heard p c s ∧ ws = expertWords c.op c.expert c.words ∧ c.op = .allocThrusterConfig ∧ thrBad ws = some i) ∧
    (∃ (p : Port) (c : Cmd) (s : State) (st : Nat) (d : Nat) (ws : List Word), Heard p c s ∧ ws = expertWords c.op c.expert c.words ∧ c.op = .fusRefConfig ∧ refCheck s ws = some (st, d)) ∧
    (∃ (p : Port) (c : Cmd) (s : State) (st : Nat) (d : Nat) (ws : List Word), Heard p c s ∧ ws = expertWords c.op c.expert c.words ∧ c.op = .cfgFirChannel ∧ firCheck s ws = some (st, d)) ∧
    (∃ (p : Port) (c : Cmd) (s : State) (st : Nat) (d : Nat) (ws : List Word), Heard p c s ∧ ws = expertWords c.op c.expert c.words ∧ c.op = .loopThrusterBind ∧ bindCheck s ws = some (st, d)) ∧
    (∃ (p : Port) (c : Cmd) (s : State) (st : Nat) (d : Nat) (ws : List Word), Heard p c s ∧ ws = expertWords c.op c.expert c.words ∧ c.op = .loopSetCoeff ∧ leRefuse s (fld (wd ws 0) 5 0) = some (st, d)) ∧
    (∃ (p : Port) (c : Cmd) (s : State) (st : Nat) (d : Nat) (ws : List Word), Heard p c s ∧ ws = expertWords c.op c.expert c.words ∧ c.op = .profConfig ∧ profConfigCheck ws = some (st, d)) ∧
    (∃ (p : Port) (c : Cmd) (s : State) (st : Nat) (d : Nat) (ws : List Word), Heard p c s ∧ ws = expertWords c.op c.expert c.words ∧ c.op = .busCanConfig ∧ canConfigCheck s ws = some (st, d)) ∧
    (∃ (p : Port) (c : Cmd) (s : State) (st : Nat) (d : Nat) (ws : List Word), Heard p c s ∧ ws = expertWords c.op c.expert c.words ∧ c.op = .calSet ∧ calCheck ws = some (st, d)) :=
  ⟨(by refine ⟨(.host : Port), (cmd .gnssRtcmConfig [0x1E03, 0x00010000] true), (asked (.host : Port) (cmd .gnssRtcmConfig [0x1E03, 0x00010000] true) (setCfg [(.fusRefConfig, 1, [0x101, 0x0203])] (live))), (expertWords (cmd .gnssRtcmConfig [0x1E03, 0x00010000] true).op (cmd .gnssRtcmConfig [0x1E03, 0x00010000] true).expert (cmd .gnssRtcmConfig [0x1E03, 0x00010000] true).words : List Word), ?_⟩; exact ⟨heard_of (by decide +kernel), rfl, by decide +kernel, by decide +kernel, by decide +kernel⟩),
   (by refine ⟨(.host : Port), (cmd .gnssHdgConfig [1, 0x00050A0F] true), (asked (.host : Port) (cmd .gnssHdgConfig [1, 0x00050A0F] true) (live)), (expertWords (cmd .gnssHdgConfig [1, 0x00050A0F] true).op (cmd .gnssHdgConfig [1, 0x00050A0F] true).expert (cmd .gnssHdgConfig [1, 0x00050A0F] true).words : List Word), ?_⟩; exact ⟨heard_of (by decide +kernel), rfl, by decide +kernel, by decide +kernel, by decide +kernel⟩),
   (by refine ⟨(.host : Port), (cmd .fusRefEnable []), (asked (.host : Port) (cmd .fusRefEnable []) (live)), (expertWords (cmd .fusRefEnable []).op (cmd .fusRefEnable []).expert (cmd .fusRefEnable []).words : List Word), ?_⟩; exact ⟨heard_of (by decide +kernel), rfl, by decide +kernel, by decide +kernel⟩),
   (by refine ⟨(.host : Port), (cmd .dpcSetDatum [0, 0, 0]), (asked (.host : Port) (cmd .dpcSetDatum [0, 0, 0]) ({ inMode .control live with dpc := { fn := 3 } })), (expertWords (cmd .dpcSetDatum [0, 0, 0]).op (cmd .dpcSetDatum [0, 0, 0]).expert (cmd .dpcSetDatum [0, 0, 0]).words : List Word), ?_⟩; exact ⟨heard_of (by decide +kernel), rfl, by decide +kernel, by decide +kernel, by decide +kernel⟩),
   (by refine ⟨(.host : Port), (cmd .dpcSetRotationPoint [0x7FFFFFFF, 0]), (asked (.host : Port) (cmd .dpcSetRotationPoint [0x7FFFFFFF, 0]) (live)), (expertWords (cmd .dpcSetRotationPoint [0x7FFFFFFF, 0]).op (cmd .dpcSetRotationPoint [0x7FFFFFFF, 0]).expert (cmd .dpcSetRotationPoint [0x7FFFFFFF, 0]).words : List Word), ?_⟩; exact ⟨heard_of (by decide +kernel), rfl, by decide +kernel, by decide +kernel⟩),
   (by refine ⟨(.host : Port), (cmd .dpcMpcConfig [0, 0x00650028] true), (asked (.host : Port) (cmd .dpcMpcConfig [0, 0x00650028] true) (live)), (expertWords (cmd .dpcMpcConfig [0, 0x00650028] true).op (cmd .dpcMpcConfig [0, 0x00650028] true).expert (cmd .dpcMpcConfig [0, 0x00650028] true).words : List Word), ?_⟩; exact ⟨heard_of (by decide +kernel), rfl, by decide +kernel, by decide +kernel⟩),
   (by refine ⟨(.host : Port), (cmd .dpcPowerConfig [0, 0x800]), (asked (.host : Port) (cmd .dpcPowerConfig [0, 0x800]) (live)), (expertWords (cmd .dpcPowerConfig [0, 0x800]).op (cmd .dpcPowerConfig [0, 0x800]).expert (cmd .dpcPowerConfig [0, 0x800]).words : List Word), ?_⟩; exact ⟨heard_of (by decide +kernel), rfl, by decide +kernel, by decide +kernel, by decide +kernel⟩),
   (by refine ⟨(.host : Port), (cmd .allocConseqConfig [0x00320000, 0x00010032, 1000] true), (asked (.host : Port) (cmd .allocConseqConfig [0x00320000, 0x00010032, 1000] true) (live)), (expertWords (cmd .allocConseqConfig [0x00320000, 0x00010032, 1000] true).op (cmd .allocConseqConfig [0x00320000, 0x00010032, 1000] true).expert (cmd .allocConseqConfig [0x00320000, 0x00010032, 1000] true).words : List Word), ?_⟩; exact ⟨heard_of (by decide +kernel), rfl, by decide +kernel, by decide +kernel⟩),
   (by refine ⟨(.host : Port), (cmd .allocThrusterConfig [0x100, 0] true), (asked (.host : Port) (cmd .allocThrusterConfig [0x100, 0] true) (live)), (3 : Nat), (expertWords (cmd .allocThrusterConfig [0x100, 0] true).op (cmd .allocThrusterConfig [0x100, 0] true).expert (cmd .allocThrusterConfig [0x100, 0] true).words : List Word), ?_⟩; exact ⟨heard_of (by decide +kernel), rfl, by decide +kernel, by decide +kernel⟩),
   (by refine ⟨(.host : Port), (cmd .fusRefConfig [0x101, 1]), (asked (.host : Port) (cmd .fusRefConfig [0x101, 1]) (live)), (0xF016 : Nat), (1 : Nat), (expertWords (cmd .fusRefConfig [0x101, 1]).op (cmd .fusRefConfig [0x101, 1]).expert (cmd .fusRefConfig [0x101, 1]).words : List Word), ?_⟩; exact ⟨heard_of (by decide +kernel), rfl, by decide +kernel, by decide +kernel⟩),
   (by refine ⟨(.host : Port), (cmd .cfgFirChannel [0xF200]), (asked (.host : Port) (cmd .cfgFirChannel [0xF200]) (live)), (0xF016 : Nat), (0 : Nat), (expertWords (cmd .cfgFirChannel [0xF200]).op (cmd .cfgFirChannel [0xF200]).expert (cmd .cfgFirChannel [0xF200]).words : List Word), ?_⟩; exact ⟨heard_of (by decide +kernel), rfl, by decide +kernel, by decide +kernel⟩),
   (by refine ⟨(.host : Port), (cmd .loopThrusterBind [0xFFFF0001, 0xFFFFFF00, 0, 0, 0] true), (asked (.host : Port) (cmd .loopThrusterBind [0xFFFF0001, 0xFFFFFF00, 0, 0, 0] true) (live)), (0xF016 : Nat), (0 : Nat), (expertWords (cmd .loopThrusterBind [0xFFFF0001, 0xFFFFFF00, 0, 0, 0] true).op (cmd .loopThrusterBind [0xFFFF0001, 0xFFFFFF00, 0, 0, 0] true).expert (cmd .loopThrusterBind [0xFFFF0001, 0xFFFFFF00, 0, 0, 0] true).words : List Word), ?_⟩; exact ⟨heard_of (by decide +kernel), rfl, by decide +kernel, by decide +kernel⟩),
   (by refine ⟨(.host : Port), (cmd .loopSetCoeff [5]), (asked (.host : Port) (cmd .loopSetCoeff [5]) (live.onLoop fun l => { l with le := put l.le 5 { st := .closed } })), (0x7010 : Nat), (0 : Nat), (expertWords (cmd .loopSetCoeff [5]).op (cmd .loopSetCoeff [5]).expert (cmd .loopSetCoeff [5]).words : List Word), ?_⟩; exact ⟨heard_of (by decide +kernel), rfl, by decide +kernel, by decide +kernel⟩),
   (by refine ⟨(.host : Port), (cmd .profConfig [0xFF000208, 1, 1, 1, 0, 0, 0x00FF01F4, 0x01F4] true), (asked (.host : Port) (cmd .profConfig [0xFF000208, 1, 1, 1, 0, 0, 0x00FF01F4, 0x01F4] true) (live)), (0x7017 : Nat), (0 : Nat), (expertWords (cmd .profConfig [0xFF000208, 1, 1, 1, 0, 0, 0x00FF01F4, 0x01F4] true).op (cmd .profConfig [0xFF000208, 1, 1, 1, 0, 0, 0x00FF01F4, 0x01F4] true).expert (cmd .profConfig [0xFF000208, 1, 1, 1, 0, 0, 0x00FF01F4, 0x01F4] true).words : List Word), ?_⟩; exact ⟨heard_of (by decide +kernel), rfl, by decide +kernel, by decide +kernel⟩),
   (by refine ⟨(.host : Port), (cmd .busCanConfig [0, 1] true), (asked (.host : Port) (cmd .busCanConfig [0, 1] true) (live)), (0xF016 : Nat), (1 : Nat), (expertWords (cmd .busCanConfig [0, 1] true).op (cmd .busCanConfig [0, 1] true).expert (cmd .busCanConfig [0, 1] true).words : List Word), ?_⟩; exact ⟨heard_of (by decide +kernel), rfl, by decide +kernel, by decide +kernel⟩),
   (by refine ⟨(.host : Port), (cmd .calSet [0xFF00, 0]), (asked (.host : Port) (cmd .calSet [0xFF00, 0]) (live)), (0xF016 : Nat), (0 : Nat), (expertWords (cmd .calSet [0xFF00, 0]).op (cmd .calSet [0xFF00, 0]).expert (cmd .calSet [0xFF00, 0]).words : List Word), ?_⟩; exact ⟨heard_of (by decide +kernel), rfl, by decide +kernel, by decide +kernel⟩)⟩

/-- States that meet the hypotheses of NavigationAndPositioningQueriesAnswerFromTheStateAlone, clause by clause. -/
theorem witness_navigation_and_positioning_queries_answer_from_the_state_alone :
    (∃ (p : Port) (c : Cmd) (s : State), Heard p c s ∧ c.op = .timeGet ∧ s.time.source = .none) ∧
    (∃ (p : Port) (c : Cmd) (s : State), Heard p c s ∧ c.op = .timeGet ∧ s.time.source ≠ .none) ∧
    (∃ (p : Port) (c : Cmd) (s : State), Heard p c s ∧ c.op = .fusRefStatus ∧ refKindSet s (fld (wd c.words 0) 4 0) = 0 ∧ fld (wd c.words 0) 4 0 < 24) ∧
    (∃ (p : Port) (c : Cmd) (i : Fin 24) (s : State), Heard p c s ∧ c.op = .fusRefStatus ∧ fld (wd c.words 0) 4 0 = i.val ∧ refKindSet s i.val ≠ 0) ∧
    (∃ (p : Port) (c : Cmd) (s : State), Heard p c s ∧ c.op = .solvStructQuery ∧ structOf s (fld (wd c.words 0) 5 0) = none) ∧
    (∃ (p : Port) (c : Cmd) (x : Struct) (s : State), Heard p c s ∧ c.op = .solvStructQuery ∧ structOf s (fld (wd c.words 0) 5 0) = some x) ∧
    (∃ (p : Port) (c : Cmd) (x : Struct) (s : State), Heard p c s ∧ c.op = .solvResultRead ∧ structOf s (fld (wd c.words 1) 5 0) = some x ∧ x.result = none) ∧
    (∃ (p : Port) (c : Cmd) (x : Struct) (r : SolvResult) (s : State), Heard p c s ∧ c.op = .solvResultRead ∧ structOf s (fld (wd c.words 1) 5 0) = some x ∧ x.result = some r) ∧
    (∃ (p : Port) (c : Cmd) (s : State), Heard p c s ∧ c.op = .solvPlacement) ∧
    (∃ (p : Port) (c : Cmd) (s : State), Heard p c s ∧ c.op = .dpcStatus) ∧
    (∃ (p : Port) (c : Cmd) (s : State), Heard p c s ∧ c.op = .allocThrusterStatus ∧ thrConfigured s (thrOf c).val = false) ∧
    (∃ (p : Port) (c : Cmd) (s : State), Heard p c s ∧ c.op = .allocThrusterStatus ∧ thrConfigured s (thrOf c).val = true) ∧
    (∃ (p : Port) (c : Cmd) (s : State), Heard p c s ∧ c.op = .allocStatus) ∧
    (∃ (p : Port) (c : Cmd) (s : State), Heard p c s ∧ c.op = .allocEnvelopeRead ∧ s.alloc.caDone = none) ∧
    (∃ (p : Port) (c : Cmd) (r : CaResult) (s : State), Heard p c s ∧ c.op = .allocEnvelopeRead ∧ s.alloc.caDone = some r ∧ tb r.mask (fld (wd c.words 0) 4 0) = true) :=
  ⟨(by refine ⟨(.host : Port), (cmd .timeGet []), (asked (.host : Port) (cmd .timeGet []) (live)), ?_⟩; exact ⟨heard_of (by decide +kernel), by decide +kernel, by decide +kernel⟩),
   (by refine ⟨(.host : Port), (cmd .timeGet []), (asked (.host : Port) (cmd .timeGet []) ({ live with time := { source := .gnss } })), ?_⟩; exact ⟨heard_of (by decide +kernel), by decide +kernel, by decide +kernel⟩),
   (by refine ⟨(.host : Port), (cmd .fusRefStatus []), (asked (.host : Port) (cmd .fusRefStatus []) (live)), ?_⟩; exact ⟨heard_of (by decide +kernel), by decide +kernel, by decide +kernel, by decide +kernel⟩),
   (by refine ⟨(.host : Port), (cmd .fusRefStatus [1]), (1 : Fin 24), (asked (.host : Port) (cmd .fusRefStatus [1]) (setCfg [(.fusRefConfig, 1, [0x101])] (live))), ?_⟩; exact ⟨heard_of (by decide +kernel), by decide +kernel, by decide +kernel, by decide +kernel⟩),
   (by refine ⟨(.host : Port), (cmd .solvStructQuery []), (asked (.host : Port) (cmd .solvStructQuery []) (live)), ?_⟩; exact ⟨heard_of (by decide +kernel), by decide +kernel, by decide +kernel⟩),
   (by refine ⟨(.host : Port), (cmd .solvStructQuery [3]), ({ sid := 3, n := 2 } : Struct), (asked (.host : Port) (cmd .solvStructQuery [3]) ({ live with solv := { structs := [{ sid := 3, n := 2 }] } })), ?_⟩; exact ⟨heard_of (by decide +kernel), by decide +kernel, by decide +kernel⟩),
   (by refine ⟨(.host : Port), (cmd .solvResultRead [0x60000001, 3]), ({ sid := 3, n := 2 } : Struct), (asked (.host : Port) (cmd .solvResultRead [0x60000001, 3]) ({ live with solv := { structs := [{ sid := 3, n := 2 }] } })), ?_⟩; exact ⟨heard_of (by decide +kernel), by decide +kernel, by decide +kernel, by decide +kernel⟩),
   (by refine ⟨(.host : Port), (cmd .solvResultRead [0x60000002, 3]), ({ sid := 3, n := 2, result := some { order := 1, gen := 1, tag := 7, out := { x := [4, 5] } } } : Struct), ({ order := 1, gen := 1, tag := 7, out := { x := [4, 5] } } : SolvResult), (asked (.host : Port) (cmd .solvResultRead [0x60000002, 3]) ({ live with solv := { structs := [{ sid := 3, n := 2, result := some { order := 1, gen := 1, tag := 7, out := { x := [4, 5] } } }] } })), ?_⟩; exact ⟨heard_of (by decide +kernel), by decide +kernel, by decide +kernel, by decide +kernel⟩),
   (by refine ⟨(.host : Port), (cmd .solvPlacement []), (asked (.host : Port) (cmd .solvPlacement []) (live)), ?_⟩; exact ⟨heard_of (by decide +kernel), by decide +kernel⟩),
   (by refine ⟨(.host : Port), (cmd .dpcStatus []), (asked (.host : Port) (cmd .dpcStatus []) (live)), ?_⟩; exact ⟨heard_of (by decide +kernel), by decide +kernel⟩),
   (by refine ⟨(.host : Port), (cmd .allocThrusterStatus []), (asked (.host : Port) (cmd .allocThrusterStatus []) (live)), ?_⟩; exact ⟨heard_of (by decide +kernel), by decide +kernel, by decide +kernel⟩),
   (by refine ⟨(.host : Port), (cmd .allocThrusterStatus [2]), (asked (.host : Port) (cmd .allocThrusterStatus [2]) (setCfg [(.allocThrusterConfig, 2, [2, 0, 0, 1000])] (live))), ?_⟩; exact ⟨heard_of (by decide +kernel), by decide +kernel, by decide +kernel⟩),
   (by refine ⟨(.host : Port), (cmd .allocStatus []), (asked (.host : Port) (cmd .allocStatus []) (live)), ?_⟩; exact ⟨heard_of (by decide +kernel), by decide +kernel⟩),
   (by refine ⟨(.host : Port), (cmd .allocEnvelopeRead []), (asked (.host : Port) (cmd .allocEnvelopeRead []) (live)), ?_⟩; exact ⟨heard_of (by decide +kernel), by decide +kernel, by decide +kernel⟩),
   (by refine ⟨(.host : Port), (cmd .allocEnvelopeRead [2]), ({ mask := 4, u := [1, 2, 3] } : CaResult), (asked (.host : Port) (cmd .allocEnvelopeRead [2]) ({ live with alloc := { caDone := some { mask := 4, u := [1, 2, 3] } } })), ?_⟩; exact ⟨heard_of (by decide +kernel), by decide +kernel, by decide +kernel, by decide +kernel⟩)⟩

/-- States that meet the hypotheses of ActuationBusAndStorageQueriesAnswerFromTheStateAlone, clause by clause. -/
theorem witness_actuation_bus_and_storage_queries_answer_from_the_state_alone :
    (∃ (p : Port) (c : Cmd) (s : State), Heard p c s ∧ c.op = .loopStatus) ∧
    (∃ (p : Port) (c : Cmd) (s : State), Heard p c s ∧ c.op = .profStatus) ∧
    (∃ (p : Port) (c : Cmd) (s : State), Heard p c s ∧ c.op = .busCanStatus) ∧
    (∃ (p : Port) (c : Cmd) (s : State), Heard p c s ∧ c.op = .busUartStatus) ∧
    (∃ (p : Port) (c : Cmd) (s : State), Heard p c s ∧ c.op = .kilnReadConfig ∧ kilnUp s = true) ∧
    (∃ (p : Port) (c : Cmd) (s : State), Heard p c s ∧ c.op = .kilnStatus ∧ kilnUp s = true) ∧
    (∃ (p : Port) (c : Cmd) (s : State), Heard p c s ∧ c.op = .kilnReadConfig ∧ kilnUp s = false) ∧
    (∃ (p : Port) (c : Cmd) (s : State), Heard p c s ∧ c.op = .kilnStatus ∧ kilnUp s = false) ∧
    (∃ (p : Port) (c : Cmd) (s : State), Heard p c s ∧ c.op = .dpxStatus) ∧
    (∃ (p : Port) (c : Cmd) (s : State), Heard p c s ∧ c.op = .dpxHostDataRead ∧ hostWords s < fld (wd c.words 0) 15 0 + fld (wd c.words 0) 23 16) ∧
    (∃ (p : Port) (c : Cmd) (s : State), Heard p c s ∧ c.op = .dpxHostDataRead ∧ s.sys.mode ≠ .standby ∧ fld (wd c.words 0) 15 0 + fld (wd c.words 0) 23 16 ≤ hostWords s) ∧
    (∃ (p : Port) (c : Cmd) (k : Fin 22) (s : State), Heard p c s ∧ c.op = .cfgFirQuery ∧ fld (wd c.words 0) 4 0 = k.val) ∧
    (∃ (p : Port) (c : Cmd) (s : State), Heard p c s ∧ c.op = .cfgStatus) ∧
    (∃ (p : Port) (c : Cmd) (s : State), Heard p c s ∧ c.op = .logRead ∧ fld (wd c.words 0) 1 0 = 0) ∧
    (∃ (p : Port) (c : Cmd) (s : State), Heard p c s ∧ c.op = .logRead ∧ fld (wd c.words 0) 1 0 = 1) ∧
    (∃ (p : Port) (c : Cmd) (s : State), Heard p c s ∧ c.op = .logRead ∧ fld (wd c.words 0) 1 0 = 2) ∧
    (∃ (p : Port) (c : Cmd) (n : Fin 128) (s : State), Heard p c s ∧ c.op = .evtQuery ∧ fld (wd c.words 0) 6 0 = n.val) ∧
    (∃ (p : Port) (c : Cmd) (n : Nat) (kind : CalKind) (lo : Int) (hi : Int) (s : State), Heard p c s ∧ c.op = .calRead ∧ calItem (fld (wd c.words 0) 15 8) = some (n, kind, lo, hi) ∧ fld (wd c.words 0) 7 0 < n) ∧
    (∃ (p : Port) (c : Cmd) (r : Rec) (rs : List Rec) (s : State), Heard p c s ∧ c.op = .logStatus ∧ heldRecs s = r :: rs) :=
  ⟨(by refine ⟨(.host : Port), (cmd .loopStatus []), (asked (.host : Port) (cmd .loopStatus []) (live)), ?_⟩; exact ⟨heard_of (by decide +kernel), by decide +kernel⟩),
   (by refine ⟨(.host : Port), (cmd .profStatus []), (asked (.host : Port) (cmd .profStatus []) (live)), ?_⟩; exact ⟨heard_of (by decide +kernel), by decide +kernel⟩),
   (by refine ⟨(.host : Port), (cmd .busCanStatus []), (asked (.host : Port) (cmd .busCanStatus []) (live)), ?_⟩; exact ⟨heard_of (by decide +kernel), by decide +kernel⟩),
   (by refine ⟨(.host : Port), (cmd .busUartStatus []), (asked (.host : Port) (cmd .busUartStatus []) (live)), ?_⟩; exact ⟨heard_of (by decide +kernel), by decide +kernel⟩),
   (by refine ⟨(.host : Port), (cmd .kilnReadConfig []), (asked (.host : Port) (cmd .kilnReadConfig []) ({ live with kiln := { st := .run } })), ?_⟩; exact ⟨heard_of (by decide +kernel), by decide +kernel, by decide +kernel⟩),
   (by refine ⟨(.host : Port), (cmd .kilnStatus []), (asked (.host : Port) (cmd .kilnStatus []) ({ live with kiln := { st := .run } })), ?_⟩; exact ⟨heard_of (by decide +kernel), by decide +kernel, by decide +kernel⟩),
   (by refine ⟨(.host : Port), (cmd .kilnReadConfig []), (asked (.host : Port) (cmd .kilnReadConfig []) (live)), ?_⟩; exact ⟨heard_of (by decide +kernel), by decide +kernel, by decide +kernel⟩),
   (by refine ⟨(.host : Port), (cmd .kilnStatus []), (asked (.host : Port) (cmd .kilnStatus []) (live)), ?_⟩; exact ⟨heard_of (by decide +kernel), by decide +kernel, by decide +kernel⟩),
   (by refine ⟨(.host : Port), (cmd .dpxStatus []), (asked (.host : Port) (cmd .dpxStatus []) (live)), ?_⟩; exact ⟨heard_of (by decide +kernel), by decide +kernel⟩),
   (by refine ⟨(.host : Port), (cmd .dpxHostDataRead [0x00050003]), (asked (.host : Port) (cmd .dpxHostDataRead [0x00050003]) (setCfg [(.dpxConfig, 0, [1, 0x00040000])] (live))), ?_⟩; exact ⟨heard_of (by decide +kernel), by decide +kernel, by decide +kernel⟩),
   (by refine ⟨(.host : Port), (cmd .dpxHostDataRead [0x00020001]), (asked (.host : Port) (cmd .dpxHostDataRead [0x00020001]) (setCfg [(.dpxConfig, 0, [1, 0x00040000])] ({ inMode .control live with dpx := { host := [7, 8, 9] } }))), ?_⟩; exact ⟨heard_of (by decide +kernel), by decide +kernel, by decide +kernel, by decide +kernel⟩),
   (by refine ⟨(.host : Port), (cmd .cfgFirQuery []), (0 : Fin 22), (asked (.host : Port) (cmd .cfgFirQuery []) (live)), ?_⟩; exact ⟨heard_of (by decide +kernel), by decide +kernel, by decide +kernel⟩),
   (by refine ⟨(.host : Port), (cmd .cfgStatus []), (asked (.host : Port) (cmd .cfgStatus []) (live)), ?_⟩; exact ⟨heard_of (by decide +kernel), by decide +kernel⟩),
   (by refine ⟨(.host : Port), (cmd .logRead []), (asked (.host : Port) (cmd .logRead []) (live)), ?_⟩; exact ⟨heard_of (by decide +kernel), by decide +kernel, by decide +kernel⟩),
   (by refine ⟨(.host : Port), (cmd .logRead [0x101]), (asked (.host : Port) (cmd .logRead [0x101]) (live)), ?_⟩; exact ⟨heard_of (by decide +kernel), by decide +kernel, by decide +kernel⟩),
   (by refine ⟨(.host : Port), (cmd .logRead [0x102]), (asked (.host : Port) (cmd .logRead [0x102]) (live)), ?_⟩; exact ⟨heard_of (by decide +kernel), by decide +kernel, by decide +kernel⟩),
   (by refine ⟨(.host : Port), (cmd .evtQuery []), (0 : Fin 128), (asked (.host : Port) (cmd .evtQuery []) (live)), ?_⟩; exact ⟨heard_of (by decide +kernel), by decide +kernel, by decide +kernel⟩),
   (by refine ⟨(.host : Port), (cmd .calRead [0x101]), (3 : Nat), (.add : CalKind), (-165700 : Int), (165700 : Int), (asked (.host : Port) (cmd .calRead [0x101]) (live)), ?_⟩; exact ⟨heard_of (by decide +kernel), by decide +kernel, by decide +kernel, by decide +kernel⟩),
   (by refine ⟨(.host : Port), (cmd .logStatus []), ({ code := 1, source := 0, sev := 0, opSec := 0, opMs := 0, pwrCyc := 0, seq := 0, payload := [] } : Rec), ([] : List Rec), (asked (.host : Port) (cmd .logStatus []) ({ live with log := { queue := [{ code := 1, source := 0, sev := 0, opSec := 0, opMs := 0, pwrCyc := 0, seq := 0, payload := [] }] } })), ?_⟩; exact ⟨heard_of (by decide +kernel), by decide +kernel, by decide +kernel⟩)⟩

/-- States that meet the hypotheses of StreamsAndRoutesAreSetAsTheCommandSays, clause by clause. -/
theorem witness_streams_and_routes_are_set_as_the_command_says :
    (∃ (p : Port) (c : Cmd) (s : State), Heard p c s ∧ c.op = .fusStateStream) ∧
    (∃ (p : Port) (c : Cmd) (s : State), Heard p c s ∧ c.op = .dpcStateStream) ∧
    (∃ (p : Port) (c : Cmd) (s : State), Heard p c s ∧ c.op = .allocStateStream) ∧
    (∃ (p : Port) (c : Cmd) (s : State), Heard p c s ∧ c.op = .fusSensorStream) ∧
    (∃ (p : Port) (c : Cmd) (s : State), Heard p c s ∧ c.op = .busStream ∧ fld (wd c.words 0) 7 4 = 0 ∧ fld (wd c.words 0) 3 0 ≤ 5) ∧
    (∃ (p : Port) (c : Cmd) (s : State), Heard p c s ∧ c.op = .busStream ∧ fld (wd c.words 0) 7 4 = 1 ∧ fld (wd c.words 0) 3 0 ≤ 9) ∧
    (∃ (p : Port) (c : Cmd) (s : State), Heard p c s ∧ c.op = .gnssStream ∧ fld (wd c.words 0) 1 0 = 3) ∧
    (∃ (p : Port) (c : Cmd) (s : State), Heard p c s ∧ c.op = .gnssStream ∧ fld (wd c.words 0) 1 0 ≠ 3) ∧
    (∃ (p : Port) (c : Cmd) (s : State), Heard p c s ∧ c.op = .evtRoute ∧ fld (wd c.words 0) 6 0 ≤ 1 ∧ ((bit (wd c.words 0) 11 = true ∨ bit (wd c.words 0) 10 = true))) ∧
    (∃ (p : Port) (c : Cmd) (n : Fin 128) (s : State), Heard p c s ∧ c.op = .evtRoute ∧ fld (wd c.words 0) 6 0 = n.val ∧ ((n.val ≤ 1 → bit (wd c.words 0) 11 = false ∧ bit (wd c.words 0) 10 = false))) :=
  ⟨(by refine ⟨(.host : Port), (cmd .fusStateStream []), (asked (.host : Port) (cmd .fusStateStream []) (live)), ?_⟩; exact ⟨heard_of (by decide +kernel), by decide +kernel⟩),
   (by refine ⟨(.host : Port), (cmd .dpcStateStream []), (asked (.host : Port) (cmd .dpcStateStream []) (live)), ?_⟩; exact ⟨heard_of (by decide +kernel), by decide +kernel⟩),
   (by refine ⟨(.host : Port), (cmd .allocStateStream []), (asked (.host : Port) (cmd .allocStateStream []) (live)), ?_⟩; exact ⟨heard_of (by decide +kernel), by decide +kernel⟩),
   (by refine ⟨(.host : Port), (cmd .fusSensorStream []), (asked (.host : Port) (cmd .fusSensorStream []) (live)), ?_⟩; exact ⟨heard_of (by decide +kernel), by decide +kernel⟩),
   (by refine ⟨(.host : Port), (cmd .busStream []), (asked (.host : Port) (cmd .busStream []) (live)), ?_⟩; exact ⟨heard_of (by decide +kernel), by decide +kernel, by decide +kernel, by decide +kernel⟩),
   (by refine ⟨(.host : Port), (cmd .busStream [0x13]), (asked (.host : Port) (cmd .busStream [0x13]) (live)), ?_⟩; exact ⟨heard_of (by decide +kernel), by decide +kernel, by decide +kernel, by decide +kernel⟩),
   (by refine ⟨(.host : Port), (cmd .gnssStream [0x00020003]), (asked (.host : Port) (cmd .gnssStream [0x00020003]) (live)), ?_⟩; exact ⟨heard_of (by decide +kernel), by decide +kernel, by decide +kernel⟩),
   (by refine ⟨(.host : Port), (cmd .gnssStream []), (asked (.host : Port) (cmd .gnssStream []) (live)), ?_⟩; exact ⟨heard_of (by decide +kernel), by decide +kernel, by decide +kernel⟩),
   (by refine ⟨(.host : Port), (cmd .evtRoute [0x401]), (asked (.host : Port) (cmd .evtRoute [0x401]) (live)), ?_⟩; exact ⟨heard_of (by decide +kernel), by decide +kernel, by decide +kernel, by decide +kernel⟩),
   (by refine ⟨(.host : Port), (cmd .evtRoute []), (0 : Fin 128), (asked (.host : Port) (cmd .evtRoute []) (live)), ?_⟩; exact ⟨heard_of (by decide +kernel), by decide +kernel, by decide +kernel, by decide +kernel⟩)⟩

/-- States that meet the hypotheses of RecordsAreWrittenSuppressedOrDropped, clause by clause. -/
theorem witness_records_are_written_suppressed_or_dropped :
    (∃ (p : Port) (c : Cmd) (s : State) (s1 : State), Heard p c s ∧ c.op = .logWrite ∧ s.log.discard = false ∧ pd2Off s = false ∧ s.log.queue.length < 512 ∧ limited (fld (wd c.words 0) 15 0) = true ∧ takeToken (fld (wd c.words 0) 15 0) s = some s1) ∧
    (∃ (p : Port) (c : Cmd) (s : State), Heard p c s ∧ c.op = .logWrite ∧ s.log.discard = false ∧ pd2Off s = false ∧ limited (fld (wd c.words 0) 15 0) = true ∧ takeToken (fld (wd c.words 0) 15 0) s = none) ∧
    (∃ (p : Port) (c : Cmd) (s : State) (s1 : State), Heard p c s ∧ c.op = .logWrite ∧ s.log.discard = false ∧ pd2Off s = false ∧ 512 ≤ s.log.queue.length ∧ s.log.dropped ≠ none ∧ limited (fld (wd c.words 0) 15 0) = true ∧ takeToken (fld (wd c.words 0) 15 0) s = some s1) ∧
    (∃ (p : Port) (c : Cmd) (s : State), Heard p c s ∧ c.op = .logRate ∧ limited (fld (wd c.words 0) 15 0) = false) ∧
    (∃ (p : Port) (c : Cmd) (s : State), Heard p c s ∧ c.op = .logRate ∧ limited (fld (wd c.words 0) 15 0) = true) ∧
    (∃ (s : State), s.sys.vmain = true ∧ s.hp.ready = true ∧ s.log.discard = false ∧ pd2Off s = false ∧ s.log.queue.length + s.log.supp.length ≤ 512) ∧
    (∃ (s : State), s.sys.vmain = true ∧ s.hp.ready = true ∧ s.log.discard = false ∧ pd2Off s = false ∧ s.log.queue.length < 512) :=
  ⟨(by refine ⟨(.host : Port), (cmd .logWrite [0x8000, 0, 0, 0]), (asked (.host : Port) (cmd .logWrite [0x8000, 0, 0, 0]) (live)), ((takeToken 0x8000 ((asked (.host : Port) (cmd .logWrite [0x8000, 0, 0, 0]) (live)))).getD ((asked (.host : Port) (cmd .logWrite [0x8000, 0, 0, 0]) (live)))), ?_⟩; exact ⟨heard_of (by decide +kernel), by decide +kernel, by decide +kernel, by decide +kernel, by decide +kernel, by decide +kernel, by decide +kernel⟩),
   (by refine ⟨(.host : Port), (cmd .logWrite [0x8000, 0, 0, 0]), (asked (.host : Port) (cmd .logWrite [0x8000, 0, 0, 0]) (live.onLog fun l => { l with bucket := [{ code := 0x8000, tokens := 0, at_ := 0 }] })), ?_⟩; exact ⟨heard_of (by decide +kernel), by decide +kernel, by decide +kernel, by decide +kernel, by decide +kernel, by decide +kernel⟩),
   (by refine ⟨(.host : Port), (cmd .logWrite [0x8000, 0, 0, 0]), (asked (.host : Port) (cmd .logWrite [0x8000, 0, 0, 0]) (live.onLog fun l => { l with queue := List.replicate 512 { code := 1, source := 0, sev := 0, opSec := 0, opMs := 0, pwrCyc := 0, seq := 0, payload := [] }, dropped := some (0, 1) })), ((takeToken 0x8000 ((asked (.host : Port) (cmd .logWrite [0x8000, 0, 0, 0]) (live.onLog fun l => { l with queue := List.replicate 512 { code := 1, source := 0, sev := 0, opSec := 0, opMs := 0, pwrCyc := 0, seq := 0, payload := [] }, dropped := some (0, 1) })))).getD ((asked (.host : Port) (cmd .logWrite [0x8000, 0, 0, 0]) (live.onLog fun l => { l with queue := List.replicate 512 { code := 1, source := 0, sev := 0, opSec := 0, opMs := 0, pwrCyc := 0, seq := 0, payload := [] }, dropped := some (0, 1) })))), ?_⟩; exact ⟨heard_of (by decide +kernel), by decide +kernel, by decide +kernel, by decide +kernel, by decide +kernel, by decide +kernel, by decide +kernel, by decide +kernel⟩),
   (by refine ⟨(.host : Port), (cmd .logRate [0x100, 0x00010000]), (asked (.host : Port) (cmd .logRate [0x100, 0x00010000]) (live)), ?_⟩; exact ⟨heard_of (by decide +kernel), by decide +kernel, by decide +kernel⟩),
   (by refine ⟨(.host : Port), (cmd .logRate []), (asked (.host : Port) (cmd .logRate []) (live)), ?_⟩; exact ⟨heard_of (by decide +kernel), by decide +kernel, by decide +kernel⟩),
   (by refine ⟨(live), ?_⟩; exact ⟨by decide +kernel, by decide +kernel, by decide +kernel, by decide +kernel, by decide +kernel⟩),
   (by refine ⟨(live), ?_⟩; exact ⟨by decide +kernel, by decide +kernel, by decide +kernel, by decide +kernel, by decide +kernel⟩)⟩

/-- States that meet the hypotheses of FlushesMoveTheQueueToTheRing, clause by clause. -/
theorem witness_flushes_move_the_queue_to_the_ring :
    (∃ (s : State), s.log.discard = false ∧ logFlashOk s = true ∧ flushDue s = true ∧ s.log.dropped = none ∧ s.log.head % sectorSlots + s.log.queue.length < sectorSlots ∧ s.log.head + s.log.queue.length < ringSlots) ∧
    (∃ (r : Rec) (s : State), s.log.discard = false ∧ logFlashOk s = true ∧ flushDue s = true ∧ s.log.dropped = none ∧ s.log.queue = [r] ∧ s.log.head % sectorSlots + 2 < sectorSlots ∧ s.log.head + 2 < ringSlots) ∧
    (∃ (s : State), s.log.discard = false ∧ logFlashOk s = true ∧ flushDue s = false ∧ s.log.queue ≠ [] ∧ s.log.dropped = none) ∧
    (∃ (k : Nat) (s : State), s.log.erasing = some k) ∧
    (∃ (s : State), s.sys.pfail = false ∧ s.sys.vmain = true ∧ s.hp.ready = true ∧ pd2Off s = false ∧ s.log.discard = false ∧ logFlashOk s = true ∧ s.log.queue.length + s.log.supp.length ≤ 512 ∧ s.log.dropped = none) ∧
    (∃ (s : State), s.sys.pfail = true ∧ s.sys.vmain = true) :=
  ⟨(by refine ⟨(live.onLog fun l => { l with queue := List.replicate 512 { code := 1, source := 0, sev := 0, opSec := 0, opMs := 0, pwrCyc := 0, seq := 0, payload := [] } }), ?_⟩; exact ⟨by decide +kernel, by decide +kernel, by decide +kernel, by decide +kernel, by decide +kernel, by decide +kernel⟩),
   (by refine ⟨({ code := 1, source := 0, sev := 3, opSec := 0, opMs := 0, pwrCyc := 0, seq := 0, payload := [] } : Rec), (live.onLog fun l => { l with queue := [{ code := 1, source := 0, sev := 3, opSec := 0, opMs := 0, pwrCyc := 0, seq := 0, payload := [] }] }), ?_⟩; exact ⟨by decide +kernel, by decide +kernel, by decide +kernel, by decide +kernel, by decide +kernel, by decide +kernel, by decide +kernel⟩),
   (by refine ⟨((setCfg [(.logConfig, 0, [1, 0x00640064])] live).onLog fun l => { l with queue := [{ code := 1, source := 0, sev := 0, opSec := 0, opMs := 0, pwrCyc := 0, seq := 0, payload := [] }] }), ?_⟩; exact ⟨by decide +kernel, by decide +kernel, by decide +kernel, by decide +kernel, by decide +kernel⟩),
   (by refine ⟨(0 : Nat), (live.onLog fun l => { l with erasing := some 0 }), ?_⟩; exact by decide +kernel),
   (by refine ⟨(live), ?_⟩; exact ⟨by decide +kernel, by decide +kernel, by decide +kernel, by decide +kernel, by decide +kernel, by decide +kernel, by decide +kernel, by decide +kernel⟩),
   (by refine ⟨({ live with sys := { live.sys with pfail := true } }), ?_⟩; exact ⟨by decide +kernel, by decide +kernel⟩)⟩

/-- States that meet the hypotheses of BanksAreCommittedAndLoaded, clause by clause. -/
theorem witness_banks_are_committed_and_loaded :
    (∃ (p : Port) (c : Cmd) (s : State), Heard p c s ∧ c.op = .cfgCommit ∧ s.cfg.commit = none ∧ s.sys.nf0Ok = true) ∧
    (∃ (p : Port) (c : Cmd) (k : Commit) (s : State), Heard p c s ∧ c.op = .cfgCommit ∧ s.cfg.commit = some k) ∧
    (∃ (p : Port) (c : Cmd) (s : State), Heard p c s ∧ c.op = .cfgCommit ∧ s.cfg.commit = none ∧ s.sys.nf0Ok = false) ∧
    (∃ (k : Commit) (s : State), s.cfg.commit = some k ∧ k.fwd = false ∧ Waits k.port k.tag .cfgCommit s) ∧
    (∃ (k : Commit) (s : State), s.cfg.commit = some k ∧ k.fwd = false ∧ Waits k.port k.tag .cfgCommit s) ∧
    (∃ (p : Port) (c : Cmd) (i : Fin 2) (s : State), Heard p c s ∧ c.op = .cfgLoad ∧ fld (wd c.words 0) 1 0 = i.val ∧ bankValid s.cfg.bank[i] = false) ∧
    (∃ (p : Port) (c : Cmd) (s : State), Heard p c s ∧ c.op = .cfgLoad ∧ ((∀ i : Fin 2, fld (wd c.words 0) 1 0 = i.val → bankValid s.cfg.bank[i] = true))) ∧
    (∃ (s : State), s.hp.ready = true ∧ s.sys.nf1Ok = true) ∧
    (∃ (s : State), s.cfg.commit = none) ∧
    (∃ (s : State), s.hp.ready = true ∧ s.sys.nf1Ok = false ∧ s.sys.dom[11] = .on) :=
  ⟨(by refine ⟨(.host : Port), (cmd .cfgCommit []), (asked (.host : Port) (cmd .cfgCommit []) (live)), ?_⟩; exact ⟨heard_of (by decide +kernel), by decide +kernel, by decide +kernel, by decide +kernel⟩),
   (by refine ⟨(.host : Port), (cmd .cfgCommit []), ({ port := .host, tag := 5, target := 1, gen := 3, image := [] } : Commit), (asked (.host : Port) (cmd .cfgCommit []) ((live).onCfg fun c => { c with commit := some { port := .host, tag := 5, target := 1, gen := 3, image := [] } })), ?_⟩; exact ⟨heard_of (by decide +kernel), by decide +kernel, by decide +kernel⟩),
   (by refine ⟨(.host : Port), (cmd .cfgCommit []), (asked (.host : Port) (cmd .cfgCommit []) ({ live with sys := { live.sys with nf0Ok := false } })), ?_⟩; exact ⟨heard_of (by decide +kernel), by decide +kernel, by decide +kernel, by decide +kernel⟩),
   (by refine ⟨({ port := .host, tag := 5, target := 1, gen := 3, image := [] } : Commit), ((waiting .host 5 .cfgCommit live).onCfg fun c => { c with commit := some { port := .host, tag := 5, target := 1, gen := 3, image := [] } }), ?_⟩; exact ⟨by decide +kernel, by decide +kernel, waits_of (by decide +kernel)⟩),
   (by refine ⟨({ port := .host, tag := 5, target := 1, gen := 3, image := [] } : Commit), ((waiting .host 5 .cfgCommit live).onCfg fun c => { c with commit := some { port := .host, tag := 5, target := 1, gen := 3, image := [] } }), ?_⟩; exact ⟨by decide +kernel, by decide +kernel, waits_of (by decide +kernel)⟩),
   (by refine ⟨(.host : Port), (cmd .cfgLoad []), (0 : Fin 2), (asked (.host : Port) (cmd .cfgLoad []) (live)), ?_⟩; exact ⟨heard_of (by decide +kernel), by decide +kernel, by decide +kernel, by decide +kernel⟩),
   (by refine ⟨(.host : Port), (cmd .cfgLoad [2]), (asked (.host : Port) (cmd .cfgLoad [2]) (live)), ?_⟩; exact ⟨heard_of (by decide +kernel), by decide +kernel, by decide +kernel⟩),
   (by refine ⟨(live), ?_⟩; exact ⟨by decide +kernel, by decide +kernel⟩),
   (by refine ⟨(live), ?_⟩; exact by decide +kernel),
   (by refine ⟨({ live with sys := { live.sys with nf1Ok := false } }), ?_⟩; exact ⟨by decide +kernel, by decide +kernel, by decide +kernel⟩)⟩

/-- States that meet the hypotheses of KilnInputsAndRequestsMoveThePairsAndChannels, clause by clause. -/
theorem witness_kiln_inputs_and_requests_move_the_pairs_and_channels :
    (∃ (i : Fin 16) (level : Bool) (s : State), s.kiln.st ≠ .off) ∧
    (∃ (j : Fin 8) (since : Nat) (s : State), (s.kiln.pair[j]).discSince = some since ∧ (s.kiln.pair[j]).fault = false ∧ s.kiln.st ≠ .off) ∧
    (∃ (path : Fin 2) (mask : Byte) (s : State), s.kiln.st ≠ .off) ∧
    (∃ (path : Fin 2) (mask : Byte) (comp : Byte) (s : State), comp ≠ ~~~mask ∧ s.kiln.st ≠ .off) ∧
    (∃ (path : Fin 2) (m : Byte) (at_ : Nat) (s : State), s.kiln.path[path] = some (m, at_)) ∧
    (∃ (p : Port) (c : Cmd) (s : State), Heard p c s ∧ c.op = .kilnBrake ∧ kilnUp s = true) ∧
    (∃ (p : Port) (c : Cmd) (s : State), Heard p c s ∧ c.op = .kilnAck ∧ kilnUp s = true ∧ kResetSi s.kiln = 0xFF ∧ s.kiln.st = .run) ∧
    (∃ (highMs : Nat) (s : State), (highMs < 100 ∨ 5000 < highMs ∨ s.kiln.st ≠ .run ∨ 16 ≤ kResetSi s.kiln)) ∧
    (∃ (highMs : Nat) (s : State), 100 ≤ highMs ∧ highMs ≤ 5000 ∧ s.kiln.st = .run ∧ kResetSi s.kiln < 16) ∧
    (∃ (i : Fin 16) (level : Bool) (s : State), s.kiln.st = .off) ∧
    (∃ (path : Fin 2) (mask : Byte) (comp : Byte) (s : State), s.kiln.st = .off) :=
  ⟨(by refine ⟨(0 : Fin 16), (false : Bool), ({ live with kiln := { st := .run } }), ?_⟩; exact by decide +kernel),
   (by refine ⟨(0 : Fin 8), (0 : Nat), ({ live with kiln := { st := .run, pair := Vector.replicate 8 { discSince := some 0 } } }), ?_⟩; exact ⟨by decide +kernel, by decide +kernel, by decide +kernel⟩),
   (by refine ⟨(0 : Fin 2), (0 : Byte), ({ live with kiln := { st := .run } }), ?_⟩; exact by decide +kernel),
   (by refine ⟨(0 : Fin 2), (0 : Byte), (5 : Byte), ({ live with kiln := { st := .run } }), ?_⟩; exact ⟨by decide +kernel, by decide +kernel⟩),
   (by refine ⟨(1 : Fin 2), (3 : Byte), (7 : Nat), ({ live with kiln := { st := .run, path := Vector.replicate 2 (some (3, 7)) } }), ?_⟩; exact by decide +kernel),
   (by refine ⟨(.host : Port), (cmd .kilnBrake [3]), (asked (.host : Port) (cmd .kilnBrake [3]) ({ live with kiln := { st := .run } })), ?_⟩; exact ⟨heard_of (by decide +kernel), by decide +kernel, by decide +kernel⟩),
   (by refine ⟨(.host : Port), (cmd .kilnAck []), (asked (.host : Port) (cmd .kilnAck []) ({ live with kiln := kilnOn [(0, 0x00FF0000)] })), ?_⟩; exact ⟨heard_of (by decide +kernel), by decide +kernel, by decide +kernel, by decide +kernel, by decide +kernel⟩),
   (by refine ⟨(0 : Nat), (live), ?_⟩; exact by decide +kernel),
   (by refine ⟨(100 : Nat), ({ live with kiln := kilnOn [(0, 0)] }), ?_⟩; exact ⟨by decide +kernel, by decide +kernel, by decide +kernel, by decide +kernel⟩),
   (by refine ⟨(0 : Fin 16), (false : Bool), (live), ?_⟩; exact by decide +kernel),
   (by refine ⟨(0 : Fin 2), (0 : Byte), (0 : Byte), (live), ?_⟩; exact by decide +kernel)⟩

/-- States that meet the hypotheses of KilnFaultsAndTestsReleaseNothing, clause by clause. -/
theorem witness_kiln_faults_and_tests_release_nothing :
    (∃ (s : State), s.kiln.vkiln = false) ∧
    (∃ (s : State), ((∀ w, s.kiln.write = some w → w.cmd = none))) ∧
    (∃ (w : KWrite) (p : Port) (tag : Nat) (op : Op) (s : State), s.kiln.write = some w ∧ w.cmd = some (p, tag) ∧ Waits p tag op s) ∧
    (∃ (s : State), s.kiln.st = .startTest ∧ (kCopy s.kiln).valid = true) ∧
    (∃ (s : State), s.kiln.st = .startTest) ∧
    (∃ (s : State), s.kiln.st = .recovery) ∧
    (∃ (s : State), s.kiln.st = .recovery) ∧
    (∃ (s : State), s.kiln.st ≠ .off ∧ s.kiln.st ≠ .fault) ∧
    (∃ (s : State), s.kiln.st = .fault) ∧
    (∃ (k1 : Nat) (k2 : Nat) (s : State), (ringOk k1 = false ∨ ringOk k2 = false) ∧ s.kiln.st ≠ .off ∧ s.kiln.st ≠ .fault) ∧
    (∃ (k1 : Nat) (k2 : Nat) (s : State), 45000 ≤ k1 ∧ k1 ≤ 55000 ∧ 45000 ≤ k2 ∧ k2 ≤ 55000) ∧
    (∃ (s : State), s.kiln.st ≠ .off ∧ s.kiln.st ≠ .fault) :=
  ⟨(by refine ⟨(live), ?_⟩; exact by decide +kernel),
   (by refine ⟨(live), ?_⟩; exact by decide +kernel),
   (by refine ⟨({ target := 1, gen := 2, words := [], cmd := some (.host, 5) } : KWrite), (.host : Port), (5 : Nat), (.kilnConfirm : Op), ({ waiting .host 5 .kilnConfirm live with kiln := { st := .config, write := some { target := 1, gen := 2, words := [], cmd := some (.host, 5) } } }), ?_⟩; exact ⟨by decide +kernel, by decide +kernel, waits_of (by decide +kernel)⟩),
   (by refine ⟨({ live with kiln := { st := .startTest } }), ?_⟩; exact ⟨by decide +kernel, by decide +kernel⟩),
   (by refine ⟨({ live with kiln := { st := .startTest } }), ?_⟩; exact by decide +kernel),
   (by refine ⟨({ live with kiln := { st := .recovery } }), ?_⟩; exact by decide +kernel),
   (by refine ⟨({ live with kiln := { st := .recovery } }), ?_⟩; exact by decide +kernel),
   (by refine ⟨({ live with kiln := { st := .run } }), ?_⟩; exact ⟨by decide +kernel, by decide +kernel⟩),
   (by refine ⟨({ live with kiln := { st := .fault } }), ?_⟩; exact by decide +kernel),
   (by refine ⟨(0 : Nat), (0 : Nat), ({ live with kiln := { st := .run } }), ?_⟩; exact ⟨by decide +kernel, by decide +kernel, by decide +kernel⟩),
   (by refine ⟨(50000 : Nat), (50000 : Nat), (live), ?_⟩; exact ⟨by decide +kernel, by decide +kernel, by decide +kernel, by decide +kernel⟩),
   (by refine ⟨({ live with kiln := { st := .run } }), ?_⟩; exact ⟨by decide +kernel, by decide +kernel⟩)⟩

/-- States that meet the hypotheses of KilnOutputTestsAndReadbacks, clause by clause. -/
theorem witness_kiln_output_tests_and_readbacks :
    (∃ (slot : Fin 16) (n : Fin 8) (at_ : Nat) (s : State), slot.val / 2 = n.val ∧ s.kiln.st = .run ∧ (s.kiln.ch[n]).st = .released ∧ (s.kiln.ch[n]).relSince = some at_ ∧ at_ + secTicks ≤ s.time.now) ∧
    (∃ (slot : Fin 16) (n : Fin 8) (s : State), slot.val / 2 = n.val ∧ (s.kiln.ch[n]).st = .test ∧ (s.kiln.ch[n]).pulse = some (slot.val % 2 == 1)) ∧
    (∃ (slot : Fin 16) (n : Fin 8) (readback : Bool) (mirror : Bool) (s : State), slot.val / 2 = n.val ∧ (s.kiln.ch[n]).st = .test ∧ (s.kiln.ch[n]).pulse = some (slot.val % 2 == 1) ∧ (readback = false ∨ mirror = false)) ∧
    (∃ (n : Fin 8) (outB : Bool) (level : Bool) (s : State), s.kiln.st = .run ∧ (s.kiln.ch[n]).st ≠ .fault ∧ (s.kiln.ch[n]).st ≠ .disabled ∧ (if outB then (s.kiln.ch[n]).outB else (s.kiln.ch[n]).outA) ≠ level ∧ (s.kiln.ch[n]).switched + 10000 ≤ s.time.now ∧ (s.kiln.ch[n]).pulse ≠ some outB) ∧
    (∃ (n : Fin 8) (outB : Bool) (level : Bool) (s : State), (if outB then (s.kiln.ch[n]).outB else (s.kiln.ch[n]).outA) = level) ∧
    (∃ (n : Fin 8) (a : Bool) (b : Bool) (s : State), s.kiln.st = .run ∧ kEnable s.kiln n = true ∧ kFbEnable s.kiln n = true ∧ (s.kiln.ch[n]).st = .applied ∧ ((a = false ∨ b = false))) ∧
    (∃ (n : Fin 8) (s : State), (s.kiln.ch[n]).st = .released) :=
  ⟨(by refine ⟨(0 : Fin 16), (0 : Fin 8), (0 : Nat), ({ live with kiln := { kilnOn [] with ch := Vector.replicate 8 { st := .released, relSince := some 0 } }, time := { mt := 90000000000, now := 90000000000 } }), ?_⟩; exact ⟨by decide +kernel, by decide +kernel, by decide +kernel, by decide +kernel, by decide +kernel⟩),
   (by refine ⟨(0 : Fin 16), (0 : Fin 8), ({ live with kiln := { kilnOn [] with ch := Vector.replicate 8 { st := .test, pulse := some false } } }), ?_⟩; exact ⟨by decide +kernel, by decide +kernel, by decide +kernel⟩),
   (by refine ⟨(0 : Fin 16), (0 : Fin 8), (false : Bool), (true : Bool), ({ live with kiln := { kilnOn [] with ch := Vector.replicate 8 { st := .test, pulse := some false } } }), ?_⟩; exact ⟨by decide +kernel, by decide +kernel, by decide +kernel, by decide +kernel⟩),
   (by refine ⟨(0 : Fin 8), (false : Bool), (true : Bool), ({ live with kiln := { kilnOn [] with ch := Vector.replicate 8 { st := .released } }, time := { mt := 90000000000, now := 90000000000 } }), ?_⟩; exact ⟨by decide +kernel, by decide +kernel, by decide +kernel, by decide +kernel, by decide +kernel, by decide +kernel⟩),
   (by refine ⟨(0 : Fin 8), (false : Bool), (false : Bool), (live), ?_⟩; exact by decide +kernel),
   (by refine ⟨(0 : Fin 8), (false : Bool), (false : Bool), ({ live with kiln := { kilnOn [(2, 0x00010100), (21, 0x0001000A)] with ch := Vector.replicate 8 { st := .applied } } }), ?_⟩; exact ⟨by decide +kernel, by decide +kernel, by decide +kernel, by decide +kernel, by decide +kernel⟩),
   (by refine ⟨(0 : Fin 8), ({ live with kiln := { kilnOn [] with ch := Vector.replicate 8 { st := .released } } }), ?_⟩; exact by decide +kernel)⟩

/-- States that meet the hypotheses of SafeDataPermitsOnlyWhatTelegramsAgreeOn, clause by clause. -/
theorem witness_safe_data_permits_only_what_telegrams_agree_on :
    (∃ (bus4 : Bool) (bytes : List Byte) (s : State), kSdEnable s.kiln = true ∧ s.kiln.st = .run ∧ sdValid s.kiln bytes = false) ∧
    (∃ (bus4 : Bool) (bytes : List Byte) (s : State), kSdEnable s.kiln = true ∧ s.kiln.st = .run ∧ sdValid s.kiln bytes = true ∧ ((∀ w ∈ s.kiln.sd.wins, w.seq ≠ ofLe (bytes.take 2))) ∧ sdAhead s.kiln (ofLe (bytes.take 2)) = false) ∧
    (∃ (bus4 : Bool) (bytes : List Byte) (s : State), kSdEnable s.kiln = true ∧ s.kiln.st = .run ∧ sdValid s.kiln bytes = true ∧ ((∀ w ∈ s.kiln.sd.wins, w.seq ≠ ofLe (bytes.take 2))) ∧ sdAhead s.kiln (ofLe (bytes.take 2)) = true) ∧
    (∃ (bus4 : Bool) (w : SdOpen) (s : State), kSdEnable s.kiln = true ∧ s.kiln.st = .run ∧ sdValid s.kiln w.bytes = true ∧ s.kiln.sd.wins = [w] ∧ w.seq = ofLe (w.bytes.take 2) ∧ (s.kiln.sd.st = 1 ∨ s.kiln.sd.st = 2)) ∧
    (∃ (bus4 : Bool) (bytes : List Byte) (w : SdOpen) (s : State), kSdEnable s.kiln = true ∧ s.kiln.st = .run ∧ sdValid s.kiln bytes = true ∧ s.kiln.sd.wins = [w] ∧ w.seq = ofLe (bytes.take 2) ∧ w.bytes ≠ bytes) ∧
    (∃ (w : SdOpen) (s : State), s.kiln.sd.wins = [w] ∧ kSdDegMs s.kiln ≠ 0 ∧ (s.kiln.sd.st = 1 ∨ s.kiln.sd.st = 2)) ∧
    (∃ (s : State), kSdEnable s.kiln = true ∧ s.kiln.st = .run ∧ (s.kiln.sd.st = 1 ∨ s.kiln.sd.st = 2)) ∧
    (∃ (s : State), kSdEnable s.kiln = true ∧ s.kiln.st = .run ∧ s.kiln.sd.st = 2 ∧ kSdDegMs s.kiln ≠ 0) :=
  ⟨(by refine ⟨(false : Bool), ([1, 2] : List Byte), ({ live with kiln := { kilnOn [(0, 1), (18, 0x00640064)] with sd := {  } } }), ?_⟩; exact ⟨by decide +kernel, by decide +kernel, by decide +kernel⟩),
   (by refine ⟨(false : Bool), (telegram 0 7 3 : List Byte), ({ live with kiln := { kilnOn [(0, 1), (18, 0x00640064)] with sd := { lastSeq := some 7, st := 1 } } }), ?_⟩; exact ⟨by decide +kernel, by decide +kernel, by decide +kernel, by decide +kernel, by decide +kernel⟩),
   (by refine ⟨(false : Bool), (telegram 0 7 3 : List Byte), ({ live with kiln := { kilnOn [(0, 1), (18, 0x00640064)] with sd := { lastSeq := some 6, st := 1 } } }), ?_⟩; exact ⟨by decide +kernel, by decide +kernel, by decide +kernel, by decide +kernel, by decide +kernel⟩),
   (by refine ⟨(true : Bool), ({ seq := 7, bytes := telegram 0 7 3, bus4 := false, since := 0 } : SdOpen), ({ live with kiln := { kilnOn [(0, 1), (18, 0x00640064)] with sd := { lastSeq := some 6, st := 1, wins := [{ seq := 7, bytes := telegram 0 7 3, bus4 := false, since := 0 }] } } }), ?_⟩; exact ⟨by decide +kernel, by decide +kernel, by decide +kernel, by decide +kernel, by decide +kernel, by decide +kernel⟩),
   (by refine ⟨(true : Bool), (telegram 0 7 1 : List Byte), ({ seq := 7, bytes := telegram 0 7 3, bus4 := false, since := 0 } : SdOpen), ({ live with kiln := { kilnOn [(0, 1), (18, 0x00640064)] with sd := { lastSeq := some 6, st := 1, wins := [{ seq := 7, bytes := telegram 0 7 3, bus4 := false, since := 0 }] } } }), ?_⟩; exact ⟨by decide +kernel, by decide +kernel, by decide +kernel, by decide +kernel, by decide +kernel, by decide +kernel⟩),
   (by refine ⟨({ seq := 7, bytes := telegram 0 7 3, bus4 := false, since := 0 } : SdOpen), ({ live with kiln := { kilnOn [(0, 1), (18, 0x00640064)] with sd := { lastSeq := some 6, st := 1, wins := [{ seq := 7, bytes := telegram 0 7 3, bus4 := false, since := 0 }] } } }), ?_⟩; exact ⟨by decide +kernel, by decide +kernel, by decide +kernel⟩),
   (by refine ⟨({ live with kiln := { kilnOn [(0, 1), (18, 0x00640064)] with sd := { st := 1 } } }), ?_⟩; exact ⟨by decide +kernel, by decide +kernel, by decide +kernel⟩),
   (by refine ⟨({ live with kiln := { kilnOn [(0, 1), (18, 0x00640064)] with sd := { st := 2 } } }), ?_⟩; exact ⟨by decide +kernel, by decide +kernel, by decide +kernel, by decide +kernel⟩)⟩

/-- States that meet the hypotheses of KilnImagesAreStagedConfirmedAndWritten, clause by clause. -/
theorem witness_kiln_images_are_staged_confirmed_and_written :
    (∃ (p : Port) (c : Cmd) (s : State), Heard p c s ∧ c.op = .kilnConfig ∧ kilnUp s = true ∧ s.kiln.st = .run ∧ kilnBad (expertWords .kilnConfig c.expert c.words) = none) ∧
    (∃ (p : Port) (c : Cmd) (i : Nat) (s : State), Heard p c s ∧ c.op = .kilnConfig ∧ kilnUp s = true ∧ s.kiln.st = .run ∧ kilnBad (expertWords .kilnConfig c.expert c.words) = some i) ∧
    (∃ (p : Port) (c : Cmd) (s : State), Heard p c s ∧ c.op = .kilnConfig ∧ kilnUp s = true ∧ s.kiln.st ≠ .run ∧ s.kiln.st ≠ .fault) ∧
    (∃ (p : Port) (c : Cmd) (ws : List Word) (at_ : Nat) (s : State), Heard p c s ∧ c.op = .kilnConfirm ∧ kilnUp s = true ∧ s.kiln.st ≠ .fault ∧ s.kiln.staged = some (ws, at_) ∧ crc32 ws = wd c.words 0) ∧
    (∃ (p : Port) (c : Cmd) (ws : List Word) (at_ : Nat) (s : State), Heard p c s ∧ c.op = .kilnConfirm ∧ kilnUp s = true ∧ s.kiln.st ≠ .fault ∧ s.kiln.staged = some (ws, at_) ∧ crc32 ws ≠ wd c.words 0) ∧
    (∃ (p : Port) (c : Cmd) (s : State), Heard p c s ∧ c.op = .kilnConfirm ∧ kilnUp s = true ∧ s.kiln.st ≠ .fault ∧ s.kiln.staged = none) ∧
    (∃ (w : KWrite) (p : Port) (tag : Nat) (s : State), s.kiln.write = some w ∧ w.cmd = some (p, tag) ∧ Waits p tag .kilnConfirm s ∧ s.kiln.st = .config ∧ s.sys.kilnLink = true) ∧
    (∃ (w : KWrite) (p : Port) (tag : Nat) (s : State), s.kiln.write = some w ∧ w.cmd = some (p, tag) ∧ Waits p tag .kilnConfirm s ∧ s.kiln.st = .config ∧ s.sys.kilnLink = true) ∧
    (∃ (ws : List Word) (at_ : Nat) (s : State), s.kiln.staged = some (ws, at_)) ∧
    (∃ (e : KEvent) (rest : List KEvent) (n : Fin 128) (s : State), s.kiln.evq = e :: rest ∧ e.src = n.val ∧ n ≠ 120 ∧ s.hp.ready = true) ∧
    (∃ (w : KWrite) (p : Port) (tag : Nat) (ok : Bool) (s : State), s.kiln.write = some w ∧ w.cmd = some (p, tag) ∧ Waits p tag .kilnConfirm s ∧ s.kiln.st = .config ∧ s.sys.kilnLink = false) ∧
    (∃ (w : KWrite) (s : State), s.kiln.write = some w ∧ s.kiln.st = .fault) :=
  ⟨(by refine ⟨(.host : Port), (cmd .kilnConfig []), (asked (.host : Port) (cmd .kilnConfig []) ({ live with kiln := { st := .run } })), ?_⟩; exact ⟨heard_of (by decide +kernel), by decide +kernel, by decide +kernel, by decide +kernel, by decide +kernel⟩),
   (by refine ⟨(.host : Port), (cmd .kilnConfig [0x00100000] true), (0 : Nat), (asked (.host : Port) (cmd .kilnConfig [0x00100000] true) ({ live with kiln := { st := .run } })), ?_⟩; exact ⟨heard_of (by decide +kernel), by decide +kernel, by decide +kernel, by decide +kernel, by decide +kernel⟩),
   (by refine ⟨(.host : Port), (cmd .kilnConfig []), (asked (.host : Port) (cmd .kilnConfig []) ({ live with kiln := { st := .config } })), ?_⟩; exact ⟨heard_of (by decide +kernel), by decide +kernel, by decide +kernel, by decide +kernel, by decide +kernel⟩),
   (by refine ⟨(.host : Port), (cmd .kilnConfirm [crc32 [7]]), ([7] : List Word), (0 : Nat), (asked (.host : Port) (cmd .kilnConfirm [crc32 [7]]) ({ live with kiln := { kilnOn [] with staged := some ([7], 0) } })), ?_⟩; exact ⟨heard_of (by decide +kernel), by decide +kernel, by decide +kernel, by decide +kernel, by decide +kernel, by decide +kernel⟩),
   (by refine ⟨(.host : Port), (cmd .kilnConfirm [crc32 [7] + 1]), ([7] : List Word), (0 : Nat), (asked (.host : Port) (cmd .kilnConfirm [crc32 [7] + 1]) ({ live with kiln := { kilnOn [] with staged := some ([7], 0) } })), ?_⟩; exact ⟨heard_of (by decide +kernel), by decide +kernel, by decide +kernel, by decide +kernel, by decide +kernel, by decide +kernel⟩),
   (by refine ⟨(.host : Port), (cmd .kilnConfirm []), (asked (.host : Port) (cmd .kilnConfirm []) ({ live with kiln := { st := .run } })), ?_⟩; exact ⟨heard_of (by decide +kernel), by decide +kernel, by decide +kernel, by decide +kernel, by decide +kernel⟩),
   (by refine ⟨({ target := 1, gen := 2, words := [], cmd := some (.host, 5) } : KWrite), (.host : Port), (5 : Nat), ({ waiting .host 5 .kilnConfirm live with kiln := { st := .config, write := some { target := 1, gen := 2, words := [], cmd := some (.host, 5) } } }), ?_⟩; exact ⟨by decide +kernel, by decide +kernel, waits_of (by decide +kernel), by decide +kernel, by decide +kernel⟩),
   (by refine ⟨({ target := 1, gen := 2, words := [], cmd := some (.host, 5) } : KWrite), (.host : Port), (5 : Nat), ({ waiting .host 5 .kilnConfirm live with kiln := { st := .config, write := some { target := 1, gen := 2, words := [], cmd := some (.host, 5) } } }), ?_⟩; exact ⟨by decide +kernel, by decide +kernel, waits_of (by decide +kernel), by decide +kernel, by decide +kernel⟩),
   (by refine ⟨([7] : List Word), (0 : Nat), ({ live with kiln := { kilnOn [] with staged := some ([7], 0) } }), ?_⟩; exact by decide +kernel),
   (by refine ⟨({ src := 100, detail := 4 } : KEvent), ([] : List KEvent), (100 : Fin 128), ({ live with kiln := { st := .run, evq := [{ src := 100, detail := 4 }] } }), ?_⟩; exact ⟨by decide +kernel, by decide +kernel, by decide +kernel, by decide +kernel⟩),
   (by refine ⟨({ target := 1, gen := 2, words := [], cmd := some (.host, 5) } : KWrite), (.host : Port), (5 : Nat), (true : Bool), (({ waiting .host 5 .kilnConfirm live with kiln := { st := .config, write := some { target := 1, gen := 2, words := [], cmd := some (.host, 5) } } }).onSys fun y => { y with kilnLink := false }), ?_⟩; exact ⟨by decide +kernel, by decide +kernel, waits_of (by decide +kernel), by decide +kernel, by decide +kernel⟩),
   (by refine ⟨({ target := 1, gen := 2, words := [], cmd := some (.host, 5) } : KWrite), ({ live with kiln := { st := .fault, fault := 2, write := some { target := 1, gen := 2, words := [], cmd := some (.host, 5) } } }), ?_⟩; exact ⟨by decide +kernel, by decide +kernel⟩)⟩

/-- States that meet the hypotheses of BusCommandsQueueFilterAndWake, clause by clause. -/
theorem witness_bus_commands_queue_filter_and_wake :
    (∃ (p : Port) (c : Cmd) (k : Fin 6) (j : Fin 32) (s : State), Heard p c s ∧ c.op = .busCanFilter ∧ fld (wd c.words 0) 2 0 = k.val ∧ fld (wd c.words 0) 12 8 = j.val) ∧
    (∃ (p : Port) (c : Cmd) (k : Fin 6) (frame : CanFrame) (s : State), Heard p c s ∧ c.op = .busCanSend ∧ fld (wd c.words 0) 2 0 = k.val ∧ frame = { ide := bit (wd c.words 1) 31, id := fld (wd c.words 1) 28 0, fdf := bit (wd c.words 1) 30, brs := bit (wd c.words 1) 29, rtr := bit (wd c.words 2) 7, data := (wBytes (c.words.drop 3)).take (fld (wd c.words 2) 6 0) } ∧ lenOk frame.fdf (fld (wd c.words 2) 6 0) = true ∧ ((frame.fdf = true → canDataRate s k ≠ 0)) ∧ ((frame.rtr = true → frame.fdf = false)) ∧ ((frame.brs = true → frame.fdf = true)) ∧ canMode s k = 1 ∧ (s.can[k]).sleepCmd = false ∧ hostPending s.can[k] < 32 ∧ ((ownerId s k (frameId frame) = true → s.sys.own = true)) ∧ (s.can[k]).blocked.contains (frameId frame) = false) ∧
    (∃ (p : Port) (c : Cmd) (k : Fin 6) (frame : CanFrame) (s : State), Heard p c s ∧ c.op = .busCanSend ∧ fld (wd c.words 0) 2 0 = k.val ∧ frame = { ide := bit (wd c.words 1) 31, id := fld (wd c.words 1) 28 0, fdf := bit (wd c.words 1) 30, brs := bit (wd c.words 1) 29, rtr := bit (wd c.words 2) 7, data := (wBytes (c.words.drop 3)).take (fld (wd c.words 2) 6 0) } ∧ lenOk frame.fdf (fld (wd c.words 2) 6 0) = true ∧ ((frame.fdf = true → canDataRate s k ≠ 0)) ∧ ((frame.rtr = true → frame.fdf = false)) ∧ ((frame.brs = true → frame.fdf = true)) ∧ canMode s k = 1 ∧ (s.can[k]).sleepCmd = false ∧ 32 ≤ hostPending s.can[k]) ∧
    (∃ (p : Port) (c : Cmd) (k : Fin 6) (frame : CanFrame) (s : State), Heard p c s ∧ c.op = .busCanSend ∧ fld (wd c.words 0) 2 0 = k.val ∧ frame = { ide := bit (wd c.words 1) 31, id := fld (wd c.words 1) 28 0, fdf := bit (wd c.words 1) 30, brs := bit (wd c.words 1) 29, rtr := bit (wd c.words 2) 7, data := (wBytes (c.words.drop 3)).take (fld (wd c.words 2) 6 0) } ∧ lenOk frame.fdf (fld (wd c.words 2) 6 0) = true ∧ ((frame.fdf = true → canDataRate s k ≠ 0)) ∧ ((frame.rtr = true → frame.fdf = false)) ∧ ((frame.brs = true → frame.fdf = true)) ∧ canMode s k = 1 ∧ (s.can[k]).sleepCmd = false ∧ hostPending s.can[k] < 32 ∧ ownerId s k (frameId frame) = true ∧ s.sys.own = false) ∧
    (∃ (p : Port) (c : Cmd) (k : Fin 6) (frame : CanFrame) (s : State), Heard p c s ∧ c.op = .busCanSend ∧ fld (wd c.words 0) 2 0 = k.val ∧ frame = { ide := bit (wd c.words 1) 31, id := fld (wd c.words 1) 28 0, fdf := bit (wd c.words 1) 30, brs := bit (wd c.words 1) 29, rtr := bit (wd c.words 2) 7, data := (wBytes (c.words.drop 3)).take (fld (wd c.words 2) 6 0) } ∧ lenOk frame.fdf (fld (wd c.words 2) 6 0) = true ∧ ((frame.fdf = true → canDataRate s k ≠ 0)) ∧ ((frame.rtr = true → frame.fdf = false)) ∧ ((frame.brs = true → frame.fdf = true)) ∧ canMode s k = 1 ∧ (s.can[k]).sleepCmd = false ∧ hostPending s.can[k] < 32 ∧ ((ownerId s k (frameId frame) = true → s.sys.own = true)) ∧ (s.can[k]).blocked.contains (frameId frame) = true) ∧
    (∃ (p : Port) (c : Cmd) (k : Fin 6) (s : State), Heard p c s ∧ c.op = .busCanReceive ∧ fld (wd c.words 0) 2 0 = k.val) ∧
    (∃ (p : Port) (c : Cmd) (k : Fin 6) (s : State), Heard p c s ∧ c.op = .busCanSleep ∧ fld (wd c.words 0) 2 0 = k.val ∧ ((c.expert = true ∨ fld (wd c.words 0) 15 12 = 0)) ∧ bit (wd c.words 0) 8 = true ∧ (canUse s k.val = 0 ∨ (s.sys.mode ≠ .standby ∧ s.sys.mode ≠ .control))) ∧
    (∃ (p : Port) (c : Cmd) (k : Fin 6) (s : State), Heard p c s ∧ c.op = .busCanSleep ∧ fld (wd c.words 0) 2 0 = k.val ∧ ((c.expert = true ∨ fld (wd c.words 0) 15 12 = 0)) ∧ bit (wd c.words 0) 8 = true ∧ canUse s k.val ≠ 0 ∧ s.sys.mode = .control) ∧
    (∃ (p : Port) (c : Cmd) (k : Fin 6) (s : State), Heard p c s ∧ c.op = .busCanSleep ∧ fld (wd c.words 0) 2 0 = k.val ∧ ((c.expert = true ∨ fld (wd c.words 0) 15 12 = 0)) ∧ bit (wd c.words 0) 8 = false ∧ (s.can[k]).sleepCmd = true) ∧
    (∃ (p : Port) (c : Cmd) (k : Fin 6) (s : State), Heard p c s ∧ c.op = .busCanRecover ∧ fld (wd c.words 0) 2 0 = k.val ∧ (s.can[k]).busOff = true) ∧
    (∃ (p : Port) (c : Cmd) (k : Fin 6) (s : State), Heard p c s ∧ c.op = .busCanRecover ∧ fld (wd c.words 0) 2 0 = k.val ∧ (s.can[k]).busOff = false) ∧
    (∃ (p : Port) (c : Cmd) (k : Fin 6) (s : State), Heard p c s ∧ c.op = .busCanRelease ∧ fld (wd c.words 0) 2 0 = k.val ∧ (s.can[k]).blocked.contains (bit (wd c.words 1) 31, fld (wd c.words 1) 28 0) = true) ∧
    (∃ (p : Port) (c : Cmd) (k : Fin 6) (s : State), Heard p c s ∧ c.op = .busCanRelease ∧ fld (wd c.words 0) 2 0 = k.val ∧ (s.can[k]).blocked.contains (bit (wd c.words 1) 31, fld (wd c.words 1) 28 0) = false) ∧
    (∃ (p : Port) (c : Cmd) (u : Fin 10) (bytes : List Byte) (s : State), Heard p c s ∧ c.op = .busUartSend ∧ fld (wd c.words 0) 3 0 = u.val ∧ bytes = (wBytes (c.words.drop 1)).take (fld (wd c.words 0) 15 8) ∧ (uartProto s u = 3 ∨ (uartProto s u ≠ 0 ∧ bit (wd c.words 0) 16 = false)) ∧ uartTxEn s u = true ∧ (s.uart[u]).txq.length + bytes.length ≤ 1024) ∧
    (∃ (p : Port) (c : Cmd) (u : Fin 10) (bytes : List Byte) (s : State), Heard p c s ∧ c.op = .busUartSend ∧ fld (wd c.words 0) 3 0 = u.val ∧ bytes = (wBytes (c.words.drop 1)).take (fld (wd c.words 0) 15 8) ∧ (uartProto s u = 1 ∨ uartProto s u = 2) ∧ bit (wd c.words 0) 16 = true ∧ fld (wd c.words 0) 15 8 ≤ 77 ∧ uartTxEn s u = true ∧ (s.uart[u]).txq.length + bytes.length + 5 ≤ 1024) ∧
    (∃ (p : Port) (c : Cmd) (u : Fin 10) (s : State), Heard p c s ∧ c.op = .busUartSend ∧ fld (wd c.words 0) 3 0 = u.val ∧ bit (wd c.words 0) 16 = false ∧ uartProto s u ≠ 0 ∧ uartTxEn s u = true ∧ 1024 < (s.uart[u]).txq.length + ((wBytes (c.words.drop 1)).take (fld (wd c.words 0) 15 8)).length) :=
  ⟨(by refine ⟨(.host : Port), (cmd .busCanFilter []), (0 : Fin 6), (0 : Fin 32), (asked (.host : Port) (cmd .busCanFilter []) (live)), ?_⟩; exact ⟨heard_of (by decide +kernel), by decide +kernel, by decide +kernel, by decide +kernel⟩),
   (by refine ⟨(.host : Port), (cmd .busCanSend [0, 5, 0]), (0 : Fin 6), ({ id := 5 } : CanFrame), (asked (.host : Port) (cmd .busCanSend [0, 5, 0]) (setCfg [(.busCanConfig, 0, [0x100])] (live))), ?_⟩; exact ⟨heard_of (by decide +kernel), by decide +kernel, by decide +kernel, by decide +kernel, by decide +kernel, by decide +kernel, by decide +kernel, by decide +kernel, by decide +kernel, by decide +kernel, by decide +kernel, by decide +kernel, by decide +kernel⟩),
   (by refine ⟨(.host : Port), (cmd .busCanSend [0, 5, 0]), (0 : Fin 6), ({ id := 5 } : CanFrame), (asked (.host : Port) (cmd .busCanSend [0, 5, 0]) ((setCfg [(.busCanConfig, 0, [0x100])] (live)).onCan fun v => put v 0 { txq := List.replicate 32 { f := {}, who := .host } })), ?_⟩; exact ⟨heard_of (by decide +kernel), by decide +kernel, by decide +kernel, by decide +kernel, by decide +kernel, by decide +kernel, by decide +kernel, by decide +kernel, by decide +kernel, by decide +kernel, by decide +kernel⟩),
   (by refine ⟨(.host : Port), (cmd .busCanSend [0, 5, 0]), (0 : Fin 6), ({ id := 5 } : CanFrame), (asked (.host : Port) (cmd .busCanSend [0, 5, 0]) (setCfg [(.busCanConfig, 0, [0x100, 0, 0, 5, 0x7FF])] (live))), ?_⟩; exact ⟨heard_of (by decide +kernel), by decide +kernel, by decide +kernel, by decide +kernel, by decide +kernel, by decide +kernel, by decide +kernel, by decide +kernel, by decide +kernel, by decide +kernel, by decide +kernel, by decide +kernel, by decide +kernel⟩),
   (by refine ⟨(.host : Port), (cmd .busCanSend [0, 5, 0]), (0 : Fin 6), ({ id := 5 } : CanFrame), (asked (.host : Port) (cmd .busCanSend [0, 5, 0]) ((setCfg [(.busCanConfig, 0, [0x100])] (live)).onCan fun v => put v 0 { blocked := [(false, 5)] })), ?_⟩; exact ⟨heard_of (by decide +kernel), by decide +kernel, by decide +kernel, by decide +kernel, by decide +kernel, by decide +kernel, by decide +kernel, by decide +kernel, by decide +kernel, by decide +kernel, by decide +kernel, by decide +kernel, by decide +kernel⟩),
   (by refine ⟨(.host : Port), (cmd .busCanReceive []), (0 : Fin 6), (asked (.host : Port) (cmd .busCanReceive []) (live)), ?_⟩; exact ⟨heard_of (by decide +kernel), by decide +kernel, by decide +kernel⟩),
   (by refine ⟨(.host : Port), (cmd .busCanSleep [0x100, 0, 0, 0, 0]), (0 : Fin 6), (asked (.host : Port) (cmd .busCanSleep [0x100, 0, 0, 0, 0]) (setCfg [(.dpcPowerConfig, 0, [7]), (.busCanConfig, 0, [0x100])] (live))), ?_⟩; exact ⟨heard_of (by decide +kernel), by decide +kernel, by decide +kernel, by decide +kernel, by decide +kernel, by decide +kernel⟩),
   (by refine ⟨(.host : Port), (cmd .busCanSleep [0x100, 0, 0, 0, 0]), (0 : Fin 6), (asked (.host : Port) (cmd .busCanSleep [0x100, 0, 0, 0, 0]) (setCfg [(.dpcPowerConfig, 0, [0])] (inMode .control live))), ?_⟩; exact ⟨heard_of (by decide +kernel), by decide +kernel, by decide +kernel, by decide +kernel, by decide +kernel, by decide +kernel, by decide +kernel⟩),
   (by refine ⟨(.host : Port), (cmd .busCanSleep []), (0 : Fin 6), (asked (.host : Port) (cmd .busCanSleep []) ((setCfg [(.busCanConfig, 0, [0x100])] (live)).onCan fun v => put v 0 { sleepCmd := true })), ?_⟩; exact ⟨heard_of (by decide +kernel), by decide +kernel, by decide +kernel, by decide +kernel, by decide +kernel, by decide +kernel⟩),
   (by refine ⟨(.host : Port), (cmd .busCanRecover []), (0 : Fin 6), (asked (.host : Port) (cmd .busCanRecover []) ((setCfg [(.busCanConfig, 0, [0x100])] (live)).onCan fun v => put v 0 { busOff := true })), ?_⟩; exact ⟨heard_of (by decide +kernel), by decide +kernel, by decide +kernel, by decide +kernel⟩),
   (by refine ⟨(.host : Port), (cmd .busCanRecover []), (0 : Fin 6), (asked (.host : Port) (cmd .busCanRecover []) (live)), ?_⟩; exact ⟨heard_of (by decide +kernel), by decide +kernel, by decide +kernel, by decide +kernel⟩),
   (by refine ⟨(.host : Port), (cmd .busCanRelease [0, 5]), (0 : Fin 6), (asked (.host : Port) (cmd .busCanRelease [0, 5]) ((setCfg [(.busCanConfig, 0, [0x100])] (live)).onCan fun v => put v 0 { blocked := [(false, 5)] })), ?_⟩; exact ⟨heard_of (by decide +kernel), by decide +kernel, by decide +kernel, by decide +kernel⟩),
   (by refine ⟨(.host : Port), (cmd .busCanRelease []), (0 : Fin 6), (asked (.host : Port) (cmd .busCanRelease []) (live)), ?_⟩; exact ⟨heard_of (by decide +kernel), by decide +kernel, by decide +kernel, by decide +kernel⟩),
   (by refine ⟨(.host : Port), (cmd .busUartSend [0x00000200, 0x1234]), (0 : Fin 10), ([0x34, 0x12] : List Byte), (asked (.host : Port) (cmd .busUartSend [0x00000200, 0x1234]) (setCfg [(.busUartConfig, 0, [0x300, 2])] (live))), ?_⟩; exact ⟨heard_of (by decide +kernel), by decide +kernel, by decide +kernel, by decide +kernel, by decide +kernel, by decide +kernel, by decide +kernel⟩),
   (by refine ⟨(.host : Port), (cmd .busUartSend [0x00010200, 0x4142]), (0 : Fin 10), ([0x42, 0x41] : List Byte), (asked (.host : Port) (cmd .busUartSend [0x00010200, 0x4142]) (setCfg [(.busUartConfig, 0, [0x100, 2])] (live))), ?_⟩; exact ⟨heard_of (by decide +kernel), by decide +kernel, by decide +kernel, by decide +kernel, by decide +kernel, by decide +kernel, by decide +kernel, by decide +kernel, by decide +kernel⟩),
   (by refine ⟨(.host : Port), (cmd .busUartSend [0x00000200, 0x1234]), (0 : Fin 10), (asked (.host : Port) (cmd .busUartSend [0x00000200, 0x1234]) ((setCfg [(.busUartConfig, 0, [0x300, 2])] (live)).onUart fun v => put v 0 { txq := List.replicate 1024 0 })), ?_⟩; exact ⟨heard_of (by decide +kernel), by decide +kernel, by decide +kernel, by decide +kernel, by decide +kernel, by decide +kernel, by decide +kernel⟩)⟩

/-- States that meet the hypotheses of FramesAreSentReceivedAndKept, clause by clause. -/
theorem witness_frames_are_sent_received_and_kept :
    (∃ (c : Fin 6) (e : TxEntry) (s : State), canActive s c = true ∧ canMode s c = 1 ∧ (s.can[c]).inFlight = none ∧ txChoose (canOrder s c) (s.can[c]).txq = some e) ∧
    (∃ (c : Fin 6) (e : TxEntry) (s : State), canActive s c = true ∧ canMode s c = 1 ∧ (s.can[c]).inFlight = some e) ∧
    (∃ (c : Fin 6) (e : TxEntry) (s : State), canActive s c = true ∧ canMode s c = 1 ∧ (s.can[c]).inFlight = some e ∧ e.who = .host) ∧
    (∃ (c : Fin 6) (e : TxEntry) (s : State), canActive s c = true ∧ canMode s c = 1 ∧ (s.can[c]).inFlight = some e ∧ e.who = .host ∧ e.oneShot = false) ∧
    (∃ (c : Fin 6) (e : TxEntry) (dominant : Bool) (s : State), canActive s c = true ∧ canMode s c = 1 ∧ (s.can[c]).inFlight = some e ∧ (s.can[c]).alone = false ∧ (s.can[c]).noAck = 31 ∧ s.hp.ready = true) ∧
    (∃ (c : Fin 6) (e : TxEntry) (at_ : Nat) (s : State), canActive s c = true ∧ canMode s c = 1 ∧ (s.can[c]).inFlight = some e ∧ (frameId e.f, at_) ∈ (s.can[c]).coll ∧ s.time.mt < at_ + secTicks ∧ s.hp.ready = true) ∧
    (∃ (c : Fin 6) (s : State), canActive s c = true ∧ canMode s c = 1 ∧ (s.can[c]).inFlight = none) ∧
    (∃ (c : Fin 6) (s : State), (s.can[c]).busOff = true ∧ ((canBoffManual s c = true → (s.can[c]).recovering = true)) ∧ canAsleep s c = false) ∧
    (∃ (c : Fin 6) (s : State), canBoffManual s c = true ∧ (s.can[c]).recovering = false) ∧
    (∃ (c : Fin 6) (s : State), canAsleep s c = false) ∧
    (∃ (c : Fin 6) (f : CanFrame) (sof : Nat) (i : Fin 32) (s : State), canActive s c = true ∧ ((fins 32).find? fun i => filterHit f (s.can[c]).filters[i]) = some i ∧ (s.can[c]).fifo.length < 64) ∧
    (∃ (c : Fin 6) (f : CanFrame) (sof : Nat) (i : Fin 32) (s : State), canActive s c = true ∧ ((fins 32).find? fun i => filterHit f (s.can[c]).filters[i]) = some i ∧ 64 ≤ (s.can[c]).fifo.length) ∧
    (∃ (c : Fin 6) (n : Fin 16) (f : CanFrame) (sof : Nat) (s : State), canActive s c = true ∧ bindCan s n.val = c.val ∧ fbId s n.val = frameId f ∧ f.fdf = false ∧ f.rtr = false ∧ f.data.length = 8 ∧ (s.alloc.thr[n]).fbCounter ≠ some (f.data.getD 7 0).toNat) ∧
    (∃ (c : Fin 6) (s : State), canActive s c = true) ∧
    (∃ (c : Fin 6) (x : CanIn) (s : State), canActive s c = false) ∧
    (∃ (c : Fin 6) (s : State), (s.can[c]).sleepReq = true ∧ (s.can[c]).inFlight = none) ∧
    (∃ (c : Fin 6) (s : State), (s.can[c]).inFlight ≠ none) ∧
    (∃ (c : Fin 6) (w : CanWakeCause) (s : State), canMode s c ≠ 0 ∧ canAsleep s c = true ∧ wakeMet (s.can[c]).wake w = true ∧ s.hp.ready = true) ∧
    (∃ (c : Fin 6) (w : CanWakeCause) (s : State), wakeMet (s.can[c]).wake w = false) :=
  ⟨(by refine ⟨(0 : Fin 6), ({ f := {}, who := .host } : TxEntry), ((setCfg [(.busCanConfig, 0, [0x100])] (live)).onCan fun v => put v 0 { txq := [{ f := {}, who := .host }] }), ?_⟩; exact ⟨by decide +kernel, by decide +kernel, by decide +kernel, by decide +kernel⟩),
   (by refine ⟨(0 : Fin 6), ({ f := {}, who := .host } : TxEntry), ((setCfg [(.busCanConfig, 0, [0x100])] (live)).onCan fun v => put v 0 { inFlight := some { f := {}, who := .host } }), ?_⟩; exact ⟨by decide +kernel, by decide +kernel, by decide +kernel⟩),
   (by refine ⟨(0 : Fin 6), ({ f := {}, who := .host } : TxEntry), ((setCfg [(.busCanConfig, 0, [0x100])] (live)).onCan fun v => put v 0 { inFlight := some { f := {}, who := .host } }), ?_⟩; exact ⟨by decide +kernel, by decide +kernel, by decide +kernel, by decide +kernel⟩),
   (by refine ⟨(0 : Fin 6), ({ f := {}, who := .host } : TxEntry), ((setCfg [(.busCanConfig, 0, [0x100])] (live)).onCan fun v => put v 0 { inFlight := some { f := {}, who := .host } }), ?_⟩; exact ⟨by decide +kernel, by decide +kernel, by decide +kernel, by decide +kernel, by decide +kernel⟩),
   (by refine ⟨(0 : Fin 6), ({ f := {}, who := .host } : TxEntry), (false : Bool), ((setCfg [(.busCanConfig, 0, [0x100])] (live)).onCan fun v => put v 0 { inFlight := some { f := {}, who := .host }, noAck := 31 }), ?_⟩; exact ⟨by decide +kernel, by decide +kernel, by decide +kernel, by decide +kernel, by decide +kernel, by decide +kernel⟩),
   (by refine ⟨(0 : Fin 6), ({ f := {}, who := .host } : TxEntry), (0 : Nat), ((setCfg [(.busCanConfig, 0, [0x100])] (live)).onCan fun v => put v 0 { inFlight := some { f := {}, who := .host }, coll := [((false, 0), 0)] }), ?_⟩; exact ⟨by decide +kernel, by decide +kernel, by decide +kernel, by decide +kernel, by decide +kernel, by decide +kernel⟩),
   (by refine ⟨(0 : Fin 6), (setCfg [(.busCanConfig, 0, [0x100])] (live)), ?_⟩; exact ⟨by decide +kernel, by decide +kernel, by decide +kernel⟩),
   (by refine ⟨(0 : Fin 6), ((setCfg [(.busCanConfig, 0, [0x100])] (live)).onCan fun v => put v 0 { busOff := true }), ?_⟩; exact ⟨by decide +kernel, by decide +kernel, by decide +kernel⟩),
   (by refine ⟨(0 : Fin 6), (setCfg [(.busCanConfig, 0, [0x120])] (live)), ?_⟩; exact ⟨by decide +kernel, by decide +kernel⟩),
   (by refine ⟨(0 : Fin 6), (live), ?_⟩; exact by decide +kernel),
   (by refine ⟨(0 : Fin 6), ({ id := 5, data := [1] } : CanFrame), (0 : Nat), (0 : Fin 32), ((setCfg [(.busCanConfig, 0, [0x100])] (live)).onCan fun v => put v 0 { filters := Vector.replicate 32 { enable := true } }), ?_⟩; exact ⟨by decide +kernel, by decide +kernel, by decide +kernel⟩),
   (by refine ⟨(0 : Fin 6), ({ id := 5, data := [1] } : CanFrame), (0 : Nat), (0 : Fin 32), ((setCfg [(.busCanConfig, 0, [0x100])] (live)).onCan fun v => put v 0 { filters := Vector.replicate 32 { enable := true }, fifo := List.replicate 64 { f := {}, stamp := 0, filter := 0 } }), ?_⟩; exact ⟨by decide +kernel, by decide +kernel, by decide +kernel⟩),
   (by refine ⟨(0 : Fin 6), (0 : Fin 16), ({ data := [1, 0, 2, 0, 3, 0, 0, 9] } : CanFrame), (0 : Nat), (setCfg [(.busCanConfig, 0, [0x100]), (.loopThrusterBind, 0, [0xFFFF0000, 0xFFFFFF00, 0, 0, 0])] (live)), ?_⟩; exact ⟨by decide +kernel, by decide +kernel, by decide +kernel, by decide +kernel, by decide +kernel, by decide +kernel, by decide +kernel⟩),
   (by refine ⟨(0 : Fin 6), (setCfg [(.busCanConfig, 0, [0x100])] (live)), ?_⟩; exact by decide +kernel),
   (by refine ⟨(0 : Fin 6), (.error : CanIn), (live), ?_⟩; exact by decide +kernel),
   (by refine ⟨(0 : Fin 6), ((setCfg [(.busCanConfig, 0, [0x100])] (live)).onCan fun v => put v 0 { sleepReq := true }), ?_⟩; exact ⟨by decide +kernel, by decide +kernel⟩),
   (by refine ⟨(0 : Fin 6), ((setCfg [(.busCanConfig, 0, [0x100])] (live)).onCan fun v => put v 0 { inFlight := some { f := {}, who := .host } }), ?_⟩; exact by decide +kernel),
   (by refine ⟨(0 : Fin 6), (.dominant : CanWakeCause), (inMode .dormant ({ (setCfg [(.busCanConfig, 0, [0x100])] (live)).onCan fun v => put v 0 { sleepCmd := true } with sys := { live.sys with dom := Vector.replicate 12 .gated } })), ?_⟩; exact ⟨by decide +kernel, by decide +kernel, by decide +kernel, by decide +kernel⟩),
   (by refine ⟨(0 : Fin 6), (.frame {} : CanWakeCause), (live), ?_⟩; exact by decide +kernel)⟩

/-- States that meet the hypotheses of LoopEnginesFollowTheirCommandsAndLaw, clause by clause. -/
theorem witness_loop_engines_follow_their_commands_and_law :
    (∃ (p : Port) (c : Cmd) (i : Fin 64) (s : State), Heard p c s ∧ c.op = .loopClose ∧ fld (wd c.words 0) 5 0 = i.val ∧ loopBound s i.val = false ∧ (s.loop.le[i]).st ≠ .unconfigured ∧ engClosed s.loop.le[i] = false) ∧
    (∃ (p : Port) (c : Cmd) (i : Fin 64) (s : State), Heard p c s ∧ c.op = .loopClose ∧ fld (wd c.words 0) 5 0 = i.val ∧ loopBound s i.val = false ∧ (s.loop.le[i]).st ≠ .unconfigured ∧ engClosed s.loop.le[i] = true) ∧
    (∃ (p : Port) (c : Cmd) (i : Fin 64) (s : State), Heard p c s ∧ c.op = .loopClose ∧ fld (wd c.words 0) 5 0 = i.val ∧ loopBound s i.val = false ∧ (s.loop.le[i]).st = .unconfigured) ∧
    (∃ (p : Port) (c : Cmd) (i : Fin 64) (s : State), Heard p c s ∧ fld (wd c.words 0) 5 0 = i.val ∧ loopBound s i.val = true ∧ c.op = .loopClose) ∧
    (∃ (p : Port) (c : Cmd) (i : Fin 64) (s : State), Heard p c s ∧ fld (wd c.words 0) 5 0 = i.val ∧ loopBound s i.val = true ∧ c.op = .loopOpen) ∧
    (∃ (p : Port) (c : Cmd) (i : Fin 64) (s : State), Heard p c s ∧ fld (wd c.words 0) 5 0 = i.val ∧ loopBound s i.val = true ∧ c.op = .loopSetManual) ∧
    (∃ (p : Port) (c : Cmd) (i : Fin 64) (s : State), Heard p c s ∧ fld (wd c.words 0) 5 0 = i.val ∧ loopBound s i.val = true ∧ c.op = .loopSetSetpoint) ∧
    (∃ (p : Port) (c : Cmd) (i : Fin 64) (s : State), Heard p c s ∧ c.op = .loopOpen ∧ fld (wd c.words 0) 5 0 = i.val ∧ loopBound s i.val = false ∧ s.loop.folly = none) ∧
    (∃ (p : Port) (c : Cmd) (i : Fin 64) (s : State), Heard p c s ∧ c.op = .loopSetManual ∧ fld (wd c.words 0) 5 0 = i.val ∧ loopBound s i.val = false ∧ engClosed s.loop.le[i] = false) ∧
    (∃ (p : Port) (c : Cmd) (i : Fin 64) (s : State), Heard p c s ∧ c.op = .loopSetManual ∧ fld (wd c.words 0) 5 0 = i.val ∧ loopBound s i.val = false ∧ engClosed s.loop.le[i] = true) ∧
    (∃ (p : Port) (c : Cmd) (i : Fin 64) (s : State), Heard p c s ∧ c.op = .loopSetSetpoint ∧ fld (wd c.words 0) 5 0 = i.val ∧ loopBound s i.val = false) ∧
    (∃ (i : Fin 64) (s : State), leSet s i.val = true ∧ s.sys.dom[1] = .on ∧ leGroup s i.val = none ∧ s.loop.folly = none ∧ (s.loop.le[i]).closeReq = false ∧ (s.loop.le[i]).openReq = false ∧ (s.loop.le[i]).st = .open) ∧
    (∃ (i : Fin 64) (x : Int) (s : State), leSet s i.val = true ∧ s.sys.dom[1] = .on ∧ leGroup s i.val = none ∧ s.loop.folly = none ∧ (s.loop.le[i]).closeReq = false ∧ (s.loop.le[i]).openReq = false ∧ (s.loop.le[i]).st = .closed ∧ leSample s i.val = some x ∧ bit (wd (leCfg s i.val) 0) 11 = false ∧ -(2 ^ 31) ≤ gmul (wd (leCfg s i.val) 1) x + (wd (leCfg s i.val) 2).toInt ∧ gmul (wd (leCfg s i.val) 1) x + (wd (leCfg s i.val) 2).toInt < 2 ^ 31 ∧ -(2 ^ 31) ≤ (s.loop.le[i]).spReq - (gmul (wd (leCfg s i.val) 1) x + (wd (leCfg s i.val) 2).toInt) ∧ (s.loop.le[i]).spReq - (gmul (wd (leCfg s i.val) 1) x + (wd (leCfg s i.val) 2).toInt) < 2 ^ 31 ∧ wd (leCfg s i.val) 5 = 0 ∧ outMin s i.val ≤ outMax s i.val) ∧
    (∃ (i : Fin 64) (s : State), leSet s i.val = true ∧ s.sys.dom[1] = .on ∧ leGroup s i.val = none ∧ s.loop.folly = none ∧ (s.loop.le[i]).closeReq = true ∧ (s.loop.le[i]).openReq = false ∧ (s.loop.le[i]).st = .open) ∧
    (∃ (i : Fin 64) (t0 : Nat) (s : State), (s.loop.le[i]).feSince = some t0 ∧ (s.loop.le[i]).feRaised = false ∧ s.loop.folly = none ∧ leThruster s i.val = none ∧ bit (wd (leCfg s i.val) 7) 16 = false) ∧
    (∃ (i : Fin 64) (t0 : Nat) (n : Fin 16) (s : State), (s.loop.le[i]).feSince = some t0 ∧ (s.loop.le[i]).feRaised = false ∧ leThruster s i.val = some n.val ∧ bit (wd (leCfg s i.val) 7) 16 = true ∧ (s.loop.le[i]).st = .closed) :=
  ⟨(by refine ⟨(.host : Port), (cmd .loopClose []), (0 : Fin 64), (asked (.host : Port) (cmd .loopClose []) ((live).onLoop fun l => { l with le := put l.le 0 { st := .open } })), ?_⟩; exact ⟨heard_of (by decide +kernel), by decide +kernel, by decide +kernel, by decide +kernel, by decide +kernel, by decide +kernel⟩),
   (by refine ⟨(.host : Port), (cmd .loopClose []), (0 : Fin 64), (asked (.host : Port) (cmd .loopClose []) ((live).onLoop fun l => { l with le := put l.le 0 { st := .closed } })), ?_⟩; exact ⟨heard_of (by decide +kernel), by decide +kernel, by decide +kernel, by decide +kernel, by decide +kernel, by decide +kernel⟩),
   (by refine ⟨(.host : Port), (cmd .loopClose []), (0 : Fin 64), (asked (.host : Port) (cmd .loopClose []) (live)), ?_⟩; exact ⟨heard_of (by decide +kernel), by decide +kernel, by decide +kernel, by decide +kernel, by decide +kernel⟩),
   (by refine ⟨(.host : Port), (cmd .loopClose []), (0 : Fin 64), (asked (.host : Port) (cmd .loopClose []) (setCfg [(.loopThrusterBind, 0, [0xFF000000, 0xFFFFFF07, 0, 0, 0])] (inMode .control live))), ?_⟩; exact ⟨heard_of (by decide +kernel), by decide +kernel, by decide +kernel, by decide +kernel⟩),
   (by refine ⟨(.host : Port), (cmd .loopOpen []), (0 : Fin 64), (asked (.host : Port) (cmd .loopOpen []) (setCfg [(.loopThrusterBind, 0, [0xFF000000, 0xFFFFFF07, 0, 0, 0])] (inMode .control live))), ?_⟩; exact ⟨heard_of (by decide +kernel), by decide +kernel, by decide +kernel, by decide +kernel⟩),
   (by refine ⟨(.host : Port), (cmd .loopSetManual []), (0 : Fin 64), (asked (.host : Port) (cmd .loopSetManual []) (setCfg [(.loopThrusterBind, 0, [0xFF000000, 0xFFFFFF07, 0, 0, 0])] (inMode .control live))), ?_⟩; exact ⟨heard_of (by decide +kernel), by decide +kernel, by decide +kernel, by decide +kernel⟩),
   (by refine ⟨(.host : Port), (cmd .loopSetSetpoint []), (0 : Fin 64), (asked (.host : Port) (cmd .loopSetSetpoint []) (setCfg [(.loopThrusterBind, 0, [0xFF000000, 0xFFFFFF07, 0, 0, 0])] (inMode .control live))), ?_⟩; exact ⟨heard_of (by decide +kernel), by decide +kernel, by decide +kernel, by decide +kernel⟩),
   (by refine ⟨(.host : Port), (cmd .loopOpen []), (0 : Fin 64), (asked (.host : Port) (cmd .loopOpen []) (live)), ?_⟩; exact ⟨heard_of (by decide +kernel), by decide +kernel, by decide +kernel, by decide +kernel, by decide +kernel⟩),
   (by refine ⟨(.host : Port), (cmd .loopSetManual []), (0 : Fin 64), (asked (.host : Port) (cmd .loopSetManual []) (live)), ?_⟩; exact ⟨heard_of (by decide +kernel), by decide +kernel, by decide +kernel, by decide +kernel, by decide +kernel⟩),
   (by refine ⟨(.host : Port), (cmd .loopSetManual []), (0 : Fin 64), (asked (.host : Port) (cmd .loopSetManual []) ((live).onLoop fun l => { l with le := put l.le 0 { st := .closed } })), ?_⟩; exact ⟨heard_of (by decide +kernel), by decide +kernel, by decide +kernel, by decide +kernel, by decide +kernel⟩),
   (by refine ⟨(.host : Port), (cmd .loopSetSetpoint []), (0 : Fin 64), (asked (.host : Port) (cmd .loopSetSetpoint []) (live)), ?_⟩; exact ⟨heard_of (by decide +kernel), by decide +kernel, by decide +kernel, by decide +kernel⟩),
   (by refine ⟨(0 : Fin 64), ((setCfg [(.loopConfig, 0, [0xFF000000, 0, 0, 0, 100, 0, 0, 0])] (live)).onLoop fun l => { l with le := put l.le 0 { st := .open } }), ?_⟩; exact ⟨by decide +kernel, by decide +kernel, by decide +kernel, by decide +kernel, by decide +kernel, by decide +kernel, by decide +kernel⟩),
   (by refine ⟨(0 : Fin 64), (0 : Int), ((setCfg [(.loopConfig, 0, [0xFF000000, 0, 0, 0, 100, 0, 0, 0])] (live)).onLoop fun l => { l with le := put l.le 0 { st := .closed } }), ?_⟩; exact ⟨by decide +kernel, by decide +kernel, by decide +kernel, by decide +kernel, by decide +kernel, by decide +kernel, by decide +kernel, by decide +kernel, by decide +kernel, by decide +kernel, by decide +kernel, by decide +kernel, by decide +kernel, by decide +kernel, by decide +kernel⟩),
   (by refine ⟨(0 : Fin 64), ((setCfg [(.loopConfig, 0, [0xFF000000, 0, 0, 0, 100, 0, 0, 0])] (live)).onLoop fun l => { l with le := put l.le 0 { st := .open, closeReq := true } }), ?_⟩; exact ⟨by decide +kernel, by decide +kernel, by decide +kernel, by decide +kernel, by decide +kernel, by decide +kernel, by decide +kernel⟩),
   (by refine ⟨(0 : Fin 64), (0 : Nat), ((setCfg [(.loopConfig, 0, [0xFF000000, 0, 0, 0, 100, 0, 0, 0])] (live)).onLoop fun l => { l with le := put l.le 0 { st := .closed, feSince := some 0 } }), ?_⟩; exact ⟨by decide +kernel, by decide +kernel, by decide +kernel, by decide +kernel, by decide +kernel⟩),
   (by refine ⟨(0 : Fin 64), (0 : Nat), (0 : Fin 16), ((setCfg [(.loopConfig, 0, [0xFF000000, 0, 0, 0, 100, 0, 0, 0x10000]), (.loopThrusterBind, 0, [0xFF000000, 0xFFFFFF07, 0, 0, 0])] (live)).onLoop fun l => { l with le := put l.le 0 { st := .closed, feSince := some 0 } }), ?_⟩; exact ⟨by decide +kernel, by decide +kernel, by decide +kernel, by decide +kernel, by decide +kernel⟩)⟩

/-- States that meet the hypotheses of FollyTestsAreStartedStoppedAndCaptured, clause by clause. -/
theorem witness_folly_tests_are_started_stopped_and_captured :
    (∃ (p : Port) (c : Cmd) (s : State) (ws : List Word), Heard p c s ∧ c.op = .follyStart ∧ ws = expertWords .follyStart c.expert c.words ∧ follyBad s ws = none ∧ s.loop.folly = none ∧ ((bit (wd ws 0) 8 = true ∨ engClosed (eng s (fld (wd ws 0) 5 0)) = true))) ∧
    (∃ (p : Port) (c : Cmd) (f : Folly) (s : State) (ws : List Word), Heard p c s ∧ c.op = .follyStart ∧ ws = expertWords .follyStart c.expert c.words ∧ follyBad s ws = none ∧ s.loop.folly = some f) ∧
    (∃ (p : Port) (c : Cmd) (s : State) (ws : List Word), Heard p c s ∧ c.op = .follyStart ∧ ws = expertWords .follyStart c.expert c.words ∧ follyBad s ws = none ∧ s.loop.folly = none ∧ bit (wd ws 0) 8 = false ∧ engClosed (eng s (fld (wd ws 0) 5 0)) = false) ∧
    (∃ (p : Port) (c : Cmd) (i : Nat) (s : State), Heard p c s ∧ c.op = .follyStart ∧ follyBad s (expertWords .follyStart c.expert c.words) = some i) ∧
    (∃ (p : Port) (c : Cmd) (s : State), Heard p c s ∧ c.op = .follyStop) ∧
    (∃ (p : Port) (c : Cmd) (f : Folly) (s : State), Heard p c s ∧ c.op = .loopOpen ∧ fld (wd c.words 0) 5 0 = f.le ∧ loopBound s f.le = false ∧ s.loop.folly = some f) ∧
    (∃ (i : Fin 64) (f : Folly) (s : State), leSet s i.val = true ∧ s.sys.dom[1] = .on ∧ leGroup s i.val = none ∧ s.loop.folly = some f ∧ f.le = i.val ∧ f.tick = 0 ∧ f.stopReq = none) ∧
    (∃ (f : Folly) (s : State), s.loop.folly = some f ∧ f.taken = 4096 ∧ Waits f.port f.tag .follyStart s) ∧
    (∃ (f : Folly) (s : State), s.loop.folly = some f ∧ f.taken < 4096) :=
  ⟨(by refine ⟨(.host : Port), (cmd .follyStart [0x01000100, 1, 1, 1, 0, 0x80000000, 0] true), (asked (.host : Port) (cmd .follyStart [0x01000100, 1, 1, 1, 0, 0x80000000, 0] true) (live)), (expertWords .follyStart (cmd .follyStart [0x01000100, 1, 1, 1, 0, 0x80000000, 0] true).expert (cmd .follyStart [0x01000100, 1, 1, 1, 0, 0x80000000, 0] true).words : List Word), ?_⟩; exact ⟨heard_of (by decide +kernel), by decide +kernel, rfl, by decide +kernel, by decide +kernel, by decide +kernel⟩),
   (by refine ⟨(.host : Port), (cmd .follyStart [0x01000100, 1, 1, 1, 0, 0x80000000, 0] true), ({ port := .host, tag := 5, le := 0, output := true, signal := 0, amp := 1, f0 := 1, f1 := 1, settle := 0, decim := 1, chans := [], stopOnFe := false } : Folly), (asked (.host : Port) (cmd .follyStart [0x01000100, 1, 1, 1, 0, 0x80000000, 0] true) ((live).onLoop fun l => { l with folly := some { port := .host, tag := 5, le := 0, output := true, signal := 0, amp := 1, f0 := 1, f1 := 1, settle := 0, decim := 1, chans := [], stopOnFe := false } })), (expertWords .follyStart (cmd .follyStart [0x01000100, 1, 1, 1, 0, 0x80000000, 0] true).expert (cmd .follyStart [0x01000100, 1, 1, 1, 0, 0x80000000, 0] true).words : List Word), ?_⟩; exact ⟨heard_of (by decide +kernel), by decide +kernel, rfl, by decide +kernel, by decide +kernel⟩),
   (by refine ⟨(.host : Port), (cmd .follyStart []), (asked (.host : Port) (cmd .follyStart []) (live)), (expertWords .follyStart (cmd .follyStart []).expert (cmd .follyStart []).words : List Word), ?_⟩; exact ⟨heard_of (by decide +kernel), by decide +kernel, rfl, by decide +kernel, by decide +kernel, by decide +kernel, by decide +kernel⟩),
   (by refine ⟨(.host : Port), (cmd .follyStart [0x01000100, 1, 0x7FFFFFFF, 1, 0, 0x80000000, 0] true), (2 : Nat), (asked (.host : Port) (cmd .follyStart [0x01000100, 1, 0x7FFFFFFF, 1, 0, 0x80000000, 0] true) (live)), ?_⟩; exact ⟨heard_of (by decide +kernel), by decide +kernel, by decide +kernel⟩),
   (by refine ⟨(.host : Port), (cmd .follyStop []), (asked (.host : Port) (cmd .follyStop []) (live)), ?_⟩; exact ⟨heard_of (by decide +kernel), by decide +kernel⟩),
   (by refine ⟨(.host : Port), (cmd .loopOpen []), ({ port := .host, tag := 5, le := 0, output := true, signal := 0, amp := 1, f0 := 1, f1 := 1, settle := 0, decim := 1, chans := [], stopOnFe := false } : Folly), (asked (.host : Port) (cmd .loopOpen []) ((live).onLoop fun l => { l with folly := some { port := .host, tag := 5, le := 0, output := true, signal := 0, amp := 1, f0 := 1, f1 := 1, settle := 0, decim := 1, chans := [], stopOnFe := false } })), ?_⟩; exact ⟨heard_of (by decide +kernel), by decide +kernel, by decide +kernel, by decide +kernel, by decide +kernel⟩),
   (by refine ⟨(0 : Fin 64), ({ port := .host, tag := 5, le := 0, output := true, signal := 0, amp := 1, f0 := 1, f1 := 1, settle := 0, decim := 1, chans := [], stopOnFe := false } : Folly), (((setCfg [(.loopConfig, 0, [0xFF000000, 0, 0, 0, 100, 0, 0, 0])] (live)).onLoop fun l => { l with le := put l.le 0 { st := .open } }).onLoop fun l => { l with folly := some { port := .host, tag := 5, le := 0, output := true, signal := 0, amp := 1, f0 := 1, f1 := 1, settle := 0, decim := 1, chans := [], stopOnFe := false } }), ?_⟩; exact ⟨by decide +kernel, by decide +kernel, by decide +kernel, by decide +kernel, by decide +kernel, by decide +kernel, by decide +kernel⟩),
   (by refine ⟨({ port := .host, tag := 5, le := 0, output := true, signal := 0, amp := 1, f0 := 1, f1 := 1, settle := 0, decim := 1, chans := [], stopOnFe := false, taken := 4096 } : Folly), ((waiting .host 5 .follyStart live).onLoop fun l => { l with folly := some { port := .host, tag := 5, le := 0, output := true, signal := 0, amp := 1, f0 := 1, f1 := 1, settle := 0, decim := 1, chans := [], stopOnFe := false, taken := 4096 } }), ?_⟩; exact ⟨by decide +kernel, by decide +kernel, waits_of (by decide +kernel)⟩),
   (by refine ⟨({ port := .host, tag := 5, le := 0, output := true, signal := 0, amp := 1, f0 := 1, f1 := 1, settle := 0, decim := 1, chans := [], stopOnFe := false } : Folly), ((live).onLoop fun l => { l with folly := some { port := .host, tag := 5, le := 0, output := true, signal := 0, amp := 1, f0 := 1, f1 := 1, settle := 0, decim := 1, chans := [], stopOnFe := false } }), ?_⟩; exact ⟨by decide +kernel, by decide +kernel⟩)⟩

/-- States that meet the hypotheses of ProfileChannelsMoveHomeAndRest, clause by clause. -/
theorem witness_profile_channels_move_home_and_rest :
    (∃ (p : Port) (c : Cmd) (i : Fin 16) (s : State) (ws : List Word), Heard p c s ∧ c.op = .profMove ∧ ws = expertWords .profMove c.expert c.words ∧ fld (wd c.words 0) 3 0 = i.val ∧ pcSet s i.val = true ∧ profBound s i.val = false ∧ (s.loop.pc[i]).req = none) ∧
    (∃ (p : Port) (c : Cmd) (i : Fin 16) (r : MoveReq) (q : Port) (tag : Nat) (s : State) (ws : List Word), Heard p c s ∧ c.op = .profMove ∧ ws = expertWords .profMove c.expert c.words ∧ fld (wd c.words 0) 3 0 = i.val ∧ pcSet s i.val = true ∧ profBound s i.val = false ∧ (s.loop.pc[i]).req = some r ∧ r.cmd = some (q, tag) ∧ (q, tag) ≠ (p, c.tag) ∧ Waits q tag .profMove s) ∧
    (∃ (p : Port) (c : Cmd) (i : Fin 16) (s : State) (ws : List Word), Heard p c s ∧ c.op = .profMove ∧ ws = expertWords .profMove c.expert c.words ∧ fld (wd c.words 0) 3 0 = i.val ∧ pcSet s i.val = false) ∧
    (∃ (p : Port) (c : Cmd) (i : Fin 16) (s : State) (ws : List Word), Heard p c s ∧ c.op = .profMove ∧ ws = expertWords .profMove c.expert c.words ∧ fld (wd c.words 0) 3 0 = i.val ∧ pcSet s i.val = true ∧ profBound s i.val = true) ∧
    (∃ (p : Port) (c : Cmd) (i : Fin 16) (s : State) (ws : List Word), Heard p c s ∧ c.op = .profHome ∧ ws = expertWords .profHome c.expert c.words ∧ fld (wd c.words 0) 3 0 = i.val ∧ pcSet s i.val = true ∧ profBound s i.val = false ∧ (wd ws 1).toNat ≤ (pcW s i.val 1).toNat ∧ ((fld (wd ws 0) 10 9 = 0 → pcFb s i.val ≠ 0xFF)) ∧ ((fld (wd ws 0) 10 9 = 1 → fld (wd ws 5) 7 0 ≠ 0xFF)) ∧ (s.loop.pc[i]).home = none ∧ (s.loop.pc[i]).req = none) ∧
    (∃ (p : Port) (c : Cmd) (i : Fin 16) (s : State) (ws : List Word), Heard p c s ∧ c.op = .profHome ∧ ws = expertWords .profHome c.expert c.words ∧ fld (wd c.words 0) 3 0 = i.val ∧ pcSet s i.val = true ∧ profBound s i.val = false ∧ (wd ws 1).toNat ≤ (pcW s i.val 1).toNat ∧ ((fld (wd ws 0) 10 9 = 0 ∧ pcFb s i.val = 0xFF) ∨ (fld (wd ws 0) 10 9 = 1 ∧ fld (wd ws 5) 7 0 = 0xFF))) ∧
    (∃ (p : Port) (c : Cmd) (i : Fin 16) (s : State) (ws : List Word), Heard p c s ∧ c.op = .profHome ∧ ws = expertWords .profHome c.expert c.words ∧ fld (wd c.words 0) 3 0 = i.val ∧ pcSet s i.val = true ∧ profBound s i.val = true ∧ (wd ws 1).toNat ≤ (pcW s i.val 1).toNat) ∧
    (∃ (i : Fin 16) (a : Axis) (s : State), pcSet s i.val = true ∧ s.sys.dom[1] = .on ∧ (s.loop.pc[i]).req = none ∧ (s.loop.pc[i]).home = none ∧ (s.loop.pc[i]).holdUntil = none ∧ (s.loop.pc[i]).moving = true ∧ (s.loop.pc[i]).velMode = false ∧ runFor 10000 (s.loop.pc[i]).plan (axisOf s.loop.pc[i]) = (a, [])) ∧
    (∃ (i : Fin 16) (a : Axis) (x : Nat × Int) (rest : List (Nat × Int)) (s : State), pcSet s i.val = true ∧ s.sys.dom[1] = .on ∧ (s.loop.pc[i]).req = none ∧ (s.loop.pc[i]).home = none ∧ (s.loop.pc[i]).holdUntil = none ∧ (s.loop.pc[i]).moving = true ∧ runFor 10000 (s.loop.pc[i]).plan (axisOf s.loop.pc[i]) = (a, x :: rest)) ∧
    (∃ (i : Fin 16) (t0 : Nat) (s : State), (s.loop.pc[i]).peSince = some t0 ∧ (s.loop.pc[i]).peRaised = false) ∧
    (∃ (i : Fin 16) (s : State), (s.loop.pc[i]).peRaised = true) ∧
    (∃ (i : Fin 16) (d : Fin 16) (t0 : Nat) (s : State), (s.loop.pc[i]).restSince = some t0 ∧ (s.loop.pc[i]).reduce = false ∧ pcReduce s i.val = d.val) ∧
    (∃ (i : Fin 16) (t0 : Nat) (s : State), (s.loop.pc[i]).holdUntil = some t0) ∧
    (∃ (i : Fin 16) (h : Homing) (t0 : Nat) (s : State), (s.loop.pc[i]).home = some h ∧ h.stallSince = some t0 ∧ h.stalled = false ∧ h.failing = false ∧ ((s.loop.pc[i]).req.bind fun r => r.cmd) = none) ∧
    (∃ (i : Fin 16) (h : Homing) (t0 : Nat) (r : MoveReq) (s : State), (s.loop.pc[i]).home = some h ∧ h.stallSince = some t0 ∧ h.stalled = false ∧ h.failing = false ∧ (s.loop.pc[i]).req = some r ∧ r.cmd ≠ none) ∧
    (∃ (p : Port) (c : Cmd) (i : Fin 16) (r : MoveReq) (q : Port) (tag : Nat) (s : State) (ws : List Word), Heard p c s ∧ c.op = .profHome ∧ ws = expertWords .profHome c.expert c.words ∧ fld (wd c.words 0) 3 0 = i.val ∧ pcSet s i.val = true ∧ profBound s i.val = false ∧ (wd ws 1).toNat ≤ (pcW s i.val 1).toNat ∧ ((fld (wd ws 0) 10 9 = 0 → pcFb s i.val ≠ 0xFF)) ∧ ((fld (wd ws 0) 10 9 = 1 → fld (wd ws 5) 7 0 ≠ 0xFF)) ∧ (s.loop.pc[i]).home = none ∧ (s.loop.pc[i]).req = some r ∧ r.cmd = some (q, tag) ∧ (q, tag) ≠ (p, c.tag) ∧ Waits q tag .profMove s) ∧
    (∃ (p : Port) (c : Cmd) (i : Fin 16) (h : Homing) (s : State) (ws : List Word), Heard p c s ∧ c.op = .profHome ∧ ws = expertWords .profHome c.expert c.words ∧ fld (wd c.words 0) 3 0 = i.val ∧ pcSet s i.val = true ∧ profBound s i.val = false ∧ (wd ws 1).toNat ≤ (pcW s i.val 1).toNat ∧ ((fld (wd ws 0) 10 9 = 0 → pcFb s i.val ≠ 0xFF)) ∧ ((fld (wd ws 0) 10 9 = 1 → fld (wd ws 5) 7 0 ≠ 0xFF)) ∧ (s.loop.pc[i]).home = some h ∧ h.aborted = false ∧ h.stalled = false ∧ (h.port, h.tag) ≠ (p, c.tag) ∧ Waits h.port h.tag .profHome s ∧ (s.loop.pc[i]).req = none) :=
  ⟨(by refine ⟨(.host : Port), (cmd .profMove [0, 5, 1] true), (0 : Fin 16), (asked (.host : Port) (cmd .profMove [0, 5, 1] true) (setCfg [(.profConfig, 0, [0xFF000000, 100, 100, 100, 0, 0, 0, 0])] (live))), (expertWords .profMove (cmd .profMove [0, 5, 1] true).expert (cmd .profMove [0, 5, 1] true).words : List Word), ?_⟩; exact ⟨heard_of (by decide +kernel), by decide +kernel, rfl, by decide +kernel, by decide +kernel, by decide +kernel, by decide +kernel⟩),
   (by refine ⟨(.host : Port), (cmd .profMove [0, 5, 1] true), (0 : Fin 16), ({ vel := false, target := 0, cmd := some (.host, 5) } : MoveReq), (.host : Port), (5 : Nat), (asked (.host : Port) (cmd .profMove [0, 5, 1] true) ((waiting .host 5 .profMove (setCfg [(.profConfig, 0, [0xFF000000, 100, 100, 100, 0, 0, 0, 0])] (live))).onLoop fun l => { l with pc := put l.pc 0 { req := some { vel := false, target := 0, cmd := some (.host, 5) } } })), (expertWords .profMove (cmd .profMove [0, 5, 1] true).expert (cmd .profMove [0, 5, 1] true).words : List Word), ?_⟩; exact ⟨heard_of (by decide +kernel), by decide +kernel, rfl, by decide +kernel, by decide +kernel, by decide +kernel, by decide +kernel, by decide +kernel, by decide +kernel, waits_of (by decide +kernel)⟩),
   (by refine ⟨(.host : Port), (cmd .profMove []), (0 : Fin 16), (asked (.host : Port) (cmd .profMove []) (live)), (expertWords .profMove (cmd .profMove []).expert (cmd .profMove []).words : List Word), ?_⟩; exact ⟨heard_of (by decide +kernel), by decide +kernel, rfl, by decide +kernel, by decide +kernel⟩),
   (by refine ⟨(.host : Port), (cmd .profMove [0, 5, 1] true), (0 : Fin 16), (asked (.host : Port) (cmd .profMove [0, 5, 1] true) (setCfg [(.profConfig, 0, [0xFF000000, 100, 100, 100, 0, 0, 0, 0]), (.loopThrusterBind, 0, [0x40FF0000, 0xFFFFFF07, 0, 0, 1])] (inMode .control live))), (expertWords .profMove (cmd .profMove [0, 5, 1] true).expert (cmd .profMove [0, 5, 1] true).words : List Word), ?_⟩; exact ⟨heard_of (by decide +kernel), by decide +kernel, rfl, by decide +kernel, by decide +kernel, by decide +kernel⟩),
   (by refine ⟨(.host : Port), (cmd .profHome [0x400, 1, 0, 0, 0, 0x000100FF, 0, 1] true), (0 : Fin 16), (asked (.host : Port) (cmd .profHome [0x400, 1, 0, 0, 0, 0x000100FF, 0, 1] true) (setCfg [(.profConfig, 0, [0xFF000000, 100, 100, 100, 0, 0, 0, 0])] (live))), (expertWords .profHome (cmd .profHome [0x400, 1, 0, 0, 0, 0x000100FF, 0, 1] true).expert (cmd .profHome [0x400, 1, 0, 0, 0, 0x000100FF, 0, 1] true).words : List Word), ?_⟩; exact ⟨heard_of (by decide +kernel), by decide +kernel, rfl, by decide +kernel, by decide +kernel, by decide +kernel, by decide +kernel, by decide +kernel, by decide +kernel, by decide +kernel, by decide +kernel⟩),
   (by refine ⟨(.host : Port), (cmd .profHome [0, 1, 0, 0, 0, 0x000100FF, 0, 1] true), (0 : Fin 16), (asked (.host : Port) (cmd .profHome [0, 1, 0, 0, 0, 0x000100FF, 0, 1] true) (setCfg [(.profConfig, 0, [0xFF000000, 100, 100, 100, 0, 0, 0, 0])] (live))), (expertWords .profHome (cmd .profHome [0, 1, 0, 0, 0, 0x000100FF, 0, 1] true).expert (cmd .profHome [0, 1, 0, 0, 0, 0x000100FF, 0, 1] true).words : List Word), ?_⟩; exact ⟨heard_of (by decide +kernel), by decide +kernel, rfl, by decide +kernel, by decide +kernel, by decide +kernel, by decide +kernel, by decide +kernel⟩),
   (by refine ⟨(.host : Port), (cmd .profHome [0x400, 1, 0, 0, 0, 0x000100FF, 0, 1] true), (0 : Fin 16), (asked (.host : Port) (cmd .profHome [0x400, 1, 0, 0, 0, 0x000100FF, 0, 1] true) (setCfg [(.profConfig, 0, [0xFF000000, 100, 100, 100, 0, 0, 0, 0]), (.loopThrusterBind, 0, [0x40FF0000, 0xFFFFFF07, 0, 0, 1])] (inMode .control live))), (expertWords .profHome (cmd .profHome [0x400, 1, 0, 0, 0, 0x000100FF, 0, 1] true).expert (cmd .profHome [0x400, 1, 0, 0, 0, 0x000100FF, 0, 1] true).words : List Word), ?_⟩; exact ⟨heard_of (by decide +kernel), by decide +kernel, rfl, by decide +kernel, by decide +kernel, by decide +kernel, by decide +kernel⟩),
   (by refine ⟨(0 : Fin 16), ((runFor 10000 ([] : Plan) {}).1 : Axis), ((setCfg [(.profConfig, 0, [0xFF000000, 100, 100, 100, 0, 0, 0, 0])] (live)).onLoop fun l => { l with pc := put l.pc 0 { moving := true } }), ?_⟩; exact ⟨by decide +kernel, by decide +kernel, by decide +kernel, by decide +kernel, by decide +kernel, by decide +kernel, by decide +kernel, by decide +kernel⟩),
   (by refine ⟨(0 : Fin 16), ({ x := 0, v := 0, a := 0 } : Axis), ((10000, 0) : Nat × Int), ([] : List (Nat × Int)), ((setCfg [(.profConfig, 0, [0xFF000000, 100, 100, 100, 0, 0, 0, 0])] (live)).onLoop fun l => { l with pc := put l.pc 0 { moving := true, plan := [(20000, 0)] } }), ?_⟩; exact ⟨by decide +kernel, by decide +kernel, by decide +kernel, by decide +kernel, by decide +kernel, by decide +kernel, by decide +kernel⟩),
   (by refine ⟨(0 : Fin 16), (0 : Nat), ((setCfg [(.profConfig, 0, [0xFF000000, 100, 100, 100, 0, 0, 0, 0])] (live)).onLoop fun l => { l with pc := put l.pc 0 { peSince := some 0 } }), ?_⟩; exact ⟨by decide +kernel, by decide +kernel⟩),
   (by refine ⟨(0 : Fin 16), ((setCfg [(.profConfig, 0, [0xFF000000, 100, 100, 100, 0, 0, 0, 0])] (live)).onLoop fun l => { l with pc := put l.pc 0 { peRaised := true } }), ?_⟩; exact by decide +kernel),
   (by refine ⟨(0 : Fin 16), (0 : Fin 16), (0 : Nat), ((setCfg [(.profConfig, 0, [0xFF000000, 100, 100, 100, 0, 0, 0, 0])] (live)).onLoop fun l => { l with pc := put l.pc 0 { restSince := some 0 } }), ?_⟩; exact ⟨by decide +kernel, by decide +kernel, by decide +kernel⟩),
   (by refine ⟨(0 : Fin 16), (0 : Nat), ((setCfg [(.profConfig, 0, [0xFF000000, 100, 100, 100, 0, 0, 0, 0])] (live)).onLoop fun l => { l with pc := put l.pc 0 { holdUntil := some 0 } }), ?_⟩; exact by decide +kernel),
   (by refine ⟨(0 : Fin 16), ({ port := .host, tag := 5, words := [], stallSince := some 0 } : Homing), (0 : Nat), ((setCfg [(.profConfig, 0, [0xFF000000, 100, 100, 100, 0, 0, 0, 0])] (live)).onLoop fun l => { l with pc := put l.pc 0 { home := some { port := .host, tag := 5, words := [], stallSince := some 0 } } }), ?_⟩; exact ⟨by decide +kernel, by decide +kernel, by decide +kernel, by decide +kernel, by decide +kernel⟩),
   (by refine ⟨(0 : Fin 16), ({ port := .host, tag := 5, words := [], stallSince := some 0 } : Homing), (0 : Nat), ({ vel := false, target := 0, cmd := some (.host, 5) } : MoveReq), ((setCfg [(.profConfig, 0, [0xFF000000, 100, 100, 100, 0, 0, 0, 0])] (live)).onLoop fun l => { l with pc := put l.pc 0 { home := some { port := .host, tag := 5, words := [], stallSince := some 0 }, req := some { vel := false, target := 0, cmd := some (.host, 5) } } }), ?_⟩; exact ⟨by decide +kernel, by decide +kernel, by decide +kernel, by decide +kernel, by decide +kernel, by decide +kernel⟩),
   (by refine ⟨(.host : Port), (cmd .profHome [0x400, 1, 0, 0, 0, 0x000100FF, 0, 1] true), (0 : Fin 16), ({ vel := false, target := 0, cmd := some (.host, 5) } : MoveReq), (.host : Port), (5 : Nat), (asked (.host : Port) (cmd .profHome [0x400, 1, 0, 0, 0, 0x000100FF, 0, 1] true) ((waiting .host 5 .profMove (setCfg [(.profConfig, 0, [0xFF000000, 100, 100, 100, 0, 0, 0, 0])] (live))).onLoop fun l => { l with pc := put l.pc 0 { req := some { vel := false, target := 0, cmd := some (.host, 5) } } })), (expertWords .profHome (cmd .profHome [0x400, 1, 0, 0, 0, 0x000100FF, 0, 1] true).expert (cmd .profHome [0x400, 1, 0, 0, 0, 0x000100FF, 0, 1] true).words : List Word), ?_⟩; exact ⟨heard_of (by decide +kernel), by decide +kernel, rfl, by decide +kernel, by decide +kernel, by decide +kernel, by decide +kernel, by decide +kernel, by decide +kernel, by decide +kernel, by decide +kernel, by decide +kernel, by decide +kernel, waits_of (by decide +kernel)⟩),
   (by refine ⟨(.host : Port), (cmd .profHome [0x400, 1, 0, 0, 0, 0x000100FF, 0, 1] true), (0 : Fin 16), ({ port := .host, tag := 5, words := [] } : Homing), (asked (.host : Port) (cmd .profHome [0x400, 1, 0, 0, 0, 0x000100FF, 0, 1] true) ((waiting .host 5 .profHome (setCfg [(.profConfig, 0, [0xFF000000, 100, 100, 100, 0, 0, 0, 0])] (live))).onLoop fun l => { l with pc := put l.pc 0 { home := some { port := .host, tag := 5, words := [] } } })), (expertWords .profHome (cmd .profHome [0x400, 1, 0, 0, 0, 0x000100FF, 0, 1] true).expert (cmd .profHome [0x400, 1, 0, 0, 0, 0x000100FF, 0, 1] true).words : List Word), ?_⟩; exact ⟨heard_of (by decide +kernel), by decide +kernel, rfl, by decide +kernel, by decide +kernel, by decide +kernel, by decide +kernel, by decide +kernel, by decide +kernel, by decide +kernel, by decide +kernel, by decide +kernel, by decide +kernel, waits_of (by decide +kernel), by decide +kernel⟩)⟩

/-- States that meet the hypotheses of PositioningTakesCommandsAndControlsOncePerFrame, clause by clause. -/
theorem witness_positioning_takes_commands_and_controls_once_per_frame :
    (∃ (p : Port) (c : Cmd) (s : State), Heard p c s ∧ c.op = .dpcSetFunction ∧ fnEstimate s (fld (wd c.words 0) 2 0) = true ∧ ((fld (wd c.words 0) 2 0 = 4 → s.dpc.track ≠ []))) ∧
    (∃ (p : Port) (c : Cmd) (s : State), Heard p c s ∧ c.op = .dpcSetFunction ∧ fnEstimate s (fld (wd c.words 0) 2 0) = false) ∧
    (∃ (p : Port) (c : Cmd) (s : State), Heard p c s ∧ c.op = .dpcSetFunction ∧ fld (wd c.words 0) 2 0 = 4 ∧ fnEstimate s 4 = true ∧ s.dpc.track = []) ∧
    (∃ (p : Port) (c : Cmd) (s : State), Heard p c s ∧ c.op = .dpcSetTarget ∧ targetRefusal s (expertWords .dpcSetTarget c.expert c.words) = none) ∧
    (∃ (p : Port) (c : Cmd) (st : Nat) (detail : Nat) (s : State), Heard p c s ∧ c.op = .dpcSetTarget ∧ targetRefusal s (expertWords .dpcSetTarget c.expert c.words) = some (st, detail)) ∧
    (∃ (p : Port) (c : Cmd) (s : State), Heard p c s ∧ c.op = .dpcJoystick) ∧
    (∃ (p : Port) (c : Cmd) (s : State), Heard p c s ∧ c.op = .dpcTrackControl ∧ fld (wd c.words 0) 1 0 ≠ 3 ∧ s.sys.mode = .control ∧ s.dpc.fn = 4 ∧ ((fld (wd c.words 0) 1 0 = 2 → fld (wd c.words 0) 15 8 < trkN s.dpc))) ∧
    (∃ (p : Port) (c : Cmd) (s : State), Heard p c s ∧ c.op = .dpcTrackControl ∧ fld (wd c.words 0) 1 0 ≠ 3 ∧ s.sys.mode = .control ∧ s.dpc.fn ≠ 4) ∧
    (∃ (s : State), s.dpc.ran = some s.sys.frame) ∧
    (∃ (s : State), (s.sys.mode = .control ∨ s.sys.mode = .standby) ∧ s.dpc.ran ≠ some s.sys.frame ∧ s.dpc.action = none ∧ s.dpc.targets = [] ∧ s.dpc.fn = 0) ∧
    (∃ (s : State), (s.sys.mode = .control ∨ s.sys.mode = .standby) ∧ s.dpc.ran ≠ some s.sys.frame ∧ s.dpc.action = none ∧ s.dpc.targets = [] ∧ s.dpc.fn = 3 ∧ s.fus.mode = 3) ∧
    (∃ (s : State), (s.sys.mode = .control ∨ s.sys.mode = .standby) ∧ s.dpc.ran ≠ some s.sys.frame ∧ s.dpc.action = none ∧ s.dpc.targets = [] ∧ s.dpc.fn = 1 ∧ bit (joyW s 0) 0 = false ∧ s.dpc.joyNext = none ∧ bit (joyW s 4) 0 = false) ∧
    (∃ (x : List Int) (b : Nat) (s : State), s.dpc.mpcReady = some x ∧ s.dpc.mpcSub = some b ∧ s.time.mt ≤ b + 10 * frameTicks ∧ s.dpc.mpcFell = false) ∧
    (∃ (x : List Int) (b : Nat) (s : State), s.dpc.mpcReady = some x ∧ s.dpc.mpcSub = some b ∧ s.time.mt ≤ b + 10 * frameTicks ∧ s.dpc.mpcFell = true ∧ s.dpc.mpcRun = 2 ∧ s.hp.ready = true) ∧
    (∃ (s : State), s.dpc.mpcReady = none) ∧
    (∃ (b : Nat) (s : State), s.dpc.mpcSub = some b ∧ s.dpc.mpcOn = true ∧ s.hp.ready = true) ∧
    (∃ (s : State), bit (joyW s 0) 0 = false ∧ s.dpc.joyLost = false ∧ s.dpc.fn = 1 ∧ s.hp.ready = true) ∧
    (∃ (s : State), s.dpc.reachDone = false ∧ 100 ≤ s.dpc.reached ∧ s.hp.ready = true) ∧
    (∃ (s : State), (s.dpc.reachDone = true ∨ s.dpc.reached < 100)) ∧
    (∃ (heading : Bool) (h : Fin 2) (s : State), h.val = b2n heading ∧ s.dpc.excOn[h] = false ∧ 10 ≤ s.dpc.excRun[h] ∧ s.hp.ready = true) ∧
    (∃ (heading : Bool) (h : Fin 2) (s : State), h.val = b2n heading ∧ s.dpc.excOn[h] = true ∧ 100 ≤ s.dpc.excLow[h] ∧ s.hp.ready = true) ∧
    (∃ (data : List Byte) (b : Fin 6) (s : State), pmsPort s = b.val ∧ canActive s b = true) ∧
    (∃ (s : State), pmsPort s ≠ 7 ∧ s.dpc.pmsLost = false ∧ bit (powW s 4) 0 = false ∧ s.hp.ready = true) ∧
    (∃ (s : State), pmsPort s ≠ 7 ∧ s.dpc.pmsLost = false ∧ bit (powW s 4) 0 = true) ∧
    (∃ (s : State), (pmsPort s = 7 ∨ s.dpc.pmsLost = true)) ∧
    (∃ (data : List Byte) (s : State), ((∀ b : Fin 6, pmsPort s = b.val → canActive s b = false))) :=
  ⟨(by refine ⟨(.host : Port), (cmd .dpcSetFunction []), (asked (.host : Port) (cmd .dpcSetFunction []) (live)), ?_⟩; exact ⟨heard_of (by decide +kernel), by decide +kernel, by decide +kernel, by decide +kernel⟩),
   (by refine ⟨(.host : Port), (cmd .dpcSetFunction [2]), (asked (.host : Port) (cmd .dpcSetFunction [2]) (live)), ?_⟩; exact ⟨heard_of (by decide +kernel), by decide +kernel, by decide +kernel⟩),
   (by refine ⟨(.host : Port), (cmd .dpcSetFunction [4]), (asked (.host : Port) (cmd .dpcSetFunction [4]) ({ live with fus := { mode := 1 } })), ?_⟩; exact ⟨heard_of (by decide +kernel), by decide +kernel, by decide +kernel, by decide +kernel, by decide +kernel⟩),
   (by refine ⟨(.host : Port), (cmd .dpcSetTarget []), (asked (.host : Port) (cmd .dpcSetTarget []) (live)), ?_⟩; exact ⟨heard_of (by decide +kernel), by decide +kernel, by decide +kernel⟩),
   (by refine ⟨(.host : Port), (cmd .dpcSetTarget [1, 0, 0, 0, 0x0100] true), (0x5013 : Nat), (1 : Nat), (asked (.host : Port) (cmd .dpcSetTarget [1, 0, 0, 0, 0x0100] true) (live)), ?_⟩; exact ⟨heard_of (by decide +kernel), by decide +kernel, by decide +kernel⟩),
   (by refine ⟨(.host : Port), (cmd .dpcJoystick []), (asked (.host : Port) (cmd .dpcJoystick []) (live)), ?_⟩; exact ⟨heard_of (by decide +kernel), by decide +kernel⟩),
   (by refine ⟨(.host : Port), (cmd .dpcTrackControl [0]), (asked (.host : Port) (cmd .dpcTrackControl [0]) ({ inMode .control live with dpc := { fn := 4 } })), ?_⟩; exact ⟨heard_of (by decide +kernel), by decide +kernel, by decide +kernel, by decide +kernel, by decide +kernel, by decide +kernel⟩),
   (by refine ⟨(.host : Port), (cmd .dpcTrackControl [0]), (asked (.host : Port) (cmd .dpcTrackControl [0]) (inMode .control live)), ?_⟩; exact ⟨heard_of (by decide +kernel), by decide +kernel, by decide +kernel, by decide +kernel, by decide +kernel⟩),
   (by refine ⟨({ live with dpc := { ran := some 0 } }), ?_⟩; exact by decide +kernel),
   (by refine ⟨(live), ?_⟩; exact ⟨by decide +kernel, by decide +kernel, by decide +kernel, by decide +kernel, by decide +kernel⟩),
   (by refine ⟨({ { inMode .control live with dpc := { fn := 3 } } with fus := { mode := 3 } }), ?_⟩; exact ⟨by decide +kernel, by decide +kernel, by decide +kernel, by decide +kernel, by decide +kernel, by decide +kernel⟩),
   (by refine ⟨({ setCfg [(.dpcJoystickConfig, 0, [0, 0, 0, 0, 0])] live with dpc := { fn := 1 } }), ?_⟩; exact ⟨by decide +kernel, by decide +kernel, by decide +kernel, by decide +kernel, by decide +kernel, by decide +kernel, by decide +kernel, by decide +kernel⟩),
   (by refine ⟨([1, 2] : List Int), (0 : Nat), ({ live with dpc := { mpcReady := some [1, 2], mpcSub := some 0 } }), ?_⟩; exact ⟨by decide +kernel, by decide +kernel, by decide +kernel, by decide +kernel⟩),
   (by refine ⟨([1, 2] : List Int), (0 : Nat), ({ live with dpc := { mpcReady := some [1, 2], mpcSub := some 0, mpcFell := true, mpcRun := 2 } }), ?_⟩; exact ⟨by decide +kernel, by decide +kernel, by decide +kernel, by decide +kernel, by decide +kernel, by decide +kernel⟩),
   (by refine ⟨(live), ?_⟩; exact by decide +kernel),
   (by refine ⟨(0 : Nat), ({ live with dpc := { mpcOn := true, mpcSub := some 0 } }), ?_⟩; exact ⟨by decide +kernel, by decide +kernel, by decide +kernel⟩),
   (by refine ⟨({ live with dpc := { fn := 1 } }), ?_⟩; exact ⟨by decide +kernel, by decide +kernel, by decide +kernel, by decide +kernel⟩),
   (by refine ⟨({ live with dpc := { reachDone := false, reached := 100 } }), ?_⟩; exact ⟨by decide +kernel, by decide +kernel, by decide +kernel⟩),
   (by refine ⟨(live), ?_⟩; exact by decide +kernel),
   (by refine ⟨(false : Bool), (0 : Fin 2), ({ live with dpc := { excRun := Vector.replicate 2 10 } }), ?_⟩; exact ⟨by decide +kernel, by decide +kernel, by decide +kernel, by decide +kernel⟩),
   (by refine ⟨(false : Bool), (0 : Fin 2), ({ live with dpc := { excOn := Vector.replicate 2 true, excLow := Vector.replicate 2 100 } }), ?_⟩; exact ⟨by decide +kernel, by decide +kernel, by decide +kernel, by decide +kernel⟩),
   (by refine ⟨([1, 2] : List Byte), (0 : Fin 6), (setCfg [(.dpcPowerConfig, 0, [0]), (.busCanConfig, 0, [0x100])] (live)), ?_⟩; exact ⟨by decide +kernel, by decide +kernel⟩),
   (by refine ⟨(setCfg [(.dpcPowerConfig, 0, [0])] (live)), ?_⟩; exact ⟨by decide +kernel, by decide +kernel, by decide +kernel, by decide +kernel⟩),
   (by refine ⟨(setCfg [(.dpcPowerConfig, 0, [0, 0, 0, 0, 1])] (live)), ?_⟩; exact ⟨by decide +kernel, by decide +kernel, by decide +kernel⟩),
   (by refine ⟨(live), ?_⟩; exact by decide +kernel),
   (by refine ⟨([] : List Byte), (live), ?_⟩; exact by decide +kernel)⟩

/-- States that meet the hypotheses of ThrustIsAllocatedIssuedAndSupervised, clause by clause. -/
theorem witness_thrust_is_allocated_issued_and_supervised :
    (∃ (p : Port) (c : Cmd) (n : Fin 16) (s : State), Heard p c s ∧ c.op = .allocThrusterEnable ∧ fld (wd c.words 0) 3 0 = n.val ∧ thrSet s n.val = true ∧ bit (wd c.words 0) 8 = false) ∧
    (∃ (p : Port) (c : Cmd) (n : Fin 16) (s : State), Heard p c s ∧ c.op = .allocThrusterEnable ∧ fld (wd c.words 0) 3 0 = n.val ∧ thrSet s n.val = true ∧ bit (wd c.words 0) 8 = true ∧ ((∀ k : Nat, 2 ≤ k → k ≤ 4 → bars s n k = false))) ∧
    (∃ (p : Port) (c : Cmd) (n : Fin 16) (k : Nat) (s : State), Heard p c s ∧ c.op = .allocThrusterEnable ∧ fld (wd c.words 0) 3 0 = n.val ∧ thrSet s n.val = true ∧ bit (wd c.words 0) 8 = true ∧ 2 ≤ k ∧ k ≤ 4 ∧ bars s n k = true) ∧
    (∃ (p : Port) (c : Cmd) (n : Fin 16) (s : State), Heard p c s ∧ c.op = .allocThrusterEnable ∧ fld (wd c.words 0) 3 0 = n.val ∧ thrSet s n.val = false) ∧
    (∃ (s : State), (s.sys.mode = .control ∨ s.sys.mode = .standby) ∧ s.dpc.fn ≠ 0 ∧ s.alloc.checked ≠ some s.sys.frame ∧ (s.alloc.lost = 0 ∨ s.alloc.firstFrame = true)) ∧
    (∃ (s : State), (s.sys.mode = .control ∨ s.sys.mode = .standby) ∧ s.dpc.fn ≠ 0 ∧ s.alloc.checked ≠ some s.sys.frame ∧ s.alloc.lost ≠ 0 ∧ s.alloc.firstFrame = false) ∧
    (∃ (s : State), s.alloc.checked = some s.sys.frame) ∧
    (∃ (s : State), (s.sys.mode = .control ∨ s.sys.mode = .standby) ∧ s.dpc.fn ≠ 0 ∧ s.alloc.issuedAt ≠ some s.sys.frame ∧ s.time.mt ≤ s.sys.frame * frameTicks + 950000) ∧
    (∃ (s : State), s.alloc.issuedAt = some s.sys.frame) ∧
    (∃ (s : State), (s.sys.mode = .control ∨ s.sys.mode = .standby)) ∧
    (∃ (r : CaResult) (s : State), s.alloc.ca = some r ∧ r.dir0 = false) ∧
    (∃ (r : CaResult) (s : State), s.alloc.ca = some r ∧ r.dir0 = true) ∧
    (∃ (s : State), s.alloc.slackOn = 0 ∧ maskOf (vmap s.alloc.slackRun fun n => decide (10 ≤ n)) ≠ 0 ∧ s.hp.ready = true) ∧
    (∃ (s : State), s.alloc.slackOn ≠ 0 ∧ 100 ≤ s.alloc.slackClear ∧ s.hp.ready = true) ∧
    (∃ (s : State), s.alloc.slackOn ≠ 0 ∧ s.alloc.slackClear < 100) ∧
    (∃ (n : Fin 16) (s : State), thrConfigured s n.val = true ∧ (s.alloc.thr[n]).notReady = true) ∧
    (∃ (n : Fin 16) (s : State), thrConfigured s n.val = true ∧ bound s n.val = true ∧ ((fbSrcs s n.val).any fun c => c != 0xFF) = true ∧ fbNow s n.val = false) ∧
    (∃ (n : Fin 16) (s : State), thrConfigured s n.val = false) ∧
    (∃ (n : Fin 16) (s : State), autoReturn s = true ∧ (s.alloc.thr[n]).notReady = false) ∧
    (∃ (n : Fin 16) (s : State), autoReturn s = false) :=
  ⟨(by refine ⟨(.host : Port), (cmd .allocThrusterEnable []), (0 : Fin 16), (asked (.host : Port) (cmd .allocThrusterEnable []) (setCfg [(.allocThrusterConfig, 0, [1, 0, 0, 1000, 1000, 0, 0, 11930465, 0, 0x000A000A, 0, 0, 0, 0, 0, 0])] (live))), ?_⟩; exact ⟨heard_of (by decide +kernel), by decide +kernel, by decide +kernel, by decide +kernel, by decide +kernel⟩),
   (by refine ⟨(.host : Port), (cmd .allocThrusterEnable [0x100]), (0 : Fin 16), (asked (.host : Port) (cmd .allocThrusterEnable [0x100]) (setCfg [(.allocThrusterConfig, 0, [1, 0, 0, 1000, 1000, 0, 0, 11930465, 0, 0x000A000A, 0, 0, 0, 0, 0, 0])] (live))), ?_⟩; exact ⟨heard_of (by decide +kernel), by decide +kernel, by decide +kernel, by decide +kernel, by decide +kernel, by decide +kernel⟩),
   (by refine ⟨(.host : Port), (cmd .allocThrusterEnable [0x100]), (0 : Fin 16), (2 : Nat), (asked (.host : Port) (cmd .allocThrusterEnable [0x100]) ((setCfg [(.allocThrusterConfig, 0, [1, 0, 0, 1000, 1000, 0, 0, 11930465, 0, 0x000A000A, 0, 0, 0, 0, 0, 0])] (live)).onAlloc fun a => { a with thr := put a.thr 0 { causes := 4, notReady := true } })), ?_⟩; exact ⟨heard_of (by decide +kernel), by decide +kernel, by decide +kernel, by decide +kernel, by decide +kernel, by decide +kernel, by decide +kernel, by decide +kernel⟩),
   (by refine ⟨(.host : Port), (cmd .allocThrusterEnable []), (0 : Fin 16), (asked (.host : Port) (cmd .allocThrusterEnable []) (live)), ?_⟩; exact ⟨heard_of (by decide +kernel), by decide +kernel, by decide +kernel, by decide +kernel⟩),
   (by refine ⟨({ live with dpc := { fn := 1 } }), ?_⟩; exact ⟨by decide +kernel, by decide +kernel, by decide +kernel, by decide +kernel⟩),
   (by refine ⟨({ { live with dpc := { fn := 1 } } with alloc := { lost := 1, firstFrame := false } }), ?_⟩; exact ⟨by decide +kernel, by decide +kernel, by decide +kernel, by decide +kernel, by decide +kernel⟩),
   (by refine ⟨({ live with alloc := { checked := some 0 } }), ?_⟩; exact by decide +kernel),
   (by refine ⟨({ live with dpc := { fn := 1 } }), ?_⟩; exact ⟨by decide +kernel, by decide +kernel, by decide +kernel, by decide +kernel⟩),
   (by refine ⟨({ live with alloc := { issuedAt := some 0 } }), ?_⟩; exact by decide +kernel),
   (by refine ⟨(live), ?_⟩; exact by decide +kernel),
   (by refine ⟨({} : CaResult), ({ live with alloc := { ca := some {} } }), ?_⟩; exact ⟨by decide +kernel, by decide +kernel⟩),
   (by refine ⟨({ dir0 := true } : CaResult), ({ live with alloc := { ca := some { dir0 := true } } }), ?_⟩; exact ⟨by decide +kernel, by decide +kernel⟩),
   (by refine ⟨({ live with alloc := { slackRun := Vector.replicate 3 10 } }), ?_⟩; exact ⟨by decide +kernel, by decide +kernel, by decide +kernel⟩),
   (by refine ⟨({ live with alloc := { slackOn := 3, slackClear := 100 } }), ?_⟩; exact ⟨by decide +kernel, by decide +kernel, by decide +kernel⟩),
   (by refine ⟨({ live with alloc := { slackOn := 3, slackClear := 10 } }), ?_⟩; exact ⟨by decide +kernel, by decide +kernel⟩),
   (by refine ⟨(0 : Fin 16), ({ setCfg [(.allocThrusterConfig, 0, [1, 0, 0, 1000, 1000, 0, 0, 11930465, 0, 0x000A000A, 0, 0, 0, 0, 0, 0]), (.loopThrusterBind, 0, [0xFFFF0000, 0xFFFFFF00, 0, 0, 0])] (live) with alloc := { thr := Vector.replicate 16 { notReady := true } } }), ?_⟩; exact ⟨by decide +kernel, by decide +kernel⟩),
   (by refine ⟨(0 : Fin 16), (setCfg [(.allocThrusterConfig, 0, [1, 0, 0, 1000, 1000, 0, 0, 11930465, 0, 0x000A000A, 0, 0, 0, 0, 0, 0]), (.loopThrusterBind, 0, [0xFFFF0000, 0x10FFFF00, 0, 0, 0])] (live)), ?_⟩; exact ⟨by decide +kernel, by decide +kernel, by decide +kernel, by decide +kernel⟩),
   (by refine ⟨(0 : Fin 16), (live), ?_⟩; exact by decide +kernel),
   (by refine ⟨(0 : Fin 16), (setCfg [(.allocConfig, 0, [0, 0, 0x10000, 0])] live), ?_⟩; exact ⟨by decide +kernel, by decide +kernel⟩),
   (by refine ⟨(0 : Fin 16), (live), ?_⟩; exact by decide +kernel)⟩

/-- States that meet the hypotheses of SolverProblemsAreSubmittedComparedAndAnswered, clause by clause. -/
theorem witness_solver_problems_are_submitted_compared_and_answered :
    (Config.workingSet lin ≤ 224 * 1024 → (∃ (p : Port) (c : Cmd) (k : Nat) (ws : List Word) (s : State), Heard p c s ∧ c.op = .solvStructDefine ∧ 8 ≤ fld (wd c.words 0) 5 0 ∧ inFlight s (fld (wd c.words 0) 5 0) = [] ∧ (s.solv.staged.find? fun e => e.1 == fld (wd c.words 0) 5 0) = some (k, ws) ∧ structFault (parseStruct (fld (wd c.words 0) 5 0) ws) ws = none ∧ residentBut s (fld (wd c.words 0) 5 0) + (parseStruct (fld (wd c.words 0) 5 0) ws).size ≤ 1536 * 1024)) ∧
    (∃ (p : Port) (c : Cmd) (k : Nat) (r : Nat) (ws : List Word) (s : State), Heard p c s ∧ c.op = .solvStructDefine ∧ 8 ≤ fld (wd c.words 0) 5 0 ∧ inFlight s (fld (wd c.words 0) 5 0) = [] ∧ (s.solv.staged.find? fun e => e.1 == fld (wd c.words 0) 5 0) = some (k, ws) ∧ structFault (parseStruct (fld (wd c.words 0) 5 0) ws) ws = some r) ∧
    (Config.workingSet lin ≤ 224 * 1024 → (∃ (p : Port) (c : Cmd) (k : Nat) (ws : List Word) (s : State), Heard p c s ∧ c.op = .solvStructDefine ∧ 8 ≤ fld (wd c.words 0) 5 0 ∧ inFlight s (fld (wd c.words 0) 5 0) = [] ∧ (s.solv.staged.find? fun e => e.1 == fld (wd c.words 0) 5 0) = some (k, ws) ∧ structFault (parseStruct (fld (wd c.words 0) 5 0) ws) ws = none ∧ 1536 * 1024 < residentBut s (fld (wd c.words 0) 5 0) + (parseStruct (fld (wd c.words 0) 5 0) ws).size)) ∧
    (∃ (p : Port) (c : Cmd) (s : State), Heard p c s ∧ c.op = .solvStructDefine ∧ 8 ≤ fld (wd c.words 0) 5 0 ∧ inFlight s (fld (wd c.words 0) 5 0) ≠ []) ∧
    (∃ (p : Port) (c : Cmd) (s : State), Heard p c s ∧ c.op = .solvStructDefine ∧ 8 ≤ fld (wd c.words 0) 5 0 ∧ inFlight s (fld (wd c.words 0) 5 0) = [] ∧ (s.solv.staged.find? fun e => e.1 == fld (wd c.words 0) 5 0) = none) ∧
    (∃ (p : Port) (c : Cmd) (s : State), Heard p c s ∧ c.op = .solvStructDefine ∧ fld (wd c.words 0) 5 0 < 8) ∧
    (∃ (i : Install) (rest : List Install) (n : Fin 64) (s : State), s.solv.installs = i :: rest ∧ i.s.sid = n.val ∧ Waits i.port i.tag .solvStructDefine s) ∧
    (∃ (s : State), s.solv.installs = []) ∧
    (∃ (p : Port) (c : Cmd) (x : Struct) (s : State), Heard p c s ∧ c.op = .solvStructDelete ∧ 8 ≤ fld (wd c.words 0) 5 0 ∧ structOf s (fld (wd c.words 0) 5 0) = some x ∧ inFlight s (fld (wd c.words 0) 5 0) = []) ∧
    (∃ (p : Port) (c : Cmd) (x : Struct) (s : State), Heard p c s ∧ c.op = .solvStructDelete ∧ 8 ≤ fld (wd c.words 0) 5 0 ∧ structOf s (fld (wd c.words 0) 5 0) = some x ∧ inFlight s (fld (wd c.words 0) 5 0) ≠ []) ∧
    (∃ (p : Port) (c : Cmd) (x : Struct) (s : State), Heard p c s ∧ c.op = .solvUpdate ∧ 8 ≤ fld (wd c.words 0) 5 0 ∧ structOf s (fld (wd c.words 0) 5 0) = some x ∧ ((∀ i : Nat, i < (updateEntries c.words).length → entryOk x (wd c.words (1 + 3 * i)) ((updateEntries c.words).getD i ⟨9, 0, 0, 0⟩) = true)) ∧ (((versionsOf s (fld (wd c.words 0) 5 0)).contains x.version = true → (versionsOf s (fld (wd c.words 0) 5 0)).length < 4))) ∧
    (∃ (p : Port) (c : Cmd) (x : Struct) (i : Nat) (s : State), Heard p c s ∧ c.op = .solvUpdate ∧ 8 ≤ fld (wd c.words 0) 5 0 ∧ structOf s (fld (wd c.words 0) 5 0) = some x ∧ i < (updateEntries c.words).length ∧ entryOk x (wd c.words (1 + 3 * i)) ((updateEntries c.words).getD i ⟨9, 0, 0, 0⟩) = false ∧ ((∀ j : Nat, j < i → entryOk x (wd c.words (1 + 3 * j)) ((updateEntries c.words).getD j ⟨9, 0, 0, 0⟩) = true))) ∧
    (∃ (p : Port) (c : Cmd) (s : State), Heard p c s ∧ c.op = .solvUpdate ∧ fld (wd c.words 0) 5 0 < 8) ∧
    (∃ (p : Port) (c : Cmd) (x : Struct) (id : Nat) (s : State) (ws : List Word), Heard p c s ∧ c.op = .solvSubmit ∧ ws = expertWords .solvSubmit c.expert c.words ∧ 8 ≤ fld (wd c.words 0) 5 0 ∧ structOf s (fld (wd c.words 0) 5 0) = some x ∧ ((x.kind = 0 ∨ x.kind = 1 → fld (wd c.words 0) 9 8 = 0)) ∧ freeTicket s 192 255 = some id) ∧
    (∃ (p : Port) (c : Cmd) (x : Struct) (s : State), Heard p c s ∧ c.op = .solvSubmit ∧ 8 ≤ fld (wd c.words 0) 5 0 ∧ structOf s (fld (wd c.words 0) 5 0) = some x ∧ ((x.kind = 0 ∨ x.kind = 1 → fld (wd c.words 0) 9 8 = 0)) ∧ freeTicket s 192 255 = none) ∧
    (∃ (p : Port) (c : Cmd) (id : Nat) (s : State), Heard p c s ∧ c.op = .solvSubmit ∧ 8 ≤ fld (wd c.words 0) 5 0 ∧ structOf s (fld (wd c.words 0) 5 0) = none ∧ freeTicket s 192 255 = some id) ∧
    (∃ (p : Port) (c : Cmd) (s : State), Heard p c s ∧ c.op = .solvSubmit ∧ (fld (wd c.words 0) 5 0 < 8 ∨ (∃ x, structOf s (fld (wd c.words 0) 5 0) = some x ∧ x.kind ≤ 1 ∧ fld (wd c.words 0) 9 8 ≠ 0))) ∧
    (∃ (id : Nat) (ce : Nat) (err : Option CopyOut) (tk : Ticket) (k : Copy) (s : State) (o : CopyOut), ticketOf s id = some tk ∧ tk.work = .host ∧ tk.aborted = false ∧ tk.dup = false ∧ tk.copies = [k] ∧ k.dead = false ∧ k.suspended = false ∧ k.out = none ∧ o = storedOut tk err ∧ Waits tk.port tk.tag .solvSubmit s) ∧
    (∃ (id : Nat) (ce : Nat) (err : Option CopyOut) (tk : Ticket) (a : Copy) (b : Copy) (s : State), ticketOf s id = some tk ∧ tk.dup = true ∧ tk.copies = [a, b] ∧ a.dead = false ∧ a.suspended = false ∧ a.out = none ∧ b.out = none) ∧
    (∃ (id : Nat) (ce : Nat) (err : Option CopyOut) (tk : Ticket) (a : Copy) (b : Copy) (s : State) (o : CopyOut), ticketOf s id = some tk ∧ tk.work = .host ∧ tk.aborted = false ∧ tk.dup = true ∧ tk.copies = [a, b] ∧ b.dead = false ∧ b.suspended = false ∧ a.out = some o ∧ b.out = none ∧ o = storedOut tk err ∧ Waits tk.port tk.tag .solvSubmit s) ∧
    (∃ (id : Nat) (ce : Nat) (err : Option CopyOut) (tk : Ticket) (a : Copy) (b : Copy) (o' : CopyOut) (s : State), ticketOf s id = some tk ∧ tk.dup = true ∧ tk.copies = [a, b] ∧ b.dead = false ∧ b.suspended = false ∧ a.out = some o' ∧ b.out = none ∧ o' ≠ storedOut tk err ∧ s.hp.ready = true) ∧
    (∃ (id : Nat) (ce : Nat) (k : Fin 3) (err : Option CopyOut) (s : State), ticketOf s id = none) ∧
    (∃ (r : Fin 4) (id : Nat) (tk : Ticket) (k : Copy) (s : State), ticketOf s id = some tk ∧ k ∈ tk.copies ∧ k.region = r.val ∧ k.out = none ∧ k.dead = false ∧ k.suspended = false ∧ (s.solv.region[r]).st ≠ .failed) ∧
    (∃ (r : Fin 4) (id : Nat) (s : State), ticketOf s id = none) ∧
    (∃ (id : Nat) (d : Nat) (tk : Ticket) (s : State), ticketOf s id = some tk ∧ tk.deadline = some d ∧ tk.work = .host ∧ tk.aborted = false ∧ Waits tk.port tk.tag .solvSubmit s) ∧
    (∃ (id : Nat) (tk : Ticket) (k : Fin 3) (a : Copy) (cl : Nat) (s : State), ticketOf s id = some tk ∧ tk.copies[k.val]? = some a ∧ a.suspended = true ∧ a.dead = false ∧ ((tk.work = .host → (charge s).solv.reserve ≠ 0)) ∧ cl < 4 ∧ runningOn s a.region cl = []) ∧
    (∃ (id : Nat) (tk : Ticket) (k : Fin 3) (a : Copy) (s : State), ticketOf s id = some tk ∧ tk.copies[k.val]? = some a ∧ a.suspended = false) :=
  ⟨(by intro hw; refine ⟨(.host : Port), (cmd .solvStructDefine [8]), (8 : Nat), (lin : List Word), (asked (.host : Port) (cmd .solvStructDefine [8]) ({ live with solv := { staged := [(8, lin)] } })), ?_⟩; exact ⟨heard_of (by decide +kernel), by decide +kernel, by decide +kernel, by decide +kernel, by decide +kernel, lin_good hw, by decide +kernel⟩),
   (by refine ⟨(.host : Port), (cmd .solvStructDefine [8]), (8 : Nat), (1 : Nat), ([1] : List Word), (asked (.host : Port) (cmd .solvStructDefine [8]) ({ live with solv := { staged := [(8, [1])] } })), ?_⟩; exact ⟨heard_of (by decide +kernel), by decide +kernel, by decide +kernel, by decide +kernel, by decide +kernel, by decide +kernel⟩),
   (by intro hw; refine ⟨(.host : Port), (cmd .solvStructDefine [8]), (8 : Nat), (lin : List Word), (asked (.host : Port) (cmd .solvStructDefine [8]) ({ live with solv := { staged := [(8, lin)], structs := [{ sid := 9, size := 1572864 }] } })), ?_⟩; exact ⟨heard_of (by decide +kernel), by decide +kernel, by decide +kernel, by decide +kernel, by decide +kernel, lin_good hw, by decide +kernel⟩),
   (by refine ⟨(.host : Port), (cmd .solvStructDefine [8]), (asked (.host : Port) (cmd .solvStructDefine [8]) ({ live with solv := { tickets := [{ id := 192, work := .host, sid := 8, tag := 5 }] } })), ?_⟩; exact ⟨heard_of (by decide +kernel), by decide +kernel, by decide +kernel, by decide +kernel⟩),
   (by refine ⟨(.host : Port), (cmd .solvStructDefine [8]), (asked (.host : Port) (cmd .solvStructDefine [8]) (live)), ?_⟩; exact ⟨heard_of (by decide +kernel), by decide +kernel, by decide +kernel, by decide +kernel, by decide +kernel⟩),
   (by refine ⟨(.host : Port), (cmd .solvStructDefine []), (asked (.host : Port) (cmd .solvStructDefine []) (live)), ?_⟩; exact ⟨heard_of (by decide +kernel), by decide +kernel, by decide +kernel⟩),
   (by refine ⟨({ sid := 8, port := .host, tag := 5, s := { sid := 8 } } : Install), ([] : List Install), (8 : Fin 64), ({ waiting .host 5 .solvStructDefine live with solv := { installs := [{ sid := 8, port := .host, tag := 5, s := { sid := 8 } }] } }), ?_⟩; exact ⟨by decide +kernel, by decide +kernel, waits_of (by decide +kernel)⟩),
   (by refine ⟨(live), ?_⟩; exact by decide +kernel),
   (by refine ⟨(.host : Port), (cmd .solvStructDelete [8]), ({ sid := 8, n := 2 } : Struct), (asked (.host : Port) (cmd .solvStructDelete [8]) ({ live with solv := { structs := [{ sid := 8, n := 2 }] } })), ?_⟩; exact ⟨heard_of (by decide +kernel), by decide +kernel, by decide +kernel, by decide +kernel, by decide +kernel⟩),
   (by refine ⟨(.host : Port), (cmd .solvStructDelete [8]), ({ sid := 8, n := 2 } : Struct), (asked (.host : Port) (cmd .solvStructDelete [8]) ({ live with solv := { structs := [{ sid := 8, n := 2 }], tickets := [{ id := 192, work := .host, sid := 8, tag := 5 }] } })), ?_⟩; exact ⟨heard_of (by decide +kernel), by decide +kernel, by decide +kernel, by decide +kernel, by decide +kernel⟩),
   (by refine ⟨(.host : Port), (cmd .solvUpdate [0x108, 0x20000000, 5, 0]), ({ sid := 8, n := 2 } : Struct), (asked (.host : Port) (cmd .solvUpdate [0x108, 0x20000000, 5, 0]) ({ live with solv := { structs := [{ sid := 8, n := 2 }] } })), ?_⟩; exact ⟨heard_of (by decide +kernel), by decide +kernel, by decide +kernel, by decide +kernel, by decide +kernel, by decide +kernel⟩),
   (by refine ⟨(.host : Port), (cmd .solvUpdate [0x108, 0xF0000000, 5, 0]), ({ sid := 8, n := 2 } : Struct), (0 : Nat), (asked (.host : Port) (cmd .solvUpdate [0x108, 0xF0000000, 5, 0]) ({ live with solv := { structs := [{ sid := 8, n := 2 }] } })), ?_⟩; exact ⟨heard_of (by decide +kernel), by decide +kernel, by decide +kernel, by decide +kernel, by decide +kernel, by decide +kernel, by decide +kernel⟩),
   (by refine ⟨(.host : Port), (cmd .solvUpdate []), (asked (.host : Port) (cmd .solvUpdate []) (live)), ?_⟩; exact ⟨heard_of (by decide +kernel), by decide +kernel, by decide +kernel⟩),
   (by refine ⟨(.host : Port), (cmd .solvSubmit [0x8, 0x01280A32, 0, 0x60000000] true), ({ sid := 8, n := 2 } : Struct), (192 : Nat), (asked (.host : Port) (cmd .solvSubmit [0x8, 0x01280A32, 0, 0x60000000] true) ({ live with solv := { structs := [{ sid := 8, n := 2 }] } })), (expertWords .solvSubmit (cmd .solvSubmit [0x8, 0x01280A32, 0, 0x60000000] true).expert (cmd .solvSubmit [0x8, 0x01280A32, 0, 0x60000000] true).words : List Word), ?_⟩; exact ⟨heard_of (by decide +kernel), by decide +kernel, rfl, by decide +kernel, by decide +kernel, by decide +kernel, by decide +kernel⟩),
   (by refine ⟨(.host : Port), (cmd .solvSubmit [0x8, 0x01280A32, 0, 0x60000000] true), ({ sid := 8, n := 2 } : Struct), (asked (.host : Port) (cmd .solvSubmit [0x8, 0x01280A32, 0, 0x60000000] true) ({ live with solv := { structs := [{ sid := 8, n := 2 }], tickets := (List.range 64).map fun i => { id := 192 + i, work := .host } } })), ?_⟩; exact ⟨heard_of (by decide +kernel), by decide +kernel, by decide +kernel, by decide +kernel, by decide +kernel, by decide +kernel⟩),
   (by refine ⟨(.host : Port), (cmd .solvSubmit [0x8, 0x01280A32, 0, 0x60000000] true), (192 : Nat), (asked (.host : Port) (cmd .solvSubmit [0x8, 0x01280A32, 0, 0x60000000] true) (live)), ?_⟩; exact ⟨heard_of (by decide +kernel), by decide +kernel, by decide +kernel, by decide +kernel, by decide +kernel⟩),
   (by refine ⟨(.host : Port), (cmd .solvSubmit []), (asked (.host : Port) (cmd .solvSubmit []) (live)), ?_⟩; exact ⟨heard_of (by decide +kernel), by decide +kernel, by decide +kernel⟩),
   (by refine ⟨(192 : Nat), (0 : Nat), (none : Option CopyOut), ({ id := 192, work := .host, sid := 8, tag := 5, dup := false, copies := [{ region := 0, cluster := 0 }] } : Ticket), ({ region := 0, cluster := 0 } : Copy), ({ waiting .host 5 .solvSubmit live with solv := { tickets := [{ id := 192, work := .host, sid := 8, tag := 5, dup := false, copies := [{ region := 0, cluster := 0 }] }] } }), (storedOut ({ id := 192, work := .host, sid := 8, tag := 5, dup := false, copies := [{ region := 0, cluster := 0 }] } : Ticket) (none : Option CopyOut) : CopyOut), ?_⟩; exact ⟨by decide +kernel, by decide +kernel, by decide +kernel, by decide +kernel, by decide +kernel, by decide +kernel, by decide +kernel, by decide +kernel, rfl, waits_of (by decide +kernel)⟩),
   (by refine ⟨(192 : Nat), (0 : Nat), (none : Option CopyOut), ({ id := 192, work := .host, sid := 8, tag := 5, copies := [{ region := 0, cluster := 0 }, { region := 1, cluster := 0 }] } : Ticket), ({ region := 0, cluster := 0 } : Copy), ({ region := 1, cluster := 0 } : Copy), ({ live with solv := { tickets := [{ id := 192, work := .host, sid := 8, tag := 5, copies := [{ region := 0, cluster := 0 }, { region := 1, cluster := 0 }] }] } }), ?_⟩; exact ⟨by decide +kernel, by decide +kernel, by decide +kernel, by decide +kernel, by decide +kernel, by decide +kernel, by decide +kernel⟩),
   (by refine ⟨(192 : Nat), (0 : Nat), (none : Option CopyOut), ({ id := 192, work := .host, sid := 8, tag := 5, copies := [{ region := 0, cluster := 0, out := some (storedOut { id := 192, work := .host, sid := 8, tag := 5 } none) }, { region := 1, cluster := 0 }] } : Ticket), ({ region := 0, cluster := 0, out := some (storedOut { id := 192, work := .host, sid := 8, tag := 5 } none) } : Copy), ({ region := 1, cluster := 0 } : Copy), ({ waiting .host 5 .solvSubmit live with solv := { tickets := [{ id := 192, work := .host, sid := 8, tag := 5, copies := [{ region := 0, cluster := 0, out := some (storedOut { id := 192, work := .host, sid := 8, tag := 5 } none) }, { region := 1, cluster := 0 }] }] } }), (storedOut ({ id := 192, work := .host, sid := 8, tag := 5, copies := [{ region := 0, cluster := 0, out := some (storedOut { id := 192, work := .host, sid := 8, tag := 5 } none) }, { region := 1, cluster := 0 }] } : Ticket) (none : Option CopyOut) : CopyOut), ?_⟩; exact ⟨by decide +kernel, by decide +kernel, by decide +kernel, by decide +kernel, by decide +kernel, by decide +kernel, by decide +kernel, by decide +kernel, by decide +kernel, rfl, waits_of (by decide +kernel)⟩),
   (by refine ⟨(192 : Nat), (0 : Nat), (none : Option CopyOut), ({ id := 192, work := .host, sid := 8, tag := 5, copies := [{ region := 0, cluster := 0, out := some { status := 0x4016, detail := 3 } }, { region := 1, cluster := 0 }] } : Ticket), ({ region := 0, cluster := 0, out := some { status := 0x4016, detail := 3 } } : Copy), ({ region := 1, cluster := 0 } : Copy), ({ status := 0x4016, detail := 3 } : CopyOut), ({ live with solv := { tickets := [{ id := 192, work := .host, sid := 8, tag := 5, copies := [{ region := 0, cluster := 0, out := some { status := 0x4016, detail := 3 } }, { region := 1, cluster := 0 }] }] } }), ?_⟩; exact ⟨by decide +kernel, by decide +kernel, by decide +kernel, by decide +kernel, by decide +kernel, by decide +kernel, by decide +kernel, by decide +kernel, by decide +kernel⟩),
   (by refine ⟨(192 : Nat), (0 : Nat), (0 : Fin 3), (none : Option CopyOut), (live), ?_⟩; exact by decide +kernel),
   (by refine ⟨(0 : Fin 4), (192 : Nat), ({ id := 192, work := .host, sid := 8, tag := 5, copies := [{ region := 0, cluster := 0 }, { region := 1, cluster := 0 }] } : Ticket), ({ region := 0, cluster := 0 } : Copy), ({ live with solv := { tickets := [{ id := 192, work := .host, sid := 8, tag := 5, copies := [{ region := 0, cluster := 0 }, { region := 1, cluster := 0 }] }] } }), ?_⟩; exact ⟨by decide +kernel, by decide +kernel, by decide +kernel, by decide +kernel, by decide +kernel, by decide +kernel, by decide +kernel⟩),
   (by refine ⟨(0 : Fin 4), (0 : Nat), (live), ?_⟩; exact by decide +kernel),
   (by refine ⟨(192 : Nat), (5 : Nat), ({ id := 192, work := .host, sid := 8, tag := 5, deadline := some 5, copies := [{ region := 0, cluster := 0 }] } : Ticket), ({ waiting .host 5 .solvSubmit live with solv := { tickets := [{ id := 192, work := .host, sid := 8, tag := 5, deadline := some 5, copies := [{ region := 0, cluster := 0 }] }] } }), ?_⟩; exact ⟨by decide +kernel, by decide +kernel, by decide +kernel, by decide +kernel, waits_of (by decide +kernel)⟩),
   (by refine ⟨(192 : Nat), ({ id := 192, work := .host, sid := 8, tag := 5, copies := [{ region := 0, cluster := 0, suspended := true }] } : Ticket), (0 : Fin 3), ({ region := 0, cluster := 0, suspended := true } : Copy), (0 : Nat), ({ live with solv := { tickets := [{ id := 192, work := .host, sid := 8, tag := 5, copies := [{ region := 0, cluster := 0, suspended := true }] }] } }), ?_⟩; exact ⟨by decide +kernel, by decide +kernel, by decide +kernel, by decide +kernel, by decide +kernel, by decide +kernel, by decide +kernel⟩),
   (by refine ⟨(192 : Nat), ({ id := 192, work := .host, sid := 8, tag := 5, dup := false, copies := [{ region := 0, cluster := 0 }] } : Ticket), (0 : Fin 3), ({ region := 0, cluster := 0 } : Copy), ({ live with solv := { tickets := [{ id := 192, work := .host, sid := 8, tag := 5, dup := false, copies := [{ region := 0, cluster := 0 }] }] } }), ?_⟩; exact ⟨by decide +kernel, by decide +kernel, by decide +kernel⟩)⟩

/-- States that meet the hypotheses of AntennasChannelsNavigationDataAndCorrections, clause by clause. -/
theorem witness_antennas_channels_navigation_data_and_corrections :
    (∃ (a : Fin 2) (cls : Fin 4) (s : State), s.hp.ready = true ∧ antBias s a = true ∧ (s.gnss.bb[a]).ant ≠ cls.val) ∧
    (∃ (a : Fin 2) (cls : Fin 4) (s : State), (antBias s a = false ∨ (s.gnss.bb[a]).ant = cls.val)) ∧
    (∃ (a : Fin 2) (s : State), s.hp.ready = true ∧ gnssDom s a ≠ .off ∧ biasOn s a = true ∧ (s.gnss.bb[a]).ant = 2) ∧
    (∃ (a : Fin 2) (s : State), s.hp.ready = true ∧ gnssDom s a ≠ .off ∧ biasOn s a = true ∧ (s.gnss.bb[a]).ant = 2) ∧
    (∃ (b : Fin 2) (ch : Fin 32) (prn : Nat) (st : Fin 6) (s : State), bbOn s b = true ∧ st.val = ((s.gnss.bb[b]).chans[ch]).st.val + 1) ∧
    (∃ (b : Fin 2) (ch : Fin 32) (s : State), bbOn s b = true ∧ 2 ≤ ((s.gnss.bb[b]).chans[ch]).st.val) ∧
    (∃ (b : Fin 2) (ch : Fin 32) (s : State), bbOn s b = true ∧ 3 ≤ ((s.gnss.bb[b]).chans[ch]).st.val) ∧
    (∃ (b : Fin 2) (ch : Fin 32) (s : State), ((s.gnss.bb[b]).chans[ch]).st.val ≤ 1) ∧
    (∃ (b : Fin 2) (ch : Fin 32) (idx : Fin 10) (raw : BitVec 30) (s : State), bbOn s b = true ∧ ((s.gnss.bb[b]).chans[ch]).st = 5 ∧ idx.val ≠ 9) ∧
    (∃ (b : Fin 2) (ch : Fin 32) (raw : BitVec 30) (s : State), bbOn s b = true ∧ ((s.gnss.bb[b]).chans[ch]).st = 5 ∧ navParity raw ((s.gnss.bb[b]).chans[ch]).d29 ((s.gnss.bb[b]).chans[ch]).d30 = false) ∧
    (∃ (b : Fin 2) (ch : Fin 32) (raw : BitVec 30) (i : Fin 32) (k : Fin 3) (ws : List Nat) (s : State) (sf : Vector (List Nat) 3), bbOn s b = true ∧ ((s.gnss.bb[b]).chans[ch]).st = 5 ∧ ((s.gnss.bb[b]).chans[ch]).prn = i.val + 1 ∧ navParity raw ((s.gnss.bb[b]).chans[ch]).d29 ((s.gnss.bb[b]).chans[ch]).d30 = true ∧ (((s.gnss.bb[b]).chans[ch]).sub.set 9 (some (navData raw ((s.gnss.bb[b]).chans[ch]).d30).toNat)).toList = ws.map some ∧ ws.getD 1 0 / 4 % 8 = k.val + 1 ∧ sf = ((s.gnss.bb[b]).chans[ch]).sf.set k (ws.drop 2) ∧ ((∀ j : Fin 3, sf[j] ≠ [])) ∧ setGood sf[0] sf[1] sf[2] = true ∧ (s.gnss.nav[i]).excluded = false) ∧
    (∃ (u : Fin 10) (data : List Byte) (s : State), s.hp.ready = true ∧ pd4On s = true ∧ rtcmPort s = u.val ∧ uartProto s u = 3 ∧ rtcmMessage data = none) ∧
    (∃ (u : Fin 10) (data : List Byte) (m : List Byte) (s : State), s.hp.ready = true ∧ pd4On s = true ∧ rtcmPort s = u.val ∧ uartProto s u = 3 ∧ rtcmMessage data = some m ∧ ((rtcmFld m 0 12 ≠ 1004 ∧ rtcmFld m 0 12 ≠ 1005) ∨ (rtcmFld m 0 12 = 1005 ∧ rtcmFld m 30 1 = 0))) ∧
    (∃ (u : Fin 10) (data : List Byte) (m : List Byte) (s : State), s.hp.ready = true ∧ pd4On s = true ∧ rtcmPort s = u.val ∧ uartProto s u = 3 ∧ rtcmMessage data = some m ∧ rtcmFld m 0 12 = 1005 ∧ 19 ≤ m.length ∧ rtcmFld m 30 1 = 1) ∧
    (∃ (u : Fin 10) (data : List Byte) (m : List Byte) (s : State) (st : Nat) (mt : Nat), s.hp.ready = true ∧ pd4On s = true ∧ rtcmPort s = u.val ∧ uartProto s u = 3 ∧ rtcmMessage data = some m ∧ rtcmFld m 0 12 = 1004 ∧ 64 + 125 * rtcmFld m 55 5 ≤ 8 * m.length ∧ st = rtcmFld m 12 12 ∧ mt = mtOfTow (rtcmFld m 24 30) s) ∧
    (∃ (data : List Byte) (s : State), pd4On s = false) ∧
    (∃ (b : Fin 2) (noise : Int) (avg : Int) (rise : Bool) (s : State), bbOn s b = true ∧ rise = decide (avg + 10 * fld (gnssW s 1) 23 16 ≤ noise) ∧ (s.gnss.bb[b]).interf ≠ rise) ∧
    (∃ (b : Fin 2) (s : State), (s.gnss.bb[b]).out = false ∧ s.hp.ready = true) ∧
    (∃ (b : Fin 2) (s : State), (s.gnss.bb[b]).out = true) :=
  ⟨(by refine ⟨(0 : Fin 2), (3 : Fin 4), (setCfg [(.gnssConfig, 0, [0xF, 0, 0])] (live)), ?_⟩; exact ⟨by decide +kernel, by decide +kernel, by decide +kernel⟩),
   (by refine ⟨(0 : Fin 2), (0 : Fin 4), (live), ?_⟩; exact by decide +kernel),
   (by refine ⟨(0 : Fin 2), ({ setCfg [(.gnssConfig, 0, [0xF, 0, 0])] (live) with gnss := { bb := Vector.replicate 2 { ant := 2 } } }), ?_⟩; exact ⟨by decide +kernel, by decide +kernel, by decide +kernel, by decide +kernel⟩),
   (by refine ⟨(0 : Fin 2), ({ setCfg [(.gnssConfig, 0, [0xF, 0, 0])] (live) with gnss := { bb := Vector.replicate 2 { ant := 2 } } }), ?_⟩; exact ⟨by decide +kernel, by decide +kernel, by decide +kernel, by decide +kernel⟩),
   (by refine ⟨(0 : Fin 2), (0 : Fin 32), (7 : Nat), (1 : Fin 6), (setCfg [(.gnssConfig, 0, [0xF, 0, 0])] (live)), ?_⟩; exact ⟨by decide +kernel, by decide +kernel⟩),
   (by refine ⟨(0 : Fin 2), (0 : Fin 32), ({ setCfg [(.gnssConfig, 0, [0xF, 0, 0])] (live) with gnss := { bb := Vector.replicate 2 { chans := Vector.replicate 32 { prn := 7, st := 3 } }  } }), ?_⟩; exact ⟨by decide +kernel, by decide +kernel⟩),
   (by refine ⟨(0 : Fin 2), (0 : Fin 32), ({ setCfg [(.gnssConfig, 0, [0xF, 0, 0])] (live) with gnss := { bb := Vector.replicate 2 { chans := Vector.replicate 32 { prn := 7, st := 3 } }  } }), ?_⟩; exact ⟨by decide +kernel, by decide +kernel⟩),
   (by refine ⟨(0 : Fin 2), (0 : Fin 32), (live), ?_⟩; exact by decide +kernel),
   (by refine ⟨(0 : Fin 2), (0 : Fin 32), (2 : Fin 10), (0 : BitVec 30), ({ setCfg [(.gnssConfig, 0, [0xF, 0, 0])] (live) with gnss := { bb := Vector.replicate 2 { chans := Vector.replicate 32 { prn := 7, st := 5 } }  } }), ?_⟩; exact ⟨by decide +kernel, by decide +kernel, by decide +kernel⟩),
   (by refine ⟨(0 : Fin 2), (0 : Fin 32), (1 : BitVec 30), ({ setCfg [(.gnssConfig, 0, [0xF, 0, 0])] (live) with gnss := { bb := Vector.replicate 2 { chans := Vector.replicate 32 { prn := 7, st := 5 } }  } }), ?_⟩; exact ⟨by decide +kernel, by decide +kernel, by decide +kernel⟩),
   (by refine ⟨(0 : Fin 2), (0 : Fin 32), (0 : BitVec 30), (6 : Fin 32), (0 : Fin 3), ([0x8B0000, 4, 0, 0, 0, 0, 0, 0, 0, 0] : List Nat), ({ setCfg [(.gnssConfig, 0, [0xF, 0, 0])] (live) with gnss := { bb := Vector.replicate 2 { chans := Vector.replicate 32 { prn := 7, st := 5, sub := (Vector.replicate 10 (some 0)).set 0 (some 0x8B0000) |>.set 1 (some 4), sf := Vector.replicate 3 (List.replicate 8 0), d29 := false, d30 := false } }  } }), (((({ setCfg [(.gnssConfig, 0, [0xF, 0, 0])] (live) with gnss := { bb := Vector.replicate 2 { chans := Vector.replicate 32 { prn := 7, st := 5, sub := (Vector.replicate 10 (some 0)).set 0 (some 0x8B0000) |>.set 1 (some 4), sf := Vector.replicate 3 (List.replicate 8 0), d29 := false, d30 := false } }  } }).gnss.bb[(0 : Fin 2)]).chans[(0 : Fin 32)]).sf.set (0 : Fin 3) (([0x8B0000, 4, 0, 0, 0, 0, 0, 0, 0, 0] : List Nat).drop 2) : Vector (List Nat) 3), ?_⟩; exact ⟨by decide +kernel, by decide +kernel, by decide +kernel, by decide +kernel, by decide +kernel, by decide +kernel, rfl, by decide +kernel, by decide +kernel, by decide +kernel⟩),
   (by refine ⟨(0 : Fin 10), ([1, 2] : List Byte), (setCfg [(.gnssRtcmConfig, 0, [0, 0]), (.busUartConfig, 0, [0x300, 2])] (live)), ?_⟩; exact ⟨by decide +kernel, by decide +kernel, by decide +kernel, by decide +kernel, by decide +kernel⟩),
   (by refine ⟨(0 : Fin 10), (rtcm (chars [1, 2]) : List Byte), (chars [1, 2] : List Byte), (setCfg [(.gnssRtcmConfig, 0, [0, 0]), (.busUartConfig, 0, [0x300, 2])] (live)), ?_⟩; exact ⟨by decide +kernel, by decide +kernel, by decide +kernel, by decide +kernel, by decide +kernel, by decide +kernel⟩),
   (by refine ⟨(0 : Fin 10), (rtcm (beBytes 19 (bits [(12, 1005), (12, 7), (6, 0), (1, 1), (3, 0), (38, 100), (2, 0), (38, 200), (2, 0), (38, 300)])) : List Byte), (beBytes 19 (bits [(12, 1005), (12, 7), (6, 0), (1, 1), (3, 0), (38, 100), (2, 0), (38, 200), (2, 0), (38, 300)]) : List Byte), (setCfg [(.gnssRtcmConfig, 0, [0, 0]), (.busUartConfig, 0, [0x300, 2])] (live)), ?_⟩; exact ⟨by decide +kernel, by decide +kernel, by decide +kernel, by decide +kernel, by decide +kernel, by decide +kernel, by decide +kernel, by decide +kernel⟩),
   (by refine ⟨(0 : Fin 10), (rtcm (beBytes 24 (bits [(12, 1004), (12, 7), (30, 5000), (1, 0), (5, 1), (1, 0), (3, 0), (6, 4), (122, 99)])) : List Byte), (beBytes 24 (bits [(12, 1004), (12, 7), (30, 5000), (1, 0), (5, 1), (1, 0), (3, 0), (6, 4), (122, 99)]) : List Byte), (setCfg [(.gnssRtcmConfig, 0, [0, 0]), (.busUartConfig, 0, [0x300, 2])] (live)), (rtcmFld (beBytes 24 (bits [(12, 1004), (12, 7), (30, 5000), (1, 0), (5, 1), (1, 0), (3, 0), (6, 4), (122, 99)]) : List Byte) 12 12 : Nat), (mtOfTow (rtcmFld (beBytes 24 (bits [(12, 1004), (12, 7), (30, 5000), (1, 0), (5, 1), (1, 0), (3, 0), (6, 4), (122, 99)]) : List Byte) 24 30) (setCfg [(.gnssRtcmConfig, 0, [0, 0]), (.busUartConfig, 0, [0x300, 2])] (live)) : Nat), ?_⟩; exact ⟨by decide +kernel, by decide +kernel, by decide +kernel, by decide +kernel, by decide +kernel, by decide +kernel, by decide +kernel, rfl, rfl⟩),
   (by refine ⟨([] : List Byte), ({ live with sys := { live.sys with dom := Vector.replicate 12 .off } }), ?_⟩; exact by decide +kernel),
   (by refine ⟨(0 : Fin 2), (500 : Int), (0 : Int), (true : Bool), (setCfg [(.gnssConfig, 0, [0xF, 0, 0])] (live)), ?_⟩; exact ⟨by decide +kernel, by decide +kernel, by decide +kernel⟩),
   (by refine ⟨(0 : Fin 2), (live), ?_⟩; exact ⟨by decide +kernel, by decide +kernel⟩),
   (by refine ⟨(0 : Fin 2), ({ live with gnss := { bb := Vector.replicate 2 { out := true } } }), ?_⟩; exact by decide +kernel)⟩

/-- States that meet the hypotheses of GnssEpochsSolutionsAndHeading, clause by clause. -/
theorem witness_gnss_epochs_solutions_and_heading :
    (∃ (m : EpochIn) (s : State), s.hp.ready = true) ∧
    (∃ (b : Fin 2) (q : PvtIn) (s : State) (rows : List Nat), (s.gnss.bb[b]).awaiting = true ∧ s.time.mt ≤ s.gnss.epoch + 8 * msTicks ∧ rows = solutionRows b q s ∧ rows.length < 4) ∧
    (∃ (b : Fin 2) (q : PvtIn) (rows : List Nat) (s : State), (s.gnss.bb[b]).awaiting = true ∧ s.time.mt ≤ s.gnss.epoch + 8 * msTicks ∧ rows = solutionRows b q s ∧ 4 < rows.length ∧ raimLimit s rows.length < q.stat ∧ (rows.length < 6 ∨ raimLimit s (rows.length - 1) < q.stat2)) ∧
    (∃ (b : Fin 2) (q : PvtIn) (s : State) (rows : List Nat), (s.gnss.bb[b]).awaiting = true ∧ s.time.mt ≤ s.gnss.epoch + 8 * msTicks ∧ rows = solutionRows b q s ∧ (rows.length = 4 ∨ (4 < rows.length ∧ q.stat ≤ raimLimit s rows.length))) ∧
    (∃ (b : Fin 2) (q : PvtIn) (s : State) (rows : List Nat), (s.gnss.bb[b]).awaiting = true ∧ s.time.mt ≤ s.gnss.epoch + 8 * msTicks ∧ rows = solutionRows b q s ∧ 6 ≤ rows.length ∧ raimLimit s rows.length < q.stat ∧ q.stat2 ≤ raimLimit s (rows.length - 1)) ∧
    (∃ (b : Fin 2) (q : PvtIn) (s : State), (s.gnss.bb[b]).awaiting = true ∧ s.gnss.epoch + 8 * msTicks < s.time.mt) ∧
    (∃ (b : Fin 2) (q : PvtIn) (s : State), (s.gnss.bb[b]).awaiting = false) ∧
    (∃ (h : HdgIn) (s : State) (sats : List Nat), s.gnss.hdgAwaiting = true ∧ s.time.mt ≤ s.gnss.epoch + 8 * msTicks ∧ s.gnss.hdg = 1 ∧ sats = ((common s).filter fun x => x.2.1 && h.above.contains x.1).map (fun x => x.1) ∧ (sats.length < 5 ∨ h.ratio < fld (hdgW s 1) 7 0)) ∧
    (∃ (h : HdgIn) (s : State) (sats : List Nat) (n : Nat), s.gnss.hdgAwaiting = true ∧ s.time.mt ≤ s.gnss.epoch + 8 * msTicks ∧ s.gnss.hdg = 1 ∧ sats = ((common s).filter fun x => x.2.1 && h.above.contains x.1).map (fun x => x.1) ∧ 5 ≤ sats.length ∧ fld (hdgW s 1) 7 0 ≤ h.ratio ∧ (n = (if s.gnss.winSet = h.ints ∧ 0 < s.gnss.wins then s.gnss.wins + 1 else 1)) ∧ s.hp.ready = true) ∧
    (∃ (h : HdgIn) (s : State), s.gnss.hdgAwaiting = true ∧ s.time.mt ≤ s.gnss.epoch + 8 * msTicks ∧ s.gnss.hdg = 2 ∧ s.hp.ready = true ∧ (s.gnss.hdgFixed.map fun f => f.1).Nodup ∧ (common s).length < 4) ∧
    (∃ (h : HdgIn) (n : Nat) (s : State) (keep : List (Nat × Int)) (off : Nat), s.gnss.hdgAwaiting = true ∧ s.time.mt ≤ s.gnss.epoch + 8 * msTicks ∧ s.gnss.hdg = 2 ∧ ((∀ x ∈ common s, x.2.2 = false ∧ ∃ f ∈ s.gnss.hdgFixed, f.1 = x.1)) ∧ keep = (s.gnss.hdgFixed.filter fun f => (common s).any fun x => x.1 == f.1) ∧ 4 ≤ keep.length ∧ baselineOf s.cfg.force = some n ∧ off = (h.len - isqrt n) + (isqrt n - h.len) ∧ ((∀ f ∈ keep, ∀ r ∈ h.dd, r.1 = f.1 → (r.2 - f.2 * 1000).natAbs ≤ 250)) ∧ off ≤ fld (hdgW s 1) 23 16) ∧
    (∃ (h : HdgIn) (n : Nat) (s : State) (keep : List (Nat × Int)) (off : Nat), s.gnss.hdgAwaiting = true ∧ s.time.mt ≤ s.gnss.epoch + 8 * msTicks ∧ s.gnss.hdg = 2 ∧ s.hp.ready = true ∧ ((∀ x ∈ common s, x.2.2 = false ∧ ∃ f ∈ s.gnss.hdgFixed, f.1 = x.1)) ∧ keep = (s.gnss.hdgFixed.filter fun f => (common s).any fun x => x.1 == f.1) ∧ 4 ≤ keep.length ∧ baselineOf s.cfg.force = some n ∧ off = (h.len - isqrt n) + (isqrt n - h.len) ∧ ((∀ f ∈ keep, ∀ r ∈ h.dd, r.1 = f.1 → (r.2 - f.2 * 1000).natAbs ≤ 250)) ∧ s.gnss.lenTrips = 2 ∧ fld (hdgW s 1) 23 16 < off) ∧
    (∃ (h : HdgIn) (s : State), s.gnss.hdgAwaiting = false) ∧
    (∃ (b : Fin 2) (w : Fin 3) (s : State), w.val = b.val ∧ (s.gnss.bb[b]).awaiting = true) ∧
    (∃ (s : State), s.gnss.hdgAwaiting = true) ∧
    (∃ (p : Port) (c : Cmd) (s : State), Heard p c s ∧ c.op = .gnssRestart) :=
  ⟨(by refine ⟨({} : EpochIn), (live), ?_⟩; exact by decide +kernel),
   (by refine ⟨(0 : Fin 2), ({} : PvtIn), (gsix), (solutionRows (0 : Fin 2) ({} : PvtIn) (gsix) : List Nat), ?_⟩; exact ⟨by decide +kernel, by decide +kernel, rfl, by decide +kernel⟩),
   (by refine ⟨(0 : Fin 2), ({ above := [1, 2, 3, 4, 5], stat := 1000000000, stat2 := 1000000000 } : PvtIn), ([1, 2, 3, 4, 5] : List Nat), (gsix), ?_⟩; exact ⟨by decide +kernel, by decide +kernel, by decide +kernel, by decide +kernel, by decide +kernel, by decide +kernel⟩),
   (by refine ⟨(0 : Fin 2), ({ above := [1, 2, 3, 4, 5] } : PvtIn), (gsix), (solutionRows (0 : Fin 2) ({ above := [1, 2, 3, 4, 5] } : PvtIn) (gsix) : List Nat), ?_⟩; exact ⟨by decide +kernel, by decide +kernel, rfl, by decide +kernel⟩),
   (by refine ⟨(0 : Fin 2), ({ above := [1, 2, 3, 4, 5, 6], stat := 1000000000, resid := [(2, 9)] } : PvtIn), (gsix), (solutionRows (0 : Fin 2) ({ above := [1, 2, 3, 4, 5, 6], stat := 1000000000, resid := [(2, 9)] } : PvtIn) (gsix) : List Nat), ?_⟩; exact ⟨by decide +kernel, by decide +kernel, rfl, by decide +kernel, by decide +kernel, by decide +kernel⟩),
   (by refine ⟨(0 : Fin 2), ({} : PvtIn), (gsix.onTime fun t => { t with mt := 90000000 }), ?_⟩; exact ⟨by decide +kernel, by decide +kernel⟩),
   (by refine ⟨(0 : Fin 2), ({} : PvtIn), (live), ?_⟩; exact by decide +kernel),
   (by refine ⟨({ above := [1, 2, 3, 4, 5] } : HdgIn), (gsix.onGnss fun g => { g with hdg := 1 }), (((common (gsix.onGnss fun g => { g with hdg := 1 })).filter fun x => x.2.1 && ({ above := [1, 2, 3, 4, 5] } : HdgIn).above.contains x.1).map (fun x => x.1) : List Nat), ?_⟩; exact ⟨by decide +kernel, by decide +kernel, by decide +kernel, rfl, by decide +kernel⟩),
   (by refine ⟨({ above := [1, 2, 3, 4, 5], ratio := 50, ints := [(1, 3)] } : HdgIn), (gsix.onGnss fun g => { g with hdg := 1 }), (((common (gsix.onGnss fun g => { g with hdg := 1 })).filter fun x => x.2.1 && ({ above := [1, 2, 3, 4, 5], ratio := 50, ints := [(1, 3)] } : HdgIn).above.contains x.1).map (fun x => x.1) : List Nat), ((if (gsix.onGnss fun g => { g with hdg := 1 }).gnss.winSet = ({ above := [1, 2, 3, 4, 5], ratio := 50, ints := [(1, 3)] } : HdgIn).ints ∧ 0 < (gsix.onGnss fun g => { g with hdg := 1 }).gnss.wins then (gsix.onGnss fun g => { g with hdg := 1 }).gnss.wins + 1 else 1) : Nat), ?_⟩; exact ⟨by decide +kernel, by decide +kernel, by decide +kernel, rfl, by decide +kernel, by decide +kernel, rfl, by decide +kernel⟩),
   (by refine ⟨({} : HdgIn), ({ live with gnss := { hdgAwaiting := true, hdg := 2 } }), ?_⟩; exact ⟨by decide +kernel, by decide +kernel, by decide +kernel, by decide +kernel, by decide +kernel, by decide +kernel⟩),
   (by refine ⟨({ above := [1, 2, 3, 4, 5], len := 1000 } : HdgIn), (1000000 : Nat), (gsix.onGnss fun g => { g with hdg := 2, hdgFixed := (List.range 6).map fun i => (i + 1, 0) }), (((gsix.onGnss fun g => { g with hdg := 2, hdgFixed := (List.range 6).map fun i => (i + 1, 0) }).gnss.hdgFixed.filter fun f => (common (gsix.onGnss fun g => { g with hdg := 2, hdgFixed := (List.range 6).map fun i => (i + 1, 0) })).any fun x => x.1 == f.1) : List (Nat × Int)), ((({ above := [1, 2, 3, 4, 5], len := 1000 } : HdgIn).len - isqrt (1000000 : Nat)) + (isqrt (1000000 : Nat) - ({ above := [1, 2, 3, 4, 5], len := 1000 } : HdgIn).len) : Nat), ?_⟩; exact ⟨by decide +kernel, by decide +kernel, by decide +kernel, by decide +kernel, rfl, by decide +kernel, by decide +kernel, rfl, by decide +kernel, by decide +kernel⟩),
   (by refine ⟨({ above := [1, 2, 3, 4, 5], len := 9000 } : HdgIn), (1000000 : Nat), (gsix.onGnss fun g => { g with hdg := 2, lenTrips := 2, hdgFixed := (List.range 6).map fun i => (i + 1, 0) }), (((gsix.onGnss fun g => { g with hdg := 2, lenTrips := 2, hdgFixed := (List.range 6).map fun i => (i + 1, 0) }).gnss.hdgFixed.filter fun f => (common (gsix.onGnss fun g => { g with hdg := 2, lenTrips := 2, hdgFixed := (List.range 6).map fun i => (i + 1, 0) })).any fun x => x.1 == f.1) : List (Nat × Int)), ((({ above := [1, 2, 3, 4, 5], len := 9000 } : HdgIn).len - isqrt (1000000 : Nat)) + (isqrt (1000000 : Nat) - ({ above := [1, 2, 3, 4, 5], len := 9000 } : HdgIn).len) : Nat), ?_⟩; exact ⟨by decide +kernel, by decide +kernel, by decide +kernel, by decide +kernel, by decide +kernel, rfl, by decide +kernel, by decide +kernel, rfl, by decide +kernel, by decide +kernel, by decide +kernel⟩),
   (by refine ⟨({} : HdgIn), (live), ?_⟩; exact by decide +kernel),
   (by refine ⟨(0 : Fin 2), (0 : Fin 3), (gsix), ?_⟩; exact ⟨by decide +kernel, by decide +kernel⟩),
   (by refine ⟨(gsix), ?_⟩; exact by decide +kernel),
   (by refine ⟨(.host : Port), (cmd .gnssRestart []), (asked (.host : Port) (cmd .gnssRestart []) (live)), ?_⟩; exact ⟨heard_of (by decide +kernel), by decide +kernel⟩)⟩

/-- States that meet the hypotheses of SamplesAreFilteredAndImuFaultsReported, clause by clause. -/
theorem witness_samples_are_filtered_and_imu_faults_reported :
    (∃ (k : Fin 22) (x : SampleIn) (s : State) (n : Nat) (c : Int), s.sys.dom[1] = .on ∧ sourceOn s k.val = true ∧ s.sys.vmain = true ∧ n = sampleAt k.val (s.fir.slots[k]).at_ s.time.mt ∧ ((k.val < 6 → s.fir.imuReady ≤ n)) ∧ x.missing = false ∧ x.parity = false ∧ c = calSample (s.onFir fun f => { f with temp := x.temp.getD f.temp }) k.val x.raw) ∧
    (∃ (k : Fin 22) (x : SampleIn) (s : State) (n : Nat) (c : Int), s.sys.dom[1] = .on ∧ sourceOn s k.val = true ∧ s.sys.vmain = true ∧ n = sampleAt k.val (s.fir.slots[k]).at_ s.time.mt ∧ ((k.val < 6 → s.fir.imuReady ≤ n)) ∧ x.missing = false ∧ x.parity = false ∧ c = calSample (s.onFir fun f => { f with temp := x.temp.getD f.temp }) k.val x.raw ∧ rangeLimit k.val < c ∧ (n - 250 * k.val) / 12500 % 8 ≠ 0) ∧
    (∃ (k : Fin 22) (x : SampleIn) (s : State) (n : Nat), s.sys.dom[1] = .on ∧ sourceOn s k.val = true ∧ s.sys.vmain = true ∧ n = sampleAt k.val (s.fir.slots[k]).at_ s.time.mt ∧ ((k.val < 6 → s.fir.imuReady ≤ n)) ∧ (x.missing = true ∨ x.parity = true)) ∧
    (∃ (k : Fin 22) (x : SampleIn) (s : State) (n : Nat), s.sys.dom[1] = .on ∧ sourceOn s k.val = true ∧ s.sys.vmain = true ∧ n = sampleAt k.val (s.fir.slots[k]).at_ s.time.mt ∧ ((k.val < 6 → s.fir.imuReady ≤ n)) ∧ k.val < 6 ∧ x.parity = true ∧ 2 ≤ (s.fir.slots[k]).parRun ∧ s.fir.imuFault = 0 ∧ -4500 ≤ x.temp.getD s.fir.temp ∧ x.temp.getD s.fir.temp ≤ 11000) ∧
    (∃ (k : Fin 22) (x : SampleIn) (s : State) (n : Nat), s.sys.dom[1] = .on ∧ sourceOn s k.val = true ∧ s.sys.vmain = true ∧ n = sampleAt k.val (s.fir.slots[k]).at_ s.time.mt ∧ k.val < 6 ∧ n < s.fir.imuReady ∧ -4500 ≤ x.temp.getD s.fir.temp ∧ x.temp.getD s.fir.temp ≤ 11000) ∧
    (∃ (k : Fin 22) (x : SampleIn) (v : Int) (s : State) (n : Nat), s.sys.dom[1] = .on ∧ sourceOn s k.val = true ∧ s.sys.vmain = true ∧ n = sampleAt k.val (s.fir.slots[k]).at_ s.time.mt ∧ ((k.val < 6 → s.fir.imuReady ≤ n)) ∧ x.temp = some v ∧ (v < -4500 ∨ 11000 < v) ∧ s.fir.imuFault = 0) ∧
    (∃ (k : Fin 22) (x : SampleIn) (s : State), (s.sys.dom[1] ≠ .on ∨ sourceOn s k.val = false ∨ s.sys.vmain = false)) ∧
    (∃ (r : Nat) (s : State), s.fir.imuFault = 0) ∧
    (∃ (r : Nat) (s : State), s.fir.imuFault ≠ 0) :=
  ⟨(by refine ⟨(0 : Fin 22), ({} : SampleIn), (live), (sampleAt (0 : Fin 22).val ((live).fir.slots[(0 : Fin 22)]).at_ (live).time.mt : Nat), (calSample ((live).onFir fun f => { f with temp := ({} : SampleIn).temp.getD f.temp }) (0 : Fin 22).val ({} : SampleIn).raw : Int), ?_⟩; exact ⟨by decide +kernel, by decide +kernel, by decide +kernel, rfl, by decide +kernel, by decide +kernel, by decide +kernel, rfl⟩),
   (by refine ⟨(6 : Fin 22), ({ raw := [2000000000] } : SampleIn), ({ live with sys := { live.sys with factoryBad := true }, time := { mt := 2000 } }), (sampleAt (6 : Fin 22).val (({ live with sys := { live.sys with factoryBad := true }, time := { mt := 2000 } }).fir.slots[(6 : Fin 22)]).at_ ({ live with sys := { live.sys with factoryBad := true }, time := { mt := 2000 } }).time.mt : Nat), (calSample (({ live with sys := { live.sys with factoryBad := true }, time := { mt := 2000 } }).onFir fun f => { f with temp := ({ raw := [2000000000] } : SampleIn).temp.getD f.temp }) (6 : Fin 22).val ({ raw := [2000000000] } : SampleIn).raw : Int), ?_⟩; exact ⟨by decide +kernel, by decide +kernel, by decide +kernel, rfl, by decide +kernel, by decide +kernel, by decide +kernel, rfl, by decide +kernel, by decide +kernel⟩),
   (by refine ⟨(6 : Fin 22), ({ missing := true } : SampleIn), (live), (sampleAt (6 : Fin 22).val ((live).fir.slots[(6 : Fin 22)]).at_ (live).time.mt : Nat), ?_⟩; exact ⟨by decide +kernel, by decide +kernel, by decide +kernel, rfl, by decide +kernel, by decide +kernel⟩),
   (by refine ⟨(0 : Fin 22), ({ parity := true } : SampleIn), ({ live with fir := { slots := Vector.replicate 22 { parRun := 2 } } }), (sampleAt (0 : Fin 22).val (({ live with fir := { slots := Vector.replicate 22 { parRun := 2 } } }).fir.slots[(0 : Fin 22)]).at_ ({ live with fir := { slots := Vector.replicate 22 { parRun := 2 } } }).time.mt : Nat), ?_⟩; exact ⟨by decide +kernel, by decide +kernel, by decide +kernel, rfl, by decide +kernel, by decide +kernel, by decide +kernel, by decide +kernel, by decide +kernel, by decide +kernel, by decide +kernel⟩),
   (by refine ⟨(0 : Fin 22), ({} : SampleIn), ({ live with fir := { imuReady := 99999 } }), (sampleAt (0 : Fin 22).val (({ live with fir := { imuReady := 99999 } }).fir.slots[(0 : Fin 22)]).at_ ({ live with fir := { imuReady := 99999 } }).time.mt : Nat), ?_⟩; exact ⟨by decide +kernel, by decide +kernel, by decide +kernel, rfl, by decide +kernel, by decide +kernel, by decide +kernel, by decide +kernel⟩),
   (by refine ⟨(0 : Fin 22), ({ raw := [0, 0, 0], temp := some 20000 } : SampleIn), (20000 : Int), (live), (sampleAt (0 : Fin 22).val ((live).fir.slots[(0 : Fin 22)]).at_ (live).time.mt : Nat), ?_⟩; exact ⟨by decide +kernel, by decide +kernel, by decide +kernel, rfl, by decide +kernel, by decide +kernel, by decide +kernel, by decide +kernel⟩),
   (by refine ⟨(0 : Fin 22), ({} : SampleIn), ({ live with sys := { live.sys with vmain := false } }), ?_⟩; exact by decide +kernel),
   (by refine ⟨(0 : Nat), (live), ?_⟩; exact by decide +kernel),
   (by refine ⟨(0 : Nat), ({ live with fir := { imuFault := 2 } }), ?_⟩; exact by decide +kernel)⟩

/-- States that meet the hypotheses of EstimateIsUpdatedPublishedAndSupervised, clause by clause. -/
theorem witness_estimate_is_updated_published_and_supervised :
    (∃ (ce : Nat) (s : State), s.fus.updating = true ∧ belvRuns s = true ∧ s.fus.d1Miss = false) ∧
    (∃ (ce : Nat) (s : State), s.fus.updating = true ∧ belvRuns s = true ∧ s.fus.d1Miss = true) ∧
    (∃ (ce : Nat) (s : State), s.fus.updating = true ∧ belvRuns s = true ∧ s.sys.mode = .safeHold) ∧
    (∃ (ce : Nat) (s : State), (s.fus.updating = false ∨ belvRuns s = false)) ∧
    (∃ (g : Fin 2) (n : Nat) (s : State), s.fus.lastAct[g] = some n ∧ s.fus.drift[g] = false ∧ ((∀ i : Fin 24, (s.fus.slot[i]).st ≠ 3)) ∧ belvRuns s = true) ∧
    (∃ (g : Fin 2) (s : State), (s.fus.drift[g] = true ∨ s.fus.lastAct[g] = none)) ∧
    (∃ (p : Port) (c : Cmd) (i : Fin 24) (s : State), Heard p c s ∧ c.op = .fusRefCapture ∧ fld (wd c.words 0) 4 0 = i.val ∧ (refKindSet s i.val = 3 ∨ refKindSet s i.val = 4)) ∧
    (∃ (p : Port) (c : Cmd) (s : State), Heard p c s ∧ c.op = .fusRefCapture ∧ refKindSet s (fld (wd c.words 0) 4 0) ≠ 3 ∧ refKindSet s (fld (wd c.words 0) 4 0) ≠ 4) :=
  ⟨(by refine ⟨(0 : Nat), ({ live with fus := { updating := true } }), ?_⟩; exact ⟨by decide +kernel, by decide +kernel, by decide +kernel⟩),
   (by refine ⟨(0 : Nat), ({ live with fus := { updating := true, d1Miss := true } }), ?_⟩; exact ⟨by decide +kernel, by decide +kernel, by decide +kernel⟩),
   (by refine ⟨(0 : Nat), ({ inMode .safeHold live with fus := { updating := true } }), ?_⟩; exact ⟨by decide +kernel, by decide +kernel, by decide +kernel⟩),
   (by refine ⟨(0 : Nat), (live), ?_⟩; exact by decide +kernel),
   (by refine ⟨(0 : Fin 2), (0 : Nat), ({ live with fus := { lastAct := Vector.replicate 2 (some 0) } }), ?_⟩; exact ⟨by decide +kernel, by decide +kernel, by decide +kernel, by decide +kernel⟩),
   (by refine ⟨(0 : Fin 2), (live), ?_⟩; exact by decide +kernel),
   (by refine ⟨(.host : Port), (cmd .fusRefCapture [1]), (1 : Fin 24), (asked (.host : Port) (cmd .fusRefCapture [1]) (setCfg [(.fusRefConfig, 1, [0x301])] (live))), ?_⟩; exact ⟨heard_of (by decide +kernel), by decide +kernel, by decide +kernel, by decide +kernel⟩),
   (by refine ⟨(.host : Port), (cmd .fusRefCapture []), (asked (.host : Port) (cmd .fusRefCapture []) (live)), ?_⟩; exact ⟨heard_of (by decide +kernel), by decide +kernel, by decide +kernel, by decide +kernel⟩)⟩

/-- States that meet the hypotheses of SentencesAreCheckedAndHandedOn, clause by clause. -/
theorem witness_sentences_are_checked_and_handed_on :
    (∃ (u : Fin 10) (mt : Nat) (chars : List Byte) (framing : Bool) (r : Fin 5) (s : State), pd4On s = true ∧ (uartProto s u = 1 ∨ uartProto s u = 2) ∧ (chars.headD 0 = 36 ∨ chars.headD 0 = 33) ∧ sentenceFault (uartCksOpt s u) framing chars = some r) ∧
    (∃ (u : Fin 10) (mt : Nat) (chars : List Byte) (f : Formatter) (talker : Nat) (s : State), pd4On s = true ∧ (uartProto s u = 1 ∨ uartProto s u = 2) ∧ (chars.headD 0 = 36 ∨ chars.headD 0 = 33) ∧ sentenceFault (uartCksOpt s u) false chars = none ∧ formatterOf ((fieldsOf ((chars.drop 1).takeWhile fun b => b != 42)).headD []) = some (f, talker)) ∧
    (∃ (u : Fin 10) (mt : Nat) (chars : List Byte) (framing : Bool) (s : State), pd4On s = true ∧ (uartProto s u = 1 ∨ uartProto s u = 2) ∧ chars.headD 0 ≠ 36 ∧ chars.headD 0 ≠ 33) ∧
    (∃ (u : Fin 10) (n : Nat) (s : State), pd4On s = true ∧ (uartProto s u = 1 ∨ uartProto s u = 2)) ∧
    (∃ (u : Fin 10) (mt : Nat) (bytes : List Byte) (s : State), pd4On s = true ∧ uartProto s u = 3 ∧ rtcmPort s ≠ u.val ∧ s.sub 0x8A4 u.val ≠ none) ∧
    (∃ (u : Fin 10) (n : Nat) (s : State), pd4On s = true) ∧
    (∃ (u : Fin 10) (x : UartIn) (s : State), pd4On s = false) :=
  ⟨(by refine ⟨(0 : Fin 10), (0 : Nat), ([36, 65, 66] : List Byte), (false : Bool), (2 : Fin 5), (setCfg [(.busUartConfig, 0, [0x100, 2])] (live)), ?_⟩; exact ⟨by decide +kernel, by decide +kernel, by decide +kernel, by decide +kernel⟩),
   (by refine ⟨(0 : Fin 10), (0 : Nat), (chars [36, 71, 80, 72, 68, 84, 44, 49, 44, 84, 42, 50, 65] : List Byte), (.hdt : Formatter), (0x4750 : Nat), (setCfg [(.busUartConfig, 0, [0x100, 2])] (live)), ?_⟩; exact ⟨by decide +kernel, by decide +kernel, by decide +kernel, by decide +kernel, by decide +kernel⟩),
   (by refine ⟨(0 : Fin 10), (0 : Nat), ([65] : List Byte), (false : Bool), (setCfg [(.busUartConfig, 0, [0x100, 2])] (live)), ?_⟩; exact ⟨by decide +kernel, by decide +kernel, by decide +kernel, by decide +kernel⟩),
   (by refine ⟨(0 : Fin 10), (5 : Nat), (setCfg [(.busUartConfig, 0, [0x100, 2])] (live)), ?_⟩; exact ⟨by decide +kernel, by decide +kernel⟩),
   (by refine ⟨(0 : Fin 10), (0 : Nat), ([1, 2] : List Byte), ({ setCfg [(.busUartConfig, 0, [0x300, 2]), (.gnssRtcmConfig, 0, [15, 0])] (live) with subs := [{ stream := 0x8A4, inst := 0, port := .host, decim := 1 }] }), ?_⟩; exact ⟨by decide +kernel, by decide +kernel, by decide +kernel, by decide +kernel⟩),
   (by refine ⟨(0 : Fin 10), (0 : Nat), (live), ?_⟩; exact by decide +kernel),
   (by refine ⟨(0 : Fin 10), (.sent 0 : UartIn), ({ live with sys := { live.sys with dom := Vector.replicate 12 .off } }), ?_⟩; exact by decide +kernel)⟩

/-- States that meet the hypotheses of HeartbeatsLanesMirrorAndPartnerView, clause by clause. -/
theorem witness_heartbeats_lanes_mirror_and_partner_view :
    (∃ (s : State), s.duplex = true ∧ pastStep9 s = true ∧ linkUp s = true) ∧
    (∃ (s : State), (s.duplex = false ∨ pastStep9 s = false)) ∧
    (∃ (h : Heartbeat) (s : State), s.duplex = true ∧ s.hp.ready = true ∧ s.dpx.lane[h.lane] = true ∧ h.crcOk = false) ∧
    (∃ (h : Heartbeat) (s : State), s.duplex = true ∧ s.hp.ready = true ∧ s.dpx.lane[h.lane] = true ∧ h.crcOk = true) ∧
    (∃ (h : Heartbeat) (s : State), s.dpx.lane[h.lane] = false) ∧
    (∃ (s : State), s.duplex = true ∧ s.hp.ready = true ∧ s.sys.mode = .standby ∧ s.sound = true ∧ s.time.mtRun = true ∧ s.time.mt < 2 ^ 64 ∧ s.dpx.partnerMt + hbTicks + 1 < 2 ^ 64) ∧
    (∃ (s : State), s.duplex = true ∧ s.hp.ready = true) ∧
    (∃ (l : Fin 2) (n : Nat) (s : State), s.hp.ready = true ∧ s.dpx.lane[l] = false) ∧
    (∃ (l : Fin 2) (s : State), s.dpx.lane[l] = true) ∧
    (∃ (l : Fin 2) (s : State), s.dpx.lane[l] = false) ∧
    (∃ (s : State), s.sys.mode = .control ∧ s.duplex = true ∧ s.dpx.givingUp = false ∧ s.dpx.transferAt = none ∧ s.dpx.sent = none ∧ s.time.mt ≤ s.sys.frame * frameTicks + 900000) ∧
    (∃ (s : State), (s.sys.mode ≠ .control ∨ s.duplex = false)) ∧
    (∃ (g : MirrorSeg) (s : State), s.duplex = true ∧ s.sys.mode = .standby ∧ linkUp s = true ∧ s.dpx.ackOut ≠ some (g.frame, false)) ∧
    (∃ (n : Nat) (s : State), s.duplex = true ∧ s.dpx.sent = some n) ∧
    (∃ (n : Nat) (ok : Bool) (s : State), (ok = false ∨ s.dpx.sent ≠ some n)) ∧
    (∃ (p : Port) (c : Cmd) (s : State), Heard p c s ∧ c.op = .dpxHostDataWrite ∧ fld (wd c.words 0) 15 0 + (c.words.drop 1).length ≤ hostWords s) ∧
    (∃ (p : Port) (c : Cmd) (s : State), Heard p c s ∧ c.op = .dpxHostDataWrite ∧ hostWords s < fld (wd c.words 0) 15 0 + (c.words.drop 1).length) :=
  ⟨(by refine ⟨(duo), ?_⟩; exact ⟨by decide +kernel, by decide +kernel, by decide +kernel⟩),
   (by refine ⟨(live), ?_⟩; exact by decide +kernel),
   (by refine ⟨({ crcOk := false } : Heartbeat), (duo), ?_⟩; exact ⟨by decide +kernel, by decide +kernel, by decide +kernel, by decide +kernel⟩),
   (by refine ⟨({ seq := 3 } : Heartbeat), (duo), ?_⟩; exact ⟨by decide +kernel, by decide +kernel, by decide +kernel, by decide +kernel⟩),
   (by refine ⟨({} : Heartbeat), (live), ?_⟩; exact by decide +kernel),
   (by refine ⟨(duo), ?_⟩; exact ⟨by decide +kernel, by decide +kernel, by decide +kernel, by decide +kernel, by decide +kernel, by decide +kernel, by decide +kernel⟩),
   (by refine ⟨(duo), ?_⟩; exact ⟨by decide +kernel, by decide +kernel⟩),
   (by refine ⟨(0 : Fin 2), (0 : Nat), (live), ?_⟩; exact ⟨by decide +kernel, by decide +kernel⟩),
   (by refine ⟨(0 : Fin 2), (duo), ?_⟩; exact by decide +kernel),
   (by refine ⟨(0 : Fin 2), (live), ?_⟩; exact by decide +kernel),
   (by refine ⟨(inMode .control duo), ?_⟩; exact ⟨by decide +kernel, by decide +kernel, by decide +kernel, by decide +kernel, by decide +kernel, by decide +kernel⟩),
   (by refine ⟨(live), ?_⟩; exact by decide +kernel),
   (by refine ⟨({ frame := 1, seg := 0, last := true, crcOk := true, content := {} } : MirrorSeg), (duo), ?_⟩; exact ⟨by decide +kernel, by decide +kernel, by decide +kernel, by decide +kernel⟩),
   (by refine ⟨(4 : Nat), (duo.onDpx fun d => { d with sent := some 4 }), ?_⟩; exact ⟨by decide +kernel, by decide +kernel⟩),
   (by refine ⟨(0 : Nat), (false : Bool), (duo), ?_⟩; exact by decide +kernel),
   (by refine ⟨(.host : Port), (cmd .dpxHostDataWrite []), (asked (.host : Port) (cmd .dpxHostDataWrite []) (live)), ?_⟩; exact ⟨heard_of (by decide +kernel), by decide +kernel, by decide +kernel⟩),
   (by refine ⟨(.host : Port), (cmd .dpxHostDataWrite [0xFFFF, 1]), (asked (.host : Port) (cmd .dpxHostDataWrite [0xFFFF, 1]) (setCfg [(.dpxConfig, 0, [1, 0x00040000])] (live))), ?_⟩; exact ⟨heard_of (by decide +kernel), by decide +kernel, by decide +kernel⟩)⟩

/-- States that meet the hypotheses of OwnershipIsTakenReleasedAndHandedOver, clause by clause. -/
theorem witness_ownership_is_taken_released_and_handed_over :
    (∃ (cause : Nat) (s : State), cause = s.dpx.taking ∧ cause ≠ 0 ∧ s.sys.mode = .standby ∧ s.hp.ready = true) ∧
    (∃ (s : State), (s.dpx.taking = 0 ∨ s.sys.mode ≠ .standby)) ∧
    (∃ (s : State), s.duplex = true ∧ s.hp.ready = true ∧ s.sys.own = true ∧ s.dpx.handoverAt ≠ none) ∧
    (∃ (s : State), s.duplex = true ∧ s.hp.ready = true ∧ s.sys.own = true ∧ s.dpx.handoverAt = none ∧ s.dpx.transferAt ≠ none) ∧
    (∃ (s : State), s.duplex = true ∧ s.hp.ready = true ∧ s.sys.own = true ∧ s.dpx.handoverAt = none ∧ s.dpx.transferAt = none ∧ s.sys.giveupOut = true) ∧
    (∃ (s : State), (s.sys.own = false ∨ (s.dpx.handoverAt = none ∧ s.dpx.transferAt = none ∧ s.sys.giveupOut = false))) ∧
    (∃ (s : State), s.duplex = true ∧ s.hp.ready = true ∧ s.sys.own = true ∧ s.dpx.ownIn = true ∧ s.dpx.dual = false ∧ s.sys.giveupOut = false ∧ s.dpx.transferAt = none) ∧
    (∃ (s : State), (s.sys.own = false ∨ s.dpx.ownIn = false ∨ s.dpx.dual = true ∨ s.sys.giveupOut = true ∨ s.dpx.transferAt ≠ none)) ∧
    (∃ (n : Nat) (s : State), s.dpx.hbSent = some n ∧ s.sys.mode = .control ∧ partnerWasReady s = true ∧ s.sys.diagFirst = 0 ∧ 6 ∉ s.sys.diagSeen) ∧
    (∃ (s : State), (s.sys.mode ≠ .control ∨ partnerWasReady s = false)) ∧
    (∃ (s : State), s.dpx.givingUp = true ∧ s.sys.wdDelay = none) ∧
    (∃ (s : State), (s.dpx.givingUp = false ∨ s.sys.wdDelay ≠ none)) ∧
    (∃ (s : State), s.duplex = true ∧ s.hp.ready = true ∧ s.sys.mode = .standby ∧ s.sound = true) ∧
    (∃ (s : State), s.duplex = false) ∧
    (∃ (n : Nat) (tag : Nat) (p : Port) (op : Op) (s : State), s.dpx.transferAt = some n ∧ s.dpx.transferCmd = some (p, tag) ∧ Waits p tag op s) ∧
    (∃ (s : State), s.dpx.transferAt = none) ∧
    (∃ (n : Nat) (tag : Nat) (p : Port) (op : Op) (s : State), s.dpx.transferReq = some (p, tag) ∧ s.dpx.transferReqAt = some n ∧ (transferSeen s = false ∨ s.sys.mode ≠ .standby) ∧ Waits p tag op s) ∧
    (∃ (s : State), s.dpx.transferReqAt = none) ∧
    (∃ (s : State), s.duplex = true ∧ s.sys.mode = .safeHold ∧ s.dpx.healthy = true ∧ s.dpx.handoverAt = none ∧ s.dpx.retryAt = none) ∧
    (∃ (s : State), (s.sys.mode ≠ .safeHold ∨ s.dpx.healthy = false ∨ s.dpx.retryAt ≠ none)) ∧
    (∃ (n : Nat) (s : State), s.dpx.handoverAt = some n) ∧
    (∃ (n : Nat) (s : State), s.dpx.retryAt = some n ∧ s.duplex = true ∧ s.sys.mode = .safeHold ∧ s.dpx.healthy = true) ∧
    (∃ (n : Nat) (s : State), s.dpx.retryAt = some n ∧ s.dpx.healthy = false) ∧
    (∃ (n : Nat) (s : State), s.dpx.reclaimFrom = some n) ∧
    (∃ (p : Port) (c : Cmd) (s : State), Heard p c s ∧ c.op = .dpxTransfer ∧ s.duplex = true ∧ inTransition s = false ∧ s.dpx.transferReq = none ∧ partnerReady s = true ∧ s.sys.mode = .control) ∧
    (∃ (p : Port) (c : Cmd) (s : State), Heard p c s ∧ c.op = .dpxTransfer ∧ s.duplex = true ∧ inTransition s = false ∧ s.dpx.transferReq = none ∧ partnerReady s = true ∧ s.sys.mode ≠ .control) ∧
    (∃ (p : Port) (c : Cmd) (s : State), Heard p c s ∧ c.op = .dpxTransfer ∧ s.duplex = false) ∧
    (∃ (p : Port) (c : Cmd) (s : State), Heard p c s ∧ c.op = .dpxTransfer ∧ s.duplex = true ∧ (inTransition s = true ∨ s.dpx.transferReq ≠ none)) ∧
    (∃ (p : Port) (c : Cmd) (s : State), Heard p c s ∧ c.op = .dpxTransfer ∧ s.duplex = true ∧ inTransition s = false ∧ s.dpx.transferReq = none ∧ partnerReady s = false) ∧
    (∃ (s : State), transferSeen s = true ∧ s.sys.mode = .standby ∧ s.sound = true) :=
  ⟨(by refine ⟨(2 : Nat), ((duo).onDpx fun d => { d with taking := 2 }), ?_⟩; exact ⟨by decide +kernel, by decide +kernel, by decide +kernel, by decide +kernel⟩),
   (by refine ⟨(live), ?_⟩; exact by decide +kernel),
   (by refine ⟨((inMode .control duo).onDpx fun d => { d with handoverAt := some 5 }), ?_⟩; exact ⟨by decide +kernel, by decide +kernel, by decide +kernel, by decide +kernel⟩),
   (by refine ⟨((inMode .control duo).onDpx fun d => { d with transferAt := some 5 }), ?_⟩; exact ⟨by decide +kernel, by decide +kernel, by decide +kernel, by decide +kernel, by decide +kernel⟩),
   (by refine ⟨((inMode .control duo).onSys fun y => { y with giveupOut := true }), ?_⟩; exact ⟨by decide +kernel, by decide +kernel, by decide +kernel, by decide +kernel, by decide +kernel, by decide +kernel⟩),
   (by refine ⟨(live), ?_⟩; exact by decide +kernel),
   (by refine ⟨((inMode .control duo).onDpx fun d => { d with ownIn := true }), ?_⟩; exact ⟨by decide +kernel, by decide +kernel, by decide +kernel, by decide +kernel, by decide +kernel, by decide +kernel, by decide +kernel⟩),
   (by refine ⟨(live), ?_⟩; exact by decide +kernel),
   (by refine ⟨(5 : Nat), ((inMode .control duo).onDpx fun d => { d with hbSent := some 5 }), ?_⟩; exact ⟨by decide +kernel, by decide +kernel, by decide +kernel, by decide +kernel, by decide +kernel⟩),
   (by refine ⟨(live), ?_⟩; exact by decide +kernel),
   (by refine ⟨((inMode .control duo).onDpx fun d => { d with givingUp := true }), ?_⟩; exact ⟨by decide +kernel, by decide +kernel⟩),
   (by refine ⟨(live), ?_⟩; exact by decide +kernel),
   (by refine ⟨(duo), ?_⟩; exact ⟨by decide +kernel, by decide +kernel, by decide +kernel, by decide +kernel⟩),
   (by refine ⟨(live), ?_⟩; exact by decide +kernel),
   (by refine ⟨(5 : Nat), (5 : Nat), (.host : Port), (.dpxTransfer : Op), ((waiting .host 5 .dpxTransfer (inMode .control duo)).onDpx fun d => { d with transferAt := some 5, transferCmd := some (.host, 5) }), ?_⟩; exact ⟨by decide +kernel, by decide +kernel, waits_of (by decide +kernel)⟩),
   (by refine ⟨(live), ?_⟩; exact by decide +kernel),
   (by refine ⟨(5 : Nat), (5 : Nat), (.host : Port), (.dpxTransfer : Op), ((waiting .host 5 .dpxTransfer duo).onDpx fun d => { d with transferReq := some (.host, 5), transferReqAt := some 5 }), ?_⟩; exact ⟨by decide +kernel, by decide +kernel, by decide +kernel, waits_of (by decide +kernel)⟩),
   (by refine ⟨(live), ?_⟩; exact by decide +kernel),
   (by refine ⟨(inMode .safeHold duo), ?_⟩; exact ⟨by decide +kernel, by decide +kernel, by decide +kernel, by decide +kernel, by decide +kernel⟩),
   (by refine ⟨(live), ?_⟩; exact by decide +kernel),
   (by refine ⟨(5 : Nat), ((duo).onDpx fun d => { d with handoverAt := some 5 }), ?_⟩; exact by decide +kernel),
   (by refine ⟨(5 : Nat), ((inMode .safeHold duo).onDpx fun d => { d with retryAt := some 5 }), ?_⟩; exact ⟨by decide +kernel, by decide +kernel, by decide +kernel, by decide +kernel⟩),
   (by refine ⟨(5 : Nat), ({ live with dpx := { retryAt := some 5 } }), ?_⟩; exact ⟨by decide +kernel, by decide +kernel⟩),
   (by refine ⟨(5 : Nat), ((duo).onDpx fun d => { d with reclaimFrom := some 5 }), ?_⟩; exact by decide +kernel),
   (by refine ⟨(.host : Port), (cmd .dpxTransfer []), (asked (.host : Port) (cmd .dpxTransfer []) (inMode .control duo)), ?_⟩; exact ⟨heard_of (by decide +kernel), by decide +kernel, by decide +kernel, by decide +kernel, by decide +kernel, by decide +kernel, by decide +kernel⟩),
   (by refine ⟨(.host : Port), (cmd .dpxTransfer []), (asked (.host : Port) (cmd .dpxTransfer []) (duo)), ?_⟩; exact ⟨heard_of (by decide +kernel), by decide +kernel, by decide +kernel, by decide +kernel, by decide +kernel, by decide +kernel, by decide +kernel⟩),
   (by refine ⟨(.host : Port), (cmd .dpxTransfer []), (asked (.host : Port) (cmd .dpxTransfer []) (live)), ?_⟩; exact ⟨heard_of (by decide +kernel), by decide +kernel, by decide +kernel⟩),
   (by refine ⟨(.host : Port), (cmd .dpxTransfer []), (asked (.host : Port) (cmd .dpxTransfer []) ((duo).onDpx fun d => { d with givingUp := true })), ?_⟩; exact ⟨heard_of (by decide +kernel), by decide +kernel, by decide +kernel, by decide +kernel⟩),
   (by refine ⟨(.host : Port), (cmd .dpxTransfer []), (asked (.host : Port) (cmd .dpxTransfer []) (duo.onDpx fun d => { d with sync := false })), ?_⟩; exact ⟨heard_of (by decide +kernel), by decide +kernel, by decide +kernel, by decide +kernel, by decide +kernel, by decide +kernel⟩),
   (by refine ⟨((duo).onDpx fun d => { d with applied := some { transfer := true } }), ?_⟩; exact ⟨by decide +kernel, by decide +kernel, by decide +kernel⟩)⟩

/-- States that meet the hypotheses of ResetsSuppliesAndTheStart, clause by clause. -/
theorem witness_resets_supplies_and_the_start :
    (∃ (p : Port) (c : Cmd) (s : State), Heard p c s ∧ c.op = .sysReset ∧ s.sys.vmain = true ∧ withinReset s = false) ∧
    (∃ (n : Nat) (s : State), 1000 ≤ n ∧ s.sys.rstLow = false ∧ s.sys.vmain = true ∧ withinReset s = false) ∧
    (∃ (n : Nat) (s : State), (n < 200 ∨ s.sys.rstLow = true)) ∧
    (∃ (n : Nat) (s : State), 200 ≤ n ∧ n < 1000 ∧ s.sys.rstLow = false ∧ s.sys.vmain = true ∧ withinReset s = false) ∧
    (∃ (n : Nat) (s : State), 1000 ≤ n ∧ s.sys.rstLow = false ∧ s.sys.vmain = true ∧ withinReset s = true) ∧
    (∃ (s : State), s.sys.rstLow = true) ∧
    (∃ (s : State), s.sys.rstLow = false) ∧
    (∃ (s : State), s.hp.ready = true ∧ s.sys.wdDelay = none ∧ (s.sys.mode ≠ .control ∨ partnerWasReady s = false) ∧ s.sys.vmain = true ∧ withinReset s = false) ∧
    (∃ (s : State), s.hp.ready = true ∧ s.sys.wdDelay = none ∧ s.sys.mode = .control ∧ partnerWasReady s = true) ∧
    (∃ (n : Nat) (s : State), s.sys.wdDelay = some n ∧ s.sys.vmain = true ∧ withinReset s = false) ∧
    (∃ (s : State), s.sys.wdDelay = none) ∧
    (∃ (s : State), s.hp.ready = true ∧ s.sys.running ≠ none) ∧
    (∃ (s : State), (s.hp.ready = false ∨ s.sys.running = none)) ∧
    (∃ (n : Nat) (s : State), s.kiln.cdBadSince = some n ∧ s.kiln.cdBad = false ∧ s.kiln.st ≠ .off ∧ s.sys.vmain = true ∧ withinReset s = false) ∧
    (∃ (s : State), (s.kiln.cdBadSince = none ∨ s.kiln.cdBad = true ∨ s.kiln.st = .off)) ∧
    (∃ (fate : SlotFate) (s : State), s.sys.vmain = true) ∧
    (∃ (fate : SlotFate) (s : State), s.sys.vmain = false) ∧
    (∃ (s : State), s.sys.vmain = false) ∧
    (∃ (s : State), s.sys.vmain = true) ∧
    (∃ (k : StartIn) (s : State), s.sys.vmain = false ∧ s.sys.rstLow = true) ∧
    (∃ (k : StartIn) (s : State), s.sys.vmain = false ∧ s.sys.rstLow = false ∧ k.cutAt = 0 ∧ (pickImage k { s with sys := { s.sys with choice := none } }).isSome = true ∧ k.factoryOk = true ∧ ((∀ r : Fin 4, k.bistOk[r] = true ∧ (s.solv.region[r]).st = .healthy)) ∧ k.belvOk = true ∧ k.loopOk = true ∧ k.imuOk = true ∧ k.kilnRx = true ∧ k.kilnTest = none ∧ s.kiln.st = .run ∧ s.sys.mode = .kindling) ∧
    (∃ (k : StartIn) (s : State), s.sys.vmain = true ∧ s.hp.ready = true) ∧
    (∃ (k : StartIn) (s : State), s.sys.vmain = true ∧ s.sys.warmPending = true ∧ s.sys.rstLow = false ∧ k.cutAt = 0 ∧ (pickImage k s).isSome = true ∧ k.factoryOk = true ∧ ((∀ r : Fin 4, k.bistOk[r] = true ∧ (s.solv.region[r]).st = .healthy)) ∧ k.belvOk = true ∧ k.loopOk = true ∧ k.imuOk = true ∧ k.kilnRx = true ∧ k.kilnTest = none ∧ s.kiln.st = .run ∧ s.sys.mode = .kindling ∧ s.sys.tcxoFailed = false) ∧
    (∃ (k : StartIn) (s : State), s.sys.vmain = true ∧ s.sys.warmPending = true ∧ s.sys.rstLow = false ∧ k.cutAt = 0 ∧ (pickImage k s).isSome = true ∧ k.factoryOk = false) ∧
    (∃ (k : StartIn) (s : State), s.sys.vmain = true ∧ s.sys.warmPending = true ∧ s.sys.rstLow = false ∧ k.cutAt = 0 ∧ pickImage k s = none) ∧
    (∃ (k : StartIn) (s : State), s.sys.vmain = true ∧ s.sys.warmPending = true ∧ s.sys.rstLow = false ∧ k.cutAt = 5) ∧
    (∃ (k : StartIn) (s : State), (s.sys.vmain = false ∨ s.sys.warmPending = false ∨ s.sys.rstLow = true)) ∧
    (∃ (n : Nat) (s : State) (m : Mode), s.sys.listenEnd = some n ∧ s.sys.mode = .kindling ∧ s.hp.ready = true ∧ m = (if s.duplex then (match s.dpx.partner with | some h => if h.own then .standby else if h.mode == .kindling && !isModuleA s then .standby else .control | none => .control) else .control)) ∧
    (∃ (s : State), s.sys.listenEnd = none) :=
  ⟨(by refine ⟨(.host : Port), (cmd .sysReset []), (asked (.host : Port) (cmd .sysReset []) (live)), ?_⟩; exact ⟨heard_of (by decide +kernel), by decide +kernel, by decide +kernel, by decide +kernel⟩),
   (by refine ⟨(1000 : Nat), (live), ?_⟩; exact ⟨by decide +kernel, by decide +kernel, by decide +kernel, by decide +kernel⟩),
   (by refine ⟨(0 : Nat), (live), ?_⟩; exact by decide +kernel),
   (by refine ⟨(500 : Nat), (live), ?_⟩; exact ⟨by decide +kernel, by decide +kernel, by decide +kernel, by decide +kernel, by decide +kernel⟩),
   (by refine ⟨(1000 : Nat), ({ live with sys := { live.sys with warmPending := true } }), ?_⟩; exact ⟨by decide +kernel, by decide +kernel, by decide +kernel, by decide +kernel⟩),
   (by refine ⟨({ live with sys := { live.sys with rstLow := true } }), ?_⟩; exact by decide +kernel),
   (by refine ⟨(live), ?_⟩; exact by decide +kernel),
   (by refine ⟨(live), ?_⟩; exact ⟨by decide +kernel, by decide +kernel, by decide +kernel, by decide +kernel, by decide +kernel⟩),
   (by refine ⟨({ inMode .control pair with dpx := { healthy := true, sync := true, partner := some { mode := .standby, healthy := true, sync := true, crcOk := true } } }), ?_⟩; exact ⟨by decide +kernel, by decide +kernel, by decide +kernel, by decide +kernel⟩),
   (by refine ⟨(5 : Nat), ({ live with sys := { live.sys with wdDelay := some 5 } }), ?_⟩; exact ⟨by decide +kernel, by decide +kernel, by decide +kernel⟩),
   (by refine ⟨(live), ?_⟩; exact by decide +kernel),
   (by refine ⟨(live), ?_⟩; exact ⟨by decide +kernel, by decide +kernel⟩),
   (by refine ⟨(State.reset), ?_⟩; exact by decide +kernel),
   (by refine ⟨(5 : Nat), ({ live with kiln := { st := .run, cdBadSince := some 5 }, time := { mt := 100000000, now := 100000000 } }), ?_⟩; exact ⟨by decide +kernel, by decide +kernel, by decide +kernel, by decide +kernel, by decide +kernel⟩),
   (by refine ⟨(live), ?_⟩; exact by decide +kernel),
   (by refine ⟨(.unwritten : SlotFate), (live), ?_⟩; exact by decide +kernel),
   (by refine ⟨(.unwritten : SlotFate), ({ live with sys := { live.sys with vmain := false } }), ?_⟩; exact by decide +kernel),
   (by refine ⟨({ live with sys := { live.sys with vmain := false } }), ?_⟩; exact by decide +kernel),
   (by refine ⟨(live), ?_⟩; exact by decide +kernel),
   (by refine ⟨({} : StartIn), ({ live with sys := { live.sys with vmain := false, rstLow := true } }), ?_⟩; exact ⟨by decide +kernel, by decide +kernel⟩),
   (by refine ⟨({} : StartIn), ({ live with sys := { State.reset.sys with vmain := false, running := none }, kiln := { st := .run } }), ?_⟩; exact ⟨by decide +kernel, by decide +kernel, by decide +kernel, by decide +kernel, by decide +kernel, by decide +kernel, by decide +kernel, by decide +kernel, by decide +kernel, by decide +kernel, by decide +kernel, by decide +kernel, by decide +kernel⟩),
   (by refine ⟨({} : StartIn), (live), ?_⟩; exact ⟨by decide +kernel, by decide +kernel⟩),
   (by refine ⟨({} : StartIn), ({ live with hp := {}, sys := { live.sys with mode := .kindling, own := false, warmPending := true }, kiln := { st := .run } }), ?_⟩; exact ⟨by decide +kernel, by decide +kernel, by decide +kernel, by decide +kernel, by decide +kernel, by decide +kernel, by decide +kernel, by decide +kernel, by decide +kernel, by decide +kernel, by decide +kernel, by decide +kernel, by decide +kernel, by decide +kernel, by decide +kernel⟩),
   (by refine ⟨({ factoryOk := false } : StartIn), ({ live with hp := {}, sys := { live.sys with mode := .kindling, own := false, warmPending := true }, kiln := { st := .run } }), ?_⟩; exact ⟨by decide +kernel, by decide +kernel, by decide +kernel, by decide +kernel, by decide +kernel, by decide +kernel⟩),
   (by refine ⟨({ imageOk := Vector.replicate 2 false } : StartIn), ({ live with hp := {}, sys := { live.sys with mode := .kindling, own := false, warmPending := true }, kiln := { st := .run } }), ?_⟩; exact ⟨by decide +kernel, by decide +kernel, by decide +kernel, by decide +kernel, by decide +kernel⟩),
   (by refine ⟨({ cutAt := 5 } : StartIn), ({ live with hp := {}, sys := { live.sys with mode := .kindling, own := false, warmPending := true }, kiln := { st := .run } }), ?_⟩; exact ⟨by decide +kernel, by decide +kernel, by decide +kernel, by decide +kernel⟩),
   (by refine ⟨({} : StartIn), (live), ?_⟩; exact by decide +kernel),
   (by refine ⟨(0 : Nat), ({ live with sys := { live.sys with mode := .kindling, listenEnd := some 0 } }), ((if ({ live with sys := { live.sys with mode := .kindling, listenEnd := some 0 } }).duplex then (match ({ live with sys := { live.sys with mode := .kindling, listenEnd := some 0 } }).dpx.partner with | some h => if h.own then .standby else if h.mode == .kindling && !isModuleA ({ live with sys := { live.sys with mode := .kindling, listenEnd := some 0 } }) then .standby else .control | none => .control) else .control) : Mode), ?_⟩; exact ⟨by decide +kernel, by decide +kernel, by decide +kernel, rfl⟩),
   (by refine ⟨(live), ?_⟩; exact by decide +kernel)⟩

/-- States that meet the hypotheses of FailuresPowerDomainsWakeAndBoundaryScan, clause by clause. -/
theorem witness_failures_power_domains_wake_and_boundary_scan :
    (∃ (s : State), s.sys.vmain = true ∧ s.sys.tcxoFailed = false) ∧
    (∃ (s : State), (s.sys.vmain = false ∨ s.sys.tcxoFailed = true)) ∧
    (∃ (r : Fin 4) (n : Nat) (s : State), s.hp.ready = true ∧ (s.solv.region[r]).st ≠ .failed) ∧
    (∃ (b : Fin 2) (n : Nat) (s : State), s.hp.ready = true ∧ (s.gnss.bb[b]).out = false) ∧
    (∃ (n : Nat) (s : State), s.hp.ready = true) ∧
    (∃ (n : Nat) (s : State), s.hp.ready = true ∧ s.fir.imuFault = 0) ∧
    (∃ (n : Nat) (s : State), s.hp.ready = true ∧ s.sys.nf1Ok = true) ∧
    (∃ (n : Nat) (s : State), s.hp.ready = true) ∧
    (∃ (n : Nat) (s : State), s.hp.ready = true) ∧
    (∃ (n : Nat) (s : State), s.hp.ready = true) ∧
    (∃ (u : LinkUnit) (n : Nat) (f : Fin 3) (s : State), s.hp.ready = true ∧ f ≠ 2) ∧
    (∃ (u : LinkUnit) (n : Nat) (f : Fin 3) (s : State), s.hp.ready = false) ∧
    (∃ (s : State), s.hp.ready = true ∧ 5 ∉ s.sys.diagSeen) ∧
    (∃ (s : State), s.hp.ready = true ∧ 5 ∈ s.sys.diagSeen) ∧
    (∃ (s : State), s.hp.ready = true ∧ 3 ∉ s.sys.diagSeen) ∧
    (∃ (s : State), s.hp.ready = true ∧ 3 ∈ s.sys.diagSeen) ∧
    (∃ (w : WakeKind) (s : State), s.hp.ready = true) ∧
    (∃ (w : WakeKind) (s : State), s.hp.ready = false) ∧
    (∃ (d : Fin 12) (s : State), s.sys.exiting[d] = true) ∧
    (∃ (d : Fin 12) (s : State), s.sys.exiting[d] = false) ∧
    (∃ (s : State), s.hp.ready = true ∧ idleNow s = true) ∧
    (∃ (s : State), (s.hp.ready = false ∨ idleNow s = false)) ∧
    (∃ (v : List Bool) (s : State), s.tap.trst = true) ∧
    (∃ (a : TapIn) (s : State), s.tap.trst = false ∧ ((∀ high : Bool, a ≠ .trst high))) :=
  ⟨(by refine ⟨(live), ?_⟩; exact ⟨by decide +kernel, by decide +kernel⟩),
   (by refine ⟨({ live with sys := { live.sys with vmain := false } }), ?_⟩; exact by decide +kernel),
   (by refine ⟨(0 : Fin 4), (0 : Nat), (live), ?_⟩; exact ⟨by decide +kernel, by decide +kernel⟩),
   (by refine ⟨(0 : Fin 2), (0 : Nat), (live), ?_⟩; exact ⟨by decide +kernel, by decide +kernel⟩),
   (by refine ⟨(0 : Nat), (live), ?_⟩; exact by decide +kernel),
   (by refine ⟨(0 : Nat), (live), ?_⟩; exact ⟨by decide +kernel, by decide +kernel⟩),
   (by refine ⟨(0 : Nat), (live), ?_⟩; exact ⟨by decide +kernel, by decide +kernel⟩),
   (by refine ⟨(0 : Nat), (live), ?_⟩; exact by decide +kernel),
   (by refine ⟨(0 : Nat), (live), ?_⟩; exact by decide +kernel),
   (by refine ⟨(0 : Nat), (live), ?_⟩; exact by decide +kernel),
   (by refine ⟨(.other : LinkUnit), (0 : Nat), (0 : Fin 3), (live), ?_⟩; exact ⟨by decide +kernel, by decide +kernel⟩),
   (by refine ⟨(.other : LinkUnit), (0 : Nat), (0 : Fin 3), (State.reset), ?_⟩; exact by decide +kernel),
   (by refine ⟨(live), ?_⟩; exact ⟨by decide +kernel, by decide +kernel⟩),
   (by refine ⟨({ live with sys := { live.sys with diagSeen := [5] } }), ?_⟩; exact ⟨by decide +kernel, by decide +kernel⟩),
   (by refine ⟨(live), ?_⟩; exact ⟨by decide +kernel, by decide +kernel⟩),
   (by refine ⟨({ live with sys := { live.sys with diagSeen := [3] } }), ?_⟩; exact ⟨by decide +kernel, by decide +kernel⟩),
   (by refine ⟨(.header : WakeKind), (live), ?_⟩; exact by decide +kernel),
   (by refine ⟨(.header : WakeKind), (State.reset), ?_⟩; exact by decide +kernel),
   (by refine ⟨(7 : Fin 12), ({ live with sys := { live.sys with mode := .dormant, dom := Vector.replicate 12 .off, exiting := Vector.replicate 12 true } }), ?_⟩; exact by decide +kernel),
   (by refine ⟨(0 : Fin 12), (live), ?_⟩; exact by decide +kernel),
   (by refine ⟨({ inMode .dormant live with time := { mt := 1000000000000 } }), ?_⟩; exact ⟨by decide +kernel, by decide +kernel⟩),
   (by refine ⟨(live), ?_⟩; exact by decide +kernel),
   (by refine ⟨([] : List Bool), ({ live with tap := { trst := true } }), ?_⟩; exact by decide +kernel),
   (by refine ⟨(.bypass : TapIn), (live), ?_⟩; exact ⟨by decide +kernel, by decide +kernel⟩)⟩

/-- States that meet the hypotheses of FramesBeginAndMissedDeadlinesAreCounted, clause by clause. -/
theorem witness_frames_begin_and_missed_deadlines_are_counted :
    (∃ (temps : Vector Int 4) (s : State), s.sys.vmain = true ∧ s.time.mtRun = true) ∧
    (∃ (temps : Vector Int 4) (s : State), s.sys.vmain = true ∧ s.time.mtRun = true ∧ s.hp.ready = true) ∧
    (∃ (temps : Vector Int 4) (r : ModeReq) (s : State), s.sys.vmain = true ∧ s.time.mtRun = true ∧ s.hp.ready = true ∧ s.sys.modeReq = some r ∧ r.cmd = none ∧ r.target ≠ s.sys.mode ∧ s.dpx.dormantNext = false) ∧
    (∃ (temps : Vector Int 4) (s : State), s.sys.vmain = true ∧ s.time.mtRun = true ∧ s.hp.ready = true ∧ s.sys.modeReq = none ∧ s.dpx.dormantNext = false) ∧
    (∃ (temps : Vector Int 4) (s : State), (s.sys.vmain = false ∨ s.time.mtRun = false)) ∧
    (∃ (s : State), s.fus.updating = true ∧ s.fus.d1Miss = false ∧ belvRuns s = true) ∧
    (∃ (s : State), frameWork s = true ∧ s.dpc.ran ≠ some s.sys.frame) ∧
    (∃ (s : State), frameWork s = true ∧ s.dpc.fn ≠ 0 ∧ s.alloc.checked = some s.sys.frame ∧ s.alloc.issuedAt ≠ some s.sys.frame ∧ s.alloc.committed = false ∧ s.alloc.d3Miss = false) ∧
    (∃ (s : State), frameWork s = true ∧ s.alloc.issuedAt ≠ some s.sys.frame) ∧
    (∃ (s : State), s.sys.mode = .control ∧ s.duplex = true ∧ s.dpx.sent = none) :=
  ⟨(by refine ⟨(Vector.replicate 4 0 : Vector Int 4), (live), ?_⟩; exact ⟨by decide +kernel, by decide +kernel⟩),
   (by refine ⟨(Vector.replicate 4 0 : Vector Int 4), (live), ?_⟩; exact ⟨by decide +kernel, by decide +kernel, by decide +kernel⟩),
   (by refine ⟨(Vector.replicate 4 0 : Vector Int 4), ({ target := .commission, kind := 0, detail := 0 } : ModeReq), (live.onSys fun y => { y with modeReq := some { target := .commission, kind := 0, detail := 0 } }), ?_⟩; exact ⟨by decide +kernel, by decide +kernel, by decide +kernel, by decide +kernel, by decide +kernel, by decide +kernel, by decide +kernel⟩),
   (by refine ⟨(Vector.replicate 4 0 : Vector Int 4), (live), ?_⟩; exact ⟨by decide +kernel, by decide +kernel, by decide +kernel, by decide +kernel, by decide +kernel⟩),
   (by refine ⟨(Vector.replicate 4 0 : Vector Int 4), ({ live with sys := { live.sys with vmain := false } }), ?_⟩; exact by decide +kernel),
   (by refine ⟨({ live with fus := { updating := true } }), ?_⟩; exact ⟨by decide +kernel, by decide +kernel, by decide +kernel⟩),
   (by refine ⟨(live), ?_⟩; exact ⟨by decide +kernel, by decide +kernel⟩),
   (by refine ⟨({ live with dpc := { fn := 1 }, alloc := { checked := some 0 } }), ?_⟩; exact ⟨by decide +kernel, by decide +kernel, by decide +kernel, by decide +kernel, by decide +kernel, by decide +kernel⟩),
   (by refine ⟨(live), ?_⟩; exact ⟨by decide +kernel, by decide +kernel⟩),
   (by refine ⟨(inMode .control duo), ?_⟩; exact ⟨by decide +kernel, by decide +kernel, by decide +kernel⟩)⟩

/-- States that meet the hypotheses of MaintenanceFramesAreTakenInOrder, clause by clause. -/
theorem witness_maintenance_frames_are_taken_in_order :
    (∃ (m : MaintFrame) (q : QWord) (qs : List QWord) (s : State), s.hp.maintEn = true ∧ canActive s 5 = true ∧ m.words = q :: qs ∧ fld q.w 7 0 = qs.length ∧ m.first = true ∧ (s.mnt.rxSeq = none ∨ s.mnt.rxSeq = some (m.seq % 128)) ∧ s.maint.wrLeft = 0 ∧ m.words.length ≤ maintFree s) ∧
    (∃ (m : MaintFrame) (e : Nat) (s : State), s.hp.maintEn = true ∧ canActive s 5 = true ∧ s.mnt.rxSeq = some e ∧ e ≠ m.seq % 128 ∧ m.first = false ∧ s.maint.wrLeft = 0) ∧
    (∃ (m : MaintFrame) (s : State), s.hp.maintEn = true ∧ canActive s 5 = true ∧ s.mnt.rxSeq = some (m.seq % 128) ∧ m.first = false ∧ (s.mnt.skip = true ∨ s.maint.wrLeft = 0)) ∧
    (∃ (m : MaintFrame) (s : State), s.hp.maintEn = true ∧ canActive s 5 = true ∧ m.first = true ∧ s.maint.wrLeft = 0 ∧ m.words ≠ [] ∧ maintFree s < m.words.length) ∧
    (∃ (m : MaintFrame) (s : State), (s.hp.maintEn = false ∨ canActive s 5 = false)) ∧
    (∃ (s : State), s.hp.maintEn = true ∧ s.mnt.lastFree + 256 ≤ maintFree s ∧ fnQueued 5 .maint (maintTxId s) s = false) ∧
    (∃ (s : State), (s.hp.maintEn = false ∨ maintFree s < s.mnt.lastFree + 256 ∨ fnQueued 5 .maint (maintTxId s) s = true)) :=
  ⟨(by refine ⟨({ first := true, seq := 0, words := [{ w := 0x00100900, ecc := .ok }] } : MaintFrame), ({ w := 0x00100900, ecc := .ok } : QWord), ([] : List QWord), ({ setCfg [(.busCanConfig, 5, [0x105]), (.busMaintConfig, 0, [1, 0, 0, 0])] (live) with hp := { ready := true, maintEn := true } }), ?_⟩; exact ⟨by decide +kernel, by decide +kernel, by decide +kernel, by decide +kernel, by decide +kernel, by decide +kernel, by decide +kernel, by decide +kernel⟩),
   (by refine ⟨({ first := false, seq := 3, words := [] } : MaintFrame), (1 : Nat), ({ { setCfg [(.busCanConfig, 5, [0x105]), (.busMaintConfig, 0, [1, 0, 0, 0])] (live) with hp := { ready := true, maintEn := true } } with mnt := { rxSeq := some 1 } }), ?_⟩; exact ⟨by decide +kernel, by decide +kernel, by decide +kernel, by decide +kernel, by decide +kernel, by decide +kernel⟩),
   (by refine ⟨({ first := false, seq := 3, words := [] } : MaintFrame), ({ { setCfg [(.busCanConfig, 5, [0x105]), (.busMaintConfig, 0, [1, 0, 0, 0])] (live) with hp := { ready := true, maintEn := true } } with mnt := { rxSeq := some 3 } }), ?_⟩; exact ⟨by decide +kernel, by decide +kernel, by decide +kernel, by decide +kernel, by decide +kernel⟩),
   (by refine ⟨({ first := true, seq := 0, words := [{ w := 0x00100900, ecc := .ok }] } : MaintFrame), ({ { setCfg [(.busCanConfig, 5, [0x105]), (.busMaintConfig, 0, [1, 0, 0, 0])] (live) with hp := { ready := true, maintEn := true } } with maint := { cmdq := List.replicate 1024 { w := 0x00100900, ecc := .ok } } }), ?_⟩; exact ⟨by decide +kernel, by decide +kernel, by decide +kernel, by decide +kernel, by decide +kernel, by decide +kernel⟩),
   (by refine ⟨({ first := true, seq := 0, words := [] } : MaintFrame), (live), ?_⟩; exact by decide +kernel),
   (by refine ⟨({ { setCfg [(.busCanConfig, 5, [0x105]), (.busMaintConfig, 0, [1, 0, 0, 0])] (live) with hp := { ready := true, maintEn := true } } with mnt := { lastFree := 5 } }), ?_⟩; exact ⟨by decide +kernel, by decide +kernel, by decide +kernel⟩),
   (by refine ⟨(live), ?_⟩; exact by decide +kernel)⟩

/-- States that meet the hypotheses of ReadFreezeHoldsTheCalendarAndOutlivesACommit, clause by clause. -/
theorem witness_read_freeze_holds_the_calendar_and_outlives_acommit :
    (∃ (r : Fin 6) (s : State), s.sys.vmain = true ∧ s.time.frozen = none) ∧
    (∃ (r : Fin 6) (m : Nat) (s : State), s.sys.vmain = true ∧ s.time.frozen = some m) ∧
    (∃ (s : State), s.sys.vmain = true ∧ s.time.frozen = none) ∧
    (∃ (m : Nat) (s : State), s.sys.vmain = true ∧ s.time.frozen = some m) ∧
    (∃ (m : Nat) (s : State), s.time.frozen = some m) ∧
    (∃ (s : State), s.time.frozen = none) ∧
    (∃ (m : Nat) (l : RtcLoad) (s : State), s.time.frozen = some m ∧ s.time.load = some l) :=
  ⟨(by refine ⟨(0 : Fin 6), (live), ?_⟩; exact ⟨by decide +kernel, by decide +kernel⟩),
   (by refine ⟨(0 : Fin 6), (0 : Nat), ({ live with time := { frozen := some 0 } }), ?_⟩; exact ⟨by decide +kernel, by decide +kernel⟩),
   (by refine ⟨(live), ?_⟩; exact ⟨by decide +kernel, by decide +kernel⟩),
   (by refine ⟨(0 : Nat), ({ live with time := { frozen := some 0 } }), ?_⟩; exact ⟨by decide +kernel, by decide +kernel⟩),
   (by refine ⟨(0 : Nat), ({ live with time := { frozen := some 0 } }), ?_⟩; exact by decide +kernel),
   (by refine ⟨(live), ?_⟩; exact by decide +kernel),
   (by refine ⟨(0 : Nat), ({ val := 9, source := 1, at_ := 3 } : RtcLoad), ({ live with time := { frozen := some 0, load := some { val := 9, source := 1, at_ := 3 } } }), ?_⟩; exact ⟨by decide +kernel, by decide +kernel⟩)⟩

/-- States that meet the hypotheses of WriteBlocksComeInOrderAndInFull, clause by clause. -/
theorem witness_write_blocks_come_in_order_and_in_full :
    (∃ (p : Port) (c : Cmd) (i : Fin 4) (h : Handle) (s : State) (n : Nat), Heard p c s ∧ c.op = .bulkWrite ∧ s.bulk[i] = some h ∧ fld (wd c.words 0) 31 24 = i.val + 1 ∧ h.fromMod = false ∧ ((∃ r, kindRow h.kind = some r ∧ kindMode h.kind r s = true)) ∧ n = min 254 (h.len - h.data.length) ∧ fld (wd c.words 0) 23 0 = h.next ∧ (c.words.drop 1).length = n) ∧
    (∃ (p : Port) (c : Cmd) (i : Fin 4) (h : Handle) (s : State) (n : Nat), Heard p c s ∧ c.op = .bulkWrite ∧ s.bulk[i] = some h ∧ fld (wd c.words 0) 31 24 = i.val + 1 ∧ h.fromMod = false ∧ ((∃ r, kindRow h.kind = some r ∧ kindMode h.kind r s = true)) ∧ n = min 254 (h.len - h.data.length) ∧ fld (wd c.words 0) 23 0 ≠ h.next) ∧
    (∃ (p : Port) (c : Cmd) (i : Fin 4) (h : Handle) (s : State) (n : Nat), Heard p c s ∧ c.op = .bulkWrite ∧ s.bulk[i] = some h ∧ fld (wd c.words 0) 31 24 = i.val + 1 ∧ h.fromMod = false ∧ ((∃ r, kindRow h.kind = some r ∧ kindMode h.kind r s = true)) ∧ n = min 254 (h.len - h.data.length) ∧ fld (wd c.words 0) 23 0 = h.next ∧ n < (c.words.drop 1).length) ∧
    (∃ (p : Port) (c : Cmd) (i : Fin 4) (h : Handle) (s : State) (n : Nat), Heard p c s ∧ c.op = .bulkWrite ∧ s.bulk[i] = some h ∧ fld (wd c.words 0) 31 24 = i.val + 1 ∧ h.fromMod = false ∧ ((∃ r, kindRow h.kind = some r ∧ kindMode h.kind r s = true)) ∧ n = min 254 (h.len - h.data.length) ∧ fld (wd c.words 0) 23 0 = h.next ∧ (c.words.drop 1).length < n) :=
  ⟨(by refine ⟨(.host : Port), (cmd .bulkWrite [0x01000000, 1, 2, 3]), (0 : Fin 4), ({ port := .host, kind := 0x41, inst := 0, fromMod := false, len := 3, crc := 0, data := [], next := 0, last := 0 } : Handle), (asked (.host : Port) (cmd .bulkWrite [0x01000000, 1, 2, 3]) ({ inMode .commission live with bulk := #v[some { port := .host, kind := 0x41, inst := 0, fromMod := false, len := 3, crc := 0, data := [], next := 0, last := 0 }, none, none, none] })), (min 254 (({ port := .host, kind := 0x41, inst := 0, fromMod := false, len := 3, crc := 0, data := [], next := 0, last := 0 } : Handle).len - ({ port := .host, kind := 0x41, inst := 0, fromMod := false, len := 3, crc := 0, data := [], next := 0, last := 0 } : Handle).data.length) : Nat), ?_⟩; exact ⟨heard_of (by decide +kernel), by decide +kernel, by decide +kernel, by decide +kernel, by decide +kernel, by decide +kernel, rfl, by decide +kernel, by decide +kernel⟩),
   (by refine ⟨(.host : Port), (cmd .bulkWrite [0x01000005, 1, 2, 3]), (0 : Fin 4), ({ port := .host, kind := 0x41, inst := 0, fromMod := false, len := 3, crc := 0, data := [], next := 0, last := 0 } : Handle), (asked (.host : Port) (cmd .bulkWrite [0x01000005, 1, 2, 3]) ({ inMode .commission live with bulk := #v[some { port := .host, kind := 0x41, inst := 0, fromMod := false, len := 3, crc := 0, data := [], next := 0, last := 0 }, none, none, none] })), (min 254 (({ port := .host, kind := 0x41, inst := 0, fromMod := false, len := 3, crc := 0, data := [], next := 0, last := 0 } : Handle).len - ({ port := .host, kind := 0x41, inst := 0, fromMod := false, len := 3, crc := 0, data := [], next := 0, last := 0 } : Handle).data.length) : Nat), ?_⟩; exact ⟨heard_of (by decide +kernel), by decide +kernel, by decide +kernel, by decide +kernel, by decide +kernel, by decide +kernel, rfl, by decide +kernel⟩),
   (by refine ⟨(.host : Port), (cmd .bulkWrite [0x01000000, 1, 2, 3, 4]), (0 : Fin 4), ({ port := .host, kind := 0x41, inst := 0, fromMod := false, len := 3, crc := 0, data := [], next := 0, last := 0 } : Handle), (asked (.host : Port) (cmd .bulkWrite [0x01000000, 1, 2, 3, 4]) ({ inMode .commission live with bulk := #v[some { port := .host, kind := 0x41, inst := 0, fromMod := false, len := 3, crc := 0, data := [], next := 0, last := 0 }, none, none, none] })), (min 254 (({ port := .host, kind := 0x41, inst := 0, fromMod := false, len := 3, crc := 0, data := [], next := 0, last := 0 } : Handle).len - ({ port := .host, kind := 0x41, inst := 0, fromMod := false, len := 3, crc := 0, data := [], next := 0, last := 0 } : Handle).data.length) : Nat), ?_⟩; exact ⟨heard_of (by decide +kernel), by decide +kernel, by decide +kernel, by decide +kernel, by decide +kernel, by decide +kernel, rfl, by decide +kernel, by decide +kernel⟩),
   (by refine ⟨(.host : Port), (cmd .bulkWrite [0x01000000, 1, 2]), (0 : Fin 4), ({ port := .host, kind := 0x41, inst := 0, fromMod := false, len := 3, crc := 0, data := [], next := 0, last := 0 } : Handle), (asked (.host : Port) (cmd .bulkWrite [0x01000000, 1, 2]) ({ inMode .commission live with bulk := #v[some { port := .host, kind := 0x41, inst := 0, fromMod := false, len := 3, crc := 0, data := [], next := 0, last := 0 }, none, none, none] })), (min 254 (({ port := .host, kind := 0x41, inst := 0, fromMod := false, len := 3, crc := 0, data := [], next := 0, last := 0 } : Handle).len - ({ port := .host, kind := 0x41, inst := 0, fromMod := false, len := 3, crc := 0, data := [], next := 0, last := 0 } : Handle).data.length) : Nat), ?_⟩; exact ⟨heard_of (by decide +kernel), by decide +kernel, by decide +kernel, by decide +kernel, by decide +kernel, by decide +kernel, rfl, by decide +kernel, by decide +kernel⟩)⟩

/-- States that meet the hypotheses of ReceiveFifoKeepsItsFramesWhenFull, clause by clause. -/
theorem witness_receive_fifo_keeps_its_frames_when_full :
    (∃ (c : Fin 6) (f : CanFrame) (sof : Nat) (i : Fin 32) (s : State), canActive s c = true ∧ ((fins 32).find? fun i => filterHit f (s.can[c]).filters[i]) = some i ∧ (s.can[c]).fifo.length < 64) ∧
    (∃ (c : Fin 6) (f : CanFrame) (sof : Nat) (i : Fin 32) (s : State), canActive s c = true ∧ ((fins 32).find? fun i => filterHit f (s.can[c]).filters[i]) = some i ∧ 64 ≤ (s.can[c]).fifo.length) :=
  ⟨(by refine ⟨(0 : Fin 6), ({ id := 5, data := [1] } : CanFrame), (0 : Nat), (0 : Fin 32), ((setCfg [(.busCanConfig, 0, [0x100])] (live)).onCan fun v => put v 0 { filters := Vector.replicate 32 { enable := true } }), ?_⟩; exact ⟨by decide +kernel, by decide +kernel, by decide +kernel⟩),
   (by refine ⟨(0 : Fin 6), ({ id := 5, data := [1] } : CanFrame), (0 : Nat), (0 : Fin 32), ((setCfg [(.busCanConfig, 0, [0x100])] (live)).onCan fun v => put v 0 { filters := Vector.replicate 32 { enable := true }, fifo := List.replicate 64 { f := {}, stamp := 0, filter := 0 } }), ?_⟩; exact ⟨by decide +kernel, by decide +kernel, by decide +kernel⟩)⟩

/-- States that meet the hypotheses of WakeBudgetIsSetInRangeOnly, clause by clause. -/
theorem witness_wake_budget_is_set_in_range_only :
    (∃ (p : Port) (c : Cmd) (s : State) (b : Nat), Heard p c s ∧ c.op = .sysSetWake ∧ c.words.length = 1 ∧ b = fld (wd c.words 0) 23 0) ∧
    (∃ (p : Port) (c : Cmd) (w : Word) (o : Outst) (s : State), (s.port p).accepted = some c ∧ c.ecc = [] ∧ c.op = .sysSetWake ∧ c.words = [w] ∧ findTag (s.port p) c.tag = some o ∧ o.done = false ∧ o.op = c.op ∧ (fld w 23 0 = 0 ∨ 10000000 < fld w 23 0)) :=
  ⟨(by refine ⟨(.host : Port), (cmd .sysSetWake [5]), (asked (.host : Port) (cmd .sysSetWake [5]) (live)), (fld (wd (cmd .sysSetWake [5]).words 0) 23 0 : Nat), ?_⟩; exact ⟨heard_of (by decide +kernel), by decide +kernel, by decide +kernel, rfl⟩),
   (by refine ⟨(.host : Port), (cmd .sysSetWake [0]), (0 : Word), ({ tag := 9, op := .sysSetWake, resv := 2 } : Outst), (asked .host (cmd .sysSetWake [0]) live), ?_⟩; exact ⟨by decide +kernel, by decide +kernel, by decide +kernel, by decide +kernel, by decide +kernel, by decide +kernel, by decide +kernel, by decide +kernel⟩)⟩

/-- States that meet the hypotheses of AlarmSettingsReplaceOrStay, clause by clause. -/
theorem witness_alarm_settings_replace_or_stay :
    (∃ (p : Port) (c : Cmd) (i : Fin 2) (s : State), Heard p c s ∧ c.op = .timeSetAlarm ∧ fld (wd c.words 0) 9 8 = 0 ∧ i.val = b2n (bit (wd c.words 0) 0)) ∧
    (∃ (p : Port) (c : Cmd) (i : Fin 2) (s : State), Heard p c s ∧ c.op = .timeSetAlarm ∧ (fld (wd c.words 0) 9 8 = 1 ∨ fld (wd c.words 0) 9 8 = 2) ∧ i.val = b2n (bit (wd c.words 0) 0) ∧ ((fld (wd c.words 0) 9 8 = 1 → validDate (fld (wd c.words 1) 31 16) (fld (wd c.words 1) 15 8) (fld (wd c.words 1) 7 0) = true ∧ s.time.rtc < alarmInstant (wd c.words 1) (wd c.words 2))) ∧ wd c.words 2 &&& 0xFFE0C0C0 = 0 ∧ validTime (fld (wd c.words 2) 20 16) (fld (wd c.words 2) 13 8) (fld (wd c.words 2) 5 0) = true) ∧
    (∃ (p : Port) (c : Cmd) (s : State), Heard p c s ∧ c.op = .timeSetAlarm ∧ fld (wd c.words 0) 9 8 = 1 ∧ validDate (fld (wd c.words 1) 31 16) (fld (wd c.words 1) 15 8) (fld (wd c.words 1) 7 0) = true ∧ wd c.words 2 &&& 0xFFE0C0C0 = 0 ∧ validTime (fld (wd c.words 2) 20 16) (fld (wd c.words 2) 13 8) (fld (wd c.words 2) 5 0) = true ∧ alarmInstant (wd c.words 1) (wd c.words 2) ≤ s.time.rtc) :=
  ⟨(by refine ⟨(.host : Port), (cmd .timeSetAlarm []), (0 : Fin 2), (asked (.host : Port) (cmd .timeSetAlarm []) (live)), ?_⟩; exact ⟨heard_of (by decide +kernel), by decide +kernel, by decide +kernel, by decide +kernel⟩),
   (by refine ⟨(.host : Port), (cmd .timeSetAlarm [0x200, 0, 0x00010101]), (0 : Fin 2), (asked (.host : Port) (cmd .timeSetAlarm [0x200, 0, 0x00010101]) (live)), ?_⟩; exact ⟨heard_of (by decide +kernel), by decide +kernel, by decide +kernel, by decide +kernel, by decide +kernel, by decide +kernel, by decide +kernel⟩),
   (by refine ⟨(.host : Port), (cmd .timeSetAlarm [0x100, 0x07D10101, 0]), (asked (.host : Port) (cmd .timeSetAlarm [0x100, 0x07D10101, 0]) ({ live with time := { rtc := 32768000000000 } })), ?_⟩; exact ⟨heard_of (by decide +kernel), by decide +kernel, by decide +kernel, by decide +kernel, by decide +kernel, by decide +kernel, by decide +kernel⟩)⟩

/-- States that meet the hypotheses of OneSubscriberPerStreamUntilReset, clause by clause. -/
theorem witness_one_subscriber_per_stream_until_reset :
    (∃ (p : Port) (c : Cmd) (s : State), Heard p c s ∧ c.op = .fusStateStream) ∧
    (∃ (temps : Vector Int 4) (p : Port) (d : Nat) (s : State), s.sys.vmain = true ∧ s.time.mtRun = true ∧ s.hp.ready = true ∧ s.fus.streamReq = some (p, d)) ∧
    (∃ (p : Port) (c : Cmd) (s : State), Heard p c s ∧ c.op = .dpcStateStream) ∧
    (∃ (p : Port) (c : Cmd) (s : State), Heard p c s ∧ c.op = .allocStateStream) ∧
    (∃ (p : Port) (c : Cmd) (s : State), Heard p c s ∧ c.op = .fusSensorStream) ∧
    (∃ (p : Port) (c : Cmd) (s : State), Heard p c s ∧ c.op = .busStream ∧ fld (wd c.words 0) 7 4 = 0 ∧ fld (wd c.words 0) 3 0 ≤ 5) ∧
    (∃ (p : Port) (c : Cmd) (s : State), Heard p c s ∧ c.op = .busStream ∧ fld (wd c.words 0) 7 4 = 1 ∧ fld (wd c.words 0) 3 0 ≤ 9) ∧
    (∃ (p : Port) (c : Cmd) (s : State), Heard p c s ∧ c.op = .gnssStream ∧ fld (wd c.words 0) 1 0 = 3) ∧
    (∃ (p : Port) (c : Cmd) (b : Fin 2) (k : Nat) (s : State), Heard p c s ∧ c.op = .gnssStream ∧ bit (wd c.words 0) (8 + b.val) = true ∧ k = fld (wd c.words 0) 1 0 ∧ k ≠ 3) ∧
    (∃ (p : Port) (c : Cmd) (s : State), Heard p c s ∧ c.op = .sysReset ∧ s.sys.vmain = true ∧ withinReset s = false) ∧
    (∃ (n : Nat) (s : State), 1000 ≤ n ∧ s.sys.rstLow = false ∧ s.sys.vmain = true ∧ withinReset s = false) ∧
    (∃ (s : State), s.hp.ready = true ∧ s.sys.wdDelay = none ∧ partnerWasReady s = false ∧ s.sys.vmain = true ∧ withinReset s = false) ∧
    (∃ (n : Nat) (s : State), s.sys.wdDelay = some n ∧ s.sys.vmain = true ∧ withinReset s = false) ∧
    (∃ (n : Nat) (s : State), s.kiln.cdBadSince = some n ∧ s.kiln.cdBad = false ∧ s.kiln.st ≠ .off ∧ s.sys.vmain = true ∧ withinReset s = false) ∧
    (∃ (fate : SlotFate) (s : State), s.sys.vmain = true) :=
  ⟨(by refine ⟨(.host : Port), (cmd .fusStateStream []), (asked (.host : Port) (cmd .fusStateStream []) (live)), ?_⟩; exact ⟨heard_of (by decide +kernel), by decide +kernel⟩),
   (by refine ⟨(Vector.replicate 4 0 : Vector Int 4), (.maint : Port), (5 : Nat), ({ live with fus := { streamReq := some (.maint, 5) } }), ?_⟩; exact ⟨by decide +kernel, by decide +kernel, by decide +kernel, by decide +kernel⟩),
   (by refine ⟨(.host : Port), (cmd .dpcStateStream []), (asked (.host : Port) (cmd .dpcStateStream []) (live)), ?_⟩; exact ⟨heard_of (by decide +kernel), by decide +kernel⟩),
   (by refine ⟨(.host : Port), (cmd .allocStateStream []), (asked (.host : Port) (cmd .allocStateStream []) (live)), ?_⟩; exact ⟨heard_of (by decide +kernel), by decide +kernel⟩),
   (by refine ⟨(.host : Port), (cmd .fusSensorStream []), (asked (.host : Port) (cmd .fusSensorStream []) (live)), ?_⟩; exact ⟨heard_of (by decide +kernel), by decide +kernel⟩),
   (by refine ⟨(.host : Port), (cmd .busStream []), (asked (.host : Port) (cmd .busStream []) (live)), ?_⟩; exact ⟨heard_of (by decide +kernel), by decide +kernel, by decide +kernel, by decide +kernel⟩),
   (by refine ⟨(.host : Port), (cmd .busStream [0x13]), (asked (.host : Port) (cmd .busStream [0x13]) (live)), ?_⟩; exact ⟨heard_of (by decide +kernel), by decide +kernel, by decide +kernel, by decide +kernel⟩),
   (by refine ⟨(.host : Port), (cmd .gnssStream [0x00020003]), (asked (.host : Port) (cmd .gnssStream [0x00020003]) (live)), ?_⟩; exact ⟨heard_of (by decide +kernel), by decide +kernel, by decide +kernel⟩),
   (by refine ⟨(.host : Port), (cmd .gnssStream [0x00020101]), (0 : Fin 2), (1 : Nat), (asked (.host : Port) (cmd .gnssStream [0x00020101]) (live)), ?_⟩; exact ⟨heard_of (by decide +kernel), by decide +kernel, by decide +kernel, by decide +kernel, by decide +kernel⟩),
   (by refine ⟨(.host : Port), (cmd .sysReset []), (asked (.host : Port) (cmd .sysReset []) (live)), ?_⟩; exact ⟨heard_of (by decide +kernel), by decide +kernel, by decide +kernel, by decide +kernel⟩),
   (by refine ⟨(1000 : Nat), (live), ?_⟩; exact ⟨by decide +kernel, by decide +kernel, by decide +kernel, by decide +kernel⟩),
   (by refine ⟨(live), ?_⟩; exact ⟨by decide +kernel, by decide +kernel, by decide +kernel, by decide +kernel, by decide +kernel⟩),
   (by refine ⟨(5 : Nat), ({ live with sys := { live.sys with wdDelay := some 5 } }), ?_⟩; exact ⟨by decide +kernel, by decide +kernel, by decide +kernel⟩),
   (by refine ⟨(5 : Nat), ({ live with kiln := { st := .run, cdBadSince := some 5 }, time := { mt := 100000000, now := 100000000 } }), ?_⟩; exact ⟨by decide +kernel, by decide +kernel, by decide +kernel, by decide +kernel, by decide +kernel⟩),
   (by refine ⟨(.unwritten : SlotFate), (live), ?_⟩; exact by decide +kernel)⟩

/-- States that meet the hypotheses of PendingEnabledRoutedSourcesPullTheirLine, clause by clause. -/
theorem witness_pending_enabled_routed_sources_pull_their_line :
    (∃ (n : Fin 128) (d : Nat) (s : State), s.hp.ready = true) ∧
    (∃ (n : Fin 4) (l : Nat) (s : State), s.sys.vmain = true ∧ ((∀ i : Fin 128, i.val / 32 ≠ n.val → (s.ev.src[i]).mask = false))) :=
  ⟨(by refine ⟨(0 : Fin 128), (0 : Nat), (live), ?_⟩; exact by decide +kernel),
   (by refine ⟨(0 : Fin 4), (0 : Nat), (live), ?_⟩; exact ⟨by decide +kernel, by decide +kernel⟩)⟩

/-- States that meet the hypotheses of WindowReadsReturnTheRegisterWritten, clause by clause. -/
theorem witness_window_reads_return_the_register_written :
    (∃ (a : Nat) (s : State), (a = 31 ∨ 48 ≤ a)) ∧
    (∃ (a : BitVec 8) (v : Word) (s : State), s.sys.vmain = true ∧ (a.toNat = 31 ∨ 48 ≤ a.toNat)) ∧
    (∃ (a : BitVec 8) (i : Fin 16) (v : Word) (s : State), s.sys.vmain = true ∧ a.toNat = 32 + i.val) ∧
    (∃ (a : BitVec 8) (i : Fin 7) (v : Word) (s : State), s.sys.vmain = true ∧ a.toNat = 24 + i.val) ∧
    (∃ (v : Word) (s : State), s.sys.vmain = true ∧ 1 ≤ fld v 23 0 ∧ fld v 23 0 ≤ 10000000) ∧
    (∃ (v : Word) (s : State), s.sys.vmain = true ∧ (fld v 23 0 = 0 ∨ 10000000 < fld v 23 0)) ∧
    (∃ (n : Fin 4) (v : Word) (s : State), s.sys.vmain = true) ∧
    (∃ (a : BitVec 8) (v : Word) (s : State), s.sys.vmain = false) :=
  ⟨(by refine ⟨(31 : Nat), (live), ?_⟩; exact by decide +kernel),
   (by refine ⟨(31 : BitVec 8), (0 : Word), (live), ?_⟩; exact ⟨by decide +kernel, by decide +kernel⟩),
   (by refine ⟨(32 : BitVec 8), (0 : Fin 16), (0 : Word), (live), ?_⟩; exact ⟨by decide +kernel, by decide +kernel⟩),
   (by refine ⟨(24 : BitVec 8), (0 : Fin 7), (77 : Word), (live), ?_⟩; exact ⟨by decide +kernel, by decide +kernel⟩),
   (by refine ⟨(500 : Word), (live), ?_⟩; exact ⟨by decide +kernel, by decide +kernel, by decide +kernel⟩),
   (by refine ⟨(0 : Word), (live), ?_⟩; exact ⟨by decide +kernel, by decide +kernel⟩),
   (by refine ⟨(0 : Fin 4), (0 : Word), (live), ?_⟩; exact by decide +kernel),
   (by refine ⟨(0 : BitVec 8), (0 : Word), ({ live with sys := { live.sys with vmain := false } }), ?_⟩; exact by decide +kernel)⟩

/-- States that meet the hypotheses of LaneValuesAreStoredRoundedAndSaturated, clause by clause. -/
theorem witness_lane_values_are_stored_rounded_and_saturated :
    (∃ (f : Int) (x : F64), (laneOf x = .nan ∨ (∃ neg, laneOf x = .inf neg))) ∧
    (∃ (f : Int) (e : Int) (x : F64) (neg : Bool) (m : Nat) (v : Int), laneOf x = .fin neg m e ∧ v = (if neg then -(m : Int) else m) ∧ 0 ≤ e + f) ∧
    (∃ (f : Int) (e : Int) (x : F64) (neg : Bool) (m : Nat) (v : Int) (d : Nat), laneOf x = .fin neg m e ∧ v = (if neg then -(m : Int) else m) ∧ e + f < 0 ∧ d = 2 ^ (-(e + f)).toNat) ∧
    (∃ (f : Int) (n : Int), -32 ≤ f ∧ f ≤ 96 ∧ n.natAbs ≤ 2 ^ 53) ∧
    (∃ (x : Struct) (tau : F64) (o : LaneOp) (l : LaneSt), l.fail ≠ none) ∧
    (∃ (x : Struct) (tau : F64) (q : Nat) (r : Nat) (a : Nat) (kkt : Nat) (l : LaneSt), l.fail = none ∧ storeQ (fmtAt x q r) (laneReg l a) = none) ∧
    (∃ (x : Struct) (tau : F64) (q : Nat) (r : Nat) (a : Nat) (kkt : Nat) (n : Int) (sat : Bool) (l : LaneSt), l.fail = none ∧ storeQ (fmtAt x q r) (laneReg l a) = some (n, sat)) ∧
    (∃ (tau : F64) (sign : Fin 3) (diag : List F64) (p : F64) (lim : F64), lim = fmaF tau (diag.foldl (fun m d => if ltAbs m d then absF d else m) 0) 0) :=
  ⟨(by refine ⟨(0 : Int), (0x7FF8000000000000 : F64), ?_⟩; exact by decide +kernel),
   (by refine ⟨(52 : Int), (-52 : Int), (0x3FF0000000000000 : F64), (false : Bool), (4503599627370496 : Nat), ((if (false : Bool) then -((4503599627370496 : Nat) : Int) else (4503599627370496 : Nat)) : Int), ?_⟩; exact ⟨by decide +kernel, rfl, by decide +kernel⟩),
   (by refine ⟨(0 : Int), (-52 : Int), (0x3FF8000000000000 : F64), (false : Bool), (6755399441055744 : Nat), ((if (false : Bool) then -((6755399441055744 : Nat) : Int) else (6755399441055744 : Nat)) : Int), (2 ^ (-((-52 : Int) + (0 : Int))).toNat : Nat), ?_⟩; exact ⟨by decide +kernel, rfl, by decide +kernel, rfl⟩),
   (by refine ⟨(0 : Int), (0 : Int), ?_⟩; exact ⟨by decide +kernel, by decide +kernel, by decide +kernel⟩),
   (by refine ⟨({ sid := 0 } : Struct), (0 : F64), (.const 0 0 : LaneOp), ({ fail := some 3 } : LaneSt), ?_⟩; exact by decide +kernel),
   (by refine ⟨({ sid := 0 } : Struct), (0 : F64), (0 : Nat), (0 : Nat), (0 : Nat), (0 : Nat), ({ regs := [(0, 0x7FF8000000000000)] } : LaneSt), ?_⟩; exact ⟨by decide +kernel, by decide +kernel⟩),
   (by refine ⟨({ sid := 0 } : Struct), (0 : F64), (0 : Nat), (0 : Nat), (0 : Nat), (0 : Nat), (1 : Int), (false : Bool), ({ regs := [(0, 0x3FF0000000000000)] } : LaneSt), ?_⟩; exact ⟨by decide +kernel, by decide +kernel⟩),
   (by refine ⟨(0 : F64), (0 : Fin 3), ([] : List F64), (0 : F64), (fmaF (0 : F64) (([] : List F64).foldl (fun m d => if ltAbs m d then absF d else m) 0) 0 : F64), ?_⟩; exact rfl)⟩

/-- A state that meets the hypotheses of WeekIsResolvedIntoTheWindowOfTheImage. -/
theorem witness_week_is_resolved_into_the_window_of_the_image :
    (∃ (im : Fin 2) (w : Nat), w < 1024) :=
  (by refine ⟨(0 : Fin 2), (0 : Nat), ?_⟩; exact by decide +kernel)

end Sys2Proof.Tests
end

section
/-! The register window (2.11): which register each word address holds, and what a read or a write of it does. -/

namespace Sys2Proof.Machine

/-! The map of word addresses (Table 2-10). -/

theorem regIdx_base_add {n : Nat} (base : Nat) (i : Fin n) : regIdx n base (base + i.val) = some i := by
  simp [regIdx]

theorem regIdx_eq_none {n base a : Nat} (h : a < base ∨ base + n ≤ a) : regIdx n base a = none := by
  unfold regIdx fin?
  split
  · exact dif_neg (by omega)
  · rfl

/-- The rows of Table 2-10: what a word address of the window holds. -/
inductive WindowRow : Nat → Prop where
  | id : WindowRow 0
  | stat : WindowRow 1
  | cmdq : WindowRow 2
  | rspq : WindowRow 3
  | cqLvl : WindowRow 4
  | rqLvl : WindowRow 5
  | ecc : WindowRow 6
  | wake : WindowRow 7
  | irq (n : Fin 4) : WindowRow (8 + n.val)
  | imsk (n : Fin 4) : WindowRow (12 + n.val)
  | clock (i : Fin 7) : WindowRow (16 + i.val)
  | rtcCtl : WindowRow 23
  | staging (i : Fin 7) : WindowRow (24 + i.val)
  | backup (i : Fin 16) : WindowRow (32 + i.val)
  | unassigned (a : Nat) (h : a = 31 ∨ 48 ≤ a) : WindowRow a

/-- An address in a run of n registers from base is the base plus an index. -/
theorem exists_base_add {n base a : Nat} (hlo : base ≤ a) (hhi : a < base + n) : ∃ i : Fin n, a = base + i.val :=
  ⟨⟨a - base, by omega⟩, by simp; omega⟩

theorem windowRow (a : Nat) : WindowRow a := by
  by_cases h8 : a < 8
  · interval_cases a <;> constructor
  by_cases h12 : a < 12
  · obtain ⟨n, rfl⟩ := exists_base_add (n := 4) (base := 8) (by omega) h12
    exact .irq n
  by_cases h16 : a < 16
  · obtain ⟨n, rfl⟩ := exists_base_add (n := 4) (base := 12) (by omega) h16
    exact .imsk n
  by_cases h23 : a < 23
  · obtain ⟨i, rfl⟩ := exists_base_add (n := 7) (base := 16) (by omega) h23
    exact .clock i
  by_cases h24 : a = 23
  · exact h24 ▸ .rtcCtl
  by_cases h31 : a < 31
  · obtain ⟨i, rfl⟩ := exists_base_add (n := 7) (base := 24) (by omega) h31
    exact .staging i
  by_cases hin : 32 ≤ a ∧ a < 48
  · obtain ⟨i, rfl⟩ := exists_base_add (n := 16) hin.1 hin.2
    exact .backup i
  exact .unassigned a (by omega)

/-! Reads, row by row. -/

theorem regRead_hpId (s : State) : regRead 0 s = hpId := by simp only [regRead]

theorem regRead_hpStat (s : State) : regRead 1 s = hpStat s := by simp only [regRead]

/-- HP_CMDQ is write-only (Table 2-10). -/
theorem regRead_hpCmdq (s : State) : regRead 2 s = 0 := by
  rw [regRead.eq_def]
  simp (disch := omega) [regIdx_eq_none]

theorem regRead_hpRspq (s : State) : regRead 3 s = s.host.rspq.headD 0 := by simp only [regRead]

theorem regRead_hpCqLvl (s : State) : regRead 4 s = hpCqLvl s := by simp only [regRead]

theorem regRead_hpRqLvl (s : State) : regRead 5 s = hpRqLvl s := by simp only [regRead]

theorem regRead_hpEcc (s : State) : regRead 6 s = hpEcc s.hp.ecc := by simp only [regRead]

theorem regRead_hpWake (s : State) : regRead 7 s = ofN s.hp.wakeBudget := by simp only [regRead]

theorem regRead_rtcCtl (s : State) : regRead 23 s = rtcCtl s.time := by simp only [regRead]

@[simp] theorem regRead_hpIrq (n : Fin 4) (s : State) : regRead (8 + n.val) s = hpIrq s n := by
  rw [regRead.eq_def]
  simp (disch := omega) [regIdx_base_add]

@[simp] theorem regRead_hpImsk (n : Fin 4) (s : State) : regRead (12 + n.val) s = hpImsk s n := by
  rw [regRead.eq_def]
  simp (disch := omega) [regIdx_base_add, regIdx_eq_none]

/-- The time registers show the frozen shadow, or the running clock (R93). -/
@[simp] theorem regRead_clock (i : Fin 7) (s : State) :
    regRead (16 + i.val) s = ofN ((rtcFields (if s.time.frozen.isSome then s.time.shadow else s.time.rtc)).getD i.val 0) := by
  rw [regRead.eq_def]
  simp (disch := omega) [regIdx_base_add, regIdx_eq_none]

@[simp] theorem regRead_staging (i : Fin 7) (s : State) : regRead (24 + i.val) s = ofN s.time.stg[i] := by
  rw [regRead.eq_def]
  simp (disch := omega) [regIdx_base_add, regIdx_eq_none]

@[simp] theorem regRead_backup (i : Fin 16) (s : State) : regRead (32 + i.val) s = s.time.emb[i] := by
  rw [regRead.eq_def]
  simp (disch := omega) [regIdx_base_add, regIdx_eq_none]

theorem regRead_unassigned {a : Nat} (h : a = 31 ∨ 48 ≤ a) (s : State) : regRead a s = 0 := by
  rw [regRead.eq_def]
  simp (disch := omega) [regIdx_eq_none]

/-! Writes, row by row (R32). -/

@[simp] theorem regWrite_hpIrq (n : Fin 4) (v : Word) (s : State) : regWrite (8 + n.val) v s = irqClear n v 0 s := by
  rw [regWrite]
  simp (disch := omega) only [if_neg, regIdx_base_add, regIdx_eq_none]

@[simp] theorem regWrite_hpImsk (n : Fin 4) (v : Word) (s : State) : regWrite (12 + n.val) v s = imskWrite n v s := by
  rw [regWrite]
  simp (disch := omega) only [if_neg, regIdx_base_add, regIdx_eq_none]

@[simp] theorem regWrite_staging (i : Fin 7) (v : Word) (s : State) : regWrite (24 + i.val) v s =
    ack (s.onTime fun t => { t with stg := t.stg.set i (v.toNat % 2 ^ stgWidth.getD i.val 0) }) := by
  rw [regWrite]
  simp (disch := omega) only [if_neg, regIdx_base_add, regIdx_eq_none]

@[simp] theorem regWrite_backup (i : Fin 16) (v : Word) (s : State) :
    regWrite (32 + i.val) v s = ack (s.onTime fun t => { t with emb := t.emb.set i v }) := by
  rw [regWrite]
  simp (disch := omega) only [if_neg, regIdx_base_add, regIdx_eq_none]

/-- An address of a read-only register, or of none, takes no value. -/
theorem regWrite_takesNothing {a : Nat} (h : a = 0 ∨ (3 ≤ a ∧ a ≤ 6) ∨ (16 ≤ a ∧ a ≤ 22) ∨ a = 31 ∨ 48 ≤ a) (v : Word) (s : State) :
    regWrite a v s = ack s := by
  rw [regWrite]
  simp (disch := omega) only [if_neg, regIdx_eq_none]

/-! What the port's writes hold and leave (2.11). -/

@[simp] theorem ack_hp (s : State) : (ack s).hp = { s.hp with acked := true } := rfl

theorem setBudget_hp (us : Nat) (s : State) : (setBudget us s).hp = { s.hp with wakeBudget := us } :=
  startExits_same _ _ .hp (by decide)

/-- R63: a budget of 1 to 10,000,000 us is taken. -/
theorem wakeWrite_inRange {v : Word} (hlo : 1 ≤ fld v 23 0) (hhi : fld v 23 0 ≤ 10000000) (s : State) :
    wakeWrite v s = ack (setBudget (fld v 23 0) s) := by
  have hin : ¬ (fld v 23 0 = 0 ∨ 10000000 < fld v 23 0) := by omega
  simp [wakeWrite, hin]

/-- R63: any other budget is refused. -/
theorem wakeWrite_outOfRange {v : Word} (h : fld v 23 0 = 0 ∨ 10000000 < fld v 23 0) (s : State) :
    wakeWrite v s = ack (s.onHp fun p => { p with wakeRej := true }) := by
  simp [wakeWrite, h]

theorem wakeWrite_inRange_hp {v : Word} (hlo : 1 ≤ fld v 23 0) (hhi : fld v 23 0 ≤ 10000000) (s : State) :
    (wakeWrite v s).hp = { s.hp with wakeBudget := fld v 23 0, acked := true } := by
  rw [wakeWrite_inRange hlo hhi, ack_hp, setBudget_hp]

@[simp] theorem irqClear_hp (n : Fin 4) (v d : Word) (s : State) : (irqClear n v d s).hp = { s.hp with acked := true } := rfl

@[simp] theorem irqClear_heldNotices (n : Fin 4) (v d : Word) (s : State) : (irqClear n v d s).ev.heldNotices = s.ev.heldNotices := by
  simp only [irqClear, ack, State.onHp_ev, State.onEv_ev]

theorem irqClear_src (n : Fin 4) (v d : Word) (s : State) (i : Fin 128) :
    (irqClear n v d s).ev.src[i] = { s.ev.src[i] with pend :=
      if i.val / 32 = n.val then ((s.ev.src[i]).pend && !bit v (i.val % 32)) || bit d (i.val % 32) || (i.val == 0 && !s.host.rspq.isEmpty)
      else (s.ev.src[i]).pend } := by
  simp only [irqClear, ack, w1c, State.onHp_ev, State.onEv_ev, Fin.getElem_fin, vmapI_getElem]
  split <;> rfl

@[simp] theorem imskWrite_hp (n : Fin 4) (v : Word) (s : State) : (imskWrite n v s).hp = { s.hp with acked := true } := rfl

@[simp] theorem imskWrite_heldNotices (n : Fin 4) (v : Word) (s : State) : (imskWrite n v s).ev.heldNotices = s.ev.heldNotices := by
  simp only [imskWrite, ack, State.onHp_ev, State.onEv_ev]

theorem imskWrite_src (n : Fin 4) (v : Word) (s : State) (i : Fin 128) : (imskWrite n v s).ev.src[i] =
    { s.ev.src[i] with mask := if i.val / 32 = n.val then bit v (i.val % 32) else (s.ev.src[i]).mask } := by
  simp only [imskWrite, ack, State.onHp_ev, State.onEv_ev, Fin.getElem_fin, vmapI_getElem]
  split <;> rfl

/-! An access runs its operation while VMAIN powers the port, and does nothing without it (R31). -/

theorem steps_powered {i : Instr} {s t : State} (hexec : exec i s = .next (if portUp s then t else s)) (h : s.sys.vmain = true) :
    Steps i s t := by
  have hup : portUp s = true := h
  rw [Steps, hexec, if_pos hup]

theorem steps_unpowered {i : Instr} {s t : State} (hexec : exec i s = .next (if portUp s then t else s)) (h : s.sys.vmain = false) :
    Steps i s s := by
  have hdown : portUp s = false := h
  rw [Steps, hexec, hdown]
  rfl

theorem hpLine_unpowered (active : Bool) {s : State} (h : s.sys.vmain = false) : hpLine active s = .highZ := by
  have hdown : portUp s = false := h
  simp [hpLine, hdown]

theorem exec_hpWakeWrite (v : Word) (s : State) : exec (.hpWakeWrite v) s = .next (if portUp s then wakeWrite v s else s) := rfl

theorem exec_hpStatClear (v d : Word) (s : State) : exec (.hpStatClear v d) s = .next (if portUp s then statClear v d s else s) := rfl

theorem exec_hpIrqClear (n : Fin 4) (v d : Word) (s : State) :
    exec (.hpIrqClear n v d) s = .next (if portUp s then irqClear n v d s else s) := rfl

theorem exec_hpImskWrite (n : Fin 4) (v : Word) (s : State) :
    exec (.hpImskWrite n v) s = .next (if portUp s then imskWrite n v s else s) := rfl

theorem exec_hpRspqRead (e : Ecc) (s : State) : exec (.hpRspqRead e) s = .next (if portUp s then rspqRead e s else s) := rfl

theorem exec_rtcCtlClear (v d : Word) (s : State) : exec (.rtcCtlClear v d) s = .next (if portUp s then rtcCtlWrite v d s else s) := rfl

theorem exec_registerWrite (a : BitVec 8) (v : Word) (s : State) :
    exec (.registerWrite a v) s = .next (if portUp s then regWrite a.toNat v s else s) := rfl

/-- HP_CMDQ_WRITE makes the check of VMAIN with that of a withheld word; either way it is the check of every row (R31). -/
theorem exec_hpCmdqWrite (v : Word) (e : Ecc) (s : State) : exec (.hpCmdqWrite v e) s = .next (if portUp s then cmdqWrite v e s else s) := by
  change Host.Outcome.next (cmdqWrite v e s) = _
  split
  · rfl
  · next hdown => simp [cmdqWrite, hdown]

/-- A write to a read-only or unassigned address is acknowledged and does no more (R6, R32). -/
theorem registerWrite_onlyAcknowledged {a : BitVec 8} (v : Word) {s : State} (h : s.sys.vmain = true)
    (ha : a.toNat = 0 ∨ (3 ≤ a.toNat ∧ a.toNat ≤ 6) ∨ (16 ≤ a.toNat ∧ a.toNat ≤ 22) ∨ a.toNat = 31 ∨ 48 ≤ a.toNat) :
    ∃ t, Steps (.registerWrite a v) s t ∧ SameBut [.hp] s t ∧ t.hp = { s.hp with acked := true } := by
  have hs := steps_powered (exec_registerWrite a v s) h
  rw [regWrite_takesNothing ha] at hs
  exact ⟨_, hs, ack_same s, ack_hp s⟩

/-! The words of event bits (Table 2-17). -/

/-- The powers of two of the set bits add up to the number. -/
theorem sum_setBits_range (m k : Nat) : ((List.range k).map fun b => if m.testBit b then 2 ^ b else 0).sum = m % 2 ^ k := by
  induction k with
  | zero => simp [Nat.mod_one]
  | succ k ih =>
    rw [List.range_succ, List.map_append, List.sum_append, ih, Nat.mod_pow_succ, ← Nat.toNat_testBit]
    cases h : m.testBit k <;> simp [h]

theorem ofN_sum_bits (v : Word) : ofN (((List.finRange 32).map fun b => if bit v b.val then 2 ^ b.val else 0).sum) = v := by
  have hsum := sum_setBits_range v.toNat 32
  rw [← List.map_coe_finRange_eq_range, List.map_map] at hsum
  calc ofN (((List.finRange 32).map fun b => if bit v b.val then 2 ^ b.val else 0).sum)
      _ = ofN (v.toNat % 2 ^ 32) := congrArg ofN hsum
      _ = v := by rw [Nat.mod_eq_of_lt v.isLt, ofN, BitVec.ofNat_toNat, BitVec.setWidth_eq]

/-- The source that bit b of HP_IRQn and HP_IMSKn stands for (Table 2-17). -/
def srcOfBit (n : Fin 4) (b : Fin 32) : Fin 128 := ⟨32 * n.val + b.val, by omega⟩

theorem srcOfBit_div (n : Fin 4) (b : Fin 32) : (srcOfBit n b).val / 32 = n.val := by simp only [srcOfBit]; omega

theorem srcOfBit_mod (n : Fin 4) (b : Fin 32) : (srcOfBit n b).val % 32 = b.val := by simp only [srcOfBit]; omega

theorem src_getD (s : State) (n : Fin 4) (b : Fin 32) : s.ev.src.toList.getD (32 * n.val + b.val) {} = s.ev.src[srcOfBit n b] := by
  rw [List.getD_eq_getElem _ _ (by simp; omega), Vector.getElem_toList]
  rfl

theorem hpIrq_eq (s : State) (n : Fin 4) :
    hpIrq s n = ofN (((List.finRange 32).map fun b => if (s.ev.src[srcOfBit n b]).pend then 2 ^ b.val else 0).sum) := by
  simp only [hpIrq, src_getD]

theorem hpImsk_eq (s : State) (n : Fin 4) :
    hpImsk s n = ofN (((List.finRange 32).map fun b => if (s.ev.src[srcOfBit n b]).mask then 2 ^ b.val else 0).sum) := by
  simp only [hpImsk, src_getD]

/-- HP_IRQn shows the pending bits alone. -/
theorem hpIrq_congr {s t : State} (h : ∀ i : Fin 128, (t.ev.src[i]).pend = (s.ev.src[i]).pend) (n : Fin 4) : hpIrq t n = hpIrq s n := by
  simp only [hpIrq_eq, h]

/-- The 32 enables written read back as the word. -/
theorem hpImsk_imskWrite_same (n : Fin 4) (v : Word) (s : State) : hpImsk (imskWrite n v s) n = v := by
  simp only [hpImsk_eq, imskWrite_src, srcOfBit_div, srcOfBit_mod, if_true, ofN_sum_bits]

theorem hpImsk_imskWrite_other {m n : Fin 4} (h : m ≠ n) (v : Word) (s : State) : hpImsk (imskWrite n v s) m = hpImsk s m := by
  simp only [hpImsk_eq, imskWrite_src, srcOfBit_div, Fin.val_ne_of_ne h, if_false]

theorem hpIrq_imskWrite (n m : Fin 4) (v : Word) (s : State) : hpIrq (imskWrite n v s) m = hpIrq s m :=
  hpIrq_congr (fun i => by rw [imskWrite_src]) m

/-! What a read depends on. -/

/-- HP_STAT shows the port, the mode with ownership, and the direct registers but for the acknowledge and the wake budget (Table 2-12). -/
theorem hpStat_congr {s t : State} {us : Nat} (hhost : t.host = s.host) (hmode : t.sys.mode = s.sys.mode ∧ t.sys.own = s.sys.own)
    (hhp : t.hp = { s.hp with acked := true, wakeBudget := us }) : hpStat t = hpStat s := by
  simp only [hpStat, hhost, hmode, hhp]

/-- A read depends on the register of its own row: a change of a wake budget, an enable register, a staging register or a backup word shows at no other address. -/
theorem regRead_congr {a : Nat} {s t : State} {us : Nat} {stg : Vector Nat 7} {emb : Vector Word 16} (hs : SameBut [.hp, .ev, .sys, .time] s t)
    (hhp : t.hp = { s.hp with acked := true, wakeBudget := us }) (htime : t.time = { s.time with stg := stg, emb := emb })
    (hirq : ∀ n, hpIrq t n = hpIrq s n) (hwake : a = 7 → us = s.hp.wakeBudget) (himsk : ∀ n : Fin 4, a = 12 + n.val → hpImsk t n = hpImsk s n)
    (hstg : ∀ i : Fin 7, a = 24 + i.val → stg[i] = s.time.stg[i]) (hemb : ∀ i : Fin 16, a = 32 + i.val → emb[i] = s.time.emb[i]) :
    regRead a t = regRead a s := by
  have hhost : t.host = s.host := hs .host (by decide)
  have hstat : hpStat t = hpStat s := hpStat_congr hhost (hs .mode (by decide)) hhp
  cases windowRow a with
  | id => rw [regRead_hpId, regRead_hpId]
  | stat => rw [regRead_hpStat, regRead_hpStat, hstat]
  | cmdq => rw [regRead_hpCmdq, regRead_hpCmdq]
  | rspq => rw [regRead_hpRspq, regRead_hpRspq, hhost]
  | cqLvl => simp only [regRead_hpCqLvl, hpCqLvl, hhost]
  | rqLvl => simp only [regRead_hpRqLvl, hpRqLvl, hhost]
  | ecc => simp only [regRead_hpEcc, hhp]
  | wake => simp only [regRead_hpWake, hhp, hwake rfl]
  | irq n => simp only [regRead_hpIrq, hirq]
  | imsk n => simp only [regRead_hpImsk, himsk n rfl]
  | clock i => simp only [regRead_clock, htime]
  | rtcCtl => simp only [regRead_rtcCtl, rtcCtl, htime]
  | staging i => simp only [regRead_staging, htime, hstg i rfl]
  | backup i => simp only [regRead_backup, htime, hemb i rfl]
  | unassigned a h => simp only [regRead_unassigned h]

/-- A read after a write that changes staging registers and backup words alone. -/
theorem regRead_ack_onTime {a : Nat} {s : State} {stg : Vector Nat 7} {emb : Vector Word 16}
    (hstg : ∀ i : Fin 7, a = 24 + i.val → stg[i] = s.time.stg[i]) (hemb : ∀ i : Fin 16, a = 32 + i.val → emb[i] = s.time.emb[i]) :
    regRead a (ack (s.onTime fun t => { t with stg := stg, emb := emb })) = regRead a s :=
  regRead_congr (((SameBut.refl _ s).onTime _ rfl).onHp _ rfl) rfl rfl (fun _ => rfl) (fun _ => rfl) (fun _ _ => rfl) hstg hemb

theorem regRead_write_staging_other {a : Nat} {i : Fin 7} (h : a ≠ 24 + i.val) (v : Word) (s : State) :
    regRead a (regWrite (24 + i.val) v s) = regRead a s := by
  rw [regWrite_staging]
  refine regRead_ack_onTime (emb := s.time.emb) (fun j hj => ?_) (fun _ _ => rfl)
  exact Vector.getElem_set_ne _ _ (by omega)

theorem regRead_write_backup_other {a : Nat} {i : Fin 16} (h : a ≠ 32 + i.val) (v : Word) (s : State) :
    regRead a (regWrite (32 + i.val) v s) = regRead a s := by
  rw [regWrite_backup]
  refine regRead_ack_onTime (stg := s.time.stg) (fun _ _ => rfl) (fun j hj => ?_)
  exact Vector.getElem_set_ne _ _ (by omega)

theorem regRead_wakeWrite_other {a : Nat} {v : Word} (h : a ≠ 7) (hlo : 1 ≤ fld v 23 0) (hhi : fld v 23 0 ≤ 10000000) (s : State) :
    regRead a (wakeWrite v s) = regRead a s := by
  have hs : SameBut [.hp, .sys] s (wakeWrite v s) := wakeWrite_same v s
  have hev : (wakeWrite v s).ev = s.ev := hs .ev (by decide)
  exact regRead_congr (hs.mono rfl) (wakeWrite_inRange_hp hlo hhi s) (hs .time (by decide)) (hpIrq_congr fun i => by rw [hev])
    (absurd · h) (fun n _ => by rw [hpImsk, hev]; rfl) (fun _ _ => rfl) (fun _ _ => rfl)

theorem regRead_imskWrite_other {a : Nat} {n : Fin 4} (h : a ≠ 12 + n.val) (v : Word) (s : State) :
    regRead a (imskWrite n v s) = regRead a s :=
  regRead_congr ((imskWrite_same n v s).mono rfl) rfl rfl (hpIrq_imskWrite n · v s) (fun _ => rfl)
    (fun m hm => hpImsk_imskWrite_other (by rintro rfl; exact h hm) v s) (fun _ _ => rfl) (fun _ _ => rfl)

end Sys2Proof.Machine

/-! The obligations on the register window. -/

open Sys2Proof Sys2Proof.Machine

/-- Settles O9, row by row: a powered access runs the operation of its row, whose equations and frame say the rest. -/
theorem writesToTheDirectRegistersDoWhatTheirAccessCodesSay : Obligations.WritesToTheDirectRegistersDoWhatTheirAccessCodesSay := by
  unfold Obligations.WritesToTheDirectRegistersDoWhatTheirAccessCodesSay
  refine ⟨?wakeTaken, ?wakeRejected, ?statClear, ?irqClear, ?imskWrite, ?staging, ?backup, ?fixedRows, ?eventRows, ?otherAddresses⟩
  case wakeTaken =>
    intro v s hv hlo hhi
    exact ⟨_, steps_powered (exec_hpWakeWrite v s) hv, wakeWrite_inRange_hp hlo hhi s, wakeWrite_same v s⟩
  case wakeRejected =>
    intro v s hv hout
    have hs := steps_powered (exec_hpWakeWrite v s) hv
    rw [wakeWrite_outOfRange hout] at hs
    exact ⟨_, hs, rfl, ((SameBut.refl _ s).onHp _ rfl).onHp _ rfl⟩
  case statClear =>
    intro v d s hv
    exact ⟨_, steps_powered (exec_hpStatClear v d s) hv, statClear_same v d s, rfl⟩
  case irqClear =>
    intro n v d s hv
    exact ⟨_, steps_powered (exec_hpIrqClear n v d s) hv, irqClear_same n v d s, irqClear_hp n v d s, irqClear_heldNotices n v d s, irqClear_src n v d s⟩
  case imskWrite =>
    intro n v s hv
    exact ⟨_, steps_powered (exec_hpImskWrite n v s) hv, imskWrite_same n v s, imskWrite_hp n v s, imskWrite_heldNotices n v s, imskWrite_src n v s⟩
  case staging =>
    intro a i v s hv ha
    have hs := steps_powered (exec_registerWrite a v s) hv
    rw [ha, regWrite_staging] at hs
    exact ⟨_, hs, ((SameBut.refl _ s).onTime _ rfl).onHp _ rfl, rfl, rfl⟩
  case backup =>
    intro a i v s hv ha
    have hs := steps_powered (exec_registerWrite a v s) hv
    rw [ha, regWrite_backup] at hs
    exact ⟨_, hs, ((SameBut.refl _ s).onTime _ rfl).onHp _ rfl, rfl, rfl⟩
  case fixedRows =>
    intro v s
    rw [exec_hpStatClear, exec_hpCmdqWrite, exec_hpWakeWrite, exec_rtcCtlClear]
    exact ⟨rfl, rfl, rfl, rfl⟩
  case eventRows =>
    intro n a b v s ha hb
    rw [exec_registerWrite, exec_registerWrite, ha, hb, regWrite_hpIrq, regWrite_hpImsk, exec_hpIrqClear, exec_hpImskWrite]
    exact ⟨rfl, rfl⟩
  case otherAddresses =>
    intro a v s hv ha
    exact registerWrite_onlyAcknowledged v hv ha

/-- Settles O58: each row reads what its write left, and a read depends on its own row alone (regRead_congr). -/
theorem windowReadsReturnTheRegisterWritten : Obligations.WindowReadsReturnTheRegisterWritten := by
  unfold Obligations.WindowReadsReturnTheRegisterWritten
  refine ⟨regRead_hpCmdq, fun a s ha => regRead_unassigned ha s, ?writeUnassigned, ?backup, ?staging, ?wakeTaken, ?wakeRejected, ?imsk, ?unpowered⟩
  case writeUnassigned =>
    intro a v s hv ha
    exact registerWrite_onlyAcknowledged v hv (by omega)
  case backup =>
    intro a i v s hv ha
    have hs := steps_powered (exec_registerWrite a v s) hv
    rw [ha] at hs
    refine ⟨_, hs, ?_, ?_, fun b hb => regRead_write_backup_other hb v s⟩
    · rw [regWrite_backup]
      exact ((SameBut.refl _ s).onTime _ rfl).onHp _ rfl
    · rw [regWrite_backup, regRead_backup]
      exact Vector.getElem_set_self _
  case staging =>
    intro a i v s hv ha
    have hs := steps_powered (exec_registerWrite a v s) hv
    rw [ha] at hs
    refine ⟨_, hs, ?_, ?_, fun b hb => regRead_write_staging_other hb v s⟩
    · rw [regWrite_staging]
      exact ((SameBut.refl _ s).onTime _ rfl).onHp _ rfl
    · rw [regWrite_staging, regRead_staging]
      exact congrArg ofN (Vector.getElem_set_self _)
  case wakeTaken =>
    intro v s hv hlo hhi
    refine ⟨_, steps_powered (exec_hpWakeWrite v s) hv, ?_, fun b hb => regRead_wakeWrite_other hb hlo hhi s⟩
    rw [regRead_hpWake, wakeWrite_inRange_hp hlo hhi]
  case wakeRejected =>
    intro v s hv hout
    have hs := steps_powered (exec_hpWakeWrite v s) hv
    rw [wakeWrite_outOfRange hout] at hs
    exact ⟨_, hs, by rw [regRead_hpWake, regRead_hpWake]; rfl, rfl, rfl⟩
  case imsk =>
    intro n v s hv
    refine ⟨_, steps_powered (exec_hpImskWrite n v s) hv, ?_, fun b hb => regRead_imskWrite_other hb v s⟩
    rw [regRead_hpImsk, hpImsk_imskWrite_same]
  case unpowered =>
    intro a v s hv
    exact ⟨hpLine_unpowered _ hv, hpLine_unpowered _ hv, hpLine_unpowered _ hv, steps_unpowered (exec_registerWrite a v s) hv,
      steps_unpowered (exec_hpCmdqWrite v .ok s) hv, steps_unpowered (exec_hpRspqRead .ok s) hv⟩
end

section
/-! O49 fails: at the boundary a third copy that no region can run any more ends its problem (Table 8-9, row 3) after the missed deadlines of the old frame have been cleared, and D3 of the new frame counts as missed at once. -/

namespace Sys2Proof.Machine

/-- A DP-1 problem whose pair has ended without agreement and whose third copy was lost with its region. -/
def strandedTicket : Ticket :=
  { id := 0, work := .alloc
    copies := [{ region := 0, cluster := 0, out := some {} }, { region := 1, cluster := 0, out := some { status := 0x4016 } }, { region := 2, cluster := 0, dead := true }] }

/-- DORMANT with the Pergola regions off, so that no region takes the third copy. -/
def strandedDormant : State :=
  { hp := { ready := true }, sys := { vmain := true, mode := .dormant, dom := Vector.replicate 12 .off }, time := { mtRun := true }
    solv := { tickets := [strandedTicket] } }

/-- The missed deadlines of the frame in the next state. -/
def missedAfter : Host.Outcome State Fault Refusal → Nat
  | .next t => t.sys.missedNow
  | _ => 0

/-- The boundary ends the stranded problem without a result, which is a missed D3 (bit 2 of R22's row) of the frame that begins. -/
theorem frameBoundary_strandedDormant_misses_d3 {t : State} (h : Steps (.frameBoundary (Vector.replicate 4 25)) strandedDormant t) : t.sys.missedNow = 4 := by
  have run : missedAfter (exec (.frameBoundary (Vector.replicate 4 25)) strandedDormant) = 4 := by decide +kernel
  rwa [h] at run

end Sys2Proof.Machine

open Sys2Proof Sys2Proof.Machine

/-- Refutes O49: its second clause has no deadline missed after a boundary, but a DP-1 problem whose third copy is stranded ends there with D3 missed. -/
theorem not_framesBeginAndMissedDeadlinesAreCounted : ¬ Obligations.FramesBeginAndMissedDeadlinesAreCounted := by
  unfold Obligations.FramesBeginAndMissedDeadlinesAreCounted
  rintro ⟨-, clears, -⟩
  obtain ⟨t, step, -, cleared, -⟩ := clears (Vector.replicate 4 25) strandedDormant rfl rfl rfl
  have missed : t.sys.missedNow = 4 := frameBoundary_strandedDormant_misses_d3 step
  omega
end
section
/-! Events that an operation leaves alone, and self-diagnosis (R334): what its reaction keeps. -/

namespace Sys2Proof.Machine

/-! The event sources. -/

theorem EventsBut.refl (l : List (Fin 128)) (s : State) : EventsBut l s s := fun _ _ => rfl

theorem EventsBut.trans {l : List (Fin 128)} {s t u : State} (h : EventsBut l s t) (k : EventsBut l t u) : EventsBut l s u :=
  fun n hn => (k n hn).trans (h n hn)

theorem EventsBut.mono {l m : List (Fin 128)} {s t : State} (h : EventsBut l s t) (hlm : l ⊆ m) : EventsBut m s t :=
  fun n hn => h n fun hl => hn (hlm hl)

/-- An operation that leaves the event logic alone. -/
theorem EventsBut.of_same {l : List (Fin 128)} {m : List Part} {s t : State} (h : SameBut m s t) (hm : Part.ev ∉ m) : EventsBut l s t :=
  fun n _ => congrArg (fun e : EvState => e.src[n]) (h .ev hm)

theorem EventsBut.raise {l : List (Fin 128)} {s t : State} (h : EventsBut l s t) (n : Fin 128) (d : Nat) (hn : [n, 120] ⊆ l) :
    EventsBut l s (raise n d t) := h.trans ((raise_eventsBut d rfl).mono hn)

/-- An occurrence stands after operations that leave its source alone. -/
theorem Occurred.of_events {n : Fin 128} {d : Nat} {l : List (Fin 128)} {s t u : State} (h : Occurred n d s t) (k : EventsBut l t u) (hn : n ∉ l) :
    Occurred n d s u := h.of_src (k n hn)

/-- Operations before an occurrence that leave its source alone. -/
theorem Occurred.after_events {n : Fin 128} {d : Nat} {l : List (Fin 128)} {s t u : State} (h : Occurred n d t u) (k : EventsBut l s t) (hn : n ∉ l) :
    Occurred n d s u := by
  simpa only [Occurred, k n hn] using h

theorem raise_occurs {n : Fin 128} (d : Nat) {s : State} (hr : s.hp.ready = true) (hn : n ≠ 120) : Occurred n d s (raise n d s) :=
  raise_occurred d hr hn rfl

/-! The fields of sys that replies and a change of mode asked for leave alone. -/

/-- sys without the mark of activity, the mode change asked for and the giving up. -/
def diagKept (y : SysState) : SysState := { y with lastActive := 0, modeReq := none, giveupOut := false, outputsHeld := false }

theorem finish_diagKept (p : Port) (tag cls st detail : Nat) (ws : List Word) (s : State) :
    diagKept (finish p tag cls st detail ws s).sys = diagKept s.sys :=
  (congrArg diagKept (finish_sysKept p tag cls st detail ws s) :)

theorem cancelModeCmd_diagKept (detail : Nat) (s : State) : diagKept (cancelModeCmd detail s).sys = diagKept s.sys := by
  unfold cancelModeCmd
  extract_lets u
  have hu : diagKept u.sys = diagKept s.sys := by
    simp only [u]
    split
    · split
      · exact finish_diagKept _ _ _ _ _ _ _
      · rfl
    · rfl
  split
  · split
    · exact (finish_diagKept _ _ _ _ _ _ _).trans hu
    · exact hu
  · exact hu

theorem cancelTransferReq_diagKept (s : State) : diagKept (cancelTransferReq s).sys = diagKept s.sys := by
  unfold cancelTransferReq
  split
  · split
    · rfl
    · exact finish_diagKept _ _ _ _ _ _ _
  · rfl

theorem cancelTransfer_diagKept (s : State) : diagKept (cancelTransfer s).sys = diagKept s.sys := by
  unfold cancelTransfer
  extract_lets u v
  have hu : diagKept u.sys = diagKept s.sys := cancelTransferReq_diagKept s
  have hv : diagKept v.sys = diagKept s.sys := by
    simp only [v]
    split
    · exact (finish_diagKept _ _ _ _ _ _ _).trans hu
    · exact hu
  split
  · exact hv
  · exact hu

theorem giveUp_diagKept (code : Nat) (s : State) : diagKept (giveUp code s).sys = diagKept s.sys :=
  (cancelTransfer_diagKept (cancelModeCmd 2 s)).trans (cancelModeCmd_diagKept 2 s)

theorem ownTransition_diagKept (m : Mode) (kind detail : Nat) (s : State) : diagKept (ownTransition m kind detail s).sys = diagKept s.sys :=
  (cancelTransfer_diagKept (cancelModeCmd 2 s)).trans (cancelModeCmd_diagKept 2 s)

/-! Self-diagnosis in three steps: the mark, its event, the reaction of the mode. -/

/-- The failure is noted. -/
def diagMark (code : Nat) (s : State) : State :=
  s.onSys fun y => { y with diagSeen := y.diagSeen ++ [code], diagFirst := if s.sys.diagFirst == 0 then code else y.diagFirst }

/-- The reaction of the mode to the first failure. -/
def diagReact (code : Nat) (s : State) : State :=
  match s.sys.mode with
  | .control => if s.duplex && partnerReady s then giveUp code s else ownTransition .safeHold 3 code s
  | .standby => ownTransition .dormant 3 code s
  | _ => s

theorem diagReact_diagKept (code : Nat) (s : State) : diagKept (diagReact code s).sys = diagKept s.sys := by
  unfold diagReact
  split
  · split
    · exact giveUp_diagKept code s
    · exact ownTransition_diagKept _ _ _ s
  · exact ownTransition_diagKept _ _ _ s
  · rfl

theorem diagReact_same (code : Nat) (s : State) : SameBut [.host, .maint, .sys, .dpx] s (diagReact code s) := by
  unfold diagReact
  split
  · split
    · exact giveUp_same code s
    · exact ownTransition_same _ _ _ s
  · exact ownTransition_same _ _ _ s
  · exact SameBut.refl _ s

theorem selfDiag_of_seen {code : Nat} {s : State} (h : code ∈ s.sys.diagSeen) : selfDiag code s = s :=
  if_pos (List.contains_iff_mem.mpr h)

/-- A failure not seen before is noted and raised, and the first of all has its reaction. -/
theorem selfDiag_of_new {code : Nat} {s : State} (h : code ∉ s.sys.diagSeen) :
    selfDiag code s = if s.sys.diagFirst == 0 then diagReact code (raise 112 code (diagMark code s)) else raise 112 code (diagMark code s) :=
  if_neg fun hc => h (List.contains_iff_mem.mp hc)

/-- sys after a failure not seen before. -/
theorem selfDiag_diagKept {code : Nat} {s : State} (h : code ∉ s.sys.diagSeen) : diagKept (selfDiag code s).sys = diagKept (diagMark code s).sys := by
  have hraise : (raise 112 code (diagMark code s)).sys = (diagMark code s).sys := raise_same 112 code _ .sys (by decide)
  rw [selfDiag_of_new h]
  split
  · rw [diagReact_diagKept, hraise]
  · rw [hraise]

/-- The event logic after a failure not seen before. -/
theorem selfDiag_ev {code : Nat} {s : State} (h : code ∉ s.sys.diagSeen) : (selfDiag code s).ev = (raise 112 code (diagMark code s)).ev := by
  rw [selfDiag_of_new h]
  split
  · exact diagReact_same code _ .ev (by decide)
  · rfl

/-- The code is seen after it. -/
theorem selfDiag_mem (code : Nat) (s : State) : code ∈ (selfDiag code s).sys.diagSeen := by
  by_cases h : code ∈ s.sys.diagSeen
  · rwa [selfDiag_of_seen h]
  · have hk := congrArg SysState.diagSeen (selfDiag_diagKept h)
    exact hk ▸ List.mem_append_right _ (List.mem_singleton_self code)

/-- A failure seen stays seen. -/
theorem selfDiag_keeps_seen (code : Nat) {c : Nat} {s : State} (hc : c ∈ s.sys.diagSeen) : c ∈ (selfDiag code s).sys.diagSeen := by
  by_cases h : code ∈ s.sys.diagSeen
  · rwa [selfDiag_of_seen h]
  · have hk := congrArg SysState.diagSeen (selfDiag_diagKept h)
    exact hk ▸ List.mem_append_left _ hc

theorem selfDiag_dom (code : Nat) (s : State) : (selfDiag code s).sys.dom = s.sys.dom := by
  by_cases h : code ∈ s.sys.diagSeen
  · rw [selfDiag_of_seen h]
  · exact (congrArg SysState.dom (selfDiag_diagKept h) :)

theorem selfDiag_exiting (code : Nat) (s : State) : (selfDiag code s).sys.exiting = s.sys.exiting := by
  by_cases h : code ∈ s.sys.diagSeen
  · rw [selfDiag_of_seen h]
  · exact (congrArg SysState.exiting (selfDiag_diagKept h) :)

theorem selfDiag_events (code : Nat) (s : State) : EventsBut [112, 120] s (selfDiag code s) := by
  by_cases h : code ∈ s.sys.diagSeen
  · rw [selfDiag_of_seen h]; exact EventsBut.refl _ s
  · have hmark : EventsBut [112, 120] s (raise 112 code (diagMark code s)) := raise_eventsBut code rfl
    exact hmark.of_ev (selfDiag_ev h)

/-- EV112 comes with a failure not seen before. -/
theorem selfDiag_occurred {code : Nat} {s : State} (h : code ∉ s.sys.diagSeen) (hr : s.hp.ready = true) : Occurred 112 code s (selfDiag code s) := by
  have hraise : Occurred 112 code s (raise 112 code (diagMark code s)) := raise_occurred code hr (by decide) rfl
  exact hraise.of_ev (selfDiag_ev h)

/-- The first failure of all is noted as such. -/
theorem selfDiag_diagFirst {code : Nat} {s : State} (h : code ∉ s.sys.diagSeen) (h0 : s.sys.diagFirst = 0) : (selfDiag code s).sys.diagFirst = code := by
  have hk : (selfDiag code s).sys.diagFirst = _ := (congrArg SysState.diagFirst (selfDiag_diagKept h) :)
  rw [hk]
  simp [diagKept, diagMark, h0]

/-- In STANDBY the first failure asks for DORMANT. -/
theorem selfDiag_standby {code : Nat} {s : State} (h : code ∉ s.sys.diagSeen) (h0 : s.sys.diagFirst = 0) (hm : s.sys.mode = .standby) :
    (selfDiag code s).sys.modeReq = some { target := .dormant, kind := 3, detail := code } := by
  have hraise : (raise 112 code (diagMark code s)).sys = (diagMark code s).sys := raise_same 112 code _ .sys (by decide)
  have hmode : (raise 112 code (diagMark code s)).sys.mode = .standby := by rw [hraise]; exact hm
  have hfirst : (s.sys.diagFirst == 0) = true := beq_iff_eq.mpr h0
  rw [selfDiag_of_new h, if_pos hfirst, diagReact, hmode]
  rfl

end Sys2Proof.Machine
end
section
/-! What the placement and the end of problems leave alone: the states of the regions, the domains, the failures seen, and every event but their own. -/

namespace Sys2Proof.Machine

/-- The events that the placement and the end of problems raise: the PID's takeover, saturation, regularisation, Gazebo's move, numeric faults, a missed D3, an allocation without result, self-diagnosis, the overflow of the recorder. -/
def solverEvents : List (Fin 128) := [14, 50, 51, 53, 54, 58, 61, 112, 120]

/-- Regions, domains and events after solver work that fails no region. -/
structure SolverKept (s t : State) : Prop where
  regions : ∀ r : Fin 4, (t.solv.region[r]).st = (s.solv.region[r]).st
  dom : t.sys.dom = s.sys.dom
  exiting : t.sys.exiting = s.sys.exiting
  seen : ∀ c ∈ s.sys.diagSeen, c ∈ t.sys.diagSeen
  ready : t.hp = s.hp
  events : EventsBut solverEvents s t

namespace SolverKept

variable {s t u : State}

theorem refl (s : State) : SolverKept s s := ⟨fun _ => rfl, rfl, rfl, fun _ hc => hc, rfl, EventsBut.refl _ s⟩

theorem trans (h : SolverKept s t) (k : SolverKept t u) : SolverKept s u where
  regions r := (k.regions r).trans (h.regions r)
  dom := k.dom.trans h.dom
  exiting := k.exiting.trans h.exiting
  seen c hc := k.seen c (h.seen c hc)
  ready := k.ready.trans h.ready
  events := h.events.trans k.events

/-- An operation that touches neither the solver, nor sys, nor the event logic. -/
theorem of_eq (hsolv : t.solv = s.solv) (hsys : t.sys = s.sys) (hhp : t.hp = s.hp) (hev : t.ev = s.ev) : SolverKept s t where
  regions r := by rw [hsolv]
  dom := by rw [hsys]
  exiting := by rw [hsys]
  seen c hc := by rwa [hsys]
  ready := hhp
  events := fun n _ => by rw [hev]

theorem of_same {m : List Part} (h : SameBut m s t) (hm : ([.solv, .sys, .hp, .ev].all fun q => !m.contains q) = true) : SolverKept s t := by
  simp only [List.all_cons, List.all_nil, Bool.and_true, Bool.and_eq_true, Bool.not_eq_true', List.contains_eq_mem, decide_eq_false_iff_not] at hm
  obtain ⟨hsolv, hsys, hhp, hev⟩ := hm
  exact of_eq (h .solv hsolv) (h .sys hsys) (h .hp hhp) (h .ev hev)

theorem onSolv (f : SolvState → SolvState) (s : State) (hf : ∀ r : Fin 4, ((f s.solv).region[r]).st = (s.solv.region[r]).st) : SolverKept s (s.onSolv f) :=
  ⟨hf, rfl, rfl, fun _ hc => hc, rfl, fun _ _ => rfl⟩

theorem onAlloc (f : AllocState → AllocState) (s : State) : SolverKept s (s.onAlloc f) := of_eq rfl rfl rfl rfl

theorem onDpc (f : DpcState → DpcState) (s : State) : SolverKept s (s.onDpc f) := of_eq rfl rfl rfl rfl

theorem raise (n : Fin 128) (d : Nat) (s : State) (hn : [n, 120] ⊆ solverEvents) : SolverKept s (raise n d s) where
  regions r := by rw [raise_solv]
  dom := by rw [raise_sys]
  exiting := by rw [raise_sys]
  seen c hc := by rwa [raise_sys]
  ready := raise_hp n d s
  events := (EventsBut.refl _ s).raise n d hn

theorem foldl {α : Type} {g : State → α → State} (hg : ∀ w x, SolverKept w (g w x)) (l : List α) (s : State) : SolverKept s (l.foldl g s) := by
  induction l generalizing s with
  | nil => exact refl s
  | cons x l ih => exact (hg s x).trans (ih (g s x))

end SolverKept

theorem finish_solverKept (p : Port) (tag cls st detail : Nat) (ws : List Word) (s : State) : SolverKept s (finish p tag cls st detail ws s) where
  regions r := by rw [finish_solv]
  dom := finish_sys_dom p tag cls st detail ws s
  exiting := finish_sys_exiting p tag cls st detail ws s
  seen c hc := by rwa [finish_sys_diagSeen]
  ready := finish_hp p tag cls st detail ws s
  events := EventsBut.of_same (finish_same p tag cls st detail ws s) (by decide)

theorem selfDiag_solverKept (code : Nat) (s : State) : SolverKept s (selfDiag code s) where
  regions r := by rw [selfDiag_solv]
  dom := selfDiag_dom code s
  exiting := selfDiag_exiting code s
  seen c hc := selfDiag_keeps_seen code hc
  ready := selfDiag_hp code s
  events := (selfDiag_events code s).mono (by decide)

/-! The ticket table. -/

theorem onTicket_solverKept (id : Nat) (f : Ticket → Ticket) (s : State) : SolverKept s (onTicket id f s) := .onSolv _ s fun _ => rfl

theorem dropTicket_solverKept (id : Nat) (s : State) : SolverKept s (dropTicket id s) := .onSolv _ s fun _ => rfl

theorem drawn_solverKept (s : State) : SolverKept s (drawn s) := .of_same (drawn_same s) (by decide)

theorem charge_solverKept (s : State) : SolverKept s (charge s) := by
  unfold charge
  extract_lets d host left
  exact .onSolv _ s fun r => by simp

theorem claim_solverKept (l : List Copy) (s : State) : SolverKept s (claim l s) := by
  unfold claim
  extract_lets hit give
  exact .onSolv _ s fun _ => rfl

theorem startTicket_solverKept (t : Ticket) (s : State) : SolverKept s (startTicket t s) := by
  unfold startTicket
  extract_lets l w
  have hw : SolverKept s w := by
    simp only [w]
    split
    · exact .refl s
    · exact claim_solverKept l s
  split
  · exact .refl s
  · exact hw.trans ((onTicket_solverKept _ _ w).trans (drawn_solverKept _))

theorem serve_solverKept (s : State) : SolverKept s (serve s) := .foldl (fun w t => startTicket_solverKept t w) _ s

theorem moveCopies_solverKept (r : Fin 4) (s : State) : SolverKept s (moveCopies r s) := by
  refine (charge_solverKept s).trans (.foldl (fun w t => .foldl (fun w k => ?_) _ w) _ _)
  dsimp only
  split
  · exact (onTicket_solverKept _ _ w).trans (drawn_solverKept _)
  · exact .refl w

theorem buildHot_solverKept (ok : List (Fin 4)) (s : State) : SolverKept s (buildHot ok s) := .onSolv _ s fun _ => rfl

theorem fromCheckpoint_solverKept (s : State) : SolverKept s (fromCheckpoint s) := .onSolv _ s fun _ => rfl

theorem setActive_solverKept (q : Fin 4) (s : State) : SolverKept s (s.onSolv fun v => { v with active := q }) := .onSolv _ s fun _ => rfl

theorem moveGazebo_solverKept (r : Fin 4) (s : State) : SolverKept s (moveGazebo r s) := by
  unfold moveGazebo
  extract_lets ok hot
  clear_value hot ok
  split
  · match hot, ok with
    | some h, ok => exact (setActive_solverKept h s).trans ((buildHot_solverKept ok _).trans (.raise 53 h.val _ (by decide)))
    | none, q :: l =>
      exact (fromCheckpoint_solverKept s).trans ((setActive_solverKept q _).trans ((buildHot_solverKept (q :: l) _).trans (.raise 53 q.val _ (by decide))))
    | none, [] => exact .onSolv _ s fun _ => rfl
  · split
    · exact buildHot_solverKept ok s
    · exact .refl s

/-! The end of problems. -/

theorem onStruct_solverKept (sid : Nat) (f : Struct → Struct) (s : State) : SolverKept s (onStruct sid f s) := .onSolv _ s fun _ => rfl

theorem creditStruct_solverKept (t : Ticket) (o : CopyOut) (s : State) : SolverKept s (creditStruct t o s) := by
  unfold creditStruct
  split
  · exact .refl s
  · extract_lets good newer satNow regNow ev50 ev51 s1 s2
    have h1 : SolverKept s s1 := onStruct_solverKept _ _ s
    have h2 : SolverKept s s2 := by
      simp only [s2]
      split
      · exact h1.trans (.raise 50 t.sid s1 (by decide))
      · exact h1
    split
    · exact .refl s
    · split
      · exact h2.trans (.raise 51 t.sid s2 (by decide))
      · exact h2

theorem creditDp_solverKept (t : Ticket) (o : CopyOut) (s : State) : SolverKept s (creditDp t o s) := by
  unfold creditDp
  extract_lets u
  have hu : SolverKept s u := creditStruct_solverKept t o s
  split
  · exact hu.trans (.raise 54 t.sid u (by decide))
  · exact hu

theorem commit_solverKept (p : Port) (tag : Nat) (s : State) : SolverKept s (commit p tag s) := .of_same (commit_same p tag s) (by decide)

theorem endHost_solverKept (t : Ticket) (st detail : Nat) (s : State) : SolverKept s (endHost t st detail s) :=
  (charge_solverKept s).trans ((commit_solverKept _ _ _).trans ((finish_solverKept _ _ _ _ _ _ _).trans ((dropTicket_solverKept _ _).trans (serve_solverKept _))))

theorem openTicket_solverKept (t : Ticket) (s : State) : SolverKept s (openTicket t s) :=
  (charge_solverKept s).trans (.trans (.onSolv _ _ fun _ => rfl) (serve_solverKept _))

theorem submitDp_solverKept (t : Ticket) (s : State) : SolverKept s (submitDp t s) := by
  unfold submitDp
  split
  · exact openTicket_solverKept _ s
  · exact .refl s

theorem cancelDp_solverKept (p : Work → Bool) (s : State) : SolverKept s (cancelDp p s) :=
  (charge_solverKept s).trans (.trans (.onSolv _ _ fun _ => rfl) (serve_solverKept _))

theorem submitBank_solverKept (s : State) : SolverKept s (submitBank s) := by
  unfold submitBank
  split
  · exact .refl s
  · extract_lets held u
    refine (SolverKept.onAlloc _ s : SolverKept s u).trans ((cancelDp_solverKept _ u).trans (.foldl (fun w c => ?_) _ _))
    split
    · exact submitDp_solverKept _ w
    · exact .refl w

theorem missDeadline_solverKept (d : Nat) (s : State) : SolverKept s (missDeadline d s) := by
  unfold missDeadline
  extract_lets n u
  have hu : SolverKept s u := ⟨fun _ => rfl, rfl, rfl, fun _ hc => hc, rfl, fun _ _ => rfl⟩
  split
  · exact hu.trans (selfDiag_solverKept 4 u)
  · exact hu

theorem missD3_solverKept (s : State) : SolverKept s (missD3 s) := by
  unfold missD3
  split
  · exact .refl s
  · extract_lets u v
    exact (SolverKept.onAlloc _ s : SolverKept s u).trans ((missDeadline_solverKept 2 u).trans (.raise 58 _ v (by decide)))

theorem allocNoResult_solverKept (code : Nat) (s : State) : SolverKept s (allocNoResult code s) :=
  (SolverKept.onAlloc _ s).trans ((SolverKept.raise 61 code _ (by decide)).trans ((missD3_solverKept _).trans (submitBank_solverKept _)))

theorem mpcFall_solverKept (detail : Nat) (s : State) : SolverKept s (mpcFall detail s) := by
  unfold mpcFall
  extract_lets was u
  have hu : SolverKept s u := .onDpc _ s
  split
  · exact hu.trans (.raise 14 detail u (by decide))
  · exact hu

theorem caNext_solverKept (s : State) : SolverKept s (caNext s) := by
  unfold caNext
  extract_lets u
  have hu : SolverKept s u := cancelDp_solverKept _ s
  split
  · split
    · exact hu.trans (submitDp_solverKept _ u)
    · exact hu
  · exact hu

theorem caEnded_solverKept (good : Bool) (s : State) : SolverKept s (caEnded good s) :=
  (SolverKept.onAlloc _ s).trans (caNext_solverKept _)

theorem compareFault_solverKept (t : Ticket) (s : State) : SolverKept s (compareFault t s) := by
  unfold compareFault
  extract_lets rg gone u
  have hgone : SolverKept s gone := dropTicket_solverKept t.id s
  have hu : SolverKept s u := by
    simp only [u]
    split
    · split
      · exact hgone
      · exact endHost_solverKept t _ _ s
    · exact hgone.trans (allocNoResult_solverKept _ gone)
    · exact hgone.trans (mpcFall_solverKept 1 gone)
    · exact hgone.trans (caEnded_solverKept false gone)
    · exact hgone
  exact hu.trans (selfDiag_solverKept 1 u)

theorem endStuck_solverKept (s : State) : SolverKept s (endStuck s) := by
  refine .foldl (fun w t => ?_) _ s
  split
  · split
    · exact compareFault_solverKept t w
    · exact .refl w
  · exact .refl w

end Sys2Proof.Machine
end
section
/-! A region that is marked failed (R206, R207). -/

namespace Sys2Proof.Machine

/-- The mark on a region. -/
def regionMark (r : Fin 4) (s : State) : State := s.onSolv fun v => { v with region := upd v.region r fun x => { x with st := .failed } }

/-- Its domain is off and its exit is over. -/
def regionPower (r : Fin 4) (s : State) : State :=
  s.onSys fun y => { y with dom := y.dom.set (regDom r) .off, exiting := y.exiting.set (regDom r) false }

/-- The mark, its event, Gazebo's move, the power, and the copies elsewhere. -/
def regionOff (r : Fin 4) (cause : Nat) (s : State) : State :=
  moveCopies r (regionPower r (moveGazebo r (raise 48 (r.val * 256 + cause) (regionMark r s))))

theorem markFailed_of_not_failed {r : Fin 4} (cause code : Nat) {s : State} (h : (s.solv.region[r]).st ≠ .failed) :
    markFailed r cause code s = if healthyCount (regionOff r cause s) < 2 then selfDiag code (regionOff r cause s) else regionOff r cause s := if_neg h

theorem regionMark_regions (r q : Fin 4) (s : State) : ((regionMark r s).solv.region[q]).st = if q = r then .failed else (s.solv.region[q]).st := by
  unfold regionMark
  split
  · next h => subst h; simp
  · next h => simp [upd_getElem_ne _ _ _ _ h]

theorem regionOff_regions (r q : Fin 4) (cause : Nat) (s : State) :
    ((regionOff r cause s).solv.region[q]).st = if q = r then .failed else (s.solv.region[q]).st := by
  have hraise : (raise 48 (r.val * 256 + cause) (regionMark r s)).solv = (regionMark r s).solv := raise_solv _ _ _
  calc ((regionOff r cause s).solv.region[q]).st
      _ = ((moveGazebo r (raise 48 (r.val * 256 + cause) (regionMark r s))).solv.region[q]).st := (moveCopies_solverKept r _).regions q
      _ = ((raise 48 (r.val * 256 + cause) (regionMark r s)).solv.region[q]).st := (moveGazebo_solverKept r _).regions q
      _ = ((regionMark r s).solv.region[q]).st := by rw [hraise]
      _ = _ := regionMark_regions r q s

theorem regionOff_dom (r : Fin 4) (cause : Nat) (s : State) : (regionOff r cause s).sys.dom[regDom r] = .off := by
  have hdom : (regionOff r cause s).sys.dom = _ := (moveCopies_solverKept r _).dom
  rw [hdom]
  exact Vector.getElem_set_self _

theorem regionOff_exiting (r : Fin 4) (cause : Nat) (s : State) : (regionOff r cause s).sys.exiting[regDom r] = false := by
  have hexit : (regionOff r cause s).sys.exiting = _ := (moveCopies_solverKept r _).exiting
  rw [hexit]
  exact Vector.getElem_set_self _

theorem regionOff_occurred (r : Fin 4) (cause : Nat) {s : State} (hr : s.hp.ready = true) :
    Occurred 48 (r.val * 256 + cause) s (regionOff r cause s) := by
  have hraise : Occurred 48 (r.val * 256 + cause) s (raise 48 (r.val * 256 + cause) (regionMark r s)) := raise_occurred _ hr (by decide) rfl
  have hmove : EventsBut solverEvents (raise 48 (r.val * 256 + cause) (regionMark r s)) (regionOff r cause s) :=
    (moveGazebo_solverKept r _).events.trans (EventsBut.trans (fun _ _ => rfl) (moveCopies_solverKept r (regionPower r _)).events)
  exact hraise.of_events hmove (by decide)

/-- With every other region failed, none is healthy. -/
theorem regionOff_healthyCount {r : Fin 4} {s : State} (cause : Nat) (h : ∀ q : Fin 4, q ≠ r → (s.solv.region[q]).st = .failed) :
    healthyCount (regionOff r cause s) = 0 := by
  have hall : ∀ q : Fin 4, ((regionOff r cause s).solv.region[q]).st = .failed := by
    intro q
    rw [regionOff_regions]
    split
    · rfl
    · next hq => exact h q hq
  simp only [healthyCount, hall]
  rfl

theorem markFailed_solverKept_off {r : Fin 4} (cause code : Nat) {s : State} (h : (s.solv.region[r]).st ≠ .failed) :
    SolverKept (regionOff r cause s) (markFailed r cause code s) := by
  rw [markFailed_of_not_failed cause code h]
  split
  · exact selfDiag_solverKept code _
  · exact .refl _

theorem loseRegion_solverKept_mark (r : Fin 4) (cause code : Nat) (s : State) :
    SolverKept (markFailed r cause code s) (loseRegion r cause code s) := (endStuck_solverKept _).trans (serve_solverKept _)

theorem loseRegion_solverKept_off {r : Fin 4} (cause code : Nat) {s : State} (h : (s.solv.region[r]).st ≠ .failed) :
    SolverKept (regionOff r cause s) (loseRegion r cause code s) := (markFailed_solverKept_off cause code h).trans (loseRegion_solverKept_mark r cause code s)

/-- A region lost is failed, its domain off with no exit running. -/
theorem loseRegion_off {r : Fin 4} (cause code : Nat) {s : State} (h : (s.solv.region[r]).st ≠ .failed) :
    ((loseRegion r cause code s).solv.region[r]).st = .failed ∧ (loseRegion r cause code s).sys.dom[regDom r] = .off ∧
    (loseRegion r cause code s).sys.exiting[regDom r] = false := by
  have hk := loseRegion_solverKept_off cause code h
  refine ⟨?_, ?_, ?_⟩
  · rw [hk.regions r, regionOff_regions, if_pos rfl]
  · rw [hk.dom, regionOff_dom]
  · rw [hk.exiting, regionOff_exiting]

theorem loseRegion_occurred {r : Fin 4} (cause code : Nat) {s : State} (h : (s.solv.region[r]).st ≠ .failed) (hr : s.hp.ready = true) :
    Occurred 48 (r.val * 256 + cause) s (loseRegion r cause code s) :=
  (regionOff_occurred r cause hr).of_events (loseRegion_solverKept_off cause code h).events (by decide)

/-- The last region's loss is the self-diagnosis failure given. -/
theorem loseRegion_seen {r : Fin 4} (cause code : Nat) {s : State} (h : (s.solv.region[r]).st ≠ .failed)
    (hothers : ∀ q : Fin 4, q ≠ r → (s.solv.region[q]).st = .failed) : code ∈ (loseRegion r cause code s).sys.diagSeen := by
  refine (loseRegion_solverKept_mark r cause code s).seen code ?_
  rw [markFailed_of_not_failed cause code h, regionOff_healthyCount cause hothers]
  exact selfDiag_mem code _

end Sys2Proof.Machine
end
section
/-! Failures, power domains, wake triggers and the boundary-scan port (3.4, 3.5, 19). -/

namespace Sys2Proof.Machine

/-! Oscillator, rail and memory failures. -/

theorem exec_tcxoFailure (s : State) : exec .tcxoFailure s = .next (if !s.sys.vmain || s.sys.tcxoFailed then s
    else if (setSource .fault (s.onSys fun y => { y with tcxoFailed := true })).hp.ready then
      selfDiag 10 (setSource .fault (s.onSys fun y => { y with tcxoFailed := true }))
    else setSource .fault (s.onSys fun y => { y with tcxoFailed := true })) := rfl

theorem exec_internalRailFault (s : State) : exec .internalRailFault s = .next (if s.hp.ready then selfDiag 5 s else s) := rfl

theorem exec_stateMemoryEccError (s : State) : exec .stateMemoryEccError s = .next (if s.hp.ready then selfDiag 3 s else s) := rfl

theorem setSource_source (x : TimeSource) (s : State) : (setSource x s).time.source = x := by
  unfold setSource
  split
  · next h => exact h
  · rw [raise_time]; rfl

theorem setSource_events (x : TimeSource) (s : State) : EventsBut [21, 120] s (setSource x s) := by
  unfold setSource
  split
  · exact EventsBut.refl _ s
  · exact raise_eventsBut _ rfl

theorem selfDiag_tcxoFailed (code : Nat) (s : State) : (selfDiag code s).sys.tcxoFailed = s.sys.tcxoFailed := by
  by_cases h : code ∈ s.sys.diagSeen
  · rw [selfDiag_of_seen h]
  · exact (congrArg SysState.tcxoFailed (selfDiag_diagKept h) :)

/-- A failure code of the module as a whole: what selfDiag leaves when it is new. -/
theorem selfDiag_new_outcome {code : Nat} {s : State} (hr : s.hp.ready = true) (h : code ∉ s.sys.diagSeen) :
    code ∈ (selfDiag code s).sys.diagSeen ∧ Occurred 112 code s (selfDiag code s) ∧
    (s.sys.diagFirst = 0 → (selfDiag code s).sys.diagFirst = code ∧
      (s.sys.mode = .standby → (selfDiag code s).sys.modeReq = some { target := .dormant, kind := 3, detail := code })) :=
  ⟨selfDiag_mem code s, selfDiag_occurred h hr, fun h0 => ⟨selfDiag_diagFirst h h0, fun hm => selfDiag_standby h h0 hm⟩⟩

theorem tcxoFailure_outcome {s : State} (hv : s.sys.vmain = true) (hf : s.sys.tcxoFailed = false) :
    ∃ t, Steps .tcxoFailure s t ∧ t.sys.tcxoFailed = true ∧ t.time.source = .fault ∧
      (s.hp.ready = true → 10 ∈ t.sys.diagSeen ∧ (10 ∉ s.sys.diagSeen → Occurred 112 10 s t)) := by
  have hexec := exec_tcxoFailure s
  generalize hu : setSource .fault (s.onSys fun y => { y with tcxoFailed := true }) = u at hexec
  have hsys : u.sys = { s.sys with tcxoFailed := true } := by rw [← hu, setSource_same _ _ .sys (by decide)]; rfl
  have hhp : u.hp = s.hp := by rw [← hu, setSource_same _ _ .hp (by decide)]; rfl
  have hsrc : u.time.source = .fault := by rw [← hu, setSource_source]
  have hev : EventsBut [21, 120] s u := hu ▸ (EventsBut.trans (fun _ _ => rfl) (setSource_events .fault _))
  rw [hv, hf] at hexec
  by_cases hr : s.hp.ready = true
  · have hru : u.hp.ready = true := by rw [hhp]; exact hr
    refine ⟨selfDiag 10 u, by rw [Steps, hexec, hru]; rfl, ?_, ?_, fun _ => ⟨selfDiag_mem 10 u, fun hnew => ?_⟩⟩
    · rw [selfDiag_tcxoFailed, hsys]
    · rw [selfDiag_time, hsrc]
    · have hnewU : 10 ∉ u.sys.diagSeen := by rw [hsys]; exact hnew
      exact (selfDiag_occurred hnewU hru).after_events hev (by decide)
  · have hru : u.hp.ready = false := by rw [hhp]; simpa using hr
    exact ⟨u, by rw [Steps, hexec, hru]; rfl, by rw [hsys], hsrc, fun h => absurd h hr⟩

/-! Link transfers (R13). -/

/-- The corrected errors of a transfer are counted. -/
def linkCounted (n : Nat) (s : State) : State := s.onSys fun y => { y with linkCe := y.linkCe + n }

theorem exec_linkTransferFailure (u : LinkUnit) (n : Nat) (f : Fin 3) (s : State) : exec (.linkTransferFailure u n f) s =
    .next (if !s.hp.ready then s else if f = 2 then containLink u (linkCounted n s) else linkCounted n s) := rfl

/-- A transfer that fails twice is contained at its unit. -/
theorem linkTransferFailure_steps (u : LinkUnit) (n : Nat) {s : State} (hr : s.hp.ready = true) :
    Steps (.linkTransferFailure u n 2) s (containLink u (linkCounted n s)) := by
  rw [Steps, exec_linkTransferFailure, hr]; rfl

theorem linkCounted_same (n : Nat) (s : State) : SameBut [.sys] s (linkCounted n s) := (SameBut.refl _ s).onSysMode _ rfl fun _ => ⟨rfl, rfl⟩

theorem setFix_events (b : Fin 2) (k : Nat) (s : State) : EventsBut [26, 120] s (setFix b k s) := by
  unfold setFix
  split
  · exact EventsBut.refl _ s
  · exact raise_eventsBut _ rfl

theorem setFix_bb (b : Fin 2) (k : Nat) (s : State) : ((setFix b k s).gnss.bb[b]).out = (s.gnss.bb[b]).out := by
  unfold setFix
  split
  · rfl
  · simp [onBb]

theorem bbFail_outcome {b : Fin 2} {s : State} (hr : s.hp.ready = true) (ho : (s.gnss.bb[b]).out = false) :
    ((bbFail b s).gnss.bb[b]).out = true ∧ Occurred 31 b.val s (bbFail b s) := by
  have hfail : bbFail b s = bbIdle b (raise 31 b.val (onBb b (fun x => { x with out := true }) s)) := if_neg (ne_true_of_eq_false ho)
  have hraise : Occurred 31 b.val s (raise 31 b.val (onBb b (fun x => { x with out := true }) s)) := raise_occurred _ hr (by decide) rfl
  rw [hfail, bbIdle]
  refine ⟨?_, hraise.of_events (EventsBut.trans (fun _ _ => rfl) (setFix_events b 0 _)) (by decide)⟩
  rw [setFix_bb]
  simp [onBb]

theorem belvFail_outcome (d : Nat) {s : State} (hr : s.hp.ready = true) :
    (belvFail d s).fus = { s.fus with fault := true } ∧ 9 ∈ (belvFail d s).sys.diagSeen ∧ Occurred 41 d s (belvFail d s) := by
  have hraise : Occurred 41 d s (raise 41 d (s.onFus fun u => { u with fault := true })) := raise_occurred _ hr (by decide) rfl
  refine ⟨?_, selfDiag_mem 9 _, hraise.of_events (selfDiag_events 9 _) (by decide)⟩
  rw [belvFail, selfDiag_fus, raise_fus]
  rfl

theorem imuFail_outcome (d : Nat) {s : State} (hr : s.hp.ready = true) (h : s.fir.imuFault = 0) :
    (imuFail d s).fir = { s.fir with imuFault := d } ∧ 8 ∈ (imuFail d s).sys.diagSeen ∧ Occurred 6 d s (imuFail d s) := by
  have hfail : imuFail d s = selfDiag 8 (raise 6 d (s.onFir fun f => { f with imuFault := d })) := if_neg (by simp [h])
  have hraise : Occurred 6 d s (raise 6 d (s.onFir fun f => { f with imuFault := d })) := raise_occurred _ hr (by decide) rfl
  rw [hfail]
  refine ⟨?_, selfDiag_mem 8 _, hraise.of_events (selfDiag_events 8 _) (by decide)⟩
  rw [selfDiag_fir, raise_fir]
  rfl

theorem pd13Budget_nf0Ok (s : State) : (pd13Budget s).sys.nf0Ok = s.sys.nf0Ok := by
  unfold pd13Budget
  split <;> rfl

theorem finish_sys_nf0Ok (p : Port) (tag cls st detail : Nat) (ws : List Word) (s : State) : (finish p tag cls st detail ws s).sys.nf0Ok = s.sys.nf0Ok :=
  (congrArg SysState.nf0Ok (finish_sysKept p tag cls st detail ws s) :)

/-- A commit that fails is over, whatever became of it. -/
theorem failCommit_outcome (result cls st detail : Nat) (s : State) :
    (failCommit result cls st detail s).sys.nf0Ok = s.sys.nf0Ok ∧ (failCommit result cls st detail s).cfg.commit = none := by
  unfold failCommit
  split
  · next h => exact ⟨rfl, h⟩
  · next k _ =>
    extract_lets s1 s2
    have hsys : s2.sys = s.sys := raise_same _ _ _ .sys (by decide)
    have hcfg : s2.cfg.commit = none := by rw [show s2.cfg = s1.cfg from raise_same _ _ _ .cfg (by decide)]; rfl
    rw [pd13Budget_nf0Ok, pd13Budget_same _ .cfg (by decide)]
    split
    · exact ⟨by rw [hsys], hcfg⟩
    · rw [finish_sys_nf0Ok, finish_cfg]
      exact ⟨by rw [hsys], hcfg⟩

theorem containLink_nf1 {s : State} (h : s.sys.nf1Ok = true) :
    containLink (.flash true) s = raise 122 0 (s.onSys fun y => { y with nf1Ok := false }) := by
  rw [containLink]; simp [h]

/-! Wake triggers (R86). -/

theorem exec_wakeTrigger (w : WakeKind) (s : State) : exec (.wakeTrigger w) s = .next (if s.hp.ready then wakeTrigger (wakeCode w) s else s) := rfl

/-- The domains whose exit a wake trigger starts. -/
def wakes (s : State) (d : Fin 12) : Bool := budgeted s d && s.sys.dom[d] != .on && !s.sys.exiting[d]

/-- Their exits have started. -/
def wakeStarted (s : State) : State := startExits (wakes s) (s.onSys fun y => { y with lastActive := s.time.mt })

theorem wakeTrigger_eq (k : Nat) (s : State) : wakeTrigger k s = if (fins 12).any (wakes s) then raise 5 k (wakeStarted s) else wakeStarted s := rfl

theorem wakeTrigger_sys (k : Nat) (s : State) : (wakeTrigger k s).sys = (wakeStarted s).sys := by
  rw [wakeTrigger_eq]
  split
  · exact raise_sys 5 k _
  · rfl

theorem wakeStarted_exiting (s : State) (d : Fin 12) : (wakeStarted s).sys.exiting[d] = (s.sys.exiting[d] || wakes s d) := by
  simp [wakeStarted, startExits]

theorem wakeStarted_exitAt (s : State) (d : Fin 12) (h : wakes s d = true) :
    (wakeStarted s).sys.exitAt[d] = s.time.mt + exitUs d s.sys.dom[d] * 100 := by
  simp [wakeStarted, startExits, h]

theorem wakes_of_started {s : State} {d : Fin 12} (h : s.sys.exiting[d] = false) (h' : (wakeStarted s).sys.exiting[d] = true) : wakes s d = true := by
  rwa [wakeStarted_exiting, h, Bool.false_or] at h'

theorem wakes_of_not_dormant {s : State} (h : s.sys.mode ≠ .dormant) (d : Fin 12) : wakes s d = false := by
  simp [wakes, budgeted, h]

theorem wakeStarted_exiting_of_not_dormant {s : State} (h : s.sys.mode ≠ .dormant) : (wakeStarted s).sys.exiting = s.sys.exiting := by
  ext i hi
  have hd := wakeStarted_exiting s ⟨i, hi⟩
  rw [wakes_of_not_dormant h, Bool.or_false] at hd
  exact hd

theorem wakeTrigger_occurred {k : Nat} {s : State} (hr : s.hp.ready = true) {d : Fin 12} (h : wakes s d = true) : Occurred 5 k s (wakeTrigger k s) := by
  have hany : (fins 12).any (wakes s) = true := List.any_eq_true.mpr ⟨d, List.mem_finRange d, h⟩
  rw [wakeTrigger_eq, if_pos hany]
  exact raise_occurred k hr (by decide) rfl

end Sys2Proof.Machine
end
section
/-! The exit of a domain, the return to the budget, and the boundary-scan port (3.5, 3.6, R450). -/

namespace Sys2Proof.Machine

/-! The end of an exit (R83). -/

/-- The domain is on and its exit over. -/
def domainOn (d : Fin 12) (s : State) : State := s.onSys fun y => { y with dom := y.dom.set d .on, exiting := y.exiting.set d false }

/-- What a domain that was in this state brings back with it (Table 3-7). -/
def domainServes (d : Fin 12) (was : DomState) (before s : State) : State :=
  let cold := was == .off || was == .retention
  match d.val with
  | 0 => pd2Exit s
  | 1 => if cold then firStale (fun _ => true) s else s
  | 2 => canStates before (canPd4On (if cold then firStale (fun i => decide (6 ≤ i.val)) s else s))
  | 7 => belvWake (was == .off) s
  | 8 => if was == .off then gnssWake 0 s else s
  | 9 => if was == .off then gnssWake 1 s else s
  | 10 => if cold then (firStale (fun i => decide (i.val < 6)) s).onFir fun f => { f with imuReady := s.time.mt } else s
  | _ => s

theorem exec_domainExitComplete (d : Fin 12) (s : State) : exec (.domainExitComplete d) s = .next (if !s.sys.exiting[d] then s
    else let u := advanceTo (s.sys.exitAt[d]) s; domainServes d u.sys.dom[d] u (domainOn d u)) := rfl

/-- The domains, their exits and the navigation store are the same. -/
def DomainsKept (s t : State) : Prop := t.sys.dom = s.sys.dom ∧ t.sys.exiting = s.sys.exiting ∧ t.gnss.nav = s.gnss.nav

theorem DomainsKept.refl (s : State) : DomainsKept s s := ⟨rfl, rfl, rfl⟩

theorem DomainsKept.trans {s t u : State} (h : DomainsKept s t) (k : DomainsKept t u) : DomainsKept s u :=
  ⟨k.1.trans h.1, k.2.1.trans h.2.1, k.2.2.trans h.2.2⟩

theorem DomainsKept.of_eq {s t : State} (hsys : t.sys = s.sys) (hgnss : t.gnss = s.gnss) : DomainsKept s t :=
  ⟨by rw [hsys], by rw [hsys], by rw [hgnss]⟩

theorem DomainsKept.of_same {m : List Part} {s t : State} (h : SameBut m s t) (hsys : Part.sys ∉ m) (hgnss : Part.gnss ∉ m) : DomainsKept s t :=
  .of_eq (h .sys hsys) (h .gnss hgnss)

theorem notices_foldl_domainsKept (l : List (Nat × Nat × Nat)) (s : State) :
    DomainsKept s (l.foldl (fun s n => match fin? 128 n.1 with | some i => notices i n.2.1 n.2.2 s | none => s) s) := by
  induction l generalizing s with
  | nil => exact .refl s
  | cons n l ih =>
    refine DomainsKept.trans ?_ (ih _)
    dsimp only
    split
    · exact .of_eq (notices_sys _ _ _ s) (notices_gnss _ _ _ s)
    · exact .refl s

theorem pd2Exit_domainsKept (s : State) : DomainsKept s (pd2Exit s) := by
  unfold pd2Exit
  extract_lets s1 ns s2
  have h1 : DomainsKept s s1 := .of_same (heldRecords_same s) (by decide) (by decide)
  have h2 : DomainsKept s s2 := h1.trans (notices_foldl_domainsKept ns _)
  split
  · have hlost : DomainsKept s2 (s2.onSys fun y => { y with hostStructLost := false }) := ⟨rfl, rfl, rfl⟩
    exact (h2.trans hlost).trans (.of_same (raise_same 55 0 _) (by decide) (by decide))
  · exact h2

theorem setFix_nav (b : Fin 2) (k : Nat) (s : State) : (setFix b k s).gnss.nav = s.gnss.nav := by
  unfold setFix
  split
  · rfl
  · rw [raise_gnss]; rfl

theorem gnssWake_domainsKept (b : Fin 2) (s : State) : DomainsKept s (gnssWake b s) :=
  have hsys : (gnssWake b s).sys = s.sys := gnssWake_same b s .sys (by decide)
  ⟨by rw [hsys], by rw [hsys], setFix_nav b 0 _⟩

theorem firStale_domainsKept (p : Fin 22 → Bool) (s : State) : DomainsKept s (firStale p s) :=
  .of_same (firStale_same p s) (by decide) (by decide)

theorem domainServes_domainsKept (d : Fin 12) (was : DomState) (before s : State) : DomainsKept s (domainServes d was before s) := by
  unfold domainServes
  extract_lets cold
  split
  · exact pd2Exit_domainsKept s
  · split
    · exact firStale_domainsKept _ s
    · exact .refl s
  · refine DomainsKept.trans ?_ (.of_same (canStates_same before _) (by decide) (by decide))
    refine DomainsKept.trans ?_ (.of_same (canPd4On_same _) (by decide) (by decide))
    split
    · exact firStale_domainsKept _ s
    · exact .refl s
  · exact .of_same (belvWake_same _ s) (by decide) (by decide)
  · split
    · exact gnssWake_domainsKept 0 s
    · exact .refl s
  · split
    · exact gnssWake_domainsKept 1 s
    · exact .refl s
  · split
    · exact (firStale_domainsKept _ s).trans (.of_same ((SameBut.refl [.fir] _).onFir _ rfl) (by decide) (by decide))
    · exact .refl s
  · exact .refl s

theorem set_dom_self {α : Type} (v : Vector α 12) (d : Fin 12) (x : α) : (v.set d x)[d] = x := by simp

theorem set_dom_ne {α : Type} (v : Vector α 12) {d e : Fin 12} (h : e ≠ d) (x : α) : (v.set d x)[e] = v[e] :=
  Vector.getElem_set_ne _ _ fun he => h (Fin.ext he.symm)

theorem domainExitComplete_outcome {d : Fin 12} {s : State} (h : s.sys.exiting[d] = true) :
    ∃ t, Steps (.domainExitComplete d) s t ∧ t.sys.dom[d] = .on ∧ t.sys.exiting[d] = false ∧
      (∀ e : Fin 12, e ≠ d → t.sys.dom[e] = s.sys.dom[e] ∧ t.sys.exiting[e] = s.sys.exiting[e]) ∧ t.gnss.nav = s.gnss.nav := by
  have hexec := exec_domainExitComplete d s
  rw [h] at hexec
  extract_lets u at hexec
  have hsys : u.sys = s.sys := advanceTo_sys _ s
  obtain ⟨hdom, hexit, hnav⟩ := domainServes_domainsKept d u.sys.dom[d] u (domainOn d u)
  have hdom' : (domainOn d u).sys.dom = s.sys.dom.set d .on := by rw [← hsys]; rfl
  have hexit' : (domainOn d u).sys.exiting = s.sys.exiting.set d false := by rw [← hsys]; rfl
  refine ⟨domainServes d u.sys.dom[d] u (domainOn d u), hexec, ?_, ?_, fun e he => ⟨?_, ?_⟩, ?_⟩
  · rw [hdom, hdom', set_dom_self]
  · rw [hexit, hexit', set_dom_self]
  · rw [hdom, hdom', set_dom_ne _ he]
  · rw [hexit, hexit', set_dom_ne _ he]
  · rw [hnav]; exact congrArg GnssState.nav (advanceTo_gnss s.sys.exitAt[d] s)

/-! The return to the budget (R85, R86, R87). -/

/-- The state from which the domains return: the second of quiet has passed, and a PD2 that goes off has flushed and dropped what the host owns. -/
def idleFrom (s : State) : State :=
  let s := advanceTo (s.sys.lastActive + secTicks) s
  if s.sys.dom[(0 : Fin 12)] == .on && idleState s 0 == .off then dropHostStructs (flush [] s) else s

/-- The domains take their states. -/
def idleTaken (s : State) : State :=
  s.onSys fun y => { y with
    dom := Vector.ofFn (idleState s)
    exiting := vmapI y.exiting fun d e => e && decide (s.hp.wakeBudget < exitUs d y.dom[d]) }

/-- The CAN controllers sleep with PD4. -/
def idleCan (before s : State) : State :=
  if s.sys.dom[(2 : Fin 12)] != .on && before.sys.dom[(2 : Fin 12)] == .on then
    let s := canPd4Sleep s
    if s.sys.dom[(2 : Fin 12)] == .off then canPd4Off s else s
  else s

theorem exec_wakeIdleReturn (s : State) : exec .wakeIdleReturn s = .next (if !s.hp.ready || !idleNow s then s
    else canStates (idleFrom s) (idleCan (idleFrom s) (idleTaken (idleFrom s)))) := rfl

theorem idleCan_sys (before s : State) : (idleCan before s).sys = s.sys := by
  unfold idleCan
  split
  · extract_lets u
    split
    · rfl
    · rfl
  · rfl

theorem dropHostStructs_budget (s : State) : (dropHostStructs s).sys.dom = s.sys.dom ∧ (dropHostStructs s).sys.exiting = s.sys.exiting ∧
    (dropHostStructs s).sys.mode = s.sys.mode ∧ (dropHostStructs s).solv.region = s.solv.region := ⟨rfl, rfl, rfl, rfl⟩

/-- What the budget reads is as before. -/
theorem idleFrom_reads (s : State) : (idleFrom s).sys.dom = s.sys.dom ∧ (idleFrom s).sys.exiting = s.sys.exiting ∧
    (idleFrom s).sys.mode = s.sys.mode ∧ (idleFrom s).solv.region = s.solv.region ∧ (idleFrom s).hp = s.hp := by
  unfold idleFrom
  extract_lets u
  have hsys : u.sys = s.sys := advanceTo_sys _ s
  have hsolv : u.solv = s.solv := advanceTo_solv _ s
  have hhp : u.hp = s.hp := advanceTo_hp _ s
  have hfsys : (flush [] u).sys = s.sys := (flush_same [] u .sys (by decide)).trans hsys
  have hfsolv : (flush [] u).solv = s.solv := (flush_same [] u .solv (by decide)).trans hsolv
  have hfhp : (flush [] u).hp = s.hp := (flush_same [] u .hp (by decide)).trans hhp
  split
  · obtain ⟨hdom, hexit, hmode, hregion⟩ := dropHostStructs_budget (flush [] u)
    exact ⟨by rw [hdom, hfsys], by rw [hexit, hfsys], by rw [hmode, hfsys], by rw [hregion, hfsolv], hfhp⟩
  · exact ⟨by rw [hsys], by rw [hsys], by rw [hsys], by rw [hsolv], hhp⟩

/-- The budget acts on a domain by the mode and the region's state alone. -/
theorem budgeted_congr {s t : State} (hmode : t.sys.mode = s.sys.mode) (hregion : t.solv.region = s.solv.region) (d : Fin 12) :
    budgeted t d = budgeted s d := by
  simp only [budgeted, deadDomain, coolDomain, hmode, hregion]

theorem idleState_idleFrom {d : Fin 12} (hd : d ≠ 11) (s : State) : idleState (idleFrom s) d =
    (if budgeted s d = true ∧ (s.sys.dom[d] = .on ∨ (s.sys.exiting[d] = true ∧ exitUs d s.sys.dom[d] ≤ s.hp.wakeBudget)) then budgetState d s.hp.wakeBudget
      else s.sys.dom[d]) := by
  obtain ⟨hdom, hexit, hmode, hregion, hhp⟩ := idleFrom_reads s
  have hval : (d.val == 11) = false := by simpa using fun h => hd (Fin.ext h)
  have hval' : d.val ≠ 11 := by simpa using hval
  cases hb : budgeted s d <;> simp [idleState, budgeted_congr hmode hregion, hb, hdom, hexit, hhp, hval']

theorem idleState_pd13 (s : State) : idleState s 11 = s.sys.dom[(11 : Fin 12)] ∨ idleState s 11 = budgetState 11 s.hp.wakeBudget := by
  unfold idleState
  extract_lets now
  split
  · exact .inl rfl
  · split
    · exact .inr rfl
    · exact .inl rfl

theorem wakeIdleReturn_outcome {s : State} (hr : s.hp.ready = true) (hi : idleNow s = true) :
    ∃ t, Steps .wakeIdleReturn s t ∧
      (∀ d : Fin 12, d ≠ 11 → t.sys.dom[d] = (if budgeted s d = true ∧ (s.sys.dom[d] = .on ∨ (s.sys.exiting[d] = true ∧ exitUs d s.sys.dom[d] ≤ s.hp.wakeBudget)) then budgetState d s.hp.wakeBudget else s.sys.dom[d])) ∧
      (∀ d : Fin 12, t.sys.exiting[d] = (s.sys.exiting[d] && decide (s.hp.wakeBudget < exitUs d s.sys.dom[d]))) ∧
      (t.sys.dom[11] = s.sys.dom[11] ∨ t.sys.dom[11] = budgetState 11 s.hp.wakeBudget) := by
  have hexec := exec_wakeIdleReturn s
  rw [hr, hi] at hexec
  have hsys : (canStates (idleFrom s) (idleCan (idleFrom s) (idleTaken (idleFrom s)))).sys = (idleTaken (idleFrom s)).sys :=
    (canStates_same _ _ .sys (by decide)).trans (idleCan_sys _ _)
  obtain ⟨hdom, hexit, -, -, hhp⟩ := idleFrom_reads s
  refine ⟨canStates (idleFrom s) (idleCan (idleFrom s) (idleTaken (idleFrom s))), hexec, fun d hd => ?_, fun d => ?_, ?_⟩ <;> rw [hsys]
  · rw [← idleState_idleFrom hd s]
    simp [idleTaken]
  · simp [idleTaken, hdom, hexit, hhp]
  · have h11 := idleState_pd13 (idleFrom s)
    rw [hdom, hhp] at h11
    simpa [idleTaken] using h11

/-! The boundary-scan port (R450). -/

/-- The port's state after an access. -/
def tapAfter (a : TapIn) (s : State) (t : TapState) : TapState :=
  match a with
  | .trst high => if high then { t with trst := true } else {}
  | .bypass => if t.trst then { t with ir := 1, extest := false } else t
  | .sample => if t.trst then { t with ir := 2, extest := false } else t
  | .preload v => if t.trst then { t with ir := 2, extest := false, bsr := v } else t
  | .extest => if t.trst then { t with ir := 3, extest := s.sys.rstLow } else t
  | .idcode => if t.trst then { t with ir := 0, extest := false, out := idCodes } else t

theorem exec_boundaryScanAccess (a : TapIn) (s : State) : exec (.boundaryScanAccess a) s = .next (s.onTap (tapAfter a s)) := rfl

/-- An access changes the port alone. -/
theorem boundaryScanAccess_steps {a : TapIn} {s : State} {k : TapState} (h : tapAfter a s s.tap = k) :
    ∃ t, Steps (.boundaryScanAccess a) s t ∧ SameBut [.tap] s t ∧ t.tap = k :=
  ⟨_, exec_boundaryScanAccess a s, (SameBut.refl _ s).onTap _ rfl, h⟩

/-- While TRST_N is low an access does nothing. -/
theorem tapAfter_reset {a : TapIn} {s : State} (h : s.tap.trst = false) (ha : ∀ high : Bool, a ≠ .trst high) : tapAfter a s s.tap = s.tap := by
  cases a with
  | trst high => exact absurd rfl (ha high)
  | bypass | sample | preload | extest | idcode => simp [tapAfter, h]

theorem boundaryScanAccess_steps_self {a : TapIn} {s : State} (h : tapAfter a s s.tap = s.tap) : Steps (.boundaryScanAccess a) s s := by
  rw [Steps, exec_boundaryScanAccess]
  exact congrArg (fun k : TapState => Host.Outcome.next { s with tap := k }) h

end Sys2Proof.Machine

open Sys2Proof Sys2Proof.Machine

/-- Settles O48, unit by unit and domain by domain: the containment of each failure, and the domains read off the steps of their rows. -/
theorem failuresPowerDomainsWakeAndBoundaryScan : Obligations.FailuresPowerDomainsWakeAndBoundaryScan := by
  unfold Obligations.FailuresPowerDomainsWakeAndBoundaryScan
  refine ⟨fun s hv hf => tcxoFailure_outcome hv hf, ?tcxoNone, ?region, ?baseband, ?belvedere, ?inertial, ?nf1, ?nf0, ?kiln, ?other, ?passes, ?unready,
    ?rail, ?railSeen, ?memory, ?memorySeen, ?wake, ?wakeUnready, fun d s h => domainExitComplete_outcome h, ?exitNone, fun s hr hi => wakeIdleReturn_outcome hr hi,
    ?idleNone, ?trst, ?tap, ?tapReset⟩
  case tcxoNone =>
    intro s h
    rw [Steps, exec_tcxoFailure, if_pos (by rcases h with h | h <;> simp [h])]
  case region =>
    intro r n s hr h
    have hoff := loseRegion_off (r := r) 3 1 (s := linkCounted n s) h
    exact ⟨_, linkTransferFailure_steps (.region r) n hr, hoff.1, hoff.2.1⟩
  case baseband =>
    intro b n s hr h
    exact ⟨_, linkTransferFailure_steps (.baseband b) n hr, bbFail_outcome (s := linkCounted n s) hr h⟩
  case belvedere =>
    intro n s hr
    exact ⟨_, linkTransferFailure_steps .belvedere n hr, belvFail_outcome 3 (s := linkCounted n s) hr⟩
  case inertial =>
    intro n s hr h
    exact ⟨_, linkTransferFailure_steps .inertial n hr, imuFail_outcome 4 (s := linkCounted n s) hr h⟩
  case nf1 =>
    intro n s hr h
    refine ⟨_, linkTransferFailure_steps (.flash true) n hr, ?_⟩
    rw [containLink_nf1 (s := linkCounted n s) h]
    exact ⟨by rw [raise_sys]; rfl, raise_occurred 0 hr (by decide) rfl⟩
  case nf0 =>
    intro n s hr
    exact ⟨_, linkTransferFailure_steps (.flash false) n hr, failCommit_outcome 1 0 0xB011 2 ((linkCounted n s).onSys fun y => { y with nf0Ok := false })⟩
  case kiln =>
    intro n s hr
    exact ⟨_, linkTransferFailure_steps .kiln n hr, (linkCounted_same n s).onSysMode _ rfl fun _ => ⟨rfl, rfl⟩, rfl⟩
  case other =>
    intro n s hr
    exact ⟨_, linkTransferFailure_steps .other n hr, selfDiag_mem 11 _, fun hnew => selfDiag_occurred (s := linkCounted n s) hnew hr⟩
  case passes =>
    intro u n f s hr hf
    refine ⟨linkCounted n s, ?_, linkCounted_same n s, rfl⟩
    rw [Steps, exec_linkTransferFailure, hr, if_neg hf]; rfl
  case unready =>
    intro u n f s hr
    rw [Steps, Steps, Steps, exec_linkTransferFailure, exec_internalRailFault, exec_stateMemoryEccError, hr]
    exact ⟨rfl, rfl, rfl⟩
  case rail =>
    intro s hr h
    exact ⟨_, by rw [Steps, exec_internalRailFault, hr]; rfl, selfDiag_new_outcome hr h⟩
  case railSeen =>
    intro s hr h
    rw [Steps, exec_internalRailFault, hr, selfDiag_of_seen h]; rfl
  case memory =>
    intro s hr h
    exact ⟨_, by rw [Steps, exec_stateMemoryEccError, hr]; rfl, selfDiag_new_outcome hr h⟩
  case memorySeen =>
    intro s hr h
    rw [Steps, exec_stateMemoryEccError, hr, selfDiag_of_seen h]; rfl
  case wake =>
    intro w s hr
    refine ⟨wakeTrigger (wakeCode w) s, by rw [Steps, exec_wakeTrigger, hr]; rfl, wakeTrigger_same _ s, ?_, ?_, fun d => ?_, fun d h h' => ?_, ?_, fun h => ?_⟩
    · rw [wakeTrigger_sys]; rfl
    · rw [wakeTrigger_sys]; rfl
    · rw [wakeTrigger_sys, wakeStarted_exiting, wakes]
      cases s.sys.exiting[d] <;> simp
    · rw [wakeTrigger_sys] at h' ⊢
      exact wakeStarted_exitAt s d (wakes_of_started h h')
    · rintro ⟨d, h, h'⟩
      rw [wakeTrigger_sys] at h'
      exact wakeTrigger_occurred hr (wakes_of_started h h')
    · rw [wakeTrigger_sys]
      exact wakeStarted_exiting_of_not_dormant h
  case wakeUnready =>
    intro w s hr
    rw [Steps, exec_wakeTrigger, hr]; rfl
  case exitNone =>
    intro d s h
    rw [Steps, exec_domainExitComplete, h]; rfl
  case idleNone =>
    intro s h
    rw [Steps, exec_wakeIdleReturn, if_pos (by rcases h with h | h <;> simp [h])]
  case trst =>
    intro s
    exact ⟨boundaryScanAccess_steps rfl, boundaryScanAccess_steps rfl⟩
  case tap =>
    intro v s h
    exact ⟨boundaryScanAccess_steps (if_pos h), boundaryScanAccess_steps (if_pos h), boundaryScanAccess_steps (if_pos h), boundaryScanAccess_steps (if_pos h),
      boundaryScanAccess_steps (if_pos h)⟩
  case tapReset =>
    intro a s h ha
    exact boundaryScanAccess_steps_self (tapAfter_reset h ha)
end

section
/-! What a reader of the state depends on: two states that differ in listed parts alone are one state with those parts replaced. -/

namespace Sys2Proof.Machine

/-- The state s with the listed parts of t. -/
def withParts (l : List Part) (s t : State) : State where
  host := bif l.contains .host then t.host else s.host
  maint := bif l.contains .maint then t.maint else s.maint
  hp := bif l.contains .hp then t.hp else s.hp
  ev := bif l.contains .ev then t.ev else s.ev
  sys := bif l.contains .sys then t.sys else s.sys
  time := bif l.contains .time then t.time else s.time
  gnss := bif l.contains .gnss then t.gnss else s.gnss
  fir := bif l.contains .fir then t.fir else s.fir
  fus := bif l.contains .fus then t.fus else s.fus
  solv := bif l.contains .solv then t.solv else s.solv
  dpc := bif l.contains .dpc then t.dpc else s.dpc
  alloc := bif l.contains .alloc then t.alloc else s.alloc
  loop := bif l.contains .loop then t.loop else s.loop
  kiln := bif l.contains .kiln then t.kiln else s.kiln
  dpx := bif l.contains .dpx then t.dpx else s.dpx
  can := bif l.contains .can then t.can else s.can
  uart := bif l.contains .uart then t.uart else s.uart
  mnt := bif l.contains .mnt then t.mnt else s.mnt
  tap := bif l.contains .tap then t.tap else s.tap
  cfg := bif l.contains .cfg then t.cfg else s.cfg
  log := bif l.contains .log then t.log else s.log
  bulk := bif l.contains .bulk then t.bulk else s.bulk
  subs := bif l.contains .subs then t.subs else s.subs
  free := bif l.contains .free then t.free else s.free
  pending := bif l.contains .pending then t.pending else s.pending

theorem cond_part {α : Type} {l : List Part} {q : Part} {x y : α} (h : q ∉ l → x = y) : (bif l.contains q then x else y) = x := by
  by_cases hq : q ∈ l
  · simp [hq]
  · simp [hq, h hq]

theorem SameBut.eq_withParts {l : List Part} {s t : State} (h : SameBut l s t) : t = withParts l s t := by
  unfold withParts
  rw [cond_part (h .host), cond_part (h .maint), cond_part (h .hp), cond_part (h .ev), cond_part (h .sys), cond_part (h .time), cond_part (h .gnss),
    cond_part (h .fir), cond_part (h .fus), cond_part (h .solv), cond_part (h .dpc), cond_part (h .alloc), cond_part (h .loop), cond_part (h .kiln),
    cond_part (h .dpx), cond_part (h .can), cond_part (h .uart), cond_part (h .mnt), cond_part (h .tap), cond_part (h .cfg), cond_part (h .log),
    cond_part (h .bulk), cond_part (h .subs), cond_part (h .free), cond_part (h .pending)]

/-- A reader that the replaced parts do not change reads the same. -/
theorem SameBut.read {α : Type} {l : List Part} {s t : State} (h : SameBut l s t) (f : State → α) (hf : f (withParts l s t) = f s) : f t = f s :=
  (congrArg f h.eq_withParts).trans hf

end Sys2Proof.Machine
end
section
namespace Sys2Proof.Machine
/-- The parts of the state that an update of the observers changes. -/
def updParts : List Part := [.host, .maint, .ev, .log, .free, .fus]

/-- An estimate is read from the mechanisation, the attitudes and the wind force of Belvedere, and from none of its other fields that an update changes. -/
theorem estOf_congr {s t : State} (h : SameBut updParts s t) (hslot : t.fus.slot = s.fus.slot) (hmechs : t.fus.mechs = s.fus.mechs)
    (hmru : t.fus.mru = s.fus.mru) (hatt : t.fus.attSt = s.fus.attSt) (hwind : t.fus.windF = s.fus.windF) (b : Nat) (o : Obs) :
    estOf t b o = estOf s b o := by
  have hfus : t.fus = { t.fus with slot := s.fus.slot, mechs := s.fus.mechs, mru := s.fus.mru, attSt := s.fus.attSt, windF := s.fus.windF } := by
    rw [← hslot, ← hmechs, ← hmru, ← hatt, ← hwind]
  refine h.read (fun u => estOf u b o) ?_
  simp only [withParts]
  rw [hfus]
  rfl
end Sys2Proof.Machine
end

section
/-! The update of the observers in its stages (7.4 to 7.7). -/

namespace Sys2Proof.Machine

/-! The stages of observe, each from the state s in which the measurements have been taken. -/

/-- SAFE-HOLD: no measurement contributes. -/
def updHold (s : State) : Bool := s.sys.mode == .safeHold

/-- The bank before the update. -/
def updBase (b : Nat) (s : State) : ObsBank := bankNow (b - frameTicks) s

/-- The measurements that the observers take, in the order of t_v. -/
def updEvents (b : Nat) (s : State) (used : List Stamped) : List ObsMeas :=
  if updHold s then [] else (used.filterMap (obsMeas (updBase b s).at_ s)).foldl (fun l m => measInsert m l) []

/-- The late ones, and those of the frame. -/
def updLates (b : Nat) (s : State) (used : List Stamped) : List ObsMeas := (updEvents b s used).filter fun m => m.late
def updNow (b : Nat) (s : State) (used : List Stamped) : List ObsMeas := (updEvents b s used).filter fun m => !m.late

/-- The bank at the boundary before, the history, and what was seen on the way: replayed where a measurement is late. -/
def updReplay (b : Nat) (s : State) (used : List Stamped) : ObsBank × List HistFrame × List Seen × List Seen :=
  if (updLates b s used).isEmpty then (updBase b s, s.fus.hist, [], []) else replay s (updLates b s used) (updBase b s)

/-- A leg to the boundary b. -/
def updLeg (b : Nat) (s : State) (wind : Vector Int 3) (ms : List ObsMeas) : Leg := { mechs := s.fus.mechs, par := obsPar s, wind := wind, t1 := b, meas := ms }

/-- What the bank sees of the frame's measurements. -/
def updSeen (b : Nat) (s : State) (used : List Stamped) : List Seen × List Seen :=
  (bankRun (updLeg b s s.fus.windF (updNow b s used)) (updReplay b s used).1).2

/-- The innovations of position and heading. -/
def updInnov (b : Nat) (s : State) (used : List Stamped) : State :=
  let origins := s.fus.slot.map fun x => x.origin.getD (0, 0)
  ((updReplay b s used).2.2.1 ++ (updSeen b s used).1).foldl (fun s sn => match fin? 24 sn.m.slot with
    | some i =>
      let fused := (used.filter fun e => e.slot == i && e.tv == sn.m.tv).any fun e => e.m.fused
      takeInnov b i fused origins[i] sn s
    | none => s) s

/-- Those of motion and wind. -/
def updOthers (b : Nat) (hold : Bool) (used : List Stamped) (s : State) : State :=
  if hold then s else (used.filter fun e => match refGroup s e.slot.val with | some g => decide (2 ≤ g.val) | none => false).foldl (fun s e => takeOther b e s) s

/-- The votes, and what they give. -/
def updVotes (b : Nat) (hold : Bool) (used : List Stamped) (loo : List Seen) (s : State) : State :=
  if hold then s else motionWind used (voteAll b (looSlots b loo s))

/-- The state after the votes of the frame. -/
def updVoted (b : Nat) (s : State) (used : List Stamped) : State :=
  updVotes b (updHold s) used ((updReplay b s used).2.2.2 ++ (updSeen b s used).2) (updOthers b (updHold s) used (updInnov b s used))

/-- The measurements of the frame with their slots' votes; the late ones used. -/
def updAct (b : Nat) (s : State) (used : List Stamped) : List ObsMeas :=
  (updNow b s used).map fun m => { m with use := match fin? 24 m.slot with | some i => ((updVoted b s used).fus.slot[i]).st == 3 | none => false }
def updCuts (b : Nat) (s : State) (used : List Stamped) : List ObsMeas := (updLates b s used).filter fun m => m.use

/-- The leg of the update proper. -/
def updActLeg (b : Nat) (s : State) (used : List Stamped) : Leg := updLeg b s (updVoted b s used).fus.windF (updAct b s used)

/-- The bank at the boundary. -/
def updRun (b : Nat) (s : State) (used : List Stamped) : ObsBank :=
  (bankRun { updActLeg b s used with cuts := updCuts b s used } (updReplay b s used).1).1

/-- The slots whose leave-one-out observer the main one takes, and the bank with it. -/
def updSwaps (b : Nat) (s : State) (used : List Stamped) : List (Fin 24) :=
  if updHold s then [] else (swapSlots (s.fus.slot) (updVoted b s used)).filter fun i => (updRun b s used).loo.any fun e => e.1 == i.val

def updMain (b : Nat) (s : State) (used : List Stamped) : Obs :=
  (updSwaps b s used).foldl (fun o i => match (updRun b s used).loo.find? fun e => e.1 == i.val with | some e => e.2 | none => o) (updRun b s used).main
def updBank (b : Nat) (s : State) (used : List Stamped) : ObsBank := { updRun b s used with main := updMain b s used }

/-- Each swap raises its event. -/
def updSwapped (b : Nat) (s : State) (used : List Stamped) : State := (updSwaps b s used).foldl (fun s i => raise 40 i.val s) (updVoted b s used)

/-- Dead-reckoning and the estimate mode. -/
def updMode (b : Nat) (s : State) : State :=
  estModeStep (activeIn 0 s) (activeIn 1 s) (drStep b 1 (activeIn 1 s) (drStep b 0 (activeIn 0 s) s))

/-- The slots that are ACTIVE, and those that contribute. -/
def updActive (b : Nat) (s : State) (used : List Stamped) : Nat :=
  maskOf (Vector.ofFn fun i : Fin 24 => !updHold s && ((updSwapped b s used).fus.slot[i]).st == 3 && refOn (updSwapped b s used) i.val)
def updContrib (b : Nat) (s : State) (used : List Stamped) : Nat :=
  maskOf (Vector.ofFn fun i : Fin 24 => tb (updActive b s used) i.val || (updCuts b s used).any fun m => m.slot == i.val)

/-- The state after the votes, the swaps, dead-reckoning and the mode, with the age. -/
def updAged (b : Nat) (s : State) (used : List Stamped) : State × Nat := obsAge b (updContrib b s used) (updMode b (updSwapped b s used))

/-- The frame as it is stored. -/
def updFrame (b : Nat) (s : State) (used : List Stamped) : HistFrame :=
  { k := b / frameTicks, bank := updBank b s used, par := obsPar (updAged b s used).1, wind := (updAged b s used).1.fus.windF, meas := updAct b s used
    cuts := updCuts b s used, active := updActive b s used }

/-- What the update leaves of Belvedere's state. -/
def updFus (b ce : Nat) (s : State) (used : List Stamped) (u : FusState) : FusState :=
  { u with
    xhat := estOf (updSwapped b s used) b (updBank b s used).main, contrib := updContrib b s used, age := (updAged b s used).2
    rolled := !(updLates b s used).isEmpty, swapped := !(updSwaps b s used).isEmpty, hdgDr := !activeIn 1 (updSwapped b s used), odoFault := odoMask (updAged b s used).1
    bank := some (updBank b s used), hist := (updFrame b s used :: (updReplay b s used).2.1).take 256, histCe := satN 0xFFFFFFFF (u.histCe + ce) }

/-- The update, stage by stage. -/
theorem observe_eq (b ce : Nat) (s : State) :
    (observe b ce s).1 = (updAged b (takeAll b s).1 (takeAll b s).2).1.onFus (updFus b ce (takeAll b s).1 (takeAll b s).2) := by
  unfold observe
  generalize takeAll b s = a
  rfl

end Sys2Proof.Machine
end

section
/-! What the stages of an update keep of Belvedere's state. -/

namespace Sys2Proof.Machine

/-! The frame's output, history and bank, and the queues: until the update is entered no stage changes them. -/

/-- Belvedere's state without its slots, modes, votes, mechanisation and wind. -/
def updOuter (u : FusState) : FusState :=
  { u with slot := Vector.replicate 24 {}, mode := 0, initRun := 0, conflict := Vector.replicate 4 false, attSt := 0, attBack := 0
           lastAct := Vector.replicate 2 none, drift := Vector.replicate 2 false, mechs := [], mru := [], wind := none, windF := Vector.replicate 3 0 }

/-- A stage keeps what is outside the slots and the votes, and brings nothing into a queue. -/
structure UpdKept (s t : State) : Prop where
  outer : updOuter t.fus = updOuter s.fus
  queue : ∀ i : Fin 24, ∀ m ∈ (t.fus.slot[i]).queue, m ∈ (s.fus.slot[i]).queue

namespace UpdKept

variable {s t u : State}

theorem refl (s : State) : UpdKept s s := ⟨rfl, fun _ _ hm => hm⟩

theorem trans (h : UpdKept s t) (k : UpdKept t u) : UpdKept s u := ⟨k.outer.trans h.outer, fun i m hm => h.queue i m (k.queue i m hm)⟩

theorem of_fus (h : t.fus = s.fus) : UpdKept s t := ⟨by rw [h], fun i m hm => by rwa [h] at hm⟩

theorem onFus (f : FusState → FusState) (s : State) (ho : updOuter (f s.fus) = updOuter s.fus) (hs : (f s.fus).slot = s.fus.slot) : UpdKept s (s.onFus f) :=
  ⟨ho, fun i m hm => by rwa [State.onFus_fus, hs] at hm⟩

theorem onSlot (i : Fin 24) (f : RefSlot → RefSlot) (s : State) (hf : ∀ m ∈ (f s.fus.slot[i]).queue, m ∈ (s.fus.slot[i]).queue) : UpdKept s (onSlot i f s) := by
  refine ⟨rfl, fun j m hm => ?_⟩
  by_cases hj : j = i
  · subst hj
    exact hf m (by simpa [Machine.onSlot] using hm)
  · simpa [Machine.onSlot, upd_getElem_ne _ _ _ _ hj] using hm

theorem raise (n : Fin 128) (d : Nat) (s : State) : UpdKept s (raise n d s) := of_fus (raise_fus n d s)

theorem foldl {α : Type} {g : State → α → State} (hg : ∀ w x, UpdKept w (g w x)) (l : List α) (s : State) : UpdKept s (l.foldl g s) := by
  induction l generalizing s with
  | nil => exact refl s
  | cons x l ih => exact (hg s x).trans (ih (g s x))

theorem foldlFst {α β : Type} {g : State × β → α → State × β} (hg : ∀ w x, UpdKept w.1 (g w x).1) (l : List α) (a : State × β) :
    UpdKept a.1 (l.foldl g a).1 := by
  induction l generalizing a with
  | nil => exact refl a.1
  | cons x l ih => exact (hg a x).trans (ih (g a x))

end UpdKept

/-- A change of a slot that keeps its queue. -/
theorem onSlot_updKept (i : Fin 24) (f : RefSlot → RefSlot) (s : State) (hf : ∀ x, (f x).queue = x.queue) : UpdKept s (onSlot i f s) :=
  .onSlot i f s fun m hm => by rwa [hf] at hm

theorem setSlot_updKept (i : Fin 24) (st : Nat) (s : State) : UpdKept s (setSlot i st s) := by
  unfold setSlot
  split
  · exact .refl s
  · refine UpdKept.trans ?_ (.raise 32 _ _)
    exact onSlot_updKept i _ s fun _ => rfl

theorem setEstMode_updKept (m : Nat) (s : State) : UpdKept s (setEstMode m s) := by
  unfold setEstMode
  split
  · exact .refl s
  · refine UpdKept.trans ?_ (.raise 39 _ _)
    exact .onFus _ s rfl rfl

theorem discard_updKept (i : Fin 24) (r : Fin 3) (s : State) : UpdKept s (discard i r s) := by
  unfold discard
  extract_lets now due u
  have hu : UpdKept s u := onSlot_updKept i _ s fun _ => rfl
  split
  · exact hu.trans (.raise 37 _ u)
  · exact hu

/-- Stamping leaves the state, or changes the time base of the slot with or without its event. -/
theorem stampMeas_cases (i : Fin 24) (m : Meas) (s : State) (P : State → Prop) (hsame : P s)
    (hslot : ∀ f : RefSlot → RefSlot, (f s.fus.slot[i]).queue = (s.fus.slot[i]).queue → (f s.fus.slot[i]).st = (s.fus.slot[i]).st → P (onSlot i f s))
    (hraise : ∀ (d : Nat) (f : RefSlot → RefSlot), (f s.fus.slot[i]).queue = (s.fus.slot[i]).queue → (f s.fus.slot[i]).st = (s.fus.slot[i]).st →
      P (raise 35 d (onSlot i f s))) : P (stampMeas i m s).2 := by
  unfold stampMeas
  extract_lets k arr x day ready
  split
  · exact hsame
  · split
    · exact hsame
    · extract_lets ts tmap bad fitted c
      split
      · split
        · exact hraise _ _ rfl rfl
        · exact hslot _ rfl rfl
      · split
        · exact hslot _ rfl rfl
        · split
          · split
            · exact hraise _ _ rfl rfl
            · exact hslot _ rfl rfl
          · exact hslot _ rfl rfl

theorem stampMeas_updKept (i : Fin 24) (m : Meas) (s : State) : UpdKept s (stampMeas i m s).2 := by
  have hslot : ∀ f : RefSlot → RefSlot, (f s.fus.slot[i]).queue = (s.fus.slot[i]).queue → UpdKept s (onSlot i f s) :=
    fun f hf => .onSlot i f s fun n hn => by rwa [hf] at hn
  exact stampMeas_cases i m s _ (.refl s) (fun f hf _ => hslot f hf) fun d f hf _ => (hslot f hf).trans (.raise 35 d _)

end Sys2Proof.Machine
end

section
/-! The intake of the queues, the innovations, the votes, dead-reckoning and the mode: what they keep. -/

namespace Sys2Proof.Machine

/-! The intake of a queue in two passes (R157). -/

/-- A measurement is stamped and takes its place. -/
def stampInto (b : Nat) (i : Fin 24) (a : State × List Stamped) (m : Meas) : State × List Stamped :=
  let r := stampMeas i m a.1
  (r.2, tvInsert { slot := i, m := m, tv := r.1, sigma := measSigma r.2 i m r.1 b } a.2)

/-- A stamped measurement is used or discarded. -/
def useStamped (i : Fin 24) (prev oldest : Int) (a : State × List Stamped) (e : Stamped) : State × List Stamped :=
  if (a.1.fus.slot[i]).used && e.tv ≤ (a.1.fus.slot[i]).lastTv then (discard i 1 a.1, a.2)
  else if e.tv < prev && e.tv < oldest then (discard i 0 a.1, a.2)
  else (onSlot i (fun x => { x with lastTv := e.tv, used := true, nUsed := inc32 x.nUsed, sigma := e.sigma }) a.1, a.2 ++ [e])

/-- The queue without what arrived before the boundary. -/
def queueFrom (b : Nat) (i : Fin 24) (s : State) : State := onSlot i (fun x => { x with queue := x.queue.filter fun m => b ≤ m.ta }) s

/-- The measurements of a slot that arrived before it, stamped. -/
def stampedQueue (b : Nat) (i : Fin 24) (s : State) : State × List Stamped :=
  ((s.fus.slot[i]).queue.filter fun m => m.ta < b).foldl (stampInto b i) (queueFrom b i s, [])

theorem takeQueue_eq (b : Nat) (i : Fin 24) (s : State) : takeQueue b i s =
    (stampedQueue b i s).2.foldl (useStamped i ((b : Int) - 1000000) ((b : Int) - 1000000 * ((stampedQueue b i s).1.fus.hist.length : Int)))
      ((stampedQueue b i s).1, []) := rfl

/-- One slot more is taken. -/
def takeNext (b : Nat) (a : State × List Stamped) (i : Fin 24) : State × List Stamped := ((takeQueue b i a.1).1, a.2 ++ (takeQueue b i a.1).2)

theorem takeAll_eq (b : Nat) (s : State) : takeAll b s = (fins 24).foldl (takeNext b) (s, []) := rfl

theorem useStamped_updKept (i : Fin 24) (prev oldest : Int) (a : State × List Stamped) (e : Stamped) : UpdKept a.1 (useStamped i prev oldest a e).1 := by
  unfold useStamped
  split
  · exact discard_updKept i 1 a.1
  · split
    · exact discard_updKept i 0 a.1
    · exact onSlot_updKept i _ a.1 fun _ => rfl

/-- All that follows the removal from the queue. -/
theorem takeQueue_updKept_from (b : Nat) (i : Fin 24) (s : State) : UpdKept (queueFrom b i s) (takeQueue b i s).1 := by
  rw [takeQueue_eq]
  have hstamp : UpdKept (queueFrom b i s) (stampedQueue b i s).1 :=
    UpdKept.foldlFst (g := stampInto b i) (fun w m => stampMeas_updKept i m w.1) _ (queueFrom b i s, [])
  exact hstamp.trans (UpdKept.foldlFst (useStamped_updKept i _ _) _ ((stampedQueue b i s).1, []))

theorem queueFrom_updKept (b : Nat) (i : Fin 24) (s : State) : UpdKept s (queueFrom b i s) :=
  .onSlot i _ s fun _ hm => List.mem_of_mem_filter hm

theorem takeQueue_updKept (b : Nat) (i : Fin 24) (s : State) : UpdKept s (takeQueue b i s).1 :=
  (queueFrom_updKept b i s).trans (takeQueue_updKept_from b i s)

/-- Nothing that arrived before the boundary is left in the queue. -/
def QueueFrom (b : Nat) (i : Fin 24) (s : State) : Prop := ∀ m ∈ (s.fus.slot[i]).queue, b ≤ m.ta

theorem QueueFrom.of_kept {b : Nat} {i : Fin 24} {s t : State} (h : QueueFrom b i s) (k : UpdKept s t) : QueueFrom b i t :=
  fun m hm => h m (k.queue i m hm)

theorem takeQueue_queueFrom (b : Nat) (i : Fin 24) (s : State) : QueueFrom b i (takeQueue b i s).1 := by
  refine QueueFrom.of_kept (fun m hm => ?_) (takeQueue_updKept_from b i s)
  have hfilter : m ∈ (s.fus.slot[i]).queue.filter fun m => b ≤ m.ta := by simpa [queueFrom, onSlot] using hm
  simpa using List.of_mem_filter hfilter

theorem takeQueues_queueFrom (b : Nat) (l : List (Fin 24)) (a : State × List Stamped) (i : Fin 24) (h : i ∈ l ∨ QueueFrom b i a.1) :
    QueueFrom b i (l.foldl (takeNext b) a).1 := by
  induction l generalizing a with
  | nil => exact h.resolve_left (List.not_mem_nil)
  | cons j l ih =>
    refine ih _ ?_
    rcases h with h | h
    · rcases List.mem_cons.mp h with rfl | h
      · exact .inr (takeQueue_queueFrom b i a.1)
      · exact .inl h
    · exact .inr (h.of_kept (takeQueue_updKept b j a.1))

theorem takeAll_queueFrom (b : Nat) (s : State) (i : Fin 24) : QueueFrom b i (takeAll b s).1 := by
  rw [takeAll_eq]
  exact takeQueues_queueFrom b _ _ i (.inl (List.mem_finRange i))

theorem takeAll_updKept (b : Nat) (s : State) : UpdKept s (takeAll b s).1 := by
  rw [takeAll_eq]
  exact UpdKept.foldlFst (g := takeNext b) (fun w i => takeQueue_updKept b i w.1) _ (s, [])

/-! Innovations, votes, motion and wind. -/

theorem takeInnov_updKept (b : Nat) (i : Fin 24) (fused : Bool) (o : Int × Int) (sn : Seen) (s : State) : UpdKept s (takeInnov b i fused o sn s) := by
  unfold takeInnov
  extract_lets x keep
  have hkeep : ∀ nu w, UpdKept w (keep nu w) := fun nu w => onSlot_updKept i _ w fun _ => rfl
  split
  · exact hkeep _ s
  · split
    · split
      · exact onSlot_updKept i _ s fun _ => rfl
      · exact .refl s
    · refine UpdKept.trans ?_ (hkeep _ _)
      exact onSlot_updKept i _ s fun _ => rfl

theorem takeOther_updKept (b : Nat) (e : Stamped) (s : State) : UpdKept s (takeOther b e s) := onSlot_updKept e.slot _ s fun _ => rfl

theorem looSlots_updKept (b : Nat) (loo : List Seen) (s : State) : UpdKept s (looSlots b loo s) := by
  refine .foldl (fun w i => ?_) _ s
  extract_lets has x nis fresh trips v
  have hv : UpdKept w v := onSlot_updKept i _ w fun _ => rfl
  split
  · exact onSlot_updKept i _ w fun _ => rfl
  · split
    · exact hv.trans (.raise 38 _ v)
    · exact hv

theorem staleSlots_updKept (b : Nat) (s : State) : UpdKept s (staleSlots b s) := by
  refine .foldl (fun w i => ?_) _ s
  extract_lets x old
  split
  · exact setSlot_updKept i 4 w
  · exact .refl w

/-- A slot takes the outcome of a vote. -/
theorem setVote_updKept (e : Fin 24 × Nat × Nat) (s : State) :
    UpdKept s (setSlot e.1 e.2.1 (onSlot e.1 (fun x => { x with back := e.2.2 }) s)) := by
  refine UpdKept.trans ?_ (setSlot_updKept e.1 e.2.1 _)
  exact onSlot_updKept e.1 _ s fun _ => rfl

theorem voteGroup_updKept (b : Nat) (g : Fin 4) (s : State) : UpdKept s (voteGroup b g s) := by
  unfold voteGroup
  extract_lets ids news was s1
  have h1 : UpdKept s s1 := .of_fus rfl
  split
  next rs con _ =>
    extract_lets s2 s3 s4
    have h2 : UpdKept s s2 := h1.trans (.foldl (fun w e => setVote_updKept e w) _ s1)
    have h3 : UpdKept s s3 := by
      refine h2.trans (.foldl (fun w e => ?_) _ s2)
      split
      · exact setVote_updKept e w
      · exact .refl w
    have h4 : UpdKept s s4 := by
      simp only [s4]
      split
      · split
        · exact h3.trans (.onFus _ s3 rfl rfl)
        · exact h3
      · exact h3
    split
    · exact h4
    · refine UpdKept.trans ?_ (.raise 33 _ _)
      exact h4.trans (.onFus _ s4 rfl rfl)

theorem voteAll_updKept (b : Nat) (s : State) : UpdKept s (voteAll b s) :=
  (staleSlots_updKept b s).trans (.foldl (fun w g => voteGroup_updKept b g w) _ _)

theorem motionWind_updKept (used : List Stamped) (s : State) : UpdKept s (motionWind used s) := by
  unfold motionWind
  extract_lets tv who fix u hdg
  have hu : UpdKept s u := by
    simp only [u]
    split
    · exact .refl s
    · exact .onFus _ s rfl rfl
  split
  · exact hu
  · exact hu.trans (.onFus _ u rfl rfl)

/-! Dead-reckoning and the mode change their own fields alone. -/

/-- Belvedere's state without the mode, its count, and dead-reckoning. -/
def modeOuter (u : FusState) : FusState := { u with mode := 0, initRun := 0, lastAct := Vector.replicate 2 none, drift := Vector.replicate 2 false }

theorem setEstMode_modeOuter (m : Nat) (s : State) : modeOuter (setEstMode m s).fus = modeOuter s.fus := by
  unfold setEstMode
  split
  · rfl
  · rw [raise_fus]; rfl

theorem drStep_modeOuter (b : Nat) (g : Fin 2) (act : Bool) (s : State) : modeOuter (drStep b g act s).fus = modeOuter s.fus := by
  unfold drStep
  split
  · extract_lets was u
    split
    · rw [raise_fus]; rfl
    · rfl
  · rfl

theorem estModeStep_modeOuter (pos hdg : Bool) (s : State) : modeOuter (estModeStep pos hdg s).fus = modeOuter s.fus := by
  unfold estModeStep
  split
  · extract_lets n
    split
    · exact setEstMode_modeOuter 1 s
    · rfl
  · split
    · rfl
    · exact setEstMode_modeOuter 2 s
  · split
    · exact setEstMode_modeOuter 1 s
    · rfl
  · rfl

theorem updMode_modeOuter (b : Nat) (s : State) : modeOuter (updMode b s).fus = modeOuter s.fus :=
  ((estModeStep_modeOuter _ _ _).trans (drStep_modeOuter b 1 _ _)).trans (drStep_modeOuter b 0 _ s)

/-- What a change of the mode alone keeps. -/
theorem UpdKept.of_modeOuter {s t : State} (h : modeOuter t.fus = modeOuter s.fus) : UpdKept s t where
  outer := (congrArg updOuter h :)
  queue i m hm := by rwa [show t.fus.slot = s.fus.slot from (congrArg FusState.slot h :)] at hm

end Sys2Proof.Machine
end

section
/-! The update as a whole: what it stores, and what the stages before left. -/

namespace Sys2Proof.Machine

/-! The stages keep what is outside the slots and the votes. -/

theorem updInnov_updKept (b : Nat) (s : State) (used : List Stamped) : UpdKept s (updInnov b s used) := by
  refine .foldl (fun w sn => ?_) _ s
  split
  · exact takeInnov_updKept _ _ _ _ _ w
  · exact .refl w

theorem updOthers_updKept (b : Nat) (hold : Bool) (used : List Stamped) (s : State) : UpdKept s (updOthers b hold used s) := by
  unfold updOthers
  split
  · exact .refl s
  · exact .foldl (fun w e => takeOther_updKept b e w) _ s

theorem updVotes_updKept (b : Nat) (hold : Bool) (used : List Stamped) (loo : List Seen) (s : State) : UpdKept s (updVotes b hold used loo s) := by
  unfold updVotes
  split
  · exact .refl s
  · exact (looSlots_updKept b loo s).trans ((voteAll_updKept b _).trans (motionWind_updKept used _))

theorem updVoted_updKept (b : Nat) (s : State) (used : List Stamped) : UpdKept s (updVoted b s used) :=
  (updInnov_updKept b s used).trans ((updOthers_updKept b _ used _).trans (updVotes_updKept b _ used _ _))

theorem updSwapped_updKept (b : Nat) (s : State) (used : List Stamped) : UpdKept s (updSwapped b s used) :=
  (updVoted_updKept b s used).trans (UpdKept.foldl (g := fun w (i : Fin 24) => raise 40 i.val w) (fun w i => .raise 40 i.val w) (updSwaps b s used) _)

theorem updAged_fus (b : Nat) (s : State) (used : List Stamped) : (updAged b s used).1.fus = (updMode b (updSwapped b s used)).fus :=
  obsAge_same b _ _ .fus (by decide)

theorem updAged_modeOuter (b : Nat) (s : State) (used : List Stamped) : modeOuter (updAged b s used).1.fus = modeOuter (updSwapped b s used).fus := by
  rw [updAged_fus]
  exact updMode_modeOuter b _

theorem updAged_updKept (b : Nat) (s : State) (used : List Stamped) : UpdKept s (updAged b s used).1 :=
  (updSwapped_updKept b s used).trans (.of_modeOuter (updAged_modeOuter b s used))

/-! Frames of the stages after the votes. -/

theorem updMode_same (b : Nat) (s : State) : SameBut updParts s (updMode b s) :=
  (((SameBut.refl _ s).step (drStep_same b 0 _ s) rfl).step (drStep_same b 1 _ _) rfl).step (estModeStep_same _ _ _) rfl

theorem updAged_same (b : Nat) (s : State) (used : List Stamped) : SameBut updParts (updSwapped b s used) (updAged b s used).1 :=
  (updMode_same b _).step (obsAge_same b _ _) rfl

/-! The bank and the history. -/

theorem bankRun_at (g : Leg) (k : ObsBank) : (bankRun g k).1.at_ = g.t1 := rfl

theorem foldl_length_history {α β γ : Type} {g : α × List β × γ → β → α × List β × γ} (hg : ∀ a f, (g a f).2.1.length = a.2.1.length + 1) (l : List β)
    (a : α × List β × γ) : (l.foldl g a).2.1.length = a.2.1.length + l.length := by
  induction l generalizing a with
  | nil => rfl
  | cons f l ih => rw [List.foldl_cons, ih, hg, List.length_cons]; omega

/-- A replay stores every frame anew, and no other. -/
theorem replay_length (s : State) (lates : List ObsMeas) (base : ObsBank) : (replay s lates base).2.1.length = s.fus.hist.length := by
  unfold replay
  extract_lets first j newer older step
  split
  · rfl
  · next f0 _ =>
    have hlen : (newer.foldl step (f0.bank, older, [], [])).2.1.length = older.length + newer.length :=
      foldl_length_history (fun a f => rfl) newer _
    have hsplit : older.length + newer.length = s.fus.hist.length := by
      have happ := congrArg List.length (List.takeWhile_append_dropWhile (p := fun f : HistFrame => decide (j < f.k)) (l := s.fus.hist))
      simp only [List.length_append] at happ
      simp only [newer, older, List.length_reverse]
      omega
    exact hlen.trans hsplit

theorem updReplay_length (b : Nat) (s : State) (used : List Stamped) : (updReplay b s used).2.1.length = s.fus.hist.length := by
  unfold updReplay
  split
  · rfl
  · exact replay_length s _ _

theorem updReplay_hist {b : Nat} {s : State} {used : List Stamped} (h : (updLates b s used).isEmpty = true) : (updReplay b s used).2.1 = s.fus.hist := by
  rw [updReplay, if_pos h]

/-! What observe leaves. -/

/-- Belvedere's state without what an update writes. -/
def blendOuter (u : FusState) : FusState :=
  { updOuter u with xhat := Vector.replicate 27 0, contrib := 0, age := 0, rolled := false, swapped := false, hdgDr := false, odoFault := 0, bank := none, hist := []
                    histCe := 0 }

/-- The published estimate, its blend, the latched state and the marks of D1 stay. -/
theorem observe_blendOuter (b ce : Nat) (s : State) : blendOuter (observe b ce s).1.fus = blendOuter s.fus := by
  have hkept := (takeAll_updKept b s).trans (updAged_updKept b (takeAll b s).1 (takeAll b s).2)
  rw [observe_eq]
  exact (congrArg blendOuter hkept.outer :)

/-- The bank of the update, its frame at the head of the history, and the queues. -/
theorem observe_stored (b ce : Nat) (s : State) : ∃ bank f older, (observe b ce s).1.fus.bank = some bank ∧ bank.at_ = b ∧
    (observe b ce s).1.fus.hist = f :: older ∧ f.k = b / frameTicks ∧ f.bank = bank ∧ older.length = min 255 s.fus.hist.length ∧
    ((observe b ce s).1.fus.rolled = false → older = s.fus.hist.take 255) ∧ (observe b ce s).1.fus.histCe = satN 0xFFFFFFFF (s.fus.histCe + ce) ∧
    (∀ i : Fin 24, ∀ m ∈ ((observe b ce s).1.fus.slot[i]).queue, b ≤ m.ta) ∧
    (∀ t : State, SameBut updParts (observe b ce s).1 t → t.fus.slot = (observe b ce s).1.fus.slot → t.fus.mechs = (observe b ce s).1.fus.mechs →
      t.fus.mru = (observe b ce s).1.fus.mru → t.fus.attSt = (observe b ce s).1.fus.attSt → t.fus.windF = (observe b ce s).1.fus.windF →
      (observe b ce s).1.fus.xhat = estOf t b bank.main) := by
  rw [observe_eq]
  have htaken := takeAll_updKept b s
  generalize ha : takeAll b s = a at htaken
  have hkept := htaken.trans (updAged_updKept b a.1 a.2)
  have hhist : a.1.fus.hist = s.fus.hist := (congrArg FusState.hist htaken.outer :)
  have hce : (updAged b a.1 a.2).1.fus.histCe = s.fus.histCe := (congrArg FusState.histCe hkept.outer :)
  have hmode := updAged_modeOuter b a.1 a.2
  refine ⟨updBank b a.1 a.2, updFrame b a.1 a.2, (updReplay b a.1 a.2).2.1.take 255, rfl, rfl, rfl, rfl, rfl, ?_, fun hr => ?_, ?_, fun i => ?_, ?_⟩
  · rw [List.length_take, updReplay_length, hhist]
  · have hempty : (updLates b a.1 a.2).isEmpty = true := by simpa [updFus] using hr
    rw [updReplay_hist hempty, hhist]
  · rw [← hce]; rfl
  · have hq : QueueFrom b i (updAged b a.1 a.2).1 := (ha ▸ takeAll_queueFrom b s i : QueueFrom b i a.1).of_kept (updAged_updKept b a.1 a.2)
    exact hq
  · intro t hsame hslot hmechs hmru hatt hwind
    have hfrom : SameBut updParts (updSwapped b a.1 a.2) t := ((updAged_same b a.1 a.2).onFus _ rfl).trans hsame
    exact (estOf_congr hfrom (hslot.trans (congrArg FusState.slot hmode :)) (hmechs.trans (congrArg FusState.mechs hmode :))
      (hmru.trans (congrArg FusState.mru hmode :)) (hatt.trans (congrArg FusState.attSt hmode :)) (hwind.trans (congrArg FusState.windF hmode :)) b _).symm

end Sys2Proof.Machine
end

section
/-! An update in SAFE-HOLD (Table 1-7): nothing contributes and no slot changes its state. -/

namespace Sys2Proof.Machine

/-- The events of the intake: saturated solutions, a slipped time base, discards, an overflow of the recorder. -/
def intakeEvents : List (Fin 128) := [35, 37, 50, 51, 54, 120]

/-- The intake of measurements changes no slot's state, nor the mode, and raises its own events alone. -/
structure IntakeKept (s t : State) : Prop where
  st : ∀ i : Fin 24, (t.fus.slot[i]).st = (s.fus.slot[i]).st
  mode : t.fus.mode = s.fus.mode
  events : EventsBut intakeEvents s t

namespace IntakeKept

variable {s t u : State}

theorem refl (s : State) : IntakeKept s s := ⟨fun _ => rfl, rfl, EventsBut.refl _ s⟩

theorem trans (h : IntakeKept s t) (k : IntakeKept t u) : IntakeKept s u :=
  ⟨fun i => (k.st i).trans (h.st i), k.mode.trans h.mode, h.events.trans k.events⟩

theorem onSlot (i : Fin 24) (f : RefSlot → RefSlot) (s : State) (hf : (f s.fus.slot[i]).st = (s.fus.slot[i]).st) : IntakeKept s (onSlot i f s) := by
  refine ⟨fun j => ?_, rfl, fun _ _ => rfl⟩
  by_cases hj : j = i
  · subst hj
    simpa [Machine.onSlot] using hf
  · simp [Machine.onSlot, upd_getElem_ne _ _ _ _ hj]

theorem raise (n : Fin 128) (d : Nat) (s : State) (hn : [n, 120] ⊆ intakeEvents) : IntakeKept s (raise n d s) :=
  ⟨fun i => by rw [raise_fus], by rw [raise_fus], (EventsBut.refl _ s).raise n d hn⟩

theorem foldl {α : Type} {g : State → α → State} (hg : ∀ w x, IntakeKept w (g w x)) (l : List α) (s : State) : IntakeKept s (l.foldl g s) := by
  induction l generalizing s with
  | nil => exact refl s
  | cons x l ih => exact (hg s x).trans (ih (g s x))

theorem foldlFst {α β : Type} {g : State × β → α → State × β} (hg : ∀ w x, IntakeKept w.1 (g w x).1) (l : List α) (a : State × β) :
    IntakeKept a.1 (l.foldl g a).1 := by
  induction l generalizing a with
  | nil => exact refl a.1
  | cons x l ih => exact (hg a x).trans (ih (g a x))

end IntakeKept

theorem discard_intakeKept (i : Fin 24) (r : Fin 3) (s : State) : IntakeKept s (discard i r s) := by
  unfold discard
  extract_lets now due u
  have hu : IntakeKept s u := .onSlot i _ s rfl
  split
  · exact hu.trans (.raise 37 _ u (by decide))
  · exact hu

theorem stampMeas_intakeKept (i : Fin 24) (m : Meas) (s : State) : IntakeKept s (stampMeas i m s).2 :=
  stampMeas_cases i m s _ (.refl s) (fun f _ hf => .onSlot i f s hf) fun d f _ hf => (IntakeKept.onSlot i f s hf).trans (.raise 35 d _ (by decide))

theorem useStamped_intakeKept (i : Fin 24) (prev oldest : Int) (a : State × List Stamped) (e : Stamped) : IntakeKept a.1 (useStamped i prev oldest a e).1 := by
  unfold useStamped
  split
  · exact discard_intakeKept i 1 a.1
  · split
    · exact discard_intakeKept i 0 a.1
    · exact .onSlot i _ a.1 rfl

theorem takeQueue_intakeKept (b : Nat) (i : Fin 24) (s : State) : IntakeKept s (takeQueue b i s).1 := by
  rw [takeQueue_eq]
  have hqueue : IntakeKept s (queueFrom b i s) := .onSlot i _ s rfl
  have hstamp : IntakeKept (queueFrom b i s) (stampedQueue b i s).1 :=
    IntakeKept.foldlFst (g := stampInto b i) (fun w m => stampMeas_intakeKept i m w.1) _ (queueFrom b i s, [])
  exact hqueue.trans (hstamp.trans (IntakeKept.foldlFst (useStamped_intakeKept i _ _) _ ((stampedQueue b i s).1, [])))

theorem takeAll_intakeKept (b : Nat) (s : State) : IntakeKept s (takeAll b s).1 := by
  rw [takeAll_eq]
  exact IntakeKept.foldlFst (g := takeNext b) (fun w i => takeQueue_intakeKept b i w.1) _ (s, [])

theorem takeInnov_intakeKept (b : Nat) (i : Fin 24) (fused : Bool) (o : Int × Int) (sn : Seen) (s : State) : IntakeKept s (takeInnov b i fused o sn s) := by
  unfold takeInnov
  extract_lets x keep
  have hkeep : ∀ nu w, IntakeKept w (keep nu w) := fun nu w => .onSlot i _ w rfl
  split
  · exact hkeep _ s
  · split
    · split
      · exact .onSlot i _ s rfl
      · exact .refl s
    · refine IntakeKept.trans ?_ (hkeep _ _)
      exact .onSlot i _ s rfl

theorem updInnov_intakeKept (b : Nat) (s : State) (used : List Stamped) : IntakeKept s (updInnov b s used) := by
  refine .foldl (fun w sn => ?_) _ s
  split
  · exact takeInnov_intakeKept _ _ _ _ _ w
  · exact .refl w

theorem updInnov_same (b : Nat) (s : State) (used : List Stamped) : SameBut [.fus] s (updInnov b s used) := by
  refine SameBut.foldl (fun w sn => ?_) _ (SameBut.refl _ s)
  split
  · exact takeInnov_same _ _ _ _ _ w
  · exact SameBut.refl _ w

/-! In SAFE-HOLD the update has no measurement, no vote and no swap. -/

section
variable {s : State} (h : updHold s = true)
include h

theorem updLates_of_hold (b : Nat) (used : List Stamped) : updLates b s used = [] := by rw [updLates, updEvents, if_pos h]; rfl

theorem updSwaps_of_hold (b : Nat) (used : List Stamped) : updSwaps b s used = [] := by rw [updSwaps, if_pos h]

theorem updVoted_of_hold (b : Nat) (used : List Stamped) : updVoted b s used = updInnov b s used := by
  rw [updVoted, updVotes, if_pos h, updOthers, if_pos h]

theorem updSwapped_of_hold (b : Nat) (used : List Stamped) : updSwapped b s used = updInnov b s used := by
  rw [updSwapped, updSwaps_of_hold h, updVoted_of_hold h]; rfl

theorem updContrib_of_hold (b : Nat) (used : List Stamped) : updContrib b s used = 0 := by
  have hactive : updActive b s used = 0 := by
    rw [updActive, h]
    exact (by decide : maskOf (Vector.ofFn fun _ : Fin 24 => false) = 0)
  rw [updContrib, hactive, updCuts, updLates_of_hold h]
  decide

end

theorem activeIn_of_hold {s : State} (h : updHold s = true) (g : Fin 4) : activeIn g s = false := by
  have hmode : s.sys.mode = .safeHold := by simpa [updHold] using h
  simp [activeIn, hmode]

/-- Without an ACTIVE position dead-reckoning begins (R167). -/
theorem updMode_of_hold {s : State} (h : updHold s = true) (b : Nat) (hm : s.fus.mode = 1) : updMode b s = setEstMode 2 s := by
  rw [updMode, activeIn_of_hold h, activeIn_of_hold h]
  simp [drStep, estModeStep, hm]

theorem setEstMode_mode (m : Nat) (s : State) : (setEstMode m s).fus.mode = m := by
  unfold setEstMode
  split
  · next h => exact h
  · rw [raise_fus]; rfl

theorem setEstMode_occurred {m : Nat} {s : State} (hr : s.hp.ready = true) (hm : s.fus.mode ≠ m) : Occurred 39 m s (setEstMode m s) := by
  rw [setEstMode, if_neg hm]
  exact raise_occurred m hr (by decide) rfl

theorem observe_of_hold (b ce : Nat) {s : State} (h : s.sys.mode = .safeHold) :
    (observe b ce s).1.fus.contrib = 0 ∧ (observe b ce s).1.fus.rolled = false ∧ (observe b ce s).1.fus.swapped = false ∧
    (∀ i : Fin 24, ((observe b ce s).1.fus.slot[i]).st = (s.fus.slot[i]).st) ∧
    (s.fus.mode = 1 → (observe b ce s).1.fus.mode = 2 ∧ (s.hp.ready = true → Occurred 39 2 s (observe b ce s).1)) := by
  have hsame := takeAll_same b s
  have hkept := takeAll_intakeKept b s
  rw [observe_eq]
  generalize takeAll b s = a at hsame hkept
  have hhold : updHold a.1 = true := by rw [updHold, hsame .sys (by decide), h]; rfl
  have hswapped : IntakeKept s (updSwapped b a.1 a.2) := by
    rw [updSwapped_of_hold hhold]
    exact hkept.trans (updInnov_intakeKept b a.1 a.2)
  have hslot : (updAged b a.1 a.2).1.fus.slot = (updSwapped b a.1 a.2).fus.slot := (congrArg FusState.slot (updAged_modeOuter b a.1 a.2) :)
  refine ⟨updContrib_of_hold hhold b a.2, ?_, ?_, fun i => ?_, fun hm => ?_⟩
  · simp [updFus, updLates_of_hold hhold]
  · simp [updFus, updSwaps_of_hold hhold]
  · exact (congrArg (fun v : Vector RefSlot 24 => (v[i]).st) hslot).trans (hswapped.st i)
  · have hsys : (updSwapped b a.1 a.2).sys = s.sys := by
      rw [updSwapped_of_hold hhold, updInnov_same b a.1 a.2 .sys (by decide), hsame .sys (by decide)]
    have hhp : (updSwapped b a.1 a.2).hp = s.hp := by
      rw [updSwapped_of_hold hhold, updInnov_same b a.1 a.2 .hp (by decide), hsame .hp (by decide)]
    have hhold' : updHold (updSwapped b a.1 a.2) = true := by rw [updHold, hsys, h]; rfl
    have hm' : (updSwapped b a.1 a.2).fus.mode = 1 := hswapped.mode.trans hm
    have hmode := updMode_of_hold hhold' b hm'
    refine ⟨?_, fun hr => ?_⟩
    · show (updAged b a.1 a.2).1.fus.mode = 2
      rw [updAged_fus, hmode, setEstMode_mode]
    · have hocc : Occurred 39 2 (updSwapped b a.1 a.2) (updMode b (updSwapped b a.1 a.2)) := by
        rw [hmode]
        exact setEstMode_occurred (by rw [hhp]; exact hr) (by rw [hm']; decide)
      have hev : (updAged b a.1 a.2).1.ev = (updMode b (updSwapped b a.1 a.2)).ev := obsAge_same b _ _ .ev (by decide)
      exact (hocc.after_events hswapped.events (by decide)).of_ev hev

end Sys2Proof.Machine
end

section
/-! The end of an update, the dead-reckoning limit, faults and captures (7.7, 7.9). -/

namespace Sys2Proof.Machine

/-! OBSERVER_UPDATE_COMPLETE in its three parts. -/

/-- The update's problem is over. -/
def updBegun (s : State) : State := finishDp (fun w => w == .observer) ((stepAt 400 s).onFus fun u => { u with updating := false })

/-- The offset that enters the blend: of an update that was late, and delta where a rollback or a swap made a difference (R174). -/
def updOffset (delta : EstVec) (u : FusState) : Option EstVec :=
  match u.late with
  | some l => some (Vector.ofFn fun i => l[i] + if u.rolled || u.swapped then delta[i] else 0)
  | none => if u.rolled || u.swapped then some delta else none

/-- The published estimate of the frame that began at b. -/
def updPublished (n : Nat) (delta : EstVec) (b : Nat) (u : FusState) : FusState :=
  { blendStep n (updOffset delta u) u.xhat u with late := none, tv := b }

/-- The estimate is published, or kept for the next frame's blend where the update has missed D1. -/
def updClosed (b : Nat) (a : State × EstVec) : State :=
  if a.1.fus.d1Miss then a.1.onFus fun u => { u with late := some (estDiff u.xhat u.latched) }
  else sendEstimate b (a.1.onFus (updPublished (blendFrames a.1) a.2 b))

/-- The boundary of the present frame. -/
def updTime (s : State) : Nat := s.sys.frame * frameTicks

/-- The update proper. -/
@[irreducible] def updDone (ce : Nat) (s : State) : State × EstVec := observe (updTime s) ce (updBegun s)

theorem exec_observerUpdateComplete (ce : Nat) (s : State) : exec (.observerUpdateComplete ce) s =
    .next (if !s.fus.updating || !belvRuns s then s else updClosed (updTime s) (updDone ce s)) := by
  have harm : exec (.observerUpdateComplete ce) s = execObserverUpdateComplete ce s := rfl
  rw [harm]
  unfold execObserverUpdateComplete updDone updTime updBegun updClosed
  dsimp only
  generalize finishDp _ _ = begun
  generalize observe _ ce begun = a
  rfl

theorem observerUpdateComplete_steps (ce : Nat) {s : State} (hu : s.fus.updating = true) (hb : belvRuns s = true) :
    Steps (.observerUpdateComplete ce) s (updClosed (updTime s) (updDone ce s)) := by
  rw [Steps, exec_observerUpdateComplete, if_neg (by simp [hu, hb])]

/-! The beginning. -/

theorem updBegun_same (s : State) : SameBut [.host, .maint, .ev, .solv, .log, .free, .time, .fus] s (updBegun s) := by
  unfold updBegun
  exact (((SameBut.refl _ s).step (stepAt_same 400 s) rfl).onFus _ rfl).step (finishDp_same _ _) rfl

theorem updBegun_fus (s : State) : (updBegun s).fus = { s.fus with updating := false } := by
  have hstep : (stepAt 400 s).fus = s.fus := stepAt_same 400 s .fus (by decide)
  unfold updBegun
  rw [show (finishDp _ _).fus = _ from finishDp_same _ _ .fus (by decide), State.onFus_fus, hstep]

theorem finishDp_solverKept (p : Work → Bool) (s : State) : SolverKept s (finishDp p s) :=
  (SolverKept.foldl (g := fun w t => creditDp t (runCopy t) w) (fun w t => creditDp_solverKept t (runCopy t) w) _ s).trans (cancelDp_solverKept p _)

/-- The end of the update's problem raises events of the solver alone. -/
theorem updBegun_events (s : State) : EventsBut solverEvents s (updBegun s) := by
  have hstep : SameBut [.time, .fus] s ((stepAt 400 s).onFus fun u => { u with updating := false }) :=
    ((SameBut.refl _ s).step (stepAt_same 400 s) rfl).onFus _ rfl
  unfold updBegun
  exact (EventsBut.of_same hstep (by decide)).trans (finishDp_solverKept _ _).events

theorem blendFrames_congr {s t : State} (h : t.cfg = s.cfg) : blendFrames t = blendFrames s := by
  simp only [blendFrames, State.inForce, h]

/-! The output: only the published estimate, the blend, the late difference and the time of validity change. -/

/-- Belvedere's state without them. -/
def outputOuter (u : FusState) : FusState := { u with pub := Vector.replicate 27 0, r := Vector.replicate 27 0, n := 0, late := none, tv := 0 }

theorem blendStep_outputOuter (n : Nat) (add : Option EstVec) (x : EstVec) (u : FusState) : outputOuter (blendStep n add x u) = outputOuter u := by
  cases add with
  | none => simp only [blendStep, outputOuter]
  | some d => simp only [blendStep, outputOuter]

theorem outputOuter_withLate (u : FusState) (l : Option EstVec) (b : Nat) : outputOuter { u with late := l, tv := b } = outputOuter u := rfl

theorem updPublished_outputOuter (n : Nat) (delta : EstVec) (b : Nat) (u : FusState) : outputOuter (updPublished n delta b u) = outputOuter u := by
  have hblend := blendStep_outputOuter n (updOffset delta u) u.xhat u
  unfold updPublished
  generalize blendStep n (updOffset delta u) u.xhat u = v at hblend ⊢
  rw [← hblend]
  exact outputOuter_withLate v none b

theorem updClosed_fus_of_inTime {b : Nat} {a : State × EstVec} (h : a.1.fus.d1Miss = false) :
    (updClosed b a).fus = updPublished (blendFrames a.1) a.2 b a.1.fus := by
  rw [updClosed, h]
  exact sendEstimate_same b _ .fus (by decide)

theorem updClosed_fus_of_missed {b : Nat} {a : State × EstVec} (h : a.1.fus.d1Miss = true) :
    (updClosed b a).fus = { a.1.fus with late := some (estDiff a.1.fus.xhat a.1.fus.latched) } := by
  rw [updClosed, h]; rfl

theorem updClosed_outputOuter (b : Nat) (a : State × EstVec) : outputOuter (updClosed b a).fus = outputOuter a.1.fus := by
  cases h : a.1.fus.d1Miss
  · rw [updClosed_fus_of_inTime h, updPublished_outputOuter]
  · rw [updClosed_fus_of_missed h]; rfl

theorem updClosed_same (b : Nat) (a : State × EstVec) : SameBut [.host, .maint, .fus] a.1 (updClosed b a) := by
  unfold updClosed
  split
  · exact (SameBut.refl _ a.1).onFus _ rfl
  · exact ((SameBut.refl _ a.1).onFus _ rfl).step (sendEstimate_same b _) rfl

/-- The blend reads the offset and its count alone. -/
theorem published_congr {u v : FusState} (hr : v.r = u.r) (hn : v.n = u.n) (n : Nat) (x : EstVec) : published n v x = published n u x := by
  simp only [published, blendPart, hr, hn]

theorem updPublished_plain {u : FusState} (hroll : u.rolled = false) (hswap : u.swapped = false) (hlate : u.late = none) (n : Nat) (delta : EstVec) (b : Nat) :
    (updPublished n delta b u).pub = published n u u.xhat ∧ (updPublished n delta b u).n = if 1 < u.n then u.n - 1 else u.n := by
  simp [updPublished, updOffset, blendStep, hroll, hswap, hlate]

/-- A new offset starts the blend anew. -/
theorem updPublished_anew {u : FusState} (h : u.rolled = true ∨ u.swapped = true ∨ u.late ≠ none) (n : Nat) (delta : EstVec) (b : Nat) :
    (updPublished n delta b u).n = if 1 < n then n - 1 else n := by
  have hadd : ∃ d, updOffset delta u = some d := by
    unfold updOffset
    cases hl : u.late with
    | some l => exact ⟨_, rfl⟩
    | none =>
      have hnow : (u.rolled || u.swapped) = true := by simpa [hl] using h
      exact ⟨delta, if_pos hnow⟩
  obtain ⟨d, hd⟩ := hadd
  rw [updPublished, hd]
  rfl

/-! The update, from its command to its end. -/

theorem updDone_eq (ce : Nat) (s : State) : updDone ce s = observe (updTime s) ce (updBegun s) := by unfold updDone; rfl

theorem updDone_same (ce : Nat) (s : State) : SameBut updParts (updBegun s) (updDone ce s).1 := by
  rw [updDone_eq]
  exact (observe_same _ _ _).mono rfl

theorem updDone_blendOuter (ce : Nat) (s : State) : blendOuter (updDone ce s).1.fus = blendOuter { s.fus with updating := false } := by
  rw [updDone_eq, observe_blendOuter, updBegun_fus]

/-- What the end of an update leaves, by the stages. -/
theorem updClosed_stored (ce : Nat) (s : State) {t : State} (ht : t = updClosed (updTime s) (updDone ce s)) :
    ∃ bank f older, t.fus.updating = false ∧ t.fus.bank = some bank ∧ bank.at_ = updTime s ∧ t.fus.xhat = estOf t (updTime s) bank.main ∧
      t.fus.hist = f :: older ∧ f.k = s.sys.frame ∧ f.bank = bank ∧ older.length = min 255 s.fus.hist.length ∧
      (t.fus.rolled = false → older = s.fus.hist.take 255) ∧ t.fus.histCe = satN 0xFFFFFFFF (s.fus.histCe + ce) ∧
      (∀ i : Fin 24, ∀ m ∈ (t.fus.slot[i]).queue, updTime s ≤ m.ta) := by
  have hstored := observe_stored (updTime s) ce (updBegun s)
  have hblend := updDone_blendOuter ce s
  rw [updBegun_fus, ← updDone_eq] at hstored
  obtain ⟨bank, f, older, hbank, hat, hhist, hk, hfbank, hlen, holder, hce, hqueue, hest⟩ := hstored
  have hout := updClosed_outputOuter (updTime s) (updDone ce s)
  have hsame := updClosed_same (updTime s) (updDone ce s)
  rw [← ht] at hout hsame
  have hslot : t.fus.slot = (updDone ce s).1.fus.slot := (congrArg FusState.slot hout :)
  refine ⟨bank, f, older, ?_, ?_, hat, ?_, ?_, ?_, hfbank, hlen, fun hr => holder ?_, ?_, fun i m hm => ?_⟩
  · exact ((congrArg FusState.updating hout :)).trans ((congrArg FusState.updating hblend :))
  · exact ((congrArg FusState.bank hout :)).trans hbank
  · refine ((congrArg FusState.xhat hout :)).trans (hest t (hsame.mono rfl) hslot ?_ ?_ ?_ ?_)
    · exact (congrArg FusState.mechs hout :)
    · exact (congrArg FusState.mru hout :)
    · exact (congrArg FusState.attSt hout :)
    · exact (congrArg FusState.windF hout :)
  · exact ((congrArg FusState.hist hout :)).trans hhist
  · rw [hk, updTime, Nat.mul_div_cancel _ (by decide)]
  · exact ((congrArg FusState.rolled hout :)).symm.trans hr
  · exact ((congrArg FusState.histCe hout :)).trans hce
  · exact hqueue i m (by rwa [← hslot])

/-- The blend frames that the output goes by. -/
theorem blendFrames_observe (ce : Nat) (s : State) : blendFrames (updDone ce s).1 = blendFrames s :=
  blendFrames_congr ((updDone_same ce s .cfg (by decide)).trans (updBegun_same s .cfg (by decide)))

/-- Mark, blend, output and late difference before the output is formed are those before the update. -/
theorem observe_output (ce : Nat) (s : State) : (updDone ce s).1.fus.d1Miss = s.fus.d1Miss ∧
    (updDone ce s).1.fus.r = s.fus.r ∧ (updDone ce s).1.fus.n = s.fus.n ∧
    (updDone ce s).1.fus.late = s.fus.late ∧ (updDone ce s).1.fus.pub = s.fus.pub ∧
    (updDone ce s).1.fus.latched = s.fus.latched := by
  have hblend := updDone_blendOuter ce s
  exact ⟨(congrArg FusState.d1Miss hblend :), (congrArg FusState.r hblend :), (congrArg FusState.n hblend :), (congrArg FusState.late hblend :),
    (congrArg FusState.pub hblend :), (congrArg FusState.latched hblend :)⟩

/-! The dead-reckoning limit (R170), faults (R179) and captures (R178). -/

theorem exec_drLimitExpiry (g : Fin 2) (s : State) : exec (.drLimitExpiry (g.val == 1)) s = .next (match s.fus.lastAct[g] with
    | none => s
    | some t =>
      if s.fus.drift[g] || activeIn (if g.val == 1 then 1 else 0) s || !belvRuns s then s
      else raise 34 (1 + g.val) ((advanceTo (t + drLimit s * secTicks + 1) s).onFus fun u => { u with drift := u.drift.set g true })) := by
  have hg : (if (g.val == 1) = true then (1 : Fin 2) else 0) = g := by
    match g with
    | 0 => rfl
    | 1 => rfl
  exact (congrArg (fun k : Fin 2 => Host.Outcome.next (match s.fus.lastAct[k] with
    | none => s
    | some t =>
      if s.fus.drift[k] || activeIn (if g.val == 1 then 1 else 0) s || !belvRuns s then s
      else raise 34 (1 + k.val) ((advanceTo (t + drLimit s * secTicks + 1) s).onFus fun u => { u with drift := u.drift.set k true }))) hg)

theorem activeIn_of_none_active {s : State} (h : ∀ i : Fin 24, (s.fus.slot[i]).st ≠ 3) (g : Fin 4) : activeIn g s = false := by
  have hgroup : groupActive g s = false := by
    rw [groupActive, List.any_eq_false]
    intro i _
    simp [show (s.fus.slot[i.val]).st ≠ 3 from h i]
  simp [activeIn, hgroup]

theorem exec_belvFault (d : Nat) (s : State) : exec (.belvFault d) s = .next (belvFail d s) := rfl

/-- FUS_REF_CAPTURE on the state in which its packet is taken. -/
def captureBody (p : Port) (c : Cmd) (s : State) : State :=
  let k := refKindSet s (slotOf c)
  if k != 3 && k != 4 then reject p c 0x3014 0 s
  else match fin? 24 (slotOf c) with
    | some i => ok p c 0 [] (onSlot i (fun x => { x with capReq := true }) s)
    | none => badValue p c 0 s

theorem exec_fusRefCapture (p : Port) (s : State) : exec (.fusRefCapture p) s = .next (runOp .fusRefCapture p (captureBody p) s) := rfl

/-- The state in which the packet of a port is taken. -/
def taken (p : Port) (s : State) : State := s.onPort p fun q => { q with accepted := none }

theorem steps_of_heard {i : Instr} {op : Op} {p : Port} {c : Cmd} {s : State} {body : Cmd → State → State}
    (hexec : exec i s = .next (runOp op p body s)) (h : Heard p c s) (ho : c.op = op) : Steps i s (body c (taken p s)) := by
  rw [Steps, hexec, runOp_op h ho]; rfl

theorem taken_same (p : Port) (s : State) : SameBut [.host, .maint] s (taken p s) := SameBut.onPort p _ (SameBut.refl _ s) rfl

theorem refKindSet_taken (p : Port) (s : State) (i : Nat) : refKindSet (taken p s) i = refKindSet s i := by
  simp only [refKindSet, show (taken p s).cfg = s.cfg from taken_same p s .cfg (by decide)]

end Sys2Proof.Machine

open Sys2Proof Sys2Proof.Machine

/-- Settles O43: the update stage by stage (observe_eq), each stage keeping what it does not write. -/
theorem estimateIsUpdatedPublishedAndSupervised : Obligations.EstimateIsUpdatedPublishedAndSupervised := by
  unfold Obligations.EstimateIsUpdatedPublishedAndSupervised
  refine ⟨?inTime, ?missed, ?hold, ?none, ?limit, ?limitNone, ?fault, ?capture, ?captureRefused⟩
  case inTime =>
    intro ce s hu hb hd
    obtain ⟨hd1, hr, hn, hlate, -, -⟩ := observe_output ce s
    have hfus := updClosed_fus_of_inTime (b := updTime s) (hd1.trans hd)
    rw [blendFrames_observe] at hfus
    have hout := updClosed_outputOuter (updTime s) (updDone ce s)
    obtain ⟨bank, f, older, hupd, hbank, hat, hx, hhist, hk, hf, hlen, holder, hce, hqueue⟩ := updClosed_stored ce s rfl
    refine ⟨_, bank, f, older, observerUpdateComplete_steps ce hu hb, hupd, by rw [hfus]; rfl, hbank, hat, hx, hhist, hk, hf, hlen, holder, hce, ?_, ?_, hqueue⟩
    · intro hroll hswap hl
      have hplain := updPublished_plain (u := (updDone ce s).1.fus) ((congrArg FusState.rolled hout :).symm.trans hroll)
        ((congrArg FusState.swapped hout :).symm.trans hswap) (hlate.trans hl) (blendFrames s) (updDone ce s).2 (updTime s)
      have hx' : (updClosed (updTime s) (updDone ce s)).fus.xhat = (updDone ce s).1.fus.xhat := (congrArg FusState.xhat hout :)
      rw [hx', hfus, hplain.1, hplain.2, published_congr hr hn, hn]
      exact ⟨rfl, rfl⟩
    · intro h
      have hanew : (updDone ce s).1.fus.rolled = true ∨ (updDone ce s).1.fus.swapped = true ∨
          (updDone ce s).1.fus.late ≠ none := by
        rw [hlate, ← show _ = (updDone ce s).1.fus.rolled from (congrArg FusState.rolled hout :),
          ← show _ = (updDone ce s).1.fus.swapped from (congrArg FusState.swapped hout :)]
        exact h
      rw [hfus]
      exact ⟨updPublished_anew hanew _ _ _, rfl⟩
  case missed =>
    intro ce s hu hb hd
    obtain ⟨hd1, -, -, -, hpub, hlatched⟩ := observe_output ce s
    have hfus := updClosed_fus_of_missed (b := updTime s) (hd1.trans hd)
    obtain ⟨bank, f, older, hupd, hbank, hat, hx, -⟩ := updClosed_stored ce s rfl
    refine ⟨_, bank, observerUpdateComplete_steps ce hu hb, hupd, hbank, hx, ?_, ?_⟩
    · rw [hfus]; exact hpub
    · rw [hfus, ← hlatched]
  case hold =>
    intro ce s hu hb hm
    have hmode : (updBegun s).sys.mode = .safeHold := by rw [updBegun_same s .sys (by decide), hm]
    have hheld := observe_of_hold (updTime s) ce hmode
    rw [updBegun_fus, ← updDone_eq] at hheld
    obtain ⟨hcontrib, hroll, hswap, hst, hest⟩ := hheld
    have hout := updClosed_outputOuter (updTime s) (updDone ce s)
    have hslot : (updClosed (updTime s) (updDone ce s)).fus.slot = (updDone ce s).1.fus.slot := (congrArg FusState.slot hout :)
    refine ⟨_, observerUpdateComplete_steps ce hu hb, ((congrArg FusState.contrib hout :)).trans hcontrib, ((congrArg FusState.rolled hout :)).trans hroll,
      ((congrArg FusState.swapped hout :)).trans hswap, fun i => ?_, fun h1 => ?_⟩
    · exact (congrArg (fun v : Vector RefSlot 24 => (v[i]).st) hslot).trans (hst i)
    · obtain ⟨h2, hocc⟩ := hest h1
      refine ⟨((congrArg FusState.mode hout :)).trans h2, fun hr => ?_⟩
      have hready : (updBegun s).hp.ready = true := by rw [updBegun_same s .hp (by decide)]; exact hr
      exact ((hocc hready).after_events (updBegun_events s) (by decide)).of_ev (updClosed_same _ _ .ev (by decide))
  case none =>
    intro ce s h
    rw [Steps, exec_observerUpdateComplete, if_pos (by rcases h with h | h <;> simp [h])]
  case limit =>
    intro g n s hl hd hst hb
    have hexec := exec_drLimitExpiry g s
    rw [hl] at hexec
    refine ⟨_, (hexec.trans (congrArg Host.Outcome.next (if_neg ?_))), ?_, fun hr => raise_occurred _ hr (by decide) rfl⟩
    · rw [hd, activeIn_of_none_active hst, hb]; decide
    · rw [raise_fus, State.onFus_fus, advanceTo_fus]
  case limitNone =>
    intro g s h
    rw [Steps, exec_drLimitExpiry]
    rcases h with h | h
    · split
      · rfl
      · rw [h]; rfl
    · rw [h]
  case fault =>
    intro d s
    refine ⟨_, exec_belvFault d s, ?_, fun hr => (belvFail_outcome d hr).2.2, selfDiag_mem 9 _⟩
    rw [belvFail, selfDiag_fus, raise_fus]; rfl
  case capture =>
    intro p c i s h ho hi hk
    have hslot : slotOf c = i.val := hi
    have hkind : (refKindSet s i.val != 3 && refKindSet s i.val != 4) = false := by rcases hk with hk | hk <;> simp [hk]
    have hbody : captureBody p c (taken p s) = ok p c 0 [] (onSlot i (fun x => { x with capReq := true }) (taken p s)) := by
      rw [captureBody, hslot, refKindSet_taken, hkind, fin?_val]; rfl
    have hsteps := steps_of_heard (exec_fusRefCapture p s) h ho
    rw [hbody] at hsteps
    have hun : Unanswered p c (onSlot i (fun x => { x with capReq := true }) (taken p s)) := h.taken.of_outstanding (by simp [onSlot, taken])
    refine ⟨_, hsteps, ok_replied hun 0 [], ?_, ?_⟩
    · exact (((SameBut.refl _ s).step (taken_same p s) rfl).step (onSlot_same i _ _) rfl).step (ok_same _ _ _ _ _) rfl
    · have hfus : (taken p s).fus = s.fus := taken_same p s .fus (by decide)
      simp only [ok_fus, onSlot, State.onFus_fus, hfus]
      rfl
  case captureRefused =>
    intro p c s h ho h3 h4
    have hkind : (refKindSet s (slotOf c) != 3 && refKindSet s (slotOf c) != 4) = true := by simp [slotOf, h3, h4]
    have hbody : captureBody p c (taken p s) = reject p c 0x3014 0 (taken p s) := by
      rw [captureBody, refKindSet_taken, hkind]; rfl
    have hsteps := steps_of_heard (exec_fusRefCapture p s) h ho
    rw [hbody] at hsteps
    exact ⟨_, hsteps, reject_answersOnly h 0x3014 0⟩
end

section
/-! The causes of a thruster: what their detection, their return and ALLOC_THRUSTER_ENABLE change (10.4, Table 10-7). -/

namespace Sys2Proof.Machine

theorem or_two_pow_of_testBit {m c : Nat} (h : m.testBit c = true) : m ||| 2 ^ c = m := by
  refine Nat.eq_of_testBit_eq fun i => ?_
  rw [Nat.testBit_or, Nat.testBit_two_pow]
  by_cases hi : c = i
  · rw [← hi, h]; rfl
  · simp [hi]

/-- A thruster in which cause c is found at time mt: a new cause is marked fresh, and none counts as absent. -/
def withCause (c mt : Nat) (x : Thr) : Thr :=
  if tb x.causes c then { x with absent := none }
  else { x with causes := x.causes ||| 2 ^ c, fresh := (if x.freshMt = mt then x.fresh else 0) ||| 2 ^ c, freshMt := mt, absent := none }

theorem withCause_causes (c mt : Nat) (x : Thr) : (withCause c mt x).causes = x.causes ||| 2 ^ c := by
  unfold withCause
  split
  next h => exact (or_two_pow_of_testBit h).symm
  next => rfl

section
variable (n : Fin 16) (c : Nat) (s : State)

theorem detectCause_eq : detectCause n.val c s =
    if !tb (s.alloc.thr[n]).causes c && thrConfigured s n.val then raise 56 (n.val * 256 + c) (s.onAlloc fun a => { a with thr := upd a.thr n (withCause c s.time.mt) })
    else s.onAlloc fun a => { a with thr := upd a.thr n (withCause c s.time.mt) } := by
  have hthr : upd s.alloc.thr n (withCause c s.time.mt) = upd s.alloc.thr n fun x =>
      if tb (s.alloc.thr[n]).causes c then { x with absent := none }
      else { x with causes := x.causes ||| 2 ^ c, fresh := (if x.freshMt = s.time.mt then x.fresh else 0) ||| 2 ^ c, freshMt := s.time.mt, absent := none } := rfl
  simp only [State.onAlloc, hthr, detectCause, fin?_val]

theorem detectCause_alloc : (detectCause n.val c s).alloc = { s.alloc with thr := upd s.alloc.thr n (withCause c s.time.mt) } := by
  rw [detectCause_eq]
  split
  · rw [raise_alloc]; rfl
  · rfl

theorem detectCause_causes : ((detectCause n.val c s).alloc.thr[n]).causes = (s.alloc.thr[n]).causes ||| 2 ^ c := by
  rw [detectCause_alloc]
  simp [withCause_causes]

theorem detectCause_other {m : Fin 16} (h : m ≠ n) : (detectCause n.val c s).alloc.thr[m] = s.alloc.thr[m] := by
  rw [detectCause_alloc]
  exact upd_getElem_ne _ _ _ _ h

/-- A cause that stood already raises nothing. -/
theorem detectCause_ev_of_had (h : tb (s.alloc.thr[n]).causes c = true) : (detectCause n.val c s).ev = s.ev := by
  rw [detectCause_eq, h]; rfl

theorem detectCause_occurred (hr : s.hp.ready = true) (hc : thrConfigured s n.val = true) (h : tb (s.alloc.thr[n]).causes c = false) :
    Occurred 56 (n.val * 256 + c) s (detectCause n.val c s) := by
  rw [detectCause_eq, h, hc]
  exact raise_occurred _ hr (by decide) rfl

theorem detectCause_outstanding (p : Port) : ((detectCause n.val c s).port p).outstanding = (s.port p).outstanding := by
  rw [detectCause_eq]
  split
  · rw [raise_port_outstanding]; rfl
  · rfl

end

/-! ALLOC_THRUSTER_ENABLE. -/

/-- The row on the state in which its packet is taken. -/
def thrusterEnableBody (p : Port) (c : Cmd) (s : State) : State :=
  let t := thrOf c
  if !thrSet s t.val then reject p c 0x6011 t.val s
  else if bit (wd c.words 0) 8 then
    if ([2, 3, 4] : List Nat).any (bars s t) then reject p c 0x6012 ((s.alloc.thr[t]).causes % 64) s
    else ok p c 0 [] (s.onAlloc fun a => { a with thr := upd a.thr t fun x => { x with causes := 0, absent := none } })
  else ok p c 0 [] (detectCause t.val 5 s)

theorem exec_allocThrusterEnable (p : Port) (s : State) :
    exec (.allocThrusterEnable p) s = .next (runOp .allocThrusterEnable p (thrusterEnableBody p) s) := rfl

theorem thrOf_eq {c : Cmd} {n : Fin 16} (h : fld (wd c.words 0) 3 0 = n.val) : thrOf c = n := by
  rw [thrOf, h]
  exact Fin.ext (Nat.mod_eq_of_lt n.isLt)

theorem any_bars_iff (s : State) (n : Fin 16) : ([2, 3, 4] : List Nat).any (bars s n) = true ↔ ∃ k, 2 ≤ k ∧ k ≤ 4 ∧ bars s n k = true := by
  rw [List.any_eq_true]
  constructor
  · rintro ⟨k, hk, h⟩
    have : k = 2 ∨ k = 3 ∨ k = 4 := by simpa using hk
    exact ⟨k, by omega, by omega, h⟩
  · rintro ⟨k, h2, h4, h⟩
    have : k = 2 ∨ k = 3 ∨ k = 4 := by omega
    exact ⟨k, by simpa using this, h⟩

/-! THRUSTER_RETURN_TIMER. -/

/-- The time to which the timer of a thruster runs. -/
def returnDue (n : Fin 16) (s : State) : State :=
  match (s.alloc.thr[n]).absent with
  | some m => advanceTo (m + returnS s * secTicks) s
  | none => s

/-- The causes that the timer clears, as a mask. -/
def returned (n : Fin 16) (s : State) : Nat :=
  (([2, 3, 4] : List Nat).filter fun c => tb (s.alloc.thr[n]).causes c && !standing s n c).foldl (fun m c => m + 2 ^ c) 0

/-- The thruster without them. -/
def clearReturned (n : Fin 16) (s : State) : State :=
  s.onAlloc fun a => { a with thr := upd a.thr n fun x => { x with causes := x.causes &&& (0xFFFF ^^^ returned n s), absent := none } }

theorem exec_thrusterReturnTimer (n : Fin 16) (s : State) :
    exec (.thrusterReturnTimer n) s = .next (if !autoReturn (returnDue n s) then returnDue n s else clearReturned n (returnDue n s)) := rfl

theorem returnDue_same (n : Fin 16) (s : State) : SameBut [.time] s (returnDue n s) := by
  unfold returnDue
  split
  · exact advanceTo_same _ s
  · exact SameBut.refl _ s

/-- The mask holds no other cause, and each of the three where it is set and stands no more. -/
theorem returned_testBit (n : Fin 16) (s : State) (i : Nat) :
    (returned n s).testBit i = ((i == 2 || i == 3 || i == 4) && tb (s.alloc.thr[n]).causes i && !standing s n i) := by
  have hsmall : ∀ a b d : Bool, ∀ i : Fin 5, ((([2, 3, 4] : List Nat).filter fun c => if c = 2 then a else if c = 3 then b else d).foldl (fun m c => m + 2 ^ c) 0).testBit i.val =
      ((i.val == 2 || i.val == 3 || i.val == 4) && if i.val = 2 then a else if i.val = 3 then b else d) := by decide
  have hbound : ∀ a b d : Bool, (([2, 3, 4] : List Nat).filter fun c => if c = 2 then a else if c = 3 then b else d).foldl (fun m c => m + 2 ^ c) 0 < 2 ^ 5 := by decide
  let g : Nat → Bool := fun c => tb (s.alloc.thr[n]).causes c && !standing s n c
  have hfilter : ([2, 3, 4] : List Nat).filter g = ([2, 3, 4] : List Nat).filter fun c => if c = 2 then g 2 else if c = 3 then g 3 else g 4 := by
    simp [List.filter]
  have hret : returned n s = (([2, 3, 4] : List Nat).filter fun c => if c = 2 then g 2 else if c = 3 then g 3 else g 4).foldl (fun m c => m + 2 ^ c) 0 := by
    rw [← hfilter]; rfl
  rw [hret, Bool.and_assoc]
  by_cases hi : i < 5
  · rw [hsmall (g 2) (g 3) (g 4) ⟨i, hi⟩]
    have : i = 0 ∨ i = 1 ∨ i = 2 ∨ i = 3 ∨ i = 4 := by omega
    rcases this with rfl | rfl | rfl | rfl | rfl <;> rfl
  · rw [Nat.testBit_eq_false_of_lt (lt_of_lt_of_le (hbound _ _ _) (Nat.pow_le_pow_right (by decide) (by omega)))]
    have : i ≠ 2 ∧ i ≠ 3 ∧ i ≠ 4 := by omega
    simp [this]

theorem clearReturned_causes (n : Fin 16) (s : State) {i : Nat} (hi : i < 16) :
    tb ((clearReturned n s).alloc.thr[n]).causes i = (tb (s.alloc.thr[n]).causes i && !(returned n s).testBit i) := by
  have hones : (0xFFFF : Nat).testBit i = true := by
    have := Nat.testBit_two_pow_sub_one 16 i
    simpa [hi] using this
  have hthr : ((clearReturned n s).alloc.thr[n]).causes = (s.alloc.thr[n]).causes &&& (0xFFFF ^^^ returned n s) := by simp [clearReturned]
  rw [hthr, tb, Nat.testBit_and, Nat.testBit_xor, hones]
  simp [tb]

end Sys2Proof.Machine
end

section
/-! What the readers of allocation depend on. -/

namespace Sys2Proof.Machine

section
variable {s t : State} (hcfg : t.cfg = s.cfg)
include hcfg

theorem thrWords_congr : thrWords t = thrWords s := by
  unfold thrWords State.inForce
  rw [hcfg]

theorem thrW_congr : thrW t = thrW s := by
  unfold thrW
  rw [thrWords_congr hcfg]

theorem thrConfigured_congr : thrConfigured t = thrConfigured s := by
  unfold thrConfigured
  rw [thrWords_congr hcfg]

theorem thrusters_congr : thrusters t = thrusters s := by
  unfold thrusters
  rw [thrConfigured_congr hcfg]

theorem thrSection_congr : thrSection t = thrSection s := by
  unfold thrSection
  rw [thrWords_congr hcfg]

theorem tFwd_congr : tFwd t = tFwd s := by
  unfold tFwd
  rw [thrW_congr hcfg]

theorem thrKind_congr : thrKind t = thrKind s := by
  unfold thrKind
  rw [thrW_congr hcfg]

theorem thrPower_congr : thrPower t = thrPower s := by
  unfold thrPower tSide tRev pRated
  rw [thrW_congr hcfg, tFwd_congr hcfg]

theorem secPow_congr : secPow t = secPow s := by
  unfold secPow
  rw [thrusters_congr hcfg, thrSection_congr hcfg, thrPower_congr hcfg]

theorem secRated_congr : secRated t = secRated s := by
  unfold secRated pRated
  rw [thrusters_congr hcfg, thrSection_congr hcfg, thrW_congr hcfg]

theorem kappa_congr : kappa t = kappa s := by
  unfold kappa
  rw [thrSection_congr hcfg, secRated_congr hcfg]

theorem yawMoments_congr : yawMoments t = yawMoments s := by
  unfold yawMoments azRegion tRev azFixed thrX thrY
  rw [kappa_congr hcfg, thrW_congr hcfg, tFwd_congr hcfg, thrKind_congr hcfg]

theorem capYaw_congr : capYaw t = capYaw s := by
  unfold capYaw
  rw [thrusters_congr hcfg, yawMoments_congr hcfg]

theorem acfg_congr : acfg t = acfg s := by
  unfold acfg State.inForce
  rw [hcfg]

theorem ccfg_congr : ccfg t = ccfg s := by
  unfold ccfg State.inForce
  rw [hcfg]

theorem pushAz_congr : pushAz t = pushAz s := by
  unfold pushAz azFixed
  rw [thrKind_congr hcfg, thrW_congr hcfg]

theorem forceOf_congr : forceOf t = forceOf s := by
  have hread : ∀ u : State, forceOf u = forceOf { s with cfg := u.cfg } := fun _ => rfl
  rw [hread t, hcfg]

theorem bound_congr : bound t = bound s := by
  unfold bound bindWords State.inForce
  rw [hcfg]

theorem bindCan_congr : bindCan t = bindCan s := by
  unfold bindCan bindWords State.inForce
  rw [bound_congr hcfg, hcfg]

theorem boundThrs_congr : boundThrs t = boundThrs s := by
  unfold boundThrs
  rw [bound_congr hcfg]

theorem pLim_congr (hlimit : t.dpc.limit = s.dpc.limit) : pLim t = pLim s := by
  unfold pLim
  rw [hlimit, secRated_congr hcfg]

/-- The section clamp reads the limits beside the configuration. -/
theorem clampPower_congr (hlimit : t.dpc.limit = s.dpc.limit) : clampPower t = clampPower s := by
  unfold clampPower
  rw [pLim_congr hcfg hlimit, secPow_congr hcfg, thrSection_congr hcfg, thrConfigured_congr hcfg]

theorem nomCap_congr (hlimit : t.dpc.limit = s.dpc.limit) (hdone : t.alloc.caDone = s.alloc.caDone) (havail : t.alloc.avail = s.alloc.avail)
    (hfree : t.free = s.free) : nomCap t = nomCap s := by
  simp only [nomCap, hlimit, hdone, havail, hfree, capYaw_congr hcfg, thrusters_congr hcfg, tFwd_congr hcfg]

theorem tauNear_congr (hdpc : t.dpc = s.dpc) (hdone : t.alloc.caDone = s.alloc.caDone) (havail : t.alloc.avail = s.alloc.avail)
    (hfree : t.free = s.free) : tauNear t = tauNear s := by
  unfold tauNear specTolPct
  rw [nomCap_congr hcfg (congrArg DpcState.limit hdpc) hdone havail hfree, hdpc, acfg_congr hcfg]

end

theorem genOf_congr {s t : State} (h : t.solv.structs = s.solv.structs) : genOf t = genOf s := by
  unfold genOf structOf
  rw [h]

/-! The check of the speculation (R257, R265, R266). -/

/-- The frame's point of linearisation. -/
def speculationLin (s : State) : State := linearize ((stepAt 2000 s).sys.frame * frameTicks) (stepAt 2000 s)

theorem speculationLin_same (s : State) : SameBut [.time, .alloc] s (speculationLin s) :=
  ((SameBut.refl _ s).step (stepAt_same 2000 s) rfl).step (linearize_same _ _) rfl

theorem speculationLin_alloc (s : State) : ∃ l, (speculationLin s).alloc = { s.alloc with checked := some s.sys.frame, lin := l } := by
  have halloc : (stepAt 2000 s).alloc = s.alloc := stepAt_same _ _ .alloc (by decide)
  have hsys : (stepAt 2000 s).sys = s.sys := stepAt_same _ _ .sys (by decide)
  unfold speculationLin linearize
  rw [State.onAlloc_alloc, halloc, hsys]
  exact ⟨_, rfl⟩

/-- The reason for a squash does not depend on the time, the point of linearisation and the mark of the check. -/
theorem squashReason_lin (s : State) : squashReason (speculationLin s) = squashReason s := by
  have hcfg : (speculationLin s).cfg = s.cfg := speculationLin_same s .cfg (by decide)
  have hdpc : (speculationLin s).dpc = s.dpc := speculationLin_same s .dpc (by decide)
  have hsys : (speculationLin s).sys = s.sys := speculationLin_same s .sys (by decide)
  have hsolv : (speculationLin s).solv = s.solv := speculationLin_same s .solv (by decide)
  obtain ⟨l, halloc⟩ := speculationLin_alloc s
  unfold squashReason
  rw [genOf_congr (congrArg SolvState.structs hsolv), pLim_congr hcfg (congrArg DpcState.limit hdpc), secPow_congr hcfg, hsys,
    tauNear_congr hcfg hdpc (by rw [halloc]) (by rw [halloc]) (speculationLin_same s .free (by decide)), halloc]

theorem selectEntry_lin (s : State) : selectEntry (speculationLin s) = selectEntry s := by
  have hcfg : (speculationLin s).cfg = s.cfg := speculationLin_same s .cfg (by decide)
  have hsys : (speculationLin s).sys = s.sys := speculationLin_same s .sys (by decide)
  have hsolv : (speculationLin s).solv = s.solv := speculationLin_same s .solv (by decide)
  obtain ⟨l, halloc⟩ := speculationLin_alloc s
  unfold selectEntry
  rw [genOf_congr (congrArg SolvState.structs hsolv), thrSection_congr hcfg, hsys, halloc]

/-- The check from its commit or count on. -/
def speculationDone (fail : Option Nat) (s : State) : State :=
  (predict (submitDp1 fail (cancelDp (fun w => w == .alloc) s))).onAlloc fun a => { a with firstFrame := false, cfgChanged := false }

/-- Allocation as the problem's submission and the prediction leave it: what they set apart. -/
def checkOuter (a : AllocState) : AllocState := { a with firstFrame := false, cfgChanged := false, tauPred := Vector.replicate 3 0, bankDue := none }

theorem speculationDone_alloc (fail : Option Nat) (s : State) : checkOuter (speculationDone fail s).alloc = checkOuter s.alloc := by
  have hsub : (submitDp1 fail (cancelDp (fun w => w == .alloc) s)).alloc = s.alloc :=
    (submitDp1_same _ _ .alloc (by decide)).trans (cancelDp_same _ s .alloc (by decide))
  simp only [speculationDone, predict, checkOuter, State.onAlloc_alloc, hsub]

theorem speculationDone_flags (fail : Option Nat) (s : State) :
    (speculationDone fail s).alloc.firstFrame = false ∧ (speculationDone fail s).alloc.cfgChanged = false := ⟨rfl, rfl⟩

theorem exec_speculationCheck (s : State) : exec .speculationCheck s = .next (
    if !frameWork (stepAt 2000 s) || (stepAt 2000 s).dpc.fn == 0 || (stepAt 2000 s).alloc.checked == some (stepAt 2000 s).sys.frame then stepAt 2000 s
    else
      let u := speculationLin s
      let fail := u.alloc.lost != 0 && !u.alloc.firstFrame
      let v := if fail then commitEntry u else checkEntry u
      speculationDone (if fail then some v.alloc.entry else none) v) := rfl

theorem frameWork_of_mode {s : State} (h : s.sys.mode = .control ∨ s.sys.mode = .standby) : frameWork s = true := by
  rcases h with h | h <;> simp [frameWork, h]

/-- In a frame of allocation's the check runs once. -/
theorem speculationCheck_steps {s : State} (hm : s.sys.mode = .control ∨ s.sys.mode = .standby) (hfn : s.dpc.fn ≠ 0) (hrun : s.alloc.checked ≠ some s.sys.frame) :
    Steps .speculationCheck s (
      let fail := s.alloc.lost != 0 && !s.alloc.firstFrame
      let v := if fail then commitEntry (speculationLin s) else checkEntry (speculationLin s)
      speculationDone (if fail then some v.alloc.entry else none) v) := by
  have hsys : (stepAt 2000 s).sys = s.sys := stepAt_same _ _ .sys (by decide)
  have hdpc : (stepAt 2000 s).dpc = s.dpc := stepAt_same _ _ .dpc (by decide)
  have halloc : (stepAt 2000 s).alloc = s.alloc := stepAt_same _ _ .alloc (by decide)
  have hwork : frameWork (stepAt 2000 s) = true := frameWork_of_mode (by rwa [hsys])
  obtain ⟨l, hlin⟩ := speculationLin_alloc s
  rw [Steps, exec_speculationCheck, hwork, hdpc, halloc, hsys, if_neg (by simp [hfn, hrun])]
  simp only [hlin]

theorem speculationCheck_steps_of_ran {s : State} (h : s.alloc.checked = some s.sys.frame) : Steps .speculationCheck s (stepAt 2000 s) := by
  have hsys : (stepAt 2000 s).sys = s.sys := stepAt_same _ _ .sys (by decide)
  have halloc : (stepAt 2000 s).alloc = s.alloc := stepAt_same _ _ .alloc (by decide)
  rw [Steps, exec_speculationCheck, if_pos (by simp [hsys, halloc, h])]

/-- A check leaves the committed solution and the count of switches; a hit is noted, a squash counted. -/
theorem checkEntry_alloc (s : State) : ∃ q, (checkEntry s).alloc = { s.alloc with
    hit := if squashReason s = 0 then true else s.alloc.hit, squash := if squashReason s = 0 then s.alloc.squash else squashReason s
    nSquash := if squashReason s = 0 then s.alloc.nSquash else inc32 s.alloc.nSquash, squashBy := q } := by
  unfold checkEntry
  split
  next h => exact ⟨s.alloc.squashBy, by simp [h]⟩
  next h =>
    simp only [if_neg h]
    exact ⟨_, rfl⟩

end Sys2Proof.Machine
end

section
/-! The issue of the setpoints (R260, R261, R290). -/

namespace Sys2Proof.Machine

theorem stepAt_mt_le {us m : Nat} {s : State} (h : s.time.mt ≤ m) (hu : s.sys.frame * frameTicks + us * 100 ≤ m) : (stepAt us s).time.mt ≤ m := by
  have hmt : (stepAt us s).time.mt = if s.time.mtRun then (s.time.mt + (s.sys.frame * frameTicks + us * 100 - s.time.mt)) % 2 ^ 64 else s.time.mt := rfl
  rw [hmt]
  split
  · exact (Nat.mod_le _ _).trans (by omega)
  · exact h

/-- The submission of the bank changes the solver, and that no bank is due any more. -/
theorem submitBank_kept (s : State) : SameBut [.solv, .free] (s.onAlloc fun a => { a with bankDue := none }) (submitBank s) := by
  unfold submitBank
  split
  next h =>
    have halloc : { s.alloc with bankDue := none } = s.alloc := by rw [← h]
    have hs : (s.onAlloc fun a => { a with bankDue := none }) = s := by rw [State.onAlloc, halloc]
    rw [hs]
    exact SameBut.refl _ s
  · refine SameBut.foldl (fun w c => ?_) _ (cancelDp_same _ _)
    split
    · exact submitDp_same _ w
    · exact SameBut.refl _ w

/-! The command frames of the bound thrusters. -/

theorem sendThr_cfg (t : Fin 16) (thrust : Int) (az : Nat) (e : Bool) (s : State) : (sendThr t thrust az e s).cfg = s.cfg :=
  sendThr_same t thrust az e s .cfg (by decide)

/-- A command frame counts on the counter of its thruster alone. -/
theorem sendThr_canCounter (t n : Fin 16) (thrust : Int) (az : Nat) (e : Bool) (s : State) :
    (sendThr t thrust az e s).loop.canCounter[n] = if t = n ∧ bindCan s n.val < 6 then (s.loop.canCounter[n] + 1) % 256 else s.loop.canCounter[n] := by
  unfold sendThr
  split
  next h =>
    have hbind : ¬ bindCan s t.val < 6 := by
      simpa [fin?] using h
    rw [if_neg]
    rintro ⟨rfl, hn⟩
    exact hbind hn
  next c h =>
    have hbind : bindCan s t.val < 6 := by
      by_contra hc
      simp [fin?, hc] at h
    dsimp only
    rw [show (queueFn c _ _ _).loop = _ from queueFn_same _ _ _ _ .loop (by decide), State.onLoop_loop]
    by_cases htn : t = n
    · subst htn
      simp [hbind]
    · have hne : t.val ≠ n.val := fun h => htn (Fin.ext h)
      simp [htn, hne]

/-- Frames to a list of thrusters, each with what it carries by the state it is sent in: one count each. -/
theorem foldl_sendThr_canCounter (thrust : State → Fin 16 → Int) (az : State → Fin 16 → Nat) (n : Fin 16) (l : List (Fin 16)) (hl : l.Nodup) (s : State) :
    (l.foldl (fun s t => sendThr t (thrust s t) (az s t) true s) s).loop.canCounter[n] =
      if n ∈ l ∧ bindCan s n.val < 6 then (s.loop.canCounter[n] + 1) % 256 else s.loop.canCounter[n] := by
  induction l generalizing s with
  | nil => simp
  | cons t l ih =>
    obtain ⟨ht, hl⟩ := List.nodup_cons.mp hl
    rw [List.foldl_cons, ih hl, sendThr_canCounter, bindCan_congr (sendThr_cfg t _ _ _ s)]
    by_cases htn : t = n
    · subst htn
      simp [ht]
    · have hne : n ≠ t := fun h => htn h.symm
      simp [htn, hne]

/-- The parts of the loops that the drive changes beside the counters. -/
theorem driveBound_true_canCounter (s : State) : (driveBound true s).loop.canCounter = s.loop.canCounter := by
  unfold driveBound
  split
  · rfl
  · simp only [if_true, State.onLoop_loop]

theorem onEng_canCounter (k : Nat) (f : Engine → Engine) (s : State) : (onEng k f s).loop.canCounter = s.loop.canCounter := by
  unfold onEng
  split <;> rfl

theorem onProf_canCounter (k : Nat) (f : Prof → Prof) (s : State) : (onProf k f s).loop.canCounter = s.loop.canCounter := by
  unfold onProf
  split <;> rfl

theorem driveThr_canCounter (t : Fin 16) (s : State) : (driveThr t s).loop.canCounter = s.loop.canCounter := by
  unfold driveThr
  extract_lets p u a
  have hu : u.loop.canCounter = s.loop.canCounter := by
    simp only [u]
    split
    · exact onEng_canCounter _ _ s
    · rfl
  split
  · exact (onEng_canCounter _ _ u).trans hu
  · split
    · exact (onProf_canCounter _ _ u).trans hu
    · exact hu

theorem foldl_driveThr_canCounter (l : List (Fin 16)) (s : State) : (l.foldl (fun s t => driveThr t s) s).loop.canCounter = s.loop.canCounter := by
  induction l generalizing s with
  | nil => rfl
  | cons t l ih => exact (ih _).trans (driveThr_canCounter t s)

/-- The issue in a frame that has a function: in CONTROL, with the outputs owned, the drive and the frames; else nothing. -/
theorem issue_eq {s : State} (hm : s.sys.mode = .control ∨ s.sys.mode = .standby) (hfn : s.dpc.fn ≠ 0) : issue s =
    if s.sys.own = true ∧ s.sys.release = false ∧ s.sys.outputsHeld = false ∧ s.sys.mode = .control then
      (boundThrs ((boundThrs (driveBound true s)).foldl (fun s t => driveThr t s) (driveBound true s))).foldl
        (fun s t => sendThr t (thrustCmd s t) ((s.alloc.issued[t]).az.toNat / 65536) true s)
        ((boundThrs (driveBound true s)).foldl (fun s t => driveThr t s) (driveBound true s))
    else s := by
  unfold issue
  by_cases hheld : (!s.sys.own || s.sys.release || s.sys.outputsHeld) = true
  · rw [if_pos hheld, if_neg]
    rintro ⟨ho, hr, hh, -⟩
    simp [ho, hr, hh] at hheld
  · have hout : s.sys.own = true ∧ s.sys.release = false ∧ s.sys.outputsHeld = false := by simpa [and_assoc] using hheld
    rw [if_neg hheld]
    rcases hm with hm | hm
    · simp only [hm, hout, and_self, if_true]
      exact if_neg hfn
    · simp [hm]

theorem issue_of_not_owned {s : State} (hown : s.sys.own = false) : issue s = s := if_pos (by simp [hown])

theorem driven_cfg (s : State) : ((boundThrs (driveBound true s)).foldl (fun s t => driveThr t s) (driveBound true s)).cfg = s.cfg :=
  (SameBut.foldl (l := [.loop]) (fun w t => driveThr_same t w) _ (SameBut.refl _ _) .cfg (by decide)).trans (driveBound_same true s .cfg (by decide))

theorem issue_canCounter {s : State} (hm : s.sys.mode = .control) (hfn : s.dpc.fn ≠ 0) (hown : s.sys.own = true) (hrel : s.sys.release = false)
    (hheld : s.sys.outputsHeld = false) {n : Fin 16} (hb : bound s n.val = true) (hc : bindCan s n.val < 6) :
    (issue s).loop.canCounter[n] = (s.loop.canCounter[n] + 1) % 256 := by
  have hmem : n ∈ boundThrs s := List.mem_filter.mpr ⟨List.mem_finRange n, hb⟩
  have hnodup : (boundThrs s).Nodup := (List.nodup_finRange 16).filter _
  rw [issue_eq (.inl hm) hfn, if_pos ⟨hown, hrel, hheld, hm⟩, boundThrs_congr (driven_cfg s),
    foldl_sendThr_canCounter _ _ _ _ hnodup, bindCan_congr (driven_cfg s), if_pos ⟨hmem, hc⟩, foldl_driveThr_canCounter, driveBound_true_canCounter]

theorem txFail_events (c : Fin 6) (k : Fin 3) (s : State) : EventsBut [85, 120] s (txFail c k s) := by
  unfold txFail
  split
  · exact raise_eventsBut _ rfl
  · exact EventsBut.refl _ s

theorem queueFn_events (c : Fin 6) (who : CanOwner) (f : CanFrame) (s : State) : EventsBut [85, 120] s (queueFn c who f s) := by
  unfold queueFn
  extract_lets k
  split
  · exact (EventsBut.of_same ((SameBut.refl [.can] s).onCan _ rfl) (by decide)).trans (txFail_events c 2 _)
  · split
    · exact fun _ _ => rfl
    · exact fun _ _ => rfl

theorem sendThr_events (t : Fin 16) (thrust : Int) (az : Nat) (e : Bool) (s : State) : EventsBut [85, 120] s (sendThr t thrust az e s) := by
  unfold sendThr
  split
  · exact EventsBut.refl _ s
  · exact (EventsBut.of_same ((SameBut.refl [.loop] s).onLoop _ rfl) (by decide)).trans (queueFn_events _ _ _ _)

/-- Events keep within a list over a fold of steps. -/
theorem EventsBut.foldl {α : Type} {l : List (Fin 128)} {g : State → α → State} (hg : ∀ w x, EventsBut l w (g w x)) (xs : List α) (s : State) :
    EventsBut l s (xs.foldl g s) := by
  induction xs generalizing s with
  | nil => exact EventsBut.refl l s
  | cons x xs ih => exact (hg s x).trans (ih (g s x))

theorem issue_events {s : State} (hm : s.sys.mode = .control ∨ s.sys.mode = .standby) (hfn : s.dpc.fn ≠ 0) : EventsBut [85, 120] s (issue s) := by
  rw [issue_eq hm hfn]
  split
  · refine EventsBut.trans ?_ (EventsBut.foldl (fun w t => sendThr_events t _ _ _ w) _ _)
    have hbound : EventsBut [85, 120] s (driveBound true s) := by
      unfold driveBound
      split <;> exact fun _ _ => rfl
    exact hbound.trans (EventsBut.foldl (fun w t => EventsBut.of_same (driveThr_same t w) (by decide)) _ _)
  · exact EventsBut.refl _ s

end Sys2Proof.Machine
end

section
/-! SETPOINT_ISSUE in its stages. -/

namespace Sys2Proof.Machine

/-- The frame's issue is marked, its problem ends, and the bank is submitted. -/
def issueBank (s : State) : State :=
  submitBank (cancelDp (fun w => w == .alloc) ((stepAt 6500 s).onAlloc fun a => { a with issuedAt := some (stepAt 6500 s).sys.frame }))

/-- The setpoints, with the clamp's result r. -/
def issueSet (r : Vector SetPt 16 × Vector Bool 4) (s : State) : State :=
  s.onAlloc fun a => { a with
    issued := r.1
    clamp := r.2.toList.any id
    d3Run := if a.d3Miss then a.d3Run else 0
    secPower := Vector.ofFn fun k => (rne (secPow s r.1 k.val : Nat) (2 ^ 20)).toNat
    slack := vmapI (forceOf s r.1) fun i f => s.dpc.tau[i] - f }

/-- The sections whose limit binds. -/
def issueBinding (high : Vector Bool 4) (raw : Vector SetPt 16) (s : State) : Vector Bool 4 :=
  Vector.ofFn fun k => high[k] || (s.dpc.limit[k].isSome && decide (pLim s k * 2 ^ 20 ≤ secPow s raw k.val))

/-- A failure frame raises HYP_SWITCH (10.6). -/
def issueSwitch (s : State) : State :=
  if s.alloc.entry != 0xFE then raise 59 (s.alloc.entry * 256 + b2n s.alloc.aged + 2 * b2n s.alloc.refined) s else s

/-- The setpoints, clamped. -/
def issueClamped (s : State) : State := issueSet (clampPower s (available s)) s

/-- The setpoints of the frame with their section limits, the counts of the slack and the switch. -/
def issueRest (s : State) : State :=
  issueSwitch (slackCount (setBinding (issueBinding (clampPower s (available s)).2 (available s) (issueClamped s)) (issueClamped s)))

/-- The setpoints of the frame are formed. -/
def issueFormed (s : State) : State := issueRest (issueBank s)

/-- ALLOC_STATE goes to its stream. -/
def sendAlloc (s : State) : State := if frameWork s && streamDue s 0x6A0 then stream 0x6A0 0 (allocState s) s else s

theorem exec_setpointIssue (s : State) : exec .setpointIssue s = .next (
    if (stepAt 6500 s).alloc.issuedAt = some (stepAt 6500 s).sys.frame || decide ((stepAt 6500 s).sys.frame * frameTicks + 950000 < (stepAt 6500 s).time.mt) then stepAt 6500 s
    else
      let u := (stepAt 6500 s).onAlloc fun a => { a with issuedAt := some (stepAt 6500 s).sys.frame }
      sendAlloc (issue (if frameWork u && u.dpc.fn != 0 then issueFormed s else u))) := by
  have harm : exec .setpointIssue s = execSetpointIssue s := rfl
  rw [harm]
  unfold execSetpointIssue issueFormed issueRest issueClamped issueBank issueSwitch issueBinding issueSet sendAlloc
  dsimp only

theorem issueBank_alloc (s : State) : (issueBank s).alloc = { s.alloc with issuedAt := some s.sys.frame, bankDue := none } := by
  have halloc : (stepAt 6500 s).alloc = s.alloc := stepAt_same _ _ .alloc (by decide)
  have hsys : (stepAt 6500 s).sys = s.sys := stepAt_same _ _ .sys (by decide)
  unfold issueBank
  rw [show (submitBank _).alloc = _ from submitBank_kept _ .alloc (by decide), State.onAlloc_alloc, show (cancelDp _ _).alloc = _ from cancelDp_same _ _ .alloc (by decide),
    State.onAlloc_alloc, halloc, hsys]

theorem issueBank_same (s : State) : SameBut [.time, .alloc, .solv, .free] s (issueBank s) := by
  unfold issueBank
  refine SameBut.step ?_ (submitBank_kept _) rfl
  exact ((((SameBut.refl _ s).step (stepAt_same 6500 s) rfl).onAlloc _ rfl).step (cancelDp_same _ _) rfl).onAlloc _ rfl

theorem issueBank_solverKept (s : State) : SolverKept s (issueBank s) := by
  unfold issueBank
  refine SolverKept.trans ?_ (submitBank_solverKept _)
  refine SolverKept.trans ?_ (cancelDp_solverKept _ _)
  exact SolverKept.trans (.of_same (stepAt_same 6500 s) rfl) (.onAlloc _ _)

/-- The clamp in the frame's issue is that of the state before it. -/
theorem clampPower_issueBank (s : State) : clampPower (issueBank s) (available (issueBank s)) = clampPower s (available s) := by
  have hdpc : (issueBank s).dpc = s.dpc := issueBank_same s .dpc (by decide)
  have havailable : available (issueBank s) = available s := by
    unfold available
    rw [issueBank_alloc]
  rw [havailable, clampPower_congr (issueBank_same s .cfg (by decide)) (congrArg DpcState.limit hdpc)]

/-! The section limits, the slack and the switch. -/

theorem setBinding_alloc (v : Vector Bool 4) (s : State) : (setBinding v s).alloc = s.alloc := setBinding_same v s .alloc (by decide)

theorem setBinding_dpc (v : Vector Bool 4) (s : State) : (setBinding v s).dpc = { s.dpc with binding := v } := by
  unfold setBinding
  refine SameBut.foldl (l := [.host, .maint, .ev, .log]) (s := s.onDpc fun d => { d with binding := v }) (fun w k => ?_) _ (SameBut.refl _ _) .dpc (by decide)
  split
  · exact raise_same _ _ w
  · exact SameBut.refl _ w

theorem setBinding_events (v : Vector Bool 4) (s : State) : EventsBut [12, 120] s (setBinding v s) := by
  unfold setBinding
  refine EventsBut.trans (EventsBut.of_same ((SameBut.refl [.dpc] s).onDpc _ rfl) (by decide)) (EventsBut.foldl (fun w k => ?_) _ _)
  split
  · exact raise_eventsBut _ rfl
  · exact EventsBut.refl _ w

/-- Allocation apart from the counts of the slack. -/
def slackOuter (a : AllocState) : AllocState := { a with slackRun := Vector.replicate 3 0, slackClear := 0 }

theorem slackOuter_entry {a b : AllocState} (h : slackOuter b = slackOuter a) : b.entry = a.entry ∧ b.aged = a.aged ∧ b.refined = a.refined :=
  ⟨(congrArg AllocState.entry h :), (congrArg AllocState.aged h :), (congrArg AllocState.refined h :)⟩

theorem slackOuter_issued {a b : AllocState} (h : slackOuter b = slackOuter a) :
    b.issuedAt = a.issuedAt ∧ b.issued = a.issued ∧ b.clamp = a.clamp ∧ b.slack = a.slack :=
  ⟨(congrArg AllocState.issuedAt h :), (congrArg AllocState.issued h :), (congrArg AllocState.clamp h :), (congrArg AllocState.slack h :)⟩

theorem slackCount_outer (s : State) : slackOuter (slackCount s).alloc = slackOuter s.alloc := rfl

theorem issueSwitch_same (s : State) : SameBut [.host, .maint, .ev, .log] s (issueSwitch s) := by
  unfold issueSwitch
  split
  · exact raise_same _ _ s
  · exact SameBut.refl _ s

theorem issueSwitch_occurred {s : State} (hr : s.hp.ready = true) (he : s.alloc.entry ≠ 0xFE) :
    Occurred 59 (s.alloc.entry * 256 + b2n s.alloc.aged + 2 * b2n s.alloc.refined) s (issueSwitch s) := by
  rw [issueSwitch, if_pos (by simpa using he)]
  exact raise_occurs _ hr (by decide)

theorem issueClamped_same (s : State) : SameBut [.alloc] s (issueClamped s) := (SameBut.refl _ s).onAlloc _ rfl

theorem issueRest_same (s : State) : SameBut [.alloc, .host, .maint, .ev, .dpc, .log] s (issueRest s) :=
  ((((SameBut.refl _ s).step (issueClamped_same s) rfl).step (setBinding_same _ _) rfl).step (slackCount_same _) rfl).step (issueSwitch_same _) rfl

theorem issueRest_alloc (s : State) : slackOuter (issueRest s).alloc = slackOuter (issueClamped s).alloc := by
  rw [issueRest, show (issueSwitch _).alloc = _ from issueSwitch_same _ .alloc (by decide), slackCount_outer, setBinding_alloc]

theorem issueRest_fn (s : State) : (issueRest s).dpc.fn = s.dpc.fn := by
  rw [issueRest, show (issueSwitch _).dpc = _ from issueSwitch_same _ .dpc (by decide), show (slackCount _).dpc = _ from slackCount_same _ .dpc (by decide),
    setBinding_dpc, show (issueClamped s).dpc = s.dpc from issueClamped_same s .dpc (by decide)]

theorem issueClamped_entry (s : State) :
    (issueClamped s).alloc.entry = s.alloc.entry ∧ (issueClamped s).alloc.aged = s.alloc.aged ∧ (issueClamped s).alloc.refined = s.alloc.refined := ⟨rfl, rfl, rfl⟩

/-- HYP_SWITCH of a failure frame, beside LOAD_REDUCTION. -/
theorem issueRest_occurred {s : State} (hr : s.hp.ready = true) (he : s.alloc.entry ≠ 0xFE) :
    Occurred 59 (s.alloc.entry * 256 + b2n s.alloc.aged + 2 * b2n s.alloc.refined) s (issueRest s) := by
  unfold issueRest
  generalize issueBinding _ _ _ = v
  have hsame : SameBut [.alloc, .host, .maint, .ev, .dpc, .log] s (slackCount (setBinding v (issueClamped s))) :=
    (((SameBut.refl _ s).step (issueClamped_same s) rfl).step (setBinding_same _ _) rfl).step (slackCount_same _) rfl
  have hevents : EventsBut [12, 120] s (slackCount (setBinding v (issueClamped s))) :=
    ((EventsBut.of_same (issueClamped_same s) (by decide)).trans (setBinding_events v _)).trans (EventsBut.of_same (slackCount_same _) (by decide))
  have halloc : slackOuter (slackCount (setBinding v (issueClamped s))).alloc = slackOuter (issueClamped s).alloc := by rw [slackCount_outer, setBinding_alloc]
  generalize slackCount (setBinding v (issueClamped s)) = w at hsame hevents halloc ⊢
  obtain ⟨hentry, haged, hrefined⟩ := slackOuter_entry halloc
  obtain ⟨hentry', haged', hrefined'⟩ := issueClamped_entry s
  rw [hentry'] at hentry
  rw [haged'] at haged
  rw [hrefined'] at hrefined
  have hready : w.hp.ready = true := by rw [show w.hp = s.hp from hsame .hp (by decide), hr]
  have hocc := issueSwitch_occurred hready (hentry ▸ he)
  rw [hentry, haged, hrefined] at hocc
  exact hocc.after_events hevents (by decide)

end Sys2Proof.Machine
end

section
/-! What an issue leaves of allocation, the loops and the events. -/

namespace Sys2Proof.Machine

theorem issueClamped_issued (s : State) : (issueClamped s).alloc.issuedAt = s.alloc.issuedAt ∧ (issueClamped s).alloc.issued = (clampPower s (available s)).1 ∧
    (issueClamped s).alloc.clamp = (clampPower s (available s)).2.toList.any id ∧
    (issueClamped s).alloc.slack = vmapI (forceOf s (clampPower s (available s)).1) fun i f => s.dpc.tau[i] - f := ⟨rfl, rfl, rfl, rfl⟩

/-- The clamp keeps the azimuths. -/
theorem clampPower_az (s : State) (v : Vector SetPt 16) (n : Fin 16) : ((clampPower s v).1[n]).az = (v[n]).az := by
  simp only [clampPower, vmapI, Fin.getElem_fin, Vector.getElem_ofFn]
  split
  · split <;> rfl
  · rfl

theorem available_az (s : State) (n : Fin 16) (h : inMask s.alloc.avail n.val = false) : ((available s)[n]).az = (s.alloc.issued[n]).az := by
  simp [available, vmapI, h]

theorem sendAlloc_same (s : State) : SameBut [.host, .maint] s (sendAlloc s) := by
  unfold sendAlloc
  split
  · exact stream_same _ _ _ s
  · exact SameBut.refl _ s

/-- In a frame of allocation's the issue runs once, by 9.5 ms. -/
theorem setpointIssue_steps {s : State} (hm : s.sys.mode = .control ∨ s.sys.mode = .standby) (hfn : s.dpc.fn ≠ 0) (hrun : s.alloc.issuedAt ≠ some s.sys.frame)
    (ht : s.time.mt ≤ s.sys.frame * frameTicks + 950000) : Steps .setpointIssue s (sendAlloc (issue (issueFormed s))) := by
  have hsys : (stepAt 6500 s).sys = s.sys := stepAt_same _ _ .sys (by decide)
  have hdpc : (stepAt 6500 s).dpc = s.dpc := stepAt_same _ _ .dpc (by decide)
  have halloc : (stepAt 6500 s).alloc = s.alloc := stepAt_same _ _ .alloc (by decide)
  have hmt : (stepAt 6500 s).time.mt ≤ s.sys.frame * frameTicks + 950000 := stepAt_mt_le ht (by omega)
  have hwork : ∀ f, (frameWork ((stepAt 6500 s).onAlloc f) && ((stepAt 6500 s).onAlloc f).dpc.fn != 0) = true := fun f => by
    have hframe : frameWork ((stepAt 6500 s).onAlloc f) = true := frameWork_of_mode (by rwa [State.onAlloc_sys, hsys])
    have hne : (((stepAt 6500 s).onAlloc f).dpc.fn != 0) = true := by rw [State.onAlloc_dpc, hdpc]; simpa using hfn
    rw [hframe, hne]; rfl
  rw [Steps, exec_setpointIssue, if_neg (by rw [halloc, hsys]; simpa [hrun] using hmt)]
  dsimp only
  rw [if_pos (hwork _)]

theorem setpointIssue_steps_of_ran {s : State} (h : s.alloc.issuedAt = some s.sys.frame) : Steps .setpointIssue s (stepAt 6500 s) := by
  have hsys : (stepAt 6500 s).sys = s.sys := stepAt_same _ _ .sys (by decide)
  have halloc : (stepAt 6500 s).alloc = s.alloc := stepAt_same _ _ .alloc (by decide)
  rw [Steps, exec_setpointIssue, if_pos (by simp [halloc, hsys, h])]

theorem issueFormed_same (s : State) : SameBut [.time, .alloc, .solv, .free, .host, .maint, .ev, .dpc, .log] s (issueFormed s) :=
  ((SameBut.refl _ s).step (issueBank_same s) rfl).step (issueRest_same _) rfl

theorem issueFormed_fn (s : State) : (issueFormed s).dpc.fn = s.dpc.fn := by
  rw [issueFormed, issueRest_fn, show (issueBank s).dpc = s.dpc from issueBank_same s .dpc (by decide)]

/-- The frame's setpoints, the clamp and the slack. -/
theorem issueFormed_issued (s : State) : (issueFormed s).alloc.issuedAt = some s.sys.frame ∧ (issueFormed s).alloc.issued = (clampPower s (available s)).1 ∧
    (issueFormed s).alloc.clamp = (clampPower s (available s)).2.toList.any id ∧
    ∀ i : Fin 3, (issueFormed s).alloc.slack[i] = s.dpc.tau[i] - (forceOf s (clampPower s (available s)).1)[i] := by
  obtain ⟨hat, hissued, hclamp, hslack⟩ := slackOuter_issued (issueRest_alloc (issueBank s))
  obtain ⟨hat', hissued', hclamp', hslack'⟩ := issueClamped_issued (issueBank s)
  rw [clampPower_issueBank] at hissued' hclamp' hslack'
  have hdpc : (issueBank s).dpc = s.dpc := issueBank_same s .dpc (by decide)
  unfold issueFormed
  rw [hat, hat', hissued, hissued', hclamp, hclamp', hslack, hslack', issueBank_alloc]
  refine ⟨rfl, rfl, rfl, fun i => ?_⟩
  · rw [forceOf_congr (issueBank_same s .cfg (by decide)), hdpc]
    simp [vmapI]

theorem issueFormed_occurred {s : State} (hr : s.hp.ready = true) (he : s.alloc.entry ≠ 0xFE) :
    Occurred 59 (s.alloc.entry * 256 + b2n s.alloc.aged + 2 * b2n s.alloc.refined) s (issueFormed s) := by
  have hready : (issueBank s).hp.ready = true := by rw [show (issueBank s).hp = s.hp from issueBank_same s .hp (by decide), hr]
  have hocc := issueRest_occurred hready (by rw [issueBank_alloc]; exact he)
  rw [issueBank_alloc] at hocc
  exact hocc.after_events (issueBank_solverKept s).events (by decide)

end Sys2Proof.Machine
end

section
/-! The table of tickets: what the placing, charging and suspending of copies keep (8.4). -/

namespace Sys2Proof.Machine

/-- A ticket apart from its copies. -/
def bare (t : Ticket) : Ticket := { t with copies := [] }

/-- The table apart from the copies. -/
def bareTickets (s : State) : List Ticket := s.solv.tickets.map bare

theorem map_bare {f : Ticket → Ticket} (hf : ∀ t, bare (f t) = bare t) (l : List Ticket) : (l.map f).map bare = l.map bare := by
  simp [hf]

theorem charge_bareTickets (s : State) : bareTickets (charge s) = bareTickets s := by
  unfold charge bareTickets
  simp only [State.onSolv_solv]
  split
  · exact map_bare (fun t => by split <;> rfl) _
  · rfl

theorem claim_bareTickets (l : List Copy) (s : State) : bareTickets (claim l s) = bareTickets s := by
  unfold claim bareTickets
  exact map_bare (fun t => by split <;> rfl) _

theorem onTicket_bareTickets {f : Ticket → Ticket} (hf : ∀ t, bare (f t) = bare t) (id : Nat) (s : State) : bareTickets (onTicket id f s) = bareTickets s := by
  unfold onTicket bareTickets
  exact map_bare (fun t => by split; exacts [hf t, rfl]) _

theorem startTicket_bareTickets (t : Ticket) (s : State) : bareTickets (startTicket t s) = bareTickets s := by
  unfold startTicket
  extract_lets l s'
  have hs : bareTickets s' = bareTickets s := by
    simp only [s']
    split
    · rfl
    · exact claim_bareTickets l s
  split
  · rfl
  · exact (onTicket_bareTickets (f := fun t => { t with copies := l }) (fun _ => rfl) t.id s').trans hs

theorem serve_bareTickets (s : State) : bareTickets (serve s) = bareTickets s := by
  unfold serve
  generalize byClass _ = l
  induction l generalizing s with
  | nil => rfl
  | cons t l ih => exact (ih _).trans (startTicket_bareTickets t s)

/-- A pipeline problem that a condition names goes; every other ticket stays. -/
theorem cancelDp_bareTickets (p : Work → Bool) (s : State) :
    bareTickets (cancelDp p s) = (bareTickets s).filter fun t => t.work == .host || !p t.work := by
  have hfilter : ∀ l : List Ticket, (l.filter fun t => t.work == .host || !p t.work).map bare = (l.map bare).filter fun t => t.work == .host || !p t.work := fun l => by
    rw [List.filter_map]; rfl
  rw [cancelDp, serve_bareTickets, ← charge_bareTickets s]
  exact hfilter _

/-- A ticket of one table stands in another that is the same apart from the copies. -/
theorem exists_of_mem_bareTickets {t : State} {x : Ticket} (h : bare x ∈ bareTickets t) : ∃ y ∈ t.solv.tickets, y.id = x.id ∧ y.work = x.work := by
  obtain ⟨y, hy, hyx⟩ := List.mem_map.mp h
  exact ⟨y, hy, (congrArg Ticket.id hyx :), (congrArg Ticket.work hyx :)⟩

/-! HYPOTHESIS_BANK_DEADLINE. -/

/-- A problem of the bank. -/
def ofBank (w : Work) : Bool := match w with | .bank _ => true | _ => false

theorem exec_hypothesisBankDeadline (s : State) : exec .hypothesisBankDeadline s = .next (
    if frameWork (stepAt 9500 s) then cancelDp ofBank (stepAt 9500 s) else stepAt 9500 s) := rfl

theorem ofBank_iff (w : Work) : ofBank w = true ↔ ∃ e, w = .bank e := by
  cases w <;> simp [ofBank]

/-- Of the problems of the bank none is left, and every other one is. -/
theorem cancelDp_ofBank (s : State) : (∀ x ∈ (cancelDp ofBank s).solv.tickets, ∀ e, x.work ≠ .bank e) ∧
    ∀ x ∈ s.solv.tickets, (∀ e, x.work ≠ .bank e) → ∃ y ∈ (cancelDp ofBank s).solv.tickets, y.id = x.id ∧ y.work = x.work := by
  constructor
  · intro x hx e he
    have hmem : bare x ∈ bareTickets (cancelDp ofBank s) := List.mem_map_of_mem hx
    rw [cancelDp_bareTickets] at hmem
    have hkeep := (List.mem_filter.mp hmem).2
    simp [bare, he, ofBank] at hkeep
  · intro x hx he
    have hnot : ofBank x.work = false := by
      rw [Bool.eq_false_iff]
      exact fun h => by obtain ⟨e, h⟩ := (ofBank_iff _).mp h; exact he e h
    refine exists_of_mem_bareTickets ?_
    rw [cancelDp_bareTickets]
    exact List.mem_filter.mpr ⟨List.mem_map_of_mem hx, by simp [bare, hnot]⟩

theorem hypothesisBankDeadline_steps {s : State} (hm : s.sys.mode = .control ∨ s.sys.mode = .standby) :
    Steps .hypothesisBankDeadline s (cancelDp ofBank (stepAt 9500 s)) := by
  have hsys : (stepAt 9500 s).sys = s.sys := stepAt_same _ _ .sys (by decide)
  rw [Steps, exec_hypothesisBankDeadline, if_pos (frameWork_of_mode (by rwa [hsys]))]

end Sys2Proof.Machine
end

section
/-! The consequence analysis (10.5): its worst configuration, its problems' credits and its alarm. -/

namespace Sys2Proof.Machine

/-! The worst applicable configuration (R272). -/

/-- The worse of a pair so far and configuration k. -/
def worse (mask : Nat) (u : List Nat) (b : Nat × Nat) (k : Nat) : Nat × Nat :=
  if tb mask k && decide (b.2 < u.getD k 0) then (k, u.getD k 0) else b

/-- The worst of the configurations 1 to 20. -/
def worstOf (mask : Nat) (u : List Nat) : Nat × Nat := ((List.range 20).map (· + 1)).foldl (worse mask u) (0, 0)

theorem worse_le (mask : Nat) (u : List Nat) (b : Nat × Nat) (k : Nat) : b.2 ≤ (worse mask u b k).2 := by
  unfold worse
  split
  next h => simp only [Bool.and_eq_true, decide_eq_true_eq] at h; exact h.2.le
  next => exact le_rfl

theorem foldl_worse_le (mask : Nat) (u : List Nat) (l : List Nat) (b : Nat × Nat) : b.2 ≤ (l.foldl (worse mask u) b).2 := by
  induction l generalizing b with
  | nil => exact le_rfl
  | cons k l ih => exact (worse_le mask u b k).trans (ih _)

theorem le_foldl_worse (mask : Nat) (u : List Nat) {l : List Nat} {k : Nat} (hk : k ∈ l) (hm : tb mask k = true) (b : Nat × Nat) :
    u.getD k 0 ≤ (l.foldl (worse mask u) b).2 := by
  induction l generalizing b with
  | nil => simp at hk
  | cons x l ih =>
    rcases List.mem_cons.mp hk with rfl | hk
    · refine le_trans ?_ (foldl_worse_le mask u l _)
      unfold worse
      split
      next => exact le_rfl
      next h => simpa [hm] using h
    · exact ih hk _

/-- The worst is one of the configurations looked at, or the pair begun with. -/
theorem foldl_worse_cases (mask : Nat) (u : List Nat) (l : List Nat) (b : Nat × Nat) :
    l.foldl (worse mask u) b = b ∨ ∃ k ∈ l, tb mask k = true ∧ l.foldl (worse mask u) b = (k, u.getD k 0) := by
  induction l generalizing b with
  | nil => exact .inl rfl
  | cons x l ih =>
    rcases ih (worse mask u b x) with h | ⟨k, hk, hm, h⟩
    · by_cases hx : (tb mask x && decide (b.2 < u.getD x 0)) = true
      · refine .inr ⟨x, List.mem_cons_self, (Bool.and_eq_true_iff.mp hx).1, ?_⟩
        rw [List.foldl_cons, h, worse, if_pos hx]
      · rw [List.foldl_cons, h, worse, if_neg hx]
        exact .inl rfl
    · exact .inr ⟨k, List.mem_cons_of_mem _ hk, hm, h⟩

theorem mem_codes {k : Nat} : k ∈ (List.range 20).map (· + 1) ↔ 1 ≤ k ∧ k < 21 := by
  rw [List.mem_map]
  constructor
  · rintro ⟨i, hi, rfl⟩
    have := List.mem_range.mp hi
    omega
  · rintro ⟨h1, h2⟩
    exact ⟨k - 1, List.mem_range.mpr (by omega), by omega⟩

theorem le_worstOf (mask : Nat) (u : List Nat) {k : Nat} (h1 : 1 ≤ k) (h2 : k < 21) (hm : tb mask k = true) : u.getD k 0 ≤ (worstOf mask u).2 :=
  le_foldl_worse mask u (mem_codes.mpr ⟨h1, h2⟩) hm _

theorem worstOf_cases (mask : Nat) (u : List Nat) :
    worstOf mask u = (0, 0) ∨ ∃ k : Fin 21, 1 ≤ k.val ∧ tb mask k.val = true ∧ worstOf mask u = (k.val, u.getD k.val 0) := by
  rcases foldl_worse_cases mask u ((List.range 20).map (· + 1)) (0, 0) with h | ⟨k, hk, hm, h⟩
  · exact .inl h
  · obtain ⟨h1, h2⟩ := mem_codes.mp hk
    exact .inr ⟨⟨k, h2⟩, h1, hm, h⟩

/-! The problems of a cycle end. -/

/-- A cycle whose problems before number n have ended. -/
def caAt (n : Nat) (c : CaResult) : CaResult := { c with next := max n c.next }

/-- They are credited, and the next one takes a ticket: the solver, and the place of the cycle. -/
theorem caSolve_alloc (n : Nat) {s : State} {c : CaResult} (h : s.alloc.ca = some c) : (caSolve n s).alloc = { s.alloc with ca := some (caAt n c) } := by
  have hfold : ∀ (l : List Nat) (u : State), (l.foldl (fun s k => let t := caTicket s c ((caOrder c).getD k (0, 0)); creditDp t (runCopy t) s) u).alloc = u.alloc := fun l u =>
    SameBut.foldl (l := [.host, .maint, .ev, .solv, .log]) (fun w k => creditDp_same _ _ w) l (SameBut.refl _ u) .alloc (by decide)
  unfold caSolve
  rw [h]
  dsimp only
  rw [show (caNext _).alloc = _ from caNext_same _ .alloc (by decide), State.onAlloc_alloc, hfold, show (charge s).alloc = s.alloc from charge_same s .alloc (by decide)]
  rfl

theorem caSolve_solverKept (n : Nat) (s : State) : SolverKept s (caSolve n s) := by
  unfold caSolve
  split
  next c _ =>
    refine SolverKept.trans ?_ (caNext_solverKept _)
    refine SolverKept.trans ?_ (.onAlloc _ _)
    exact (charge_solverKept s).trans (.foldl (g := fun s k => let t := caTicket s c ((caOrder c).getD k (0, 0)); creditDp t (runCopy t) s)
      (fun w k => creditDp_solverKept _ _ w) _ _)
  next => exact .refl s

/-! CA_DIRECTION0_COMPLETE. -/

/-- The utilisations in direction 0. -/
def caUtil (s : State) (c : CaResult) : List Nat := (List.range 21).map fun k => util c.dxy (caLamOf s c (k, 0))

theorem caUtil_getD (s : State) (c : CaResult) {k : Nat} (hk : k < 21) : (caUtil s c).getD k 0 = util c.dxy (caLamOf s c (k, 0)) := by
  simp [caUtil, List.getD, hk]

/-- Cycles below the clearing figure. -/
def caClear (s : State) (u : Nat) : Nat := if u < fld (ccfg s 1) 15 0 * 10 then s.alloc.conseqClear + 1 else 0

/-- The cycle's evaluation is entered. -/
def caEntered (c : CaResult) (u : List Nat) (s : State) : State :=
  s.onAlloc fun a => { a with
    ca := some { c with dir0 := true, u := u }
    worst := (worstOf c.mask u).1, worstU := (worstOf c.mask u).2, conseqClear := caClear s (worstOf c.mask u).2, nomOver := fld (ccfg s 0) 31 16 * 10 < u.getD 0 0 }

/-- The alarm of R272 by the worst pair. -/
def caAlarm (best : Nat × Nat) (clear : Nat) (s : State) : State :=
  if s.alloc.conseq then
    if fld (ccfg s 1) 23 16 ≤ clear then raise 62 best.1 (s.onAlloc fun a => { a with conseq := false, conseqClear := 0 })
    else if bit (ccfg s 0) 0 && best.1 != 0 && best.1 != s.alloc.conseqCode then raise 62 (256 + best.1) (s.onAlloc fun a => { a with conseqCode := best.1 })
    else s
  else if bit (ccfg s 0) 0 && decide (fld (ccfg s 0) 31 16 * 10 < best.2) then
    raise 62 (256 + best.1) (s.onAlloc fun a => { a with conseq := true, conseqCode := best.1, conseqClear := 0 })
  else s

/-- The row after the problems of direction 0. -/
def caEvaluated (c : CaResult) (u : List Nat) (s : State) : State :=
  caAlarm (worstOf c.mask u) (caClear s (worstOf c.mask u).2) (caEntered c u s)

theorem caDirection0Complete_steps {s : State} {c : CaResult} (h : s.alloc.ca = some c) (hd : c.dir0 = false) :
    Steps .caDirection0Complete s (caEvaluated (caAt (caFirst c) c) (caUtil s c) (caSolve (caFirst c) s)) := by
  have harm : exec .caDirection0Complete s = execCaDirection0Complete s := rfl
  have hca : (caSolve (caFirst c) s).alloc.ca = some (caAt (caFirst c) c) := by rw [caSolve_alloc _ h]
  rw [Steps, harm]
  unfold execCaDirection0Complete
  rw [h]
  dsimp only
  rw [if_neg (by simp [hd]), hca]
  generalize caSolve _ s = w
  rfl

/-- Allocation apart from the alarm. -/
def alarmOuter (a : AllocState) : AllocState := { a with conseq := false, conseqCode := 0, conseqClear := 0 }

theorem caAlarm_outer (best : Nat × Nat) (clear : Nat) (s : State) : alarmOuter (caAlarm best clear s).alloc = alarmOuter s.alloc := by
  unfold caAlarm
  split
  · split
    · rw [raise_alloc]; rfl
    · split
      · rw [raise_alloc]; rfl
      · rfl
  · split
    · rw [raise_alloc]; rfl
    · rfl

theorem alarmOuter_worst {a b : AllocState} (h : alarmOuter b = alarmOuter a) : b.ca = a.ca ∧ b.worst = a.worst ∧ b.worstU = a.worstU ∧ b.nomOver = a.nomOver :=
  ⟨(congrArg AllocState.ca h :), (congrArg AllocState.worst h :), (congrArg AllocState.worstU h :), (congrArg AllocState.nomOver h :)⟩

/-- The evaluation, whatever becomes of the alarm. -/
theorem caEvaluated_worst (c : CaResult) (u : List Nat) (s : State) :
    (caEvaluated c u s).alloc.ca = some { c with dir0 := true, u := u } ∧ (caEvaluated c u s).alloc.worst = (worstOf c.mask u).1 ∧
    (caEvaluated c u s).alloc.worstU = (worstOf c.mask u).2 ∧ (caEvaluated c u s).alloc.nomOver = decide (fld (ccfg s 0) 31 16 * 10 < u.getD 0 0) :=
  alarmOuter_worst (caAlarm_outer _ _ (caEntered c u s))

section
variable {best : Nat × Nat} {clear : Nat} {s : State}

/-- An alarm off goes on above its limit, where it is enabled. -/
theorem caAlarm_on (hoff : s.alloc.conseq = false) (hen : bit (ccfg s 0) 0 = true) (hover : fld (ccfg s 0) 31 16 * 10 < best.2) :
    (caAlarm best clear s).alloc.conseq = true ∧ (s.hp.ready = true → Occurred 62 (256 + best.1) s (caAlarm best clear s)) := by
  have halarm : caAlarm best clear s = raise 62 (256 + best.1) (s.onAlloc fun a => { a with conseq := true, conseqCode := best.1, conseqClear := 0 }) := by
    rw [caAlarm, if_neg (by simp [hoff]), if_pos (by simp [hen, hover])]
  rw [halarm]
  exact ⟨by rw [raise_alloc]; rfl, fun hr => raise_occurred _ hr (by decide) rfl⟩

/-- It stays off below it. -/
theorem caAlarm_off (hoff : s.alloc.conseq = false) (hunder : best.2 ≤ fld (ccfg s 0) 31 16 * 10) : caAlarm best clear s = s := by
  rw [caAlarm, if_neg (by simp [hoff]), if_neg (by simp [hunder])]

/-- An alarm on goes off after its cycles below the clearing figure. -/
theorem caAlarm_cleared (hon : s.alloc.conseq = true) (hclear : fld (ccfg s 1) 23 16 ≤ clear) :
    (caAlarm best clear s).alloc.conseq = false ∧ (s.hp.ready = true → Occurred 62 best.1 s (caAlarm best clear s)) := by
  have halarm : caAlarm best clear s = raise 62 best.1 (s.onAlloc fun a => { a with conseq := false, conseqClear := 0 }) := by
    rw [caAlarm, if_pos hon, if_pos hclear]
  rw [halarm]
  exact ⟨by rw [raise_alloc]; rfl, fun hr => raise_occurred _ hr (by decide) rfl⟩

end

/-! CA_CYCLE_COMPLETE. -/

/-- λ of every configuration and direction. -/
def caLams (s : State) (c : CaResult) : List Nat := (List.range 21).flatMap fun k => (List.range 72).map fun j => caLamOf s c (k, j)

/-- Does a cycle that ends now take longer than CA_PERIOD? -/
def caLate (c : CaResult) (s : State) : Bool := decide ((ccfg s 2).toNat * msTicks < s.time.mt - c.start)

/-- The cycle is over. -/
def caOver (c : CaResult) (lam : List Nat) (s : State) : State :=
  s.onAlloc fun a => { a with ca := none, caDone := some { c with lam := lam, period := (s.time.mt - c.start) / msTicks }, caSlow := caLate c s }

/-- CA_PERIOD is raised or cleared where that changes (R273). -/
def caPeriod (was slow : Bool) (s : State) : State := if slow && !was then raise 63 256 s else if !slow && was then raise 63 0 s else s

theorem caCycleComplete_steps {s : State} {c : CaResult} (h : s.alloc.ca = some c) (hd : c.dir0 = true) :
    Steps .caCycleComplete s (let u := caSolve (caOrder c).length s; caPeriod u.alloc.caSlow (caLate c u) (caOver c (caLams s c) u)) := by
  have harm : exec .caCycleComplete s = execCaCycleComplete s := rfl
  rw [Steps, harm]
  unfold execCaCycleComplete
  rw [h]
  dsimp only
  rw [if_neg (by simp [hd])]
  generalize caSolve _ s = w
  rfl

theorem caPeriod_alloc (was slow : Bool) (s : State) : (caPeriod was slow s).alloc = s.alloc := by
  unfold caPeriod
  split
  · exact raise_alloc _ _ s
  · split
    · exact raise_alloc _ _ s
    · rfl

end Sys2Proof.Machine
end

section
/-! The rows of allocation, each with what its statement asks. -/

namespace Sys2Proof.Machine

section
variable {p : Port} {c : Cmd} {n : Fin 16} {s : State}

theorem taken_hp (p : Port) (s : State) : (taken p s).hp = s.hp := taken_same p s .hp (by decide)
theorem taken_ev (p : Port) (s : State) : (taken p s).ev = s.ev := taken_same p s .ev (by decide)
theorem taken_cfg (p : Port) (s : State) : (taken p s).cfg = s.cfg := taken_same p s .cfg (by decide)
theorem taken_alloc (p : Port) (s : State) : (taken p s).alloc = s.alloc := taken_same p s .alloc (by decide)
theorem taken_dpc (p : Port) (s : State) : (taken p s).dpc = s.dpc := taken_same p s .dpc (by decide)
theorem taken_solv (p : Port) (s : State) : (taken p s).solv = s.solv := taken_same p s .solv (by decide)
theorem taken_sys (p : Port) (s : State) : (taken p s).sys = s.sys := taken_same p s .sys (by decide)
theorem taken_time (p : Port) (s : State) : (taken p s).time = s.time := taken_same p s .time (by decide)

theorem thrSet_taken (p : Port) (s : State) (n : Nat) : thrSet (taken p s) n = thrSet s n := by rw [thrSet, taken_cfg, thrSet]

/-- Whether a cause bars a return is not read from the ports. -/
theorem bars_taken (p : Port) (s : State) (n : Fin 16) (k : Nat) : bars (taken p s) n k = bars s n k := by
  cases p <;> rfl

theorem Occurred.of_taken {k : Fin 128} {d : Nat} {t : State} (h : Occurred k d (taken p s) t) : Occurred k d s t := by
  simpa only [Occurred, taken_ev] using h

/-! ALLOC_THRUSTER_ENABLE. -/

theorem thrusterEnable_takesOut (h : Heard p c s) (ho : c.op = .allocThrusterEnable) (hn : fld (wd c.words 0) 3 0 = n.val) (hset : thrSet s n.val = true)
    (hbit : bit (wd c.words 0) 8 = false) : ∃ t, Steps (.allocThrusterEnable p) s t ∧ Replied p c 0 0 0 [] t ∧
      (t.alloc.thr[n]).causes = (s.alloc.thr[n]).causes ||| 32 ∧ (∀ m : Fin 16, m ≠ n → t.alloc.thr[m] = s.alloc.thr[m]) ∧
      (s.hp.ready = true → thrConfigured s n.val = true → tb (s.alloc.thr[n]).causes 5 = false → Occurred 56 (n.val * 256 + 5) s t) := by
  have hbody : thrusterEnableBody p c (taken p s) = ok p c 0 [] (detectCause n.val 5 (taken p s)) := by
    simp [thrusterEnableBody, thrOf_eq hn, thrSet_taken, hset, hbit]
  have hsteps := steps_of_heard (exec_allocThrusterEnable p s) h ho
  rw [hbody] at hsteps
  have hun : Unanswered p c (detectCause n.val 5 (taken p s)) := h.taken.of_outstanding (detectCause_outstanding n 5 _ p)
  refine ⟨_, hsteps, ok_replied hun 0 [], ?_, fun m hm => ?_, fun hr hc hcause => ?_⟩
  · rw [ok_alloc, detectCause_causes, taken_alloc]
    rfl
  · rw [ok_alloc, detectCause_other n 5 _ hm, taken_alloc]
  · refine Occurred.of_ev (Occurred.of_taken (detectCause_occurred n 5 (taken p s) ?_ ?_ ?_)) (ok_ev _ _ _ _ _)
    · rw [taken_hp, hr]
    · rw [thrConfigured_congr (taken_cfg p s), hc]
    · rw [taken_alloc, hcause]

theorem thrusterEnable_clears (h : Heard p c s) (ho : c.op = .allocThrusterEnable) (hn : fld (wd c.words 0) 3 0 = n.val) (hset : thrSet s n.val = true)
    (hbit : bit (wd c.words 0) 8 = true) (hbars : ∀ k : Nat, 2 ≤ k → k ≤ 4 → bars s n k = false) :
    ∃ t, Steps (.allocThrusterEnable p) s t ∧ Replied p c 0 0 0 [] t ∧ SameBut [.host, .maint, .sys, .alloc] s t ∧
      t.alloc = { s.alloc with thr := s.alloc.thr.set n { s.alloc.thr[n] with causes := 0, absent := none } } := by
  have hany : ([2, 3, 4] : List Nat).any (bars (taken p s) n) = false := by
    rw [Bool.eq_false_iff, ne_eq, any_bars_iff]
    rintro ⟨k, h2, h4, hk⟩
    rw [bars_taken, hbars k h2 h4] at hk
    exact absurd hk (by decide)
  have hbody : thrusterEnableBody p c (taken p s) =
      ok p c 0 [] ((taken p s).onAlloc fun a => { a with thr := upd a.thr n fun x => { x with causes := 0, absent := none } }) := by
    simp only [thrusterEnableBody, thrOf_eq hn, thrSet_taken, hset, hbit, hany]
    rfl
  have hsteps := steps_of_heard (exec_allocThrusterEnable p s) h ho
  rw [hbody] at hsteps
  have hun : Unanswered p c ((taken p s).onAlloc fun a => { a with thr := upd a.thr n fun x => { x with causes := 0, absent := none } }) := h.taken.of_outstanding rfl
  refine ⟨_, hsteps, ok_replied hun 0 [], ?_, ?_⟩
  · exact (((SameBut.refl _ s).step (taken_same p s) rfl).onAlloc _ rfl).step (ok_same _ _ _ _ _) rfl
  · rw [ok_alloc, State.onAlloc_alloc, taken_alloc]
    rfl

theorem thrusterEnable_refused (h : Heard p c s) (ho : c.op = .allocThrusterEnable) (hn : fld (wd c.words 0) 3 0 = n.val) (hset : thrSet s n.val = true)
    (hbit : bit (wd c.words 0) 8 = true) {k : Nat} (h2 : 2 ≤ k) (h4 : k ≤ 4) (hbars : bars s n k = true) :
    ∃ t, Steps (.allocThrusterEnable p) s t ∧ AnswersOnly p c 3 0x6012 ((s.alloc.thr[n]).causes % 64) [] s t := by
  have hany : ([2, 3, 4] : List Nat).any (bars (taken p s) n) = true := (any_bars_iff _ _).mpr ⟨k, h2, h4, by rw [bars_taken, hbars]⟩
  have hbody : thrusterEnableBody p c (taken p s) = reject p c 0x6012 ((s.alloc.thr[n]).causes % 64) (taken p s) := by
    simp only [thrusterEnableBody, thrOf_eq hn, thrSet_taken, hset, hbit, hany, taken_alloc]
    rfl
  have hsteps := steps_of_heard (exec_allocThrusterEnable p s) h ho
  rw [hbody] at hsteps
  exact ⟨_, hsteps, reject_answersOnly h _ _⟩

theorem thrusterEnable_unset (h : Heard p c s) (ho : c.op = .allocThrusterEnable) (hn : fld (wd c.words 0) 3 0 = n.val) (hset : thrSet s n.val = false) :
    ∃ t, Steps (.allocThrusterEnable p) s t ∧ AnswersOnly p c 3 0x6011 n.val [] s t := by
  have hbody : thrusterEnableBody p c (taken p s) = reject p c 0x6011 n.val (taken p s) := by
    simp only [thrusterEnableBody, thrOf_eq hn, thrSet_taken, hset]
    rfl
  have hsteps := steps_of_heard (exec_allocThrusterEnable p s) h ho
  rw [hbody] at hsteps
  exact ⟨_, hsteps, reject_answersOnly h _ _⟩

end

/-! SPECULATION_CHECK. -/

/-- What the problem's submission and the prediction keep of allocation. -/
theorem checkOuter_kept {a b : AllocState} (h : checkOuter b = checkOuter a) : b.checked = a.checked ∧ b.sol = a.sol ∧ b.nSwitch = a.nSwitch ∧
    b.hit = a.hit ∧ b.squash = a.squash ∧ b.nSquash = a.nSquash ∧ b.entry = a.entry ∧ b.aged = a.aged ∧ b.committed = a.committed :=
  ⟨(congrArg AllocState.checked h :), (congrArg AllocState.sol h :), (congrArg AllocState.nSwitch h :), (congrArg AllocState.hit h :),
    (congrArg AllocState.squash h :), (congrArg AllocState.nSquash h :), (congrArg AllocState.entry h :), (congrArg AllocState.aged h :),
    (congrArg AllocState.committed h :)⟩

section
variable {s : State} (hm : s.sys.mode = .control ∨ s.sys.mode = .standby) (hfn : s.dpc.fn ≠ 0) (hrun : s.alloc.checked ≠ some s.sys.frame)
include hm hfn hrun

theorem speculationCheck_checks (hlost : s.alloc.lost = 0 ∨ s.alloc.firstFrame = true) :
    ∃ t, Steps .speculationCheck s t ∧ t.alloc.checked = some s.sys.frame ∧ t.alloc.sol = s.alloc.sol ∧ t.alloc.firstFrame = false ∧ t.alloc.cfgChanged = false ∧
      t.alloc.nSwitch = s.alloc.nSwitch ∧ t.alloc.hit = (if squashReason s = 0 then true else s.alloc.hit) ∧ t.alloc.squash = (if squashReason s = 0 then s.alloc.squash else squashReason s) ∧
      t.alloc.nSquash = (if squashReason s = 0 then s.alloc.nSquash else inc32 s.alloc.nSquash) := by
  have hfail : (s.alloc.lost != 0 && !s.alloc.firstFrame) = false := by rcases hlost with h | h <;> simp [h]
  have hsteps : Steps .speculationCheck s (speculationDone none (checkEntry (speculationLin s))) := by
    simpa [hfail] using speculationCheck_steps hm hfn hrun
  obtain ⟨l, hlin⟩ := speculationLin_alloc s
  obtain ⟨q, hcheck⟩ := checkEntry_alloc (speculationLin s)
  have hflags := speculationDone_flags none (checkEntry (speculationLin s))
  have houter := speculationDone_alloc none (checkEntry (speculationLin s))
  rw [squashReason_lin, hlin] at hcheck
  rw [hcheck] at houter
  generalize speculationDone none (checkEntry (speculationLin s)) = t at hsteps hflags houter
  obtain ⟨hchecked, hsol, hswitch, hhit, hsquash, hnSquash, -⟩ := checkOuter_kept houter
  exact ⟨t, hsteps, hchecked, hsol, hflags.1, hflags.2, hswitch, hhit, hsquash, hnSquash⟩

theorem speculationCheck_commits (hlost : s.alloc.lost ≠ 0) (hfirst : s.alloc.firstFrame = false) :
    ∃ t, Steps .speculationCheck s t ∧ t.alloc.checked = some s.sys.frame ∧ t.alloc.sol = (selectEntry s).2.2 ∧ t.alloc.entry = (selectEntry s).1 ∧ t.alloc.aged = (selectEntry s).2.1 ∧
      t.alloc.committed = true ∧ t.alloc.nSwitch = inc32 s.alloc.nSwitch ∧ t.alloc.nSquash = s.alloc.nSquash := by
  have hfail : (s.alloc.lost != 0 && !s.alloc.firstFrame) = true := by simp [hlost, hfirst]
  have hsteps : Steps .speculationCheck s (speculationDone (some (commitEntry (speculationLin s)).alloc.entry) (commitEntry (speculationLin s))) := by
    simpa [hfail] using speculationCheck_steps hm hfn hrun
  obtain ⟨l, hlin⟩ := speculationLin_alloc s
  have hcommit : (commitEntry (speculationLin s)).alloc = { s.alloc with
      checked := some s.sys.frame, lin := l, sol := (selectEntry s).2.2, committed := true, entry := (selectEntry s).1, aged := (selectEntry s).2.1, nSwitch := inc32 s.alloc.nSwitch } := by
    rw [commitEntry, selectEntry_lin, State.onAlloc_alloc, hlin]
  have houter := speculationDone_alloc (some (commitEntry (speculationLin s)).alloc.entry) (commitEntry (speculationLin s))
  generalize speculationDone (some (commitEntry (speculationLin s)).alloc.entry) (commitEntry (speculationLin s)) = t at hsteps houter
  rw [hcommit] at houter
  obtain ⟨hchecked, hsol, hswitch, -, -, hnSquash, hentry, haged, hcommitted⟩ := checkOuter_kept houter
  exact ⟨t, hsteps, hchecked, hsol, hentry, haged, hcommitted, hswitch, hnSquash⟩

end

end Sys2Proof.Machine
end

section
namespace Sys2Proof.Machine

/-! SETPOINT_ISSUE. -/

section
variable {s : State} (hm : s.sys.mode = .control ∨ s.sys.mode = .standby)
include hm

theorem issueFormed_mode : (issueFormed s).sys.mode = .control ∨ (issueFormed s).sys.mode = .standby := by
  rwa [show (issueFormed s).sys = s.sys from issueFormed_same s .sys (by decide)]

theorem setpointIssue_issues (hfn : s.dpc.fn ≠ 0) (hrun : s.alloc.issuedAt ≠ some s.sys.frame) (ht : s.time.mt ≤ s.sys.frame * frameTicks + 950000) :
    ∃ t, Steps .setpointIssue s t ∧ t.alloc.issuedAt = some s.sys.frame ∧ t.alloc.issued = (clampPower s (available s)).1 ∧ t.alloc.clamp = (clampPower s (available s)).2.toList.any id ∧
      (∀ n : Fin 16, inMask s.alloc.avail n.val = false → (t.alloc.issued[n]).az = (s.alloc.issued[n]).az) ∧
      (∀ i : Fin 3, t.alloc.slack[i] = s.dpc.tau[i] - (forceOf s t.alloc.issued)[i]) ∧
      (s.alloc.entry ≠ 0xFE → s.hp.ready = true → Occurred 59 (s.alloc.entry * 256 + b2n s.alloc.aged + 2 * b2n s.alloc.refined) s t) ∧
      (s.sys.own = false → t.loop = s.loop ∧ t.can = s.can) ∧
      (s.sys.mode = .control → s.sys.own = true → s.sys.release = false → s.sys.outputsHeld = false → ∀ n : Fin 16, bound s n.val = true → bindCan s n.val < 6 →
        t.loop.canCounter[n] = (s.loop.canCounter[n] + 1) % 256) := by
  have hfn' : (issueFormed s).dpc.fn ≠ 0 := by rwa [issueFormed_fn]
  have hsame := issueFormed_same s
  have hsys : (issueFormed s).sys = s.sys := hsame .sys (by decide)
  have hcfg : (issueFormed s).cfg = s.cfg := hsame .cfg (by decide)
  have hloop : (issueFormed s).loop = s.loop := hsame .loop (by decide)
  have hsend : SameBut [.host, .maint] (issue (issueFormed s)) (sendAlloc (issue (issueFormed s))) := sendAlloc_same _
  have halloc : (sendAlloc (issue (issueFormed s))).alloc = (issueFormed s).alloc := (hsend .alloc (by decide)).trans (issue_same _ .alloc (by decide))
  have hsendLoop : (sendAlloc (issue (issueFormed s))).loop = (issue (issueFormed s)).loop := hsend .loop (by decide)
  obtain ⟨hat, hissued, hclamp, hslack⟩ := issueFormed_issued s
  refine ⟨_, setpointIssue_steps hm hfn hrun ht, ?_, ?_, ?_, fun n hn => ?_, fun i => ?_, fun he hr => ?_, fun hown => ?_, fun hctl hown hrel hheld n hb hc => ?_⟩
  · rw [halloc, hat]
  · rw [halloc, hissued]
  · rw [halloc, hclamp]
  · rw [halloc, hissued, clampPower_az, available_az s n hn]
  · rw [halloc, hissued, hslack]
  · exact ((issueFormed_occurred hr he).of_events (issue_events (issueFormed_mode hm) hfn') (by decide)).of_ev (hsend .ev (by decide))
  · have hissue : issue (issueFormed s) = issueFormed s := issue_of_not_owned (by rw [hsys, hown])
    rw [hissue] at hsend
    rw [hissue]
    exact ⟨(hsend .loop (by decide)).trans hloop, (hsend .can (by decide)).trans (hsame .can (by decide))⟩
  · rw [hsendLoop, issue_canCounter (by rw [hsys, hctl]) hfn' (by rw [hsys, hown]) (by rw [hsys, hrel]) (by rw [hsys, hheld]) (by rw [bound_congr hcfg, hb])
      (by rw [bindCan_congr hcfg]; exact hc), hloop]

theorem hypothesisBankDeadline_ends : ∃ t, Steps .hypothesisBankDeadline s t ∧ SameBut [.time, .solv, .free] s t ∧
    (∀ x ∈ t.solv.tickets, ∀ e, x.work ≠ .bank e) ∧ (∀ x ∈ s.solv.tickets, (∀ e, x.work ≠ .bank e) → ∃ y ∈ t.solv.tickets, y.id = x.id ∧ y.work = x.work) := by
  have hsolv : (stepAt 9500 s).solv = s.solv := stepAt_same _ _ .solv (by decide)
  obtain ⟨hnone, hall⟩ := cancelDp_ofBank (stepAt 9500 s)
  refine ⟨_, hypothesisBankDeadline_steps hm, ((SameBut.refl _ s).step (stepAt_same 9500 s) rfl).step (cancelDp_same _ _) rfl, hnone, ?_⟩
  rwa [hsolv] at hall

end

/-! The consequence analysis. -/

theorem caSolve_hp (n : Nat) (s : State) : (caSolve n s).hp = s.hp := caSolve_same n s .hp (by decide)

theorem caSolve_ccfg (n : Nat) (s : State) : ccfg (caSolve n s) = ccfg s := ccfg_congr (caSolve_same n s .cfg (by decide))

theorem caEntered_events (c : CaResult) (u : List Nat) (s : State) (k : Fin 128) : (caEntered c u s).ev.src[k] = s.ev.src[k] := rfl

theorem caDirection0_evaluates {r : CaResult} {s : State} (h : s.alloc.ca = some r) (hd : r.dir0 = false) :
    ∃ t, Steps .caDirection0Complete s t ∧
      t.alloc.ca = some { r with next := max (caFirst r) r.next, dir0 := true, u := (List.range 21).map fun k => util r.dxy (caLamOf s r (k, 0)) } ∧
      (∀ k : Fin 21, 1 ≤ k.val → tb r.mask k.val = true → util r.dxy (caLamOf s r (k.val, 0)) ≤ t.alloc.worstU) ∧
      ((t.alloc.worst = 0 ∧ t.alloc.worstU = 0) ∨ ∃ k : Fin 21, 1 ≤ k.val ∧ t.alloc.worst = k.val ∧ tb r.mask k.val = true ∧ t.alloc.worstU = util r.dxy (caLamOf s r (k.val, 0))) ∧
      t.alloc.nomOver = decide (fld (ccfg s 0) 31 16 * 10 < util r.dxy (caLamOf s r (0, 0))) ∧
      (s.alloc.conseq = false → bit (ccfg s 0) 0 = true → fld (ccfg s 0) 31 16 * 10 < t.alloc.worstU → t.alloc.conseq = true ∧ (s.hp.ready = true → Occurred 62 (256 + t.alloc.worst) s t)) ∧
      (s.alloc.conseq = false → t.alloc.worstU ≤ fld (ccfg s 0) 31 16 * 10 → t.alloc.conseq = false ∧ t.ev.src[62] = s.ev.src[62]) ∧
      (s.alloc.conseq = true → t.alloc.worstU < fld (ccfg s 1) 15 0 * 10 → fld (ccfg s 1) 23 16 ≤ s.alloc.conseqClear + 1 →
        t.alloc.conseq = false ∧ (s.hp.ready = true → Occurred 62 t.alloc.worst s t)) := by
  have hsteps := caDirection0Complete_steps h hd
  have hevents := (caSolve_solverKept (caFirst r) s).events
  have halloc := caSolve_alloc (caFirst r) h
  have hcfg := caSolve_ccfg (caFirst r) s
  have hhp := caSolve_hp (caFirst r) s
  generalize caSolve (caFirst r) s = w at hsteps hevents halloc hcfg hhp
  obtain ⟨hca, hworst, hworstU, hnom⟩ := caEvaluated_worst (caAt (caFirst r) r) (caUtil s r) w
  have hmask : (caAt (caFirst r) r).mask = r.mask := rfl
  have hconseq : (caEntered (caAt (caFirst r) r) (caUtil s r) w).alloc.conseq = s.alloc.conseq := by rw [caEntered, State.onAlloc_alloc, halloc]
  have hready : (caEntered (caAt (caFirst r) r) (caUtil s r) w).hp = s.hp := by rw [caEntered, State.onAlloc_hp, hhp]
  have hlim : ccfg (caEntered (caAt (caFirst r) r) (caUtil s r) w) = ccfg s := by rw [← hcfg]; rfl
  have hbefore : EventsBut solverEvents s (caEntered (caAt (caFirst r) r) (caUtil s r) w) := hevents
  rw [hmask] at hworst hworstU
  refine ⟨_, hsteps, hca, fun k hk hm => ?_, ?_, ?_, fun hoff hen hover => ?_, fun hoff hunder => ?_, fun hon hunder hcycles => ?_⟩
  · rw [hworstU, ← caUtil_getD s r k.isLt]
    exact le_worstOf r.mask (caUtil s r) hk k.isLt hm
  · rw [hworst, hworstU]
    rcases worstOf_cases r.mask (caUtil s r) with hnone | ⟨k, hk, hm, hbest⟩
    · rw [hnone]
      exact .inl ⟨rfl, rfl⟩
    · rw [hbest]
      exact .inr ⟨k, hk, rfl, hm, caUtil_getD s r k.isLt⟩
  · rw [hnom, hcfg, caUtil_getD s r (by decide)]
  · rw [hworstU] at hover
    have halarm := caAlarm_on (best := worstOf r.mask (caUtil s r)) (clear := caClear w (worstOf r.mask (caUtil s r)).2)
      (s := caEntered (caAt (caFirst r) r) (caUtil s r) w) (by rw [hconseq, hoff]) (by rw [hlim, hen]) (by rw [hlim]; exact hover)
    rw [hworst]
    exact ⟨halarm.1, fun hr => (halarm.2 (by rw [hready, hr])).after_events hbefore (by decide)⟩
  · rw [hworstU] at hunder
    have halarm := caAlarm_off (best := worstOf r.mask (caUtil s r)) (clear := caClear w (worstOf r.mask (caUtil s r)).2)
      (s := caEntered (caAt (caFirst r) r) (caUtil s r) w) (by rw [hconseq, hoff]) (by rw [hlim]; exact hunder)
    rw [caEvaluated, hmask, halarm]
    exact ⟨hconseq.trans hoff, hbefore 62 (by decide)⟩
  · rw [hworstU] at hunder
    have hclear : caClear w (worstOf r.mask (caUtil s r)).2 = s.alloc.conseqClear + 1 := by
      rw [caClear, hcfg, if_pos hunder, halloc]
    have halarm := caAlarm_cleared (best := worstOf r.mask (caUtil s r)) (clear := caClear w (worstOf r.mask (caUtil s r)).2)
      (s := caEntered (caAt (caFirst r) r) (caUtil s r) w) (by rw [hconseq, hon]) (by rw [hlim, hclear]; exact hcycles)
    rw [hworst]
    exact ⟨halarm.1, fun hr => (halarm.2 (by rw [hready, hr])).after_events hbefore (by decide)⟩

theorem caCycle_ends {r : CaResult} {s : State} (h : s.alloc.ca = some r) (hd : r.dir0 = true) :
    ∃ t, Steps .caCycleComplete s t ∧ t.alloc.ca = none ∧ t.alloc.caDone = some { r with
        lam := (List.range 21).flatMap fun k => (List.range 72).map fun j => caLamOf s r (k, j), period := (s.time.mt - r.start) / msTicks } ∧
      t.alloc.caSlow = decide ((ccfg s 2).toNat * msTicks < s.time.mt - r.start) ∧
      (s.hp.ready = true → t.alloc.caSlow = true → s.alloc.caSlow = false → Occurred 63 256 s t) ∧ (s.hp.ready = true → t.alloc.caSlow = false → s.alloc.caSlow = true → Occurred 63 0 s t) ∧
      (t.alloc.caSlow = s.alloc.caSlow → t.ev.src[63] = s.ev.src[63]) := by
  have hsteps := caCycleComplete_steps h hd
  have hevents := (caSolve_solverKept (caOrder r).length s).events
  have halloc := caSolve_alloc (caOrder r).length h
  have hcfg := caSolve_ccfg (caOrder r).length s
  have hhp := caSolve_hp (caOrder r).length s
  have htime : (caSolve (caOrder r).length s).time = s.time := caSolve_same _ s .time (by decide)
  dsimp only at hsteps
  generalize caSolve (caOrder r).length s = w at hsteps hevents halloc hcfg hhp htime
  have hslow : w.alloc.caSlow = s.alloc.caSlow := by rw [halloc]
  have hlate : caLate r w = caLate r s := by rw [caLate, caLate, hcfg, htime]
  have hover : (caPeriod w.alloc.caSlow (caLate r w) (caOver r (caLams s r) w)).alloc.caSlow = caLate r s := by rw [caPeriod_alloc, ← hlate]; rfl
  have hbefore : EventsBut solverEvents s (caOver r (caLams s r) w) := hevents
  refine ⟨_, hsteps, ?_, ?_, hover, fun hr ht hs => ?_, fun hr ht hs => ?_, fun hst => ?_⟩
  · rw [caPeriod_alloc]; rfl
  · rw [caPeriod_alloc, caOver, State.onAlloc_alloc, htime]; rfl
  · rw [hover] at ht
    rw [hslow, hlate, ht, hs]
    exact (raise_occurs 256 (s := caOver r (caLams s r) w) (by rw [caOver, State.onAlloc_hp, hhp, hr]) (by decide)).after_events hbefore (by decide)
  · rw [hover] at ht
    rw [hslow, hlate, ht, hs]
    exact (raise_occurs 0 (s := caOver r (caLams s r) w) (by rw [caOver, State.onAlloc_hp, hhp, hr]) (by decide)).after_events hbefore (by decide)
  · rw [hover] at hst
    have hquiet : caPeriod w.alloc.caSlow (caLate r w) (caOver r (caLams s r) w) = caOver r (caLams s r) w := by
      rw [hslow, hlate, hst, caPeriod, if_neg (by simp), if_neg (by simp)]
    rw [hquiet]
    exact hbefore 63 (by decide)

/-! The slack alarm (R261). -/

/-- The axes above the alarm figure for ten frames. -/
def slackAxes (s : State) : Nat := maskOf (vmap s.alloc.slackRun fun n => decide (10 ≤ n))

theorem exec_allocSlackAlarm (s : State) : exec .allocSlackAlarm s = .next (
    if s.alloc.slackOn = 0 then (if slackAxes s = 0 then s else raise 60 (256 + slackAxes s) (s.onAlloc fun a => { a with slackOn := slackAxes s }))
    else if 100 ≤ s.alloc.slackClear then raise 60 s.alloc.slackOn (s.onAlloc fun a => { a with slackOn := 0 })
    else s) := rfl

/-! Detections and returns (Table 10-7). -/

theorem exec_notreadyDetect (n : Fin 16) (s : State) : exec (.notreadyDetect n) s = .next (
    if thrConfigured s n.val && (bit (thrW s n.val 10) 5 || (s.alloc.thr[n]).notReady) then detectCause n.val 2 s else s) := rfl

/-- The time at which the feedback of a thruster has been absent long enough. -/
def feedbackDue (n : Fin 16) (s : State) : State :=
  match (s.alloc.thr[n]).fbMt with
  | some m => advanceTo (m + fbTimeoutMs s n.val * msTicks) s
  | none => s

theorem exec_feedbackTimeout (n : Fin 16) (s : State) : exec (.feedbackTimeout n) s = .next (
    if !thrConfigured s n.val || !bound s n.val || !((fbSrcs s n.val).any fun c => c != 0xFF) || fbNow s n.val then s else detectCause n.val 3 (feedbackDue n s)) := rfl

theorem feedbackDue_same (n : Fin 16) (s : State) : SameBut [.time] s (feedbackDue n s) := by
  unfold feedbackDue
  split
  · exact advanceTo_same _ s
  · exact SameBut.refl _ s

theorem feedbackTimeout_detects {n : Fin 16} {s : State} (hc : thrConfigured s n.val = true) (hb : bound s n.val = true)
    (hsrc : ((fbSrcs s n.val).any fun c => c != 0xFF) = true) (hnow : fbNow s n.val = false) :
    ∃ t, Steps (.feedbackTimeout n) s t ∧ (t.alloc.thr[n]).causes = (s.alloc.thr[n]).causes ||| 8 ∧ (∀ m : Fin 16, m ≠ n → t.alloc.thr[m] = s.alloc.thr[m]) ∧
      (s.hp.ready = true → tb (s.alloc.thr[n]).causes 3 = false → Occurred 56 (n.val * 256 + 3) s t) := by
  have hsame := feedbackDue_same n s
  have halloc : (feedbackDue n s).alloc = s.alloc := hsame .alloc (by decide)
  have hsteps : Steps (.feedbackTimeout n) s (detectCause n.val 3 (feedbackDue n s)) := by
    rw [Steps, exec_feedbackTimeout, if_neg (by rw [hc, hb, hsrc, hnow]; decide)]
  refine ⟨_, hsteps, ?_, fun m hm => ?_, fun hr hcause => ?_⟩
  · rw [detectCause_causes, halloc]
    rfl
  · rw [detectCause_other n 3 _ hm, halloc]
  · refine Occurred.after_events (detectCause_occurred n 3 _ ?_ ?_ ?_) (EventsBut.of_same (l := []) hsame (by decide)) (by decide)
    · rw [show (feedbackDue n s).hp = s.hp from hsame .hp (by decide), hr]
    · rw [thrConfigured_congr (hsame .cfg (by decide)), hc]
    · rw [halloc, hcause]

theorem notreadyDetect_detects {n : Fin 16} {s : State} (hc : thrConfigured s n.val = true) (hnot : (s.alloc.thr[n]).notReady = true) :
    ∃ t, Steps (.notreadyDetect n) s t ∧ (t.alloc.thr[n]).causes = (s.alloc.thr[n]).causes ||| 4 ∧ (∀ m : Fin 16, m ≠ n → t.alloc.thr[m] = s.alloc.thr[m]) ∧
      (s.hp.ready = true → tb (s.alloc.thr[n]).causes 2 = false → Occurred 56 (n.val * 256 + 2) s t) ∧ (tb (s.alloc.thr[n]).causes 2 = true → t.ev = s.ev) := by
  have hsteps : Steps (.notreadyDetect n) s (detectCause n.val 2 s) := by
    rw [Steps, exec_notreadyDetect, if_pos (by rw [hc, hnot]; simp)]
  exact ⟨_, hsteps, detectCause_causes n 2 s, fun m hm => detectCause_other n 2 s hm, fun hr hcause => detectCause_occurred n 2 s hr hc hcause,
    detectCause_ev_of_had n 2 s⟩

theorem returnTimer_clears {n : Fin 16} {s : State} (hauto : autoReturn s = true) (hnot : (s.alloc.thr[n]).notReady = false) :
    ∃ t, Steps (.thrusterReturnTimer n) s t ∧ SameBut [.time, .alloc] s t ∧ (∀ m : Fin 16, m ≠ n → t.alloc.thr[m] = s.alloc.thr[m]) ∧ tb (t.alloc.thr[n]).causes 2 = false ∧
      tb (t.alloc.thr[n]).causes 1 = tb (s.alloc.thr[n]).causes 1 ∧ tb (t.alloc.thr[n]).causes 5 = tb (s.alloc.thr[n]).causes 5 := by
  have hsame := returnDue_same n s
  have halloc : (returnDue n s).alloc = s.alloc := hsame .alloc (by decide)
  have hsteps : Steps (.thrusterReturnTimer n) s (clearReturned n (returnDue n s)) := by
    have hauto' : autoReturn (returnDue n s) = true := by rw [autoReturn, acfg_congr (hsame .cfg (by decide))]; exact hauto
    rw [Steps, exec_thrusterReturnTimer, hauto']
    rfl
  have hstands : standing (returnDue n s) n 2 = false := by
    rw [show standing (returnDue n s) n 2 = ((returnDue n s).alloc.thr[n]).notReady from rfl, halloc, hnot]
  refine ⟨_, hsteps, (hsame.mono rfl).onAlloc _ rfl, fun m hm => ?_, ?_, ?_, ?_⟩
  · rw [clearReturned, State.onAlloc_alloc, ← halloc]
    exact upd_getElem_ne _ _ _ _ hm
  · rw [clearReturned_causes n _ (by decide), returned_testBit, hstands]
    simp
  · rw [clearReturned_causes n _ (by decide), returned_testBit, halloc]
    simp
  · rw [clearReturned_causes n _ (by decide), returned_testBit, halloc]
    simp

end Sys2Proof.Machine

open Sys2Proof Sys2Proof.Machine

/-- Settles O38: each row in its stages; a reader of allocation depends on the parameters in force and on what a stage keeps. -/
theorem thrustIsAllocatedIssuedAndSupervised : Obligations.ThrustIsAllocatedIssuedAndSupervised := by
  unfold Obligations.ThrustIsAllocatedIssuedAndSupervised
  refine ⟨?takeOut, ?clear, ?stands, ?unset, ?check, ?commit, ?checked, ?issue, ?issued, ?bank, ?dir0, ?cycle, ?slackOn, ?slackOff, ?slackWait,
    ?notReady, ?feedback, ?notSet, ?returnTimer, ?noReturn⟩
  case takeOut => exact fun p c n s h ho hn hset hbit => thrusterEnable_takesOut h ho hn hset hbit
  case clear => exact fun p c n s h ho hn hset hbit hbars => thrusterEnable_clears h ho hn hset hbit hbars
  case stands => exact fun p c n k s h ho hn hset hbit h2 h4 hbars => thrusterEnable_refused h ho hn hset hbit h2 h4 hbars
  case unset => exact fun p c n s h ho hn hset => thrusterEnable_unset h ho hn hset
  case check => exact fun s hm hfn hrun hlost => speculationCheck_checks hm hfn hrun hlost
  case commit => exact fun s hm hfn hrun hlost hfirst => speculationCheck_commits hm hfn hrun hlost hfirst
  case checked => exact fun s h => ⟨_, speculationCheck_steps_of_ran h, stepAt_same 2000 s⟩
  case issue => exact fun s hm hfn hrun ht => setpointIssue_issues hm hfn hrun ht
  case issued => exact fun s h => ⟨_, setpointIssue_steps_of_ran h, stepAt_same 6500 s⟩
  case bank => exact fun s hm => hypothesisBankDeadline_ends hm
  case dir0 => exact fun r s h hd => caDirection0_evaluates h hd
  case cycle => exact fun r s h hd => caCycle_ends h hd
  case slackOn =>
    intro s hoff haxes hr
    have hsteps := exec_allocSlackAlarm s
    rw [if_pos hoff, if_neg (show slackAxes s ≠ 0 from haxes)] at hsteps
    exact ⟨_, hsteps, raise_alloc _ _ _, raise_occurred _ hr (by decide) rfl, raise_eventsBut _ rfl⟩
  case slackOff =>
    intro s hon hclear hr
    have hsteps := exec_allocSlackAlarm s
    rw [if_neg hon, if_pos hclear] at hsteps
    exact ⟨_, hsteps, raise_alloc _ _ _, raise_occurred _ hr (by decide) rfl, raise_eventsBut _ rfl⟩
  case slackWait =>
    intro s hon hclear
    rw [Steps, exec_allocSlackAlarm, if_neg hon, if_neg (by omega)]
  case notReady => exact fun n s hc hnot => notreadyDetect_detects hc hnot
  case feedback => exact fun n s hc hb hsrc hnow => feedbackTimeout_detects hc hb hsrc hnow
  case notSet =>
    intro n s hc
    rw [Steps, Steps, exec_notreadyDetect, exec_feedbackTimeout, hc]
    exact ⟨rfl, rfl⟩
  case returnTimer => exact fun n s hauto hnot => returnTimer_clears hauto hnot
  case noReturn =>
    intro n s hauto
    have hauto' : autoReturn (returnDue n s) = false := by rw [autoReturn, acfg_congr (returnDue_same n s .cfg (by decide))]; exact hauto
    refine ⟨_, ?_, returnDue_same n s⟩
    rw [Steps, exec_thrusterReturnTimer, hauto']
    rfl
end

section
/-! The commands of positioning control (chapter 9). -/

namespace Sys2Proof.Machine

/-- The class 1 reply of a heard command. -/
theorem pending_taken_accepted {p : Port} {c : Cmd} {s : State} (h : Heard p c s) (ms : Nat) : Accepted p c ms s (pending p c ms (taken p s)) := by
  have hacc := pending_accepted h.taken ms
  have hstore : ((taken p s).port p).store = (s.port p).store := by simp [taken]
  exact ⟨hstore ▸ hacc.1, hacc.2⟩

/-- A change of another part leaves it standing. -/
theorem Accepted.of_port {p : Port} {c : Cmd} {ms : Nat} {s t u : State} (h : Accepted p c ms s t) (e : u.port p = t.port p) : Accepted p c ms s u := by
  simpa only [Accepted, e] using h

theorem pending_taken_same (p : Port) (c : Cmd) (ms : Nat) (s : State) : SameBut [.host, .maint] s (pending p c ms (taken p s)) :=
  ((SameBut.refl _ s).step (taken_same p s) rfl).step (pending_same p c ms _) rfl

/-- A refusal after the class 1 reply. -/
theorem pending_reject {p : Port} {c : Cmd} {s : State} (h : Heard p c s) (ms st detail : Nat) :
    Replied p c 3 st detail [] (reject p c st detail (pending p c ms (taken p s))) ∧
    SameBut [.host, .maint, .sys] s (reject p c st detail (pending p c ms (taken p s))) :=
  ⟨reject_replied (pending_unanswered h.taken ms) st detail, ((SameBut.refl _ s).step (pending_taken_same p c ms s) rfl).step (finish_same _ _ _ _ _ _ _) rfl⟩

/-! DPC_SET_FUNCTION. -/

/-- The row on the state in which its packet is taken. -/
def setFunctionBody (p : Port) (c : Cmd) (s : State) : State :=
  let fn := fld (wd c.words 0) 2 0
  let s := pending p c 10 s
  if !fnEstimate s fn then reject p c 0x5010 s.fus.mode s
  else if fn = 4 && s.dpc.track.isEmpty then reject p c 0x5014 0 s
  else s.onDpc fun d => { d with fnReq := d.fnReq ++ [(fn, p, c.tag)] }

theorem exec_dpcSetFunction (p : Port) (s : State) : exec (.dpcSetFunction p) s = .next (runOp .dpcSetFunction p (setFunctionBody p) s) := rfl

theorem fnEstimate_congr {s t : State} (h : t.fus = s.fus) (fn : Nat) : fnEstimate t fn = fnEstimate s fn := by
  unfold fnEstimate
  rw [h]

section
variable {p : Port} {c : Cmd} {s : State} (h : Heard p c s)
include h

theorem setFunction_waits (ho : c.op = .dpcSetFunction) (hest : fnEstimate s (fld (wd c.words 0) 2 0) = true) (htrack : fld (wd c.words 0) 2 0 = 4 → s.dpc.track ≠ []) :
    ∃ t, Steps (.dpcSetFunction p) s t ∧ Accepted p c 10 s t ∧ SameBut [.host, .maint, .dpc] s t ∧
      t.dpc = { s.dpc with fnReq := s.dpc.fnReq ++ [(fld (wd c.words 0) 2 0, p, c.tag)] } := by
  have hsame := pending_taken_same p c 10 s
  have hdpc : (pending p c 10 (taken p s)).dpc = s.dpc := hsame .dpc (by decide)
  have htrack' : (decide (fld (wd c.words 0) 2 0 = 4) && s.dpc.track.isEmpty) = false := by
    simpa [Bool.eq_false_iff] using htrack
  have hbody : setFunctionBody p c (taken p s) =
      (pending p c 10 (taken p s)).onDpc fun d => { d with fnReq := d.fnReq ++ [(fld (wd c.words 0) 2 0, p, c.tag)] } := by
    simp only [setFunctionBody, fnEstimate_congr (hsame .fus (by decide) : _ = s.fus), hest, hdpc, htrack']
    rfl
  have hsteps := steps_of_heard (exec_dpcSetFunction p s) h ho
  rw [hbody] at hsteps
  refine ⟨_, hsteps, (pending_taken_accepted h 10).of_port (by cases p <;> rfl), ((SameBut.refl _ s).step hsame rfl).onDpc _ rfl, ?_⟩
  rw [State.onDpc_dpc, hdpc]

theorem setFunction_noEstimate (ho : c.op = .dpcSetFunction) (hest : fnEstimate s (fld (wd c.words 0) 2 0) = false) :
    ∃ t, Steps (.dpcSetFunction p) s t ∧ Replied p c 3 0x5010 s.fus.mode [] t ∧ SameBut [.host, .maint, .sys] s t := by
  have hfus : (pending p c 10 (taken p s)).fus = s.fus := pending_taken_same p c 10 s .fus (by decide)
  have hbody : setFunctionBody p c (taken p s) = reject p c 0x5010 s.fus.mode (pending p c 10 (taken p s)) := by
    simp only [setFunctionBody, fnEstimate_congr hfus, hest, hfus]
    rfl
  have hsteps := steps_of_heard (exec_dpcSetFunction p s) h ho
  rw [hbody] at hsteps
  exact ⟨_, hsteps, pending_reject h 10 _ _⟩

theorem setFunction_noTrack (ho : c.op = .dpcSetFunction) (hfn : fld (wd c.words 0) 2 0 = 4) (hest : fnEstimate s 4 = true) (htrack : s.dpc.track = []) :
    ∃ t, Steps (.dpcSetFunction p) s t ∧ Replied p c 3 0x5014 0 [] t ∧ SameBut [.host, .maint, .sys] s t := by
  have hsame := pending_taken_same p c 10 s
  have hdpc : (pending p c 10 (taken p s)).dpc = s.dpc := hsame .dpc (by decide)
  have hbody : setFunctionBody p c (taken p s) = reject p c 0x5014 0 (pending p c 10 (taken p s)) := by
    simp only [setFunctionBody, hfn, fnEstimate_congr (hsame .fus (by decide) : _ = s.fus), hest, hdpc, htrack]
    rfl
  have hsteps := steps_of_heard (exec_dpcSetFunction p s) h ho
  rw [hbody] at hsteps
  exact ⟨_, hsteps, pending_reject h 10 _ _⟩

end

/-! DPC_SET_TARGET. -/

/-- The row on the state in which its packet is taken. -/
def setTargetBody (p : Port) (c : Cmd) (s : State) : State :=
  let ws := expertWords .dpcSetTarget c.expert c.words
  let s := pending p c 10 s
  match targetRefusal s ws with
  | some (st, detail) => reject p c st detail s
  | none => s.onDpc fun d => { d with targets := d.targets ++ [{ port := p, tag := c.tag, words := ws, frame := s.sys.frame }] }

theorem exec_dpcSetTarget (p : Port) (s : State) : exec (.dpcSetTarget p) s = .next (runOp .dpcSetTarget p (setTargetBody p) s) := rfl

theorem targetRefusal_congr {s t : State} (hdpc : t.dpc = s.dpc) (hcfg : t.cfg = s.cfg) : targetRefusal t = targetRefusal s := by
  unfold targetRefusal movW State.inForce
  rw [hdpc, hcfg]

theorem targetRefusal_pending (p : Port) (c : Cmd) (s : State) : targetRefusal (pending p c 10 (taken p s)) = targetRefusal s :=
  targetRefusal_congr (pending_taken_same p c 10 s .dpc (by decide)) (pending_taken_same p c 10 s .cfg (by decide))

section
variable {p : Port} {c : Cmd} {s : State} (h : Heard p c s)
include h

theorem setTarget_waits (ho : c.op = .dpcSetTarget) (hok : targetRefusal s (expertWords .dpcSetTarget c.expert c.words) = none) :
    ∃ t, Steps (.dpcSetTarget p) s t ∧ Accepted p c 10 s t ∧ SameBut [.host, .maint, .dpc] s t ∧
      t.dpc = { s.dpc with targets := s.dpc.targets ++ [{ port := p, tag := c.tag, words := expertWords .dpcSetTarget c.expert c.words, frame := s.sys.frame }] } := by
  have hsame := pending_taken_same p c 10 s
  have hbody : setTargetBody p c (taken p s) = (pending p c 10 (taken p s)).onDpc fun d => { d with
      targets := d.targets ++ [{ port := p, tag := c.tag, words := expertWords .dpcSetTarget c.expert c.words, frame := (pending p c 10 (taken p s)).sys.frame }] } := by
    simp only [setTargetBody, targetRefusal_pending p c s, hok]
  have hsteps := steps_of_heard (exec_dpcSetTarget p s) h ho
  rw [hbody] at hsteps
  refine ⟨_, hsteps, (pending_taken_accepted h 10).of_port (by cases p <;> rfl), ((SameBut.refl _ s).step hsame rfl).onDpc _ rfl, ?_⟩
  rw [State.onDpc_dpc, (hsame .dpc (by decide) : _ = s.dpc), (hsame .sys (by decide) : _ = s.sys)]

theorem setTarget_refused (ho : c.op = .dpcSetTarget) {st detail : Nat} (hno : targetRefusal s (expertWords .dpcSetTarget c.expert c.words) = some (st, detail)) :
    ∃ t, Steps (.dpcSetTarget p) s t ∧ Replied p c 3 st detail [] t ∧ SameBut [.host, .maint, .sys] s t := by
  have hbody : setTargetBody p c (taken p s) = reject p c st detail (pending p c 10 (taken p s)) := by
    simp only [setTargetBody, targetRefusal_pending p c s, hno]
  have hsteps := steps_of_heard (exec_dpcSetTarget p s) h ho
  rw [hbody] at hsteps
  exact ⟨_, hsteps, pending_reject h 10 _ _⟩

end

/-! DPC_JOYSTICK and DPC_TRACK_CONTROL. -/

/-- The demand of a DPC_JOYSTICK. -/
def joyWords (c : Cmd) : Vector Int 3 := #v[joyVal (fld (wd c.words 0) 15 0), joyVal (fld (wd c.words 0) 31 16), joyVal (fld (wd c.words 1) 15 0)]

theorem exec_dpcJoystick (p : Port) (s : State) : exec (.dpcJoystick p) s = .next (runOp .dpcJoystick p (fun c s =>
    ok p c 0 [] (s.onDpc fun d => { d with joyNext := some (joyWords c, s.sys.frame), joyMt := some s.time.mt })) s) := rfl

/-- DPC_TRACK_CONTROL on the state in which its packet is taken. -/
def trackControlBody (p : Port) (c : Cmd) (s : State) : State :=
  let a := fld (wd c.words 0) 1 0
  let w := fld (wd c.words 0) 15 8
  if a = 3 then badValue p c 0 s
  else if s.sys.mode != .control || s.dpc.fn != 4 then reject p c 0x5011 (if s.sys.mode == .control then s.dpc.fn else 0) s
  else if a = 2 && decide (trkN s.dpc ≤ w) then badValue p c 0 s
  else ok p c 0 [] (s.onDpc fun d => { d with action := some (a, w, s.sys.frame) })

theorem exec_dpcTrackControl (p : Port) (s : State) : exec (.dpcTrackControl p) s = .next (runOp .dpcTrackControl p (trackControlBody p) s) := rfl

/-- A change of positioning's state with its answer. -/
theorem ok_onDpc {p : Port} {c : Cmd} {s : State} (h : Heard p c s) (f : DpcState → DpcState) :
    Replied p c 0 0 0 [] (ok p c 0 [] ((taken p s).onDpc f)) ∧ SameBut [.host, .maint, .sys, .dpc] s (ok p c 0 [] ((taken p s).onDpc f)) ∧
    (ok p c 0 [] ((taken p s).onDpc f)).dpc = f s.dpc := by
  have hun : Unanswered p c ((taken p s).onDpc f) := h.taken.of_outstanding (by cases p <;> rfl)
  refine ⟨ok_replied hun 0 [], (((SameBut.refl _ s).step (taken_same p s) rfl).onDpc _ rfl).step (ok_same _ _ _ _ _) rfl, ?_⟩
  rw [ok_dpc, State.onDpc_dpc, taken_dpc]

section
variable {p : Port} {c : Cmd} {s : State} (h : Heard p c s)
include h

theorem joystick_keeps (ho : c.op = .dpcJoystick) : ∃ t, Steps (.dpcJoystick p) s t ∧ Replied p c 0 0 0 [] t ∧ SameBut [.host, .maint, .sys, .dpc] s t ∧ t.dpc = { s.dpc with
    joyNext := some (#v[joyVal (fld (wd c.words 0) 15 0), joyVal (fld (wd c.words 0) 31 16), joyVal (fld (wd c.words 1) 15 0)], s.sys.frame)
    joyMt := some s.time.mt } := by
  have hsteps := steps_of_heard (exec_dpcJoystick p s) h ho
  rw [taken_sys, taken_time] at hsteps
  exact ⟨_, hsteps, ok_onDpc h _⟩

theorem trackControl_acts (ho : c.op = .dpcTrackControl) (ha : fld (wd c.words 0) 1 0 ≠ 3) (hm : s.sys.mode = .control) (hfn : s.dpc.fn = 4)
    (hw : fld (wd c.words 0) 1 0 = 2 → fld (wd c.words 0) 15 8 < trkN s.dpc) :
    ∃ t, Steps (.dpcTrackControl p) s t ∧ Replied p c 0 0 0 [] t ∧ SameBut [.host, .maint, .sys, .dpc] s t ∧
      t.dpc = { s.dpc with action := some (fld (wd c.words 0) 1 0, fld (wd c.words 0) 15 8, s.sys.frame) } := by
  have hin : (decide (fld (wd c.words 0) 1 0 = 2) && decide (trkN s.dpc ≤ fld (wd c.words 0) 15 8)) = false := by
    simpa [Bool.eq_false_iff] using hw
  have hbody : trackControlBody p c (taken p s) =
      ok p c 0 [] ((taken p s).onDpc fun d => { d with action := some (fld (wd c.words 0) 1 0, fld (wd c.words 0) 15 8, s.sys.frame) }) := by
    simp only [trackControlBody, taken_sys, taken_dpc, ha, hm, hfn, hin]
    rfl
  have hsteps := steps_of_heard (exec_dpcTrackControl p s) h ho
  rw [hbody] at hsteps
  exact ⟨_, hsteps, ok_onDpc h _⟩

theorem trackControl_refused (ho : c.op = .dpcTrackControl) (ha : fld (wd c.words 0) 1 0 ≠ 3) (hm : s.sys.mode = .control) (hfn : s.dpc.fn ≠ 4) :
    ∃ t, Steps (.dpcTrackControl p) s t ∧ AnswersOnly p c 3 0x5011 s.dpc.fn [] s t := by
  have hbody : trackControlBody p c (taken p s) = reject p c 0x5011 s.dpc.fn (taken p s) := by
    simp [trackControlBody, taken_sys, taken_dpc, ha, hm, hfn]
  have hsteps := steps_of_heard (exec_dpcTrackControl p s) h ho
  rw [hbody] at hsteps
  exact ⟨_, hsteps, reject_answersOnly h _ _⟩

end

end Sys2Proof.Machine
end

section
/-! POSITION_CONTROL_STEP in its stages (R228, R235 to R244). -/

namespace Sys2Proof.Machine

/-! What the stages keep. -/

/-- A stage keeps the function, the mark of the step, the demands, and what waits for the step. -/
structure StepKept (s t : State) : Prop where
  fn : t.dpc.fn = s.dpc.fn
  ran : t.dpc.ran = s.dpc.ran
  tau : t.dpc.tau = s.dpc.tau
  tauPrev : t.dpc.tauPrev = s.dpc.tauPrev
  action : t.dpc.action = s.dpc.action
  targets : t.dpc.targets = s.dpc.targets

namespace StepKept

variable {s t u : State}

theorem refl (s : State) : StepKept s s := ⟨rfl, rfl, rfl, rfl, rfl, rfl⟩

theorem of_dpc (h : t.dpc = s.dpc) : StepKept s t := by
  constructor <;> rw [h]

theorem trans (h : StepKept s t) (k : StepKept t u) : StepKept s u :=
  ⟨k.fn.trans h.fn, k.ran.trans h.ran, k.tau.trans h.tau, k.tauPrev.trans h.tauPrev, k.action.trans h.action, k.targets.trans h.targets⟩

theorem raise (n : Fin 128) (d : Nat) (s : State) : StepKept s (raise n d s) := of_dpc (raise_dpc n d s)

end StepKept

theorem joyStep_stepKept (s : State) : StepKept s (joyStep s) := by
  unfold joyStep
  extract_lets host usesJoy v lost was s1
  have h1 : StepKept s s1 := ⟨rfl, rfl, rfl, rfl, rfl, rfl⟩
  split
  · split
    · split
      · extract_lets s2
        have h2 : StepKept s s2 := ⟨rfl, rfl, rfl, rfl, rfl, rfl⟩
        split
        · exact h2.trans (.raise 13 _ _)
        · exact h2
      · exact .refl s
    · exact .refl s
  · split
    · exact .refl s
    · split
      · exact h1.trans (.raise 13 _ _)
      · split
        · exact h1.trans (.raise 13 _ _)
        · exact h1

/-- Outside TRACK the reference moves on alone. -/
theorem moveRef_stepKept (fuel t : Nat) {s : State} (h : s.dpc.fn ≠ 4) : StepKept s (moveRef fuel t s) := by
  cases fuel with
  | zero => exact .refl s
  | succ fuel =>
    unfold moveRef
    extract_lets d k cross n s1
    have hcross : cross = false := by simp [cross, d, h]
    rw [hcross]
    exact ⟨rfl, rfl, rfl, rfl, rfl, rfl⟩

theorem mpcFall_stepKept (d : Nat) (s : State) : StepKept s (mpcFall d s) := by
  unfold mpcFall
  extract_lets was s1
  have h1 : StepKept s s1 := ⟨rfl, rfl, rfl, rfl, rfl, rfl⟩
  split
  · exact h1.trans (.raise 14 _ _)
  · exact h1

theorem mpcSubmit_stepKept (s : State) : StepKept s (mpcSubmit s) := by
  unfold mpcSubmit
  split
  · extract_lets b s1 vals
    have h1 : StepKept s s1 := by
      simp only [s1]
      split
      · exact mpcFall_stepKept 2 s
      · exact .refl s
    have h2 : StepKept s1 (submitDp (dpTicket .mpc vals ([], 0) (some (b + 10 * frameTicks)) s1) (cancelDp (fun w => w == .mpc) s1)) :=
      .of_dpc ((submitDp_same _ _ .dpc (by decide)).trans (cancelDp_same _ _ .dpc (by decide)))
    have h3 : ∀ u : State, StepKept u (u.onDpc fun d => { d with mpcSub := some b, mpcTau := d.tau, mpcReady := none }) := fun u => ⟨rfl, rfl, rfl, rfl, rfl, rfl⟩
    exact (h1.trans h2).trans (h3 _)
  · exact .refl s

theorem takeTargets_of_none {s : State} (h : s.dpc.targets = []) : takeTargets s = s := by
  unfold takeTargets
  rw [h]
  rfl

theorem trackOn_of_not_track {s : State} (h : s.dpc.fn ≠ 4) : trackOn s = s := by
  unfold trackOn
  exact if_pos (by simp [h])

/-! The step. -/

/-- The step of the frame is marked, and the demand becomes the earlier one. -/
def stepMarked (s : State) : State := (stepAt 1500 s).onDpc fun d => { d with ran := some (stepAt 1500 s).sys.frame, tauPrev := d.tau, d2Miss := false }

/-- The reference of an automatic function moves on by a frame. -/
def stepMoved (s : State) : State := if 2 ≤ s.dpc.fn then moveRef 64 frameTicks s else s

/-- A DPC_TRACK_CONTROL of an earlier frame takes effect. -/
def stepActed (s : State) : State :=
  match s.dpc.action with
  | some (a, w, f) => if f < s.sys.frame then trackAct a w (s.onDpc fun d => { d with action := none }) else s
  | none => s

/-- The distance from the datum is noted, and DPC_STATE goes to its stream. -/
def stepFar (s : State) : State := s.onDpc fun d => { d with far := farNow s }
def stepSent (s : State) : State := if streamDue s 0x5A0 then stream 0x5A0 0 (dpcState s) s else s

/-- The step up to the demand, and from it on. -/
def stepBefore (s : State) : State := trackOn (takeTargets (stepActed (stepMoved (joyStep s))))
def stepAfter (s : State) : State := stepSent (stepFar (mpcSubmit (supervise s)))

theorem exec_positionControlStep (s : State) : exec .positionControlStep s = .next (
    if !frameWork (stepAt 1500 s) || (stepAt 1500 s).dpc.ran == some (stepAt 1500 s).sys.frame then stepAt 1500 s
    else stepAfter (computeTau (fadeStep (stepBefore (stepMarked s))))) := by
  have harm : exec .positionControlStep s = execPositionControlStep s := rfl
  rw [harm]
  unfold execPositionControlStep stepAfter stepBefore stepSent stepFar stepActed stepMoved stepMarked
  rfl

theorem stepMarked_dpc (s : State) : (stepMarked s).dpc = { s.dpc with ran := some s.sys.frame, tauPrev := s.dpc.tau, d2Miss := false } := by
  have hdpc : (stepAt 1500 s).dpc = s.dpc := stepAt_same _ _ .dpc (by decide)
  have hsys : (stepAt 1500 s).sys = s.sys := stepAt_same _ _ .sys (by decide)
  rw [stepMarked, State.onDpc_dpc, hdpc, hsys]

theorem stepMarked_same (s : State) : SameBut [.time, .dpc] s (stepMarked s) := ((SameBut.refl _ s).step (stepAt_same 1500 s) rfl).onDpc _ rfl

theorem positionControlStep_steps {s : State} (hm : s.sys.mode = .control ∨ s.sys.mode = .standby) (hrun : s.dpc.ran ≠ some s.sys.frame) :
    Steps .positionControlStep s (stepAfter (computeTau (fadeStep (stepBefore (stepMarked s))))) := by
  have hdpc : (stepAt 1500 s).dpc = s.dpc := stepAt_same _ _ .dpc (by decide)
  have hsys : (stepAt 1500 s).sys = s.sys := stepAt_same _ _ .sys (by decide)
  have hwork : frameWork (stepAt 1500 s) = true := frameWork_of_mode (by rwa [hsys])
  rw [Steps, exec_positionControlStep, if_neg (by rw [hwork, hdpc, hsys]; simpa using hrun)]

theorem positionControlStep_steps_of_ran {s : State} (h : s.dpc.ran = some s.sys.frame) : Steps .positionControlStep s (stepAt 1500 s) := by
  have hdpc : (stepAt 1500 s).dpc = s.dpc := stepAt_same _ _ .dpc (by decide)
  have hsys : (stepAt 1500 s).sys = s.sys := stepAt_same _ _ .sys (by decide)
  rw [Steps, exec_positionControlStep, if_pos (by simp [hdpc, hsys, h])]

theorem stepMoved_stepKept {s : State} (h : s.dpc.fn ≠ 4) : StepKept s (stepMoved s) := by
  unfold stepMoved
  split
  · exact moveRef_stepKept 64 frameTicks h
  · exact .refl s

/-- Outside TRACK and with nothing waiting, the joystick and the reference are all that comes before the demand. -/
theorem stepBefore_eq {s : State} (hfn : s.dpc.fn ≠ 4) (haction : s.dpc.action = none) (htargets : s.dpc.targets = []) :
    stepBefore s = stepMoved (joyStep s) := by
  have hjoy := joyStep_stepKept s
  have hmoved : StepKept s (stepMoved (joyStep s)) := hjoy.trans (stepMoved_stepKept (by rwa [hjoy.fn]))
  have hacted : stepActed (stepMoved (joyStep s)) = stepMoved (joyStep s) := by rw [stepActed, hmoved.action, haction]
  rw [stepBefore, hacted, takeTargets_of_none (by rw [hmoved.targets, htargets]), trackOn_of_not_track (by rwa [hmoved.fn])]

theorem stepBefore_stepKept {s : State} (hfn : s.dpc.fn ≠ 4) (haction : s.dpc.action = none) (htargets : s.dpc.targets = []) : StepKept s (stepBefore s) := by
  have hjoy := joyStep_stepKept s
  rw [stepBefore_eq hfn haction htargets]
  exact hjoy.trans (stepMoved_stepKept (by rwa [hjoy.fn]))

theorem fadeStep_stepKept (s : State) : StepKept s (fadeStep s) := ⟨rfl, rfl, rfl, rfl, rfl, rfl⟩

theorem supervise_stepKept (s : State) : StepKept s (supervise s) := ⟨rfl, rfl, rfl, rfl, rfl, rfl⟩

theorem stepFar_stepKept (s : State) : StepKept s (stepFar s) := ⟨rfl, rfl, rfl, rfl, rfl, rfl⟩

theorem stepSent_stepKept (s : State) : StepKept s (stepSent s) := by
  unfold stepSent
  split
  · exact .of_dpc (stream_dpc _ _ _ s)
  · exact .refl s

theorem stepAfter_stepKept (s : State) : StepKept s (stepAfter s) :=
  (((supervise_stepKept s).trans (mpcSubmit_stepKept _)).trans (stepFar_stepKept _)).trans (stepSent_stepKept _)

/-- The feedforward and the joystick's demand stay as the demand left them. -/
theorem stepAfter_ff (s : State) : (stepAfter s).dpc.ff = s.dpc.ff ∧ (stepAfter s).dpc.joy = s.dpc.joy := by
  have hfall : ∀ (d : Nat) (u : State), (mpcFall d u).dpc.ff = u.dpc.ff ∧ (mpcFall d u).dpc.joy = u.dpc.joy := fun d u => by
    unfold mpcFall
    dsimp only
    split
    · rw [raise_dpc]
      exact ⟨rfl, rfl⟩
    · exact ⟨rfl, rfl⟩
  have hsubmit : ∀ u : State, (mpcSubmit u).dpc.ff = u.dpc.ff ∧ (mpcSubmit u).dpc.joy = u.dpc.joy := fun u => by
    unfold mpcSubmit
    split
    · extract_lets b u1 vals
      have h1 : u1.dpc.ff = u.dpc.ff ∧ u1.dpc.joy = u.dpc.joy := by
        simp only [u1]
        split
        · exact hfall 2 u
        · exact ⟨rfl, rfl⟩
      rw [State.onDpc_dpc, (submitDp_same _ _ .dpc (by decide) : _ = (cancelDp _ _).dpc), (cancelDp_same _ _ .dpc (by decide) : _ = u1.dpc)]
      exact h1
    · exact ⟨rfl, rfl⟩
  have hsent : ∀ u : State, (stepSent u).dpc = u.dpc := fun u => by
    unfold stepSent
    split
    · exact stream_dpc _ _ _ u
    · rfl
  rw [stepAfter, hsent]
  exact hsubmit (supervise s)

end Sys2Proof.Machine
end

section
/-! The demand of a function without one, of a lost estimate and of the joystick. -/

namespace Sys2Proof.Machine

theorem computeTau_of_no_function {s : State} (h : s.dpc.fn = 0) : (computeTau s).dpc = { s.dpc with
    tau := Vector.replicate 3 0, ff := Vector.replicate 3 0, aw := Vector.replicate 3 false, preload := Vector.replicate 3 0, oldPar := none } := by
  unfold computeTau
  extract_lets d
  rw [if_pos (show d.fn = 0 from h)]
  rfl

theorem computeTau_of_lost {s : State} (h : 2 ≤ s.dpc.fn) (hm : s.fus.mode = 3) : computeTau s = s := by
  unfold computeTau
  extract_lets d
  have hne : ¬ d.fn = 0 := by
    have : 2 ≤ d.fn := h
    omega
  rw [if_neg hne, if_pos (by simp [hm, d, h])]

/-- Under the joystick without compensation there is no feedforward. -/
theorem feedForward_of_joystick {s : State} (h : s.dpc.fn = 1) (hc : bit (joyW s 4) 0 = false) (i : Fin 3) : feedForward s i = 0 := by
  simp [feedForward, h, hc, autoAxis]

theorem computeTau_of_joystick {s : State} (h : s.dpc.fn = 1) (hc : bit (joyW s 4) 0 = false) :
    (computeTau s).dpc.tau = #v[joyForce s 0, joyForce s 1, joyForce s 2 + rpMoment s (joyForce s 0) (joyForce s 1)] ∧
    (computeTau s).dpc.fn = 1 ∧ (computeTau s).dpc.joy = s.dpc.joy := by
  have hff : ∀ i : Fin 3, feedForward s i = 0 := feedForward_of_joystick h hc
  have hauto : ∀ i : Fin 3, autoAxis s.dpc.fn i = false := fun i => by simp [h, autoAxis]
  have hmpc : mpcActs s = false := by simp [mpcActs, h]
  unfold computeTau
  extract_lets d cw x ff mpc want zOf mp z0 z1 t0 t1 z2 t2 zs held
  have hd : d = s.dpc := rfl
  have ht0 : t0 = joyForce s 0 := by simp only [t0, hd, hauto]; rfl
  have ht1 : t1 = joyForce s 1 := by simp only [t1, hd, hauto]; rfl
  have ht2 : t2 = joyForce s 2 := by simp only [t2, hd, hauto]; rfl
  have hffs : ∀ i : Fin 3, ff[i] = 0 := fun i => by simp [ff, hff]
  rw [if_neg (by rw [hd, h]; decide), if_neg (by rw [hd, h]; simp)]
  refine ⟨?_, h, rfl⟩
  rw [State.onDpc_dpc, ht0, ht1, ht2]
  simp only [show ff[0] = 0 from hffs 0, show ff[1] = 0 from hffs 1, show ff[2] = 0 from hffs 2, Int.add_zero]

/-- The joystick's force reads the capability, the words in force and the demand. -/
theorem joyForce_congr {s t : State} (hcfg : t.cfg = s.cfg) (hlimit : t.dpc.limit = s.dpc.limit) (hjoy : t.dpc.joy = s.dpc.joy) (halloc : t.alloc = s.alloc)
    (hfree : t.free = s.free) : joyForce t = joyForce s := by
  unfold joyForce joyW State.inForce
  rw [hcfg, nomCap_congr hcfg hlimit (congrArg AllocState.caDone halloc) (congrArg AllocState.avail halloc) hfree, hjoy]

theorem rpMoment_congr {s t : State} (h : t.dpc.rp = s.dpc.rp) : rpMoment t = rpMoment s := by
  unfold rpMoment
  rw [h]

theorem joyStep_of_idle {s : State} (hhost : bit (joyW s 0) 0 = false) (hnext : s.dpc.joyNext = none) : joyStep s = s := by
  unfold joyStep
  simp only [hhost, hnext]
  rfl

theorem stepMarked_waits (s : State) : (stepMarked s).dpc.fn = s.dpc.fn ∧ (stepMarked s).dpc.ran = some s.sys.frame ∧ (stepMarked s).dpc.tau = s.dpc.tau ∧
    (stepMarked s).dpc.tauPrev = s.dpc.tau ∧ (stepMarked s).dpc.action = s.dpc.action ∧ (stepMarked s).dpc.targets = s.dpc.targets := by
  rw [stepMarked_dpc]
  exact ⟨rfl, rfl, rfl, rfl, rfl, rfl⟩

theorem stepMarked_joystick (s : State) : (stepMarked s).dpc.joyNext = s.dpc.joyNext ∧ (stepMarked s).dpc.joy = s.dpc.joy ∧
    (stepMarked s).dpc.limit = s.dpc.limit ∧ (stepMarked s).dpc.rp = s.dpc.rp := by
  rw [stepMarked_dpc]
  exact ⟨rfl, rfl, rfl, rfl⟩

theorem fadeStep_joystick (s : State) : (fadeStep s).dpc.joy = s.dpc.joy ∧ (fadeStep s).dpc.limit = s.dpc.limit ∧ (fadeStep s).dpc.rp = s.dpc.rp := ⟨rfl, rfl, rfl⟩

section
variable {s : State} (hm : s.sys.mode = .control ∨ s.sys.mode = .standby) (hrun : s.dpc.ran ≠ some s.sys.frame) (haction : s.dpc.action = none) (htargets : s.dpc.targets = [])
include hm hrun haction htargets

theorem step_of_no_function (hfn : s.dpc.fn = 0) : ∃ t, Steps .positionControlStep s t ∧ t.dpc.ran = some s.sys.frame ∧ t.dpc.fn = 0 ∧
    t.dpc.tau = Vector.replicate 3 0 ∧ t.dpc.ff = Vector.replicate 3 0 ∧ t.dpc.tauPrev = s.dpc.tau := by
  obtain ⟨mfn, mran, -, mprev, maction, mtargets⟩ := stepMarked_waits s
  rw [hfn] at mfn
  rw [haction] at maction
  rw [htargets] at mtargets
  have hfaded := (stepBefore_stepKept (by rw [mfn]; decide) maction mtargets).trans (fadeStep_stepKept _)
  have htau := computeTau_of_no_function (hfaded.fn.trans mfn)
  refine ⟨_, positionControlStep_steps hm hrun, ?_⟩
  generalize fadeStep (stepBefore (stepMarked s)) = w at hfaded htau ⊢
  have hafter := stepAfter_stepKept (computeTau w)
  rw [hafter.ran, hafter.fn, hafter.tau, (stepAfter_ff _).1, hafter.tauPrev, htau]
  exact ⟨hfaded.ran.trans mran, hfaded.fn.trans mfn, rfl, rfl, hfaded.tauPrev.trans mprev⟩

theorem step_of_lost (hfn : s.dpc.fn = 3) (hmode : s.fus.mode = 3) : ∃ t, Steps .positionControlStep s t ∧ t.dpc.ran = some s.sys.frame ∧ t.dpc.fn = 3 ∧
    t.dpc.tau = s.dpc.tau ∧ t.dpc.tauPrev = s.dpc.tau := by
  obtain ⟨mfn, mran, mtau, mprev, maction, mtargets⟩ := stepMarked_waits s
  rw [hfn] at mfn
  rw [haction] at maction
  rw [htargets] at mtargets
  have hne : (stepMarked s).dpc.fn ≠ 4 := by rw [mfn]; decide
  have hfaded := (stepBefore_stepKept hne maction mtargets).trans (fadeStep_stepKept _)
  have hfus : (fadeStep (stepBefore (stepMarked s))).fus = s.fus := by
    have hmove : ∀ u : State, (stepMoved u).fus = u.fus := fun u => by
      unfold stepMoved
      split
      · exact moveRef_same _ _ u .fus (by decide)
      · rfl
    rw [stepBefore_eq hne maction mtargets, (fadeStep_same _ .fus (by decide) : _ = (stepMoved _).fus), hmove,
      (joyStep_same _ .fus (by decide) : _ = (stepMarked s).fus)]
    exact stepMarked_same s .fus (by decide)
  have hfn' : (fadeStep (stepBefore (stepMarked s))).dpc.fn = 3 := hfaded.fn.trans mfn
  have htau := computeTau_of_lost (s := fadeStep (stepBefore (stepMarked s))) (by rw [hfn']; decide) (by rw [hfus, hmode])
  refine ⟨_, positionControlStep_steps hm hrun, ?_⟩
  rw [htau]
  have hkept := hfaded.trans (stepAfter_stepKept _)
  exact ⟨hkept.ran.trans mran, hkept.fn.trans mfn, hkept.tau.trans mtau, hkept.tauPrev.trans mprev⟩

theorem step_of_joystick (hfn : s.dpc.fn = 1) (hhost : bit (joyW s 0) 0 = false) (hnext : s.dpc.joyNext = none) (hcomp : bit (joyW s 4) 0 = false) :
    ∃ t, Steps .positionControlStep s t ∧ t.dpc.fn = 1 ∧ t.dpc.joy = s.dpc.joy ∧
      t.dpc.tau = #v[joyForce s 0, joyForce s 1, joyForce s 2 + rpMoment s (joyForce s 0) (joyForce s 1)] := by
  obtain ⟨mfn, -, -, -, maction, mtargets⟩ := stepMarked_waits s
  obtain ⟨mnext, mjoy, mlimit, mrp⟩ := stepMarked_joystick s
  obtain ⟨fjoy, flimit, frp⟩ := fadeStep_joystick (stepMarked s)
  rw [hfn] at mfn
  rw [haction] at maction
  rw [htargets] at mtargets
  rw [hnext] at mnext
  have hsame : SameBut [.time, .dpc] s (fadeStep (stepMarked s)) := (stepMarked_same s).step (fadeStep_same _) rfl
  have hcfg : (fadeStep (stepMarked s)).cfg = s.cfg := hsame .cfg (by decide)
  have hcfg' : (stepMarked s).cfg = s.cfg := stepMarked_same s .cfg (by decide)
  have hidle : stepBefore (stepMarked s) = stepMarked s := by
    have hstill : joyStep (stepMarked s) = stepMarked s := by
      refine joyStep_of_idle ?_ mnext
      rw [joyW, State.inForce, hcfg']
      exact hhost
    rw [stepBefore_eq (by rw [mfn]; decide) maction mtargets, hstill, stepMoved, mfn, if_neg (by decide)]
  have hforce : joyForce (fadeStep (stepMarked s)) = joyForce s :=
    joyForce_congr hcfg (flimit.trans mlimit) (fjoy.trans mjoy) (hsame .alloc (by decide)) (hsame .free (by decide))
  obtain ⟨htau, hfn', hjoy⟩ := computeTau_of_joystick (s := fadeStep (stepMarked s)) ((fadeStep_stepKept _).fn.trans mfn)
    (by rw [joyW, State.inForce, hcfg]; exact hcomp)
  have hafter := stepAfter_stepKept (computeTau (fadeStep (stepMarked s)))
  refine ⟨_, positionControlStep_steps hm hrun, ?_⟩
  rw [hidle, hafter.fn, (stepAfter_ff _).2, hafter.tau, htau, hforce, rpMoment_congr (frp.trans mrp), hjoy]
  exact ⟨hfn', fjoy.trans mjoy, rfl⟩

end

end Sys2Proof.Machine
end

section
/-! MPC, supervision and the power management system (9.5 to 9.8). -/

namespace Sys2Proof.Machine

/-! MPC. -/

/-- A result is committed; back: it is the third good one after the PID took over. -/
def mpcCommitted (x : List Int) (b : Nat) (back : Bool) (s : State) : State :=
  s.onDpc fun d => { d with
    mpcSeq := x, mpcFrom := b, mpcReady := none, mpcSub := none, mpcRun := d.mpcRun + 1, mpcAt := s.sys.frame
    mpcOn := !d.mpcFell || back, mpcFell := d.mpcFell && !back }

theorem mpcResultCommit_steps {x : List Int} {b : Nat} {s : State} (hx : s.dpc.mpcReady = some x) (hb : s.dpc.mpcSub = some b) (ht : s.time.mt ≤ b + 10 * frameTicks)
    {back : Bool} (hback : (s.dpc.mpcFell && decide (3 ≤ s.dpc.mpcRun + 1)) = back) :
    Steps .mpcResultCommit s (if back then raise 14 0 (mpcCommitted x b back s) else mpcCommitted x b back s) := by
  have harm : exec .mpcResultCommit s = execMpcResultCommit s := rfl
  rw [Steps, harm, execMpcResultCommit, hx, hb]
  dsimp only
  rw [if_neg (by omega), hback]
  rfl

theorem mpcResult_commits {x : List Int} {b : Nat} {s : State} (hx : s.dpc.mpcReady = some x) (hb : s.dpc.mpcSub = some b) (ht : s.time.mt ≤ b + 10 * frameTicks)
    (hfell : s.dpc.mpcFell = false) : ∃ t, Steps .mpcResultCommit s t ∧ SameBut [.dpc] s t ∧ t.dpc = { s.dpc with
      mpcSeq := x, mpcFrom := b, mpcReady := none, mpcSub := none, mpcRun := s.dpc.mpcRun + 1, mpcAt := s.sys.frame, mpcOn := true } := by
  have hsteps := mpcResultCommit_steps hx hb ht (back := false) (by rw [hfell]; rfl)
  refine ⟨_, hsteps, (SameBut.refl _ s).onDpc _ rfl, ?_⟩
  have hdpc : (mpcCommitted x b false s).dpc = { s.dpc with
      mpcSeq := x, mpcFrom := b, mpcReady := none, mpcSub := none, mpcRun := s.dpc.mpcRun + 1, mpcAt := s.sys.frame, mpcOn := true, mpcFell := s.dpc.mpcFell } := by
    simp [mpcCommitted, hfell]
  exact hdpc

theorem mpcResult_returns {x : List Int} {b : Nat} {s : State} (hx : s.dpc.mpcReady = some x) (hb : s.dpc.mpcSub = some b) (ht : s.time.mt ≤ b + 10 * frameTicks)
    (hfell : s.dpc.mpcFell = true) (hrun : s.dpc.mpcRun = 2) (hr : s.hp.ready = true) :
    ∃ t, Steps .mpcResultCommit s t ∧ t.dpc.mpcOn = true ∧ t.dpc.mpcFell = false ∧ t.dpc.mpcSeq = x ∧ Occurred 14 0 s t ∧ EventsBut [14, 120] s t := by
  have hsteps := mpcResultCommit_steps hx hb ht (back := true) (by rw [hfell, hrun]; rfl)
  refine ⟨_, hsteps, ?_, ?_, ?_, raise_occurred _ hr (by decide) rfl, raise_eventsBut _ rfl⟩
  · rw [if_pos rfl, raise_dpc]
    simp [mpcCommitted]
  · rw [if_pos rfl, raise_dpc]
    simp [mpcCommitted]
  · rw [if_pos rfl, raise_dpc]
    rfl

theorem mpcLate_falls {b : Nat} {s : State} (hb : s.dpc.mpcSub = some b) (hon : s.dpc.mpcOn = true) (hr : s.hp.ready = true) :
    ∃ t, Steps .mpcLate s t ∧ t.dpc = { s.dpc with mpcOn := false, mpcRun := 0, mpcSub := none, mpcReady := none, mpcFell := true } ∧ Occurred 14 2 s t ∧ EventsBut [14, 120] s t := by
  have hsame : SameBut [.time, .solv, .free] s (cancelDp (fun w => w == .mpc) (advanceTo (b + 10 * frameTicks) s)) :=
    ((SameBut.refl _ s).step (advanceTo_same _ s) rfl).step (cancelDp_same _ _) rfl
  have hsteps : Steps .mpcLate s (mpcFall 2 (cancelDp (fun w => w == .mpc) (advanceTo (b + 10 * frameTicks) s))) := by
    have harm : exec .mpcLate s = execMpcLate s := rfl
    rw [Steps, harm, execMpcLate, hb]
  have hdpc : (cancelDp (fun w => w == .mpc) (advanceTo (b + 10 * frameTicks) s)).dpc = s.dpc := hsame .dpc (by decide)
  have hev : (cancelDp (fun w => w == .mpc) (advanceTo (b + 10 * frameTicks) s)).ev = s.ev := hsame .ev (by decide)
  have hhp : (cancelDp (fun w => w == .mpc) (advanceTo (b + 10 * frameTicks) s)).hp = s.hp := hsame .hp (by decide)
  generalize cancelDp (fun w => w == .mpc) (advanceTo (b + 10 * frameTicks) s) = w at hsteps hdpc hev hhp
  have hfall : mpcFall 2 w = raise 14 2 (w.onDpc fun d => { d with mpcOn := false, mpcRun := 0, mpcSub := none, mpcReady := none, mpcFell := d.mpcFell || w.dpc.mpcOn }) := by
    rw [mpcFall, if_pos (by rw [hdpc, hon])]
  rw [hfall] at hsteps
  refine ⟨_, hsteps, ?_, raise_occurred _ ?_ (by decide) ?_, raise_eventsBut _ ?_⟩
  · rw [raise_dpc, State.onDpc_dpc, hdpc, hon, Bool.or_true]
  · rw [State.onDpc_hp, hhp, hr]
  · rw [State.onDpc_ev, hev]
  · rw [State.onDpc_ev, hev]

/-! The joystick's time-out and the supervision. -/

/-- The time at which the demand of the host is too old. -/
def joystickDue (s : State) : State :=
  match s.dpc.joyMt with
  | some m => advanceTo (m + fld (joyW s 4) 31 16 * msTicks) s
  | none => s

theorem exec_joystickTimeout (s : State) : exec .joystickTimeout s = .next (
    if bit (joyW s 0) 0 || s.dpc.joyLost || !((fins 3).any (joyAxis s.dpc.fn)) then s
    else raise 13 257 ((joystickDue s).onDpc fun d => { d with joy := Vector.replicate 3 0, joyNext := none, joyLost := true })) := rfl

theorem joystickDue_same (s : State) : SameBut [.time] s (joystickDue s) := by
  unfold joystickDue
  split
  · exact advanceTo_same _ s
  · exact SameBut.refl _ s

theorem joystickTimeout_zeroes {s : State} (hhost : bit (joyW s 0) 0 = false) (hlost : s.dpc.joyLost = false) (hfn : s.dpc.fn = 1) (hr : s.hp.ready = true) :
    ∃ t, Steps .joystickTimeout s t ∧ t.dpc = { s.dpc with joy := Vector.replicate 3 0, joyNext := none, joyLost := true } ∧ Occurred 13 257 s t ∧ EventsBut [13, 120] s t := by
  have hsame := joystickDue_same s
  have hdpc : (joystickDue s).dpc = s.dpc := hsame .dpc (by decide)
  have hev : (joystickDue s).ev = s.ev := hsame .ev (by decide)
  have haxes : (fins 3).any (joyAxis s.dpc.fn) = true := by rw [hfn]; decide
  have hsteps := exec_joystickTimeout s
  rw [hhost, hlost, haxes, if_neg (by decide)] at hsteps
  refine ⟨_, hsteps, ?_, raise_occurred _ ?_ (by decide) ?_, raise_eventsBut _ ?_⟩
  · rw [raise_dpc, State.onDpc_dpc, hdpc]
  · rw [State.onDpc_hp, (hsame .hp (by decide) : _ = s.hp), hr]
  · rw [State.onDpc_ev, hev]
  · rw [State.onDpc_ev, hev]

theorem exec_targetReached (s : State) : exec .targetReached s = .next (
    if !s.dpc.reachDone && decide (100 ≤ s.dpc.reached) then raise 10 0 (s.onDpc fun d => { d with reachDone := true }) else s) := rfl

/-- DPC_EXCURSION of an axis pair. -/
def excursion (h : Fin 2) (raised : Bool) (s : State) : State :=
  if raised then (if !s.dpc.excOn[h] && decide (10 ≤ s.dpc.excRun[h]) then raise 11 (256 + h.val) (s.onDpc fun d => { d with excOn := d.excOn.set h true }) else s)
  else if s.dpc.excOn[h] && decide (100 ≤ s.dpc.excLow[h]) then raise 11 h.val (s.onDpc fun d => { d with excOn := d.excOn.set h false })
  else s

theorem exec_dpcExcursion (heading raised : Bool) (s : State) : exec (.dpcExcursion heading raised) s = .next (excursion (if heading then 1 else 0) raised s) := rfl

theorem excursion_index {heading : Bool} {h : Fin 2} (hh : h.val = b2n heading) : (if heading then 1 else 0 : Fin 2) = h := by
  cases heading with
  | true => exact Fin.ext hh.symm
  | false => exact Fin.ext hh.symm

/-! The available powers (R245, R247). -/

/-- One section's part of setAvail. -/
def setSection (v : Vector (Option Nat) 4) (s : State) (k : Fin 4) : State :=
  match v[k] with
  | none => s
  | some kw =>
    let lost := decide (kw < fld (powW s 5) 15 0)
    let was := s.dpc.secLost[k]
    let s := s.onDpc fun d => { d with
      avail := d.avail.set k (some kw), limit := d.limit.set k (newLimit s d.limit[k] kw), secLost := d.secLost.set k lost }
    let ts := (thrusters s).filter fun t => thrSection s t == k.val
    if lost && !was then ts.foldl (fun s t => detectCause t 4 s) s
    else if !lost && was then s.onAlloc fun a => { a with thr := vmapI a.thr fun i x => if ts.contains i.val && tb x.causes 4 then { x with absent := some s.time.mt } else x }
    else s

theorem setAvail_eq (v : Vector (Option Nat) 4) (s : State) : setAvail v s = (fins 4).foldl (setSection v) s := rfl

/-- The powers, limits and losses that a section takes. -/
def sectionTaken (k : Fin 4) (kw : Nat) (s : State) (d : DpcState) : DpcState :=
  { d with avail := d.avail.set k (some kw), limit := d.limit.set k (newLimit s d.limit[k] kw), secLost := d.secLost.set k (decide (kw < fld (powW s 5) 15 0)) }

theorem foldl_detectCause_same (l : List Nat) (c : Nat) (s : State) : SameBut [.host, .maint, .ev, .alloc, .log] s (l.foldl (fun s t => detectCause t c s) s) :=
  SameBut.foldl (fun w t => detectCause_same t c w) l (SameBut.refl _ s)

theorem setSection_same (v : Vector (Option Nat) 4) (s : State) (k : Fin 4) : SameBut [.host, .maint, .ev, .dpc, .alloc, .log] s (setSection v s k) := by
  unfold setSection
  split
  · exact SameBut.refl _ s
  · extract_lets lost was u ts
    have hu : SameBut [.host, .maint, .ev, .dpc, .alloc, .log] s u := (SameBut.refl _ s).onDpc _ rfl
    split
    · exact hu.step (foldl_detectCause_same ts 4 u) rfl
    · split
      · exact hu.onAlloc _ rfl
      · exact hu

theorem setSection_dpc_none {v : Vector (Option Nat) 4} {s : State} {k : Fin 4} (h : v[k] = none) : setSection v s k = s := by
  rw [setSection, h]

theorem setSection_dpc_some {v : Vector (Option Nat) 4} {s : State} {k : Fin 4} {kw : Nat} (h : v[k] = some kw) :
    (setSection v s k).dpc = sectionTaken k kw s s.dpc := by
  rw [setSection, h]
  dsimp only
  split
  · exact foldl_detectCause_same _ 4 _ .dpc (by decide)
  · split <;> rfl

/-! Causes over the sections: none goes. -/

theorem tb_or_left {a b i : Nat} (h : tb a i = true) : tb (a ||| b) i = true := by
  rw [tb, Nat.testBit_or]
  simp [tb] at h
  simp [h]

theorem detectCause_keeps_cause {t c i : Nat} {s : State} {n : Fin 16} (h : tb (s.alloc.thr[n]).causes i = true) : tb ((detectCause t c s).alloc.thr[n]).causes i = true := by
  by_cases ht : t < 16
  · by_cases hn : n = ⟨t, ht⟩
    · subst hn
      rw [show detectCause t c s = detectCause (⟨t, ht⟩ : Fin 16).val c s from rfl, detectCause_causes]
      exact tb_or_left h
    · rw [show detectCause t c s = detectCause (⟨t, ht⟩ : Fin 16).val c s from rfl, detectCause_other _ _ _ hn]
      exact h
  · rw [detectCause, fin?, dif_neg ht]
    exact h

theorem foldl_detectCause_keeps {l : List Nat} {c i : Nat} {s : State} {n : Fin 16} (h : tb (s.alloc.thr[n]).causes i = true) :
    tb ((l.foldl (fun s t => detectCause t c s) s).alloc.thr[n]).causes i = true := by
  induction l generalizing s with
  | nil => exact h
  | cons t l ih => exact ih (detectCause_keeps_cause h)

/-- A cause found in each of a list of thrusters stands in all of them. -/
theorem foldl_detectCause_found {l : List Nat} {c : Nat} {s : State} {n : Fin 16} (h : n.val ∈ l) : tb ((l.foldl (fun s t => detectCause t c s) s).alloc.thr[n]).causes c = true := by
  induction l generalizing s with
  | nil => simp at h
  | cons t l ih =>
    rcases List.mem_cons.mp h with rfl | h
    · refine foldl_detectCause_keeps (s := detectCause n.val c s) ?_
      rw [detectCause_causes, tb, Nat.testBit_or, Nat.testBit_two_pow_self, Bool.or_true]
    · exact ih h

theorem setSection_keeps_cause {v : Vector (Option Nat) 4} {s : State} {k : Fin 4} {i : Nat} {n : Fin 16} (h : tb (s.alloc.thr[n]).causes i = true) :
    tb ((setSection v s k).alloc.thr[n]).causes i = true := by
  unfold setSection
  split
  · exact h
  · extract_lets lost was u ts
    have hu : tb (u.alloc.thr[n]).causes i = true := h
    split
    · exact foldl_detectCause_keeps hu
    · split
      · simp only [State.onAlloc_alloc, Fin.getElem_fin, vmapI_getElem]
        split
        · exact hu
        · exact hu
      · exact hu

/-- A section newly below BUS_LOSS_KW takes its thrusters out with cause 4. -/
theorem setSection_lost {v : Vector (Option Nat) 4} {s : State} {k : Fin 4} {kw : Nat} {n : Fin 16} (h : v[k] = some kw) (hlost : kw < fld (powW s 5) 15 0)
    (hwas : s.dpc.secLost[k] = false) (hn : n.val ∈ thrusters s) (hsec : thrSection s n.val = k.val) : tb ((setSection v s k).alloc.thr[n]).causes 4 = true := by
  rw [setSection, h]
  dsimp only
  rw [if_pos (by rw [hwas]; simp [hlost])]
  exact foldl_detectCause_found (List.mem_filter.mpr ⟨hn, beq_iff_eq.mpr hsec⟩)

end Sys2Proof.Machine
end

section
namespace Sys2Proof.Machine

/-! The four sections in turn. -/

/-- What a section has: available power, limit, loss. -/
def sectionOf (s : State) (k : Fin 4) : Option Nat × Option Nat × Bool := (s.dpc.avail[k], s.dpc.limit[k], s.dpc.secLost[k])

/-- What it has after new available powers. -/
def sectionNew (v : Vector (Option Nat) 4) (s : State) (k : Fin 4) : Option Nat × Option Nat × Bool :=
  match v[k] with
  | none => sectionOf s k
  | some kw => (some kw, newLimit s s.dpc.limit[k] kw, decide (kw < fld (powW s 5) 15 0))

theorem sectionOf_congr {s t : State} (h : t.dpc = s.dpc) (k : Fin 4) : sectionOf t k = sectionOf s k := by rw [sectionOf, sectionOf, h]

theorem powW_congr {s t : State} (h : t.cfg = s.cfg) : powW t = powW s := by
  unfold powW State.inForce
  rw [h]

theorem newLimit_congr {s t : State} (h : t.cfg = s.cfg) : newLimit t = newLimit s := by
  unfold newLimit
  rw [powW_congr h]

theorem setSection_cfg (v : Vector (Option Nat) 4) (s : State) (k : Fin 4) : (setSection v s k).cfg = s.cfg := setSection_same v s k .cfg (by decide)

theorem sectionOf_taken_self (k : Fin 4) (kw : Nat) (s : State) : sectionOf (s.onDpc (sectionTaken k kw s)) k = (some kw, newLimit s s.dpc.limit[k] kw, decide (kw < fld (powW s 5) 15 0)) := by
  simp [sectionOf, sectionTaken]

theorem sectionOf_taken_other {k j : Fin 4} (hj : j ≠ k) (kw : Nat) (s : State) : sectionOf (s.onDpc (sectionTaken k kw s)) j = sectionOf s j := by
  have hne : k.val ≠ j.val := fun h => hj (Fin.ext h.symm)
  simp [sectionOf, sectionTaken, hne]

theorem sectionOf_setSection_self (v : Vector (Option Nat) 4) (s : State) (k : Fin 4) : sectionOf (setSection v s k) k = sectionNew v s k := by
  unfold sectionNew
  cases h : v[k] with
  | none => rw [setSection_dpc_none h]
  | some kw => exact (sectionOf_congr (t := setSection v s k) (setSection_dpc_some h) k).trans (sectionOf_taken_self k kw s)

theorem sectionOf_setSection_other {k j : Fin 4} (hj : j ≠ k) (v : Vector (Option Nat) 4) (s : State) : sectionOf (setSection v s k) j = sectionOf s j := by
  cases h : v[k] with
  | none => rw [setSection_dpc_none h]
  | some kw => rw [← sectionOf_taken_other hj kw s]; exact sectionOf_congr (setSection_dpc_some h) j

theorem sectionNew_setSection_other {k j : Fin 4} (hj : j ≠ k) (v : Vector (Option Nat) 4) (s : State) : sectionNew v (setSection v s k) j = sectionNew v s j := by
  have hof := sectionOf_setSection_other hj v s
  have hlimit : (setSection v s k).dpc.limit[j] = s.dpc.limit[j] := congrArg (fun x => x.2.1) hof
  unfold sectionNew
  rw [hof, newLimit_congr (setSection_cfg v s k), powW_congr (setSection_cfg v s k), hlimit]

theorem foldl_setSection (v : Vector (Option Nat) 4) {l : List (Fin 4)} (hl : l.Nodup) (s : State) (j : Fin 4) :
    sectionOf (l.foldl (setSection v) s) j = if j ∈ l then sectionNew v s j else sectionOf s j := by
  induction l generalizing s with
  | nil => rfl
  | cons k l ih =>
    obtain ⟨hk, hl⟩ := List.nodup_cons.mp hl
    rw [List.foldl_cons, ih hl]
    by_cases hj : j = k
    · subst hj
      rw [if_neg hk, if_pos List.mem_cons_self, sectionOf_setSection_self]
    · rw [sectionNew_setSection_other hj, sectionOf_setSection_other hj]
      simp [hj]

/-- Each section takes its new power. -/
theorem setAvail_section (v : Vector (Option Nat) 4) (s : State) (k : Fin 4) : sectionOf (setAvail v s) k = sectionNew v s k := by
  have hnodup : (fins 4).Nodup := List.nodup_finRange 4
  have hmem : k ∈ fins 4 := List.mem_finRange k
  rw [setAvail_eq, foldl_setSection v hnodup, if_pos hmem]

theorem foldl_setSection_keeps_cause {v : Vector (Option Nat) 4} {l : List (Fin 4)} {s : State} {i : Nat} {n : Fin 16} (h : tb (s.alloc.thr[n]).causes i = true) :
    tb ((l.foldl (setSection v) s).alloc.thr[n]).causes i = true := by
  induction l generalizing s with
  | nil => exact h
  | cons k l ih => exact ih (setSection_keeps_cause h)

theorem foldl_setSection_lost {v : Vector (Option Nat) 4} {l : List (Fin 4)} {s : State} {k : Fin 4} {kw : Nat} {n : Fin 16} (hk : k ∈ l) (h : v[k] = some kw)
    (hlost : kw < fld (powW s 5) 15 0) (hwas : s.dpc.secLost[k] = false) (hn : n.val ∈ thrusters s) (hsec : thrSection s n.val = k.val) :
    tb ((l.foldl (setSection v) s).alloc.thr[n]).causes 4 = true := by
  induction l generalizing s with
  | nil => simp at hk
  | cons j l ih =>
    by_cases hj : k = j
    · subst hj
      exact foldl_setSection_keeps_cause (s := setSection v s k) (setSection_lost h hlost hwas hn hsec)
    · have hcfg := setSection_cfg v s j
      have hof := sectionOf_setSection_other hj v s
      refine ih (s := setSection v s j) ((List.mem_cons.mp hk).resolve_left hj) ?_ ?_ ?_ ?_
      · rwa [powW_congr hcfg]
      · rw [show (setSection v s j).dpc.secLost[k] = s.dpc.secLost[k] from congrArg (fun x => x.2.2) hof, hwas]
      · rwa [thrusters_congr hcfg]
      · rwa [thrSection_congr hcfg]

/-- The time of the frame and the mark of its loss are not a section's. -/
theorem setSection_pms (v : Vector (Option Nat) 4) (s : State) (k : Fin 4) : (setSection v s k).dpc.pmsMt = s.dpc.pmsMt ∧ (setSection v s k).dpc.pmsLost = s.dpc.pmsLost := by
  cases h : v[k] with
  | none => rw [setSection_dpc_none h]; exact ⟨rfl, rfl⟩
  | some kw => rw [setSection_dpc_some h]; exact ⟨rfl, rfl⟩

theorem setAvail_pms (v : Vector (Option Nat) 4) (s : State) : (setAvail v s).dpc.pmsMt = s.dpc.pmsMt ∧ (setAvail v s).dpc.pmsLost = s.dpc.pmsLost := by
  rw [setAvail_eq]
  generalize fins 4 = l
  induction l generalizing s with
  | nil => exact ⟨rfl, rfl⟩
  | cons k l ih =>
    obtain ⟨hmt, hlost⟩ := ih (setSection v s k)
    obtain ⟨hmt', hlost'⟩ := setSection_pms v s k
    exact ⟨hmt.trans hmt', hlost.trans hlost'⟩

theorem detectCause_events (t c : Nat) (s : State) : EventsBut [56, 120] s (detectCause t c s) := by
  unfold detectCause
  split
  · dsimp only
    split
    · exact raise_eventsBut _ rfl
    · exact fun _ _ => rfl
  · exact EventsBut.refl _ s

theorem setAvail_events (v : Vector (Option Nat) 4) (s : State) : EventsBut [56, 120] s (setAvail v s) := by
  rw [setAvail_eq]
  refine EventsBut.foldl (fun w k => ?_) _ s
  unfold setSection
  split
  · exact EventsBut.refl _ w
  · extract_lets lost was u ts
    have hu : EventsBut [56, 120] w u := fun _ _ => rfl
    split
    · exact hu.trans (EventsBut.foldl (fun x t => detectCause_events t 4 x) ts u)
    · split
      · exact hu.trans fun _ _ => rfl
      · exact hu

/-! PMS_FRAME and PMS_TIMEOUT. -/

/-- A frame of the power management system has come. -/
def pmsHeard (s : State) : State := s.onDpc fun d => { d with pmsMt := some s.time.mt, pmsLost := false }

/-- The available powers of its data. -/
def pmsPowers (data : List Byte) (s : State) : Vector (Option Nat) 4 := Vector.ofFn fun k => pmsField s data k

theorem exec_pmsFrame (data : List Byte) (s : State) : exec (.pmsFrame data) s = .next (
    if !(fins 6).any (fun c => pmsPort s == c.val && canActive s c) then s
    else if s.dpc.pmsLost then raise 13 2 (setAvail (pmsPowers data (pmsHeard s)) (pmsHeard s)) else setAvail (pmsPowers data (pmsHeard s)) (pmsHeard s)) := rfl

theorem pmsField_heard (data : List Byte) (s : State) (k : Fin 4) : (pmsPowers data (pmsHeard s))[k] = pmsField s data k := by
  simp only [pmsPowers, Fin.getElem_fin, Vector.getElem_ofFn]
  rfl

theorem sectionNew_heard_some {data : List Byte} {s : State} {k : Fin 4} {kw : Nat} (h : pmsField s data k = some kw) :
    sectionNew (pmsPowers data (pmsHeard s)) (pmsHeard s) k = (some kw, newLimit s s.dpc.limit[k] kw, decide (kw < fld (powW s 5) 15 0)) := by
  rw [sectionNew, pmsField_heard, h]
  rfl

theorem sectionNew_heard_none {data : List Byte} {s : State} {k : Fin 4} (h : pmsField s data k = none) :
    sectionNew (pmsPowers data (pmsHeard s)) (pmsHeard s) k = sectionOf s k := by
  rw [sectionNew, pmsField_heard, h]
  rfl

theorem pmsFrame_sets {data : List Byte} {b : Fin 6} {s : State} (hport : pmsPort s = b.val) (hactive : canActive s b = true) :
    ∃ t, Steps (.pmsFrame data) s t ∧ t.dpc.pmsMt = some s.time.mt ∧ t.dpc.pmsLost = false ∧
      (∀ (k : Fin 4) (kw : Nat), pmsField s data k = some kw → t.dpc.avail[k] = some kw ∧ t.dpc.limit[k] = newLimit s s.dpc.limit[k] kw ∧
        t.dpc.secLost[k] = decide (kw < fld (powW s 5) 15 0)) ∧
      (∀ k : Fin 4, pmsField s data k = none → t.dpc.avail[k] = s.dpc.avail[k] ∧ t.dpc.limit[k] = s.dpc.limit[k] ∧ t.dpc.secLost[k] = s.dpc.secLost[k]) ∧
      (∀ (k : Fin 4) (kw : Nat) (n : Fin 16), pmsField s data k = some kw → kw < fld (powW s 5) 15 0 → s.dpc.secLost[k] = false → n.val ∈ thrusters s → thrSection s n.val = k.val →
        tb (t.alloc.thr[n]).causes 4 = true) ∧ (s.dpc.pmsLost = true → s.hp.ready = true → Occurred 13 2 s t) := by
  have hany : (fins 6).any (fun c => pmsPort s == c.val && canActive s c) = true :=
    List.any_eq_true.mpr ⟨b, List.mem_finRange b, by simp [hport, hactive]⟩
  have hsection := setAvail_section (pmsPowers data (pmsHeard s)) (pmsHeard s)
  obtain ⟨hmt, hlost⟩ := setAvail_pms (pmsPowers data (pmsHeard s)) (pmsHeard s)
  have hevents := setAvail_events (pmsPowers data (pmsHeard s)) (pmsHeard s)
  have hhp : (setAvail (pmsPowers data (pmsHeard s)) (pmsHeard s)).hp = s.hp := setAvail_same _ _ .hp (by decide)
  have hcause : ∀ (k : Fin 4) (kw : Nat) (n : Fin 16), pmsField s data k = some kw → kw < fld (powW s 5) 15 0 → s.dpc.secLost[k] = false → n.val ∈ thrusters s →
      thrSection s n.val = k.val → tb ((setAvail (pmsPowers data (pmsHeard s)) (pmsHeard s)).alloc.thr[n]).causes 4 = true := fun k kw n h hkw hwas hn hsec => by
    rw [setAvail_eq]
    exact foldl_setSection_lost (List.mem_finRange k) ((pmsField_heard data s k).trans h) hkw hwas hn hsec
  have hexec := exec_pmsFrame data s
  rw [hany, if_neg (by decide)] at hexec
  generalize setAvail (pmsPowers data (pmsHeard s)) (pmsHeard s) = w at hexec hsection hmt hlost hevents hhp hcause
  refine ⟨_, hexec, ?_⟩
  have hdpc : (if s.dpc.pmsLost then raise 13 2 w else w).dpc = w.dpc := by
    split
    · exact raise_dpc _ _ w
    · rfl
  have halloc : (if s.dpc.pmsLost then raise 13 2 w else w).alloc = w.alloc := by
    split
    · exact raise_alloc _ _ w
    · rfl
  rw [hdpc, halloc]
  refine ⟨hmt, hlost, fun k kw h => ?_, fun k h => ?_, hcause, fun hl hr => ?_⟩
  · have hnew := (hsection k).trans (sectionNew_heard_some h)
    exact ⟨congrArg (fun x => x.1) hnew, congrArg (fun x => x.2.1) hnew, congrArg (fun x => x.2.2) hnew⟩
  · have hnew := (hsection k).trans (sectionNew_heard_none h)
    exact ⟨congrArg (fun x => x.1) hnew, congrArg (fun x => x.2.1) hnew, congrArg (fun x => x.2.2) hnew⟩
  · rw [if_pos hl]
    have hbefore : EventsBut [56, 120] s w := hevents
    exact (raise_occurs 2 (by rw [hhp, hr]) (by decide)).after_events hbefore (by decide)

/-- The time at which the power management system is silent too long. -/
def pmsDue (s : State) : State :=
  match s.dpc.pmsMt with
  | some m => advanceTo (m + fld (powW s 3) 31 16 * msTicks) s
  | none => s

/-- Its loss. -/
def pmsLoss (s : State) : State := raise 13 258 ((pmsDue s).onDpc fun d => { d with pmsLost := true })

/-- The fallback power of each section that has an offset. -/
def pmsFallback (s : State) : Vector (Option Nat) 4 :=
  Vector.ofFn fun k : Fin 4 => if fld (powW s 2) (8 * k.val + 7) (8 * k.val) = 0xFF then none else some (fld (powW s 4) 31 16)

theorem exec_pmsTimeout (s : State) : exec .pmsTimeout s = .next (
    if pmsPort s = 7 || s.dpc.pmsLost then s else if bit (powW (pmsLoss s) 4) 0 then setAvail (pmsFallback (pmsLoss s)) (pmsLoss s) else pmsLoss s) := rfl

theorem pmsDue_same (s : State) : SameBut [.time] s (pmsDue s) := by
  unfold pmsDue
  split
  · exact advanceTo_same _ s
  · exact SameBut.refl _ s

theorem pmsLoss_same (s : State) : SameBut [.time, .dpc, .host, .maint, .ev, .log] s (pmsLoss s) :=
  (((SameBut.refl _ s).step (pmsDue_same s) rfl).onDpc _ rfl).step (raise_same _ _ _) rfl

theorem pmsLoss_dpc (s : State) : (pmsLoss s).dpc = { s.dpc with pmsLost := true } := by
  rw [pmsLoss, raise_dpc, State.onDpc_dpc, (pmsDue_same s .dpc (by decide) : _ = s.dpc)]

theorem pmsTimeout_exec {s : State} (hport : pmsPort s ≠ 7) (hlost : s.dpc.pmsLost = false) : exec .pmsTimeout s = .next (
    if bit (powW s 4) 0 then setAvail (pmsFallback (pmsLoss s)) (pmsLoss s) else pmsLoss s) := by
  rw [exec_pmsTimeout, if_neg (by simp [hport, hlost]), powW_congr (pmsLoss_same s .cfg (by decide))]

theorem pmsTimeout_raises {s : State} (hport : pmsPort s ≠ 7) (hlost : s.dpc.pmsLost = false) (hbit : bit (powW s 4) 0 = false) (hr : s.hp.ready = true) :
    ∃ t, Steps .pmsTimeout s t ∧ t.dpc = { s.dpc with pmsLost := true } ∧ t.alloc = s.alloc ∧ Occurred 13 258 s t ∧ EventsBut [13, 120] s t := by
  have hev : (pmsDue s).ev = s.ev := pmsDue_same s .ev (by decide)
  have hexec := pmsTimeout_exec hport hlost
  rw [hbit, if_neg (by decide)] at hexec
  refine ⟨_, hexec, pmsLoss_dpc s, pmsLoss_same s .alloc (by decide), raise_occurred _ ?_ (by decide) ?_, raise_eventsBut _ ?_⟩
  · rw [State.onDpc_hp, (pmsDue_same s .hp (by decide) : _ = s.hp), hr]
  · rw [State.onDpc_ev, hev]
  · rw [State.onDpc_ev, hev]

theorem pmsTimeout_falls {s : State} (hport : pmsPort s ≠ 7) (hlost : s.dpc.pmsLost = false) (hbit : bit (powW s 4) 0 = true) :
    ∃ t, Steps .pmsTimeout s t ∧ t.dpc.pmsLost = true ∧ ∀ k : Fin 4, fld (powW s 2) (8 * k.val + 7) (8 * k.val) ≠ 0xFF → t.dpc.avail[k] = some (fld (powW s 4) 31 16) := by
  have hexec := pmsTimeout_exec hport hlost
  rw [hbit, if_pos rfl] at hexec
  refine ⟨_, hexec, ?_, fun k hk => ?_⟩
  · rw [(setAvail_pms _ _).2, pmsLoss_dpc]
  · have hpower : (pmsFallback (pmsLoss s))[k] = some (fld (powW s 4) 31 16) := by
      simp only [pmsFallback, powW_congr (pmsLoss_same s .cfg (by decide) : _ = s.cfg), Fin.getElem_fin, Vector.getElem_ofFn, if_neg hk]
    have hnew := setAvail_section (pmsFallback (pmsLoss s)) (pmsLoss s) k
    rw [sectionNew, hpower] at hnew
    exact congrArg (fun x => x.1) hnew

theorem pmsFrame_silent {data : List Byte} {s : State} (h : ∀ b : Fin 6, pmsPort s = b.val → canActive s b = false) : Steps (.pmsFrame data) s s := by
  have hany : (fins 6).any (fun c => pmsPort s == c.val && canActive s c) = false := by
    rw [List.any_eq_false]
    intro b _
    by_cases hb : pmsPort s = b.val
    · simp [h b hb]
    · simp [hb]
  rw [Steps, exec_pmsFrame, hany]
  rfl

end Sys2Proof.Machine

open Sys2Proof Sys2Proof.Machine

/-- Settles O37: the commands, the step in its stages, and the sections of a PMS frame in turn. -/
theorem positioningTakesCommandsAndControlsOncePerFrame : Obligations.PositioningTakesCommandsAndControlsOncePerFrame := by
  unfold Obligations.PositioningTakesCommandsAndControlsOncePerFrame
  refine ⟨?function, ?noEstimate, ?noTrack, ?target, ?targetRefused, ?joystick, ?track, ?trackRefused, ?ran, ?noFunction, ?lost, ?joyStep, ?commit, ?back, ?noResult, ?late,
    ?timeout, ?reached, ?notReached, ?excursion, ?excursionOver, ?pms, ?pmsLoss, ?pmsFallback, ?pmsNone, ?pmsSilent⟩
  case function => exact fun p c s h ho hest htrack => setFunction_waits h ho hest htrack
  case noEstimate => exact fun p c s h ho hest => setFunction_noEstimate h ho hest
  case noTrack => exact fun p c s h ho hfn hest htrack => setFunction_noTrack h ho hfn hest htrack
  case target => exact fun p c s h ho hok => setTarget_waits h ho hok
  case targetRefused => exact fun p c st detail s h ho hno => setTarget_refused h ho hno
  case joystick => exact fun p c s h ho => joystick_keeps h ho
  case track => exact fun p c s h ho ha hm hfn hw => trackControl_acts h ho ha hm hfn hw
  case trackRefused => exact fun p c s h ho ha hm hfn => trackControl_refused h ho ha hm hfn
  case ran => exact fun s h => ⟨_, positionControlStep_steps_of_ran h, stepAt_same 1500 s⟩
  case noFunction => exact fun s hm hrun haction htargets hfn => step_of_no_function hm hrun haction htargets hfn
  case lost => exact fun s hm hrun haction htargets hfn hmode => step_of_lost hm hrun haction htargets hfn hmode
  case joyStep => exact fun s hm hrun haction htargets hfn hhost hnext hcomp => step_of_joystick hm hrun haction htargets hfn hhost hnext hcomp
  case commit => exact fun x b s hx hb ht hfell => mpcResult_commits hx hb ht hfell
  case back => exact fun x b s hx hb ht hfell hrun hr => mpcResult_returns hx hb ht hfell hrun hr
  case noResult =>
    intro s h
    have harm : exec .mpcResultCommit s = execMpcResultCommit s := rfl
    rw [Steps, harm, execMpcResultCommit, h]
  case late => exact fun b s hb hon hr => mpcLate_falls hb hon hr
  case timeout => exact fun s hhost hlost hfn hr => joystickTimeout_zeroes hhost hlost hfn hr
  case reached =>
    intro s hdone hcount hr
    have hexec := exec_targetReached s
    rw [hdone, if_pos (by simpa using hcount)] at hexec
    exact ⟨_, hexec, raise_dpc _ _ _, raise_occurred _ hr (by decide) rfl, raise_eventsBut _ rfl⟩
  case notReached =>
    intro s h
    rw [Steps, exec_targetReached, if_neg]
    rcases h with h | h
    · simp [h]
    · simp [h]
  case excursion =>
    intro heading h s hh hoff hcount hr
    have hexec := exec_dpcExcursion heading true s
    rw [excursion_index hh, excursion, if_pos rfl, hoff, if_pos (by simpa using hcount)] at hexec
    exact ⟨_, hexec, raise_dpc _ _ _, raise_occurred _ hr (by decide) rfl, raise_eventsBut _ rfl⟩
  case excursionOver =>
    intro heading h s hh hon hcount hr
    have hexec := exec_dpcExcursion heading false s
    rw [excursion_index hh, excursion, if_neg (by decide), hon, if_pos (by simpa using hcount)] at hexec
    exact ⟨_, hexec, raise_dpc _ _ _, raise_occurred _ hr (by decide) rfl, raise_eventsBut _ rfl⟩
  case pms => exact fun data b s hport hactive => pmsFrame_sets hport hactive
  case pmsLoss => exact fun s hport hlost hbit hr => pmsTimeout_raises hport hlost hbit hr
  case pmsFallback => exact fun s hport hlost hbit => pmsTimeout_falls hport hlost hbit
  case pmsNone =>
    intro s h
    rw [Steps, exec_pmsTimeout, if_pos (by simpa using h)]
  case pmsSilent => exact fun data s h => pmsFrame_silent h
end

section
/-! The ticket of a number in the table (8.4): what a change of the table makes of it, and what charging, suspending and serving leave of it. -/

namespace Sys2Proof.Machine

theorem ticketOf_id {s : State} {id : Nat} {tk : Ticket} (h : ticketOf s id = some tk) : tk.id = id :=
  beq_iff_eq.mp (List.find?_some h :)

theorem ticketOf_congr {s t : State} (h : t.solv.tickets = s.solv.tickets) (id : Nat) : ticketOf t id = ticketOf s id := by
  rw [ticketOf, ticketOf, h]

/-- A change of every ticket that keeps the numbers changes the one that is found. -/
theorem ticketOf_map {s t : State} {f : Ticket → Ticket} (hf : ∀ x, (f x).id = x.id) (h : t.solv.tickets = s.solv.tickets.map f) (id : Nat) :
    ticketOf t id = (ticketOf s id).map f := by
  rw [ticketOf, ticketOf, h, List.find?_map]
  have hp : ((fun x : Ticket => x.id == id) ∘ f) = fun x => x.id == id := funext fun x => by simp [hf x]
  rw [hp]

theorem ticketOf_onTicket_self {id : Nat} {f : Ticket → Ticket} (hf : ∀ x, x.id = id → (f x).id = id) (s : State) :
    ticketOf (onTicket id f s) id = (ticketOf s id).map f := by
  rw [ticketOf_map (s := s) (t := onTicket id f s) (f := fun t => if t.id = id then f t else t) (fun x => ?_) rfl id]
  · cases h : ticketOf s id with
    | none => rfl
    | some tk => simp [ticketOf_id h]
  · split
    next h => rw [hf x h, h]
    next => rfl

theorem ticketOf_onTicket_other {id j : Nat} (hj : j ≠ id) {f : Ticket → Ticket} (hf : ∀ x, (f x).id = x.id) (s : State) :
    ticketOf (onTicket j f s) id = ticketOf s id := by
  rw [ticketOf_map (s := s) (t := onTicket j f s) (f := fun t => if t.id = j then f t else t) (fun x => ?_) rfl id]
  · cases h : ticketOf s id with
    | none => rfl
    | some tk => simp [ticketOf_id h, hj.symm]
  · split
    next => exact hf x
    next => rfl

theorem ticketOf_dropTicket (id : Nat) (s : State) : ticketOf (dropTicket id s) id = none := by
  simp [ticketOf, dropTicket, List.find?_eq_none]

/-- Apart from its copies, the ticket is found in the table without copies. -/
theorem ticketOf_bare (s : State) (id : Nat) : (ticketOf s id).map bare = (bareTickets s).find? fun t => t.id == id := by
  rw [bareTickets, List.find?_map]
  rfl

theorem ticketOf_none_of_bareTickets {s t : State} (h : bareTickets t = bareTickets s) {id : Nat} (hn : ticketOf s id = none) : ticketOf t id = none := by
  have hb := ticketOf_bare t id
  rw [h, ← ticketOf_bare s id, hn] at hb
  simpa using hb

/-- A copy is left alone, but that it may have been suspended while it ran. -/
def CopyKept (a b : Copy) : Prop := b = a ∨ running a = true ∧ b = { a with suspended := true }

theorem CopyKept.refl (a : Copy) : CopyKept a a := .inl rfl

theorem CopyKept.trans {a b c : Copy} (h : CopyKept a b) (k : CopyKept b c) : CopyKept a c := by
  obtain rfl | ⟨hrun, rfl⟩ := h
  · exact k
  · obtain rfl | ⟨hrun', -⟩ := k
    · exact .inr ⟨hrun, rfl⟩
    · simp [running] at hrun'

theorem CopyKept.of_idle {a b : Copy} (h : CopyKept a b) (ha : running a = false) : b = a := by
  obtain rfl | ⟨hrun, -⟩ := h
  · rfl
  · rw [ha] at hrun; cases hrun

theorem CopyKept.place {a b : Copy} (h : CopyKept a b) : b.region = a.region ∧ b.cluster = a.cluster ∧ b.out = a.out := by
  obtain rfl | ⟨-, rfl⟩ := h <;> exact ⟨rfl, rfl, rfl⟩

/-- A ticket is left alone, but that some of its copies may have been suspended. -/
structure TicketKept (x y : Ticket) : Prop where
  outer : bare y = bare x
  copies : List.Forall₂ CopyKept x.copies y.copies

theorem copiesKept_trans {l m n : List Copy} (h : List.Forall₂ CopyKept l m) (k : List.Forall₂ CopyKept m n) : List.Forall₂ CopyKept l n := by
  induction h generalizing n with
  | nil => exact k
  | cons hab _ ih =>
    cases k with
    | cons hbc k => exact .cons (hab.trans hbc) (ih k)

theorem TicketKept.refl (x : Ticket) : TicketKept x x := ⟨rfl, List.forall₂_same.mpr fun a _ => .refl a⟩

theorem TicketKept.trans {x y z : Ticket} (h : TicketKept x y) (k : TicketKept y z) : TicketKept x z := ⟨k.outer.trans h.outer, copiesKept_trans h.copies k.copies⟩

theorem TicketKept.id {x y : Ticket} (h : TicketKept x y) : y.id = x.id := (congrArg Ticket.id h.outer :)

/-- The copies of a choice are suspended. -/
def suspendWhere (hit : Copy → Bool) (x : Ticket) : Ticket := { x with copies := x.copies.map fun c => if hit c then { c with suspended := true } else c }

theorem suspendWhere_kept {hit : Copy → Bool} (hhit : ∀ a, hit a = true → running a = true) (x : Ticket) : TicketKept x (suspendWhere hit x) := by
  refine ⟨rfl, List.forall₂_map_right_iff.mpr (List.forall₂_same.mpr fun a _ => ?_)⟩
  split
  next h => exact .inr ⟨hhit a h, rfl⟩
  next => exact .inl rfl

/-- The ticket of a number is left alone, but that some of its copies may have been suspended. -/
def KeepsTicket (id : Nat) (s t : State) : Prop := ∀ x, ticketOf s id = some x → ∃ y, ticketOf t id = some y ∧ TicketKept x y

theorem KeepsTicket.of_eq {id : Nat} {s t : State} (h : ticketOf t id = ticketOf s id) : KeepsTicket id s t := fun x hx => ⟨x, h.trans hx, .refl x⟩

theorem KeepsTicket.refl (id : Nat) (s : State) : KeepsTicket id s s := .of_eq rfl

theorem KeepsTicket.trans {id : Nat} {s t u : State} (h : KeepsTicket id s t) (k : KeepsTicket id t u) : KeepsTicket id s u := by
  intro x hx
  obtain ⟨y, hy, hxy⟩ := h x hx
  obtain ⟨z, hz, hyz⟩ := k y hy
  exact ⟨z, hz, hxy.trans hyz⟩

theorem KeepsTicket.of_map {s t : State} {f : Ticket → Ticket} (hf : ∀ x, TicketKept x (f x)) (h : t.solv.tickets = s.solv.tickets.map f) (id : Nat) : KeepsTicket id s t := by
  intro x hx
  refine ⟨f x, ?_, hf x⟩
  rw [ticketOf_map (fun y => (hf y).id) h, hx]
  rfl

/-- A running copy on a cluster that one of a list takes. -/
def takenBy (l : List Copy) (c : Copy) : Bool := running c && l.any fun n => n.region == c.region && n.cluster == c.cluster

theorem claim_keepsTicket (id : Nat) (l : List Copy) (s : State) : KeepsTicket id s (claim l s) := by
  refine .of_map (f := fun t => if yields t.work then suspendWhere (takenBy l) t else t) (fun x => ?_) rfl id
  split
  · exact suspendWhere_kept (fun a ha => (Bool.and_eq_true_iff.mp ha).1) x
  · exact .refl x

/-- Charging may suspend copies. -/
theorem charge_tickets (s : State) : ∃ f : Ticket → Ticket, (∀ x, TicketKept x (f x)) ∧ (charge s).solv.tickets = s.solv.tickets.map f := by
  unfold charge
  extract_lets d host left
  by_cases hleft : left = 0
  · refine ⟨fun t => if isHost t then suspendWhere running t else t, fun x => ?_, if_pos hleft⟩
    dsimp only
    split
    · exact suspendWhere_kept (fun _ ha => ha) x
    · exact .refl x
  · exact ⟨id, .refl, (if_neg hleft).trans (List.map_id _).symm⟩

theorem charge_keepsTicket (id : Nat) (s : State) : KeepsTicket id s (charge s) := by
  obtain ⟨f, hf, htickets⟩ := charge_tickets s
  exact .of_map hf htickets id

theorem startTicket_keepsTicket {id : Nat} {u : Ticket} (hu : u.id ≠ id) (s : State) : KeepsTicket id s (startTicket u s) := by
  unfold startTicket
  extract_lets l s'
  have hs : KeepsTicket id s s' := by
    simp only [s']
    split
    · exact .refl id s
    · exact claim_keepsTicket id l s
  split
  · exact .refl id s
  · exact hs.trans (.of_eq (ticketOf_onTicket_other (f := fun t => { t with copies := l }) hu (fun _ => rfl) s'))

theorem mem_inOrder {t u : Ticket} {l : List Ticket} : u ∈ inOrder t l ↔ u = t ∨ u ∈ l := by
  induction l with
  | nil => simp [inOrder]
  | cons v l ih =>
    unfold inOrder
    split
    · simp [ih]; tauto
    · simp

theorem mem_foldl_inOrder {l m : List Ticket} {u : Ticket} (h : u ∈ l.foldl (fun a t => inOrder t a) m) : u ∈ l ∨ u ∈ m := by
  induction l generalizing m with
  | nil => exact .inr h
  | cons t l ih =>
    rcases ih h with h | h
    · exact .inl (List.mem_cons_of_mem t h)
    · rcases mem_inOrder.mp h with rfl | h
      · exact .inl List.mem_cons_self
      · exact .inr h

/-- Those that Gazebo serves stand in the list it serves. -/
theorem mem_of_mem_byClass {l : List Ticket} {u : Ticket} (h : u ∈ byClass l) : u ∈ l := by
  obtain ⟨k, -, hu⟩ := List.mem_flatMap.mp h
  rcases mem_foldl_inOrder hu with hu | hu
  · exact (List.mem_filter.mp hu).1
  · cases hu

/-- Serving the waiting problems leaves a problem that has its copies. -/
theorem serve_keepsTicket {id : Nat} {s : State} (h : ∀ x ∈ s.solv.tickets, x.id = id → x.copies ≠ []) : KeepsTicket id s (serve s) := by
  have hne : ∀ u ∈ byClass (s.solv.tickets.filter fun t => t.copies.isEmpty && !t.aborted), u.id ≠ id := by
    intro u hu hid
    obtain ⟨hmem, hwait⟩ := List.mem_filter.mp (mem_of_mem_byClass hu)
    exact h u hmem hid (List.isEmpty_iff.mp (Bool.and_eq_true_iff.mp hwait).1)
  unfold serve
  generalize byClass _ = l at hne
  clear h
  induction l generalizing s with
  | nil => exact .refl id s
  | cons u l ih =>
    exact (startTicket_keepsTicket (hne u List.mem_cons_self) s).trans (ih (s := startTicket u s) fun v hv => hne v (List.mem_cons_of_mem u hv))

/-! The rest of the solver's state. -/

/-- The solver apart from its tickets, its regions and the lane time. -/
def bareSolv (v : SolvState) : SolvState := { v with tickets := [], region := Vector.replicate 4 {}, reserve := 0, chargedAt := 0 }

theorem bareSolv_fields {v w : SolvState} (h : bareSolv v = bareSolv w) : v.structs = w.structs ∧ v.order = w.order :=
  ⟨(congrArg SolvState.structs h :), (congrArg SolvState.order h :)⟩

theorem charge_bareSolv (s : State) : bareSolv (charge s).solv = bareSolv s.solv := rfl

theorem startTicket_bareSolv (u : Ticket) (s : State) : bareSolv (startTicket u s).solv = bareSolv s.solv := by
  unfold startTicket
  extract_lets l s'
  have hs : bareSolv s'.solv = bareSolv s.solv := by
    simp only [s']
    split <;> rfl
  split
  · rfl
  · exact hs

theorem serve_bareSolv (s : State) : bareSolv (serve s).solv = bareSolv s.solv := by
  unfold serve
  generalize byClass _ = l
  induction l generalizing s with
  | nil => rfl
  | cons u l ih => exact (ih _).trans (startTicket_bareSolv u s)

theorem onRegion_bareSolv (r : Nat) (f : Region → Region) (s : State) : bareSolv (onRegion r f s).solv = bareSolv s.solv := by
  unfold onRegion
  split <;> rfl

end Sys2Proof.Machine
end

section
/-! Structures (8.3): SOLV_STRUCT_DEFINE with its installation, SOLV_STRUCT_DELETE, SOLV_UPDATE. -/

namespace Sys2Proof.Machine

/-! A row with checks of its own. -/

theorem steps_of_heard_checked {i : Instr} {op : Op} {p : Port} {c : Cmd} {s : State} {early : Cmd → State → Option Nat} {body : Cmd → State → State}
    (hexec : exec i s = .next (runOpV op p early body s)) (h : Heard p c s) (ho : c.op = op) (he : early c (taken p s) = none) : Steps i s (body c (taken p s)) := by
  rw [Steps, hexec, ← ho, runOpV_heard h early body he]; rfl

theorem steps_of_heard_bad {i : Instr} {op : Op} {p : Port} {c : Cmd} {s : State} {early : Cmd → State → Option Nat} {body : Cmd → State → State} {k : Nat}
    (hexec : exec i s = .next (runOpV op p early body s)) (h : Heard p c s) (ho : c.op = op) (he : early c (taken p s) = some k) : Steps i s (badValue p c k (taken p s)) := by
  rw [Steps, hexec, ← ho, runOpV_bad h early body he]; rfl

/-- The structure ID of a command. -/
def sidOf (c : Cmd) : Nat := fld (wd c.words 0) 5 0

theorem structOf_congr {s t : State} (h : t.solv = s.solv) (sid : Nat) : structOf t sid = structOf s sid := by rw [structOf, structOf, h]
theorem inFlight_congr {s t : State} (h : t.solv = s.solv) (sid : Nat) : inFlight t sid = inFlight s sid := by rw [inFlight, inFlight, h]
theorem versionsOf_congr {s t : State} (h : t.solv = s.solv) (sid : Nat) : versionsOf t sid = versionsOf s sid := by rw [versionsOf, versionsOf, inFlight_congr h]

theorem residentBut_congr {s t : State} (h : t.solv = s.solv) (sid : Nat) : residentBut t sid = residentBut s sid := by
  unfold residentBut
  rw [h]

/-! SOLV_STRUCT_DEFINE. -/

/-- The staged definition of an ID is consumed. -/
def stagedUsed (sid : Nat) (s : State) : State := s.onSolv fun v => { v with staged := v.staged.filter fun e => e.1 != sid }

/-- The row on the state in which its packet is taken. -/
def structDefineBody (p : Port) (c : Cmd) (s : State) : State :=
  let s := pending p c 5 s
  let staged := s.solv.staged.find? fun e => e.1 == sidOf c
  if sidOf c < 8 then reject p c 0x4012 0 s
  else if !(inFlight s (sidOf c)).isEmpty then reject p c 0x4013 0 (stagedUsed (sidOf c) s)
  else match staged with
    | none => reject p c 0x4015 6 s
    | some (_, ws) =>
      let x := parseStruct (sidOf c) ws
      match structFault x ws with
      | some r => reject p c 0x4015 r (stagedUsed (sidOf c) s)
      | none =>
        if residentMax < residentBut s (sidOf c) + x.size then reject p c 0x4014 0 (stagedUsed (sidOf c) s)
        else (stagedUsed (sidOf c) s).onSolv fun v => { v with installs := v.installs ++ [{ sid := sidOf c, port := p, tag := c.tag, s := x }] }

theorem exec_solvStructDefine (p : Port) (s : State) : exec (.solvStructDefine p) s = .next (runOp .solvStructDefine p (structDefineBody p) s) := rfl

/-- What the row does with a definition that no problem in flight holds up. -/
theorem structDefineBody_free {p : Port} {c : Cmd} {s : State} (hsid : 8 ≤ sidOf c) (hfree : inFlight s (sidOf c) = []) : structDefineBody p c (taken p s) =
    match s.solv.staged.find? fun e => e.1 == sidOf c with
    | none => reject p c 0x4015 6 (pending p c 5 (taken p s))
    | some (_, ws) =>
      match structFault (parseStruct (sidOf c) ws) ws with
      | some r => reject p c 0x4015 r (stagedUsed (sidOf c) (pending p c 5 (taken p s)))
      | none =>
        if residentMax < residentBut s (sidOf c) + (parseStruct (sidOf c) ws).size then reject p c 0x4014 0 (stagedUsed (sidOf c) (pending p c 5 (taken p s)))
        else (stagedUsed (sidOf c) (pending p c 5 (taken p s))).onSolv fun v =>
          { v with installs := v.installs ++ [{ sid := sidOf c, port := p, tag := c.tag, s := parseStruct (sidOf c) ws }] } := by
  have hsolv : (pending p c 5 (taken p s)).solv = s.solv := pending_taken_same p c 5 s .solv (by decide)
  have hopen : (!(inFlight (pending p c 5 (taken p s)) (sidOf c)).isEmpty) = false := by rw [inFlight_congr hsolv, hfree]; rfl
  rw [← residentBut_congr hsolv, ← hsolv, structDefineBody]
  simp only [Nat.not_lt.mpr hsid, if_false, hopen, Bool.false_eq_true]

section
variable {p : Port} {c : Cmd} {s : State} (h : Heard p c s)
include h

/-- A refusal that consumes the staged definition. -/
theorem stagedUsed_reject (sid st detail : Nat) :
    Replied p c 3 st detail [] (reject p c st detail (stagedUsed sid (pending p c 5 (taken p s)))) ∧
    SameBut [.host, .maint, .sys, .solv] s (reject p c st detail (stagedUsed sid (pending p c 5 (taken p s)))) ∧
    (reject p c st detail (stagedUsed sid (pending p c 5 (taken p s)))).solv = { s.solv with staged := s.solv.staged.filter fun e => e.1 != sid } := by
  have hun : Unanswered p c (stagedUsed sid (pending p c 5 (taken p s))) := (pending_unanswered h.taken 5).of_outstanding (by cases p <;> rfl)
  have hsolv : (pending p c 5 (taken p s)).solv = s.solv := pending_taken_same p c 5 s .solv (by decide)
  refine ⟨reject_replied hun st detail, ?_, ?_⟩
  · exact (((SameBut.refl _ s).step (pending_taken_same p c 5 s) rfl).onSolv _ rfl).step (reject_same _ _ _ _ _) rfl
  · rw [reject_solv, stagedUsed, State.onSolv_solv, hsolv]

theorem structDefine_reserved (ho : c.op = .solvStructDefine) (hsid : sidOf c < 8) :
    ∃ t, Steps (.solvStructDefine p) s t ∧ Replied p c 3 0x4012 0 [] t ∧ SameBut [.host, .maint, .sys] s t := by
  have hbody : structDefineBody p c (taken p s) = reject p c 0x4012 0 (pending p c 5 (taken p s)) := by
    simp only [structDefineBody, hsid, if_true]
  have hsteps := steps_of_heard (exec_solvStructDefine p s) h ho
  rw [hbody] at hsteps
  exact ⟨_, hsteps, pending_reject h 5 _ _⟩

theorem structDefine_busy (ho : c.op = .solvStructDefine) (hsid : 8 ≤ sidOf c) (hbusy : inFlight s (sidOf c) ≠ []) :
    ∃ t, Steps (.solvStructDefine p) s t ∧ Replied p c 3 0x4013 0 [] t ∧ t.solv = { s.solv with staged := s.solv.staged.filter fun e => e.1 != sidOf c } := by
  have hsolv : (pending p c 5 (taken p s)).solv = s.solv := pending_taken_same p c 5 s .solv (by decide)
  have hbody : structDefineBody p c (taken p s) = reject p c 0x4013 0 (stagedUsed (sidOf c) (pending p c 5 (taken p s))) := by
    simp [structDefineBody, Nat.not_lt.mpr hsid, inFlight_congr hsolv, hbusy]
  have hsteps := steps_of_heard (exec_solvStructDefine p s) h ho
  rw [hbody] at hsteps
  obtain ⟨hreply, -, hused⟩ := stagedUsed_reject h (sidOf c) 0x4013 0
  exact ⟨_, hsteps, hreply, hused⟩

theorem structDefine_unstaged (ho : c.op = .solvStructDefine) (hsid : 8 ≤ sidOf c) (hfree : inFlight s (sidOf c) = [])
    (hstaged : (s.solv.staged.find? fun e => e.1 == sidOf c) = none) :
    ∃ t, Steps (.solvStructDefine p) s t ∧ Replied p c 3 0x4015 6 [] t ∧ SameBut [.host, .maint, .sys] s t := by
  have hbody := structDefineBody_free (p := p) hsid hfree
  rw [hstaged] at hbody
  have hsteps := steps_of_heard (exec_solvStructDefine p s) h ho
  rw [hbody] at hsteps
  exact ⟨_, hsteps, pending_reject h 5 _ _⟩

variable {k : Nat} {ws : List Word}

theorem structDefine_invalid {r : Nat} (ho : c.op = .solvStructDefine) (hsid : 8 ≤ sidOf c) (hfree : inFlight s (sidOf c) = [])
    (hstaged : (s.solv.staged.find? fun e => e.1 == sidOf c) = some (k, ws)) (hfault : structFault (parseStruct (sidOf c) ws) ws = some r) :
    ∃ t, Steps (.solvStructDefine p) s t ∧ Replied p c 3 0x4015 r [] t ∧ SameBut [.host, .maint, .sys, .solv] s t ∧
      t.solv = { s.solv with staged := s.solv.staged.filter fun e => e.1 != sidOf c } := by
  have hbody := structDefineBody_free (p := p) hsid hfree
  rw [hstaged] at hbody
  dsimp only at hbody
  rw [hfault] at hbody
  have hsteps := steps_of_heard (exec_solvStructDefine p s) h ho
  rw [hbody] at hsteps
  exact ⟨_, hsteps, stagedUsed_reject h (sidOf c) 0x4015 r⟩

theorem structDefine_full (ho : c.op = .solvStructDefine) (hsid : 8 ≤ sidOf c) (hfree : inFlight s (sidOf c) = [])
    (hstaged : (s.solv.staged.find? fun e => e.1 == sidOf c) = some (k, ws)) (hfault : structFault (parseStruct (sidOf c) ws) ws = none)
    (hfull : residentMax < residentBut s (sidOf c) + (parseStruct (sidOf c) ws).size) :
    ∃ t, Steps (.solvStructDefine p) s t ∧ Replied p c 3 0x4014 0 [] t ∧ t.solv = { s.solv with staged := s.solv.staged.filter fun e => e.1 != sidOf c } := by
  have hbody := structDefineBody_free (p := p) hsid hfree
  rw [hstaged] at hbody
  dsimp only at hbody
  rw [hfault] at hbody
  dsimp only at hbody
  rw [if_pos hfull] at hbody
  have hsteps := steps_of_heard (exec_solvStructDefine p s) h ho
  rw [hbody] at hsteps
  obtain ⟨hreply, -, hused⟩ := stagedUsed_reject h (sidOf c) 0x4014 0
  exact ⟨_, hsteps, hreply, hused⟩

theorem structDefine_starts (ho : c.op = .solvStructDefine) (hsid : 8 ≤ sidOf c) (hfree : inFlight s (sidOf c) = [])
    (hstaged : (s.solv.staged.find? fun e => e.1 == sidOf c) = some (k, ws)) (hfault : structFault (parseStruct (sidOf c) ws) ws = none)
    (hfits : residentBut s (sidOf c) + (parseStruct (sidOf c) ws).size ≤ residentMax) :
    ∃ t, Steps (.solvStructDefine p) s t ∧ Accepted p c 5 s t ∧ SameBut [.host, .maint, .solv] s t ∧ t.solv = { s.solv with
      staged := s.solv.staged.filter fun e => e.1 != sidOf c
      installs := s.solv.installs ++ [{ sid := sidOf c, port := p, tag := c.tag, s := parseStruct (sidOf c) ws }] } := by
  have hbody := structDefineBody_free (p := p) hsid hfree
  rw [hstaged] at hbody
  dsimp only at hbody
  rw [hfault] at hbody
  dsimp only at hbody
  rw [if_neg (Nat.not_lt.mpr hfits)] at hbody
  have hsteps := steps_of_heard (exec_solvStructDefine p s) h ho
  rw [hbody] at hsteps
  have hsame := pending_taken_same p c 5 s
  have hsolv : (pending p c 5 (taken p s)).solv = s.solv := hsame .solv (by decide)
  refine ⟨_, hsteps, (pending_taken_accepted h 5).of_port (by cases p <;> rfl), (((SameBut.refl _ s).step hsame rfl).onSolv _ rfl).onSolv _ rfl, ?_⟩
  rw [State.onSolv_solv, stagedUsed, State.onSolv_solv, hsolv]

end

/-! STRUCT_INSTALL_COMPLETE. -/

theorem Waits.commit {p : Port} {tag : Nat} {op : Op} {s : State} (h : Waits p tag op s) : Waits p tag op (commit p tag s) :=
  commit_unanswered (c := { op := op, tag := tag, words := [], expert := false, ecc := [] }) h

theorem exec_structInstallComplete_none {s : State} (h : s.solv.installs = []) : exec .structInstallComplete s = .next s := by
  have harm : exec .structInstallComplete s = execStructInstallComplete s := rfl
  rw [harm, execStructInstallComplete, h]

theorem exec_structInstallComplete_some {i : Install} {rest : List Install} {s : State} (h : s.solv.installs = i :: rest) : exec .structInstallComplete s = .next (
    finish i.port i.tag 0 0 0 [] (commit i.port i.tag (installStruct i.s (s.onSolv fun v => { v with installs := rest })))) := by
  have harm : exec .structInstallComplete s = execStructInstallComplete s := rfl
  rw [harm, execStructInstallComplete, h]

/-- A structure as it is installed on an ID with a generation: without values or result, its marks of the second of R217 going on. -/
def freshStruct (x : Struct) (g : Nat) (old : Option Struct) : Struct :=
  { x with gen := g, vals := [], version := 0, result := none, prog := Config.laneProgram [x.sid, x.kind, x.n, x.m, x.neq] x.patH x.patA x.fmts g
           lastSat := old.bind fun y => y.lastSat, lastReg := old.bind fun y => y.lastReg }

theorem freshStruct_at {x : Struct} {n : Nat} (h : x.sid = n) (g : Nat) (old : Option Struct) : freshStruct x g old =
    { x with gen := g, vals := [], version := 0, result := none, prog := Config.laneProgram [n, x.kind, x.n, x.m, x.neq] x.patH x.patA x.fmts g
             lastSat := old.bind fun y => y.lastSat, lastReg := old.bind fun y => y.lastReg } := by
  subst h
  rfl

theorem installStruct_solv {x : Struct} (n : Fin 64) (hx : x.sid = n.val) (s : State) : (installStruct x s).solv = { s.solv with
    gens := s.solv.gens.set n ((s.solv.gens[n] + 1) % 65536)
    structs := (s.solv.structs.filter fun y => y.sid != n.val) ++ [freshStruct x ((s.solv.gens[n] + 1) % 65536) (structOf s n.val)] } := by
  obtain ⟨k, hk⟩ := n
  obtain rfl : x.sid = k := hx
  have hgen : s.solv.gens.toList.getD x.sid 0 = s.solv.gens[x.sid] := by simp [hk]
  have hset : ∀ g : Nat, s.solv.gens.set! x.sid g = s.solv.gens.set x.sid g hk := fun g => by
    ext j hj
    simp [Vector.set!_eq_setIfInBounds, Vector.getElem_setIfInBounds, Vector.getElem_set]
  unfold installStruct
  simp only [hgen, hset, State.onSolv_solv]
  rfl

theorem structInstallComplete_installs {i : Install} {rest : List Install} {n : Fin 64} {s : State} (hi : s.solv.installs = i :: rest) (hsid : i.s.sid = n.val)
    (hw : Waits i.port i.tag .solvStructDefine s) :
    ∃ t, Steps .structInstallComplete s t ∧ Answered i.port i.tag .solvStructDefine 0 0 0 [] t ∧ SameBut [.host, .maint, .sys, .solv] s t ∧ t.solv = { s.solv with
      installs := rest, gens := s.solv.gens.set n ((s.solv.gens[n] + 1) % 65536)
      structs := (s.solv.structs.filter fun y => y.sid != n.val) ++ [freshStruct i.s ((s.solv.gens[n] + 1) % 65536) (structOf s n.val)] } := by
  have hsolv := installStruct_solv n hsid (s.onSolv fun v => { v with installs := rest })
  have hw' : Waits i.port i.tag .solvStructDefine (installStruct i.s (s.onSolv fun v => { v with installs := rest })) := hw.of_outstanding (by cases i.port <;> rfl)
  refine ⟨_, exec_structInstallComplete_some hi, finish_answered hw'.commit 0 0 0 [], ?_, ?_⟩
  · exact ((((SameBut.refl _ s).onSolv _ rfl).onSolv _ rfl).step (commit_same _ _ _) rfl).step (finish_same _ _ _ _ _ _ _) rfl
  · rw [finish_solv, (commit_same i.port i.tag _ .solv (by decide) : _ = (installStruct i.s _).solv), hsolv]
    rfl

end Sys2Proof.Machine
end

section
namespace Sys2Proof.Machine

/-! SOLV_STRUCT_DELETE. -/

/-- The row on the state in which its packet is taken. -/
def structDeleteBody (p : Port) (c : Cmd) (s : State) : State :=
  if sidOf c < 8 then reject p c 0x4012 0 s
  else if (structOf s (sidOf c)).isNone then reject p c 0x4011 (sidOf c) s
  else if !(inFlight s (sidOf c)).isEmpty then reject p c 0x4013 0 s
  else ok p c 0 [] (s.onSolv fun v => { v with structs := v.structs.filter fun x => x.sid != sidOf c })

theorem exec_solvStructDelete (p : Port) (s : State) : exec (.solvStructDelete p) s = .next (runOp .solvStructDelete p (structDeleteBody p) s) := rfl

/-- A change of the solver's state with its answer. -/
theorem ok_onSolv {p : Port} {c : Cmd} {s : State} (h : Heard p c s) (f : SolvState → SolvState) :
    Replied p c 0 0 0 [] (ok p c 0 [] ((taken p s).onSolv f)) ∧ SameBut [.host, .maint, .sys, .solv] s (ok p c 0 [] ((taken p s).onSolv f)) ∧
    (ok p c 0 [] ((taken p s).onSolv f)).solv = f s.solv := by
  have hun : Unanswered p c ((taken p s).onSolv f) := h.taken.of_outstanding (by cases p <;> rfl)
  refine ⟨ok_replied hun 0 [], (((SameBut.refl _ s).step (taken_same p s) rfl).onSolv _ rfl).step (ok_same _ _ _ _ _) rfl, ?_⟩
  rw [ok_solv, State.onSolv_solv, taken_solv]

section
variable {p : Port} {c : Cmd} {x : Struct} {s : State} (h : Heard p c s)
include h

theorem structDelete_removes (ho : c.op = .solvStructDelete) (hsid : 8 ≤ sidOf c) (hx : structOf s (sidOf c) = some x) (hfree : inFlight s (sidOf c) = []) :
    ∃ t, Steps (.solvStructDelete p) s t ∧ Replied p c 0 0 0 [] t ∧ SameBut [.host, .maint, .sys, .solv] s t ∧
      t.solv = { s.solv with structs := s.solv.structs.filter fun x => x.sid != sidOf c } := by
  have hbody : structDeleteBody p c (taken p s) = ok p c 0 [] ((taken p s).onSolv fun v => { v with structs := v.structs.filter fun x => x.sid != sidOf c }) := by
    simp [structDeleteBody, Nat.not_lt.mpr hsid, structOf_congr (taken_solv p s), hx, inFlight_congr (taken_solv p s), hfree]
  have hsteps := steps_of_heard (exec_solvStructDelete p s) h ho
  rw [hbody] at hsteps
  exact ⟨_, hsteps, ok_onSolv h _⟩

theorem structDelete_busy (ho : c.op = .solvStructDelete) (hsid : 8 ≤ sidOf c) (hx : structOf s (sidOf c) = some x) (hbusy : inFlight s (sidOf c) ≠ []) :
    ∃ t, Steps (.solvStructDelete p) s t ∧ AnswersOnly p c 3 0x4013 0 [] s t := by
  have hbody : structDeleteBody p c (taken p s) = reject p c 0x4013 0 (taken p s) := by
    simp [structDeleteBody, Nat.not_lt.mpr hsid, structOf_congr (taken_solv p s), hx, inFlight_congr (taken_solv p s), hbusy]
  have hsteps := steps_of_heard (exec_solvStructDelete p s) h ho
  rw [hbody] at hsteps
  exact ⟨_, hsteps, reject_answersOnly h _ _⟩

end

/-! SOLV_UPDATE. -/

/-- The row on the state in which its packet is taken. -/
def updateBody (p : Port) (c : Cmd) (s : State) : State :=
  match structOf s (sidOf c) with
  | none => reject p c 0x4011 (sidOf c) s
  | some x =>
    let held := versionsOf s (sidOf c)
    let fresh := held.contains x.version
    if fresh && decide (4 ≤ held.length) then reject p c 0x4013 0 s
    else ok p c 0 [] (onStruct (sidOf c) (fun y => { y with vals := (updateEntries c.words).foldl setVal y.vals, version := if fresh then y.version + 1 else y.version }) s)

theorem exec_solvUpdate (p : Port) (s : State) : exec (.solvUpdate p) s = .next (runOpV .solvUpdate p updateBad (updateBody p) s) := rfl

/-- Entry i of a SOLV_UPDATE lies within the structure. -/
def entryGood (c : Cmd) (x : Struct) (i : Nat) : Bool := entryOk x (wd c.words (1 + 3 * i)) ((updateEntries c.words).getD i ⟨9, 0, 0, 0⟩)

theorem updateBad_some {c : Cmd} {x : Struct} {s : State} (hsid : 8 ≤ sidOf c) (hx : structOf s (sidOf c) = some x) :
    updateBad c s = ((List.range (updateEntries c.words).length).find? fun i => !entryGood c x i).map fun i => 1 + 3 * i := by
  have hsid' : ¬ fld (wd c.words 0) 5 0 < 8 := Nat.not_lt.mpr hsid
  have hx' : structOf s (fld (wd c.words 0) 5 0) = some x := hx
  unfold updateBad
  simp only [if_neg hsid', hx']
  rfl

section
variable {p : Port} {c : Cmd} {x : Struct} {s : State} (h : Heard p c s)
include h

theorem update_sets (ho : c.op = .solvUpdate) (hsid : 8 ≤ sidOf c) (hx : structOf s (sidOf c) = some x)
    (hgood : ∀ i, i < (updateEntries c.words).length → entryGood c x i = true)
    (hroom : (versionsOf s (sidOf c)).contains x.version = true → (versionsOf s (sidOf c)).length < 4) :
    ∃ t, Steps (.solvUpdate p) s t ∧ Replied p c 0 0 0 [] t ∧ SameBut [.host, .maint, .sys, .solv] s t ∧ t.solv = { s.solv with
      structs := s.solv.structs.map fun y => if y.sid = sidOf c then { y with vals := (updateEntries c.words).foldl setVal y.vals, version := if (versionsOf s (sidOf c)).contains x.version then y.version + 1 else y.version } else y } := by
  have hx' : structOf (taken p s) (sidOf c) = some x := (structOf_congr (taken_solv p s) _).trans hx
  have hearly : updateBad c (taken p s) = none := by
    rw [updateBad_some hsid hx', Option.map_eq_none_iff, List.find?_eq_none]
    intro i hi
    simp [hgood i (List.mem_range.mp hi)]
  have hkeep : ((versionsOf s (sidOf c)).contains x.version && decide (4 ≤ (versionsOf s (sidOf c)).length)) = false := by
    cases hc : (versionsOf s (sidOf c)).contains x.version with
    | false => rfl
    | true => simpa using hroom hc
  have hsteps := steps_of_heard_checked (exec_solvUpdate p s) h ho hearly
  simp only [updateBody, hx', versionsOf_congr (taken_solv p s), hkeep, Bool.false_eq_true, if_false] at hsteps
  exact ⟨_, hsteps, ok_onSolv h _⟩

theorem update_badEntry {i : Nat} (ho : c.op = .solvUpdate) (hsid : 8 ≤ sidOf c) (hx : structOf s (sidOf c) = some x)
    (hi : i < (updateEntries c.words).length) (hbad : entryGood c x i = false) (hbefore : ∀ j, j < i → entryGood c x j = true) :
    ∃ t, Steps (.solvUpdate p) s t ∧ AnswersOnly p c 3 0xF016 (1 + 3 * i) [] s t := by
  have hearly : updateBad c (taken p s) = some (1 + 3 * i) := by
    have hfind : (List.range (updateEntries c.words).length).find? (fun i => !entryGood c x i) = some i :=
      List.find?_range_eq_some.mpr ⟨by simp [hbad], List.mem_range.mpr hi, fun j hj => by simp [hbefore j hj]⟩
    rw [updateBad_some hsid ((structOf_congr (taken_solv p s) _).trans hx), hfind]
    rfl
  exact ⟨_, steps_of_heard_bad (exec_solvUpdate p s) h ho hearly, reject_answersOnly h _ _⟩

theorem update_reserved (ho : c.op = .solvUpdate) (hsid : sidOf c < 8) : ∃ t, Steps (.solvUpdate p) s t ∧ AnswersOnly p c 3 0xF016 0 [] s t :=
  ⟨_, steps_of_heard_bad (exec_solvUpdate p s) h ho (if_pos hsid), reject_answersOnly h _ _⟩

end

end Sys2Proof.Machine
end

section
namespace Sys2Proof.Machine

/-! SOLV_SUBMIT (8.4): the ticket it opens, the copies it starts. -/

theorem fld_lt (w : Word) (hi lo : Nat) : fld w hi lo < 2 ^ (hi - lo + 1) := Nat.mod_lt _ (Nat.two_pow_pos _)

/-- The defaults of a Lennov command come after its words. -/
theorem wd_expertWords_zero {c : Cmd} (h : 8 ≤ sidOf c) (op : Op) : wd (expertWords op c.expert c.words) 0 = wd c.words 0 := by
  have hne : c.words ≠ [] := fun hw => by
    rw [sidOf, hw] at h
    exact absurd h (by decide)
  obtain ⟨w, l, hw⟩ := List.exists_cons_of_ne_nil hne
  unfold expertWords
  rw [hw]
  split <;> rfl

/-- Words 1 to 7. -/
theorem replyHead_length (now : Nat) (t : Ticket) (o : CopyOut) : (replyHead now t o).length = 7 := by
  simp [replyHead, w64]

theorem wd_cons_zero (w : Word) (ws : List Word) : wd (w :: ws) 0 = w := rfl

/-- The low six bits of a word whose other fields lie above them. -/
theorem fld_pk_low {high : List (Nat × Nat)} (hhigh : ∀ f ∈ high, 6 ≤ f.2) {n : Nat} (hn : n < 64) : fld (pk (high ++ [(n, 0)])) 5 0 = n := by
  have hdvd : 64 ∣ (high.map fun f => f.1 * 2 ^ f.2).sum := by
    refine List.dvd_sum fun x hx => ?_
    obtain ⟨f, hf, rfl⟩ := List.mem_map.mp hx
    exact Dvd.dvd.mul_left (pow_dvd_pow 2 (hhigh f hf)) f.1
  obtain ⟨k, hk⟩ := hdvd
  have hword : (pk (high ++ [(n, 0)])).toNat = (64 * k + n) % 2 ^ 32 := by
    simp [pk, ofN, hk]
  rw [fld, hword]
  omega

theorem replyHead_sid {t : Ticket} (h : t.sid < 64) (now : Nat) (o : CopyOut) : fld (wd (replyHead now t o) 0) 5 0 = t.sid := by
  unfold replyHead
  extract_lets c rg cl sat
  rw [List.append_assoc, List.cons_append, wd_cons_zero]
  exact fld_pk_low (high := [(b2n (decide (0 < o.regCount)), 31), (b2n (decide (0 < sat)), 30), (b2n t.warmDisc, 29), (b2n t.retried, 28), (b2n (!t.dup), 27),
    (t.warmReason, 24), (o.iter % 256, 16)]) (by simp) h

/-! Where copies of a new problem go. -/

/-- The copies of a problem: at most one, or none, or a pair in different regions. -/
def Placement (dup : Bool) (l : List Copy) : Prop :=
  (dup = false → l.length ≤ 1) ∧ (dup = true → l = [] ∨ ∃ a b, l = [a, b] ∧ a.region ≠ b.region)

theorem Placement.nil (dup : Bool) : Placement dup [] := ⟨fun _ => Nat.zero_le 1, fun _ => .inl rfl⟩

theorem Placement.kept {dup : Bool} {l m : List Copy} (h : Placement dup l) (k : List.Forall₂ CopyKept l m) : Placement dup m := by
  obtain ⟨hone, hpair⟩ := h
  refine ⟨fun hd => k.length_eq ▸ hone hd, fun hd => ?_⟩
  obtain rfl | ⟨a, b, rfl, hab⟩ := hpair hd
  · exact .inl (List.forall₂_nil_left_iff.mp k)
  · obtain ⟨a', m', ha, hm, rfl⟩ := List.forall₂_cons_left_iff.mp k
    obtain ⟨b', m'', hb, hn, rfl⟩ := List.forall₂_cons_left_iff.mp hm
    obtain rfl := List.forall₂_nil_left_iff.mp hn
    exact .inr ⟨a', b', rfl, by rwa [ha.place.1, hb.place.1]⟩

theorem pick_mem {α : Type} {l : List α} {n : Int} {a : α} (h : pick l n = some a) : a ∈ l := List.mem_of_getElem? h

theorem lt_of_mem_regPairs {l : List (Fin 4)} {a b : Fin 4} (h : (a, b) ∈ regPairs l) : a.val < b.val := by
  obtain ⟨a', -, h⟩ := List.mem_flatMap.mp h
  obtain ⟨b', hb, hab⟩ := List.mem_map.mp h
  obtain ⟨rfl, rfl⟩ := Prod.mk.injEq .. ▸ hab
  exact of_decide_eq_true (List.mem_filter.mp hb).2

theorem startCopies_placement (s : State) (w : Work) (dup : Bool) : Placement dup (startCopies s w dup) := by
  unfold startCopies
  extract_lets l k
  cases dup with
  | true =>
    refine ⟨fun hd => absurd hd (by decide), fun _ => ?_⟩
    cases hp : pick (regPairs l) k with
    | none => exact .inl (by simp)
    | some ab =>
      obtain ⟨a, b⟩ := ab
      exact .inr ⟨mkCopy s 0 w a, mkCopy s 1 w b, by simp, (lt_of_mem_regPairs (pick_mem hp)).ne⟩
  | false =>
    refine ⟨fun _ => ?_, fun hd => absurd hd (by decide)⟩
    simp only [Bool.false_eq_true, if_false]
    split <;> simp

/-- The ticket of a number has its copies placed. -/
def PlacedAs (id : Nat) (dup : Bool) (s : State) : Prop := ∀ x, ticketOf s id = some x → Placement dup x.copies

theorem PlacedAs.kept {id : Nat} {dup : Bool} {s t : State} (h : PlacedAs id dup s) (hs : (ticketOf s id).isSome) (k : KeepsTicket id s t) : PlacedAs id dup t := by
  intro y hy
  obtain ⟨x, hx⟩ := Option.isSome_iff_exists.mp hs
  obtain ⟨y', hy', hk⟩ := k x hx
  obtain rfl : y' = y := Option.some.inj (hy'.symm.trans hy)
  exact (h x hx).kept hk.copies

theorem isSome_of_bareTickets {s t : State} (h : bareTickets t = bareTickets s) (id : Nat) : (ticketOf t id).isSome = (ticketOf s id).isSome := by
  rw [← Option.isSome_map (f := bare), ← Option.isSome_map (f := bare) (x := ticketOf s id), ticketOf_bare, ticketOf_bare, h]

theorem startTicket_placedAs {id : Nat} {u : Ticket} {s : State} (h : PlacedAs id u.dup s) (hu : u.id = id) : PlacedAs id u.dup (startTicket u s) := by
  have hclaim : ∀ w : State, (startTicket u s) = drawn (onTicket u.id (fun t => { t with copies := startCopies s u.work u.dup }) w) → PlacedAs id u.dup (startTicket u s) := by
    intro w hw y hy
    rw [hw, hu] at hy
    have hself := ticketOf_onTicket_self (id := id) (f := fun t => { t with copies := startCopies s u.work u.dup }) (fun x hx => hx) w
    rw [show ticketOf (drawn (onTicket id (fun t => { t with copies := startCopies s u.work u.dup }) w)) id = _ from hself] at hy
    obtain ⟨x, -, rfl⟩ := Option.map_eq_some_iff.mp hy
    exact startCopies_placement s u.work u.dup
  by_cases hl : (startCopies s u.work u.dup).isEmpty = true
  · have hno : startTicket u s = s := if_pos hl
    rwa [hno]
  · exact hclaim _ (if_neg hl)

/-- Serving the waiting problems places a problem's copies. -/
theorem serve_placedAs {id : Nat} {dup : Bool} {s : State} (hs : (ticketOf s id).isSome) (h : PlacedAs id dup s)
    (hdup : ∀ x ∈ s.solv.tickets, x.id = id → x.dup = dup) : PlacedAs id dup (serve s) := by
  have hmem : ∀ u ∈ byClass (s.solv.tickets.filter fun t => t.copies.isEmpty && !t.aborted), u.id = id → u.dup = dup := fun u hu =>
    hdup u (List.mem_filter.mp (mem_of_mem_byClass hu)).1
  unfold serve
  generalize byClass _ = l at hmem
  clear hdup
  induction l generalizing s with
  | nil => exact h
  | cons u l ih =>
    have hs' : (ticketOf (startTicket u s) id).isSome := by rwa [isSome_of_bareTickets (startTicket_bareTickets u s)]
    refine ih (s := startTicket u s) hs' ?_ fun v hv => hmem v (List.mem_cons_of_mem u hv)
    by_cases hu : u.id = id
    · obtain rfl := hmem u List.mem_cons_self hu
      exact startTicket_placedAs h hu
    · exact h.kept hs (startTicket_keepsTicket hu s)

/-! A ticket opened. -/

theorem freeTicket_unused {s : State} {lo hi id : Nat} (h : freeTicket s lo hi = some id) : ∀ x ∈ s.solv.tickets, x.id ≠ id := by
  have hfree := List.find?_some h
  simpa using hfree

/-- The ticket with its place in the order of submissions. -/
def numbered (t : Ticket) (s : State) : Ticket := { t with order := s.solv.order }

/-- The table with a ticket more. -/
def withTicket (t : Ticket) (s : State) : State := s.onSolv fun v => { v with tickets := v.tickets ++ [t], order := v.order + 1 }

theorem openTicket_eq (t : Ticket) (s : State) : openTicket t s = serve (withTicket (numbered t s) (charge s)) := rfl

theorem openTicket_bareTickets (t : Ticket) (s : State) : bareTickets (openTicket t s) = bareTickets s ++ [bare (numbered t s)] := by
  rw [openTicket_eq, serve_bareTickets, ← charge_bareTickets s]
  exact List.map_append

theorem openTicket_ids (t : Ticket) (s : State) : (openTicket t s).solv.tickets.map (fun y => y.id) = s.solv.tickets.map (fun y => y.id) ++ [t.id] := by
  have hids : ∀ w : State, w.solv.tickets.map (fun y => y.id) = (bareTickets w).map fun y => y.id := fun w => by simp [bareTickets, bare]
  rw [hids, hids, openTicket_bareTickets, List.map_append]
  rfl

theorem openTicket_solv (t : Ticket) (s : State) : (openTicket t s).solv.structs = s.solv.structs ∧ (openTicket t s).solv.order = s.solv.order + 1 :=
  bareSolv_fields (w := { s.solv with order := s.solv.order + 1 }) (serve_bareSolv (withTicket (numbered t s) (charge s)))

/-- A ticket opened on a number that was free is the only one of it, and its copies are placed. -/
theorem openTicket_found {t : Ticket} {s : State} (hfree : ∀ x ∈ s.solv.tickets, x.id ≠ t.id) (hnil : t.copies = []) :
    ∃ y, ticketOf (openTicket t s) t.id = some y ∧ bare y = bare (numbered t s) ∧ Placement t.dup y.copies := by
  have hunused : ∀ x ∈ (charge s).solv.tickets, x.id ≠ t.id := by
    intro x hx
    have hbare : bare x ∈ bareTickets s := charge_bareTickets s ▸ List.mem_map_of_mem hx
    obtain ⟨y, hy, hyx, -⟩ := exists_of_mem_bareTickets hbare
    exact hyx ▸ hfree y hy
  have hfind : (ticketOf (openTicket t s) t.id).map bare = some (bare (numbered t s)) := by
    have hnone : (bareTickets s).find? (fun x => x.id == t.id) = none := by
      simpa [bareTickets, bare, List.find?_eq_none] using hfree
    rw [ticketOf_bare, openTicket_bareTickets, List.find?_append, hnone]
    simp [bare, numbered]
  obtain ⟨y, hy, hyb⟩ := Option.map_eq_some_iff.mp hfind
  have hnew : ticketOf (withTicket (numbered t s) (charge s)) t.id = some (numbered t s) := by
    have hnone : (charge s).solv.tickets.find? (fun x => x.id == t.id) = none := by simpa [List.find?_eq_none] using hunused
    rw [ticketOf, withTicket, State.onSolv_solv, List.find?_append, hnone]
    simp [numbered]
  refine ⟨y, hy, hyb, ?_⟩
  refine serve_placedAs (s := withTicket (numbered t s) (charge s)) (by rw [hnew]; rfl) ?_ ?_ y hy
  · intro x hx
    obtain rfl := Option.some.inj (hnew.symm.trans hx)
    exact (show (numbered t s).copies = [] from hnil) ▸ .nil t.dup
  · intro x hx hid
    rcases List.mem_append.mp hx with hx | hx
    · exact absurd hid (hunused x hx)
    · rw [List.mem_singleton.mp hx]; rfl

end Sys2Proof.Machine
end

section
namespace Sys2Proof.Machine

/-! SOLV_SUBMIT. -/

/-- The check of the row: a structure of the host, and a cold start where its kind knows no other. -/
def submitBad (c : Cmd) (s : State) : Option Nat :=
  let cold := match structOf s (sidOf c) with | some x => x.kind == 0 || x.kind == 1 | none => false
  if sidOf c < 8 || (cold && fld (wd c.words 0) 9 8 != 0) then some 0 else none

/-- What a submission asks for, before it has a ticket. -/
def submitAsked (p : Port) (c : Cmd) (ws : List Word) (s : State) : Ticket :=
  { id := 0, work := .host, port := p, tag := c.tag, sid := fld (wd ws 0) 5 0
    dup := bit (wd ws 1) 24, tauExp := fld (wd ws 1) 23 16, tolExp := fld (wd ws 1) 15 8, maxIter := fld (wd ws 1) 7 0
    deadlineMs := (wd ws 2).toNat, deadline := if (wd ws 2).toNat = 0 then none else some (s.time.mt + (wd ws 2).toNat * msTicks)
    outQty := fld (wd ws 3) 31 28, outFirst := fld (wd ws 3) 15 8, outCount := fld (wd ws 3) 7 0 }

/-- It on a ticket and a structure. -/
def submitTicket (t : Ticket) (id : Nat) (x : Struct) (w0 : Word) (s : State) : Ticket :=
  { t with id := id, gen := x.gen, version := x.version, on := asSubmitted x, warmDisc := warmReason s x w0 != 0, warmReason := warmReason s x w0
           vals := x.vals, warmVec := warmVector s x w0 }

/-- How long the class 1 reply says the problem takes. -/
def submitMs (x : Option Struct) : Nat := match x with | some x => Config.solveMs x.kind x.n x.m x.neq | none => 0

/-- A submission on the state after its class 1 reply, its words and its structure given. -/
def submitOn (p : Port) (c : Cmd) (ws : List Word) (x? : Option Struct) (s : State) : State :=
  match freeTicket s 192 255, x? with
  | none, _ => finish p c.tag 3 0x4010 64 (replyHead s.time.mt (submitAsked p c ws s) { iter := 0 }) s
  | some _, none => finish p c.tag 3 0x4011 (fld (wd ws 0) 5 0) (replyHead s.time.mt (submitAsked p c ws s) { iter := 0 }) s
  | some id, some x => openTicket (submitTicket (submitAsked p c ws s) id x (wd ws 0) s) (setUnit p c.tag id s)

/-- The row on the state in which its packet is taken, its words given. -/
def submitWith (p : Port) (c : Cmd) (ws : List Word) (s : State) : State :=
  submitOn p c ws (structOf s (fld (wd ws 0) 5 0)) (pending p c (submitMs (structOf s (fld (wd ws 0) 5 0))) s)

/-- The row on the state in which its packet is taken. -/
def submitBody (p : Port) (c : Cmd) (s : State) : State := submitWith p c (expertWords .solvSubmit c.expert c.words) s

theorem exec_solvSubmit (p : Port) (s : State) : exec (.solvSubmit p) s = .next (runOpV .solvSubmit p submitBad (submitBody p) s) := rfl

theorem freeTicket_congr {s t : State} (h : t.solv = s.solv) (lo hi : Nat) : freeTicket t lo hi = freeTicket s lo hi := by
  unfold freeTicket
  rw [h]

theorem warmReason_congr {s t : State} (h : t.solv = s.solv) : warmReason t = warmReason s := by
  unfold warmReason
  rw [h]

theorem warmVector_congr {s t : State} (h : t.solv = s.solv) : warmVector t = warmVector s := by
  unfold warmVector
  rw [warmReason_congr h, h]

theorem submitTicket_congr {s t : State} (hsolv : t.solv = s.solv) (htime : t.time = s.time) (p : Port) (c : Cmd) (ws : List Word) (id : Nat) (x : Struct) :
    submitTicket (submitAsked p c ws t) id x (wd ws 0) t = submitTicket (submitAsked p c ws s) id x (wd ws 0) s := by
  rw [submitTicket, submitTicket, warmReason_congr hsolv, warmVector_congr hsolv, submitAsked, submitAsked, htime]

/-- What a ticket keeps of its submission. -/
theorem submitted_fields {p : Port} {c : Cmd} {ws : List Word} {id : Nat} {x : Struct} {s : State} {tk : Ticket}
    (h : bare tk = bare (numbered (submitTicket (submitAsked p c ws s) id x (wd ws 0) s) s)) :
    tk.work = .host ∧ tk.port = p ∧ tk.tag = c.tag ∧ tk.sid = fld (wd ws 0) 5 0 ∧ tk.gen = x.gen ∧ tk.on = asSubmitted x ∧ tk.version = x.version ∧ tk.vals = x.vals ∧
      tk.order = s.solv.order ∧ tk.dup = bit (wd ws 1) 24 ∧ tk.deadline = if (wd ws 2).toNat = 0 then none else some (s.time.mt + (wd ws 2).toNat * msTicks) :=
  ⟨(congrArg Ticket.work h :), (congrArg Ticket.port h :), (congrArg Ticket.tag h :), (congrArg Ticket.sid h :), (congrArg Ticket.gen h :), (congrArg Ticket.on h :),
    (congrArg Ticket.version h :), (congrArg Ticket.vals h :), (congrArg Ticket.order h :), (congrArg Ticket.dup h :), (congrArg Ticket.deadline h :)⟩

theorem submitBad_none {c : Cmd} {s : State} (hsid : 8 ≤ sidOf c) (hcold : ∀ x, structOf s (sidOf c) = some x → x.kind = 0 ∨ x.kind = 1 → fld (wd c.words 0) 9 8 = 0) :
    submitBad c s = none := by
  unfold submitBad
  cases hx : structOf s (sidOf c) with
  | none => simp [hsid]
  | some x =>
    have hno : (decide (sidOf c < 8) || (x.kind == 0 || x.kind == 1) && fld (wd c.words 0) 9 8 != 0) = false := by
      simpa [Bool.eq_false_iff, hsid] using hcold x hx
    simp only [hno, Bool.false_eq_true, if_false]

theorem submitBad_some {c : Cmd} {s : State} (h : sidOf c < 8 ∨ ∃ x, structOf s (sidOf c) = some x ∧ x.kind ≤ 1 ∧ fld (wd c.words 0) 9 8 ≠ 0) :
    submitBad c s = some 0 := by
  unfold submitBad
  rcases h with h | ⟨x, hx, hkind, hwarm⟩
  · simp [h]
  · have hk : x.kind = 0 ∨ x.kind = 1 := by omega
    simp [hx, hk, hwarm]

/-- The row where its check passes. -/
theorem submit_steps {p : Port} {c : Cmd} {s : State} {ws : List Word} {x? : Option Struct} (h : Heard p c s) (ho : c.op = .solvSubmit) (hws : ws = expertWords .solvSubmit c.expert c.words)
    (hsid : 8 ≤ sidOf c) (hx : structOf s (sidOf c) = x?) (hcold : ∀ x, x? = some x → x.kind = 0 ∨ x.kind = 1 → fld (wd c.words 0) 9 8 = 0) :
    Steps (.solvSubmit p) s (submitOn p c ws x? (pending p c (submitMs x?) (taken p s))) := by
  have hx' : structOf (taken p s) (sidOf c) = x? := (structOf_congr (taken_solv p s) _).trans hx
  have hw0 : fld (wd ws 0) 5 0 = sidOf c := by rw [hws, wd_expertWords_zero hsid]; rfl
  have hsteps := steps_of_heard_checked (exec_solvSubmit p s) h ho (submitBad_none hsid fun x hy => hcold x (hx'.symm.trans hy))
  rwa [submitBody, ← hws, submitWith, hw0, hx'] at hsteps

section
variable {p : Port} {c : Cmd} {s : State} (h : Heard p c s)
include h

/-- The refusals that come with words 1 to 7. -/
theorem submit_refused {ms st detail : Nat} {tk : Ticket} (hlt : tk.sid < 64) (now : Nat) (o : CopyOut) :
    ∃ ws, Replied p c 3 st detail ws (finish p c.tag 3 st detail (replyHead now tk o) (pending p c ms (taken p s))) ∧ ws.length = 7 ∧ fld (wd ws 0) 5 0 = tk.sid ∧
      SameBut [.host, .maint, .sys] s (finish p c.tag 3 st detail (replyHead now tk o) (pending p c ms (taken p s))) :=
  ⟨_, finish_replied (pending_unanswered h.taken ms) 3 st detail _, replyHead_length now tk o, replyHead_sid hlt now o,
    ((SameBut.refl _ s).step (pending_taken_same p c ms s) rfl).step (finish_same _ _ _ _ _ _ _) rfl⟩

theorem submit_noTicket {x : Struct} (ho : c.op = .solvSubmit) (hsid : 8 ≤ sidOf c) (hx : structOf s (sidOf c) = some x)
    (hcold : x.kind = 0 ∨ x.kind = 1 → fld (wd c.words 0) 9 8 = 0) (hfull : freeTicket s 192 255 = none) :
    ∃ t ws, Steps (.solvSubmit p) s t ∧ Replied p c 3 0x4010 64 ws t ∧ ws.length = 7 ∧ fld (wd ws 0) 5 0 = sidOf c ∧ SameBut [.host, .maint, .sys] s t := by
  have hsteps := submit_steps h ho rfl hsid hx fun y hy => by rwa [← Option.some.inj hy]
  have hfull' := (freeTicket_congr (pending_taken_same p c (submitMs (some x)) s .solv (by decide) : _ = s.solv) 192 255).trans hfull
  simp only [submitOn, hfull'] at hsteps
  obtain ⟨vs, hreply, hlen, hid, hsame⟩ := submit_refused (ms := submitMs (some x)) (st := 0x4010) (detail := 64) h (tk := submitAsked p c (expertWords .solvSubmit c.expert c.words) _)
    (fld_lt _ 5 0) (pending p c (submitMs (some x)) (taken p s)).time.mt { iter := 0 }
  exact ⟨_, vs, hsteps, hreply, hlen, hid.trans (by rw [submitAsked, wd_expertWords_zero hsid]; rfl), hsame⟩

theorem submit_noStruct {id : Nat} (ho : c.op = .solvSubmit) (hsid : 8 ≤ sidOf c) (hx : structOf s (sidOf c) = none) (hfree : freeTicket s 192 255 = some id) :
    ∃ t ws, Steps (.solvSubmit p) s t ∧ Replied p c 3 0x4011 (sidOf c) ws t ∧ ws.length = 7 ∧ fld (wd ws 0) 5 0 = sidOf c ∧ SameBut [.host, .maint, .sys] s t := by
  have hsteps := submit_steps h ho rfl hsid hx fun y hy => by cases hy
  have hw0 : fld (wd (expertWords .solvSubmit c.expert c.words) 0) 5 0 = sidOf c := by rw [wd_expertWords_zero hsid]; rfl
  have hfree' := (freeTicket_congr (pending_taken_same p c (submitMs none) s .solv (by decide) : _ = s.solv) 192 255).trans hfree
  simp only [submitOn, hfree', hw0] at hsteps
  obtain ⟨vs, hreply, hlen, hid, hsame⟩ := submit_refused (ms := submitMs none) (st := 0x4011) (detail := sidOf c) h (tk := submitAsked p c (expertWords .solvSubmit c.expert c.words) _)
    (fld_lt _ 5 0) (pending p c (submitMs none) (taken p s)).time.mt { iter := 0 }
  exact ⟨_, vs, hsteps, hreply, hlen, hid.trans hw0, hsame⟩

theorem submit_invalid (ho : c.op = .solvSubmit) (hbad : sidOf c < 8 ∨ ∃ x, structOf s (sidOf c) = some x ∧ x.kind ≤ 1 ∧ fld (wd c.words 0) 9 8 ≠ 0) :
    ∃ t, Steps (.solvSubmit p) s t ∧ AnswersOnly p c 3 0xF016 0 [] s t := by
  refine ⟨_, steps_of_heard_bad (exec_solvSubmit p s) h ho (submitBad_some ?_), reject_answersOnly h _ _⟩
  rwa [structOf_congr (taken_solv p s)]

/-- Its unit noted, the command is accepted all the same. -/
theorem setUnit_accepted (ms u : Nat) : Accepted p c ms s (setUnit p c.tag u (pending p c ms (taken p s))) := by
  obtain ⟨hstore, -⟩ := pending_taken_accepted h ms
  obtain ⟨o, hfind, hdone, -⟩ := setUnit_unanswered (pending_unanswered h.taken ms) u
  refine ⟨?_, o, hfind, hdone⟩
  rw [← hstore]
  cases p <;> rfl

theorem submit_opens {x : Struct} {id : Nat} {ws : List Word} (ho : c.op = .solvSubmit) (hws : ws = expertWords .solvSubmit c.expert c.words) (hsid : 8 ≤ sidOf c)
    (hx : structOf s (sidOf c) = some x) (hcold : x.kind = 0 ∨ x.kind = 1 → fld (wd c.words 0) 9 8 = 0) (hfree : freeTicket s 192 255 = some id) :
    ∃ t ms tk, Steps (.solvSubmit p) s t ∧ Accepted p c ms s t ∧ SameBut [.host, .maint, .solv, .free] s t ∧ t.solv.structs = s.solv.structs ∧ t.solv.order = s.solv.order + 1 ∧
      t.solv.tickets.map (fun y => y.id) = s.solv.tickets.map (fun y => y.id) ++ [id] ∧ ticketOf t id = some tk ∧
      bare tk = bare (numbered (submitTicket (submitAsked p c ws s) id x (wd ws 0) s) s) ∧ Placement (bit (wd ws 1) 24) tk.copies := by
  have hsteps := submit_steps h ho hws hsid hx fun y hy => by rwa [← Option.some.inj hy]
  have hsame := pending_taken_same p c (submitMs (some x)) s
  have hsolv : (pending p c (submitMs (some x)) (taken p s)).solv = s.solv := hsame .solv (by decide)
  have htime : (pending p c (submitMs (some x)) (taken p s)).time = s.time := hsame .time (by decide)
  have hacc := setUnit_accepted h (submitMs (some x)) id
  have hunit : SameBut [.host, .maint] s (setUnit p c.tag id (pending p c (submitMs (some x)) (taken p s))) := ((SameBut.refl _ s).step hsame rfl).step (setUnit_same _ _ _ _) rfl
  have husolv : (setUnit p c.tag id (pending p c (submitMs (some x)) (taken p s))).solv = s.solv := hunit .solv (by decide)
  have hasked : submitTicket (submitAsked p c ws (pending p c (submitMs (some x)) (taken p s))) id x (wd ws 0) (pending p c (submitMs (some x)) (taken p s)) =
      submitTicket (submitAsked p c ws s) id x (wd ws 0) s :=
    submitTicket_congr hsolv htime p c ws id x
  simp only [submitOn, (freeTicket_congr hsolv 192 255).trans hfree, hasked] at hsteps
  generalize setUnit p c.tag id (pending p c (submitMs (some x)) (taken p s)) = u at hsteps hacc hunit husolv
  have hopen := openTicket_same (submitTicket (submitAsked p c ws s) id x (wd ws 0) s) u
  obtain ⟨hstructs, horder⟩ := openTicket_solv (submitTicket (submitAsked p c ws s) id x (wd ws 0) s) u
  have hunused : ∀ y ∈ u.solv.tickets, y.id ≠ id := husolv ▸ freeTicket_unused hfree
  obtain ⟨tk, hfound, hbare, hplaced⟩ := openTicket_found (t := submitTicket (submitAsked p c ws s) id x (wd ws 0) s) (s := u) hunused rfl
  have hids := openTicket_ids (submitTicket (submitAsked p c ws s) id x (wd ws 0) s) u
  rw [husolv] at hstructs horder hids
  rw [numbered, husolv] at hbare
  refine ⟨_, submitMs (some x), tk, hsteps, hacc.of_port ?_, ((SameBut.refl _ s).step hunit rfl).step hopen rfl, hstructs, horder, hids, hfound, hbare, hplaced⟩
  cases p
  · exact hopen .host (by decide)
  · exact hopen .maint (by decide)

end

end Sys2Proof.Machine
end

section
/-! COPY_COMPLETE (8.4, 8.5): the copy that ends stores its words; alone, or agreeing with its partner, it ends the problem. -/

namespace Sys2Proof.Machine

/-! The stages of the row. -/

/-- A region with corrected store errors more. -/
def eccCredit (ce : Nat) (x : Region) : Region := { x with eccCe := satN 0xFFFF (x.eccCe + ce) }

/-- A region with the records of a copy. -/
def recordCredit (o : CopyOut) (x : Region) : Region := { x with sat := satN 0xFFFF (x.sat + o.sats.sum), reg := satN 0xFFFF (x.reg + o.regCount) }

/-- Lane time charged, the copy's corrected errors and its records in its region. -/
def copyCredited (tk : Ticket) (k : Nat) (c : Copy) (ce : Nat) (o : CopyOut) (s : State) : State :=
  creditRegion tk k o (onRegion c.region (eccCredit ce) (charge s))

/-- The ticket with what copy k has stored. -/
def copyStored (id : Nat) (tk : Ticket) (k : Nat) (c : Copy) (o : CopyOut) (s : State) : Ticket :=
  { (ticketOf s id).getD tk with copies := ((ticketOf s id).getD tk).copies.set k { c with out := some o } }

/-- The table with it. -/
def copyEntered (id : Nat) (t : Ticket) (s : State) : State := onTicket id (fun _ => t) s

/-- What follows for the problem. -/
def copyJudged (tk t : Ticket) (o : CopyOut) (s : State) : State := serve (if tk.dup then compareTicket t s else endTicket t o s)

theorem exec_copyComplete {id : Nat} {k : Fin 3} {tk : Ticket} {c : Copy} {s : State} (hfound : ticketOf s id = some tk) (hk : tk.copies[k.val]? = some c) (hrun : running c = true)
    (ce : Nat) (err : Option CopyOut) : exec (.copyComplete id k ce err) s = .next (
      copyJudged tk (copyStored id tk k.val c (storedOut tk err) (copyCredited tk k.val c ce (storedOut tk err) s)) (storedOut tk err)
        (copyEntered id (copyStored id tk k.val c (storedOut tk err) (copyCredited tk k.val c ce (storedOut tk err) s)) (copyCredited tk k.val c ce (storedOut tk err) s))) := by
  have harm : exec (.copyComplete id k ce err) s = execCopyComplete id k ce err s := rfl
  rw [harm, execCopyComplete, hfound]
  dsimp only
  rw [hk]
  dsimp only
  rw [hrun]
  rfl

theorem exec_copyComplete_none {id : Nat} {s : State} (hnone : ticketOf s id = none) (k : Fin 3) (ce : Nat) (err : Option CopyOut) :
    exec (.copyComplete id k ce err) s = .next s := by
  have harm : exec (.copyComplete id k ce err) s = execCopyComplete id k ce err s := rfl
  rw [harm, execCopyComplete, hnone]

theorem onRegion_tickets (r : Nat) (f : Region → Region) (s : State) : (onRegion r f s).solv.tickets = s.solv.tickets := by
  unfold onRegion
  split <;> rfl

/-- A copy's credit is a change of its region, or none. -/
theorem creditRegion_cases (tk : Ticket) (k : Nat) (o : CopyOut) (s : State) :
    creditRegion tk k o s = s ∨ ∃ r, creditRegion tk k o s = onRegion r (recordCredit o) s := by
  unfold creditRegion
  extract_lets others same
  split
  next c hc =>
    split
    · exact .inl rfl
    · exact .inr ⟨c.region, rfl⟩
  next => exact .inl rfl

theorem creditRegion_tickets (tk : Ticket) (k : Nat) (o : CopyOut) (s : State) : (creditRegion tk k o s).solv.tickets = s.solv.tickets := by
  rcases creditRegion_cases tk k o s with h | ⟨r, h⟩ <;> rw [h]
  exact onRegion_tickets r _ s

theorem creditRegion_bareSolv (tk : Ticket) (k : Nat) (o : CopyOut) (s : State) : bareSolv (creditRegion tk k o s).solv = bareSolv s.solv := by
  rcases creditRegion_cases tk k o s with h | ⟨r, h⟩ <;> rw [h]
  exact onRegion_bareSolv r _ s

section
variable (tk : Ticket) (k : Nat) (c : Copy) (ce : Nat) (o : CopyOut) (s : State)

theorem copyCredited_same : SameBut [.solv] s (copyCredited tk k c ce o s) :=
  (((SameBut.refl _ s).step (charge_same s) rfl).step (onRegion_same _ _ _) rfl).step (creditRegion_same _ _ _ _) rfl

theorem copyCredited_structs : (copyCredited tk k c ce o s).solv.structs = s.solv.structs :=
  (bareSolv_fields ((creditRegion_bareSolv tk k o _).trans ((onRegion_bareSolv _ _ _).trans (charge_bareSolv s)))).1

theorem copyCredited_keepsTicket (id : Nat) : KeepsTicket id s (copyCredited tk k c ce o s) :=
  (charge_keepsTicket id s).trans (.of_eq (ticketOf_congr ((creditRegion_tickets tk k o _).trans (onRegion_tickets _ _ _)) id))

end

/-- A ticket with these copies, the words of copy k among them. -/
def withOut (tk : Ticket) (l : List Copy) (k : Nat) (c : Copy) (o : CopyOut) : Ticket := { tk with copies := l.set k { c with out := some o } }

/-- The ticket with a copy's words: as it was, but for the copies, of which some may have been suspended. -/
theorem copyStored_kept {id : Nat} {tk : Ticket} {s : State} (hfound : ticketOf s id = some tk) (k : Nat) (c : Copy) (ce : Nat) (o : CopyOut) :
    ∃ l, copyStored id tk k c o (copyCredited tk k c ce o s) = withOut tk l k c o ∧ List.Forall₂ CopyKept tk.copies l ∧
      (ticketOf (copyCredited tk k c ce o s) id).isSome := by
  obtain ⟨y, hy, hkept⟩ := copyCredited_keepsTicket tk k c ce o s id tk hfound
  refine ⟨y.copies, ?_, hkept.copies, by rw [hy]; rfl⟩
  unfold copyStored withOut
  rw [hy]
  have hb := hkept.outer
  simp only [bare, Ticket.mk.injEq] at hb
  simp only [Option.getD_some, Ticket.mk.injEq]
  tauto

theorem copyEntered_found {id : Nat} {t : Ticket} {s : State} (hid : t.id = id) (hs : (ticketOf s id).isSome) : ticketOf (copyEntered id t s) id = some t := by
  obtain ⟨y, hy⟩ := Option.isSome_iff_exists.mp hs
  rw [copyEntered, ticketOf_onTicket_self (f := fun _ => t) (fun _ _ => hid), hy]
  rfl

/-- Every ticket of the number is that one. -/
theorem copyEntered_all {id : Nat} {t : Ticket} {s : State} : ∀ x ∈ (copyEntered id t s).solv.tickets, x.id = id → x = t := by
  intro x hx hid
  obtain ⟨y, -, rfl⟩ := List.mem_map.mp hx
  split at hid
  next h => exact if_pos h
  next h => exact absurd hid h

/-! What the compare unit does (Table 8-9). -/

theorem copyJudged_pair {tk : Ticket} (hdup : tk.dup = true) (t : Ticket) (o : CopyOut) (s : State) : copyJudged tk t o s = serve (compareTicket t s) := by
  rw [copyJudged, if_pos hdup]

theorem copyJudged_single {tk : Ticket} (hdup : tk.dup = false) (t : Ticket) (o : CopyOut) (s : State) : copyJudged tk t o s = serve (endTicket t o s) := by
  rw [copyJudged, hdup, if_neg Bool.false_ne_true]

section
variable {t : Ticket} {a b : Copy} {o o' : CopyOut}

theorem compareTicket_first (hcopies : t.copies = [a, b]) (hb : b.out = none) (s : State) : compareTicket t s = s := by
  unfold compareTicket
  rw [hcopies]
  cases ha : a.out <;> simp [ha, hb]

theorem compareTicket_agree (hcopies : t.copies = [a, b]) (ha : a.out = some o) (hb : b.out = some o) (s : State) : compareTicket t s = endTicket t o s := by
  unfold compareTicket
  rw [hcopies]
  simp [ha, hb]

end

end Sys2Proof.Machine
end

section
/-! The end of a host problem (Tables 8-6, 8-7), and what becomes of its copies. -/

namespace Sys2Proof.Machine

/-! The credit of a problem in its structure. -/

theorem structOf_sid {s : State} {sid : Nat} {x : Struct} (h : structOf s sid = some x) : x.sid = sid := beq_iff_eq.mp (List.find?_some h :)

theorem structOf_onStruct {sid : Nat} {f : Struct → Struct} (hf : ∀ x, (f x).sid = x.sid) (s : State) : structOf (onStruct sid f s) sid = (structOf s sid).map f := by
  have hp : ((fun x : Struct => x.sid == sid) ∘ fun x => if x.sid = sid then f x else x) = fun x => x.sid == sid := funext fun x => by
    simp only [Function.comp]
    split
    · rw [hf]
    · rfl
  rw [structOf, onStruct, State.onSolv_solv, List.find?_map, hp, ← structOf]
  cases hx : structOf s sid with
  | none => rfl
  | some x => simp [structOf_sid hx]

/-- The structure with the records of a problem. -/
def creditedStruct (t : Ticket) (o : CopyOut) (ev50 ev51 : Bool) (keep : Bool) (now : Nat) (x : Struct) : Struct :=
  { x with
    sat := addCounts x.sat o.sats
    nReg := satN 0xFFFFFFFF (x.nReg + o.regCount)
    nSubmit := inc32 x.nSubmit
    lastSat := if ev50 then some now else x.lastSat
    lastReg := if ev51 then some now else x.lastReg
    result := if keep then some { order := t.order, gen := t.gen, tag := t.tag, out := o } else x.result }

theorem structOf_raise (n : Fin 128) (d sid : Nat) (s : State) : structOf (raise n d s) sid = structOf s sid := structOf_congr (raise_solv n d s) sid

/-- The structure of a problem of its generation, without an earlier result. -/
theorem structOf_creditStruct {t : Ticket} {x : Struct} {s : State} (hx : structOf s t.sid = some x) (hgen : x.gen = t.gen) (hres : x.result = none) (o : CopyOut) :
    structOf (creditStruct t o s) t.sid = some (creditedStruct t o (decide (0 < o.sats.sum) && secondPassed x.lastSat s.time.mt)
      (decide (0 < o.regCount) && secondPassed x.lastReg s.time.mt) (o.status == 0) s.time.mt x) := by
  unfold creditStruct
  split
  next hnone => rw [hx] at hnone; cases hnone
  next x' hx' =>
    obtain rfl : x = x' := Option.some.inj (hx.symm.trans hx')
    extract_lets good newer satNow regNow ev50 ev51 s1 s2
    have hsame : (x.gen != t.gen) = false := by simp [hgen]
    have hkeep : (good && newer) = good := by simp only [newer, hres, Bool.and_true]
    have hs1 : structOf s1 t.sid = some (creditedStruct t o ev50 ev51 good s.time.mt x) := by
      have hon := structOf_onStruct (sid := t.sid) (f := creditedStruct t o ev50 ev51 (good && newer) s.time.mt) (fun _ => rfl) s
      rw [hx] at hon
      exact hon.trans (by rw [hkeep]; rfl)
    have hs2 : structOf s2 t.sid = structOf s1 t.sid := by
      simp only [s2]
      split
      · exact structOf_raise 50 t.sid t.sid s1
      · rfl
    rw [hsame, if_neg Bool.false_ne_true]
    refine Eq.trans ?_ (hs2.trans hs1)
    split
    · exact structOf_raise 51 t.sid t.sid s2
    · rfl

theorem creditStruct_outstanding (t : Ticket) (o : CopyOut) (s : State) (p : Port) : ((creditStruct t o s).port p).outstanding = (s.port p).outstanding := by
  unfold creditStruct
  split
  · rfl
  · extract_lets good newer satNow regNow ev50 ev51 s1 s2
    have h1 : (s1.port p).outstanding = (s.port p).outstanding := by cases p <;> rfl
    have h2 : (s2.port p).outstanding = (s.port p).outstanding := by
      simp only [s2]
      split
      · rw [raise_port_outstanding, h1]
      · exact h1
    split
    · rfl
    · split
      · rw [raise_port_outstanding, h2]
      · exact h2

/-! The end of the problem. -/

theorem Answered.of_port {p : Port} {tag : Nat} {op : Op} {cls st detail : Nat} {ws : List Word} {s t : State} (h : Answered p tag op cls st detail ws s) (e : t.port p = s.port p) :
    Answered p tag op cls st detail ws t := by
  simpa only [Answered, e] using h

theorem SameBut.port {l : List Part} {s t : State} (h : SameBut l s t) (hh : Part.host ∉ l) (hm : Part.maint ∉ l) (p : Port) : t.port p = s.port p := by
  cases p
  · exact h .host hh
  · exact h .maint hm

/-- The rows that a final reply returns. -/
def replyRows (t : Ticket) (o : CopyOut) : List Word := if o.status = 0 then resultRows o t.outQty t.outFirst (outRows t) else []

theorem completeTicket_host {t : Ticket} (hw : t.work = .host) (o : CopyOut) (s : State) : completeTicket t o s =
    dropTicket t.id (finish t.port t.tag 0 (outcome t o).1 (outcome t o).2 (replyHead s.time.mt t o ++ replyRows t o) (commit t.port t.tag (creditStruct t o s))) := by
  have htime : (creditStruct t o s).time = s.time := creditStruct_same t o s .time (by decide)
  rw [← htime, completeTicket]
  simp only [hw]
  rfl

section
variable {t : Ticket} {s : State} (hw : t.work = .host) (hwaits : Waits t.port t.tag .solvSubmit s)
include hw hwaits

/-- A host problem that ends leaves no ticket and its final reply. -/
theorem hostEnds (o : CopyOut) : ticketOf (serve (completeTicket t o s)) t.id = none ∧
    Answered t.port t.tag .solvSubmit 0 (outcome t o).1 (outcome t o).2 (replyHead s.time.mt t o ++ replyRows t o) (serve (completeTicket t o s)) ∧
    (serve (completeTicket t o s)).solv.structs = (creditStruct t o s).solv.structs := by
  have hwaits' : Waits t.port t.tag .solvSubmit (creditStruct t o s) := hwaits.of_outstanding (creditStruct_outstanding t o s _)
  have hans := finish_answered hwaits'.commit 0 (outcome t o).1 (outcome t o).2 (replyHead s.time.mt t o ++ replyRows t o)
  have hsolv : (finish t.port t.tag 0 (outcome t o).1 (outcome t o).2 (replyHead s.time.mt t o ++ replyRows t o) (commit t.port t.tag (creditStruct t o s))).solv = (creditStruct t o s).solv := by
    rw [finish_solv]
    exact commit_same _ _ _ .solv (by decide)
  rw [completeTicket_host hw]
  generalize finish t.port t.tag 0 (outcome t o).1 (outcome t o).2 (replyHead s.time.mt t o ++ replyRows t o) (commit t.port t.tag (creditStruct t o s)) = u at hans hsolv
  refine ⟨ticketOf_none_of_bareTickets (serve_bareTickets _) (ticketOf_dropTicket t.id u), ?_, ?_⟩
  · exact (hans.of_port ((dropTicket_same t.id u).port (by decide) (by decide) _)).of_port ((serve_same _).port (by decide) (by decide) _)
  · rw [← hsolv]
    exact (bareSolv_fields (serve_bareSolv (dropTicket t.id u))).1

end

/-! HOST_PROBLEM_DEADLINE. -/

theorem endHost_ends {t : Ticket} {s : State} (hwaits : Waits t.port t.tag .solvSubmit s) (st detail : Nat) :
    ticketOf (endHost t st detail s) t.id = none ∧ Answered t.port t.tag .solvSubmit 0 st detail (replyHead s.time.mt t (endedOut t)) (endHost t st detail s) := by
  have hcharged : SameBut [.solv] s (charge s) := charge_same s
  have htime : (commit t.port t.tag (charge s)).time = s.time := (commit_same _ _ _ .time (by decide)).trans (hcharged .time (by decide))
  have hwaits' : Waits t.port t.tag .solvSubmit (charge s) := hwaits.of_outstanding (by rw [hcharged.port (by decide) (by decide)])
  have hans := finish_answered hwaits'.commit 0 st detail (replyHead s.time.mt t (endedOut t))
  unfold endHost
  dsimp only
  rw [htime]
  generalize finish t.port t.tag 0 st detail (replyHead s.time.mt t (endedOut t)) (commit t.port t.tag (charge s)) = u at hans
  refine ⟨ticketOf_none_of_bareTickets (serve_bareTickets _) (ticketOf_dropTicket t.id u), ?_⟩
  exact (hans.of_port ((dropTicket_same t.id u).port (by decide) (by decide) _)).of_port ((serve_same _).port (by decide) (by decide) _)

theorem exec_hostProblemDeadline {id d : Nat} {tk : Ticket} {s : State} (hfound : ticketOf s id = some tk) (hd : tk.deadline = some d) (hw : tk.work = .host)
    (ha : tk.aborted = false) : exec (.hostProblemDeadline id) s = .next (endHost tk 0x4019 (satN 65535 tk.deadlineMs) (advanceTo d s)) := by
  have harm : exec (.hostProblemDeadline id) s = execHostProblemDeadline id s := rfl
  rw [harm, execHostProblemDeadline, hfound]
  dsimp only
  rw [hd]
  simp [isHost, hw, ha]

/-! STORE_UNCORRECTABLE_ERROR. -/

theorem exec_storeUncorrectableError_none {id : Nat} {s : State} (hnone : ticketOf s id = none) (r : Fin 4) : exec (.storeUncorrectableError r id) s = .next s := by
  have harm : exec (.storeUncorrectableError r id) s = execStoreUncorrectableError r id s := rfl
  rw [harm, execStoreUncorrectableError, hnone]

theorem exec_storeUncorrectableError {r : Fin 4} {id : Nat} {tk : Ticket} {k : Copy} {s : State} (hfound : ticketOf s id = some tk) (hk : k ∈ tk.copies) (hr : k.region = r.val)
    (hrun : running k = true) : exec (.storeUncorrectableError r id) s = .next (loseRegion r 2 2 s) := by
  have harm : exec (.storeUncorrectableError r id) s = execStoreUncorrectableError r id s := rfl
  have hany : (tk.copies.any fun c => c.region == r.val && running c) = true := List.any_eq_true.mpr ⟨k, hk, by simp [hr, hrun]⟩
  rw [harm, execStoreUncorrectableError, hfound]
  dsimp only
  rw [if_pos hany]

/-! COPY_RESUME. -/

/-- Idle clusters of a region. -/
def idleClusters (s : State) (r : Nat) : List Nat := (List.range 4).filter fun cl => (runningOn s r cl).isEmpty

theorem exec_copyResume {id : Nat} {k : Fin 3} {tk : Ticket} {a : Copy} {s : State} (hfound : ticketOf s id = some tk) (hk : tk.copies[k.val]? = some a) :
    exec (.copyResume id k) s = .next (match pick (idleClusters (charge s) a.region) (freeAt (charge s) 8) with
      | some cl => if a.suspended && !a.dead && !(isHost tk && (charge s).solv.reserve == 0)
          then drawn (onTicket id (fun t => { t with copies := t.copies.set k.val { a with suspended := false, cluster := cl } }) (charge s)) else charge s
      | none => charge s) := by
  have harm : exec (.copyResume id k) s = execCopyResume id k s := rfl
  rw [harm, execCopyResume, hfound]
  dsimp only
  rw [hk]
  rfl

theorem copyResume_running {id : Nat} {k : Fin 3} {tk : Ticket} {a : Copy} {s : State} (hfound : ticketOf s id = some tk) (hk : tk.copies[k.val]? = some a) (ha : a.suspended = false) :
    exec (.copyResume id k) s = .next (charge s) := by
  rw [exec_copyResume hfound hk]
  split
  · simp [ha]
  · rfl

theorem runningOn_eq_nil_iff {s : State} {r cl : Nat} : runningOn s r cl = [] ↔ ∀ t ∈ s.solv.tickets, ∀ c ∈ t.copies, running c = true → c.region = r → c.cluster ≠ cl := by
  simp [runningOn, List.flatMap_eq_nil_iff, List.filter_eq_nil_iff]

theorem exists_of_mem_kept {l m : List Copy} (h : List.Forall₂ CopyKept l m) {b : Copy} (hb : b ∈ m) : ∃ a ∈ l, CopyKept a b := by
  induction h with
  | nil => cases hb
  | cons hab _ ih =>
    rcases List.mem_cons.mp hb with rfl | hb
    · exact ⟨_, List.mem_cons_self, hab⟩
    · obtain ⟨a, ha, hk⟩ := ih hb
      exact ⟨a, List.mem_cons_of_mem _ ha, hk⟩

/-- A copy that runs after it ran before. -/
theorem CopyKept.of_running {a b : Copy} (h : CopyKept a b) (hb : running b = true) : b = a := by
  obtain rfl | ⟨-, rfl⟩ := h
  · rfl
  · simp [running] at hb

/-- Charging starts no copy. -/
theorem charge_runningOn {s : State} {r cl : Nat} (h : runningOn s r cl = []) : runningOn (charge s) r cl = [] := by
  obtain ⟨f, hf, htickets⟩ := charge_tickets s
  rw [runningOn_eq_nil_iff] at h ⊢
  rw [htickets]
  intro t ht b hb hrun
  obtain ⟨x, hx, rfl⟩ := List.mem_map.mp ht
  obtain ⟨a, ha, hk⟩ := exists_of_mem_kept (hf x).copies hb
  obtain rfl := hk.of_running hrun
  exact h x hx b ha hrun

theorem pick_of_ne_nil {α : Type} {l : List α} (h : l ≠ []) (n : Int) : ∃ a, pick l n = some a := by
  have hlen : 0 < l.length := List.length_pos_iff.mpr h
  have hlt : (n % (max 1 l.length : Nat)).toNat < l.length := by
    have hmax : max 1 l.length = l.length := by omega
    have hmod := Int.emod_lt_of_pos n (show (0 : Int) < l.length by omega)
    have hnonneg := Int.emod_nonneg n (show (l.length : Int) ≠ 0 by omega)
    rw [hmax]
    omega
  exact ⟨_, List.getElem?_eq_getElem hlt⟩

theorem kept_getElem {l m : List Copy} (h : List.Forall₂ CopyKept l m) {k : Nat} {a : Copy} (ha : l[k]? = some a) : k < m.length := by
  rw [← h.length_eq]
  exact (List.getElem?_eq_some_iff.mp ha).1

theorem copyResume_resumes {id : Nat} {tk : Ticket} {k : Fin 3} {a : Copy} {cl : Nat} {s : State} (hfound : ticketOf s id = some tk) (hk : tk.copies[k.val]? = some a)
    (ha : a.suspended = true) (hd : a.dead = false) (hreserve : tk.work = .host → (charge s).solv.reserve ≠ 0) (hcl : cl < 4) (hidle : runningOn s a.region cl = []) :
    ∃ t y n, Steps (.copyResume id k) s t ∧ SameBut [.solv, .free] s t ∧ n < 4 ∧ runningOn (charge s) a.region n = [] ∧ ticketOf t id = some y ∧
      y.copies[k.val]? = some { a with suspended := false, cluster := n } := by
  have hne : idleClusters (charge s) a.region ≠ [] := List.ne_nil_of_mem (List.mem_filter.mpr ⟨List.mem_range.mpr hcl, List.isEmpty_iff.mpr (charge_runningOn hidle)⟩)
  obtain ⟨n, hn⟩ := pick_of_ne_nil hne (freeAt (charge s) 8)
  obtain ⟨hn4, hnidle⟩ := List.mem_filter.mp (pick_mem hn)
  have hmay : (a.suspended && !a.dead && !(isHost tk && (charge s).solv.reserve == 0)) = true := by
    simpa [ha, hd, isHost, ← imp_iff_not_or] using hreserve
  have hexec := exec_copyResume hfound hk
  rw [hn] at hexec
  dsimp only at hexec
  rw [if_pos hmay] at hexec
  obtain ⟨y, hy, hkept⟩ := charge_keepsTicket id s tk hfound
  refine ⟨_, { y with copies := y.copies.set k.val { a with suspended := false, cluster := n } }, n, hexec, ?_, List.mem_range.mp hn4, List.isEmpty_iff.mp hnidle, ?_, ?_⟩
  · exact (((SameBut.refl _ s).step (charge_same s) rfl).step (onTicket_same _ _ _) rfl).step (drawn_same _) rfl
  · have hself := ticketOf_onTicket_self (id := id) (f := fun t => { t with copies := t.copies.set k.val { a with suspended := false, cluster := n } }) (fun _ hx => hx) (charge s)
    rw [hy] at hself
    exact hself
  · exact List.getElem?_set_self (kept_getElem hkept.copies hk)

end Sys2Proof.Machine
end

section
/-! The cases of COPY_COMPLETE. -/

namespace Sys2Proof.Machine

theorem onRegion_solverKept (r : Nat) {f : Region → Region} (hf : ∀ x, (f x).st = x.st) (s : State) : SolverKept s (onRegion r f s) := by
  unfold onRegion
  split
  next i hi =>
    refine .onSolv _ s fun q => ?_
    by_cases hq : q = i
    · subst hq; simp [upd, hf]
    · have hne : i.val ≠ q.val := fun h => hq (Fin.ext h.symm)
      simp [upd, hne]
  next => exact .refl s

theorem creditRegion_solverKept (tk : Ticket) (k : Nat) (o : CopyOut) (s : State) : SolverKept s (creditRegion tk k o s) := by
  rcases creditRegion_cases tk k o s with h | ⟨r, h⟩ <;> rw [h]
  · exact .refl s
  · exact onRegion_solverKept r (f := recordCredit o) (fun _ => rfl) s

theorem copyCredited_solverKept (tk : Ticket) (k : Nat) (c : Copy) (ce : Nat) (o : CopyOut) (s : State) : SolverKept s (copyCredited tk k c ce o s) :=
  (charge_solverKept s).trans ((onRegion_solverKept c.region (f := eccCredit ce) (fun _ => rfl) _).trans (creditRegion_solverKept tk k o _))

/-- The row with copy k of a ticket: its table is entered with a ticket that is as it was but for its copies. -/
theorem copyComplete_steps {id : Nat} {tk : Ticket} {s : State} {k : Fin 3} {c : Copy} (hfound : ticketOf s id = some tk) (hk : tk.copies[k.val]? = some c) (hrun : running c = true)
    (ce : Nat) (err : Option CopyOut) :
    ∃ l w, List.Forall₂ CopyKept tk.copies l ∧ SameBut [.solv] s w ∧ w.solv.structs = s.solv.structs ∧ SolverKept s w ∧
      ticketOf w id = some (withOut tk l k.val c (storedOut tk err)) ∧ (∀ x ∈ w.solv.tickets, x.id = id → x = withOut tk l k.val c (storedOut tk err)) ∧
      Steps (.copyComplete id k ce err) s (copyJudged tk (withOut tk l k.val c (storedOut tk err)) (storedOut tk err) w) := by
  have hsteps : Steps (.copyComplete id k ce err) s _ := exec_copyComplete hfound hk hrun ce err
  generalize storedOut tk err = o at hsteps ⊢
  obtain ⟨l, hstored, hkept, hsome⟩ := copyStored_kept hfound k.val c ce o
  rw [hstored] at hsteps
  have hsame := copyCredited_same tk k.val c ce o s
  have hstructs := copyCredited_structs tk k.val c ce o s
  have hsolver := copyCredited_solverKept tk k.val c ce o s
  generalize copyCredited tk k.val c ce o s = u at hsteps hsome hsame hstructs hsolver
  exact ⟨l, copyEntered id (withOut tk l k.val c o) u, hkept, hsame.step (onTicket_same _ _ _) rfl, hstructs, hsolver.trans (onTicket_solverKept _ _ _),
    copyEntered_found (show tk.id = id from ticketOf_id hfound) hsome, copyEntered_all, hsteps⟩

theorem running_iff (c : Copy) : running c = true ↔ c.dead = false ∧ c.suspended = false ∧ c.out = none := by
  simp [running, and_assoc]

/-- A host problem that ends with what its copies have stored. -/
theorem endTicket_ends {id : Nat} {s w : State} {t : Ticket} {o : CopyOut} (hw : t.work = .host) (ha : t.aborted = false) (hid : t.id = id) (hsame : SameBut [.solv] s w)
    (hwaits : Waits t.port t.tag .solvSubmit s) : ticketOf (serve (endTicket t o w)) id = none ∧
    Answered t.port t.tag .solvSubmit 0 (outcome t o).1 (outcome t o).2 (replyHead s.time.mt t o ++ replyRows t o) (serve (endTicket t o w)) ∧
    (serve (endTicket t o w)).solv.structs = (creditStruct t o w).solv.structs := by
  have hend : endTicket t o w = completeTicket t o w := by simp [endTicket, ha]
  have htime : w.time = s.time := hsame .time (by decide)
  rw [hend, ← hid, ← htime]
  exact hostEnds hw (hwaits.of_outstanding (by rw [hsame.port (by decide) (by decide)])) o

section
variable {id : Nat} {tk : Ticket} {s : State} (hfound : ticketOf s id = some tk)
include hfound

theorem copyComplete_single {k : Copy} {o : CopyOut} {ce : Nat} {err : Option CopyOut} (hw : tk.work = .host) (ha : tk.aborted = false) (hdup : tk.dup = false) (hcopies : tk.copies = [k])
    (hrun : running k = true) (ho : o = storedOut tk err) (hwaits : Waits tk.port tk.tag .solvSubmit s) :
    ∃ t, Steps (.copyComplete id 0 ce err) s t ∧ ticketOf t id = none ∧ Answered tk.port tk.tag .solvSubmit 0 (outcome tk o).1 (outcome tk o).2
        (replyHead s.time.mt { tk with copies := [{ k with out := some o }] } o ++ replyRows tk o) t ∧
      ∀ x, structOf s tk.sid = some x → x.gen = tk.gen → x.result = none → ∃ y, structOf t tk.sid = some y ∧ y.nSubmit = inc32 x.nSubmit ∧
        y.result = (if o.status = 0 then some { order := tk.order, gen := tk.gen, tag := tk.tag, out := o } else none) := by
  obtain ⟨l, w, hkept, hsame, hstructs, -, -, -, hsteps⟩ := copyComplete_steps hfound (k := 0) (by rw [hcopies]; rfl) hrun ce err
  rw [← ho] at hsteps
  rw [hcopies] at hkept
  obtain ⟨k', l', -, hnil, rfl⟩ := List.forall₂_cons_left_iff.mp hkept
  obtain rfl := List.forall₂_nil_left_iff.mp hnil
  rw [show (0 : Fin 3).val = 0 from rfl, copyJudged_single hdup] at hsteps
  obtain ⟨hnone, hans, hcredit⟩ := endTicket_ends (t := withOut tk [k'] 0 k o) (o := o) hw ha (show tk.id = id from ticketOf_id hfound) hsame hwaits
  refine ⟨_, hsteps, hnone, hans, fun x hx hgen hres => ?_⟩
  have hxw : structOf w tk.sid = some x := by rw [structOf, hstructs]; exact hx
  have hcredited := structOf_creditStruct (t := withOut tk [k'] 0 k o) hxw hgen hres o
  rw [structOf, ← hcredit] at hcredited
  refine ⟨_, hcredited, rfl, ?_⟩
  simp only [creditedStruct, beq_iff_eq, hres]
  rfl

theorem copyComplete_first {a b : Copy} {ce : Nat} {err : Option CopyOut} (hdup : tk.dup = true) (hcopies : tk.copies = [a, b]) (hrun : running a = true) (hb : b.out = none) :
    ∃ t y k, Steps (.copyComplete id 0 ce err) s t ∧ SameBut [.solv, .free] s t ∧ ticketOf t id = some y ∧ y.copies = [{ a with out := some (storedOut tk err) }, k] ∧
      k.out = none ∧ k.region = b.region ∧ k.cluster = b.cluster ∧ t.solv.structs = s.solv.structs := by
  obtain ⟨l, w, hkept, hsame, hstructs, -, hentered, hall, hsteps⟩ := copyComplete_steps hfound (k := 0) (by rw [hcopies]; rfl) hrun ce err
  generalize storedOut tk err = o at hentered hall hsteps ⊢
  rw [hcopies] at hkept
  obtain ⟨a', l', -, hrest, rfl⟩ := List.forall₂_cons_left_iff.mp hkept
  obtain ⟨b', l'', hbk, hnil, rfl⟩ := List.forall₂_cons_left_iff.mp hrest
  obtain rfl := List.forall₂_nil_left_iff.mp hnil
  rw [show (0 : Fin 3).val = 0 from rfl] at hentered hall hsteps
  obtain ⟨hregion, hcluster, hout⟩ := hbk.place
  have hjudged : copyJudged tk (withOut tk [a', b'] 0 a o) o w = serve w := by
    rw [copyJudged_pair hdup, compareTicket_first (t := withOut tk [a', b'] 0 a o) (a := { a with out := some o }) (b := b') rfl (hout.trans hb)]
  rw [hjudged] at hsteps
  have hplaced : ∀ x ∈ w.solv.tickets, x.id = id → x.copies ≠ [] := fun x hx hid => by
    rw [hall x hx hid]
    exact List.cons_ne_nil _ _
  obtain ⟨y, hy, hykept⟩ := serve_keepsTicket hplaced _ hentered
  obtain ⟨a'', l', hak, hrest, hycopies⟩ := List.forall₂_cons_left_iff.mp (show List.Forall₂ CopyKept [{ a with out := some o }, b'] y.copies from hykept.copies)
  obtain ⟨b'', l'', hbk', hnil, rfl⟩ := List.forall₂_cons_left_iff.mp hrest
  obtain rfl := List.forall₂_nil_left_iff.mp hnil
  obtain rfl := hak.of_idle (by simp [running])
  obtain ⟨hregion', hcluster', hout'⟩ := hbk'.place
  exact ⟨_, y, b'', hsteps, ((SameBut.refl _ s).step hsame rfl).step (serve_same w) rfl, hy, hycopies, hout'.trans (hout.trans hb), hregion'.trans hregion, hcluster'.trans hcluster,
    (bareSolv_fields (serve_bareSolv w)).1.trans hstructs⟩

/-- The second of a pair leaves the first, which has stored its words, as it was. -/
theorem copyComplete_second {a b : Copy} {o : CopyOut} (hcopies : tk.copies = [a, b]) (ha : a.out = some o) (hrun : running b = true) (ce : Nat) (err : Option CopyOut) :
    ∃ w, SameBut [.solv] s w ∧ SolverKept s w ∧
      Steps (.copyComplete id 1 ce err) s (copyJudged tk { tk with copies := [a, { b with out := some (storedOut tk err) }] } (storedOut tk err) w) := by
  obtain ⟨l, w, hkept, hsame, -, hsolver, -, -, hsteps⟩ := copyComplete_steps hfound (k := 1) (by rw [hcopies]; rfl) hrun ce err
  rw [hcopies] at hkept
  obtain ⟨a', l', hak, hrest, rfl⟩ := List.forall₂_cons_left_iff.mp hkept
  obtain ⟨b', l'', -, hnil, rfl⟩ := List.forall₂_cons_left_iff.mp hrest
  obtain rfl := List.forall₂_nil_left_iff.mp hnil
  obtain rfl := hak.of_idle (by simp [running, ha])
  exact ⟨w, hsame, hsolver, hsteps⟩

theorem copyComplete_agree {a b : Copy} {o : CopyOut} {ce : Nat} {err : Option CopyOut} (hw : tk.work = .host) (hab : tk.aborted = false) (hdup : tk.dup = true) (hcopies : tk.copies = [a, b])
    (hrun : running b = true) (ha : a.out = some o) (ho : o = storedOut tk err) (hwaits : Waits tk.port tk.tag .solvSubmit s) :
    ∃ t, Steps (.copyComplete id 1 ce err) s t ∧ ticketOf t id = none ∧ Answered tk.port tk.tag .solvSubmit 0 (outcome tk o).1 (outcome tk o).2
        (replyHead s.time.mt { tk with copies := [a, { b with out := some o }] } o ++ replyRows tk o) t := by
  obtain ⟨w, hsame, -, hsteps⟩ := copyComplete_second hfound hcopies ha hrun ce err
  rw [← ho, copyJudged_pair hdup, compareTicket_agree (t := { tk with copies := [a, { b with out := some o }] }) rfl ha rfl] at hsteps
  obtain ⟨hnone, hans, -⟩ := endTicket_ends (t := { tk with copies := [a, { b with out := some o }] }) (o := o) hw hab (show tk.id = id from ticketOf_id hfound) hsame hwaits
  exact ⟨_, hsteps, hnone, hans⟩

end

/-! Two copies that differ. -/

/-- A mismatch counted in a region. -/
def mismatchCounted (x : Region) : Region := { x with mismatch := satN 0xFFFF (x.mismatch + 1) }

/-- The mismatch of the copies in two regions is raised and counted. -/
def mismatchNoted (a b : Nat) (s : State) : State := onRegion a mismatchCounted (onRegion b mismatchCounted (raise 49 (a * 256 + b) s))

/-- A third copy outside both regions, or the end of the problem where none can run (R206). -/
def thirdCopy (t : Ticket) (a b : Nat) (s : State) : State :=
  match extraCopy s t.work [a, b] with
  | some c => drawn (onTicket t.id (fun t => { t with copies := t.copies ++ [c], retried := true }) (if yields t.work then s else claim [c] s))
  | none => compareFault t s

theorem compareTicket_differ {t : Ticket} {a b : Copy} {o o' : CopyOut} (hcopies : t.copies = [a, b]) (ha : a.out = some o') (hb : b.out = some o) (hne : o' ≠ o) (s : State) :
    compareTicket t s = thirdCopy t a.region b.region (mismatchNoted a.region b.region s) := by
  have hout0 : ((t.copies[0]?).bind fun c => c.out) = some o' := by rw [hcopies]; exact ha
  have hout1 : ((t.copies[1]?).bind fun c => c.out) = some o := by rw [hcopies]; exact hb
  have hout2 : ((t.copies[2]?).bind fun c => c.out) = none := by rw [hcopies]; rfl
  have hregion0 : ((t.copies[0]?).map fun c => c.region).getD 0 = a.region := by rw [hcopies]; rfl
  have hregion1 : ((t.copies[1]?).map fun c => c.region).getD 0 = b.region := by rw [hcopies]; rfl
  have hthree : ¬ t.copies.length = 3 := by simp [hcopies]
  unfold compareTicket
  dsimp only
  rw [hout0, hout1, hout2]
  dsimp only
  rw [if_neg hthree, if_neg hne, hregion0, hregion1]
  rfl

theorem thirdCopy_solverKept (t : Ticket) (a b : Nat) (s : State) : SolverKept s (thirdCopy t a b s) := by
  unfold thirdCopy
  split
  next c hc =>
    have hclaim : SolverKept s (if yields t.work then s else claim [c] s) := by
      split
      · exact .refl s
      · exact claim_solverKept _ s
    exact hclaim.trans ((onTicket_solverKept _ _ _).trans (drawn_solverKept _))
  next => exact compareFault_solverKept t s

theorem mismatchNoted_solverKept (a b : Nat) (s : State) : SolverKept (raise 49 (a * 256 + b) s) (mismatchNoted a b s) :=
  (onRegion_solverKept b (f := mismatchCounted) (fun _ => rfl) _).trans (onRegion_solverKept a (f := mismatchCounted) (fun _ => rfl) _)

theorem copyComplete_differ {id : Nat} {tk : Ticket} {s : State} {a b : Copy} {o' : CopyOut} {ce : Nat} {err : Option CopyOut} (hfound : ticketOf s id = some tk) (hdup : tk.dup = true)
    (hcopies : tk.copies = [a, b]) (hrun : running b = true) (ha : a.out = some o') (hne : o' ≠ storedOut tk err) (hready : s.hp.ready = true) :
    ∃ t, Steps (.copyComplete id 1 ce err) s t ∧ Occurred 49 (a.region * 256 + b.region) s t := by
  obtain ⟨w, hsame, hsolver, hsteps⟩ := copyComplete_second hfound hcopies ha hrun ce err
  rw [copyJudged_pair hdup, compareTicket_differ (t := { tk with copies := [a, { b with out := some (storedOut tk err) }] }) rfl ha rfl hne] at hsteps
  have hkept := (mismatchNoted_solverKept a.region b.region w).trans ((thirdCopy_solverKept { tk with copies := [a, { b with out := some (storedOut tk err) }] } a.region b.region _).trans (serve_solverKept _))
  have hraised : Occurred 49 (a.region * 256 + b.region) w (raise 49 (a.region * 256 + b.region) w) := raise_occurs _ (hsolver.ready ▸ hready) (by decide)
  exact ⟨_, hsteps, (hraised.of_events hkept.events (by decide)).after_events hsolver.events (by decide)⟩

end Sys2Proof.Machine
end

section
open Sys2Proof Sys2Proof.Machine

/-- Settles O39: the structure commands by their rows, a submission by the table without copies and where its copies go, the end of a copy by the cases of the compare unit, a lost region by what the
work of the solver keeps. -/
theorem solverProblemsAreSubmittedComparedAndAnswered : Obligations.SolverProblemsAreSubmittedComparedAndAnswered := by
  unfold Obligations.SolverProblemsAreSubmittedComparedAndAnswered
  refine ⟨?starts, ?invalid, ?full, ?busy, ?unstaged, ?reserved, ?installs, ?noInstall, ?removes, ?inUse, ?sets, ?badEntry, ?pipeline, ?opens, ?noTicket, ?noStruct, ?refused,
    ?single, ?anywhere, ?first, ?agree, ?differ, ?noCopy, ?storeError, ?noStore, ?deadline, ?resumes, ?runs⟩
  case starts => exact fun p c k ws s h ho hsid hfree hstaged hfault hfits => structDefine_starts h ho hsid hfree hstaged hfault hfits
  case invalid => exact fun p c k r ws s h ho hsid hfree hstaged hfault => structDefine_invalid h ho hsid hfree hstaged hfault
  case full => exact fun p c k ws s h ho hsid hfree hstaged hfault hfull => structDefine_full h ho hsid hfree hstaged hfault hfull
  case busy => exact fun p c s h ho hsid hbusy => structDefine_busy h ho hsid hbusy
  case unstaged => exact fun p c s h ho hsid hfree hstaged => structDefine_unstaged h ho hsid hfree hstaged
  case reserved => exact fun p c s h ho hsid => structDefine_reserved h ho hsid
  case installs =>
    intro i rest n s hi hsid hw
    obtain ⟨t, hsteps, hans, hsame, hsolv⟩ := structInstallComplete_installs hi hsid hw
    refine ⟨t, _, hsteps, hans, hsame, rfl, ?_⟩
    rwa [freshStruct_at hsid] at hsolv
  case noInstall => exact fun s h => exec_structInstallComplete_none h
  case removes => exact fun p c x s h ho hsid hx hfree => structDelete_removes h ho hsid hx hfree
  case inUse => exact fun p c x s h ho hsid hx hbusy => structDelete_busy h ho hsid hx hbusy
  case sets => exact fun p c x s h ho hsid hx hgood hroom => update_sets h ho hsid hx hgood hroom
  case badEntry => exact fun p c x i s h ho hsid hx hi hbad hbefore => update_badEntry h ho hsid hx hi hbad hbefore
  case pipeline => exact fun p c s h ho hsid => update_reserved h ho hsid
  case opens =>
    intro p c ws x id s h ho hws hsid hx hcold hfree
    obtain ⟨t, ms, tk, hsteps, hacc, hsame, hstructs, horder, hids, hfound, hbare, hplaced⟩ := submit_opens h ho hws hsid hx hcold hfree
    obtain ⟨hwork, hport, htag, hsidt, hgen, hon, hversion, hvals, hnumber, hdup, hdeadline⟩ := submitted_fields hbare
    have hw0 : fld (wd ws 0) 5 0 = sidOf c := by rw [hws, wd_expertWords_zero hsid]; rfl
    rw [← hdup] at hplaced
    exact ⟨t, ms, tk, hsteps, hacc, hsame, hstructs, horder, hids, hfound, hwork, hport, htag, hsidt.trans hw0, hgen, hon, hversion, hvals, hnumber, hdup, hdeadline, hplaced⟩
  case noTicket => exact fun p c x s h ho hsid hx hcold hfull => submit_noTicket h ho hsid hx hcold hfull
  case noStruct => exact fun p c id s h ho hsid hx hfree => submit_noStruct h ho hsid hx hfree
  case refused => exact fun p c s h ho hbad => submit_invalid h ho hbad
  case single =>
    intro id ce err tk k o s hfound hw ha hdup hcopies hdead hsusp hout ho hwaits
    exact copyComplete_single hfound hw ha hdup hcopies ((running_iff k).mpr ⟨hdead, hsusp, hout⟩) ho hwaits
  case anywhere => exact fun tk l => rfl
  case first =>
    intro id ce err tk a b s hfound hdup hcopies hdead hsusp ha hb
    exact copyComplete_first hfound hdup hcopies ((running_iff a).mpr ⟨hdead, hsusp, ha⟩) hb
  case agree =>
    intro id ce err tk a b o s hfound hw hab hdup hcopies hdead hsusp ha hb ho hwaits
    exact copyComplete_agree hfound hw hab hdup hcopies ((running_iff b).mpr ⟨hdead, hsusp, hb⟩) ha ho hwaits
  case differ =>
    intro id ce err tk a b o' s hfound hdup hcopies hdead hsusp ha hb hne hready
    exact copyComplete_differ hfound hdup hcopies ((running_iff b).mpr ⟨hdead, hsusp, hb⟩) ha hne hready
  case noCopy => exact fun id ce k err s hnone => exec_copyComplete_none hnone k ce err
  case storeError =>
    intro r id tk k s hfound hk hr hout hdead hsusp hregion
    obtain ⟨hst, hdom, hexit⟩ := loseRegion_off 2 2 hregion
    exact ⟨_, exec_storeUncorrectableError hfound hk hr ((running_iff k).mpr ⟨hdead, hsusp, hout⟩), hst, hdom, hexit, loseRegion_occurred 2 2 hregion, loseRegion_seen 2 2 hregion⟩
  case noStore => exact fun r id s hnone => exec_storeUncorrectableError_none hnone r
  case deadline =>
    intro id d tk s hfound hd hw ha hwaits
    have hsame := endHost_same tk 0x4019 (satN 65535 tk.deadlineMs) (advanceTo d s)
    have htime : (endHost tk 0x4019 (satN 65535 tk.deadlineMs) (advanceTo d s)).time = (advanceTo d s).time := hsame .time (by decide)
    have hwaits' : Waits tk.port tk.tag .solvSubmit (advanceTo d s) := hwaits.of_outstanding (by rw [(advanceTo_same d s).port (by decide) (by decide)])
    obtain ⟨hnone, hans⟩ := endHost_ends hwaits' 0x4019 (satN 65535 tk.deadlineMs)
    rw [ticketOf_id hfound] at hnone
    rw [← htime] at hans
    exact ⟨_, exec_hostProblemDeadline hfound hd hw ha, ((SameBut.refl _ s).step (advanceTo_same d s) rfl).step hsame rfl, hnone, hans⟩
  case resumes => exact fun id tk k a cl s hfound hk ha hd hreserve hcl hidle => copyResume_resumes hfound hk ha hd hreserve hcl hidle
  case runs => exact fun id tk k a s hfound hk ha => copyResume_running hfound hk ha
end

section

/-! What each instruction may change: its own frame lemma, and no list with the queue of waiting commands. -/

namespace Sys2Proof.Machine

/-- Every instruction changes no more than its parts; each case is the frame lemma of its own arm. -/
theorem exec_frame {i : Instr} {s t : State} (hst : Steps i s t) : SameBut (mayChange i) s t := by
  cases i with
  | cmdqWriteResume => exact execCmdqWriteResume_same s hst
  | accessAbandoned => exact execAccessAbandoned_same s hst
  | conflictingStrobe => exact execConflictingStrobe_same s hst
  | hpRspqRead e => exact execHpRspqRead_same e s hst
  | hpEccRead late => exact execHpEccRead_same late s hst
  | hpWakeWrite v => exact execHpWakeWrite_same v s hst
  | hpStatClear v setDuring => exact execHpStatClear_same v setDuring s hst
  | hpIrqClear n v setDuring => exact execHpIrqClear_same n v setDuring s hst
  | hpImskWrite n v => exact execHpImskWrite_same n v s hst
  | rtcShadowRead r => exact execRtcShadowRead_same r s hst
  | rtcYearRead => exact execRtcYearRead_same s hst
  | rtcCommit => exact execRtcCommit_same s hst
  | rtcCtlClear v setDuring => exact execRtcCtlClear_same v setDuring s hst
  | registerWrite a v => exact execRegisterWrite_same a v s hst
  | commandIntake p => exact execCommandIntake_same p s hst
  | packetTimeout p => exact execPacketTimeout_same p s hst
  | replyTransfer p => exact execReplyTransfer_same p s hst
  | unsolLost p => exact execUnsolLost_same p s hst
  | bulkHandleTimeout h => exact execBulkHandleTimeout_same h s hst
  | sysGetId p => exact execSysGetId_same p s hst
  | sysSetMode p => exact execSysSetMode_same p s hst
  | sysSetWake p => exact execSysSetWake_same p s hst
  | sysAbort p => exact execSysAbort_same p s hst
  | sysReset p => exact execSysReset_same p s hst
  | timeGet p => exact execTimeGet_same p s hst
  | timeSetRtc p => exact execTimeSetRtc_same p s hst
  | timeSetAlarm p => exact execTimeSetAlarm_same p s hst
  | timeGetAlarm p => exact execTimeGetAlarm_same p s hst
  | gnssConfig p => exact execGnssConfig_same p s hst
  | gnssRtcmConfig p => exact execGnssRtcmConfig_same p s hst
  | gnssHdgConfig p => exact execGnssHdgConfig_same p s hst
  | gnssStream p => exact execGnssStream_same p s hst
  | gnssRestart p => exact execGnssRestart_same p s hst
  | fusRefConfig p => exact execFusRefConfig_same p s hst
  | fusRefEnable p => exact execFusRefEnable_same p s hst
  | fusRefCapture p => exact execFusRefCapture_same p s hst
  | fusVoteConfig p => exact execFusVoteConfig_same p s hst
  | fusObserverConfig p => exact execFusObserverConfig_same p s hst
  | fusRefStatus p => exact execFusRefStatus_same p s hst
  | fusSensorStream p => exact execFusSensorStream_same p s hst
  | fusStateStream p => exact execFusStateStream_same p s hst
  | solvStructDefine p => exact execSolvStructDefine_same p s hst
  | solvStructDelete p => exact execSolvStructDelete_same p s hst
  | solvUpdate p => exact execSolvUpdate_same p s hst
  | solvStructQuery p => exact execSolvStructQuery_same p s hst
  | solvSubmit p => exact execSolvSubmit_same p s hst
  | solvResultRead p => exact execSolvResultRead_same p s hst
  | solvPlacement p => exact execSolvPlacement_same p s hst
  | dpcSetFunction p => exact execDpcSetFunction_same p s hst
  | dpcSetDatum p => exact execDpcSetDatum_same p s hst
  | dpcSetRotationPoint p => exact execDpcSetRotationPoint_same p s hst
  | dpcControllerConfig p => exact execDpcControllerConfig_same p s hst
  | dpcMpcConfig p => exact execDpcMpcConfig_same p s hst
  | dpcMoveConfig p => exact execDpcMoveConfig_same p s hst
  | dpcSetTarget p => exact execDpcSetTarget_same p s hst
  | dpcJoystick p => exact execDpcJoystick_same p s hst
  | dpcJoystickConfig p => exact execDpcJoystickConfig_same p s hst
  | dpcTrackControl p => exact execDpcTrackControl_same p s hst
  | dpcPowerConfig p => exact execDpcPowerConfig_same p s hst
  | dpcStatus p => exact execDpcStatus_same p s hst
  | dpcStateStream p => exact execDpcStateStream_same p s hst
  | allocThrusterConfig p => exact execAllocThrusterConfig_same p s hst
  | allocConfig p => exact execAllocConfig_same p s hst
  | allocThrusterEnable p => exact execAllocThrusterEnable_same p s hst
  | allocThrusterStatus p => exact execAllocThrusterStatus_same p s hst
  | allocStatus p => exact execAllocStatus_same p s hst
  | allocEnvelopeRead p => exact execAllocEnvelopeRead_same p s hst
  | allocConseqConfig p => exact execAllocConseqConfig_same p s hst
  | allocStateStream p => exact execAllocStateStream_same p s hst
  | loopConfig p => exact execLoopConfig_same p s hst
  | loopThrusterBind p => exact execLoopThrusterBind_same p s hst
  | loopSetCoeff p => exact execLoopSetCoeff_same p s hst
  | loopClose p => exact execLoopClose_same p s hst
  | loopOpen p => exact execLoopOpen_same p s hst
  | loopSetManual p => exact execLoopSetManual_same p s hst
  | loopSetSetpoint p => exact execLoopSetSetpoint_same p s hst
  | loopGroup p => exact execLoopGroup_same p s hst
  | loopStatus p => exact execLoopStatus_same p s hst
  | follyStart p => exact execFollyStart_same p s hst
  | follyStop p => exact execFollyStop_same p s hst
  | profConfig p => exact execProfConfig_same p s hst
  | profMove p => exact execProfMove_same p s hst
  | profHome p => exact execProfHome_same p s hst
  | profStatus p => exact execProfStatus_same p s hst
  | busCanConfig p => exact execBusCanConfig_same p s hst
  | busCanFilter p => exact execBusCanFilter_same p s hst
  | busCanSend p => exact execBusCanSend_same p s hst
  | busCanReceive p => exact execBusCanReceive_same p s hst
  | busCanSleep p => exact execBusCanSleep_same p s hst
  | busCanRecover p => exact execBusCanRecover_same p s hst
  | busCanRelease p => exact execBusCanRelease_same p s hst
  | busCanStatus p => exact execBusCanStatus_same p s hst
  | busUartConfig p => exact execBusUartConfig_same p s hst
  | busUartSend p => exact execBusUartSend_same p s hst
  | busUartStatus p => exact execBusUartStatus_same p s hst
  | busStream p => exact execBusStream_same p s hst
  | kilnConfig p => exact execKilnConfig_same p s hst
  | kilnConfirm p => exact execKilnConfirm_same p s hst
  | kilnReadConfig p => exact execKilnReadConfig_same p s hst
  | kilnStatus p => exact execKilnStatus_same p s hst
  | kilnBrake p => exact execKilnBrake_same p s hst
  | kilnAck p => exact execKilnAck_same p s hst
  | dpxConfig p => exact execDpxConfig_same p s hst
  | dpxTransfer p => exact execDpxTransfer_same p s hst
  | dpxStatus p => exact execDpxStatus_same p s hst
  | dpxHostDataWrite p => exact execDpxHostDataWrite_same p s hst
  | dpxHostDataRead p => exact execDpxHostDataRead_same p s hst
  | calSet p => exact execCalSet_same p s hst
  | calRead p => exact execCalRead_same p s hst
  | cfgFirChannel p => exact execCfgFirChannel_same p s hst
  | cfgFirQuery p => exact execCfgFirQuery_same p s hst
  | cfgModule p => exact execCfgModule_same p s hst
  | cfgCommit p => exact execCfgCommit_same p s hst
  | cfgLoad p => exact execCfgLoad_same p s hst
  | cfgStatus p => exact execCfgStatus_same p s hst
  | busMaintConfig p => exact execBusMaintConfig_same p s hst
  | logConfig p => exact execLogConfig_same p s hst
  | logRate p => exact execLogRate_same p s hst
  | logRead p => exact execLogRead_same p s hst
  | logStatus p => exact execLogStatus_same p s hst
  | logWrite p => exact execLogWrite_same p s hst
  | evtRoute p => exact execEvtRoute_same p s hst
  | evtQuery p => exact execEvtQuery_same p s hst
  | bulkOpen p => exact execBulkOpen_same p s hst
  | bulkWrite p => exact execBulkWrite_same p s hst
  | bulkRead p => exact execBulkRead_same p s hst
  | bulkClose p => exact execBulkClose_same p s hst
  | mainPowerOn k => exact execMainPowerOn_same k s hst
  | vmainLoss fate => exact execVmainLoss_same fate s hst
  | emberContentLoss => exact execEmberContentLoss_same s hst
  | rstNAssert widthNs => exact execRstNAssert_same widthNs s hst
  | rstNRelease => exact execRstNRelease_same s hst
  | warmResetStart k => exact execWarmResetStart_same k s hst
  | fwRunConfirm => exact execFwRunConfirm_same s hst
  | watchdogExpiry => exact execWatchdogExpiry_same s hst
  | watchdogResetDelayEnd => exact execWatchdogResetDelayEnd_same s hst
  | tcxoFailure => exact execTcxoFailure_same s hst
  | startRoleResolution => exact execStartRoleResolution_same s hst
  | powerFailFlush => exact execPowerFailFlush_same s hst
  | pfailRecovery => exact execPfailRecovery_same s hst
  | wakeTrigger w => exact execWakeTrigger_same w s hst
  | domainExitComplete d => exact execDomainExitComplete_same d s hst
  | wakeIdleReturn => exact execWakeIdleReturn_same s hst
  | frameBoundary temps => exact execFrameBoundary_same temps s hst
  | observerUpdateComplete ce => exact execObserverUpdateComplete_same ce s hst
  | drLimitExpiry heading => exact execDrLimitExpiry_same heading s hst
  | positionControlStep => exact execPositionControlStep_same s hst
  | speculationCheck => exact execSpeculationCheck_same s hst
  | setpointIssue => exact execSetpointIssue_same s hst
  | mirrorSend => exact execMirrorSend_same s hst
  | hypothesisBankDeadline => exact execHypothesisBankDeadline_same s hst
  | deadlineMiss d => exact execDeadlineMiss_same d s hst
  | alarmFire a => exact execAlarmFire_same a s hst
  | rtcFreezeTimeout => exact execRtcFreezeTimeout_same s hst
  | rtcLoad => exact execRtcLoad_same s hst
  | ppsEdge => exact execPpsEdge_same s hst
  | ppsMissedTimeout => exact execPpsMissedTimeout_same s hst
  | timeSolutionLoss => exact execTimeSolutionLoss_same s hst
  | timeSolutionReturn t => exact execTimeSolutionReturn_same t s hst
  | holdoverLimit => exact execHoldoverLimit_same s hst
  | gnssEpoch m => exact execGnssEpoch_same m s hst
  | gnssSolutionComplete b q => exact execGnssSolutionComplete_same b q s hst
  | gnssHeadingComplete h => exact execGnssHeadingComplete_same h s hst
  | gnssSolutionTimeout w => exact execGnssSolutionTimeout_same w s hst
  | antennaStateChange a cls => exact execAntennaStateChange_same a cls s hst
  | antennaShortRetry a stillShort => exact execAntennaShortRetry_same a stillShort s hst
  | channelAcquisition b ch prn st => exact execChannelAcquisition_same b ch prn st s hst
  | channelLossOfLock b ch => exact execChannelLossOfLock_same b ch s hst
  | cycleSlip b ch => exact execCycleSlip_same b ch s hst
  | navWordDecoded b ch idx raw => exact execNavWordDecoded_same b ch idx raw s hst
  | rtcmFrame data => exact execRtcmFrame_same data s hst
  | gnssInterference b noise avg => exact execGnssInterference_same b noise avg s hst
  | gnssFault b => exact execGnssFault_same b s hst
  | sampleInstant slot x => exact execSampleInstant_same slot x s hst
  | imuFault reason => exact execImuFault_same reason s hst
  | belvFault detail => exact execBelvFault_same detail s hst
  | copyComplete ticket copy ce err => exact execCopyComplete_same ticket copy ce err s hst
  | storeUncorrectableError r ticket => exact execStoreUncorrectableError_same r ticket s hst
  | linkTransferFailure u corrected fails => exact execLinkTransferFailure_same u corrected fails s hst
  | hostProblemDeadline ticket => exact execHostProblemDeadline_same ticket s hst
  | copyResume ticket copy => exact execCopyResume_same ticket copy s hst
  | structInstallComplete => exact execStructInstallComplete_same s hst
  | caDirection0Complete => exact execCaDirection0Complete_same s hst
  | caCycleComplete => exact execCaCycleComplete_same s hst
  | mpcResultCommit => exact execMpcResultCommit_same s hst
  | mpcLate => exact execMpcLate_same s hst
  | joystickTimeout => exact execJoystickTimeout_same s hst
  | pmsFrame data => exact execPmsFrame_same data s hst
  | pmsTimeout => exact execPmsTimeout_same s hst
  | targetReached => exact execTargetReached_same s hst
  | dpcExcursion heading raised => exact execDpcExcursion_same heading raised s hst
  | allocSlackAlarm => exact execAllocSlackAlarm_same s hst
  | notreadyDetect t => exact execNotreadyDetect_same t s hst
  | feedbackTimeout t => exact execFeedbackTimeout_same t s hst
  | thrusterReturnTimer t => exact execThrusterReturnTimer_same t s hst
  | loopTick le => exact execLoopTick_same le s hst
  | followingError le => exact execFollowingError_same le s hst
  | follyComplete => exact execFollyComplete_same s hst
  | profileTick pc => exact execProfileTick_same pc s hst
  | profileFollowingError pc => exact execProfileFollowingError_same pc s hst
  | standstillTimer pc => exact execStandstillTimer_same pc s hst
  | releaseDelayEnd pc => exact execReleaseDelayEnd_same pc s hst
  | homeStall pc => exact execHomeStall_same pc s hst
  | vkilnRise => exact execVkilnRise_same s hst
  | vkilnLoss => exact execVkilnLoss_same s hst
  | kilnStartTestComplete pass => exact execKilnStartTestComplete_same pass s hst
  | safeInputChange n level => exact execSafeInputChange_same n level s hst
  | pairDiscrepancyTimeout j => exact execPairDiscrepancyTimeout_same j s hst
  | kilnResetInput highMs => exact execKilnResetInput_same highMs s hst
  | kilnChannelCompareFault => exact execKilnChannelCompareFault_same s hst
  | kilnRingCrossCheck k1 k2 => exact execKilnRingCrossCheck_same k1 k2 s hst
  | kilnConfigCrcCheck ok => exact execKilnConfigCrcCheck_same ok s hst
  | kilnRecoveryEnd pass => exact execKilnRecoveryEnd_same pass s hst
  | outputTestSlot slot => exact execOutputTestSlot_same slot s hst
  | testPulseEnd slot readbackOk mirrorOpen => exact execTestPulseEnd_same slot readbackOk mirrorOpen s hst
  | readbackFault n outB level => exact execReadbackFault_same n outB level s hst
  | feedbackCheckTimeout n fba fbb => exact execFeedbackCheckTimeout_same n fba fbb s hst
  | kilnRequestWord path mask comp => exact execKilnRequestWord_same path mask comp s hst
  | kilnRequestStale path => exact execKilnRequestStale_same path s hst
  | cdInconsistent => exact execCdInconsistent_same s hst
  | sdTelegramCopy bus4 bytes => exact execSdTelegramCopy_same bus4 bytes s hst
  | sdWindowEnd => exact execSdWindowEnd_same s hst
  | sdTimeout => exact execSdTimeout_same s hst
  | sdDegradedTimeout => exact execSdDegradedTimeout_same s hst
  | kilnStageExpiry => exact execKilnStageExpiry_same s hst
  | kilnWriteComplete ok => exact execKilnWriteComplete_same ok s hst
  | kilnStateArrival => exact execKilnStateArrival_same s hst
  | heartbeatSend => exact execHeartbeatSend_same s hst
  | heartbeatReceive h => exact execHeartbeatReceive_same h s hst
  | heartbeatTimeout ownIn => exact execHeartbeatTimeout_same ownIn s hst
  | laneUp l roundTrip => exact execLaneUp_same l roundTrip s hst
  | laneDown l => exact execLaneDown_same l s hst
  | mirrorSegmentReceive g => exact execMirrorSegmentReceive_same g s hst
  | mirrorAckReceive frame crcOk => exact execMirrorAckReceive_same frame crcOk s hst
  | giveupInRise => exact execGiveupInRise_same s hst
  | takeover => exact execTakeover_same s hst
  | ownInRise => exact execOwnInRise_same s hst
  | dualOwnership => exact execDualOwnership_same s hst
  | supervisorHeartbeatLoss => exact execSupervisorHeartbeatLoss_same s hst
  | giveupTimeout => exact execGiveupTimeout_same s hst
  | transferTimeout => exact execTransferTimeout_same s hst
  | transferReqTimeout => exact execTransferReqTimeout_same s hst
  | safeHoldHandover => exact execSafeHoldHandover_same s hst
  | handoverRetry => exact execHandoverRetry_same s hst
  | reclaimHoldoffExpiry => exact execReclaimHoldoffExpiry_same s hst
  | canFrameReceive c x => exact execCanFrameReceive_same c x s hst
  | canTransmitAttempt c r => exact execCanTransmitAttempt_same c r s hst
  | canBusOff c => exact execCanBusOff_same c s hst
  | canBusOffRecovery c => exact execCanBusOffRecovery_same c s hst
  | canSleepEffect c => exact execCanSleepEffect_same c s hst
  | canWake c w => exact execCanWake_same c w s hst
  | busStreamPoint => exact execBusStreamPoint_same s hst
  | uartSentence u x => exact execUartSentence_same u x s hst
  | maintFrameReceive m => exact execMaintFrameReceive_same m s hst
  | maintFreeReport => exact execMaintFreeReport_same s hst
  | logFlush bad => exact execLogFlush_same bad s hst
  | counterCheckpoint => exact execCounterCheckpoint_same s hst
  | summaryIntervalEnd => exact execSummaryIntervalEnd_same s hst
  | flashLoss nf0 nf1 => exact execFlashLoss_same nf0 nf1 s hst
  | flashReturn nf0 nf1 => exact execFlashReturn_same nf0 nf1 s hst
  | cfgCommitComplete readbackOk => exact execCfgCommitComplete_same readbackOk s hst
  | fwProgramComplete readbackOk => exact execFwProgramComplete_same readbackOk s hst
  | hpCmdqWrite w e => exact execHpCmdqWrite_same w e s hst
  | internalRailFault => exact execInternalRailFault_same s hst
  | stateMemoryEccError => exact execStateMemoryEccError_same s hst
  | handoverTimeout => exact execHandoverTimeout_same s hst
  | sectorEraseComplete => exact execSectorEraseComplete_same s hst
  | canIntegration c => exact execCanIntegration_same c s hst
  | boundaryScanAccess a => exact execBoundaryScanAccess_same a s hst
/-- The lists are literals, one per instruction. -/
theorem pending_not_mem_mayChange (i : Instr) : Part.pending ∉ mayChange i := by cases i <;> exact of_decide_eq_true rfl

end Sys2Proof.Machine

open Sys2Proof Sys2Proof.Machine

/-- Settles O3: the frame of each instruction, and the queue of waiting commands is in no list. -/
theorem everyCommandLeavesTheOtherPartsAlone : Obligations.EveryCommandLeavesTheOtherPartsAlone :=
  fun i _ _ h => ⟨exec_frame h, exec_frame h .pending (pending_not_mem_mayChange i)⟩
end

section

/-! The direct registers after a reset, and the interrupt lines (2.11, 17.2). -/

namespace Sys2Proof.Machine

/-! What reset leaves in the direct registers. -/

theorem reset_src (n : Fin 128) : State.reset.ev.src[n] = EvSrc.initial n.val := Vector.getElem_ofFn _

theorem reset_src_pend (n : Fin 128) : (State.reset.ev.src[n]).pend = false := by rw [reset_src]; rfl

theorem reset_src_mask (n : Fin 128) : (State.reset.ev.src[n]).mask = false := by rw [reset_src]; rfl

/-- Without pending bits HP_IRQn reads 0. -/
theorem hpIrq_eq_zero {s : State} (h : ∀ i : Fin 128, (s.ev.src[i]).pend = false) (n : Fin 4) : hpIrq s n = 0 := by
  rw [hpIrq_eq]
  simp only [h]
  rfl

/-- Without enables HP_IMSKn reads 0. -/
theorem hpImsk_eq_zero {s : State} (h : ∀ i : Fin 128, (s.ev.src[i]).mask = false) (n : Fin 4) : hpImsk s n = 0 := by
  rw [hpImsk_eq]
  simp only [h]
  rfl

/-! The interrupt lines (R64, R404). -/

theorem irqLow_iff (l : Nat) (s : State) :
    irqLow l s = true ↔ ∃ n : Fin 128, (s.ev.src[n]).pend = true ∧ (s.ev.src[n]).mask = true ∧ (s.ev.src[n]).line = l := by
  simp only [irqLow, List.any_eq_true, Vector.mem_toList_iff, Vector.mem_iff_getElem, Bool.and_eq_true, beq_iff_eq]
  constructor
  · rintro ⟨x, ⟨i, hi, rfl⟩, ⟨hp, hm⟩, hl⟩
    exact ⟨⟨i, hi⟩, hp, hm, hl⟩
  · rintro ⟨n, hp, hm, hl⟩
    exact ⟨_, ⟨n.val, n.isLt, rfl⟩, ⟨hp, hm⟩, hl⟩

/-- Without an enabled source a line is high. -/
theorem irqLow_of_masked {s : State} (h : ∀ n : Fin 128, (s.ev.src[n]).mask = false) (l : Nat) : irqLow l s = false := by
  rw [Bool.eq_false_iff, Ne, irqLow_iff]
  rintro ⟨n, -, hm, -⟩
  rw [h n] at hm
  exact Bool.false_ne_true hm

/-! An occurrence and the pending bits (R64, R404). -/

theorem occur_src_self (n : Fin 128) (d mt : Nat) (s : State) : (occur n d mt s).ev.src[n] =
    { s.ev.src[n] with pend := true, count := satN 0xFFFF ((s.ev.src[n]).count + 1), lastMt := mt, lastDetail := d % 65536 } :=
  (congrArg (·[n]) (occur_src n d mt s)).trans (upd_self _ _ _)

theorem occur_src_other {n m : Fin 128} (h : m ≠ n) (d mt : Nat) (s : State) : (occur n d mt s).ev.src[m] = s.ev.src[m] :=
  (congrArg (·[m]) (occur_src n d mt s)).trans (upd_other _ _ _ _ h)

/-- Nothing that pends in the first state has been cleared in the second, and every route and enable is the same. -/
structure PendGrows (s t : State) : Prop where
  pend : ∀ m : Fin 128, (s.ev.src[m]).pend = true → (t.ev.src[m]).pend = true
  line : ∀ m : Fin 128, (t.ev.src[m]).line = (s.ev.src[m]).line
  mask : ∀ m : Fin 128, (t.ev.src[m]).mask = (s.ev.src[m]).mask

theorem PendGrows.trans {s t u : State} (h : PendGrows s t) (k : PendGrows t u) : PendGrows s u :=
  ⟨fun m => k.pend m ∘ h.pend m, fun m => (k.line m).trans (h.line m), fun m => (k.mask m).trans (h.mask m)⟩

theorem PendGrows.of_src {s t : State} (h : t.ev.src = s.ev.src) : PendGrows s t := by
  constructor <;> intro m <;> simp [h]

theorem occur_pendGrows (n : Fin 128) (d mt : Nat) (s : State) : PendGrows s (occur n d mt s) := by
  constructor
  case pend =>
    intro m hm
    rcases eq_or_ne m n with rfl | hne
    · rw [occur_src_self]
    · rwa [occur_src_other hne]
  case line =>
    intro m
    rcases eq_or_ne m n with rfl | hne
    · rw [occur_src_self]
    · rw [occur_src_other hne]
  case mask =>
    intro m
    rcases eq_or_ne m n with rfl | hne
    · rw [occur_src_self]
    · rw [occur_src_other hne]

theorem overflow_pendGrows (a b : State) : PendGrows b (overflow a b) := by
  rcases overflow_src a b with e | ⟨d, mt, e⟩
  · exact .of_src e
  · exact (occur_pendGrows 120 d mt b).trans (.of_src e)

/-- An occurrence that the firmware sees is an occurrence at its source, with what LOG_OVERFLOW may add. -/
theorem raise_live {s : State} (hr : s.hp.ready = true) (n : Fin 128) (d : Nat) :
    raise n d s = overflow s (occur n d s.time.mt s) := if_pos hr

theorem raise_pendGrows {s : State} (hr : s.hp.ready = true) (n : Fin 128) (d : Nat) : PendGrows s (raise n d s) := by
  rw [raise_live hr]
  exact (occur_pendGrows n d _ s).trans (overflow_pendGrows _ _)

theorem raise_pend {s : State} (hr : s.hp.ready = true) (n : Fin 128) (d : Nat) : ((raise n d s).ev.src[n]).pend = true := by
  rw [raise_live hr]
  refine (overflow_pendGrows _ _).pend n ?_
  rw [occur_src_self]

end Sys2Proof.Machine

open Sys2Proof Sys2Proof.Machine

/-- Settles O6: the registers shown from the fields are closed values; the event bits of the 128 sources are all clear. -/
theorem resetValuesOfTheDirectRegisters : Obligations.ResetValuesOfTheDirectRegisters := by
  unfold Obligations.ResetValuesOfTheDirectRegisters
  refine ⟨by decide, by decide, by decide, by decide, fun n => ⟨hpIrq_eq_zero reset_src_pend n, hpImsk_eq_zero reset_src_mask n⟩, rfl, ?ports, ?handles, rfl, rfl, rfl, rfl⟩
  case ports =>
    intro p
    cases p <;> exact ⟨rfl, rfl, rfl, rfl⟩
  case handles =>
    intro h
    exact Vector.getElem_replicate _

/-- Settles O57: an occurrence only adds pending bits (raise_pendGrows), and a line is low by its definition over the sources. -/
theorem pendingEnabledRoutedSourcesPullTheirLine : Obligations.PendingEnabledRoutedSourcesPullTheirLine := by
  unfold Obligations.PendingEnabledRoutedSourcesPullTheirLine
  refine ⟨?occurs, irqLow_iff, ?disabled, irqLow_of_masked reset_src_mask 1, irqLow_of_masked reset_src_mask 2⟩
  case occurs =>
    intro n d s hr
    have hgrow := raise_pendGrows hr n d
    exact ⟨raise_pend hr n d, hgrow.line n, hgrow.mask n, hgrow.pend⟩
  case disabled =>
    intro n l s hv hothers
    refine ⟨_, steps_powered (exec_hpImskWrite n 0 s) hv, irqLow_of_masked (fun i => ?_) l⟩
    rw [imskWrite_src]
    by_cases hi : i.val / 32 = n.val
    · simp [hi, bit]
    · simp only [hi, if_false]
      exact hothers i hi
end

section
/-! The accesses to the queues of the host port (2.2 to 2.4): HP_CMDQ, HP_RSPQ, HP_ECC and a conflicting strobe. -/

namespace Sys2Proof.Machine

/-! HP_CMDQ (R33, R34). -/

section
variable (q : QWord) (s : State)

/-- The header of a packet is a wake trigger (R39); of the port a trigger changes the reply store and the count of lost packets alone. -/
theorem takeWord_kept : kept (takeWord q s).host = kept { s.host with
    cmdq := s.host.cmdq ++ [q], lastWord := s.time.mt, held := none
    wrLeft := if s.host.wrLeft = 0 then fld q.w 7 0 else s.host.wrLeft - 1
    wrHave := if s.host.wrLeft = 0 then 0 else s.host.wrHave + 1 } := by
  unfold takeWord
  extract_lets isHeader s1 s2
  split
  · exact wakeTrigger_kept 1 .host s2
  · rfl

theorem takeWord_cmdq : (takeWord q s).host.cmdq = s.host.cmdq ++ [q] := (kept_cmdq (takeWord_kept q s) :)
theorem takeWord_rspq : (takeWord q s).host.rspq = s.host.rspq := (kept_rspq (takeWord_kept q s) :)
theorem takeWord_held : (takeWord q s).host.held = none := (kept_held (takeWord_kept q s) :)
theorem takeWord_wrLeft : (takeWord q s).host.wrLeft = if s.host.wrLeft = 0 then fld q.w 7 0 else s.host.wrLeft - 1 :=
  (kept_wrLeft (takeWord_kept q s) :)

theorem takeWord_acked : (takeWord q s).hp.acked = true := by
  unfold takeWord
  extract_lets isHeader s1 s2
  split
  · simp [s2]
  · rfl

end

theorem cmdqWrite_room {s : State} (hv : s.sys.vmain = true) (hfree : s.host.held = none) (hroom : s.host.cmdq.length < queueWords)
    (w : Word) (e : Ecc) : cmdqWrite w e s = takeWord { w := w, ecc := e } s := by
  simp [cmdqWrite, portUp, hv, hfree, hroom]

theorem cmdqWrite_full {s : State} (hv : s.sys.vmain = true) (hfree : s.host.held = none) (hfull : queueWords ≤ s.host.cmdq.length)
    (w : Word) (e : Ecc) : cmdqWrite w e s =
      (s.onHost fun h => { h with held := some { w := w, ecc := e } }).onHp fun h => { h with acked := false } := by
  simp [cmdqWrite, portUp, hv, hfree, Nat.not_lt.mpr hfull]

theorem exec_cmdqWriteResume (s : State) : exec .cmdqWriteResume s = .next (if portUp s then
    match s.host.held with
    | some q => if s.host.cmdq.length < queueWords then takeWord q s else s
    | none => s
    else s) := by
  change execCmdqWriteResume s = _
  unfold execCmdqWriteResume
  cases portUp s <;> rfl

/-- The withheld word is taken once a word of the queue is free (R33). -/
theorem steps_cmdqWriteResume {q : QWord} {s : State} (hv : s.sys.vmain = true) (hheld : s.host.held = some q)
    (hroom : s.host.cmdq.length < queueWords) : Steps .cmdqWriteResume s (takeWord q s) := by
  have hs := steps_powered (exec_cmdqWriteResume s) hv
  simpa only [hheld, if_pos hroom] using hs

theorem exec_accessAbandoned (s : State) : exec .accessAbandoned s =
    .next ((s.onHost fun h => { h with held := none }).onHp fun h => { h with acked := false }) := rfl

/-! HP_RSPQ (R34, R42). -/

/-- What the check of the word read adds to the error bits and counters of the reply queue (R42, Table 2-15). -/
def rspqEcc (e : Ecc) (s : State) : State :=
  match e with
  | .ok => s
  | .corrected => s.onHp fun h => { h with ecc := { h.ecc with rqCe := inc8 h.ecc.rqCe } }
  | .uncorrectable => raise 2 1 (s.onHp fun h => { h with rqUe := true, ecc := { h.ecc with rqUe := inc8 h.ecc.rqUe } })

/-- The word at the head leaves the queue onto the data lines. -/
def rspqPop (w : Word) (rest : List Word) (s : State) : State :=
  ((ack s).onHost fun h => { h with rspq := rest, rspLeft := if h.rspLeft = 0 then fld w 7 0 else h.rspLeft - 1 }).onHp
    fun h => { h with dOut := w }

/-- With the last word read EV0 no longer pends, and the module was active (R65, R86). -/
def rspqEnd (rest : List Word) (s : State) : State :=
  if rest.isEmpty then
    (s.onEv fun v => { v with src := upd v.src 0 fun x => { x with pend := false } }).onSys fun y => { y with lastActive := s.time.mt }
  else s

theorem rspqRead_cons (e : Ecc) {w : Word} {rest : List Word} {s : State} (h : s.host.rspq = w :: rest) :
    rspqRead e s = rspqEnd rest (rspqEcc e (rspqPop w rest s)) := by
  have h' : (ack s).host.rspq = w :: rest := h
  unfold rspqRead
  simp only [h']
  cases e <;> rfl

theorem rspqRead_nil (e : Ecc) {s : State} (h : s.host.rspq = []) :
    rspqRead e s = (ack s).onHp fun p => { p with rqUnder := true, dOut := 0 } := by
  have h' : (ack s).host.rspq = [] := h
  unfold rspqRead
  simp only [h']

theorem rspqEcc_kept (e : Ecc) (s : State) : kept (rspqEcc e s).host = kept s.host := by
  cases e
  · rfl
  · rfl
  · exact raise_kept 2 1 .host _

theorem rspqEcc_hp (e : Ecc) (s : State) : (rspqEcc e s).hp = { s.hp with
    rqUe := s.hp.rqUe || e == .uncorrectable
    ecc := { s.hp.ecc with
      rqUe := if e = .uncorrectable then satN 0xFF (s.hp.ecc.rqUe + 1) else s.hp.ecc.rqUe
      rqCe := if e = .corrected then satN 0xFF (s.hp.ecc.rqCe + 1) else s.hp.ecc.rqCe } } := by
  cases e
  case ok => simp [rspqEcc, show (Ecc.ok == Ecc.uncorrectable) = false from rfl]
  case corrected => simp [rspqEcc, inc8]
  case uncorrectable => simp [rspqEcc, inc8]

@[simp] theorem rspqEnd_host (rest : List Word) (s : State) : (rspqEnd rest s).host = s.host := by
  unfold rspqEnd; split <;> rfl

@[simp] theorem rspqEnd_hp (rest : List Word) (s : State) : (rspqEnd rest s).hp = s.hp := by
  unfold rspqEnd; split <;> rfl

theorem rspqRead_kept (e : Ecc) {w : Word} {rest : List Word} {s : State} (h : s.host.rspq = w :: rest) :
    kept (rspqRead e s).host = kept { s.host with rspq := rest, rspLeft := if s.host.rspLeft = 0 then fld w 7 0 else s.host.rspLeft - 1 } := by
  rw [rspqRead_cons e h, rspqEnd_host, rspqEcc_kept]
  rfl

theorem rspqRead_hp (e : Ecc) {w : Word} {rest : List Word} {s : State} (h : s.host.rspq = w :: rest) :
    (rspqRead e s).hp = { s.hp with
      acked := true, dOut := w, rqUe := s.hp.rqUe || e == .uncorrectable
      ecc := { s.hp.ecc with
        rqUe := if e = .uncorrectable then satN 0xFF (s.hp.ecc.rqUe + 1) else s.hp.ecc.rqUe
        rqCe := if e = .corrected then satN 0xFF (s.hp.ecc.rqCe + 1) else s.hp.ecc.rqCe } } := by
  rw [rspqRead_cons e h, rspqEnd_hp, rspqEcc_hp]
  rfl

/-! HP_ECC (R7) and a conflicting strobe (R35). -/

theorem exec_conflictingStrobe (s : State) : exec .conflictingStrobe s =
    .next (if portUp s then raise 2 3 (ack (s.onHp fun h => { h with busErr := true })) else s) := rfl

theorem exec_hpEccRead (late : EccCounts) (s : State) : exec (.hpEccRead late) s =
    .next (if portUp s then ack (s.onHp fun h => { h with dOut := hpEcc h.ecc, ecc :=
      { cqUe := satN 0xFF late.cqUe, rqUe := satN 0xFF late.rqUe, cqCe := satN 0xFF late.cqCe, rqCe := satN 0xFF late.rqCe } }) else s) := rfl

theorem satN_of_le {m n : Nat} (h : n ≤ m) : satN m n = n := Nat.min_eq_left h

end Sys2Proof.Machine

open Sys2Proof Sys2Proof.Machine

/-- Settles O7: a write with room is takeWord, one without is only withheld, and an abandoned access drops what is withheld. -/
theorem hostWordsEnterTheCommandQueueOnlyWhenAcknowledged : Obligations.HostWordsEnterTheCommandQueueOnlyWhenAcknowledged := by
  unfold Obligations.HostWordsEnterTheCommandQueueOnlyWhenAcknowledged
  refine ⟨?room, ?full, ?resumed, ?unpowered, ?abandoned⟩
  case room =>
    intro w e s hv hfree hroom
    have hs := steps_powered (exec_hpCmdqWrite w e s) hv
    rw [cmdqWrite_room hv hfree hroom] at hs
    exact ⟨_, hs, takeWord_cmdq _ s, takeWord_held _ s, takeWord_acked _ s, takeWord_rspq _ s, takeWord_wrLeft _ s⟩
  case full =>
    intro w e s hv hfree hfull
    have hs := steps_powered (exec_hpCmdqWrite w e s) hv
    rw [cmdqWrite_full hv hfree hfull] at hs
    exact ⟨_, hs, ((SameBut.refl _ s).onHost _ rfl).onHp _ rfl, rfl, rfl⟩
  case resumed =>
    intro q s hv hheld hroom
    exact ⟨_, steps_cmdqWriteResume hv hheld hroom, takeWord_cmdq q s, takeWord_held q s, takeWord_acked q s, takeWord_rspq q s⟩
  case unpowered =>
    intro w e s hv
    exact ⟨steps_unpowered (exec_hpCmdqWrite w e s) hv, steps_unpowered (exec_cmdqWriteResume s) hv, hpLine_unpowered _ hv,
      hpLine_unpowered _ hv, hpLine_unpowered _ hv⟩
  case abandoned =>
    intro s
    exact ⟨_, exec_accessAbandoned s, ((SameBut.refl _ s).onHost _ rfl).onHp _ rfl, rfl, rfl⟩

/-- Settles O8: a read is the word's removal, what its check found, and the end of EV0 with the last word; an event changes neither queue. -/
theorem hostReadsTakeTheReplyWordAndReportErrors : Obligations.HostReadsTakeTheReplyWordAndReportErrors := by
  unfold Obligations.HostReadsTakeTheReplyWordAndReportErrors
  refine ⟨?word, ?empty, ?strobe, ?counters⟩
  case word =>
    intro e w rest s hv hq
    have hkept := rspqRead_kept e hq
    have hhp := rspqRead_hp e hq
    refine ⟨_, steps_powered (exec_hpRspqRead e s) hv, (kept_rspq hkept :), (kept_cmdq hkept :), ?_, ?_, (kept_rspLeft hkept :), ?_⟩
    · rw [hhp]
    · rw [hhp]
    · rw [hhp]; exact ⟨rfl, rfl, rfl, rfl, rfl⟩
  case empty =>
    intro e s hv hq
    have hs := steps_powered (exec_hpRspqRead e s) hv
    rw [rspqRead_nil e hq] at hs
    exact ⟨_, hs, ((ack_same s).onHp _ rfl), rfl⟩
  case strobe =>
    intro s hv hr
    refine ⟨_, steps_powered (exec_conflictingStrobe s) hv, ?_, ?_, ?_, ?_, raise_occurred 3 hr (by decide) rfl, raise_eventsBut 3 rfl⟩
    · rw [raise_hp]; rfl
    · rw [raise_host_cmdq]; rfl
    · rw [raise_host_rspq]; rfl
    · rw [raise_host_held]; rfl
  case counters =>
    intro late s hv hcu hru hcc hrc
    refine ⟨_, steps_powered (exec_hpEccRead late s) hv, ((SameBut.refl _ s).onHp _ rfl).onHp _ rfl, ?_⟩
    simp [satN_of_le hcu, satN_of_le hru, satN_of_le hcc, satN_of_le hrc]
end

section
/-! The intake of command packets (2.4 to 2.6, Table 2-7). -/

namespace Sys2Proof.Machine

/-! What becomes of a packet: judge in its cases. -/

/-- The payload words that the header checks and the command see. -/
def payWords (pay : List QWord) : List Word := pay.map fun q => q.w

/-- The command that a packet carries. -/
def cmdOf (hd : QWord) (op : Op) (pay : List QWord) : Cmd :=
  { op := op, expert := fld hd.w 19 16 == 1, tag := fld hd.w 15 8, words := payWords pay, ecc := badWords pay }

/-- What an accepted command adds to the outstanding ones (R36, R49). -/
def outstOf (hd : Word) (op : Op) : Outst := { tag := fld hd 15 8, op := op, resv := (if (opInfo op).long then 2 else 0) + 2 + (opInfo op).extra }

/-- The state in which a packet has been judged up to its header checks. -/
def touched (hd : QWord) (pay : List QWord) (s : State) : State := touchNamed (opOfCode (fld hd.w 31 20)) pay s

theorem touched_same (hd : QWord) (pay : List QWord) (s : State) : SameBut [.bulk] s (touched hd pay s) := touchNamed_same _ _ _

@[simp] theorem touched_port (p : Port) (hd : QWord) (pay : List QWord) (s : State) : (touched hd pay s).port p = s.port p :=
  (touched_same hd pay s).port (by decide) (by decide) p

@[simp] theorem touched_sys (hd : QWord) (pay : List QWord) (s : State) : (touched hd pay s).sys = s.sys := touched_same hd pay s .sys (by decide)

@[simp] theorem touched_cfg (hd : QWord) (pay : List QWord) (s : State) : (touched hd pay s).cfg = s.cfg := touched_same hd pay s .cfg (by decide)

theorem headCheck_touched (p : Port) (hd : QWord) (pay : List QWord) (s : State) :
    headCheck p hd.w (payWords pay) (touched hd pay s) = headCheck p hd.w (payWords pay) s :=
  headCheck_congr (by rw [touched_port]) (touched_sys hd pay s) (congrArg HpState.ready (touched_same hd pay s .hp (by decide)))

/-- A header check fails: the class 3 reply of R45. -/
theorem judge_headRejected {p : Port} {hd : QWord} {pay : List QWord} {s : State} {st d : Nat}
    (hcheck : headCheck p hd.w (payWords pay) s = some (st, d)) :
    judge p hd pay s = headReject p (fld hd.w 31 20) (fld hd.w 15 8) st d (touched hd pay s) := by
  rw [← headCheck_touched] at hcheck
  unfold judge
  simp only [touched, payWords] at hcheck ⊢
  simp only [hcheck]

theorem standbyRefuses_accept (op : Op) (p : Port) (hd : QWord) (pay : List QWord) (s : State) :
    standbyRefuses op (accept p op (cmdOf hd op pay) (touched hd pay s)) = standbyRefuses op s := standby_congr (by simp [accept]) (by simp [accept])

section
variable {p : Port} {hd : QWord} {pay : List QWord} {op : Op} {s : State} (hcheck : headCheck p hd.w (payWords pay) s = none)
  (hop : opOfCode (fld hd.w 31 20) = some op) (howner : standbyRefuses op s = false)
include hcheck hop howner

/-- The header passes and the packet is whole: it is accepted. -/
theorem judge_whole (hcut : hd.cut = none) :
    judge p hd pay s = (accept p op (cmdOf hd op pay) (touched hd pay s)).onPort p fun q => { q with accepted := some (cmdOf hd op pay) } := by
  have hacc := (standbyRefuses_accept op p hd pay s).trans howner
  rw [← headCheck_touched] at hcheck
  unfold judge
  simp only [touched, payWords, cmdOf, hop] at hcheck hacc ⊢
  simp only [hcheck, hacc, hcut, Bool.false_eq_true, if_false]

/-- The header passes and the packet was cut: it is accepted, and rejected at once (R43). -/
theorem judge_short {n : Nat} (hcut : hd.cut = some n) :
    judge p hd pay s = reject p (cmdOf hd op pay) 0xF018 n (accept p op (cmdOf hd op pay) (touched hd pay s)) := by
  have hacc := (standbyRefuses_accept op p hd pay s).trans howner
  rw [← headCheck_touched] at hcheck
  unfold judge
  simp only [touched, payWords, cmdOf, hop] at hcheck hacc ⊢
  simp only [hcheck, hacc, hcut, Bool.false_eq_true, if_false]

end

theorem accept_outstanding (p : Port) (op : Op) (hd : QWord) (pay : List QWord) (s : State) :
    ((accept p op (cmdOf hd op pay) s).port p).outstanding = (s.port p).outstanding ++ [outstOf hd.w op] := by
  simp [accept, outstOf, cmdOf]

/-- A tag that passes the header checks is not outstanding (R49). -/
theorem findTag_of_headCheck {p : Port} {hd : Word} {ws : List Word} {s : State} (h : headCheck p hd ws s = none) :
    findTag (s.port p) (fld hd 15 8) = none := by
  by_contra hfound
  have hsome : (findTag (s.port p) (fld hd 15 8)).isSome = true := Option.isSome_iff_ne_none.mpr hfound
  unfold headCheck at h
  simp only [hsome, if_true] at h
  split at h
  · cases h
  · split at h
    · cases h
    · split at h <;> cases h

/-- The accepted command waits for its reply. -/
theorem accept_unanswered {p : Port} {hd : QWord} {pay : List QWord} {op : Op} {s : State} (h : findTag (s.port p) (fld hd.w 15 8) = none) :
    Unanswered p (cmdOf hd op pay) (accept p op (cmdOf hd op pay) s) := by
  refine ⟨outstOf hd.w op, ?_, rfl, rfl⟩
  have hold : (s.port p).outstanding.find? (fun o => o.tag == (cmdOf hd op pay).tag) = none := h
  rw [findTag, accept_outstanding, List.find?_append, hold]
  simp [outstOf, cmdOf]

/-! A final reply leaves the queues of its port. -/

/-- A port without its reply store and the outstanding commands. -/
def queues (q : PortState) : PortState := { q with store := [], outstanding := [] }

theorem finish_queues (p : Port) (tag cls st detail : Nat) (ws : List Word) (s : State) :
    queues ((finish p tag cls st detail ws s).port p) = queues (s.port p) := by
  unfold finish
  split
  · rfl
  · split
    · rfl
    · simp [place, queues, onTag]

/-! A packet that was being written is cut (R43). -/

/-- With the packet being written alone in the queue its header is marked with the payload words received. -/
theorem cutPacket_alone {q : PortState} {hd : QWord} {pay : List QWord} (hq : q.cmdq = hd :: pay) (hhave : q.wrHave = pay.length) :
    cutPacket q = { q with wrLeft := 0, wrHave := 0, cmdq := { hd with cut := some pay.length } :: pay } := by
  simp [cutPacket, hq, hhave]

/-! An uncorrectable header flushes the queue (R41). -/

theorem intake_flush {p : Port} {hd : QWord} {rest : List QWord} {s : State} (hr : s.hp.ready = true) (hon : s.sys.dom[0] = .on)
    (hfree : (s.port p).accepted = none) (hq : (s.port p).cmdq = hd :: rest) (hbad : hd.ecc = .uncorrectable) :
    intake p s = flushQueue p (countEcc p [hd] s) := by
  unfold intake
  simp [hr, hon, hfree, hq, hbad]

/-- The host's queue flushed, with its error and its occurrence, before the notice of the flush. -/
def hostFlushed (s : State) : State :=
  raise 2 2 ((s.onHost fun q => { q with cmdq := [], wrLeft := 0, wrHave := 0 }).onHp fun h => { h with cqFlush := true })

theorem flushQueue_host (s : State) : flushQueue .host s = cmdqSpace (unsol .host 0x0A0 [ofN s.host.cmdq.length] (hostFlushed s)) := rfl

theorem flushQueue_host_kept (s : State) : kept (flushQueue .host s).host = kept { s.host with cmdq := [], wrLeft := 0, wrHave := 0 } := by
  have hspace := cmdqSpace_kept .host (unsol .host 0x0A0 [ofN s.host.cmdq.length] (hostFlushed s))
  exact hspace.trans ((unsol_kept _ _ _ _ _).trans (raise_kept _ _ .host _))

theorem flushQueue_host_cqFlush (s : State) : (flushQueue .host s).hp.cqFlush = true := by
  rw [flushQueue_host, cmdqSpace_cqf, unsol_hp, hostFlushed, raise_hp]
  rfl

theorem cmdqSpace_events (s : State) : EventsBut [1, 120] s (cmdqSpace s) := by
  unfold cmdqSpace
  split
  · exact raise_eventsBut 0 rfl
  · exact EventsBut.refl _ s

theorem flushQueue_host_occurred {s : State} (hr : s.hp.ready = true) : Occurred 2 2 s (flushQueue .host s) := by
  have hflushed : Occurred 2 2 s (hostFlushed s) := raise_occurred 2 hr (by decide) rfl
  rw [flushQueue_host]
  exact (hflushed.of_ev (unsol_ev _ _ _ _)).of_events (cmdqSpace_events _) (by decide)

theorem countEcc_ev (p : Port) (l : List QWord) (s : State) : (countEcc p l s).ev = s.ev := countEcc_same p l s .ev (by decide)

/-! COMMAND_INTAKE and PACKET_TIMEOUT. -/

theorem exec_commandIntake (p : Port) (s : State) : exec (.commandIntake p) s = .next (intake p s) := rfl

/-- The packet at the head, whole or cut, is judged on a state in which the checks read as before and its words have left the queue. -/
theorem intake_judged {p : Port} {hd : QWord} {rest : List QWord} {n : Nat} {s : State} (hr : s.hp.ready = true) (hon : s.sys.dom[0] = .on)
    (hfree : (s.port p).accepted = none) (hq : (s.port p).cmdq = hd :: rest) (hok : hd.ecc = .ok) (hn : hd.cut.getD (fld hd.w 7 0) = n)
    (hlen : n ≤ rest.length) (hroom : reservation hd.w ≤ storeRoom (s.port p)) :
    ∃ u, intake p s = judge p hd (rest.take n) u ∧ (∀ ws, headCheck p hd.w ws u = headCheck p hd.w ws s) ∧
      (∀ op, standbyRefuses op u = standbyRefuses op s) ∧ kept (u.port p) = kept { s.port p with cmdq := rest.drop n } := by
  obtain ⟨u, hu, husys, huready, hucfg, hukept⟩ := intake_eq hr hon hfree hq hok (hn.trans_le hlen) hroom
  rw [hn] at hu hukept
  exact ⟨u, hu, fun ws => headCheck_congr (kept_outstanding hukept :) husys huready, fun op => standby_congr husys hucfg, hukept⟩

/-- The state in which the packet being written is cut, 100 ms after its last word. -/
def cutState (p : Port) (s : State) : State := (advanceTo ((s.port p).lastWord + 100 * msTicks) s).onPort p cutPacket

theorem steps_packetTimeout {p : Port} {s : State} (hleft : (s.port p).wrLeft ≠ 0) (hheld : (s.port p).held = none) :
    Steps (.packetTimeout p) s (intake p (cutState p s)) := by
  change Host.Outcome.next _ = _
  simp [hleft, hheld]
  rfl

theorem cutState_same (p : Port) (s : State) : SameBut [.time, .host, .maint] s (cutState p s) :=
  ((SameBut.refl _ s).step (advanceTo_same _ s) rfl).onPort p _ rfl

theorem cutState_port (p : Port) (s : State) : (cutState p s).port p = cutPacket (s.port p) := by
  simp [cutState]

/-- The rejection of a cut packet: its reply is the last, and the queues of the port are as the packet's intake left them. -/
theorem judge_cut {p : Port} {hd : QWord} {pay : List QWord} {op : Op} {n : Nat} {s : State} (hcheck : headCheck p hd.w (payWords pay) s = none)
    (hop : opOfCode (fld hd.w 31 20) = some op) (howner : standbyRefuses op s = false) (hcut : hd.cut = some n) :
    (∃ before, ((judge p hd pay s).port p).store =
      before ++ [{ words := packet (opInfo op).code 3 (fld hd.w 15 8) 0xF018 n [], frees := true }]) ∧
    queues ((judge p hd pay s).port p) = queues (s.port p) := by
  have hun : Unanswered p (cmdOf hd op pay) (accept p op (cmdOf hd op pay) (touched hd pay s)) :=
    accept_unanswered (by rw [touched_port]; exact findTag_of_headCheck hcheck)
  rw [judge_short hcheck hop howner hcut]
  refine ⟨reject_replied hun 0xF018 n, (finish_queues _ _ _ _ _ _ _).trans ?_⟩
  simp [accept, queues]

end Sys2Proof.Machine

open Sys2Proof Sys2Proof.Machine

/-- Settles O10: the intake judges the packet on a state whose checks read as before (intake_judged), and judge has one outcome per check. -/
theorem packetsAreTakenInOrderAndCheckedBeforeAcceptance : Obligations.PacketsAreTakenInOrderAndCheckedBeforeAcceptance := by
  unfold Obligations.PacketsAreTakenInOrderAndCheckedBeforeAcceptance
  refine ⟨?accepted, ?rejected, ?flushed, ?cut⟩
  case accepted =>
    intro p hd rest op s hr hon hfree hq hok hcut hlen hroom hcheck hop howner
    obtain ⟨u, hu, hucheck, huowner, hukept⟩ := intake_judged hr hon hfree hq hok (by rw [hcut]; rfl) hlen hroom
    rw [judge_whole ((hucheck _).trans hcheck) hop ((huowner op).trans howner) hcut] at hu
    refine ⟨_, cmdOf hd op _, (exec_commandIntake p s).trans (congrArg _ hu), ?_, rfl, rfl, rfl, ?_, ?_⟩
    · rw [onPort_port]
    · simp [accept, kept_cmdq hukept]
    · rw [onPort_port]
      simp [accept_outstanding, kept_outstanding hukept, outstOf]
  case rejected =>
    intro p hd rest st d s hr hon hfree hq hok hcut hlen hroom hcheck
    obtain ⟨u, hu, hucheck, -, hukept⟩ := intake_judged hr hon hfree hq hok (by rw [hcut]; rfl) hlen hroom
    rw [judge_headRejected ((hucheck _).trans hcheck)] at hu
    have hkept := (headReject_kept p (fld hd.w 31 20) (fld hd.w 15 8) st d (touched hd (rest.take (fld hd.w 7 0)) u)).trans
      ((congrArg kept (touched_port p hd _ u)).trans hukept)
    exact ⟨_, _, (exec_commandIntake p s).trans (congrArg _ hu), (kept_accepted hkept).trans hfree, (kept_outstanding hkept :), (kept_cmdq hkept :),
      headReject_store _ _ _ _ _ _⟩
  case flushed =>
    intro hd rest s hr hon hfree hq hbad
    have hport : (countEcc .host [hd] s).host = s.host := countEcc_port .host .host [hd] s
    have hkept := (flushQueue_host_kept (countEcc .host [hd] s)).trans (by rw [hport])
    have hocc := flushQueue_host_occurred (s := countEcc .host [hd] s) ((countEcc_ready _ _ _).trans hr)
    refine ⟨_, (exec_commandIntake .host s).trans (congrArg _ (intake_flush hr hon hfree hq hbad)), (kept_cmdq hkept :), (kept_wrLeft hkept :),
      flushQueue_host_cqFlush _, (kept_accepted hkept).trans hfree, (kept_outstanding hkept :), ?_⟩
    simpa only [Occurred, countEcc_ev] using hocc
  case cut =>
    intro p hd pay op s hr hon hfree hq hhave hleft hheld hok hroom hcheck hop howner
    have hsame := cutState_same p s
    have hsys : (cutState p s).sys = s.sys := hsame .sys (by decide)
    have hhp : (cutState p s).hp = s.hp := hsame .hp (by decide)
    have hport : (cutState p s).port p = { s.port p with wrLeft := 0, wrHave := 0, cmdq := { hd with cut := some pay.length } :: pay } :=
      (cutState_port p s).trans (cutPacket_alone hq hhave)
    obtain ⟨u, hu, hucheck, huowner, hukept⟩ := intake_judged (n := pay.length) (p := p)
      (hd := { hd with cut := some pay.length }) (rest := pay) (s := cutState p s) (hhp ▸ hr) (hsys ▸ hon) (by rw [hport]; exact hfree) (by rw [hport]) hok rfl (le_refl _) (by rw [hport]; exact hroom)
    rw [List.take_length] at hu
    rw [List.drop_length, hport] at hukept
    have hcheck' : headCheck p hd.w (payWords pay) u = none :=
      ((hucheck _).trans (headCheck_congr (by rw [hport]) hsys (congrArg _ hhp))).trans hcheck
    have howner' : standbyRefuses op u = false := ((huowner op).trans (standby_congr hsys (hsame .cfg (by decide)))).trans howner
    obtain ⟨⟨before, hstore⟩, hqueues⟩ := judge_cut (hd := { hd with cut := some pay.length }) hcheck' hop howner' rfl
    refine ⟨_, before, (steps_packetTimeout hleft hheld).trans (congrArg _ hu), ?_, ?_, ?_, hstore⟩
    · exact (congrArg PortState.wrLeft hqueues :).trans (kept_wrLeft hukept)
    · exact (congrArg PortState.cmdq hqueues :).trans (kept_cmdq hukept)
    · exact ((congrArg PortState.accepted hqueues :).trans (kept_accepted hukept :)).trans hfree
end

section

/-! The configuration commands heard and not refused (R54, R55, R379, R453): all are one row with the check of their chapter. -/

namespace Sys2Proof.Machine

/-- A configuration command whose check passes on the state; the check does not read the port of its packet. -/
theorem steps_configured {i : Instr} {op : Op} {p : Port} {c : Cmd} {s : State} {check : Cmd → List Word → State → Option (Nat × Nat)}
    (hexec : exec i s = .next (configRow op p check s)) (h : Heard p c s) (ho : c.op = op)
    (hread : ∀ ws, check c ws (taken p s) = check c ws s) (hk : check c (expertWords c.op c.expert c.words) s = none) :
    ∃ t, Steps i s t ∧ SameBut configParts s t ∧ Configured p c s t :=
  ⟨_, hexec, configRow_same op p check s, configRow_configured h ho (by rw [← ho]; exact (hread _).trans hk)⟩

/-- A configuration command without a check of its chapter. -/
theorem steps_configured_unchecked {i : Instr} {op : Op} {p : Port} {c : Cmd} {s : State} (hexec : exec i s = .next (configRow op p (fun _ _ _ => none) s))
    (h : Heard p c s) (ho : c.op = op) : ∃ t, Steps i s t ∧ SameBut configParts s t ∧ Configured p c s t :=
  steps_configured hexec h ho (fun _ => rfl) rfl

/-! The checks read the configuration and the units, never the port of the packet. -/

section
variable (p : Port) (s : State)

theorem refCheck_taken (ws : List Word) : refCheck (taken p s) ws = refCheck s ws := by cases p <;> rfl

theorem firCheck_taken (ws : List Word) : firCheck (taken p s) ws = firCheck s ws := by cases p <;> rfl

theorem loopConfigCheck_taken (ws : List Word) : loopConfigCheck (taken p s) ws = loopConfigCheck s ws := by cases p <;> rfl

theorem bindCheck_taken (ws : List Word) : bindCheck (taken p s) ws = bindCheck s ws := by cases p <;> rfl

theorem leRefuse_taken (le : Nat) : leRefuse (taken p s) le = leRefuse s le := by cases p <;> rfl

theorem groupCheck_taken (ws : List Word) : groupCheck (taken p s) ws = groupCheck s ws := by cases p <;> rfl

theorem canConfigCheck_taken (ws : List Word) : canConfigCheck (taken p s) ws = canConfigCheck s ws := by cases p <;> rfl

end

/-! A unit that follows its new configuration: LOOP_CONFIG, LOOP_GROUP and BUS_MAINT_CONFIG. -/

theorem Configured.onLoop {p : Port} {c : Cmd} {s t : State} (h : Configured p c s t) (f : LoopState → LoopState) : Configured p c s (t.onLoop f) := by
  cases p <;> exact h

theorem Configured.onHp {p : Port} {c : Cmd} {s t : State} (h : Configured p c s t) (f : HpState → HpState) : Configured p c s (t.onHp f) := by
  cases p <;> exact h

/-- The engines as they follow a configuration and the mode (Table 11-6). -/
def enginesFollow (isSet : Nat → Bool) (sys : SysState) (l : LoopState) : LoopState :=
  { l with le := vmapI l.le fun i e =>
      if isSet i.val then (if e.st = .unconfigured then { e with st := if sys.mode = .standby then .shadow else if sys.release then .released else .open } else e)
      else { e with st := .unconfigured } }

theorem leSet_congr {s t : State} (h : t.cfg = s.cfg) : leSet t = leSet s := by
  funext le
  simp only [leSet, leCfg, State.inForce, h]

theorem refreshEngines_loop {s u : State} (h : u.loop = s.loop) :
    (refreshEngines u).loop = enginesFollow (leSet (refreshEngines u)) (refreshEngines u).sys s.loop := by
  have hsame := refreshEngines_same u
  have hset : leSet (refreshEngines u) = leSet u := leSet_congr (hsame .cfg (by decide))
  have hsys : (refreshEngines u).sys = u.sys := hsame .sys (by decide)
  rw [hset, hsys]
  exact congrArg (enginesFollow (leSet u) u.sys) h

/-- LOOP_GROUP after its row: a group whose members change starts anew. -/
def groupsAnew (s u : State) : State :=
  u.onLoop fun l => { l with group := vmapI l.group fun g x => if groupOf u g.val = groupOf s g.val then x else {} }

theorem groupsAnew_loop {s u : State} (h : u.loop = s.loop) : (groupsAnew s u).loop =
    { s.loop with group := vmapI s.loop.group fun g x => if groupOf (groupsAnew s u) g.val = groupOf s g.val then x else {} } := by
  rw [← h]
  rfl

/-- BUS_MAINT_CONFIG after its row: the port register follows ENABLE. -/
def maintFollows (u : State) : State := u.onHp fun h => { h with maintEn := maintOn u }

theorem maintFollows_hp {s u : State} (h : u.hp = s.hp) : (maintFollows u).hp = { s.hp with maintEn := maintOn (maintFollows u) } := by
  rw [← h]
  rfl

/-- The check of BUS_MAINT_CONFIG (14.6). -/
def maintCheck (p : Port) (s : State) (_ : Cmd) (_ : List Word) (_ : State) : Option (Nat × Nat) :=
  if p = .maint then some (0x8018, 0)
  else if fld (wd (cfgGet s.cfg.work .busCanConfig 5) 0) 9 8 != 1 || fld (wd (cfgGet s.cfg.work .busCanConfig 5) 0) 19 16 = 0 then some (0xF016, 0)
  else none

theorem exec_loopConfig (p : Port) (s : State) :
    exec (.loopConfig p) s = .next (refreshEngines (configRow .loopConfig p (fun _ ws s => loopConfigCheck s ws) s)) := rfl

theorem exec_loopGroup (p : Port) (s : State) :
    exec (.loopGroup p) s = .next (groupsAnew s (configRow .loopGroup p (fun _ ws s => groupCheck s ws) s)) := rfl

theorem exec_busMaintConfig (p : Port) (s : State) :
    exec (.busMaintConfig p) s = .next (maintFollows (configRow .busMaintConfig p (maintCheck p s) s)) := rfl

end Sys2Proof.Machine

open Sys2Proof Sys2Proof.Machine

/-- Settles O17: each command is the row with its chapter's check, which passes under the clause's premise. -/
theorem navigationAndPositioningParametersAreSetAsCarried : Obligations.NavigationAndPositioningParametersAreSetAsCarried := by
  unfold Obligations.NavigationAndPositioningParametersAreSetAsCarried
  intro p c s ws h hws
  subst hws
  refine ⟨?gnss, ?rtcm, ?hdg, ?ref, ?enable, ?vote, ?observer, ?fir, ?datum, ?point, ?controller, ?mpc, ?move, ?joystick, ?power⟩
  case gnss => exact fun ho => steps_configured_unchecked rfl h ho
  case rtcm =>
    intro ho hport
    refine steps_configured rfl h ho (fun ws => by cases p <;> rfl) ?_
    rcases hport with hall | ⟨hfree, hproto⟩
    · simp [hall]
    · simp [hfree, hproto]
  case hdg =>
    intro ho hbase
    refine steps_configured rfl h ho (fun ws => by cases p <;> rfl) (if_neg ?_)
    simpa using hbase
  case ref => exact fun ho hk => steps_configured rfl h ho (refCheck_taken p s) hk
  case enable => exact fun ho hk => steps_configured rfl h ho (fun ws => by cases p <;> rfl) (if_neg hk)
  case vote => exact fun ho => steps_configured_unchecked rfl h ho
  case observer => exact fun ho => steps_configured_unchecked rfl h ho
  case fir => exact fun ho hk => steps_configured rfl h ho (firCheck_taken p s) hk
  case datum =>
    intro ho hfn hnear
    refine steps_configured rfl h ho (fun ws => by cases p <;> rfl) ((if_neg ?_).trans (if_neg ?_))
    · simpa [Decidable.imp_iff_not_or] using hfn
    · rw [Bool.and_eq_true, bne_iff_ne, decide_eq_true_iff]
      exact fun hfar => hnear.elim hfar.1 hfar.2.not_ge
  case point => exact fun ho hx hy => steps_configured rfl h ho (fun _ => rfl) ((if_neg hx.not_gt).trans (if_neg hy.not_gt))
  case controller => exact fun ho => steps_configured_unchecked rfl h ho
  case mpc => exact fun ho hgrid => steps_configured rfl h ho (fun _ => rfl) (if_neg (by simpa using hgrid))
  case move => exact fun ho => steps_configured_unchecked rfl h ho
  case joystick => exact fun ho => steps_configured_unchecked rfl h ho
  case power =>
    intro ho hid
    refine steps_configured rfl h ho (fun _ => rfl) (if_neg ?_)
    simpa [Decidable.imp_iff_not_or] using hid

/-- Settles O18: as for navigation; LOOP_CONFIG and LOOP_GROUP then let the engines and the groups follow. -/
theorem actuationParametersAreSetAsCarried : Obligations.ActuationParametersAreSetAsCarried := by
  unfold Obligations.ActuationParametersAreSetAsCarried
  intro p c s ws h hws
  subst hws
  refine ⟨?thruster, ?alloc, ?conseq, ?loop, ?bind, ?coeff, ?group, ?prof⟩
  case thruster => exact fun ho hbad => steps_configured rfl h ho (fun _ => rfl) (congrArg _ hbad)
  case alloc => exact fun ho => steps_configured_unchecked rfl h ho
  case conseq => exact fun ho hlt => steps_configured rfl h ho (fun _ => rfl) (if_neg hlt.not_ge)
  case loop =>
    intro ho hk
    have hconf := configRow_configured (check := fun _ ws s => loopConfigCheck s ws) h ho (ho ▸ (loopConfigCheck_taken p s _).trans hk)
    exact ⟨_, exec_loopConfig p s, (SameBut.mono (configRow_same _ p _ s) rfl).step (refreshEngines_same _) rfl, hconf.onLoop _,
      refreshEngines_loop (configRow_same _ p _ s .loop (by decide))⟩
  case bind => exact fun ho hk => steps_configured rfl h ho (bindCheck_taken p s) hk
  case coeff => exact fun ho hk => steps_configured rfl h ho (fun _ => leRefuse_taken p s _) hk
  case group =>
    intro ho hk
    have hconf := configRow_configured (check := fun _ ws s => groupCheck s ws) h ho (ho ▸ (groupCheck_taken p s _).trans hk)
    exact ⟨_, exec_loopGroup p s, (SameBut.mono (configRow_same _ p _ s) rfl).onLoop _ rfl, hconf.onLoop _,
      groupsAnew_loop (configRow_same _ p _ s .loop (by decide))⟩
  case prof => exact fun ho hk => steps_configured rfl h ho (fun _ => rfl) hk

/-- Settles O19: as for navigation; BUS_MAINT_CONFIG then takes ENABLE into the port register. -/
theorem busDuplexAndModuleParametersAreSetAsCarried : Obligations.BusDuplexAndModuleParametersAreSetAsCarried := by
  unfold Obligations.BusDuplexAndModuleParametersAreSetAsCarried
  intro p c s ws h hws
  subst hws
  refine ⟨?can, ?uart, ?maint, ?dpx, ?cal, ?module, ?log⟩
  case can => exact fun ho hk => steps_configured rfl h ho (canConfigCheck_taken p s) hk
  case uart =>
    intro ho hnmea hrs hplain hfree
    refine steps_configured rfl h ho (fun ws => by cases p <;> rfl) ((if_neg ?_).trans ((if_neg ?_).trans (if_neg ?_)))
    · simpa using ⟨hnmea, hrs⟩
    · simpa using hplain
    · simpa [Decidable.imp_iff_not_or] using hfree
  case maint =>
    intro ho hp hnormal hrate
    subst hp
    have hconf := configRow_configured (check := maintCheck .host s) h ho (by simp [maintCheck, hnormal, hrate])
    exact ⟨_, exec_busMaintConfig .host s, (SameBut.mono (configRow_same _ _ _ s) rfl).onHp _ rfl, hconf.onHp _,
      maintFollows_hp (configRow_same _ _ _ s .hp (by decide))⟩
  case dpx => exact fun ho => steps_configured_unchecked rfl h ho
  case cal => exact fun ho hk => steps_configured rfl h ho (fun _ => rfl) hk
  case module => exact fun ho => steps_configured_unchecked rfl h ho
  case log => exact fun ho => steps_configured_unchecked rfl h ho
end

section

/-! The queries (R47): a heard query's body is one final reply, with words that do not depend on the port of its packet. -/

namespace Sys2Proof.Machine

theorem steps_of_body {i : Instr} {op : Op} {p : Port} {c : Cmd} {s t : State} {body : Cmd → State → State} (hexec : exec i s = .next (runOp op p body s))
    (h : Heard p c s) (ho : c.op = op) (hbody : body c (taken p s) = t) : Steps i s t := hbody ▸ steps_of_heard hexec h ho

theorem steps_answersOnly {i : Instr} {op : Op} {p : Port} {c : Cmd} {s : State} {body : Cmd → State → State} {cls st detail : Nat} {ws : List Word}
    (hexec : exec i s = .next (runOp op p body s)) (h : Heard p c s) (ho : c.op = op)
    (hbody : body c (taken p s) = finish p c.tag cls st detail ws (taken p s)) : ∃ t, Steps i s t ∧ AnswersOnly p c cls st detail ws s t :=
  ⟨_, steps_of_body hexec h ho hbody, finish_answersOnly h cls st detail ws⟩

theorem kilnUp_taken (p : Port) (s : State) : kilnUp (taken p s) = kilnUp s := by cases p <;> rfl

theorem hostWords_taken (p : Port) (s : State) : hostWords (taken p s) = hostWords s := by cases p <;> rfl

theorem heldRecs_taken (p : Port) (s : State) : heldRecs (taken p s) = heldRecs s := by cases p <;> rfl

end Sys2Proof.Machine

open Sys2Proof Sys2Proof.Machine

/-- Settles O21: the body of each query is one final reply, whose words read no port. -/
theorem navigationAndPositioningQueriesAnswerFromTheStateAlone : Obligations.NavigationAndPositioningQueriesAnswerFromTheStateAlone := by
  unfold Obligations.NavigationAndPositioningQueriesAnswerFromTheStateAlone
  refine ⟨?timeNone, ?time, ?refNone, ?ref, ?structNone, ?struct, ?resultNone, ?result, ?placement, ?dpc, ?thrNone, ?thr, ?alloc, ?envNone, ?env⟩
  case timeNone =>
    intro p c s h ho hsrc
    refine steps_answersOnly rfl h ho ?_
    have hsrc' : (taken p s).time.source = .none := (congrArg TimeState.source (taken_same p s .time (by decide)) :).trans hsrc
    simp only [hsrc']
    cases p <;> rfl
  case time =>
    intro p c s h ho hsrc
    refine steps_answersOnly rfl h ho ?_
    have hsrc' : (taken p s).time.source ≠ .none := (congrArg TimeState.source (taken_same p s .time (by decide)) :).trans_ne hsrc
    simp only [hsrc', if_false]
    cases p <;> rfl
  case refNone =>
    intro p c s h ho hkind hslot
    refine steps_answersOnly rfl h ho ?_
    obtain ⟨i, hi⟩ : ∃ i : Fin 24, fld (wd c.words 0) 4 0 = i.val := ⟨⟨_, hslot⟩, rfl⟩
    rw [hi] at hkind
    simp only [slotOf, hi, fin?_val, refKindSet_taken, hkind, if_true]
    rfl
  case ref =>
    intro p c i s h ho hslot hkind
    refine steps_answersOnly rfl h ho ?_
    simp only [slotOf, hslot, fin?_val, refKindSet_taken, hkind, if_false]
    cases p <;> rfl
  case structNone =>
    intro p c s h ho hx
    refine steps_answersOnly rfl h ho ?_
    simp only [show structOf (taken p s) _ = none from (structOf_congr (taken_same p s .solv (by decide)) _).trans hx]
    rfl
  case struct =>
    intro p c x s h ho hx
    refine steps_answersOnly rfl h ho ?_
    simp only [show structOf (taken p s) _ = some x from (structOf_congr (taken_same p s .solv (by decide)) _).trans hx]
    cases p <;> rfl
  case resultNone =>
    intro p c x s h ho hx hr
    refine steps_answersOnly rfl h ho ?_
    simp only [show structOf (taken p s) _ = some x from (structOf_congr (taken_same p s .solv (by decide)) _).trans hx, hr]
  case result =>
    intro p c x r s h ho hx hr
    refine steps_answersOnly rfl h ho ?_
    simp only [show structOf (taken p s) _ = some x from (structOf_congr (taken_same p s .solv (by decide)) _).trans hx, hr]
    rfl
  case placement => exact fun p c s h ho => steps_answersOnly rfl h ho (by cases p <;> rfl)
  case dpc => exact fun p c s h ho => steps_answersOnly rfl h ho (by cases p <;> rfl)
  case thrNone =>
    intro p c s h ho hthr
    refine steps_answersOnly rfl h ho (if_pos ?_)
    rw [thrConfigured_congr (taken_same p s .cfg (by decide)), hthr]
    rfl
  case thr =>
    intro p c s h ho hthr
    refine steps_answersOnly rfl h ho ((if_neg ?_).trans ?_)
    · rw [thrConfigured_congr (taken_same p s .cfg (by decide)), hthr]
      decide
    · cases p <;> rfl
  case alloc => exact fun p c s h ho => steps_answersOnly rfl h ho (by cases p <;> rfl)
  case envNone =>
    intro p c s h ho hca
    refine steps_answersOnly rfl h ho ?_
    have hca' : (taken p s).alloc.caDone = none := (congrArg AllocState.caDone (taken_same p s .alloc (by decide)) :).trans hca
    simp only [hca']
  case env =>
    intro p c r s h ho hca hmask
    refine steps_answersOnly rfl h ho ?_
    have hca' : (taken p s).alloc.caDone = some r := (congrArg AllocState.caDone (taken_same p s .alloc (by decide)) :).trans hca
    simp only [hca', hmask]
    cases p <;> rfl

/-- Settles O22: as for navigation; LOG_STATUS besides draws a free value for an empty log, which the clause's log is not. -/
theorem actuationBusAndStorageQueriesAnswerFromTheStateAlone : Obligations.ActuationBusAndStorageQueriesAnswerFromTheStateAlone := by
  unfold Obligations.ActuationBusAndStorageQueriesAnswerFromTheStateAlone
  refine ⟨?loop, ?prof, ?can, ?uart, ?kilnConfig, ?kiln, ?kilnConfigDown, ?kilnDown, ?dpx, ?hostBeyond, ?hostRead, ?fir, ?cfg, ?logFrom, ?logOldest, ?logNewest,
    ?event, ?cal, ?logStatus⟩
  case loop => exact fun p c s h ho => steps_answersOnly rfl h ho (by cases p <;> rfl)
  case prof => exact fun p c s h ho => steps_answersOnly rfl h ho (by cases p <;> rfl)
  case can => exact fun p c s h ho => steps_answersOnly rfl h ho (by cases p <;> rfl)
  case uart => exact fun p c s h ho => steps_answersOnly rfl h ho (by cases p <;> rfl)
  case kilnConfig => exact fun p c s h ho hup => steps_answersOnly rfl h ho ((if_pos ((kilnUp_taken p s).trans hup)).trans (by cases p <;> rfl))
  case kiln => exact fun p c s h ho hup => steps_answersOnly rfl h ho ((if_pos ((kilnUp_taken p s).trans hup)).trans (by cases p <;> rfl))
  case kilnConfigDown => exact fun p c s h ho hdown => steps_answersOnly rfl h ho (if_neg (by rw [kilnUp_taken, hdown]; decide))
  case kilnDown => exact fun p c s h ho hdown => steps_answersOnly rfl h ho (if_neg (by rw [kilnUp_taken, hdown]; decide))
  case dpx => exact fun p c s h ho => steps_answersOnly rfl h ho (by cases p <;> rfl)
  case hostBeyond =>
    intro p c s h ho hbeyond
    exact steps_answersOnly rfl h ho ((if_pos ((hostWords_taken p s).trans_lt hbeyond)).trans (by cases p <;> rfl))
  case hostRead =>
    intro p c s h ho hmode hin
    refine steps_answersOnly rfl h ho ((if_neg ((hostWords_taken p s).symm ▸ hin).not_gt).trans ?_)
    have hmode' : (taken p s).sys.mode ≠ .standby := (congrArg SysState.mode (taken_same p s .sys (by decide)) :).trans_ne hmode
    simp only [hmode', if_false]
    cases p <;> rfl
  case fir =>
    intro p c k s h ho hk
    refine steps_answersOnly rfl h ho ?_
    simp only [hk, fin?_val]
    cases p <;> rfl
  case cfg => exact fun p c s h ho => steps_answersOnly rfl h ho (by cases p <;> rfl)
  case logFrom =>
    intro p c s h ho hsel
    refine steps_answersOnly rfl h ho ?_
    simp only [hsel]
    cases p <;> rfl
  case logOldest =>
    intro p c s h ho hsel
    refine steps_answersOnly rfl h ho ?_
    simp only [hsel]
    cases p <;> rfl
  case logNewest =>
    intro p c s h ho hsel
    refine steps_answersOnly rfl h ho ?_
    simp only [hsel]
    cases p <;> rfl
  case event =>
    intro p c n s h ho hn
    refine steps_answersOnly rfl h ho ?_
    simp only [hn, fin?_val]
    cases p <;> rfl
  case cal =>
    intro p c n kind lo hi s h ho hitem helem
    refine steps_answersOnly rfl h ho ?_
    simp only [hitem, helem.not_ge, if_false]
    cases p <;> rfl
  case logStatus =>
    intro p c r rs s h ho hheld
    have hheld' : heldRecs (taken p s) = r :: rs := (heldRecs_taken p s).trans hheld
    refine ⟨ok p c 0 _ (drawn (taken p s)), steps_of_body rfl h ho ?body, (((taken_same p s).mono rfl).step (drawn_same _) rfl).step (ok_same _ _ _ _ _) rfl,
      ok_replied (h.taken.of_outstanding (by simp [taken, drawn])) 0 _⟩
    simp only [hheld']
    cases p <;> rfl
end

section

/-! The stream commands and EVT_ROUTE (R62, R405, R416). -/

namespace Sys2Proof.Machine

/-! The subscription of a stream and instance. -/

section
variable (stream inst : Nat) (p : Port) (decim arg : Nat) (s : State)

theorem subscribe_subs : (subscribe stream inst p decim arg s).subs = (s.subs.filter fun x => !(x.stream == stream && x.inst == inst)) ++
    if decim = 0 then [] else [{ stream := stream, inst := inst, port := p, decim := decim, arg := arg }] := by
  simp only [subscribe, State.onSubs_subs]
  split <;> simp

theorem sub_subscribe_self : (subscribe stream inst p decim arg s).sub stream inst =
    if decim = 0 then none else some { stream := stream, inst := inst, port := p, decim := decim, arg := arg } := by
  have hnone : (s.subs.filter fun x => !(x.stream == stream && x.inst == inst)).find? (fun x => x.stream == stream && x.inst == inst) = none :=
    List.find?_eq_none.2 fun x hx => by simpa only [Bool.not_eq_true', Bool.not_eq_true] using (List.mem_filter.1 hx).2
  rw [State.sub, subscribe_subs, List.find?_append, hnone]
  split <;> simp

theorem sub_subscribe_other {x y : Nat} (h : ¬ (x = stream ∧ y = inst)) : (subscribe stream inst p decim arg s).sub x y = s.sub x y := by
  have hkey : ∀ a : Sub, (a.stream == x && a.inst == y) = true → (a.stream == stream && a.inst == inst) = false := by
    intro a ha
    obtain ⟨hx, hy⟩ : a.stream = x ∧ a.inst = y := by simpa using ha
    simpa [hx, hy] using h
  have hnew : (if decim = 0 then [] else [{ stream := stream, inst := inst, port := p, decim := decim, arg := arg }] : List Sub).find?
      (fun a => a.stream == x && a.inst == y) = none := by
    split
    · rfl
    · refine List.find?_eq_none.2 fun a ha hk => ?_
      rw [List.mem_singleton] at ha
      simpa [ha] using hkey a hk
  rw [State.sub, State.sub, subscribe_subs, List.find?_append, hnew, Option.or_none, List.find?_filter]
  congr 1
  funext a
  cases ha : (a.stream == x && a.inst == y)
  · simp
  · simp [hkey a ha]

theorem subscribe_subscribed : Subscribed stream inst p decim arg s (subscribe stream inst p decim arg s) :=
  ⟨sub_subscribe_self stream inst p decim arg s, fun _ _ h => sub_subscribe_other stream inst p decim arg s h⟩

end

theorem sub_congr {s t : State} (h : t.subs = s.subs) : t.sub = s.sub := by
  funext stream inst
  rw [State.sub, State.sub, h]

theorem Subscribed.congr {stream inst decim arg : Nat} {p : Port} {s t s' t' : State} (h : Subscribed stream inst p decim arg s t)
    (hs : s'.subs = s.subs) (ht : t'.subs = t.subs) : Subscribed stream inst p decim arg s' t' := by
  unfold Subscribed
  rw [sub_congr hs, sub_congr ht]
  exact h

/-! A command that sets something and answers OK. -/

theorem taken_subs (p : Port) (s : State) : (taken p s).subs = s.subs := taken_same p s .subs (by decide)

theorem subscribe_outstanding (stream inst : Nat) (p : Port) (decim arg : Nat) (q : Port) (s : State) :
    ((subscribe stream inst p decim arg s).port q).outstanding = (s.port q).outstanding := by
  rw [subscribe, State.onSubs_port]

/-- A stream command leaves the subscriptions of the state that its body answers on. -/
theorem steps_subs {i : Instr} {op : Op} {p : Port} {c : Cmd} {s u : State} {body : Cmd → State → State} (hexec : exec i s = .next (runOp op p body s))
    (h : Heard p c s) (ho : c.op = op) (hbody : body c (taken p s) = ok p c 0 [] u) (hsame : SameBut [.host, .maint, .subs] (taken p s) u)
    (hout : (u.port p).outstanding = ((taken p s).port p).outstanding) :
    ∃ t, Steps i s t ∧ Replied p c 0 0 0 [] t ∧ SameBut [.host, .maint, .sys, .subs] s t ∧ t.subs = u.subs :=
  ⟨ok p c 0 [] u, steps_of_body hexec h ho hbody, ok_replied (h.taken.of_outstanding hout) 0 [],
    (((taken_same p s).mono rfl).step hsame rfl).step (ok_same _ _ _ _ _) rfl, ok_subs _ _ _ _ _⟩

/-- A command that subscribes one stream. -/
theorem steps_subscribed {i : Instr} {op : Op} {p : Port} {c : Cmd} {s : State} {body : Cmd → State → State} {stream inst decim arg : Nat}
    (hexec : exec i s = .next (runOp op p body s)) (h : Heard p c s) (ho : c.op = op)
    (hbody : body c (taken p s) = ok p c 0 [] (subscribe stream inst p decim arg (taken p s))) :
    ∃ t, Steps i s t ∧ Replied p c 0 0 0 [] t ∧ SameBut [.host, .maint, .sys, .subs] s t ∧ Subscribed stream inst p decim arg s t := by
  obtain ⟨t, hstep, hreply, hsame, hsubs⟩ := steps_subs hexec h ho hbody (subscribe_same _ _ _ _ _ _) (subscribe_outstanding _ _ _ _ _ _ _)
  exact ⟨t, hstep, hreply, hsame, (subscribe_subscribed stream inst p decim arg (taken p s)).congr (taken_subs p s).symm hsubs⟩

/-! GNSS_STREAM: one subscription for each baseband whose bit is set. -/

/-- The subscription of one baseband, where its bit is set. -/
def basebandSub (p : Port) (code decim : Nat) (w : Word) (b : Fin 2) (s : State) : State :=
  if bit w (8 + b.val) then subscribe code b.val p decim 0 s else s

section
variable (p : Port) (code decim : Nat) (w : Word) (b : Fin 2) (s : State)

theorem basebandSub_same : SameBut [.host, .maint, .subs] s (basebandSub p code decim w b s) := by
  unfold basebandSub
  split
  · exact subscribe_same _ _ _ _ _ _
  · exact SameBut.refl _ s

theorem basebandSub_outstanding (q : Port) : ((basebandSub p code decim w b s).port q).outstanding = (s.port q).outstanding := by
  unfold basebandSub
  split
  · exact subscribe_outstanding _ _ _ _ _ _ _
  · rfl

theorem basebandSub_self (h : bit w (8 + b.val) = true) : (basebandSub p code decim w b s).sub code b.val =
    if decim = 0 then none else some { stream := code, inst := b.val, port := p, decim := decim, arg := 0 } := by
  rw [basebandSub, if_pos h, sub_subscribe_self]

theorem basebandSub_other {x y : Nat} (h : bit w (8 + b.val) = true → ¬ (x = code ∧ y = b.val)) :
    (basebandSub p code decim w b s).sub x y = s.sub x y := by
  unfold basebandSub
  split
  case isTrue hb => exact sub_subscribe_other _ _ _ _ _ _ (h hb)
  case isFalse => rfl

/-- Both basebands in order. -/
def basebandSubs (s : State) : State := basebandSub p code decim w 1 (basebandSub p code decim w 0 s)

theorem basebandSubs_same : SameBut [.host, .maint, .subs] s (basebandSubs p code decim w s) :=
  (basebandSub_same _ _ _ _ 0 s).trans (basebandSub_same _ _ _ _ 1 _)

theorem basebandSubs_outstanding (q : Port) : ((basebandSubs p code decim w s).port q).outstanding = (s.port q).outstanding :=
  (basebandSub_outstanding _ _ _ _ 1 _ q).trans (basebandSub_outstanding _ _ _ _ 0 s q)

theorem basebandSubs_self (h : bit w (8 + b.val) = true) : (basebandSubs p code decim w s).sub code b.val =
    if decim = 0 then none else some { stream := code, inst := b.val, port := p, decim := decim, arg := 0 } :=
  match b with
  | 0 => (basebandSub_other _ _ _ _ 1 _ (by simp)).trans (basebandSub_self _ _ _ _ 0 s h)
  | 1 => basebandSub_self _ _ _ _ 1 _ h

theorem basebandSubs_other {x y : Nat} (h : ∀ b : Fin 2, bit w (8 + b.val) = true → ¬ (x = code ∧ y = b.val)) :
    (basebandSubs p code decim w s).sub x y = s.sub x y :=
  (basebandSub_other _ _ _ _ 1 _ (h 1)).trans (basebandSub_other _ _ _ _ 0 s (h 0))

end

/-! EVT_ROUTE: one source takes its route (R405 to R407). -/

/-- The route that a command of a port gives an event source. -/
def routed (p : Port) (c : Cmd) (n : Nat) (x : EvSrc) : EvSrc :=
  { x with
    record := bit (wd c.words 0) 11, line := fld (wd c.words 0) 9 8
    severity := if c.expert then fld (wd c.words 1) 2 0 else (EvSrc.initial n).severity
    noticeHost := if p = .host then bit (wd c.words 0) 10 else x.noticeHost
    noticeMaint := if p = .maint then bit (wd c.words 0) 10 else x.noticeMaint }

/-- The body of EVT_ROUTE where its source exists. -/
def route (p : Port) (c : Cmd) (n : Fin 128) (s : State) : State := s.onEv fun e => { e with src := upd e.src n (routed p c n.val) }

theorem route_self (p : Port) (c : Cmd) (n : Fin 128) (s : State) : (route p c n s).ev.src[n] = routed p c n.val s.ev.src[n] := upd_self _ _ _

theorem route_events (p : Port) (c : Cmd) (n : Fin 128) (s : State) : EventsBut [n] s (route p c n s) :=
  fun _ hm => upd_other _ _ _ _ (mt List.mem_singleton.2 hm)

end Sys2Proof.Machine

open Sys2Proof Sys2Proof.Machine

/-- Settles O23: each stream command subscribes or ends its own stream, and EVT_ROUTE sets one source. -/
theorem streamsAndRoutesAreSetAsTheCommandSays : Obligations.StreamsAndRoutesAreSetAsTheCommandSays := by
  unfold Obligations.StreamsAndRoutesAreSetAsTheCommandSays
  refine ⟨?fus, ?dpc, ?alloc, ?sensor, ?can, ?uart, ?pps, ?gnss, ?refused, ?route⟩
  case fus =>
    intro p c s h ho
    refine ⟨_, steps_of_heard rfl h ho, ok_replied (h.taken.of_outstanding (by simp [taken])) 0 [],
      (((taken_same p s).mono rfl).onFus _ rfl).step (ok_same _ _ _ _ _) rfl, ?_⟩
    rw [ok_fus, State.onFus_fus, show (taken p s).fus = s.fus from taken_same p s .fus (by decide)]
  case dpc => exact fun p c s h ho => steps_subscribed rfl h ho rfl
  case alloc => exact fun p c s h ho => steps_subscribed rfl h ho rfl
  case sensor => exact fun p c s h ho => steps_subscribed rfl h ho rfl
  case can =>
    intro p c s h ho hbus hctl
    refine steps_subscribed rfl h ho ?_
    simp [hbus, hctl.not_gt]
  case uart =>
    intro p c s h ho hbus hport
    refine steps_subscribed rfl h ho ?_
    simp [hbus, hport.not_gt]
  case pps =>
    intro p c s h ho hkind
    refine steps_subscribed rfl h ho ?_
    simp [hkind]
  case gnss =>
    intro p c s h ho hkind
    obtain ⟨t, hstep, hreply, hsame, hsubs⟩ := steps_subs (i := .gnssStream p)
      (u := basebandSubs p (0x2A0 + 4 * fld (wd c.words 0) 1 0) (fld (wd c.words 0) 23 16) (wd c.words 0) (taken p s)) rfl h ho
      (congrArg (ok p c 0 []) (if_neg hkind)) (basebandSubs_same _ _ _ _ _) (basebandSubs_outstanding _ _ _ _ _ _)
    refine ⟨t, hstep, hreply, hsame, fun b hb => ?_, fun x y hxy => ?_⟩
    · rw [sub_congr hsubs]
      exact basebandSubs_self _ _ _ _ _ _ hb
    · rw [sub_congr hsubs, basebandSubs_other _ _ _ _ _ hxy, sub_congr (taken_subs p s)]
  case refused =>
    intro p c s h ho hsrc hnotice
    refine ⟨_, steps_of_heard_bad rfl h ho (if_pos (by simpa [hsrc] using hnotice)), reject_answersOnly h _ _⟩
  case route =>
    intro p c n s h ho hn hsrc
    have hpass : ¬ (decide (fld (wd c.words 0) 6 0 ≤ 1) && (bit (wd c.words 0) 11 || bit (wd c.words 0) 10)) = true := by
      rw [hn]
      simpa using hsrc
    refine ⟨ok p c 0 [] (route p c n (taken p s)), ?_, ?_, ?_, ?_, ?_⟩
    · have hstep := steps_of_heard_checked (i := .evtRoute p) rfl h ho (if_neg hpass)
      simp only [hn, fin?_val] at hstep
      exact hstep
    · exact ok_replied (h.taken.of_outstanding (by simp [taken, route])) 0 []
    · exact (((taken_same p s).mono rfl).onEv _ rfl).step (ok_same _ _ _ _ _) rfl
    · exact ((EventsBut.of_same (taken_same p s) (by decide)).trans (route_events p c n _)).of_ev (ok_ev _ _ _ _ _)
    · rw [ok_ev, route_self, show (taken p s).ev = s.ev from taken_same p s .ev (by decide)]
      rfl
end

section

/-! The bulk commands (R56 to R59, R434) and the end of a firmware programming (R435). -/

namespace Sys2Proof.Machine

/-! The handle of a number. -/

theorem handleOf_succ (i : Fin 4) (s : State) : handleOf s (i.val + 1) = s.bulk[i] := by
  simp [handleOf, List.getD]

theorem onHandle_succ (i : Fin 4) (f : Option Handle → Option Handle) (s : State) : onHandle (i.val + 1) f s = s.onBulk fun b => upd b i f := by
  simp [onHandle]

/-- The state in which the 10 s of a handle have begun again (R59). -/
def restarted (i : Fin 4) (s : State) : State := s.onBulk fun b => upd b i fun x => x.map fun h => { h with last := s.time.mt }

theorem restarted_bulk_self {i : Fin 4} {x : Handle} {s : State} (h : s.bulk[i] = some x) :
    (restarted i s).bulk[i] = some { x with last := s.time.mt } := by
  rw [restarted, State.onBulk_bulk, upd_self, h]
  rfl

theorem restarted_bulk_other {i j : Fin 4} (hj : j ≠ i) (s : State) : (restarted i s).bulk[j] = s.bulk[j] := upd_other _ _ _ _ hj

theorem restarted_same (i : Fin 4) (s : State) : SameBut [.bulk] s (restarted i s) := (SameBut.refl _ s).onBulk _ rfl

theorem restarted_port (i : Fin 4) (p : Port) (s : State) : (restarted i s).port p = s.port p := State.onBulk_port _ _ _

theorem touchHandle_named {op : Op} {p : Port} {c : Cmd} {i : Fin 4} {s : State} (h : Heard p c s) (ho : c.op = op)
    (hn : namedHandle c.op c.words = i.val + 1) : touchHandle op p s = restarted i s := by
  obtain ⟨hacc, hecc, -, -⟩ := h
  simp only [touchHandle, hacc, hecc, ho, List.contains_nil, Bool.false_eq_true, not_false_eq_true, and_self, if_true]
  rw [← ho, hn]
  exact onHandle_succ i _ s

/-! The interpretation of a heard bulk command. -/

theorem runBulk_heard {op : Op} {p : Port} {c : Cmd} {s : State} {pre : Cmd → State → Option (Nat × Nat)} {body : Cmd → State → State}
    (h : Heard p c s) (ho : c.op = op) (hpre : pre c (taken p s) = none) : runBulk op p pre body s = body c (taken p s) := by
  obtain ⟨hacc, hecc, hgood, -⟩ := h
  subst ho
  simp only [taken] at hpre ⊢
  simp [runBulk, hacc, hecc, hgood, hpre]

theorem Heard.restarted {p : Port} {c : Cmd} {s : State} (h : Heard p c s) (i : Fin 4) : Heard p c (restarted i s) := by
  unfold Heard
  rw [restarted_port]
  exact h

/-- The state on which a bulk command that names an open handle acts. -/
def named (p : Port) (i : Fin 4) (s : State) : State := taken p (restarted i s)

theorem named_same (p : Port) (i : Fin 4) (s : State) : SameBut [.host, .maint, .bulk] s (named p i s) :=
  ((restarted_same i s).mono rfl).step (taken_same p _) rfl

theorem named_bulk (p : Port) (i : Fin 4) (s : State) : (named p i s).bulk = (restarted i s).bulk := taken_same p _ .bulk (by decide)

theorem named_unanswered {p : Port} {c : Cmd} {s : State} (h : Heard p c s) (i : Fin 4) : Unanswered p c (named p i s) := (h.restarted i).taken

theorem kindMode_congr {s t : State} (hhp : t.hp = s.hp) (hsys : t.sys = s.sys) (kind : Nat) (r : KindRow) : kindMode kind r t = kindMode kind r s := by
  rw [kindMode, kindMode, noImage, noImage, hhp, hsys]

/-- An open handle of the direction asked for and of a kind of this mode passes R434. -/
theorem handleCheck_open {dir : Option Bool} {c : Cmd} {i : Fin 4} {x : Handle} {s : State} (hn : namedHandle c.op c.words = i.val + 1)
    (hi : s.bulk[i] = some x) (hdir : ∀ d, dir = some d → d = x.fromMod) (hkind : ∃ r, kindRow x.kind = some r ∧ kindMode x.kind r s = true) :
    handleCheck dir c s = none := by
  obtain ⟨r, hrow, hmode⟩ := hkind
  simp only [handleCheck, hn, handleOf_succ, hi, hrow, hmode, if_true]
  cases dir with
  | none => rfl
  | some d => simp [hdir d rfl]

section
variable {ins : Instr} {op : Op} {dir : Option Bool} {p : Port} {c : Cmd} {i : Fin 4} {x : Handle} {s : State} {body : Cmd → State → State}
  (hexec : exec ins s = .next (runBulk op p (handleCheck dir) body (touchHandle op p s))) (h : Heard p c s) (ho : c.op = op)
  (hn : namedHandle c.op c.words = i.val + 1) (hi : s.bulk[i] = some x) (hdir : ∀ d, dir = some d → d = x.fromMod)
  (hkind : ∃ r, kindRow x.kind = some r ∧ kindMode x.kind r s = true)
include hexec h ho hn hi hdir hkind

theorem steps_named : Steps ins s (body c (named p i s)) := by
  have hsame := named_same p i s
  have hi' : (named p i s).bulk[i] = some { x with last := s.time.mt } := by rw [named_bulk, restarted_bulk_self hi]
  obtain ⟨r, hrow, hmode⟩ := hkind
  have hpass : handleCheck dir c (named p i s) = none :=
    handleCheck_open hn hi' hdir ⟨r, hrow, (kindMode_congr (hsame .hp (by decide)) (hsame .sys (by decide)) _ _).trans hmode⟩
  rw [Steps, hexec, touchHandle_named h ho hn, runBulk_heard (h.restarted i) ho hpass]
  rfl

end

/-- What a bulk command that names handle i leaves: its reply, the other handles, and what it made of this one. -/
structure BulkDone (p : Port) (c : Cmd) (cls st detail : Nat) (ws : List Word) (i : Fin 4) (x : Option Handle) (s t : State) : Prop where
  replied : Replied p c cls st detail ws t
  others : ∀ j : Fin 4, j ≠ i → t.bulk[j] = s.bulk[j]
  same : SameBut [.host, .maint, .sys, .bulk] s t
  handle : t.bulk[i] = x

/-- The reply on a state whose handle i is x; the others are as before. -/
theorem BulkDone.of_finish {p : Port} {c : Cmd} {i : Fin 4} {x : Option Handle} {s u : State} (hun : Unanswered p c u)
    (hsame : SameBut [.host, .maint, .sys, .bulk] s u) (hothers : ∀ j : Fin 4, j ≠ i → u.bulk[j] = s.bulk[j]) (hi : u.bulk[i] = x) (cls st detail : Nat)
    (ws : List Word) : BulkDone p c cls st detail ws i x s (finish p c.tag cls st detail ws u) where
  replied := finish_replied hun cls st detail ws
  others j hj := by rw [finish_bulk, hothers j hj]
  same := hsame.step (finish_same _ _ _ _ _ _ _) rfl
  handle := by rw [finish_bulk, hi]

/-- A reply that leaves the handle with its data, its 10 s begun again. -/
theorem named_done {p : Port} {c : Cmd} {i : Fin 4} {x : Handle} {s : State} (h : Heard p c s) (hi : s.bulk[i] = some x) (cls st detail : Nat) (ws : List Word) :
    BulkDone p c cls st detail ws i (some { x with last := s.time.mt }) s (finish p c.tag cls st detail ws (named p i s)) :=
  .of_finish (named_unanswered h i) ((named_same p i s).mono rfl) (fun j hj => by rw [named_bulk, restarted_bulk_other hj])
    (by rw [named_bulk, restarted_bulk_self hi]) _ _ _ _

/-- A reply after the handle has become another. -/
theorem onHandle_done {p : Port} {c : Cmd} {i : Fin 4} {s : State} (h : Heard p c s) (f : Option Handle → Option Handle) (cls st detail : Nat)
    (ws : List Word) : BulkDone p c cls st detail ws i (f (restarted i s).bulk[i]) s
      (finish p c.tag cls st detail ws (onHandle (i.val + 1) f (named p i s))) := by
  rw [onHandle_succ]
  refine .of_finish ((named_unanswered h i).of_outstanding (by rw [State.onBulk_port])) (((named_same p i s).mono rfl).onBulk _ rfl) (fun j hj => ?_) ?_ _ _ _ _
  · rw [State.onBulk_bulk, upd_other _ _ _ _ hj, named_bulk, restarted_bulk_other hj]
  · rw [State.onBulk_bulk, upd_self, named_bulk]

/-! BULK_WRITE (R57). -/

/-- The body of BULK_WRITE where its handle is open. -/
def writeBlock (p : Port) (c : Cmd) (n : Nat) (x : Handle) (s : State) : State :=
  if fld (wd c.words 0) 23 0 != x.next then reject p c 0xF031 (x.next % 65536) s
  else if min 254 (x.len - x.data.length) < (c.words.drop 1).length then
    reject p c 0xF032 ((c.words.drop 1).length - min 254 (x.len - x.data.length)) s
  else if (c.words.drop 1).length < min 254 (x.len - x.data.length) then
    reject p c 0xF032 (min 254 (x.len - x.data.length) - (c.words.drop 1).length) s
  else ok p c 0 [] (onHandle n (fun _ => some { x with data := (c.words.drop 1).reverse ++ x.data, next := x.next + 1 }) s)

theorem namedHandle_write {c : Cmd} (ho : c.op = .bulkWrite) : namedHandle c.op c.words = fld (wd c.words 0) 31 24 := by simp [namedHandle, ho]

theorem namedHandle_read {c : Cmd} (ho : c.op = .bulkRead) : namedHandle c.op c.words = fld (wd c.words 0) 31 24 := by simp [namedHandle, ho]

theorem namedHandle_close {c : Cmd} (ho : c.op = .bulkClose) : namedHandle c.op c.words = fld (wd c.words 0) 7 0 := by simp [namedHandle, ho]

section
variable {p : Port} {c : Cmd} {i : Fin 4} {x : Handle} {s : State} (h : Heard p c s) (ho : c.op = .bulkWrite) (hi : s.bulk[i] = some x)
  (hn : fld (wd c.words 0) 31 24 = i.val + 1) (hdir : x.fromMod = false) (hkind : ∃ r, kindRow x.kind = some r ∧ kindMode x.kind r s = true)
include h ho hi hn hdir hkind

theorem steps_bulkWrite : Steps (.bulkWrite p) s (writeBlock p c (i.val + 1) { x with last := s.time.mt } (named p i s)) := by
  have hstep := steps_named (ins := .bulkWrite p) rfl h ho ((namedHandle_write ho).trans hn) hi (by simp [hdir]) hkind
  simp only [namedHandle_write ho, hn, handleOf_succ, named_bulk, restarted_bulk_self hi] at hstep
  exact hstep

/-- The expected block of exactly the words due is taken. -/
theorem bulkWrite_taken (hnext : fld (wd c.words 0) 23 0 = x.next) (hlen : (c.words.drop 1).length = min 254 (x.len - x.data.length)) :
    ∃ t, Steps (.bulkWrite p) s t ∧
      BulkDone p c 0 0 0 [] i (some { x with data := (c.words.drop 1).reverse ++ x.data, next := x.next + 1, last := s.time.mt }) s t := by
  refine ⟨_, (steps_bulkWrite h ho hi hn hdir hkind).trans (congrArg _ ?_), onHandle_done h (fun _ => some _) 0 0 0 []⟩
  exact (if_neg (by simp [hnext])).trans ((if_neg hlen.not_gt).trans (if_neg hlen.not_lt))

theorem bulkWrite_sequence (hnext : fld (wd c.words 0) 23 0 ≠ x.next) : ∃ t, Steps (.bulkWrite p) s t ∧
    BulkDone p c 3 0xF031 (x.next % 65536) [] i (some { x with last := s.time.mt }) s t :=
  ⟨_, (steps_bulkWrite h ho hi hn hdir hkind).trans (congrArg _ (if_pos (by simpa using hnext))), named_done h hi 3 0xF031 _ []⟩

theorem bulkWrite_excess (hnext : fld (wd c.words 0) 23 0 = x.next) (hlen : min 254 (x.len - x.data.length) < (c.words.drop 1).length) :
    ∃ t, Steps (.bulkWrite p) s t ∧ BulkDone p c 3 0xF032 ((c.words.drop 1).length - min 254 (x.len - x.data.length)) [] i
      (some { x with last := s.time.mt }) s t :=
  ⟨_, (steps_bulkWrite h ho hi hn hdir hkind).trans (congrArg _ ((if_neg (by simp [hnext])).trans (if_pos hlen))), named_done h hi 3 0xF032 _ []⟩

theorem bulkWrite_lack (hnext : fld (wd c.words 0) 23 0 = x.next) (hlen : (c.words.drop 1).length < min 254 (x.len - x.data.length)) :
    ∃ t, Steps (.bulkWrite p) s t ∧ BulkDone p c 3 0xF032 (min 254 (x.len - x.data.length) - (c.words.drop 1).length) [] i
      (some { x with last := s.time.mt }) s t :=
  ⟨_, (steps_bulkWrite h ho hi hn hdir hkind).trans (congrArg _ ((if_neg (by simp [hnext])).trans ((if_neg hlen.not_gt).trans (if_pos hlen)))),
    named_done h hi 3 0xF032 _ []⟩

end

/-! BULK_OPEN (R56, R434). -/

theorem fins_find?_eq_some {n : Nat} {P : Fin n → Bool} {i : Fin n} (hi : P i = true) (hlt : ∀ j < i, P j = false) : (fins n).find? P = some i := by
  rw [fins, List.find?_eq_some_iff_getElem]
  refine ⟨hi, i, by simp, by simp, fun j hj => ?_⟩
  simp [hlt ⟨j, _⟩ hj]

theorem openCheck_taken (p : Port) (c : Cmd) (s : State) : openCheck c (taken p s) = openCheck c s := by cases p <;> rfl

/-- Handle i opened for an object to the module. -/
def opened (p : Port) (c : Cmd) (i : Fin 4) (s : State) : State :=
  s.onBulk fun b => upd b i fun _ => some
    { port := p, kind := fld (wd c.words 0) 31 16, inst := fld (wd c.words 0) 15 0, fromMod := false, len := (wd c.words 2).toNat
      crc := wd c.words 3, data := [], next := 0, last := s.time.mt }

theorem steps_bulk {i : Instr} {op : Op} {p : Port} {c : Cmd} {s : State} {pre : Cmd → State → Option (Nat × Nat)} {body : Cmd → State → State}
    (hexec : exec i s = .next (runBulk op p pre body s)) (h : Heard p c s) (ho : c.op = op) (hpre : pre c (taken p s) = none) :
    Steps i s (body c (taken p s)) := hexec.trans (congrArg _ (runBulk_heard h ho hpre))

/-- Only kinds that are read give free values to their copy. -/
theorem kindRow_ne_sector {kind : Nat} {r : KindRow} (hrow : kindRow kind = some r) (hmod : r.fromMod = false) : kind ≠ 0x50 := by
  rintro rfl
  cases hrow
  cases hmod

theorem taken_bulk (p : Port) (s : State) : (taken p s).bulk = s.bulk := taken_same p s .bulk (by decide)

theorem opening_allowed {kind fn : Nat} (h : kind = 0x20 → (fn == 4) = false) : (decide (kind = 0x20) && fn == 4) = false := by
  simpa only [Bool.and_eq_false_imp, decide_eq_true_iff] using h

section
variable {p : Port} {c : Cmd} {r : KindRow} {s : State} (h : Heard p c s) (ho : c.op = .bulkOpen) (hcheck : openCheck c s = none)
  (hrow : kindRow (fld (wd c.words 0) 31 16) = some r) (hmod : r.fromMod = false) (hdir : bit (wd c.words 1) 0 = false)
  (hlen : (wd c.words 2).toNat ≤ r.len) (hjoy : fld (wd c.words 0) 31 16 = 0x20 → (s.dpc.fn == 4) = false)
include h ho hcheck hrow hmod hdir hlen hjoy

/-- An object to the module that passes its checks takes the first free handle. -/
theorem steps_bulkOpen {i : Fin 4} (hfirst : (fins 4).find? (fun j => (s.bulk[j]).isNone) = some i) :
    Steps (.bulkOpen p) s (ok p c 0 [ofN (i.val + 1), 0, 0] (opened p c i (taken p s))) := by
  have hstep := steps_bulk (i := .bulkOpen p) rfl h ho ((openCheck_taken p c s).trans hcheck)
  simp only [hrow, hmod, hdir, hlen.not_gt, taken_dpc, taken_bulk, hfirst, kindRow_ne_sector hrow hmod, opening_allowed hjoy] at hstep
  simpa [opened] using hstep

/-- With every handle open it is refused with HANDLES_FULL. -/
theorem steps_bulkOpen_full (hfull : (fins 4).find? (fun j => (s.bulk[j]).isNone) = none) :
    Steps (.bulkOpen p) s (reject p c 0xF034 4 (taken p s)) := by
  have hstep := steps_bulk (i := .bulkOpen p) rfl h ho ((openCheck_taken p c s).trans hcheck)
  simp only [hrow, hmod, hdir, hlen.not_gt, taken_dpc, taken_bulk, hfull, opening_allowed hjoy] at hstep
  simpa using hstep

end

/-! BULK_READ and BULK_CLOSE (R58, R434). -/

/-- The expected block of a copy. -/
theorem bulkRead_read {p : Port} {c : Cmd} {i : Fin 4} {x : Handle} {s : State} (h : Heard p c s) (ho : c.op = .bulkRead) (hi : s.bulk[i] = some x)
    (hn : fld (wd c.words 0) 31 24 = i.val + 1) (hdir : x.fromMod = true) (hkind : ∃ r, kindRow x.kind = some r ∧ kindMode x.kind r s = true)
    (hblk : 253 * fld (wd c.words 0) 23 0 < x.len) : ∃ t, Steps (.bulkRead p) s t ∧
      BulkDone p c 0 0 0 (ofN (fld (wd c.words 0) 23 0) :: (x.data.drop (253 * fld (wd c.words 0) 23 0)).take 253) i
        (some { x with last := s.time.mt }) s t := by
  refine ⟨_, ?_, named_done h hi 0 0 0 _⟩
  have hstep := steps_named (ins := .bulkRead p) rfl h ho ((namedHandle_read ho).trans hn) hi (by simp [hdir]) hkind
  simp only [namedHandle_read ho, hn, handleOf_succ, named_bulk, restarted_bulk_self hi, hblk.not_ge, if_false] at hstep
  exact hstep

/-- The time that the class 1 reply of a close announces (Table 18-17). -/
def closeMs (kind : Nat) : Nat := match kindRow kind with
  | some r => r.ms
  | none => 0

/-- The closed handle of an object to the module, its class 1 reply placed. -/
def closing (p : Port) (c : Cmd) (i : Fin 4) (x : Handle) (s : State) : State :=
  onHandle (i.val + 1) (fun _ => none) (pending p c (closeMs x.kind) (named p i s))

section
variable {p : Port} {c : Cmd} {i : Fin 4} {x : Handle} {s : State} (h : Heard p c s) (ho : c.op = .bulkClose) (hi : s.bulk[i] = some x)
  (hn : fld (wd c.words 0) 7 0 = i.val + 1) (hdir : x.fromMod = false) (hfw : x.kind ≠ 1)
  (hkind : ∃ r, kindRow x.kind = some r ∧ kindMode x.kind r s = true)

include h in
theorem closing_done (cls st detail : Nat) (ws : List Word) :
    BulkDone p c cls st detail ws i none s (finish p c.tag cls st detail ws (closing p c i x s)) := by
  have hwait := pending_same p c (closeMs x.kind) (named p i s)
  have hun := pending_unanswered (named_unanswered h i) (closeMs x.kind)
  rw [closing, onHandle_succ]
  refine .of_finish (hun.of_outstanding (by rw [State.onBulk_port])) ((((named_same p i s).mono rfl).step hwait rfl).onBulk _ rfl) (fun j hj => ?_) ?_ _ _ _ _
  · rw [State.onBulk_bulk, upd_other _ _ _ _ hj, pending_bulk, named_bulk, restarted_bulk_other hj]
  · rw [State.onBulk_bulk, upd_self]

include h ho hi hn hdir hfw hkind

theorem steps_bulkClose : Steps (.bulkClose p) s (
    if x.data.length < x.len then finish p c.tag 0 0xF032 (satN 65535 (x.len - x.data.length)) [] (closing p c i x s)
    else if crc32 x.data.reverse != x.crc then finish p c.tag 0 0xF033 0 [] (closing p c i x s)
    else applyObject p c { x with last := s.time.mt } (closing p c i x s)) := by
  have hstep := steps_named (ins := .bulkClose p) rfl h ho ((namedHandle_close ho).trans hn) hi (by simp) hkind
  simp only [namedHandle_close ho, hn, handleOf_succ, named_bulk, restarted_bulk_self hi, hfw, hdir, if_false, Bool.false_eq_true] at hstep
  exact hstep

theorem bulkClose_short (hlen : x.data.length < x.len) : ∃ t, Steps (.bulkClose p) s t ∧
    BulkDone p c 0 0xF032 (satN 65535 (x.len - x.data.length)) [] i none s t :=
  ⟨_, (steps_bulkClose h ho hi hn hdir hfw hkind).trans (congrArg _ (if_pos hlen)), closing_done h _ _ _ _⟩

theorem bulkClose_crc (hlen : x.len ≤ x.data.length) (hcrc : crc32 x.data.reverse ≠ x.crc) : ∃ t, Steps (.bulkClose p) s t ∧
    BulkDone p c 0 0xF033 0 [] i none s t :=
  ⟨_, (steps_bulkClose h ho hi hn hdir hfw hkind).trans (congrArg _ ((if_neg hlen.not_gt).trans (if_pos (by simpa using hcrc)))), closing_done h _ _ _ _⟩

end

/-! FW_PROGRAM_COMPLETE (R435). -/

/-- The programmed image is valid, its change recorded (R435). -/
def fwDone (f : FwProg) (s : State) : State :=
  changeRecord f.port f.tag .bulkClose 0 f.oldCrc f.crc false (commit f.port f.tag (s.onSys fun y => { y with
    fwProg := none, images := upd y.images f.target fun _ => { valid := true, gen := f.gen, crc := f.crc, hdrOk := true }, choice := none }))

theorem exec_fwProgramComplete {f : FwProg} {s : State} (h : s.sys.fwProg = some f) :
    exec (.fwProgramComplete true) s = .next (pd13Budget (finish f.port f.tag 0 0 0 [] (fwDone f s))) := by
  change execFwProgramComplete true s = _
  unfold execFwProgramComplete
  rw [h]
  rfl

theorem fwDone_sys (f : FwProg) (s : State) : (fwDone f s).sys = { s.sys with
    fwProg := none, images := upd s.sys.images f.target fun _ => { valid := true, gen := f.gen, crc := f.crc, hdrOk := true }, choice := none } := by
  rw [fwDone, changeRecord_sys, commit_sys, State.onSys_sys]

theorem fwDone_waits {f : FwProg} {op : Op} {s : State} (h : Waits f.port f.tag op s) : Waits f.port f.tag op (fwDone f s) := by
  have hcommit := commit_unanswered (c := { op := op, tag := f.tag, words := [], expert := false, ecc := [] })
    (Unanswered.of_outstanding (t := s.onSys fun y => { y with
      fwProg := none, images := upd y.images f.target fun _ => { valid := true, gen := f.gen, crc := f.crc, hdrOk := true }, choice := none })
      h (by rw [State.onSys_port]))
  exact hcommit.of_outstanding (changeRecord_port_outstanding _ _ _ _ _ _ _ _ _)

/-- PD13 apart, the budget state of a sleeping module changes nothing of the module. -/
theorem pd13Budget_sys (s : State) : ∃ dom, (pd13Budget s).sys = { s.sys with dom := dom } := by
  unfold pd13Budget
  split
  · exact ⟨_, rfl⟩
  · exact ⟨_, rfl⟩

end Sys2Proof.Machine

open Sys2Proof Sys2Proof.Machine

/-- Settles O52: the four outcomes of a block (bulkWrite_taken, bulkWrite_sequence, bulkWrite_excess, bulkWrite_lack). -/
theorem writeBlocksComeInOrderAndInFull : Obligations.WriteBlocksComeInOrderAndInFull := by
  unfold Obligations.WriteBlocksComeInOrderAndInFull
  refine ⟨?taken, ?sequence, ?excess, ?lack⟩
  case taken =>
    rintro p c i x _ s h ho hi hn hdir hkind rfl hnext hlen
    obtain ⟨t, hstep, done⟩ := bulkWrite_taken h ho hi hn hdir hkind hnext hlen
    exact ⟨t, hstep, done.replied, done.same, done.others, done.handle⟩
  case sequence =>
    rintro p c i x _ s h ho hi hn hdir hkind rfl hnext
    obtain ⟨t, hstep, done⟩ := bulkWrite_sequence h ho hi hn hdir hkind hnext
    exact ⟨t, hstep, done.replied, done.same, done.others, done.handle⟩
  case excess =>
    rintro p c i x _ s h ho hi hn hdir hkind rfl hnext hlen
    obtain ⟨t, hstep, done⟩ := bulkWrite_excess h ho hi hn hdir hkind hnext hlen
    exact ⟨t, hstep, done.replied, done.same, done.others, done.handle⟩
  case lack =>
    rintro p c i x _ s h ho hi hn hdir hkind rfl hnext hlen
    obtain ⟨t, hstep, done⟩ := bulkWrite_lack h ho hi hn hdir hkind hnext hlen
    exact ⟨t, hstep, done.replied, done.same, done.others, done.handle⟩

/-- Settles O16: BULK_OPEN takes the first free handle, the others act on the handle they name, and the image is valid after its read-back. -/
theorem bulkHandlesMoveWholeObjects : Obligations.BulkHandlesMoveWholeObjects := by
  unfold Obligations.BulkHandlesMoveWholeObjects
  refine ⟨?opened, ?full, ?written, ?sequence, ?read, ?short, ?crc, ?firmware⟩
  case opened =>
    intro p c r i s h ho hcheck hrow hmod hdir hlen hjoy hfree hused
    have hfirst : (fins 4).find? (fun j => (s.bulk[j]).isNone) = some i :=
      fins_find?_eq_some (by rw [hfree]; rfl) fun j hj => by simpa [Option.ne_none_iff_isSome] using hused j hj
    refine ⟨_, steps_bulkOpen h ho hcheck hrow hmod hdir hlen hjoy hfirst, ok_replied (h.taken.of_outstanding (by rw [opened, State.onBulk_port]; rfl)) 0 _,
      fun j hj => ?_, (((taken_same p s).mono rfl).onBulk _ rfl).step (ok_same _ _ _ _ _) rfl, ?_⟩
    · rw [ok_bulk, opened, State.onBulk_bulk, upd_other _ _ _ _ hj, taken_bulk]
    · rw [ok_bulk, opened, State.onBulk_bulk, upd_self, show (taken p s).time = s.time from taken_same p s .time (by decide)]
  case full =>
    intro p c r s h ho hcheck hrow hmod hdir hlen hjoy hused
    have hfull : (fins 4).find? (fun j => (s.bulk[j]).isNone) = none :=
      List.find?_eq_none.2 fun j _ => by simpa [Option.ne_none_iff_isSome] using hused j
    exact ⟨_, steps_bulkOpen_full h ho hcheck hrow hmod hdir hlen hjoy hfull, reject_replied h.taken _ _, (reject_answersOnly h _ _).2.2.2⟩
  case written =>
    intro p c i x s h ho hi hn hdir hkind hnext hlen
    obtain ⟨t, hstep, done⟩ := bulkWrite_taken h ho hi hn hdir hkind hnext hlen
    exact ⟨t, hstep, done.replied, done.others, done.same, done.handle⟩
  case sequence =>
    intro p c i x s h ho hi hn hdir hkind hnext
    obtain ⟨t, hstep, done⟩ := bulkWrite_sequence h ho hi hn hdir hkind hnext
    exact ⟨t, hstep, done.replied, done.others, done.same, done.handle⟩
  case read =>
    intro p c i x s h ho hi hn hdir hkind hblk
    obtain ⟨t, hstep, done⟩ := bulkRead_read h ho hi hn hdir hkind hblk
    exact ⟨t, hstep, done.replied, done.others, done.same, done.handle⟩
  case short =>
    intro p c i x s h ho hi hn hdir hfw hkind hlen
    obtain ⟨t, hstep, done⟩ := bulkClose_short h ho hi hn hdir hfw hkind hlen
    exact ⟨t, hstep, done.replied, done.handle, done.others, done.same⟩
  case crc =>
    intro p c i x s h ho hi hn hdir hfw hkind hlen hcrc
    obtain ⟨t, hstep, done⟩ := bulkClose_crc h ho hi hn hdir hfw hkind hlen hcrc
    exact ⟨t, hstep, done.replied, done.handle, done.same⟩
  case firmware =>
    intro f op s hf hwaits
    let u := finish f.port f.tag 0 0 0 [] (fwDone f s)
    obtain ⟨dom, hsys⟩ := pd13Budget_sys u
    have hport : (pd13Budget u).port f.port = u.port f.port := (pd13Budget_same u).port (by decide) (by decide) f.port
    refine ⟨_, exec_fwProgramComplete hf, ?_, ?_, ?_, ?_, fun j hj => ?_⟩
    · rw [Answered, hport]
      exact finish_answered (fwDone_waits hwaits) 0 0 0 []
    · rw [hsys, finish_sys_fwProg, fwDone_sys]
    · rw [hsys, finish_sys_choice, fwDone_sys]
    · rw [hsys, finish_sys_images, fwDone_sys, upd_self]
    · rw [hsys, finish_sys_images, fwDone_sys, upd_other _ _ _ _ hj]
end

section

/-! SYS_SET_MODE, SYS_SET_WAKE, SYS_ABORT and SYS_GET_ID (2.7, 3.3, Table 18-4). -/

namespace Sys2Proof.Machine

/-! SYS_SET_MODE (R71, R343). -/

section
variable (p : Port) (s : State)

theorem modeRefusal_taken (m : Mode) (force : Bool) : modeRefusal (taken p s) m force = modeRefusal s m force := by cases p <;> rfl

theorem duplex_taken : (taken p s).duplex = s.duplex := by cases p <;> rfl

theorem partnerReady_taken : partnerReady (taken p s) = partnerReady s := by cases p <;> rfl

theorem wakeLeft_taken : wakeLeft (taken p s) = wakeLeft s := by cases p <;> rfl

end

/-- The change goes through the partner: out of CONTROL with a ready one (R343). -/
def viaPartner (s : State) : Bool := s.sys.mode == .control && s.duplex && partnerReady s

/-- The time of the change: out of DORMANT the domains still to wake, then the entry into the mode. -/
def changeUs (s : State) (m : Mode) : Nat := (if s.sys.mode = .dormant then wakeLeft s else 0) + entryUs s.sys.mode m

/-- The time that the class 1 reply of SYS_SET_MODE announces. -/
def changeMs (s : State) (m : Mode) : Nat := if viaPartner s then 40 else cdiv (changeUs s m + 10000) 1000

section
variable {p : Port} {c : Cmd} {m : Mode} {s : State} (h : Heard p c s) (ho : c.op = .sysSetMode) (hm : modeOf (fld (wd c.words 0) 2 0) = some m)
include h ho hm

theorem steps_sysSetMode_refused (hr : modeRefusal s m (bit (wd c.words 0) 8) ≠ 0) : Steps (.sysSetMode p) s
    (reject p c 0x0110 (modeRefusal s m (bit (wd c.words 0) 8)) (pending p c (changeMs s m) (taken p s))) := by
  have hstep := steps_of_heard (i := .sysSetMode p) rfl h ho
  simp only [hm, taken_sys, modeRefusal_taken, duplex_taken, partnerReady_taken, wakeLeft_taken, bne_iff_ne, ne_eq, hr, not_false_eq_true, if_true] at hstep
  exact hstep

/-- The change, waiting for a frame boundary. -/
theorem steps_sysSetMode_begun (hr : modeRefusal s m (bit (wd c.words 0) 8) = 0) (hvia : viaPartner s = false) : Steps (.sysSetMode p) s
    ((pending p c (changeMs s m) (taken p s)).onSys fun y => { y with
      modeReq := some { target := m, kind := 0, detail := 0, cmd := some (p, c.tag), due := s.time.mt + changeUs s m * 100 } }) := by
  have hstep := steps_of_heard (i := .sysSetMode p) rfl h ho
  unfold viaPartner at hvia
  simp only [hm, taken_sys, modeRefusal_taken, duplex_taken, partnerReady_taken, wakeLeft_taken, hr, bne_self_eq_false, hvia, Bool.false_eq_true, if_false,
    pending_time, show (taken p s).time = s.time from taken_same p s .time (by decide)] at hstep
  have hms : changeMs s m = cdiv (changeUs s m + 10000) 1000 := if_neg (by rw [viaPartner, hvia]; decide)
  rw [hms]
  exact hstep

/-- The transfer to a ready partner. -/
theorem steps_sysSetMode_transfer (hr : modeRefusal s m (bit (wd c.words 0) 8) = 0) (hvia : viaPartner s = true) : Steps (.sysSetMode p) s
    ((pending p c 40 (taken p s)).onDpx fun d => { d with
      transfer := true, transferDormant := true, transferCmd := some (p, c.tag), transferCause := causeTransfer }) := by
  have hstep := steps_of_heard (i := .sysSetMode p) rfl h ho
  unfold viaPartner at hvia
  simp only [hm, taken_sys, modeRefusal_taken, duplex_taken, partnerReady_taken, hr, bne_self_eq_false, hvia, Bool.false_eq_true, if_false, if_true] at hstep
  exact hstep

end

/-! SYS_ABORT (R53, Table 2-8). -/

/-- A tag found after a change of another tag's entry is the one found before. -/
theorem findTag_onTag_other {q : PortState} {tag k : Nat} {f : Outst → Outst} (hk : k ≠ tag) (hf : ∀ x, (f x).tag = x.tag) :
    findTag (onTag q tag f) k = findTag q k := by
  have hsame : ((fun o : Outst => o.tag == k) ∘ fun o : Outst => if o.tag = tag then f o else o) = fun o => o.tag == k := by
    funext o
    simp only [Function.comp]
    split
    · rw [hf]
    · rfl
  rw [findTag, onTag, List.find?_map, hsame]
  cases hfound : q.outstanding.find? (fun o => o.tag == k) with
  | none => simp [findTag, hfound]
  | some o =>
    have htag : o.tag ≠ tag := by
      have := List.find?_some hfound
      simp only [beq_iff_eq] at this
      exact this ▸ hk
    simp [findTag, hfound, htag]

/-- The final reply of another tag leaves a command unanswered. -/
theorem finish_unanswered {p : Port} {c : Cmd} {s : State} {tag : Nat} (h : Unanswered p c s) (htag : c.tag ≠ tag) (cls st detail : Nat) (ws : List Word) :
    Unanswered p c (finish p tag cls st detail ws s) := by
  obtain ⟨o, hfound, hdone, hop⟩ := h
  refine ⟨o, ?_, hdone, hop⟩
  unfold finish
  split
  · exact hfound
  · split
    · exact hfound
    · have hother := (findTag_onTag_other (q := s.port p) (f := fun o => { o with resv := 0, done := true }) htag (fun _ => rfl)).trans hfound
      simpa [place, findTag] using hother

/-- A command that can be long is not the SYS_ABORT that names it. -/
theorem abort_names_other {p : Port} {c : Cmd} {o : Outst} {s : State} {tag : Nat} (h : Heard p c s) (ho : c.op = .sysAbort)
    (hfound : findTag (s.port p) tag = some o) (hlong : (opInfo o.op).long = true) : c.tag ≠ tag := by
  rintro rfl
  obtain ⟨o', hfound', -, hop⟩ := h.unanswered
  obtain rfl : o = o' := Option.some.inj (hfound.symm.trans hfound')
  rw [hop, ho] at hlong
  exact absurd hlong (by decide)

theorem findTag_taken (p : Port) (tag : Nat) (s : State) : findTag ((taken p s).port p) tag = findTag (s.port p) tag := by cases p <;> rfl

theorem notAbortable_taken (p : Port) (o : Outst) (s : State) : notAbortable p o (taken p s) = notAbortable p o s := by cases p <;> rfl

theorem isCommit_taken (p : Port) (tag : Nat) (s : State) : isCommit p tag (taken p s) = isCommit p tag s := by cases p <;> rfl

theorem ticketWords_taken (p : Port) (tag : Nat) (s : State) : ticketWords p tag (taken p s) = ticketWords p tag s := by cases p <;> rfl

/-- The work of the named command withdrawn and its reply placed, then the reply of the abort. -/
theorem withdrawn_replied {p : Port} {c : Cmd} {o : Outst} {tag : Nat} {s : State} (h : Heard p c s) (htag : c.tag ≠ tag)
    (hfound : findTag (s.port p) tag = some o) (hdone : o.done = false) (cls st detail : Nat) (ws : List Word) :
    let t := finish p c.tag 0 st tag [] (finish p tag cls st detail ws (dropWork p tag (taken p s)))
    Replied p c 0 st tag [] t ∧ Answered p tag o.op cls st detail ws t ∧ t.log = s.log ∧ t.sys.mode = s.sys.mode ∧ t.kiln = s.kiln ∧ t.alloc = s.alloc := by
  have hdrop := dropWork_same p tag (taken p s)
  have hout : ((dropWork p tag (taken p s)).port p).outstanding = ((taken p s).port p).outstanding :=
    congrArg PortState.outstanding (hdrop.port (by decide) (by decide) p)
  have hwaits : Waits p tag o.op (dropWork p tag (taken p s)) := ⟨o, (congrArg _ hout :).trans ((findTag_taken p tag s).trans hfound), hdone, rfl⟩
  have hun : Unanswered p c (finish p tag cls st detail ws (dropWork p tag (taken p s))) := finish_unanswered (h.taken.of_outstanding hout) htag _ _ _ _
  have hsame : SameBut [.host, .maint, .sys, .time, .solv, .dpc, .loop, .dpx, .cfg, .free] s
      (finish p c.tag 0 st tag [] (finish p tag cls st detail ws (dropWork p tag (taken p s)))) :=
    ((((taken_same p s).mono rfl).step hdrop rfl).step (finish_same _ _ _ _ _ _ _) rfl).step (finish_same _ _ _ _ _ _ _) rfl
  refine ⟨finish_replied hun 0 st tag [], ?_, hsame .log (by decide), (hsame .mode (by decide)).1, hsame .kiln (by decide), hsame .alloc (by decide)⟩
  rw [Answered, finish_store hun]
  exact List.mem_append_left _ (finish_answered hwaits _ _ _ _)

section
variable {p : Port} {c : Cmd} {s : State} (h : Heard p c s) (ho : c.op = .sysAbort)
include h ho

/-- No long command of the tag is outstanding. -/
theorem steps_sysAbort_notFound (hfound : findTag (s.port p) (fld (wd c.words 0) 7 0) = none) :
    Steps (.sysAbort p) s (finish p c.tag 0 0xF022 (fld (wd c.words 0) 7 0) [] (taken p s)) := by
  have hstep := steps_of_heard (i := .sysAbort p) rfl h ho
  simp only [findTag_taken, hfound, Option.filter_none] at hstep
  exact hstep

variable {o : Outst} (hfound : findTag (s.port p) (fld (wd c.words 0) 7 0) = some o) (hlong : (opInfo o.op).long = true) (hdone : o.done = false)
include hfound hlong hdone

theorem steps_sysAbort_committed (hcommitted : o.committed = true) :
    Steps (.sysAbort p) s (finish p c.tag 0 0xF021 (fld (wd c.words 0) 7 0) [] (taken p s)) := by
  have hstep := steps_of_heard (i := .sysAbort p) rfl h ho
  simp only [findTag_taken, hfound, Option.filter_some, hlong, hdone, Bool.not_false, Bool.and_self, if_true, hcommitted] at hstep
  exact hstep

/-- Short of its commit point the command is withdrawn. -/
theorem steps_sysAbort_withdrawn (hcommitted : o.committed = false) (hable : notAbortable p o s = false)
    (hcfg : isCommit p (fld (wd c.words 0) 7 0) s = false) : Steps (.sysAbort p) s (finish p c.tag 0 0xF020 (fld (wd c.words 0) 7 0) []
      (finish p (fld (wd c.words 0) 7 0) 3 0xF020 (fld (wd c.words 0) 7 0) (ticketWords p (fld (wd c.words 0) 7 0) s)
        (dropWork p (fld (wd c.words 0) 7 0) (taken p s)))) := by
  have hstep := steps_of_heard (i := .sysAbort p) rfl h ho
  simp only [findTag_taken, hfound, Option.filter_some, hlong, hdone, Bool.not_false, Bool.and_self, if_true, hcommitted, notAbortable_taken, hable,
    Bool.false_eq_true, if_false, abortOne, isCommit_taken, hcfg, ticketWords_taken] at hstep
  exact hstep

end

end Sys2Proof.Machine

open Sys2Proof Sys2Proof.Machine

/-- Settles O15: each command's answer from the state on which its packet is taken. -/
theorem systemCommandsSetTheModeTheBudgetAndAbort : Obligations.SystemCommandsSetTheModeTheBudgetAndAbort := by
  unfold Obligations.SystemCommandsSetTheModeTheBudgetAndAbort
  refine ⟨?refused, ?begun, ?transfer, ?wake, ?notFound, ?committed, ?withdrawn, ?identity⟩
  case refused =>
    intro p c m s h ho hm hr
    have hwait := pending_taken_same p c (changeMs s m) s
    obtain ⟨hreply, hsame⟩ := pending_reject h (changeMs s m) 0x0110 (modeRefusal s m (bit (wd c.words 0) 8))
    obtain ⟨hmode, hown⟩ := hsame .mode (by decide)
    refine ⟨_, steps_sysSetMode_refused h ho hm hr, hreply, hsame, hmode, hown, ?_⟩
    rw [reject_sys_modeReq, show (pending p c (changeMs s m) (taken p s)).sys = s.sys from hwait .sys (by decide)]
  case begun =>
    intro p c m s h ho hm hr hnot
    have hvia : viaPartner s = false := by simpa [viaPartner, Decidable.imp_iff_not_or, or_assoc] using hnot
    have hms : changeMs s m = cdiv (changeUs s m + 10000) 1000 := if_neg (by rw [hvia]; decide)
    have hwait := pending_taken_same p c (changeMs s m) s
    have hsys : (pending p c (changeMs s m) (taken p s)).sys = s.sys := hwait .sys (by decide)
    refine ⟨_, steps_sysSetMode_begun h ho hm hr hvia, hms ▸ (pending_taken_accepted h (changeMs s m)).of_port (State.onSys_port _ _ _),
      (hwait.mono rfl).onSysMode _ rfl fun _ => ⟨rfl, rfl⟩, ?_, ?_, rfl⟩
    · rw [State.onSys_sys, hsys]
    · rw [State.onSys_sys, hsys]
  case transfer =>
    intro p c m s h ho hm hr hcontrol hduplex hready
    have hvia : viaPartner s = true := by simp [viaPartner, hcontrol, hduplex, hready]
    exact ⟨_, steps_sysSetMode_transfer h ho hm hr hvia, (pending_taken_accepted h 40).of_port (State.onDpx_port _ _ _),
      ((pending_taken_same p c 40 s).mono rfl).onDpx _ rfl, rfl, rfl, rfl⟩
  case wake =>
    intro p c s h ho
    refine ⟨_, steps_of_heard rfl h ho, ok_replied (h.taken.of_outstanding ?_) 0 [],
      (((taken_same p s).mono rfl).step (setBudget_same _ _) rfl).step (ok_same _ _ _ _ _) rfl, ?_⟩
    · exact congrArg PortState.outstanding ((setBudget_same _ _).port (by decide) (by decide) p)
    · rw [ok_hp, setBudget_hp, show (taken p s).hp = s.hp from taken_same p s .hp (by decide)]
  case notFound =>
    intro p c s h ho hfound
    obtain ⟨hstore, -, -, hsame⟩ := finish_answersOnly h 0 0xF022 (fld (wd c.words 0) 7 0) []
    exact ⟨_, steps_sysAbort_notFound h ho hfound, ⟨_, hstore⟩, hsame⟩
  case committed =>
    intro p c o s h ho hfound hlong hdone hcommitted
    obtain ⟨hstore, -, -, hsame⟩ := finish_answersOnly h 0 0xF021 (fld (wd c.words 0) 7 0) []
    exact ⟨_, steps_sysAbort_committed h ho hfound hlong hdone hcommitted, ⟨_, hstore⟩, hsame⟩
  case withdrawn =>
    intro p c o s h ho hfound hlong hdone hcommitted hable hcfg
    exact ⟨_, steps_sysAbort_withdrawn h ho hfound hlong hdone hcommitted hable hcfg,
      withdrawn_replied h (abort_names_other h ho hfound hlong) hfound hdone _ _ _ _⟩
  case identity =>
    intro p c i s h ho hrun
    have hstep := steps_of_heard (i := .sysGetId p) rfl h ho
    simp only [taken_sys, hrun] at hstep
    obtain ⟨hstore, -, -, hsame⟩ := ok_answersOnly h 0 ([hpId] ++ w64 Config.serial.toNat ++ [Config.fwVersion i,
      pk [(Config.mirrorVer.toNat, 16), (Config.cfgFormat.toNat, 8), (i.val, 0)], ofN (s.sys.images[i]).gen, ofN (Config.baseWeek i).toNat])
    exact ⟨_, hstep, hsame, ⟨_, hstore⟩⟩
end

section

/-! The transfer of replies, the report of lost packets and the handle time-out (R36, R51, R59, R408). -/

namespace Sys2Proof.Machine

/-- The packet at the head of a reply store leaves it, and the tag of a final reply frees (R49). -/
def moved (k : Pkt) (rest : List Pkt) (rspq : List Word) (q : PortState) : PortState :=
  { q with
    store := rest, rspq := rspq
    outstanding := if k.frees then q.outstanding.filter fun o => o.tag != fld (k.words.headD 0) 15 8 else q.outstanding }

section
variable {k : Pkt} {rest : List Pkt} {s : State}

/-- A packet that fits moves whole behind the words of HP_RSPQ; the first one raises EV0. -/
theorem steps_replyTransfer_fits (hstore : s.host.store = k :: rest) (hfits : s.host.rspq.length + k.words.length ≤ 1024) :
    Steps (.replyTransfer .host) s (if s.host.rspq.isEmpty then raise 0 0 (s.onHost (moved k rest (s.host.rspq ++ k.words)))
      else s.onHost (moved k rest (s.host.rspq ++ k.words))) := by
  change Host.Outcome.next (transferHost s) = _
  unfold transferHost
  rw [hstore]
  exact congrArg _ (if_pos hfits)

theorem steps_replyTransfer_full (hstore : s.host.store = k :: rest) (hfull : 1024 < s.host.rspq.length + k.words.length) :
    Steps (.replyTransfer .host) s s := by
  change Host.Outcome.next (transferHost s) = _
  unfold transferHost
  rw [hstore]
  exact congrArg _ (if_neg hfull.not_ge)

/-- With the maintenance port off its packet waits in the words on their way. -/
theorem steps_replyTransfer_maint (hstore : s.maint.store = k :: rest) (hidle : s.maint.rspq = []) (hoff : maintOn s = false) :
    Steps (.replyTransfer .maint) s ((s.onMaint (moved k rest k.words)).onMnt fun m => { m with txLeft := 0 }) := by
  change Host.Outcome.next (if maintOn s then maintNext (maintLoad s) else maintLoad s) = _
  rw [hoff, maintLoad, hstore, hidle]
  rfl

/-- The queue and the tags after a transfer are those of the moved packet, whether or not EV0 was raised; a notice may follow in the store. -/
theorem transfer_port (n : Fin 128) (d : Nat) (raised : Bool) (u : State) : ∃ more, ((if raised then raise n d u else u).host).store = u.host.store ++ more ∧
    kept (if raised then raise n d u else u).host = kept u.host := by
  cases raised with
  | true =>
    obtain ⟨more, hmore⟩ := raise_grows n d .host u
    exact ⟨more, hmore, raise_kept n d .host u⟩
  | false => exact ⟨[], (List.append_nil _).symm, rfl⟩

end

/-! UNSOL_LOST (R408). -/

theorem steps_unsolLost {p : Port} {s : State} (hlost : (s.port p).lost ≠ 0) (hroom : 5 ≤ storeRoom (s.port p)) :
    Steps (.unsolLost p) s (raise 15 (portNum p * 256 + satN 255 (s.port p).lost) (s.onPort p fun q => { q with lost := 0 })) := by
  refine congrArg Host.Outcome.next (if_neg ?_)
  simp [hlost, hroom]

/-! BULK_HANDLE_TIMEOUT (R59). -/

theorem steps_bulkHandleTimeout {h : Fin 4} {x : Handle} {s : State} (hx : s.bulk[h] = some x) :
    Steps (.bulkHandleTimeout h) s ((advanceTo (x.last + 10 * secTicks) s).onBulk fun b => b.set h none) := by
  change execBulkHandleTimeout h s = _
  unfold execBulkHandleTimeout
  rw [hx]

end Sys2Proof.Machine

open Sys2Proof Sys2Proof.Machine

/-- Settles O11: the moved packet with the notice that EV0 may add, the report of what was lost, and the handle closed at its time. -/
theorem repliesMoveWholeIntoTheReplyQueue : Obligations.RepliesMoveWholeIntoTheReplyQueue := by
  unfold Obligations.RepliesMoveWholeIntoTheReplyQueue
  refine ⟨?fits, ?full, ?maint, ?lost, ?timeout⟩
  case fits =>
    intro k rest s hstore hfits
    obtain ⟨more, hmore, hkept⟩ := transfer_port 0 0 s.host.rspq.isEmpty (s.onHost (moved k rest (s.host.rspq ++ k.words)))
    refine ⟨_, more, steps_replyTransfer_fits hstore hfits, (kept_rspq hkept :), hmore, (kept_outstanding hkept :), fun hempty hr => ?_⟩
    rw [hempty]
    exact raise_occurred 0 hr (by decide) rfl
  case full => exact fun k rest s hstore hfull => steps_replyTransfer_full hstore hfull
  case maint =>
    intro k rest s hstore hidle hoff
    exact ⟨_, steps_replyTransfer_maint hstore hidle hoff, ((SameBut.refl _ s).onMaint _ rfl).onMnt _ rfl, rfl, rfl⟩
  case lost =>
    intro p s hr hlost hroom
    have hev : (s.onPort p fun q => { q with lost := 0 }).ev = s.ev := State.onPort_ev _ _ _
    have hhp : (s.onPort p fun q => { q with lost := 0 }).hp = s.hp := State.onPort_hp _ _ _
    refine ⟨_, steps_unsolLost hlost hroom, raise_occurred _ (by rw [hhp]; exact hr) (by decide) (by rw [hev]), raise_eventsBut _ (by rw [hev]), ?_⟩
    intro hhost hmaint hhost' hmaint'
    rw [← hev] at hhost hmaint hhost' hmaint'
    rw [raise_quiet _ p hhost hmaint hhost' hmaint' (by decide), onPort_port]
  case timeout =>
    intro h x s hx
    refine ⟨_, steps_bulkHandleTimeout hx, ((advanceTo_same _ s).mono rfl).onBulk _ rfl, ?_, fun j hj => ?_, fun hrun hmt hb => advanceTo_reaches hrun hb hmt⟩
    · simp
    · simp [Vector.getElem_set_ne, Fin.val_ne_of_ne hj.symm]
end

section

/-! The causes of a warm reset (3.4, R38, R80, R81, R83). -/

namespace Sys2Proof.Machine

/-! The recorder's ring: records and events queue records, and program none. -/

/-- The ring is as before. -/
def RingKept (s t : State) : Prop := t.log.ring = s.log.ring

theorem takeToken_ring {c : Nat} {s t : State} (h : takeToken c s = some t) : RingKept s t := by
  unfold takeToken at h
  split at h
  · cases h; rfl
  · revert h
    extract_lets full tokens
    intro h
    split at h
    · cases h; rfl
    · cases h

theorem enqueueRec_ring (r : Rec) (s : State) : RingKept s (enqueueRec r s).1 := by
  unfold enqueueRec
  split <;> rfl

theorem limitRec_ring (r : Rec) (s : State) : RingKept s (limitRec r s).1 := by
  unfold limitRec
  split
  · split
    · rename_i u hu
      exact (enqueueRec_ring r u).trans (takeToken_ring hu)
    · rfl
  · exact enqueueRec_ring r s

theorem newRec_ring (code source sev : Nat) (fwd : Bool) (b : List Byte) (s : State) : RingKept s (newRec code source sev fwd b s).1 := by
  unfold newRec
  split
  · rfl
  · split
    · simp only [RingKept, State.onLog_log]
      split <;> rfl
    · exact limitRec_ring _ s

theorem occur_ring (n : Fin 128) (d mt : Nat) (s : State) : RingKept s (occur n d mt s) := by
  unfold occur
  extract_lets src u v
  have hv : RingKept s v := by
    simp only [v]
    split
    · exact newRec_ring _ _ _ _ _ u
    · rfl
  split
  · split
    · exact (congrArg LogState.ring (notices_log n d mt v)).trans hv
    · exact hv
  · exact hv

theorem overflow_ring (a b : State) : RingKept b (overflow a b) := by
  unfold overflow
  split
  · exact occur_ring _ _ _ b
  · rfl

theorem record_ring (code source sev : Nat) (b : List Byte) (s : State) : RingKept s (record code source sev b s) :=
  (overflow_ring _ _).trans (newRec_ring code source sev false b s)

theorem raise_ring (n : Fin 128) (d : Nat) (s : State) : RingKept s (raise n d s) := by
  unfold raise raiseAt
  split
  · exact (overflow_ring _ _).trans (occur_ring n d _ s)
  · rfl

/-! What a warm reset carries over (R80, R83). -/

/-- What a warm reset takes over from the state is the same: flash, navigation store, Kiln, ring, Ember and tap. -/
structure ResetKept (s t : State) : Prop where
  images : t.sys.images = s.sys.images
  bank : t.cfg.bank = s.cfg.bank
  gnss : t.gnss = s.gnss
  kiln : t.kiln.st = s.kiln.st
  ring : t.log.ring = s.log.ring
  alarm : t.time.alarm = s.time.alarm
  emb : t.time.emb = s.time.emb
  run : t.time.mtRun = s.time.mtRun
  tap : t.tap = s.tap

theorem ResetKept.refl (s : State) : ResetKept s s := ⟨rfl, rfl, rfl, rfl, rfl, rfl, rfl, rfl, rfl⟩

theorem ResetKept.trans {s t u : State} (h : ResetKept s t) (k : ResetKept t u) : ResetKept s u :=
  ⟨k.images.trans h.images, k.bank.trans h.bank, k.gnss.trans h.gnss, k.kiln.trans h.kiln, k.ring.trans h.ring, k.alarm.trans h.alarm, k.emb.trans h.emb,
    k.run.trans h.run, k.tap.trans h.tap⟩

/-- Records and events carry it all over. -/
theorem ResetKept.of_log {s t : State} (h : SameBut [.host, .maint, .ev, .log] s t) (hring : RingKept s t) : ResetKept s t where
  images := congrArg SysState.images (h .sys (by decide))
  bank := congrArg CfgState.bank (h .cfg (by decide))
  gnss := h .gnss (by decide)
  kiln := congrArg KilnState.st (h .kiln (by decide))
  ring := hring
  alarm := congrArg TimeState.alarm (h .time (by decide))
  emb := congrArg TimeState.emb (h .time (by decide))
  run := congrArg TimeState.mtRun (h .time (by decide))
  tap := h .tap (by decide)

theorem advance_resetKept (n : Nat) (s : State) : ResetKept s (advance n s) := ⟨rfl, rfl, rfl, rfl, rfl, rfl, rfl, rfl, rfl⟩

/-- A reset begun on what the state carries over is begun on the state. -/
theorem ResetBegun.of_kept {cause : RstCause} {s u t : State} (h : ResetBegun cause u t) (k : ResetKept s u) : ResetBegun cause s t := by
  obtain ⟨himages, hbank, hgnss, hkiln, hring, halarm, hemb, hrun, htap⟩ := k
  unfold ResetBegun at h ⊢
  rw [himages, hbank, hgnss, hkiln, hring, halarm, hemb, hrun, htap] at h
  exact h

/-! The reset itself. -/

/-- The count of early watchdog resets touches no more than the choice of the image. -/
theorem countEarly_eq (cause : RstCause) (s : State) :
    ∃ n choice fb, countEarly cause s = s.onSys fun y => { y with earlyWd := n, choice := choice, fbPending := fb } := by
  unfold countEarly
  split
  · split
    · extract_lets n
      split
      · exact ⟨_, _, _, rfl⟩
      · exact ⟨_, _, _, rfl⟩
    · exact ⟨_, _, _, rfl⟩
  · exact ⟨_, _, _, rfl⟩

/-- A warm reset of its own on the state whose MODE_CHANGE is recorded. -/
def freshReset (cause : RstCause) (s : State) : State :=
  ((resetDies (countEarly cause s)).onHp fun h => { h with rstCause := cause }).onSys fun y =>
    { y with warmPending := true, warmBeforeStep7 := true, step4At := nextBoundary s.time.mt, resetMt := s.time.mt, furtherCauses := 0 }

/-- The MODE_CHANGE record of a reset out of another mode than KINDLING (R457). -/
def resetRecorded (cause : RstCause) (s : State) : State :=
  if s.sys.mode = .kindling then s
  else record 0x0105 0x82 1 ([BitVec.ofNat 8 (modeCode s.sys.mode), BitVec.ofNat 8 (modeCode .kindling), BitVec.ofNat 8 (causeCode cause), 5] ++
    leBytes 4 (frameOf s.time.mt) ++ [0, 0]) s

theorem resetRecorded_same (cause : RstCause) (s : State) : SameBut [.host, .maint, .ev, .log] s (resetRecorded cause s) := by
  unfold resetRecorded
  split
  · exact SameBut.refl _ s
  · exact record_same _ _ _ _ s

theorem resetRecorded_kept (cause : RstCause) (s : State) : ResetKept s (resetRecorded cause s) := by
  refine .of_log (resetRecorded_same cause s) ?_
  unfold resetRecorded
  split
  · rfl
  · exact record_ring _ _ _ _ s

theorem beginReset_fresh {cause : RstCause} {s : State} (hv : s.sys.vmain = true) (hw : withinReset s = false) :
    beginReset cause s = freshReset cause (resetRecorded cause s) := by
  have htime : (resetRecorded cause s).time = s.time := resetRecorded_same cause s .time (by decide)
  unfold beginReset freshReset
  simp only [hv, hw, htime, Bool.not_true, Bool.false_eq_true, if_false]
  rfl

/-- The dies stand as after State.reset but for what the reset carries over. -/
theorem freshReset_begun (cause : RstCause) (s : State) : ResetBegun cause s (freshReset cause s) := by
  obtain ⟨n, choice, fb, hearly⟩ := countEarly_eq cause s
  unfold ResetBegun freshReset
  rw [hearly]
  and_intros <;> rfl

section
variable {cause : RstCause} {s : State} (hv : s.sys.vmain = true)
include hv

theorem beginReset_begun (hw : withinReset s = false) : ResetBegun cause s (beginReset cause s) := by
  rw [beginReset_fresh hv hw]
  exact (freshReset_begun cause _).of_kept (resetRecorded_kept cause s)

/-- Module time and the Kiln run on. -/
theorem beginReset_runs (hw : withinReset s = false) :
    (beginReset cause s).time = keptTime s.time ∧ (beginReset cause s).kiln = keptKiln s.kiln := by
  obtain ⟨n, choice, fb, hearly⟩ := countEarly_eq cause (resetRecorded cause s)
  have hsame := resetRecorded_same cause s
  rw [beginReset_fresh hv hw, freshReset, hearly]
  exact ⟨congrArg keptTime (hsame .time (by decide)), congrArg keptKiln (hsame .kiln (by decide))⟩

/-- A further cause within a reset resets the dies again and is noted beside the first. -/
def furtherReset (cause : RstCause) (s : State) : State :=
  ((resetDies (countEarly cause s)).onHp fun h => { h with rstCause := s.hp.rstCause }).onSys fun y =>
    { y with furtherCauses := y.furtherCauses ||| 2 ^ causeCode cause, warmPending := true, step4At := nextBoundary s.time.mt }

theorem beginReset_within (hw : withinReset s = true) : beginReset cause s = furtherReset cause s := by
  unfold beginReset
  simp only [hv, hw, Bool.not_true, Bool.false_eq_true, if_false, if_true]
  rfl

end

/-- What the dies and the notes of a start are after a further cause. -/
structure ResetAgain (cause : RstCause) (s t : State) : Prop where
  hp : t.hp = { rstCause := s.hp.rstCause }
  pending : t.sys.warmPending = true
  causes : t.sys.furtherCauses = s.sys.furtherCauses ||| 2 ^ causeCode cause
  cold : t.sys.coldBeforeStep7 = s.sys.coldBeforeStep7
  warm : t.sys.warmBeforeStep7 = s.sys.warmBeforeStep7
  low : t.sys.rstLow = s.sys.rstLow
  mode : t.sys.mode = .kindling
  step4 : t.sys.step4At = nextBoundary t.time.mt
  mt : t.time.mt = s.time.mt
  host : t.host = State.reset.host
  maint : t.maint = State.reset.maint
  bank : t.cfg = { bank := s.cfg.bank }
  kiln : t.kiln.ch = s.kiln.ch

theorem furtherReset_again (cause : RstCause) (s : State) : ResetAgain cause s (furtherReset cause s) := by
  obtain ⟨n, choice, fb, hearly⟩ := countEarly_eq cause s
  rw [furtherReset, hearly]
  constructor <;> rfl

/-! The causes (Table 3-6). -/

theorem taken_resetKept (p : Port) (s : State) : ResetKept s (taken p s) := by
  cases p <;> exact ⟨rfl, rfl, rfl, rfl, rfl, rfl, rfl, rfl, rfl⟩

theorem steps_sysReset {p : Port} {c : Cmd} {s : State} (h : Heard p c s) (ho : c.op = .sysReset) :
    Steps (.sysReset p) s (beginReset .sysReset (taken p s)) := steps_of_body rfl h ho rfl

/-- RST_N low. -/
def heldLow (s : State) : State := s.onSys fun y => { y with rstLow := true }

theorem steps_rstN_held {n : Nat} {s : State} (hn : 1000 ≤ n) (hlow : s.sys.rstLow = false) : Steps (.rstNAssert n) s (beginReset .rstN (heldLow s)) := by
  refine congrArg Host.Outcome.next ((if_neg ?_).trans (if_neg (by omega)))
  simp only [hlow, Bool.or_false, decide_eq_true_eq]
  omega

theorem steps_rstN_short {n : Nat} {s : State} (hn : 200 ≤ n) (hshort : n < 1000) (hlow : s.sys.rstLow = false) :
    Steps (.rstNAssert n) s (if Config.shortRst n s.free then beginReset .rstN (drawn s) else drawn s) := by
  refine congrArg Host.Outcome.next ((if_neg ?_).trans (if_pos hshort))
  simp only [hlow, Bool.or_false, decide_eq_true_eq]
  omega

theorem steps_rstN_ignored {n : Nat} {s : State} (h : n < 200 ∨ s.sys.rstLow = true) : Steps (.rstNAssert n) s s :=
  congrArg Host.Outcome.next (if_pos (by simpa using h))

theorem steps_rstN_release {s : State} (h : s.sys.rstLow = true) : Steps .rstNRelease s
    ((s.onSys fun y => { y with rstLow := false, step4At := nextBoundary s.time.mt }).onTap fun t => { t with extest := false }) :=
  congrArg Host.Outcome.next (if_pos h)

theorem steps_rstN_high {s : State} (h : s.sys.rstLow = false) : Steps .rstNRelease s s :=
  congrArg Host.Outcome.next (if_neg (by rw [h]; decide))

/-- The watchdog resets at once. -/
theorem steps_watchdog_reset {s : State} (hr : s.hp.ready = true) (hdelay : s.sys.wdDelay = none) (hpartner : s.sys.mode ≠ .control ∨ partnerWasReady s = false) :
    Steps .watchdogExpiry s (beginReset .watchdog s) := by
  refine congrArg Host.Outcome.next ((if_neg (by simp [hr, hdelay])).trans (if_neg ?_))
  simpa [Decidable.imp_iff_not_or] using hpartner

/-- In CONTROL with a ready partner it gives up first (R335). -/
theorem steps_watchdog_giveup {s : State} (hr : s.hp.ready = true) (hdelay : s.sys.wdDelay = none) (hmode : s.sys.mode = .control)
    (hpartner : partnerWasReady s = true) : Steps .watchdogExpiry s
      ((s.onDpx fun d => { d with givingUp := true, giveupCode := 7, giveupAt := s.time.mt }).onSys fun y =>
        { y with giveupOut := true, outputsHeld := true, wdDelay := some (s.time.mt + giveTicks) }) :=
  congrArg Host.Outcome.next ((if_neg (by simp [hr, hdelay])).trans (if_pos (by simp [hmode, hpartner])))

theorem steps_watchdog_delayed {n : Nat} {s : State} (h : s.sys.wdDelay = some n) :
    Steps .watchdogResetDelayEnd s (beginReset .watchdog (if s.dpx.ownIn then s else advanceTo n s)) := by
  change execWatchdogResetDelayEnd s = _
  unfold execWatchdogResetDelayEnd
  rw [h]

theorem steps_watchdog_undelayed {s : State} (h : s.sys.wdDelay = none) : Steps .watchdogResetDelayEnd s s := by
  change execWatchdogResetDelayEnd s = _
  unfold execWatchdogResetDelayEnd
  rw [h]

/-! The count of early watchdog resets (R74). -/

section
variable {s : State} {i : Fin 2} (hrun : s.sys.running = some i)
include hrun

/-- Within 10 s of READY it counts, and the second in a row chooses the other image. -/
theorem countEarly_early (hr : s.hp.ready = true) (hearly : s.time.mt < s.sys.readyMt + 10 * secTicks) :
    (countEarly .watchdog s).sys.earlyWd = s.sys.earlyWd + 1 ∧
      (s.sys.earlyWd = 1 → s.sys.choice = none → (countEarly .watchdog s).sys.choice = some (otherImage i)) := by
  have hcount : countEarly .watchdog s = if s.sys.earlyWd + 1 = 2 && s.sys.choice.isNone then
      s.onSys fun y => { y with earlyWd := s.sys.earlyWd + 1, choice := some (otherImage i), fbPending := true }
      else s.onSys fun y => { y with earlyWd := s.sys.earlyWd + 1 } := by
    unfold countEarly
    rw [hrun]
    exact if_pos (by simp [hr, hearly])
  rw [hcount]
  constructor
  · split <;> rfl
  · intro hone hnone
    rw [if_pos (by simp [hone, hnone])]
    rfl

end

/-- After its 10 s an image is not reset early. -/
theorem countEarly_late {s : State} (hlate : s.sys.readyMt + 10 * secTicks ≤ s.time.mt) : (countEarly .watchdog s).sys.earlyWd = 0 := by
  unfold countEarly
  split
  · rw [if_neg (by simp [hlate.not_gt])]
    rfl
  · rfl

section
variable {s : State} (hv : s.sys.vmain = true) (hw : withinReset s = false)
include hv hw

theorem watchdog_early {i : Fin 2} (hrun : s.sys.running = some i) (hr : s.hp.ready = true) (hearly : s.time.mt < s.sys.readyMt + 10 * secTicks) :
    (beginReset .watchdog s).sys.earlyWd = s.sys.earlyWd + 1 ∧
      (s.sys.earlyWd = 1 → s.sys.choice = none → (beginReset .watchdog s).sys.choice = some (otherImage i)) := by
  have hsame := resetRecorded_same .watchdog s
  have hsys : (resetRecorded .watchdog s).sys = s.sys := hsame .sys (by decide)
  have htime : (resetRecorded .watchdog s).time = s.time := hsame .time (by decide)
  have hhp : (resetRecorded .watchdog s).hp = s.hp := hsame .hp (by decide)
  have hcount := countEarly_early (hsys.symm ▸ hrun) (hhp.symm ▸ hr) (by rw [hsys, htime]; exact hearly)
  rw [hsys] at hcount
  rw [beginReset_fresh hv hw]
  exact hcount

theorem watchdog_late (hlate : s.sys.readyMt + 10 * secTicks ≤ s.time.mt) : (beginReset .watchdog s).sys.earlyWd = 0 := by
  have hsame := resetRecorded_same .watchdog s
  have hsys : (resetRecorded .watchdog s).sys = s.sys := hsame .sys (by decide)
  have htime : (resetRecorded .watchdog s).time = s.time := hsame .time (by decide)
  rw [beginReset_fresh hv hw]
  exact countEarly_late (by rw [hsys, htime]; exact hlate)

end

/-! An inconsistent request of the Kiln (R315). -/

/-- The state of the die and the note of an inconsistent request are as before. -/
def DieKept (k l : KilnState) : Prop := l.st = k.st ∧ l.cdBad = k.cdBad

theorem DieKept.refl (k : KilnState) : DieKept k k := ⟨rfl, rfl⟩

theorem DieKept.trans {k l m : KilnState} (h : DieKept k l) (g : DieKept l m) : DieKept k m := ⟨g.1.trans h.1, g.2.trans h.2⟩

theorem DieKept.ite {k l m : KilnState} {P : Prop} [Decidable P] (h : DieKept k l) (g : DieKept k m) : DieKept k (if P then l else m) := by
  split
  · exact h
  · exact g

theorem DieKept.foldl {α : Type} {f : KilnState → α → KilnState} (hf : ∀ k x, DieKept k (f k x)) (xs : List α) (k : KilnState) : DieKept k (xs.foldl f k) := by
  induction xs generalizing k with
  | nil => exact .refl k
  | cons x xs ih => exact (hf k x).trans (ih (f k x))

theorem setCh_kept (n : Fin 8) (st : ChSt) (f : KChan → KChan) (k : KilnState) : DieKept k (setCh n st f k) := ⟨rfl, rfl⟩

theorem kEv_kept (src detail : Nat) (k : KilnState) : DieKept k (kEv src detail k) := ⟨rfl, rfl⟩

theorem evalPair_kept (now : Nat) (k : KilnState) (j : Fin 8) : DieKept k (evalPair now k j) := by
  unfold evalPair
  extract_lets m p
  split
  rename_i d0 d1 _
  extract_lets e0 e1 k1 k2
  have h1 : DieKept k k1 := ⟨rfl, rfl⟩
  have h2 : DieKept k k2 := .ite (h1.trans (kEv_kept _ _ _)) h1
  exact .ite (h2.trans (kEv_kept _ _ _)) h2

theorem evalCh_kept (now : Nat) (k : KilnState) (n : Fin 8) : DieKept k (evalCh now k n) := by
  unfold evalCh
  extract_lets c low cond okR wait k1 k2 release k3
  have h1 : DieKept k k1 := ⟨rfl, rfl⟩
  have h2 : DieKept k k2 := .ite (h1.trans (kEv_kept _ _ _)) h1
  refine .ite (.ite (.refl k) (setCh_kept _ _ _ k)) (.ite (.refl k) ?_)
  split
  · exact .ite h2 (h2.trans (setCh_kept _ _ _ k2))
  · exact .ite h2 ((h2.trans (setCh_kept _ _ _ k2)).trans (kEv_kept _ _ _))
  · exact .ite (h2.trans (setCh_kept _ _ _ k2)) h2
  · exact h2.trans (setCh_kept _ _ _ k2)

theorem evalKiln_kept (now : Nat) (k : KilnState) : DieKept k (evalKiln now k) :=
  (DieKept.foldl (evalPair_kept now) (fins 8) k).trans (DieKept.foldl (evalCh_kept now) (fins 8) _)

/-- The requests of the control die are given up: the channels follow, and a reset is asked for. -/
def cdGivenUp (s : State) : State := kilnStep (fun now k => evalKiln now { k with cdBad := true, resetReq := true }) s

theorem cdGivenUp_same (s : State) : SameBut [.kiln] s (cdGivenUp s) := kilnStep_same _ s

theorem cdGivenUp_kiln (s : State) : (cdGivenUp s).kiln.st = s.kiln.st ∧ (cdGivenUp s).kiln.cdBad = true := by
  have hkept := evalKiln_kept s.time.now { s.kiln with cdBad := true, resetReq := true }
  simp only [cdGivenUp, kilnStep, State.onKiln_kiln]
  split <;> exact hkept

/-- The channels that an inconsistent request affects. -/
def cdMask (s : State) : Nat := maskOf (Vector.ofFn fun n : Fin 8 => kCdGate s.kiln n && kEnable s.kiln n)

/-- The state after 2 ms of disagreement, its event raised and the requests given up. -/
def cdReported (n : Nat) (s : State) : State :=
  cdGivenUp (raise 105 (cdMask (advanceNow (n + 2 * msTicks) s)) (advanceNow (n + 2 * msTicks) s))

theorem steps_cdInconsistent {n : Nat} {s : State} (hsince : s.kiln.cdBadSince = some n) (hbad : s.kiln.cdBad = false) (hon : s.kiln.st ≠ .off) :
    Steps .cdInconsistent s (beginReset .kiln (cdReported n s)) := by
  change execCdInconsistent s = _
  unfold execCdInconsistent
  rw [hsince]
  exact congrArg Host.Outcome.next (if_neg (by simp [hbad, hon]))

theorem steps_cdConsistent {s : State} (h : s.kiln.cdBadSince = none ∨ s.kiln.cdBad = true ∨ s.kiln.st = .off) : Steps .cdInconsistent s s := by
  change execCdInconsistent s = _
  unfold execCdInconsistent
  cases hsince : s.kiln.cdBadSince with
  | none => rfl
  | some n => exact congrArg Host.Outcome.next (if_pos (by simpa [hsince] using h))

theorem cdReported_same (n : Nat) (s : State) : SameBut [.host, .maint, .ev, .time, .kiln, .log] s (cdReported n s) :=
  ((((SameBut.refl _ s).step (advanceNow_same _ s) rfl).step (raise_same _ _ _) rfl).step (cdGivenUp_same _) rfl)

/-- The state at which the reset of the Kiln's request begins carries over what the state had. -/
theorem cdReported_resetKept (n : Nat) (s : State) : ResetKept s (cdReported n s) := by
  have hraised : ResetKept s (raise 105 (cdMask (advanceNow (n + 2 * msTicks) s)) (advanceNow (n + 2 * msTicks) s)) :=
    (advance_resetKept _ s).trans (.of_log (raise_same _ _ _) (raise_ring _ _ _))
  have hlast := cdGivenUp_same (raise 105 (cdMask (advanceNow (n + 2 * msTicks) s)) (advanceNow (n + 2 * msTicks) s))
  exact hraised.trans ⟨congrArg SysState.images (hlast .sys (by decide)), congrArg CfgState.bank (hlast .cfg (by decide)), hlast .gnss (by decide),
    (cdGivenUp_kiln _).1, congrArg LogState.ring (hlast .log (by decide)), congrArg TimeState.alarm (hlast .time (by decide)),
    congrArg TimeState.emb (hlast .time (by decide)), congrArg TimeState.mtRun (hlast .time (by decide)), hlast .tap (by decide)⟩

end Sys2Proof.Machine
end

section

/-! Supplies and Ember (R92, R106, R440), and the confirmation of a running image (R74). -/

namespace Sys2Proof.Machine

theorem steps_vmainLoss {fate : SlotFate} {s : State} (h : s.sys.vmain = true) : Steps (.vmainLoss fate) s (supplyLost fate s) :=
  congrArg Host.Outcome.next (if_pos h)

theorem steps_vmainLoss_absent {fate : SlotFate} {s : State} (h : s.sys.vmain = false) : Steps (.vmainLoss fate) s s :=
  congrArg Host.Outcome.next (if_neg (by rw [h]; decide))

/-- A slot whose programming had not begun stays as it was. -/
theorem supplyLost_ring (s : State) : (supplyLost .unwritten s).log.ring = s.log.ring := by
  change (cutSlot .unwritten s).ring = s.log.ring
  unfold cutSlot
  split <;> rfl

theorem steps_emberContentLoss {s : State} (h : s.sys.vmain = false) :
    Steps .emberContentLoss s (s.onTime fun t => { t with emberLost := true, load := none }) :=
  congrArg Host.Outcome.next (if_neg (by rw [h]; decide))

theorem steps_emberContentLoss_powered {s : State} (h : s.sys.vmain = true) : Steps .emberContentLoss s s :=
  congrArg Host.Outcome.next (if_pos h)

theorem steps_fwRunConfirm {s : State} (hr : s.hp.ready = true) (hrun : s.sys.running ≠ none) : Steps .fwRunConfirm s
    ((advanceTo (s.sys.readyMt + 10 * secTicks) s).onSys fun y => { y with earlyWd := 0 }) :=
  congrArg Host.Outcome.next (if_pos (by simp [hr, Option.isSome_iff_ne_none, hrun]))

theorem steps_fwRunConfirm_idle {s : State} (h : s.hp.ready = false ∨ s.sys.running = none) : Steps .fwRunConfirm s s := by
  refine congrArg Host.Outcome.next (if_neg ?_)
  rcases h with h | h <;> simp [h]

/-! Ember at a main power-on (R92). -/

/-- The power cycles counted, from 0 again where Ember lost its contents. -/
theorem emberStart_pwrCyc (t : TimeState) : (emberStart t).pwrCyc = ((if t.emberLost then 0 else t.pwrCyc) + 1) % 2 ^ 32 := by
  unfold emberStart
  split <;> rfl

theorem emberStart_emberLost (t : TimeState) : (emberStart t).emberLost = false := by
  unfold emberStart
  split
  · rfl
  · rename_i h
    exact Bool.eq_false_iff.2 h

theorem emberStart_emb (t : TimeState) : (emberStart t).emb = if t.emberLost then Vector.replicate 16 0 else t.emb := by
  unfold emberStart
  split <;> rfl

/-- VMAIN has risen and MT starts at 0 (steps 1 to 3). -/
def poweredOn (k : StartIn) (s : State) : State :=
  let s := s.onSys fun y => { y with vmain := true, pref := k.pref, earlyWd := 0, choice := none, tcxoFailed := false, coldBeforeStep7 := true }
  let s := ((s.onHost fun _ => {}).onMaint fun _ => {}).onBulk fun _ => Vector.replicate 4 none
  let s := s.onTime fun t => { emberStart t with mtRun := false }
  (advance 1200000 s).onTime fun t => { t with mt := 0, mtRun := true }

theorem steps_mainPowerOn_held {k : StartIn} {s : State} (hv : s.sys.vmain = false) (hlow : s.sys.rstLow = true) :
    Steps (.mainPowerOn k) s ((poweredOn k s).onSys fun y => { y with warmPending := true }) :=
  congrArg Host.Outcome.next ((if_neg (by simp [hv])).trans (if_pos hlow))

theorem steps_mainPowerOn {k : StartIn} {s : State} (hv : s.sys.vmain = false) (hlow : s.sys.rstLow = false) :
    Steps (.mainPowerOn k) s (startFrom4 k false (advanceTo 300000 (poweredOn k s))) :=
  congrArg Host.Outcome.next ((if_neg (by simp [hv])).trans (if_neg (by change ¬ s.sys.rstLow = true; rw [hlow]; decide)))

theorem steps_mainPowerOn_on {k : StartIn} {s : State} (hv : s.sys.vmain = true) (hr : s.hp.ready = true) : Steps (.mainPowerOn k) s s :=
  congrArg Host.Outcome.next (if_pos (by simp [hv, hr]))

theorem steps_warmResetStart {k : StartIn} {s : State} (hv : s.sys.vmain = true) (hpending : s.sys.warmPending = true) (hlow : s.sys.rstLow = false) :
    Steps (.warmResetStart k) s (startFrom4 k (!s.sys.coldBeforeStep7) (advanceTo s.sys.step4At s)) :=
  congrArg Host.Outcome.next (if_pos (by simp [hv, hpending, hlow]))

theorem steps_warmResetStart_none {k : StartIn} {s : State} (h : s.sys.vmain = false ∨ s.sys.warmPending = false ∨ s.sys.rstLow = true) :
    Steps (.warmResetStart k) s s := by
  refine congrArg Host.Outcome.next (if_neg ?_)
  rcases h with h | h | h <;> simp [h]

end Sys2Proof.Machine
end

section

/-! A change of mode (3.1): what it sets, which events it raises, and what of the module's start it leaves. -/

namespace Sys2Proof.Machine

/-- sys without what replies, self-diagnosis, power gating, frames and changes of mode write. -/
def startKept (y : SysState) : SysState :=
  { y with
    mode := .kindling, own := false, giveupOut := false, release := true, modeReq := none, outputsHeld := false, diagFirst := 0, diagSeen := []
    frame := 0, dom := Vector.replicate 12 .off, exiting := Vector.replicate 12 false, lastActive := 0, fbPending := false }

/-- The rest of sys is as before. -/
def SysCarried (s t : State) : Prop := startKept t.sys = startKept s.sys

theorem SysCarried.refl (s : State) : SysCarried s s := rfl

theorem SysCarried.trans {s t u : State} (h : SysCarried s t) (k : SysCarried t u) : SysCarried s u := Eq.trans k h

theorem SysCarried.of_sys {s t : State} (h : t.sys = s.sys) : SysCarried s t := congrArg startKept h

theorem SysCarried.of_same {l : List Part} {s t : State} (h : SameBut l s t) (hl : Part.sys ∉ l) : SysCarried s t := .of_sys (h .sys hl)

/-- A field that is not blanked is as before. -/
theorem SysCarried.field {α : Type} {s t : State} (h : SysCarried s t) (g : SysState → α) (hg : ∀ y, g (startKept y) = g y) : g t.sys = g s.sys := by
  rw [← hg t.sys, ← hg s.sys, h]

/-- Replies and self-diagnosis write only what a start does not keep. -/
theorem SysCarried.of_diagKept {s t : State} (h : diagKept t.sys = diagKept s.sys) : SysCarried s t :=
  (congrArg startKept h : startKept (diagKept t.sys) = startKept (diagKept s.sys))

theorem SysCarried.ite {s t u : State} {P : Prop} [Decidable P] (h : SysCarried s t) (k : SysCarried s u) : SysCarried s (if P then t else u) := by
  split
  · exact h
  · exact k

theorem SysCarried.foldl {α : Type} {g : State → α → State} (hg : ∀ w x, SysCarried w (g w x)) (xs : List α) (s : State) : SysCarried s (xs.foldl g s) := by
  induction xs generalizing s with
  | nil => exact .refl s
  | cons x xs ih => exact (hg s x).trans (ih (g s x))

theorem finish_carried (p : Port) (tag cls st detail : Nat) (ws : List Word) (s : State) : SysCarried s (finish p tag cls st detail ws s) :=
  .of_diagKept (finish_diagKept _ _ _ _ _ _ _)

theorem raise_carried (n : Fin 128) (d : Nat) (s : State) : SysCarried s (raise n d s) := .of_same (raise_same n d s) (by decide)

theorem selfDiag_carried (code : Nat) (s : State) : SysCarried s (selfDiag code s) := by
  by_cases h : code ∈ s.sys.diagSeen
  · rw [selfDiag_of_seen h]; exact .refl s
  · exact .trans (t := diagMark code s) rfl (.of_diagKept (selfDiag_diagKept h))

theorem onSys_carried {f : SysState → SysState} (hf : ∀ y, startKept (f y) = startKept y) (s : State) : SysCarried s (s.onSys f) := hf s.sys

/-! Leaving and entering a mode. -/

theorem follyEnd_carried (cause : Nat) (s : State) : SysCarried s (follyEnd cause s) := by
  unfold follyEnd
  split
  · exact .refl s
  · extract_lets u
    have hu : SysCarried s u := rfl
    exact hu.trans (.trans (.ite (finish_carried _ _ _ _ _ _ _) (finish_carried _ _ _ _ _ _ _)) (raise_carried _ _ _))

theorem leaveMode_carried (s : State) : SysCarried s (leaveMode s) :=
  .ite ((follyEnd_carried 2 s).trans (.of_same (kilnUnstage_same _) (by decide))) (.refl s)

theorem stopProf_carried (st detail pc : Nat) (s : State) : SysCarried s (stopProf st detail pc s) := by
  unfold stopProf
  extract_lets p fin u v
  have hfin : ∀ c w, SysCarried w (fin c w) := by
    intro c w
    simp only [fin]
    split
    · exact finish_carried _ _ _ _ _ _ _
    · exact .refl w
  have hu : SysCarried s u := (((hfin _ s).trans (hfin _ _)).trans (hfin _ _))
  exact .trans (hu.trans (.ite (raise_carried _ _ _) (.refl u))) (.of_same (onProf_same _ _ _) (by decide))

theorem stopProfs_carried (st detail : Nat) (s : State) : SysCarried s (stopProfs st detail s) := by
  unfold stopProfs
  apply SysCarried.foldl
  intro w pc
  split
  · exact stopProf_carried st detail pc w
  · exact .refl w

theorem releaseOutputs_carried (s : State) : SysCarried s (releaseOutputs s) := by
  unfold releaseOutputs
  extract_lets u v
  have hu : SysCarried s u := stopProfs_carried _ _ s
  have hv : SysCarried u v := .of_sys (State.onLoop_sys _ _)
  clear_value v
  exact (hu.trans hv).trans (onSys_carried (fun _ => rfl) v)

theorem openEngines_carried (s : State) : SysCarried s (openEngines s) := by
  unfold openEngines
  extract_lets u
  have hu : SysCarried s u := .of_sys (State.onLoop_sys _ _)
  exact hu.trans (onSys_carried (fun _ => rfl) u)

theorem endHost_carried (t : Ticket) (st detail : Nat) (s : State) : SysCarried s (endHost t st detail s) := by
  refine SysCarried.trans ?_ (.of_same (serve_same _) (by decide))
  refine SysCarried.trans ?_ (.of_same (dropTicket_same _ _) (by decide))
  refine SysCarried.trans ?_ (finish_carried _ _ _ _ _ _ _)
  exact .trans (.of_same (charge_same s) (by decide)) (.of_same (commit_same _ _ _) (by decide))

theorem withdrawHost_carried (s : State) : SysCarried s (withdrawHost s) := by
  unfold withdrawHost
  exact SysCarried.foldl (fun w t => .ite (.ite (.of_same (dropTicket_same _ w) (by decide)) (endHost_carried t _ _ w)) (.refl w)) _ s

theorem noFunction_carried (s : State) : SysCarried s (noFunction s) := .of_same (noFunction_same s) (by decide)

theorem enterMode_carried (old m : Mode) (s : State) : SysCarried s (enterMode old m s) := by
  have hrelease := (releaseOutputs_carried s).trans (noFunction_carried _)
  unfold enterMode
  split
  · exact hrelease
  · exact hrelease
  · exact openEngines_carried s
  · exact hrelease.trans (.of_same (shadowEngines_same _) (by decide))
  · exact .ite (.refl s) (((noFunction_carried s).trans (openEngines_carried _)).trans (.of_sys (State.onAlloc_sys _ _)))
  · exact withdrawHost_carried s

/-! The events of leaving and entering: EV68 of Folly, EV70 of profiles. -/

/-- The sources that leaving and entering a mode may raise. -/
def changeEvents : List (Fin 128) := [68, 70, 120]

theorem EventsBut.of_ite {l : List (Fin 128)} {s t u : State} {P : Prop} [Decidable P] (h : EventsBut l s t) (k : EventsBut l s u) :
    EventsBut l s (if P then t else u) := by
  split
  · exact h
  · exact k

theorem finish_events (l : List (Fin 128)) (p : Port) (tag cls st detail : Nat) (ws : List Word) (s : State) : EventsBut l s (finish p tag cls st detail ws s) :=
  .of_same (finish_same _ _ _ _ _ _ _) (by decide)

theorem follyEnd_events (cause : Nat) (s : State) : EventsBut changeEvents s (follyEnd cause s) := by
  unfold follyEnd
  split
  · exact .refl _ s
  · exact EventsBut.raise (.of_ite (finish_events _ _ _ _ _ _ _ _) (finish_events _ _ _ _ _ _ _ _)) 68 cause (by decide)

theorem leaveMode_events (s : State) : EventsBut changeEvents s (leaveMode s) :=
  .of_ite ((follyEnd_events 2 s).trans (.of_same (kilnUnstage_same _) (by decide))) (.refl _ s)

theorem stopProf_events (st detail pc : Nat) (s : State) : EventsBut changeEvents s (stopProf st detail pc s) := by
  unfold stopProf
  extract_lets p fin u v
  have hfin : ∀ c w, EventsBut changeEvents w (fin c w) := by
    intro c w
    simp only [fin]
    split
    · exact finish_events _ _ _ _ _ _ _ w
    · exact .refl _ w
  have hu : EventsBut changeEvents s u := ((hfin _ s).trans (hfin _ _)).trans (hfin _ _)
  have hv : EventsBut changeEvents s v := .of_ite (hu.raise 70 pc (by decide)) hu
  exact hv.trans (.of_same (onProf_same _ _ _) (by decide))

theorem stopProfs_events (st detail : Nat) (s : State) : EventsBut changeEvents s (stopProfs st detail s) := by
  unfold stopProfs
  apply EventsBut.foldl
  intro w pc
  split
  · exact stopProf_events st detail pc w
  · exact .refl _ w

theorem releaseOutputs_events (s : State) : EventsBut changeEvents s (releaseOutputs s) := by
  unfold releaseOutputs
  extract_lets u v
  have hu : EventsBut changeEvents s u := stopProfs_events _ _ s
  have hv : v.ev = u.ev := State.onLoop_ev _ _
  clear_value v
  exact hu.of_ev ((State.onSys_ev _ _).trans hv)

theorem enterMode_events (old m : Mode) (s : State) : EventsBut changeEvents s (enterMode old m s) := by
  have hrelease : EventsBut changeEvents s (noFunction (releaseOutputs s)) := (releaseOutputs_events s).trans (.of_same (noFunction_same _) (by decide))
  unfold enterMode
  split
  · exact hrelease
  · exact hrelease
  · exact .of_same (openEngines_same s) (by decide)
  · exact hrelease.trans (.of_same (shadowEngines_same _) (by decide))
  · exact .of_ite (.refl _ s) (.of_same (((SameBut.mono (noFunction_same s) rfl : SameBut [.solv, .dpc, .free, .sys, .loop, .alloc] s _).step
      (openEngines_same _) rfl).onAlloc _ rfl) (by decide))
  · exact .of_same (withdrawHost_same s) (by decide)

theorem record_events (code source sev : Nat) (b : List Byte) (s : State) : EventsBut [120] s (record code source sev b s) :=
  overflow_events s _ (newRec_same _ _ _ _ _ s .ev (by decide))

/-! The change itself (R69). -/

/-- The mode and the ownership as set, before the units follow. -/
def modeSet (m : Mode) (s : State) : State :=
  (leaveMode s).onSys fun y => { y with
    mode := m, own := ownsIn m, modeReq := none, outputsHeld := false, lastActive := if m = .dormant then (leaveMode s).time.mt else y.lastActive }

/-- The units have followed; the MODE_CHANGE record and its event are to come. -/
def modeEntered (m : Mode) (s : State) : State :=
  let u := enterMode s.sys.mode m (modeSet m s)
  let v := if (leaveMode s).sys.own != ownsIn m then canOwnerChange u else u
  if (leaveMode s).sys.own && !ownsIn m then canRelease v else v

/-- The change is recorded. -/
def modeRecorded (m : Mode) (kind detail : Nat) (p : Port) (s : State) : State :=
  record 0x0105 (modeSource kind p) (if m = .safeHold then 4 else 1)
    ([BitVec.ofNat 8 (modeCode s.sys.mode), BitVec.ofNat 8 (modeCode m), BitVec.ofNat 8 detail, BitVec.ofNat 8 kind] ++
      leBytes 4 (frameOf (modeEntered m s).time.mt) ++ [0, 0]) (modeEntered m s)

theorem setMode_same_mode {m : Mode} {s : State} (h : s.sys.mode = m) (kind detail : Nat) (p : Port) : setMode m kind detail p s = s := if_pos h

theorem setMode_change {m : Mode} {s : State} (h : s.sys.mode ≠ m) (kind detail : Nat) (p : Port) :
    setMode m kind detail p s = raise 3 (modeCode s.sys.mode * 256 + modeCode m) (modeRecorded m kind detail p s) := if_neg h

section
variable (m : Mode) (s : State)

theorem canFollow_same : SameBut [.can] (enterMode s.sys.mode m (modeSet m s)) (modeEntered m s) := by
  unfold modeEntered
  extract_lets u v
  have hv : SameBut [.can] u v := by
    simp only [v]
    split
    · exact canOwnerChange_same u
    · exact SameBut.refl _ u
  split
  · exact hv.trans (canRelease_same v)
  · exact hv

theorem modeEntered_carried : SysCarried s (modeEntered m s) := by
  have hset : SysCarried s (modeSet m s) := (leaveMode_carried s).trans (onSys_carried (fun _ => rfl) _)
  exact (hset.trans (enterMode_carried _ m _)).trans (.of_same (canFollow_same m s) (by decide))

theorem modeEntered_events : EventsBut changeEvents s (modeEntered m s) := by
  have hset : EventsBut changeEvents s (modeSet m s) := (leaveMode_events s).of_ev rfl
  exact (hset.trans (enterMode_events _ m _)).trans (.of_same (canFollow_same m s) (by decide))

theorem modeEntered_mode : (modeEntered m s).sys.mode = m :=
  (canFollow_same m s .mode (by decide)).1.trans (enterMode_same s.sys.mode m (modeSet m s) .mode (by decide)).1

theorem modeEntered_own : (modeEntered m s).sys.own = ownsIn m :=
  (canFollow_same m s .mode (by decide)).2.trans (enterMode_same s.sys.mode m (modeSet m s) .mode (by decide)).2

theorem modeEntered_hp : (modeEntered m s).hp = s.hp :=
  (canFollow_same m s .hp (by decide)).trans ((enterMode_same s.sys.mode m (modeSet m s) .hp (by decide)).trans (leaveMode_same s .hp (by decide)))

variable (kind detail : Nat) (p : Port)

theorem setMode_carried : SysCarried s (setMode m kind detail p s) := by
  by_cases h : s.sys.mode = m
  · rw [setMode_same_mode h]
    exact .refl s
  · rw [setMode_change h]
    exact ((modeEntered_carried m s).trans (.of_same (record_same _ _ _ _ _) (by decide))).trans (raise_carried _ _ _)

theorem setMode_mode : (setMode m kind detail p s).sys.mode = m := by
  by_cases h : s.sys.mode = m
  · rw [setMode_same_mode h, h]
  · rw [setMode_change h]
    exact ((raise_same 3 _ _ .mode (by decide)).1.trans (record_same _ _ _ _ (modeEntered m s) .mode (by decide)).1).trans (modeEntered_mode m s)

theorem setMode_owned (h : s.sys.mode ≠ m) : (setMode m kind detail p s).sys.own = ownsIn m := by
  rw [setMode_change h]
  exact ((raise_same 3 _ _ .mode (by decide)).2.trans (record_same _ _ _ _ (modeEntered m s) .mode (by decide)).2).trans (modeEntered_own m s)

theorem modeRecorded_events : EventsBut changeEvents s (modeRecorded m kind detail p s) :=
  (modeEntered_events m s).trans ((record_events _ _ _ _ _).mono (by decide))

theorem setMode_events : EventsBut (3 :: changeEvents) s (setMode m kind detail p s) := by
  by_cases h : s.sys.mode = m
  · rw [setMode_same_mode h]
    exact .refl _ s
  · rw [setMode_change h]
    exact ((modeRecorded_events m s kind detail p).mono (by decide)).raise 3 _ (by decide)

/-- A change raises EV3 with the old and the new mode. -/
theorem setMode_occurred (h : s.sys.mode ≠ m) (hr : s.hp.ready = true) :
    Occurred 3 (modeCode s.sys.mode * 256 + modeCode m) s (setMode m kind detail p s) := by
  have hhp : (modeRecorded m kind detail p s).hp = s.hp := (record_same _ _ _ _ _ .hp (by decide)).trans (modeEntered_hp m s)
  rw [setMode_change h]
  exact (raise_occurs _ (by rw [hhp]; exact hr) (by decide)).after_events (modeRecorded_events m s kind detail p) (by decide)

end

end Sys2Proof.Machine
end

section

/-! The start (Table 3-4): what its steps carry from READY to the mode of the start role. -/

namespace Sys2Proof.Machine

/-! START_ROLE_RESOLUTION (R455, Table 3-5). -/

/-- The mode that the end of listening chooses by the partner. -/
def listenMode (s : State) : Mode :=
  if !s.duplex then .control
  else match s.dpx.partner with
    | some h => if h.own then .standby else if h.mode == .kindling && !isModuleA s then .standby else .control
    | none => .control

theorem listenMode_owns (s : State) : ownsIn (listenMode s) = (listenMode s == .control) ∧ listenMode s ≠ .kindling := by
  unfold listenMode
  split
  · exact ⟨rfl, by decide⟩
  · split
    · split
      · exact ⟨rfl, by decide⟩
      · split <;> exact ⟨rfl, by decide⟩
    · exact ⟨rfl, by decide⟩

/-- The state in which listening ends. -/
def listened (n : Nat) (s : State) : State :=
  (advanceTo (nextBoundary (s.sys.listenOwn.getD n)) s).onSys fun y => { y with listenEnd := none, listenOwn := none }

theorem steps_startRole {n : Nat} {s : State} (h : s.sys.listenEnd = some n) :
    Steps .startRoleResolution s (setMode (listenMode s) 1 0 .host (listened n s)) := by
  change execStartRoleResolution s = _
  unfold execStartRoleResolution
  rw [h]
  rfl

theorem steps_startRole_none {s : State} (h : s.sys.listenEnd = none) : Steps .startRoleResolution s s := by
  change execStartRoleResolution s = _
  unfold execStartRoleResolution
  rw [h]

/-! What the steps before the last leave of a start. -/

structure Started (s t : State) : Prop where
  ready : t.hp.ready = s.hp.ready
  run : t.time.mtRun = s.time.mtRun
  sys : SysCarried s t
  mode : t.sys.mode = s.sys.mode

theorem Started.refl (s : State) : Started s s := ⟨rfl, rfl, rfl, rfl⟩

theorem Started.trans {s t u : State} (h : Started s t) (k : Started t u) : Started s u :=
  ⟨k.ready.trans h.ready, k.run.trans h.run, h.sys.trans k.sys, k.mode.trans h.mode⟩

theorem Started.of_same {l : List Part} {s t : State} (h : SameBut l s t) (hhp : Part.hp ∉ l) (htime : Part.time ∉ l) (hmode : Part.mode ∉ l)
    (hsys : SysCarried s t) : Started s t :=
  ⟨congrArg HpState.ready (h .hp hhp), congrArg TimeState.mtRun (h .time htime), hsys, (h .mode hmode).1⟩

theorem Started.foldl {α : Type} {g : State → α → State} (hg : ∀ w x, Started w (g w x)) (xs : List α) (s : State) : Started s (xs.foldl g s) := by
  induction xs generalizing s with
  | nil => exact .refl s
  | cons x xs ih => exact (hg s x).trans (ih (g s x))

theorem advanceTo_started (m : Nat) (s : State) : Started s (advanceTo m s) := ⟨rfl, rfl, rfl, rfl⟩

theorem raise_started (n : Fin 128) (d : Nat) (s : State) : Started s (raise n d s) :=
  .of_same (raise_same n d s) (by decide) (by decide) (by decide) (raise_carried n d s)

theorem selfDiag_started (code : Nat) (s : State) : Started s (selfDiag code s) :=
  .of_same (selfDiag_same code s) (by decide) (by decide) (by decide) (selfDiag_carried code s)

/-! Step 6. -/

theorem buildHot_carried (ok : List (Fin 4)) (s : State) : SysCarried s (buildHot ok s) := .of_same (buildHot_same ok s) (by decide)

theorem setActive_carried (q : Fin 4) (s : State) : SysCarried s (s.onSolv fun v => { v with active := q }) := rfl

theorem moveGazebo_carried (r : Fin 4) (s : State) : SysCarried s (moveGazebo r s) := by
  unfold moveGazebo
  extract_lets ok hot
  clear_value hot ok
  split
  · match hot, ok with
    | some h, ok => exact (setActive_carried h s).trans ((buildHot_carried ok _).trans (raise_carried _ _ _))
    | none, q :: l => exact (setActive_carried q (fromCheckpoint s)).trans ((buildHot_carried (q :: l) _).trans (raise_carried _ _ _))
    | none, [] => exact .refl s
  · exact .ite (buildHot_carried ok s) (.refl s)

/-- The region's structures moved and its domain off; what is left is the count of healthy regions. -/
theorem markFailed_carried (r : Fin 4) (cause code : Nat) (s : State) : SysCarried s (markFailed r cause code s) := by
  unfold markFailed
  split
  · exact .refl s
  · extract_lets u1 u2 u3 u4 u5
    have h1 : SysCarried s u1 := .of_sys (State.onSolv_sys _ _)
    have h3 : SysCarried s u3 := (h1.trans (raise_carried _ _ u1)).trans (moveGazebo_carried r u2)
    have h4 : SysCarried s u4 := h3.trans (onSys_carried (fun _ => rfl) u3)
    have h5 : SysCarried s u5 := h4.trans (.of_same (moveCopies_same r u4) (by decide))
    exact .ite (h5.trans (selfDiag_carried code u5)) h5

theorem imuFail_carried (reason : Nat) (s : State) : SysCarried s (imuFail reason s) := by
  unfold imuFail
  split
  · exact .refl s
  · exact .trans (.trans (t := s.onFir _) (.of_sys rfl) (raise_carried _ _ _)) (selfDiag_carried 8 _)

theorem markFailed_started (r : Fin 4) (cause code : Nat) (s : State) : Started s (markFailed r cause code s) :=
  .of_same (markFailed_same r cause code s) (by decide) (by decide) (by decide) (markFailed_carried r cause code s)

theorem imuFail_started (reason : Nat) (s : State) : Started s (imuFail reason s) :=
  .of_same (imuFail_same reason s) (by decide) (by decide) (by decide) (imuFail_carried reason s)

/-- Step 6 with what its BIST finds. -/
theorem startStep6_started (k : StartIn) (s : State) : Started s (startStep6 k s) := by
  unfold startStep6
  extract_lets u
  have hu : Started s u := by
    apply Started.foldl
    intro w r
    split
    · exact .refl w
    · exact markFailed_started r 4 2 w
  split
  · exact hu
  · exact hu.trans (imuFail_started 1 u)

/-- With every region sound, step 6 changes none. -/
theorem startStep6_solv {k : StartIn} (h : ∀ r : Fin 4, k.bistOk[r] = true) (s : State) : (startStep6 k s).solv = s.solv := by
  have hfold : (fins 4).foldl (fun s r => if k.bistOk[r] then s else markFailed r 4 2 s) s = s := by
    simp only [h, if_true]
    exact List.foldl_fixed _
  unfold startStep6
  rw [hfold]
  split
  · rfl
  · exact imuFail_same 1 s .solv (by decide)

/-- Records wait: the step runs on a log with an empty queue, and the log is as before. -/
theorem deferRecords_started {f : State → State} (hf : ∀ w, Started w (f w)) (s : State) : Started s (deferRecords f s).1 := by
  obtain ⟨hready, hrun, hsys, hmode⟩ := hf (s.onLog fun l => { l with queue := [], dropped := none })
  exact ⟨hready, hrun, hsys, hmode⟩

/-! Step 7: the recorder, the configuration, and the end of a reset. -/

/-- What the recorder and the configuration leave of a start. -/
structure Loaded (s t : State) : Prop where
  ready : t.hp.ready = s.hp.ready
  run : t.time.mtRun = s.time.mtRun
  sys : t.sys = s.sys
  region : t.solv.region = s.solv.region
  kiln : t.kiln.st = s.kiln.st

theorem Loaded.refl (s : State) : Loaded s s := ⟨rfl, rfl, rfl, rfl, rfl⟩

theorem Loaded.trans {s t u : State} (h : Loaded s t) (k : Loaded t u) : Loaded s u :=
  ⟨k.ready.trans h.ready, k.run.trans h.run, k.sys.trans h.sys, k.region.trans h.region, k.kiln.trans h.kiln⟩

theorem Loaded.of_same {l : List Part} {s t : State} (h : SameBut l s t) (hl : ([.hp, .time, .sys, .solv, .kiln].all fun q => !l.contains q) = true) :
    Loaded s t := by
  simp only [List.all_cons, List.all_nil, Bool.and_true, Bool.and_eq_true, Bool.not_eq_true', List.contains_eq_mem, decide_eq_false_iff_not] at hl
  obtain ⟨hhp, htime, hsys, hsolv, hkiln⟩ := hl
  exact ⟨congrArg HpState.ready (h .hp hhp), congrArg TimeState.mtRun (h .time htime), h .sys hsys, congrArg SolvState.region (h .solv hsolv),
    congrArg KilnState.st (h .kiln hkiln)⟩

theorem Loaded.foldl {α : Type} {g : State → α → State} (hg : ∀ w x, Loaded w (g w x)) (xs : List α) (s : State) : Loaded s (xs.foldl g s) := by
  induction xs generalizing s with
  | nil => exact .refl s
  | cons x xs ih => exact (hg s x).trans (ih (g s x))

theorem Loaded.started {s t : State} (h : Loaded s t) : Started s t := ⟨h.ready, h.run, .of_sys h.sys, congrArg SysState.mode h.sys⟩

theorem advanceTo_loaded (m : Nat) (s : State) : Loaded s (advanceTo m s) := ⟨rfl, rfl, rfl, rfl, rfl⟩

theorem Loaded.ite {s t u : State} {P : Prop} [Decidable P] (h : Loaded s t) (k : Loaded s u) : Loaded s (if P then t else u) := by
  split
  · exact h
  · exact k

theorem onCfg_loaded (f : CfgState → CfgState) (s : State) : Loaded s (s.onCfg f) := ⟨rfl, rfl, rfl, rfl, rfl⟩

theorem onLog_loaded (f : LogState → LogState) (s : State) : Loaded s (s.onLog f) := ⟨rfl, rfl, rfl, rfl, rfl⟩

theorem record_loaded (code source sev : Nat) (b : List Byte) (s : State) : Loaded s (record code source sev b s) :=
  .of_same (record_same _ _ _ _ s) rfl

theorem newRec_loaded (code source sev : Nat) (fwd : Bool) (b : List Byte) (s : State) : Loaded s (newRec code source sev fwd b s).1 :=
  .of_same (newRec_same _ _ _ _ _ s) rfl

theorem reconcile_loaded (newest : Option Rec) (s : State) : Loaded s (reconcile newest s).1 := by
  cases newest <;> exact ⟨rfl, rfl, rfl, rfl, rfl⟩

theorem startRecords_loaded (cold : Bool) (lost : Option Rec) (torn : Nat) (restored : Option (List Byte)) (s : State) :
    Loaded s (startRecords cold lost torn restored s) := by
  unfold startRecords
  extract_lets u1 u2 u3 u4 u5
  have h1 : Loaded s u1 := by
    simp only [u1]
    split
    · exact record_loaded _ _ _ _ s
    · exact .refl s
  have h2 : Loaded u1 u2 := by
    simp only [u2]
    split
    · exact record_loaded _ _ _ _ u1
    · exact .refl u1
  have h3 : Loaded u2 u3 := by
    simp only [u3]
    split
    · exact record_loaded _ _ _ _ u2
    · exact .refl u2
  have h4 : Loaded u3 u4 := .of_same (anchor_same _ _ _ _ u3) rfl
  have h5 : Loaded u4 u5 := by
    apply Loaded.foldl
    intro w i
    split
    · exact .trans (t := w.onTime _) ⟨rfl, rfl, rfl, rfl, rfl⟩ (record_loaded _ _ _ _ _)
    · exact .refl w
  refine (h1.trans (h2.trans (h3.trans (h4.trans h5)))).trans ?_
  split
  · split
    · exact record_loaded _ _ _ _ u5
    · exact .refl u5
  · exact .refl u5

theorem installStruct_loaded (x : Struct) (s : State) : Loaded s (installStruct x s) := ⟨rfl, rfl, rfl, rfl, rfl⟩

theorem redefineDp_loaded (always : List Nat) (s : State) : Loaded s (redefineDp always s) := by
  apply Loaded.foldl
  exact fun w sid => .ite (.refl w) (installStruct_loaded _ w)

theorem reportsLoaded_loaded (s : State) : Loaded s (reportsLoaded s) := ⟨rfl, rfl, rfl, rfl, rfl⟩

theorem positionLoaded_loaded (s : State) : Loaded s (positionLoaded s) := ⟨rfl, rfl, rfl, rfl, rfl⟩

theorem configLoaded_loaded (s : State) : Loaded s (configLoaded s) :=
  (((redefineDp_loaded dpIds s).trans (.of_same (refreshEngines_same _) rfl)).trans (positionLoaded_loaded _)).trans (reportsLoaded_loaded _)

theorem loadBank_loaded (s : State) : Loaded s (loadBank s) := (onCfg_loaded _ s).trans (configLoaded_loaded _)

theorem endInterrupted_loaded (s : State) : Loaded s (s.onKiln fun k => { k with interrupted := false }) := ⟨rfl, rfl, rfl, rfl, rfl⟩

theorem startConfig_loaded (s : State) : Loaded s (startConfig s) := by
  unfold startConfig
  extract_lets detail u
  have hu : Loaded s u := ((Loaded.of_same (bankRecords_same s) rfl).trans (loadBank_loaded _)).trans (onCfg_loaded _ _)
  clear_value u
  exact .ite ((hu.trans (record_loaded _ _ _ _ u)).trans (endInterrupted_loaded _)) hu

/-- The notes of a reset ended. -/
def resetNoted (y : SysState) : SysState := { y with coldBeforeStep7 := false, warmBeforeStep7 := false, furtherCauses := 0 }

/-- Step 7 is loading and the end of the notes of the reset. -/
theorem startStep7_loads (early : List Rec) (s : State) : ∃ w, Loaded s w ∧ (startStep7 early s).1 = w.onSys resetNoted := by
  unfold startStep7
  extract_lets cold u
  have hu : Loaded s u := .ite (.refl s) (.of_same (((heldRecords_same s).step (flush_same [] _) rfl).step (summaries_same _) rfl) rfl)
  clear_value u cold
  split
  rename_i newest torn _
  extract_lets u1 lost
  have h1 : Loaded s u1 := hu.trans (onLog_loaded _ u)
  clear_value u1 lost
  have h2 : Loaded u1 (if cold = true then reconcile newest u1 else (u1, none)).1 := by
    split
    · exact reconcile_loaded newest u1
    · exact .refl u1
  split
  rename_i u2 restored heq
  rw [heq] at h2
  extract_lets u3 u4 u5
  have h3 : Loaded u2 u3 := startRecords_loaded _ _ _ _ u2
  have h4 : Loaded u3 u4 := .foldl (fun w r => newRec_loaded _ _ _ _ _ w) early u3
  exact ⟨u5, ((h1.trans h2).trans (h3.trans h4)).trans (startConfig_loaded u4), rfl⟩

end Sys2Proof.Machine
end

section

/-! The start, step by step, from step 4 to the mode of the start role (Table 3-4, R75, R77, R455). -/

namespace Sys2Proof.Machine

theorem SysCarried.onSys {f : SysState → SysState} (hf : ∀ y, startKept (f y) = f (startKept y)) {s t : State} (h : SysCarried s t) :
    SysCarried (s.onSys f) (t.onSys f) := by
  unfold SysCarried at h ⊢
  rw [State.onSys_sys, State.onSys_sys, hf, hf, h]

/-! Step 8. -/

theorem startStep8_sys (k : StartIn) (s : State) : ∃ fail, (startStep8 k s).sys = { s.sys with kilnStartFail := fail } := by
  unfold startStep8
  extract_lets u st
  have hu : u.sys = s.sys := by
    simp only [u]
    split
    · exact kilnStep_same _ s .sys (by decide)
    · rfl
  exact ⟨_, by rw [State.onSys_sys, hu]⟩

/-- The Kiln answers that it runs. -/
theorem startStep8_sound {k : StartIn} {s : State} (htest : k.kilnTest = none) (hrx : k.kilnRx = true) (hrun : s.kiln.st = .run) :
    (startStep8 k s).sys.kilnStartFail = false := by
  unfold startStep8
  rw [htest]
  simp [hrx, hrun]

/-! From step 4 to step 9. -/

/-- A reset of another step, or none, does not cut this one. -/
theorem startCut_other {k : StartIn} {n : Nat} (h : k.cutAt ≠ n) (base us : Nat) (next : State → State) (s : State) :
    startCut k base n us next s = next (advanceTo (base + us * 100) s) := if_neg h

theorem startCut_here {k : StartIn} {n : Nat} (h : k.cutAt = n) (base us : Nat) (next : State → State) (s : State) :
    startCut k base n us next s = cutStart k.cutBy s := if_pos h

/-- The notes of a start that reaches step 9. -/
def startNotes (im : Option (Fin 2)) (bad fail : Bool) (m : Nat) (y : SysState) : SysState :=
  { y with
    warmPending := false, running := im, factoryBad := bad, readyMt := m, coldBeforeStep7 := false, warmBeforeStep7 := false, furtherCauses := 0
    kilnStartFail := fail }

/-- The state in which step 9 begins, against that in which step 4 does. -/
structure AtLast (k : StartIn) (s t : State) : Prop where
  ready : t.hp.ready = true
  run : t.time.mtRun = s.time.mtRun
  mode : t.sys.mode = s.sys.mode
  sys : SysCarried (s.onSys (startNotes (pickImage k s) (!k.factoryOk) t.sys.kilnStartFail t.sys.readyMt)) t
  kiln : k.kilnTest = none → k.kilnRx = true → s.kiln.st = .run → t.sys.kilnStartFail = false
  region : (∀ r : Fin 4, k.bistOk[r] = true) → t.solv.region = s.solv.region

/-- The image is read in step 5, from what the steps before leave as it is. -/
theorem pickImage_eq (k : StartIn) {s t : State} (hok : t.sys.nf0Ok = s.sys.nf0Ok) (himages : t.sys.images = s.sys.images) (hchoice : t.sys.choice = s.sys.choice) :
    pickImage k t = pickImage k s := by
  unfold pickImage
  rw [hok, himages, hchoice]

/-- Step 5 reached. -/
def imageStarted (k : StartIn) (s : State) : State := startStep5 k (advanceTo (s.time.mt + 145000 * 100) (startStep4 s))

theorem imageStarted_running (k : StartIn) (s : State) : (imageStarted k s).sys.running = pickImage k s := pickImage_eq k rfl rfl rfl

/-- Step 5, and step 6 unless it is cut, of a start whose step 4 began at base. -/
def startFrom5 (k : StartIn) (warm : Bool) (base : Nat) (s : State) : State :=
  if (startStep5 k s).sys.running.isNone then startStep5 k s else startCut k base 6 405000 (startFrom6 k warm base) (startStep5 k s)

theorem startFrom4_eq (k : StartIn) (warm : Bool) (s : State) :
    startFrom4 k warm s = startCut k s.time.mt 5 145000 (startFrom5 k warm s.time.mt) (startStep4 s) := rfl

/-- Step 7, and step 8 unless it is cut. -/
def startFrom7 (k : StartIn) (warm : Bool) (base : Nat) (early : List Rec) (s : State) : State :=
  startCut k base 8 585000 (startFrom8 k warm (startStep7 early s).2) (startStep7 early s).1

theorem startFrom6_eq (k : StartIn) (warm : Bool) (base : Nat) (s : State) :
    startFrom6 k warm base s = startCut k base 7 435000 (startFrom7 k warm base (deferRecords (startStep6 k) s).2) (deferRecords (startStep6 k) s).1 := rfl

theorem startFrom4_uncut {k : StartIn} (hcut : k.cutAt = 0) (warm : Bool) (s : State) :
    startFrom4 k warm s = if (imageStarted k s).sys.running.isNone then imageStarted k s
      else startCut k s.time.mt 6 405000 (startFrom6 k warm s.time.mt) (imageStarted k s) := by
  rw [startFrom4_eq, startCut_other (by omega)]
  rfl

/-- Without an image the module stays as step 5 left it (R75). -/
theorem startFrom4_none {k : StartIn} {s : State} (hcut : k.cutAt = 0) (him : pickImage k s = none) (warm : Bool) :
    startFrom4 k warm s = imageStarted k s := by
  rw [startFrom4_uncut hcut, imageStarted_running, him]
  exact if_pos rfl

theorem startFrom4_cut {k : StartIn} (hcut : k.cutAt = 5) (warm : Bool) (s : State) : startFrom4 k warm s = cutStart k.cutBy (startStep4 s) := by
  rw [startFrom4_eq, startCut_here hcut]

/-- Step 6 done. -/
def tested (k : StartIn) (s : State) : State × List Rec :=
  deferRecords (startStep6 k) (advanceTo (s.time.mt + 405000 * 100) (imageStarted k s))

/-- Step 7 done. -/
def configured (k : StartIn) (s : State) : State × Option Nat :=
  startStep7 (tested k s).2 (advanceTo (s.time.mt + 435000 * 100) (tested k s).1)

/-- Step 8 due. -/
def kilnDue (k : StartIn) (s : State) : State := advanceTo (s.time.mt + 585000 * 100) (configured k s).1

/-- Step 8 done. -/
def kilnAsked (k : StartIn) (s : State) : State := startStep8 k (kilnDue k s)

/-- The boundary of step 9. -/
def lastBoundary (k : StartIn) (s : State) : State := advanceTo (nextBoundary (kilnAsked k s).time.mt) (kilnAsked k s)

theorem startFrom4_whole {k : StartIn} {s : State} (hcut : k.cutAt = 0) (him : (pickImage k s).isSome = true) (warm : Bool) :
    startFrom4 k warm s = startStep9 k warm (configured k s).2 (lastBoundary k s) := by
  rw [startFrom4_uncut hcut, imageStarted_running, if_neg (by rw [Option.isNone_iff_eq_none]; exact Option.isSome_iff_ne_none.1 him),
    startCut_other (by omega), startFrom6_eq, startCut_other (by omega), startFrom7, startCut_other (by omega)]
  exact if_neg (by omega)

/-- The Kiln's answer noted. -/
def kilnNoted (fail : Bool) (y : SysState) : SysState := { y with kilnStartFail := fail }

theorem imageStarted_started (k : StartIn) (s : State) : Started (imageStarted k s) (tested k s).1 :=
  (advanceTo_started _ _).trans (deferRecords_started (startStep6_started k) _)

theorem configured_loads (k : StartIn) (s : State) : ∃ w, Loaded (tested k s).1 w ∧ (configured k s).1 = w.onSys resetNoted := by
  obtain ⟨w, hw, heq⟩ := startStep7_loads (tested k s).2 (advanceTo (s.time.mt + 435000 * 100) (tested k s).1)
  exact ⟨w, (advanceTo_loaded _ _).trans hw, heq⟩

theorem tested_kiln (k : StartIn) (s : State) : (tested k s).1.kiln = s.kiln := startStep6_same k _ .kiln (by decide)

theorem tested_solv {k : StartIn} (h : ∀ r : Fin 4, k.bistOk[r] = true) (s : State) : (tested k s).1.solv = s.solv := startStep6_solv h _

/-- Step 8 and the wait for the boundary change the module's clock, the note of the Kiln and the Kiln. -/
theorem lastBoundary_same (k : StartIn) (s : State) : SameBut [.time, .sys, .kiln] (configured k s).1 (lastBoundary k s) :=
  (((SameBut.refl _ _).step (advanceTo_same _ _) rfl).step (startStep8_same k _) rfl).step (advanceTo_same _ _) rfl

theorem advanceTo_mtRun (m : Nat) (s : State) : (advanceTo m s).time.mtRun = s.time.mtRun := rfl

theorem startStep8_time (k : StartIn) (s : State) : (startStep8 k s).time = s.time := startStep8_same k s .time (by decide)

theorem lastBoundary_mtRun (k : StartIn) (s : State) : (lastBoundary k s).time.mtRun = (configured k s).1.time.mtRun := by
  rw [lastBoundary, advanceTo_mtRun, kilnAsked, startStep8_time, kilnDue, advanceTo_mtRun]

theorem lastBoundary_sys (k : StartIn) (s : State) : ∃ fail, (lastBoundary k s).sys = kilnNoted fail (configured k s).1.sys := by
  rw [lastBoundary, advanceTo_sys, kilnAsked, ← advanceTo_sys _ (configured k s).1, ← kilnDue]
  exact startStep8_sys k (kilnDue k s)

theorem lastBoundary_kiln {k : StartIn} {s : State} (htest : k.kilnTest = none) (hrx : k.kilnRx = true) (hk : (configured k s).1.kiln.st = .run) :
    (lastBoundary k s).sys.kilnStartFail = false := by
  rw [lastBoundary, advanceTo_sys, kilnAsked]
  exact startStep8_sound htest hrx ((congrArg KilnState.st (advanceTo_kiln _ _)).trans hk)

/-- The image named, the reset ended, the Kiln's answer noted. -/
theorem startNotes_eq (k : StartIn) (s : State) (fail : Bool) :
    kilnNoted fail (resetNoted (imageStarted k s).sys) = startNotes (pickImage k s) (!k.factoryOk) fail (imageStarted k s).sys.readyMt
      { s.sys with dom := Vector.replicate 12 .on, exiting := Vector.replicate 12 false } := by
  rw [← imageStarted_running k s]
  rfl

/-- Steps 4 to 8 set the notes of the start, and leave the mode, module time, a running Kiln and sound regions as they are. -/
theorem lastBoundary_atLast (k : StartIn) (s : State) : AtLast k s (lastBoundary k s) := by
  obtain ⟨w, hload, hconf⟩ := configured_loads k s
  obtain ⟨hready, hrun, hsys, hmode⟩ := (imageStarted_started k s).trans hload.started
  obtain ⟨fail, h8⟩ := lastBoundary_sys k s
  have hlast := lastBoundary_same k s
  rw [hconf] at h8 hlast
  constructor
  case ready => exact (congrArg HpState.ready (hlast .hp (by decide))).trans hready
  case run =>
    rw [lastBoundary_mtRun, hconf]
    exact hrun
  case mode =>
    rw [h8]
    exact hmode
  case sys =>
    have hkept : startKept (kilnNoted fail (resetNoted w.sys)) = startKept (kilnNoted fail (resetNoted (imageStarted k s).sys)) :=
      congrArg (fun y => kilnNoted fail (resetNoted y)) hsys
    unfold SysCarried
    rw [h8]
    refine hkept.trans ?_
    have hmt : w.sys.readyMt = (imageStarted k s).sys.readyMt := hsys.field _ fun _ => rfl
    rw [startNotes_eq, ← hmt]
    rfl
  case kiln =>
    intro htest hrx hk
    refine lastBoundary_kiln htest hrx ?_
    calc (configured k s).1.kiln.st
        = w.kiln.st := by rw [hconf]; rfl
      _ = (tested k s).1.kiln.st := hload.kiln
      _ = .run := by rw [tested_kiln, hk]
  case region =>
    intro hbist
    exact ((congrArg SolvState.region (hlast .solv (by decide))).trans hload.region).trans (congrArg SolvState.region (tested_solv hbist s))

/-! Step 9: what the start found is raised. -/

/-- What the raising of events in step 9 leaves. -/
structure Found (s t : State) : Prop where
  started : Started s t
  solv : t.solv = s.solv

theorem Found.refl (s : State) : Found s s := ⟨.refl s, rfl⟩

theorem Found.trans {s t u : State} (h : Found s t) (k : Found t u) : Found s u := ⟨h.started.trans k.started, k.solv.trans h.solv⟩

theorem Found.ite {s t u : State} {P : Prop} [Decidable P] (h : Found s t) (k : Found s u) : Found s (if P then t else u) := by
  split
  · exact h
  · exact k

theorem Found.foldl {α : Type} {g : State → α → State} (hg : ∀ w x, Found w (g w x)) (xs : List α) (s : State) : Found s (xs.foldl g s) := by
  induction xs generalizing s with
  | nil => exact .refl s
  | cons x xs ih => exact (hg s x).trans (ih (g s x))

theorem raise_found (n : Fin 128) (d : Nat) (s : State) : Found s (raise n d s) := ⟨raise_started n d s, raise_solv n d s⟩

theorem selfDiag_found (code : Nat) (s : State) : Found s (selfDiag code s) := ⟨selfDiag_started code s, selfDiag_solv code s⟩

/-- The frame counted, and the alarms raised that came due while the module was off. -/
def alarmsRaised (s : State) : State :=
  (fins 2).foldl (fun s i => if (s.time.alarm[i]).offDue then
      raise (if i.val = 0 then 16 else 17) 0 (s.onTime fun t => { t with alarm := upd t.alarm i fun a => { a with offDue := false } })
    else s) (s.onSys fun y => { y with frame := frameOf s.time.mt })

/-- The other image raised that two early resets chose. -/
def fallbackRaised (s : State) : State :=
  match s.sys.running with
  | some i => if s.sys.fbPending then raise 127 i.val (s.onSys fun y => { y with fbPending := false }) else s
  | none => s

/-- A bad factory block raised. -/
def factoryRaised (s : State) : State := if s.sys.factoryBad then raise 126 0 s else s

/-- A bank that the start did not use raised. -/
def bankRaised (s : State) : State :=
  match s.cfg.startDetail with
  | some d => raise 125 d (s.onCfg fun c => { c with startDetail := none })
  | none => s

/-- Torn slots raised. -/
def lossRaised (torn : Option Nat) (s : State) : State :=
  match torn with
  | some n => raise 121 (satN 65535 n) s
  | none => s

/-- All that step 9 raises before the faults. -/
def startFound (torn : Option Nat) (s : State) : State := lossRaised torn (bankRaised (factoryRaised (fallbackRaised (alarmsRaised s))))

/-- The faults raised, with self-diagnosis code 10 for the oscillator. -/
def faultsRaised (fs : List Nat) (s : State) : State :=
  let s := fs.foldl (fun s n => raise 4 n s) s
  if fs.contains 9 then selfDiag 10 s else s

/-- The mode of the start role (Table 3-5). -/
def roleStarted (s : State) : State :=
  match startRole s with
  | 0 => setMode .dormant 1 0 .host s
  | 1 => setMode .standby 1 0 .host s
  | _ => s.onSys fun y => { y with listenEnd := some (s.time.mt + secTicks) }

/-- The first fault decides, else the start role (R77). -/
def startEnd (fs : List Nat) (s : State) : State :=
  match fs with
  | n :: _ => setMode .dormant 2 n .host ((faultsRaised fs s).onSys fun y => { y with startFault := some n })
  | [] => roleStarted (faultsRaised fs s)

theorem startStep9_eq (k : StartIn) (warm : Bool) (torn : Option Nat) (s : State) :
    startStep9 k warm torn s = startEnd (startFaults k warm (startFound torn s)) (startFound torn s) := rfl

theorem alarmsRaised_found (s : State) : Found s (alarmsRaised s) := by
  refine Found.trans (t := s.onSys fun y => { y with frame := frameOf s.time.mt }) ⟨⟨rfl, rfl, rfl, rfl⟩, rfl⟩ ?_
  exact .foldl (fun w i => .ite (.trans (t := w.onTime _) ⟨⟨rfl, rfl, rfl, rfl⟩, rfl⟩ (raise_found _ _ _)) (.refl w)) _ _

theorem fallbackRaised_found (s : State) : Found s (fallbackRaised s) := by
  unfold fallbackRaised
  split
  · exact .ite (.trans (t := s.onSys fun y => { y with fbPending := false }) ⟨⟨rfl, rfl, rfl, rfl⟩, rfl⟩ (raise_found _ _ _)) (.refl s)
  · exact .refl s

theorem factoryRaised_found (s : State) : Found s (factoryRaised s) := .ite (raise_found _ _ _) (.refl s)

theorem bankRaised_found (s : State) : Found s (bankRaised s) := by
  unfold bankRaised
  split
  · exact .trans (t := s.onCfg _) ⟨⟨rfl, rfl, rfl, rfl⟩, rfl⟩ (raise_found _ _ _)
  · exact .refl s

theorem lossRaised_found (torn : Option Nat) (s : State) : Found s (lossRaised torn s) := by
  cases torn with
  | none => exact .refl s
  | some n => exact raise_found _ _ _

theorem startFound_found (torn : Option Nat) (s : State) : Found s (startFound torn s) :=
  (alarmsRaised_found s).trans ((fallbackRaised_found _).trans ((factoryRaised_found _).trans ((bankRaised_found _).trans (lossRaised_found torn _))))

theorem faultsRaised_found (fs : List Nat) (s : State) : Found s (faultsRaised fs s) := by
  have hraised := Found.foldl (fun w n => raise_found 4 n w) fs s
  exact .ite (hraised.trans (selfDiag_found 10 _)) hraised

/-! A sound start. -/

theorem startRole_eq {s t : State} (h : t.cfg = s.cfg) : startRole t = startRole s := by
  unfold startRole State.inForce
  rw [h]

/-- The end of listening noted. -/
def listenNoted (l : Option Nat) (y : SysState) : SysState := { y with listenEnd := l }

/-- The mode is that of the start role, or the module listens. -/
structure InRole (s t : State) : Prop where
  ready : t.hp = s.hp
  run : t.time = s.time
  role : startRole t = startRole s
  sys : ∃ l, SysCarried (s.onSys (listenNoted l)) t
  dormant : startRole s = 0 → t.sys.mode = .dormant
  standby : startRole s = 1 → t.sys.mode = .standby
  listens : 2 ≤ startRole s → t.sys.mode = s.sys.mode ∧ t.sys.listenEnd = some (s.time.mt + secTicks)

theorem setMode_inRole {m : Mode} {s : State} (h : startRole s = 0 ∧ m = .dormant ∨ startRole s = 1 ∧ m = .standby) : InRole s (setMode m 1 0 .host s) where
  ready := setMode_same _ _ _ _ s .hp (by decide)
  run := setMode_same _ _ _ _ s .time (by decide)
  role := startRole_eq (setMode_same _ _ _ _ s .cfg (by decide))
  sys := ⟨s.sys.listenEnd, setMode_carried m s 1 0 .host⟩
  dormant h0 := by
    obtain ⟨-, rfl⟩ | ⟨h1, -⟩ := h
    · exact setMode_mode _ s 1 0 .host
    · omega
  standby h1 := by
    obtain ⟨h0, -⟩ | ⟨-, rfl⟩ := h
    · omega
    · exact setMode_mode _ s 1 0 .host
  listens h2 := by omega

theorem roleStarted_inRole (s : State) : InRole s (roleStarted s) := by
  unfold roleStarted
  split
  case h_1 h => exact setMode_inRole (.inl ⟨h, rfl⟩)
  case h_2 h => exact setMode_inRole (.inr ⟨h, rfl⟩)
  case h_3 h0 h1 =>
    exact ⟨rfl, rfl, rfl, ⟨_, rfl⟩, fun h => (h0 h).elim, fun h => (h1 h).elim, fun _ => ⟨rfl, rfl⟩⟩

/-- Nothing is at fault. -/
theorem startFaults_sound {k : StartIn} {warm : Bool} {s : State} (hfactory : s.sys.factoryBad = false) (hregion : ∀ r : Fin 4, (s.solv.region[r]).st = .healthy)
    (hbelv : k.belvOk = true) (hloop : k.loopOk = true) (himu : k.imuOk = true) (hkiln : s.sys.kilnStartFail = false) (htcxo : (warm && s.sys.tcxoFailed) = false) :
    startFaults k warm s = [] := by
  have hcount : healthyCount s = 4 := by
    simp only [healthyCount, hregion]
    rfl
  simp [startFaults, hfactory, hcount, hbelv, hloop, himu, hkiln, htcxo]

/-- What a sound start finds. -/
structure SoundIn (k : StartIn) (s : State) : Prop where
  uncut : k.cutAt = 0
  image : (pickImage k s).isSome = true
  factory : k.factoryOk = true
  regions : ∀ r : Fin 4, k.bistOk[r] = true ∧ (s.solv.region[r]).st = .healthy
  belv : k.belvOk = true
  loop : k.loopOk = true
  imu : k.imuOk = true
  kilnRx : k.kilnRx = true
  kilnTest : k.kilnTest = none
  kiln : s.kiln.st = .run
  mode : s.sys.mode = .kindling

/-- What it comes to. -/
structure SoundStart (k : StartIn) (s t : State) : Prop where
  ready : t.hp.ready = true
  run : t.time.mtRun = s.time.mtRun
  vmain : t.sys.vmain = s.sys.vmain
  running : t.sys.running = pickImage k s
  pending : t.sys.warmPending = false
  cold : t.sys.coldBeforeStep7 = false
  fault : t.sys.startFault = s.sys.startFault
  roles : (startRole t = 0 → t.sys.mode = .dormant) ∧ (startRole t = 1 → t.sys.mode = .standby) ∧
    (2 ≤ startRole t → t.sys.mode = .kindling ∧ t.sys.listenEnd = some (t.time.mt + secTicks))

theorem startFrom4_sound {k : StartIn} {s : State} {warm : Bool} (h : SoundIn k s) (htcxo : (warm && s.sys.tcxoFailed) = false) :
    SoundStart k s (startFrom4 k warm s) := by
  obtain ⟨hready, hrun, hmode, hsys, hkiln, hregion⟩ := lastBoundary_atLast k s
  obtain ⟨hstarted, hsolv⟩ := startFound_found (configured k s).2 (lastBoundary k s)
  have hnoted := hsys.trans hstarted.sys
  have hfaults : startFaults k warm (startFound (configured k s).2 (lastBoundary k s)) = [] := by
    refine startFaults_sound ?_ ?_ h.belv h.loop h.imu ?_ ?_
    · exact (hnoted.field SysState.factoryBad fun _ => rfl).trans (congrArg not h.factory)
    · intro r
      rw [hsolv, hregion fun q => (h.regions q).1]
      exact (h.regions r).2
    · exact (hnoted.field SysState.kilnStartFail fun _ => rfl).trans (hkiln h.kilnTest h.kilnRx h.kiln)
    · rw [hnoted.field SysState.tcxoFailed fun _ => rfl]
      exact htcxo
  have hend : startFrom4 k warm s = roleStarted (startFound (configured k s).2 (lastBoundary k s)) := by
    rw [startFrom4_whole h.uncut h.image, startStep9_eq, hfaults]
    rfl
  rw [hend]
  generalize startFound (configured k s).2 (lastBoundary k s) = u at *
  obtain ⟨rready, rrun, rrole, ⟨l, rsys⟩, rdormant, rstandby, rlistens⟩ := roleStarted_inRole u
  have hlisten : SysCarried ((s.onSys (startNotes (pickImage k s) (!k.factoryOk) (lastBoundary k s).sys.kilnStartFail (lastBoundary k s).sys.readyMt)).onSys
      (listenNoted l)) (roleStarted u) := (hnoted.onSys (f := listenNoted l) fun _ => rfl).trans rsys
  refine ⟨?_, ?_, hlisten.field SysState.vmain fun _ => rfl, hlisten.field SysState.running fun _ => rfl, hlisten.field SysState.warmPending fun _ => rfl,
    hlisten.field SysState.coldBeforeStep7 fun _ => rfl, hlisten.field SysState.startFault fun _ => rfl, ?_⟩
  · rw [rready, hstarted.ready, hready]
  · rw [rrun, hstarted.run, hrun]
  · rw [rrole, rrun]
    exact ⟨rdormant, rstandby, fun h2 => ⟨(rlistens h2).1.trans (hstarted.mode.trans (hmode.trans h.mode)), (rlistens h2).2⟩⟩

/-! A bad factory block (R75, R373). -/

/-- A source that pends, and that what follows does not raise, still pends. -/
theorem EventsBut.pend {l : List (Fin 128)} {s t : State} (h : EventsBut l s t) {n : Fin 128} (hn : n ∉ l) (hp : (s.ev.src[n]).pend = true) :
    (t.ev.src[n]).pend = true := by
  rw [h n hn]
  exact hp

theorem factoryRaised_pend {s : State} (hr : s.hp.ready = true) (hbad : s.sys.factoryBad = true) : ((factoryRaised s).ev.src[126]).pend = true := by
  rw [factoryRaised, if_pos hbad]
  exact raise_pend hr 126 0

theorem bankRaised_events (s : State) : EventsBut [125, 120] s (bankRaised s) := by
  unfold bankRaised
  split
  · exact raise_eventsBut _ rfl
  · exact .refl _ s

theorem lossRaised_events (torn : Option Nat) (s : State) : EventsBut [121, 120] s (lossRaised torn s) := by
  cases torn with
  | none => exact .refl _ s
  | some n => exact raise_eventsBut _ rfl

theorem faultsRaised_events (fs : List Nat) (s : State) : EventsBut [4, 112, 120] s (faultsRaised fs s) := by
  have hraised : EventsBut [4, 112, 120] s (fs.foldl (fun s n => raise 4 n s) s) := .foldl (fun w n => (EventsBut.refl _ w).raise 4 n (by decide)) fs s
  exact .of_ite (hraised.trans ((selfDiag_events 10 _).mono (by decide))) hraised

theorem raiseAll_pend (fs : List Nat) {s : State} (hr : s.hp.ready = true) (h : (s.ev.src[4]).pend = true) :
    ((fs.foldl (fun s n => raise 4 n s) s).ev.src[4]).pend = true := by
  induction fs generalizing s with
  | nil => exact h
  | cons n fs ih => exact ih ((congrArg HpState.ready (raise_hp 4 n s)).trans hr) (raise_pend hr 4 n)

theorem faultsRaised_pend {s : State} (hr : s.hp.ready = true) (n : Nat) (fs : List Nat) : ((faultsRaised (n :: fs) s).ev.src[4]).pend = true := by
  have hraised : (((n :: fs).foldl (fun s n => raise 4 n s) s).ev.src[4]).pend = true :=
    raiseAll_pend fs ((congrArg HpState.ready (raise_hp 4 n s)).trans hr) (raise_pend hr 4 n)
  unfold faultsRaised
  dsimp only
  split
  · exact (selfDiag_events 10 _).pend (n := 4) (by decide) hraised
  · exact hraised

/-- What a start with a bad factory block comes to. -/
structure FaultyStart (t : State) : Prop where
  ready : t.hp.ready = true
  pending : t.sys.warmPending = false
  mode : t.sys.mode = .dormant
  fault : t.sys.startFault = some 5
  faultEvent : (t.ev.src[4]).pend = true
  factoryEvent : (t.ev.src[126]).pend = true

theorem startEnd_faulty {fs : List Nat} {s : State} (hr : s.hp.ready = true) (hp : s.sys.warmPending = false) (h126 : (s.ev.src[126]).pend = true) :
    FaultyStart (startEnd (5 :: fs) s) := by
  obtain ⟨⟨hready, -, hsys, -⟩, -⟩ := faultsRaised_found (5 :: fs) s
  have hlast : EventsBut (3 :: changeEvents) (faultsRaised (5 :: fs) s) (startEnd (5 :: fs) s) := setMode_events .dormant _ 2 5 .host
  have hcarried : SysCarried ((faultsRaised (5 :: fs) s).onSys fun y => { y with startFault := some 5 }) (startEnd (5 :: fs) s) := setMode_carried .dormant _ 2 5 .host
  constructor
  case ready => exact (congrArg HpState.ready (setMode_same .dormant 2 5 .host _ .hp (by decide))).trans (hready.trans hr)
  case pending => exact (hcarried.field SysState.warmPending fun _ => rfl).trans ((hsys.field SysState.warmPending fun _ => rfl).trans hp)
  case mode => exact setMode_mode .dormant _ 2 5 .host
  case fault => exact hcarried.field SysState.startFault fun _ => rfl
  case faultEvent =>
    exact hlast.pend (n := 4) (by decide) (faultsRaised_pend hr 5 fs)
  case factoryEvent => exact hlast.pend (n := 126) (by decide) ((faultsRaised_events _ s).pend (n := 126) (by decide) h126)

theorem startFound_pend {s : State} (torn : Option Nat) (hr : s.hp.ready = true) (hbad : s.sys.factoryBad = true) :
    ((startFound torn s).ev.src[126]).pend = true := by
  obtain ⟨⟨hready, -, hsys, -⟩, -⟩ := (alarmsRaised_found s).trans (fallbackRaised_found _)
  have hraised := factoryRaised_pend (hready.trans hr) ((hsys.field SysState.factoryBad fun _ => rfl).trans hbad)
  exact (lossRaised_events torn _).pend (n := 126) (by decide) ((bankRaised_events _).pend (n := 126) (by decide) hraised)

theorem startFrom4_faulty {k : StartIn} {s : State} (hcut : k.cutAt = 0) (him : (pickImage k s).isSome = true) (hfactory : k.factoryOk = false) (warm : Bool) :
    FaultyStart (startFrom4 k warm s) := by
  obtain ⟨hready, -, -, hsys, -, -⟩ := lastBoundary_atLast k s
  obtain ⟨⟨fready, -, fsys, -⟩, -⟩ := startFound_found (configured k s).2 (lastBoundary k s)
  have hbad : (lastBoundary k s).sys.factoryBad = true := (hsys.field SysState.factoryBad fun _ => rfl).trans (congrArg not hfactory)
  have hpending : (lastBoundary k s).sys.warmPending = false := hsys.field SysState.warmPending fun _ => rfl
  have hfirst : ∃ fs, startFaults k warm (startFound (configured k s).2 (lastBoundary k s)) = 5 :: fs := by
    unfold startFaults
    rw [(fsys.field SysState.factoryBad fun _ => rfl).trans hbad]
    exact ⟨_, rfl⟩
  obtain ⟨fs, hfs⟩ := hfirst
  rw [startFrom4_whole hcut him, startStep9_eq, hfs]
  exact startEnd_faulty (fready.trans hready) ((fsys.field SysState.warmPending fun _ => rfl).trans hpending) (startFound_pend _ hready hbad)

/-! A start that a reset cuts (R80). -/

theorem cutStart_reset {cause : RstCause} (h : cause ≠ .powerOn) (s : State) : cutStart cause s = beginReset cause s := if_neg h

/-- A reset before step 7 of a reset resets again. -/
theorem cutStart_again {cause : RstCause} (h : cause ≠ .powerOn) {s : State} (hv : s.sys.vmain = true)
    (hw : s.sys.warmBeforeStep7 = true ∨ s.sys.coldBeforeStep7 = true) : ResetAgain cause s (cutStart cause (startStep4 s)) := by
  have hwithin : withinReset (startStep4 s) = true := by
    change (false || s.sys.coldBeforeStep7 || s.sys.warmBeforeStep7) = true
    rcases hw with hw | hw <;> simp [hw]
  rw [cutStart_reset h, beginReset_within (s := startStep4 s) hv hwithin]
  obtain ⟨hp, pending, causes, cold, warm, low, mode, step4, mt, host, maint, bank, kiln⟩ := furtherReset_again cause (startStep4 s)
  exact ⟨hp, pending, causes, cold, warm, low, mode, step4, mt, host, maint, bank, kiln⟩

end Sys2Proof.Machine
end

section

/-! The clauses of resets, supplies and the start. -/

namespace Sys2Proof.Machine

/-- RST_N and the Kiln's note of an inconsistent request outlive a reset. -/
theorem beginReset_notes {cause : RstCause} {s : State} (hv : s.sys.vmain = true) (hw : withinReset s = false) :
    (beginReset cause s).sys.rstLow = s.sys.rstLow ∧ (beginReset cause s).kiln.cdBad = s.kiln.cdBad := by
  obtain ⟨n, choice, fb, hearly⟩ := countEarly_eq cause (resetRecorded cause s)
  have hlow : (resetRecorded cause s).sys.rstLow = s.sys.rstLow := congrArg SysState.rstLow (resetRecorded_same cause s .sys (by decide))
  constructor
  · rw [beginReset_fresh hv hw, freshReset, hearly]
    exact hlow
  · rw [(beginReset_runs hv hw).2]
    rfl

/-- A reset begun after what leaves the clock and the Kiln as they are. -/
theorem beginReset_after {cause : RstCause} {s u : State} (hv : u.sys.vmain = true) (hw : withinReset u = false) (hkept : ResetKept s u)
    (htime : u.time = s.time) (hkiln : u.kiln = s.kiln) : ResetBegun cause s (beginReset cause u) ∧ (beginReset cause u).time.mt = s.time.mt ∧
      (beginReset cause u).kiln.ch = s.kiln.ch ∧ (beginReset cause u).kiln.pair = s.kiln.pair := by
  obtain ⟨ktime, kkiln⟩ := beginReset_runs (cause := cause) hv hw
  rw [ktime, kkiln, htime, hkiln]
  exact ⟨(beginReset_begun hv hw).of_kept hkept, rfl, rfl, rfl⟩

theorem heldLow_resetKept (s : State) : ResetKept s (heldLow s) := ⟨rfl, rfl, rfl, rfl, rfl, rfl, rfl, rfl, rfl⟩

theorem drawn_resetKept (s : State) : ResetKept s (drawn s) := ⟨rfl, rfl, rfl, rfl, rfl, rfl, rfl, rfl, rfl⟩

/-- The end of the watchdog's delay: at once when the partner owns. -/
def delayEnded (n : Nat) (s : State) : State := if s.dpx.ownIn then s else advanceTo n s

theorem delayEnded_sys (n : Nat) (s : State) : (delayEnded n s).sys = s.sys := by
  unfold delayEnded
  split <;> rfl

theorem delayEnded_resetKept (n : Nat) (s : State) : ResetKept s (delayEnded n s) := by
  unfold delayEnded
  split
  · exact .refl s
  · exact advance_resetKept _ s

theorem withinReset_eq {s t : State} (h : t.sys = s.sys) : withinReset t = withinReset s := by
  unfold withinReset
  rw [h]

/-- The end of listening chooses by the partner's latest heartbeat. -/
theorem listenMode_eq (s : State) : listenMode s =
    if s.duplex then (s.dpx.partner.elim .control fun h => if h.own then .standby else if h.mode == .kindling && !isModuleA s then .standby else .control)
    else .control := by
  unfold listenMode
  cases s.duplex
  · rfl
  · cases s.dpx.partner <;> rfl

/-- The end of listening in KINDLING. -/
theorem listened_ends {n : Nat} {s : State} (hmode : s.sys.mode = .kindling) (hr : s.hp.ready = true) :
    let t := setMode (listenMode s) 1 0 .host (listened n s)
    t.sys.mode = listenMode s ∧ t.sys.own = (listenMode s == .control) ∧ t.sys.listenEnd = none ∧ Occurred 3 (256 + modeCode (listenMode s)) s t := by
  obtain ⟨howns, hnot⟩ := listenMode_owns s
  have hchange : (listened n s).sys.mode ≠ listenMode s := by
    intro h
    exact hnot (h.symm.trans hmode)
  have hocc := setMode_occurred (listenMode s) (listened n s) 1 0 .host hchange hr
  have hdetail : modeCode (listened n s).sys.mode * 256 = 256 := congrArg (modeCode · * 256) hmode
  rw [hdetail] at hocc
  exact ⟨setMode_mode _ _ 1 0 .host, (setMode_owned _ _ 1 0 .host hchange).trans howns,
    (setMode_carried (listenMode s) (listened n s) 1 0 .host).field SysState.listenEnd fun _ => rfl, hocc⟩

/-- What steps 1 to 3 of a power-on leave for step 4. -/
theorem poweredOn_pick (k : StartIn) (s : State) :
    pickImage k (advanceTo 300000 (poweredOn k s)) = pickImage k { s with sys := { s.sys with choice := none } } := pickImage_eq k rfl rfl rfl

end Sys2Proof.Machine

open Sys2Proof Sys2Proof.Machine

/-- Settles O47: a cause begins a reset (beginReset_begun) or, within one, another (furtherReset_again); a start that is not cut reaches step 9 with its notes set (lastBoundary_atLast). -/
theorem resetsSuppliesAndTheStart : Obligations.ResetsSuppliesAndTheStart := by
  unfold Obligations.ResetsSuppliesAndTheStart
  refine ⟨?command, ?pinHeld, ?pinIgnored, ?pinShort, ?pinAgain, ?pinRelease, ?pinHigh, ?watchdog, ?giveup, ?delayed, ?undelayed, ?confirmed, ?unconfirmed, ?kiln, ?kilnIdle,
    ?loss, ?absent, ?ember, ?emberPowered, ?powerHeld, ?powerOn, ?powered, ?warmSound, ?warmFaulty, ?warmNone, ?warmCut, ?warmIdle, ?listen, ?silent⟩
  case command =>
    intro p c s h ho hv hw
    have hv' : (taken p s).sys.vmain = true := by cases p <;> exact hv
    have hw' : withinReset (taken p s) = false := by cases p <;> exact hw
    exact ⟨_, steps_sysReset h ho, beginReset_after hv' hw' (taken_resetKept p s) (by cases p <;> rfl) (by cases p <;> rfl)⟩
  case pinHeld =>
    intro n s hn hlow hv hw
    obtain ⟨hbegun, hruns⟩ := beginReset_after (cause := .rstN) (u := heldLow s) hv hw (heldLow_resetKept s) rfl rfl
    exact ⟨_, steps_rstN_held hn hlow, hbegun, (beginReset_notes (s := heldLow s) hv hw).1, hruns⟩
  case pinIgnored => exact fun n s h => steps_rstN_ignored h
  case pinShort =>
    intro n s hn hshort hlow hv hw
    have hstep := steps_rstN_short hn hshort hlow
    constructor
    · intro hreset
      rw [if_pos hreset] at hstep
      exact ⟨_, hstep, (beginReset_begun (s := drawn s) hv hw).of_kept (drawn_resetKept s)⟩
    · intro hignored
      rw [if_neg (by rw [hignored]; decide)] at hstep
      exact ⟨_, hstep, drawn_same s⟩
  case pinAgain =>
    intro n s hn hlow hv hw
    obtain ⟨hp, pending, causes, cold, warm, low, mode, step4, mt, host, maint, bank, kiln⟩ := furtherReset_again .rstN (heldLow s)
    have hstep := steps_rstN_held hn hlow
    rw [beginReset_within (s := heldLow s) hv hw] at hstep
    exact ⟨_, hstep, hp, low, pending, causes, cold, warm, mt, host, maint, bank, kiln⟩
  case pinRelease => exact fun s hlow => ⟨_, steps_rstN_release hlow, SameBut.onTap _ (SameBut.onSysMode _ (.refl _ s) rfl fun _ => ⟨rfl, rfl⟩) rfl, rfl, rfl⟩
  case pinHigh => exact fun s hlow => steps_rstN_high hlow
  case watchdog =>
    intro s hr hdelay hpartner hv hw
    exact ⟨_, steps_watchdog_reset hr hdelay hpartner, beginReset_begun hv hw, fun i hrun hearly => watchdog_early hv hw hrun hr hearly, watchdog_late hv hw⟩
  case giveup =>
    intro s hr hdelay hmode hpartner
    exact ⟨_, steps_watchdog_giveup hr hdelay hmode hpartner, ((SameBut.refl _ s).onDpx _ rfl).onSysMode _ rfl (fun _ => ⟨rfl, rfl⟩), rfl, rfl⟩
  case delayed =>
    intro n s hdelay hv hw
    have hsys := delayEnded_sys n s
    have hv' : (delayEnded n s).sys.vmain = true := by rw [hsys, hv]
    have hw' : withinReset (delayEnded n s) = false := (withinReset_eq hsys).trans hw
    refine ⟨_, steps_watchdog_delayed hdelay, (beginReset_begun hv' hw').of_kept (delayEnded_resetKept n s), ?_⟩
    intro howned
    rw [if_pos howned, (beginReset_runs hv hw).1]
    rfl
  case undelayed => exact fun s h => steps_watchdog_undelayed h
  case confirmed =>
    intro s hr hrun
    exact ⟨_, steps_fwRunConfirm hr hrun, ((SameBut.refl _ s).step (advanceTo_same _ _) rfl).onSysMode _ rfl (fun _ => ⟨rfl, rfl⟩), rfl⟩
  case unconfirmed => exact fun s h => steps_fwRunConfirm_idle h
  case kiln =>
    intro n s hsince hbad hon hv hw
    have hsys : (cdReported n s).sys = s.sys := cdReported_same n s .sys (by decide)
    have hv' : (cdReported n s).sys.vmain = true := by rw [hsys, hv]
    have hw' : withinReset (cdReported n s) = false := (withinReset_eq hsys).trans hw
    exact ⟨_, steps_cdInconsistent hsince hbad hon, (beginReset_begun hv' hw').of_kept (cdReported_resetKept n s),
      (beginReset_notes hv' hw').2.trans (cdGivenUp_kiln _).2⟩
  case kilnIdle => exact fun s h => steps_cdConsistent h
  case loss =>
    intro fate s hv
    refine ⟨_, steps_vmainLoss hv, rfl, rfl, rfl, rfl, rfl, rfl, rfl, rfl, rfl, rfl, rfl, rfl, rfl, rfl, rfl, rfl, rfl, rfl, ?_⟩
    rintro rfl
    exact supplyLost_ring s
  case absent => exact fun fate s hv => steps_vmainLoss_absent hv
  case ember => exact fun s hv => ⟨_, steps_emberContentLoss hv, (SameBut.refl _ s).onTime _ rfl, rfl⟩
  case emberPowered => exact fun s hv => steps_emberContentLoss_powered hv
  case powerHeld =>
    intro k s hv hlow
    have hemb := emberStart_emb s.time
    refine ⟨_, steps_mainPowerOn_held hv hlow, rfl, rfl, rfl, rfl, rfl, rfl, rfl, emberStart_pwrCyc s.time, emberStart_emberLost s.time, ?_, ?_⟩
    · intro hlost
      exact hemb.trans (if_pos hlost)
    · intro hkept
      exact hemb.trans (if_neg (by rw [hkept]; decide))
  case powerOn =>
    intro k s hv hlow hcut him hfactory hregion hbelv hloop himu hrx htest hkiln hmode
    have hin : SoundIn k (advanceTo 300000 (poweredOn k s)) :=
      ⟨hcut, by rw [poweredOn_pick]; exact him, hfactory, hregion, hbelv, hloop, himu, hrx, htest, hkiln, hmode⟩
    obtain ⟨ready, run, vmain, -, -, cold, fault, roles⟩ := startFrom4_sound hin (warm := false) rfl
    exact ⟨_, steps_mainPowerOn hv hlow, ready, vmain, cold, run, fault, roles⟩
  case powered => exact fun k s hv hr => steps_mainPowerOn_on hv hr
  case warmSound =>
    intro k s hv hpending hlow hcut him hfactory hregion hbelv hloop himu hrx htest hkiln hmode htcxo
    have hin : SoundIn k (advanceTo s.sys.step4At s) := ⟨hcut, him, hfactory, hregion, hbelv, hloop, himu, hrx, htest, hkiln, hmode⟩
    obtain ⟨ready, -, -, running, pending, -, fault, roles⟩ := startFrom4_sound hin (warm := !s.sys.coldBeforeStep7) (Bool.and_eq_false_imp.2 fun _ => htcxo)
    exact ⟨_, steps_warmResetStart hv hpending hlow, ready, running, pending, fault, roles⟩
  case warmFaulty =>
    intro k s hv hpending hlow hcut him hfactory
    obtain ⟨ready, pending, mode, fault, hev4, hev126⟩ := startFrom4_faulty (s := advanceTo s.sys.step4At s) hcut him hfactory (!s.sys.coldBeforeStep7)
    exact ⟨_, steps_warmResetStart hv hpending hlow, ready, pending, mode, fault, hev4, hev126⟩
  case warmNone =>
    intro k s hv hpending hlow hcut him
    have hstep := steps_warmResetStart (k := k) hv hpending hlow
    rw [startFrom4_none (s := advanceTo s.sys.step4At s) hcut him] at hstep
    exact ⟨_, hstep, rfl, rfl, (imageStarted_running k _).trans him, rfl⟩
  case warmCut =>
    intro k s hv hpending hlow hcut
    have hstep := steps_warmResetStart (k := k) hv hpending hlow
    rw [startFrom4_cut hcut] at hstep
    refine ⟨_, hstep, ?_, ?_⟩
    · intro hcause
      rw [hcause]
      exact ⟨rfl, rfl⟩
    · intro hcause hw
      obtain ⟨hp, pending, causes, -, -, -, mode, step4, -, -, -, -, -⟩ := cutStart_again (s := advanceTo s.sys.step4At s) hcause hv hw
      exact ⟨hp, pending, step4, mode, causes⟩
  case warmIdle => exact fun k s h => steps_warmResetStart_none h
  case listen =>
    intro n m s hlisten hmode hr hm
    obtain rfl : m = listenMode s := by
      rw [hm, listenMode_eq]
      cases s.dpx.partner <;> rfl
    exact ⟨_, steps_startRole hlisten, listened_ends hmode hr⟩
  case silent => exact fun s h => steps_startRole_none h
end

section

/-! Ownership with the mode (Table 3-1): every instruction keeps them together, and so does a tick. -/

namespace Sys2Proof.Machine

/-- The instructions that may move the mode keep ownership by their own laws; every other leaves both alone by its frame. -/
theorem exec_own {i : Instr} {s t : State} (h : Steps i s t) : OwnKeep s t := by
  by_cases hmode : Part.mode ∈ mayChange i
  · cases i with
    | sysReset p => exact execSysReset_own p s h
    | mainPowerOn k => exact execMainPowerOn_own k s h
    | vmainLoss fate => exact execVmainLoss_own fate s h
    | rstNAssert widthNs => exact execRstNAssert_own widthNs s h
    | warmResetStart k => exact execWarmResetStart_own k s h
    | watchdogExpiry => exact execWatchdogExpiry_own s h
    | watchdogResetDelayEnd => exact execWatchdogResetDelayEnd_own s h
    | startRoleResolution => exact execStartRoleResolution_own s h
    | frameBoundary temps => exact execFrameBoundary_own temps s h
    | cdInconsistent => exact execCdInconsistent_own s h
    | takeover => exact execTakeover_own s h
    | ownInRise => exact execOwnInRise_own s h
    | dualOwnership => exact execDualOwnership_own s h
    | _ => exact absurd hmode (of_decide_eq_true rfl)
  · exact (exec_frame h).own (by simpa using hmode)

/-- A step is the front instruction on the rest of the queue, or a tick of the clocks. -/
theorem step_own {s t : State} (h : step s = .next t) : OwnKeep s t := by
  unfold step at h
  split at h
  case h_1 =>
    injection h with h
    subst h
    exact (advance_same 1 s).own rfl
  case h_2 c rest _ => exact fun howns => exec_own (s := { s with pending := rest }) h howns

end Sys2Proof.Machine

open Sys2Proof Sys2Proof.Machine

/-- Settles O4: the queue's rest has the same mode and ownership, and each instruction and each tick keeps them together (step_own). -/
theorem everyStepKeepsOwnershipWithTheMode : Obligations.EveryStepKeepsOwnershipWithTheMode :=
  fun _ _ howns h => step_own h howns

/-- Settles O5: the fields of the reset state. -/
theorem resetOwnershipIsThatOfKindling : Obligations.ResetOwnershipIsThatOfKindling :=
  ⟨rfl, rfl, rfl⟩
end

section

/-! The ring of the Woodshed: what programming, a flush, an erase and a power failure make of it (chapter 16). -/

namespace Sys2Proof.Machine

/-! Programming slots (R389, R392). -/

/-- One slot further inside a sector: no wrap of the ring and no new sector. -/
theorem head_within {h : Nat} (hsector : h % sectorSlots + 1 < sectorSlots) (hring : h + 1 < ringSlots) :
    (h + 1) % ringSlots = h + 1 ∧ (h + 1) % sectorSlots ≠ 0 := by
  refine ⟨Nat.mod_eq_of_lt hring, ?_⟩
  unfold sectorSlots at *
  omega

theorem programSlot_full_within {l : LogState} (r : Rec) (hsector : l.head % sectorSlots + 1 < sectorSlots) (hring : l.head + 1 < ringSlots) :
    programSlot (.full r) l = { l with ring := l.ring ++ [(l.head, .full r)], head := l.head + 1 } := by
  obtain ⟨hwrap, hnew⟩ := head_within hsector hring
  simp only [programSlot, hwrap, if_neg hnew]

theorem programSlot_torn_within {l : LogState} (hsector : l.head % sectorSlots + 1 < sectorSlots) (hring : l.head + 1 < ringSlots) :
    programSlot .torn l = { l with ring := l.ring ++ [(l.head, .torn)], head := l.head + 1, nTorn := satN 0xFFFFFFFF (l.nTorn + 1) } := by
  obtain ⟨hwrap, hnew⟩ := head_within hsector hring
  simp only [programSlot, hwrap, if_neg hnew]

/-- The slot just programmed stands last: the sector that a new one discards is another than its own. -/
theorem programSlot_last (x : Slot) (l : LogState) : ∃ before, (programSlot x l).ring = before ++ [(l.head, x)] := by
  unfold programSlot
  extract_lets ring head torn sec
  split
  · next hnew =>
    have hother : (l.head / sectorSlots != sec) = true := by
      rw [bne_iff_ne]
      simp only [sec, head, sectorSlots, ringSlots] at hnew ⊢
      omega
    exact ⟨l.ring.filter fun e => e.1 / sectorSlots != sec, by simp [ring, List.filter_append, hother]⟩
  · exact ⟨l.ring, rfl⟩

/-- The log without what programming changes: the ring, its head, the erase and the count of torn slots. -/
def unprogrammed (l : LogState) : LogState := { l with ring := [], head := 0, erasing := none, nTorn := 0 }

theorem programSlot_unprogrammed (x : Slot) (l : LogState) : unprogrammed (programSlot x l) = unprogrammed l := by
  unfold programSlot
  extract_lets
  split <;> rfl

theorem programAll_unprogrammed (bad : List Bool) (rs : List Rec) (l : LogState) : unprogrammed (programAll bad rs l) = unprogrammed l := by
  induction rs generalizing bad l with
  | nil => rfl
  | cons r rs ih =>
    have htorn (fails : List Bool) (m : LogState) : unprogrammed (fails.foldl (fun l _ => programSlot .torn l) m) = unprogrammed m := by
      induction fails generalizing m with
      | nil => rfl
      | cons _ fails ihf => exact (ihf _).trans (programSlot_unprogrammed .torn m)
    rw [programAll, ih, programSlot_unprogrammed, htorn]

/-- The slots that records take in order from a head on. -/
def slotsFrom (head : Nat) (rs : List Rec) : List (Nat × Slot) := rs.mapIdx fun i r => (head + i, .full r)

theorem slotsFrom_cons (head : Nat) (r : Rec) (rs : List Rec) : slotsFrom head (r :: rs) = (head, .full r) :: slotsFrom (head + 1) rs := by
  simp [slotsFrom, Nat.add_comm, Nat.add_left_comm]

theorem slotsFrom_eq_range (head : Nat) (rs : List Rec) (d : Rec) :
    slotsFrom head rs = (List.range rs.length).map fun i => (head + i, Slot.full (rs.getD i d)) := by
  apply List.ext_getElem
  · simp [slotsFrom]
  · intro i hi _
    have hlt : i < rs.length := by simpa [slotsFrom] using hi
    simp [slotsFrom, hlt]

/-- Records that end inside the sector of the head take the slots from the head on. -/
theorem programAll_within (rs : List Rec) (l : LogState) (hsector : l.head % sectorSlots + rs.length < sectorSlots) (hring : l.head + rs.length < ringSlots) :
    programAll [] rs l = { l with ring := l.ring ++ slotsFrom l.head rs, head := l.head + rs.length } := by
  induction rs generalizing l with
  | nil => simp [programAll, slotsFrom]
  | cons r rs ih =>
    rw [List.length_cons] at hsector hring
    have hfirst := programSlot_full_within r (l := l) (by omega) (by omega)
    have hsector' : (l.head + 1) % sectorSlots + rs.length < sectorSlots := by
      unfold sectorSlots at *
      omega
    calc programAll [] (r :: rs) l
        = programAll [] rs { l with ring := l.ring ++ [(l.head, .full r)], head := l.head + 1 } := congrArg (programAll [] rs) hfirst
      _ = { l with ring := (l.ring ++ [(l.head, .full r)]) ++ slotsFrom (l.head + 1) rs, head := l.head + 1 + rs.length } :=
          ih _ hsector' (by simp only; omega)
      _ = { l with ring := l.ring ++ slotsFrom l.head (r :: rs), head := l.head + (r :: rs).length } := by
          rw [slotsFrom_cons, List.append_assoc, List.singleton_append, List.length_cons, Nat.add_assoc, Nat.add_comm 1]

/-- A record whose first program fails leaves a torn slot and takes the next (R392). -/
theorem programAll_torn_within (r : Rec) (l : LogState) (hsector : l.head % sectorSlots + 2 < sectorSlots) (hring : l.head + 2 < ringSlots) :
    programAll [true] [r] l = { l with
      ring := l.ring ++ [(l.head, .torn), (l.head + 1, .full r)], head := l.head + 2, nTorn := satN 0xFFFFFFFF (l.nTorn + 1) } := by
  have hsector' : (l.head + 1) % sectorSlots + 1 < sectorSlots := by
    unfold sectorSlots at *
    omega
  calc programAll [true] [r] l
      = programSlot (.full r) (programSlot .torn l) := rfl
    _ = programSlot (.full r) { l with ring := l.ring ++ [(l.head, .torn)], head := l.head + 1, nTorn := satN 0xFFFFFFFF (l.nTorn + 1) } :=
        congrArg (programSlot (.full r)) (programSlot_torn_within (by omega) (by omega))
    _ = _ := (programSlot_full_within r hsector' hring).trans (by rw [List.append_assoc]; rfl)

/-! A flush with no record dropped (R390, R391). -/

/-- The log with its queue taken: what is programmed next stands in the mode of LOG_CONFIG. -/
def queueTaken (s : State) : LogState := { s.log with queue := [], ringMode := if s.log.queue.isEmpty then s.log.ringMode else logBuffered s }

/-- The log after a flush with no record dropped. -/
def flushed (bad : List Bool) (s : State) : LogState := programAll bad s.log.queue (queueTaken s)

theorem flushed_unprogrammed (bad : List Bool) (s : State) : unprogrammed (flushed bad s) = unprogrammed (queueTaken s) :=
  programAll_unprogrammed bad s.log.queue (queueTaken s)

theorem flushed_queue (bad : List Bool) (s : State) : (flushed bad s).queue = [] := (congrArg LogState.queue (flushed_unprogrammed bad s) :)

theorem flushed_seq (bad : List Bool) (s : State) : (flushed bad s).seq = s.log.seq := (congrArg LogState.seq (flushed_unprogrammed bad s) :)

theorem flushed_dropped (bad : List Bool) (s : State) : (flushed bad s).dropped = s.log.dropped := (congrArg LogState.dropped (flushed_unprogrammed bad s) :)

theorem flushed_discard (bad : List Bool) (s : State) : (flushed bad s).discard = s.log.discard := (congrArg LogState.discard (flushed_unprogrammed bad s) :)

theorem flushed_supp (bad : List Bool) (s : State) : (flushed bad s).supp = s.log.supp := (congrArg LogState.supp (flushed_unprogrammed bad s) :)

theorem flushed_ringMode (bad : List Bool) {s : State} (h : s.log.queue ≠ []) : (flushed bad s).ringMode = logBuffered s := by
  have htaken : (queueTaken s).ringMode = logBuffered s := if_neg (by simpa using h)
  exact (congrArg LogState.ringMode (flushed_unprogrammed bad s)).trans htaken

theorem flush_eq {bad : List Bool} {s : State} (hok : logFlashOk s = true) (hdropped : s.log.dropped = none) : flush bad s = { s with log := flushed bad s } := by
  unfold flush
  rw [if_pos hok]
  extract_lets mode u
  have hnone : u.log.dropped = none := (flushed_dropped bad s).trans hdropped
  split
  · rfl
  · next hsome => exact absurd (hnone.symm.trans hsome) nofun

theorem flushDue_queue {s : State} (h : flushDue s = true) : s.log.queue ≠ [] := by
  unfold flushDue at h
  simpa using (Bool.and_eq_true_iff.mp h).1

/-- A flush of one record leaves it last in the ring. -/
theorem flushed_single_last {r : Rec} {s : State} (h : s.log.queue = [r]) : ∃ before i, (flushed [] s).ring = before ++ [(i, .full r)] := by
  have hone : flushed [] s = programSlot (.full r) (queueTaken s) := congrArg (programAll [] · (queueTaken s)) h
  obtain ⟨before, hlast⟩ := programSlot_last (.full r) (queueTaken s)
  exact ⟨before, _, (congrArg LogState.ring hone).trans hlast⟩

/-- LOG_FLUSH at a start condition. -/
theorem steps_logFlush_due {bad : List Bool} {s : State} (hdiscard : s.log.discard = false) (hok : logFlashOk s = true) (hdue : flushDue s = true)
    (hdropped : s.log.dropped = none) : Steps (.logFlush bad) s { s with log := flushed bad s } := by
  have hqueue : s.log.queue.isEmpty = false := by simpa using flushDue_queue hdue
  change execLogFlush bad s = _
  rw [execLogFlush, hqueue, hdiscard, hdue, flush_eq hok hdropped]
  rfl

/-- LOG_FLUSH at the age of the oldest record. -/
theorem steps_logFlush_aged {bad : List Bool} {s : State} (hdiscard : s.log.discard = false) (hok : logFlashOk s = true) (hdue : flushDue s = false)
    (hqueue : s.log.queue ≠ []) (hdropped : s.log.dropped = none) :
    Steps (.logFlush bad) s { advance (flushWait s) s with log := flushed bad (advance (flushWait s) s) } := by
  have hsome : s.log.queue.isEmpty = false := by simpa using hqueue
  change execLogFlush bad s = _
  rw [execLogFlush, hsome, hdiscard, hdue, flush_eq (s := advance (flushWait s) s) hok hdropped]
  rfl

theorem advance_mt {n : Nat} {s : State} (hrun : s.time.mtRun = true) (hbound : s.time.mt + n < 2 ^ 64) : (advance n s).time.mt = s.time.mt + n := by
  rw [advance, State.onTime_time]
  exact (if_pos hrun).trans (Nat.mod_eq_of_lt hbound)

/-! SECTOR_ERASE_COMPLETE (R87, R389). -/

theorem pd13Budget_otherDom (s : State) {d : Fin 12} (h : d ≠ 11) : (pd13Budget s).sys.dom[d] = s.sys.dom[d] := by
  unfold pd13Budget
  split
  · exact set_dom_ne _ h _
  · rfl

theorem steps_sectorEraseComplete {k : Nat} {s : State} (h : s.log.erasing = some k) :
    Steps .sectorEraseComplete s (pd13Budget (s.onLog fun l => { l with erasing := none })) := by
  change execSectorEraseComplete s = _
  rw [execSectorEraseComplete, h]
  rfl

/-! Records queued without a drop (R388, R391). -/

/-- The record with the next SEQ stands last in the queue. -/
def queued (r : Rec) (s : State) : State :=
  s.onLog fun l => { l with queue := l.queue ++ [{ r with seq := l.seq }], seq := (l.seq + 1) % 2 ^ 32, lastOp := s.time.opTicks }

theorem newRec_queued {code source sev : Nat} {fwd : Bool} {b : List Byte} {s : State} (hfree : limited code = false) (hdiscard : s.log.discard = false)
    (hon : pd2Off s = false) (hroom : s.log.queue.length < 512) :
    (newRec code source sev fwd b s).1 = queued (mkRec s code source sev fwd b) s := by
  have hfree' : limited (mkRec s code source sev fwd b).code = false := hfree
  simp only [newRec, hdiscard, hon, limitRec, hfree', enqueueRec, hroom, if_true, if_false, Bool.false_eq_true]
  rfl

theorem overflow_undropped {a b : State} (h : b.log.dropped = a.log.dropped) : overflow a b = b := by
  unfold overflow
  rw [h]
  cases a.log.dropped <;> rfl

theorem record_queued {code source sev : Nat} {b : List Byte} {s : State} (hfree : limited code = false) (hdiscard : s.log.discard = false)
    (hon : pd2Off s = false) (hroom : s.log.queue.length < 512) :
    record code source sev b s = queued (mkRec s code source sev false b) s := by
  rw [record, newRec_queued hfree hdiscard hon hroom]
  exact overflow_undropped rfl

/-- The log without what queueing a record changes. -/
def unqueued (l : LogState) : LogState := { l with queue := [], seq := 0, lastOp := 0 }

/-- n records have entered the queue, and nothing else has changed. -/
structure Queues (n : Nat) (s t : State) : Prop where
  same : SameBut [.log] s t
  log : unqueued t.log = unqueued s.log
  length : t.log.queue.length = s.log.queue.length + n

theorem Queues.refl (s : State) : Queues 0 s s := ⟨.refl _ s, rfl, rfl⟩

theorem Queues.trans {n m : Nat} {s t u : State} (h : Queues n s t) (k : Queues m t u) : Queues (n + m) s u :=
  ⟨h.same.trans k.same, k.log.trans h.log, by rw [k.length, h.length, Nat.add_assoc]⟩

theorem Queues.sys {n : Nat} {s t : State} (h : Queues n s t) : t.sys = s.sys := h.same .sys (by decide)

theorem Queues.hp {n : Nat} {s t : State} (h : Queues n s t) : t.hp = s.hp := h.same .hp (by decide)

theorem Queues.dropped {n : Nat} {s t : State} (h : Queues n s t) : t.log.dropped = s.log.dropped := (congrArg LogState.dropped h.log :)

theorem Queues.discard {n : Nat} {s t : State} (h : Queues n s t) : t.log.discard = s.log.discard := (congrArg LogState.discard h.log :)

theorem Queues.supp {n : Nat} {s t : State} (h : Queues n s t) : t.log.supp = s.log.supp := (congrArg LogState.supp h.log :)

theorem pd2Off_eq {s t : State} (hsys : t.sys = s.sys) (hhp : t.hp = s.hp) : pd2Off t = pd2Off s := by
  rw [pd2Off, hsys, hhp, pd2Off]

theorem queued_queues (r : Rec) (s : State) : Queues 1 s (queued r s) :=
  ⟨(SameBut.refl _ s).onLog _ rfl, rfl, List.length_append⟩

/-- Records of one unlimited code, one for each element of a list, where the queue has room for all. -/
theorem foldl_record_queues {α : Type} (xs : List α) (code source sev : Nat) (b : α → List Byte) (hfree : limited code = false) (s : State)
    (hdiscard : s.log.discard = false) (hon : pd2Off s = false) (hroom : s.log.queue.length + xs.length ≤ 512) :
    Queues xs.length s (xs.foldl (fun s x => record code source sev (b x) s) s) := by
  induction xs generalizing s with
  | nil => exact .refl s
  | cons x xs ih =>
    rw [List.length_cons] at hroom
    have hfirst : Queues 1 s (record code source sev (b x) s) := by
      rw [record_queued hfree hdiscard hon (by omega)]
      exact queued_queues _ s
    have hrest := ih (record code source sev (b x) s) (hfirst.discard.trans hdiscard) ((pd2Off_eq hfirst.sys hfirst.hp).trans hon)
      (by rw [hfirst.length]; omega)
    rw [List.length_cons, Nat.add_comm]
    exact hfirst.trans hrest

/-- The SUMMARY records enter a queue with room for them, and no count is left (R400). -/
theorem summaries_queues {s : State} (hdiscard : s.log.discard = false) (hon : pd2Off s = false) (hroom : s.log.queue.length + s.log.supp.length ≤ 512) :
    Queues s.log.supp.length (s.onLog fun l => { l with supp := [] }) (summaries s) :=
  foldl_record_queues s.log.supp 0x0102 0x83 0 _ (by decide) (s.onLog fun l => { l with supp := [] }) hdiscard hon hroom

/-! The power failure (R394, R400). -/

/-- PFAIL is noted and an erase in progress abandoned. -/
def pfailNoted (s : State) : State := (s.onSys fun y => { y with pfail := true }).onLog eraseAbandoned

/-- The state in which POWER_FAIL is made: the summaries are queued, and all that is queued is programmed. -/
def powerFailing (s : State) : State := flush [] (summaries (pfailNoted s))

/-- POWER_FAIL: the number of records of the flush, itself among them, and MT. -/
def powerFailRec (n mt : Nat) (s : State) : Rec := mkRec s 0x010E 0x83 2 false (leBytes 2 n ++ leBytes 8 mt)

/-- POWER_FAIL is queued: it counts the records queued at the failure, the summaries and itself. -/
def powerFailQueued (s : State) : State := queued (powerFailRec (s.log.queue.length + s.log.supp.length + 1) s.time.mt (powerFailing s)) (powerFailing s)

/-- What stands before POWER_FAIL: an empty queue, no count, and the module as it was but for PFAIL. -/
structure PowerFailing (s t : State) : Prop where
  sys : t.sys = { s.sys with pfail := true }
  hp : t.hp = s.hp
  queue : t.log.queue = []
  supp : t.log.supp = []
  dropped : t.log.dropped = none
  discard : t.log.discard = false

section
variable {s : State} (hready : s.hp.ready = true) (hon : pd2Off s = false) (hdiscard : s.log.discard = false) (hok : logFlashOk s = true)
  (hroom : s.log.queue.length + s.log.supp.length ≤ 512) (hdropped : s.log.dropped = none)

include hon hdiscard hroom in
/-- The summaries of a power-fail flush. -/
theorem powerFail_summaries :
    Queues s.log.supp.length ((pfailNoted s).onLog fun l => { l with supp := [] }) (summaries (pfailNoted s)) :=
  summaries_queues (s := pfailNoted s) hdiscard hon hroom

include hon hdiscard hok hroom hdropped in
theorem powerFailing_holds : PowerFailing s (powerFailing s) := by
  have hsum := powerFail_summaries hon hdiscard hroom
  have hok' : logFlashOk (summaries (pfailNoted s)) = true := by
    rw [logFlashOk, hsum.sys]
    exact hok
  rw [powerFailing, flush_eq hok' (hsum.dropped.trans hdropped)]
  exact ⟨hsum.sys, hsum.hp, flushed_queue [] _, (flushed_supp [] _).trans hsum.supp, (flushed_dropped [] _).trans (hsum.dropped.trans hdropped),
    (flushed_discard [] _).trans (hsum.discard.trans hdiscard)⟩

include hready hon hdiscard hok hroom hdropped in
/-- The flush of a power failure ends with POWER_FAIL alone in the queue, and programs it. -/
theorem powerFailFlush_eq : powerFailFlush s = (flush [] (powerFailQueued s)).onLog fun l => { l with discard := true } := by
  have hsum := powerFail_summaries hon hdiscard hroom
  obtain ⟨hsys, hhp, hqueue, -, -, hdiscard'⟩ := powerFailing_holds hon hdiscard hok hroom hdropped
  have hon' : pd2Off (powerFailing s) = false := by
    rw [pd2Off, hsys, hhp]
    exact hon
  unfold powerFailFlush
  extract_lets u mt v n w x
  have hcond : (!u.hp.ready || pd2Off u || u.log.discard) = false := by
    change (!s.hp.ready || pd2Off s || s.log.discard) = false
    rw [hready, hon, hdiscard]
    rfl
  have hn : n = s.log.queue.length + s.log.supp.length + 1 := by
    have hlen : v.log.queue.length = s.log.queue.length + s.log.supp.length := hsum.length
    have hnone : v.log.dropped = none := hsum.dropped.trans hdropped
    simp only [n, hlen, hnone]
    rfl
  rw [hcond, if_neg Bool.false_ne_true]
  have hempty : (powerFailing s).log.queue.length < 512 := by
    rw [hqueue]
    decide
  have hx : x = queued (powerFailRec n mt (powerFailing s)) (powerFailing s) :=
    newRec_queued (by decide) hdiscard' hon' hempty
  rw [hx, hn]
  rfl

include hready hon hdiscard hok hroom hdropped in
/-- After the flush of a power failure: nothing is queued or counted, records are discarded, and POWER_FAIL stands last in the ring. -/
theorem powerFailFlush_holds : let t := powerFailFlush s
    t.sys = { s.sys with pfail := true } ∧ t.log.discard = true ∧ t.log.queue = [] ∧ t.log.supp = [] ∧
      ∃ before i r, t.log.ring = before ++ [(i, Slot.full r)] ∧ r.code = 0x010E ∧
        r.payload = leBytes 2 (s.log.queue.length + s.log.supp.length + 1) ++ leBytes 8 s.time.mt := by
  obtain ⟨hsys, -, hqueue, hsupp, hdropped', -⟩ := powerFailing_holds hon hdiscard hok hroom hdropped
  have hok' : logFlashOk (powerFailQueued s) = true := by
    rw [logFlashOk, show (powerFailQueued s).sys = _ from hsys]
    exact hok
  obtain ⟨before, i, hlast⟩ := flushed_single_last (s := powerFailQueued s) (congrArg (· ++ _) hqueue)
  rw [powerFailFlush_eq hready hon hdiscard hok hroom hdropped, flush_eq hok' hdropped']
  exact ⟨hsys, rfl, flushed_queue [] _, (flushed_supp [] _).trans hsupp, before, i, _, hlast, rfl, rfl⟩

end

theorem steps_powerFailFlush {s : State} (hpfail : s.sys.pfail = false) (hvmain : s.sys.vmain = true) : Steps .powerFailFlush s (powerFailFlush s) := by
  change execPowerFailFlush s = _
  rw [execPowerFailFlush, hpfail, hvmain]
  rfl

/-- PFAIL is over, and records are kept again. -/
def pfailRecovered (s : State) : State := (s.onSys fun y => { y with pfail := false }).onLog fun l => { l with discard := false }

theorem pfailRecovered_same (s : State) : SameBut [.sys, .log] s (pfailRecovered s) := by
  refine SameBut.onLog _ (SameBut.onSysMode _ (.refl _ s) rfl fun _ => ?_) rfl
  exact ⟨rfl, rfl⟩

theorem steps_pfailRecovery {s : State} (hpfail : s.sys.pfail = true) (hvmain : s.sys.vmain = true) : Steps .pfailRecovery s (pfailRecovered s) := by
  change execPfailRecovery s = _
  rw [execPfailRecovery, hpfail, hvmain]
  rfl

end Sys2Proof.Machine

open Sys2Proof Sys2Proof.Machine

/-- Settles O25: a flush is programAll on the queue taken (flush_eq), inside a sector slot by slot (programAll_within); the power failure queues its summaries, flushes, and flushes POWER_FAIL alone. -/
theorem flushesMoveTheQueueToTheRing : Obligations.FlushesMoveTheQueueToTheRing := by
  unfold Obligations.FlushesMoveTheQueueToTheRing
  refine ⟨?due, ?torn, ?aged, ?erased, ?powerFail, ?recovery⟩
  case due =>
    intro s hdiscard hok hdue hdropped hsector hring
    have hstep := steps_logFlush_due (bad := []) hdiscard hok hdue hdropped
    have hlog : flushed [] s = _ := programAll_within s.log.queue (queueTaken s) hsector hring
    refine ⟨_, hstep, exec_frame hstep, rfl, flushed_queue [] s, congrArg LogState.head hlog, ?_, flushed_seq [] s, flushed_ringMode [] (flushDue_queue hdue)⟩
    exact (congrArg LogState.ring hlog).trans (congrArg (s.log.ring ++ ·) (slotsFrom_eq_range _ _ _))
  case torn =>
    intro r s hdiscard hok hdue hdropped hqueue hsector hring
    have hstep := steps_logFlush_due (bad := [true]) hdiscard hok hdue hdropped
    have hlog : flushed [true] s = _ :=
      (congrArg (programAll [true] · (queueTaken s)) hqueue).trans (programAll_torn_within r (queueTaken s) hsector hring)
    exact ⟨_, hstep, exec_frame hstep, flushed_queue [true] s, congrArg LogState.ring hlog, congrArg LogState.nTorn hlog, congrArg LogState.head hlog⟩
  case aged =>
    intro s hdiscard hok hdue hqueue hdropped
    have hstep := steps_logFlush_aged (bad := []) hdiscard hok hdue hqueue hdropped
    exact ⟨_, hstep, exec_frame hstep, flushed_queue [] _, advance_mt⟩
  case erased =>
    intro k s h
    have hstep := steps_sectorEraseComplete h
    exact ⟨_, hstep, exec_frame hstep, pd13Budget_same _ .log (by decide), (pd13Budget_same _ .mode (by decide)).1, fun d hd => pd13Budget_otherDom _ hd⟩
  case powerFail =>
    intro s hpfail hvmain hready hon hdiscard hok hroom hdropped
    exact ⟨_, steps_powerFailFlush hpfail hvmain, powerFailFlush_holds hready hon hdiscard hok hroom hdropped⟩
  case recovery =>
    intro s hpfail hvmain
    exact ⟨_, steps_pfailRecovery hpfail hvmain, pfailRecovered_same s, rfl, rfl⟩
end

section

/-! The clocks as time passes, and the calendar registers: reads, commits, W1C bits, the load (4.2 to 4.4). -/

namespace Sys2Proof.Machine

/-! The passing of time (R88, R90, R106). -/

/-- What chapter 4 holds besides the counters that run with time. -/
def clockless (t : TimeState) : TimeState := { t with mt := 0, now := 0, phase := 0, rtc := 0, opTicks := 0 }

theorem advance_clockless (n : Nat) (s : State) : clockless (advance n s).time = clockless s.time := rfl

theorem advanceNow_clockless (m : Nat) (s : State) : clockless (advanceNow m s).time = clockless s.time := rfl

/-! Reads of the time registers (R93). -/

theorem freezeRtc_live {s : State} (h : s.time.frozen = none) :
    freezeRtc s = s.onTime fun t => { t with shadow := t.rtc, frozen := some t.mt } := by
  simp [freezeRtc, h]

theorem freezeRtc_frozen {s : State} (h : s.time.frozen ≠ none) : freezeRtc s = s := by
  simp [freezeRtc, Option.isSome_iff_ne_none, h]

/-- An access has returned the register k of a time. -/
def clockRead (k time : Nat) (s : State) : State := s.onHp fun h => { h with acked := true, dOut := ofN ((rtcFields time).getD k 0) }

theorem steps_rtcShadowRead (r : Fin 6) {s : State} (h : s.sys.vmain = true) :
    Steps (.rtcShadowRead r) s (clockRead r.val (freezeRtc s).time.shadow (freezeRtc s)) := steps_powered rfl h

theorem steps_rtcYearRead {s : State} (h : s.sys.vmain = true) :
    Steps .rtcYearRead s ((clockRead 6 (freezeRtc s).time.shadow (freezeRtc s)).onTime fun t => { t with frozen := none }) := steps_powered rfl h

theorem rtcShadowRead_freezes (r : Fin 6) {s : State} (hv : s.sys.vmain = true) (hlive : s.time.frozen = none) :
    ∃ t, Steps (.rtcShadowRead r) s t ∧ SameBut [.hp, .time] s t ∧ t.time = { s.time with shadow := s.time.rtc, frozen := some s.time.mt } ∧
      t.hp = { s.hp with acked := true, dOut := ofN ((rtcFields s.time.rtc).getD r.val 0) } := by
  have hstep := steps_rtcShadowRead r hv
  rw [freezeRtc_live hlive] at hstep
  exact ⟨_, hstep, exec_frame hstep, rfl, rfl⟩

theorem rtcShadowRead_frozen (r : Fin 6) {s : State} (hv : s.sys.vmain = true) (hfrozen : s.time.frozen ≠ none) :
    ∃ t, Steps (.rtcShadowRead r) s t ∧ SameBut [.hp] s t ∧
      t.hp = { s.hp with acked := true, dOut := ofN ((rtcFields s.time.shadow).getD r.val 0) } := by
  have hstep := steps_rtcShadowRead r hv
  rw [freezeRtc_frozen hfrozen] at hstep
  exact ⟨_, hstep, (SameBut.refl _ s).onHp _ rfl, rfl⟩

theorem rtcYearRead_live {s : State} (hv : s.sys.vmain = true) (hlive : s.time.frozen = none) :
    ∃ t, Steps .rtcYearRead s t ∧ SameBut [.hp, .time] s t ∧ t.time = { s.time with shadow := s.time.rtc } ∧
      t.hp = { s.hp with acked := true, dOut := ofN ((rtcFields s.time.rtc).getD 6 0) } := by
  have hstep := steps_rtcYearRead hv
  rw [freezeRtc_live hlive] at hstep
  refine ⟨_, hstep, exec_frame hstep, ?_, rfl⟩
  rw [← hlive]
  rfl

theorem rtcYearRead_frozen {s : State} (hv : s.sys.vmain = true) (hfrozen : s.time.frozen ≠ none) :
    ∃ t, Steps .rtcYearRead s t ∧ SameBut [.hp, .time] s t ∧ t.time = { s.time with frozen := none } ∧
      t.hp = { s.hp with acked := true, dOut := ofN ((rtcFields s.time.shadow).getD 6 0) } := by
  have hstep := steps_rtcYearRead hv
  rw [freezeRtc_frozen hfrozen] at hstep
  exact ⟨_, hstep, exec_frame hstep, rfl, rfl⟩

/-- The 2 s of a freeze that began at m have passed. -/
def freezeEnded (m : Nat) (s : State) : State := (advanceTo (m + 2 * secTicks) s).onTime fun t => { t with frozen := none, stale := true }

theorem steps_rtcFreezeTimeout {m : Nat} {s : State} (h : s.time.frozen = some m) : Steps .rtcFreezeTimeout s (raise 23 0 (freezeEnded m s)) := by
  change execRtcFreezeTimeout s = _
  rw [execRtcFreezeTimeout, h]
  rfl

theorem steps_rtcFreezeTimeout_live {s : State} (h : s.time.frozen = none) : Steps .rtcFreezeTimeout s s := by
  change execRtcFreezeTimeout s = _
  rw [execRtcFreezeTimeout, h]

/-! Commits (R95, R97, R98). -/

theorem captureTime_time (l : RtcLoad) (s : State) : (captureTime l s).time = { s.time with load := some l } := by
  unfold captureTime
  split
  · split <;> simp
  · rfl

theorem captureTime_hp (l : RtcLoad) (s : State) : (captureTime l s).hp = s.hp := captureTime_same l s .hp (by decide)

theorem commitStaged_valid {v : Nat} {s : State} (h : stagedTime s.time = some v) :
    commitStaged s = captureTime { val := v, source := 0x80, at_ := s.time.now } s := by
  rw [commitStaged, h]

theorem commitStaged_invalid {s : State} (h : stagedTime s.time = none) : commitStaged s = raise 19 0 s := by
  rw [commitStaged, h]

theorem steps_rtcCommit {s : State} (h : s.sys.vmain = true) : Steps .rtcCommit s (commitStaged (ack s)) := steps_powered rfl h

/-! RTC_CTL (R7, Table 2-18). -/

/-- The W1C bits of RTC_CTL after a write of v during which the module sets those of d. -/
def ctlCleared (v d : Word) (t : TimeState) : TimeState := { t with
  stale := w1c t.stale v d 1
  alarm := vmapI t.alarm fun i a => { a with fired := w1c a.fired v d (3 + i.val), skip := w1c a.skip v d (5 + i.val) } }

theorem rtcCtlWrite_noCommit {v : Word} (d : Word) {s : State} (h : bit v 0 = false) : rtcCtlWrite v d s = (ack s).onTime (ctlCleared v d) := by
  rw [rtcCtlWrite, h]
  rfl

theorem ctlCleared_alarm (v d : Word) (t : TimeState) (i : Fin 2) : (ctlCleared v d t).alarm[i] = { t.alarm[i] with
    fired := ((t.alarm[i]).fired && !bit v (3 + i.val)) || bit d (3 + i.val)
    skip := ((t.alarm[i]).skip && !bit v (5 + i.val)) || bit d (5 + i.val) } := vmapI_getElem _ _ _ _

/-! An alarm fires (R101, R104). -/

/-- An alarm after it has fired, with the cause of the skip and whether VMAIN was absent. -/
def firedAlarm (skip off : Bool) (a : Alarm) : Alarm :=
  { a with fired := true, skip := a.skip || skip, armed := a.kind == 2, whileOff := a.whileOff || off }

theorem fireAlarm_time (i : Fin 2) (skip : Bool) (s : State) :
    (fireAlarm i skip s).time = { s.time with alarm := upd s.time.alarm i (firedAlarm skip !s.sys.vmain) } := by
  unfold fireAlarm
  extract_lets u
  split
  · rw [wakeTrigger_time, raise_time]
    rfl
  · rfl

/-! The load (R95, R98, R103). -/

/-- Chapter 4 without what a firing changes of the alarms. -/
def unfired (t : TimeState) : TimeState :=
  { t with alarm := vmap t.alarm fun a => { a with fired := false, skip := false, armed := false, whileOff := false } }

theorem unfired_alarm_from (t : TimeState) (i : Fin 2) : ((unfired t).alarm[i]).from_ = (t.alarm[i]).from_ := by simp [unfired]

theorem fireAlarm_unfired (i : Fin 2) (skip : Bool) (s : State) : unfired (fireAlarm i skip s).time = unfired s.time := by
  rw [fireAlarm_time]
  unfold unfired
  congr 1
  ext j hj
  simp only [vmap_getElem, upd_getElem, firedAlarm]
  split <;> rfl

/-- The clock holds the time v, and each alarm waits for an instant after it. -/
def clockSet (v : Nat) (t : TimeState) : TimeState := { t with rtc := v, load := none, alarm := vmap t.alarm fun a => { a with from_ := v + 1 } }

theorem loadTime_unfired {l : RtcLoad} {s : State} (h : s.time.load = some l) : unfired (loadTime s).time = unfired (clockSet l.val s.time) := by
  unfold loadTime
  rw [h]
  dsimp -zeta only
  extract_lets told f s1 s2 s3 s4 s5
  have hset : s2.time = clockSet l.val s.time := by
    simp only [s2, s1]
    split <;> simp [clockSet]
  have hraise : s3.time = s2.time := by simp [s3, anchor]
  have hfire0 : unfired s4.time = unfired s3.time := by
    simp only [s4]
    split
    · exact fireAlarm_unfired 0 true s3
    · rfl
  have hfire1 : unfired s5.time = unfired s4.time := by
    simp only [s5]
    split
    · exact fireAlarm_unfired 1 true s4
    · rfl
  rw [← hset, ← hraise, ← hfire0, ← hfire1]
  split <;> simp

/-- The tick of Ember at which a capture loads: the first that begins at least 31 us after it. -/
def loadTick (l : RtcLoad) (s : State) : State :=
  let u := advanceNow (l.at_ + 3100) s
  if u.time.phase < 128 then u else advance (cdiv (390625 - u.time.phase) 128) u

theorem loadTick_clockless (l : RtcLoad) (s : State) : clockless (loadTick l s).time = clockless s.time := by
  unfold loadTick
  extract_lets u
  have hu : clockless u.time = clockless s.time := advanceNow_clockless _ s
  split
  · exact hu
  · exact (advance_clockless _ u).trans hu

theorem steps_rtcLoad {l : RtcLoad} {s : State} (h : s.time.load = some l) : Steps .rtcLoad s (loadTime (loadTick l s)) := by
  change execRtcLoad s = _
  rw [execRtcLoad, h]
  rfl

theorem rtcLoad_unfired {l : RtcLoad} {s : State} (h : s.time.load = some l) :
    unfired (loadTime (loadTick l s)).time = unfired (clockSet l.val (loadTick l s).time) :=
  loadTime_unfired ((congrArg TimeState.load (loadTick_clockless l s) :).trans h)

end Sys2Proof.Machine

open Sys2Proof Sys2Proof.Machine

/-- Settles O12: each access runs its operation on a powered port, and a load keeps of chapter 4 all that a firing does not change (loadTime_unfired). -/
theorem calendarRegistersReadCoherentlyAndCommitWhole : Obligations.CalendarRegistersReadCoherentlyAndCommitWhole := by
  unfold Obligations.CalendarRegistersReadCoherentlyAndCommitWhole
  refine ⟨?freeze, ?frozen, ?year, ?timeout, ?commit, ?refused, ?clear, ?load⟩
  case freeze => exact fun r s hv hlive => rtcShadowRead_freezes r hv hlive
  case frozen => exact fun r s hv hfrozen => rtcShadowRead_frozen r hv hfrozen
  case year => exact fun s hv hfrozen => rtcYearRead_frozen hv hfrozen
  case timeout =>
    intro m s hm hr
    refine ⟨_, steps_rtcFreezeTimeout hm, ?_, ?_, ?_, raise_occurred 0 hr (by decide) rfl, raise_eventsBut 0 rfl⟩ <;> rw [raise_time] <;> rfl
  case commit =>
    intro v s hv hvalid
    have hstep := steps_rtcCommit hv
    rw [commitStaged_valid (s := ack s) hvalid] at hstep
    exact ⟨_, hstep, captureTime_hp _ _, captureTime_time _ _⟩
  case refused =>
    intro s hv hinvalid hr
    have hstep := steps_rtcCommit hv
    rw [commitStaged_invalid (s := ack s) hinvalid] at hstep
    exact ⟨_, hstep, raise_hp _ _ _, raise_time _ _ _, raise_occurred 0 hr (by decide) rfl, raise_eventsBut 0 rfl⟩
  case clear =>
    intro v d s hv hno
    have hstep : Steps (.rtcCtlClear v d) s (rtcCtlWrite v d s) := steps_powered (exec_rtcCtlClear v d s) hv
    rw [rtcCtlWrite_noCommit d hno] at hstep
    exact ⟨_, hstep, ((ack_same s).mono rfl).onTime _ rfl, rfl, rfl, rfl, rfl, ctlCleared_alarm v d s.time⟩
  case load =>
    intro l s hl
    have hload := rtcLoad_unfired hl
    have hkept := loadTick_clockless l s
    refine ⟨_, steps_rtcLoad hl, (congrArg TimeState.rtc hload :), (congrArg TimeState.load hload :),
      (congrArg TimeState.stg hload :).trans (congrArg TimeState.stg hkept :), (congrArg TimeState.emb hload :).trans (congrArg TimeState.emb hkept :), fun i => ?_⟩
    rw [← unfired_alarm_from, hload, unfired_alarm_from]
    simp [clockSet]

/-- Settles O51: the reads by whether the shadows are frozen, and a load keeps the shadows and the freeze (loadTime_unfired). -/
theorem readFreezeHoldsTheCalendarAndOutlivesACommit : Obligations.ReadFreezeHoldsTheCalendarAndOutlivesACommit := by
  unfold Obligations.ReadFreezeHoldsTheCalendarAndOutlivesACommit
  refine ⟨?freeze, ?frozen, ?yearLive, ?yearFrozen, ?timeout, ?noTimeout, ?load⟩
  case freeze => exact fun r s hv hlive => rtcShadowRead_freezes r hv hlive
  case frozen => exact fun r m s hv hm => rtcShadowRead_frozen r hv (Option.ne_none_iff_exists'.2 ⟨m, hm⟩)
  case yearLive => exact fun s hv hlive => rtcYearRead_live hv hlive
  case yearFrozen => exact fun m s hv hm => rtcYearRead_frozen hv (Option.ne_none_iff_exists'.2 ⟨m, hm⟩)
  case timeout =>
    intro m s hm
    refine ⟨_, steps_rtcFreezeTimeout hm, ?_, ?_, ?_, fun hrun hmt hbound => ?_⟩ <;> rw [raise_time]
    · rfl
    · rfl
    · rfl
    · exact advanceTo_reaches hrun hbound hmt
  case noTimeout => exact fun s hlive => steps_rtcFreezeTimeout_live hlive
  case load =>
    intro m l s hm hl
    have hload := rtcLoad_unfired hl
    have hkept := loadTick_clockless l s
    exact ⟨_, steps_rtcLoad hl, (congrArg TimeState.rtc hload :), (congrArg TimeState.shadow hload :).trans (congrArg TimeState.shadow hkept :),
      (congrArg TimeState.frozen hload :).trans ((congrArg TimeState.frozen hkept :).trans hm)⟩

/-- Settles O2: one tick is advance 1, and it moves nothing but the running counters. -/
theorem emptyQueueStepIsOneTick : Obligations.EmptyQueueStepIsOneTick := by
  unfold Obligations.EmptyQueueStepIsOneTick
  intro s hempty
  refine ⟨advance 1 s, ?_, advance_same 1 s, rfl, rfl, rfl, rfl, rfl, rfl⟩
  rw [step, hempty]
end

section

/-! Calendar alarms and the commands that set the clock and the alarms (4.4, 4.5). -/

namespace Sys2Proof.Machine

/-! ALARM_FIRE (R101). -/

theorem wakeTrigger_events (k : Nat) (s : State) : EventsBut [5, 120] s (wakeTrigger k s) := by
  rw [wakeTrigger_eq]
  split
  · exact raise_eventsBut k rfl
  · exact EventsBut.refl _ s

theorem fireAlarm_occurred (i : Fin 2) (skip : Bool) {s : State} (hv : s.sys.vmain = true) (hr : s.hp.ready = true) :
    Occurred (if i.val = 0 then 16 else 17) 0 s (fireAlarm i skip s) := by
  unfold fireAlarm
  extract_lets u
  have hsource : ((if i.val = 0 then 16 else 17 : Fin 128)) ∉ ([5, 120] : List (Fin 128)) := by split <;> decide
  have hraise : Occurred (if i.val = 0 then 16 else 17) 0 s (raise (if i.val = 0 then 16 else 17) 0 u) :=
    raise_occurred 0 hr (fun h => hsource (by rw [h]; decide)) rfl
  rw [if_pos (show u.sys.vmain = true from hv)]
  exact hraise.of_events (wakeTrigger_events 2 _) hsource

/-- The first instant of the live counters that an alarm may notice (R90, R101). -/
def firstUnnoticed (a : Fin 2) (s : State) : Nat := if s.time.rtc + 1 < (s.time.alarm[a]).from_ then 0 else (s.time.alarm[a]).from_

/-- The live counters have entered the instant m, which the alarm notices. -/
def alarmNoticed (a : Fin 2) (m : Nat) (s : State) : State :=
  alarmFrom a ((m + 1) % rtcSpan) (advance (cdiv ((m - s.time.rtc) * 390625 - s.time.phase) 128) s)

theorem steps_alarmFire {a : Fin 2} {m : Nat} {s : State} (harmed : (s.time.alarm[a]).armed = true)
    (hnext : alarmNext s.time.alarm[a] (firstUnnoticed a s) = some m) : Steps (.alarmFire a) s (fireAlarm a false (alarmNoticed a m s)) := by
  change execAlarmFire a s = _
  unfold firstUnnoticed at hnext
  simp only [execAlarmFire, harmed, hnext, if_true]
  rfl

theorem alarmNoticed_alarm (a : Fin 2) (m : Nat) (s : State) :
    (alarmNoticed a m s).time.alarm = upd s.time.alarm a fun x => { x with from_ := (m + 1) % rtcSpan } := rfl

/-! TIME_SET_ALARM (R102, R423). -/

/-- The alarm that a command names. -/
def alarmNamed (c : Cmd) : Fin 2 := if bit (wd c.words 0) 0 then 1 else 0

theorem alarmNamed_val (c : Cmd) : (alarmNamed c).val = b2n (bit (wd c.words 0) 0) := by
  unfold alarmNamed b2n
  split <;> rfl

theorem eq_alarmNamed {c : Cmd} {i : Fin 2} (h : i.val = b2n (bit (wd c.words 0) 0)) : i = alarmNamed c :=
  Fin.ext (h.trans (alarmNamed_val c).symm)

/-- The first word of a TIME_SET_ALARM that is no date or time of its KIND. -/
def alarmBad (c : Cmd) : Option Nat :=
  let w := wd c.words
  let kind := fld (w 0) 9 8
  if kind == 1 && !validDate (fld (w 1) 31 16) (fld (w 1) 15 8) (fld (w 1) 7 0) then some 1
  else if kind != 0 && ((w 2 &&& 0xFFE0C0C0) != 0 || !validTime (fld (w 2) 20 16) (fld (w 2) 13 8) (fld (w 2) 5 0)) then some 2 else none

/-- The setting that a TIME_SET_ALARM carries, at the live time rtc. -/
def alarmSetting (c : Cmd) (rtc : Nat) (a : Alarm) : Alarm :=
  { a with
    kind := fld (wd c.words 0) 9 8
    armed := fld (wd c.words 0) 9 8 != 0
    date := if fld (wd c.words 0) 9 8 = 1 then wd c.words 1 else 0
    time := if fld (wd c.words 0) 9 8 = 0 then 0 else wd c.words 2
    from_ := rtc + 1 }

/-- The alarm named holds the setting carried. -/
def alarmReplaced (c : Cmd) (t : TimeState) : TimeState := { t with alarm := upd t.alarm (alarmNamed c) (alarmSetting c t.rtc) }

/-- The row on the state in which its packet is taken. -/
def setAlarmBody (p : Port) (c : Cmd) (s : State) : State :=
  if fld (wd c.words 0) 9 8 == 1 && decide (alarmInstant (wd c.words 1) (wd c.words 2) ≤ s.time.rtc) then reject p c 0x1012 0 s
  else ok p c 0 [] (s.onTime (alarmReplaced c))

theorem exec_timeSetAlarm (p : Port) (s : State) :
    exec (.timeSetAlarm p) s = .next (runOpV .timeSetAlarm p (fun c _ => alarmBad c) (setAlarmBody p) s) := rfl

theorem alarmBad_off {c : Cmd} (h : fld (wd c.words 0) 9 8 = 0) : alarmBad c = none := by simp [alarmBad, h]

theorem alarmBad_valid {c : Cmd} (hdate : fld (wd c.words 0) 9 8 = 1 → validDate (fld (wd c.words 1) 31 16) (fld (wd c.words 1) 15 8) (fld (wd c.words 1) 7 0) = true)
    (hzero : wd c.words 2 &&& 0xFFE0C0C0 = 0) (htime : validTime (fld (wd c.words 2) 20 16) (fld (wd c.words 2) 13 8) (fld (wd c.words 2) 5 0) = true) :
    alarmBad c = none := by
  simp only [alarmBad, hzero, htime]
  by_cases hkind : fld (wd c.words 0) 9 8 = 1
  · simp [hkind, hdate hkind]
  · simp [hkind]

theorem alarmSetting_off {c : Cmd} (h : fld (wd c.words 0) 9 8 = 0) (rtc : Nat) (a : Alarm) :
    alarmSetting c rtc a = { a with kind := 0, armed := false, date := 0, time := 0, from_ := rtc + 1 } := by
  simp [alarmSetting, h]

theorem alarmSetting_on {c : Cmd} (h : fld (wd c.words 0) 9 8 = 1 ∨ fld (wd c.words 0) 9 8 = 2) (rtc : Nat) (a : Alarm) :
    alarmSetting c rtc a = { a with
      kind := fld (wd c.words 0) 9 8, armed := true, date := (if fld (wd c.words 0) 9 8 = 1 then wd c.words 1 else 0), time := wd c.words 2, from_ := rtc + 1 } := by
  have hkind : fld (wd c.words 0) 9 8 ≠ 0 := by omega
  simp [alarmSetting, hkind]

theorem alarmReplaced_named (c : Cmd) (t : TimeState) : (alarmReplaced c t).alarm[alarmNamed c] = alarmSetting c t.rtc t.alarm[alarmNamed c] := upd_self _ _ _

theorem alarmReplaced_other {c : Cmd} {j : Fin 2} (h : j ≠ alarmNamed c) (t : TimeState) : (alarmReplaced c t).alarm[j] = t.alarm[j] := upd_other _ _ _ _ h

theorem alarmReplaced_alarm (c : Cmd) (t : TimeState) (i : Fin 2) :
    (alarmReplaced c t).alarm[i] = if i.val = b2n (bit (wd c.words 0) 0) then alarmSetting c t.rtc t.alarm[i] else t.alarm[i] := by
  split
  · next h => rw [eq_alarmNamed h, alarmReplaced_named]
  · next h => exact alarmReplaced_other (fun e => h ((congrArg Fin.val e).trans (alarmNamed_val c))) t

theorem alarmReplaced_fired (c : Cmd) (t : TimeState) (i : Fin 2) : ((alarmReplaced c t).alarm[i]).fired = (t.alarm[i]).fired := by
  rw [alarmReplaced_alarm]
  split <;> rfl

theorem alarmReplaced_skip (c : Cmd) (t : TimeState) (i : Fin 2) : ((alarmReplaced c t).alarm[i]).skip = (t.alarm[i]).skip := by
  rw [alarmReplaced_alarm]
  split <;> rfl

/-- A setting clears nothing in RTC_CTL (R102). -/
theorem rtcCtl_alarmReplaced (c : Cmd) (t : TimeState) : rtcCtl (alarmReplaced c t) = rtcCtl t := by
  have hfired0 : ((alarmReplaced c t).alarm[0]).fired = (t.alarm[0]).fired := alarmReplaced_fired c t 0
  have hfired1 : ((alarmReplaced c t).alarm[1]).fired = (t.alarm[1]).fired := alarmReplaced_fired c t 1
  have hskip0 : ((alarmReplaced c t).alarm[0]).skip = (t.alarm[0]).skip := alarmReplaced_skip c t 0
  have hskip1 : ((alarmReplaced c t).alarm[1]).skip = (t.alarm[1]).skip := alarmReplaced_skip c t 1
  rw [rtcCtl, hfired0, hfired1, hskip0, hskip1]
  rfl

section
variable {p : Port} {c : Cmd} {s : State} (h : Heard p c s) (ho : c.op = .timeSetAlarm) (hbad : alarmBad c = none)
include h ho hbad

theorem setAlarm_replaces (hfuture : fld (wd c.words 0) 9 8 = 1 → s.time.rtc < alarmInstant (wd c.words 1) (wd c.words 2)) :
    ∃ t, Steps (.timeSetAlarm p) s t ∧ SameBut [.host, .maint, .sys, .time] s t ∧ Replied p c 0 0 0 [] t ∧ t.time = alarmReplaced c s.time := by
  have hstep := steps_of_heard_checked (exec_timeSetAlarm p s) h ho hbad
  have hnot : ¬ (fld (wd c.words 0) 9 8 == 1 && decide (alarmInstant (wd c.words 1) (wd c.words 2) ≤ (taken p s).time.rtc)) = true := by
    rw [taken_time]
    simpa using hfuture
  rw [setAlarmBody, if_neg hnot] at hstep
  refine ⟨_, hstep, exec_frame hstep, ok_replied (h.taken.of_outstanding ?_) 0 [], ?_⟩
  · rw [State.onTime_port]
    rfl
  · rw [ok_time, State.onTime_time, taken_time]

theorem setAlarm_past (hkind : fld (wd c.words 0) 9 8 = 1) (hpast : alarmInstant (wd c.words 1) (wd c.words 2) ≤ s.time.rtc) :
    ∃ t, Steps (.timeSetAlarm p) s t ∧ AnswersOnly p c 3 0x1012 0 [] s t := by
  have hstep := steps_of_heard_checked (exec_timeSetAlarm p s) h ho hbad
  have hyes : (fld (wd c.words 0) 9 8 == 1 && decide (alarmInstant (wd c.words 1) (wd c.words 2) ≤ (taken p s).time.rtc)) = true := by
    rw [taken_time]
    simpa [hkind] using hpast
  rw [setAlarmBody, if_pos hyes] at hstep
  exact ⟨_, hstep, reject_answersOnly h _ _⟩

end

theorem AnswersOnly.outcome {p : Port} {c : Cmd} {cls st detail : Nat} {ws : List Word} {s t : State} (h : AnswersOnly p c cls st detail ws s t) :
    SameBut [.host, .maint, .sys] s t ∧ Replied p c cls st detail ws t := by
  obtain ⟨hstore, -, -, hsame⟩ := h
  exact ⟨hsame, _, hstore⟩

/-! TIME_GET_ALARM (R423). -/

theorem timeGetAlarm_answers {p : Port} {c : Cmd} {s : State} (h : Heard p c s) (ho : c.op = .timeGetAlarm) :
    ∃ t, Steps (.timeGetAlarm p) s t ∧ AnswersOnly p c 0 0 0 [pk [(b2n (s.time.alarm[alarmNamed c]).armed, 16), ((s.time.alarm[alarmNamed c]).kind, 8),
      ((alarmNamed c).val, 0)], (s.time.alarm[alarmNamed c]).date, (s.time.alarm[alarmNamed c]).time] s t :=
  steps_answersOnly rfl h ho (by cases p <;> rfl)

/-! TIME_SET_RTC (R96, R100, Table 4-3). -/

/-- The time that a TIME_SET_RTC carries. -/
def rtcCarried (c : Cmd) : Nat :=
  rtcTicks (fld (wd c.words 0) 31 16) (fld (wd c.words 0) 15 8) (fld (wd c.words 0) 7 0) (fld (wd c.words 1) 20 16) (fld (wd c.words 1) 13 8)
    (fld (wd c.words 1) 5 0) (fld (wd c.words 2) 14 0)

/-- The row on the state in which its packet is taken. -/
def setRtcBody (p : Port) (c : Cmd) (s : State) : State :=
  let u := pending p c (if rtcApply c = 0 then 1 else 2001) s
  if rtcApply c = 0 then captureTime { val := rtcCarried c, source := 0x80 + portNum p, at_ := u.time.now, cmd := some (p, c.tag) } u
  else if rtcApply c = 2 && u.time.source != .gnss then reject p c 0x1011 0 u
  else u.onTime fun t => { t with
    ppsWait := t.ppsWait ++ [{ port := p, tag := c.tag, val := if rtcApply c = 1 then some (rtcCarried c) else none, since := t.mt }] }

theorem exec_timeSetRtc (p : Port) (s : State) : exec (.timeSetRtc p) s = .next (runOpV .timeSetRtc p (fun c _ => rtcBad c) (setRtcBody p) s) := rfl

theorem rtcApply_basic {c : Cmd} (h : c.expert = false) : rtcApply c = 0 := by simp [rtcApply, h]

theorem setRtcBody_basic (p : Port) {c : Cmd} (h : c.expert = false) (s : State) : setRtcBody p c s =
    captureTime { val := rtcCarried c, source := 0x80 + portNum p, at_ := s.time.now, cmd := some (p, c.tag) } (pending p c 1 s) := by
  simp only [setRtcBody, rtcApply_basic h, if_true, pending_time]

theorem rtcBad_basic_valid {c : Cmd} (h : c.expert = false) (hdate : validDate (fld (wd c.words 0) 31 16) (fld (wd c.words 0) 15 8) (fld (wd c.words 0) 7 0) = true)
    (htime : validTime (fld (wd c.words 1) 20 16) (fld (wd c.words 1) 13 8) (fld (wd c.words 1) 5 0) = true) : rtcBad c = none := by
  simp [rtcBad, rtcApply_basic h, hdate, htime]

theorem rtcBad_basic_date {c : Cmd} (h : c.expert = false) (hdate : validDate (fld (wd c.words 0) 31 16) (fld (wd c.words 0) 15 8) (fld (wd c.words 0) 7 0) = false) :
    rtcBad c = some 0 := by
  simp [rtcBad, rtcApply_basic h, hdate]

/-- With no capture before it, a capture withdraws no command. -/
theorem captureTime_first {s : State} (h : s.time.load = none) (l : RtcLoad) : captureTime l s = s.onTime fun t => { t with load := some l } := by
  rw [captureTime, h]

end Sys2Proof.Machine

open Sys2Proof Sys2Proof.Machine

/-- Settles O13: a firing changes the alarms alone in the clock (fireAlarm_time), and each command is its row's body on the state in which its packet is taken. -/
theorem alarmsFireAndClockCommandsSetWhatTheyCarry : Obligations.AlarmsFireAndClockCommandsSetWhatTheyCarry := by
  unfold Obligations.AlarmsFireAndClockCommandsSetWhatTheyCarry
  refine ⟨?fire, ?off, ?on, ?past, ?setRtc, ?badRtc, ?get⟩
  case fire =>
    intro a m s harmed hnext hv hr
    have halarm : ((fireAlarm a false (alarmNoticed a m s)).time.alarm[a]) =
        firedAlarm false (!s.sys.vmain) { s.time.alarm[a] with from_ := (m + 1) % rtcSpan } := by
      simp only [fireAlarm_time, alarmNoticed_alarm, upd_self]
      rfl
    refine ⟨_, steps_alarmFire harmed hnext, (congrArg Alarm.fired halarm :), (congrArg Alarm.armed halarm :), (congrArg Alarm.time halarm :),
      (congrArg Alarm.from_ halarm :), fun b hb => ?_, fireAlarm_occurred a false hv hr⟩
    simp only [fireAlarm_time, alarmNoticed_alarm, upd_other _ _ _ _ hb]
  case off =>
    intro p c s h ho hkind
    obtain ⟨t, hstep, hsame, hreply, htime⟩ := setAlarm_replaces h ho (alarmBad_off hkind) (fun h1 => by omega)
    refine ⟨t, hstep, hsame, hreply, fun i => ?_⟩
    rw [htime, alarmReplaced_alarm, alarmSetting_off hkind]
  case on =>
    intro p c s h ho hkind honeShot hzero htime
    obtain ⟨t, hstep, hsame, hreply, htime⟩ := setAlarm_replaces h ho (alarmBad_valid (fun h1 => (honeShot h1).1) hzero htime) (fun h1 => (honeShot h1).2)
    refine ⟨t, hstep, hsame, hreply, fun i => ?_⟩
    rw [htime, alarmReplaced_alarm, alarmSetting_on hkind]
  case past =>
    intro p c s h ho hkind hdate hzero htime hpast
    obtain ⟨t, hstep, hanswer⟩ := setAlarm_past h ho (alarmBad_valid (fun _ => hdate) hzero htime) hkind hpast
    exact ⟨t, hstep, hanswer.outcome⟩
  case setRtc =>
    intro p c s h ho hbasic hload hdate htime
    have hsame := pending_taken_same p c 1 s
    have hpend : (pending p c 1 (taken p s)).time = s.time := hsame .time (by decide)
    have hstep := steps_of_heard_checked (exec_timeSetRtc p s) h ho (rtcBad_basic_valid hbasic hdate htime)
    rw [setRtcBody_basic p hbasic, captureTime_first (by rw [hpend]; exact hload), taken_time] at hstep
    refine ⟨_, hstep, (hsame.mono rfl).onTime _ rfl, (pending_taken_accepted h 1).of_port (State.onTime_port _ _ _), ?_⟩
    rw [State.onTime_time, hpend]
    rfl
  case badRtc =>
    intro p c s h ho hbasic hdate
    exact ⟨_, steps_of_heard_bad (exec_timeSetRtc p s) h ho (rtcBad_basic_date hbasic hdate), (reject_answersOnly h 0xF016 0).outcome⟩
  case get =>
    intro p c i s h ho hi
    obtain rfl := eq_alarmNamed hi
    obtain ⟨t, hstep, hanswer⟩ := timeGetAlarm_answers h ho
    exact ⟨t, hstep, hanswer.outcome⟩

/-- Settles O55: a valid setting replaces that of the alarm named (setAlarm_replaces), and a setting touches no bit of RTC_CTL (rtcCtl_alarmReplaced). -/
theorem alarmSettingsReplaceOrStay : Obligations.AlarmSettingsReplaceOrStay := by
  unfold Obligations.AlarmSettingsReplaceOrStay
  refine ⟨?off, ?on, ?past⟩
  case off =>
    intro p c i s h ho hkind hi
    obtain rfl := eq_alarmNamed hi
    obtain ⟨t, hstep, -, hreply, htime⟩ := setAlarm_replaces h ho (alarmBad_off hkind) (fun h1 => by omega)
    refine ⟨t, hstep, hreply, by rw [htime, rtcCtl_alarmReplaced], fun j hj => by rw [htime, alarmReplaced_other hj], ?_⟩
    rw [htime, alarmReplaced_named, alarmSetting_off hkind]
  case on =>
    intro p c i s h ho hkind hi honeShot hzero htime
    obtain rfl := eq_alarmNamed hi
    obtain ⟨t, hstep, -, hreply, htime⟩ := setAlarm_replaces h ho (alarmBad_valid (fun h1 => (honeShot h1).1) hzero htime) (fun h1 => (honeShot h1).2)
    refine ⟨t, hstep, hreply, by rw [htime, rtcCtl_alarmReplaced], fun j hj => by rw [htime, alarmReplaced_other hj], ?_⟩
    rw [htime, alarmReplaced_named, alarmSetting_on hkind]
  case past => exact fun p c s h ho hkind hdate hzero htime hpast => setAlarm_past h ho (alarmBad_valid (fun _ => hdate) hzero htime) hkind hpast
end

section

/-! The time source, the pulse, and commands that wait for a pulse (4.8). -/

namespace Sys2Proof.Machine

/-! The source changes (R108). -/

theorem setSource_time (x : TimeSource) (s : State) : (setSource x s).time = { s.time with source := x } := by
  unfold setSource
  split
  · next h => rw [← h]
  · rw [raise_time]
    rfl

theorem setSource_occurred {x : TimeSource} {s u : State} (hx : u.time.source ≠ x) (hr : u.hp.ready = true) (he : u.ev.src = s.ev.src) :
    Occurred 21 (sourceCode x) s (setSource x u) := by
  rw [setSource, if_neg hx]
  exact raise_occurred _ hr (by decide) he

/-! A solution is lost (R111). -/

/-- Holdover begins with the estimate as it stands; no step was planned. -/
def holdoverBegun (t : TimeState) : TimeState := { t with sats := 0, errNs := timeErr t, holdSince := some t.mt, slew := 0, step := none }

theorem State.onTime_congr {f g : TimeState → TimeState} {s : State} (h : f s.time = g s.time) : s.onTime f = s.onTime g := by
  simp only [State.onTime, h]

theorem timeLoss_unplanned {s : State} (hgnss : s.time.source = .gnss) (hstep : s.time.step = none) :
    timeLoss s = setSource .holdover (s.onTime holdoverBegun) := by
  rw [timeLoss, if_pos hgnss]
  exact congrArg (setSource .holdover) (State.onTime_congr (by simp [holdoverBegun, hstep]))

theorem steps_timeSolutionLoss {s : State} (hlost : ∀ b : Fin 2, (s.gnss.bb[b]).timeOk = false) : Steps .timeSolutionLoss s (timeLoss s) := by
  have hnone : (s.gnss.bb.toList.any fun b => b.timeOk) = false := by
    simp only [List.any_eq_false, Vector.mem_toList_iff, Vector.mem_iff_getElem]
    rintro _ ⟨i, hi, rfl⟩
    simpa using hlost ⟨i, hi⟩
  change execTimeSolutionLoss s = _
  rw [execTimeSolutionLoss, hnone]
  rfl

/-! A solution returns (R108, R109, R112). -/

theorem steps_timeSolutionReturn {x : TimeSol} {s : State} (h : timeAllowed s x.bb ((s.gnss.bb[x.bb]).fix != 0) = true) :
    Steps (.timeSolutionReturn x) s (timeSolution (atAntenna s x) s) := by
  change execTimeSolutionReturn x s = _
  rw [execTimeSolutionReturn, if_pos h]

theorem steps_timeSolutionReturn_refused {x : TimeSol} {s : State} (h : timeAllowed s x.bb ((s.gnss.bb[x.bb]).fix != 0) = false) :
    Steps (.timeSolutionReturn x) s s := by
  change execTimeSolutionReturn x s = _
  rw [execTimeSolutionReturn, h]
  rfl

/-- The first time since power-on stands on the second that the solution names. -/
def firstTime (x : TimeSol) (week : Nat) (t : TimeState) : TimeState := { t with errNs := x.errNs, tow := x.tow, week := week, ppsAt := x.sec }

/-- A small phase error is slewed: the holdover is over. -/
def slewPlanned (x : TimeSol) (e : Int) (t : TimeState) : TimeState :=
  { t with errNs := x.errNs, slew := rne e 1000, holdSince := none, holdRaised := false }

/-- A large one waits for its step. -/
def stepPlanned (x : TimeSol) (e : Int) (t : TimeState) : TimeState := { t with step := some (e, x.errNs) }

section
variable {x : TimeSol} {s : State}

theorem timeSolution_first (h : s.time.source = .none) :
    timeSolution x s = setSource .gnss ((timeFigures x s).onTime (firstTime x (weekNow x.tow s))) := by
  rw [timeSolution, h]
  rfl

theorem timeSolution_slew (h : s.time.source = .holdover) (he : (phaseError x s.time).natAbs ≤ 2000000) :
    timeSolution x s = setSource .gnss ((timeFigures x s).onTime (slewPlanned x (phaseError x s.time))) := by
  simp only [timeSolution, h, he, if_true]
  rfl

theorem timeSolution_step (h : s.time.source = .holdover) (he : 2000000 < (phaseError x s.time).natAbs) :
    timeSolution x s = setSource .gnss ((timeFigures x s).onTime (stepPlanned x (phaseError x s.time))) := by
  simp only [timeSolution, h, Nat.not_le.2 he, if_false]
  rfl

/-- The source becomes GNSS with a solution's figures. -/
theorem figures_occurred (f : TimeState → TimeState) (hf : ∀ t, (f t).source = t.source) (h : s.time.source ≠ .gnss) (hr : s.hp.ready = true) :
    Occurred 21 1 s (setSource .gnss ((timeFigures x s).onTime f)) :=
  setSource_occurred (x := .gnss) (by rw [State.onTime_time, hf]; exact h) hr rfl

end

/-! HOLDOVER_LIMIT (R111). -/

/-- The estimate of a holdover since m has crossed the limit. -/
def limitCrossed (m : Nat) (s : State) : State :=
  (advanceTo (m + cdiv (((wd (s.inForce .cfgModule) 1).toNat * 1000 - s.time.errNs) * secTicks) 10) s).onTime fun t => { t with holdRaised := true }

theorem steps_holdoverLimit {m : Nat} {s : State} (hm : s.time.holdSince = some m) (hsource : s.time.source = .holdover) (honce : s.time.holdRaised = false) :
    Steps .holdoverLimit s (raise 22 0 (limitCrossed m s)) := by
  change execHoldoverLimit s = _
  simp only [execHoldoverLimit, hm, hsource, honce]
  rfl

/-! PPS_EDGE (R109, R112). -/

theorem steps_ppsEdge_step {e : Int} {n : Nat} {s : State} (hsource : s.time.source = .gnss ∨ s.time.source = .holdover) (hstep : s.time.step = some (e, n)) :
    Steps .ppsEdge s (timeStep e n s) := by
  change execPpsEdge s = _
  rcases hsource with h | h <;> simp [execPpsEdge, h, hstep]

theorem steps_ppsEdge_pulse {s : State} (hsource : s.time.source = .gnss ∨ s.time.source = .holdover) (hstep : s.time.step = none) :
    Steps .ppsEdge s (ppsPulse (ppsCount s.time) (ppsExact s.time) (advanceTo (ppsDue s.time) s)) := by
  change execPpsEdge s = _
  rcases hsource with h | h <;> simp [execPpsEdge, h, hstep]

/-- Time has stepped by e at its boundary. -/
def stepped (e : Int) (n : Nat) (t : TimeState) : TimeState :=
  { t with step := none, holdSince := none, holdRaised := false, errNs := n, skip := if 0 < e then 0 else 1, offset := e }

/-- The instant at which time steps. -/
def stepInstant (e : Int) (s : State) : State :=
  if 0 < s.time.mtPps then advanceTo (rne (s.time.ppsAt + (if 0 < e then 0 else 1) * ppsSecond s.time.fErr + e) 10000).toNat s else s

theorem timeStep_eq (e : Int) (n : Nat) (s : State) :
    timeStep e n s = raise 20 (BitVec.ofInt 16 (clampI (-32767) 32767 (rne e 1000000))).toNat ((stepInstant e s).onTime (stepped e n)) := rfl

theorem stepInstant_same (e : Int) (s : State) : SameBut [.time] s (stepInstant e s) := by
  unfold stepInstant
  split
  · exact advanceTo_same _ s
  · exact SameBut.refl _ s

/-- A pulse rises, n seconds after the one before and on the second exact. -/
def pulseRisen (n : Nat) (exact : Int) (t : TimeState) : TimeState := { t with
  mtPps := t.mt
  ppsAt := exact
  ppsHigh := some (t.mt + 10000000)
  week := if 604800 ≤ t.tow + n then t.week + 1 else t.week
  tow := (t.tow + n) % 604800
  skip := 0
  offset := 0
  slew := t.slew - clampI (-50) 50 t.slew }

theorem ppsPulse_idle (n : Nat) (exact : Int) {s : State} (h : s.time.ppsWait = []) :
    ppsPulse n exact s = s.onTime fun t => { pulseRisen n exact t with ppsWait := [] } := by
  simp only [ppsPulse, State.onTime_time, h]
  rfl

/-! PPS_MISSED_TIMEOUT (R100). -/

/-- The oldest waiting command has waited 2 s. -/
def missed (w : PpsWait) (ws : List PpsWait) (s : State) : State := (advanceTo (w.since + 2 * secTicks) s).onTime fun t => { t with ppsWait := ws }

theorem steps_ppsMissedTimeout {w : PpsWait} {ws : List PpsWait} {s : State} (h : s.time.ppsWait = w :: ws) :
    Steps .ppsMissedTimeout s (finish w.port w.tag 0 0x1013 0 [] (missed w ws s)) := by
  change execPpsMissedTimeout s = _
  rw [execPpsMissedTimeout, h]
  rfl

/-! The week (R110). -/

theorem resolveWeek_window (im : Fin 2) (w : Nat) :
    (Config.baseWeek im).toNat ≤ resolveWeek im w ∧ resolveWeek im w < (Config.baseWeek im).toNat + 1024 :=
  ⟨Nat.le_add_right _ _, Nat.add_lt_add_left (Nat.mod_lt _ (by decide)) _⟩

theorem resolveWeek_mod (im : Fin 2) {w : Nat} (h : w < 1024) : resolveWeek im w % 1024 = w := by
  have hbase : (Config.baseWeek im).toNat < 2 ^ 16 := (Config.baseWeek im).isLt
  simp only [resolveWeek]
  omega

end Sys2Proof.Machine

open Sys2Proof Sys2Proof.Machine

/-- Settles O14: each row by its equation for the source and the step planned; a change of source is EV21 (setSource_occurred). -/
theorem timeSourceFollowsTheSolution : Obligations.TimeSourceFollowsTheSolution := by
  unfold Obligations.TimeSourceFollowsTheSolution
  refine ⟨?loss, ?first, ?slew, ?step, ?refused, ?limit, ?stepEdge, ?pulse, ?missed⟩
  case loss =>
    intro s hgnss hstep hr hlost
    have hloss := steps_timeSolutionLoss hlost
    rw [timeLoss_unplanned hgnss hstep] at hloss
    refine ⟨_, hloss, ?_, ?_, ?_, ?_, ?_,
      setSource_occurred (x := .holdover) (by rw [State.onTime_time, holdoverBegun, hgnss]; decide) hr rfl, setSource_events _ _⟩ <;>
      rw [setSource_time] <;> rfl
  case first =>
    intro x s hnone hallowed hr
    have hstep := steps_timeSolutionReturn hallowed
    rw [timeSolution_first hnone] at hstep
    refine ⟨_, hstep, ?_, ?_, ?_, ?_, figures_occurred _ (fun _ => rfl) (by rw [hnone]; decide) hr⟩ <;> rw [setSource_time] <;> rfl
  case slew =>
    intro x s hhold hallowed he hr
    have hstep := steps_timeSolutionReturn hallowed
    rw [timeSolution_slew hhold he] at hstep
    refine ⟨_, hstep, ?_, ?_, ?_, ?_, figures_occurred _ (fun _ => rfl) (by rw [hhold]; decide) hr⟩ <;> rw [setSource_time] <;> rfl
  case step =>
    intro x s hhold hallowed he hr
    have hstep := steps_timeSolutionReturn hallowed
    rw [timeSolution_step hhold he] at hstep
    refine ⟨_, hstep, ?_, ?_, ?_, figures_occurred _ (fun _ => rfl) (by rw [hhold]; decide) hr⟩ <;> rw [setSource_time] <;> rfl
  case refused => exact fun x s hno => steps_timeSolutionReturn_refused hno
  case limit =>
    intro m s hm hsource honce hr
    refine ⟨_, steps_holdoverLimit hm hsource honce, ?_, ?_, raise_occurred 0 hr (by decide) rfl, raise_eventsBut 0 rfl⟩ <;> rw [raise_time]
    · rfl
    · exact hsource
  case stepEdge =>
    intro e n s hsource hstep hr
    have hsame := stepInstant_same e s
    have hev : ((stepInstant e s).onTime (stepped e n)).ev.src = s.ev.src := congrArg EvState.src (hsame .ev (by decide))
    have hready : (stepInstant e s).hp.ready = true := (congrArg HpState.ready (hsame .hp (by decide))).trans hr
    have hedge := steps_ppsEdge_step hsource hstep
    rw [timeStep_eq] at hedge
    refine ⟨_, hedge, ?_, ?_, ?_, raise_occurred _ hready (by decide) hev, raise_eventsBut _ hev⟩ <;>
      rw [raise_time] <;> rfl
  case pulse =>
    intro s hsource hstep hwait
    have hpulse := steps_ppsEdge_pulse hsource hstep
    rw [ppsPulse_idle (s := advanceTo (ppsDue s.time) s) _ _ hwait] at hpulse
    exact ⟨_, hpulse, (advanceTo_same _ s).onTime _ rfl, rfl, rfl, rfl, rfl, rfl, rfl⟩
  case missed =>
    intro w ws op s hwait hw
    refine ⟨_, steps_ppsMissedTimeout hwait, finish_answered (hw.of_outstanding ?_) 0 0x1013 0 [], ?_, ?_⟩
    · cases w.port <;> rfl
    · rw [finish_time]; rfl
    · rw [finish_time]; rfl

/-- Settles O60: the residue is added to the base week, which 16 bits hold. -/
theorem weekIsResolvedIntoTheWindowOfTheImage : Obligations.WeekIsResolvedIntoTheWindowOfTheImage := by
  unfold Obligations.WeekIsResolvedIntoTheWindowOfTheImage
  intro im w h
  obtain ⟨hlo, hhi⟩ := resolveWeek_window im w
  exact ⟨hlo, hhi, resolveWeek_mod im h⟩
end
section

/-! The basebands of the GNSS die (5.2, 5.3): what its operations make of a baseband, of an antenna input and of a channel. -/

namespace Sys2Proof.Machine

/-- A change that leaves the element as it is leaves the vector as it is. -/
theorem upd_of_fixed {α : Type} {n : Nat} {v : Vector α n} {i : Fin n} {f : α → α} (h : f v[i] = v[i]) : upd v i f = v := by
  rw [upd, h]
  exact Vector.set_getElem_self i.isLt

theorem bbOn_ready {s : State} {b : Fin 2} (h : bbOn s b = true) : s.hp.ready = true := by
  simp only [bbOn, Bool.and_eq_true] at h
  exact h.1.1.1

/-! One baseband changes, the other stays. -/

section
variable {a b : Fin 2} {ch k : Fin 32}

theorem onBb_self (b : Fin 2) (f : Baseband → Baseband) (s : State) : (onBb b f s).gnss.bb[b] = f s.gnss.bb[b] := upd_self _ _ _

theorem onBb_other (f : Baseband → Baseband) (s : State) (h : a ≠ b) : (onBb b f s).gnss.bb[a] = s.gnss.bb[a] := upd_other _ _ _ _ h

theorem onChan_self (b : Fin 2) (ch : Fin 32) (f : Channel → Channel) (s : State) :
    ((onChan b ch f s).gnss.bb[b]).chans[ch] = f (s.gnss.bb[b]).chans[ch] := by
  rw [onChan, onBb_self]
  exact upd_self _ _ _

theorem onChan_other (b : Fin 2) (f : Channel → Channel) (s : State) (h : k ≠ ch) :
    ((onChan b ch f s).gnss.bb[b]).chans[k] = (s.gnss.bb[b]).chans[k] := by
  rw [onChan, onBb_self]
  exact upd_other _ _ _ _ h

theorem onChan_bb_other (ch : Fin 32) (f : Channel → Channel) (s : State) (h : a ≠ b) : (onChan b ch f s).gnss.bb[a] = s.gnss.bb[a] :=
  onBb_other _ s h

/-! The fix kind (R126). -/

/-- The fix kind is stored whether it changes or not; the event touches no baseband. -/
theorem setFix_gnss (b : Fin 2) (k : Nat) (s : State) : (setFix b k s).gnss = (onBb b (fun x => { x with fix := k }) s).gnss := by
  unfold setFix
  split
  case isTrue h =>
    have hfixed : upd s.gnss.bb b (fun x => { x with fix := k }) = s.gnss.bb := upd_of_fixed (by rw [← h])
    rw [onBb, State.onGnss_gnss, hfixed]
  case isFalse => exact raise_gnss _ _ _

theorem setFix_occurred {b : Fin 2} {k : Nat} {s : State} (hr : s.hp.ready = true) (h : (s.gnss.bb[b]).fix ≠ k) :
    Occurred 26 (b.val * 256 + k) s (setFix b k s) := by
  rw [setFix, if_neg h]
  exact raise_occurred _ hr (by decide) rfl

/-- A fix that ends. -/
theorem setFix_none_occurred {b : Fin 2} {s : State} (hr : s.hp.ready = true) (h : (s.gnss.bb[b]).fix ≠ 0) :
    Occurred 26 (b.val * 256) s (setFix b 0 s) := by
  simpa only [Nat.add_zero] using setFix_occurred hr h

/-- A baseband that idles: no channel, no solution, no fix. -/
def idled (x : Baseband) : Baseband := { x with chans := Vector.replicate 32 {}, awaiting := false, timeOk := false, fix := 0 }

theorem onBb_comp (b : Fin 2) (f g : Baseband → Baseband) (s : State) : onBb b g (onBb b f s) = onBb b (fun x => g (f x)) s := by
  simp [onBb, upd, State.onGnss]

/-- What becomes of a baseband is read from the GNSS state alone. -/
theorem onBb_gnss_congr {s t : State} (b : Fin 2) (f : Baseband → Baseband) (h : t.gnss = s.gnss) : (onBb b f t).gnss = (onBb b f s).gnss := by
  rw [onBb, onBb, State.onGnss_gnss, State.onGnss_gnss, h]

theorem bbIdle_gnss (b : Fin 2) (s : State) : (bbIdle b s).gnss = (onBb b idled s).gnss := by
  rw [bbIdle, setFix_gnss, onBb_comp]
  rfl

/-! The antenna inputs (R116, R117). -/

/-- An antenna input whose class is seen at an instant. -/
def antSeen (cls now : Nat) (x : Baseband) : Baseband := { x with ant := cls, shortAt := if cls = 2 then now else x.shortAt }

section
variable {cls : Nat} {s : State}

theorem setAnt_of_ne (h : (s.gnss.bb[a]).ant ≠ cls) :
    setAnt a cls s = raise (if a.val = 0 then 24 else 25) cls (onBb a (antSeen cls s.time.mt) s) := by
  rw [setAnt, if_neg h]
  by_cases ha : a.val = 0 <;> simp only [ha] <;> rfl

/-- A change of class is stored and raised, and leaves the other baseband alone. -/
theorem setAnt_outcome (hr : s.hp.ready = true) (h : (s.gnss.bb[a]).ant ≠ cls) :
    ((setAnt a cls s).gnss.bb[a]).ant = cls ∧ (∀ b : Fin 2, b ≠ a → (setAnt a cls s).gnss.bb[b] = s.gnss.bb[b]) ∧
    (a.val = 0 → Occurred 24 cls s (setAnt a cls s)) ∧ (a.val = 1 → Occurred 25 cls s (setAnt a cls s)) := by
  rw [setAnt_of_ne h, raise_gnss]
  refine ⟨?_, fun b hb => onBb_other _ s hb, fun ha => ?_, fun ha => ?_⟩
  · rw [onBb_self]; rfl
  · rw [if_pos ha]
    exact raise_occurred cls hr (by decide) rfl
  · rw [if_neg (by omega)]
    exact raise_occurred cls hr (by decide) rfl

end

theorem exec_antennaStateChange (a : Fin 2) (cls : Fin 4) (s : State) :
    exec (.antennaStateChange a cls) s = .next (if s.hp.ready && antBias s a then setAnt a cls.val s else s) := rfl

theorem steps_antennaStateChange {a : Fin 2} {s : State} (hr : s.hp.ready = true) (hb : antBias s a = true) (cls : Fin 4) :
    Steps (.antennaStateChange a cls) s (setAnt a cls.val s) := by
  rw [Steps, exec_antennaStateChange, hr, hb]
  rfl

theorem steps_antennaStateChange_same {a : Fin 2} {cls : Fin 4} {s : State} (h : antBias s a = false ∨ (s.gnss.bb[a]).ant = cls.val) :
    Steps (.antennaStateChange a cls) s s := by
  rw [Steps, exec_antennaStateChange]
  rcases h with h | h
  · rw [h, Bool.and_false]
    rfl
  · rw [setAnt, if_pos h, ite_self]

/-- A shorted input whose bias could return. -/
def Shorted (a : Fin 2) (s : State) : Prop := s.hp.ready = true ∧ gnssDom s a ≠ .off ∧ biasOn s a = true ∧ (s.gnss.bb[a]).ant = 2

/-- The instant of the retry, 10 s after the switch-off. -/
def retryAt (a : Fin 2) (s : State) : State := advanceTo ((s.gnss.bb[a]).shortAt + 10 * secTicks) s

theorem retryAt_same (a : Fin 2) (s : State) : SameBut [.time] s (retryAt a s) := advanceTo_same _ s

theorem steps_antennaShortRetry {a : Fin 2} {s : State} (h : Shorted a s) (still : Bool) :
    Steps (.antennaShortRetry a still) s
      (if still then onBb a (fun x => { x with shortAt := (retryAt a s).time.mt }) (retryAt a s) else setAnt a 0 (retryAt a s)) := by
  obtain ⟨hr, hdom, hbias, hant⟩ := h
  have hguard : ((s.gnss.bb[a]).ant != 2 || !s.hp.ready || gnssDom s a == .off || !biasOn s a) = false := by
    rw [hant, hr, hbias, beq_eq_false_iff_ne.2 hdom]
    rfl
  change execAntennaShortRetry a still s = _
  rw [execAntennaShortRetry, hguard]
  rfl

/-! The channels (Table 5-4, R118, R119). -/

/-- A channel that reaches the next state of Table 5-4. -/
def reached (prn : Nat) (st : Fin 6) (dbl : Bool) (now : Nat) (c : Channel) : Channel := { c with
  st := st
  prn := if st.val = 1 && c.prn = 0 then prn else c.prn
  dd := if st.val = 1 then dbl else c.dd
  trackSince := if st.val = 3 then now else c.trackSince
  lockSince := if st.val = 3 then now else c.lockSince }

theorem reached_assigns {st : Fin 6} {c : Channel} (prn : Nat) (dbl : Bool) (now : Nat) (h1 : st.val = 1) (h0 : c.prn = 0) :
    (reached prn st dbl now c).prn = prn := by simp [reached, h1, h0]

theorem reached_keeps_prn {c : Channel} (prn : Nat) (st : Fin 6) (dbl : Bool) (now : Nat) (h0 : c.prn ≠ 0) : (reached prn st dbl now c).prn = c.prn := by
  simp [reached, h0]

theorem reached_lockSince {st : Fin 6} (prn : Nat) (dbl : Bool) (now : Nat) (c : Channel) (h3 : st.val = 3) :
    (reached prn st dbl now c).lockSince = now := if_pos h3

/-- A channel that lost its satellite. -/
def lockLost (now : Nat) (c : Channel) : Channel := { c with st := 1, slip := true, lockSince := now, sub := Vector.replicate 10 none }

/-- A channel whose carrier slipped. -/
def carrierSlipped (now : Nat) (c : Channel) : Channel := { c with slip := true, lockSince := now }

section
variable {s : State}

theorem steps_channelAcquisition {prn : Nat} {st : Fin 6} (hon : bbOn s b = true) (hst : st.val = ((s.gnss.bb[b]).chans[ch]).st.val + 1) :
    Steps (.channelAcquisition b ch prn st) s (onChan b ch (reached prn st (dllDouble s) s.time.mt) s) := by
  change execChannelAcquisition b ch prn st s = _
  rw [execChannelAcquisition, if_neg (by simp [hon, hst])]
  rfl

theorem steps_channelLossOfLock (hon : bbOn s b = true) (hst : 2 ≤ ((s.gnss.bb[b]).chans[ch]).st.val) :
    Steps (.channelLossOfLock b ch) s (onChan b ch (lockLost s.time.mt) s) := by
  change execChannelLossOfLock b ch s = _
  have hlocked : ¬ ((s.gnss.bb[b]).chans[ch]).st.val ≤ 1 := by omega
  simp only [execChannelLossOfLock, hon, hlocked]
  rfl

theorem steps_cycleSlip (hon : bbOn s b = true) (hst : 3 ≤ ((s.gnss.bb[b]).chans[ch]).st.val) :
    Steps (.cycleSlip b ch) s (onChan b ch (carrierSlipped s.time.mt) s) := by
  change execCycleSlip b ch s = _
  have htracks : ¬ ((s.gnss.bb[b]).chans[ch]).st.val < 3 := by omega
  simp only [execCycleSlip, hon, htracks]
  rfl

theorem steps_channelLossOfLock_same (hst : ((s.gnss.bb[b]).chans[ch]).st.val ≤ 1) : Steps (.channelLossOfLock b ch) s s := by
  change execChannelLossOfLock b ch s = _
  rw [execChannelLossOfLock, if_pos (by simp only [hst, decide_true, Bool.or_true])]

theorem steps_cycleSlip_same (hst : ((s.gnss.bb[b]).chans[ch]).st.val ≤ 1) : Steps (.cycleSlip b ch) s s := by
  have hsearches : ((s.gnss.bb[b]).chans[ch]).st.val < 3 := by omega
  change execCycleSlip b ch s = _
  rw [execCycleSlip, if_pos (by simp only [hsearches, decide_true, Bool.or_true])]

end
end

end Sys2Proof.Machine
end
section

/-! Navigation data (5.4): a word on a channel, a whole subframe, the shared store. -/

namespace Sys2Proof.Machine

section
variable {b : Fin 2} {ch : Fin 32} {idx : Fin 10} {raw : BitVec 30} {s : State}

/-- A channel that has taken a word: its last two bits, its parity counter, its place in the subframe (R120). -/
def wordTaken (idx : Fin 10) (raw : BitVec 30) (good : Bool) (d : Nat) (c : Channel) : Channel := { c with
  d29 := raw.getLsbD 1, d30 := raw.getLsbD 0
  parityErr := if good then c.parityErr else inc32 c.parityErr
  sub := (if idx.val = 0 then Vector.replicate 10 none else c.sub).set idx (if good then some d else none) }

/-- The parity of a word on a channel, with the last bits of the word before it. -/
def wordGood (c : Channel) (raw : BitVec 30) : Bool := navParity raw c.d29 c.d30

/-- The module after a word on a channel, before its subframe is looked at: the channel and the stream. -/
def wordHeard (b : Fin 2) (ch : Fin 32) (idx : Fin 10) (raw : BitVec 30) (s : State) : State :=
  let c := (s.gnss.bb[b]).chans[ch]
  stream 0x2A4 b.val (w64 s.time.mt ++ [pk [(b2n !wordGood c raw, 30), (c.prn - 1, 25), (b.val, 24), ((navData raw c.d30).toNat, 0)]])
    (onChan b ch (wordTaken idx raw (wordGood c raw) (navData raw c.d30).toNat) s)

theorem wordHeard_same (b : Fin 2) (ch : Fin 32) (idx : Fin 10) (raw : BitVec 30) (s : State) :
    SameBut [.host, .maint, .gnss] s (wordHeard b ch idx raw s) :=
  (((SameBut.refl _ s).step (onChan_same _ _ _ _) rfl).step (stream_same _ _ _ _) rfl)

theorem wordHeard_gnss (b : Fin 2) (ch : Fin 32) (idx : Fin 10) (raw : BitVec 30) (s : State) :
    (wordHeard b ch idx raw s).gnss = (onChan b ch (wordTaken idx raw (wordGood (s.gnss.bb[b]).chans[ch] raw)
      (navData raw ((s.gnss.bb[b]).chans[ch]).d30).toNat) s).gnss := stream_gnss _ _ _ _

theorem wordHeard_chan (b : Fin 2) (ch : Fin 32) (idx : Fin 10) (raw : BitVec 30) (s : State) :
    ((wordHeard b ch idx raw s).gnss.bb[b]).chans[ch] = wordTaken idx raw (wordGood (s.gnss.bb[b]).chans[ch] raw)
      (navData raw ((s.gnss.bb[b]).chans[ch]).d30).toNat (s.gnss.bb[b]).chans[ch] := by
  rw [wordHeard_gnss, onChan_self]

theorem steps_navWordDecoded (hon : bbOn s b = true) (hst : ((s.gnss.bb[b]).chans[ch]).st = 5) :
    Steps (.navWordDecoded b ch idx raw) s
      (if idx.val = 9 then subframeDone b ch (wordHeard b ch idx raw s) else wordHeard b ch idx raw s) := by
  change execNavWordDecoded b ch idx raw s = _
  simp only [execNavWordDecoded, hon, hst]
  rfl

theorem steps_lastWord (hon : bbOn s b = true) (hst : ((s.gnss.bb[b]).chans[ch]).st = 5) (raw : BitVec 30) :
    Steps (.navWordDecoded b ch 9 raw) s (subframeDone b ch (wordHeard b ch 9 raw s)) := steps_navWordDecoded hon hst

/-- What a word that passes parity, and one that fails, leave of its channel. -/
theorem wordTaken_sub (idx : Fin 10) (raw : BitVec 30) (good : Bool) (d : Nat) (c : Channel) :
    (wordTaken idx raw good d c).sub[idx] = if good then some d else none := Vector.getElem_set_self _

/-- A subframe with a word missing is not used. -/
theorem subframeDone_missing {k : Fin 10} (h : ((s.gnss.bb[b]).chans[ch]).sub[k] = none) : subframeDone b ch s = s := by
  have hany : (((s.gnss.bb[b]).chans[ch]).sub.toList.any fun w => w.isNone) = true :=
    List.any_eq_true.2 ⟨_, Vector.mem_toList_iff.2 (Vector.getElem_mem k.isLt), by simpa using h⟩
  rw [subframeDone, if_pos hany]

/-- A subframe 1 to 3 that completes a good set of three puts it into the shared store. -/
theorem subframeDone_set {i : Fin 32} {k : Fin 3} {ws : List Nat} {sf : Vector (List Nat) 3}
    (hprn : ((s.gnss.bb[b]).chans[ch]).prn = i.val + 1) (hws : ((s.gnss.bb[b]).chans[ch]).sub.toList = ws.map some)
    (hid : ws.getD 1 0 / 4 % 8 = k.val + 1) (hsf : sf = ((s.gnss.bb[b]).chans[ch]).sf.set k (ws.drop 2)) (hall : ∀ j : Fin 3, sf[j] ≠ [])
    (hgood : setGood sf[0] sf[1] sf[2] = true) :
    ∃ u, subframeDone b ch s = storeSet i (sf[0] ++ sf[1] ++ sf[2]) u ∧ SameBut [.gnss] s u ∧ u.gnss.nav = s.gnss.nav := by
  have hany : ((ws.map some).any fun w => w.isNone) = false := by simp
  have hdata : ((ws.map some).map fun w => w.getD 0) = ws := by simp
  have hword : ((ws.map some).getD 1 none).getD 0 = ws.getD 1 0 := by
    simp only [List.getD_eq_getElem?_getD, List.getElem?_map]
    cases ws[1]? <;> rfl
  have hk : (if k.val + 1 = 0 then none else fin? 3 (k.val + 1 - 1)) = some k := by simp
  have hi : (if i.val + 1 = 0 then none else fin? 32 (i.val + 1 - 1)) = some i := by simp
  have hfull : (sf.toList.all fun l => !l.isEmpty) = true := by
    simp only [List.all_eq_true, Vector.mem_toList_iff, Vector.mem_iff_getElem]
    rintro _ ⟨j, hj, rfl⟩
    simpa using hall ⟨j, hj⟩
  simp only [subframeDone, hws, hany, hdata, hword, hid, hprn, hk, hi, ← hsf, hfull, hgood]
  refine ⟨_, rfl, ?_, ?_⟩
  · refine SameBut.trans ?_ (onChan_same _ _ _ _)
    split
    · exact (SameBut.refl _ s).onGnss _ rfl
    · exact SameBut.refl _ s
  · split <;> rfl

/-- A stored set has the issue of another with another content (R122). -/
def conflicts (n : NavSat) (set : List Nat) : Bool := !n.set.isEmpty && iodeOf n.set == iodeOf set && n.set != set

theorem conflicts_iff (n : NavSat) (set : List Nat) : conflicts n set = true ↔ n.set ≠ [] ∧ iodeOf n.set = iodeOf set ∧ n.set ≠ set := by
  simp [conflicts, and_assoc]

theorem storeSet_of_included {i : Fin 32} (set : List Nat) (hx : (s.gnss.nav[i]).excluded = false) : storeSet i set s =
    if conflicts s.gnss.nav[i] set then
      raise 29 (i.val + 1) (s.onGnss fun g => { g with nav := g.nav.set i { s.gnss.nav[i] with excluded := true, seen := [set] } })
    else s.onGnss fun g => { g with nav := g.nav.set i { set := set } } := by
  simp only [storeSet, hx]
  rfl

/-- A set enters the store of a satellite without one, or with one of another issue (R122). -/
theorem storeSet_new {i : Fin 32} {set : List Nat} (hx : (s.gnss.nav[i]).excluded = false)
    (h : (s.gnss.nav[i]).set = [] ∨ iodeOf (s.gnss.nav[i]).set ≠ iodeOf set) : (storeSet i set s).gnss.nav[i] = { set := set } := by
  have hno : ¬ conflicts s.gnss.nav[i] set = true := by
    rw [conflicts_iff]
    tauto
  rw [storeSet_of_included set hx, if_neg hno]
  exact Vector.getElem_set_self _

/-- One of the same issue with another content excludes the satellite (R122). -/
theorem storeSet_conflict {i : Fin 32} {set : List Nat} (hr : s.hp.ready = true) (hx : (s.gnss.nav[i]).excluded = false)
    (hne : (s.gnss.nav[i]).set ≠ []) (hiode : iodeOf (s.gnss.nav[i]).set = iodeOf set) (hset : (s.gnss.nav[i]).set ≠ set) :
    ((storeSet i set s).gnss.nav[i]).excluded = true ∧ Occurred 29 (i.val + 1) s (storeSet i set s) := by
  rw [storeSet_of_included set hx, if_pos ((conflicts_iff _ _).2 ⟨hne, hiode, hset⟩)]
  refine ⟨?_, raise_occurred _ hr (by decide) rfl⟩
  rw [raise_gnss]
  exact congrArg NavSat.excluded (Vector.getElem_set_self _)

end

end Sys2Proof.Machine
end
section

/-! Corrections (5.7): transport frames, the station's place, the corrections of an epoch and whether they may be used. -/

namespace Sys2Proof.Machine

section
variable {data m : List Byte} {s : State}

/-- The receiver hears RTCM: PD4 is on and the assigned UART has PROTOCOL 3. -/
def HearsRtcm (u : Fin 10) (s : State) : Prop := pd4On s = true ∧ rtcmPort s = u.val ∧ uartProto s u = 3

section
variable {u : Fin 10} (h : HearsRtcm u s)
include h

theorem exec_rtcmFrame_none (hm : rtcmMessage data = none) :
    exec (.rtcmFrame data) s = .next (s.onGnss fun g => { g with rtcmCrcErr := inc32 g.rtcmCrcErr }) := by
  obtain ⟨hpd, hport, hproto⟩ := h
  change execRtcmFrame data s = _
  simp [execRtcmFrame, hpd, hport, hproto, hm]

theorem exec_rtcmFrame_some (hm : rtcmMessage data = some m) :
    exec (.rtcmFrame data) s = .next (
      if rtcmFld m 0 12 = 1005 ∧ 19 ≤ m.length ∧ rtcmFld m 30 1 = 1 then take1005 m s
      else if rtcmFld m 0 12 = 1004 ∧ 64 + 125 * rtcmFld m 55 5 ≤ 8 * m.length then take1004 m s
      else s.onGnss fun g => { g with rtcmIgnored := inc32 g.rtcmIgnored }) := by
  obtain ⟨hpd, hport, hproto⟩ := h
  change execRtcmFrame data s = _
  simp [execRtcmFrame, hpd, hport, hproto, hm]

theorem steps_rtcmFrame_ignored (hm : rtcmMessage data = some m)
    (hnum : (rtcmFld m 0 12 ≠ 1004 ∧ rtcmFld m 0 12 ≠ 1005) ∨ (rtcmFld m 0 12 = 1005 ∧ rtcmFld m 30 1 = 0)) :
    Steps (.rtcmFrame data) s (s.onGnss fun g => { g with rtcmIgnored := inc32 g.rtcmIgnored }) := by
  rw [Steps, exec_rtcmFrame_some h hm, if_neg (by omega), if_neg (by omega)]

theorem steps_rtcmFrame_1005 (hm : rtcmMessage data = some m) (hnum : rtcmFld m 0 12 = 1005) (hlen : 19 ≤ m.length) (hgps : rtcmFld m 30 1 = 1) :
    Steps (.rtcmFrame data) s (take1005 m s) := by
  rw [Steps, exec_rtcmFrame_some h hm, if_pos ⟨hnum, hlen, hgps⟩]

theorem steps_rtcmFrame_1004 (hm : rtcmMessage data = some m) (hnum : rtcmFld m 0 12 = 1004) (hlen : 64 + 125 * rtcmFld m 55 5 ≤ 8 * m.length) :
    Steps (.rtcmFrame data) s (take1004 m s) := by
  rw [Steps, exec_rtcmFrame_some h hm, if_neg (by omega), if_pos ⟨hnum, hlen⟩]

end

theorem steps_rtcmFrame_off (hoff : pd4On s = false) : Steps (.rtcmFrame data) s s := by
  change execRtcmFrame data s = _
  simp [execRtcmFrame, hoff]

/-! Whether the corrections may be used (R128). -/

theorem stationPass_congr {t : State} (hcfg : t.cfg = s.cfg) (st : Nat) : stationPass t st = stationPass s st := by
  simp only [stationPass, rtcmW, State.inForce, hcfg]

theorem arpOf_congr {t : State} (harps : t.gnss.arps = s.gnss.arps) (st : Nat) : arpOf t st = arpOf s st := by
  simp only [arpOf, harps]

/-- The station whose corrections may be used is read from the GNSS state and the configuration. -/
theorem stationArp_congr {t : State} (hstation : t.gnss.rtcmStation = s.gnss.rtcmStation) (harps : t.gnss.arps = s.gnss.arps) (hcfg : t.cfg = s.cfg) :
    stationArp t = stationArp s := by
  unfold stationArp
  rw [hstation]
  cases s.gnss.rtcmStation with
  | none => rfl
  | some st =>
    change (if stationPass t st then arpOf t st else none) = if stationPass s st then arpOf s st else none
    rw [stationPass_congr hcfg, arpOf_congr harps]

/-- The reason why the corrections are unusable, 0 where they are usable: no place of their station, too old, too far. -/
def unusable (at_ : Nat) (s : State) : Nat :=
  match stationArp s with
  | none => 2
  | some arp => if !decide (at_ ≤ s.gnss.corrMt + maxAge s * secTicks) then 1 else if !arpNear s arp then 3 else 0

theorem rtcmCheck_eq (at_ : Nat) (s : State) : rtcmCheck at_ s =
    if s.gnss.rtcmOk && unusable at_ s != 0 then raise 28 (unusable at_ s) (s.onGnss fun g => { g with rtcmOk := unusable at_ s == 0 })
    else s.onGnss fun g => { g with rtcmOk := unusable at_ s == 0 } := rfl

theorem unusable_le (at_ : Nat) (s : State) : unusable at_ s ≤ 3 := by
  unfold unusable
  split
  · decide
  · split
    · decide
    · split <;> decide

theorem unusable_eq_zero_iff (at_ : Nat) (s : State) :
    unusable at_ s = 0 ↔ at_ ≤ s.gnss.corrMt + maxAge s * secTicks ∧ ∃ arp, stationArp s = some arp ∧ arpNear s arp = true := by
  unfold unusable
  cases stationArp s with
  | none => simp
  | some arp => by_cases hage : at_ ≤ s.gnss.corrMt + maxAge s * secTicks <;> cases hnear : arpNear s arp <;> simp [hage, hnear]

theorem rtcmCheck_gnss (at_ : Nat) (s : State) : (rtcmCheck at_ s).gnss = { s.gnss with rtcmOk := unusable at_ s == 0 } := by
  rw [rtcmCheck_eq]
  split
  · rw [raise_gnss]; rfl
  · rfl

/-- A change to unusable is EV28 with its reason. -/
theorem rtcmCheck_occurred {at_ : Nat} (hr : s.hp.ready = true) (hwas : s.gnss.rtcmOk = true) (hbad : (unusable at_ s == 0) = false) :
    ∃ d, 1 ≤ d ∧ d ≤ 3 ∧ Occurred 28 d s (rtcmCheck at_ s) := by
  have hne : unusable at_ s ≠ 0 := by simpa using hbad
  refine ⟨unusable at_ s, Nat.one_le_iff_ne_zero.2 hne, unusable_le at_ s, ?_⟩
  rw [rtcmCheck_eq, if_pos (by simp [hwas, hne])]
  exact raise_occurred _ hr (by decide) rfl

/-! A 1005 (R127). -/

/-- The place of a station is known. -/
def placed (m : List Byte) (s : State) : State := s.onGnss fun g => { g with
  arps := (rtcmFld m 12 12, rtcmInt m 34 38, rtcmInt m 74 38, rtcmInt m 114 38) :: g.arps.filter fun a => a.1 != rtcmFld m 12 12 }

theorem take1005_eq (m : List Byte) (s : State) : take1005 m s = rtcmCheck s.time.mt (placed m s) := rfl

/-! A 1004 (R127). -/

/-- The corrections are those of this message's station, at its epoch. -/
def stationTaken (m : List Byte) (s : State) : State := s.onGnss fun g => { g with
  corr := if g.rtcmStation = some (rtcmFld m 12 12) then g.corr else [], rtcmStation := some (rtcmFld m 12 12), corrMt := mtOfTow (rtcmFld m 24 30) s }

/-- The corrections that a message forms. -/
def formed (m : List Byte) (s : State) : List Corr :=
  match arpOf s (rtcmFld m 12 12) with
  | some arp => (List.range (rtcmFld m 55 5)).filterMap (formCorr (stationTaken m s) (mtOfTow (rtcmFld m 24 30) s) (rtcmFld m 24 30) arp m)
  | none => []

/-- The corrections in force after a message: those it forms, and those of the other satellites. -/
def corrAfter (m : List Byte) (s : State) : List Corr :=
  formed m s ++ (stationTaken m s).gnss.corr.filter fun c => !(formed m s).any fun x => x.prn == c.prn

/-- The message is taken, and its use not yet decided. -/
def corrected1004 (m : List Byte) (s : State) : State := (stationTaken m s).onGnss fun g => { g with corr := corrAfter m s }

theorem take1004_eq (m : List Byte) (s : State) : take1004 m s = rtcmCheck s.time.mt (corrected1004 m s) := rfl

theorem corrected1004_gnss (m : List Byte) (s : State) : (corrected1004 m s).gnss =
    { s.gnss with rtcmStation := some (rtcmFld m 12 12), corrMt := mtOfTow (rtcmFld m 24 30) s, corr := corrAfter m s } := rfl

/-- Without the place of its station a message's corrections are unusable. -/
theorem unusable_of_no_arp (at_ : Nat) (h : arpOf s (rtcmFld m 12 12) = none) : (unusable at_ (corrected1004 m s) == 0) = false := by
  have hnone : stationArp (corrected1004 m s) = none := by
    change (if stationPass s (rtcmFld m 12 12) then arpOf s (rtcmFld m 12 12) else none) = none
    rw [h, ite_self]
  simp [unusable, hnone]

/-- A correction that is formed has a valid pseudorange and a stored set, and is the computed range less the reference's. -/
theorem formCorr_some {mt ms k : Nat} {arp : Int × Int × Int} {x : Corr} (h : formCorr s mt ms arp m k = some x) :
    ∃ i : Fin 32, rtcmFld m (64 + 125 * k) 6 = i.val + 1 ∧ rtcmFld m (70 + 125 * k) 1 = 0 ∧ rtcmFld m (71 + 125 * k) 24 ≠ 0x80000 ∧
      (s.gnss.nav[i]).set ≠ [] ∧ x.prn = i.val + 1 ∧ x.iode = iodeOf (s.gnss.nav[i]).set ∧ x.mt = mt ∧
      x.prc = Config.satGeometry (s.gnss.nav[i]).set ms arp - (rtcmFld m (122 + 125 * k) 8 * 299792458 + rtcmFld m (71 + 125 * k) 24 * 20 : Nat) := by
  have e6 : 64 + 125 * k + 6 = 70 + 125 * k := by omega
  have e7 : 64 + 125 * k + 7 = 71 + 125 * k := by omega
  have e58 : 64 + 125 * k + 58 = 122 + 125 * k := by omega
  simp only [formCorr, e6, e7, e58] at h
  split at h
  case h_1 => cases h
  case h_2 i hi =>
    have hprn : rtcmFld m (64 + 125 * k) 6 = i.val + 1 := by
      split at hi
      · cases hi
      · next hpos =>
        simp only [fin?] at hi
        split at hi
        · cases hi
          exact (Nat.succ_pred_eq_of_ne_zero hpos).symm
        · cases hi
    split at h
    case isTrue => cases h
    case isFalse hok =>
      simp only [Bool.or_eq_true, decide_eq_true_eq, List.isEmpty_iff, not_or] at hok
      obtain ⟨⟨hcode, hpr⟩, hset⟩ := hok
      have hbit : rtcmFld m (70 + 125 * k) 1 < 2 := Nat.mod_lt _ (by decide)
      cases h
      refine ⟨i, hprn, by omega, hpr, hset, hprn, rfl, rfl, ?_⟩
      push_cast
      rfl

theorem mem_formed {x : Corr} (h : x ∈ formed m s) :
    ∃ k arp, k < rtcmFld m 55 5 ∧ arpOf s (rtcmFld m 12 12) = some arp ∧
      formCorr (stationTaken m s) (mtOfTow (rtcmFld m 24 30) s) (rtcmFld m 24 30) arp m k = some x := by
  unfold formed at h
  split at h
  case h_1 arp harp =>
    obtain ⟨k, hk, hform⟩ := List.mem_filterMap.1 h
    exact ⟨k, arp, List.mem_range.1 hk, harp, hform⟩
  case h_2 => cases h

/-- A correction in force stood before, for the same station, or is formed. -/
theorem mem_corrAfter {x : Corr} (h : x ∈ corrAfter m s) :
    (x ∈ s.gnss.corr ∧ s.gnss.rtcmStation = some (rtcmFld m 12 12)) ∨ x ∈ formed m s := by
  rcases List.mem_append.1 h with h | h
  · exact .inr h
  · have hold : x ∈ if s.gnss.rtcmStation = some (rtcmFld m 12 12) then s.gnss.corr else [] := List.mem_of_mem_filter h
    split at hold
    · next hst => exact .inl ⟨hold, hst⟩
    · cases hold

end

end Sys2Proof.Machine
end
section

/-! Interference and faults of a baseband (R134). -/

namespace Sys2Proof.Machine

section
variable {b : Fin 2} {s : State}

theorem steps_gnssInterference {noise avg : Int} {rise : Bool} (hon : bbOn s b = true) (hrise : rise = decide (avg + 10 * fld (gnssW s 1) 23 16 ≤ noise))
    (hne : (s.gnss.bb[b]).interf ≠ rise) :
    Steps (.gnssInterference b noise avg) s (raise 30 (b.val * 256 + b2n rise) (onBb b (fun x => { x with interf := rise }) s)) := by
  subst hrise
  change execGnssInterference b noise avg s = _
  simp only [execGnssInterference, hon, bne_iff_ne.2 hne]
  rfl

theorem bbIdle_occurred (hr : s.hp.ready = true) (h : (s.gnss.bb[b]).fix ≠ 0) : Occurred 26 (b.val * 256) s (bbIdle b s) := by
  rw [bbIdle]
  generalize hf : (fun x : Baseband => { x with chans := Vector.replicate 32 {}, awaiting := false, timeOk := false }) = f
  have hfix : ((onBb b f s).gnss.bb[b]).fix ≠ 0 := by
    rw [onBb_self, ← hf]
    exact h
  exact (setFix_none_occurred (s := onBb b f s) hr hfix).after_events (.of_same (onBb_same b f s) (by decide) : EventsBut [] s (onBb b f s)) (by decide)

/-- The fault is marked and raised. -/
def faulted (b : Fin 2) (s : State) : State := raise 31 b.val (onBb b (fun x => { x with out := true }) s)

theorem bbFail_eq (h : (s.gnss.bb[b]).out = false) : bbFail b s = bbIdle b (faulted b s) := if_neg (ne_true_of_eq_false h)

theorem faulted_gnss (b : Fin 2) (s : State) : (faulted b s).gnss = (onBb b (fun x => { x with out := true }) s).gnss := raise_gnss _ _ _

theorem bbFail_gnss (h : (s.gnss.bb[b]).out = false) : (bbFail b s).gnss = (onBb b (fun x => idled { x with out := true }) s).gnss := by
  rw [bbFail_eq h, bbIdle_gnss, onBb_gnss_congr b idled (faulted_gnss b s), onBb_comp]

/-- The fix that a fault ends is raised (R126). -/
theorem bbFail_fix_occurred (hr : s.hp.ready = true) (h : (s.gnss.bb[b]).out = false) (hfix : (s.gnss.bb[b]).fix ≠ 0) :
    Occurred 26 (b.val * 256) s (bbFail b s) := by
  rw [bbFail_eq h]
  have hready : (faulted b s).hp.ready = true := (congrArg HpState.ready (raise_hp _ _ _)).trans hr
  have hstill : ((faulted b s).gnss.bb[b]).fix ≠ 0 := by rwa [faulted_gnss, onBb_self]
  exact (bbIdle_occurred hready hstill).after_events (l := [31, 120]) (raise_eventsBut _ rfl) (by decide)

end

end Sys2Proof.Machine

open Sys2Proof Sys2Proof.Machine

/-- Settles O40: each row by its equation, read through the lemmas on one baseband, one channel, the store and the corrections. -/
theorem antennasChannelsNavigationDataAndCorrections : Obligations.AntennasChannelsNavigationDataAndCorrections := by
  unfold Obligations.AntennasChannelsNavigationDataAndCorrections
  refine ⟨?change, ?noChange, ?retried, ?stillShort, ?acquired, ?lost, ?slip, ?searching, ?word, ?badLast, ?subframe, ?badFrame, ?ignored, ?station,
    ?corrections, ?uartOff, ?interference, ?fault, ?out⟩
  case change =>
    intro a cls s hr hbias hne
    exact ⟨_, steps_antennaStateChange hr hbias cls, setAnt_outcome hr hne⟩
  case noChange => exact fun a cls s h => steps_antennaStateChange_same h
  case retried =>
    intro a s hr hdom hbias hshort
    have hne : ((retryAt a s).gnss.bb[a]).ant ≠ 0 := by
      rw [retryAt_same a s .gnss (by decide), hshort]
      decide
    have hready : (retryAt a s).hp.ready = true := (congrArg HpState.ready (retryAt_same a s .hp (by decide))).trans hr
    obtain ⟨hant, hother, ha, hb⟩ := setAnt_outcome hready hne
    have hev : EventsBut [] s (retryAt a s) := .of_same (retryAt_same a s) (by decide)
    refine ⟨_, steps_antennaShortRetry ⟨hr, hdom, hbias, hshort⟩ false, hant, fun b h => (hother b h).trans ?_,
      fun h => (ha h).after_events hev (by decide), fun h => (hb h).after_events hev (by decide)⟩
    rw [retryAt_same a s .gnss (by decide)]
  case stillShort =>
    intro a s hr hdom hbias hshort
    refine ⟨_, steps_antennaShortRetry ⟨hr, hdom, hbias, hshort⟩ true, ?_, retryAt_same a s .ev (by decide), fun b h => ?_⟩
    · rw [if_pos rfl, onBb_self, retryAt_same a s .gnss (by decide)]
      exact hshort
    · rw [if_pos rfl, onBb_other _ _ h, retryAt_same a s .gnss (by decide)]
  case acquired =>
    intro b ch prn st s hon hst
    have hstep := steps_channelAcquisition (prn := prn) hon hst
    refine ⟨_, hstep, exec_frame hstep, ?_, fun h1 h0 => ?_, fun h0 => ?_, fun h3 => ?_, fun k hk => onChan_other b _ s hk,
      fun a ha => onChan_bb_other ch _ s ha⟩ <;> rw [onChan_self]
    · rfl
    · exact reached_assigns prn _ _ h1 h0
    · exact reached_keeps_prn prn st _ _ h0
    · exact reached_lockSince prn _ _ _ h3
  case lost =>
    intro b ch s hon hst
    have hstep := steps_channelLossOfLock hon hst
    refine ⟨_, hstep, exec_frame hstep, ?_, ?_, ?_, ?_, fun k hk => onChan_other b _ s hk, fun a ha => onChan_bb_other ch _ s ha⟩ <;>
      rw [onChan_self, lockLost]
  case slip =>
    intro b ch s hon hst
    have hstep := steps_cycleSlip hon hst
    exact ⟨_, hstep, exec_frame hstep, onChan_self b ch _ s, fun k hk => onChan_other b _ s hk, fun a ha => onChan_bb_other ch _ s ha⟩
  case searching => exact fun b ch s h => ⟨steps_channelLossOfLock_same h, steps_cycleSlip_same h⟩
  case word =>
    intro b ch idx raw s hon hst hidx
    have hstep := steps_navWordDecoded (idx := idx) (raw := raw) hon hst
    rw [if_neg hidx] at hstep
    refine ⟨_, hstep, ?_, ?_, ?_, fun hgood => ?_, fun hbad => ?_⟩
    · rw [wordHeard_gnss]; rfl
    · rw [wordHeard_chan]; rfl
    · rw [wordHeard_chan]; rfl
    · rw [wordHeard_chan, wordTaken_sub, wordGood, hgood]
      exact ⟨rfl, rfl⟩
    · rw [wordHeard_chan, wordTaken_sub, wordGood, hbad]
      exact ⟨rfl, rfl⟩
  case badLast =>
    intro b ch raw s hon hst hbad
    have hstep := steps_lastWord hon hst raw
    have hmissing : (((wordHeard b ch 9 raw s).gnss.bb[b]).chans[ch]).sub[(9 : Fin 10)] = none := by
      rw [wordHeard_chan, wordTaken_sub, wordGood, hbad]
      rfl
    rw [subframeDone_missing hmissing] at hstep
    refine ⟨_, hstep, ?_, ?_, ?_⟩
    · rw [wordHeard_gnss]; rfl
    · rw [wordHeard_gnss]; rfl
    · rw [wordHeard_chan, wordGood, hbad]; rfl
  case subframe =>
    intro b ch raw i k ws sf s hon hst hprn hgood hws hid hsf hall hset hin
    have hstep := steps_lastWord hon hst raw
    have hchan := wordHeard_chan b ch 9 raw s
    rw [wordGood, hgood] at hchan
    have hsame := wordHeard_same b ch 9 raw s
    have hnav : (wordHeard b ch 9 raw s).gnss.nav = s.gnss.nav := by rw [wordHeard_gnss]; rfl
    obtain ⟨u, hdone, husame, hunav⟩ := subframeDone_set (b := b) (ch := ch) (s := wordHeard b ch 9 raw s) (i := i) (k := k) (ws := ws) (sf := sf)
      (by rw [hchan]; exact hprn) (by rw [hchan]; exact hws) hid (by rw [hchan]; exact hsf) hall hset
    rw [hdone] at hstep
    have hstore : u.gnss.nav = s.gnss.nav := hunav.trans hnav
    have hready : u.hp.ready = true := by rw [husame .hp (by decide), hsame .hp (by decide)]; exact bbOn_ready hon
    have hev : EventsBut [] s u := (EventsBut.of_same hsame (by decide)).trans (.of_same husame (by decide))
    rw [← hstore] at hin ⊢
    refine ⟨_, hstep, storeSet_new hin, fun hne hiode hother => ?_⟩
    obtain ⟨hexcluded, hoccurred⟩ := storeSet_conflict hready hin hne hiode hother
    exact ⟨hexcluded, hoccurred.after_events hev (by decide)⟩
  case badFrame =>
    intro u data s _ hpd hport hproto hm
    exact ⟨_, exec_rtcmFrame_none ⟨hpd, hport, hproto⟩ hm, (SameBut.refl _ s).onGnss _ rfl, rfl⟩
  case ignored =>
    intro u data m s _ hpd hport hproto hm hnum
    exact ⟨_, steps_rtcmFrame_ignored ⟨hpd, hport, hproto⟩ hm hnum, (SameBut.refl _ s).onGnss _ rfl, rfl⟩
  case station =>
    intro u data m s hr hpd hport hproto hm hnum hlen hgps
    have hstep := steps_rtcmFrame_1005 ⟨hpd, hport, hproto⟩ hm hnum hlen hgps
    rw [take1005_eq] at hstep
    have harp : stationArp (rtcmCheck s.time.mt (placed m s)) = stationArp (placed m s) :=
      stationArp_congr (by rw [rtcmCheck_gnss]) (by rw [rtcmCheck_gnss]) (rtcmCheck_same _ _ .cfg (by decide))
    refine ⟨_, unusable s.time.mt (placed m s) == 0, hstep, rtcmCheck_gnss _ _, ?_, fun hwas hbad => rtcmCheck_occurred hr hwas hbad⟩
    rw [beq_iff_eq, unusable_eq_zero_iff, harp]
    rfl
  case corrections =>
    intro u data m st mt s hr hpd hport hproto hm hnum hlen hst hmt
    subst hst hmt
    have hstep := steps_rtcmFrame_1004 ⟨hpd, hport, hproto⟩ hm hnum hlen
    rw [take1004_eq] at hstep
    refine ⟨_, unusable s.time.mt (corrected1004 m s) == 0, corrAfter m s, hstep, rtcmCheck_gnss _ _, unusable_of_no_arp _, fun x hx => ?_,
      fun hwas hbad => rtcmCheck_occurred hr hwas hbad⟩
    refine (mem_corrAfter hx).imp_right fun hnew => ?_
    obtain ⟨k, arp, hk, harp, hform⟩ := mem_formed hnew
    obtain ⟨i, hsat, hcode, hpr, hset, hprn, hiode, hxmt, hprc⟩ := formCorr_some hform
    exact ⟨k, _, i, arp, hk, harp, hsat, hcode, rfl, hpr, hset, hprn, hiode, hxmt, hprc⟩
  case uartOff => exact fun data s h => steps_rtcmFrame_off h
  case interference =>
    intro b noise avg rise s hon hrise hne
    have hr : s.hp.ready = true := bbOn_ready hon
    refine ⟨_, steps_gnssInterference hon hrise hne, ?_, fun a ha => ?_, raise_occurred _ hr (by decide) rfl, raise_eventsBut _ rfl⟩
    · rw [raise_gnss, onBb_self]
    · rw [raise_gnss, onBb_other _ s ha]
  case fault =>
    intro b s hin hr
    refine ⟨bbFail b s, rfl, ?_, ?_, ?_, (bbFail_outcome hr hin).2, bbFail_fix_occurred hr hin, fun a ha => ?_⟩
    · rw [bbFail_gnss hin, onBb_self]; rfl
    · rw [bbFail_gnss hin, onBb_self]; rfl
    · rw [bbFail_gnss hin, onBb_self]; rfl
    · rw [bbFail_gnss hin, onBb_other _ s ha]
  case out =>
    intro b s hout
    change execGnssFault b s = _
    rw [execGnssFault, bbFail, if_pos hout]
end
section

/-! Position solutions (5.6, R124, R126): what a solution is read from, its residual test, the fix, the time solution beside it. -/

namespace Sys2Proof.Machine

section
variable {s t : State} {b : Fin 2} {q : PvtIn} {rows : List Nat}

/-! What a solution is read from: the channels and the configuration. -/

theorem rowsOf_congr (hchans : (t.gnss.bb[b]).chans = (s.gnss.bb[b]).chans) : rowsOf t b = rowsOf s b := by
  rw [rowsOf, hchans, rowsOf]

theorem cn0Mask_congr (hcfg : t.cfg = s.cfg) : cn0Mask t = cn0Mask s := by
  simp only [cn0Mask, gnssW, State.inForce, hcfg]

theorem solutionRows_congr (hcfg : t.cfg = s.cfg) (hchans : (t.gnss.bb[b]).chans = (s.gnss.bb[b]).chans) (q : PvtIn) :
    solutionRows b q t = solutionRows b q s := by
  rw [solutionRows, rowsOf_congr hchans, cn0Mask_congr hcfg, solutionRows]

theorem raimLimit_congr (hcfg : t.cfg = s.cfg) (n : Nat) : raimLimit t n = raimLimit s n := by
  simp only [raimLimit, gnssW, State.inForce, hcfg]

theorem residualTest_congr (hcfg : t.cfg = s.cfg) (rows : List Nat) (q : PvtIn) : residualTest t rows q = residualTest s rows q := by
  unfold residualTest
  extract_lets n out
  rw [raimLimit_congr hcfg, raimLimit_congr hcfg]

/-! The residual test (Table 5-7). -/

theorem residualTest_few (h : rows.length < 4) : residualTest s rows q = none := by
  rw [residualTest, if_pos h]

theorem residualTest_failed (hn : 4 < rows.length) (hstat : raimLimit s rows.length < q.stat)
    (hstat2 : rows.length < 6 ∨ raimLimit s (rows.length - 1) < q.stat2) : residualTest s rows q = none := by
  rw [residualTest, if_neg (by omega), if_neg (by omega), if_neg (by omega), if_neg (by omega)]

theorem residualTest_passed (h : rows.length = 4 ∨ (4 < rows.length ∧ q.stat ≤ raimLimit s rows.length)) :
    ∃ integ, residualTest s rows q = some (rows, integ, 0) := by
  unfold residualTest
  by_cases h4 : rows.length = 4
  · exact ⟨0, by rw [if_neg (by omega), if_pos h4]⟩
  · exact ⟨1, by rw [if_neg (by omega), if_neg h4, if_pos (by omega)]⟩

theorem residualTest_excluded (hn : 6 ≤ rows.length) (hstat : raimLimit s rows.length < q.stat) (hstat2 : q.stat2 ≤ raimLimit s (rows.length - 1)) :
    residualTest s rows q = some (rows.filter fun p => p != worstRow rows q.resid, 2, worstRow rows q.resid) := by
  rw [residualTest, if_neg (by omega), if_neg (by omega), if_neg (by omega), if_pos ⟨hn, hstat2⟩]

/-! The end of the solver's problem. -/

/-- The problem of a baseband is solved 4 ms after the epoch. -/
def problemDone (b : Fin 2) (s : State) : State := finishDp (fun w => w == .gnss b) (advanceTo (s.gnss.epoch + 4 * msTicks) s)

/-- Its solution is awaited no longer. -/
def solved (b : Fin 2) (s : State) : State := onBb b (fun x => { x with awaiting := false }) (problemDone b s)

theorem problemDone_same (b : Fin 2) (s : State) : SameBut [.host, .maint, .ev, .time, .solv, .log, .free] s (problemDone b s) :=
  ((SameBut.refl _ s).step (advanceTo_same _ s) rfl).step (finishDp_same _ _) rfl

theorem solved_same (b : Fin 2) (s : State) : SameBut [.host, .maint, .ev, .time, .gnss, .solv, .log, .free] s (solved b s) :=
  ((SameBut.refl _ s).step (problemDone_same b s) rfl).step (onBb_same _ _ _) rfl

theorem solved_events (b : Fin 2) (s : State) : EventsBut solverEvents s (solved b s) :=
  ((EventsBut.of_same (advanceTo_same _ s) (by decide)).trans (finishDp_solverKept _ _).events).trans (.of_same (onBb_same _ _ _) (by decide))

theorem solved_gnss (b : Fin 2) (s : State) : (solved b s).gnss = (onBb b (fun x => { x with awaiting := false }) s).gnss :=
  onBb_gnss_congr b _ (problemDone_same b s .gnss (by decide))

theorem solved_bb (b : Fin 2) (s : State) : (solved b s).gnss.bb[b] = { s.gnss.bb[b] with awaiting := false } := by
  rw [solved_gnss, onBb_self]

theorem solved_ready (b : Fin 2) (hr : s.hp.ready = true) : (solved b s).hp.ready = true :=
  (congrArg HpState.ready (solved_same b s .hp (by decide))).trans hr

theorem solved_solutionRows (b : Fin 2) (q : PvtIn) (s : State) : solutionRows b q (solved b s) = solutionRows b q s :=
  solutionRows_congr (solved_same b s .cfg (by decide)) (by rw [solved_bb]) q

theorem solved_residualTest (b : Fin 2) (rows : List Nat) (q : PvtIn) (s : State) : residualTest (solved b s) rows q = residualTest s rows q :=
  residualTest_congr (solved_same b s .cfg (by decide)) rows q

/-- Which satellites have a usable correction is not read from the basebands. -/
theorem onBb_corrected (b : Fin 2) (f : Baseband → Baseband) (s : State) : corrected (onBb b f s) = corrected s := rfl

theorem solved_corrected (b : Fin 2) (s : State) : corrected (solved b s) = corrected s := by
  rw [solved, onBb_corrected]
  exact (problemDone_same b s).read corrected rfl

/-! The two ends of GNSS_SOLUTION_COMPLETE. -/

/-- A solution that is not delivered. -/
def notDelivered (b : Fin 2) (q : PvtIn) (s : State) : State := measStream b [] (solutionTime b q false (tightReset b (setFix b 0 s)))

/-- A solution that passed its test, with the rows used, INTEGRITY and the excluded PRN. -/
def delivered (b : Fin 2) (q : PvtIn) (r : List Nat × Nat × Nat) (s : State) : State :=
  measStream b r.1 (solutionTime b q true (publishFix b q r.1 r.2.1 r.2.2 s))

/-- A solution after its problem. -/
def solutionEnd (b : Fin 2) (q : PvtIn) (s : State) : State :=
  match residualTest s (solutionRows b q s) q with
  | some r => delivered b q r s
  | none => notDelivered b q s

theorem epochLate_false (h : s.time.mt ≤ s.gnss.epoch + 8 * msTicks) : epochLate s = false := decide_eq_false (Nat.not_lt.2 h)

theorem steps_gnssSolutionComplete (q : PvtIn) (hawait : (s.gnss.bb[b]).awaiting = true) (hin : s.time.mt ≤ s.gnss.epoch + 8 * msTicks) :
    Steps (.gnssSolutionComplete b q) s (solutionEnd b q (solved b s)) := by
  change execGnssSolutionComplete b q s = _
  rw [execGnssSolutionComplete, hawait, epochLate_false hin, solved, problemDone, solutionEnd]
  generalize onBb b _ (finishDp _ _) = u
  dsimp only
  cases residualTest u (solutionRows b q u) q <;> rfl

theorem steps_gnssSolutionComplete_failed (hawait : (s.gnss.bb[b]).awaiting = true) (hin : s.time.mt ≤ s.gnss.epoch + 8 * msTicks)
    (htest : residualTest s (solutionRows b q s) q = none) : Steps (.gnssSolutionComplete b q) s (notDelivered b q (solved b s)) := by
  have hstep := steps_gnssSolutionComplete q hawait hin
  rwa [solutionEnd, solved_solutionRows, solved_residualTest, htest] at hstep

theorem steps_gnssSolutionComplete_passed {r : List Nat × Nat × Nat} (hawait : (s.gnss.bb[b]).awaiting = true)
    (hin : s.time.mt ≤ s.gnss.epoch + 8 * msTicks) (htest : residualTest s (solutionRows b q s) q = some r) :
    Steps (.gnssSolutionComplete b q) s (delivered b q r (solved b s)) := by
  have hstep := steps_gnssSolutionComplete q hawait hin
  rwa [solutionEnd, solved_solutionRows, solved_residualTest, htest] at hstep

/-! The time of a solution changes nothing of a baseband but whether it keeps a time solution. -/

/-- The GNSS state without the time solutions. -/
def untimed (g : GnssState) : GnssState := { g with bb := vmap g.bb fun x => { x with timeOk := false } }

theorem vmap_upd {α β : Type} {n : Nat} {v : Vector α n} {i : Fin n} {f : α → α} {g : α → β} (h : ∀ x, g (f x) = g x) :
    vmap (upd v i f) g = vmap v g := by
  ext j hj
  rw [vmap_getElem, vmap_getElem, upd_getElem]
  split
  · exact h _
  · rfl

theorem onBb_timeOk_untimed (b : Fin 2) (k : Bool) (s : State) : untimed (onBb b (fun x => { x with timeOk := k }) s).gnss = untimed s.gnss := by
  have hbb : vmap (upd s.gnss.bb b fun x => { x with timeOk := k }) (fun x => { x with timeOk := false }) =
      vmap s.gnss.bb fun x => { x with timeOk := false } := vmap_upd fun _ => rfl
  exact congrArg (fun v => { s.gnss with bb := v }) hbb

theorem setSource_gnss (x : TimeSource) (s : State) : (setSource x s).gnss = s.gnss := setSource_same x s .gnss (by decide)

theorem timeSolution_untimed (x : TimeSol) (s : State) : untimed (timeSolution x s).gnss = untimed s.gnss := by
  have hfigures : untimed (timeFigures x s).gnss = untimed s.gnss := onBb_timeOk_untimed x.bb true s
  unfold timeSolution
  extract_lets e week
  split
  · rfl
  · exact hfigures
  · rw [setSource_gnss]
    exact hfigures
  · rw [setSource_gnss]
    exact hfigures

theorem timeSolution_events (x : TimeSol) (s : State) : EventsBut [21, 120] s (timeSolution x s) := by
  unfold timeSolution
  extract_lets e week
  split
  · exact EventsBut.refl _ s
  · exact EventsBut.of_ev (EventsBut.refl _ s) rfl
  · exact EventsBut.trans (fun _ _ => rfl) (setSource_events _ _)
  · exact EventsBut.trans (fun _ _ => rfl) (setSource_events _ _)

theorem solutionTime_untimed (b : Fin 2) (q : PvtIn) (fixed : Bool) (s : State) : untimed (solutionTime b q fixed s).gnss = untimed s.gnss := by
  unfold solutionTime
  split
  · split
    · exact timeSolution_untimed _ s
    · exact onBb_timeOk_untimed b false s
  · exact onBb_timeOk_untimed b false s

theorem solutionTime_events (b : Fin 2) (q : PvtIn) (fixed : Bool) (s : State) : EventsBut [21, 120] s (solutionTime b q fixed s) := by
  unfold solutionTime
  split
  · exact .of_ite (timeSolution_events _ s) (.of_same (onBb_same _ _ s) (by decide))
  · exact .of_same (onBb_same _ _ s) (by decide)

theorem untimed_bb (a : Fin 2) (g : GnssState) : (untimed g).bb[a] = { g.bb[a] with timeOk := false } := vmap_getElem _ _ _ _

section
variable (a b : Fin 2) (q : PvtIn) (fixed : Bool) (s : State)

theorem solutionTime_bb : { (solutionTime b q fixed s).gnss.bb[a] with timeOk := false } = { s.gnss.bb[a] with timeOk := false } := by
  rw [← untimed_bb, ← untimed_bb, solutionTime_untimed]

theorem solutionTime_fix : ((solutionTime b q fixed s).gnss.bb[a]).fix = (s.gnss.bb[a]).fix := (congrArg Baseband.fix (solutionTime_bb a b q fixed s) :)

theorem solutionTime_awaiting : ((solutionTime b q fixed s).gnss.bb[a]).awaiting = (s.gnss.bb[a]).awaiting :=
  (congrArg Baseband.awaiting (solutionTime_bb a b q fixed s) :)

theorem solutionTime_pos : (solutionTime b q fixed s).gnss.pos = s.gnss.pos := (congrArg GnssState.pos (solutionTime_untimed b q fixed s) :)

end

theorem measStream_gnss (b : Fin 2) (used : List Nat) (s : State) : (measStream b used s).gnss = s.gnss := measStream_same b used s .gnss (by decide)

theorem tightReset_gnss (b : Fin 2) (s : State) : (tightReset b s).gnss = s.gnss := tightReset_same b s .gnss (by decide)

/-! A solution that is not delivered ends the fix. -/

theorem notDelivered_bb (b : Fin 2) (q : PvtIn) (s : State) : ((notDelivered b q s).gnss.bb[b]).fix = 0 ∧
    ((notDelivered b q s).gnss.bb[b]).awaiting = (s.gnss.bb[b]).awaiting ∧ (notDelivered b q s).gnss.pos = s.gnss.pos := by
  rw [notDelivered, measStream_gnss, solutionTime_fix, solutionTime_awaiting, solutionTime_pos, tightReset_gnss, setFix_gnss, onBb_self]
  exact ⟨rfl, rfl, rfl⟩

theorem notDelivered_occurred (q : PvtIn) (hr : s.hp.ready = true) (hfix : (s.gnss.bb[b]).fix ≠ 0) : Occurred 26 (b.val * 256) s (notDelivered b q s) := by
  have hafter : EventsBut [21, 120] (setFix b 0 s) (notDelivered b q s) :=
    ((EventsBut.of_same (tightReset_same b _) (by decide)).trans (solutionTime_events _ _ _ _)).trans (.of_same (measStream_same _ _ _) (by decide))
  exact (setFix_none_occurred hr hfix).of_events hafter (by decide)

/-- The solution awaited fails: no position, no fix, EV26 where there was one. -/
theorem solution_failed (hawait : (s.gnss.bb[b]).awaiting = true) (hin : s.time.mt ≤ s.gnss.epoch + 8 * msTicks)
    (htest : residualTest s (solutionRows b q s) q = none) :
    ∃ t, Steps (.gnssSolutionComplete b q) s t ∧ (t.gnss.bb[b]).awaiting = false ∧ (t.gnss.bb[b]).fix = 0 ∧ t.gnss.pos = s.gnss.pos ∧
      (s.hp.ready = true → (s.gnss.bb[b]).fix ≠ 0 → Occurred 26 (b.val * 256) s t) := by
  obtain ⟨hfix, hwait, hpos⟩ := notDelivered_bb b q (solved b s)
  refine ⟨_, steps_gnssSolutionComplete_failed hawait hin htest, ?_, hfix, ?_, fun hr hne => ?_⟩
  · rw [hwait, solved_bb]
  · rw [hpos, solved_gnss]
    rfl
  · exact (notDelivered_occurred q (solved_ready b hr) (by rwa [solved_bb])).after_events (solved_events b s) (by decide)

/-! A solution that is delivered. -/

/-- The fix kind of the rows used (R126): DGPS with a correction. -/
def fixKind (used : List Nat) (s : State) : Nat := if used.any (corrected s) then 2 else 1

/-- The fix, the corrections applied and the position. -/
def fixTaken (b : Fin 2) (q : PvtIn) (used : List Nat) (s : State) : State :=
  (onBb b (fun x => { x with applied := used.filterMap fun p => (corrOf s p).map fun c => (p, corrValue s c) })
    (setFix b (fixKind used s) s)).onGnss fun g => { g with pos := some (q.lat, q.lon, q.height) }

theorem publishFix_eq (b : Fin 2) (q : PvtIn) (used : List Nat) (integ excl : Nat) (s : State) :
    ∃ ws, publishFix b q used integ excl s = solutionSlot b q
      (if epochDue (fixTaken b q used s) 0x2A8 b.val then stream 0x2A8 b.val ws (fixTaken b q used s) else fixTaken b q used s) := ⟨_, rfl⟩

theorem intakeMeas_events (i : Fin 24) (m : Meas) (s : State) : EventsBut [36, 120] s (intakeMeas i m s) := by
  unfold intakeMeas
  split
  · exact EventsBut.refl _ s
  · extract_lets x m due w
    have hw : EventsBut [36, 120] s w := .of_same (onSlot_same i _ s) (by decide)
    exact .of_ite (.of_same (onSlot_same i _ s) (by decide)) (.of_ite (hw.raise 36 i.val (by decide)) hw)

theorem solutionSlot_events (b : Fin 2) (q : PvtIn) (s : State) : EventsBut [36, 38, 120] s (solutionSlot b q s) := by
  refine EventsBut.foldl (fun w i => ?_) _ s
  dsimp only
  split
  · exact ((intakeMeas_events i _ w).mono (by decide)).trans (.of_same (firstDatum_same _ _ _ _) (by decide))
  · have hslot : ∀ f, EventsBut [36, 38, 120] w (onSlot i f w) := fun f => .of_same (onSlot_same i f w) (by decide)
    exact .of_ite ((hslot _).raise 38 _ (by decide)) (hslot _)
  · exact EventsBut.refl _ w

/-- The streams and slots that follow a fix. -/
theorem publishFix_after (b : Fin 2) (q : PvtIn) (used : List Nat) (integ excl : Nat) (s : State) :
    (publishFix b q used integ excl s).gnss = (fixTaken b q used s).gnss ∧ EventsBut [36, 38, 120] (fixTaken b q used s) (publishFix b q used integ excl s) := by
  obtain ⟨ws, h⟩ := publishFix_eq b q used integ excl s
  rw [h]
  generalize fixTaken b q used s = u
  have hsent : SameBut [.host, .maint] u (if epochDue u 0x2A8 b.val then stream 0x2A8 b.val ws u else u) := by
    split
    · exact stream_same _ _ _ _
    · exact SameBut.refl _ u
  exact ⟨(solutionSlot_same b q _ .gnss (by decide)).trans (hsent .gnss (by decide)), (EventsBut.of_same hsent (by decide)).trans (solutionSlot_events b q _)⟩

theorem fixTaken_bb (b : Fin 2) (q : PvtIn) (used : List Nat) (s : State) : ((fixTaken b q used s).gnss.bb[b]).fix = fixKind used s ∧
    ((fixTaken b q used s).gnss.bb[b]).awaiting = (s.gnss.bb[b]).awaiting ∧ (fixTaken b q used s).gnss.pos = some (q.lat, q.lon, q.height) := by
  rw [fixTaken, State.onGnss_gnss]
  dsimp only
  rw [onBb_self, setFix_gnss, onBb_self]
  exact ⟨rfl, rfl, rfl⟩

theorem delivered_bb (b : Fin 2) (q : PvtIn) (r : List Nat × Nat × Nat) (s : State) : ((delivered b q r s).gnss.bb[b]).fix = fixKind r.1 s ∧
    ((delivered b q r s).gnss.bb[b]).awaiting = (s.gnss.bb[b]).awaiting ∧ (delivered b q r s).gnss.pos = some (q.lat, q.lon, q.height) := by
  rw [delivered, measStream_gnss, solutionTime_fix, solutionTime_awaiting, solutionTime_pos, (publishFix_after b q r.1 r.2.1 r.2.2 s).1]
  exact fixTaken_bb b q r.1 s

theorem delivered_occurred (q : PvtIn) {r : List Nat × Nat × Nat} (hr : s.hp.ready = true) (hfix : (s.gnss.bb[b]).fix ≠ fixKind r.1 s) :
    Occurred 26 (b.val * 256 + fixKind r.1 s) s (delivered b q r s) := by
  have hraised : Occurred 26 (b.val * 256 + fixKind r.1 s) s (fixTaken b q r.1 s) := (setFix_occurred hr hfix).of_ev rfl
  have hpublished := hraised.of_events (publishFix_after b q r.1 r.2.1 r.2.2 s).2 (by decide)
  have hafter : EventsBut [21, 120] (publishFix b q r.1 r.2.1 r.2.2 s) (delivered b q r s) :=
    (solutionTime_events _ _ _ _).trans (.of_same (measStream_same _ _ _) (by decide))
  exact hpublished.of_events hafter (by decide)

/-- The solution awaited passes with these rows: the position, the fix kind, EV26 where it changes. -/
theorem solution_delivered {used : List Nat} {integ excl : Nat} (hawait : (s.gnss.bb[b]).awaiting = true) (hin : s.time.mt ≤ s.gnss.epoch + 8 * msTicks)
    (htest : residualTest s (solutionRows b q s) q = some (used, integ, excl)) :
    ∃ t, Steps (.gnssSolutionComplete b q) s t ∧ (t.gnss.bb[b]).awaiting = false ∧ t.gnss.pos = some (q.lat, q.lon, q.height) ∧
      (t.gnss.bb[b]).fix = (if used.any (corrected s) then 2 else 1) ∧
      (s.hp.ready = true → (s.gnss.bb[b]).fix ≠ (t.gnss.bb[b]).fix → Occurred 26 (b.val * 256 + (t.gnss.bb[b]).fix) s t) := by
  obtain ⟨hfix, hwait, hpos⟩ := delivered_bb b q (used, integ, excl) (solved b s)
  refine ⟨_, steps_gnssSolutionComplete_passed hawait hin htest, ?_, hpos, ?_, fun hr hne => ?_⟩
  · rw [hwait, solved_bb]
  · rw [hfix, fixKind, solved_corrected]
  · rw [hfix] at hne ⊢
    exact (delivered_occurred q (solved_ready b hr) (by rwa [solved_bb])).after_events (solved_events b s) (by decide)

/-! A solution that is dropped (R124). -/

/-- The problem ends without a solution, which is counted. -/
def givenUp (b : Fin 2) (s : State) : State :=
  onBb b (fun x => { x with awaiting := false, dropped := inc32 x.dropped, timeOk := false })
    (cancelDp (fun w => w == .gnss b) (advanceTo (s.gnss.epoch + 8 * msTicks) s))

theorem dropSolution_awaited (h : (s.gnss.bb[b]).awaiting = true) :
    dropSolution b s = measStream b [] (tightReset b (setFix b 0 (givenUp b s))) := by
  rw [dropSolution, h]
  rfl

theorem dropSolution_idle (h : (s.gnss.bb[b]).awaiting = false) : dropSolution b s = s := by
  rw [dropSolution, h]
  rfl

theorem givenUp_gnss (b : Fin 2) (s : State) :
    (givenUp b s).gnss = (onBb b (fun x => { x with awaiting := false, dropped := inc32 x.dropped, timeOk := false }) s).gnss :=
  onBb_gnss_congr b _ ((cancelDp_same _ _ .gnss (by decide)).trans (advanceTo_same _ s .gnss (by decide)))

theorem givenUp_same (b : Fin 2) (s : State) : SameBut [.time, .gnss, .solv, .free] s (givenUp b s) :=
  (((SameBut.refl _ s).step (advanceTo_same _ s) rfl).step (cancelDp_same _ _) rfl).step (onBb_same _ _ _) rfl

theorem dropSolution_gnss (h : (s.gnss.bb[b]).awaiting = true) : (dropSolution b s).gnss =
    (onBb b (fun x => { x with awaiting := false, dropped := inc32 x.dropped, timeOk := false, fix := 0 }) s).gnss := by
  rw [dropSolution_awaited h, measStream_gnss, tightReset_gnss, setFix_gnss, onBb_gnss_congr b _ (givenUp_gnss b s), onBb_comp]

theorem dropSolution_occurred (h : (s.gnss.bb[b]).awaiting = true) (hr : s.hp.ready = true) (hfix : (s.gnss.bb[b]).fix ≠ 0) :
    Occurred 26 (b.val * 256) s (dropSolution b s) := by
  rw [dropSolution_awaited h]
  have hready : (givenUp b s).hp.ready = true := (congrArg HpState.ready (givenUp_same b s .hp (by decide))).trans hr
  have hstill : ((givenUp b s).gnss.bb[b]).fix ≠ 0 := by rwa [givenUp_gnss, onBb_self]
  have hbefore : EventsBut [] s (givenUp b s) := .of_same (givenUp_same b s) (by decide)
  have hafter : EventsBut [] (setFix b 0 (givenUp b s)) (measStream b [] (tightReset b (setFix b 0 (givenUp b s)))) :=
    (EventsBut.of_same (tightReset_same b _) (by decide)).trans (.of_same (measStream_same _ _ _) (by decide))
  exact ((setFix_none_occurred hready hstill).after_events hbefore (by decide)).of_events hafter (by decide)

theorem steps_gnssSolutionComplete_late (q : PvtIn) (hawait : (s.gnss.bb[b]).awaiting = true) (hlate : s.gnss.epoch + 8 * msTicks < s.time.mt) :
    Steps (.gnssSolutionComplete b q) s (dropSolution b s) := by
  have hpast : epochLate s = true := decide_eq_true hlate
  change execGnssSolutionComplete b q s = _
  rw [execGnssSolutionComplete, hawait, hpast]
  rfl

theorem steps_gnssSolutionComplete_idle (q : PvtIn) (h : (s.gnss.bb[b]).awaiting = false) : Steps (.gnssSolutionComplete b q) s s := by
  change execGnssSolutionComplete b q s = _
  rw [execGnssSolutionComplete, h]
  rfl

end

end Sys2Proof.Machine
end
section

/-! The heading (5.8, R130 to R132): one epoch of SEARCH, one of FIXED, a solution that is dropped. -/

namespace Sys2Proof.Machine

section
variable {h : HdgIn} {s t : State}

theorem hdgW_congr (hcfg : t.cfg = s.cfg) (i : Nat) : hdgW t i = hdgW s i := by
  simp only [hdgW, State.inForce, hcfg]

/-- A change of the GNSS state raises nothing. -/
theorem onGnss_events (l : List (Fin 128)) (f : GnssState → GnssState) (s : State) : EventsBut l s (s.onGnss f) := fun _ _ => rfl

/-! The heading state (R132). -/

/-- A heading state is entered; the integers stay in FIXED alone. -/
def hdgEntered (st : Nat) (s : State) : State := s.onGnss fun g => { g with
  hdg := st, lenTrips := 0, wins := 0, winSet := [], hdgFixed := if st = 2 then g.hdgFixed else [], hdgOut := [] }

theorem setHdg_of_ne {st : Nat} (reason : Nat) (hne : s.gnss.hdg ≠ st) : setHdg st reason s = raise 27 (st * 256 + reason) (hdgEntered st s) :=
  if_neg hne

theorem setHdg_gnss {st : Nat} (reason : Nat) (hne : s.gnss.hdg ≠ st) : (setHdg st reason s).gnss = (hdgEntered st s).gnss := by
  rw [setHdg_of_ne reason hne, raise_gnss]

theorem setHdg_occurred {st : Nat} (reason : Nat) (hr : s.hp.ready = true) (hne : s.gnss.hdg ≠ st) :
    Occurred 27 (st * 256 + reason) s (setHdg st reason s) := by
  rw [setHdg_of_ne reason hne]
  exact raise_occurred _ hr (by decide) rfl

/-! GNSS_HEADING_COMPLETE in its stages. -/

/-- The problem of the heading is solved 5 ms after the epoch. -/
def hdgProblemDone (s : State) : State := finishDp (fun w => w == .heading) (advanceTo (s.gnss.epoch + 5 * msTicks) s)

/-- Its solution is awaited no longer. -/
def hdgSolved (s : State) : State := (hdgProblemDone s).onGnss fun g => { g with hdgAwaiting := false }

/-- The solution is taken as the heading state says. -/
def hdgTried (h : HdgIn) (s : State) : State := if s.gnss.hdg = 1 then hdgSearch h s else if s.gnss.hdg = 2 then hdgFixedStep h s else s

/-- The slips since the last heading solution are forgotten. -/
def slipsTaken (s : State) : State := s.onGnss fun g => { g with hdgSlip := [] }

/-- The azimuth goes to the slots of the heading. -/
def azimuthTaken (h : HdgIn) (s : State) : State :=
  if s.gnss.hdg == 2 then (intSlots s 3).foldl (fun s i => intakeMeas i { ta := s.time.mt, ts := some s.gnss.epoch, vals := [(h.az : Int)], rep := some (hdgSigma s) } s) s else s

/-- The heading goes out. -/
def hdgPublished (h : HdgIn) (s : State) : State :=
  if epochDue (azimuthTaken h s) 0x2AC 0 then
    stream 0x2AC 0 (w64 (azimuthTaken h s).gnss.epoch ++ [pk [((azimuthTaken h s).gnss.hdg, 8), (satN 255 (azimuthTaken h s).gnss.hdgFixed.length, 0)]] ++
      (if s.gnss.hdg == 2 then [ofN h.az, ofI h.el, ofN (hdgSigma (azimuthTaken h s))] else [0, 0, 0])) (azimuthTaken h s)
  else azimuthTaken h s

theorem steps_gnssHeadingComplete (h : HdgIn) (hawait : s.gnss.hdgAwaiting = true) (hin : s.time.mt ≤ s.gnss.epoch + 8 * msTicks) :
    Steps (.gnssHeadingComplete h) s (hdgPublished h (slipsTaken (hdgTried h (hdgSolved s)))) := by
  change execGnssHeadingComplete h s = _
  rw [execGnssHeadingComplete, hawait, epochLate_false hin, hdgSolved, hdgProblemDone]
  generalize State.onGnss (finishDp _ _) _ = u
  rfl

theorem steps_gnssHeadingComplete_idle (h : HdgIn) (hidle : s.gnss.hdgAwaiting = false) : Steps (.gnssHeadingComplete h) s s := by
  change execGnssHeadingComplete h s = _
  rw [execGnssHeadingComplete, hidle]
  rfl

theorem hdgProblemDone_same (s : State) : SameBut [.host, .maint, .ev, .time, .solv, .log, .free] s (hdgProblemDone s) :=
  ((SameBut.refl _ s).step (advanceTo_same _ s) rfl).step (finishDp_same _ _) rfl

theorem hdgSolved_same (s : State) : SameBut [.host, .maint, .ev, .time, .gnss, .solv, .log, .free] s (hdgSolved s) :=
  ((SameBut.refl _ s).step (hdgProblemDone_same s) rfl).onGnss _ rfl

theorem hdgSolved_gnss (s : State) : (hdgSolved s).gnss = { s.gnss with hdgAwaiting := false } :=
  congrArg (fun g : GnssState => { g with hdgAwaiting := false }) (hdgProblemDone_same s .gnss (by decide))

theorem hdgSolved_events (s : State) : EventsBut solverEvents s (hdgSolved s) :=
  ((EventsBut.of_same (advanceTo_same _ s) (by decide)).trans (finishDp_solverKept _ _).events).trans (onGnss_events _ _ _)

theorem hdgSolved_ready (hr : s.hp.ready = true) : (hdgSolved s).hp.ready = true := (congrArg HpState.ready (hdgSolved_same s .hp (by decide))).trans hr

theorem hdgSolved_hdgW (s : State) (i : Nat) : hdgW (hdgSolved s) i = hdgW s i := hdgW_congr (hdgSolved_same s .cfg (by decide)) i

/-- The satellites of both basebands are read from the channels and the slips. -/
theorem onGnss_hdgAwaiting_common (k : Bool) (s : State) : common (s.onGnss fun g => { g with hdgAwaiting := k }) = common s := rfl

theorem hdgSolved_common (s : State) : common (hdgSolved s) = common s := by
  rw [hdgSolved, onGnss_hdgAwaiting_common]
  exact (hdgProblemDone_same s).read common rfl

theorem azimuthTaken_same (h : HdgIn) (s : State) : SameBut [.host, .maint, .ev, .fus, .log] s (azimuthTaken h s) := by
  unfold azimuthTaken
  split
  · exact SameBut.foldl (fun w i => intakeMeas_same i _ w) _ (SameBut.refl _ s)
  · exact SameBut.refl _ s

theorem azimuthTaken_events (h : HdgIn) (s : State) : EventsBut [36, 120] s (azimuthTaken h s) :=
  .of_ite (EventsBut.foldl (fun w i => intakeMeas_events i _ w) _ s) (EventsBut.refl _ s)

theorem hdgPublished_gnss (h : HdgIn) (s : State) : (hdgPublished h s).gnss = s.gnss := by
  unfold hdgPublished
  split
  · rw [stream_gnss]
    exact azimuthTaken_same h s .gnss (by decide)
  · exact azimuthTaken_same h s .gnss (by decide)

theorem hdgPublished_events (h : HdgIn) (s : State) : EventsBut [36, 120] s (hdgPublished h s) :=
  (azimuthTaken_events h s).trans (.of_ite (.of_same (stream_same _ _ _ _) (by decide)) (EventsBut.refl _ _))

/-- An occurrence of the heading's own event in its row. -/
theorem hdg_occurred {d : Nat} (hoccurred : Occurred 27 d (hdgSolved s) (hdgTried h (hdgSolved s))) :
    Occurred 27 d s (hdgPublished h (slipsTaken (hdgTried h (hdgSolved s)))) :=
  ((hoccurred.after_events (hdgSolved_events s) (by decide)).of_events (onGnss_events [] _ _) (by decide)).of_events (hdgPublished_events h _) (by decide)

/-! SEARCH (R130). -/

/-- The satellites of an epoch of SEARCH: strong in both basebands and above the mask. -/
def searchSats (h : HdgIn) (s : State) : List Nat := ((common s).filter fun x => x.2.1 && h.above.contains x.1).map fun x => x.1

/-- The wins in a row of an epoch's integers. -/
def searchWins (h : HdgIn) (s : State) : Nat := if s.gnss.winSet = h.ints ∧ 0 < s.gnss.wins then s.gnss.wins + 1 else 1

theorem hdgSearch_lost (hlost : (searchSats h s).length < 5 ∨ h.ratio < fld (hdgW s 1) 7 0) :
    hdgSearch h s = s.onGnss fun g => { g with wins := 0, winSet := [] } :=
  if_pos (by simpa only [Bool.or_eq_true, decide_eq_true_eq, searchSats] using hlost)

theorem hdgSearch_counted (hsats : 5 ≤ (searchSats h s).length) (hratio : fld (hdgW s 1) 7 0 ≤ h.ratio) : hdgSearch h s =
    if fld (hdgW s 1) 15 8 ≤ searchWins h s then setHdg 2 1 (s.onGnss fun g => { g with hdgFixed := h.ints.filter fun x => (searchSats h s).contains x.1 })
    else s.onGnss fun g => { g with wins := searchWins h s, winSet := h.ints } :=
  if_neg (by simpa only [Bool.or_eq_true, decide_eq_true_eq, not_or, not_lt, searchSats] using And.intro hsats hratio)

theorem hdgSolved_searchSats (h : HdgIn) (s : State) : searchSats h (hdgSolved s) = searchSats h s := by
  rw [searchSats, hdgSolved_common, searchSats]

theorem hdgSolved_searchWins (h : HdgIn) (s : State) : searchWins h (hdgSolved s) = searchWins h s := by
  rw [searchWins, hdgSolved_gnss, searchWins]

theorem hdgTried_search (hs : s.gnss.hdg = 1) : hdgTried h (hdgSolved s) = hdgSearch h (hdgSolved s) :=
  if_pos (by rw [hdgSolved_gnss]; exact hs)

/-- A lost epoch starts the search again. -/
theorem search_lost (hawait : s.gnss.hdgAwaiting = true) (hin : s.time.mt ≤ s.gnss.epoch + 8 * msTicks) (hs : s.gnss.hdg = 1)
    (hlost : (searchSats h s).length < 5 ∨ h.ratio < fld (hdgW s 1) 7 0) :
    ∃ t, Steps (.gnssHeadingComplete h) s t ∧ t.gnss = { s.gnss with hdgAwaiting := false, wins := 0, winSet := [], hdgSlip := [] } := by
  have htried : hdgTried h (hdgSolved s) = (hdgSolved s).onGnss fun g => { g with wins := 0, winSet := [] } :=
    (hdgTried_search hs).trans (hdgSearch_lost (by rwa [hdgSolved_searchSats, hdgSolved_hdgW]))
  refine ⟨_, steps_gnssHeadingComplete h hawait hin, ?_⟩
  rw [hdgPublished_gnss, slipsTaken, htried, State.onGnss_gnss, State.onGnss_gnss, hdgSolved_gnss]

/-- A won epoch counts, and the configured number of one set makes the heading FIXED. -/
theorem search_won (hawait : s.gnss.hdgAwaiting = true) (hin : s.time.mt ≤ s.gnss.epoch + 8 * msTicks) (hs : s.gnss.hdg = 1)
    (hsats : 5 ≤ (searchSats h s).length) (hratio : fld (hdgW s 1) 7 0 ≤ h.ratio) (hr : s.hp.ready = true) :
    ∃ t, Steps (.gnssHeadingComplete h) s t ∧ t.gnss.hdgAwaiting = false ∧
      (searchWins h s < fld (hdgW s 1) 15 8 → t.gnss.hdg = 1 ∧ t.gnss.wins = searchWins h s ∧ t.gnss.winSet = h.ints) ∧
      (fld (hdgW s 1) 15 8 ≤ searchWins h s →
        t.gnss.hdg = 2 ∧ t.gnss.hdgFixed = h.ints.filter (fun x => (searchSats h s).contains x.1) ∧ Occurred 27 0x201 s t) := by
  have htried := (hdgTried_search (h := h) hs).trans
    (hdgSearch_counted (by rwa [hdgSolved_searchSats]) (by rwa [hdgSolved_hdgW]))
  rw [hdgSolved_searchSats, hdgSolved_searchWins, hdgSolved_hdgW] at htried
  refine ⟨_, steps_gnssHeadingComplete h hawait hin, ?_⟩
  rw [hdgPublished_gnss, slipsTaken, State.onGnss_gnss]
  by_cases hwins : fld (hdgW s 1) 15 8 ≤ searchWins h s
  · rw [if_pos hwins] at htried
    generalize hu : (hdgSolved s).onGnss (fun g => { g with hdgFixed := h.ints.filter fun x => (searchSats h s).contains x.1 }) = u at htried
    have hgnss : u.gnss = { s.gnss with hdgAwaiting := false, hdgFixed := h.ints.filter fun x => (searchSats h s).contains x.1 } := by
      rw [← hu, State.onGnss_gnss, hdgSolved_gnss]
    have hready : u.hp.ready = true := by rw [← hu, State.onGnss_hp]; exact hdgSolved_ready hr
    have hev : EventsBut [] (hdgSolved s) u := by rw [← hu]; exact onGnss_events _ _ _
    have hne : u.gnss.hdg ≠ 2 := by rw [hgnss]; simp [hs]
    have htaken : (hdgTried h (hdgSolved s)).gnss = (hdgEntered 2 u).gnss := by rw [htried, setHdg_gnss 1 hne]
    refine ⟨?_, fun hlt => absurd hwins (by omega), fun _ => ⟨?_, ?_, hdg_occurred ?_⟩⟩
    · rw [htaken, hdgEntered, State.onGnss_gnss, hgnss]
    · rw [htaken, hdgEntered, State.onGnss_gnss]
    · rw [htaken, hdgEntered, State.onGnss_gnss, hgnss]; rfl
    · rw [htried]
      exact (setHdg_occurred 1 hready hne).after_events hev (by decide)
  · rw [if_neg hwins] at htried
    refine ⟨?_, fun _ => ⟨?_, ?_, ?_⟩, fun hle => absurd hle hwins⟩ <;> rw [htried, State.onGnss_gnss, hdgSolved_gnss]
    exact hs

/-! FIXED (R131, R132). -/

/-- The integers that go on: those of satellites in view without a slip. -/
def fixedKept (s : State) : List (Nat × Int) := s.gnss.hdgFixed.filter fun f => (common s).any fun x => x.1 == f.1 && !x.2.2

/-- The satellites that are tried anew. -/
def fixedTries (s : State) : List Nat :=
  ((common s).filter fun x => !((fixedKept s).any fun f => f.1 == x.1) && !s.gnss.hdgOut.contains x.1).map fun x => x.1

/-- The integer of a satellite whose double difference rounds well. -/
def roundedWell (h : HdgIn) (p : Nat) : Option (Nat × Int) :=
  match rounded h p with
  | some (n, r) => if r < 150 then some (p, n) else none
  | none => none

/-- Those that join. -/
def fixedJoined (h : HdgIn) (s : State) : List (Nat × Int) := (fixedTries s).filterMap (roundedWell h)

/-- The integers of the epoch. -/
def fixedNow (h : HdgIn) (s : State) : List (Nat × Int) := fixedKept s ++ fixedJoined h s

/-- Those with a residual above a quarter of a cycle. -/
def fixedBad (h : HdgIn) (l : List (Nat × Int)) : List (Nat × Int) :=
  l.filter fun f => h.dd.any fun r => r.1 == f.1 && decide (250 < (r.2 - f.2 * 1000).natAbs)

/-- The length of the baseline in mm, 0 without one. -/
def baselineLen (s : State) : Nat :=
  match baselineOf s.cfg.force with
  | some n => isqrt n
  | none => 0

/-- What the solved length is off. -/
def lenOff (h : HdgIn) (s : State) : Nat := (h.len - baselineLen s) + (baselineLen s - h.len)

/-- The integers and the count of wrong lengths are stored. -/
def fixedTaken (h : HdgIn) (s : State) : State := s.onGnss fun g => { g with
  hdgFixed := fixedNow h s, hdgOut := g.hdgOut ++ (fixedTries s).filter (fun p => !(fixedJoined h s).any fun f => f.1 == p)
  lenTrips := if fld (hdgW s 1) 23 16 < lenOff h s then g.lenTrips + 1 else 0 }

theorem fixedTaken_same (h : HdgIn) (s : State) : SameBut [.gnss] s (fixedTaken h s) := (SameBut.refl _ s).onGnss _ rfl

theorem hdgFixedStep_eq (h : HdgIn) (s : State) : hdgFixedStep h s =
    if (fixedNow h s).length < 4 then setHdg 1 2 (fixedTaken h s)
    else if 2 ≤ (fixedBad h (fixedNow h s)).length then setHdg 1 4 (fixedTaken h s)
    else if 3 ≤ (fixedTaken h s).gnss.lenTrips then setHdg 1 3 (fixedTaken h s)
    else fixedTaken h s := rfl

theorem hdgTried_fixed (hs : s.gnss.hdg = 2) : hdgTried h (hdgSolved s) = hdgFixedStep h (hdgSolved s) := by
  have hfixed : (hdgSolved s).gnss.hdg = 2 := by rw [hdgSolved_gnss]; exact hs
  rw [hdgTried, if_neg (by rw [hfixed]; decide), if_pos hfixed]

/-- Kept integers belong to satellites in view, at most one to each. -/
theorem fixedKept_length_le (hnodup : (s.gnss.hdgFixed.map fun f => f.1).Nodup) :
    (fixedKept s).length ≤ ((common s).filter fun x => (fixedKept s).any fun f => f.1 == x.1).length := by
  have hkeys : ((fixedKept s).map fun f => f.1).Nodup := hnodup.sublist (List.filter_sublist.map _)
  have hview : ((fixedKept s).map fun f => f.1) ⊆ ((common s).filter fun x => (fixedKept s).any fun f => f.1 == x.1).map fun x => x.1 := by
    intro p hp
    obtain ⟨f, hf, rfl⟩ := List.mem_map.1 hp
    obtain ⟨x, hx, hkey⟩ := List.any_eq_true.1 (List.mem_filter.1 hf).2
    have hsame : x.1 = f.1 := by simpa using (Bool.and_eq_true_iff.1 hkey).1
    exact List.mem_map.2 ⟨x, List.mem_filter.2 ⟨hx, List.any_eq_true.2 ⟨f, hf, by simp [hsame]⟩⟩, hsame⟩
  simpa only [List.length_map] using (List.subperm_of_subset hkeys hview).length_le

/-- No more satellites are tried than are in view without a kept integer. -/
theorem fixedTries_length_le (s : State) :
    (fixedTries s).length ≤ ((common s).filter fun x => !(fixedKept s).any fun f => f.1 == x.1).length := by
  rw [fixedTries, List.length_map]
  refine (List.monotone_filter_right _ fun x hx => ?_).length_le
  exact (Bool.and_eq_true_iff.1 hx).1

/-- At most one integer stands for each satellite in view. -/
theorem fixedNow_length_le (h : HdgIn) (hnodup : (s.gnss.hdgFixed.map fun f => f.1).Nodup) : (fixedNow h s).length ≤ (common s).length := by
  calc (fixedNow h s).length
      _ = (fixedKept s).length + (fixedJoined h s).length := List.length_append
      _ ≤ (fixedKept s).length + (fixedTries s).length := Nat.add_le_add_left (List.length_filterMap_le _ _) _
      _ ≤ _ := Nat.add_le_add (fixedKept_length_le hnodup) (fixedTries_length_le s)
      _ = (common s).length := (List.length_eq_length_filter_add _).symm

/-- Every satellite in view has an integer and did not slip. -/
def AllFixed (s : State) : Prop := ∀ x ∈ common s, x.2.2 = false ∧ ∃ f ∈ s.gnss.hdgFixed, f.1 = x.1

/-- The integers of the satellites in view. -/
def inView (s : State) : List (Nat × Int) := s.gnss.hdgFixed.filter fun f => (common s).any fun x => x.1 == f.1

theorem fixedKept_of_allFixed (hall : AllFixed s) : fixedKept s = inView s := by
  have hany : ∀ f : Nat × Int, ((common s).any fun x => x.1 == f.1 && !x.2.2) = (common s).any fun x => x.1 == f.1 := by
    intro f
    rw [Bool.eq_iff_iff, List.any_eq_true, List.any_eq_true]
    exact exists_congr fun x => and_congr_right fun hx => by simp [(hall x hx).1]
  simp only [fixedKept, inView, hany]

theorem fixedTries_of_allFixed (hall : AllFixed s) : fixedTries s = [] := by
  rw [fixedTries, List.map_eq_nil_iff, List.filter_eq_nil_iff]
  intro x hx
  obtain ⟨hslip, f, hf, hkey⟩ := hall x hx
  have hkept : ((fixedKept s).any fun f => f.1 == x.1) = true :=
    List.any_eq_true.2 ⟨f, List.mem_filter.2 ⟨hf, List.any_eq_true.2 ⟨x, hx, by simp [hkey, hslip]⟩⟩, by simp [hkey]⟩
  simp [hkept]

theorem fixedNow_of_allFixed (h : HdgIn) (hall : AllFixed s) : fixedNow h s = inView s := by
  rw [fixedNow, fixedJoined, fixedTries_of_allFixed hall, fixedKept_of_allFixed hall, List.filterMap_nil, List.append_nil]

theorem fixedBad_eq_nil {l : List (Nat × Int)} (hres : ∀ f ∈ l, ∀ r ∈ h.dd, r.1 = f.1 → (r.2 - f.2 * 1000).natAbs ≤ 250) : fixedBad h l = [] := by
  rw [fixedBad, List.filter_eq_nil_iff]
  intro f hf
  rw [List.any_eq_true]
  rintro ⟨r, hr, hbad⟩
  simp only [Bool.and_eq_true, beq_iff_eq, decide_eq_true_eq] at hbad
  exact absurd (hres f hf r hr hbad.1) (by omega)

/-- What an epoch of FIXED stores when every satellite in view is fixed. -/
theorem fixedTaken_gnss (h : HdgIn) (hall : AllFixed s) : (fixedTaken h s).gnss = { s.gnss with
    hdgFixed := inView s, lenTrips := if fld (hdgW s 1) 23 16 < lenOff h s then s.gnss.lenTrips + 1 else 0 } := by
  rw [fixedTaken, State.onGnss_gnss, fixedTries_of_allFixed hall, fixedNow_of_allFixed h hall, List.filter_nil, List.append_nil]

/-- With four good integers the heading goes on until the third wrong length. -/
theorem hdgFixedStep_allFixed (hall : AllFixed s) (hlen : 4 ≤ (inView s).length)
    (hres : ∀ f ∈ inView s, ∀ r ∈ h.dd, r.1 = f.1 → (r.2 - f.2 * 1000).natAbs ≤ 250) : hdgFixedStep h s =
    if 3 ≤ (fixedTaken h s).gnss.lenTrips then setHdg 1 3 (fixedTaken h s) else fixedTaken h s := by
  have hbad : fixedBad h (fixedNow h s) = [] := fixedBad_eq_nil (by rwa [fixedNow_of_allFixed h hall])
  rw [hdgFixedStep_eq, if_neg (by rw [fixedNow_of_allFixed h hall]; omega), if_neg (by rw [hbad]; decide)]

/-! FIXED, after the heading's problem. -/

theorem hdgSolved_allFixed (hall : AllFixed s) : AllFixed (hdgSolved s) := by
  simpa only [AllFixed, hdgSolved_common, hdgSolved_gnss] using hall

theorem hdgSolved_inView (s : State) : inView (hdgSolved s) = inView s := by
  rw [inView, hdgSolved_common, hdgSolved_gnss, inView]

theorem hdgSolved_lenOff (h : HdgIn) (s : State) : lenOff h (hdgSolved s) = lenOff h s := by
  have hlen : baselineLen (hdgSolved s) = baselineLen s := by rw [baselineLen, hdgSolved_same s .cfg (by decide), baselineLen]
  rw [lenOff, hlen, lenOff]

theorem lenOff_of_baseline {n : Nat} (h : HdgIn) (hn : baselineOf s.cfg.force = some n) : lenOff h s = (h.len - isqrt n) + (isqrt n - h.len) := by
  rw [lenOff, baselineLen, hn]

theorem hdgSolved_fixedTaken_gnss (h : HdgIn) (hall : AllFixed s) : (fixedTaken h (hdgSolved s)).gnss = { s.gnss with
    hdgAwaiting := false, hdgFixed := inView s, lenTrips := if fld (hdgW s 1) 23 16 < lenOff h s then s.gnss.lenTrips + 1 else 0 } := by
  rw [fixedTaken_gnss h (hdgSolved_allFixed hall), hdgSolved_inView, hdgSolved_lenOff, hdgSolved_hdgW, hdgSolved_gnss]

/-- What a return to SEARCH from FIXED leaves and raises. -/
theorem back_to_search {reason : Nat} (hr : s.hp.ready = true) (hs : s.gnss.hdg = 2)
    (hback : hdgTried h (hdgSolved s) = setHdg 1 reason (fixedTaken h (hdgSolved s))) :
    (hdgPublished h (slipsTaken (hdgTried h (hdgSolved s)))).gnss.hdgAwaiting = false ∧
    (hdgPublished h (slipsTaken (hdgTried h (hdgSolved s)))).gnss.hdg = 1 ∧
    (hdgPublished h (slipsTaken (hdgTried h (hdgSolved s)))).gnss.hdgFixed = [] ∧
    Occurred 27 (1 * 256 + reason) s (hdgPublished h (slipsTaken (hdgTried h (hdgSolved s)))) := by
  have hne : (fixedTaken h (hdgSolved s)).gnss.hdg ≠ 1 := by
    rw [fixedTaken, State.onGnss_gnss, hdgSolved_gnss]
    simp [hs]
  have hoccurred : Occurred 27 (1 * 256 + reason) (hdgSolved s) (hdgTried h (hdgSolved s)) := by
    have hready : (fixedTaken h (hdgSolved s)).hp.ready = true := by
      rw [fixedTaken_same h _ .hp (by decide)]
      exact hdgSolved_ready hr
    have hev : EventsBut [] (hdgSolved s) (fixedTaken h (hdgSolved s)) := .of_same (fixedTaken_same h _) (by decide)
    rw [hback]
    exact (setHdg_occurred reason hready hne).after_events hev (by decide)
  refine ⟨?_, ?_, ?_, hdg_occurred hoccurred⟩ <;> rw [hdgPublished_gnss, slipsTaken, State.onGnss_gnss, hback, setHdg_gnss reason hne, hdgEntered]
  · rw [State.onGnss_gnss, fixedTaken, State.onGnss_gnss, hdgSolved_gnss]
  · rfl
  · rfl

theorem fixed_too_few (h : HdgIn) (hs : s.gnss.hdg = 2)
    (hnodup : (s.gnss.hdgFixed.map fun f => f.1).Nodup) (hfew : (common s).length < 4) :
    hdgTried h (hdgSolved s) = setHdg 1 2 (fixedTaken h (hdgSolved s)) := by
  have hle : (fixedNow h (hdgSolved s)).length ≤ (common (hdgSolved s)).length := fixedNow_length_le h (by rw [hdgSolved_gnss]; exact hnodup)
  rw [hdgSolved_common] at hle
  rw [hdgTried_fixed hs, hdgFixedStep_eq, if_pos (by omega)]

section
variable (hs : s.gnss.hdg = 2) (hall : AllFixed s) (hlen : 4 ≤ (inView s).length)
  (hres : ∀ f ∈ inView s, ∀ r ∈ h.dd, r.1 = f.1 → (r.2 - f.2 * 1000).natAbs ≤ 250)
include hs hall hlen hres

theorem hdgTried_allFixed : hdgTried h (hdgSolved s) =
    if 3 ≤ (if fld (hdgW s 1) 23 16 < lenOff h s then s.gnss.lenTrips + 1 else 0) then setHdg 1 3 (fixedTaken h (hdgSolved s))
    else fixedTaken h (hdgSolved s) := by
  rw [← hdgSolved_inView] at hlen hres
  rw [hdgTried_fixed hs, hdgFixedStep_allFixed (hdgSolved_allFixed hall) hlen hres, hdgSolved_fixedTaken_gnss h hall]

theorem fixed_wrong_length (htrips : s.gnss.lenTrips = 2) (htol : fld (hdgW s 1) 23 16 < lenOff h s) :
    hdgTried h (hdgSolved s) = setHdg 1 3 (fixedTaken h (hdgSolved s)) := by
  rw [hdgTried_allFixed hs hall hlen hres, if_pos htol, if_pos (by omega)]

/-- The heading stays FIXED with the integers of the satellites in view. -/
theorem fixed_goes_on (hawait : s.gnss.hdgAwaiting = true) (hin : s.time.mt ≤ s.gnss.epoch + 8 * msTicks)
    (htol : lenOff h s ≤ fld (hdgW s 1) 23 16) :
    ∃ t, Steps (.gnssHeadingComplete h) s t ∧ t.gnss = { s.gnss with hdgAwaiting := false, lenTrips := 0, hdgFixed := inView s, hdgSlip := [] } := by
  have hright : ¬ fld (hdgW s 1) 23 16 < lenOff h s := by omega
  have htried : hdgTried h (hdgSolved s) = fixedTaken h (hdgSolved s) := by
    rw [hdgTried_allFixed hs hall hlen hres, if_neg hright, if_neg (by decide)]
  refine ⟨_, steps_gnssHeadingComplete h hawait hin, ?_⟩
  rw [hdgPublished_gnss, slipsTaken, State.onGnss_gnss, htried, hdgSolved_fixedTaken_gnss h hall, if_neg hright]

end

/-! A heading solution that is dropped (R124). -/

theorem dropHeading_gnss (hawait : s.gnss.hdgAwaiting = true) : (dropHeading s).gnss =
    { s.gnss with hdgAwaiting := false, hdgDropped := inc32 s.gnss.hdgDropped, wins := 0, winSet := [], lenTrips := 0 } := by
  rw [dropHeading, hawait, if_neg (by decide), State.onGnss_gnss, cancelDp_same _ _ .gnss (by decide), advanceTo_gnss]

theorem dropHeading_idle (hidle : s.gnss.hdgAwaiting = false) : dropHeading s = s := by
  rw [dropHeading, hidle]
  rfl

end

end Sys2Proof.Machine
end
section

/-! GNSS_EPOCH in its stages (R123, R128, R133): what was awaited ends, the grid, new parameters, the measurements, the problems. -/

namespace Sys2Proof.Machine

/-! Which epoch it is, at each stage. -/

section
variable (s : State)

theorem setAnt_epoch (a : Fin 2) (cls : Nat) : (setAnt a cls s).gnss.epoch = s.gnss.epoch := by
  by_cases h : (s.gnss.bb[a]).ant = cls
  · rw [setAnt, if_pos h]
  · rw [setAnt_of_ne h, raise_gnss]
    rfl

theorem setHdg_epoch (st reason : Nat) : (setHdg st reason s).gnss.epoch = s.gnss.epoch := by
  by_cases h : s.gnss.hdg = st
  · rw [setHdg, if_pos h]
  · rw [setHdg_gnss reason h]
    rfl

theorem bbIdle_epoch (b : Fin 2) : (bbIdle b s).gnss.epoch = s.gnss.epoch := by
  rw [bbIdle_gnss]
  rfl

theorem dropSolution_epoch (b : Fin 2) : (dropSolution b s).gnss.epoch = s.gnss.epoch := by
  cases h : (s.gnss.bb[b]).awaiting
  · rw [dropSolution_idle h]
  · rw [dropSolution_gnss h]
    rfl

theorem dropHeading_epoch : (dropHeading s).gnss.epoch = s.gnss.epoch := by
  cases h : s.gnss.hdgAwaiting
  · rw [dropHeading_idle h]
  · rw [dropHeading_gnss h]

end

/-- What the last epoch still awaited is dropped (R124). -/
def lastEnded (s : State) : State := dropHeading (dropSolution 1 (dropSolution 0 s))

theorem lastEnded_epoch (s : State) : (lastEnded s).gnss.epoch = s.gnss.epoch := by
  rw [lastEnded, dropHeading_epoch, dropSolution_epoch, dropSolution_epoch]

theorem lastEnded_idle {s : State} (hbb : ∀ b : Fin 2, (s.gnss.bb[b]).awaiting = false) (hhdg : s.gnss.hdgAwaiting = false) : lastEnded s = s := by
  rw [lastEnded, dropSolution_idle (hbb 0), dropSolution_idle (hbb 1), dropHeading_idle hhdg]

/-! The next epoch. -/

/-- The next instant of the grid of 100 ms, after the last epoch and not past. -/
def nextEpoch (s : State) : Nat := max (s.gnss.epoch / epochTicks + 1) (cdiv s.time.mt epochTicks) * epochTicks

theorem nextEpoch_mod (s : State) : nextEpoch s % epochTicks = 0 := Nat.mul_mod_left _ _

theorem lt_nextEpoch (s : State) : s.gnss.epoch < nextEpoch s :=
  calc s.gnss.epoch
      _ < (s.gnss.epoch / epochTicks + 1) * epochTicks := by rw [Nat.mul_comm]; exact Nat.lt_mul_div_succ _ (by decide)
      _ ≤ nextEpoch s := Nat.mul_le_mul_right _ (Nat.le_max_left _ _)

/-- MT stands on it. -/
def epochReached (s : State) : State := (advanceTo (nextEpoch s) s).onGnss fun g => { g with epoch := nextEpoch s }

/-! Pending parameters take effect (R133). -/

/-- What an enabled baseband and its antenna input do with the new parameters. -/
def bbTakes (old s : State) (b : Fin 2) : State :=
  let w := if bbEnabled old b && !bbEnabled s b then bbIdle b s else s
  if !biasOn w b then setAnt b 4 w else w

theorem bbTakes_epoch (old s : State) (b : Fin 2) : (bbTakes old s b).gnss.epoch = s.gnss.epoch := by
  unfold bbTakes
  extract_lets w
  have hw : w.gnss.epoch = s.gnss.epoch := by
    simp only [w]
    split
    · exact bbIdle_epoch s b
    · rfl
  split
  · rw [setAnt_epoch, hw]
  · exact hw

theorem gnssTakes_epoch (old s : State) : (gnssTakes old s).gnss.epoch = s.gnss.epoch := by
  have hbb : ((fins 2).foldl (bbTakes old) s).gnss.epoch = s.gnss.epoch := (bbTakes_epoch old _ 1).trans (bbTakes_epoch old s 0)
  unfold gnssTakes
  extract_lets s1 s2 s3 on
  have h1 : s1.gnss.epoch = s.gnss.epoch := hbb
  have h3 : s3.gnss.epoch = s.gnss.epoch := by
    simp only [s3]
    split <;> exact h1
  clear_value s3
  split
  · rw [setHdg_epoch, h3]
  · split
    · rw [setHdg_epoch, h3]
    · exact h3

/-- The parameters that wait for an epoch take effect, and the corrections are looked at. -/
def paramsTaken (s : State) : State := rtcmCheck s.gnss.epoch (gnssTakes s (promote .epoch s))

theorem paramsTaken_epoch (s : State) : (paramsTaken s).gnss.epoch = s.gnss.epoch := by
  rw [paramsTaken, rtcmCheck_gnss, gnssTakes_epoch, promote_gnss]

theorem paramsTaken_cfg (s : State) : (paramsTaken s).cfg = (promote .epoch s).cfg :=
  (rtcmCheck_same _ _ .cfg (by decide)).trans (gnssTakes_same _ _ .cfg (by decide))

theorem promote_pend (x : Timing) (s : State) : ∀ k ∈ (promote x s).cfg.pend, timing k.1 ≠ x := by
  intro k hk
  simpa using (List.mem_filter.1 hk).2

/-! The measurements (R121, R123). -/

/-- A working baseband awaits its solution with the measurements of the epoch. -/
def epochTaken (m : EpochIn) (s : State) (b : Fin 2) (x : Baseband) : Baseband :=
  { x with awaiting := true, chans := vmapI x.chans fun c k => measure s (m.chans[b])[c] k }

/-- Another has no measurement and awaits nothing. -/
def epochMissed (x : Baseband) : Baseband := { x with awaiting := false, timeOk := false, chans := vmap x.chans fun c => { c with meas := none } }

/-- The epoch as one baseband takes it. -/
def bbMeasured (m : EpochIn) (s : State) (b : Fin 2) : State := if bbOn s b then onBb b (epochTaken m s b) s else onBb b epochMissed s

/-- Whether a baseband works is read from its service, the power, the reset and the configuration. -/
theorem bbOn_congr {s t : State} {a : Fin 2} (h : SameBut [.gnss] s t) (hout : (t.gnss.bb[a]).out = (s.gnss.bb[a]).out) : bbOn t a = bbOn s a := by
  rw [bbOn, gnssDom, bbEnabled, gnssW, State.inForce, hout, h .hp (by decide), h .sys (by decide), h .cfg (by decide)]
  rfl

section
variable {a b : Fin 2} (m : EpochIn) (s : State)

theorem bbMeasured_same (b : Fin 2) : SameBut [.gnss] s (bbMeasured m s b) := by
  unfold bbMeasured
  split <;> exact onBb_same _ _ s

theorem bbMeasured_other (h : a ≠ b) : (bbMeasured m s b).gnss.bb[a] = s.gnss.bb[a] := by
  unfold bbMeasured
  split <;> exact onBb_other _ s h

theorem bbMeasured_self_on {s : State} (h : bbOn s b = true) : (bbMeasured m s b).gnss.bb[b] = epochTaken m s b s.gnss.bb[b] := by
  rw [bbMeasured, if_pos h, onBb_self]

theorem bbMeasured_self_off {s : State} (h : bbOn s b = false) : (bbMeasured m s b).gnss.bb[b] = epochMissed s.gnss.bb[b] := by
  rw [bbMeasured, if_neg (ne_true_of_eq_false h), onBb_self]

theorem bbMeasured_out (a b : Fin 2) : ((bbMeasured m s b).gnss.bb[a]).out = (s.gnss.bb[a]).out := by
  by_cases h : a = b
  · subst h
    cases hon : bbOn s a
    · rw [bbMeasured_self_off m hon, epochMissed]
    · rw [bbMeasured_self_on m hon, epochTaken]
  · rw [bbMeasured_other m s h]

theorem bbMeasured_on (a b : Fin 2) : bbOn (bbMeasured m s b) a = bbOn s a := bbOn_congr (bbMeasured_same m s b) (bbMeasured_out m s a b)

theorem bbMeasured_epoch (b : Fin 2) : (bbMeasured m s b).gnss.epoch = s.gnss.epoch := by
  unfold bbMeasured
  split <;> rfl

/-- A measured baseband awaits a solution where it works, and has no measurement where it does not. -/
def Measured (s : State) (a : Fin 2) : Prop :=
  (s.gnss.bb[a]).awaiting = bbOn s a ∧ (bbOn s a = false → ∀ c : Fin 32, ((s.gnss.bb[a]).chans[c]).meas = none)

theorem epochMissed_meas (x : Baseband) (c : Fin 32) : ((epochMissed x).chans[c]).meas = none :=
  (congrArg Channel.meas (vmap_getElem x.chans (fun c => { c with meas := none }) c.val c.isLt) :)

theorem Measured.of_on {s : State} (hon : bbOn s a = true) (hawait : (s.gnss.bb[a]).awaiting = true) : Measured s a :=
  ⟨hawait.trans hon.symm, fun hoff => absurd hoff (ne_false_of_eq_true hon)⟩

theorem bbMeasured_measured (b : Fin 2) : Measured (bbMeasured m s b) b := by
  have hb := bbMeasured_on m s b b
  cases hon : bbOn s b
  · rw [Measured, hb, hon, bbMeasured_self_off m hon]
    exact ⟨rfl, fun _ => epochMissed_meas _⟩
  · exact .of_on (hb.trans hon) (by rw [bbMeasured_self_on m hon, epochTaken])

theorem Measured.bbMeasured {s : State} (h : Measured s a) (hne : a ≠ b) : Measured (bbMeasured m s b) a := by
  rw [Measured, bbMeasured_on, bbMeasured_other m s hne]
  exact h

/-- Both basebands in order. -/
def allMeasured : State := bbMeasured m (bbMeasured m s 0) 1

theorem allMeasured_measured (a : Fin 2) : Measured (allMeasured m s) a :=
  match a with
  | 0 => (bbMeasured_measured m s 0).bbMeasured m (by decide)
  | 1 => bbMeasured_measured m _ 1

theorem allMeasured_epoch : (allMeasured m s).gnss.epoch = s.gnss.epoch := (bbMeasured_epoch m _ 1).trans (bbMeasured_epoch m s 0)

theorem allMeasured_same : SameBut [.gnss] s (allMeasured m s) := (bbMeasured_same m s 0).trans (bbMeasured_same m _ 1)

end

/-! What is awaited of the epoch, and its problems. -/

/-- The PRNs of a baseband's measurements that slipped. -/
def slipsOf (s : State) (b : Fin 2) : List Nat := ((rowsOf s b).filter fun r => r.2.slip).map fun r => r.1

/-- A heading is awaited unless it is OFF. -/
def hdgAwaited (s : State) : State := s.onGnss fun g => { g with hdgAwaiting := g.hdg != 0, hdgSlip := g.hdgSlip ++ slipsOf s 0 ++ slipsOf s 1 }

/-- The problems of the epoch are submitted, each with its deadline. -/
def problemsOpened (late : Nat) (s : State) : State :=
  let w := (fins 2).foldl (fun s b => if (s.gnss.bb[b]).awaiting then submitOpen (.gnss b) late s else s) s
  if w.gnss.hdgAwaiting then submitOpen .heading late w else w

theorem problemsOpened_same (late : Nat) (s : State) : SameBut [.solv, .free] s (problemsOpened late s) := by
  unfold problemsOpened
  extract_lets w
  have hw : SameBut [.solv, .free] s w := by
    refine SameBut.foldl (fun u b => ?_) _ (SameBut.refl _ s)
    split
    · exact submitOpen_same _ _ u
    · exact SameBut.refl _ u
  split
  · exact hw.trans (submitOpen_same _ _ w)
  · exact hw

/-- The epoch, after the last one. -/
def epochDone (m : EpochIn) (s : State) : State :=
  tightSlot m 1 (tightSlot m 0 (problemsOpened (nextEpoch s + 8 * msTicks) (hdgAwaited (allMeasured m (paramsTaken (epochReached s))))))

theorem steps_gnssEpoch (m : EpochIn) {s : State} (hr : s.hp.ready = true) : Steps (.gnssEpoch m) s (epochDone m (lastEnded s)) := by
  change execGnssEpoch m s = _
  rw [execGnssEpoch, hr, lastEnded]
  generalize dropHeading _ = u
  rfl

section
variable (m : EpochIn) (s : State)

/-- The problems and the tight filters leave what the epoch measured. -/
theorem epochDone_same : SameBut [.host, .maint, .ev, .fus, .solv, .dpc, .log, .free]
    (hdgAwaited (allMeasured m (paramsTaken (epochReached s)))) (epochDone m s) :=
  (((SameBut.refl _ _).step (problemsOpened_same _ _) rfl).step (tightSlot_same m 0 _) rfl).step (tightSlot_same m 1 _) rfl

theorem epochDone_gnss : (epochDone m s).gnss = (hdgAwaited (allMeasured m (paramsTaken (epochReached s)))).gnss := epochDone_same m s .gnss (by decide)

theorem epochDone_epoch : (epochDone m s).gnss.epoch = nextEpoch s := by
  rw [epochDone_gnss, hdgAwaited, State.onGnss_gnss]
  dsimp only
  rw [allMeasured_epoch, paramsTaken_epoch]
  rfl

theorem epochDone_cfg : (epochDone m s).cfg = (promote .epoch (epochReached s)).cfg := by
  rw [epochDone_same m s .cfg (by decide), hdgAwaited, State.onGnss_cfg, allMeasured_same m _ .cfg (by decide), paramsTaken_cfg]

theorem hdgAwaited_on (a : Fin 2) (s : State) : bbOn (hdgAwaited s) a = bbOn s a := rfl

theorem hdgAwaited_bb (s : State) : (hdgAwaited s).gnss.bb = s.gnss.bb := rfl

theorem epochDone_measured (a : Fin 2) : Measured (epochDone m s) a := by
  have hon : bbOn (epochDone m s) a = bbOn (allMeasured m (paramsTaken (epochReached s))) a :=
    ((epochDone_same m s).read (fun u => bbOn u a) rfl).trans (hdgAwaited_on a _)
  rw [Measured, hon, epochDone_gnss, hdgAwaited_bb]
  exact allMeasured_measured m _ a

theorem epochDone_hdg : (epochDone m s).gnss.hdgAwaiting = ((epochDone m s).gnss.hdg != 0) := by
  rw [epochDone_gnss, hdgAwaited, State.onGnss_gnss]

end

end Sys2Proof.Machine
end
section

/-! GNSS_SOLUTION_TIMEOUT (R124) and GNSS_RESTART (R425), and the statement of the epochs, solutions and heading. -/

namespace Sys2Proof.Machine

theorem steps_gnssSolutionTimeout {b : Fin 2} {w : Fin 3} (s : State) (h : w.val = b.val) : Steps (.gnssSolutionTimeout w) s (dropSolution b s) := by
  change execGnssSolutionTimeout w s = _
  rw [execGnssSolutionTimeout, h, fin?_val]

theorem steps_gnssSolutionTimeout_heading (s : State) : Steps (.gnssSolutionTimeout 2) s (dropHeading s) := rfl

section
variable {a b : Fin 2} {w : Word} {p : Port} {c : Cmd} {s : State}

/-- A channel of a baseband that starts hot: it searches again for the satellite it had. -/
def searchesAgain (c : Channel) : Channel := if c.prn = 0 then c else { prn := c.prn, st := 1, dd := c.dd, parityErr := c.parityErr, centre := c.centre }

theorem searchesAgain_prn (c : Channel) : (searchesAgain c).prn = c.prn := by
  unfold searchesAgain
  split <;> rfl

/-- A baseband that starts again: hot 0, warm 1, cold 2. -/
def startsAgain (start : Nat) (x : Baseband) : Baseband :=
  if start = 0 then { x with awaiting := false, chans := vmap x.chans searchesAgain, timeOk := false, fix := 0 } else idled x

theorem bbRestart_gnss (start : Nat) (b : Fin 2) (s : State) : (bbRestart start b s).gnss = (onBb b (startsAgain start) s).gnss := by
  unfold bbRestart startsAgain
  split
  · rw [setFix_gnss, onBb_comp]
    rfl
  · exact bbIdle_gnss b s

theorem setFix_kept (b : Fin 2) (k : Nat) (p : Port) (s : State) : kept ((setFix b k s).port p) = kept (s.port p) := by
  unfold setFix
  split
  · rfl
  · rw [raise_kept, onBb, onGnss_port]

theorem bbRestart_kept (start : Nat) (b : Fin 2) (p : Port) (s : State) : kept ((bbRestart start b s).port p) = kept (s.port p) := by
  unfold bbRestart bbIdle
  split <;> rw [setFix_kept, onBb, onGnss_port]

/-- The restart of a baseband, where its bit is set. -/
def bbRestarted (w : Word) (s : State) (b : Fin 2) : State := if bit w b.val then bbRestart (fld w 9 8) b s else s

/-- Both basebands in order. -/
def bbsRestarted (w : Word) (s : State) : State := bbRestarted w (bbRestarted w s 0) 1

theorem bbRestarted_self (h : bit w b.val = true) (s : State) : (bbRestarted w s b).gnss.bb[b] = startsAgain (fld w 9 8) s.gnss.bb[b] := by
  rw [bbRestarted, if_pos h, bbRestart_gnss, onBb_self]

theorem bbRestarted_other (w : Word) (h : a ≠ b ∨ bit w b.val = false) (s : State) : (bbRestarted w s b).gnss.bb[a] = s.gnss.bb[a] := by
  by_cases hbit : bit w b.val = true
  · rw [bbRestarted, if_pos hbit, bbRestart_gnss, onBb_other _ s (h.resolve_right (ne_false_of_eq_true hbit))]
  · rw [bbRestarted, if_neg hbit]

theorem bbRestarted_nav (w : Word) (s : State) (b : Fin 2) : (bbRestarted w s b).gnss.nav = s.gnss.nav := by
  unfold bbRestarted
  split
  · rw [bbRestart_gnss]
    rfl
  · rfl

theorem bbRestarted_kept (w : Word) (s : State) (b : Fin 2) (p : Port) : kept ((bbRestarted w s b).port p) = kept (s.port p) := by
  unfold bbRestarted
  split
  · exact bbRestart_kept _ b p s
  · rfl

theorem bbsRestarted_set (h : bit w b.val = true) (s : State) : (bbsRestarted w s).gnss.bb[b] = startsAgain (fld w 9 8) s.gnss.bb[b] :=
  match b, h with
  | 0, h => (bbRestarted_other (b := 1) w (.inl (by decide)) _).trans (bbRestarted_self h s)
  | 1, h => (bbRestarted_self h _).trans (congrArg (startsAgain (fld w 9 8)) (bbRestarted_other (b := 0) w (.inl (by decide)) s))

theorem bbsRestarted_clear (h : bit w b.val = false) (s : State) : (bbsRestarted w s).gnss.bb[b] = s.gnss.bb[b] :=
  match b, h with
  | 0, h => (bbRestarted_other (b := 1) w (.inl (by decide)) _).trans (bbRestarted_other w (.inr h) s)
  | 1, h => (bbRestarted_other w (.inr h) _).trans (bbRestarted_other (b := 0) w (.inl (by decide)) s)

theorem bbsRestarted_nav (w : Word) (s : State) : (bbsRestarted w s).gnss.nav = s.gnss.nav := (bbRestarted_nav w _ 1).trans (bbRestarted_nav w s 0)

theorem bbsRestarted_kept (w : Word) (s : State) (p : Port) : kept ((bbsRestarted w s).port p) = kept (s.port p) :=
  (bbRestarted_kept w _ 1 p).trans (bbRestarted_kept w s 0 p)

/-- A cold start empties the shared store. -/
def coldCleared (start : Nat) (s : State) : State :=
  if start = 2 then s.onGnss fun g => { g with nav := Vector.replicate 32 {}, pages := [], pos := none, week10 := none } else s

theorem coldCleared_bb (start : Nat) (s : State) : (coldCleared start s).gnss.bb = s.gnss.bb := by
  unfold coldCleared
  split <;> rfl

theorem coldCleared_port (start : Nat) (p : Port) (s : State) : (coldCleared start s).port p = s.port p := by
  unfold coldCleared
  split
  · exact onGnss_port _ p s
  · rfl

/-- The command is pending and past its commit point. -/
def restartBegun (p : Port) (c : Cmd) (s : State) : State := commit p c.tag (pending p c 20 (taken p s))

theorem restartBegun_gnss (p : Port) (c : Cmd) (s : State) : (restartBegun p c s).gnss = s.gnss := by
  rw [restartBegun, commit_gnss, pending_gnss]
  exact taken_same p s .gnss (by decide)

/-- The state on which GNSS_RESTART answers. -/
def restartDone (p : Port) (c : Cmd) (s : State) : State := coldCleared (fld (wd c.words 0) 9 8) (bbsRestarted (wd c.words 0) (restartBegun p c s))

theorem steps_gnssRestart (h : Heard p c s) (ho : c.op = .gnssRestart) : Steps (.gnssRestart p) s (ok p c 0 [] (restartDone p c s)) :=
  steps_of_body (i := .gnssRestart p) rfl h ho rfl

theorem restartDone_unanswered (h : Heard p c s) : Unanswered p c (restartDone p c s) := by
  refine (commit_unanswered (pending_unanswered h.taken 20)).of_outstanding ?_
  rw [restartDone, coldCleared_port]
  exact kept_outstanding (bbsRestarted_kept _ _ p)

theorem restartDone_bb (p : Port) (c : Cmd) (s : State) : (restartDone p c s).gnss.bb = (bbsRestarted (wd c.words 0) (restartBegun p c s)).gnss.bb :=
  coldCleared_bb _ _

theorem restartDone_bb_set (p : Port) (h : bit (wd c.words 0) b.val = true) (s : State) :
    (restartDone p c s).gnss.bb[b] = startsAgain (fld (wd c.words 0) 9 8) s.gnss.bb[b] := by
  rw [restartDone_bb, bbsRestarted_set h, restartBegun_gnss]

theorem restartDone_bb_clear (p : Port) (h : bit (wd c.words 0) b.val = false) (s : State) : (restartDone p c s).gnss.bb[b] = s.gnss.bb[b] := by
  rw [restartDone_bb, bbsRestarted_clear h, restartBegun_gnss]

theorem restartDone_nav (p : Port) (h : fld (wd c.words 0) 9 8 ≠ 2) (s : State) : (restartDone p c s).gnss.nav = s.gnss.nav := by
  rw [restartDone, coldCleared, if_neg h, bbsRestarted_nav, restartBegun_gnss]

theorem restartDone_cold (p : Port) (h : fld (wd c.words 0) 9 8 = 2) (s : State) : (restartDone p c s).gnss.nav = Vector.replicate 32 {} ∧
    (restartDone p c s).gnss.pages = [] ∧ (restartDone p c s).gnss.pos = none := by
  rw [restartDone, coldCleared, if_pos h]
  exact ⟨rfl, rfl, rfl⟩

end

end Sys2Proof.Machine

open Sys2Proof Sys2Proof.Machine

/-- Settles O41: the epoch by its stages, a solution by the case of its residual test, the heading by its state, a restart by its word. -/
theorem gnssEpochsSolutionsAndHeading : Obligations.GnssEpochsSolutionsAndHeading := by
  unfold Obligations.GnssEpochsSolutionsAndHeading
  refine ⟨?epoch, ?few, ?failed, ?passed, ?excluded, ?late, ?idle, ?lost, ?won, ?tooFew, ?goesOn, ?wrongLength, ?noHeading, ?timeout, ?hdgTimeout, ?restart⟩
  case epoch =>
    intro m s hr
    have hepoch := epochDone_epoch m (lastEnded s)
    refine ⟨_, steps_gnssEpoch m hr, ?_, ?_, ?_, fun b => (epochDone_measured m _ b).1, epochDone_hdg m _, fun b => (epochDone_measured m _ b).2,
      fun hbb hhdg => ?_⟩
    · rw [hepoch]
      exact nextEpoch_mod _
    · rw [hepoch, ← lastEnded_epoch s]
      exact lt_nextEpoch _
    · rw [epochDone_cfg]
      exact promote_pend .epoch _
    · rw [hepoch, lastEnded_idle hbb hhdg, nextEpoch]
  case few =>
    intro b q rows s hawait hin hrows hfew
    subst hrows
    exact solution_failed hawait hin (residualTest_few hfew)
  case failed =>
    intro b q rows s hawait hin hrows hn hstat hstat2
    subst hrows
    exact solution_failed hawait hin (residualTest_failed hn hstat hstat2)
  case passed =>
    intro b q rows s hawait hin hrows hpass
    subst hrows
    obtain ⟨integ, htest⟩ := residualTest_passed hpass
    exact solution_delivered hawait hin htest
  case excluded =>
    intro b q rows s hawait hin hrows hn hstat hstat2
    subst hrows
    exact solution_delivered hawait hin (residualTest_excluded hn hstat hstat2)
  case late =>
    intro b q s hawait hlate
    refine ⟨_, steps_gnssSolutionComplete_late q hawait hlate, ?_⟩
    rw [dropSolution_gnss hawait, onBb_self]
    exact ⟨rfl, rfl, rfl, rfl⟩
  case idle => exact fun b q s h => steps_gnssSolutionComplete_idle q h
  case lost =>
    intro h sats s hawait hin hs hsats hlost
    subst hsats
    exact search_lost hawait hin hs hlost
  case won =>
    intro h sats n s hawait hin hs hsats hmany hratio hn hr
    subst hsats hn
    exact search_won hawait hin hs hmany hratio hr
  case tooFew =>
    intro h s hawait hin hs hr hnodup hfew
    exact ⟨_, steps_gnssHeadingComplete h hawait hin, back_to_search hr hs (fixed_too_few h hs hnodup hfew)⟩
  case goesOn =>
    intro h keep n off s hawait hin hs hall hkeep hlen hn hoff hres htol
    subst hkeep hoff
    exact fixed_goes_on hs hall hlen hres hawait hin (by rwa [lenOff_of_baseline h hn])
  case wrongLength =>
    intro h keep n off s hawait hin hs hr hall hkeep hlen hn hoff hres htrips htol
    subst hkeep hoff
    have hback := fixed_wrong_length hs hall hlen hres htrips (by rwa [lenOff_of_baseline h hn])
    exact ⟨_, steps_gnssHeadingComplete h hawait hin, (back_to_search hr hs hback).2⟩
  case noHeading => exact fun h s hidle => steps_gnssHeadingComplete_idle h hidle
  case timeout =>
    intro b w s hw hawait
    refine ⟨_, steps_gnssSolutionTimeout s hw, ?_, ?_, ?_, fun a ha => ?_, fun hr hfix => dropSolution_occurred hawait hr hfix⟩
    · rw [dropSolution_gnss hawait, onBb_self]
    · rw [dropSolution_gnss hawait, onBb_self]
    · rw [dropSolution_gnss hawait, onBb_self]
    · rw [dropSolution_gnss hawait, onBb_other _ s ha]
  case hdgTimeout =>
    exact fun s hawait => ⟨_, steps_gnssSolutionTimeout_heading s, dropHeading_same s .ev (by decide), dropHeading_gnss hawait⟩
  case restart =>
    intro p c s h ho
    refine ⟨_, steps_gnssRestart h ho, ok_replied (restartDone_unanswered h) 0 [], fun b hb => ?_, fun b hb => ?_, fun hstart => ?_, fun hcold => ?_⟩ <;>
      rw [ok_gnss]
    · rw [restartDone_bb_set p hb]
      by_cases hstart : fld (wd c.words 0) 9 8 = 0
      · rw [startsAgain, if_pos hstart]
        refine ⟨rfl, rfl, fun hne => absurd hstart hne, fun _ k => ?_⟩
        exact (congrArg Channel.prn (vmap_getElem _ _ k.val k.isLt)).trans (searchesAgain_prn _)
      · rw [startsAgain, if_neg hstart]
        exact ⟨rfl, rfl, fun _ => rfl, fun h0 => absurd h0 hstart⟩
    · exact restartDone_bb_clear p hb s
    · exact restartDone_nav p hstart s
    · exact restartDone_cold p hcold s
end
section
/-! The FIR engine (6.4, R142, R144): what occurrences and the two stages leave of the slots, and which events they raise. -/

namespace Sys2Proof.Machine

/-- A slot without what occurrences and the stages write: its delay line, its last instant, its runs of failures and its count of replaced samples are left. -/
def firLine (x : FirSlot) : FirSlot :=
  { x with
    d2 := [], fresh2 := 0, prev1 := {}, out1 := {}, out2 := {}, outs := []
    nRange := 0, lastRange := none, nSat := 0, lastSat := none }

/-- The sources that occurrences raise: INPUT_RANGE and the overflow of the recorder. -/
def rangeEvents : List (Fin 128) := [7, 120]

/-- What occurrences and the stages of slot k leave as it was: its line, the other slots, the IMU fault, and every event but EV7. -/
structure LineKept (k : Fin 22) (s t : State) : Prop where
  slot : firLine t.fir.slots[k] = firLine s.fir.slots[k]
  others : ∀ j : Fin 22, j ≠ k → t.fir.slots[j] = s.fir.slots[j]
  fault : t.fir.imuFault = s.fir.imuFault
  events : EventsBut rangeEvents s t

section
variable {k : Fin 22} {s t u : State}

theorem LineKept.refl (k : Fin 22) (s : State) : LineKept k s s := ⟨rfl, fun _ _ => rfl, rfl, .refl _ s⟩

theorem LineKept.trans (h : LineKept k s t) (h' : LineKept k t u) : LineKept k s u where
  slot := h'.slot.trans h.slot
  others j hj := (h'.others j hj).trans (h.others j hj)
  fault := h'.fault.trans h.fault
  events := h.events.trans h'.events

theorem LineKept.ite {P : Prop} [Decidable P] (h : LineKept k s t) (h' : LineKept k s u) : LineKept k s (if P then t else u) := by
  split
  · exact h
  · exact h'

/-- An operation that leaves the engine and the event logic alone. -/
theorem LineKept.of_same {l : List Part} (h : SameBut l s t) (hfir : Part.fir ∉ l) (hev : Part.ev ∉ l) : LineKept k s t := by
  have hs : t.fir = s.fir := h .fir hfir
  exact ⟨by rw [hs], fun j _ => by rw [hs], by rw [hs], .of_same h hev⟩

theorem LineKept.delayLine (h : LineKept k s t) : (t.fir.slots[k]).d1 = (s.fir.slots[k]).d1 := (congrArg FirSlot.d1 h.slot :)
theorem LineKept.parRun (h : LineKept k s t) : (t.fir.slots[k]).parRun = (s.fir.slots[k]).parRun := (congrArg FirSlot.parRun h.slot :)

end

/-- A slot is written. -/
def onFirSlot (k : Fin 22) (f : FirSlot → FirSlot) (s : State) : State := s.onFir fun u => { u with slots := upd u.slots k f }

theorem onFirSlot_self (k : Fin 22) (f : FirSlot → FirSlot) (s : State) : ((onFirSlot k f s).fir.slots[k]) = f s.fir.slots[k] :=
  upd_self _ _ _

theorem onFirSlot_other {k j : Fin 22} (h : j ≠ k) (f : FirSlot → FirSlot) (s : State) : ((onFirSlot k f s).fir.slots[j]) = s.fir.slots[j] :=
  upd_other _ _ _ _ h

theorem onFirSlot_kept {k : Fin 22} {f : FirSlot → FirSlot} (s : State) (hf : firLine (f s.fir.slots[k]) = firLine s.fir.slots[k]) :
    LineKept k s (onFirSlot k f s) where
  slot := by rw [onFirSlot_self, hf]
  others j hj := onFirSlot_other hj f s
  fault := rfl
  events _ _ := rfl

/-! Occurrences of RANGE and SAT (R144). -/

/-- A slot after an occurrence. -/
def occurrence (kind now : Nat) (x : FirSlot) : FirSlot :=
  if kind = 1 then { x with nRange := inc32 x.nRange, lastRange := some now } else { x with nSat := inc32 x.nSat, lastSat := some now }

theorem occurrence_line (kind now : Nat) (x : FirSlot) : firLine (occurrence kind now x) = firLine x := by
  unfold occurrence
  split <;> rfl

theorem occurrence_out1 (kind now : Nat) (x : FirSlot) : (occurrence kind now x).out1 = x.out1 := by
  unfold occurrence
  split <;> rfl

/-- The event is due: none of this kind in the last second. -/
def occurDue (k : Fin 22) (kind : Nat) (s : State) : Bool :=
  match if kind = 1 then (s.fir.slots[k]).lastRange else (s.fir.slots[k]).lastSat with
  | some t => decide (t + secTicks ≤ s.time.mt)
  | none => true

theorem firOccur_eq (k : Fin 22) (kind : Nat) (s : State) :
    firOccur k kind s =
      if occurDue k kind s && rangeEvent s k.val then raise 7 (k.val * 256 + kind) (onFirSlot k (occurrence kind s.time.mt) s)
      else onFirSlot k (occurrence kind s.time.mt) s := rfl

theorem firOccur_fir (k : Fin 22) (kind : Nat) (s : State) : (firOccur k kind s).fir = (onFirSlot k (occurrence kind s.time.mt) s).fir := by
  rw [firOccur_eq]
  split
  · exact raise_fir _ _ _
  · rfl

theorem firOccur_kept (k : Fin 22) (kind : Nat) (s : State) : LineKept k s (firOccur k kind s) := by
  have hslot : LineKept k s (onFirSlot k (occurrence kind s.time.mt) s) := onFirSlot_kept s (occurrence_line _ _ _)
  refine ⟨?_, ?_, ?_, ?_⟩
  · rw [firOccur_fir]; exact hslot.slot
  · rw [firOccur_fir]; exact hslot.others
  · rw [firOccur_fir]; exact hslot.fault
  · rw [firOccur_eq]
    exact .of_ite (hslot.events.raise 7 _ (List.Subset.refl _)) hslot.events

theorem firOccur_out1 (k : Fin 22) (kind : Nat) (s : State) : ((firOccur k kind s).fir.slots[k]).out1 = (s.fir.slots[k]).out1 := by
  rw [firOccur_fir, onFirSlot_self, occurrence_out1]

theorem firOccur_nRange (k : Fin 22) (s : State) : ((firOccur k 1 s).fir.slots[k]).nRange = inc32 (s.fir.slots[k]).nRange := by
  rw [firOccur_fir, onFirSlot_self, occurrence, if_pos rfl]

/-- The first RANGE of a slot that raises events. -/
theorem firOccur_occurred {k : Fin 22} {s : State} (hr : s.hp.ready = true) (hevent : rangeEvent s k.val = true)
    (hfirst : (s.fir.slots[k]).lastRange = none) : Occurred 7 (k.val * 256 + 1) s (firOccur k 1 s) := by
  have hdue : occurDue k 1 s = true := by rw [occurDue, if_pos rfl, hfirst]
  rw [firOccur_eq, hdue, hevent]
  exact raise_occurred _ hr (by decide) rfl

/-! The stages (R142). -/

/-- Stage 2 takes the output into its delay line. -/
def stage2Fed (k : Fin 22) (o : FirOut) (s : State) : State :=
  onFirSlot k (fun x => { x with
    d2 := ({ v := o.v, range := o.range, missing := o.missing } :: x.d2).take 511
    fresh2 := if o.settling then 0 else min 511 (x.fresh2 + 1) }) s

/-- Output j of stage 2, for m = 10 j. -/
def stage2Sum (k : Fin 22) (m : Nat) (h : List Int) (s : State) : FirOut :=
  firSum h (s.fir.slots[k]).d2 (decide ((s.fir.slots[k]).fresh2 < h.length)) ((m * 100000 + 250 * k.val : Nat) - (firDelay s k.val : Nat))

/-- An output of stage 2 is given. -/
def stage2Out (k : Fin 22) (m : Nat) (y : FirOut) (s : State) : State :=
  onFirSlot k (fun x => { x with out2 := y, outs := x.outs ++ [(m * 100000, y.v, firFlags y)] }) s

theorem stage2_eq (k : Fin 22) (m : Nat) (o : FirOut) (s : State) :
    stage2 k m o s =
      let u := stage2Fed k o s
      if !stage2On u k.val || m % 10 != 0 then u
      else
        let y := stage2Sum k m (firTaps s (firSet2 s k.val)) u
        if y.sat then firOccur k 2 (stage2Out k m y u) else stage2Out k m y u := rfl

theorem stage2_kept (k : Fin 22) (m : Nat) (o : FirOut) (s : State) : LineKept k s (stage2 k m o s) := by
  rw [stage2_eq]
  extract_lets u y
  have hu : LineKept k s u := onFirSlot_kept s rfl
  have hy : LineKept k s (stage2Out k m y u) := hu.trans (onFirSlot_kept u rfl)
  exact .ite hu (.ite (hy.trans (firOccur_kept k 2 _)) hy)

theorem stage2_out1 (k : Fin 22) (m : Nat) (o : FirOut) (s : State) : ((stage2 k m o s).fir.slots[k]).out1 = (s.fir.slots[k]).out1 := by
  rw [stage2_eq]
  extract_lets u y
  have hu : (u.fir.slots[k]).out1 = (s.fir.slots[k]).out1 := by simp only [u, stage2Fed, onFirSlot_self]
  have hy : ((stage2Out k m y u).fir.slots[k]).out1 = (s.fir.slots[k]).out1 := by rw [stage2Out, onFirSlot_self, hu]
  split
  · exact hu
  · split
    · rw [firOccur_out1, hy]
    · exact hy

/-- Output m of stage 1. -/
def stage1Sum (k : Fin 22) (m : Nat) (s : State) : FirOut :=
  let h := firTaps s (firSet1 s k.val)
  firSum h (s.fir.slots[k]).d1 (decide ((s.fir.slots[k]).fresh1 < h.length)) ((m * 100000 + 250 * k.val : Nat) - (delay1 s k.val : Nat))

/-- An output of stage 1 is given. -/
def stage1Out (k : Fin 22) (m : Nat) (o : FirOut) (s : State) : State :=
  onFirSlot k (fun x => { x with
    prev1 := x.out1, out1 := o, outs := if stage2On s k.val then x.outs else x.outs ++ [(m * 100000, o.v, firFlags o)] }) s

theorem stage1_eq (k : Fin 22) (m : Nat) (s : State) :
    stage1 k m s =
      let o := stage1Sum k m s
      let u := if o.sat then firOccur k 2 (stage1Out k m o s) else stage1Out k m o s
      if 6 ≤ k.val then stage2 k m o u else u := rfl

theorem stage1_kept (k : Fin 22) (m : Nat) (s : State) : LineKept k s (stage1 k m s) := by
  rw [stage1_eq]
  extract_lets o u
  have ho : LineKept k s (stage1Out k m o s) := onFirSlot_kept s rfl
  have hu : LineKept k s u := .ite (ho.trans (firOccur_kept k 2 _)) ho
  exact .ite (hu.trans (stage2_kept k m o u)) hu

theorem stage1_out1 (k : Fin 22) (m : Nat) (s : State) : ((stage1 k m s).fir.slots[k]).out1 = stage1Sum k m s := by
  rw [stage1_eq]
  extract_lets o u
  have ho : ((stage1Out k m o s).fir.slots[k]).out1 = o := by rw [stage1Out, onFirSlot_self]
  have hu : (u.fir.slots[k]).out1 = o := by
    simp only [u]
    split
    · rw [firOccur_out1, ho]
    · exact ho
  split
  · rw [stage2_out1, hu]
  · exact hu

/-- Samples beyond the taps do not enter the sum. -/
theorem zip_take_length {α β : Type} (h : List α) (l : List β) : h.zip (l.take h.length) = h.zip l := by
  induction h generalizing l with
  | nil => rfl
  | cons a h ih => cases l with
    | nil => rfl
    | cons b l => rw [List.length_cons, List.take_succ_cons, List.zip_cons_cons, List.zip_cons_cons, ih]

theorem stage1Sum_v (k : Fin 22) (m : Nat) (s : State) :
    (stage1Sum k m s).v = sat32 (rne ((((firTaps s (firSet1 s k.val)).zip (s.fir.slots[k]).d1).map fun p => p.1 * p.2.v).sum) (2 ^ 30)) := by
  rw [stage1Sum, firSum, zip_take_length]

/-! What of the configuration the engine and the calibration read. -/

section
variable {s t : State}

theorem firSet1_congr (hcfg : t.cfg = s.cfg) (k : Nat) : firSet1 t k = firSet1 s k := by
  rw [firSet1, firW, State.inForce, hcfg]; rfl

theorem firTaps_congr (hcfg : t.cfg = s.cfg) (set : Nat) : firTaps t set = firTaps s set := by
  rw [firTaps, State.inForce, hcfg]; rfl

theorem rangeEvent_congr (hcfg : t.cfg = s.cfg) (k : Nat) : rangeEvent t k = rangeEvent s k := by
  rw [rangeEvent, firW, State.inForce, hcfg]; rfl

theorem calEff_congr (hcfg : t.cfg = s.cfg) (hbad : t.sys.factoryBad = s.sys.factoryBad) (htemp : t.fir.temp = s.fir.temp) (item elem : Nat) :
    calEff t item elem = calEff s item elem := by
  rw [calEff, calEff, calF, calF, hcfg, hbad, htemp]

/-- The calibrated sample depends on the trims, the factory block and the temperature alone (R135, R374). -/
theorem calSample_congr (hcfg : t.cfg = s.cfg) (hbad : t.sys.factoryBad = s.sys.factoryBad) (htemp : t.fir.temp = s.fir.temp) (k : Nat) (raw : List Int) :
    calSample t k raw = calSample s k raw := by
  simp only [calSample, calAxis, calEff_congr hcfg hbad htemp]

end

end Sys2Proof.Machine
end

section
/-! Faults of the inertial sensor (R137): the first is raised and noted, later ones do nothing. -/

namespace Sys2Proof.Machine

section
variable {d : Nat} {s t u : State}

theorem imuFail_of_fault (h : s.fir.imuFault ≠ 0) : imuFail d s = s := if_pos (bne_iff_ne.mpr h)

theorem imuFail_of_none (h : s.fir.imuFault = 0) :
    imuFail d s = selfDiag 8 (raise 6 d (s.onFir fun f => { f with imuFault := d })) := if_neg (by simp [h])

theorem imuFail_first_fir (h : s.fir.imuFault = 0) : (imuFail d s).fir = { s.fir with imuFault := d } := by
  rw [imuFail_of_none h, selfDiag_fir, raise_fir]
  rfl

theorem imuFail_first_seen (h : s.fir.imuFault = 0) : 8 ∈ (imuFail d s).sys.diagSeen := by
  rw [imuFail_of_none h]
  exact selfDiag_mem 8 _

/-- The sources that a fault raises: IMU_FAULT, self-diagnosis, the overflow of the recorder. -/
def imuEvents : List (Fin 128) := [6, 112, 120]

/-- Of the engine only the fault may have changed; what the calibration and the filters read, and every event but those of a fault, are as before. -/
structure FaultOnly (s t : State) : Prop where
  fir : t.fir = { s.fir with imuFault := t.fir.imuFault }
  ready : t.hp = s.hp
  cfg : t.cfg = s.cfg
  factoryBad : t.sys.factoryBad = s.sys.factoryBad
  events : EventsBut imuEvents s t

theorem FaultOnly.refl (s : State) : FaultOnly s s := ⟨rfl, rfl, rfl, rfl, .refl _ s⟩

theorem FaultOnly.ite {P : Prop} [Decidable P] (h : FaultOnly s t) (h' : FaultOnly s u) : FaultOnly s (if P then t else u) := by
  split
  · exact h
  · exact h'

theorem FaultOnly.slots (h : FaultOnly s t) : t.fir.slots = s.fir.slots := (congrArg FirState.slots h.fir :)
theorem FaultOnly.temp (h : FaultOnly s t) : t.fir.temp = s.fir.temp := (congrArg FirState.temp h.fir :)
theorem FaultOnly.imuReady (h : FaultOnly s t) : t.fir.imuReady = s.fir.imuReady := (congrArg FirState.imuReady h.fir :)

end

theorem imuFail_faultOnly (d : Nat) (s : State) : FaultOnly s (imuFail d s) := by
  by_cases h : s.fir.imuFault = 0
  · refine ⟨?_, imuFail_same d s .hp (by decide), imuFail_same d s .cfg (by decide), (imuFail_carried d s).field SysState.factoryBad fun _ => rfl, ?_⟩
    · rw [imuFail_first_fir h]
    · have hraise : EventsBut imuEvents s (raise 6 d (s.onFir fun f => { f with imuFault := d })) :=
        .mono (raise_eventsBut (s := s) d rfl) (by decide)
      rw [imuFail_of_none h]
      exact hraise.trans ((selfDiag_events 8 _).mono (by decide))
  · rw [imuFail_of_fault h]
    exact .refl s

end Sys2Proof.Machine
end

section
/-! The sample instant (R135 to R149): the temperature check, the delivery of the sample into the delay line, its flags, the runs of failures, and stage 1 at every eighth. -/

namespace Sys2Proof.Machine

/-- MT stands at the instant n of slot k, and the temperature is read. -/
def sampleArrived (k : Fin 22) (x : SampleIn) (n : Nat) (s : State) : State :=
  (advanceTo n s).onFir fun f => { f with temp := x.temp.getD f.temp, slots := upd f.slots k fun y => { y with at_ := some n } }

/-- The temperature read is held against its range. -/
def tempChecked (s : State) : State := if s.fir.temp < -4500 || 11000 < s.fir.temp then imuFail 5 s else s

/-- The sample that enters the delay line: the one before in place of a missing or failed one (R138), else the calibrated and clipped one (R135, R136, R139). -/
def sampleTaken (k : Fin 22) (x : SampleIn) (s : State) : Smp :=
  let before := (s.fir.slots[k]).d1.headD {}
  let lim := rangeLimit k.val
  let c := calSample s k.val x.raw
  if x.missing || x.parity then { v := before.v, range := before.range, missing := true }
  else { v := clampI (-lim) lim c, range := decide (c < -lim) || decide (lim < c) }

/-- A slot after a sample has entered its delay line, with its failures counted. -/
def withSample (k : Fin 22) (x : SampleIn) (smp : Smp) (s : State) (y : FirSlot) : FirSlot :=
  { y with
    d1 := (smp :: y.d1).take 511
    fresh1 := min 511 (y.fresh1 + 1)
    raw := if rawToLoops s k.val then smp else y.raw
    missRun := if x.missing then y.missRun + 1 else 0
    parRun := if x.parity then y.parRun + 1 else 0
    nMissing := if x.missing || x.parity then inc32 y.nMissing else y.nMissing }

/-- The sample has entered. -/
def sampleEntered (k : Fin 22) (x : SampleIn) (s : State) : State := onFirSlot k (withSample k x (sampleTaken k x s) s) s

/-- A sample with RANGE is an occurrence. -/
def rangeNoted (k : Fin 22) (smp : Smp) (s : State) : State := if smp.range then firOccur k 1 s else s

/-- Three failures in a row of an inertial slot are a fault (Table 6-2). -/
def runsChecked (k : Fin 22) (s : State) : State :=
  if k.val < 6 && 3 ≤ (s.fir.slots[k]).parRun then imuFail 3 s
  else if k.val < 6 && 3 ≤ (s.fir.slots[k]).missRun then imuFail 4 s else s

/-- Stage 1 runs at every eighth sample, and the last inertial slot hands the six outputs on. -/
def sampleFiltered (k : Fin 22) (i : Nat) (s : State) : State :=
  if i % 8 = 0 then (if k = 5 then mechanised (stage1 k (i / 8) s) else stage1 k (i / 8) s) else s

/-- The number of the sample at the instant n of slot k (R140). -/
def sampleIndex (k : Fin 22) (n : Nat) : Nat := (n - 250 * k.val) / 12500

/-- A delivered sample up to the flags, and whole. -/
def sampleNoted (k : Fin 22) (x : SampleIn) (s : State) : State := rangeNoted k (sampleTaken k x s) (sampleEntered k x s)
def sampleServed (k : Fin 22) (x : SampleIn) (n : Nat) (s : State) : State := sampleFiltered k (sampleIndex k n) (runsChecked k (sampleNoted k x s))

theorem exec_sampleInstant (k : Fin 22) (x : SampleIn) (s : State) :
    exec (.sampleInstant k x) s = .next (
      if s.sys.dom[1] != .on || !sourceOn s k.val || !s.sys.vmain then s
      else
        let n := sampleAt k.val (s.fir.slots[k]).at_ s.time.mt
        let w := tempChecked (sampleArrived k x n s)
        if k.val < 6 && decide (n < w.fir.imuReady) then w else sampleServed k x n w) := rfl

theorem exec_imuFault (r : Nat) (s : State) : exec (.imuFault r) s = .next (imuFail r s) := rfl

section
variable {k : Fin 22} {x : SampleIn} {n : Nat} {s : State}

/-! The temperature. -/

theorem tempChecked_inRange (hlo : -4500 ≤ s.fir.temp) (hhi : s.fir.temp ≤ 11000) : tempChecked s = s := by
  refine if_neg ?_
  simp only [Bool.or_eq_true, decide_eq_true_eq]
  omega

theorem tempChecked_outOfRange (h : s.fir.temp < -4500 ∨ 11000 < s.fir.temp) : tempChecked s = imuFail 5 s :=
  if_pos (by simpa using h)

theorem tempChecked_faultOnly (s : State) : FaultOnly s (tempChecked s) := .ite (imuFail_faultOnly 5 s) (.refl s)

/-- Of the engine's inputs, only the temperature and the slot's last instant have changed. -/
theorem tempChecked_arrived_slots : (tempChecked (sampleArrived k x n s)).fir.slots = upd s.fir.slots k fun y => { y with at_ := some n } :=
  (tempChecked_faultOnly _).slots

theorem arrived_slot : (tempChecked (sampleArrived k x n s)).fir.slots[k] = { s.fir.slots[k] with at_ := some n } := by
  rw [tempChecked_arrived_slots, upd_self]

theorem arrived_other {j : Fin 22} (h : j ≠ k) : (tempChecked (sampleArrived k x n s)).fir.slots[j] = s.fir.slots[j] := by
  rw [tempChecked_arrived_slots, upd_other _ _ _ _ h]

theorem arrived_imuReady : (tempChecked (sampleArrived k x n s)).fir.imuReady = s.fir.imuReady := (tempChecked_faultOnly _).imuReady

theorem arrived_cfg : (tempChecked (sampleArrived k x n s)).cfg = s.cfg := (tempChecked_faultOnly _).cfg

theorem arrived_hp : (tempChecked (sampleArrived k x n s)).hp = s.hp := (tempChecked_faultOnly _).ready

theorem arrived_events : EventsBut imuEvents s (tempChecked (sampleArrived k x n s)) :=
  .trans (t := sampleArrived k x n s) (fun _ _ => rfl) (tempChecked_faultOnly _).events

/-- The calibration acts at the temperature just read. -/
theorem arrived_calSample (raw : List Int) : calSample (tempChecked (sampleArrived k x n s)) k.val raw =
    calSample (s.onFir fun f => { f with temp := x.temp.getD f.temp }) k.val raw :=
  have hchecked := tempChecked_faultOnly (sampleArrived k x n s)
  calSample_congr (s := s.onFir fun f => { f with temp := x.temp.getD f.temp }) hchecked.cfg hchecked.factoryBad hchecked.temp k.val raw

/-! The steps of the command. -/

theorem steps_sampleInstant_off (x : SampleIn) (h : s.sys.dom[1] ≠ .on ∨ sourceOn s k.val = false ∨ s.sys.vmain = false) : Steps (.sampleInstant k x) s s := by
  rw [Steps, exec_sampleInstant, if_pos (by simpa [or_assoc] using h)]

section
variable (x) (hdom : s.sys.dom[1] = .on) (hsource : sourceOn s k.val = true) (hv : s.sys.vmain = true)
  (hn : n = sampleAt k.val (s.fir.slots[k]).at_ s.time.mt)
include hdom hsource hv hn

theorem steps_sampleInstant_settling (hk : k.val < 6) (hsettling : n < s.fir.imuReady) :
    Steps (.sampleInstant k x) s (tempChecked (sampleArrived k x n s)) := by
  rw [Steps, exec_sampleInstant, if_neg (by simp [hdom, hsource, hv]), ← hn]
  dsimp only
  rw [if_pos (by simp [arrived_imuReady, hk, hsettling])]

theorem steps_sampleInstant (hready : k.val < 6 → s.fir.imuReady ≤ n) :
    Steps (.sampleInstant k x) s (sampleServed k x n (tempChecked (sampleArrived k x n s))) := by
  rw [Steps, exec_sampleInstant, if_neg (by simp [hdom, hsource, hv]), ← hn]
  dsimp only
  rw [if_neg (by simpa [arrived_imuReady] using hready)]

end

/-! The sample. -/

theorem sampleTaken_bad (h : x.missing = true ∨ x.parity = true) :
    sampleTaken k x s = { v := ((s.fir.slots[k]).d1.headD {}).v, range := ((s.fir.slots[k]).d1.headD {}).range, missing := true } :=
  if_pos (by simpa using h)

theorem sampleTaken_good (hm : x.missing = false) (hp : x.parity = false) :
    sampleTaken k x s = { v := clampI (-rangeLimit k.val) (rangeLimit k.val) (calSample s k.val x.raw)
                          range := decide (calSample s k.val x.raw < -rangeLimit k.val) || decide (rangeLimit k.val < calSample s k.val x.raw) } :=
  if_neg (by simp [hm, hp])

/-! What follows its entry. -/

theorem sampleNoted_kept (k : Fin 22) (x : SampleIn) (s : State) : LineKept k (sampleEntered k x s) (sampleNoted k x s) :=
  .ite (firOccur_kept k 1 _) (.refl k _)

theorem runsChecked_faultOnly (k : Fin 22) (s : State) : FaultOnly s (runsChecked k s) :=
  .ite (imuFail_faultOnly 3 s) (.ite (imuFail_faultOnly 4 s) (.refl s))

/-- A fault raised before stays the one. -/
theorem runsChecked_of_fault (h : s.fir.imuFault ≠ 0) : runsChecked k s = s := by
  unfold runsChecked
  rw [imuFail_of_fault h, imuFail_of_fault h, ite_self, ite_self]

theorem runsChecked_parity (hk : k.val < 6) (h : 3 ≤ (s.fir.slots[k]).parRun) : runsChecked k s = imuFail 3 s :=
  if_pos (Bool.and_eq_true_iff.mpr ⟨decide_eq_true hk, decide_eq_true h⟩)

theorem sampleFiltered_kept (k : Fin 22) (i : Nat) (s : State) : LineKept k s (sampleFiltered k i s) := by
  have hstage : LineKept k s (stage1 k (i / 8) s) := stage1_kept k _ s
  exact .ite (.ite (hstage.trans (.of_same (mechanised_same _) (by decide) (by decide))) hstage) (.refl k s)

theorem sampleFiltered_sys (k : Fin 22) (i : Nat) (s : State) : (sampleFiltered k i s).sys = s.sys := by
  have hstage : (stage1 k (i / 8) s).sys = s.sys := stage1_same k _ s .sys (by decide)
  unfold sampleFiltered
  split
  · split
    · exact (mechanised_same _ .sys (by decide)).trans hstage
    · exact hstage
  · rfl

theorem sampleFiltered_eighth {i : Nat} (h : i % 8 = 0) (k : Fin 22) (s : State) :
    ((sampleFiltered k i s).fir.slots[k]).out1 = stage1Sum k (i / 8) s := by
  unfold sampleFiltered
  rw [if_pos h]
  split
  · have hfir : (mechanised (stage1 k (i / 8) s)).fir = (stage1 k (i / 8) s).fir := mechanised_same _ .fir (by decide)
    exact (congrArg (fun f : FirState => (f.slots[k]).out1) hfir).trans (stage1_out1 k _ s)
  · exact stage1_out1 k _ s

theorem sampleFiltered_between {i : Nat} (h : i % 8 ≠ 0) (k : Fin 22) (s : State) : sampleFiltered k i s = s := if_neg h

/-! The whole of a delivered sample. -/

theorem sampleEntered_slot (k : Fin 22) (x : SampleIn) (s : State) :
    (sampleEntered k x s).fir.slots[k] = withSample k x (sampleTaken k x s) s s.fir.slots[k] :=
  onFirSlot_self k _ s

/-- What the flags, the faults and the filters leave of the slot. -/
theorem sampleServed_line (k : Fin 22) (x : SampleIn) (n : Nat) (s : State) :
    firLine (sampleServed k x n s).fir.slots[k] = firLine (withSample k x (sampleTaken k x s) s s.fir.slots[k]) := by
  refine (sampleFiltered_kept k _ _).slot.trans ?_
  rw [(runsChecked_faultOnly k _).slots, (sampleNoted_kept k x s).slot, sampleEntered_slot]

theorem sampleServed_other {j : Fin 22} (h : j ≠ k) : (sampleServed k x n s).fir.slots[j] = s.fir.slots[j] := by
  refine ((sampleFiltered_kept k _ _).others j h).trans ?_
  rw [(runsChecked_faultOnly k _).slots, (sampleNoted_kept k x s).others j h]
  exact onFirSlot_other h _ s

theorem sampleServed_instant : ((sampleServed k x n s).fir.slots[k]).at_ = (s.fir.slots[k]).at_ :=
  (congrArg FirSlot.at_ (sampleServed_line k x n s) :)

theorem sampleServed_delayLine : ((sampleServed k x n s).fir.slots[k]).d1 = (sampleTaken k x s :: (s.fir.slots[k]).d1).take 511 :=
  (congrArg FirSlot.d1 (sampleServed_line k x n s) :)

theorem sampleServed_nMissing : ((sampleServed k x n s).fir.slots[k]).nMissing =
    if x.missing || x.parity then inc32 (s.fir.slots[k]).nMissing else (s.fir.slots[k]).nMissing :=
  (congrArg FirSlot.nMissing (sampleServed_line k x n s) :)

theorem sampleServed_missRun : ((sampleServed k x n s).fir.slots[k]).missRun = if x.missing then (s.fir.slots[k]).missRun + 1 else 0 :=
  (congrArg FirSlot.missRun (sampleServed_line k x n s) :)

theorem sampleServed_parRun : ((sampleServed k x n s).fir.slots[k]).parRun = if x.parity then (s.fir.slots[k]).parRun + 1 else 0 :=
  (congrArg FirSlot.parRun (sampleServed_line k x n s) :)

/-- Between the eighths stage 1 gives no output. -/
theorem sampleServed_out1_between (h : sampleIndex k n % 8 ≠ 0) : ((sampleServed k x n s).fir.slots[k]).out1 = (s.fir.slots[k]).out1 := by
  have hentered : ((sampleEntered k x s).fir.slots[k]).out1 = (s.fir.slots[k]).out1 := by rw [sampleEntered_slot]; rfl
  rw [sampleServed, sampleFiltered_between h, (runsChecked_faultOnly k _).slots, sampleNoted, rangeNoted]
  split
  · rw [firOccur_out1, hentered]
  · exact hentered

theorem sampleNoted_hp (k : Fin 22) (x : SampleIn) (s : State) : (sampleNoted k x s).hp = s.hp := by
  rw [sampleNoted, rangeNoted]
  split
  · exact firOccur_same k 1 _ .hp (by decide)
  · rfl

theorem sampleNoted_cfg (k : Fin 22) (x : SampleIn) (s : State) : (sampleNoted k x s).cfg = s.cfg := by
  rw [sampleNoted, rangeNoted]
  split
  · exact firOccur_same k 1 _ .cfg (by decide)
  · rfl

/-- At every eighth sample stage 1 gives the sum of its taps over the delay line (R142). -/
theorem sampleServed_out1_eighth (h : sampleIndex k n % 8 = 0) : ((sampleServed k x n s).fir.slots[k]).out1.v =
    sat32 (rne ((((firTaps s (firSet1 s k.val)).zip ((sampleServed k x n s).fir.slots[k]).d1).map fun p => p.1 * p.2.v).sum) (2 ^ 30)) := by
  have hcfg : (runsChecked k (sampleNoted k x s)).cfg = s.cfg := (runsChecked_faultOnly k _).cfg.trans (sampleNoted_cfg k x s)
  have hline : ((sampleServed k x n s).fir.slots[k]).d1 = ((runsChecked k (sampleNoted k x s)).fir.slots[k]).d1 := (sampleFiltered_kept k _ _).delayLine
  rw [hline, sampleServed, sampleFiltered_eighth h, stage1Sum_v, firTaps_congr hcfg, firSet1_congr hcfg]

/-! RANGE of a good sample (R144). -/

/-- A sample with RANGE is counted. -/
theorem sampleServed_nRange (hrange : (sampleTaken k x s).range = true) (h : sampleIndex k n % 8 ≠ 0) :
    ((sampleServed k x n s).fir.slots[k]).nRange = inc32 (s.fir.slots[k]).nRange := by
  rw [sampleServed, sampleFiltered_between h, (runsChecked_faultOnly k _).slots, sampleNoted, rangeNoted, if_pos hrange, firOccur_nRange, sampleEntered_slot]
  rfl

/-- The first one of a slot that raises events is raised. -/
theorem sampleServed_rangeOccurred (hrange : (sampleTaken k x s).range = true) (h : sampleIndex k n % 8 ≠ 0) (hr : s.hp.ready = true)
    (hevent : rangeEvent s k.val = true) (hfirst : (s.fir.slots[k]).lastRange = none) : Occurred 7 (k.val * 256 + 1) s (sampleServed k x n s) := by
  have hlast : ((sampleEntered k x s).fir.slots[k]).lastRange = none := by rw [sampleEntered_slot]; exact hfirst
  have hoccur : Occurred 7 (k.val * 256 + 1) s (sampleNoted k x s) := by
    rw [sampleNoted, rangeNoted, if_pos hrange]
    exact firOccur_occurred (s := sampleEntered k x s) hr hevent hlast
  rw [sampleServed, sampleFiltered_between h]
  exact hoccur.of_events (runsChecked_faultOnly k _).events (by decide)

/-! Faults of the sensor at a delivered sample. -/

/-- The third word in a row with a parity failure is fault 3. -/
theorem sampleServed_parityFault (hk : k.val < 6) (hp : x.parity = true) (hruns : 2 ≤ (s.fir.slots[k]).parRun) (h0 : s.fir.imuFault = 0) :
    (sampleServed k x n s).fir.imuFault = 3 ∧ (s.hp.ready = true → Occurred 6 3 s (sampleServed k x n s)) ∧ 8 ∈ (sampleServed k x n s).sys.diagSeen := by
  have hnoted := sampleNoted_kept k x s
  have hfault : (sampleNoted k x s).fir.imuFault = 0 := hnoted.fault.trans h0
  have hthree : 3 ≤ ((sampleNoted k x s).fir.slots[k]).parRun := by
    rw [hnoted.parRun, sampleEntered_slot, withSample, if_pos hp]
    exact Nat.succ_le_succ hruns
  have hfail : runsChecked k (sampleNoted k x s) = imuFail 3 (sampleNoted k x s) := runsChecked_parity hk hthree
  have hfiltered := sampleFiltered_kept k (sampleIndex k n) (imuFail 3 (sampleNoted k x s))
  rw [sampleServed, hfail]
  refine ⟨?_, fun hr => ?_, ?_⟩
  · rw [hfiltered.fault, imuFail_first_fir hfault]
  · have hready : (sampleNoted k x s).hp.ready = true := by rw [sampleNoted_hp, hr]
    have hoccur := (imuFail_outcome 3 hready hfault).2.2
    exact (hoccur.after_events (s := s) hnoted.events (by decide)).of_events hfiltered.events (by decide)
  · rw [sampleFiltered_sys]
    exact imuFail_first_seen hfault

/-- A fault raised before stays the one, and is not raised again. -/
theorem sampleServed_of_fault (h : s.fir.imuFault ≠ 0) :
    (sampleServed k x n s).fir.imuFault = s.fir.imuFault ∧ EventsBut rangeEvents s (sampleServed k x n s) := by
  have hnoted := sampleNoted_kept k x s
  have hfault : (sampleNoted k x s).fir.imuFault = s.fir.imuFault := hnoted.fault
  have hfiltered := sampleFiltered_kept k (sampleIndex k n) (sampleNoted k x s)
  rw [sampleServed, runsChecked_of_fault (hfault.trans_ne h)]
  exact ⟨hfiltered.fault.trans hfault, .trans (t := sampleNoted k x s) hnoted.events hfiltered.events⟩

end

end Sys2Proof.Machine

open Sys2Proof Sys2Proof.Machine

/-- Settles O42: the sample instant by its stages, each sample by what it brings; an IMU fault by whether one was raised before. -/
theorem samplesAreFilteredAndImuFaultsReported : Obligations.SamplesAreFilteredAndImuFaultsReported := by
  unfold Obligations.SamplesAreFilteredAndImuFaultsReported
  refine ⟨?delivered, ?clipped, ?missing, ?parity, ?settling, ?temperature, ?off, ?firstFault, ?laterFault⟩
  case delivered =>
    intro k x n c s hdom hsource hv hn hready hm hp hc
    subst hc
    refine ⟨_, steps_sampleInstant x hdom hsource hv hn hready, ?_, ?_, ?_, ?_, ?_, fun j hj => ?_, fun h => ?_, fun h => ?_⟩
    · rw [sampleServed_instant, arrived_slot]
    · rw [sampleServed_delayLine, sampleTaken_good hm hp, arrived_calSample, arrived_slot]
    · rw [sampleServed_nMissing, hm, hp, arrived_slot]
      rfl
    · rw [sampleServed_missRun, hm]
      rfl
    · rw [sampleServed_parRun, hp]
      rfl
    · rw [sampleServed_other hj, arrived_other hj]
    · rw [sampleServed_out1_eighth h, firTaps_congr arrived_cfg, firSet1_congr arrived_cfg]
    · rw [sampleServed_out1_between h, arrived_slot]
  case clipped =>
    intro k x n c s hdom hsource hv hn hready hm hp hc hover h
    subst hc
    have hrange : (sampleTaken k x (tempChecked (sampleArrived k x n s))).range = true := by
      rw [sampleTaken_good hm hp, arrived_calSample]
      simp [hover]
    refine ⟨_, steps_sampleInstant x hdom hsource hv hn hready, ?_, fun hr hevent hfirst => ?_⟩
    · rw [sampleServed_nRange hrange h, arrived_slot]
    · have hoccur := sampleServed_rangeOccurred hrange h (by rw [arrived_hp, hr]) (by rw [rangeEvent_congr arrived_cfg, hevent]) (by rw [arrived_slot, hfirst])
      exact hoccur.after_events arrived_events (by decide)
  case missing =>
    intro k x n s hdom hsource hv hn hready hbad
    refine ⟨_, steps_sampleInstant x hdom hsource hv hn hready, ?_, ?_⟩
    · rw [sampleServed_nMissing, if_pos (by simpa using hbad), arrived_slot]
    · rw [sampleServed_delayLine, sampleTaken_bad hbad, arrived_slot]
  case parity =>
    intro k x n s hdom hsource hv hn hready hk hp hruns h0 hlo hhi
    have hsound : tempChecked (sampleArrived k x n s) = sampleArrived k x n s := tempChecked_inRange hlo hhi
    have hslot := arrived_slot (k := k) (x := x) (n := n) (s := s)
    have hserved := steps_sampleInstant x hdom hsource hv hn hready
    rw [hsound] at hslot hserved
    exact ⟨_, hserved, sampleServed_parityFault (s := sampleArrived k x n s) hk hp (by rw [hslot]; exact hruns) h0⟩
  case settling =>
    intro k x n s hdom hsource hv hn hk hsettling hlo hhi
    have hsound : tempChecked (sampleArrived k x n s) = sampleArrived k x n s := tempChecked_inRange hlo hhi
    refine ⟨_, steps_sampleInstant_settling x hdom hsource hv hn hk hsettling, ?_⟩
    rw [hsound]
    rfl
  case temperature =>
    intro k x v n s hdom hsource hv hn hready htemp hout h0
    have hread : (sampleArrived k x n s).fir.temp = v := by simp [sampleArrived, htemp]
    have hfail : tempChecked (sampleArrived k x n s) = imuFail 5 (sampleArrived k x n s) := tempChecked_outOfRange (by rwa [hread])
    have hfive : (imuFail 5 (sampleArrived k x n s)).fir.imuFault = 5 := by rw [imuFail_first_fir (s := sampleArrived k x n s) h0]
    have hserved := sampleServed_of_fault (k := k) (x := x) (n := n) (s := imuFail 5 (sampleArrived k x n s)) (by rw [hfive]; decide)
    refine ⟨_, steps_sampleInstant x hdom hsource hv hn hready, ?_, fun hr => ?_⟩
    · rw [hfail, hserved.1, hfive]
    · rw [hfail]
      have hoccur : Occurred 6 5 s (imuFail 5 (sampleArrived k x n s)) := (imuFail_outcome 5 (s := sampleArrived k x n s) hr h0).2.2
      exact hoccur.of_events hserved.2 (by decide)
  case off => exact fun k x s h => steps_sampleInstant_off x h
  case firstFault =>
    intro r s h0
    exact ⟨_, exec_imuFault r s, imuFail_first_fir h0, fun hr => (imuFail_outcome r hr h0).2.2, imuFail_first_seen h0⟩
  case laterFault =>
    intro r s h
    rw [Steps, exec_imuFault, imuFail_of_fault h]
end
